-- ==== Sys2Proof/Word.lean ====
section
/-!
DEFINITION. The unit of the part's memories. Registers and fields are natural numbers bounded by their width where they are
written (Machine/Ops.lean); the engines' 32-bit words are reduced modulo 2^32 where the engine writes them.
-/

namespace Sys2Proof

/-- The smallest unit any of the part's memories is read or written by. -/
abbrev Octet := BitVec 8

end Sys2Proof
end

