-- ==== Sys2Proof/Syntax.lean ====
section
/-!
DEFINITION. The commands the part takes: one constructor per row of spec/opcode_table.json, with the operands the
spec's text gives that row, and the small types the operands use.
-/

namespace Sys2Proof

/-- Who makes a register access (R3): the Steward, an engine thread by its global number 4e + t (0 to 511), the
privileged-view PCIe path, or the PCIe path of Hedge h's view. -/
inductive Req where
  | steward
  | thread (g : Nat)
  | priv
  | hedge (h : Nat)
  deriving DecidableEq, Repr

/-- What the front end knows of the descriptor a command came in (R432, R437): the ring it was fetched from
(0 to 7 a Hedge's, 8 the privileged one), its TAG, its command-ring index (0xFFFF_FFFF for a command a program
posted), and FLAGS [0] WANT_ACCEPTED. -/
structure Cmd where
  ring : Nat
  tag : Nat
  index : Nat
  want : Bool
  deriving DecidableEq, Repr

/-- The kinds of PTP message the rules tell apart (R42, R43). -/
inductive PtpKind where
  | sync | followUp | delayReq | delayResp | pdelayReq | pdelayResp | other
  deriving DecidableEq, Repr

/-- A PTP message on an Ethernet port: the frame's octets without its frame check sequence, and how long the frame stays between the ports'
time-stamp circuits when it is forwarded (2^-16 ns, latencies not taken off); what the protocol engine concludes with it: whether the port is
in the SLAVE state, the master's time at the arrival of a message that completes an offset, and the turn-around time (t4 - t1 - t3 + t2, by
the circuits) that a message completes a peer delay with, both in 2^-16 ns. -/
structure PtpMsg where
  frame : List Nat
  resides : Nat
  slave : Bool
  master : Option Int
  turn : Option Int
  deriving DecidableEq, Repr


/-- The 24-octet parameter block of NODE_INSERT and TINS (R414), read: EUI64, SHORT_ADDR, STATE, PINNED, FLAGS, the
drift class if one is named, METER_ID and METER_EN, SEC_LEVEL, KEY_GEN as the block names it, and whether a reserved
field is non-zero. -/
structure NodeBlock where
  eui : Nat
  short : Nat
  state : Nat
  pinned : Bool
  flags : Nat
  drift : Option Nat
  meter : Nat
  meterEn : Bool
  secLevel : Nat
  keyGen : Nat
  reserved : Bool
  deriving DecidableEq, Repr


/-- What a branch of a lane receives of an OFDM frame after its transform (R122, R124, R136): the used subcarriers of LTS1, of LTS2 and of
every symbol after them so far, in ascending k, as complex numbers in units of the receiver's own. -/
structure RxBranch where
  lts1 : List (Int × Int)
  lts2 : List (Int × Int)
  syms : List (List (Int × Int))
  deriving DecidableEq, Repr

/-- What a lane hands on with a codeword (R139): per branch, the symbols received since the lane's last submission or the header. -/
structure CwIn where
  lane : Nat
  rx : List (List (List (Int × Int)))
  deriving DecidableEq, Repr

/-- A frame header as the lane's header decoder hands it on (R119 to R121, R125): SUN-FSK with its mode code, the Mode
Switch bit, the FEC the SFD signals, whether the FCS has 2 octets, and the length; SUN-OFDM with its option, MCS and length and whether its check
passed; O-QPSK with the length; XL-OFDM with the 32 header bits, bit 0 first sent, and what each branch has received up to the header's last symbol. -/
inductive Header where
  | fsk (mode : Nat) (modeSwitch fec fcs2 : Bool) (len : Nat)
  | ofdm (mcs len : Nat) (good : Bool)
  | oqpsk (len : Nat)
  | xl (w : Nat) (air : List RxBranch)
  deriving DecidableEq, Repr

/-- What the lane measures over a frame and knows at its end (R133, R146, R147): the PSDU its own decoder leaves (not used
for XL-OFDM), the mean power of each branch over the preamble at its ball (1/16 dBm), SNR (1/4 dB), the carrier offset as measured
(1/16 Hz) and the airtime (µs, not used for XL-OFDM). -/
structure LaneMeasure where
  psdu : List Nat
  rssiA : Int
  rssiB : Int
  snr : Int
  freq : Int
  us : Nat
  deriving DecidableEq, Repr

/-- A Twin snapshot (R462): its header, whether it is the first to its partner, the entries it carries whole (index and 512 octets), the
buckets of the generation ledger (store instance and generation), the items per Hedge as the store's cells, the targets that lack a campaign
block (Hedge, entry, block), the gone lists of sweeps, the duty and dwell ledgers (sub-band, cell, slot, µs) and the command ledger (Hedge,
TAG, OPCODE, CMD_INDEX). -/
structure TwinSnap where
  schema : Nat
  seq : Nat
  at_ : Nat
  epoch : Nat
  full : Bool
  entries : List (Nat × List Nat)
  ledger : List (Nat × Nat)
  cells : List ((Nat × Nat) × Nat)
  missing : List (Nat × Nat × Nat)
  gone : List (Nat × List Nat)
  duty : List (Nat × Nat × Nat × Nat)
  cmds : List (Nat × Nat × Nat × Nat)
  deriving DecidableEq, Repr

/-- A message on the Twin link: HELLO with SYS.EUI64, CFG.PREFER, the role and the schema (R458), a heartbeat (R459), a demotion with its
cause (R463), a counter record (Hedge, entry, counter; R465), or a snapshot. -/
inductive TwinMsg where
  | hello (eui prefer role schema : Nat)
  | heartbeat
  | demote (cause : Nat)
  | record (h e counter : Nat)
  | snap (x : TwinSnap)
  deriving DecidableEq, Repr

/-- What a power-on or system reset, or the start of a recovery image, meets outside the part's state (R484): BOOT_SEL; the OTP words that
read marginal (R506); whether the root copies read back as drawn (R335); the DRAM channels that train, a bit each; width, speed and
inverted lanes of the PCIe ports; the words (offset, value) of the regulatory profile in the image for the part's region, whose layout in
the image the spec does not give; the Mesh Runtime's threads with their entry points; and the µs from release to READY. -/
structure BootIn where
  sel : Nat
  marginal : List Nat
  rootOk : Bool
  trained : Nat
  links : List (Nat × Nat × Nat)
  profile : List (Nat × Nat)
  threads : List (Nat × Nat)
  us : Nat
  deriving DecidableEq, Repr

/-- Where a read meets an ECC error (R500, R503, R536): Steward memory; a memory of an engine, read by thread g at an address of its data
or instruction space; chip SRAM by its offset; DRAM by the address of the first of a number of 32-octet blocks. -/
inductive EccAt where
  | steward
  | engine (g ea : Nat)
  | sram (off : Nat)
  | dram (a blocks : Nat)
  deriving DecidableEq, Repr

/-- The kinds of core of the security engine (R536). -/
inductive CoreKind where
  | aes | sha | ecc
  deriving DecidableEq, Repr

/-- The commands of the part: one constructor a row of spec/opcode_table.json. -/
inductive Instr where
  /-- REG_WRITE: A write to a register field that has no row of its own acts according to the field's access code (R4). `len` octets are written at an offset of the requester's view. -/
  | regWrite (r : Req) (off len v : Nat)
  /-- REG64_LOW_READ: A read of the low word of a 64-bit register latches the high word into that requester's shadow (R3). -/
  | reg64LowRead (r : Req) (off : Nat)
  /-- RC_FIELD_READ: A read of an RC field returns its value and then clears it; a hardware set in the same cycle survives (R5). -/
  | rcFieldRead (r : Req) (off : Nat)
  /-- EXPERT_G_WRITE: A privileged write to SYS.EXPERT_G.OWN requests a change of global Expert ownership (R580). -/
  | expertGWrite (r : Req) (v : Nat)
  /-- EXPERT_H_WRITE: A write to SYS.EXPERT_H[h].OWN requests a change of Expert ownership of the Hedge's blocks (R580). -/
  | expertHWrite (r : Req) (h v : Nat)
  /-- EXPERT_TAKE_EFFECT: Once the Mesh Runtime has finished its update in progress, a set EXPERT bit takes effect and its ACK bit reads 1 (R12). `i` is the Hedge of the register, 8 the global one. -/
  | expertTakeEffect (i : Nat)
  /-- EXPERT_RELOAD: After an EXPERT bit is cleared, the Mesh Runtime reloads the block from its configuration record within 20 µs (R12). As EXPERT_TAKE_EFFECT. -/
  | expertReload (i : Nat)
  /-- NSC_CYCLE: In each 750 MHz cycle the nanosecond clock advances by NSC_INC plus any slew adjustment (R15). -/
  | nscCycle
  /-- SLEW_COUNT_EXPIRE: The slew count reaches zero and the slew adjustment stops applying (R21). -/
  | slewCountExpire
  /-- NSC_INC_WRITE: A write to NSC_INC is accepted only with the servo off and within ±1,000 ppm; otherwise INC_REFUSED is set (R16). v is the low word written; the high word is the one the requester wrote last (R3). -/
  | nscIncWrite (r : Req) (v : Nat)
  /-- NSC_NOW_NS_READ: A read of NSC_NOW_NS latches the seconds and fraction of the same cycle into shadows (R17). -/
  | nscNowNsRead (r : Req)
  /-- NSC_SET: NSC_CTL.SET turns the set into a step of the difference and applies the step rules (R18). -/
  | nscSet (r : Req)
  /-- NSC_STEP: NSC_CTL.STEP applies a signed offset as a slew, a refusal or a single-cycle step (R18). -/
  | nscStep (r : Req)
  /-- NSC_SLEW_CNT_WRITE: A write of NSC_SLEW_CNT starts, replaces or ends a slew, using the staged NSC_SLEW_ADJ (R21). -/
  | nscSlewCntWrite (r : Req) (v : Nat)
  /-- PPS_EDGE: An active edge arrives on PPS_IN and is used for presence, polarity checking and a servo sample (R22). levelUs is how long the pulse level of the pulse before it lasted, in microseconds. -/
  | ppsEdge (levelUs : Nat)
  /-- PPS_LOSS_TIMEOUT: No PPS edge within 1.5 s declares PPS_IN lost and sets PPS_LOST (R25). -/
  | ppsLossTimeout
  /-- PTP_MSG_RX: A PTP message is received and time-stamped on an Ethernet port (R42). The message m arrives on Ethernet port p. -/
  | ptpMsgRx (p : Nat) (m : PtpMsg)
  /-- PTP_SYNC_TIMEOUT: No Sync within three Sync intervals declares the PTP port lost (R25). -/
  | ptpSyncTimeout (p : Nat)
  /-- PT_CMP_LOW_WRITE: Writing the low word of PT[n].CMP with EN set arms or re-arms the trigger after checking action, target and lead (R34). -/
  | ptCmpLowWrite (r : Req) (n v : Nat)
  /-- PT_CTL_WRITE: A write of PT[n].CTL sets the action and target, and clearing EN disarms the trigger (R34). -/
  | ptCtlWrite (r : Req) (n v : Nat)
  /-- PT_READINESS_CHECK: At compare − 12 µs a TX_START trigger checks that its chain is READY with the grant present, or sets NOT_READY (R36). gnt is the level at the ball COEX_GNT. -/
  | ptReadinessCheck (n : Nat) (gnt : Bool)
  /-- PT_FIRE: An armed trigger fires in the first cycle at or past its compare value and performs its action (R36). One cycle: every trigger that is due. -/
  | ptFire
  /-- PT_ALLOC: The command gives the lowest-numbered free trigger to the Hedge (R40). -/
  | ptAlloc (c : Cmd)
  /-- PT_FREE: The command disarms the trigger, clears its status and returns it to free (R40). -/
  | ptFree (c : Cmd) (n : Nat)
  /-- CU_EDGE: A selected edge on a capture source is stamped into the unit's FIFO, or dropped with OVERFLOW (R41). An edge of a capture source, rising or falling. -/
  | cuEdge (source : Nat) (rising : Bool)
  /-- CU_POP: A write to CU[n].POP removes the head capture entry (R41). -/
  | cuPop (r : Req) (n : Nat) (v : Nat)
  /-- BEACON_INTERVAL: At each beacon interval the Mesh Runtime floods a mesh time beacon for the Hedge, if the discipline state permits (R46). -/
  | beaconInterval (h : Nat)
  /-- INCARNATION_WALK_END: The incarnation-wrap walk ends, the index returns to use and any waiting insertion proceeds (R60). -/
  | incarnationWalkEnd (e : Nat)
  /-- JOIN_TIMEOUT: A JOINING entry with no completed join within JOIN_TIMEOUT becomes FREE (R65). The join timeout of entry e falls due. -/
  | joinTimeout (e : Nat)
  /-- AGING_VISIT: The aging scanner tests an entry's LAST_HIT and moves it to LOST or FREE by compare-and-remove (R74). The scanner reaches entry e. -/
  | agingVisit (e : Nat)
  /-- AGING_PASS_END: At the end of an aging pass the candidate lists are refilled with the oldest unpinned entries (R71). -/
  | agingPassEnd
  /-- REVAL_DONE: Revalidation of the whole table finishes and sets REVAL_DONE (R79). -/
  | revalDone
  /-- ENTRY_HOLD_END: The last hold on an entry ends, and a deferred deletion frees the entry (R385). -/
  | entryHoldEnd (e : Nat)
  /-- NODE_INSERT: The command creates a Thicket entry and returns its index, or reports that it already exists (R81). -/
  | nodeInsert (c : Cmd) (b : NodeBlock)
  /-- NODE_DELETE: The command frees an entry of the Hedge (R81). -/
  | nodeDelete (c : Cmd) (e : Nat)
  /-- NODE_READ: The command returns the entry's bytes, and optionally the private areas (R81). -/
  | nodeRead (c : Cmd) (e : Nat) (priv : Bool) (addr : Nat)
  /-- NODE_UPDATE: The command writes the host-writable fields, clears counters or moves the entry to LOST (R82). -/
  | nodeUpdate (c : Cmd) (e mask short flags drift ap power meter addr : Nat)
  /-- NODE_PIN: The command sets PINNED, subject to PIN_MAX (R72). -/
  | nodePin (c : Cmd) (e : Nat)
  /-- NODE_UNPIN: The command clears PINNED (R72). -/
  | nodeUnpin (c : Cmd) (e : Nat)
  /-- NODE_TOUCH: The command records a hit on the entry (R81). -/
  | nodeTouch (c : Cmd) (e : Nat)
  /-- NODE_LIST: The command returns up to 1,024 indexes of entries in one state in ascending order (R81). -/
  | nodeList (c : Cmd) (st start addr : Nat)
  /-- THK_QUOTA_WRITE: A write of THK_HEDGE[h].QUOTA is ignored, setting QUOTA_REFUSED, if it would raise the sum above 262,144 (R86). -/
  | thkQuotaWrite (r : Req) (h v : Nat)
  /-- AGC_WINDOW_END: At the end of each 250 ns window the AGC judges the peak and may step the gain down (R91). The window's peak, in 1/16 dBFS, and whether it held a clipped sample. -/
  | agcWindowEnd (p : Nat) (peak : Int) (clipped : Bool)
  /-- AGC_UP_HOLD_EXPIRE: UP_HOLD of quiet windows passes and the gain steps up by one index (R91). -/
  | agcUpHoldExpire (p : Nat)
  /-- AGC_THR_WRITE: A write of AGC_THR with less than 9 dB of hysteresis is ignored and sets BAD_CFG (R91). -/
  | agcThrWrite (r : Req) (p v : Nat)
  /-- APRX_CTL_WRITE: A write of APRX[p].CTL enables the port, switches AGC or manual gain, or stages a manual gain index (R94). -/
  | aprxCtlWrite (r : Req) (p v : Nat)
  /-- SLICE_FC_WRITE: A write of SLICE[s].FC is refused if out of range or if an enabled DDC selects the slice (R95). -/
  | sliceFcWrite (r : Req) (n v : Nat)
  /-- LO_MHZ_WRITE: A write of the AP2 or AP3 LO is accepted only while the port's slice and DDCs are disabled (R96). -/
  | loMhzWrite (r : Req) (p v : Nat)
  /-- DDC_WRITE: A write of a DDC's FREQ, SLICE or EN is accepted only when no enabled lane binds it and the frequency rules hold (R97). Offset 0 is CTL, 4 is FREQ. -/
  | ddcWrite (r : Req) (d off v : Nat)
  /-- LANE_CFG_WRITE: A lane CFG write takes effect at once, is held pending until the frame ends, or with FORCE drops the frame in flight (R100). -/
  | laneCfgWrite (r : Req) (l v : Nat)
  /-- LANE_MODES_WRITE: A write of LANE[l].MODES enables detector groups if the value is valid (R117). -/
  | laneModesWrite (r : Req) (l v : Nat)
  /-- SLICE_CTL_WRITE: Enabling a slice map sets every bin's stamps to the current period (R104). -/
  | sliceCtlWrite (r : Req) (n v : Nat)
  /-- MAP_PERIOD_END: At the end of each map period the slice writes the period's row and stamps, then HEAD (R106). The mean power of each bin at the ball, in 1/16 dBm, and whether the port had a clipped sample in the period. -/
  | mapPeriodEnd (n : Nat) (levels : List Int) (clipped : Bool)
  /-- MAP_STAMP_REFRESH: At least once per second, stamps older than 2^30 periods are rewritten (R104). -/
  | mapStampRefresh (n : Nat)
  /-- SLICE_THR_WRITE: A write of a slice's THR word; THR_A is ignored while the profile is locked (R203). -/
  | sliceThrWrite (r : Req) (n v : Nat)
  /-- SELF_BLANK_START: A transmission's blanking interval begins: bins are blanked, lanes on the port drop frames and AGCs freeze (R108). The chain that is about to transmit. -/
  | selfBlankStart (c : Nat)
  /-- SELF_BLANK_END: The blanking interval ends and measurement and AGC resume (R108). -/
  | selfBlankEnd (c : Nat)
  /-- SYNC_DECLARE: A detector's normalised metric exceeds THR, and the lane starts receiving a frame (R132). Lane, detector group and normalised metric in 1/16 dB. -/
  | syncDeclare (l g metric : Nat)
  /-- LANE_HEADER_END: A frame's header or PHR is decoded and checked, and the frame is dropped or continued (R125). What the header decoder hands on, and the nanoseconds since the reference instant passed the ball. -/
  | laneHeaderEnd (l : Nat) (h : Header) (age : Nat)
  /-- LDPC_CW_SUBMIT: A lane submits a codeword to the pool queue when its last soft value is formed (R139). -/
  | ldpcCwSubmit (x : CwIn)
  /-- LDPC_DECODE_START: A free decoder takes the oldest waiting codeword (R137). -/
  | ldpcDecodeStart (k : Nat)
  /-- LDPC_DECODE_DONE: A decoder finishes a codeword, with a zero syndrome or failed at the iteration limit (R137). The decoder, and the iterations and the word it reports: those of R137's computation. -/
  | ldpcDecodeDone (k iter word : Nat)
  /-- LANE_FRAME_END: A frame's last symbol passes, and the lane resumes its preamble search (R144). -/
  | laneFrameEnd (l : Nat) (m : LaneMeasure)
  /-- DUP_WIN_EXPIRE: The DUP_WIN wait ends, and the held frame goes on to the MAC (R148). -/
  | dupWinExpire
  /-- LDPC_CFG_WRITE: A write of LDPC CFG or QUEUE with invalid values is ignored and sets BAD_CFG (R140). Offset 0 is CFG, 4 is QUEUE. -/
  | ldpcCfgWrite (r : Req) (off v : Nat)
  /-- LDPC_DEC_EN_WRITE: Clearing a DEC_EN bit takes the decoder out of service once it finishes its codeword (R141). -/
  | ldpcDecEnWrite (r : Req) (v : Nat)
  /-- TXC_CTL_WRITE: A write of TXC[c].CTL changes the port binding, enable, auto-ready, return or host mute, under the sharing rules (R156). -/
  | txcCtlWrite (r : Req) (c v : Nat)
  /-- GO_READY: CMD.GO_READY starts tuning for the head request, or is held pending during a transition (R172). -/
  | goReady (r : Req) (c : Nat)
  /-- GO_STANDBY: CMD.GO_STANDBY returns the chain to STANDBY, or is held pending (R174). -/
  | goStandby (r : Req) (c : Nat)
  /-- CAL_FLUSH: CMD.CAL_FLUSH marks all 640 calibration entries of the chain's synthesiser stale (R162). -/
  | calFlush (r : Req) (c : Nat)
  /-- CHAIN_ENABLE_DONE: 20 µs after enable with no mute cause, the chain reaches STANDBY (R170). -/
  | chainEnableDone (c : Nat)
  /-- TX_REQUEST_HEAD: A request reaching the FIFO head is checked, its carrier computed and tuning started (R178). -/
  | txRequestHead (c : Nat)
  /-- SYNTH_TUNE_DONE: The synthesiser locks after full, stored or no calibration, and the chain is READY (R163). -/
  | synthTuneDone (c : Nat)
  /-- SYNTH_LOCK_LOST: A transmit synthesiser loses lock, ending any frame with FAULT or dropping the chain to STANDBY (R164). -/
  | synthLockLost (c : Nat)
  /-- TX_STATE_ENTER: 8 µs after the transition begins, the chain enters TX and the first sample leaves the modulator (R171). -/
  | txStateEnter (c : Nat)
  /-- POWER_LOOP_STEP: Every 4 µs in the loop interval the chain measures power and moves the driver by half the error (R180). Mean power at the connector, 0.25 dBm. -/
  | powerLoopStep (c : Nat) (measured : Int)
  /-- TX_LOOP_END: After the loop interval the chain freezes driver gain and ends the frame if power exceeds P_max by 1.5 dB (R182). -/
  | txLoopEnd (c : Nat) (measured : Int)
  /-- FWD_POWER_CHECK: Forward power more than 10 dB below target over [48, 64) µs ends the frame and sets the AERIAL mute (R567). Forward power over [48, 64) microseconds, 0.25 dBm. -/
  | fwdPowerCheck (c : Nat) (fwd : Int)
  /-- AERIAL_FAULT_DETECT: Return loss below RL_OPEN over 16 µs ends the frame and sets OPEN_SHORT and the AERIAL mute (R185). Return loss over 16 microseconds, 0.25 dB. -/
  | aerialFaultDetect (c rl : Nat)
  /-- TX_LAST_SAMPLE: The last sample passes the ball, or the frame is ended early, and TX→READY begins (R170). -/
  | txLastSample (c rl : Nat) (pwr : Int)
  /-- TX_TO_READY_DONE: TX→READY completes, the result is written and the chain stays READY or returns to STANDBY (R171). -/
  | txToReadyDone (c : Nat)
  /-- OUTPUT_READBACK_MISMATCH: An output that differs from its driven level for 2 µs is flagged and sets the READBACK mute (R186). -/
  | outputReadbackMismatch (k p : Nat)
  /-- TXC_MUTE_WRITE: A W1C write to MUTE clears causes whose condition no longer holds (R187). -/
  | txcMuteWrite (r : Req) (c v : Nat)
  /-- RUNAWAY_TIMEOUT: TX lasting 100 µs beyond the longest permitted transmission sets the RUNAWAY mute (R187). -/
  | runawayTimeout (c : Nat)
  /-- DET_CHECK: Every 500 µs of idle time the detector lines are bias-checked for open circuits (R188). -/
  | detCheck (p : Nat) (pa fwd rev : Bool)
  /-- COEX_REQ_ASSERT: At C − LEAD the part asserts COEX_REQ, and COEX_PRI where it applies (R191). -/
  | coexReqAssert (n : Nat)
  /-- COEX_GNT_FALL: COEX_GNT falling during TX with ABORT set ends the frame with LBT_FAIL and COEX_ABORT (R192). -/
  | coexGntFall
  /-- COEX_CHECK: CFG.EN rising or CMD.CHECK starts the coexistence wiring check (R193). -/
  | coexCheck (r : Req)
  /-- COEX_CHECK_STEP_END: A timed step of the coexistence check ends with SWAPPED, NO_RESPONSE or PASS (R193). -/
  | coexCheckStepEnd (x : Bool)
  /-- COEX_LEAD_WRITE: A write of COEX.LEAD outside 12 to 1,000 µs is ignored and sets BAD_CFG (R191). -/
  | coexLeadWrite (r : Req) (v : Nat)
  /-- CHPLAN_WRITE: A write that enables or changes a channel plan is checked and refused with BAD_CFG if the plan is invalid (R199). Offset of the word within the plan: 0, 4, 8, 0xC or 0x10. -/
  | chplanWrite (r : Req) (h off v : Nat)
  /-- PANMAP_WRITE: A PANMAP write with a duplicate or 0xFFFF PAN identifier is ignored and sets BAD_CFG (R200). Offset 0 is CFG, 4 is OWN_SHORT. -/
  | panmapWrite (r : Req) (i off v : Nat)
  /-- AIR_EUI64_WRITE: MAC.AIR_EUI64 is written only while every chain is disabled (R234). The low word. -/
  | airEui64Write (r : Req) (v : Nat)
  /-- PROFILE_SET_REGION: The privileged command programs the OTP region code while it is blank (R202). -/
  | profileSetRegion (c : Cmd) (region : Nat)
  /-- REGPROF_LOCK_SET: Setting REGPROF.CTL.LOCK locks the profile fields and clears the PROFILE mute cause; it is refused while FRAMEWORK is 0 (R203). -/
  | regprofLockSet (r : Req)
  /-- GATE_DECISION: At C − 13 µs the gate checks sub-band, off-time, dwell, duty, quiet intervals and listen-before-talk, and posts a verdict (R209). The armed trigger. -/
  | gateDecision (n : Nat)
  /-- QUIET_RELEASE: A quiet interval ends, or is released when no trigger uses it (R213). -/
  | quietRelease
  /-- GATE_RECORD_HANDLE: The transmit-timing engine takes a gate record and backs off, re-arms, expires or denies the request (R214). The chain whose oldest gate record is taken. -/
  | gateRecordHandle (c : Nat)
  /-- DUTY_SLOT_END: At the end of a ledger slot the slot is written to MRAM and the ledger moves on (R217). The sub-band. -/
  | dutySlotEnd (i : Nat)
  /-- MAC_RX_FRAME: The MAC checks a frame handed on by a lane through format, owner, address, security and replay, then updates state, acknowledges and delivers it (R218). The lane whose oldest frame is taken. -/
  | macRxFrame (l : Nat)
  /-- ACK_WINDOW_EXPIRE: A downlink's ack window closes without a match, leading to a retry or NO_ACK (R225). The number of the downlink. -/
  | ackWindowExpire (u : Nat)
  /-- PHASE_FIX_WALK_DONE: The step-correction walk reaches the end of the table and FIX_ACTIVE clears (R247). -/
  | phaseFixWalkDone
  /-- DOWNLINK_RELEASE: A transmit-timing engine takes a released downlink and resolves, aims, secures and queues its attempt (R248). The number of the released downlink. -/
  | downlinkRelease (u : Nat)
  /-- ATTEMPT_ARM: At C − ARM_LEAD_US the engine writes the request and TXPRE and arms the TX_START trigger (R258). The number of the planned downlink. -/
  | attemptArm (u : Nat)
  /-- TRAIN_COPY_ARM: The next copy of a frame train is armed, or the train stops on success, end of window or broken coverage (R253). The number of the downlink whose train runs. -/
  | trainCopyArm (u : Nat)
  /-- TX_RESULT_HANDLE: The transmit-timing engine takes a chain result and completes, retries or waits for an ack (R177). The chain whose oldest result is taken. -/
  | txResultHandle (c : Nat)
  /-- REFLOOD_SEND: After its random jitter, a new node-originated flood is re-secured and re-flooded (R277). The number of the flood that waits. -/
  | refloodSend (u : Nat)
  /-- GEN_BASE_WRITE: A write advancing GEN.BASE is accepted only with no entries at the old generation, or with FORCE (R283). v is the word written at +0x30. -/
  | genBaseWrite (r : Req) (h v : Nat)
  /-- CAMPAIGN_START: The command verifies the manifest, copies the hash list and starts a Deal campaign (R284). The fields of R435. -/
  | campaignStart (c : Cmd) (num bsize bcount from_ : Nat) (list : Bool) (lcount mOff iOff lOff : Nat)
  /-- CAMPAIGN_BLOCK_SEND: A campaign block is copied, hashed against its signed hash and sent, or the campaign pauses on a mismatch (R288). -/
  | campaignBlockSend (h : Nat)
  /-- CAMPAIGN_REPORT_WINDOW_END: A reporting window ends and the repair set is flooded or unicast, or activation begins (R287). -/
  | campaignReportWindowEnd (h : Nat)
  /-- CAMPAIGN_ACTIVATE_SEND: An ACTIVATE flood is sent, three times 10 s apart, then the campaign is DONE (R286). -/
  | campaignActivateSend (h : Nat)
  /-- CAMPAIGN_PAUSE: The command stops the campaign from arming further frames (R289). -/
  | campaignPause (c : Cmd) (num : Nat)
  /-- CAMPAIGN_RESUME: The command continues the campaign from where it stopped (R289). -/
  | campaignResume (c : Cmd) (num : Nat)
  /-- CAMPAIGN_ABORT: The command ends the campaign without ACTIVATE and completes the start descriptor with ABORTED (R289). -/
  | campaignAbort (c : Cmd) (num : Nat)
  /-- CAMP_STATUS_READ: A read of CAMP STATUS in DONE returns the state to IDLE and clears ABORTED (R289). -/
  | campStatusRead (r : Req) (h : Nat)
  /-- SWEEP_START: The command starts a discovery sweep and marks the entries present at the start (R290). -/
  | sweepStart (c : Cmd) (rounds roundS ttl : Nat) (silent : Bool)
  /-- SWEEP_ROUND_START: At the start of each round the part floods a discovery request (R290). -/
  | sweepRoundStart (h : Nat)
  /-- SWEEP_END: The last round ends and the sweep completes with DONE (R292). -/
  | sweepEnd (h : Nat)
  /-- SWEEP_READ: The command returns pages of sweep result records (R292). -/
  | sweepRead (c : Cmd) (first count addr : Nat)
  /-- METER_COMMIT: METER[m].CMD.COMMIT installs the meter's parameters and fills its buckets, or sets BAD_CFG (R305). v is the word written to CMD. -/
  | meterCommit (r : Req) (m v : Nat)
  /-- SHAPER_COMMIT: SHAPER[s].CMD.COMMIT, or enabling the shaper, applies its parameters, sets T by RECONF and increments EPOCH (R313). v is the word written to CMD. -/
  | shaperCommit (r : Req) (n v : Nat)
  /-- OUTPUT_REQUEST: An output with a free place requests a downlink and selects it by priority and virtual time (R308). -/
  | outputRequest (o : Nat)
  /-- QUEUE_ELIGIBLE: Mesh Phase reaches a queue's ELIG, and its lists become eligible (R301). -/
  | queueEligible (q : Nat)
  /-- EXPIRY_SWEEP: Every EXP_SCAN ms the lists are swept, and expired downlinks complete with EXPIRED (R303). -/
  | expirySweep
  /-- WATCH_SAMPLE: At each period start a watch writes a depth and delay sample to its ring (R317). -/
  | watchSample (w : Nat)
  /-- QPROBE_SEL_WRITE: A write of QPROBE SEL latches a snapshot of the queue, or sets DENIED (R327). -/
  | qprobeSelWrite (r : Req) (i v : Nat)
  /-- QPROBE_GROUP_WRITE: A write of QPROBE GROUP binds the queue to a group shaper, subject to ownership (R312). -/
  | qprobeGroupWrite (r : Req) (i v : Nat)
  /-- QUEUE_CFG: The command binds a node queue to a group shaper (R312). group is laid out as QPROBE GROUP. -/
  | queueCfg (c : Cmd) (e group : Nat)
  /-- TMH_CTL_WRITE: Setting TMH[h].CTL.EN is refused if the Hedge's plan spans both bands (R298). -/
  | tmhCtlWrite (r : Req) (h v : Nat)
  /-- CELL_QUOTA_WRITE: A CELL_QUOTA write raising the sum above 65,536 is ignored and sets QUOTA_REFUSED (R299). -/
  | cellQuotaWrite (r : Req) (h v : Nat)
  /-- FIFO_CFG_WRITE: FIFO BASE, DEPTH and ESIZE are accepted only while the FIFO is disabled (R318). Offset of the word: 0, 4, 8 or 0xC. -/
  | fifoCfgWrite (r : Req) (f off v : Nat)
  /-- FIFO_PTR_CHECK: Duplicated FIFO pointers are compared, and a mismatch freezes the FIFO and reports a fault (R321). same says whether the two copies agree. -/
  | fifoPtrCheck (f : Nat) (same : Bool)
  /-- FIFO_STALL_RESUME: A FIFO entry is freed and a thread stalled on QPUT completes its store (R379). g is the stalled thread. -/
  | fifoStallResume (g : Nat)
  /-- FIFO_STALL_TIMEOUT: A QPUT stalled for 64 µs is abandoned and the thread traps with STALL_TIMEOUT (R379). g is the stalled thread. -/
  | fifoStallTimeout (g : Nat)
  /-- DRBG_HEALTH_FAIL: An entropy health test fails, stopping the DRBG and setting RNG_FAIL (R333). -/
  | drbgHealthFail
  /-- DRBG_RESTART: 10 ms after a failure the entropy source restarts, runs its start-up tests and reinstantiates the DRBG (R333). Whether the start-up tests pass. -/
  | drbgRestart (pass : Bool)
  /-- KEY_IMPORT: The command unwraps a key blob into a slot under a WRAP_ONLY parent (R349). -/
  | keyImport (c : Cmd) (target parent use type len addr : Nat)
  /-- KEY_DERIVE: The command derives a key into a slot from a DERIVE_ONLY parent (R343). -/
  | keyDerive (c : Cmd) (target parent use type labelLen ctxLen addr : Nat)
  /-- KEY_ERASE: The command erases a slot in one cycle, retiring the operations that are using it (R358). -/
  | keyErase (c : Cmd) (slot : Nat)
  /-- KEY_INFO: The command returns a slot's metadata (R342). -/
  | keyInfo (c : Cmd) (slot : Nat)
  /-- HEDGE_KEY_WIPE: The command increments HEDGE_EPOCH, re-derives K_h and clears the trust anchors (R342). -/
  | hedgeKeyWipe (c : Cmd) (confirm : Nat)
  /-- TRUST_SET: The command writes a Hedge trust anchor unless TRUST.LOCK is set (R361). -/
  | trustSet (c : Cmd) (anchor : Nat) (lockAfter : Bool) (addr : Nat)
  /-- TRUST_LOCK_SET: Setting TRUST.CTL.LOCK freezes the Hedge's anchors until HEDGE_KEY_WIPE (R361). The word written to TRUST[h].CTL. -/
  | trustLockSet (r : Req) (h v : Nat)
  /-- ATTEST: The command returns the state block with an HMAC over a challenge (R360). -/
  | attest (c : Cmd) (slot : Nat) (challenge : List Nat) (addr : Nat)
  /-- NODE_REKEY: The command starts a node rekey by sending a Rekey command under the current key (R354). -/
  | nodeRekey (c : Cmd) (e : Nat)
  /-- GROUP_REKEY: The command starts a group rekey by sending Group Key commands to every node (R356). -/
  | groupRekey (c : Cmd)
  /-- KEY_DESTROY_ALL: The privileged command retires the part's root, moving LIFE to RETIRED (R334). -/
  | keyDestroyAll (c : Cmd) (confirm : Nat)
  /-- KEY_ORPHAN_SWEEP: A background sweep marks every descendant of an invalidated slot ORPHANED (R339). -/
  | keyOrphanSweep
  /-- KEY_RETIRE_ZERO: When the last operation on retired key material ends, every on-chip copy is zeroed (R358). -/
  | keyRetireZero
  /-- SLOT_QUOTA_WRITE: A SLOT_QUOTA write raising the sum above 1,008 is ignored and sets QUOTA_REFUSED (R365). -/
  | slotQuotaWrite (r : Req) (h v : Nat)
  /-- JOIN_RESPONSE_PART2: After Part 1's ack window, Part 2 of a split Join Response is sent (R352). The entry that joins. -/
  | joinResponsePart2 (e : Nat)
  /-- REKEY_RETRY_EXPIRE: No frame under the new key within REKEY_RETRY_S resends the Rekey command (R354). -/
  | rekeyRetryExpire (e : Nat)
  /-- GROUP_SWITCH: At SWITCH_AT, GROUP_GEN advances and GROUP_TX_CNT restarts (R356). -/
  | groupSwitch (h : Nat)
  /-- GROUP_OVERLAP_END: At SWITCH_AT + GROUP_OVERLAP_S the previous group key stops being accepted (R356). -/
  | groupOverlapEnd (h : Nat)
  /-- ADD: Register add, setting all four flags (R403). -/
  | add (g : Nat) (rd ra rb : BitVec 5)
  /-- SUB: Register subtract, setting all four flags (R403). -/
  | sub (g : Nat) (rd ra rb : BitVec 5)
  /-- ADDC: Add with carry in (R403). -/
  | addc (g : Nat) (rd ra rb : BitVec 5)
  /-- SUBC: Subtract with borrow (R403). -/
  | subc (g : Nat) (rd ra rb : BitVec 5)
  /-- AND: Bitwise and (R403). -/
  | and (g : Nat) (rd ra rb : BitVec 5)
  /-- OR: Bitwise or (R403). -/
  | or (g : Nat) (rd ra rb : BitVec 5)
  /-- XOR: Bitwise exclusive or (R403). -/
  | xor (g : Nat) (rd ra rb : BitVec 5)
  /-- ANDN: And with the complement of b (R403). -/
  | andn (g : Nat) (rd ra rb : BitVec 5)
  /-- SHL: Shift left by b[4:0] (R403). -/
  | shl (g : Nat) (rd ra rb : BitVec 5)
  /-- SHR: Logical shift right (R403). -/
  | shr (g : Nat) (rd ra rb : BitVec 5)
  /-- SAR: Arithmetic shift right (R403). -/
  | sar (g : Nat) (rd ra rb : BitVec 5)
  /-- ROL: Rotate left (R403). -/
  | rol (g : Nat) (rd ra rb : BitVec 5)
  /-- MUL: Low 32 bits of the product (R403). -/
  | mul (g : Nat) (rd ra rb : BitVec 5)
  /-- MULHU: High word of the unsigned product (R403). -/
  | mulhu (g : Nat) (rd ra rb : BitVec 5)
  /-- MULHS: High word of the signed product (R403). -/
  | mulhs (g : Nat) (rd ra rb : BitVec 5)
  /-- CLZ: Count of leading zeros (R403). -/
  | clz (g : Nat) (rd ra rb : BitVec 5)
  /-- POPC: Population count (R403). -/
  | popc (g : Nat) (rd ra rb : BitVec 5)
  /-- MIN: Signed minimum (R403). -/
  | min (g : Nat) (rd ra rb : BitVec 5)
  /-- MAX: Signed maximum (R403). -/
  | max (g : Nat) (rd ra rb : BitVec 5)
  /-- MINU: Unsigned minimum (R403). -/
  | minu (g : Nat) (rd ra rb : BitVec 5)
  /-- MAXU: Unsigned maximum (R403). -/
  | maxu (g : Nat) (rd ra rb : BitVec 5)
  /-- SLT: Set if less than, signed (R403). -/
  | slt (g : Nat) (rd ra rb : BitVec 5)
  /-- SLTU: Set if less than, unsigned (R403). -/
  | sltu (g : Nat) (rd ra rb : BitVec 5)
  /-- ADDI: Add a sign-extended immediate, setting all flags (R404). -/
  | addi (g : Nat) (rd ra : BitVec 5) (imm : BitVec 16)
  /-- ANDI: And with a zero-extended immediate (R404). -/
  | andi (g : Nat) (rd ra : BitVec 5) (imm : BitVec 16)
  /-- ORI: Or with a zero-extended immediate (R404). -/
  | ori (g : Nat) (rd ra : BitVec 5) (imm : BitVec 16)
  /-- XORI: Exclusive or with a zero-extended immediate (R404). -/
  | xori (g : Nat) (rd ra : BitVec 5) (imm : BitVec 16)
  /-- SHLI: Shift left by an immediate (R404). -/
  | shli (g : Nat) (rd ra : BitVec 5) (imm : BitVec 16)
  /-- SHRI: Logical shift right by an immediate (R404). -/
  | shri (g : Nat) (rd ra : BitVec 5) (imm : BitVec 16)
  /-- SARI: Arithmetic shift right by an immediate (R404). -/
  | sari (g : Nat) (rd ra : BitVec 5) (imm : BitVec 16)
  /-- SLTI: Set if less than a signed immediate (R404). -/
  | slti (g : Nat) (rd ra : BitVec 5) (imm : BitVec 16)
  /-- LUI: Load an immediate into the upper half (R404). -/
  | lui (g : Nat) (rd ra : BitVec 5) (imm : BitVec 16)
  /-- LDB: Load a sign-extended octet (R405). -/
  | ldb (g : Nat) (rd ra : BitVec 5) (imm : BitVec 16)
  /-- LDBU: Load a zero-extended octet (R405). -/
  | ldbu (g : Nat) (rd ra : BitVec 5) (imm : BitVec 16)
  /-- LDH: Load a sign-extended half-word (R405). -/
  | ldh (g : Nat) (rd ra : BitVec 5) (imm : BitVec 16)
  /-- LDHU: Load a zero-extended half-word (R405). -/
  | ldhu (g : Nat) (rd ra : BitVec 5) (imm : BitVec 16)
  /-- LDW: Load a word (R405). `imm` is imm[15:2]. -/
  | ldw (g : Nat) (rd ra : BitVec 5) (imm : BitVec 14)
  /-- LDP: Load an 8-octet pair (R405). As LDW. -/
  | ldp (g : Nat) (rd ra : BitVec 5) (imm : BitVec 14)
  /-- STB: Store an octet (R405). -/
  | stb (g : Nat) (rd ra : BitVec 5) (imm : BitVec 16)
  /-- STH: Store a half-word (R405). -/
  | sth (g : Nat) (rd ra : BitVec 5) (imm : BitVec 16)
  /-- STW: Store a word, posted (R405). As LDW. -/
  | stw (g : Nat) (rd ra : BitVec 5) (imm : BitVec 14)
  /-- STP: Store an 8-octet pair (R405). As LDW. -/
  | stp (g : Nat) (rd ra : BitVec 5) (imm : BitVec 14)
  /-- EXT: Extract a sign-extended bitfield (R407). -/
  | ext (g : Nat) (rd ra pos len : BitVec 5)
  /-- EXTU: Extract a zero-extended bitfield (R407). -/
  | extu (g : Nat) (rd ra pos len : BitVec 5)
  /-- INS: Insert a bitfield into rd (R407). -/
  | ins (g : Nat) (rd ra pos len : BitVec 5)
  /-- BSWAP: Reverse the octet order (R407). -/
  | bswap (g : Nat) (rd ra pos len : BitVec 5)
  /-- CRC32C: Advance a reflected CRC32C over 1, 2 or 4 octets (R408). -/
  | crc32c (g : Nat) (rd ra rb : BitVec 5) (n : BitVec 3)
  /-- CRC16: Advance a reflected CRC-16 over 1, 2 or 4 octets (R408). -/
  | crc16 (g : Nat) (rd ra rb : BitVec 5) (n : BitVec 3)
  /-- HASH: Multiplicative hash of a xor b (R408). -/
  | hash (g : Nat) (rd ra rb : BitVec 5)
  /-- AADD: Atomic add, returning the old value (R409). `sz` is func[4:3]. -/
  | aadd (g : Nat) (rd ra rb : BitVec 5) (sz : BitVec 2)
  /-- ASWP: Atomic swap (R409). As AADD. -/
  | aswp (g : Nat) (rd ra rb : BitVec 5) (sz : BitVec 2)
  /-- ACAS: Atomic compare-and-swap, setting Z on failure (R409). As AADD. -/
  | acas (g : Nat) (rd ra rb : BitVec 5) (sz : BitVec 2)
  /-- BEQ: Branch if equal (R410). -/
  | beq (g : Nat) (ra rb : BitVec 5) (disp : BitVec 16)
  /-- BNE: Branch if not equal (R410). -/
  | bne (g : Nat) (ra rb : BitVec 5) (disp : BitVec 16)
  /-- BLT: Branch if less than, signed (R410). -/
  | blt (g : Nat) (ra rb : BitVec 5) (disp : BitVec 16)
  /-- BGE: Branch if greater than or equal, signed (R410). -/
  | bge (g : Nat) (ra rb : BitVec 5) (disp : BitVec 16)
  /-- BLTU: Branch if less than, unsigned (R410). -/
  | bltu (g : Nat) (ra rb : BitVec 5) (disp : BitVec 16)
  /-- BGEU: Branch if greater than or equal, unsigned (R410). -/
  | bgeu (g : Nat) (ra rb : BitVec 5) (disp : BitVec 16)
  /-- J: PC-relative jump (R410). -/
  | j (g : Nat) (disp : BitVec 25)
  /-- JAL: Jump and link into w31 (R410). -/
  | jal (g : Nat) (disp : BitVec 25)
  /-- JALR: Register jump and link (R410). -/
  | jalr (g : Nat) (rd ra : BitVec 5) (imm : BitVec 16)
  /-- LKUP: Look up a Thicket entry and optionally open a window on it (R413). -/
  | lkup (g : Nat) (rd ra : BitVec 5) (cmd : BitVec 12)
  /-- TINS: Insert a Thicket entry from a parameter block, as NODE_INSERT does (R414). -/
  | tins (g : Nat) (rd ra : BitVec 5) (cmd : BitVec 12)
  /-- TDEL: Free a Thicket entry, waiting for the other threads' holds to end (R415). -/
  | tdel (g : Nat) (rd ra : BitVec 5) (cmd : BitVec 12)
  /-- TTOUCH: Record a hit on a Thicket entry (R415). -/
  | ttouch (g : Nat) (rd ra : BitVec 5) (cmd : BitVec 12)
  /-- QPUT: Copy a buffer into a new FIFO tail entry, stalling while the FIFO is full (R416). -/
  | qput (g : Nat) (rd ra : BitVec 5) (cmd : BitVec 12)
  /-- QGET: Take the head entry of a FIFO, or report empty (R416). -/
  | qget (g : Nat) (rd ra : BitVec 5) (cmd : BitVec 12)
  /-- QPEEK: Copy the head entry of a FIFO without removing it (R416). -/
  | qpeek (g : Nat) (rd ra : BitVec 5) (cmd : BitVec 12)
  /-- CRY: Start a security-engine operation and return a ticket (R417). -/
  | cry (g : Nat) (rd ra : BitVec 5) (cmd : BitVec 12)
  /-- CWAIT: Wait for, or poll, a crypto ticket and return its status (R419). -/
  | cwait (g : Nat) (rd ra : BitVec 5) (cmd : BitVec 12)
  /-- TNOW: Read Mesh Phase coherently into a register pair (R420). -/
  | tnow (g : Nat) (rd ra : BitVec 5) (cmd : BitVec 12)
  /-- TWAIT: Wait until Mesh Phase reaches a value (R420). -/
  | twait (g : Nat) (rd ra : BitVec 5) (cmd : BitVec 12)
  /-- TARM: Arm or disarm the thread's timer (R420). -/
  | tarm (g : Nat) (rd ra : BitVec 5) (cmd : BitVec 12)
  /-- YIELD: Pass over the thread for one issue turn (R421). -/
  | yield (g : Nat) (rd ra : BitVec 5) (cmd : BitVec 12)
  /-- WAITEV: Wait for masked events and consume the edge bits among them (R421). -/
  | waitev (g : Nat) (rd ra : BitVec 5) (cmd : BitVec 12)
  /-- SIGNAL: Set a SIGNAL event in another thread of the same owner (R421). -/
  | signal (g : Nat) (rd ra : BitVec 5) (cmd : BitVec 12)
  /-- FENCE: Wait until all the thread's earlier accesses are visible (R421). -/
  | fence (g : Nat) (rd ra : BitVec 5) (cmd : BitVec 12)
  /-- HALT: Halt the thread (R421). -/
  | halt (g : Nat) (rd ra : BitVec 5) (cmd : BitVec 12)
  /-- MFS: Read a special register (R423). -/
  | mfs (g : Nat) (rd ra : BitVec 5) (cmd : BitVec 12)
  /-- MTS: Write a special register under its access rules (R423). -/
  | mts (g : Nat) (rd ra : BitVec 5) (cmd : BitVec 12)
  /-- TRAP: Trap with ECAUSE 0x09 (R423). -/
  | trap (g : Nat) (rd ra : BitVec 5) (cmd : BitVec 12)
  /-- TRET: Return from a trap to EPC (R423). -/
  | tret (g : Nat) (rd ra : BitVec 5) (cmd : BitVec 12)
  /-- THREAD_EVENT_WAKE: A masked event is set and a thread waiting in WAITEV resumes (R381). -/
  | threadEventWake (g : Nat)
  /-- TWAIT_EXPIRE: Mesh Phase reaches a TWAIT value and the thread resumes (R383). -/
  | twaitExpire (g : Nat)
  /-- THREAD_TIMER_FIRE: Mesh Phase reaches the TARM value and sets the TIMER event (R383). -/
  | threadTimerFire (g : Nat)
  /-- CRY_COMPLETE: A crypto operation completes, writing its output and setting CRYPTO (R419). t is the ticket. -/
  | cryComplete (g t : Nat)
  /-- THICKET_WINDOW_TIMEOUT: A Thicket window closes 100 µs after it opened, releasing the hold (R385). n is 4 x thread + slot. -/
  | thicketWindowTimeout (n : Nat)
  /-- ENGINE_WDOG_EXPIRE: An engine watchdog expires, causing a core reset or a Hedge reset (R389). -/
  | engineWdogExpire (e : Nat)
  /-- ENGH_GRANT_WRITE: A write of a Hedge SRAM or DRAM grant is refused if it overlaps another grant or the Thicket (R374). A write at offset off of ENGH[h]. -/
  | enghGrantWrite (r : Req) (h off v : Nat)
  /-- PROG_LOAD: The command copies, verifies and loads a Hedge program, then starts its threads (R391). good says that the read-back of step 6 matches. -/
  | progLoad (c : Cmd) (off len : Nat) (good : Bool)
  /-- PROG_STOP: The command halts and unloads the Hedge's program (R391). -/
  | progStop (c : Cmd)
  /-- PROG_SIGNAL: The command sets NOTICE in the named program threads (R391). -/
  | progSignal (c : Cmd) (mask : Nat)
  /-- HBIND_WRITE: A change to a Hedge's attachment starts a Hedge reset with cause REBIND, or is refused (R424). A write at offset off of HBIND[h]. -/
  | hbindWrite (r : Req) (h off v : Nat)
  /-- PCIE_FLR: A function-level reset of a Hedge's function starts its Hedge reset (R426). f is the PCIe function. -/
  | pcieFlr (f : Nat)
  /-- PCIE_PERST: PERST resets the port and starts Hedge resets of the Hedges it carries (R426). The port, and what its link trains to after PERST. -/
  | pciePerst (p width speed pol : Nat)
  /-- BUS_MASTER_CHANGE: A change of bus master enable enables or disables the Hedge's rings (R426). Bus master enable of function f. -/
  | busMasterChange (f : Nat) (on : Bool)
  /-- DMA_ERROR: A DMA error completion sets DMA_ERR and clears every ring enable of the Hedge (R426). i is 0 to 7 a Hedge's port, 8 the privileged one. -/
  | dmaError (i : Nat)
  /-- CMD_DOORBELL: A write of CMD PROD posts commands, or is ignored and sets DOORBELL_BAD (R428). The word written to HOSTH[i].RING[0].PROD. -/
  | cmdDoorbell (r : Req) (i v : Nat)
  /-- RX_DOORBELL: A write of RX PROD posts receive buffers (R428). The word written to HOSTH[i].RING[3].PROD. -/
  | rxDoorbell (r : Req) (i v : Nat)
  /-- CPL_DOORBELL: A write of CPL CONS frees completion slots (R428). The word written to HOSTH[i].RING[1].CONS. -/
  | cplDoorbell (r : Req) (i v : Nat)
  /-- EV_DOORBELL: A write of EV CONS frees event slots (R428). The word written to HOSTH[i].RING[2].CONS. -/
  | evDoorbell (r : Req) (i v : Nat)
  /-- RING_CTL_WRITE: A write of the ring enables enables rings, stops writing them, or requests a CMD drain (R431). The word written to HOSTH[i].CTL. -/
  | ringCtlWrite (r : Req) (i v : Nat)
  /-- CMD_RING_DRAIN_DONE: A requested CMD_EN clear takes effect once every posted command has been fetched (R431). -/
  | cmdRingDrainDone (i : Nat)
  /-- COMMAND_FETCH: The front end fetches the next command in ring order, paced and bounded by OUTSTANDING.MAX (R433). src is 0 to 8 a port, 16 + h the programs of Hedge h. -/
  | commandFetch (src : Nat)
  /-- SEND: The command builds and admits a downlink to a node (R436). The fields of R435; flags is the octet FLAGS. -/
  | send (c : Cmd) (eui entry life len mode power cls flags addr : Nat) (inline : List Nat)
  /-- FLOOD: The command sends a host flood on the Hedge's flood queue (R436). -/
  | flood (c : Cmd) (final life len cls flags addr : Nat) (inline : List Nat)
  /-- NOP: The command completes with DONE (R434). -/
  | nop (c : Cmd)
  /-- MEM_WRITE: The command copies host memory into the Hedge's DRAM grant (R435). -/
  | memWrite (c : Cmd) (addr off len : Nat)
  /-- MEM_READ: The command copies from the Hedge's DRAM grant to host memory (R435). -/
  | memRead (c : Cmd) (addr off len : Nat)
  /-- WATCH_READ: The command copies watch samples to host memory (R435). -/
  | watchRead (c : Cmd) (w first count addr : Nat)
  /-- CAL_TRIG_SET: The command sets a calendar trigger for the Hedge (R528). `rep` is REPEAT and `due` octets 16 to 23. -/
  | calTrigSet (c : Cmd) (n rep : Nat) (due : List Nat)
  /-- CAL_TRIG_CLR: The command frees a calendar trigger and discards its records (R528). -/
  | calTrigClr (c : Cmd) (n : Nat)
  /-- HEDGE_RESET: The privileged command resets a named Hedge and completes when the reset ends (R448). -/
  | hedgeReset (c : Cmd) (h : Nat)
  /-- CAL_EXPORT: The command copies the calibration page to host memory (R512). -/
  | calExport (c : Cmd) (addr : Nat)
  /-- CAL_RESTORE: The command checks and writes calibration fields from an export, then reloads them (R512). -/
  | calRestore (c : Cmd) (addr mask : Nat) (foreign : Bool)
  /-- BOOT_IMAGE_WRITE: The command writes and checks an image in a flash slot, optionally making it pending (R498). -/
  | bootImageWrite (c : Cmd) (addr len : Nat) (activate : Bool) (slot : Nat)
  /-- SCOREPAD_READ: The command copies committed Scorepad records in key order (R549). The fields of R549; `oldest` is FROM_OLDEST. -/
  | scorepadRead (c : Cmd) (addr seq era count : Nat) (oldest : Bool)
  /-- STEWARD_SERVE: The Steward takes the next administrative command, privileged queue first, then round-robin (R444). -/
  | stewardServe
  /-- IRQ_COALESCE_TIMEOUT: IRQ.TIME passes since the first pending entry, and the ring's MSI-X vector is signalled (R430). Vector v of port i. -/
  | irqCoalesceTimeout (i v : Nat)
  /-- EV_BACKLOG_DRAIN: When the EV ring has room, backlogged events are written in sequence order (R439). -/
  | evBacklogDrain (h : Nat)
  /-- RX_PLACE: A frame leaving the egress shaper is placed whole in posted RX buffers and published, or dropped for lack of buffers (R441). -/
  | rxPlace (h : Nat)
  /-- RX_HOLD_EXPIRE: A backlogged frame still waiting at t_in + UPLINK_HOLD is dropped (R442). -/
  | rxHoldExpire (h : Nat)
  /-- RX_LOSS_REPORT: At most once per second, non-zero receive drop counts are posted as RX_LOSS (R438). -/
  | rxLossReport (h : Nat)
  /-- TUN_CMD_MSG: A CMD Tunnel message accepted in order posts its commands (R446). p is the IPv6 packet, which arrives on an Ethernet port. -/
  | tunCmdMsg (h port : Nat) (p : List Nat)
  /-- TUN_CREDIT_MSG: A CREDIT message grants RX message credits (R445). -/
  | tunCreditMsg (h port : Nat) (p : List Nat)
  /-- TUN_ACK_MSG: An ACK message releases the part's acknowledged messages (R446). -/
  | tunAckMsg (h port : Nat) (p : List Nat)
  /-- TUN_START_MSG: START opens a new session, is answered, and unacknowledged messages are resent in order (R446). -/
  | tunStartMsg (h port : Nat) (p : List Nat)
  /-- TUN_KEEPALIVE_MSG: A KEEPALIVE from the host keeps the Tunnel alive (R446). -/
  | tunKeepaliveMsg (h port : Nat) (p : List Nat)
  /-- TUN_NEIGHBOR_SOLICIT: The part answers an IPv6 Neighbor Solicitation for OWN_IP6 (R445). The Ethernet port and the address solicited. -/
  | tunNeighborSolicit (port ip6 : Nat)
  /-- TUN_RESEND_TIMEOUT: TUN.RTO passes and unacknowledged messages are resent; the eighth unanswered resend takes the Tunnel down (R446). -/
  | tunResendTimeout (h : Nat)
  /-- TUN_SILENCE_TIMEOUT: 3 s without a message takes the Tunnel down (R446). -/
  | tunSilenceTimeout (h : Nat)
  /-- TUN_KEEPALIVE_SEND: After 1 s of silence the part sends KEEPALIVE (R446). -/
  | tunKeepaliveSend (h : Nat)
  /-- HOSTH_HRESET_WRITE: A write of 1 to HOSTH[h].CTL.HRESET starts a Hedge self-reset (R448). The word written to HOSTH[h].CTL. -/
  | hosthHresetWrite (r : Req) (h v : Nat)
  /-- HBIND_HRESET_WRITE: A write of HBIND[h].CTL.HRESET starts a Hedge reset with cause PRIV (R454). -/
  | hbindHresetWrite (r : Req) (h : Nat)
  /-- HEDGE_RESET_END: The Hedge reset finishes, effects are applied, HEDGE_RESET_DONE is queued and the front end restarts (R448). -/
  | hedgeResetEnd (h : Nat)
  /-- CNT_CLR_DISCARD: Writing 1 to CNT_CLR.DISCARD clears HEDGE_DISCARD_CNT (R450). The word written to HOSTH[i].CNT_CLR. -/
  | cntClrDiscard (r : Req) (i v : Nat)
  /-- TWIN_CFG_EN_WRITE: Setting TWIN.CFG.EN trains the Twin link and sends HELLO (R458). `v` is the word written to TWIN.CFG and `lanes` how many lanes train. -/
  | twinCfgEnWrite (r : Req) (v lanes : Nat)
  /-- TWIN_HELLO_RX: A HELLO from the partner settles the roles (R458). The fields of the message (R458); `same` says whether the digests of the configuration agree. -/
  | twinHelloRx (eui prefer role schema : Nat) (same : Bool)
  /-- TWIN_HELLO_TIMEOUT: No HELLO within 10 s makes the part ACTIVE (R458). -/
  | twinHelloTimeout
  /-- TWIN_HEARTBEAT_SEND: Every 100 µs the part sends a heartbeat message on the link (R459). -/
  | twinHeartbeatSend
  /-- TWIN_LINK_SILENT: No link message for LOSS_US sets LINK_DOWN (R459). -/
  | twinLinkSilent
  /-- TWIN_HB_SILENT: No heartbeat edge for LOSS_US marks the partner's heartbeat silent (R460). -/
  | twinHbSilent
  /-- PARTNER_FAULT_ASSERT: The partner's FAULT_N held low for 100 µs counts as asserted (R460). -/
  | partnerFaultAssert
  /-- TWIN_CMD_TAKEOVER: CMD.TAKEOVER on a standby causes a takeover (R461). -/
  | twinCmdTakeover (r : Req)
  /-- TWIN_CMD_SWITCH: CMD.SWITCH on the active drains, sends a final snapshot and demotes it (R463). -/
  | twinCmdSwitch (r : Req)
  /-- TWIN_CMD_LOOP: CMD.LOOP runs the chain loopback test (R469). `ok` says for chains 0 to 3 whether the loopback passed. -/
  | twinCmdLoop (r : Req) (ok : List Bool)
  /-- TWIN_DEMOTION_RX: A partner's demotion message causes takeover at once (R463). -/
  | twinDemotionRx (cause : Nat)
  /-- SNAPSHOT_CAPTURE: At each Twin cycle start the active captures and sends a snapshot (R462). `late` says that it is not sent within 20 % of the cycle, and `ofs` is the partner's Mesh Phase minus the part's own as measured, in ns. -/
  | snapshotCapture (late : Bool) (ofs : Int)
  /-- SNAPSHOT_APPLY: The standby applies a whole snapshot when its last message arrives (R463). `ofs` as in SNAPSHOT_CAPTURE. -/
  | snapshotApply (x : TwinSnap) (ofs : Int)
  /-- TWIN_COUNTER_RECORD_RX: A partner counter record marks that counter accepted in the entry (R465). -/
  | twinCounterRecordRx (h e counter : Nat)
  /-- TWIN_LOOP_TEST: Every LOOP_S the standby tests each chain by on-chip loopback (R469). `ok` as in TWIN_CMD_LOOP. -/
  | twinLoopTest (ok : List Bool)
  /-- TWIN_DUAL_ACTIVE: A returning link with both parts ACTIVE makes the older one core-reset into STANDBY (R470). `at_` is the Mesh Phase of the partner's last change to ACTIVE. -/
  | twinDualActive (at_ : Nat)
  /-- PRP_FRAME_RX: A PRP frame is received, and duplicates are discarded by source and sequence (R472). The port, the source MAC address, the trailer's sequence number and LAN identifier, and whether it is a supervision frame. -/
  | prpFrameRx (port source seq : Nat) (lanB sup : Bool)
  /-- PRP_SUP_SEND: Every SUP_INT_MS a supervision frame is sent on both ports (R472). -/
  | prpSupSend
  /-- PRP_SUP_TIMEOUT: No supervision frame for 3 × SUP_INT_MS sets the port's LAN_DOWN flag (R472). -/
  | prpSupTimeout (port : Nat)
  /-- POWER_ON: The internal power-on detector causes a power-on reset (R477). -/
  | powerOn
  /-- POR_N_LOW: A filtered low pulse on POR_N takes a power-on reset (R481). `ns` is the length of the low pulse; one between 200 ns and 1 µs is taken as `take` says. -/
  | porNLow (ns : Nat) (take : Bool)
  /-- RESET_N_LOW: A filtered low pulse on RESET_N takes a system reset (R481). As POR_N_LOW. -/
  | resetNLow (ns : Nat) (take : Bool)
  /-- SUPPLY_LOW: A rail below its monitor threshold takes a system reset (R561). -/
  | supplyLow
  /-- THERMAL_TRIP: A thermal trip holds the part in system reset (R479). -/
  | thermalTrip
  /-- THERMAL_HOLD_END: Tj falls 10 °C below the trip temperature and the hold ends (R479). -/
  | thermalHoldEnd
  /-- STEWARD_WDOG_EXPIRE: The Steward watchdog expires, causing a system reset (R536). -/
  | stewardWdogExpire
  /-- RST_CMD_SYSTEM: A privileged write of 0x5359_5354 to RST.CMD requests a system reset (R480). -/
  | rstCmdSystem (r : Req)
  /-- RST_CMD_CORE: A privileged write of 0x434F_5245 to RST.CMD requests a core reset (R480). -/
  | rstCmdCore (r : Req)
  /-- RESET_RELEASE: After a power-on or system reset the part runs the boot sequence up to READY (R484). -/
  | resetRelease (x : BootIn)
  /-- CORE_RESET: A core reset stops threads, zeroes memories, re-verifies the Steward and runtime and sets READY (R486). Whether the kept code hashes as recorded; the Hedges whose kept image reads back as checked, and the lanes, security cores, decoders and receive ports that pass self-test, a bit each. -/
  | coreReset (stewardOk runtimeOk : Bool) (progOk lanesOk aesOk decOk portsOk : Nat)
  /-- BOOT_CONFIRM: BOOT.CTL.CONFIRM during a trial makes the pending slot active and may raise MIN_SVN (R496). -/
  | bootConfirm (r : Req)
  /-- RECOV_GO: BOOT.RECOV.GO checks and runs the image in the recovery window (R499). -/
  | recovGo (r : Req) (x : BootIn)
  /-- DRAM_SCRUB: Each written DRAM granule is scrubbed once every 24 h (R504). `k` is the granule, `errs` the offsets of the blocks in error, and whether each is uncorrectable. -/
  | dramScrub (k : Nat) (errs : List (Nat × Bool))
  /-- CAL_SAVE_TUNER: CAL.CMD.SAVE_TUNER writes a port's working tuner table into the calibration store (R511). `ports` is the value written to CAL.CMD. -/
  | calSaveTuner (r : Req) (ports : Nat)
  /-- RTC_SECOND: The calendar advances by one second in BCD, with leap years and the range wrap (R520). -/
  | rtcSecond
  /-- OSC_STOP_DETECT: No crystal edge for 1 ms sets OSC_STOPPED and OSC_FAIL (R521). -/
  | oscStopDetect
  /-- RTC_TIME_READ: A read of a time register freezes the view's shadow set, or reads it while frozen (R522). `k` counts the time registers from SEC to CENTURY. -/
  | rtcTimeRead (r : Req) (k : Nat)
  /-- RTC_THAW_TIMEOUT: 1 ms after a freeze the view's FROZEN clears (R522). `r` reads in the view concerned. -/
  | rtcThawTimeout (r : Req)
  /-- RTC_HALT_WRITE: Setting HALT stops counting; clearing it checks the written time and resumes or sets BAD_SET (R523). `v` is the word written to CTL. -/
  | rtcHaltWrite (r : Req) (v : Nat)
  /-- RTC_TIME_WRITE: A write of a calendar time register is accepted only while HALT is 1 (R523). As RTC_TIME_READ. -/
  | rtcTimeWrite (r : Req) (k v : Nat)
  /-- RTC_AUTO_SET: Hourly, while LOCKED, the Steward compares the calendar with UTC and sets it when needed (R524). At the UTC second boundary that follows an hourly comparison. -/
  | rtcAutoSet
  /-- PWRON_LEVEL_WRITE: A write of PWRON.LEVEL drives PWRON_CTL (R527). -/
  | pwronLevelWrite (r : Req) (v : Nat)
  /-- TRIGGER_EVENT_POST: The Steward posts a TRIGGER event for a pending occurrence and clears PENDING once it is written (R529). -/
  | triggerEventPost (n : Nat)
  /-- MISSED_TRIGGERS_POST: At READY or after a forward set, missed triggers are reported in MISSED_TRIGGERS events (R531). -/
  | missedTriggersPost (h : Nat)
  /-- BACKUP_RESET: Backup supply below 1.4 V resets the backup domain and sets OSC_STOPPED (R518). -/
  | backupReset
  /-- BACKUP_SUPPLY_SWITCH: The backup domain switches between the main supply and VBAT without loss (R518). Whether the domain runs from VBAT now. -/
  | backupSupplySwitch (vbat : Bool)
  /-- REFCLK_LOSS: The clock monitor finds REFCLK missing or off frequency and the part stops (R541). -/
  | refclkLoss
  /-- PLL_UNLOCK: The main PLL leaves lock and the part stops (R536). -/
  | pllUnlock
  /-- REFCLK_RESTORED: REFCLK within limits for 10 ms ends the STOP hold and starts the out-of-reset sequence (R541). -/
  | refclkRestored
  /-- CLOCK_DUP_MISMATCH: The duplicated time counts disagree, a SYSTEM fault (R536). -/
  | clockDupMismatch
  /-- STEWARD_LOCKSTEP_MISMATCH: The Steward's lockstep cores disagree, a SYSTEM fault (R536). -/
  | stewardLockstepMismatch
  /-- MEMORY_ECC_ERROR: A read finds an uncorrectable ECC error and the fault of its memory region is raised (R536). An error that was corrected is counted and recorded. -/
  | memoryEccError (at_ : EccAt) (corrected : Bool)
  /-- SRAM_SCRUB: Every 8 ms all chip SRAM is scrubbed for errors (R536). The offsets in error, and whether each is uncorrectable. -/
  | sramScrub (errs : List (Nat × Bool))
  /-- ENGINE_BIST: Every 5 ms an engine's datapath self-test runs in idle slots (R536). -/
  | engineBist (e : Nat) (ok : Bool)
  /-- DRAM_PROBE: Every 1 ms each DRAM channel's reserved block is written and read back (R536). Whether each channel's block reads back as written. -/
  | dramProbe (ok0 ok1 : Bool)
  /-- ADC_SUBCONV_CHECK: Every 1 ms the four ADC sub-converters are compared, and a deviating port stops receiving (R536). `p` is AP0 or AP1. -/
  | adcSubconvCheck (p : Nat) (ok : Bool)
  /-- LANE_CHECKER_SLOT: The spare demodulator compares one lane's soft outputs for 200 µs and takes a faulty lane out (R536). -/
  | laneCheckerSlot (l : Nat) (ok : Bool)
  /-- LDPC_KNOWN_TEST: Every 5 ms each decoder is tested on a known codeword (R536). `iters` counts the iterations spent on the codeword the decoder holds. -/
  | ldpcKnownTest (k iters : Nat) (ok : Bool)
  /-- CRYPTO_KAT: Every 1 ms a known-answer test runs on each AES, SHA and ECC core (R536). `last`: no other core of its kind is in service, for the kinds whose cores the registers do not show. -/
  | cryptoKat (kind : CoreKind) (core : Nat) (ok last : Bool)
  /-- SCOREPAD_COMMIT: The writer commits the next queued record with a read-back, retrying once under the next key (R544). `read` is the slot as read back. -/
  | scorepadCommit (read : List Nat)
  /-- SCOREPAD_SUPPRESS_REPORT: Once per second while records are suppressed, a SUPPRESSED record is committed (R548). -/
  | scorepadSuppressReport
  /-- FAULT_INJECT: FLT.INJ_GO with the magic value acts on the injected fault CODE and records it as INJECTED (R550). INJ_GO is written with the magic value. -/
  | faultInject (r : Req)
  /-- TAMPER_SAMPLE: Every 125 ms the backup domain samples TAMPER[n] and latches a first event with its time (R568). -/
  | tamperSample (n : Nat) (high : Bool)
  /-- RX_SYNTH_LOCK_LOST: SY4 or SY5 loses lock, a fault that takes its 2.4 GHz port out of reception (UNIT_OUT) (R536). -/
  | rxSynthLockLost (n : Nat)
  /-- PPS_OPEN_CHECK: The open-line bias test of PPS_IN sets or clears PPS_STATUS.OPEN, and PPS_IN is not present while OPEN is 1 (R28). The result of the bias test. -/
  | ppsOpenCheck (isOpen : Bool)
  /-- VBAT_LOW_DETECT: VBAT crossing its 2.2 V threshold sets or clears STATUS.VBAT_LOW and sets EVENT.VBAT_LOW (R519). -/
  | vbatLowDetect (low : Bool)
  /-- SHAPER_UNBLOCK: A blocked shaper's tokens refill to zero at t + ceil(−T × 2^24 / RATE), so it permits again and STATUS.BLOCKED clears (R311). -/
  | shaperUnblock (n : Nat)
  /-- PT_PULSE_END: WIDTH ticks after a PIN_PULSE trigger fires, the trailing edge is driven at the ball (R35). -/
  | ptPulseEnd (n : Nat)
  /-- REGISTER_READ: A read outside the requester's view, misaligned, not 32 bits or made before READY completes as a bus error or all-ones and is logged in SYS.ERR[i] (R576). `len` octets are read at any offset. -/
  | registerRead (r : Req) (off len : Nat)
  /-- TWIN_LINK_UP: A partner message arrives on a silent Twin link, setting STATUS.LINK_UP 1 and feeding the takeover decision (R459). -/
  | twinLinkUp
  /-- PARTNER_FAULT_RELEASE: The partner's FAULT_N on FLT_IN returns high, clearing STATUS.PARTNER_FAULT and feeding the takeover decision (R460). -/
  | partnerFaultRelease
  /-- BOOT_FLASH_WRITE_DONE: The background flash programming of BOOT_IMAGE_WRITE ends, the slot is read back and checked, PENDING is set if requested, and the command completes (R498). -/
  | bootFlashWriteDone
  deriving DecidableEq, Repr

end Sys2Proof
end

