-- ==== Sys2Proof/Decode.lean ====
section
/-!
DEFINITION. The command a word spells. spec/opcode_table.json gives no row any bits: the part's commands are
events and register accesses, not words, so no word spells one (assumption log 1).
-/

namespace Sys2Proof

/-- No row of the table has bits, so no word is a command. -/
def decodeTableWord (_nbits _w : Nat) : Option Instr := none

end Sys2Proof
end

