-- ==== Sys2Proof/Config.lean ====
section
/-!
DEFINITION. What an implementation fixes and what the spec leaves open: constants without a body, so that
no proof can see a value of them and every statement holds whatever they are.
-/

namespace Sys2Proof.Config

/-- The k-th value the part draws from its random source, or that the spec leaves open (assumption log 3). -/
opaque draw : Nat → Nat

/-- The correction, in 0.25 dB, that the eight values of a port and segment in the calibration store's transmit power table give for a carrier
(Hz) and a die temperature (R179, R509; assumption log 14). -/
opaque powerTable : Nat → Nat → Nat → Int

/-- The set of the derived-key cache, modulo its 16,384 sets, in which a tag's entry lies (R344): kind, Hedge, EUI-64 or
GROUP_GEN, generation, slot and the slot's GEN (assumption log 17). -/
opaque cacheSet : List Nat → Nat

/-! The primitives of R332, which the spec names by their standards: octet strings in, octet strings out (assumption log 15). -/

/-- HMAC-SHA-256 of a message under a key. -/
opaque hmac256 : List Nat → List Nat → List Nat

/-- SHA-256. -/
opaque sha256 : List Nat → List Nat

/-- SHA-384. -/
opaque sha384 : List Nat → List Nat

/-- AES-CCM* at a security level under a key and nonce: the message as sent, then its MIC, from the authenticated octets and
the message. -/
opaque ccmSeal : Nat → List Nat → List Nat → List Nat → List Nat → List Nat

/-- The reverse: the message, or none when the MIC does not hold. -/
opaque ccmOpen : Nat → List Nat → List Nat → List Nat → List Nat → Option (List Nat)

/-- AES key unwrap with padding under a key; none when its check fails. -/
opaque kwpOpen : List Nat → List Nat → Option (List Nat)

/-- The P-256 public key (X then Y) of a private key. -/
opaque p256Pub : List Nat → List Nat

/-- The shared x-coordinate of a P-256 private key and a public key; none when the point is not on the curve. -/
opaque ecdh : List Nat → List Nat → Option (List Nat)

/-- A P-256 signature of a digest under a private key. -/
opaque p256Sign : List Nat → List Nat → List Nat

/-- Whether a P-256 signature of a digest holds under a public key. -/
opaque p256Verify : List Nat → List Nat → List Nat → Bool

/-- Whether a P-384 signature of a digest holds under a public key. -/
opaque p384Verify : List Nat → List Nat → List Nat → Bool

/-- Which of the places in DRAM that can hold the Thicket the Steward gives it (R54), by number from the lowest. -/
opaque tableBase : Nat

/-! What the equaliser of R136 computes with, whose precision and scale the spec does not give (assumption log 152). -/

/-- The phase of a complex number, in turns. -/
opaque arg : Rat → Rat → Rat

/-- The complex number of modulus 1 at a phase in turns. -/
opaque cis : Rat → Rat × Rat

/-- The square root of a small number. -/
opaque root : Nat → Rat

/-- The weight of a subcarrier whose noise estimate is zero. -/
opaque quietWeight : Rat

/-- A max-log value of an MCS on the scale of the decoder's soft values, before it saturates. -/
opaque softScale : Nat → Rat → Int

/-- The origin of an engine's cycle count, which the spec does not state (R371; assumption log 21). -/
opaque cycleOrigin : Nat → Nat

/-- AES of a 16-octet block under a key. -/
opaque aesBlock : List Nat → List Nat → List Nat

/-! What images and calibration fields hold where the spec gives no layout (assumption log 24). -/

/-- The version a section of an image bears. -/
opaque imageVersion : List Nat → Nat

/-- The interface version of a Runtime section, which ENG.API_VERSION shows. -/
opaque apiVersion : List Nat → Nat

/-- Where the octets of a Runtime section go in instruction memory: pieces with their addresses. -/
opaque runtimePlace : List Nat → List (Nat × List Nat)

/-- The VCO band, the amplitude code and the loop-gain correction an entry of a VCO table holds (R161). -/
opaque vcoBand : List Nat → Nat
opaque vcoAmp : List Nat → Nat
opaque vcoLoop : List Nat → Nat

/-- The die temperature an entry of a VCO table records, in 1/8 °C as 16 bits. -/
opaque vcoTemp : List Nat → Nat

/-- Register k of the BOARD field: LINE_GAIN of ports 0 to 3, then INGRESS_LAT and then EGRESS_LAT of Ethernet ports 0 and 1. -/
opaque boardValue : List Nat → Nat → Nat

end Sys2Proof.Config
end

