-- ==== Sys2Proof/Machine/Regs.lean ====
section
/-!
DEFINITION. What a register field is. A field of spec/'s register tables is named once, as a value of
`Fld`: the word of its block that holds it, its bits in that word, its access code (R4), the instances
its block has (R579), and the value it has after power-on reset. The tables themselves, one definition a
field, are in RegsTime, RegsRadio, RegsMac, RegsTraffic and RegsHost; the scalars the spec gives the part
outside the register space (a running slew, a thread's registers, a Thicket entry's fields ...) are fields
of the same kind, placed above the 256 MiB privileged view, in Inner, so that one store holds them all.
-/

namespace Sys2Proof.Machine

/-- The access codes of R4; `inner` marks a scalar that lies in no register view. -/
inductive Acc where
  | rw | ro | wo | w1c | w1s | rc | rwl | inner
  deriving DecidableEq, Repr

/-- One field: `base` is the offset of instance 0's word, `lo` its lowest bit there and `w` its width;
instance `n = step * i + j` (i below `outer`, j below `inner`) lies at `base + stride * n`; a `wide` field
fills a 64-bit register of two words; `rst n` is instance n's value after power-on reset. -/
structure Fld where
  base : Nat
  lo : Nat
  w : Nat
  acc : Acc
  stride : Nat
  outer : Nat
  step : Nat
  inner : Nat
  wide : Bool
  rst : Nat → Nat

/-- The field's number in the store: no two fields share a word and a lowest bit. -/
def Fld.id (F : Fld) : Nat := F.base * 64 + F.lo

/-- Whether the block has an instance numbered n. -/
def Fld.has (F : Fld) (n : Nat) : Bool := n / F.step < F.outer && n % F.step < F.inner

/-- The offset of instance n's (low) word. -/
def Fld.addr (F : Fld) (n : Nat) : Nat := F.base + F.stride * n

/-- A field of a 32-bit register with `count` instances. -/
def reg (base lo w : Nat) (acc : Acc) (stride count : Nat) (rst : Nat → Nat) : Fld :=
  ⟨base, lo, w, acc, stride, 1, count, count, false, rst⟩

/-- A field that fills a 64-bit register. -/
def regW (base lo w : Nat) (acc : Acc) (stride count : Nat) (rst : Nat → Nat) : Fld :=
  ⟨base, lo, w, acc, stride, 1, count, count, true, rst⟩

/-- A field indexed inside an instance: instance i, index j is number `step * i + j`. -/
def regIx (base lo w : Nat) (acc : Acc) (stride outer step inner : Nat) (wide : Bool)
    (rst : Nat → Nat) : Fld :=
  ⟨base, lo, w, acc, stride, outer, step, inner, wide, rst⟩

/-- A scalar outside every register view, number `k` of the model's list (Inner), `w` bits wide,
with the value `rst` after power-on reset in every instance. -/
def inner (k w rst : Nat) : Fld :=
  ⟨0x100000000 + 4 * k, 0, w, .inner, 0, 1, 1, 1, false, fun _ => rst⟩

/-- As `inner`, the reset value depending on the instance. -/
def innerF (k w : Nat) (rst : Nat → Nat) : Fld :=
  ⟨0x100000000 + 4 * k, 0, w, .inner, 0, 1, 1, 1, false, rst⟩

end Sys2Proof.Machine
end

