-- ==== Sys2Proof/Machine/Inner.lean ====
section
/-!
DEFINITION. The scalars the spec gives the part outside the register space: one definition each, with its width and its
value after power-on reset. They lie in the same store as the register fields, above the 256 MiB view, so no bus
access reaches them.
-/

namespace Sys2Proof.Machine

/-- How many free values have been drawn: a counter of the model, not of the spec (the model's own). -/
def MODEL.FRESH : Fld := inner 0 64 0
/-- The data the last register read answered with (the model's own). -/
def MODEL.DATA : Fld := inner 1 32 0
/-- How the last register access ended: 0 answered, 1 bus error, 2 before READY (the model's own). -/
def MODEL.RESP : Fld := inner 2 2 0
/-- Seconds of the nanosecond clock (R14, R31). -/
def CLK.SEC : Fld := inner 3 48 1577836800
/-- Nanoseconds of the nanosecond clock (R14). -/
def CLK.NS : Fld := inner 4 30 0
/-- Fraction of a nanosecond (R14). -/
def CLK.FRAC : Fld := inner 5 32 0
/-- Adjustment of the slew in progress, signed 2^-32 ns per cycle (R15, R21). -/
def CLK.SLEW_ADJ : Fld := inner 6 32 0
/-- Cycles remaining of the slew in progress (R15, R21). -/
def CLK.SLEW_CNT : Fld := inner 7 64 0
/-- 750 MHz cycles since power-on reset (R15). -/
def CLK.CYC : Fld := inner 8 64 0
/-- Changes of OWN bit k of register i (a Hedge's, or 8 the global one) that ACK has not followed (R580); instances 54: 6 i + k. -/
def EXPX.CHG : Fld := inner 9 16 0
/-- Entries pending for one MSI-X vector since it was last signalled: vector 0 CPL, 1 EV, 2 RX, 3 errors (R430); instances 36 (4 x port + vector). -/
def HST.IRQ_PEND : Fld := inner 10 8 0
/-- MSI-X messages sent on one vector (R430); instances 36 (4 x port + vector). -/
def HST.MSIX_CNT : Fld := inner 11 32 0
/-- Sequence number of the Hedge's next event (R438); instances 9. -/
def HST.EV_SEQ : Fld := inner 12 32 0
/-- Events dropped since the last EVENT_LOSS (R439); instances 9. -/
def HST.EV_UNREP : Fld := inner 13 32 0
/-- CMD CONS at the start of the Hedge reset in progress (R450); instances 9. -/
def HST.CONS0 : Fld := inner 14 32 0
/-- CMD PROD at the start of the Hedge reset in progress (R450); instances 9. -/
def HST.PROD0 : Fld := inner 15 32 0
/-- RESET_CAUSE bits gathered by the Hedge reset in progress (R450); instances 9. -/
def HST.RCAUSE : Fld := inner 16 7 0
/-- Commands without a final completion at the start of the Hedge reset in progress (R450); instances 9. -/
def HST.ENDED0 : Fld := inner 17 32 0
/-- Opcode of the Steward command that runs, or that was running when the Hedge reset started; 0 none (R449, R450); instances 9. -/
def HST.RUN_OP : Fld := inner 18 8 0
/-- TAG of that command (R450); instances 9. -/
def HST.RUN_TAG : Fld := inner 19 32 0
/-- Final code of that command (R450); instances 9. -/
def HST.RUN_CODE : Fld := inner 20 8 0
/-- The command that was running when the Hedge reset started has ended (R448); instances 9. -/
def HST.RUN_END : Fld := inner 21 1 0
/-- A clear of CMD_EN waits for CMD CONS to reach PROD (R431); instances 9. -/
def HST.DRAIN : Fld := inner 22 1 0
/-- Its command ring index (R450); instances 9. -/
def HST.RUN_IDX : Fld := inner 23 32 0
/-- Mesh Phase at which the Steward began it (R443); instances 9. -/
def HST.RUN_AT : Fld := inner 24 64 0
/-- The Hedge whose administrative queue the Steward looks at first (R444). -/
def HST.RR : Fld := inner 25 3 0
/-- Mesh Phase at which the first pending entry of a vector became pending (R430); instances 36 (4 x port + vector). -/
def HST.IRQ_AT : Fld := inner 26 64 0
/-- Mesh Phase of the previous RX_LOSS (R438); instances 8. -/
def HST.LOSS_AT : Fld := inner 27 64 0
/-- An RX_LOSS has been posted (R438); instances 8. -/
def HST.LOSS_ON : Fld := inner 28 1 0
/-- Bus master enable of a PCIe function (R425, R426); instances 8. -/
def HST.FN_BM : Fld := inner 29 1 0
/-- NOBUF drops since the previous RX_LOSS (R438); instances 9. -/
def HST.RX_NOBUF_REP : Fld := inner 30 32 0
/-- HOLD drops since the previous RX_LOSS (R438); instances 9. -/
def HST.RX_HOLD_REP : Fld := inner 31 32 0
/-- BACKLOG drops since the previous RX_LOSS (R438); instances 9. -/
def HST.RX_BACK_REP : Fld := inner 32 32 0
/-- The binding written takes effect when the Hedge reset ends (R424); instances 8. -/
def HST.REBIND : Fld := inner 33 1 0
/-- ATTACH in force while a rebinding waits for its Hedge reset to end (R424); instances 8. -/
def HST.OLD_ATTACH : Fld := inner 34 2 0
/-- FN in force meanwhile (R424); instances 8. -/
def HST.OLD_FN : Fld := inner 35 3 0
/-- ETH_PORT in force meanwhile (R424); instances 8. -/
def HST.OLD_ETH : Fld := inner 36 1 0
/-- OWN_IP6 in force meanwhile (R424); instances 8. -/
def HST.OLD_IP : Fld := inner 37 128 0
/-- The reset in progress: 0 none, 1 core, 2 system, 3 power-on (R475, R482). -/
def RSTX.LEVEL : Fld := inner 38 2 3
/-- A fault decision of class CORE or SYSTEM started the reset in progress (R488, R535). -/
def RSTX.FAULT_START : Fld := inner 39 1 0
/-- A STOP fault holds the part until REFCLK returns (R534, R541). -/
def RSTX.STOPPED : Fld := inner 40 1 0
/-- A hold keeps the part in reset (R479, R508). -/
def RSTX.HELD : Fld := inner 41 1 0
/-- Token bucket of records with ACTION 0, in 2^-24 record (R548). -/
def SCPX.TOK : Fld := innerF 42 40 (fun _ => 4096 * 2 ^ 24)
/-- Mesh Phase of the last refill (R548). -/
def SCPX.TOK_AT : Fld := inner 43 64 0
/-- Records lost since the last LOST record (R547). -/
def SCPX.LOST_UNREP : Fld := inner 44 32 0
/-- Records suppressed since the last SUPPRESSED record (R548). -/
def SCPX.SUP_UNREP : Fld := inner 45 32 0
/-- The first two CODEs suppressed since then (R548); instances 2. -/
def SCPX.SUP_CODE : Fld := inner 46 16 0
/-- The last commit failed its read-back (R544). -/
def SCPX.FAIL_RUN : Fld := inner 47 1 0
/-- The transition running: 0 none, 1 to STANDBY, 2 tuning, 3 READY to TX, 4 TX to READY (R169, R170); instances 4. -/
def CHN.TRANS : Fld := inner 48 3 0
/-- The pending command: 0 none, 1 GO_READY, 2 GO_STANDBY (R174); instances 4. -/
def CHN.PEND : Fld := inner 49 2 0
/-- Nominal FREQ of the current tuning; 0 none (R163); instances 4. -/
def CHN.FREQ : Fld := inner 50 32 0
/-- Nominal FREQ of the chain's previous tuning; 0 none (R163); instances 4. -/
def CHN.PREV : Fld := inner 51 32 0
/-- Offset of the current carrier, signed, 1/16 Hz (R166); instances 4. -/
def CHN.DFN : Fld := inner 52 32 0
/-- Calibration of the tuning that runs: 0 none, 1 stored, 2 full (R163); instances 4. -/
def CHN.CAL : Fld := inner 53 2 0
/-- The head request has passed the checks at the head (R178); instances 4. -/
def CHN.CHECKED : Fld := inner 54 1 0
/-- FLAGS of the head request's result so far (R177); instances 4. -/
def CHN.RFLAGS : Fld := inner 55 8 0
/-- STATUS of the head request's result so far (R177); instances 4. -/
def CHN.STATUS : Fld := inner 56 8 0
/-- Mesh Phase of the first preamble sample; 0 nothing sent (R177); instances 4. -/
def CHN.START : Fld := inner 57 64 0
/-- Compare value of the TX_START that fired (R158, R191); instances 4. -/
def CHN.FIRED_C : Fld := inner 58 64 0
/-- Open-loop driver setpoint, signed 0.25 dBm (R179); instances 4. -/
def CHN.SET0 : Fld := inner 59 16 0
/-- Driver setpoint in force, signed 0.25 dBm (R180); instances 4. -/
def CHN.SETP : Fld := inner 60 16 0
/-- Target power at the connector, signed 0.25 dBm (R179); instances 4. -/
def CHN.TARGET : Fld := inner 61 16 0
/-- Measured power of the frame, signed 0.25 dBm; 0x8000 not measured (R177, R180); instances 4. -/
def CHN.PWR : Fld := innerF 62 16 (fun _ => 0x8000)
/-- Return loss of the frame, 0.25 dB; 0xFF not measured (R177, R183); instances 4. -/
def CHN.RL : Fld := inner 63 8 255
/-- The chain goes to MUTED when TX to READY completes (R170); instances 4. -/
def CHN.NEXT_MUTED : Fld := inner 64 1 0
/-- The chain goes to OFF when TX to READY completes (R170); instances 4. -/
def CHN.NEXT_OFF : Fld := inner 65 1 0
/-- Level of PA_EN[p] (R171); instances 4. -/
def PIN.PA_EN : Fld := inner 66 1 0
/-- Level of TRSW[n] (R171, R189); instances 8. -/
def PIN.TRSW : Fld := inner 67 1 0
/-- DAC code of PA_BIAS[p] (R182); instances 4. -/
def PIN.PA_BIAS : Fld := inner 68 10 0
/-- The field I/O is configured; while 0 every field output is at high impedance (R189, R488). -/
def PIN.CONF : Fld := inner 69 1 0
/-- Level of TIME_IO[n] as driven (R35); instances 8. -/
def PIN.TIME_IO : Fld := inner 70 1 0
/-- Level of PPS_OUT (R35). -/
def PIN.PPS_OUT : Fld := inner 71 1 0
/-- Level of COEX_REQ as driven (R191). -/
def PIN.COEX_REQ : Fld := inner 72 1 0
/-- Level of COEX_PRI as driven (R191). -/
def PIN.COEX_PRI : Fld := inner 73 1 0
/-- COEX_REQ and COEX_PRI are at high impedance (R193). -/
def PIN.COEX_Z : Fld := inner 74 1 1
/-- Level of PWRON_CTL (R527). -/
def PIN.PWRON_CTL : Fld := inner 75 1 1
/-- Read pointer of a FIFO, free-running (R321); instances 2048. -/
def FIFOX.RD : Fld := inner 76 32 0
/-- Write pointer of a FIFO, free-running (R321); instances 2048. -/
def FIFOX.WR : Fld := inner 77 32 0
/-- The two copies of the FIFO's pointers disagree (R321); instances 2048. -/
def FIFOX.PTR_BAD : Fld := inner 78 1 0
/-- Final correction of the power loop, signed 0.25 dB, from which the next frame starts (R180); instances 4096 (1024 x port + MHz segment). -/
def CHN.COR : Fld := inner 79 16 0
/-- Tuner search: trials without gain in a row (R184); instances 4. -/
def CHN.TRIAL : Fld := inner 80 4 0
/-- Tuner search: the field and direction tried next (R184); instances 4. -/
def CHN.TSTEP : Fld := inner 81 3 0
/-- A tuner search is active (R184); instances 4. -/
def CHN.SEARCH : Fld := inner 82 1 0
/-- Tuner search: return loss before the trial (R184); instances 4. -/
def CHN.TRL : Fld := inner 83 8 0
/-- Tuner search: a trial move is in force (R184); instances 4. -/
def CHN.TMOVED : Fld := inner 84 1 0
/-- Tuner search: code before the trial (R184); instances 4. -/
def CHN.TPREV : Fld := inner 85 16 0
/-- Flushes of the synthesiser's table (R162); instances 4. -/
def CALT.FLUSH : Fld := inner 86 32 0
/-- Flush count at the entry's calibration (R162); instances 4096 (1024 x chain + MHz segment). -/
def CALT.MARK : Fld := inner 87 32 0
/-- The entry was marked stale by a loss of lock (R164); instances 4096 (1024 x chain + MHz segment). -/
def CALT.LOST : Fld := inner 88 1 0
/-- Die temperature at calibration, signed 1/8 degree (R161); instances 4096 (1024 x chain + MHz segment). -/
def CALT.TEMP : Fld := inner 89 16 0
/-- Working tuner table (R184); instances 4096 (1024 x port + MHz segment). -/
def TUNE.CODE : Fld := inner 90 16 0
/-- Mesh Phase at which the trigger's pulse ends; 0 none (R35); instances 64. -/
def PTX.END : Fld := inner 91 64 0
/-- TARGET with which the trigger's pulse began (R35); instances 64. -/
def PTX.PIN : Fld := inner 92 4 0
/-- The gate has cleared the head request for this trigger (R207, R209); instances 16. -/
def PTX.CLEARED : Fld := inner 93 1 0
/-- The readiness check of this trigger has passed (R36, R175); instances 16. -/
def PTX.RDY : Fld := inner 94 1 0
/-- The chain has begun READY to TX for this trigger, whose compare value is still to come (R36, R158); instances 16. -/
def PTX.GO : Fld := inner 95 1 0
/-- Mesh Phase of the slice's last ADC snapshot (R35); instances 6. -/
def PTX.SNAP : Fld := inner 96 64 0
/-- Step of the coexistence check that runs; 0 none (R193). -/
def COEXX.STEP : Fld := inner 97 2 0
/-- Chains that assert COEX_REQ, one bit each (R191). -/
def COEXX.BY : Fld := inner 98 4 0
/-- Chains that assert COEX_PRI, one bit each (R191). -/
def COEXX.PRI : Fld := inner 99 4 0
/-- Compare value at which the wires a trigger that will not fire asserted are released; 0 none (R191); instances 4. -/
def CHN.COEXU : Fld := inner 100 64 0
/-- Mesh Phase at which READY to TX or TX to READY began (R171); instances 4. -/
def CHN.T0 : Fld := inner 101 64 0
/-- Effective conducted limit the head request was checked, or decided, under; signed 0.25 dBm (R179, R205); instances 4. -/
def CHN.LIMIT : Fld := inner 102 16 0
/-- The carrier was programmed while the discipline state was neither LOCKED nor HOLDOVER (R160); instances 4. -/
def CHN.OPEN : Fld := inner 103 1 0
/-- The chain has sent no frame since the takeover, and tunes with a full calibration (R467); instances 4. -/
def CHN.FIRST : Fld := inner 104 1 0
/-- Carrier at the connector of the current tuning, 1/16 Hz (R166, R172); instances 4. -/
def CHN.CAR16 : Fld := inner 105 40 0
/-- The loop interval of the frame on air has ended (R180); instances 4. -/
def CHN.FROZEN : Fld := inner 106 1 0
/-- Tuner search: the last move brought no gain and is reverted in the next tuner interval (R184); instances 4. -/
def CHN.TREV : Fld := inner 107 1 0
/-- VCO band in force (R161); instances 4. -/
def SYX.BAND : Fld := inner 108 16 0
/-- VCO amplitude code in force (R161); instances 4. -/
def SYX.AMP : Fld := inner 109 16 0
/-- Loop-gain correction in force (R161); instances 4. -/
def SYX.LOOP : Fld := inner 110 16 0
/-- VCO band (R161); instances 4096 (1024 x chain + MHz segment). -/
def CALT.BAND : Fld := inner 111 16 0
/-- Amplitude code (R161); instances 4096 (1024 x chain + MHz segment). -/
def CALT.AMP : Fld := inner 112 16 0
/-- Loop-gain correction (R161); instances 4096 (1024 x chain + MHz segment). -/
def CALT.LOOP : Fld := inner 113 16 0
/-- The eight values of the transmit power table (R179, R509); instances 4096 (1024 x port + MHz segment). -/
def PWRT.ROW : Fld := inner 114 128 0
/-- The readiness check found the coexistence grant absent (R191); instances 16. -/
def PTX.DENIED : Fld := inner 115 1 0
/-- The driver at port p is on (R169, R171); instances 4. -/
def PIN.DRV : Fld := inner 116 1 0
/-- The cycle in which the reset in progress was taken (R482). -/
def RSTX.CYC : Fld := inner 117 64 0
/-- The cycle in which the newest record was queued (R547). -/
def SCPX.CYC : Fld := inner 118 64 0
/-- FAULT records queued in that cycle (R547). -/
def SCPX.RUN : Fld := inner 119 16 0
/-- Mesh Phase seconds of the entry's insertion, from which its join timeout runs (R65, R350); instances 262144. -/
def NODE.INS_AT : Fld := inner 120 32 0
/-- Mesh Phase seconds of the entry's last REJOIN_SEEN (R353); instances 262144. -/
def NODE.REJOIN_AT : Fld := inner 121 32 0
/-- A REJOIN_SEEN has been posted for the entry (R353); instances 262144. -/
def NODE.REJOIN_ON : Fld := inner 122 1 0
/-- The index is withheld until the walk for its wrapped INCARNATION ends (R60); instances 262144. -/
def THKX.WALK : Fld := inner 123 1 0
/-- SEED_A and SEED_B of the indexes (R61); instances 2. -/
def THKX.SEED : Fld := inner 124 32 0
/-- Tokens of a lane's learning bucket, in 2^-24 (R68); instances 48. -/
def THKX.LANE_TOK : Fld := inner 125 40 0
/-- Mesh Phase of its last refill (R68); instances 48. -/
def THKX.LANE_AT : Fld := inner 126 64 0
/-- Tokens of a Hedge's learning bucket, in 2^-24 (R68); instances 8. -/
def THKX.HEDGE_TOK : Fld := inner 127 40 0
/-- Mesh Phase of its last refill (R68); instances 8. -/
def THKX.HEDGE_AT : Fld := inner 128 64 0
/-- The Thicket window slot is open (R385); instances 2048 (4 x thread + slot). -/
def WIN.OPEN : Fld := inner 129 1 0
/-- The entry it is open on (R385); instances 2048 (4 x thread + slot). -/
def WIN.ENTRY : Fld := inner 130 18 0
/-- 750 MHz cycle at which it opened (R385); instances 2048 (4 x thread + slot). -/
def WIN.AT : Fld := inner 131 64 0
/-- Generation ledger, in MRAM (R353); instances 1048576 (131072 x Hedge + bucket). -/
def LEDGER.GEN : Fld := inner 132 16 0
/-- Entry the aging scanner visits next (R74). -/
def AGING.CURSOR : Fld := inner 133 19 0
/-- Mesh Phase at which the pass began (R74). -/
def AGING.START : Fld := inner 134 64 0
/-- Mesh Phase of the visit of a pass to the last entry (R77). -/
def AGING.DONE_AT : Fld := inner 135 64 0
/-- The entry has not been revalidated since the core reset (R79); instances 262144. -/
def NODE.UNVAL : Fld := inner 136 1 0
/-- The aging pass has visited the entry (R71); instances 262144. -/
def NODE.PASS_ON : Fld := inner 137 1 0
/-- LAST_HIT as that visit met it (R71); instances 262144. -/
def NODE.PASS_HIT : Fld := inner 138 32 0
/-- High word that a read of the low word latched for a requester (R3); instances per requester and register (requester x 2^28 + offset of the low word). -/
def X64.SHADOW : Fld := inner 139 32 0
/-- A latched high word waits for the requester's next read of the high word (R3); instances as X64.SHADOW. -/
def X64.LATCHED : Fld := inner 140 1 0
/-- High word a requester wrote last to a 64-bit register, which its low-word write uses (R3); instances as X64.SHADOW. -/
def X64.PEND : Fld := inner 141 32 0
/-- Consecutive PPS edges spaced 1 s +- 100 ppm, counted up to 3 (R22). -/
def DISC.PPS_RUN : Fld := inner 142 2 0
/-- Cycle of the last active PPS edge (R22, R25). -/
def DISC.PPS_LAST : Fld := inner 143 64 0
/-- An active PPS edge has arrived since PPS_IN was lost (R25). -/
def DISC.PPS_SEEN : Fld := inner 144 1 0
/-- Consecutive pulses with a pulse level above 500 ms, counted up to 3 (R28). -/
def DISC.POL_RUN : Fld := inner 145 2 0
/-- Consecutive samples below LOCK_THR (R23). -/
def DISC.LOCK_RUN : Fld := inner 146 8 0
/-- Consecutive discarded samples (R24). -/
def DISC.OUT_RUN : Fld := inner 147 4 0
/-- ACQUIRING was entered and its first sample is still to come (R23). -/
def DISC.FIRST : Fld := inner 148 1 0
/-- The source selected last (R25). -/
def DISC.LAST_SRC : Fld := inner 149 2 0
/-- What the step-correction walk adds to the entries it has still to reach, modulo 2^64 (R247). -/
def FIX.DELTA : Fld := inner 150 64 0
/-- Edges a capture unit has counted, modulo 2^16 (R41); instances 16. -/
def CAP.SEQ : Fld := inner 151 16 0
/-- The aerial port is out of service and does not receive (R536, R540); instances 4. -/
def RXX.PORT_OUT : Fld := inner 152 1 0
/-- Windows below LOW_THR in a row, the frozen ones left out (R91); instances 4. -/
def RXX.QUIET : Fld := inner 153 32 0
/-- CFG value that waits for the frame to end (R100); instances 48. -/
def LNX.PCFG : Fld := inner 154 32 0
/-- A CFG value waits (R100); instances 48. -/
def LNX.PCFG_ON : Fld := inner 155 1 0
/-- MODES value that waits for the frame to end (R117); instances 48. -/
def LNX.PMODES : Fld := inner 156 16 0
/-- A MODES value waits (R117); instances 48. -/
def LNX.PMODES_ON : Fld := inner 157 1 0
/-- Decoders taken out by a fault (R141). -/
def LDX.OUT : Fld := inner 158 4 0
/-- Number of the next frame a lane receives (the model's own). -/
def RXX.UID : Fld := inner 159 64 1
/-- Mesh Phase since which the aerial port receives (R104); instances 4. -/
def RXX.ON_AT : Fld := inner 160 64 0
/-- Region code in OTP; 0 blank (R202). -/
def OTP.REGION : Fld := inner 161 8 0
/-- The gate's MRAM region holds its header (R217). -/
def LEDG.HEADER : Fld := inner 162 1 0
/-- Calendar seconds of the last write of the gate's MRAM region (R217). -/
def LEDG.AT : Fld := inner 163 48 0
/-- Mesh Phase of the last write of the gate's MRAM region (R217). -/
def LEDG.MP : Fld := inner 164 64 0
/-- The stored copy fails its check (R217). -/
def LEDG.BAD : Fld := inner 165 1 0
/-- A discovery sweep runs (R290); instances 8. -/
def SWEEP.RUN : Fld := inner 166 1 0
/-- Number of the Hedge's sweep (R290); instances 8. -/
def SWEEP.NUM : Fld := inner 167 16 0
/-- Rounds of the sweep (R290); instances 8. -/
def SWEEP.ROUNDS : Fld := inner 168 5 0
/-- Rounds started (R290); instances 8. -/
def SWEEP.ROUND : Fld := inner 169 5 0
/-- Round length (R290); instances 8. -/
def SWEEP.ROUND_S : Fld := inner 170 12 0
/-- TTL of the sweep's requests (R290); instances 8. -/
def SWEEP.TTL : Fld := inner 171 6 0
/-- INCLUDE_SILENT (R290); instances 8. -/
def SWEEP.SILENT : Fld := inner 172 1 0
/-- Mesh Phase seconds of the start (R290); instances 8. -/
def SWEEP.T0 : Fld := inner 173 32 0
/-- A result is held (R292); instances 8. -/
def SWEEP.HAVE : Fld := inner 174 1 0
/-- TAG of the start command (R290); instances 8. -/
def SWEEP.TAG : Fld := inner 175 32 0
/-- Ring index of the start command (R290); instances 8. -/
def SWEEP.INDEX : Fld := inner 176 32 0
/-- Number of the campaign (R284); instances 8. -/
def CAMPX.NUM : Fld := inner 177 32 0
/-- Block size (R284); instances 8. -/
def CAMPX.BSIZE : Fld := inner 178 11 0
/-- Block count (R284); instances 8. -/
def CAMPX.BCOUNT : Fld := inner 179 16 0
/-- DRAM offset of the image in the Hedge's grant (R284); instances 8. -/
def CAMPX.IMAGE : Fld := inner 180 64 0
/-- Octets of the image (R284); instances 8. -/
def CAMPX.LEN : Fld := inner 181 64 0
/-- Multicast rounds begun (R286); instances 8. -/
def CAMPX.MROUND : Fld := inner 182 3 0
/-- ACTIVATE floods sent (R286); instances 8. -/
def CAMPX.ACTS : Fld := inner 183 2 0
/-- ACTIVATE_AT (R285); instances 8. -/
def CAMPX.ACT_AT : Fld := inner 184 32 0
/-- Mesh Phase seconds at which the campaign paused (R289); instances 8. -/
def CAMPX.PAUSED_AT : Fld := inner 185 32 0
/-- State to resume (R289); instances 8. -/
def CAMPX.RESUME : Fld := inner 186 3 0
/-- TAG of the start command (R286); instances 8. -/
def CAMPX.TAG : Fld := inner 187 32 0
/-- Ring index of the start command (R286); instances 8. -/
def CAMPX.INDEX : Fld := inner 188 32 0
/-- The start command has no final completion yet (R286); instances 8. -/
def CAMPX.CMD : Fld := inner 189 1 0
/-- Hash list, copied to chip SRAM (R284); instances 524288 (65536 x Hedge + block). -/
def CAMPX.HASH : Fld := inner 190 256 0
/-- A campaign frame in hand has been handed to the queues (R289); instances 8. -/
def CAMPX.HAND : Fld := inner 191 1 0
/-- Mesh Phase seconds at which the REPORTING window ends, or the next ACTIVATE flood is due (R286); instances 8. -/
def CAMPX.WIN_AT : Fld := inner 192 32 0
/-- A beacon has been sent since BEACON.CTL.EN was last found clear (R46); instances 8. -/
def BEACX.SENT : Fld := inner 193 1 0
/-- Mesh Phase seconds of the last beacon (R46); instances 8. -/
def BEACX.AT : Fld := inner 194 32 0
/-- Tokens of a shaper, signed, in 2^-24 unit (R311); instances 1024. -/
def SHP.T : Fld := inner 195 64 0
/-- Mesh Phase at which the shaper was examined last (R311); instances 1024. -/
def SHP.PREV : Fld := inner 196 64 0
/-- RATE as committed (R313); instances 1024. -/
def SHP.RATE : Fld := inner 197 32 0
/-- BURST as committed (R313); instances 1024. -/
def SHP.BURST : Fld := inner 198 32 0
/-- OVERHEAD as committed (R313); instances 1024. -/
def SHP.OVH : Fld := inner 199 16 0
/-- MODE as committed (R313); instances 1024. -/
def SHP.MODE : Fld := innerF 200 1 (fun s => if 44 ≤ s ∧ s < 60 then 1 else 0)
/-- Committed bucket, in 2^-24 unit (R305); instances 16384. -/
def MTR.TC : Fld := inner 201 64 0
/-- Peak bucket, in 2^-24 unit (R305); instances 16384. -/
def MTR.TP : Fld := inner 202 64 0
/-- Mesh Phase of the buckets' last refill (R305); instances 16384. -/
def MTR.PREV : Fld := inner 203 64 0
/-- CIR as committed (R305); instances 16384. -/
def MTR.CIR : Fld := inner 204 32 0
/-- PIR as committed (R305); instances 16384. -/
def MTR.PIR : Fld := inner 205 32 0
/-- CBS as committed (R305); instances 16384. -/
def MTR.CBS : Fld := inner 206 32 0
/-- PBS as committed (R305); instances 16384. -/
def MTR.PBS : Fld := inner 207 32 0
/-- OVH as committed (R305); instances 16384. -/
def MTR.OVH : Fld := inner 208 16 0
/-- MODE as committed (R305); instances 16384. -/
def MTR.MODE : Fld := inner 209 1 0
/-- AWARE as committed (R305); instances 16384. -/
def MTR.AWARE : Fld := inner 210 1 0
/-- Start tag of a class at an output (R307); instances 16 (4 x output + class). -/
def OFLOW.S : Fld := inner 211 64 0
/-- Finish tag of a class at an output (R307); instances 16 (4 x output + class). -/
def OFLOW.F : Fld := inner 212 64 0
/-- The class was backlogged at the output when it was last looked at (R307); instances 16 (4 x output + class). -/
def OFLOW.BACK : Fld := inner 213 1 0
/-- The aggregate was backlogged when it was last looked at (R307); instances 32. -/
def AFLOW.BACK : Fld := inner 214 1 0
/-- ELIG of a node queue (R301); instances 262144. -/
def NQ.ELIG : Fld := inner 215 64 0
/-- ELIG is HOLD because the wake channel cannot be known (R251, R301); instances 262144. -/
def NQ.UNKNOWN : Fld := inner 216 1 0
/-- Group shaper a node queue is bound to (R312); instances 262144. -/
def NQ.GROUP : Fld := inner 217 10 0
/-- The node queue is bound to NQ.GROUP (R312); instances 262144. -/
def NQ.GROUP_EN : Fld := inner 218 1 0
/-- DEPTH_HWM of a node queue (R316); instances 262144. -/
def NQ.HWM : Fld := inner 219 10 0
/-- Place of the queue's list in the round of its aggregate: lower is served first (R308); instances 1048576 (4 x queue + class). -/
def NQ.TURN : Fld := inner 220 64 0
/-- The next place at the tail of an aggregate's round (R308); instances 32. -/
def AGGX.TURN : Fld := inner 221 64 0
/-- Number of the next downlink, its TAG in requests (the model's own). -/
def DOWNX.NEXT : Fld := inner 222 31 1
/-- The queue's list was eligible when it was last looked at (R301, R308); instances 1048704 (4 x queue + class). -/
def NQ.BACK : Fld := inner 223 1 0
/-- Mesh Phase at which the queue's list last became eligible (R315); instances 1048704 (4 x queue + class). -/
def NQ.SINCE : Fld := inner 224 64 0
/-- Security lifecycle in OTP: 0 BLANK, 1 ROOTED, 2 CERTIFIED, 3 RETIRED (R334). -/
def OTP.LIFE : Fld := inner 225 2 0
/-- Device root in OTP, most significant octet first (R335). -/
def OTP.ROOT : Fld := inner 226 256 0
/-- Material of a slot, most significant octet first (R337, R341); instances 1024. -/
def KSX.MAT : Fld := inner 227 256 0
/-- Mesh Phase of the last cycle in which the slot's material was retired (R357, R358); instances 1024. -/
def KSX.RETIRED_AT : Fld := inner 228 64 0
/-- Reserved ceiling of GROUP_TX_CNT, in MRAM (R347); instances 8. -/
def GRPX.CEIL : Fld := inner 229 32 0
/-- A group rekey runs (R356); instances 8. -/
def GRPX.RUN : Fld := inner 230 1 0
/-- SWITCH_AT of the group rekey that runs (R356); instances 8. -/
def GRPX.SWITCH_AT : Fld := inner 231 32 0
/-- Previous group generation, accepted until its overlap ends; 0 none (R346, R356); instances 8. -/
def GRPX.PREV : Fld := inner 232 16 0
/-- Mesh Phase seconds at which that overlap ends (R356); instances 8. -/
def GRPX.PREV_AT : Fld := inner 233 32 0
/-- COUNTER_WARN has been posted for the group generation (R348); instances 8. -/
def GRPX.WARN : Fld := inner 234 1 0
/-- A Rekey command has been sent and no frame under the new key has come (R354); instances 262144. -/
def NODE.REKEY_ON : Fld := inner 235 1 0
/-- Mesh Phase seconds of that command (R354); instances 262144. -/
def NODE.REKEY_AT : Fld := inner 236 32 0
/-- COUNTER_WARN has been posted for TX_CNT under the key generation (R348); instances 262144. -/
def NODE.TXWARN : Fld := inner 237 1 0
/-- COUNTER_WARN has been posted for RX_CNT under the key generation (R219); instances 262144. -/
def NODE.RXWARN : Fld := inner 238 1 0
/-- Mesh Phase of the entry's last Join Response; 0 none (R351); instances 262144. -/
def NODE.JOIN_AT : Fld := inner 239 64 0
/-- Ephemeral private key in use, most significant octet first (R351). -/
def JOINX.EPH : Fld := inner 240 256 0
/-- Responses it has served (R351). -/
def JOINX.EPH_N : Fld := inner 241 9 256
/-- Mesh Phase at which it was made (R351). -/
def JOINX.EPH_AT : Fld := inner 242 64 0
/-- PAIR of the last response split (R352). -/
def JOINX.PAIR : Fld := inner 243 8 0
/-- Mesh Phase of the last DRBG failure; 0 none (R333). -/
def DRBGX.F1 : Fld := inner 244 64 0
/-- Mesh Phase of the failure before it; 0 none (R333). -/
def DRBGX.F2 : Fld := inner 245 64 0
/-- Sequence number of the Hedge's next frame (R226); instances 8. -/
def MACX.SEQ : Fld := inner 246 8 0
/-- General register of a thread; register 0 is never written (R371); instances 16384 (32 x thread + register). -/
def THR.W : Fld := inner 247 32 0
/-- Program counter (R371); instances 512. -/
def THR.PC : Fld := inner 248 32 0
/-- Flags, as PSR[3:0]: bit 3 Z, 2 N, 1 C, 0 V (R371); instances 512. -/
def THR.FLAGS : Fld := inner 249 4 0
/-- PSR.T, in trap (R371); instances 512. -/
def THR.T : Fld := inner 250 1 0
/-- DRAM window base in 16 MiB units (R371); instances 512. -/
def THR.SEG : Fld := inner 251 32 0
/-- Events that may wake the thread (R371); instances 512. -/
def THR.EVMASK : Fld := inner 252 32 0
/-- Pending edge events (the level bits 0 to 15 are computed) (R380); instances 512. -/
def THR.EVPEND : Fld := inner 253 32 0
/-- Trap vector (R371); instances 512. -/
def THR.TVEC : Fld := inner 254 32 0
/-- PC of the trapping instruction (R371); instances 512. -/
def THR.EPC : Fld := inner 255 32 0
/-- Trap cause (R371); instances 512. -/
def THR.ECAUSE : Fld := inner 256 8 0
/-- Faulting address or operand (R371); instances 512. -/
def THR.EVAL : Fld := inner 257 32 0
/-- Compare value TARM armed (R371); instances 512. -/
def THR.TIMER : Fld := inner 258 64 0
/-- The timer is armed (R383); instances 512. -/
def THR.TIMER_ON : Fld := inner 259 1 0
/-- CYCLE_HI as the last read of CYCLE_LO latched it (R371); instances 512. -/
def THR.CYC_HI : Fld := inner 260 32 0
/-- SCRATCH (R371); instances 512. -/
def THR.SCRATCH : Fld := inner 261 32 0
/-- FIFO watch slot (R371); instances 8192 (16 x thread + slot). -/
def THR.WSLOT : Fld := inner 262 16 0
/-- What a waiting thread waits for: 0 nothing, 1 events, 2 Mesh Phase, 3 a crypto ticket, 4 space in a FIFO, 5 the end of holds (TDEL), 6 a walk (TINS) (R379, R381, R383, R419); instances 512. -/
def THR.WAIT : Fld := inner 263 4 0
/-- The register the wait will write (R379, R381, R419); instances 512. -/
def THR.WREG : Fld := inner 264 5 0
/-- The mask, Mesh Phase value, ticket, FIFO or entry waited for (R379, R381, R383); instances 512. -/
def THR.WVAL : Fld := inner 265 64 0
/-- Source address of a stalled QPUT (R379); instances 512. -/
def THR.WADDR : Fld := inner 266 32 0
/-- Length of a stalled QPUT (R379); instances 512. -/
def THR.WLEN : Fld := inner 267 32 0
/-- 750 MHz cycle at which a store on a full FIFO stalled (R379); instances 512. -/
def THR.WAT : Fld := inner 268 64 0
/-- THR.CYC_HI waits for the next read of CYCLE_HI (R371); instances 512. -/
def THR.CYC_ON : Fld := inner 269 1 0
/-- 750 MHz cycle of the engine watchdog's last reload (R389); instances 128. -/
def ENGX.KICK : Fld := inner 270 64 0
/-- Written bitmap (R504); instances 4 KiB granules of DRAM. -/
def DRX.WRITTEN : Fld := inner 271 1 0
/-- SEQ of the part's last message in the session (R446); instances 8. -/
def TUN.TX_SEQ : Fld := inner 272 32 0
/-- SEQ of the last message accepted in order from the host (R446); instances 8. -/
def TUN.RX_SEQ : Fld := inner 273 32 0
/-- NONCE_CNT of the part's next message (R447); instances 8. -/
def TUN.NONCE : Fld := inner 274 32 0
/-- The ceiling of NONCE_CNT in MRAM (R447); instances 8. -/
def TUN.CEIL : Fld := inner 275 32 0
/-- Mesh Phase of the last message from the host (R446); instances 8. -/
def TUN.HEARD_AT : Fld := inner 276 64 0
/-- Mesh Phase of the last message to the host (R446); instances 8. -/
def TUN.SENT_AT : Fld := inner 277 64 0
/-- One more than the NONCE_CNT of the last message accepted from the host; 0 none (R447); instances 8. -/
def TUN.RX_NONCE : Fld := inner 278 33 0
/-- RX messages the host still grants (R445); instances 8. -/
def TUN.CREDIT : Fld := inner 279 32 0
/-- The part waits for the first HELLO since CFG.EN was set (R458). -/
def TWINX.WAIT : Fld := inner 280 1 0
/-- Mesh Phase at which CFG.EN was set (R458). -/
def TWINX.EN_AT : Fld := inner 281 64 0
/-- SYS.EUI64 of the partner; 0 none has been heard (R458). -/
def TWINX.PARTNER : Fld := inner 282 64 0
/-- Mesh Phase of the last message on the Twin link (R459). -/
def TWINX.HEARD : Fld := inner 283 64 0
/-- Mesh Phase of the last heartbeat message sent (R459). -/
def TWINX.SENT : Fld := inner 284 64 0
/-- Mesh Phase of the last edge of the partner's heartbeat (R460). -/
def TWINX.HB_EDGE : Fld := inner 285 64 0
/-- Mesh Phase of the part's last change to ACTIVE (R470). -/
def TWINX.ACTIVE_AT : Fld := inner 286 64 0
/-- The next snapshot is the first to its partner (R462). -/
def TWINX.FULL_DUE : Fld := inner 287 1 0
/-- One more than the Twin cycle of the last snapshot; 0 none (R462). -/
def TWINX.CYCLE : Fld := inner 288 64 0
/-- Mesh Phase of the last loopback test (R469). -/
def TWINX.LOOP_AT : Fld := inner 289 64 0
/-- One more than the cause of a role change a core reset makes, not yet reported; 0 none (R471). -/
def TWINX.TOLD : Fld := inner 290 3 0
/-- The sweep's start command has no final completion yet (R290); instances 8. -/
def SWEEP.CMD : Fld := inner 291 1 0
/-- Sequence number of the next frame sent with a trailer (R472). -/
def PRPX.SEQ : Fld := inner 292 16 0
/-- Mesh Phase of the last supervision frame sent (R472). -/
def PRPX.SUP_AT : Fld := inner 293 64 0
/-- Mesh Phase of the last supervision frame received on a port (R472); instances 2. -/
def PRPX.HEARD : Fld := inner 294 64 0
/-- Key of the next record (R545). -/
def SCPX.NEXT : Fld := inner 295 40 0
/-- Mesh Phase of the last SUPPRESSED record (R548). -/
def SCPX.SUP_AT : Fld := inner 296 64 0
/-- EUI64 in OTP (R505). -/
def OTP.EUI64 : Fld := inner 297 64 0
/-- STRAPS in OTP: BIFUR reset value (R505). -/
def OTP.STRAPS : Fld := inner 298 1 0
/-- MIN_SVN thermometer in OTP (R505, R497). -/
def OTP.MIN_SVN : Fld := inner 299 64 0
/-- Vendor anchor in OTP, most significant octet first (R505, R493). -/
def OTP.ANCHOR : Fld := inner 300 384 0
/-- Device certificate in OTP, least significant octet first as SEC.CERT shows it (R505, R336). -/
def OTP.CERT : Fld := inner 301 768 0
/-- The root bank is not blank (R505, R508); instances 2. -/
def OTP.USED : Fld := inner 302 1 0
/-- LIFE.ROOT_BANK1: the root lies in bank 1 (R505, R508). -/
def OTP.BANK1 : Fld := inner 303 1 0
/-- The part is in recovery and waits for RECOV.GO (R499). -/
def BOOTX.RECOV : Fld := inner 304 1 0
/-- ROLLBACK_LOCK of the image that runs (R496). -/
def BOOTX.LOCK : Fld := inner 305 1 0
/-- A BOOT_IMAGE_WRITE programs the flash (R498). -/
def BOOTX.WON : Fld := inner 306 1 0
/-- Its TAG (R498). -/
def BOOTX.WTAG : Fld := inner 307 32 0
/-- Its ring index (R498). -/
def BOOTX.WINDEX : Fld := inner 308 32 0
/-- The slot it writes (R498). -/
def BOOTX.WSLOT : Fld := inner 309 1 0
/-- Its ACTIVATE (R498). -/
def BOOTX.WACT : Fld := inner 310 1 0
/-- Shadow of time register k (SEC to CENTURY) in a view (R522); instances 8 of each view: 8 n + k, n 0 the privileged view and h + 1 Hedge h's. -/
def RTCX.SHADOW : Fld := inner 311 8 0
/-- The eight calendar octets when HALT was set (R525). -/
def RTCX.OLD : Fld := inner 312 64 0
/-- The main supply is off: the backup domain draws on VBAT (R518, R530). -/
def RTCX.OFF : Fld := inner 313 1 0
/-- The TRIGGER event of a PENDING occurrence has been posted (R529); instances 16. -/
def CTX.POSTED : Fld := inner 314 1 0
/-- Its sequence number (R529); instances 16. -/
def CTX.SEQ : Fld := inner 315 32 0
/-- The missed record has been posted in a MISSED_TRIGGERS event (R531); instances 16. -/
def CTX.MPOST : Fld := inner 316 1 0
/-- Its sequence number (R531); instances 16. -/
def CTX.MSEQ : Fld := inner 317 32 0
/-- Due time of the PENDING occurrence, low word (R529); instances 16. -/
def CTX.PEND_LO : Fld := inner 318 32 0
/-- Its high word (R529); instances 16. -/
def CTX.PEND_HI : Fld := inner 319 32 0
/-- Instants plus 1 of the newest uncorrectable blocks of channel c, newest first (R536); instances 6: 3 c + i. -/
def DRX.ERR_AT : Fld := inner 320 64 0
/-- The channel's last probe failed (R536); instances 2. -/
def DRX.PROBE : Fld := inner 321 1 0
/-- A tamper record of TAMPER[n] is still to be written (R568); instances 2. -/
def PADX.DUE : Fld := inner 322 1 0
/-- TJ_MAX holds a reading since it was last read (R573). -/
def PADX.TJ_SEEN : Fld := inner 323 1 0

/-- The scalars named THR. -/
def THR.flds : List Fld :=
  [THR.W, THR.PC, THR.FLAGS, THR.T, THR.SEG, THR.EVMASK, THR.EVPEND, THR.TVEC, THR.EPC, THR.ECAUSE, THR.EVAL, THR.TIMER, THR.TIMER_ON, THR.CYC_HI, THR.SCRATCH, THR.WSLOT, THR.WAIT, THR.WREG, THR.WVAL, THR.WADDR, THR.WLEN, THR.WAT, THR.CYC_ON]

/-- The scalars named WIN. -/
def WIN.flds : List Fld :=
  [WIN.OPEN, WIN.ENTRY, WIN.AT]

/-- The scalars named OFLOW. -/
def OFLOW.flds : List Fld :=
  [OFLOW.S, OFLOW.F, OFLOW.BACK]

/-- The scalars named AFLOW. -/
def AFLOW.flds : List Fld :=
  [AFLOW.BACK]

/-- The scalars named NQ. -/
def NQ.flds : List Fld :=
  [NQ.ELIG, NQ.UNKNOWN, NQ.GROUP, NQ.GROUP_EN, NQ.HWM, NQ.TURN, NQ.BACK, NQ.SINCE]

/-- The scalars named AGGX. -/
def AGGX.flds : List Fld :=
  [AGGX.TURN]

/-- The scalars named FIFOX. -/
def FIFOX.flds : List Fld :=
  [FIFOX.RD, FIFOX.WR, FIFOX.PTR_BAD]

/-- The scalars named CALT. -/
def CALT.flds : List Fld :=
  [CALT.FLUSH, CALT.MARK, CALT.LOST, CALT.TEMP, CALT.BAND, CALT.AMP, CALT.LOOP]

/-- The scalars named TUNE. -/
def TUNE.flds : List Fld :=
  [TUNE.CODE]

/-- The scalars that lie in MRAM, OTP or the backup domain, which no reset level of R475 changes. -/
def keptInner : List Fld :=
  [LEDGER.GEN, OTP.REGION, LEDG.HEADER, LEDG.AT, LEDG.MP, LEDG.BAD, OTP.LIFE, OTP.ROOT] ++
  [KSX.MAT, GRPX.CEIL, TUN.CEIL, OTP.EUI64, OTP.STRAPS, OTP.MIN_SVN, OTP.ANCHOR, OTP.CERT] ++
  [OTP.USED, OTP.BANK1, RTCX.SHADOW, RTCX.OLD, RTCX.OFF, CTX.PEND_LO, CTX.PEND_HI, PADX.DUE]

end Sys2Proof.Machine
end

