-- ==== Sys2Proof/Machine/RegsHost.lean ====
section
/-!
DEFINITION. The register fields of the blocks HOSTG, HBIND, HOSTH, TWIN, PRP, RST, BOOT, OTP, DDR, CAL, RTC, FLT, SCP, PADS: one definition a field,
with the word it lies in, its bits, access code and reset value as the register tables of spec/ give them.
-/

namespace Sys2Proof.Machine

/-- [0] HOSTG CFG.BIFUR, RWL, reset F (R453). 0 one x8, 1 two x4. -/
def HOSTG.CFG_BIFUR : Fld := reg 0xB00000 0 1 .rwl 0x0 1 (fun _ => 0)
/-- [6:4] HOSTG CFG.PRIV_FN, RWL, reset 0 (R453). Function carrying BAR2. -/
def HOSTG.CFG_PRIV_FN : Fld := reg 0xB00000 4 3 .rwl 0x0 1 (fun _ => 0)
/-- [8] HOSTG CFG.LOCK, W1S, reset 0 (R453). Locks BIFUR, PRIV_FN and FN_EN; cleared by system reset. -/
def HOSTG.CFG_LOCK : Fld := reg 0xB00000 8 1 .w1s 0x0 1 (fun _ => 0)
/-- [7:0] HOSTG FN_EN, RWL, reset 0x01 (R453). Functions enabled. -/
def HOSTG.FN_EN : Fld := reg 0xB00004 0 8 .rwl 0x0 1 (fun _ => 0x01)
/-- [3:0] HOSTG LINK[p].WIDTH, RO, reset 0 (R453). Lanes trained. -/
def HOSTG.LINK_WIDTH : Fld := reg 0xB00008 0 4 .ro 0x4 2 (fun _ => 0)
/-- [7:4] HOSTG LINK[p].SPEED, RO, reset 0 (R453). 1 to 4: 2.5, 5, 8, 16 GT/s. -/
def HOSTG.LINK_SPEED : Fld := reg 0xB00008 4 4 .ro 0x4 2 (fun _ => 0)
/-- [15:8] HOSTG LINK[p].POL_INV, RO, reset 0 (R453). Lanes inverted in training. -/
def HOSTG.LINK_POL_INV : Fld := reg 0xB00008 8 8 .ro 0x4 2 (fun _ => 0)
/-- [13:0] HOSTG TUN.MTU, RW, reset 1,500 (R453). 1,280 to 9,000; others ignored. -/
def HOSTG.TUN_MTU : Fld := reg 0xB00010 0 14 .rw 0x0 1 (fun _ => 1500)
/-- [31:16] HOSTG TUN.RTO, RW, reset 20 (R453). ms, 1 to 1,000. -/
def HOSTG.TUN_RTO : Fld := reg 0xB00010 16 16 .rw 0x0 1 (fun _ => 20)
/-- [31:0] HOSTG PERST_CNT, RC, reset 0 (R453). -/
def HOSTG.PERST_CNT : Fld := reg 0xB00014 0 32 .rc 0x0 1 (fun _ => 0)
/-- [0] HOSTG EVENT.BAD_CFG, W1C, reset 0 (R453). -/
def HOSTG.EVENT_BAD_CFG : Fld := reg 0xB00018 0 1 .w1c 0x0 1 (fun _ => 0)
/-- Every field of the block HOSTG. -/
def HOSTG.flds : List Fld :=
  [HOSTG.CFG_BIFUR, HOSTG.CFG_PRIV_FN, HOSTG.CFG_LOCK, HOSTG.FN_EN, HOSTG.LINK_WIDTH, HOSTG.LINK_SPEED, HOSTG.LINK_POL_INV, HOSTG.TUN_MTU, HOSTG.TUN_RTO, HOSTG.PERST_CNT, HOSTG.EVENT_BAD_CFG]

/-- [1:0] HBIND CTL.ATTACH, RW, reset 0 (R454). 0 none, 1 PCIe, 2 Tunnel. -/
def HBIND.CTL_ATTACH : Fld := reg 0xB01000 0 2 .rw 0x80 8 (fun _ => 0)
/-- [6:4] HBIND CTL.FN, RW, reset 0 (R454). PCIe function. -/
def HBIND.CTL_FN : Fld := reg 0xB01000 4 3 .rw 0x80 8 (fun _ => 0)
/-- [8] HBIND CTL.ETH_PORT, RW, reset 0 (R454). Tunnel port. -/
def HBIND.CTL_ETH_PORT : Fld := reg 0xB01000 8 1 .rw 0x80 8 (fun _ => 0)
/-- [9] HBIND CTL.TUN_SEC, RW, reset 1 (R454). -/
def HBIND.CTL_TUN_SEC : Fld := reg 0xB01000 9 1 .rw 0x80 8 (fun _ => 1)
/-- [16] HBIND CTL.HRESET, WO, reset 0 (R454). Starts a Hedge reset, cause PRIV. -/
def HBIND.CTL_HRESET : Fld := reg 0xB01000 16 1 .wo 0x80 8 (fun _ => 0)
/-- [15:0] HBIND PORTS.LOCAL_PORT, RW, reset 48,000 (R454). -/
def HBIND.PORTS_LOCAL_PORT : Fld := reg 0xB01004 0 16 .rw 0x80 8 (fun _ => 48000)
/-- [31:16] HBIND PORTS.PEER_PORT, RW, reset 48,000 (R454). -/
def HBIND.PORTS_PEER_PORT : Fld := reg 0xB01004 16 16 .rw 0x80 8 (fun _ => 48000)
/-- [9:0] HBIND KEYS.TUN_TX_KEY, RW, reset 0x3FF (R454). Slot of h. -/
def HBIND.KEYS_TUN_TX_KEY : Fld := reg 0xB01008 0 10 .rw 0x80 8 (fun _ => 0x3FF)
/-- [25:16] HBIND KEYS.TUN_RX_KEY, RW, reset 0x3FF (R454). -/
def HBIND.KEYS_TUN_RX_KEY : Fld := reg 0xB01008 16 10 .rw 0x80 8 (fun _ => 0x3FF)
/-- [127:0] HBIND OWN_IP6, RW, reset 0 (R454). four words, most significant word first. -/
def HBIND.OWN_IP6_W0 : Fld := reg 0xB01010 0 32 .rw 0x80 8 (fun _ => 0)
/-- [127:0] HBIND OWN_IP6, RW, reset 0 (R454). four words, most significant word first. -/
def HBIND.OWN_IP6_W1 : Fld := reg 0xB01014 0 32 .rw 0x80 8 (fun _ => 0)
/-- [127:0] HBIND OWN_IP6, RW, reset 0 (R454). four words, most significant word first. -/
def HBIND.OWN_IP6_W2 : Fld := reg 0xB01018 0 32 .rw 0x80 8 (fun _ => 0)
/-- [127:0] HBIND OWN_IP6, RW, reset 0 (R454). four words, most significant word first. -/
def HBIND.OWN_IP6_W3 : Fld := reg 0xB0101C 0 32 .rw 0x80 8 (fun _ => 0)
/-- [127:0] HBIND PEER_IP6, RW, reset 0 (R454). -/
def HBIND.PEER_IP6_W0 : Fld := reg 0xB01020 0 32 .rw 0x80 8 (fun _ => 0)
/-- [127:0] HBIND PEER_IP6, RW, reset 0 (R454). -/
def HBIND.PEER_IP6_W1 : Fld := reg 0xB01024 0 32 .rw 0x80 8 (fun _ => 0)
/-- [127:0] HBIND PEER_IP6, RW, reset 0 (R454). -/
def HBIND.PEER_IP6_W2 : Fld := reg 0xB01028 0 32 .rw 0x80 8 (fun _ => 0)
/-- [127:0] HBIND PEER_IP6, RW, reset 0 (R454). -/
def HBIND.PEER_IP6_W3 : Fld := reg 0xB0102C 0 32 .rw 0x80 8 (fun _ => 0)
/-- [63:0] HBIND PEER_ID, RW, reset 0 (R454). 64-bit. -/
def HBIND.PEER_ID : Fld := regW 0xB01030 0 64 .rw 0x80 8 (fun _ => 0)
/-- [47:0] HBIND NEXT_MAC, RW, reset 0 (R454). 64-bit; bits [63:48] reserved. -/
def HBIND.NEXT_MAC : Fld := regW 0xB01038 0 48 .rw 0x80 8 (fun _ => 0)
/-- [0] HBIND STATUS.UP, RO, reset 0 (R454). Link trained, or Tunnel session live. -/
def HBIND.STATUS_UP : Fld := reg 0xB01040 0 1 .ro 0x80 8 (fun _ => 0)
/-- [31:16] HBIND STATUS.SESSION, RO, reset 0 (R454). SESSION value of the live Tunnel session; 0 while none is live. -/
def HBIND.STATUS_SESSION : Fld := reg 0xB01040 16 16 .ro 0x80 8 (fun _ => 0)
/-- [31:0] HBIND TUN_AUTH_DROP, RC, reset 0 (R454). -/
def HBIND.TUN_AUTH_DROP : Fld := reg 0xB01044 0 32 .rc 0x80 8 (fun _ => 0)
/-- Every field of the block HBIND. -/
def HBIND.flds : List Fld :=
  [HBIND.CTL_ATTACH, HBIND.CTL_FN, HBIND.CTL_ETH_PORT, HBIND.CTL_TUN_SEC, HBIND.CTL_HRESET, HBIND.PORTS_LOCAL_PORT, HBIND.PORTS_PEER_PORT, HBIND.KEYS_TUN_TX_KEY, HBIND.KEYS_TUN_RX_KEY, HBIND.OWN_IP6_W0, HBIND.OWN_IP6_W1, HBIND.OWN_IP6_W2, HBIND.OWN_IP6_W3, HBIND.PEER_IP6_W0, HBIND.PEER_IP6_W1, HBIND.PEER_IP6_W2, HBIND.PEER_IP6_W3, HBIND.PEER_ID, HBIND.NEXT_MAC, HBIND.STATUS_UP, HBIND.STATUS_SESSION, HBIND.TUN_AUTH_DROP]

/-- [0] HOSTH CTL.CMD_EN, RW, reset 0 (R455). Clear takes effect as R431. -/
def HOSTH.CTL_CMD_EN : Fld := reg 0xB10000 0 1 .rw 0x1000 9 (fun _ => 0)
/-- [1] HOSTH CTL.CPL_EN, RW, reset 0 (R455). -/
def HOSTH.CTL_CPL_EN : Fld := reg 0xB10000 1 1 .rw 0x1000 9 (fun _ => 0)
/-- [2] HOSTH CTL.EV_EN, RW, reset 0 (R455). -/
def HOSTH.CTL_EV_EN : Fld := reg 0xB10000 2 1 .rw 0x1000 9 (fun _ => 0)
/-- [3] HOSTH CTL.RX_EN, RW, reset 0 (R455). -/
def HOSTH.CTL_RX_EN : Fld := reg 0xB10000 3 1 .rw 0x1000 9 (fun _ => 0)
/-- [8] HOSTH CTL.HRESET, W1S, reset 0 (R455). Self-reset, cause SELF; reads 1 while IN_RESET. -/
def HOSTH.CTL_HRESET : Fld := reg 0xB10000 8 1 .w1s 0x1000 9 (fun _ => 0)
/-- [9] HOSTH CTL.TRUMP_NOW, RW, reset 1 (R455). R430. -/
def HOSTH.CTL_TRUMP_NOW : Fld := reg 0xB10000 9 1 .rw 0x1000 9 (fun _ => 1)
/-- [0] HOSTH STATUS.IN_RESET, RO, reset 0 (R455). -/
def HOSTH.STATUS_IN_RESET : Fld := reg 0xB10004 0 1 .ro 0x1000 9 (fun _ => 0)
/-- [1] HOSTH STATUS.BM, RO, reset 0 (R455). Bus master enabled. -/
def HOSTH.STATUS_BM : Fld := reg 0xB10004 1 1 .ro 0x1000 9 (fun _ => 0)
/-- [6:0] HOSTH RESET_CAUSE, W1C, reset 0 (R455). [0] SELF, [1] PRIV, [2] FLR, [3] PERST, [4] WATCHDOG, [5] REBIND, [6] FAULT. -/
def HOSTH.RESET_CAUSE : Fld := reg 0xB10008 0 7 .w1c 0x1000 9 (fun _ => 0)
/-- [15:0] HOSTH OUTSTANDING.MAX, RW, reset 4,096 (R455). 1 to 16,384; privileged write. -/
def HOSTH.OUTSTANDING_MAX : Fld := reg 0xB1000C 0 16 .rw 0x1000 9 (fun _ => 4096)
/-- [31:16] HOSTH OUTSTANDING.NOW, RO, reset 0 (R455). -/
def HOSTH.OUTSTANDING_NOW : Fld := reg 0xB1000C 16 16 .ro 0x1000 9 (fun _ => 0)
/-- [15:0] HOSTH UPLINK_HOLD, RW, reset 2,000 (R455). ms, 0 to 60,000; others ignored. -/
def HOSTH.UPLINK_HOLD : Fld := reg 0xB10010 0 16 .rw 0x1000 9 (fun _ => 2000)
/-- [23:0] HOSTH BACKLOG_MAX, RW, reset 524,288 (R455). Octets; privileged write. -/
def HOSTH.BACKLOG_MAX : Fld := reg 0xB10014 0 24 .rw 0x1000 9 (fun _ => 524288)
/-- [23:0] HOSTH BACKLOG_NOW, RO, reset 0 (R455). -/
def HOSTH.BACKLOG_NOW : Fld := reg 0xB10018 0 24 .ro 0x1000 9 (fun _ => 0)
/-- [15:0] HOSTH IRQ.TIME, RW, reset 50 (R455). µs. -/
def HOSTH.IRQ_TIME : Fld := reg 0xB1001C 0 16 .rw 0x1000 9 (fun _ => 50)
/-- [23:16] HOSTH IRQ.COUNT, RW, reset 16 (R455). 1 to 255. -/
def HOSTH.IRQ_COUNT : Fld := reg 0xB1001C 16 8 .rw 0x1000 9 (fun _ => 16)
/-- [2:0] HOSTH PT_MAX, RW, reset 5 (R455). Privileged write. -/
def HOSTH.PT_MAX : Fld := reg 0xB10020 0 3 .rw 0x1000 9 (fun _ => 5)
/-- [6:0] HOSTH ADMIN_LEVEL, RO, reset 0 (R455). Places held, 0 to 64. -/
def HOSTH.ADMIN_LEVEL : Fld := reg 0xB10024 0 7 .ro 0x1000 9 (fun _ => 0)
/-- [31:0] HOSTH HEDGE_DISCARD_CNT, RO, reset 0 (R455). Survives Hedge reset. -/
def HOSTH.HEDGE_DISCARD_CNT : Fld := reg 0xB10028 0 32 .ro 0x1000 9 (fun _ => 0)
/-- [0] HOSTH CNT_CLR.DISCARD, WO, reset 0 (R455). 1 clears HEDGE_DISCARD_CNT. -/
def HOSTH.CNT_CLR_DISCARD : Fld := reg 0xB1002C 0 1 .wo 0x1000 9 (fun _ => 0)
/-- [31:0] HOSTH RX_NOBUF_DROP, RC, reset 0 (R455). -/
def HOSTH.RX_NOBUF_DROP : Fld := reg 0xB10030 0 32 .rc 0x1000 9 (fun _ => 0)
/-- [31:0] HOSTH RX_HOLD_DROP, RC, reset 0 (R455). -/
def HOSTH.RX_HOLD_DROP : Fld := reg 0xB10034 0 32 .rc 0x1000 9 (fun _ => 0)
/-- [31:0] HOSTH RX_BACKLOG_DROP, RC, reset 0 (R455). -/
def HOSTH.RX_BACKLOG_DROP : Fld := reg 0xB10038 0 32 .rc 0x1000 9 (fun _ => 0)
/-- [31:0] HOSTH RX_DELIVERED, RC, reset 0 (R455). -/
def HOSTH.RX_DELIVERED : Fld := reg 0xB1003C 0 32 .rc 0x1000 9 (fun _ => 0)
/-- [31:0] HOSTH CMD_CNT, RC, reset 0 (R455). Commands started. -/
def HOSTH.CMD_CNT : Fld := reg 0xB10040 0 32 .rc 0x1000 9 (fun _ => 0)
/-- [31:0] HOSTH BUSY_CNT, RC, reset 0 (R455). BUSY_RETRY at admission. -/
def HOSTH.BUSY_CNT : Fld := reg 0xB10044 0 32 .rc 0x1000 9 (fun _ => 0)
/-- [31:0] HOSTH EV_LOST, RC, reset 0 (R455). -/
def HOSTH.EV_LOST : Fld := reg 0xB10048 0 32 .rc 0x1000 9 (fun _ => 0)
/-- [0] HOSTH EVENT.DOORBELL_BAD, W1C, reset 0 (R455). -/
def HOSTH.EVENT_DOORBELL_BAD : Fld := reg 0xB1004C 0 1 .w1c 0x1000 9 (fun _ => 0)
/-- [1] HOSTH EVENT.DMA_ERR, W1C, reset 0 (R455). -/
def HOSTH.EVENT_DMA_ERR : Fld := reg 0xB1004C 1 1 .w1c 0x1000 9 (fun _ => 0)
/-- [2] HOSTH EVENT.BAD_CFG, W1C, reset 0 (R455). -/
def HOSTH.EVENT_BAD_CFG : Fld := reg 0xB1004C 2 1 .w1c 0x1000 9 (fun _ => 0)
/-- [63:0] HOSTH RING[r].BASE, RW, reset 0 (R455). 64-bit; bits [11:0] read as zero. -/
def HOSTH.RING_BASE : Fld := regIx 0xB10100 0 64 .rw 0x20 9 128 4 true (fun _ => 0)
/-- [4:0] HOSTH RING[r].SIZE, RW, reset 6 (R455). log2 of entries, 6 to 16. -/
def HOSTH.RING_SIZE : Fld := regIx 0xB10108 0 5 .rw 0x20 9 128 4 false (fun _ => 6)
/-- [31:0] HOSTH RING[r].PROD, RW / RO, reset 0 (R455). Doorbell for CMD and RX; RO for CPL and EV. -/
def HOSTH.RING_PROD : Fld := regIx 0xB1010C 0 32 .rw 0x20 9 128 4 false (fun _ => 0)
/-- [31:0] HOSTH RING[r].CONS, RO / RW, reset 0 (R455). RO for CMD and RX (for RX, published); doorbell for CPL and EV. -/
def HOSTH.RING_CONS : Fld := regIx 0xB10110 0 32 .rw 0x20 9 128 4 false (fun _ => 0)
/-- [31:0] HOSTH RING[r].FETCH, RO, reset 0 (R455). RX only; 0 on other rings. -/
def HOSTH.RING_FETCH : Fld := regIx 0xB10114 0 32 .ro 0x20 9 128 4 false (fun _ => 0)
/-- [63:0] HOSTH RING[r].SHADOW, RW, reset 0 (R455). 64-bit. Host address of the part's index; 0 none. -/
def HOSTH.RING_SHADOW : Fld := regIx 0xB10118 0 64 .rw 0x20 9 128 4 true (fun _ => 0)
/-- Every field of the block HOSTH. -/
def HOSTH.flds : List Fld :=
  [HOSTH.CTL_CMD_EN, HOSTH.CTL_CPL_EN, HOSTH.CTL_EV_EN, HOSTH.CTL_RX_EN, HOSTH.CTL_HRESET, HOSTH.CTL_TRUMP_NOW, HOSTH.STATUS_IN_RESET, HOSTH.STATUS_BM, HOSTH.RESET_CAUSE, HOSTH.OUTSTANDING_MAX, HOSTH.OUTSTANDING_NOW, HOSTH.UPLINK_HOLD, HOSTH.BACKLOG_MAX, HOSTH.BACKLOG_NOW, HOSTH.IRQ_TIME, HOSTH.IRQ_COUNT, HOSTH.PT_MAX, HOSTH.ADMIN_LEVEL, HOSTH.HEDGE_DISCARD_CNT, HOSTH.CNT_CLR_DISCARD, HOSTH.RX_NOBUF_DROP, HOSTH.RX_HOLD_DROP, HOSTH.RX_BACKLOG_DROP, HOSTH.RX_DELIVERED, HOSTH.CMD_CNT, HOSTH.BUSY_CNT, HOSTH.EV_LOST, HOSTH.EVENT_DOORBELL_BAD, HOSTH.EVENT_DMA_ERR, HOSTH.EVENT_BAD_CFG] ++
  [HOSTH.RING_BASE, HOSTH.RING_SIZE, HOSTH.RING_PROD, HOSTH.RING_CONS, HOSTH.RING_FETCH, HOSTH.RING_SHADOW]

/-- [0] TWIN CFG.EN, RW, reset 0 (R473). -/
def TWIN.CFG_EN : Fld := reg 0xC00000 0 1 .rw 0x0 1 (fun _ => 0)
/-- [1] TWIN CFG.PREFER, RW, reset 0 (R473). -/
def TWIN.CFG_PREFER : Fld := reg 0xC00000 1 1 .rw 0x0 1 (fun _ => 0)
/-- [2] TWIN CFG.AUTO_TAKEOVER, RW, reset 1 (R473). -/
def TWIN.CFG_AUTO_TAKEOVER : Fld := reg 0xC00000 2 1 .rw 0x0 1 (fun _ => 1)
/-- [13:0] TWIN CYCLE_MS, RW, reset 1,000 (R473). 100 to 10,000; others ignored and set BAD_CFG. -/
def TWIN.CYCLE_MS : Fld := reg 0xC00004 0 14 .rw 0x0 1 (fun _ => 1000)
/-- [15:0] TWIN LOSS_US, RW, reset 2,000 (R473). 500 to 65,535. -/
def TWIN.LOSS_US : Fld := reg 0xC00008 0 16 .rw 0x0 1 (fun _ => 2000)
/-- [2:0] TWIN PINS.HB_OUT, RW, reset 7 (R473). TIME_IO ball. -/
def TWIN.PINS_HB_OUT : Fld := reg 0xC0000C 0 3 .rw 0x0 1 (fun _ => 7)
/-- [6:4] TWIN PINS.HB_IN, RW, reset 6 (R473). -/
def TWIN.PINS_HB_IN : Fld := reg 0xC0000C 4 3 .rw 0x0 1 (fun _ => 6)
/-- [10:8] TWIN PINS.FLT_IN, RW, reset 5 (R473). -/
def TWIN.PINS_FLT_IN : Fld := reg 0xC0000C 8 3 .rw 0x0 1 (fun _ => 5)
/-- [1:0] TWIN STATUS.ROLE, RO, reset 0 (R473). -/
def TWIN.STATUS_ROLE : Fld := reg 0xC00010 0 2 .ro 0x0 1 (fun _ => 0)
/-- [2] TWIN STATUS.LINK_UP, RO, reset 0 (R473). -/
def TWIN.STATUS_LINK_UP : Fld := reg 0xC00010 2 1 .ro 0x0 1 (fun _ => 0)
/-- [4:3] TWIN STATUS.LANES, RO, reset 0 (R473). Lanes trained. -/
def TWIN.STATUS_LANES : Fld := reg 0xC00010 3 2 .ro 0x0 1 (fun _ => 0)
/-- [5] TWIN STATUS.PARTNER_HB, RO, reset 0 (R473). Heartbeat present. -/
def TWIN.STATUS_PARTNER_HB : Fld := reg 0xC00010 5 1 .ro 0x0 1 (fun _ => 0)
/-- [6] TWIN STATUS.PARTNER_FAULT, RO, reset 0 (R473). -/
def TWIN.STATUS_PARTNER_FAULT : Fld := reg 0xC00010 6 1 .ro 0x0 1 (fun _ => 0)
/-- [7] TWIN STATUS.SYNCED, RO, reset 0 (R473). -/
def TWIN.STATUS_SYNCED : Fld := reg 0xC00010 7 1 .ro 0x0 1 (fun _ => 0)
/-- [15:0] TWIN SCHEMA.OWN, RO, reset F (R473). -/
def TWIN.SCHEMA_OWN : Fld := reg 0xC00014 0 16 .ro 0x0 1 (fun _ => 0)
/-- [31:16] TWIN SCHEMA.PARTNER, RO, reset 0 (R473). -/
def TWIN.SCHEMA_PARTNER : Fld := reg 0xC00014 16 16 .ro 0x0 1 (fun _ => 0)
/-- [31:0] TWIN SNAP_SEQ, RO, reset 0 (R473). Last sent or applied. -/
def TWIN.SNAP_SEQ : Fld := reg 0xC00018 0 32 .ro 0x0 1 (fun _ => 0)
/-- [31:0] TWIN TAKEOVER_EPOCH, RO, reset 0 (R473). Held in MRAM. -/
def TWIN.TAKEOVER_EPOCH : Fld := reg 0xC0001C 0 32 .ro 0x0 1 (fun _ => 0)
/-- [31:0] TWIN PHASE_OFS, RO, reset 0 (R473). Signed ns, partner minus own. -/
def TWIN.PHASE_OFS : Fld := reg 0xC00020 0 32 .ro 0x0 1 (fun _ => 0)
/-- [0] TWIN CMD.SWITCH, WO, reset 0 (R473). Active only. -/
def TWIN.CMD_SWITCH : Fld := reg 0xC00024 0 1 .wo 0x0 1 (fun _ => 0)
/-- [1] TWIN CMD.TAKEOVER, WO, reset 0 (R473). Standby only. -/
def TWIN.CMD_TAKEOVER : Fld := reg 0xC00024 1 1 .wo 0x0 1 (fun _ => 0)
/-- [2] TWIN CMD.LOOP, WO, reset 0 (R473). -/
def TWIN.CMD_LOOP : Fld := reg 0xC00024 2 1 .wo 0x0 1 (fun _ => 0)
/-- [15:0] TWIN LOOP_S, RW, reset 60 (R473). 10 to 65,535. -/
def TWIN.LOOP_S : Fld := reg 0xC00028 0 16 .rw 0x0 1 (fun _ => 60)
/-- [31:0] TWIN TAKEOVER_CNT, RC, reset 0 (R473). -/
def TWIN.TAKEOVER_CNT : Fld := reg 0xC0002C 0 32 .rc 0x0 1 (fun _ => 0)
/-- [31:0] TWIN MIRROR_CNT, RC, reset 0 (R473). -/
def TWIN.MIRROR_CNT : Fld := reg 0xC00030 0 32 .rc 0x0 1 (fun _ => 0)
/-- [0] TWIN EVENT.LINK_DOWN, W1C, reset 0 (R473). -/
def TWIN.EVENT_LINK_DOWN : Fld := reg 0xC00034 0 1 .w1c 0x0 1 (fun _ => 0)
/-- [1] TWIN EVENT.LANE_DEGRADED, W1C, reset 0 (R473). -/
def TWIN.EVENT_LANE_DEGRADED : Fld := reg 0xC00034 1 1 .w1c 0x0 1 (fun _ => 0)
/-- [2] TWIN EVENT.SCHEMA_MISMATCH, W1C, reset 0 (R473). -/
def TWIN.EVENT_SCHEMA_MISMATCH : Fld := reg 0xC00034 2 1 .w1c 0x0 1 (fun _ => 0)
/-- [3] TWIN EVENT.PHASE_SPLIT, W1C, reset 0 (R473). -/
def TWIN.EVENT_PHASE_SPLIT : Fld := reg 0xC00034 3 1 .w1c 0x0 1 (fun _ => 0)
/-- [4] TWIN EVENT.LOOP_FAIL, W1C, reset 0 (R473). -/
def TWIN.EVENT_LOOP_FAIL : Fld := reg 0xC00034 4 1 .w1c 0x0 1 (fun _ => 0)
/-- [5] TWIN EVENT.CONFIG_DIFF, W1C, reset 0 (R473). -/
def TWIN.EVENT_CONFIG_DIFF : Fld := reg 0xC00034 5 1 .w1c 0x0 1 (fun _ => 0)
/-- [6] TWIN EVENT.SNAP_LATE, W1C, reset 0 (R473). -/
def TWIN.EVENT_SNAP_LATE : Fld := reg 0xC00034 6 1 .w1c 0x0 1 (fun _ => 0)
/-- [7] TWIN EVENT.BAD_CFG, W1C, reset 0 (R473). -/
def TWIN.EVENT_BAD_CFG : Fld := reg 0xC00034 7 1 .w1c 0x0 1 (fun _ => 0)
/-- Every field of the block TWIN. -/
def TWIN.flds : List Fld :=
  [TWIN.CFG_EN, TWIN.CFG_PREFER, TWIN.CFG_AUTO_TAKEOVER, TWIN.CYCLE_MS, TWIN.LOSS_US, TWIN.PINS_HB_OUT, TWIN.PINS_HB_IN, TWIN.PINS_FLT_IN, TWIN.STATUS_ROLE, TWIN.STATUS_LINK_UP, TWIN.STATUS_LANES, TWIN.STATUS_PARTNER_HB, TWIN.STATUS_PARTNER_FAULT, TWIN.STATUS_SYNCED, TWIN.SCHEMA_OWN, TWIN.SCHEMA_PARTNER, TWIN.SNAP_SEQ, TWIN.TAKEOVER_EPOCH, TWIN.PHASE_OFS, TWIN.CMD_SWITCH, TWIN.CMD_TAKEOVER, TWIN.CMD_LOOP, TWIN.LOOP_S, TWIN.TAKEOVER_CNT, TWIN.MIRROR_CNT, TWIN.EVENT_LINK_DOWN, TWIN.EVENT_LANE_DEGRADED, TWIN.EVENT_SCHEMA_MISMATCH, TWIN.EVENT_PHASE_SPLIT, TWIN.EVENT_LOOP_FAIL] ++
  [TWIN.EVENT_CONFIG_DIFF, TWIN.EVENT_SNAP_LATE, TWIN.EVENT_BAD_CFG]

/-- [0] PRP CTL.EN, RW, reset 0 (R474). -/
def PRP.CTL_EN : Fld := reg 0xC01000 0 1 .rw 0x0 1 (fun _ => 0)
/-- [15:0] PRP SUP_INT_MS, RW, reset 2,000 (R474). 100 to 10,000. -/
def PRP.SUP_INT_MS : Fld := reg 0xC01004 0 16 .rw 0x0 1 (fun _ => 2000)
/-- [15:0] PRP FORGET_MS, RW, reset 400 (R474). 10 to 10,000. -/
def PRP.FORGET_MS : Fld := reg 0xC01008 0 16 .rw 0x0 1 (fun _ => 400)
/-- [31:0] PRP DUP_DISCARD, RC, reset 0 (R474). -/
def PRP.DUP_DISCARD : Fld := reg 0xC0100C 0 32 .rc 0x0 1 (fun _ => 0)
/-- [31:0] PRP LAN_A_ERR, RC, reset 0 (R474). Wrong LAN identifier on port 0. -/
def PRP.LAN_A_ERR : Fld := reg 0xC01010 0 32 .rc 0x0 1 (fun _ => 0)
/-- [31:0] PRP LAN_B_ERR, RC, reset 0 (R474). -/
def PRP.LAN_B_ERR : Fld := reg 0xC01014 0 32 .rc 0x0 1 (fun _ => 0)
/-- [10:0] PRP NODES, RO, reset 0 (R474). Source nodes tracked. -/
def PRP.NODES : Fld := reg 0xC01018 0 11 .ro 0x0 1 (fun _ => 0)
/-- [0] PRP EVENT.LAN_A_DOWN, W1C, reset 0 (R474). -/
def PRP.EVENT_LAN_A_DOWN : Fld := reg 0xC0101C 0 1 .w1c 0x0 1 (fun _ => 0)
/-- [1] PRP EVENT.LAN_B_DOWN, W1C, reset 0 (R474). -/
def PRP.EVENT_LAN_B_DOWN : Fld := reg 0xC0101C 1 1 .w1c 0x0 1 (fun _ => 0)
/-- Every field of the block PRP. -/
def PRP.flds : List Fld :=
  [PRP.CTL_EN, PRP.SUP_INT_MS, PRP.FORGET_MS, PRP.DUP_DISCARD, PRP.LAN_A_ERR, PRP.LAN_B_ERR, PRP.NODES, PRP.EVENT_LAN_A_DOWN, PRP.EVENT_LAN_B_DOWN]

/-- [12:0] RST RST_CAUSE, W1C, reset see R478 (R513). One bit per source, as R477. -/
def RST.RST_CAUSE : Fld := reg 0xD00000 0 13 .w1c 0x0 1 (fun _ => 1)
/-- [31:0] RST CMD, WO, reset 0 (R513). R480. -/
def RST.CMD : Fld := reg 0xD00004 0 32 .wo 0x0 1 (fun _ => 0)
/-- [1:0] RST LAST.LEVEL, RO, reset 0 (R513). 0 power-on, 1 system, 2 core. -/
def RST.LAST_LEVEL : Fld := reg 0xD00008 0 2 .ro 0x0 1 (fun _ => 0)
/-- [15:8] RST LAST.RESTARTS, RO, reset 0 (R513). Sequence restarts under R482, saturating. -/
def RST.LAST_RESTARTS : Fld := reg 0xD00008 8 8 .ro 0x0 1 (fun _ => 0)
/-- [31:0] RST SYS_CNT, RC, reset 0 (R513). System resets since power-on. -/
def RST.SYS_CNT : Fld := reg 0xD0000C 0 32 .rc 0x0 1 (fun _ => 0)
/-- [31:0] RST CORE_CNT, RC, reset 0 (R513). Core resets since power-on. -/
def RST.CORE_CNT : Fld := reg 0xD00010 0 32 .rc 0x0 1 (fun _ => 0)
/-- Every field of the block RST. -/
def RST.flds : List Fld :=
  [RST.RST_CAUSE, RST.CMD, RST.LAST_LEVEL, RST.LAST_RESTARTS, RST.SYS_CNT, RST.CORE_CNT]

/-- [0] BOOT STATUS.READY, RO, reset 0 (R514). -/
def BOOT.STATUS_READY : Fld := reg 0xD01000 0 1 .ro 0x0 1 (fun _ => 0)
/-- [1] BOOT STATUS.SLOT, RO, reset 0 (R514). 0 A, 1 B. -/
def BOOT.STATUS_SLOT : Fld := reg 0xD01000 1 1 .ro 0x0 1 (fun _ => 0)
/-- [2] BOOT STATUS.TRIAL, RO, reset 0 (R514). -/
def BOOT.STATUS_TRIAL : Fld := reg 0xD01000 2 1 .ro 0x0 1 (fun _ => 0)
/-- [3] BOOT STATUS.RECOVERY, RO, reset 0 (R514). -/
def BOOT.STATUS_RECOVERY : Fld := reg 0xD01000 3 1 .ro 0x0 1 (fun _ => 0)
/-- [6:4] BOOT STATUS.HOLD, RO, reset 0 (R514). 0 none, 1 OTP, 2 ROOT_LOST, 3 NO_IMAGE, 4 THERMAL. -/
def BOOT.STATUS_HOLD : Fld := reg 0xD01000 4 3 .ro 0x0 1 (fun _ => 0)
/-- [9:8] BOOT STATUS.BOOT_SEL, RO, reset 0 (R514). Latched at release. -/
def BOOT.STATUS_BOOT_SEL : Fld := reg 0xD01000 8 2 .ro 0x0 1 (fun _ => 0)
/-- [10:0] BOOT HOLD_WORD, RO, reset 0 (R514). OTP word that caused a hold. -/
def BOOT.HOLD_WORD : Fld := reg 0xD01004 0 11 .ro 0x0 1 (fun _ => 0)
/-- [6:0] BOOT SVN.RUNNING, RO, reset 0 (R514). -/
def BOOT.SVN_RUNNING : Fld := reg 0xD01008 0 7 .ro 0x0 1 (fun _ => 0)
/-- [22:16] BOOT SVN.MIN, RO, reset F (R514). -/
def BOOT.SVN_MIN : Fld := reg 0xD01008 16 7 .ro 0x0 1 (fun _ => 0)
/-- [1:0] BOOT TRIES, RO, reset 0 (R514). From the boot record. -/
def BOOT.TRIES : Fld := reg 0xD0100C 0 2 .ro 0x0 1 (fun _ => 0)
/-- [31:0] BOOT READY_US, RO, reset 0 (R514). µs from release to READY. -/
def BOOT.READY_US : Fld := reg 0xD01010 0 32 .ro 0x0 1 (fun _ => 0)
/-- [0] BOOT CTL.CONFIRM, W1S, reset 0 (R514). R496; reads 0. -/
def BOOT.CTL_CONFIRM : Fld := reg 0xD01014 0 1 .w1s 0x0 1 (fun _ => 0)
/-- [0] BOOT EVENT.REVERTED, W1C, reset 0 (R514). -/
def BOOT.EVENT_REVERTED : Fld := reg 0xD01018 0 1 .w1c 0x0 1 (fun _ => 0)
/-- [31:0] BOOT RECOV_LEN, RW, reset 0 (R514). Octets in the recovery window. -/
def BOOT.RECOV_LEN : Fld := reg 0xD0101C 0 32 .rw 0x0 1 (fun _ => 0)
/-- [0] BOOT RECOV.GO, WO, reset 0 (R514). -/
def BOOT.RECOV_GO : Fld := reg 0xD01020 0 1 .wo 0x0 1 (fun _ => 0)
/-- [31:0] BOOT STEWARD_HASH[i], RO, reset 0 (R514). Kept by core reset. -/
def BOOT.STEWARD_HASH : Fld := reg 0xD01040 0 32 .ro 0x4 12 (fun _ => 0)
/-- [31:0] BOOT RUNTIME_HASH[i], RO, reset 0 (R514). Kept by core reset. -/
def BOOT.RUNTIME_HASH : Fld := reg 0xD01080 0 32 .ro 0x4 12 (fun _ => 0)
/-- Every field of the block BOOT. -/
def BOOT.flds : List Fld :=
  [BOOT.STATUS_READY, BOOT.STATUS_SLOT, BOOT.STATUS_TRIAL, BOOT.STATUS_RECOVERY, BOOT.STATUS_HOLD, BOOT.STATUS_BOOT_SEL, BOOT.HOLD_WORD, BOOT.SVN_RUNNING, BOOT.SVN_MIN, BOOT.TRIES, BOOT.READY_US, BOOT.CTL_CONFIRM, BOOT.EVENT_REVERTED, BOOT.RECOV_LEN, BOOT.RECOV_GO, BOOT.STEWARD_HASH, BOOT.RUNTIME_HASH]

/-- [0] OTP STATUS.MARGINAL, RO, reset F (R515). A word was marginal at the last read. -/
def OTP.STATUS_MARGINAL : Fld := reg 0xD02000 0 1 .ro 0x0 1 (fun _ => 0)
/-- [11:0] OTP MARG_CNT, RO, reset F (R515). -/
def OTP.MARG_CNT : Fld := reg 0xD02004 0 12 .ro 0x0 1 (fun _ => 0)
/-- [10:0] OTP MARG_LAST, RO, reset F (R515). -/
def OTP.MARG_LAST : Fld := reg 0xD02008 0 11 .ro 0x0 1 (fun _ => 0)
/-- Every field of the block OTP. -/
def OTP.flds : List Fld :=
  [OTP.STATUS_MARGINAL, OTP.MARG_CNT, OTP.MARG_LAST]

/-- [0] DDR CH.STATUS.TRAINED, RO, reset 0 (R516). -/
def DDR.CH_STATUS_TRAINED : Fld := reg 0xD03000 0 1 .ro 0x40 2 (fun _ => 0)
/-- [1] DDR CH.STATUS.LOST, RO, reset 0 (R516). -/
def DDR.CH_STATUS_LOST : Fld := reg 0xD03000 1 1 .ro 0x40 2 (fun _ => 0)
/-- [31:0] DDR CH.ECC_CORR, RC, reset 0 (R516). -/
def DDR.CH_ECC_CORR : Fld := reg 0xD03004 0 32 .rc 0x40 2 (fun _ => 0)
/-- [31:0] DDR CH.ECC_UNCORR, RC, reset 0 (R516). -/
def DDR.CH_ECC_UNCORR : Fld := reg 0xD03008 0 32 .rc 0x40 2 (fun _ => 0)
/-- [31:0] DDR CH.ZERO_FILL_CNT, RC, reset 0 (R516). First writes to granules. -/
def DDR.CH_ZERO_FILL_CNT : Fld := reg 0xD0300C 0 32 .rc 0x40 2 (fun _ => 0)
/-- [63:0] DDR USABLE, RO, reset 0 (R516). 64-bit. Octets of DRAM address space. -/
def DDR.USABLE : Fld := regW 0xD03080 0 64 .ro 0x0 1 (fun _ => 0)
/-- [63:0] DDR STEWARD_BASE, RO, reset 0 (R516). 64-bit. Start of the Steward region. -/
def DDR.STEWARD_BASE : Fld := regW 0xD03088 0 64 .ro 0x0 1 (fun _ => 0)
/-- Every field of the block DDR. -/
def DDR.flds : List Fld :=
  [DDR.CH_STATUS_TRAINED, DDR.CH_STATUS_LOST, DDR.CH_ECC_CORR, DDR.CH_ECC_UNCORR, DDR.CH_ZERO_FILL_CNT, DDR.USABLE, DDR.STEWARD_BASE]

/-- [7:0] CAL STATUS.VALID, RO, reset C (R517). One bit per field ID. -/
def CAL.STATUS_VALID : Fld := reg 0xD04000 0 8 .ro 0x0 1 (fun _ => 0)
/-- [15:8] CAL STATUS.FACTORY, RO, reset C (R517). -/
def CAL.STATUS_FACTORY : Fld := reg 0xD04000 8 8 .ro 0x0 1 (fun _ => 0)
/-- [3:0] CAL CMD.SAVE_TUNER, WO, reset 0 (R517). One bit per aerial port. -/
def CAL.CMD_SAVE_TUNER : Fld := reg 0xD04004 0 4 .wo 0x0 1 (fun _ => 0)
/-- [31:0] CAL WRITE_CNT, RO, reset C (R517). Field writes since manufacture. -/
def CAL.WRITE_CNT : Fld := reg 0xD04008 0 32 .ro 0x0 1 (fun _ => 0)
/-- [0] CAL EVENT.FIELD_BAD, W1C, reset 0 (R517). -/
def CAL.EVENT_FIELD_BAD : Fld := reg 0xD0400C 0 1 .w1c 0x0 1 (fun _ => 0)
/-- [1] CAL EVENT.SAVED, W1C, reset 0 (R517). -/
def CAL.EVENT_SAVED : Fld := reg 0xD0400C 1 1 .w1c 0x0 1 (fun _ => 0)
/-- Every field of the block CAL. -/
def CAL.flds : List Fld :=
  [CAL.STATUS_VALID, CAL.STATUS_FACTORY, CAL.CMD_SAVE_TUNER, CAL.WRITE_CNT, CAL.EVENT_FIELD_BAD, CAL.EVENT_SAVED]

/-- [6:0] RTC SEC, RW, reset 0x00 (R533). BCD, 00 to 59; written only while HALT is 1. -/
def RTC.SEC : Fld := reg 0xE00000 0 7 .rw 0x0 1 (fun _ => 0x00)
/-- [6:0] RTC MIN, RW, reset 0x00 (R533). BCD, 00 to 59. -/
def RTC.MIN : Fld := reg 0xE00004 0 7 .rw 0x0 1 (fun _ => 0x00)
/-- [5:0] RTC HOUR, RW, reset 0x00 (R533). BCD, 00 to 23. -/
def RTC.HOUR : Fld := reg 0xE00008 0 6 .rw 0x0 1 (fun _ => 0x00)
/-- [2:0] RTC WDAY, RO, reset 6 (R533). 1 Monday to 7 Sunday. -/
def RTC.WDAY : Fld := reg 0xE0000C 0 3 .ro 0x0 1 (fun _ => 6)
/-- [5:0] RTC DATE, RW, reset 0x01 (R533). BCD, 01 to 31. -/
def RTC.DATE : Fld := reg 0xE00010 0 6 .rw 0x0 1 (fun _ => 0x01)
/-- [4:0] RTC MONTH, RW, reset 0x01 (R533). BCD, 01 to 12. -/
def RTC.MONTH : Fld := reg 0xE00014 0 5 .rw 0x0 1 (fun _ => 0x01)
/-- [7:0] RTC YEAR, RW, reset 0x00 (R533). BCD, 00 to 99. -/
def RTC.YEAR : Fld := reg 0xE00018 0 8 .rw 0x0 1 (fun _ => 0x00)
/-- [7:0] RTC CENTURY, RW, reset 0x20 (R533). BCD, 20 to 23. -/
def RTC.CENTURY : Fld := reg 0xE0001C 0 8 .rw 0x0 1 (fun _ => 0x20)
/-- [0] RTC CTL.HALT, RW, reset 0 (R533). R523. -/
def RTC.CTL_HALT : Fld := reg 0xE00020 0 1 .rw 0x0 1 (fun _ => 0)
/-- [1] RTC CTL.AUTO_SET, RW, reset 1 (R533). R524. -/
def RTC.CTL_AUTO_SET : Fld := reg 0xE00020 1 1 .rw 0x0 1 (fun _ => 1)
/-- [0] RTC STATUS.OSC_STOPPED, RO, reset 1 (R533). -/
def RTC.STATUS_OSC_STOPPED : Fld := reg 0xE00024 0 1 .ro 0x0 1 (fun _ => 1)
/-- [1] RTC STATUS.FROZEN, RO, reset 0 (R533). This view's shadows frozen. -/
def RTC.STATUS_FROZEN : Fld := reg 0xE00024 1 1 .ro 0x0 1 (fun _ => 0)
/-- [2] RTC STATUS.VBAT_LOW, RO, reset 0 (R533). -/
def RTC.STATUS_VBAT_LOW : Fld := reg 0xE00024 2 1 .ro 0x0 1 (fun _ => 0)
/-- [0] RTC EVENT.BAD_SET, W1C, reset 0 (R533). -/
def RTC.EVENT_BAD_SET : Fld := reg 0xE00028 0 1 .w1c 0x0 1 (fun _ => 0)
/-- [1] RTC EVENT.ALARM0, W1C, reset 0 (R533). -/
def RTC.EVENT_ALARM0 : Fld := reg 0xE00028 1 1 .w1c 0x0 1 (fun _ => 0)
/-- [2] RTC EVENT.ALARM1, W1C, reset 0 (R533). -/
def RTC.EVENT_ALARM1 : Fld := reg 0xE00028 2 1 .w1c 0x0 1 (fun _ => 0)
/-- [3] RTC EVENT.OSC_FAIL, W1C, reset 0 (R533). -/
def RTC.EVENT_OSC_FAIL : Fld := reg 0xE00028 3 1 .w1c 0x0 1 (fun _ => 0)
/-- [4] RTC EVENT.RANGE_WRAP, W1C, reset 0 (R533). -/
def RTC.EVENT_RANGE_WRAP : Fld := reg 0xE00028 4 1 .w1c 0x0 1 (fun _ => 0)
/-- [5] RTC EVENT.VBAT_LOW, W1C, reset 0 (R533). -/
def RTC.EVENT_VBAT_LOW : Fld := reg 0xE00028 5 1 .w1c 0x0 1 (fun _ => 0)
/-- [0] RTC PWRON.LEVEL, RW, reset 1 (R533). Level of PWRON_CTL. -/
def RTC.PWRON_LEVEL : Fld := reg 0xE0002C 0 1 .rw 0x0 1 (fun _ => 1)
/-- [6:0] RTC ALM[n].TIME.SEC, RW, reset 0x00 (R533). BCD. -/
def RTC.ALM_TIME_SEC : Fld := reg 0xE00040 0 7 .rw 0x10 2 (fun _ => 0x00)
/-- [14:8] RTC ALM[n].TIME.MIN, RW, reset 0x00 (R533). BCD. -/
def RTC.ALM_TIME_MIN : Fld := reg 0xE00040 8 7 .rw 0x10 2 (fun _ => 0x00)
/-- [21:16] RTC ALM[n].TIME.HOUR, RW, reset 0x00 (R533). BCD. -/
def RTC.ALM_TIME_HOUR : Fld := reg 0xE00040 16 6 .rw 0x10 2 (fun _ => 0x00)
/-- [29:24] RTC ALM[n].TIME.DATE, RW, reset 0x01 (R533). BCD. -/
def RTC.ALM_TIME_DATE : Fld := reg 0xE00040 24 6 .rw 0x10 2 (fun _ => 0x01)
/-- [0] RTC ALM[n].CTL.EN, RW, reset 0 (R533). -/
def RTC.ALM_CTL_EN : Fld := reg 0xE00044 0 1 .rw 0x10 2 (fun _ => 0)
/-- [1] RTC ALM[n].CTL.PWRON, RW, reset 0 (R533). -/
def RTC.ALM_CTL_PWRON : Fld := reg 0xE00044 1 1 .rw 0x10 2 (fun _ => 0)
/-- [5:2] RTC ALM[n].CTL.MASK, RW, reset 0 (R533). Ignore SEC, MIN, HOUR, DATE. -/
def RTC.ALM_CTL_MASK : Fld := reg 0xE00044 2 4 .rw 0x10 2 (fun _ => 0)
/-- [0] RTC CTRIG[n].CTL.EN, RO, reset 0 (R533). Written by CAL_TRIG_SET and CAL_TRIG_CLR. -/
def RTC.CTRIG_CTL_EN : Fld := reg 0xE00100 0 1 .ro 0x20 16 (fun _ => 0)
/-- [1] RTC CTRIG[n].CTL.PENDING, RO, reset 0 (R533). -/
def RTC.CTRIG_CTL_PENDING : Fld := reg 0xE00100 1 1 .ro 0x20 16 (fun _ => 0)
/-- [7:4] RTC CTRIG[n].CTL.OWNER, RO, reset 0xF (R533). 0xF free. -/
def RTC.CTRIG_CTL_OWNER : Fld := reg 0xE00100 4 4 .ro 0x20 16 (fun _ => 0xF)
/-- [15:8] RTC CTRIG[n].CTL.REPEAT, RO, reset 0 (R533). R528. -/
def RTC.CTRIG_CTL_REPEAT : Fld := reg 0xE00100 8 8 .ro 0x20 16 (fun _ => 0)
/-- [31:0] RTC CTRIG[n].DUE_LO, RO, reset 0 (R533). SEC, MIN, HOUR, WDAY octets. -/
def RTC.CTRIG_DUE_LO : Fld := reg 0xE00104 0 32 .ro 0x20 16 (fun _ => 0)
/-- [31:0] RTC CTRIG[n].DUE_HI, RO, reset 0 (R533). DATE, MONTH, YEAR, CENTURY octets. -/
def RTC.CTRIG_DUE_HI : Fld := reg 0xE00108 0 32 .ro 0x20 16 (fun _ => 0)
/-- [31:0] RTC CTRIG[n].MISS_FIRST_LO, RO, reset 0 (R533). -/
def RTC.CTRIG_MISS_FIRST_LO : Fld := reg 0xE0010C 0 32 .ro 0x20 16 (fun _ => 0)
/-- [31:0] RTC CTRIG[n].MISS_FIRST_HI, RO, reset 0 (R533). -/
def RTC.CTRIG_MISS_FIRST_HI : Fld := reg 0xE00110 0 32 .ro 0x20 16 (fun _ => 0)
/-- [7:0] RTC CTRIG[n].MISS_CNT, RO, reset 0 (R533). Saturating. -/
def RTC.CTRIG_MISS_CNT : Fld := reg 0xE00114 0 8 .ro 0x20 16 (fun _ => 0)
/-- [31:0] RTC CTRIG[n].FIRE_CNT, RO, reset 0 (R533). -/
def RTC.CTRIG_FIRE_CNT : Fld := reg 0xE00118 0 32 .ro 0x20 16 (fun _ => 0)
/-- [31:0] RTC BKUP[i], RW, reset 0 (R533). R532. -/
def RTC.BKUP : Fld := reg 0xE00400 0 32 .rw 0x4 128 (fun _ => 0)
/-- Every field of the block RTC. -/
def RTC.flds : List Fld :=
  [RTC.SEC, RTC.MIN, RTC.HOUR, RTC.WDAY, RTC.DATE, RTC.MONTH, RTC.YEAR, RTC.CENTURY, RTC.CTL_HALT, RTC.CTL_AUTO_SET, RTC.STATUS_OSC_STOPPED, RTC.STATUS_FROZEN, RTC.STATUS_VBAT_LOW, RTC.EVENT_BAD_SET, RTC.EVENT_ALARM0, RTC.EVENT_ALARM1, RTC.EVENT_OSC_FAIL, RTC.EVENT_RANGE_WRAP, RTC.EVENT_VBAT_LOW, RTC.PWRON_LEVEL, RTC.ALM_TIME_SEC, RTC.ALM_TIME_MIN, RTC.ALM_TIME_HOUR, RTC.ALM_TIME_DATE, RTC.ALM_CTL_EN, RTC.ALM_CTL_PWRON, RTC.ALM_CTL_MASK, RTC.CTRIG_CTL_EN, RTC.CTRIG_CTL_PENDING, RTC.CTRIG_CTL_OWNER] ++
  [RTC.CTRIG_CTL_REPEAT, RTC.CTRIG_DUE_LO, RTC.CTRIG_DUE_HI, RTC.CTRIG_MISS_FIRST_LO, RTC.CTRIG_MISS_FIRST_HI, RTC.CTRIG_MISS_CNT, RTC.CTRIG_FIRE_CNT, RTC.BKUP]

/-- [2:0] FLT STATUS.STATE, RO, reset 0 (R552). 0 NORMAL, 1 DEGRADED (a unit out of service), 2 SAFE. -/
def FLT.STATUS_STATE : Fld := reg 0xF00000 0 3 .ro 0x0 1 (fun _ => 0)
/-- [8] FLT STATUS.FAULT_N, RO, reset 1 (R552). The part drives FAULT_N low. -/
def FLT.STATUS_FAULT_N : Fld := reg 0xF00000 8 1 .ro 0x0 1 (fun _ => 1)
/-- [9] FLT STATUS.SCP_OUT, RO, reset 0 (R552). Scorepad out of service. -/
def FLT.STATUS_SCP_OUT : Fld := reg 0xF00000 9 1 .ro 0x0 1 (fun _ => 0)
/-- [15:0] FLT LAST.CODE, RO, reset 0 (R552). Newest fault. -/
def FLT.LAST_CODE : Fld := reg 0xF00004 0 16 .ro 0x0 1 (fun _ => 0)
/-- [31:16] FLT LAST.UNIT, RO, reset 0 (R552). -/
def FLT.LAST_UNIT : Fld := reg 0xF00004 16 16 .ro 0x0 1 (fun _ => 0)
/-- [47:0] FLT LANE_OUT, RO, reset 0 (R552). 64-bit; bits [63:48] reserved. Lanes out of service. -/
def FLT.LANE_OUT : Fld := regW 0xF00008 0 48 .ro 0x0 1 (fun _ => 0)
/-- [3:0] FLT AES_OUT, RO, reset 0 (R552). Security cores out of service. -/
def FLT.AES_OUT : Fld := reg 0xF00010 0 4 .ro 0x0 1 (fun _ => 0)
/-- [31:0] FLT MASKED_CNT, RC, reset 0 (R552). -/
def FLT.MASKED_CNT : Fld := reg 0xF00014 0 32 .rc 0x0 1 (fun _ => 0)
/-- [31:0] FLT UNIT_CNT, RC, reset 0 (R552). UNIT_OUT, MUTE and HEDGE decisions. -/
def FLT.UNIT_CNT : Fld := reg 0xF00018 0 32 .rc 0x0 1 (fun _ => 0)
/-- [31:0] FLT ESC_CNT, RC, reset 0 (R552). CORE, SYSTEM and SAFE decisions. -/
def FLT.ESC_CNT : Fld := reg 0xF0001C 0 32 .rc 0x0 1 (fun _ => 0)
/-- [15:0] FLT INJECT.CODE, RW, reset 0 (R552). R550. -/
def FLT.INJECT_CODE : Fld := reg 0xF00020 0 16 .rw 0x0 1 (fun _ => 0)
/-- [31:16] FLT INJECT.UNIT, RW, reset 0 (R552). -/
def FLT.INJECT_UNIT : Fld := reg 0xF00020 16 16 .rw 0x0 1 (fun _ => 0)
/-- [31:0] FLT INJ_GO, WO, reset 0 (R552). -/
def FLT.INJ_GO : Fld := reg 0xF00024 0 32 .wo 0x0 1 (fun _ => 0)
/-- [0] FLT EVENT.UNIT_OUT, W1C, reset 0 (R552). -/
def FLT.EVENT_UNIT_OUT : Fld := reg 0xF00028 0 1 .w1c 0x0 1 (fun _ => 0)
/-- [1] FLT EVENT.MUTE, W1C, reset 0 (R552). -/
def FLT.EVENT_MUTE : Fld := reg 0xF00028 1 1 .w1c 0x0 1 (fun _ => 0)
/-- [2] FLT EVENT.HEDGE, W1C, reset 0 (R552). -/
def FLT.EVENT_HEDGE : Fld := reg 0xF00028 2 1 .w1c 0x0 1 (fun _ => 0)
/-- [3] FLT EVENT.SCP_FAIL, W1C, reset 0 (R552). -/
def FLT.EVENT_SCP_FAIL : Fld := reg 0xF00028 3 1 .w1c 0x0 1 (fun _ => 0)
/-- [4] FLT EVENT.BAD_CFG, W1C, reset 0 (R552). -/
def FLT.EVENT_BAD_CFG : Fld := reg 0xF00028 4 1 .w1c 0x0 1 (fun _ => 0)
/-- Every field of the block FLT. -/
def FLT.flds : List Fld :=
  [FLT.STATUS_STATE, FLT.STATUS_FAULT_N, FLT.STATUS_SCP_OUT, FLT.LAST_CODE, FLT.LAST_UNIT, FLT.LANE_OUT, FLT.AES_OUT, FLT.MASKED_CNT, FLT.UNIT_CNT, FLT.ESC_CNT, FLT.INJECT_CODE, FLT.INJECT_UNIT, FLT.INJ_GO, FLT.EVENT_UNIT_OUT, FLT.EVENT_MUTE, FLT.EVENT_HEDGE, FLT.EVENT_SCP_FAIL, FLT.EVENT_BAD_CFG]

/-- [31:0] SCP HEAD_SEQ, RO, reset MRAM (R553). Newest committed record. -/
def SCP.HEAD_SEQ : Fld := reg 0xF01000 0 32 .ro 0x0 1 (fun _ => 0)
/-- [7:0] SCP HEAD_ERA, RO, reset MRAM (R553). -/
def SCP.HEAD_ERA : Fld := reg 0xF01004 0 8 .ro 0x0 1 (fun _ => 0)
/-- [31:0] SCP OLDEST_SEQ, RO, reset MRAM (R553). -/
def SCP.OLDEST_SEQ : Fld := reg 0xF01008 0 32 .ro 0x0 1 (fun _ => 0)
/-- [7:0] SCP OLDEST_ERA, RO, reset MRAM (R553). -/
def SCP.OLDEST_ERA : Fld := reg 0xF0100C 0 8 .ro 0x0 1 (fun _ => 0)
/-- [15:0] SCP COUNT, RO, reset MRAM (R553). Committed records held, 0 to 32,768. -/
def SCP.COUNT : Fld := reg 0xF01010 0 16 .ro 0x0 1 (fun _ => 0)
/-- [8:0] SCP QUEUE, RO, reset 0 (R553). Records waiting, 0 to 256. -/
def SCP.QUEUE : Fld := reg 0xF01014 0 9 .ro 0x0 1 (fun _ => 0)
/-- [31:0] SCP TORN_CNT, RC, reset 0 (R553). -/
def SCP.TORN_CNT : Fld := reg 0xF01018 0 32 .rc 0x0 1 (fun _ => 0)
/-- [31:0] SCP LOST_CNT, RC, reset 0 (R553). -/
def SCP.LOST_CNT : Fld := reg 0xF0101C 0 32 .rc 0x0 1 (fun _ => 0)
/-- [31:0] SCP SUPPRESSED_CNT, RC, reset 0 (R553). -/
def SCP.SUPPRESSED_CNT : Fld := reg 0xF01020 0 32 .rc 0x0 1 (fun _ => 0)
/-- [0] SCP EVENT.WRITE_FAIL, W1C, reset 0 (R553). -/
def SCP.EVENT_WRITE_FAIL : Fld := reg 0xF01024 0 1 .w1c 0x0 1 (fun _ => 0)
/-- [1] SCP EVENT.LOST, W1C, reset 0 (R553). -/
def SCP.EVENT_LOST : Fld := reg 0xF01024 1 1 .w1c 0x0 1 (fun _ => 0)
/-- [2] SCP EVENT.TORN, W1C, reset 0 (R553). -/
def SCP.EVENT_TORN : Fld := reg 0xF01024 2 1 .w1c 0x0 1 (fun _ => 0)
/-- Every field of the block SCP. -/
def SCP.flds : List Fld :=
  [SCP.HEAD_SEQ, SCP.HEAD_ERA, SCP.OLDEST_SEQ, SCP.OLDEST_ERA, SCP.COUNT, SCP.QUEUE, SCP.TORN_CNT, SCP.LOST_CNT, SCP.SUPPRESSED_CNT, SCP.EVENT_WRITE_FAIL, SCP.EVENT_LOST, SCP.EVENT_TORN]

/-- [15:0] PADS TJ, RO, reset 0 (R573). Hottest die sensor, signed, 1/8 °C. -/
def PADS.TJ : Fld := reg 0x1000000 0 16 .ro 0x0 1 (fun _ => 0)
/-- [15:0] PADS TJ_MAX, RC, reset 0 (R573). Highest TJ since the last read. -/
def PADS.TJ_MAX : Fld := reg 0x1000004 0 16 .rc 0x0 1 (fun _ => 0)
/-- [10:0] PADS SUPPLY_OK, RO, reset 0 (R573). One bit per rail of R559, VDD_CORE in bit 0 to VDD_IO33 in bit 10; 1 above the monitor threshold; VDD_OTP compared with 1.700 V. -/
def PADS.SUPPLY_OK : Fld := reg 0x1000008 0 11 .ro 0x0 1 (fun _ => 0)
/-- [7:0] PADS READBACK.TIME_IO, W1C, reset 0 (R573). Mismatch on a TIME_IO output. -/
def PADS.READBACK_TIME_IO : Fld := reg 0x100000C 0 8 .w1c 0x0 1 (fun _ => 0)
/-- [8] PADS READBACK.PPS_OUT, W1C, reset 0 (R573). -/
def PADS.READBACK_PPS_OUT : Fld := reg 0x100000C 8 1 .w1c 0x0 1 (fun _ => 0)
/-- [9] PADS READBACK.PWRON_CTL, W1C, reset 0 (R573). -/
def PADS.READBACK_PWRON_CTL : Fld := reg 0x100000C 9 1 .w1c 0x0 1 (fun _ => 0)
/-- [1:0] PADS TAMPER.STATE, RO, reset 0 (R573). Last sample; 1 open or high. -/
def PADS.TAMPER_STATE : Fld := reg 0x1000010 0 2 .ro 0x0 1 (fun _ => 0)
/-- [9:8] PADS TAMPER.EVENT, W1C, reset 0 (R573). Latched in the backup domain. -/
def PADS.TAMPER_EVENT : Fld := reg 0x1000010 8 2 .w1c 0x0 1 (fun _ => 0)
/-- [1:0] PADS CTL.TAMPER_EN, RW, reset 0 (R573). One bit per TAMPER ball. -/
def PADS.CTL_TAMPER_EN : Fld := reg 0x1000014 0 2 .rw 0x0 1 (fun _ => 0)
/-- [31:0] PADS TAMPER_TIME[n].LO, RO, reset 0 (R573). SEC, MIN, HOUR, WDAY octets of the first event. -/
def PADS.TAMPER_TIME_LO : Fld := reg 0x1000020 0 32 .ro 0x8 2 (fun _ => 0)
/-- [31:0] PADS TAMPER_TIME[n].HI, RO, reset 0 (R573). DATE, MONTH, YEAR, CENTURY octets. -/
def PADS.TAMPER_TIME_HI : Fld := reg 0x1000024 0 32 .ro 0x8 2 (fun _ => 0)
/-- Every field of the block PADS. -/
def PADS.flds : List Fld :=
  [PADS.TJ, PADS.TJ_MAX, PADS.SUPPLY_OK, PADS.READBACK_TIME_IO, PADS.READBACK_PPS_OUT, PADS.READBACK_PWRON_CTL, PADS.TAMPER_STATE, PADS.TAMPER_EVENT, PADS.CTL_TAMPER_EN, PADS.TAMPER_TIME_LO, PADS.TAMPER_TIME_HI]

end Sys2Proof.Machine
end

