-- ==== Sys2Proof/Machine/RegsMac.lean ====
section
/-!
DEFINITION. The register fields of the blocks REGPROF, SB, DUTY, MAC, MACH, CHPLAN, PANMAP, WAKE, TXPRE, WAKEH, FWD, FWDH, CAMP: one definition a field,
with the word it lies in, its bits, access code and reset value as the register tables of spec/ give them.
-/

namespace Sys2Proof.Machine

/-- [7:0] REGPROF HDR.REGION, RO, reset F (R231). Region code from OTP; 0 blank. -/
def REGPROF.HDR_REGION : Fld := reg 0x620000 0 8 .ro 0x0 1 (fun _ => 0)
/-- [11:8] REGPROF HDR.FRAMEWORK, RWL, reset 0 (R231). Framework code. -/
def REGPROF.HDR_FRAMEWORK : Fld := reg 0x620000 8 4 .rwl 0x0 1 (fun _ => 0)
/-- [20:16] REGPROF HDR.SB_COUNT, RWL, reset 0 (R231). Sub-band records in use, 0 to 16. -/
def REGPROF.HDR_SB_COUNT : Fld := reg 0x620000 16 5 .rwl 0x0 1 (fun _ => 0)
/-- [0] REGPROF CTL.LOCK, W1S, reset 0 (R231). Cleared by system reset; refused while FRAMEWORK is 0. -/
def REGPROF.CTL_LOCK : Fld := reg 0x620004 0 1 .w1s 0x0 1 (fun _ => 0)
/-- [23:0] REGPROF OBW[i], RWL, reset 0 (R231). Hz. -/
def REGPROF.OBW : Fld := reg 0x620040 0 24 .rwl 0x4 15 (fun _ => 0)
/-- Every field of the block REGPROF. -/
def REGPROF.flds : List Fld :=
  [REGPROF.HDR_REGION, REGPROF.HDR_FRAMEWORK, REGPROF.HDR_SB_COUNT, REGPROF.CTL_LOCK, REGPROF.OBW]

/-- [31:0] SB LO_HZ, RWL, reset 0 (R232). Lower edge, inclusive. -/
def SB.LO_HZ : Fld := reg 0x620100 0 32 .rwl 0x40 16 (fun _ => 0)
/-- [31:0] SB HI_HZ, RWL, reset 0 (R232). Upper edge, exclusive. -/
def SB.HI_HZ : Fld := reg 0x620104 0 32 .rwl 0x40 16 (fun _ => 0)
/-- [7:0] SB CFG.P_MAX, RWL, reset 0 (R232). Signed, 0.5 dBm, conducted at the connector. -/
def SB.CFG_P_MAX : Fld := reg 0x620108 0 8 .rwl 0x40 16 (fun _ => 0)
/-- [15:8] SB CFG.P_CAP, RW, reset 0x7F (R232). Signed, 0.5 dBm. -/
def SB.CFG_P_CAP : Fld := reg 0x620108 8 8 .rw 0x40 16 (fun _ => 0x7F)
/-- [16] SB CFG.EN, RWL, reset 0 (R232). -/
def SB.CFG_EN : Fld := reg 0x620108 16 1 .rwl 0x40 16 (fun _ => 0)
/-- [17] SB CFG.LBT_EN, RWL, reset 0 (R232). -/
def SB.CFG_LBT_EN : Fld := reg 0x620108 17 1 .rwl 0x40 16 (fun _ => 0)
/-- [18] SB CFG.ACK_LBT_EXEMPT, RWL, reset 0 (R232). -/
def SB.CFG_ACK_LBT_EXEMPT : Fld := reg 0x620108 18 1 .rwl 0x40 16 (fun _ => 0)
/-- [19] SB CFG.FHSS, RWL, reset 0 (R232). Hopping sub-band. -/
def SB.CFG_FHSS : Fld := reg 0x620108 19 1 .rwl 0x40 16 (fun _ => 0)
/-- [15:0] SB LBT.LBT_US, RWL, reset 0 (R232). µs. -/
def SB.LBT_LBT_US : Fld := reg 0x62010C 0 16 .rwl 0x40 16 (fun _ => 0)
/-- [31:16] SB LBT.LBT_RAND_US, RWL, reset 0 (R232). µs. -/
def SB.LBT_LBT_RAND_US : Fld := reg 0x62010C 16 16 .rwl 0x40 16 (fun _ => 0)
/-- [15:0] SB LBT_THR, RWL, reset 0 (R232). Per 50 kHz bin, encoded as R103. -/
def SB.LBT_THR : Fld := reg 0x620110 0 16 .rwl 0x40 16 (fun _ => 0)
/-- [19:0] SB DUTY_PPM, RWL, reset 0 (R232). 0 no limit; 1,000,000 maximum. -/
def SB.DUTY_PPM : Fld := reg 0x620114 0 20 .rwl 0x40 16 (fun _ => 0)
/-- [19:0] SB DUTY_CAP_PPM, RW, reset 1,000,000 (R232). -/
def SB.DUTY_CAP_PPM : Fld := reg 0x620118 0 20 .rw 0x40 16 (fun _ => 1000000)
/-- [15:0] SB DUTY_WIN_S, RWL, reset 3,600 (R232). Seconds, 64 to 65,535. -/
def SB.DUTY_WIN_S : Fld := reg 0x62011C 0 16 .rwl 0x40 16 (fun _ => 3600)
/-- [31:0] SB MAX_TX_US, RWL, reset 0 (R232). µs; 0 means that the sub-band sets no longest transmission (R178, R187). -/
def SB.MAX_TX_US : Fld := reg 0x620120 0 32 .rwl 0x40 16 (fun _ => 0)
/-- [31:0] SB MIN_OFF_US, RWL, reset 0 (R232). -/
def SB.MIN_OFF_US : Fld := reg 0x620124 0 32 .rwl 0x40 16 (fun _ => 0)
/-- [15:0] SB DWELL.DWELL_MS, RWL, reset 0 (R232). -/
def SB.DWELL_DWELL_MS : Fld := reg 0x620128 0 16 .rwl 0x40 16 (fun _ => 0)
/-- [31:16] SB DWELL.DWELL_PERIOD_S, RWL, reset 0 (R232). Seconds. -/
def SB.DWELL_DWELL_PERIOD_S : Fld := reg 0x620128 16 16 .rwl 0x40 16 (fun _ => 0)
/-- [23:0] SB DWELL_GRID, RWL, reset 0 (R232). Hz. -/
def SB.DWELL_GRID : Fld := reg 0x62012C 0 24 .rwl 0x40 16 (fun _ => 0)
/-- [23:0] SB MIN_BW_HZ, RWL, reset 0 (R232). -/
def SB.MIN_BW_HZ : Fld := reg 0x620130 0 24 .rwl 0x40 16 (fun _ => 0)
/-- Every field of the block SB. -/
def SB.flds : List Fld :=
  [SB.LO_HZ, SB.HI_HZ, SB.CFG_P_MAX, SB.CFG_P_CAP, SB.CFG_EN, SB.CFG_LBT_EN, SB.CFG_ACK_LBT_EXEMPT, SB.CFG_FHSS, SB.LBT_LBT_US, SB.LBT_LBT_RAND_US, SB.LBT_THR, SB.DUTY_PPM, SB.DUTY_CAP_PPM, SB.DUTY_WIN_S, SB.MAX_TX_US, SB.MIN_OFF_US, SB.DWELL_DWELL_MS, SB.DWELL_DWELL_PERIOD_S, SB.DWELL_GRID, SB.MIN_BW_HZ]

/-- [31:0] DUTY USED, RO, reset 0 (R233). µs, as R215. -/
def DUTY.USED : Fld := reg 0x620600 0 32 .ro 0x10 16 (fun _ => 0)
/-- [31:0] DUTY BUDGET, RO, reset 0 (R233). µs. -/
def DUTY.BUDGET : Fld := reg 0x620604 0 32 .ro 0x10 16 (fun _ => 0)
/-- [31:0] DUTY HOLD_CNT, RC, reset 0 (R233). DUTY_HOLD verdicts. -/
def DUTY.HOLD_CNT : Fld := reg 0x620608 0 32 .rc 0x10 16 (fun _ => 0)
/-- [31:0] DUTY DENY_CNT, RC, reset 0 (R233). DENY verdicts. -/
def DUTY.DENY_CNT : Fld := reg 0x62060C 0 32 .rc 0x10 16 (fun _ => 0)
/-- Every field of the block DUTY. -/
def DUTY.flds : List Fld :=
  [DUTY.USED, DUTY.BUDGET, DUTY.HOLD_CNT, DUTY.DENY_CNT]

/-- [15:0] MAC BACKOFF.UNIT_US, RW, reset 320 (R234). µs, 1 to 65,535. -/
def MAC.BACKOFF_UNIT_US : Fld := reg 0x621000 0 16 .rw 0x0 1 (fun _ => 320)
/-- [19:16] MAC BACKOFF.MIN_BE, RW, reset 3 (R234). 0 to 8. -/
def MAC.BACKOFF_MIN_BE : Fld := reg 0x621000 16 4 .rw 0x0 1 (fun _ => 3)
/-- [23:20] MAC BACKOFF.MAX_BE, RW, reset 5 (R234). MIN_BE to 8; a write breaking the order is ignored and sets BAD_CFG. -/
def MAC.BACKOFF_MAX_BE : Fld := reg 0x621000 20 4 .rw 0x0 1 (fun _ => 5)
/-- [31:0] MAC CLEAR_CNT, RC, reset 0 (R234). -/
def MAC.CLEAR_CNT : Fld := reg 0x621004 0 32 .rc 0x0 1 (fun _ => 0)
/-- [31:0] MAC BUSY_CNT, RC, reset 0 (R234). -/
def MAC.BUSY_CNT : Fld := reg 0x621008 0 32 .rc 0x0 1 (fun _ => 0)
/-- [31:0] MAC UNCOVERED_CNT, RC, reset 0 (R234). -/
def MAC.UNCOVERED_CNT : Fld := reg 0x62100C 0 32 .rc 0x0 1 (fun _ => 0)
/-- [31:0] MAC QUIET_HOLD_CNT, RC, reset 0 (R234). -/
def MAC.QUIET_HOLD_CNT : Fld := reg 0x621010 0 32 .rc 0x0 1 (fun _ => 0)
/-- [31:0] MAC LATE_CNT, RC, reset 0 (R234). -/
def MAC.LATE_CNT : Fld := reg 0x621014 0 32 .rc 0x0 1 (fun _ => 0)
/-- [31:0] MAC FORMAT_DROP, RC, reset 0 (R234). -/
def MAC.FORMAT_DROP : Fld := reg 0x621018 0 32 .rc 0x0 1 (fun _ => 0)
/-- [31:0] MAC NOPAN_DROP, RC, reset 0 (R234). -/
def MAC.NOPAN_DROP : Fld := reg 0x62101C 0 32 .rc 0x0 1 (fun _ => 0)
/-- [31:0] MAC NOT_FOR_US, RC, reset 0 (R234). -/
def MAC.NOT_FOR_US : Fld := reg 0x621020 0 32 .rc 0x0 1 (fun _ => 0)
/-- [31:0] MAC STRAY_ACK, RC, reset 0 (R234). -/
def MAC.STRAY_ACK : Fld := reg 0x621024 0 32 .rc 0x0 1 (fun _ => 0)
/-- [4:0] MAC QUIET_USED, RO, reset 0 (R234). Quiet intervals held, 0 to 16. -/
def MAC.QUIET_USED : Fld := reg 0x621028 0 5 .ro 0x0 1 (fun _ => 0)
/-- [0] MAC EVENT.BAD_CFG, W1C, reset 0 (R234). -/
def MAC.EVENT_BAD_CFG : Fld := reg 0x62102C 0 1 .w1c 0x0 1 (fun _ => 0)
/-- [1] MAC EVENT.LEDGER_RESTORED, W1C, reset 0 (R234). -/
def MAC.EVENT_LEDGER_RESTORED : Fld := reg 0x62102C 1 1 .w1c 0x0 1 (fun _ => 0)
/-- [2] MAC EVENT.LEDGER_LOST, W1C, reset 0 (R234). -/
def MAC.EVENT_LEDGER_LOST : Fld := reg 0x62102C 2 1 .w1c 0x0 1 (fun _ => 0)
/-- [63:0] MAC AIR_EUI64, RW, reset F (R234). 64-bit. Air identity (R200, R345). Loaded from SYS.EUI64 at power-on and system reset. Written only while every TXC[c].CTL.EN is 0; other writes are ignored and set EVENT.BAD_CFG. -/
def MAC.AIR_EUI64 : Fld := regW 0x621030 0 64 .rw 0x0 1 (fun _ => 0)
/-- Every field of the block MAC. -/
def MAC.flds : List Fld :=
  [MAC.BACKOFF_UNIT_US, MAC.BACKOFF_MIN_BE, MAC.BACKOFF_MAX_BE, MAC.CLEAR_CNT, MAC.BUSY_CNT, MAC.UNCOVERED_CNT, MAC.QUIET_HOLD_CNT, MAC.LATE_CNT, MAC.FORMAT_DROP, MAC.NOPAN_DROP, MAC.NOT_FOR_US, MAC.STRAY_ACK, MAC.QUIET_USED, MAC.EVENT_BAD_CFG, MAC.EVENT_LEDGER_RESTORED, MAC.EVENT_LEDGER_LOST, MAC.AIR_EUI64]

/-- [3:0] MACH RETRY.TRUMP, RW, reset 3 (R235). Retries per class. -/
def MACH.RETRY_TRUMP : Fld := reg 0x622000 0 4 .rw 0x40 8 (fun _ => 3)
/-- [7:4] MACH RETRY.LEAD, RW, reset 3 (R235). -/
def MACH.RETRY_LEAD : Fld := reg 0x622000 4 4 .rw 0x40 8 (fun _ => 3)
/-- [11:8] MACH RETRY.DEAL, RW, reset 2 (R235). -/
def MACH.RETRY_DEAL : Fld := reg 0x622000 8 4 .rw 0x40 8 (fun _ => 2)
/-- [15:12] MACH RETRY.KITTY, RW, reset 1 (R235). -/
def MACH.RETRY_KITTY : Fld := reg 0x622000 12 4 .rw 0x40 8 (fun _ => 1)
/-- [19:16] MACH LBT_TRIES.TRUMP, RW, reset 8 (R235). 1 to 15. -/
def MACH.LBT_TRIES_TRUMP : Fld := reg 0x622000 16 4 .rw 0x40 8 (fun _ => 8)
/-- [23:20] MACH LBT_TRIES.LEAD, RW, reset 5 (R235). -/
def MACH.LBT_TRIES_LEAD : Fld := reg 0x622000 20 4 .rw 0x40 8 (fun _ => 5)
/-- [27:24] MACH LBT_TRIES.DEAL, RW, reset 3 (R235). -/
def MACH.LBT_TRIES_DEAL : Fld := reg 0x622000 24 4 .rw 0x40 8 (fun _ => 3)
/-- [31:28] MACH LBT_TRIES.KITTY, RW, reset 3 (R235). -/
def MACH.LBT_TRIES_KITTY : Fld := reg 0x622000 28 4 .rw 0x40 8 (fun _ => 3)
/-- [15:0] MACH ACK_WIN, RW, reset 2,000 (R235). µs. -/
def MACH.ACK_WIN : Fld := reg 0x622004 0 16 .rw 0x40 8 (fun _ => 2000)
/-- [3:0] MACH CFG.PEND_CLASS, RW, reset 0x3 (R235). Bit 0 Trump to bit 3 Kitty. -/
def MACH.CFG_PEND_CLASS : Fld := reg 0x622008 0 4 .rw 0x40 8 (fun _ => 0x3)
/-- [31:0] MACH NO_ENTRY, RC, reset 0 (R235). -/
def MACH.NO_ENTRY : Fld := reg 0x62200C 0 32 .rc 0x40 8 (fun _ => 0)
/-- [31:0] MACH SEC_DROP, RC, reset 0 (R235). -/
def MACH.SEC_DROP : Fld := reg 0x622010 0 32 .rc 0x40 8 (fun _ => 0)
/-- [31:0] MACH SEC_FAIL, RC, reset 0 (R235). -/
def MACH.SEC_FAIL : Fld := reg 0x622014 0 32 .rc 0x40 8 (fun _ => 0)
/-- [31:0] MACH REPLAY, RC, reset 0 (R235). -/
def MACH.REPLAY : Fld := reg 0x622018 0 32 .rc 0x40 8 (fun _ => 0)
/-- [31:0] MACH DUP, RC, reset 0 (R235). -/
def MACH.DUP : Fld := reg 0x62201C 0 32 .rc 0x40 8 (fun _ => 0)
/-- [31:0] MACH ACK_SENT, RC, reset 0 (R235). -/
def MACH.ACK_SENT : Fld := reg 0x622020 0 32 .rc 0x40 8 (fun _ => 0)
/-- [31:0] MACH ACK_SKIP, RC, reset 0 (R235). -/
def MACH.ACK_SKIP : Fld := reg 0x622024 0 32 .rc 0x40 8 (fun _ => 0)
/-- [31:0] MACH LATE_ACK, RC, reset 0 (R235). -/
def MACH.LATE_ACK : Fld := reg 0x622028 0 32 .rc 0x40 8 (fun _ => 0)
/-- [31:0] MACH LBT_FAIL_CNT, RC, reset 0 (R235). Requests ended LBT_FAIL. -/
def MACH.LBT_FAIL_CNT : Fld := reg 0x62202C 0 32 .rc 0x40 8 (fun _ => 0)
/-- Every field of the block MACH. -/
def MACH.flds : List Fld :=
  [MACH.RETRY_TRUMP, MACH.RETRY_LEAD, MACH.RETRY_DEAL, MACH.RETRY_KITTY, MACH.LBT_TRIES_TRUMP, MACH.LBT_TRIES_LEAD, MACH.LBT_TRIES_DEAL, MACH.LBT_TRIES_KITTY, MACH.ACK_WIN, MACH.CFG_PEND_CLASS, MACH.NO_ENTRY, MACH.SEC_DROP, MACH.SEC_FAIL, MACH.REPLAY, MACH.DUP, MACH.ACK_SENT, MACH.ACK_SKIP, MACH.LATE_ACK, MACH.LBT_FAIL_CNT]

/-- [0] CHPLAN CTL.EN, RW, reset 0 (R236). -/
def CHPLAN.CTL_EN : Fld := reg 0x623000 0 1 .rw 0x20 8 (fun _ => 0)
/-- [31:0] CHPLAN F0_HZ, RW, reset 0 (R236). -/
def CHPLAN.F0_HZ : Fld := reg 0x623004 0 32 .rw 0x20 8 (fun _ => 0)
/-- [31:0] CHPLAN SPACING_HZ, RW, reset 0 (R236). -/
def CHPLAN.SPACING_HZ : Fld := reg 0x623008 0 32 .rw 0x20 8 (fun _ => 0)
/-- [9:0] CHPLAN COUNT, RW, reset 0 (R236). 1 to 1,023. -/
def CHPLAN.COUNT : Fld := reg 0x62300C 0 10 .rw 0x20 8 (fun _ => 0)
/-- [9:0] CHPLAN WAKE.WAKE_N, RW, reset 0 (R236). 0 no wake plan. -/
def CHPLAN.WAKE_WAKE_N : Fld := reg 0x623010 0 10 .rw 0x20 8 (fun _ => 0)
/-- [25:16] CHPLAN WAKE.WAKE_P, RW, reset 1 (R236). -/
def CHPLAN.WAKE_WAKE_P : Fld := reg 0x623010 16 10 .rw 0x20 8 (fun _ => 1)
/-- [0] CHPLAN EVENT.BAD_CFG, W1C, reset 0 (R236). -/
def CHPLAN.EVENT_BAD_CFG : Fld := reg 0x623014 0 1 .w1c 0x20 8 (fun _ => 0)
/-- Every field of the block CHPLAN. -/
def CHPLAN.flds : List Fld :=
  [CHPLAN.CTL_EN, CHPLAN.F0_HZ, CHPLAN.SPACING_HZ, CHPLAN.COUNT, CHPLAN.WAKE_WAKE_N, CHPLAN.WAKE_WAKE_P, CHPLAN.EVENT_BAD_CFG]

/-- [15:0] PANMAP CFG.PAN_ID, RW, reset 0 (R236). -/
def PANMAP.CFG_PAN_ID : Fld := reg 0x624000 0 16 .rw 0x8 32 (fun _ => 0)
/-- [18:16] PANMAP CFG.HEDGE, RW, reset 0 (R236). -/
def PANMAP.CFG_HEDGE : Fld := reg 0x624000 16 3 .rw 0x8 32 (fun _ => 0)
/-- [24] PANMAP CFG.EN, RW, reset 0 (R236). -/
def PANMAP.CFG_EN : Fld := reg 0x624000 24 1 .rw 0x8 32 (fun _ => 0)
/-- [25] PANMAP CFG.HOP, RW, reset 1 (R236). -/
def PANMAP.CFG_HOP : Fld := reg 0x624000 25 1 .rw 0x8 32 (fun _ => 1)
/-- [15:0] PANMAP OWN_SHORT, RW, reset 0x0000 (R236). -/
def PANMAP.OWN_SHORT : Fld := reg 0x624004 0 16 .rw 0x8 32 (fun _ => 0x0000)
/-- Every field of the block PANMAP. -/
def PANMAP.flds : List Fld :=
  [PANMAP.CFG_PAN_ID, PANMAP.CFG_HEDGE, PANMAP.CFG_EN, PANMAP.CFG_HOP, PANMAP.OWN_SHORT]

/-- [15:0] WAKE OBS.OBS_UNCERT, RW, reset 1,024 (R261). Ticks; writes below 768 ignored. -/
def WAKE.OBS_OBS_UNCERT : Fld := reg 0x630000 0 16 .rw 0x0 1 (fun _ => 1024)
/-- [19:16] WAKE OBS.RATE_SHIFT, RW, reset 4 (R261). Rate gain 2^-RATE_SHIFT, 0 to 8. -/
def WAKE.OBS_RATE_SHIFT : Fld := reg 0x630000 16 4 .rw 0x0 1 (fun _ => 4)
/-- [15:0] WAKE SPAN.RATE_SPAN, RW, reset 60 (R261). Seconds before an UNSEEDED model is rated. -/
def WAKE.SPAN_RATE_SPAN : Fld := reg 0x630004 0 16 .rw 0x0 1 (fun _ => 60)
/-- [31:16] WAKE SPAN.RATE_MIN, RW, reset 16 (R261). Seconds; 1 to RATE_SPAN, others ignored. -/
def WAKE.SPAN_RATE_MIN : Fld := reg 0x630004 16 16 .rw 0x0 1 (fun _ => 16)
/-- [15:0] WAKE ARM_LEAD_US, RW, reset 500 (R261). µs, 100 to 10,000. -/
def WAKE.ARM_LEAD_US : Fld := reg 0x630008 0 16 .rw 0x0 1 (fun _ => 500)
/-- [0] WAKE STATUS.FIX_ACTIVE, RO, reset 0 (R261). Step-log walk running. -/
def WAKE.STATUS_FIX_ACTIVE : Fld := reg 0x63000C 0 1 .ro 0x0 1 (fun _ => 0)
/-- [25:8] WAKE STATUS.FIX_CURSOR, RO, reset 0 (R261). Next entry to correct. -/
def WAKE.STATUS_FIX_CURSOR : Fld := reg 0x63000C 8 18 .ro 0x0 1 (fun _ => 0)
/-- [31:0] WAKE OBS_CNT, RC, reset 0 (R261). Observations applied, all Hedges. -/
def WAKE.OBS_CNT : Fld := reg 0x630010 0 32 .rc 0x0 1 (fun _ => 0)
/-- [0] WAKE EVENT.BAD_CFG, W1C, reset 0 (R261). -/
def WAKE.EVENT_BAD_CFG : Fld := reg 0x630014 0 1 .w1c 0x0 1 (fun _ => 0)
/-- [31:0] WAKE DRIFT[c], RW, reset R243 (R261). ppb. -/
def WAKE.DRIFT : Fld := reg 0x630040 0 32 .rw 0x4 16 (fun c => [100, 200, 300, 500, 750, 1000, 1500, 2000, 3000, 5000, 7500, 10000, 20000, 50000, 100000, 200000].getD c 0)
/-- Every field of the block WAKE. -/
def WAKE.flds : List Fld :=
  [WAKE.OBS_OBS_UNCERT, WAKE.OBS_RATE_SHIFT, WAKE.SPAN_RATE_SPAN, WAKE.SPAN_RATE_MIN, WAKE.ARM_LEAD_US, WAKE.STATUS_FIX_ACTIVE, WAKE.STATUS_FIX_CURSOR, WAKE.OBS_CNT, WAKE.EVENT_BAD_CFG, WAKE.DRIFT]

/-- [11:0] TXPRE NEXT, RW, reset 0 (R262). Preamble units for the next arming; 0 standard. -/
def TXPRE.NEXT : Fld := reg 0x630100 0 12 .rw 0x10 4 (fun _ => 0)
/-- [11:0] TXPRE CUR, RO, reset 0 (R262). Copied from NEXT by the arming write. -/
def TXPRE.CUR : Fld := reg 0x630104 0 12 .ro 0x10 4 (fun _ => 0)
/-- [31:0] TXPRE EXT_CNT, RC, reset 0 (R262). Frames sent with CUR above P_std. -/
def TXPRE.EXT_CNT : Fld := reg 0x630108 0 32 .rc 0x10 4 (fun _ => 0)
/-- Every field of the block TXPRE. -/
def TXPRE.flds : List Fld :=
  [TXPRE.NEXT, TXPRE.CUR, TXPRE.EXT_CNT]

/-- [0] WAKEH CFG.FB_KIND, RW, reset 0 (R263). 0 long preamble where it fits, 1 trains only. -/
def WAKEH.CFG_FB_KIND : Fld := reg 0x631000 0 1 .rw 0x80 8 (fun _ => 0)
/-- [1] WAKEH CFG.AUTO_RAISE, RW, reset 1 (R263). Raise the drift class on a breach. -/
def WAKEH.CFG_AUTO_RAISE : Fld := reg 0x631000 1 1 .rw 0x80 8 (fun _ => 1)
/-- [7:4] WAKEH CFG.DEF_CLASS, RW, reset 6 (R263). Drift class given at insertion unless the command names one. -/
def WAKEH.CFG_DEF_CLASS : Fld := reg 0x631000 4 4 .rw 0x80 8 (fun _ => 6)
/-- [12:8] WAKEH CFG.DEF_EXP, RW, reset 0 (R263). 0, or 6 to 22; others ignored and set BAD_CFG. -/
def WAKEH.CFG_DEF_EXP : Fld := reg 0x631000 8 5 .rw 0x80 8 (fun _ => 0)
/-- [15:0] WAKEH GUARD_US, RW, reset 500 (R263). µs, 50 to 65,535. -/
def WAKEH.GUARD_US : Fld := reg 0x631004 0 16 .rw 0x80 8 (fun _ => 500)
/-- [31:0] WAKEH FALLBACK_US, RW, reset 20,000 (R263). µs. -/
def WAKEH.FALLBACK_US : Fld := reg 0x631008 0 32 .rw 0x80 8 (fun _ => 20000)
/-- [15:0] WAKEH LEAD.TRUMP, RW, reset 2,000 (R263). µs, 700 to 65,535. -/
def WAKEH.LEAD_TRUMP : Fld := reg 0x63100C 0 16 .rw 0x80 8 (fun _ => 2000)
/-- [31:16] WAKEH LEAD.OTHER, RW, reset 5,000 (R263). µs, 700 to 65,535. -/
def WAKEH.LEAD_OTHER : Fld := reg 0x63100C 16 16 .rw 0x80 8 (fun _ => 5000)
/-- [15:0] WAKEH LISTEN_DEF, RW, reset 10,000 (R263). µs. -/
def WAKEH.LISTEN_DEF : Fld := reg 0x631010 0 16 .rw 0x80 8 (fun _ => 10000)
/-- [15:0] WAKEH TRAIN_GAP_US, RW, reset 5,000 (R263). µs. -/
def WAKEH.TRAIN_GAP_US : Fld := reg 0x631014 0 16 .rw 0x80 8 (fun _ => 5000)
/-- [31:0] WAKEH AIM_CNT, RC, reset 0 (R263). Aimed attempts sent. -/
def WAKEH.AIM_CNT : Fld := reg 0x631018 0 32 .rc 0x80 8 (fun _ => 0)
/-- [31:0] WAKEH MISS_CNT, RC, reset 0 (R263). -/
def WAKEH.MISS_CNT : Fld := reg 0x63101C 0 32 .rc 0x80 8 (fun _ => 0)
/-- [31:0] WAKEH FALLBACK_CNT, RC, reset 0 (R263). Fallback attempts sent. -/
def WAKEH.FALLBACK_CNT : Fld := reg 0x631020 0 32 .rc 0x80 8 (fun _ => 0)
/-- [31:0] WAKEH TRAIN_CNT, RC, reset 0 (R263). Trains started. -/
def WAKEH.TRAIN_CNT : Fld := reg 0x631024 0 32 .rc 0x80 8 (fun _ => 0)
/-- [31:0] WAKEH TRAIN_UNFIT, RC, reset 0 (R263). -/
def WAKEH.TRAIN_UNFIT : Fld := reg 0x631028 0 32 .rc 0x80 8 (fun _ => 0)
/-- [31:0] WAKEH STALE_CNT, RC, reset 0 (R263). PHASE_STALE completions. -/
def WAKEH.STALE_CNT : Fld := reg 0x63102C 0 32 .rc 0x80 8 (fun _ => 0)
/-- [31:0] WAKEH HOLD_CNT, RC, reset 0 (R263). -/
def WAKEH.HOLD_CNT : Fld := reg 0x631030 0 32 .rc 0x80 8 (fun _ => 0)
/-- [31:0] WAKEH BREACH_CNT, RC, reset 0 (R263). -/
def WAKEH.BREACH_CNT : Fld := reg 0x631034 0 32 .rc 0x80 8 (fun _ => 0)
/-- [31:0] WAKEH NO_CHAIN, RC, reset 0 (R263). -/
def WAKEH.NO_CHAIN : Fld := reg 0x631038 0 32 .rc 0x80 8 (fun _ => 0)
/-- [31:0] WAKEH SCHED_BAD, RC, reset 0 (R263). -/
def WAKEH.SCHED_BAD : Fld := reg 0x63103C 0 32 .rc 0x80 8 (fun _ => 0)
/-- [0] WAKEH EVENT.BAD_CFG, W1C, reset 0 (R263). -/
def WAKEH.EVENT_BAD_CFG : Fld := reg 0x631040 0 1 .w1c 0x80 8 (fun _ => 0)
/-- Every field of the block WAKEH. -/
def WAKEH.flds : List Fld :=
  [WAKEH.CFG_FB_KIND, WAKEH.CFG_AUTO_RAISE, WAKEH.CFG_DEF_CLASS, WAKEH.CFG_DEF_EXP, WAKEH.GUARD_US, WAKEH.FALLBACK_US, WAKEH.LEAD_TRUMP, WAKEH.LEAD_OTHER, WAKEH.LISTEN_DEF, WAKEH.TRAIN_GAP_US, WAKEH.AIM_CNT, WAKEH.MISS_CNT, WAKEH.FALLBACK_CNT, WAKEH.TRAIN_CNT, WAKEH.TRAIN_UNFIT, WAKEH.STALE_CNT, WAKEH.HOLD_CNT, WAKEH.BREACH_CNT, WAKEH.NO_CHAIN, WAKEH.SCHED_BAD, WAKEH.EVENT_BAD_CFG]

/-- [15:0] FWD SEEN_LIFE, RW, reset 30 (R294). Seconds, 1 to 3,600; others ignored. -/
def FWD.SEEN_LIFE : Fld := reg 0x640000 0 16 .rw 0x0 1 (fun _ => 30)
/-- [17:0] FWD SEEN_USED, RO, reset 0 (R294). Live entries, all Hedges. -/
def FWD.SEEN_USED : Fld := reg 0x640004 0 18 .ro 0x0 1 (fun _ => 0)
/-- [31:0] FWD SEEN_EVICT, RC, reset 0 (R294). All Hedges. -/
def FWD.SEEN_EVICT : Fld := reg 0x640008 0 32 .rc 0x0 1 (fun _ => 0)
/-- [0] FWD EVENT.SEEN_REFUSED, W1C, reset 0 (R294). A SEEN_MAX write was ignored. -/
def FWD.EVENT_SEEN_REFUSED : Fld := reg 0x64000C 0 1 .w1c 0x0 1 (fun _ => 0)
/-- Every field of the block FWD. -/
def FWD.flds : List Fld :=
  [FWD.SEEN_LIFE, FWD.SEEN_USED, FWD.SEEN_EVICT, FWD.EVENT_SEEN_REFUSED]

/-- [0] FWDH CFG.RELAY_EN, RW, reset 1 (R295). -/
def FWDH.CFG_RELAY_EN : Fld := reg 0x641000 0 1 .rw 0x80 8 (fun _ => 1)
/-- [1] FWDH CFG.REFLOOD_EN, RW, reset 0 (R295). -/
def FWDH.CFG_REFLOOD_EN : Fld := reg 0x641000 1 1 .rw 0x80 8 (fun _ => 0)
/-- [2] FWDH CFG.NOROUTE_ACT, RW, reset 1 (R295). 0 NO_ROUTE, 1 flood. -/
def FWDH.CFG_NOROUTE_ACT : Fld := reg 0x641000 2 1 .rw 0x80 8 (fun _ => 1)
/-- [5:0] FWDH TTL.TTL_INIT, RW, reset 8 (R295). 2 to 63. -/
def FWDH.TTL_TTL_INIT : Fld := reg 0x641004 0 6 .rw 0x80 8 (fun _ => 8)
/-- [13:8] FWDH TTL.FLOOD_TTL, RW, reset 6 (R295). 1 to 63. -/
def FWDH.TTL_FLOOD_TTL : Fld := reg 0x641004 8 6 .rw 0x80 8 (fun _ => 6)
/-- [15:0] FWDH ROUTE.HOP_COST, RW, reset 128 (R295). -/
def FWDH.ROUTE_HOP_COST : Fld := reg 0x641008 0 16 .rw 0x80 8 (fun _ => 128)
/-- [31:16] FWDH ROUTE.ROUTE_HYST, RW, reset 64 (R295). -/
def FWDH.ROUTE_ROUTE_HYST : Fld := reg 0x641008 16 16 .rw 0x80 8 (fun _ => 64)
/-- [31:0] FWDH ROUTE_STALE, RW, reset 600 (R295). Seconds. -/
def FWDH.ROUTE_STALE : Fld := reg 0x64100C 0 32 .rw 0x80 8 (fun _ => 600)
/-- [7:0] FWDH ROUTE_FAIL_MAX, RW, reset 3 (R295). 1 to 255. -/
def FWDH.ROUTE_FAIL_MAX : Fld := reg 0x641010 0 8 .rw 0x80 8 (fun _ => 3)
/-- [15:0] FWDH FLOOD.FLOOD_CH, RW, reset 0 (R295). Channel of the Hedge's plan. -/
def FWDH.FLOOD_FLOOD_CH : Fld := reg 0x641014 0 16 .rw 0x80 8 (fun _ => 0)
/-- [23:16] FWDH FLOOD.FLOOD_MODE, RW, reset 0x12 (R295). PHY mode code. -/
def FWDH.FLOOD_FLOOD_MODE : Fld := reg 0x641014 16 8 .rw 0x80 8 (fun _ => 0x12)
/-- [11:0] FWDH FLOOD_PRE, RW, reset 0 (R295). Preamble units; 0 standard. -/
def FWDH.FLOOD_PRE : Fld := reg 0x641018 0 12 .rw 0x80 8 (fun _ => 0)
/-- [31:0] FWDH FLOOD_JITTER_US, RW, reset 20,000 (R295). -/
def FWDH.FLOOD_JITTER_US : Fld := reg 0x64101C 0 32 .rw 0x80 8 (fun _ => 20000)
/-- [15:0] FWDH FLOOD_SEQ, RO, reset 0 (R295). Next flood sequence. -/
def FWDH.FLOOD_SEQ : Fld := reg 0x641020 0 16 .ro 0x80 8 (fun _ => 0)
/-- [31:0] FWDH FWD_LIFETIME, RW, reset 5,000 (R295). ms. -/
def FWDH.FWD_LIFETIME : Fld := reg 0x641024 0 32 .rw 0x80 8 (fun _ => 5000)
/-- [16:0] FWDH SEEN_MAX, RW, reset 16,384 (R295). A write raising the sum above 131,072 is ignored and sets FWD.EVENT.SEEN_REFUSED. -/
def FWDH.SEEN_MAX : Fld := reg 0x641028 0 17 .rw 0x80 8 (fun _ => 16384)
/-- [16:0] FWDH SEEN_USED, RO, reset 0 (R295). -/
def FWDH.SEEN_USED : Fld := reg 0x64102C 0 17 .ro 0x80 8 (fun _ => 0)
/-- [2:0] FWDH GEN.BASE, RW, reset 0 (R295). R283. -/
def FWDH.GEN_BASE : Fld := reg 0x641030 0 3 .rw 0x80 8 (fun _ => 0)
/-- [8] FWDH GEN.FORCE, WO, reset 0 (R295). -/
def FWDH.GEN_FORCE : Fld := reg 0x641030 8 1 .wo 0x80 8 (fun _ => 0)
/-- [18:0] FWDH GEN_CNT_LO, RO, reset 0 (R295). -/
def FWDH.GEN_CNT_LO : Fld := reg 0x641034 0 19 .ro 0x80 8 (fun _ => 0)
/-- [18:0] FWDH GEN_CNT_HI, RO, reset 0 (R295). -/
def FWDH.GEN_CNT_HI : Fld := reg 0x641038 0 19 .ro 0x80 8 (fun _ => 0)
/-- [31:0] FWDH RELAYED, RC, reset 0 (R295). -/
def FWDH.RELAYED : Fld := reg 0x64103C 0 32 .rc 0x80 8 (fun _ => 0)
/-- [31:0] FWDH RELAY_NOROUTE, RC, reset 0 (R295). -/
def FWDH.RELAY_NOROUTE : Fld := reg 0x641040 0 32 .rc 0x80 8 (fun _ => 0)
/-- [31:0] FWDH TTL_BAD, RC, reset 0 (R295). -/
def FWDH.TTL_BAD : Fld := reg 0x641044 0 32 .rc 0x80 8 (fun _ => 0)
/-- [31:0] FWDH NOT_RELAY, RC, reset 0 (R295). -/
def FWDH.NOT_RELAY : Fld := reg 0x641048 0 32 .rc 0x80 8 (fun _ => 0)
/-- [31:0] FWDH ORIGIN_UNKNOWN, RC, reset 0 (R295). -/
def FWDH.ORIGIN_UNKNOWN : Fld := reg 0x64104C 0 32 .rc 0x80 8 (fun _ => 0)
/-- [31:0] FWDH SEEN_DROP, RC, reset 0 (R295). -/
def FWDH.SEEN_DROP : Fld := reg 0x641050 0 32 .rc 0x80 8 (fun _ => 0)
/-- [31:0] FWDH NOORIGIN, RC, reset 0 (R295). -/
def FWDH.NOORIGIN : Fld := reg 0x641054 0 32 .rc 0x80 8 (fun _ => 0)
/-- [31:0] FWDH GEN_DROP, RC, reset 0 (R295). -/
def FWDH.GEN_DROP : Fld := reg 0x641058 0 32 .rc 0x80 8 (fun _ => 0)
/-- [31:0] FWDH ROUTE_CHANGE, RC, reset 0 (R295). -/
def FWDH.ROUTE_CHANGE : Fld := reg 0x64105C 0 32 .rc 0x80 8 (fun _ => 0)
/-- [31:0] FWDH ROUTE_BREAK, RC, reset 0 (R295). -/
def FWDH.ROUTE_BREAK : Fld := reg 0x641060 0 32 .rc 0x80 8 (fun _ => 0)
/-- [31:0] FWDH FLOOD_SENT, RC, reset 0 (R295). Flood copies originated or re-flooded. -/
def FWDH.FLOOD_SENT : Fld := reg 0x641064 0 32 .rc 0x80 8 (fun _ => 0)
/-- [31:0] FWDH SEEN_EVICT, RC, reset 0 (R295). -/
def FWDH.SEEN_EVICT : Fld := reg 0x641068 0 32 .rc 0x80 8 (fun _ => 0)
/-- [31:0] FWDH PREFIX_BAD, RC, reset 0 (R295). -/
def FWDH.PREFIX_BAD : Fld := reg 0x64106C 0 32 .rc 0x80 8 (fun _ => 0)
/-- [15:0] FWDH GONE_OVERFLOW, RC, reset 0 (R295). Sweep records beyond the gone list. -/
def FWDH.GONE_OVERFLOW : Fld := reg 0x641070 0 16 .rc 0x80 8 (fun _ => 0)
/-- [0] FWDH EVENT.GEN_REFUSED, W1C, reset 0 (R295). -/
def FWDH.EVENT_GEN_REFUSED : Fld := reg 0x641074 0 1 .w1c 0x80 8 (fun _ => 0)
/-- Every field of the block FWDH. -/
def FWDH.flds : List Fld :=
  [FWDH.CFG_RELAY_EN, FWDH.CFG_REFLOOD_EN, FWDH.CFG_NOROUTE_ACT, FWDH.TTL_TTL_INIT, FWDH.TTL_FLOOD_TTL, FWDH.ROUTE_HOP_COST, FWDH.ROUTE_ROUTE_HYST, FWDH.ROUTE_STALE, FWDH.ROUTE_FAIL_MAX, FWDH.FLOOD_FLOOD_CH, FWDH.FLOOD_FLOOD_MODE, FWDH.FLOOD_PRE, FWDH.FLOOD_JITTER_US, FWDH.FLOOD_SEQ, FWDH.FWD_LIFETIME, FWDH.SEEN_MAX, FWDH.SEEN_USED, FWDH.GEN_BASE, FWDH.GEN_FORCE, FWDH.GEN_CNT_LO, FWDH.GEN_CNT_HI, FWDH.RELAYED, FWDH.RELAY_NOROUTE, FWDH.TTL_BAD, FWDH.NOT_RELAY, FWDH.ORIGIN_UNKNOWN, FWDH.SEEN_DROP, FWDH.NOORIGIN, FWDH.GEN_DROP, FWDH.ROUTE_CHANGE] ++
  [FWDH.ROUTE_BREAK, FWDH.FLOOD_SENT, FWDH.SEEN_EVICT, FWDH.PREFIX_BAD, FWDH.GONE_OVERFLOW, FWDH.EVENT_GEN_REFUSED]

/-- [2:0] CAMP STATUS.STATE, RO, reset 0 (R296). R286. -/
def CAMP.STATUS_STATE : Fld := reg 0x642000 0 3 .ro 0x40 8 (fun _ => 0)
/-- [7:4] CAMP STATUS.ROUND, RO, reset 0 (R296). Repair round. -/
def CAMP.STATUS_ROUND : Fld := reg 0x642000 4 4 .ro 0x40 8 (fun _ => 0)
/-- [10:8] CAMP STATUS.PAUSE_CAUSE, RO, reset 0 (R296). 0 none, 1 command, 2 IMAGE_MISMATCH, 3 FAULT. -/
def CAMP.STATUS_PAUSE_CAUSE : Fld := reg 0x642000 8 3 .ro 0x40 8 (fun _ => 0)
/-- [11] CAMP STATUS.ABORTED, RO, reset 0 (R296). Campaign ended by CAMPAIGN_ABORT; cleared when STATE returns to IDLE. -/
def CAMP.STATUS_ABORTED : Fld := reg 0x642000 11 1 .ro 0x40 8 (fun _ => 0)
/-- [15:0] CAMP BLOCK_CUR, RO, reset 0 (R296). Block in hand. -/
def CAMP.BLOCK_CUR : Fld := reg 0x642004 0 16 .ro 0x40 8 (fun _ => 0)
/-- [2:0] CAMP CFG.MCAST_ROUNDS, RW, reset 1 (R296). 1 to 4. -/
def CAMP.CFG_MCAST_ROUNDS : Fld := reg 0x642008 0 3 .rw 0x40 8 (fun _ => 1)
/-- [7:4] CAMP CFG.REPAIR_ROUNDS, RW, reset 4 (R296). 1 to 15. -/
def CAMP.CFG_REPAIR_ROUNDS : Fld := reg 0x642008 4 4 .rw 0x40 8 (fun _ => 4)
/-- [31:16] CAMP CFG.REMCAST_MIN, RW, reset 32 (R296). Targets. -/
def CAMP.CFG_REMCAST_MIN : Fld := reg 0x642008 16 16 .rw 0x40 8 (fun _ => 32)
/-- [15:0] CAMP CFG2.SPREAD_S, RW, reset 120 (R296). Seconds, 10 to 3,600. -/
def CAMP.CFG2_SPREAD_S : Fld := reg 0x64200C 0 16 .rw 0x40 8 (fun _ => 120)
/-- [18:0] CAMP TARGETS, RO, reset 0 (R296). -/
def CAMP.TARGETS : Fld := reg 0x642010 0 19 .ro 0x40 8 (fun _ => 0)
/-- [18:0] CAMP COMPLETE, RO, reset 0 (R296). -/
def CAMP.COMPLETE : Fld := reg 0x642014 0 19 .ro 0x40 8 (fun _ => 0)
/-- [18:0] CAMP SILENT, RO, reset 0 (R296). -/
def CAMP.SILENT : Fld := reg 0x642018 0 19 .ro 0x40 8 (fun _ => 0)
/-- [18:0] CAMP GONE, RO, reset 0 (R296). -/
def CAMP.GONE : Fld := reg 0x64201C 0 19 .ro 0x40 8 (fun _ => 0)
/-- [31:0] CAMP BLOCKS_SENT, RC, reset 0 (R296). Block floods. -/
def CAMP.BLOCKS_SENT : Fld := reg 0x642020 0 32 .rc 0x40 8 (fun _ => 0)
/-- [31:0] CAMP REPAIR_SENT, RC, reset 0 (R296). Unicast repairs. -/
def CAMP.REPAIR_SENT : Fld := reg 0x642024 0 32 .rc 0x40 8 (fun _ => 0)
/-- [31:0] CAMP MISMATCH_CNT, RC, reset 0 (R296). -/
def CAMP.MISMATCH_CNT : Fld := reg 0x642028 0 32 .rc 0x40 8 (fun _ => 0)
/-- Every field of the block CAMP. -/
def CAMP.flds : List Fld :=
  [CAMP.STATUS_STATE, CAMP.STATUS_ROUND, CAMP.STATUS_PAUSE_CAUSE, CAMP.STATUS_ABORTED, CAMP.BLOCK_CUR, CAMP.CFG_MCAST_ROUNDS, CAMP.CFG_REPAIR_ROUNDS, CAMP.CFG_REMCAST_MIN, CAMP.CFG2_SPREAD_S, CAMP.TARGETS, CAMP.COMPLETE, CAMP.SILENT, CAMP.GONE, CAMP.BLOCKS_SENT, CAMP.REPAIR_SENT, CAMP.MISMATCH_CNT]

end Sys2Proof.Machine
end

