-- ==== Sys2Proof/Machine/RegsRadio.lean ====
section
/-!
DEFINITION. The register fields of the blocks APRX, SLICE, DDC, LANE, BLANK, DEMOD, DET, LDPC, LANE_RX, TXC, SY, TXPORT, COEX: one definition a field,
with the word it lies in, its bits, access code and reset value as the register tables of spec/ give them.
-/

namespace Sys2Proof.Machine

/-- [0] APRX CTL.EN, RW, reset 0 (R111). Port receives. -/
def APRX.CTL_EN : Fld := reg 0x600000 0 1 .rw 0x40 4 (fun _ => 0)
/-- [1] APRX CTL.AGC_EN, RW, reset 1 (R111). Automatic gain. -/
def APRX.CTL_AGC_EN : Fld := reg 0x600000 1 1 .rw 0x40 4 (fun _ => 1)
/-- [6:4] APRX CTL.MANUAL_GAIN, RW, reset 7 (R111). Index held while AGC_EN is 0. -/
def APRX.CTL_MANUAL_GAIN : Fld := reg 0x600000 4 3 .rw 0x40 4 (fun _ => 7)
/-- [7:0] APRX AGC_THR.HIGH_THR, RW, reset 0xFA (R111). Signed dBFS, default −6. -/
def APRX.AGC_THR_HIGH_THR : Fld := reg 0x600004 0 8 .rw 0x40 4 (fun _ => 0xFA)
/-- [15:8] APRX AGC_THR.LOW_THR, RW, reset 0xE8 (R111). Signed dBFS, default −24. -/
def APRX.AGC_THR_LOW_THR : Fld := reg 0x600004 8 8 .rw 0x40 4 (fun _ => 0xE8)
/-- [15:0] APRX UP_HOLD, RW, reset 2,000 (R111). µs, 100 to 65,535; others ignored. -/
def APRX.UP_HOLD : Fld := reg 0x600008 0 16 .rw 0x40 4 (fun _ => 2000)
/-- [2:0] APRX STATUS.GAIN_IDX, RO, reset 7 (R111). Index in force. -/
def APRX.STATUS_GAIN_IDX : Fld := reg 0x60000C 0 3 .ro 0x40 4 (fun _ => 7)
/-- [8] APRX STATUS.FROZEN, RO, reset 0 (R111). Frozen by self-blanking. -/
def APRX.STATUS_FROZEN : Fld := reg 0x60000C 8 1 .ro 0x40 4 (fun _ => 0)
/-- [15:0] APRX RX_EXT_GAIN, RW, reset 0 (R111). Signed, 1/16 dB, connector to ball. -/
def APRX.RX_EXT_GAIN : Fld := reg 0x600010 0 16 .rw 0x40 4 (fun _ => 0)
/-- [15:0] APRX RX_EXT_DELAY, RW, reset 0 (R111). ns, connector to ball. -/
def APRX.RX_EXT_DELAY : Fld := reg 0x600014 0 16 .rw 0x40 4 (fun _ => 0)
/-- [11:0] APRX LO_MHZ, RW, reset 2,442 (R111). AP2, AP3 only; reads 0 on AP0, AP1. -/
def APRX.LO_MHZ : Fld := reg 0x600018 0 12 .rw 0x40 4 (fun p => if p < 2 then 0 else 2442)
/-- [31:0] APRX STEP_DN_CNT, RC, reset 0 (R111). -/
def APRX.STEP_DN_CNT : Fld := reg 0x60001C 0 32 .rc 0x40 4 (fun _ => 0)
/-- [31:0] APRX STEP_UP_CNT, RC, reset 0 (R111). -/
def APRX.STEP_UP_CNT : Fld := reg 0x600020 0 32 .rc 0x40 4 (fun _ => 0)
/-- [31:0] APRX CLIP_CNT, RC, reset 0 (R111). Windows with a clipped sample. -/
def APRX.CLIP_CNT : Fld := reg 0x600024 0 32 .rc 0x40 4 (fun _ => 0)
/-- [0] APRX EVENT.BAD_CFG, W1C, reset 0 (R111). -/
def APRX.EVENT_BAD_CFG : Fld := reg 0x600028 0 1 .w1c 0x40 4 (fun _ => 0)
/-- Every field of the block APRX. -/
def APRX.flds : List Fld :=
  [APRX.CTL_EN, APRX.CTL_AGC_EN, APRX.CTL_MANUAL_GAIN, APRX.AGC_THR_HIGH_THR, APRX.AGC_THR_LOW_THR, APRX.UP_HOLD, APRX.STATUS_GAIN_IDX, APRX.STATUS_FROZEN, APRX.RX_EXT_GAIN, APRX.RX_EXT_DELAY, APRX.LO_MHZ, APRX.STEP_DN_CNT, APRX.STEP_UP_CNT, APRX.CLIP_CNT, APRX.EVENT_BAD_CFG]

/-- [0] SLICE CTL.EN, RW, reset 0 (R112). -/
def SLICE.CTL_EN : Fld := reg 0x601000 0 1 .rw 0x40 6 (fun _ => 0)
/-- [1] SLICE CTL.MAP_EN, RW, reset 0 (R112). Energy map runs. -/
def SLICE.CTL_MAP_EN : Fld := reg 0x601000 1 1 .rw 0x40 6 (fun _ => 0)
/-- [3:2] SLICE CTL.PORT, RO, reset see text (R112). Aerial port, as R95. -/
def SLICE.CTL_PORT : Fld := reg 0x601000 2 2 .ro 0x40 6 (fun s => [0, 0, 1, 1, 2, 3].getD s 0)
/-- [21:0] SLICE FC, RW, reset 0; S4, S5 2,442,000 (R112). kHz. S0–S3: 420,000 to 940,000. On S4, S5: RO, reads LO_MHZ × 1,000 (2,422,000 to 2,462,000). -/
def SLICE.FC : Fld := reg 0x601004 0 22 .rw 0x40 6 (fun s => if s < 4 then 0 else 2442000)
/-- [15:0] SLICE THR.THR_A, RW, reset 0x0640 (R112). Encoded as R103; −100 dBm. -/
def SLICE.THR_THR_A : Fld := reg 0x601008 0 16 .rw 0x40 6 (fun _ => 0x0640)
/-- [31:16] SLICE THR.THR_B, RW, reset 0x0720 (R112). −86 dBm. -/
def SLICE.THR_THR_B : Fld := reg 0x601008 16 16 .rw 0x40 6 (fun _ => 0x0720)
/-- [31:0] SLICE HEAD, RO, reset 0 (R112). Newest complete period. -/
def SLICE.HEAD : Fld := reg 0x60100C 0 32 .ro 0x40 6 (fun _ => 0)
/-- [0] SLICE STATUS.MAP_VALID, RO, reset 0 (R112). -/
def SLICE.STATUS_MAP_VALID : Fld := reg 0x601010 0 1 .ro 0x40 6 (fun _ => 0)
/-- [0] SLICE EVENT.BAD_CFG, W1C, reset 0 (R112). -/
def SLICE.EVENT_BAD_CFG : Fld := reg 0x601014 0 1 .w1c 0x40 6 (fun _ => 0)
/-- [1] SLICE EVENT.ROW_LATE, W1C, reset 0 (R112). -/
def SLICE.EVENT_ROW_LATE : Fld := reg 0x601014 1 1 .w1c 0x40 6 (fun _ => 0)
/-- [10:0] SLICE BINS, RO, reset see text (R112). 800 or 1,600. -/
def SLICE.BINS : Fld := reg 0x601018 0 11 .ro 0x40 6 (fun s => if s < 4 then 800 else 1600)
/-- [31:0] SLICE BIN0_FREQ, RO, reset 0 (R112). Hz. FC − 20 MHz on S0–S3, LO − 40 MHz on S4 and S5 (R102). -/
def SLICE.BIN0_FREQ : Fld := reg 0x60101C 0 32 .ro 0x40 6 (fun _ => 0)
/-- Every field of the block SLICE. -/
def SLICE.flds : List Fld :=
  [SLICE.CTL_EN, SLICE.CTL_MAP_EN, SLICE.CTL_PORT, SLICE.FC, SLICE.THR_THR_A, SLICE.THR_THR_B, SLICE.HEAD, SLICE.STATUS_MAP_VALID, SLICE.EVENT_BAD_CFG, SLICE.EVENT_ROW_LATE, SLICE.BINS, SLICE.BIN0_FREQ]

/-- [0] DDC CTL.EN, RW, reset 0 (R113). -/
def DDC.CTL_EN : Fld := reg 0x602000 0 1 .rw 0x10 64 (fun _ => 0)
/-- [3:1] DDC CTL.SLICE, RW, reset 0 (R113). 0 to 5; 6, 7 refused. -/
def DDC.CTL_SLICE : Fld := reg 0x602000 1 3 .rw 0x10 64 (fun _ => 0)
/-- [15:8] DDC CTL.LANE, RO, reset 0xFF (R113). Binding lane; 0xFF none. -/
def DDC.CTL_LANE : Fld := reg 0x602000 8 8 .ro 0x10 64 (fun _ => 0xFF)
/-- [31:0] DDC FREQ, RW, reset 0 (R113). Hz. -/
def DDC.FREQ : Fld := reg 0x602004 0 32 .rw 0x10 64 (fun _ => 0)
/-- [0] DDC EVENT.BAD_CFG, W1C, reset 0 (R113). -/
def DDC.EVENT_BAD_CFG : Fld := reg 0x60200C 0 1 .w1c 0x10 64 (fun _ => 0)
/-- Every field of the block DDC. -/
def DDC.flds : List Fld :=
  [DDC.CTL_EN, DDC.CTL_SLICE, DDC.CTL_LANE, DDC.FREQ, DDC.EVENT_BAD_CFG]

/-- [0] LANE CFG.EN, RW, reset 0 (R114). -/
def LANE.CFG_EN : Fld := reg 0x603000 0 1 .rw 0x20 48 (fun _ => 0)
/-- [1] LANE CFG.PAIR, RW, reset 0 (R114). Diversity pair. -/
def LANE.CFG_PAIR : Fld := reg 0x603000 1 1 .rw 0x20 48 (fun _ => 0)
/-- [2] LANE CFG.FORCE, WO, reset 0 (R114). Apply at once, dropping any frame in flight. -/
def LANE.CFG_FORCE : Fld := reg 0x603000 2 1 .wo 0x20 48 (fun _ => 0)
/-- [13:8] LANE CFG.DDC_A, RW, reset 0 (R114). -/
def LANE.CFG_DDC_A : Fld := reg 0x603000 8 6 .rw 0x20 48 (fun _ => 0)
/-- [21:16] LANE CFG.DDC_B, RW, reset 0 (R114). -/
def LANE.CFG_DDC_B : Fld := reg 0x603000 16 6 .rw 0x20 48 (fun _ => 0)
/-- [15:0] LANE MODES, RW, reset 0 (R114). PHY mode groups detected (Lane demodulation, equalisation and LDPC decoding). -/
def LANE.MODES : Fld := reg 0x603004 0 16 .rw 0x20 48 (fun _ => 0)
/-- [0] LANE STATUS.RECEIVING, RO, reset 0 (R114). -/
def LANE.STATUS_RECEIVING : Fld := reg 0x603008 0 1 .ro 0x20 48 (fun _ => 0)
/-- [1] LANE STATUS.PENDING, RO, reset 0 (R114). -/
def LANE.STATUS_PENDING : Fld := reg 0x603008 1 1 .ro 0x20 48 (fun _ => 0)
/-- [2] LANE STATUS.BRANCH_A_OK, RO, reset 0 (R114). -/
def LANE.STATUS_BRANCH_A_OK : Fld := reg 0x603008 2 1 .ro 0x20 48 (fun _ => 0)
/-- [3] LANE STATUS.BRANCH_B_OK, RO, reset 0 (R114). -/
def LANE.STATUS_BRANCH_B_OK : Fld := reg 0x603008 3 1 .ro 0x20 48 (fun _ => 0)
/-- [0] LANE EVENT.BAD_CFG, W1C, reset 0 (R114). -/
def LANE.EVENT_BAD_CFG : Fld := reg 0x60300C 0 1 .w1c 0x20 48 (fun _ => 0)
/-- [31:0] LANE ABORT_CNT, RC, reset 0 (R114). Frames dropped by FORCE. -/
def LANE.ABORT_CNT : Fld := reg 0x603010 0 32 .rc 0x20 48 (fun _ => 0)
/-- [31:0] LANE BLANK_ABORT_CNT, RC, reset 0 (R114). -/
def LANE.BLANK_ABORT_CNT : Fld := reg 0x603014 0 32 .rc 0x20 48 (fun _ => 0)
/-- [31:0] LANE STEP_FRAME_CNT, RC, reset 0 (R114). Frames during which a gain step occurred. -/
def LANE.STEP_FRAME_CNT : Fld := reg 0x603018 0 32 .rc 0x20 48 (fun _ => 0)
/-- Every field of the block LANE. -/
def LANE.flds : List Fld :=
  [LANE.CFG_EN, LANE.CFG_PAIR, LANE.CFG_FORCE, LANE.CFG_DDC_A, LANE.CFG_DDC_B, LANE.MODES, LANE.STATUS_RECEIVING, LANE.STATUS_PENDING, LANE.STATUS_BRANCH_A_OK, LANE.STATUS_BRANCH_B_OK, LANE.EVENT_BAD_CFG, LANE.ABORT_CNT, LANE.BLANK_ABORT_CNT, LANE.STEP_FRAME_CNT]

/-- [15:0] BLANK TIME.PRE, RW, reset 2,000 (R115). ns. -/
def BLANK.TIME_PRE : Fld := reg 0x604000 0 16 .rw 0x0 1 (fun _ => 2000)
/-- [31:16] BLANK TIME.POST, RW, reset 20,000 (R115). ns. -/
def BLANK.TIME_POST : Fld := reg 0x604000 16 16 .rw 0x0 1 (fun _ => 20000)
/-- [1:0] BLANK MODE.SUBGHZ, RW, reset 0 (R115). 0 whole slices, 1 within SPAN, 2 none, 3 reserved. -/
def BLANK.MODE_SUBGHZ : Fld := reg 0x604004 0 2 .rw 0x0 1 (fun _ => 0)
/-- [3:2] BLANK MODE.BAND24, RW, reset 0 (R115). As SUBGHZ. -/
def BLANK.MODE_BAND24 : Fld := reg 0x604004 2 2 .rw 0x0 1 (fun _ => 0)
/-- [4] BLANK MODE.XBAND, RW, reset 1 (R115). Blank aliased bins on S0–S3. -/
def BLANK.MODE_XBAND : Fld := reg 0x604004 4 1 .rw 0x0 1 (fun _ => 1)
/-- [15:0] BLANK SPAN, RW, reset 2,000 (R115). kHz either side of the carrier. -/
def BLANK.SPAN : Fld := reg 0x604008 0 16 .rw 0x0 1 (fun _ => 2000)
/-- [31:0] BLANK BLANK_CNT, RC, reset 0 (R115). Blanking intervals. -/
def BLANK.BLANK_CNT : Fld := reg 0x60400C 0 32 .rc 0x0 1 (fun _ => 0)
/-- Every field of the block BLANK. -/
def BLANK.flds : List Fld :=
  [BLANK.TIME_PRE, BLANK.TIME_POST, BLANK.MODE_SUBGHZ, BLANK.MODE_BAND24, BLANK.MODE_XBAND, BLANK.SPAN, BLANK.BLANK_CNT]

/-- [0] DEMOD CTL.DUP_EN, RW, reset 1 (R151). Duplicate filter of R148. -/
def DEMOD.CTL_DUP_EN : Fld := reg 0x605000 0 1 .rw 0x0 1 (fun _ => 1)
/-- [15:8] DEMOD CTL.DUP_WIN, RW, reset 4 (R151). µs, 1 to 255; 0 ignored. -/
def DEMOD.CTL_DUP_WIN : Fld := reg 0x605000 8 8 .rw 0x0 1 (fun _ => 4)
/-- [3:0] DEMOD FREQ.AVG_SHIFT, RW, reset 2 (R151). Averaging shift of R135. -/
def DEMOD.FREQ_AVG_SHIFT : Fld := reg 0x605004 0 4 .rw 0x0 1 (fun _ => 2)
/-- [31:16] DEMOD FREQ.JUMP, RW, reset 2,000 (R151). Hz. -/
def DEMOD.FREQ_JUMP : Fld := reg 0x605004 16 16 .rw 0x0 1 (fun _ => 2000)
/-- [31:0] DEMOD FREQ_STALE, RW, reset 3,600 (R151). Seconds. -/
def DEMOD.FREQ_STALE : Fld := reg 0x605008 0 32 .rw 0x0 1 (fun _ => 3600)
/-- [31:0] DEMOD DUP_CNT, RC, reset 0 (R151). -/
def DEMOD.DUP_CNT : Fld := reg 0x60500C 0 32 .rc 0x0 1 (fun _ => 0)
/-- Every field of the block DEMOD. -/
def DEMOD.flds : List Fld :=
  [DEMOD.CTL_DUP_EN, DEMOD.CTL_DUP_WIN, DEMOD.FREQ_AVG_SHIFT, DEMOD.FREQ_JUMP, DEMOD.FREQ_STALE, DEMOD.DUP_CNT]

/-- [7:0] DET CFG.THR, RW, reset 0x60 (R152). Detection threshold, 1/16 dB above the calibrated noise metric. -/
def DET.CFG_THR : Fld := reg 0x605100 0 8 .rw 0x10 12 (fun _ => 0x60)
/-- [31:0] DET DET_CNT, RC, reset 0 (R152). Synchronisations declared, all lanes. -/
def DET.DET_CNT : Fld := reg 0x605104 0 32 .rc 0x10 12 (fun _ => 0)
/-- [31:0] DET HDR_FAIL_CNT, RC, reset 0 (R152). Headers failed, all lanes. -/
def DET.HDR_FAIL_CNT : Fld := reg 0x605108 0 32 .rc 0x10 12 (fun _ => 0)
/-- [31:0] DET LOST_CNT, RC, reset 0 (R152). Declarations lost under R118. -/
def DET.LOST_CNT : Fld := reg 0x60510C 0 32 .rc 0x10 12 (fun _ => 0)
/-- Every field of the block DET. -/
def DET.flds : List Fld :=
  [DET.CFG_THR, DET.DET_CNT, DET.HDR_FAIL_CNT, DET.LOST_CNT]

/-- [5:0] LDPC CFG.MAX_ITER, RW, reset 12 (R153). 1 to 32. -/
def LDPC.CFG_MAX_ITER : Fld := reg 0x606000 0 6 .rw 0x0 1 (fun _ => 12)
/-- [13:8] LDPC CFG.DEG_ITER, RW, reset 6 (R153). 1 to 32. -/
def LDPC.CFG_DEG_ITER : Fld := reg 0x606000 8 6 .rw 0x0 1 (fun _ => 6)
/-- [19:16] LDPC CFG.ALPHA, RW, reset 12 (R153). Sixteenths, 8 to 16. -/
def LDPC.CFG_ALPHA : Fld := reg 0x606000 16 4 .rw 0x0 1 (fun _ => 12)
/-- [8:0] LDPC QUEUE.HIGH, RW, reset 64 (R153). Codewords. -/
def LDPC.QUEUE_HIGH : Fld := reg 0x606004 0 9 .rw 0x0 1 (fun _ => 64)
/-- [24:16] LDPC QUEUE.LOW, RW, reset 32 (R153). Codewords. -/
def LDPC.QUEUE_LOW : Fld := reg 0x606004 16 9 .rw 0x0 1 (fun _ => 32)
/-- [3:0] LDPC STATUS.IN_SERVICE, RO, reset 0xF (R153). One bit per decoder. -/
def LDPC.STATUS_IN_SERVICE : Fld := reg 0x606008 0 4 .ro 0x0 1 (fun _ => 0xF)
/-- [8] LDPC STATUS.DEGRADED, RO, reset 0 (R153). -/
def LDPC.STATUS_DEGRADED : Fld := reg 0x606008 8 1 .ro 0x0 1 (fun _ => 0)
/-- [24:16] LDPC STATUS.LEVEL, RO, reset 0 (R153). Codewords waiting, 0 to 256. -/
def LDPC.STATUS_LEVEL : Fld := reg 0x606008 16 9 .ro 0x0 1 (fun _ => 0)
/-- [8:0] LDPC HWM, RC, reset 0 (R153). Highest LEVEL since the last read. -/
def LDPC.HWM : Fld := reg 0x60600C 0 9 .rc 0x0 1 (fun _ => 0)
/-- [31:0] LDPC CW_CNT, RC, reset 0 (R153). Codewords decoded. -/
def LDPC.CW_CNT : Fld := reg 0x606010 0 32 .rc 0x0 1 (fun _ => 0)
/-- [31:0] LDPC FAIL_CNT, RC, reset 0 (R153). Codewords failed. -/
def LDPC.FAIL_CNT : Fld := reg 0x606014 0 32 .rc 0x0 1 (fun _ => 0)
/-- [31:0] LDPC DEG_CNT, RC, reset 0 (R153). -/
def LDPC.DEG_CNT : Fld := reg 0x606018 0 32 .rc 0x0 1 (fun _ => 0)
/-- [31:0] LDPC DROP_CNT, RC, reset 0 (R153). -/
def LDPC.DROP_CNT : Fld := reg 0x60601C 0 32 .rc 0x0 1 (fun _ => 0)
/-- [31:0] LDPC ITER_SUM, RC, reset 0 (R153). Iterations run. -/
def LDPC.ITER_SUM : Fld := reg 0x606020 0 32 .rc 0x0 1 (fun _ => 0)
/-- [0] LDPC EVENT.DEGRADED, W1C, reset 0 (R153). -/
def LDPC.EVENT_DEGRADED : Fld := reg 0x606024 0 1 .w1c 0x0 1 (fun _ => 0)
/-- [1] LDPC EVENT.DROP, W1C, reset 0 (R153). -/
def LDPC.EVENT_DROP : Fld := reg 0x606024 1 1 .w1c 0x0 1 (fun _ => 0)
/-- [2] LDPC EVENT.DEC_OUT, W1C, reset 0 (R153). -/
def LDPC.EVENT_DEC_OUT : Fld := reg 0x606024 2 1 .w1c 0x0 1 (fun _ => 0)
/-- [3] LDPC EVENT.BAD_CFG, W1C, reset 0 (R153). -/
def LDPC.EVENT_BAD_CFG : Fld := reg 0x606024 3 1 .w1c 0x0 1 (fun _ => 0)
/-- [3:0] LDPC DEC_EN, RW, reset 0xF (R153). Decoders enabled; a set bit does not restore a decoder taken out by a fault. -/
def LDPC.DEC_EN : Fld := reg 0x606028 0 4 .rw 0x0 1 (fun _ => 0xF)
/-- Every field of the block LDPC. -/
def LDPC.flds : List Fld :=
  [LDPC.CFG_MAX_ITER, LDPC.CFG_DEG_ITER, LDPC.CFG_ALPHA, LDPC.QUEUE_HIGH, LDPC.QUEUE_LOW, LDPC.STATUS_IN_SERVICE, LDPC.STATUS_DEGRADED, LDPC.STATUS_LEVEL, LDPC.HWM, LDPC.CW_CNT, LDPC.FAIL_CNT, LDPC.DEG_CNT, LDPC.DROP_CNT, LDPC.ITER_SUM, LDPC.EVENT_DEGRADED, LDPC.EVENT_DROP, LDPC.EVENT_DEC_OUT, LDPC.EVENT_BAD_CFG, LDPC.DEC_EN]

/-- [31:0] LANE_RX OK_CNT, RC, reset 0 (R154). Frames handed to the receive path. -/
def LANE_RX.OK_CNT : Fld := reg 0x607000 0 32 .rc 0x20 48 (fun _ => 0)
/-- [31:0] LANE_RX HDR_FAIL_CNT, RC, reset 0 (R154). -/
def LANE_RX.HDR_FAIL_CNT : Fld := reg 0x607004 0 32 .rc 0x20 48 (fun _ => 0)
/-- [31:0] LANE_RX DECODE_FAIL_CNT, RC, reset 0 (R154). -/
def LANE_RX.DECODE_FAIL_CNT : Fld := reg 0x607008 0 32 .rc 0x20 48 (fun _ => 0)
/-- [31:0] LANE_RX UNSUP_CNT, RC, reset 0 (R154). -/
def LANE_RX.UNSUP_CNT : Fld := reg 0x60700C 0 32 .rc 0x20 48 (fun _ => 0)
/-- [31:0] LANE_RX DUP_CNT, RC, reset 0 (R154). -/
def LANE_RX.DUP_CNT : Fld := reg 0x607010 0 32 .rc 0x20 48 (fun _ => 0)
/-- [31:0] LANE_RX LAST_FREQ, RO, reset 0 (R154). FREQ_OFS of the last frame, 1/16 Hz. -/
def LANE_RX.LAST_FREQ : Fld := reg 0x607014 0 32 .ro 0x20 48 (fun _ => 0)
/-- [15:0] LANE_RX LAST_SNR, RO, reset 0 (R154). 1/4 dB. -/
def LANE_RX.LAST_SNR : Fld := reg 0x607018 0 16 .ro 0x20 48 (fun _ => 0)
/-- Every field of the block LANE_RX. -/
def LANE_RX.flds : List Fld :=
  [LANE_RX.OK_CNT, LANE_RX.HDR_FAIL_CNT, LANE_RX.DECODE_FAIL_CNT, LANE_RX.UNSUP_CNT, LANE_RX.DUP_CNT, LANE_RX.LAST_FREQ, LANE_RX.LAST_SNR]

/-- [0] TXC CTL.EN, RW, reset 0 (R195). -/
def TXC.CTL_EN : Fld := reg 0x610000 0 1 .rw 0x100 4 (fun _ => 0)
/-- [2:1] TXC CTL.PORT, RW, reset c (R195). Bound aerial port; written only while OFF. -/
def TXC.CTL_PORT : Fld := reg 0x610000 1 2 .rw 0x100 4 (fun c => c)
/-- [3] TXC CTL.AUTO_READY, RW, reset 1 (R195). -/
def TXC.CTL_AUTO_READY : Fld := reg 0x610000 3 1 .rw 0x100 4 (fun _ => 1)
/-- [4] TXC CTL.RETURN, RW, reset 0 (R195). 0 READY, 1 STANDBY. -/
def TXC.CTL_RETURN : Fld := reg 0x610000 4 1 .rw 0x100 4 (fun _ => 0)
/-- [5] TXC CTL.HOST_MUTE, RW, reset 0 (R195). -/
def TXC.CTL_HOST_MUTE : Fld := reg 0x610000 5 1 .rw 0x100 4 (fun _ => 0)
/-- [0] TXC CMD.GO_READY, WO, reset 0 (R195). -/
def TXC.CMD_GO_READY : Fld := reg 0x610004 0 1 .wo 0x100 4 (fun _ => 0)
/-- [1] TXC CMD.GO_STANDBY, WO, reset 0 (R195). -/
def TXC.CMD_GO_STANDBY : Fld := reg 0x610004 1 1 .wo 0x100 4 (fun _ => 0)
/-- [2] TXC CMD.CAL_FLUSH, WO, reset 0 (R195). Marks all entries of the chain's synthesiser stale. -/
def TXC.CMD_CAL_FLUSH : Fld := reg 0x610004 2 1 .wo 0x100 4 (fun _ => 0)
/-- [2:0] TXC STATUS.STATE, RO, reset 0 (R195). State code. -/
def TXC.STATUS_STATE : Fld := reg 0x610008 0 3 .ro 0x100 4 (fun _ => 0)
/-- [3] TXC STATUS.TRANS, RO, reset 0 (R195). -/
def TXC.STATUS_TRANS : Fld := reg 0x610008 3 1 .ro 0x100 4 (fun _ => 0)
/-- [4] TXC STATUS.PENDING, RO, reset 0 (R195). -/
def TXC.STATUS_PENDING : Fld := reg 0x610008 4 1 .ro 0x100 4 (fun _ => 0)
/-- [5] TXC STATUS.CAL_NEXT_FULL, RO, reset 0 (R195). -/
def TXC.STATUS_CAL_NEXT_FULL : Fld := reg 0x610008 5 1 .ro 0x100 4 (fun _ => 0)
/-- [15:8] TXC STATUS.FIFO_LEVEL, RO, reset 0 (R195). Requests waiting. -/
def TXC.STATUS_FIFO_LEVEL : Fld := reg 0x610008 8 8 .ro 0x100 4 (fun _ => 0)
/-- [8:0] TXC MUTE, W1C, reset 0x003 (R195). One bit per cause; bits 1, 4, 7, 8 RO. -/
def TXC.MUTE : Fld := reg 0x61000C 0 9 .w1c 0x100 4 (fun _ => 0x003)
/-- [15:0] TXC PRECOMP_MAX, RW, reset 50,000 (R195). Hz. -/
def TXC.PRECOMP_MAX : Fld := reg 0x610010 0 16 .rw 0x100 4 (fun _ => 50000)
/-- [31:0] TXC PRECOMP_STALE, RW, reset 86,400 (R195). Seconds. -/
def TXC.PRECOMP_STALE : Fld := reg 0x610014 0 32 .rw 0x100 4 (fun _ => 86400)
/-- [31:0] TXC FREQ_NOW, RO, reset 0 (R195). f_true of the current tuning, Hz, truncated. -/
def TXC.FREQ_NOW : Fld := reg 0x610018 0 32 .ro 0x100 4 (fun _ => 0)
/-- [31:0] TXC TX_CNT, RC, reset 0 (R195). Frames sent. -/
def TXC.TX_CNT : Fld := reg 0x61001C 0 32 .rc 0x100 4 (fun _ => 0)
/-- [31:0] TXC DENY_CNT, RC, reset 0 (R195). REG_DENY results. -/
def TXC.DENY_CNT : Fld := reg 0x610020 0 32 .rc 0x100 4 (fun _ => 0)
/-- [31:0] TXC CLAMP_CNT, RC, reset 0 (R195). -/
def TXC.CLAMP_CNT : Fld := reg 0x610024 0 32 .rc 0x100 4 (fun _ => 0)
/-- [31:0] TXC PRECOMP_CLIP_CNT, RC, reset 0 (R195). -/
def TXC.PRECOMP_CLIP_CNT : Fld := reg 0x610028 0 32 .rc 0x100 4 (fun _ => 0)
/-- [31:0] TXC ABORT_CNT, RC, reset 0 (R195). Frames ended early, any cause. -/
def TXC.ABORT_CNT : Fld := reg 0x61002C 0 32 .rc 0x100 4 (fun _ => 0)
/-- [31:0] TXC CAL_FULL_CNT, RC, reset 0 (R195). -/
def TXC.CAL_FULL_CNT : Fld := reg 0x610030 0 32 .rc 0x100 4 (fun _ => 0)
/-- [0] TXC EVENT.BAD_CFG, W1C, reset 0 (R195). -/
def TXC.EVENT_BAD_CFG : Fld := reg 0x610034 0 1 .w1c 0x100 4 (fun _ => 0)
/-- [1] TXC EVENT.LOCK_LOST, W1C, reset 0 (R195). -/
def TXC.EVENT_LOCK_LOST : Fld := reg 0x610034 1 1 .w1c 0x100 4 (fun _ => 0)
/-- [2] TXC EVENT.MUTED, W1C, reset 0 (R195). MUTED entered. -/
def TXC.EVENT_MUTED : Fld := reg 0x610034 2 1 .w1c 0x100 4 (fun _ => 0)
/-- Every field of the block TXC. -/
def TXC.flds : List Fld :=
  [TXC.CTL_EN, TXC.CTL_PORT, TXC.CTL_AUTO_READY, TXC.CTL_RETURN, TXC.CTL_HOST_MUTE, TXC.CMD_GO_READY, TXC.CMD_GO_STANDBY, TXC.CMD_CAL_FLUSH, TXC.STATUS_STATE, TXC.STATUS_TRANS, TXC.STATUS_PENDING, TXC.STATUS_CAL_NEXT_FULL, TXC.STATUS_FIFO_LEVEL, TXC.MUTE, TXC.PRECOMP_MAX, TXC.PRECOMP_STALE, TXC.FREQ_NOW, TXC.TX_CNT, TXC.DENY_CNT, TXC.CLAMP_CNT, TXC.PRECOMP_CLIP_CNT, TXC.ABORT_CNT, TXC.CAL_FULL_CNT, TXC.EVENT_BAD_CFG, TXC.EVENT_LOCK_LOST, TXC.EVENT_MUTED]

/-- [23:0] SY WORD.FRAC, RO, reset 0 (R196). -/
def SY.WORD_FRAC : Fld := reg 0x611000 0 24 .ro 0x40 6 (fun _ => 0)
/-- [31:24] SY WORD.INT, RO, reset 0 (R196). -/
def SY.WORD_INT : Fld := reg 0x611000 24 8 .ro 0x40 6 (fun _ => 0)
/-- [3:0] SY DIV, RO, reset 0 (R196). -/
def SY.DIV : Fld := reg 0x611004 0 4 .ro 0x40 6 (fun _ => 0)
/-- [0] SY STATUS.LOCK, RO, reset 0 (R196). -/
def SY.STATUS_LOCK : Fld := reg 0x611008 0 1 .ro 0x40 6 (fun _ => 0)
/-- [1] SY STATUS.CAL_RUNNING, RO, reset 0 (R196). -/
def SY.STATUS_CAL_RUNNING : Fld := reg 0x611008 1 1 .ro 0x40 6 (fun _ => 0)
/-- [15:0] SY TEMP, RO, reset 0 (R196). Signed, 1/8 °C. -/
def SY.TEMP : Fld := reg 0x61100C 0 16 .ro 0x40 6 (fun _ => 0)
/-- [31:0] SY LOCK_LOST_CNT, RC, reset 0 (R196). -/
def SY.LOCK_LOST_CNT : Fld := reg 0x611010 0 32 .rc 0x40 6 (fun _ => 0)
/-- Every field of the block SY. -/
def SY.flds : List Fld :=
  [SY.WORD_FRAC, SY.WORD_INT, SY.DIV, SY.STATUS_LOCK, SY.STATUS_CAL_RUNNING, SY.TEMP, SY.LOCK_LOST_CNT]

/-- [0] TXPORT CFG.LOOP_DET, RW, reset 1 (R197). 0 PA_DET, 1 FWD_DET. -/
def TXPORT.CFG_LOOP_DET : Fld := reg 0x612000 0 1 .rw 0x80 4 (fun _ => 1)
/-- [1] TXPORT CFG.ALLOW_NO_VSWR, RW, reset 0 (R197). -/
def TXPORT.CFG_ALLOW_NO_VSWR : Fld := reg 0x612000 1 1 .rw 0x80 4 (fun _ => 0)
/-- [2] TXPORT CFG.TUNE_SEARCH, RW, reset 1 (R197). -/
def TXPORT.CFG_TUNE_SEARCH : Fld := reg 0x612000 2 1 .rw 0x80 4 (fun _ => 1)
/-- [3] TXPORT CFG.AUX_RX, RW, reset 0 (R197). TRSW[2p+1] level in receive. -/
def TXPORT.CFG_AUX_RX : Fld := reg 0x612000 3 1 .rw 0x80 4 (fun _ => 0)
/-- [4] TXPORT CFG.AUX_TX, RW, reset 0 (R197). TRSW[2p+1] level in TX. -/
def TXPORT.CFG_AUX_TX : Fld := reg 0x612000 4 1 .rw 0x80 4 (fun _ => 0)
/-- [15:0] TXPORT LINE_GAIN, RW, reset C (R197). Signed, 1/16 dB, ball to connector. -/
def TXPORT.LINE_GAIN : Fld := reg 0x612004 0 16 .rw 0x80 4 (fun _ => 0)
/-- [9:0] TXPORT BIAS.BIAS_ON, RW, reset 0 (R197). DAC code. -/
def TXPORT.BIAS_BIAS_ON : Fld := reg 0x612008 0 10 .rw 0x80 4 (fun _ => 0)
/-- [25:16] TXPORT BIAS.BIAS_OFF, RW, reset 0 (R197). DAC code. -/
def TXPORT.BIAS_BIAS_OFF : Fld := reg 0x612008 16 10 .rw 0x80 4 (fun _ => 0)
/-- [7:0] TXPORT RL_THR.RL_MIN, RW, reset 40 (R197). 0.25 dB; 10 dB. -/
def TXPORT.RL_THR_RL_MIN : Fld := reg 0x61200C 0 8 .rw 0x80 4 (fun _ => 40)
/-- [15:8] TXPORT RL_THR.RL_OPEN, RW, reset 12 (R197). 3 dB. -/
def TXPORT.RL_THR_RL_OPEN : Fld := reg 0x61200C 8 8 .rw 0x80 4 (fun _ => 12)
/-- [23:16] TXPORT RL_THR.RL_GOOD, RW, reset 56 (R197). 14 dB; a write leaving RL_OPEN < RL_MIN ≤ RL_GOOD untrue is ignored and sets BAD_CFG. -/
def TXPORT.RL_THR_RL_GOOD : Fld := reg 0x61200C 16 8 .rw 0x80 4 (fun _ => 56)
/-- [15:0] TXPORT TUNE_NOW, RO, reset C (R197). Code in force. -/
def TXPORT.TUNE_NOW : Fld := reg 0x612010 0 16 .ro 0x80 4 (fun _ => 0)
/-- [7:0] TXPORT LAST_RL, RO, reset 0xFF (R197). 0.25 dB. -/
def TXPORT.LAST_RL : Fld := reg 0x612014 0 8 .ro 0x80 4 (fun _ => 0xFF)
/-- [15:0] TXPORT LAST_PWR, RO, reset 0 (R197). Signed, 0.25 dBm. -/
def TXPORT.LAST_PWR : Fld := reg 0x612018 0 16 .ro 0x80 4 (fun _ => 0)
/-- [0] TXPORT DET_STATUS.PA_DET_OPEN, RO, reset 0 (R197). -/
def TXPORT.DET_STATUS_PA_DET_OPEN : Fld := reg 0x61201C 0 1 .ro 0x80 4 (fun _ => 0)
/-- [1] TXPORT DET_STATUS.FWD_OPEN, RO, reset 0 (R197). -/
def TXPORT.DET_STATUS_FWD_OPEN : Fld := reg 0x61201C 1 1 .ro 0x80 4 (fun _ => 0)
/-- [2] TXPORT DET_STATUS.REV_OPEN, RO, reset 0 (R197). -/
def TXPORT.DET_STATUS_REV_OPEN : Fld := reg 0x61201C 2 1 .ro 0x80 4 (fun _ => 0)
/-- [0] TXPORT EVENT.MISMATCH, W1C, reset 0 (R197). -/
def TXPORT.EVENT_MISMATCH : Fld := reg 0x612020 0 1 .w1c 0x80 4 (fun _ => 0)
/-- [1] TXPORT EVENT.OPEN_SHORT, W1C, reset 0 (R197). -/
def TXPORT.EVENT_OPEN_SHORT : Fld := reg 0x612020 1 1 .w1c 0x80 4 (fun _ => 0)
/-- [2] TXPORT EVENT.READBACK, W1C, reset 0 (R197). -/
def TXPORT.EVENT_READBACK : Fld := reg 0x612020 2 1 .w1c 0x80 4 (fun _ => 0)
/-- [3] TXPORT EVENT.DET_OPEN, W1C, reset 0 (R197). -/
def TXPORT.EVENT_DET_OPEN : Fld := reg 0x612020 3 1 .w1c 0x80 4 (fun _ => 0)
/-- [4] TXPORT EVENT.OVERPOWER, W1C, reset 0 (R197). -/
def TXPORT.EVENT_OVERPOWER : Fld := reg 0x612020 4 1 .w1c 0x80 4 (fun _ => 0)
/-- [5] TXPORT EVENT.BAD_CFG, W1C, reset 0 (R197). -/
def TXPORT.EVENT_BAD_CFG : Fld := reg 0x612020 5 1 .w1c 0x80 4 (fun _ => 0)
/-- [3:0] TXPORT READBACK_SRC, RO, reset 0 (R197). 0 PA_EN, 1 TRSW T/R, 2 TRSW aux, 3 PA_BIAS. -/
def TXPORT.READBACK_SRC : Fld := reg 0x612024 0 4 .ro 0x80 4 (fun _ => 0)
/-- [31:0] TXPORT MISMATCH_CNT, RC, reset 0 (R197). -/
def TXPORT.MISMATCH_CNT : Fld := reg 0x612028 0 32 .rc 0x80 4 (fun _ => 0)
/-- [31:0] TXPORT SEARCH_CNT, RC, reset 0 (R197). -/
def TXPORT.SEARCH_CNT : Fld := reg 0x61202C 0 32 .rc 0x80 4 (fun _ => 0)
/-- Every field of the block TXPORT. -/
def TXPORT.flds : List Fld :=
  [TXPORT.CFG_LOOP_DET, TXPORT.CFG_ALLOW_NO_VSWR, TXPORT.CFG_TUNE_SEARCH, TXPORT.CFG_AUX_RX, TXPORT.CFG_AUX_TX, TXPORT.LINE_GAIN, TXPORT.BIAS_BIAS_ON, TXPORT.BIAS_BIAS_OFF, TXPORT.RL_THR_RL_MIN, TXPORT.RL_THR_RL_OPEN, TXPORT.RL_THR_RL_GOOD, TXPORT.TUNE_NOW, TXPORT.LAST_RL, TXPORT.LAST_PWR, TXPORT.DET_STATUS_PA_DET_OPEN, TXPORT.DET_STATUS_FWD_OPEN, TXPORT.DET_STATUS_REV_OPEN, TXPORT.EVENT_MISMATCH, TXPORT.EVENT_OPEN_SHORT, TXPORT.EVENT_READBACK, TXPORT.EVENT_DET_OPEN, TXPORT.EVENT_OVERPOWER, TXPORT.EVENT_BAD_CFG, TXPORT.READBACK_SRC, TXPORT.MISMATCH_CNT, TXPORT.SEARCH_CNT]

/-- [0] COEX CFG.EN, RW, reset 0 (R198). -/
def COEX.CFG_EN : Fld := reg 0x613000 0 1 .rw 0x0 1 (fun _ => 0)
/-- [4:1] COEX CFG.PORTS, RW, reset 0 (R198). Governed aerial ports. -/
def COEX.CFG_PORTS : Fld := reg 0x613000 1 4 .rw 0x0 1 (fun _ => 0)
/-- [5] COEX CFG.REQ_POL, RW, reset 0 (R198). 0 active high. -/
def COEX.CFG_REQ_POL : Fld := reg 0x613000 5 1 .rw 0x0 1 (fun _ => 0)
/-- [6] COEX CFG.PRI_POL, RW, reset 0 (R198). -/
def COEX.CFG_PRI_POL : Fld := reg 0x613000 6 1 .rw 0x0 1 (fun _ => 0)
/-- [7] COEX CFG.GNT_POL, RW, reset 0 (R198). -/
def COEX.CFG_GNT_POL : Fld := reg 0x613000 7 1 .rw 0x0 1 (fun _ => 0)
/-- [11:8] COEX CFG.PRI_CLASS, RW, reset 0x1 (R198). Bit 0 Trump, 1 Lead, 2 Deal, 3 Kitty. -/
def COEX.CFG_PRI_CLASS : Fld := reg 0x613000 8 4 .rw 0x0 1 (fun _ => 0x1)
/-- [12] COEX CFG.ABORT, RW, reset 1 (R198). -/
def COEX.CFG_ABORT : Fld := reg 0x613000 12 1 .rw 0x0 1 (fun _ => 1)
/-- [15:0] COEX LEAD, RW, reset 100 (R198). µs. -/
def COEX.LEAD : Fld := reg 0x613004 0 16 .rw 0x0 1 (fun _ => 100)
/-- [7:0] COEX GNT_MAX, RW, reset 10 (R198). µs, 1 to 255. -/
def COEX.GNT_MAX : Fld := reg 0x613008 0 8 .rw 0x0 1 (fun _ => 10)
/-- [1:0] COEX STATUS.CHECK, RO, reset 0 (R198). 0 not run, 1 PASS, 2 SWAPPED, 3 NO_RESPONSE. -/
def COEX.STATUS_CHECK : Fld := reg 0x61300C 0 2 .ro 0x0 1 (fun _ => 0)
/-- [4] COEX STATUS.GNT, RO, reset 0 (R198). Grant level, after polarity. -/
def COEX.STATUS_GNT : Fld := reg 0x61300C 4 1 .ro 0x0 1 (fun _ => 0)
/-- [5] COEX STATUS.READBACK, W1C, reset 0 (R198). Mismatch on COEX_REQ or COEX_PRI. -/
def COEX.STATUS_READBACK : Fld := reg 0x61300C 5 1 .w1c 0x0 1 (fun _ => 0)
/-- [0] COEX CMD.CHECK, WO, reset 0 (R198). -/
def COEX.CMD_CHECK : Fld := reg 0x613010 0 1 .wo 0x0 1 (fun _ => 0)
/-- [31:0] COEX DENY_CNT, RC, reset 0 (R198). -/
def COEX.DENY_CNT : Fld := reg 0x613014 0 32 .rc 0x0 1 (fun _ => 0)
/-- [31:0] COEX ABORT_CNT, RC, reset 0 (R198). -/
def COEX.ABORT_CNT : Fld := reg 0x613018 0 32 .rc 0x0 1 (fun _ => 0)
/-- [0] COEX EVENT.BAD_CFG, W1C, reset 0 (R198). -/
def COEX.EVENT_BAD_CFG : Fld := reg 0x61301C 0 1 .w1c 0x0 1 (fun _ => 0)
/-- [31:0] COEX LATE_REQ_CNT, RC, reset 0 (R198). Requests asserted at arming, less than LEAD before C. -/
def COEX.LATE_REQ_CNT : Fld := reg 0x613020 0 32 .rc 0x0 1 (fun _ => 0)
/-- Every field of the block COEX. -/
def COEX.flds : List Fld :=
  [COEX.CFG_EN, COEX.CFG_PORTS, COEX.CFG_REQ_POL, COEX.CFG_PRI_POL, COEX.CFG_GNT_POL, COEX.CFG_PRI_CLASS, COEX.CFG_ABORT, COEX.LEAD, COEX.GNT_MAX, COEX.STATUS_CHECK, COEX.STATUS_GNT, COEX.STATUS_READBACK, COEX.CMD_CHECK, COEX.DENY_CNT, COEX.ABORT_CNT, COEX.EVENT_BAD_CFG, COEX.LATE_REQ_CNT]

end Sys2Proof.Machine
end

