-- ==== Sys2Proof/Machine/RegsTime.lean ====
section
/-!
DEFINITION. The register fields of the blocks SYS, TIME, PT, CU, PTP_PORT, BEACON, THK, THK_HEDGE, LEARN_LANE: one definition a field,
with the word it lies in, its bits, access code and reset value as the register tables of spec/ give them.
-/

namespace Sys2Proof.Machine

/-- [15:0] SYS ID.PART, RO, reset 0x4800 (R582). -/
def SYS.ID_PART : Fld := reg 0x0 0 16 .ro 0x0 1 (fun _ => 0x4800)
/-- [23:16] SYS ID.FAMILY, RO, reset 0x58 (R582). Xathes. -/
def SYS.ID_FAMILY : Fld := reg 0x0 16 8 .ro 0x0 1 (fun _ => 0x58)
/-- [27:24] SYS ID.MINOR, RO, reset 0x0 (R582). Silicon revision B0. -/
def SYS.ID_MINOR : Fld := reg 0x0 24 4 .ro 0x0 1 (fun _ => 0x0)
/-- [31:28] SYS ID.MAJOR, RO, reset 0xB (R582). ID reads 0xB058_4800. -/
def SYS.ID_MAJOR : Fld := reg 0x0 28 4 .ro 0x0 1 (fun _ => 0xB)
/-- [1:0] SYS ORDER.CODE, RO, reset see text (R582). 0 XTH-4800-IB, 1 XTH-4800-CB; fixed in silicon. -/
def SYS.ORDER_CODE : Fld := reg 0x4 0 2 .ro 0x0 1 (fun _ => 0)
/-- [63:0] SYS EUI64, RO, reset F (R582). 64-bit. The part's EUI-64. -/
def SYS.EUI64 : Fld := regW 0x8 0 64 .ro 0x0 1 (fun _ => 0)
/-- [15:0] SYS VERSION.STEWARD, RO, reset 0 (R582). Steward firmware version, written at boot. -/
def SYS.VERSION_STEWARD : Fld := reg 0x10 0 16 .ro 0x0 1 (fun _ => 0)
/-- [31:16] SYS VERSION.RUNTIME, RO, reset 0 (R582). Mesh Runtime version. -/
def SYS.VERSION_RUNTIME : Fld := reg 0x10 16 16 .ro 0x0 1 (fun _ => 0)
/-- [3:0] SYS VIEW, RO, reset see text (R582). h in Hedge view h; 8 in the privileged view. -/
def SYS.VIEW : Fld := reg 0x14 0 4 .ro 0x0 1 (fun _ => 8)
/-- [31:0] SYS SCRATCH[i], RW, reset 0 (R582). Spared by core reset. -/
def SYS.SCRATCH : Fld := reg 0x20 0 32 .rw 0x4 4 (fun _ => 0)
/-- [5:0] SYS EXPERT_G.OWN, RW, reset 0 (R582). R580. -/
def SYS.EXPERT_G_OWN : Fld := reg 0x40 0 6 .rw 0x0 1 (fun _ => 0)
/-- [21:16] SYS EXPERT_G.ACK, RO, reset 0 (R582). -/
def SYS.EXPERT_G_ACK : Fld := reg 0x40 16 6 .ro 0x0 1 (fun _ => 0)
/-- [5:0] SYS EXPERT_H[h].OWN, RW, reset 0 (R582). -/
def SYS.EXPERT_H_OWN : Fld := reg 0x80 0 6 .rw 0x4 8 (fun _ => 0)
/-- [21:16] SYS EXPERT_H[h].ACK, RO, reset 0 (R582). -/
def SYS.EXPERT_H_ACK : Fld := reg 0x80 16 6 .ro 0x4 8 (fun _ => 0)
/-- [31:0] SYS HSCRATCH[h][j], RW, reset 0 (R582). Cleared by Hedge reset of h; spared by core reset. -/
def SYS.HSCRATCH : Fld := regIx 0x100 0 32 .rw 0x4 8 4 4 false (fun _ => 0)
/-- [27:0] SYS ERR[i].ADDR, RO, reset 0 (R582). Whole offset of the last bus error in view i, on any path (R576); bits [27:24] read 0 in a Hedge view. -/
def SYS.ERR_ADDR : Fld := reg 0x200 0 28 .ro 0x8 9 (fun _ => 0)
/-- [31:0] SYS ERR[i].CNT, RC, reset 0 (R582). -/
def SYS.ERR_CNT : Fld := reg 0x204 0 32 .rc 0x8 9 (fun _ => 0)
/-- Every field of the block SYS. -/
def SYS.flds : List Fld :=
  [SYS.ID_PART, SYS.ID_FAMILY, SYS.ID_MINOR, SYS.ID_MAJOR, SYS.ORDER_CODE, SYS.EUI64, SYS.VERSION_STEWARD, SYS.VERSION_RUNTIME, SYS.VIEW, SYS.SCRATCH, SYS.EXPERT_G_OWN, SYS.EXPERT_G_ACK, SYS.EXPERT_H_OWN, SYS.EXPERT_H_ACK, SYS.HSCRATCH, SYS.ERR_ADDR, SYS.ERR_CNT]

/-- [0] TIME NSC_CTL.SET, WO, reset 0 (R49). Apply NSC_SET_SEC and NSC_SET_NS under the step rules. -/
def TIME.NSC_CTL_SET : Fld := reg 0x400000 0 1 .wo 0x0 1 (fun _ => 0)
/-- [1] TIME NSC_CTL.STEP, WO, reset 0 (R49). Apply NSC_STEP_SEC and NSC_STEP_NS under the step rules. -/
def TIME.NSC_CTL_STEP : Fld := reg 0x400000 1 1 .wo 0x0 1 (fun _ => 0)
/-- [2] TIME NSC_CTL.SERVO_EN, RW, reset 1 (R49). Servo writes NSC_INC. -/
def TIME.NSC_CTL_SERVO_EN : Fld := reg 0x400000 2 1 .rw 0x0 1 (fun _ => 1)
/-- [39:0] TIME NSC_INC, RW, reset 0x01_5555_5555 (R49). 64-bit, bits [63:40] reserved. 8.32 ns per cycle. -/
def TIME.NSC_INC : Fld := regW 0x400008 0 40 .rw 0x0 1 (fun _ => 0x0155555555)
/-- [29:0] TIME NSC_NOW_NS.NS, RO, reset 0 (R49). Latches the shadows. -/
def TIME.NSC_NOW_NS_NS : Fld := reg 0x400010 0 30 .ro 0x0 1 (fun _ => 0)
/-- [31:0] TIME NSC_NOW_FRAC, RO, reset 0 (R49). -/
def TIME.NSC_NOW_FRAC : Fld := reg 0x400014 0 32 .ro 0x0 1 (fun _ => 0)
/-- [31:0] TIME NSC_NOW_SEC_LO, RO, reset 0x5E0B_E100 (R49). -/
def TIME.NSC_NOW_SEC_LO : Fld := reg 0x400018 0 32 .ro 0x0 1 (fun _ => 0x5E0BE100)
/-- [15:0] TIME NSC_NOW_SEC_HI, RO, reset 0 (R49). -/
def TIME.NSC_NOW_SEC_HI : Fld := reg 0x40001C 0 16 .ro 0x0 1 (fun _ => 0)
/-- [31:0] TIME NSC_SET_SEC_LO, RW, reset 0 (R49). Bits [15:0] of 0x024 form bits [47:32]. -/
def TIME.NSC_SET_SEC_LO : Fld := reg 0x400020 0 32 .rw 0x0 1 (fun _ => 0)
/-- [15:0] TIME NSC_SET_SEC bits [47:32], RW, reset 0 (R49). 0x024. Bits [47:32] of the seconds of a set. -/
def TIME.NSC_SET_SEC_HI : Fld := reg 0x400024 0 16 .rw 0x0 1 (fun _ => 0)
/-- [29:0] TIME NSC_SET_NS, RW, reset 0 (R49). -/
def TIME.NSC_SET_NS : Fld := reg 0x400028 0 30 .rw 0x0 1 (fun _ => 0)
/-- [31:0] TIME NSC_STEP_SEC, RW, reset 0 (R49). Signed seconds. -/
def TIME.NSC_STEP_SEC : Fld := reg 0x40002C 0 32 .rw 0x0 1 (fun _ => 0)
/-- [31:0] TIME NSC_STEP_NS, RW, reset 0 (R49). Signed ns, −999,999,999 to 999,999,999. -/
def TIME.NSC_STEP_NS : Fld := reg 0x400030 0 32 .rw 0x0 1 (fun _ => 0)
/-- [31:0] TIME NSC_SLEW_ADJ, RW, reset 0 (R49). Signed, 2^-32 ns per cycle. Staged value, used by the next write of NSC_SLEW_CNT (R21). -/
def TIME.NSC_SLEW_ADJ : Fld := reg 0x400034 0 32 .rw 0x0 1 (fun _ => 0)
/-- [31:0] TIME NSC_SLEW_CNT, RW, reset 0 (R49). A write starts a slew of this many cycles with the staged NSC_SLEW_ADJ (R21). A read returns the cycles remaining of the slew in progress, which counts down. -/
def TIME.NSC_SLEW_CNT : Fld := reg 0x400038 0 32 .rw 0x0 1 (fun _ => 0)
/-- [63:0] TIME MP_NOW, RO, reset 0 (R49). 64-bit. -/
def TIME.MP_NOW : Fld := regW 0x400040 0 64 .ro 0x0 1 (fun _ => 0)
/-- [47:0] TIME MP_EPOCH_SEC, RWL, reset 0x0000_5E0B_E100 (R49). 64-bit. Locked by EPOCH_LOCK. -/
def TIME.MP_EPOCH_SEC : Fld := regW 0x400048 0 48 .rwl 0x0 1 (fun _ => 0x00005E0BE100)
/-- [0] TIME EPOCH_LOCK.LOCK, W1S, reset 0 (R49). Cleared by system reset. -/
def TIME.EPOCH_LOCK_LOCK : Fld := reg 0x400050 0 1 .w1s 0x0 1 (fun _ => 0)
/-- [1:0] TIME SRC_CTL.PRI0, RW, reset 1 (R49). 0 none, 1 PPS_IN, 2 PTP port 0, 3 PTP port 1. -/
def TIME.SRC_CTL_PRI0 : Fld := reg 0x400054 0 2 .rw 0x0 1 (fun _ => 1)
/-- [3:2] TIME SRC_CTL.PRI1, RW, reset 2 (R49). Second choice. -/
def TIME.SRC_CTL_PRI1 : Fld := reg 0x400054 2 2 .rw 0x0 1 (fun _ => 2)
/-- [5:4] TIME SRC_CTL.PRI2, RW, reset 3 (R49). Third choice. -/
def TIME.SRC_CTL_PRI2 : Fld := reg 0x400054 4 2 .rw 0x0 1 (fun _ => 3)
/-- [8] TIME SRC_CTL.AUTO, RW, reset 1 (R49). Automatic selection. -/
def TIME.SRC_CTL_AUTO : Fld := reg 0x400054 8 1 .rw 0x0 1 (fun _ => 1)
/-- [2:0] TIME SRC_STATUS.STATE, RO, reset 0 (R49). Discipline state code. -/
def TIME.SRC_STATUS_STATE : Fld := reg 0x400058 0 3 .ro 0x0 1 (fun _ => 0)
/-- [5:4] TIME SRC_STATUS.ACTIVE, RO, reset 0 (R49). Selected source, encoded as SRC_CTL.PRI0. -/
def TIME.SRC_STATUS_ACTIVE : Fld := reg 0x400058 4 2 .ro 0x0 1 (fun _ => 0)
/-- [8] TIME SRC_STATUS.PPS_PRESENT, RO, reset 0 (R49). -/
def TIME.SRC_STATUS_PPS_PRESENT : Fld := reg 0x400058 8 1 .ro 0x0 1 (fun _ => 0)
/-- [9] TIME SRC_STATUS.PTP0_PRESENT, RO, reset 0 (R49). -/
def TIME.SRC_STATUS_PTP0_PRESENT : Fld := reg 0x400058 9 1 .ro 0x0 1 (fun _ => 0)
/-- [10] TIME SRC_STATUS.PTP1_PRESENT, RO, reset 0 (R49). -/
def TIME.SRC_STATUS_PTP1_PRESENT : Fld := reg 0x400058 10 1 .ro 0x0 1 (fun _ => 0)
/-- [31:0] TIME PHASE_ERR, RO, reset 0 (R49). Last servo sample, signed ns. -/
def TIME.PHASE_ERR : Fld := reg 0x40005C 0 32 .ro 0x0 1 (fun _ => 0)
/-- [15:0] TIME SERVO_KP, RW, reset 0x0400 (R49). Unsigned 4.12. -/
def TIME.SERVO_KP : Fld := reg 0x400060 0 16 .rw 0x0 1 (fun _ => 0x0400)
/-- [15:0] TIME SERVO_KI, RW, reset 0x0020 (R49). Unsigned 4.12. -/
def TIME.SERVO_KI : Fld := reg 0x400064 0 16 .rw 0x0 1 (fun _ => 0x0020)
/-- [15:0] TIME LOCK_CFG.LOCK_THR, RW, reset 100 (R49). ns. -/
def TIME.LOCK_CFG_LOCK_THR : Fld := reg 0x400068 0 16 .rw 0x0 1 (fun _ => 100)
/-- [23:16] TIME LOCK_CFG.LOCK_CNT, RW, reset 16 (R49). Samples. -/
def TIME.LOCK_CFG_LOCK_CNT : Fld := reg 0x400068 16 8 .rw 0x0 1 (fun _ => 16)
/-- [27:24] TIME LOCK_CFG.UNLOCK_CNT, RW, reset 3 (R49). Samples. -/
def TIME.LOCK_CFG_UNLOCK_CNT : Fld := reg 0x400068 24 4 .rw 0x0 1 (fun _ => 3)
/-- [15:0] TIME UNLOCK_CFG.UNLOCK_THR, RW, reset 1,000 (R49). ns. -/
def TIME.UNLOCK_CFG_UNLOCK_THR : Fld := reg 0x40006C 0 16 .rw 0x0 1 (fun _ => 1000)
/-- [31:16] TIME UNLOCK_CFG.HOLD_AVG, RW, reset 64 (R49). Seconds. -/
def TIME.UNLOCK_CFG_HOLD_AVG : Fld := reg 0x40006C 16 16 .rw 0x0 1 (fun _ => 64)
/-- [15:0] TIME TX_EXT_DELAY[c], RW, reset 0 (R49). ns from aerial port ball to connector. -/
def TIME.TX_EXT_DELAY : Fld := reg 0x400070 0 16 .rw 0x4 4 (fun _ => 0)
/-- [0] TIME PPS_CFG.EN, RW, reset 0 (R49). -/
def TIME.PPS_CFG_EN : Fld := reg 0x400080 0 1 .rw 0x0 1 (fun _ => 0)
/-- [1] TIME PPS_CFG.POL, RW, reset 0 (R49). 0 rising edge on time, 1 falling. -/
def TIME.PPS_CFG_POL : Fld := reg 0x400080 1 1 .rw 0x0 1 (fun _ => 0)
/-- [31:16] TIME PPS_CFG.DELAY, RW, reset 0 (R49). Input path delay, ns. -/
def TIME.PPS_CFG_DELAY : Fld := reg 0x400080 16 16 .rw 0x0 1 (fun _ => 0)
/-- [0] TIME PPS_STATUS.POL_SUSPECT, RO, reset 0 (R49). -/
def TIME.PPS_STATUS_POL_SUSPECT : Fld := reg 0x400084 0 1 .ro 0x0 1 (fun _ => 0)
/-- [1] TIME PPS_STATUS.OPEN, RO, reset 0 (R49). Bias-detection result. -/
def TIME.PPS_STATUS_OPEN : Fld := reg 0x400084 1 1 .ro 0x0 1 (fun _ => 0)
/-- [31:16] TIME PPS_STATUS.OUTLIER_CNT, RC, reset 0 (R49). Discarded samples. -/
def TIME.PPS_STATUS_OUTLIER_CNT : Fld := reg 0x400084 16 16 .rc 0x0 1 (fun _ => 0)
/-- [15:0] TIME STEP_CFG.STEP_MAX, RW, reset 1,000 (R49). µs. -/
def TIME.STEP_CFG_STEP_MAX : Fld := reg 0x400088 0 16 .rw 0x0 1 (fun _ => 1000)
/-- [16] TIME STEP_CFG.SLEW_ONLY, RW, reset 0 (R49). Refuse larger steps. -/
def TIME.STEP_CFG_SLEW_ONLY : Fld := reg 0x400088 16 1 .rw 0x0 1 (fun _ => 0)
/-- [31:24] TIME STEP_CFG.SLEW_PPM, RW, reset 50 (R49). Units of 10 ppm; 1 to 50, others ignored. -/
def TIME.STEP_CFG_SLEW_PPM : Fld := reg 0x400088 24 8 .rw 0x0 1 (fun _ => 50)
/-- [15:0] TIME UTC_OFFSET, RW, reset 37 (R49). Signed seconds. -/
def TIME.UTC_OFFSET : Fld := reg 0x40008C 0 16 .rw 0x0 1 (fun _ => 37)
/-- [0] TIME TIME_EVENT.LOCK, W1C, reset 0 (R49). LOCKED entered. -/
def TIME.TIME_EVENT_LOCK : Fld := reg 0x400090 0 1 .w1c 0x0 1 (fun _ => 0)
/-- [1] TIME TIME_EVENT.UNLOCK, W1C, reset 0 (R49). LOCKED left. -/
def TIME.TIME_EVENT_UNLOCK : Fld := reg 0x400090 1 1 .w1c 0x0 1 (fun _ => 0)
/-- [2] TIME TIME_EVENT.HOLDOVER, W1C, reset 0 (R49). HOLDOVER entered. -/
def TIME.TIME_EVENT_HOLDOVER : Fld := reg 0x400090 2 1 .w1c 0x0 1 (fun _ => 0)
/-- [3] TIME TIME_EVENT.SRC_SWITCH, W1C, reset 0 (R49). Source changed. -/
def TIME.TIME_EVENT_SRC_SWITCH : Fld := reg 0x400090 3 1 .w1c 0x0 1 (fun _ => 0)
/-- [4] TIME TIME_EVENT.STEPPED, W1C, reset 0 (R49). Step applied in one cycle. -/
def TIME.TIME_EVENT_STEPPED : Fld := reg 0x400090 4 1 .w1c 0x0 1 (fun _ => 0)
/-- [5] TIME TIME_EVENT.STEP_REFUSED, W1C, reset 0 (R49). -/
def TIME.TIME_EVENT_STEP_REFUSED : Fld := reg 0x400090 5 1 .w1c 0x0 1 (fun _ => 0)
/-- [6] TIME TIME_EVENT.INC_REFUSED, W1C, reset 0 (R49). -/
def TIME.TIME_EVENT_INC_REFUSED : Fld := reg 0x400090 6 1 .w1c 0x0 1 (fun _ => 0)
/-- [7] TIME TIME_EVENT.PPS_LOST, W1C, reset 0 (R49). -/
def TIME.TIME_EVENT_PPS_LOST : Fld := reg 0x400090 7 1 .w1c 0x0 1 (fun _ => 0)
/-- [9:8] TIME TIME_EVENT.PTP_LOST, W1C, reset 0 (R49). One bit per port. -/
def TIME.TIME_EVENT_PTP_LOST : Fld := reg 0x400090 8 2 .w1c 0x0 1 (fun _ => 0)
/-- [2:0] TIME STEP_LOG_HEAD, RO, reset 0 (R49). Newest entry. -/
def TIME.STEP_LOG_HEAD : Fld := reg 0x400094 0 3 .ro 0x0 1 (fun _ => 0)
/-- [63:0] TIME STEP_LOG[i].BEFORE, RO, reset 0 (R49). 64-bit. -/
def TIME.STEP_LOG_BEFORE : Fld := regW 0x400100 0 64 .ro 0x10 8 (fun _ => 0)
/-- [63:0] TIME STEP_LOG[i].AFTER, RO, reset 0 (R49). 64-bit. -/
def TIME.STEP_LOG_AFTER : Fld := regW 0x400108 0 64 .ro 0x10 8 (fun _ => 0)
/-- Every field of the block TIME. -/
def TIME.flds : List Fld :=
  [TIME.NSC_CTL_SET, TIME.NSC_CTL_STEP, TIME.NSC_CTL_SERVO_EN, TIME.NSC_INC, TIME.NSC_NOW_NS_NS, TIME.NSC_NOW_FRAC, TIME.NSC_NOW_SEC_LO, TIME.NSC_NOW_SEC_HI, TIME.NSC_SET_SEC_LO, TIME.NSC_SET_SEC_HI, TIME.NSC_SET_NS, TIME.NSC_STEP_SEC, TIME.NSC_STEP_NS, TIME.NSC_SLEW_ADJ, TIME.NSC_SLEW_CNT, TIME.MP_NOW, TIME.MP_EPOCH_SEC, TIME.EPOCH_LOCK_LOCK, TIME.SRC_CTL_PRI0, TIME.SRC_CTL_PRI1, TIME.SRC_CTL_PRI2, TIME.SRC_CTL_AUTO, TIME.SRC_STATUS_STATE, TIME.SRC_STATUS_ACTIVE, TIME.SRC_STATUS_PPS_PRESENT, TIME.SRC_STATUS_PTP0_PRESENT, TIME.SRC_STATUS_PTP1_PRESENT, TIME.PHASE_ERR, TIME.SERVO_KP, TIME.SERVO_KI] ++
  [TIME.LOCK_CFG_LOCK_THR, TIME.LOCK_CFG_LOCK_CNT, TIME.LOCK_CFG_UNLOCK_CNT, TIME.UNLOCK_CFG_UNLOCK_THR, TIME.UNLOCK_CFG_HOLD_AVG, TIME.TX_EXT_DELAY, TIME.PPS_CFG_EN, TIME.PPS_CFG_POL, TIME.PPS_CFG_DELAY, TIME.PPS_STATUS_POL_SUSPECT, TIME.PPS_STATUS_OPEN, TIME.PPS_STATUS_OUTLIER_CNT, TIME.STEP_CFG_STEP_MAX, TIME.STEP_CFG_SLEW_ONLY, TIME.STEP_CFG_SLEW_PPM, TIME.UTC_OFFSET, TIME.TIME_EVENT_LOCK, TIME.TIME_EVENT_UNLOCK, TIME.TIME_EVENT_HOLDOVER, TIME.TIME_EVENT_SRC_SWITCH, TIME.TIME_EVENT_STEPPED, TIME.TIME_EVENT_STEP_REFUSED, TIME.TIME_EVENT_INC_REFUSED, TIME.TIME_EVENT_PPS_LOST, TIME.TIME_EVENT_PTP_LOST, TIME.STEP_LOG_HEAD, TIME.STEP_LOG_BEFORE, TIME.STEP_LOG_AFTER]

/-- [63:0] PT CMP, RW, reset 0 (R50). 64-bit. Low-word write arms while EN is 1. -/
def PT.CMP : Fld := regW 0x401000 0 64 .rw 0x20 64 (fun _ => 0)
/-- [31:0] PT PERIOD, RW, reset 0 (R50). Ticks; 0 means one-shot. -/
def PT.PERIOD : Fld := reg 0x401008 0 32 .rw 0x20 64 (fun _ => 0)
/-- [0] PT CTL.EN, RW, reset 0 (R50). -/
def PT.CTL_EN : Fld := reg 0x40100C 0 1 .rw 0x20 64 (fun _ => 0)
/-- [6:4] PT CTL.ACTION, RW, reset 0 (R50). Action code. -/
def PT.CTL_ACTION : Fld := reg 0x40100C 4 3 .rw 0x20 64 (fun _ => 0)
/-- [24:16] PT CTL.TARGET, RW, reset 0 (R50). Action target. -/
def PT.CTL_TARGET : Fld := reg 0x40100C 16 9 .rw 0x20 64 (fun _ => 0)
/-- [31:28] PT CTL.OWNER, RW, reset 0xF (R50). Privileged view only; 0xF Mesh Runtime, or free for PT24–PT63 (R40). -/
def PT.CTL_OWNER : Fld := reg 0x40100C 28 4 .rw 0x20 64 (fun _ => 0xF)
/-- [23:0] PT WIDTH, RW, reset 0x19_9999 (R50). Pulse width in ticks, minimum 17. -/
def PT.WIDTH : Fld := reg 0x401010 0 24 .rw 0x20 64 (fun _ => 0x199999)
/-- [0] PT STATUS.ARMED, RO, reset 0 (R50). -/
def PT.STATUS_ARMED : Fld := reg 0x401014 0 1 .ro 0x20 64 (fun _ => 0)
/-- [1] PT STATUS.FIRED, W1C, reset 0 (R50). -/
def PT.STATUS_FIRED : Fld := reg 0x401014 1 1 .w1c 0x20 64 (fun _ => 0)
/-- [2] PT STATUS.MISSED, W1C, reset 0 (R50). -/
def PT.STATUS_MISSED : Fld := reg 0x401014 2 1 .w1c 0x20 64 (fun _ => 0)
/-- [3] PT STATUS.CONFLICT, W1C, reset 0 (R50). -/
def PT.STATUS_CONFLICT : Fld := reg 0x401014 3 1 .w1c 0x20 64 (fun _ => 0)
/-- [4] PT STATUS.NOT_READY, W1C, reset 0 (R50). -/
def PT.STATUS_NOT_READY : Fld := reg 0x401014 4 1 .w1c 0x20 64 (fun _ => 0)
/-- [5] PT STATUS.BAD_CFG, W1C, reset 0 (R50). -/
def PT.STATUS_BAD_CFG : Fld := reg 0x401014 5 1 .w1c 0x20 64 (fun _ => 0)
/-- [31:0] PT FIRE_CNT, RC, reset 0 (R50). -/
def PT.FIRE_CNT : Fld := reg 0x401018 0 32 .rc 0x20 64 (fun _ => 0)
/-- Every field of the block PT. -/
def PT.flds : List Fld :=
  [PT.CMP, PT.PERIOD, PT.CTL_EN, PT.CTL_ACTION, PT.CTL_TARGET, PT.CTL_OWNER, PT.WIDTH, PT.STATUS_ARMED, PT.STATUS_FIRED, PT.STATUS_MISSED, PT.STATUS_CONFLICT, PT.STATUS_NOT_READY, PT.STATUS_BAD_CFG, PT.FIRE_CNT]

/-- [0] CU CTL.EN, RW, reset 0 (R51). -/
def CU.CTL_EN : Fld := reg 0x402000 0 1 .rw 0x20 16 (fun _ => 0)
/-- [2:1] CU CTL.EDGE, RW, reset 0 (R51). 0 rising, 1 falling, 2 both, 3 reserved. -/
def CU.CTL_EDGE : Fld := reg 0x402000 1 2 .rw 0x20 16 (fun _ => 0)
/-- [12:8] CU CTL.SOURCE, RW, reset 0 (R51). Capture source. -/
def CU.CTL_SOURCE : Fld := reg 0x402000 8 5 .rw 0x20 16 (fun _ => 0)
/-- [31:28] CU CTL.OWNER, RW, reset 0xF (R51). Privileged view only. -/
def CU.CTL_OWNER : Fld := reg 0x402000 28 4 .rw 0x20 16 (fun _ => 0xF)
/-- [2:0] CU STATUS.LEVEL, RO, reset 0 (R51). Entries held, 0 to 4. -/
def CU.STATUS_LEVEL : Fld := reg 0x402004 0 3 .ro 0x20 16 (fun _ => 0)
/-- [8] CU STATUS.OVERFLOW, W1C, reset 0 (R51). -/
def CU.STATUS_OVERFLOW : Fld := reg 0x402004 8 1 .w1c 0x20 16 (fun _ => 0)
/-- [63:0] CU MP, RO, reset 0 (R51). 64-bit. Head entry. -/
def CU.MP : Fld := regW 0x402008 0 64 .ro 0x20 16 (fun _ => 0)
/-- [29:0] CU NS, RO, reset 0 (R51). -/
def CU.NS : Fld := reg 0x402010 0 30 .ro 0x20 16 (fun _ => 0)
/-- [31:0] CU SEC_LO, RO, reset 0 (R51). -/
def CU.SEC_LO : Fld := reg 0x402014 0 32 .ro 0x20 16 (fun _ => 0)
/-- [15:0] CU SEC_HI.SEC, RO, reset 0 (R51). -/
def CU.SEC_HI_SEC : Fld := reg 0x402018 0 16 .ro 0x20 16 (fun _ => 0)
/-- [31:16] CU SEC_HI.SEQ, RO, reset 0 (R51). Sequence number of the head entry. -/
def CU.SEC_HI_SEQ : Fld := reg 0x402018 16 16 .ro 0x20 16 (fun _ => 0)
/-- [0] CU POP, WO, reset 0 (R51). Removes the head entry. -/
def CU.POP : Fld := reg 0x40201C 0 1 .wo 0x20 16 (fun _ => 0)
/-- Every field of the block CU. -/
def CU.flds : List Fld :=
  [CU.CTL_EN, CU.CTL_EDGE, CU.CTL_SOURCE, CU.CTL_OWNER, CU.STATUS_LEVEL, CU.STATUS_OVERFLOW, CU.MP, CU.NS, CU.SEC_LO, CU.SEC_HI_SEC, CU.SEC_HI_SEQ, CU.POP]

/-- [1:0] PTP_PORT CTL.ROLE, RW, reset 0 (R52). 0 off, 1 ordinary clock, 2 transparent clock, 3 reserved. -/
def PTP_PORT.CTL_ROLE : Fld := reg 0x403000 0 2 .rw 0x100 2 (fun _ => 0)
/-- [2] PTP_PORT CTL.ONE_STEP, RW, reset 0 (R52). -/
def PTP_PORT.CTL_ONE_STEP : Fld := reg 0x403000 2 1 .rw 0x100 2 (fun _ => 0)
/-- [3] PTP_PORT CTL.P2P, RW, reset 0 (R52). 0 end-to-end, 1 peer-to-peer. -/
def PTP_PORT.CTL_P2P : Fld := reg 0x403000 3 1 .rw 0x100 2 (fun _ => 0)
/-- [6:4] PTP_PORT CTL.TRANSPORT, RW, reset 0 (R52). [4] IEEE 802.3, [5] UDP/IPv4, [6] UDP/IPv6. -/
def PTP_PORT.CTL_TRANSPORT : Fld := reg 0x403000 4 3 .rw 0x100 2 (fun _ => 0)
/-- [15:8] PTP_PORT CTL.DOMAIN, RW, reset 0 (R52). -/
def PTP_PORT.CTL_DOMAIN : Fld := reg 0x403000 8 8 .rw 0x100 2 (fun _ => 0)
/-- [31:0] PTP_PORT ASYM, RW, reset 0 (R52). Signed, 2^-16 ns. -/
def PTP_PORT.ASYM : Fld := reg 0x403004 0 32 .rw 0x100 2 (fun _ => 0)
/-- [63:0] PTP_PORT PEER_DELAY, RO, reset 0 (R52). 64-bit. 2^-16 ns. -/
def PTP_PORT.PEER_DELAY : Fld := regW 0x403008 0 64 .ro 0x100 2 (fun _ => 0)
/-- [15:0] PTP_PORT INGRESS_LAT, RW, reset C (R52). ns. -/
def PTP_PORT.INGRESS_LAT : Fld := reg 0x403010 0 16 .rw 0x100 2 (fun _ => 0)
/-- [15:0] PTP_PORT EGRESS_LAT, RW, reset C (R52). ns. -/
def PTP_PORT.EGRESS_LAT : Fld := reg 0x403014 0 16 .rw 0x100 2 (fun _ => 0)
/-- [31:0] PTP_PORT TC_CNT, RC, reset 0 (R52). Messages corrected. -/
def PTP_PORT.TC_CNT : Fld := reg 0x403018 0 32 .rc 0x100 2 (fun _ => 0)
/-- [31:0] PTP_PORT TC_NOMATCH, RC, reset 0 (R52). -/
def PTP_PORT.TC_NOMATCH : Fld := reg 0x40301C 0 32 .rc 0x100 2 (fun _ => 0)
/-- Every field of the block PTP_PORT. -/
def PTP_PORT.flds : List Fld :=
  [PTP_PORT.CTL_ROLE, PTP_PORT.CTL_ONE_STEP, PTP_PORT.CTL_P2P, PTP_PORT.CTL_TRANSPORT, PTP_PORT.CTL_DOMAIN, PTP_PORT.ASYM, PTP_PORT.PEER_DELAY, PTP_PORT.INGRESS_LAT, PTP_PORT.EGRESS_LAT, PTP_PORT.TC_CNT, PTP_PORT.TC_NOMATCH]

/-- [0] BEACON CTL.EN, RW, reset 0 (R53). -/
def BEACON.CTL_EN : Fld := reg 0x404000 0 1 .rw 0x10 8 (fun _ => 0)
/-- [1] BEACON CTL.SEND_UNLOCKED, RW, reset 0 (R53). -/
def BEACON.CTL_SEND_UNLOCKED : Fld := reg 0x404000 1 1 .rw 0x10 8 (fun _ => 0)
/-- [11:0] BEACON INTERVAL, RW, reset 60 (R53). Seconds, 1 to 3,600; others ignored. -/
def BEACON.INTERVAL : Fld := reg 0x404004 0 12 .rw 0x10 8 (fun _ => 60)
/-- Every field of the block BEACON. -/
def BEACON.flds : List Fld :=
  [BEACON.CTL_EN, BEACON.CTL_SEND_UNLOCKED, BEACON.INTERVAL]

/-- [0] THK CTL.AGING_EN, RW, reset 1 (R85). Aging scanner runs. -/
def THK.CTL_AGING_EN : Fld := reg 0x500000 0 1 .rw 0x0 1 (fun _ => 1)
/-- [15:8] THK CTL.AGE_SCAN, RW, reset 10 (R85). Seconds per pass, 2 to 255; other values ignored. -/
def THK.CTL_AGE_SCAN : Fld := reg 0x500000 8 8 .rw 0x0 1 (fun _ => 10)
/-- [63:0] THK TABLE_BASE, RWL, reset 0 (R85). 64-bit. DRAM address of entry 0; bits [26:0] read as zero. Locked by TABLE_LOCK. -/
def THK.TABLE_BASE : Fld := regW 0x500008 0 64 .rwl 0x0 1 (fun _ => 0)
/-- [0] THK TABLE_LOCK.LOCK, W1S, reset 0 (R85). Cleared by system reset. -/
def THK.TABLE_LOCK_LOCK : Fld := reg 0x500010 0 1 .w1s 0x0 1 (fun _ => 0)
/-- [18:0] THK STATUS.USED, RO, reset 0 (R85). Entries not FREE. -/
def THK.STATUS_USED : Fld := reg 0x500014 0 19 .ro 0x0 1 (fun _ => 0)
/-- [24] THK STATUS.REVAL_ACTIVE, RO, reset 0 (R85). Revalidation in progress. -/
def THK.STATUS_REVAL_ACTIVE : Fld := reg 0x500014 24 1 .ro 0x0 1 (fun _ => 0)
/-- [0] THK EVENT.IDX_FULL, W1C, reset 0 (R85). An insertion failed for lack of index slots. -/
def THK.EVENT_IDX_FULL : Fld := reg 0x500018 0 1 .w1c 0x0 1 (fun _ => 0)
/-- [1] THK EVENT.REVAL_DONE, W1C, reset 0 (R85). Revalidation finished. -/
def THK.EVENT_REVAL_DONE : Fld := reg 0x500018 1 1 .w1c 0x0 1 (fun _ => 0)
/-- [2] THK EVENT.CHECK_FAIL, W1C, reset 0 (R85). An entry failed CHECK. -/
def THK.EVENT_CHECK_FAIL : Fld := reg 0x500018 2 1 .w1c 0x0 1 (fun _ => 0)
/-- [3] THK EVENT.AGE_OVERRUN, W1C, reset 0 (R85). A pass exceeded AGE_SCAN. -/
def THK.EVENT_AGE_OVERRUN : Fld := reg 0x500018 3 1 .w1c 0x0 1 (fun _ => 0)
/-- [4] THK EVENT.QUOTA_REFUSED, W1C, reset 0 (R85). A QUOTA write was ignored. -/
def THK.EVENT_QUOTA_REFUSED : Fld := reg 0x500018 4 1 .w1c 0x0 1 (fun _ => 0)
/-- [31:0] THK REVAL_FAIL_CNT, RC, reset 0 (R85). -/
def THK.REVAL_FAIL_CNT : Fld := reg 0x50001C 0 32 .rc 0x0 1 (fun _ => 0)
/-- [31:0] THK LOOKUP_CNT, RC, reset 0 (R85). -/
def THK.LOOKUP_CNT : Fld := reg 0x500020 0 32 .rc 0x0 1 (fun _ => 0)
/-- [31:0] THK CACHE_MISS_CNT, RC, reset 0 (R85). -/
def THK.CACHE_MISS_CNT : Fld := reg 0x500024 0 32 .rc 0x0 1 (fun _ => 0)
/-- [8:0] THK STASH_USED.EUI, RO, reset 0 (R85). EUI index stash slots in use, 0 to 256. -/
def THK.STASH_USED_EUI : Fld := reg 0x500028 0 9 .ro 0x0 1 (fun _ => 0)
/-- [24:16] THK STASH_USED.SHORT, RO, reset 0 (R85). Short index stash slots in use. -/
def THK.STASH_USED_SHORT : Fld := reg 0x500028 16 9 .ro 0x0 1 (fun _ => 0)
/-- [18:0] THK QUOTA_SUM, RO, reset 0 (R85). Sum of all THK_HEDGE[h].QUOTA. -/
def THK.QUOTA_SUM : Fld := reg 0x50002C 0 19 .ro 0x0 1 (fun _ => 0)
/-- Every field of the block THK. -/
def THK.flds : List Fld :=
  [THK.CTL_AGING_EN, THK.CTL_AGE_SCAN, THK.TABLE_BASE, THK.TABLE_LOCK_LOCK, THK.STATUS_USED, THK.STATUS_REVAL_ACTIVE, THK.EVENT_IDX_FULL, THK.EVENT_REVAL_DONE, THK.EVENT_CHECK_FAIL, THK.EVENT_AGE_OVERRUN, THK.EVENT_QUOTA_REFUSED, THK.REVAL_FAIL_CNT, THK.LOOKUP_CNT, THK.CACHE_MISS_CNT, THK.STASH_USED_EUI, THK.STASH_USED_SHORT, THK.QUOTA_SUM]

/-- [18:0] THK_HEDGE QUOTA, RW, reset 0 (R86). Maximum entries. A write raising QUOTA_SUM above 262,144 is ignored and sets THK.EVENT.QUOTA_REFUSED. A value below USED evicts nothing. While USED is at or above QUOTA, each insertion needs one eviction under R70 and proceeds once it is done. USED therefore does not grow, and falls only by deletion, aging, eviction without insertion, or a Hedge reset. -/
def THK_HEDGE.QUOTA : Fld := reg 0x501000 0 19 .rw 0x40 8 (fun _ => 0)
/-- [18:0] THK_HEDGE PIN_MAX, RW, reset 0 (R86). Maximum pinned entries; values above QUOTA act as QUOTA. -/
def THK_HEDGE.PIN_MAX : Fld := reg 0x501004 0 19 .rw 0x40 8 (fun _ => 0)
/-- [18:0] THK_HEDGE USED, RO, reset 0 (R86). -/
def THK_HEDGE.USED : Fld := reg 0x501008 0 19 .ro 0x40 8 (fun _ => 0)
/-- [18:0] THK_HEDGE PINNED, RO, reset 0 (R86). -/
def THK_HEDGE.PINNED : Fld := reg 0x50100C 0 19 .ro 0x40 8 (fun _ => 0)
/-- [1:0] THK_HEDGE CFG.EVICT, RW, reset 0 (R86). 0 NONE, 1 OLDEST, 2 RANDOM, 3 reserved. -/
def THK_HEDGE.CFG_EVICT : Fld := reg 0x501010 0 2 .rw 0x40 8 (fun _ => 0)
/-- [4] THK_HEDGE CFG.LEARN_ACT, RW, reset 0 (R86). 0 DROP, 1 FLOOD_ONLY. -/
def THK_HEDGE.CFG_LEARN_ACT : Fld := reg 0x501010 4 1 .rw 0x40 8 (fun _ => 0)
/-- [8] THK_HEDGE CFG.RESET_FREE, RW, reset 0 (R86). Hedge reset frees the Hedge's entries. -/
def THK_HEDGE.CFG_RESET_FREE : Fld := reg 0x501010 8 1 .rw 0x40 8 (fun _ => 0)
/-- [12] THK_HEDGE CFG.AGING_EN, RW, reset 1 (R86). Aging applies to the Hedge's entries. -/
def THK_HEDGE.CFG_AGING_EN : Fld := reg 0x501010 12 1 .rw 0x40 8 (fun _ => 1)
/-- [23:0] THK_HEDGE AGE_LOST, RW, reset 21,600 (R86). Seconds, 1 to 16,777,215. -/
def THK_HEDGE.AGE_LOST : Fld := reg 0x501014 0 24 .rw 0x40 8 (fun _ => 21600)
/-- [23:0] THK_HEDGE AGE_FREE, RW, reset 604,800 (R86). Seconds, 1 to 16,777,215. -/
def THK_HEDGE.AGE_FREE : Fld := reg 0x501018 0 24 .rw 0x40 8 (fun _ => 604800)
/-- [15:0] THK_HEDGE JOIN_TIMEOUT, RW, reset 30 (R86). Seconds, 1 to 65,535. -/
def THK_HEDGE.JOIN_TIMEOUT : Fld := reg 0x50101C 0 16 .rw 0x40 8 (fun _ => 30)
/-- [15:0] THK_HEDGE LEARN.RATE, RW, reset 8,000 (R86). Tokens per second. -/
def THK_HEDGE.LEARN_RATE : Fld := reg 0x501020 0 16 .rw 0x40 8 (fun _ => 8000)
/-- [31:16] THK_HEDGE LEARN.BURST, RW, reset 1,024 (R86). Bucket depth, at least 1. -/
def THK_HEDGE.LEARN_BURST : Fld := reg 0x501020 16 16 .rw 0x40 8 (fun _ => 1024)
/-- [31:0] THK_HEDGE LEARN_DROP, RC, reset 0 (R86). Excess events dropped. -/
def THK_HEDGE.LEARN_DROP : Fld := reg 0x501024 0 32 .rc 0x40 8 (fun _ => 0)
/-- [31:0] THK_HEDGE LEARN_FLOOD, RC, reset 0 (R86). Excess events handled flood-only. -/
def THK_HEDGE.LEARN_FLOOD : Fld := reg 0x501028 0 32 .rc 0x40 8 (fun _ => 0)
/-- [31:0] THK_HEDGE EVICT_CNT, RC, reset 0 (R86). -/
def THK_HEDGE.EVICT_CNT : Fld := reg 0x50102C 0 32 .rc 0x40 8 (fun _ => 0)
/-- [31:0] THK_HEDGE AGED_LOST_CNT, RC, reset 0 (R86). -/
def THK_HEDGE.AGED_LOST_CNT : Fld := reg 0x501030 0 32 .rc 0x40 8 (fun _ => 0)
/-- [31:0] THK_HEDGE AGED_FREE_CNT, RC, reset 0 (R86). -/
def THK_HEDGE.AGED_FREE_CNT : Fld := reg 0x501034 0 32 .rc 0x40 8 (fun _ => 0)
/-- [31:0] THK_HEDGE INSERT_FAIL, RC, reset 0 (R86). Insertions ending in QUOTA. -/
def THK_HEDGE.INSERT_FAIL : Fld := reg 0x501038 0 32 .rc 0x40 8 (fun _ => 0)
/-- Every field of the block THK_HEDGE. -/
def THK_HEDGE.flds : List Fld :=
  [THK_HEDGE.QUOTA, THK_HEDGE.PIN_MAX, THK_HEDGE.USED, THK_HEDGE.PINNED, THK_HEDGE.CFG_EVICT, THK_HEDGE.CFG_LEARN_ACT, THK_HEDGE.CFG_RESET_FREE, THK_HEDGE.CFG_AGING_EN, THK_HEDGE.AGE_LOST, THK_HEDGE.AGE_FREE, THK_HEDGE.JOIN_TIMEOUT, THK_HEDGE.LEARN_RATE, THK_HEDGE.LEARN_BURST, THK_HEDGE.LEARN_DROP, THK_HEDGE.LEARN_FLOOD, THK_HEDGE.EVICT_CNT, THK_HEDGE.AGED_LOST_CNT, THK_HEDGE.AGED_FREE_CNT, THK_HEDGE.INSERT_FAIL]

/-- [15:0] LEARN_LANE CFG.RATE, RW, reset 2,000 (R87). Tokens per second. -/
def LEARN_LANE.CFG_RATE : Fld := reg 0x502000 0 16 .rw 0x10 48 (fun _ => 2000)
/-- [31:16] LEARN_LANE CFG.BURST, RW, reset 256 (R87). Bucket depth, at least 1. -/
def LEARN_LANE.CFG_BURST : Fld := reg 0x502000 16 16 .rw 0x10 48 (fun _ => 256)
/-- [31:0] LEARN_LANE DROP_CNT, RC, reset 0 (R87). Excess events on this lane, whatever the action. -/
def LEARN_LANE.DROP_CNT : Fld := reg 0x502004 0 32 .rc 0x10 48 (fun _ => 0)
/-- Every field of the block LEARN_LANE. -/
def LEARN_LANE.flds : List Fld :=
  [LEARN_LANE.CFG_RATE, LEARN_LANE.CFG_BURST, LEARN_LANE.DROP_CNT]

end Sys2Proof.Machine
end

