-- ==== Sys2Proof/Machine/RegsTraffic.lean ====
section
/-!
DEFINITION. The register fields of the blocks TMG, OUT, TMH, AGG, QPROBE, WATCH, SHAPER, FIFO, METER, SEC, SECH, TRUST, KSLOT, ENG, ENGE, ENGH: one definition a field,
with the word it lies in, its bits, access code and reset value as the register tables of spec/ give them.
-/

namespace Sys2Proof.Machine

/-- [9:0] TMG EXP_SCAN, RW, reset 100 (R323). ms, 10 to 1,000; others ignored. -/
def TMG.EXP_SCAN : Fld := reg 0x700000 0 10 .rw 0x0 1 (fun _ => 100)
/-- [16:0] TMG CELLS_USED, RO, reset 0 (R323). Cells in use, all Hedges. -/
def TMG.CELLS_USED : Fld := reg 0x700004 0 17 .ro 0x0 1 (fun _ => 0)
/-- [16:0] TMG CELL_SUM, RO, reset 0 (R323). Sum of CELL_QUOTA. -/
def TMG.CELL_SUM : Fld := reg 0x700008 0 17 .ro 0x0 1 (fun _ => 0)
/-- [31:0] TMG ENQ_CNT, RC, reset 0 (R323). -/
def TMG.ENQ_CNT : Fld := reg 0x70000C 0 32 .rc 0x0 1 (fun _ => 0)
/-- [31:0] TMG REL_CNT, RC, reset 0 (R323). -/
def TMG.REL_CNT : Fld := reg 0x700010 0 32 .rc 0x0 1 (fun _ => 0)
/-- [0] TMG EVENT.BAD_CFG, W1C, reset 0 (R323). -/
def TMG.EVENT_BAD_CFG : Fld := reg 0x700014 0 1 .w1c 0x0 1 (fun _ => 0)
/-- [1] TMG EVENT.QUOTA_REFUSED, W1C, reset 0 (R323). -/
def TMG.EVENT_QUOTA_REFUSED : Fld := reg 0x700014 1 1 .w1c 0x0 1 (fun _ => 0)
/-- [63:0] TMG V[k][b], RO, reset 0 (R323). 64-bit. Virtual time of class scheduler k, band b: 0 sub-GHz, 1 2.4 GHz. -/
def TMG.V : Fld := regW 0x700040 0 64 .ro 0x8 8 (fun _ => 0)
/-- Every field of the block TMG. -/
def TMG.flds : List Fld :=
  [TMG.EXP_SCAN, TMG.CELLS_USED, TMG.CELL_SUM, TMG.ENQ_CNT, TMG.REL_CNT, TMG.EVENT_BAD_CFG, TMG.EVENT_QUOTA_REFUSED, TMG.V]

/-- [15:0] OUT W.W_LEAD, RW, reset 32,768 (R325). 1 to 65,535; 0 ignored and sets TMG.EVENT.BAD_CFG. -/
def OUT.W_W_LEAD : Fld := reg 0x700100 0 16 .rw 0x40 4 (fun _ => 32768)
/-- [31:16] OUT W.W_DEAL, RW, reset 16,384 (R325). -/
def OUT.W_W_DEAL : Fld := reg 0x700100 16 16 .rw 0x40 4 (fun _ => 16384)
/-- [15:0] OUT W_KITTY, RW, reset 8,192 (R325). -/
def OUT.W_KITTY : Fld := reg 0x700104 0 16 .rw 0x40 4 (fun _ => 8192)
/-- [8:0] OUT INFLIGHT.MAX, RW, reset 64 (R325). 1 to 256. -/
def OUT.INFLIGHT_MAX : Fld := reg 0x700108 0 9 .rw 0x40 4 (fun _ => 64)
/-- [23:16] OUT INFLIGHT.TRUMP_EXTRA, RW, reset 8 (R325). 0 to 64. -/
def OUT.INFLIGHT_TRUMP_EXTRA : Fld := reg 0x700108 16 8 .rw 0x40 4 (fun _ => 8)
/-- [8:0] OUT STATUS.INFLIGHT, RO, reset 0 (R325). -/
def OUT.STATUS_INFLIGHT : Fld := reg 0x70010C 0 9 .ro 0x40 4 (fun _ => 0)
/-- [16] OUT STATUS.BAND, RO, reset see text (R325). 0 sub-GHz, 1 2.4 GHz. -/
def OUT.STATUS_BAND : Fld := reg 0x70010C 16 1 .ro 0x40 4 (fun o => if o < 2 then 0 else 1)
/-- [17] OUT STATUS.REQUESTING, RO, reset 0 (R325). -/
def OUT.STATUS_REQUESTING : Fld := reg 0x70010C 17 1 .ro 0x40 4 (fun _ => 0)
/-- [63:0] OUT V, RO, reset 0 (R325). 64-bit. Output virtual time. -/
def OUT.V : Fld := regW 0x700110 0 64 .ro 0x40 4 (fun _ => 0)
/-- [31:0] OUT REL_TRUMP, RC, reset 0 (R325). -/
def OUT.REL_TRUMP : Fld := reg 0x700118 0 32 .rc 0x40 4 (fun _ => 0)
/-- [31:0] OUT REL_OTHER, RC, reset 0 (R325). -/
def OUT.REL_OTHER : Fld := reg 0x70011C 0 32 .rc 0x40 4 (fun _ => 0)
/-- Every field of the block OUT. -/
def OUT.flds : List Fld :=
  [OUT.W_W_LEAD, OUT.W_W_DEAL, OUT.W_KITTY, OUT.INFLIGHT_MAX, OUT.INFLIGHT_TRUMP_EXTRA, OUT.STATUS_INFLIGHT, OUT.STATUS_BAND, OUT.STATUS_REQUESTING, OUT.V, OUT.REL_TRUMP, OUT.REL_OTHER]

/-- [0] TMH CTL.EN, RW, reset 0 (R324). Hedge's aggregates take part; R298. -/
def TMH.CTL_EN : Fld := reg 0x700800 0 1 .rw 0x40 8 (fun _ => 0)
/-- [7:0] TMH QMAX.TRUMP, RW, reset 16 (R324). Downlinks per list, 1 to 255. -/
def TMH.QMAX_TRUMP : Fld := reg 0x700804 0 8 .rw 0x40 8 (fun _ => 16)
/-- [15:8] TMH QMAX.LEAD, RW, reset 32 (R324). -/
def TMH.QMAX_LEAD : Fld := reg 0x700804 8 8 .rw 0x40 8 (fun _ => 32)
/-- [23:16] TMH QMAX.DEAL, RW, reset 64 (R324). -/
def TMH.QMAX_DEAL : Fld := reg 0x700804 16 8 .rw 0x40 8 (fun _ => 64)
/-- [31:24] TMH QMAX.KITTY, RW, reset 64 (R324). -/
def TMH.QMAX_KITTY : Fld := reg 0x700804 24 8 .rw 0x40 8 (fun _ => 64)
/-- [16:0] TMH CELL_QUOTA, RW, reset 0 (R324). Privileged write. -/
def TMH.CELL_QUOTA : Fld := reg 0x700808 0 17 .rw 0x40 8 (fun _ => 0)
/-- [16:0] TMH CELLS_USED, RO, reset 0 (R324). -/
def TMH.CELLS_USED : Fld := reg 0x70080C 0 17 .ro 0x40 8 (fun _ => 0)
/-- [15:0] TMH ELIG_MARGIN, RW, reset 2,000 (R324). µs. -/
def TMH.ELIG_MARGIN : Fld := reg 0x700810 0 16 .rw 0x40 8 (fun _ => 2000)
/-- [31:0] TMH RETURN_US, RW, reset 50,000 (R324). µs, at least 1,000. -/
def TMH.RETURN_US : Fld := reg 0x700814 0 32 .rw 0x40 8 (fun _ => 50000)
/-- [31:0] TMH TAIL_DROP, RC, reset 0 (R324). -/
def TMH.TAIL_DROP : Fld := reg 0x700818 0 32 .rc 0x40 8 (fun _ => 0)
/-- [31:0] TMH METER_DROP, RC, reset 0 (R324). -/
def TMH.METER_DROP : Fld := reg 0x70081C 0 32 .rc 0x40 8 (fun _ => 0)
/-- [31:0] TMH DEMOTED, RC, reset 0 (R324). -/
def TMH.DEMOTED : Fld := reg 0x700820 0 32 .rc 0x40 8 (fun _ => 0)
/-- [31:0] TMH EXPIRED, RC, reset 0 (R324). -/
def TMH.EXPIRED : Fld := reg 0x700824 0 32 .rc 0x40 8 (fun _ => 0)
/-- [31:0] TMH METER_MISMATCH, RC, reset 0 (R324). -/
def TMH.METER_MISMATCH : Fld := reg 0x700828 0 32 .rc 0x40 8 (fun _ => 0)
/-- [0] TMH EVENT.BAD_CFG, W1C, reset 0 (R324). -/
def TMH.EVENT_BAD_CFG : Fld := reg 0x70082C 0 1 .w1c 0x40 8 (fun _ => 0)
/-- Every field of the block TMH. -/
def TMH.flds : List Fld :=
  [TMH.CTL_EN, TMH.QMAX_TRUMP, TMH.QMAX_LEAD, TMH.QMAX_DEAL, TMH.QMAX_KITTY, TMH.CELL_QUOTA, TMH.CELLS_USED, TMH.ELIG_MARGIN, TMH.RETURN_US, TMH.TAIL_DROP, TMH.METER_DROP, TMH.DEMOTED, TMH.EXPIRED, TMH.METER_MISMATCH, TMH.EVENT_BAD_CFG]

/-- [15:0] AGG WEIGHT, RW, reset 4,096 (R326). 1 to 65,535; 0 ignored. -/
def AGG.WEIGHT : Fld := reg 0x701000 0 16 .rw 0x40 32 (fun _ => 4096)
/-- [15:0] AGG OVH_US, RW, reset 0 (R326). µs per attempt. -/
def AGG.OVH_US : Fld := reg 0x701004 0 16 .rw 0x40 32 (fun _ => 0)
/-- [13:0] AGG METER.ID, RW, reset 0 (R326). -/
def AGG.METER_ID : Fld := reg 0x701008 0 14 .rw 0x40 32 (fun _ => 0)
/-- [15] AGG METER.EN, RW, reset 0 (R326). -/
def AGG.METER_EN : Fld := reg 0x701008 15 1 .rw 0x40 32 (fun _ => 0)
/-- [18:0] AGG QUEUES, RO, reset 0 (R326). Node queues in the aggregate. -/
def AGG.QUEUES : Fld := reg 0x70100C 0 19 .ro 0x40 32 (fun _ => 0)
/-- [63:0] AGG S, RO, reset 0 (R326). 64-bit. -/
def AGG.S : Fld := regW 0x701010 0 64 .ro 0x40 32 (fun _ => 0)
/-- [63:0] AGG F_LAST, RO, reset 0 (R326). 64-bit. -/
def AGG.F_LAST : Fld := regW 0x701018 0 64 .ro 0x40 32 (fun _ => 0)
/-- [31:0] AGG DEPTH, RO, reset 0 (R326). Downlinks held. -/
def AGG.DEPTH : Fld := reg 0x701020 0 32 .ro 0x40 32 (fun _ => 0)
/-- [31:0] AGG DELAY_HWM, RC, reset 0 (R326). µs. -/
def AGG.DELAY_HWM : Fld := reg 0x701024 0 32 .rc 0x40 32 (fun _ => 0)
/-- [31:0] AGG REL_CNT, RC, reset 0 (R326). -/
def AGG.REL_CNT : Fld := reg 0x701028 0 32 .rc 0x40 32 (fun _ => 0)
/-- Every field of the block AGG. -/
def AGG.flds : List Fld :=
  [AGG.WEIGHT, AGG.OVH_US, AGG.METER_ID, AGG.METER_EN, AGG.QUEUES, AGG.S, AGG.F_LAST, AGG.DEPTH, AGG.DELAY_HWM, AGG.REL_CNT]

/-- [17:0] QPROBE SEL.Q, RW, reset 0 (R327). -/
def QPROBE.SEL_Q : Fld := reg 0x701800 0 18 .rw 0x40 9 (fun _ => 0)
/-- [31] QPROBE SEL.CLR_HWM, WO, reset 0 (R327). Clears DEPTH_HWM after the snapshot. -/
def QPROBE.SEL_CLR_HWM : Fld := reg 0x701800 31 1 .wo 0x40 9 (fun _ => 0)
/-- [0] QPROBE STATUS.DENIED, RO, reset 0 (R327). -/
def QPROBE.STATUS_DENIED : Fld := reg 0x701804 0 1 .ro 0x40 9 (fun _ => 0)
/-- [2:1] QPROBE STATUS.INFLIGHT, RO, reset 0 (R327). Downlinks in flight, 0 to 2. -/
def QPROBE.STATUS_INFLIGHT : Fld := reg 0x701804 1 2 .ro 0x40 9 (fun _ => 0)
/-- [31:0] QPROBE DEPTH, RO, reset 0 (R327). [7:0] Trump, [15:8] Lead, [23:16] Deal, [31:24] Kitty. -/
def QPROBE.DEPTH : Fld := reg 0x701808 0 32 .ro 0x40 9 (fun _ => 0)
/-- [63:0] QPROBE ELIG, RO, reset 0 (R327). 64-bit. -/
def QPROBE.ELIG : Fld := regW 0x701810 0 64 .ro 0x40 9 (fun _ => 0)
/-- [9:0] QPROBE GROUP.ID, RW, reset 0 (R327). Writing binds, under R312. -/
def QPROBE.GROUP_ID : Fld := reg 0x701818 0 10 .rw 0x40 9 (fun _ => 0)
/-- [15] QPROBE GROUP.EN, RW, reset 0 (R327). -/
def QPROBE.GROUP_EN : Fld := reg 0x701818 15 1 .rw 0x40 9 (fun _ => 0)
/-- [9:0] QPROBE DEPTH_HWM, RO, reset 0 (R327). -/
def QPROBE.DEPTH_HWM : Fld := reg 0x70181C 0 10 .ro 0x40 9 (fun _ => 0)
/-- Every field of the block QPROBE. -/
def QPROBE.flds : List Fld :=
  [QPROBE.SEL_Q, QPROBE.SEL_CLR_HWM, QPROBE.STATUS_DENIED, QPROBE.STATUS_INFLIGHT, QPROBE.DEPTH, QPROBE.ELIG, QPROBE.GROUP_ID, QPROBE.GROUP_EN, QPROBE.DEPTH_HWM]

/-- [0] WATCH CFG.EN, RW, reset 0 (R330). -/
def WATCH.CFG_EN : Fld := reg 0x702000 0 1 .rw 0x20 64 (fun _ => 0)
/-- [2:1] WATCH CFG.TYPE, RW, reset 0 (R330). 0 node queue, 1 aggregate, 2 output, 3 reserved. -/
def WATCH.CFG_TYPE : Fld := reg 0x702000 1 2 .rw 0x20 64 (fun _ => 0)
/-- [20:3] WATCH CFG.TARGET, RW, reset 0 (R330). -/
def WATCH.CFG_TARGET : Fld := reg 0x702000 3 18 .rw 0x20 64 (fun _ => 0)
/-- [27:24] WATCH CFG.OWNER, RW, reset 0xF (R330). Privileged write. -/
def WATCH.CFG_OWNER : Fld := reg 0x702000 24 4 .rw 0x20 64 (fun _ => 0xF)
/-- [31:0] WATCH PERIOD, RW, reset 1,000 (R330). µs, 100 to 1,000,000; others ignored. -/
def WATCH.PERIOD : Fld := reg 0x702004 0 32 .rw 0x20 64 (fun _ => 1000)
/-- [31:0] WATCH HEAD, RO, reset 0 (R330). Newest sample. -/
def WATCH.HEAD : Fld := reg 0x702008 0 32 .ro 0x20 64 (fun _ => 0)
/-- Every field of the block WATCH. -/
def WATCH.flds : List Fld :=
  [WATCH.CFG_EN, WATCH.CFG_TYPE, WATCH.CFG_TARGET, WATCH.CFG_OWNER, WATCH.PERIOD, WATCH.HEAD]

/-- [0] SHAPER CFG.EN, RW, reset 0 (R328). -/
def SHAPER.CFG_EN : Fld := reg 0x710000 0 1 .rw 0x20 1024 (fun _ => 0)
/-- [1] SHAPER CFG.MODE, RW, reset see R312 (R328). 0 airtime µs, 1 octets; committed. -/
def SHAPER.CFG_MODE : Fld := reg 0x710000 1 1 .rw 0x20 1024 (fun s => if 44 ≤ s ∧ s < 60 then 1 else 0)
/-- [2] SHAPER CFG.RECONF, RW, reset 0 (R328). 0 FULL, 1 ZERO. -/
def SHAPER.CFG_RECONF : Fld := reg 0x710000 2 1 .rw 0x20 1024 (fun _ => 0)
/-- [27:24] SHAPER CFG.OWNER, RW, reset 0xF (R328). Privileged write; 0xF global. Fixed to h for shapers 36–59. -/
def SHAPER.CFG_OWNER : Fld := reg 0x710000 24 4 .rw 0x20 1024 (fun s => if 36 ≤ s ∧ s < 60 then (s - 36) % 8 else 15)
/-- [31:0] SHAPER RATE, RW, reset 0 (R328). Units per second; committed. -/
def SHAPER.RATE : Fld := reg 0x710004 0 32 .rw 0x20 1024 (fun _ => 0)
/-- [31:0] SHAPER BURST, RW, reset 0 (R328). Units; committed. -/
def SHAPER.BURST : Fld := reg 0x710008 0 32 .rw 0x20 1024 (fun _ => 0)
/-- [15:0] SHAPER OVERHEAD, RW, reset 0 (R328). Units per attempt; committed. -/
def SHAPER.OVERHEAD : Fld := reg 0x71000C 0 16 .rw 0x20 1024 (fun _ => 0)
/-- [31:0] SHAPER TOKENS, RO, reset 0 (R328). Signed integer part of T. -/
def SHAPER.TOKENS : Fld := reg 0x710010 0 32 .ro 0x20 1024 (fun _ => 0)
/-- [0] SHAPER CMD.COMMIT, WO, reset 0 (R328). -/
def SHAPER.CMD_COMMIT : Fld := reg 0x710014 0 1 .wo 0x20 1024 (fun _ => 0)
/-- [15:0] SHAPER STATUS.EPOCH, RO, reset 0 (R328). -/
def SHAPER.STATUS_EPOCH : Fld := reg 0x710018 0 16 .ro 0x20 1024 (fun _ => 0)
/-- [16] SHAPER STATUS.BLOCKED, RO, reset 0 (R328). -/
def SHAPER.STATUS_BLOCKED : Fld := reg 0x710018 16 1 .ro 0x20 1024 (fun _ => 0)
/-- [31:0] SHAPER BLOCK_CNT, RC, reset 0 (R328). Transitions to blocked. -/
def SHAPER.BLOCK_CNT : Fld := reg 0x71001C 0 32 .rc 0x20 1024 (fun _ => 0)
/-- Every field of the block SHAPER. -/
def SHAPER.flds : List Fld :=
  [SHAPER.CFG_EN, SHAPER.CFG_MODE, SHAPER.CFG_RECONF, SHAPER.CFG_OWNER, SHAPER.RATE, SHAPER.BURST, SHAPER.OVERHEAD, SHAPER.TOKENS, SHAPER.CMD_COMMIT, SHAPER.STATUS_EPOCH, SHAPER.STATUS_BLOCKED, SHAPER.BLOCK_CNT]

/-- [0] FIFO CFG.EN, RW, reset 0 (R331). -/
def FIFO.CFG_EN : Fld := reg 0x740000 0 1 .rw 0x40 2048 (fun _ => 0)
/-- [2:1] FIFO CFG.ESIZE, RW, reset 0 (R331). 0 16, 1 32, 2 64 octets, 3 reserved. -/
def FIFO.CFG_ESIZE : Fld := reg 0x740000 1 2 .rw 0x40 2048 (fun _ => 0)
/-- [3] FIFO CFG.PROD_HW, RO, reset see text (R331). Producer is hardware. -/
def FIFO.CFG_PROD_HW : Fld := reg 0x740000 3 1 .ro 0x40 2048 (fun f => if f < 48 ∨ (52 ≤ f ∧ f < 76) then 1 else 0)
/-- [4] FIFO CFG.CONS_TX, RO, reset see text (R331). Consumer is a transmit chain. -/
def FIFO.CFG_CONS_TX : Fld := reg 0x740000 4 1 .ro 0x40 2048 (fun f => if 48 ≤ f ∧ f < 52 then 1 else 0)
/-- [27:24] FIFO CFG.OWNER, RW, reset 0xF (R331). Privileged write. -/
def FIFO.CFG_OWNER : Fld := reg 0x740000 24 4 .rw 0x40 2048 (fun _ => 0xF)
/-- [25:0] FIFO BASE, RW, reset 0 (R331). Chip SRAM offset. -/
def FIFO.BASE : Fld := reg 0x740004 0 26 .rw 0x40 2048 (fun _ => 0)
/-- [15:0] FIFO DEPTH, RW, reset 4 (R331). Entries. -/
def FIFO.DEPTH : Fld := reg 0x740008 0 16 .rw 0x40 2048 (fun _ => 4)
/-- [15:0] FIFO CT_THR, RW, reset 0 (R331). Octets; 0 whole entry. -/
def FIFO.CT_THR : Fld := reg 0x74000C 0 16 .rw 0x40 2048 (fun _ => 0)
/-- [15:0] FIFO STATUS.LEVEL, RO, reset 0 (R331). -/
def FIFO.STATUS_LEVEL : Fld := reg 0x740010 0 16 .ro 0x40 2048 (fun _ => 0)
/-- [16] FIFO STATUS.FROZEN, RO, reset 0 (R331). -/
def FIFO.STATUS_FROZEN : Fld := reg 0x740010 16 1 .ro 0x40 2048 (fun _ => 0)
/-- [15:0] FIFO HWM, RC, reset 0 (R331). -/
def FIFO.HWM : Fld := reg 0x740014 0 16 .rc 0x40 2048 (fun _ => 0)
/-- [31:0] FIFO DROP_CNT, RC, reset 0 (R331). -/
def FIFO.DROP_CNT : Fld := reg 0x740018 0 32 .rc 0x40 2048 (fun _ => 0)
/-- [31:0] FIFO STALL_CNT, RC, reset 0 (R331). -/
def FIFO.STALL_CNT : Fld := reg 0x74001C 0 32 .rc 0x40 2048 (fun _ => 0)
/-- [0] FIFO EVENT.PTR_FAULT, W1C, reset 0 (R331). -/
def FIFO.EVENT_PTR_FAULT : Fld := reg 0x740020 0 1 .w1c 0x40 2048 (fun _ => 0)
/-- [1] FIFO EVENT.DROP, W1C, reset 0 (R331). -/
def FIFO.EVENT_DROP : Fld := reg 0x740020 1 1 .w1c 0x40 2048 (fun _ => 0)
/-- [2] FIFO EVENT.BAD_CFG, W1C, reset 0 (R331). -/
def FIFO.EVENT_BAD_CFG : Fld := reg 0x740020 2 1 .w1c 0x40 2048 (fun _ => 0)
/-- Every field of the block FIFO. -/
def FIFO.flds : List Fld :=
  [FIFO.CFG_EN, FIFO.CFG_ESIZE, FIFO.CFG_PROD_HW, FIFO.CFG_CONS_TX, FIFO.CFG_OWNER, FIFO.BASE, FIFO.DEPTH, FIFO.CT_THR, FIFO.STATUS_LEVEL, FIFO.STATUS_FROZEN, FIFO.HWM, FIFO.DROP_CNT, FIFO.STALL_CNT, FIFO.EVENT_PTR_FAULT, FIFO.EVENT_DROP, FIFO.EVENT_BAD_CFG]

/-- [0] METER CFG.EN, RW, reset 0 (R329). -/
def METER.CFG_EN : Fld := reg 0x800000 0 1 .rw 0x40 16384 (fun _ => 0)
/-- [1] METER CFG.MODE, RW, reset 0 (R329). 0 octets, 1 airtime µs; committed. -/
def METER.CFG_MODE : Fld := reg 0x800000 1 1 .rw 0x40 16384 (fun _ => 0)
/-- [2] METER CFG.AWARE, RW, reset 0 (R329). Colour-aware; committed. -/
def METER.CFG_AWARE : Fld := reg 0x800000 2 1 .rw 0x40 16384 (fun _ => 0)
/-- [5:4] METER CFG.Y_ACT, RW, reset 0 (R329). R306. -/
def METER.CFG_Y_ACT : Fld := reg 0x800000 4 2 .rw 0x40 16384 (fun _ => 0)
/-- [7:6] METER CFG.R_ACT, RW, reset 2 (R329). R306. -/
def METER.CFG_R_ACT : Fld := reg 0x800000 6 2 .rw 0x40 16384 (fun _ => 2)
/-- [27:24] METER CFG.OWNER, RW, reset 0xF (R329). Privileged write. -/
def METER.CFG_OWNER : Fld := reg 0x800000 24 4 .rw 0x40 16384 (fun _ => 0xF)
/-- [31:0] METER CIR, RW, reset 0 (R329). Units per second. -/
def METER.CIR : Fld := reg 0x800004 0 32 .rw 0x40 16384 (fun _ => 0)
/-- [31:0] METER PIR, RW, reset 0 (R329). -/
def METER.PIR : Fld := reg 0x800008 0 32 .rw 0x40 16384 (fun _ => 0)
/-- [31:0] METER CBS, RW, reset 0 (R329). -/
def METER.CBS : Fld := reg 0x80000C 0 32 .rw 0x40 16384 (fun _ => 0)
/-- [31:0] METER PBS, RW, reset 0 (R329). -/
def METER.PBS : Fld := reg 0x800010 0 32 .rw 0x40 16384 (fun _ => 0)
/-- [15:0] METER OVH, RW, reset 0 (R329). -/
def METER.OVH : Fld := reg 0x800014 0 16 .rw 0x40 16384 (fun _ => 0)
/-- [0] METER CMD.COMMIT, WO, reset 0 (R329). -/
def METER.CMD_COMMIT : Fld := reg 0x800018 0 1 .wo 0x40 16384 (fun _ => 0)
/-- [31:0] METER GREEN_CNT, RC, reset 0 (R329). -/
def METER.GREEN_CNT : Fld := reg 0x80001C 0 32 .rc 0x40 16384 (fun _ => 0)
/-- [31:0] METER YELLOW_CNT, RC, reset 0 (R329). -/
def METER.YELLOW_CNT : Fld := reg 0x800020 0 32 .rc 0x40 16384 (fun _ => 0)
/-- [31:0] METER RED_CNT, RC, reset 0 (R329). -/
def METER.RED_CNT : Fld := reg 0x800024 0 32 .rc 0x40 16384 (fun _ => 0)
/-- [0] METER EVENT.BAD_CFG, W1C, reset 0 (R329). -/
def METER.EVENT_BAD_CFG : Fld := reg 0x800028 0 1 .w1c 0x40 16384 (fun _ => 0)
/-- Every field of the block METER. -/
def METER.flds : List Fld :=
  [METER.CFG_EN, METER.CFG_MODE, METER.CFG_AWARE, METER.CFG_Y_ACT, METER.CFG_R_ACT, METER.CFG_OWNER, METER.CIR, METER.PIR, METER.CBS, METER.PBS, METER.OVH, METER.CMD_COMMIT, METER.GREEN_CNT, METER.YELLOW_CNT, METER.RED_CNT, METER.EVENT_BAD_CFG]

/-- [1:0] SEC STATUS.LIFE, RO, reset F (R364). R334. -/
def SEC.STATUS_LIFE : Fld := reg 0x900000 0 2 .ro 0x0 1 (fun _ => 0)
/-- [8] SEC STATUS.ROOT_MARGINAL, RO, reset F (R364). A root copy was marginal and resolved by majority. -/
def SEC.STATUS_ROOT_MARGINAL : Fld := reg 0x900000 8 1 .ro 0x0 1 (fun _ => 0)
/-- [9] SEC STATUS.DRBG_OK, RO, reset 0 (R364). DRBG instantiated and running. -/
def SEC.STATUS_DRBG_OK : Fld := reg 0x900000 9 1 .ro 0x0 1 (fun _ => 0)
/-- [9:0] SEC SLOT_FREE, RO, reset 1,008 (R364). Free grafts. -/
def SEC.SLOT_FREE : Fld := reg 0x900004 0 10 .ro 0x0 1 (fun _ => 1008)
/-- [9:0] SEC QUOTA_SUM, RO, reset 0 (R364). Sum of SLOT_QUOTA. -/
def SEC.QUOTA_SUM : Fld := reg 0x900008 0 10 .ro 0x0 1 (fun _ => 0)
/-- [31:0] SEC TAG_FAIL_CNT, RC, reset 0 (R364). -/
def SEC.TAG_FAIL_CNT : Fld := reg 0x90000C 0 32 .rc 0x0 1 (fun _ => 0)
/-- [31:0] SEC CCM_CNT, RC, reset 0 (R364). CCM* operations. -/
def SEC.CCM_CNT : Fld := reg 0x900010 0 32 .rc 0x0 1 (fun _ => 0)
/-- [31:0] SEC DERIVE_CNT, RC, reset 0 (R364). Cache misses derived. -/
def SEC.DERIVE_CNT : Fld := reg 0x900014 0 32 .rc 0x0 1 (fun _ => 0)
/-- [31:0] SEC ECC_CNT, RC, reset 0 (R364). P-256 and P-384 operations. -/
def SEC.ECC_CNT : Fld := reg 0x900018 0 32 .rc 0x0 1 (fun _ => 0)
/-- [0] SEC EVENT.RNG_FAIL, W1C, reset 0 (R364). -/
def SEC.EVENT_RNG_FAIL : Fld := reg 0x90001C 0 1 .w1c 0x0 1 (fun _ => 0)
/-- [1] SEC EVENT.TAG_FAIL, W1C, reset 0 (R364). -/
def SEC.EVENT_TAG_FAIL : Fld := reg 0x90001C 1 1 .w1c 0x0 1 (fun _ => 0)
/-- [2] SEC EVENT.QUOTA_REFUSED, W1C, reset 0 (R364). A SLOT_QUOTA write was ignored. -/
def SEC.EVENT_QUOTA_REFUSED : Fld := reg 0x90001C 2 1 .w1c 0x0 1 (fun _ => 0)
/-- [31:0] SEC ID_PUB[i], RO, reset 0 (R364). Identity public key, X then Y, big-endian octets. -/
def SEC.ID_PUB : Fld := reg 0x900040 0 32 .ro 0x4 16 (fun _ => 0)
/-- [31:0] SEC CERT[i], RO, reset F (R364). Device certificate. -/
def SEC.CERT : Fld := reg 0x900080 0 32 .ro 0x4 24 (fun _ => 0)
/-- Every field of the block SEC. -/
def SEC.flds : List Fld :=
  [SEC.STATUS_LIFE, SEC.STATUS_ROOT_MARGINAL, SEC.STATUS_DRBG_OK, SEC.SLOT_FREE, SEC.QUOTA_SUM, SEC.TAG_FAIL_CNT, SEC.CCM_CNT, SEC.DERIVE_CNT, SEC.ECC_CNT, SEC.EVENT_RNG_FAIL, SEC.EVENT_TAG_FAIL, SEC.EVENT_QUOTA_REFUSED, SEC.ID_PUB, SEC.CERT]

/-- [0] SECH CFG.AUTO_REKEY, RW, reset 1 (R365). R348. -/
def SECH.CFG_AUTO_REKEY : Fld := reg 0x901000 0 1 .rw 0x80 8 (fun _ => 1)
/-- [1] SECH CFG.GROUP_EN, RW, reset 0 (R365). Group key in use. -/
def SECH.CFG_GROUP_EN : Fld := reg 0x901000 1 1 .rw 0x80 8 (fun _ => 0)
/-- [6:4] SECH CFG.DEF_SEC_LEVEL, RW, reset 6 (R365). 1, 2, 3, 5, 6 or 7; others ignored. -/
def SECH.CFG_DEF_SEC_LEVEL : Fld := reg 0x901000 4 3 .rw 0x80 8 (fun _ => 6)
/-- [9:0] SECH LINK_MASTER, RW, reset 0x3FF (R365). Slot; 0x3FF none. -/
def SECH.LINK_MASTER : Fld := reg 0x901004 0 10 .rw 0x80 8 (fun _ => 0x3FF)
/-- [25:16] SECH INSTALL_MASTER, RW, reset 0x3FF (R365). -/
def SECH.INSTALL_MASTER : Fld := reg 0x901004 16 10 .rw 0x80 8 (fun _ => 0x3FF)
/-- [9:0] SECH GROUP_MASTER, RW, reset 0x3FF (R365). -/
def SECH.GROUP_MASTER : Fld := reg 0x901008 0 10 .rw 0x80 8 (fun _ => 0x3FF)
/-- [9:0] SECH SLOT_QUOTA, RW, reset 0 (R365). Privileged write. A write raising QUOTA_SUM above 1,008 is ignored and sets SEC.EVENT.QUOTA_REFUSED. -/
def SECH.SLOT_QUOTA : Fld := reg 0x90100C 0 10 .rw 0x80 8 (fun _ => 0)
/-- [9:0] SECH SLOTS_USED, RO, reset 0 (R365). -/
def SECH.SLOTS_USED : Fld := reg 0x901010 0 10 .ro 0x80 8 (fun _ => 0)
/-- [31:0] SECH HEDGE_EPOCH, RO, reset 0 (R365). Held in MRAM. -/
def SECH.HEDGE_EPOCH : Fld := reg 0x901014 0 32 .ro 0x80 8 (fun _ => 0)
/-- [15:0] SECH GROUP.GEN, RO, reset 1 (R365). Held in MRAM. -/
def SECH.GROUP_GEN : Fld := reg 0x901018 0 16 .ro 0x80 8 (fun _ => 1)
/-- [23:16] SECH GROUP.INDEX, RO, reset 0xF1 (R365). -/
def SECH.GROUP_INDEX : Fld := reg 0x901018 16 8 .ro 0x80 8 (fun _ => 0xF1)
/-- [31:0] SECH GROUP_TX_CNT, RO, reset 0 (R365). -/
def SECH.GROUP_TX_CNT : Fld := reg 0x90101C 0 32 .ro 0x80 8 (fun _ => 0)
/-- [15:0] SECH GROUP_SWITCH_S, RW, reset 600 (R365). Seconds, 10 to 65,535. -/
def SECH.GROUP_SWITCH_S : Fld := reg 0x901020 0 16 .rw 0x80 8 (fun _ => 600)
/-- [31:16] SECH GROUP_OVERLAP_S, RW, reset 3,600 (R365). Seconds. -/
def SECH.GROUP_OVERLAP_S : Fld := reg 0x901020 16 16 .rw 0x80 8 (fun _ => 3600)
/-- [15:0] SECH REKEY_RETRY_S, RW, reset 300 (R365). Seconds, 10 to 65,535. -/
def SECH.REKEY_RETRY_S : Fld := reg 0x901024 0 16 .rw 0x80 8 (fun _ => 300)
/-- [31:0] SECH JOIN_OK, RC, reset 0 (R365). -/
def SECH.JOIN_OK : Fld := reg 0x901028 0 32 .rc 0x80 8 (fun _ => 0)
/-- [31:0] SECH JOIN_AUTH_FAIL, RC, reset 0 (R365). -/
def SECH.JOIN_AUTH_FAIL : Fld := reg 0x90102C 0 32 .rc 0x80 8 (fun _ => 0)
/-- [31:0] SECH REJOIN_BLOCKED, RC, reset 0 (R365). -/
def SECH.REJOIN_BLOCKED : Fld := reg 0x901030 0 32 .rc 0x80 8 (fun _ => 0)
/-- [31:0] SECH RETIRED_DROP, RC, reset 0 (R365). -/
def SECH.RETIRED_DROP : Fld := reg 0x901034 0 32 .rc 0x80 8 (fun _ => 0)
/-- [31:0] SECH EXHAUSTED, RC, reset 0 (R365). COUNTER_EXHAUSTED completions. -/
def SECH.EXHAUSTED : Fld := reg 0x901038 0 32 .rc 0x80 8 (fun _ => 0)
/-- [0] SECH EVENT.GROUP_SWITCHED, W1C, reset 0 (R365). -/
def SECH.EVENT_GROUP_SWITCHED : Fld := reg 0x90103C 0 1 .w1c 0x80 8 (fun _ => 0)
/-- [1] SECH EVENT.COUNTER_WARN, W1C, reset 0 (R365). -/
def SECH.EVENT_COUNTER_WARN : Fld := reg 0x90103C 1 1 .w1c 0x80 8 (fun _ => 0)
/-- Every field of the block SECH. -/
def SECH.flds : List Fld :=
  [SECH.CFG_AUTO_REKEY, SECH.CFG_GROUP_EN, SECH.CFG_DEF_SEC_LEVEL, SECH.LINK_MASTER, SECH.INSTALL_MASTER, SECH.GROUP_MASTER, SECH.SLOT_QUOTA, SECH.SLOTS_USED, SECH.HEDGE_EPOCH, SECH.GROUP_GEN, SECH.GROUP_INDEX, SECH.GROUP_TX_CNT, SECH.GROUP_SWITCH_S, SECH.GROUP_OVERLAP_S, SECH.REKEY_RETRY_S, SECH.JOIN_OK, SECH.JOIN_AUTH_FAIL, SECH.REJOIN_BLOCKED, SECH.RETIRED_DROP, SECH.EXHAUSTED, SECH.EVENT_GROUP_SWITCHED, SECH.EVENT_COUNTER_WARN]

/-- [31:0] TRUST ANCHOR0[i], RO, reset MRAM (R366). Written by TRUST_SET. -/
def TRUST.ANCHOR0 : Fld := regIx 0x902000 0 32 .ro 0x4 8 64 24 false (fun _ => 0)
/-- [31:0] TRUST ANCHOR1[i], RO, reset MRAM (R366). -/
def TRUST.ANCHOR1 : Fld := regIx 0x902060 0 32 .ro 0x4 8 64 24 false (fun _ => 0)
/-- [0] TRUST CTL.VALID0, RO, reset MRAM (R366). -/
def TRUST.CTL_VALID0 : Fld := reg 0x9020C0 0 1 .ro 0x100 8 (fun _ => 0)
/-- [1] TRUST CTL.VALID1, RO, reset MRAM (R366). -/
def TRUST.CTL_VALID1 : Fld := reg 0x9020C0 1 1 .ro 0x100 8 (fun _ => 0)
/-- [2] TRUST CTL.LOCK, W1S, reset MRAM (R366). Cleared only by HEDGE_KEY_WIPE. -/
def TRUST.CTL_LOCK : Fld := reg 0x9020C0 2 1 .w1s 0x100 8 (fun _ => 0)
/-- Every field of the block TRUST. -/
def TRUST.flds : List Fld :=
  [TRUST.ANCHOR0, TRUST.ANCHOR1, TRUST.CTL_VALID0, TRUST.CTL_VALID1, TRUST.CTL_LOCK]

/-- [1:0] KSLOT META.STATE, RO, reset MRAM (R366). 0 EMPTY, 1 VALID, 2 ORPHANED, 3 TAG_FAIL. -/
def KSLOT.META_STATE : Fld := reg 0x908000 0 2 .ro 0x20 1024 (fun _ => 0)
/-- [3:2] KSLOT META.USE, RO, reset MRAM (R366). R338. -/
def KSLOT.META_USE : Fld := reg 0x908000 2 2 .ro 0x20 1024 (fun _ => 0)
/-- [5:4] KSLOT META.TYPE, RO, reset MRAM (R366). R338. -/
def KSLOT.META_TYPE : Fld := reg 0x908000 4 2 .ro 0x20 1024 (fun _ => 0)
/-- [8:6] KSLOT META.LEVEL, RO, reset MRAM (R366). 1 to 6. -/
def KSLOT.META_LEVEL : Fld := reg 0x908000 6 3 .ro 0x20 1024 (fun _ => 0)
/-- [15:12] KSLOT META.OWNER, RO, reset MRAM (R366). h, or 0xF for the Steward. -/
def KSLOT.META_OWNER : Fld := reg 0x908000 12 4 .ro 0x20 1024 (fun _ => 0)
/-- [25:16] KSLOT META.PARENT, RO, reset MRAM (R366). 0x3FF for the Rootstock. -/
def KSLOT.META_PARENT : Fld := reg 0x908000 16 10 .ro 0x20 1024 (fun _ => 0)
/-- [15:0] KSLOT GEN.GEN, RO, reset MRAM (R366). -/
def KSLOT.GEN_GEN : Fld := reg 0x908004 0 16 .ro 0x20 1024 (fun _ => 0)
/-- [31:16] KSLOT GEN.PARENT_GEN, RO, reset MRAM (R366). -/
def KSLOT.GEN_PARENT_GEN : Fld := reg 0x908004 16 16 .ro 0x20 1024 (fun _ => 0)
/-- [31:0] KSLOT USE_CNT, RC, reset 0 (R366). Operations started. -/
def KSLOT.USE_CNT : Fld := reg 0x908008 0 32 .rc 0x20 1024 (fun _ => 0)
/-- [31:0] KSLOT WRITE_CNT, RO, reset MRAM (R366). Record writes. -/
def KSLOT.WRITE_CNT : Fld := reg 0x90800C 0 32 .ro 0x20 1024 (fun _ => 0)
/-- [31:0] KSLOT CREATED, RO, reset MRAM (R366). Mesh Phase seconds of the last write. -/
def KSLOT.CREATED : Fld := reg 0x908010 0 32 .ro 0x20 1024 (fun _ => 0)
/-- Every field of the block KSLOT. -/
def KSLOT.flds : List Fld :=
  [KSLOT.META_STATE, KSLOT.META_USE, KSLOT.META_TYPE, KSLOT.META_LEVEL, KSLOT.META_OWNER, KSLOT.META_PARENT, KSLOT.GEN_GEN, KSLOT.GEN_PARENT_GEN, KSLOT.USE_CNT, KSLOT.WRITE_CNT, KSLOT.CREATED]

/-- [15:0] ENG API_VERSION, RO, reset F (R394). Mesh Runtime interface version. -/
def ENG.API_VERSION : Fld := reg 0xA00000 0 16 .ro 0x0 1 (fun _ => 0)
/-- [0] ENG EVENT.BAD_CFG, W1C, reset 0 (R394). A grant write was refused. -/
def ENG.EVENT_BAD_CFG : Fld := reg 0xA00004 0 1 .w1c 0x0 1 (fun _ => 0)
/-- [31:0] ENG FAULT_HALT_CNT, RC, reset 0 (R394). Runtime and front-end halts. -/
def ENG.FAULT_HALT_CNT : Fld := reg 0xA00008 0 32 .rc 0x0 1 (fun _ => 0)
/-- Every field of the block ENG. -/
def ENG.flds : List Fld :=
  [ENG.API_VERSION, ENG.EVENT_BAD_CFG, ENG.FAULT_HALT_CNT]

/-- [1:0] ENGE ROLE.ROLE, RO, reset see R369 (R395). 0 lane, 1 transmit timing, 2 mesh, 3 policy. -/
def ENGE.ROLE_ROLE : Fld := reg 0xA01000 0 2 .ro 0x80 128 (fun e => if e < 48 then 0 else if e < 64 then 1 else if e < 112 then 2 else 3)
/-- [11:8] ENGE ROLE.OWNER, RO, reset see R369 (R395). h, or 0xF. -/
def ENGE.ROLE_OWNER : Fld := reg 0xA01000 8 4 .ro 0x80 128 (fun e => if e < 112 then 15 else (e - 112) / 2)
/-- [7:0] ENGE STATUS.THREADS, RO, reset 0 (R395). 2 bits per thread t at [2t+1:2t]: 0 not started, 1 running, 2 waiting or stalled, 3 halted. -/
def ENGE.STATUS_THREADS : Fld := reg 0xA01004 0 8 .ro 0x80 128 (fun _ => 0)
/-- [0] ENGE CTL.WDOG_EN, RW, reset 1 (R395). -/
def ENGE.CTL_WDOG_EN : Fld := reg 0xA01008 0 1 .rw 0x80 128 (fun _ => 1)
/-- [15:0] ENGE WDOG_TIMEOUT, RW, reset 2,000 (R395). µs, 100 to 10,000; others ignored. -/
def ENGE.WDOG_TIMEOUT : Fld := reg 0xA0100C 0 16 .rw 0x80 128 (fun _ => 2000)
/-- [31:0] ENGE ISSUE_CNT, RC, reset 0 (R395). Instructions issued. -/
def ENGE.ISSUE_CNT : Fld := reg 0xA01010 0 32 .rc 0x80 128 (fun _ => 0)
/-- [31:0] ENGE STALL_CNT, RC, reset 0 (R395). STALL_TIMEOUT traps. -/
def ENGE.STALL_CNT : Fld := reg 0xA01014 0 32 .rc 0x80 128 (fun _ => 0)
/-- [31:0] ENGE TRAP_CNT, RC, reset 0 (R395). All traps. -/
def ENGE.TRAP_CNT : Fld := reg 0xA01018 0 32 .rc 0x80 128 (fun _ => 0)
/-- [31:0] ENGE ECC_CORR, RC, reset 0 (R395). Corrected errors. -/
def ENGE.ECC_CORR : Fld := reg 0xA0101C 0 32 .rc 0x80 128 (fun _ => 0)
/-- [31:0] ENGE THR[t].EPC, RO, reset 0 (R395). At the last halt. -/
def ENGE.THR_EPC : Fld := regIx 0xA01020 0 32 .ro 0x10 128 8 4 false (fun _ => 0)
/-- [7:0] ENGE THR[t].ECAUSE, RO, reset 0 (R395). -/
def ENGE.THR_ECAUSE : Fld := regIx 0xA01024 0 8 .ro 0x10 128 8 4 false (fun _ => 0)
/-- [31:0] ENGE THR[t].EVAL, RO, reset 0 (R395). -/
def ENGE.THR_EVAL : Fld := regIx 0xA01028 0 32 .ro 0x10 128 8 4 false (fun _ => 0)
/-- [31:0] ENGE THR[t].EVPEND, RO, reset 0 (R395). Current value. -/
def ENGE.THR_EVPEND : Fld := regIx 0xA0102C 0 32 .ro 0x10 128 8 4 false (fun _ => 0)
/-- Every field of the block ENGE. -/
def ENGE.flds : List Fld :=
  [ENGE.ROLE_ROLE, ENGE.ROLE_OWNER, ENGE.STATUS_THREADS, ENGE.CTL_WDOG_EN, ENGE.WDOG_TIMEOUT, ENGE.ISSUE_CNT, ENGE.STALL_CNT, ENGE.TRAP_CNT, ENGE.ECC_CORR, ENGE.THR_EPC, ENGE.THR_ECAUSE, ENGE.THR_EVAL, ENGE.THR_EVPEND]

/-- [25:0] ENGH SRAM_BASE, RW, reset 0 (R396). Chip SRAM offset, 4 KiB aligned; privileged write. -/
def ENGH.SRAM_BASE : Fld := reg 0xA08000 0 26 .rw 0x40 8 (fun _ => 0)
/-- [25:0] ENGH SRAM_SIZE, RW, reset 0 (R396). Octets, multiple of 4 KiB; privileged write. -/
def ENGH.SRAM_SIZE : Fld := reg 0xA08004 0 26 .rw 0x40 8 (fun _ => 0)
/-- [63:0] ENGH DRAM_BASE, RW, reset 0 (R396). 64-bit. 16 MiB aligned; privileged write. -/
def ENGH.DRAM_BASE : Fld := regW 0xA08008 0 64 .rw 0x40 8 (fun _ => 0)
/-- [63:0] ENGH DRAM_SIZE, RW, reset 0 (R396). 64-bit. Multiple of 16 MiB; privileged write. -/
def ENGH.DRAM_SIZE : Fld := regW 0xA08010 0 64 .rw 0x40 8 (fun _ => 0)
/-- [0] ENGH CFG.RESTART_CORE, RW, reset 1 (R396). -/
def ENGH.CFG_RESTART_CORE : Fld := reg 0xA08018 0 1 .rw 0x40 8 (fun _ => 1)
/-- [1] ENGH CFG.KEEP_ON_HEDGE, RW, reset 0 (R396). -/
def ENGH.CFG_KEEP_ON_HEDGE : Fld := reg 0xA08018 1 1 .rw 0x40 8 (fun _ => 0)
/-- [1:0] ENGH PROG.STATE, RO, reset 0 (R396). 0 none, 1 loading, 2 running. -/
def ENGH.PROG_STATE : Fld := reg 0xA0801C 0 2 .ro 0x40 8 (fun _ => 0)
/-- [13:8] ENGH PROG.HALTED, RO, reset 0 (R396). Program threads halted, one bit each. -/
def ENGH.PROG_HALTED : Fld := reg 0xA0801C 8 6 .ro 0x40 8 (fun _ => 0)
/-- [31:0] ENGH LOAD_CNT, RC, reset 0 (R396). -/
def ENGH.LOAD_CNT : Fld := reg 0xA08020 0 32 .rc 0x40 8 (fun _ => 0)
/-- [31:0] ENGH HALT_CNT, RC, reset 0 (R396). Program-thread halts. -/
def ENGH.HALT_CNT : Fld := reg 0xA08024 0 32 .rc 0x40 8 (fun _ => 0)
/-- Every field of the block ENGH. -/
def ENGH.flds : List Fld :=
  [ENGH.SRAM_BASE, ENGH.SRAM_SIZE, ENGH.DRAM_BASE, ENGH.DRAM_SIZE, ENGH.CFG_RESTART_CORE, ENGH.CFG_KEEP_ON_HEDGE, ENGH.PROG_STATE, ENGH.PROG_HALTED, ENGH.LOAD_CNT, ENGH.HALT_CNT]

end Sys2Proof.Machine
end

