-- ==== Sys2Proof/Machine/State.lean ====
section
/-!
DEFINITION. The state of the part as plain data, and the state right after power-on reset.
-/

namespace Sys2Proof.Machine

open Sys2Proof

/-- Why a command stops the machine. No meaning of this model faults: the spec gives every command of the table
an effect. -/
inductive Fault where
  /-- Raised by nothing (safe). -/
  | none
  deriving DecidableEq, Repr

/-- Why a command is refused. -/
inductive Refusal where
  /-- The command has no meaning yet (safe); answered only by exec's arms. -/
  | notModelled (mnemonic : String)
  deriving DecidableEq, Repr

/-- A record waiting in the Scorepad writer's queue (R542, R547): everything of the record but its key,
which it takes when it is committed. -/
structure SRec where
  kind : Nat
  code : Nat
  phase : Nat
  cal : List Nat
  unit : Nat
  action : Nat
  flags : Nat
  addr : Nat
  count : Nat
  detail : List Nat
  deriving DecidableEq, Repr

/-- A command started and not yet finally completed (R433), as the ledger in DRAM holds it (R451); `steward`
marks one that holds an administrative place (R443), `began` one that had begun to act, `sent` one whose final completion went out in a
Tunnel message not yet acknowledged; `at_` is the instant it was posted, and `data` the data area of the Tunnel message it came in (R445). -/
structure Started where
  ring : Nat
  index : Nat
  tag : Nat
  opcode : Nat
  steward : Bool
  began : Bool
  sent : Bool
  at_ : Nat
  data : List Nat
  deriving DecidableEq, Repr

/-- A completion that waits in a backlog (R439): its 64 octets, PHASE not yet set, and its result data with their host address. Ring 0 to 8
is a port, 16 + h the programs of Hedge h (R392); `own` is false of a completion for a command of the old active (R456). -/
structure CplWait where
  ring : Nat
  trump : Bool
  octets : List Nat
  addr : Nat
  data : List Nat
  own : Bool
  deriving DecidableEq, Repr

/-- An event that waits in a Hedge's backlog (R438, R439). -/
structure EvWait where
  hedge : Nat
  code : Nat
  seq : Nat
  phase : Nat
  body : List Nat
  deriving DecidableEq, Repr

/-- A received frame that waits in a Hedge's backlog (R442), with what its RX entries will say (R440). -/
structure RxFrame where
  hedge : Nat
  tIn : Nat
  flags : Nat
  final : Nat
  meta_ : Nat
  src : Nat
  report : List Nat
  payload : List Nat
  deriving DecidableEq, Repr

/-- A message the part has sent over a Hedge Tunnel and the host has not acknowledged (R446), with its resends and the instant it was last
sent. -/
structure TunMsg where
  hedge : Nat
  kind : Nat
  seq : Nat
  entries : List Nat
  data : List Nat
  resends : Nat
  at_ : Nat
  deriving DecidableEq, Repr

/-- A command posted over a Hedge Tunnel and not yet fetched (R446): its descriptor, the data area of its message, and the instant it was
posted. -/
structure TunCmd where
  hedge : Nat
  octets : List Nat
  data : List Nat
  at_ : Nat
  deriving DecidableEq, Repr

/-- A frame request in a chain's request FIFO (R176); `ack` marks an Enh-Ack of the MAC (R221); `psdu` is the
PSDU of a request that the Mesh Runtime's own frames make, whose buffer the spec does not place, and empty for a request that reads BUF. -/
structure TxReq where
  chain : Nat
  mode : Nat
  flags : Nat
  psduLen : Nat
  freq : Nat
  power : Nat
  subband : Nat
  entry : Option Nat
  buf : Nat
  tag : Nat
  inc : Nat
  hedge : Nat
  reserved : Bool
  ack : Bool
  psdu : List Nat
  deriving DecidableEq, Repr

/-- A result in a chain's result FIFO (R177). -/
structure TxRes where
  chain : Nat
  tag : Nat
  status : Nat
  flags : Nat
  rl : Nat
  pwr : Nat
  start : Nat
  deriving DecidableEq, Repr

/-- A gate record in F(56 + chain) (R209, R378). -/
structure GateRec where
  chain : Nat
  tag : Nat
  verdict : Nat
  earliest : Nat
  deriving DecidableEq, Repr

/-- A transmission the gate has cleared (R209): its chain, port, sub-band, carrier in Hz, ledger cell, first sample, the
airtime charged and whether it has ended; `until_` is the end of its blanking interval once known (R108), and `pt` the trigger it was
cleared for. -/
structure OnAir where
  chain : Nat
  port : Nat
  sb : Nat
  freq : Nat
  cell : Nat
  start : Nat
  us : Nat
  ended : Bool
  until_ : Nat
  pt : Nat
  deriving DecidableEq, Repr

/-- A quiet interval the gate holds (R213): its window, the slices and the occupied band it listens to, and the chain and request it
serves. -/
structure Quiet where
  lo : Nat
  hi : Nat
  slices : List Nat
  f1 : Nat
  f2 : Nat
  chain : Nat
  tag : Nat
  deriving DecidableEq, Repr

/-- A slot of a ledger (R215, R216): sub-band, cell (256 for the duty ledger), slot number, µs, and the µs last written to
MRAM. -/
structure LedgerSlot where
  sb : Nat
  cell : Nat
  slot : Nat
  us : Nat
  saved : Nat
  deriving DecidableEq, Repr

/-- One entry of a capture unit's FIFO (R41). -/
structure CapEntry where
  unit : Nat
  mp : Nat
  sec : Nat
  ns : Nat
  seq : Nat
  deriving DecidableEq, Repr

/-- A two-step Sync that waits for its Follow_Up in the transparent clock's table of 64 (R43): the port it came in
on, sourcePortIdentity, sequenceId, the correction to add and the Mesh Phase of its arrival. -/
structure SyncRec where
  port : Nat
  source : Nat
  seq : Nat
  corr : Int
  at_ : Nat
  deriving DecidableEq, Repr

/-- One subcarrier of a symbol that is sent (R122): its index k and its value (re + j·im)·√(num / den). -/
structure Carrier where
  k : Int
  re : Int
  im : Int
  num : Nat
  den : Nat
  deriving DecidableEq, Repr

/-- A frame the part has handed to an Ethernet port (the model's record of its output, assumption log 6). -/
inductive Wire where
  /-- A PTP message forwarded out of a port: the octets of its frame, check sequence included (R43). -/
  | ptp (port : Nat) (octets : List Nat)
  /-- A PRP supervision frame on a port (R472). -/
  | supervision (port seq : Nat)
  /-- A message of Hedge h's Tunnel on an Ethernet port to a link-layer address: the octets of its IPv6 packet, and under PRP of the trailer
  (R445, R447, R472). -/
  | tunnel (h port mac : Nat) (octets : List Nat)
  /-- A Neighbor Advertisement for an address, on a port (R445). -/
  | advert (port ip6 : Nat) (rct : Option Nat)
  /-- A message on the Twin link (R458 to R465). -/
  | twin (m : TwinMsg)
  /-- A frame that chain c begins to send at its connector: carrier in 1/16 Hz, mode, PSDU, and for XL-OFDM its symbols (R122 to R127,
  R166, R170). -/
  | radio (chain : Nat) (carrier : Int) (mode : Nat) (psdu : List Nat) (syms : List (List Carrier))
  deriving DecidableEq, Repr

/-- Where a downlink stands between its admission and its completion (R300, R248 to R258). -/
inductive Stage where
  | queued | released | held | planned | armed | onAir | ackWait
  deriving DecidableEq, Repr

/-- What a downlink carries: a host's SEND, a frame relayed (R273), a flood of the part or one it floods again (R276, R277), or a MAC command of the part
(R351, R354, R356). -/
inductive Freight where
  | send | relay | flood | reflood | command
  deriving DecidableEq, Repr

/-- How an attempt reaches its receiver: at once, at a predicted wake, by a long preamble, or by a train (R248 to
R253). -/
inductive Aim where
  | plain | aimed | long | train
  deriving DecidableEq, Repr

/-- The key a downlink's frames are secured with: the entry's link key, the Hedge's group key, or the join KEK (R345, R351,
R354). -/
inductive Secure where
  | link | group | kek | nextLink
  deriving DecidableEq, Repr

/-- The tag of an entry of the derived-key cache (R344): kind (0 link, 1 install, 2 group), Hedge, EUI-64 or GROUP_GEN, key
generation, master slot and the master's GEN. -/
structure KeyTag where
  kind : Nat
  hedge : Nat
  ident : Nat
  gen : Nat
  slot : Nat
  slotGen : Nat
  deriving DecidableEq, Repr

/-- A downlink from its admission to its completion. `dest` is its queue: an entry, whose INCARNATION then
was `destInc`, or 262,144 + 4h + k the flood queue of Hedge h and class k; `cls` the class it is enqueued in; `expiry` the end of its lifetime; `charged` the airtime-mode
shapers charged at release with their EPOCH and charge; `hop` the entry its frame goes to and `hopInc` that entry's
INCARNATION; `pans` the Hop PANs (PANMAP numbers) its copies still go to; `bound` the earliest C of the next attempt;
`c` the compare value, `pre` the preamble units (0 standard) and `freq` the carrier of the attempt in hand; `lo` and
`hi` the window a fallback covers and `prev` the start of a train's previous copy; `late` says that a copy left the gate
later than planned; `model` that the model that aimed the attempt still stands (R255); `held` that it has been counted in
HOLD_CNT; `frame` is the secured PSDU without its FCS, empty until it is secured, and `tag` the key that
secured it, if one did; `airs` and `airUse` the attempts and
µs on air so far, `airs0` and `use0` those before the release in force; `rx` what is
delivered when a relayed frame finds no route (R273); `autoMode` and `autoPower` ask for the mode and the power of the entry the frame goes
to (R435). -/
structure Down where
  uid : Nat
  hedge : Nat
  dest : Nat
  destInc : Nat
  freight : Freight
  sec : Secure
  cls : Nat
  cmd : Option Cmd
  opcode : Nat
  ackReq : Bool
  noFlood : Bool
  calFull : Bool
  beacon : Bool
  mode : Nat
  power : Nat
  psduLen : Nat
  final : Nat
  ttl : Nat
  origin : Nat
  floodSeq : Nat
  gen : Nat
  pans : List Nat
  payload : List Nat
  expiry : Nat
  enq : Nat
  colour : Nat
  demoted : Bool
  cells : Nat
  stage : Stage
  out : Nat
  cost : Nat
  charged : List (Nat × Nat × Nat)
  retries : Nat
  lbt : Nat
  bound : Nat
  hop : Nat
  hopInc : Nat
  aim : Aim
  chain : Nat
  pt : Nat
  c : Nat
  pre : Nat
  freq : Nat
  lo : Nat
  hi : Nat
  prev : Nat
  late : Bool
  model : Bool
  held : Bool
  frame : List Nat
  tag : Option KeyTag
  seqNo : Nat
  ackEnd : Nat
  airs : Nat
  airUse : Nat
  airs0 : Nat
  use0 : Nat
  start : Nat
  lqi : Nat
  preUsed : Nat
  rx : Option RxFrame
  autoMode : Bool
  autoPower : Bool
  deriving DecidableEq, Repr

/-- A split Join Response whose second part is still to be sent (R352): the number of Part 1's downlink, the entry, and the
payload of Part 2. -/
structure Split where
  uid : Nat
  entry : Nat
  payload : List Nat
  deriving DecidableEq, Repr

/-- An observation that waits for the step correction to reach its entry (R247): the entry and its INCARNATION, RX_PHASE, and the wake
stamp; `anchor` asks to anchor the model afresh (R240). -/
structure ObsWait where
  entry : Nat
  inc : Nat
  tObs : Nat
  stamp : Nat
  anchor : Bool
  deriving DecidableEq, Repr

/-- A key in one of the two Thicket indexes (R61): which index, the key, the bucket (65,536 the stash) and the
entry. -/
structure IdxSlot where
  short : Bool
  hedge : Nat
  key : Nat
  bucket : Nat
  entry : Nat
  deriving DecidableEq, Repr

/-- An insertion that waits for the walk of R60 because no other index is free: the Hedge, the parameter block, and the
command, the thread (with its destination register, its slot and NOWIN), or the join request that asked (lane, report and payload), and
whether an entry has been evicted for it (R70). -/
structure InsWait where
  hedge : Nat
  block : NodeBlock
  cmd : Option Cmd
  thread : Option (Nat × Nat × Nat × Bool)
  join : Option (Nat × List Nat × List Nat)
  evicted : Bool
  deriving DecidableEq, Repr

/-- A deletion that waits for the entry's last hold (R385), with the command or the thread that asked for it. -/
structure DelWait where
  entry : Nat
  cmd : Option Cmd
  thread : Option Nat
  deriving DecidableEq, Repr

/-- A fault-caused reset the Scorepad's RESET records show (R539): its level, its calendar stamp in seconds, and
whether CAL_VALID was set. -/
structure ResetStamp where
  level : Nat
  at_ : Nat
  valid : Bool
  deriving DecidableEq, Repr

/-- The energy map of a slice (R102 to R107): the newest complete period (not reduced modulo 2^32), the periods completed
since the map was enabled, the thresholds in force, the stamps of every bin, and the rows of the ring by slot. -/
structure EnergyMap where
  slice : Nat
  head : Nat
  n : Nat
  thrA : Nat
  thrB : Nat
  busyA : List Nat
  busyB : List Nat
  blank : List Nat
  rows : List (Nat × List Nat)
  deriving DecidableEq, Repr

/-- A blanking interval (R108): the chain and port that transmit, the carrier in Hz, and the interval in Mesh Phase, whose
end counts only once it is closed. -/
structure Blanking where
  chain : Nat
  port : Nat
  freq : Nat
  lo : Nat
  hi : Nat
  closed : Bool
  deriving DecidableEq, Repr

/-- A frame on a lane from the declaration of synchronisation to its hand-off (R118, R132 to R147): `words` are the
codewords decoded so far, by number; `ended` that its last symbol has passed, and `failed` that it is dropped; `report`,
`psdu` and `lqi` are known from its end on; `air` is what the branches of an XL-OFDM frame have received. -/
structure LaneFrame where
  uid : Nat
  lane : Nat
  group : Nat
  metric : Nat
  sync : Nat
  hdr : Bool
  mode : Nat
  len : Nat
  fec : Bool
  fcs : Nat
  long : Bool
  seed : Nat
  ref : Nat
  gainA : Nat
  gainB : Nat
  steps : Nat
  clipped : Bool
  overlap : Bool
  lost : Bool
  sub : Nat
  words : List (Nat × Nat)
  iter : Nat
  failed : Bool
  ended : Bool
  report : List Nat
  psdu : List Nat
  lqi : Nat
  air : List RxBranch
  deriving DecidableEq, Repr

/-- A codeword in the LDPC pool (R139): its lane and frame, its number in the frame, the decoder that runs it (4 while it
waits), whether it was started in degraded operation, the cycle it was submitted in, its soft values, its MCS and CW_LONG. -/
structure CodeWord where
  lane : Nat
  frame : Nat
  ix : Nat
  run : Nat
  deg : Bool
  cycle : Nat
  soft : List Int
  mcs : Nat
  long : Bool
  deriving DecidableEq, Repr

/-- A frame in the duplicate filter (R148): lane, FCS octets, report and PSDU, with what the filter compares, when it came, and whether
it has been delivered. -/
structure Heard where
  lane : Nat
  fcs : Nat
  report : List Nat
  psdu : List Nat
  mode : Nat
  ref : Nat
  lqi : Nat
  at_ : Nat
  out : Bool
  deriving DecidableEq, Repr

/-- An entry of a lane's FIFO F0 to F47 (R378), with the length of its FCS and the Mesh Phase of the hand-over. -/
structure LaneIn where
  lane : Nat
  fcs : Nat
  report : List Nat
  psdu : List Nat
  at_ : Nat
  deriving DecidableEq, Repr

/-- A cryptographic operation of a thread whose ticket is open (R384, R417 to R419): its thread and ticket, the status it will
complete with, CHECK_FAIL, the slot and GEN of the key it started under, where its output goes and the output, and whether it has
completed. -/
structure CryOp where
  thread : Nat
  ticket : Nat
  status : Nat
  fail : Bool
  key : Option (Nat × Nat)
  outAt : Nat
  out : List Nat
  done : Bool
  deriving DecidableEq, Repr

/-- The byte memories, each a list in canonical form: chip SRAM with the watch memory, the engines' local data memories, the clusters'
shared and instruction memories (R373, R500), DRAM (R503), MRAM (R542), the memories of the hosts, and the boot flash (R491). -/
structure Memories where
  sram : List Host.Cell
  localMem : List Host.Cell
  sharedMem : List Host.Cell
  instrMem : List Host.Cell
  dram : List Host.Cell
  mram : List Host.Cell
  host : List Host.Cell
  flash : List Host.Cell
  deriving DecidableEq, Repr

/-- The part. `cells` holds every register field and scalar that differs from its value after power-on reset; `mem` the byte memories, and
`flashBuf` what a BOOT_IMAGE_WRITE is writing to the flash; `runtime` is the copy of the Runtime section the Steward keeps (R494);
`posted` the doorbells of the command rings with the PROD each wrote and its instant (R428), `hrCmds` the HEDGE_RESET commands that wait for
a reset to end (R434); `images` are the kept policy images and `entries` the entry points of the Mesh Runtime's threads; `snapSent` and `snapLedger` are the
entries and ledger buckets as the last snapshots carried them, `twinCmds` the command ledger of the last snapshot applied, and `handed` the
commands (port, TAG, CMD_INDEX) the partner reports since a switch (R456, R462); `prpTab` is the table of PRP source nodes (source,
sequence number, Mesh Phase; R472); `ecache` the entries in the Thicket's cache, the one used last first (R55); `records` is, for each EXPERT bit in force (6h + k, or 48 + k of the global register), what the Mesh Runtime's
configuration record holds of the blocks the bit governs (R12). -/
structure State where
  cells : List ((Nat × Nat) × Nat)
  mem : Memories
  flashBuf : List Nat
  runtime : List Nat
  scpQ : List SRec
  resetLog : List ResetStamp
  started : List Started
  posted : List (Nat × Nat × Nat)
  tunCmds : List TunCmd
  hrCmds : List (Cmd × Nat)
  svcTimes : List (Nat × Nat)
  cplQ : List CplWait
  evQ : List EvWait
  rxQ : List RxFrame
  tunQ : List TunMsg
  txReq : List TxReq
  txRes : List TxRes
  gateRecs : List GateRec
  air : List OnAir
  quiet : List Quiet
  ledger : List LedgerSlot
  ledgerM : List LedgerSlot
  capQ : List CapEntry
  syncTab : List SyncRec
  incHist : List (Nat × Nat)
  wire : List Wire
  downs : List Down
  pastAcks : List Down
  idx : List IdxSlot
  ecache : List Nat
  delWait : List DelWait
  insWait : List InsWait
  gone : List (Nat × List Nat)
  missing : List (Nat × Nat × Nat)
  repairs : List (Nat × Option Nat × Nat)
  campQ : List Down
  seen : List (Nat × Nat × Nat × Nat)
  cands : List (Nat × Nat × Nat)
  maps : List EnergyMap
  blanks : List Blanking
  frames : List LaneFrame
  words : List CodeWord
  heard : List Heard
  laneQ : List LaneIn
  kcache : List KeyTag
  splits : List Split
  reflQ : List Down
  obsQ : List ObsWait
  cry : List CryOp
  progs : List (Nat × List Nat)
  images : List (Nat × List Nat)
  entries : List (Nat × Nat)
  snapSent : List (Nat × List Nat)
  snapLedger : List (Nat × Nat)
  twinCmds : List (Nat × Nat × Nat × Nat)
  handed : List (Nat × Nat × Nat)
  prpTab : List (Nat × Nat × Nat)
  records : List (Nat × List ((Nat × Nat) × Nat))
  pending : List Instr
  deriving DecidableEq, Repr

/-- Right after power-on reset. -/
def State.reset : State :=
  { cells := [], mem := ⟨[], [], [], [], [], [], [], []⟩, flashBuf := [], runtime := [], scpQ := [], resetLog := [], started := [], posted := [], tunCmds := [], hrCmds := [],
    svcTimes := [], cplQ := [], evQ := [], rxQ := [], tunQ := [], txReq := [], txRes := [],
    gateRecs := [], air := [], quiet := [], ledger := [], ledgerM := [],
    capQ := [], syncTab := [], incHist := [], wire := [], downs := [], pastAcks := [], idx := [], ecache := [],
    delWait := [], insWait := [], gone := [], missing := [], repairs := [], campQ := [], seen := [], cands := [], maps := [], blanks := [], frames := [],
    words := [], heard := [], laneQ := [], kcache := [], splits := [], reflQ := [], obsQ := [],
    cry := [], progs := [], images := [], entries := [], snapSent := [], snapLedger := [], twinCmds := [],
    handed := [], prpTab := [], records := [], pending := [] }

end Sys2Proof.Machine
end

