-- ==== Sys2Proof/Machine/Ops.lean ====
section
/-!
DEFINITION. The named operations over the store of fields and over the byte memories, and the arithmetic the
rules share: signed fields, Mesh Phase, CRC32C and CRC-16, and little-endian octets.
-/

namespace Sys2Proof.Machine

/-! ### The store of fields -/

/-- The order of the store's keys: by field number, then by instance. -/
def keyLt (a b : Nat × Nat) : Bool := a.1 < b.1 || (a.1 == b.1 && a.2 < b.2)

/-- The value listed for a key. -/
def cellFind (k : Nat × Nat) : List ((Nat × Nat) × Nat) → Option Nat
  | [] => none
  | (k', v) :: t => if k' = k then some v else cellFind k t

/-- List a value for a key, keeping the keys rising. -/
def cellSet (k : Nat × Nat) (v : Nat) : List ((Nat × Nat) × Nat) → List ((Nat × Nat) × Nat)
  | [] => [(k, v)]
  | (k', v') :: t =>
    if k' = k then (k, v) :: t
    else if keyLt k k' then (k, v) :: (k', v') :: t
    else (k', v') :: cellSet k v t

/-- Take a key out of the list. -/
def cellDel (k : Nat × Nat) : List ((Nat × Nat) × Nat) → List ((Nat × Nat) × Nat)
  | [] => []
  | (k', v') :: t => if k' = k then cellDel k t else (k', v') :: cellDel k t

/-- The value of instance n of a field: what the store lists, or the field's reset value. -/
def State.get (s : State) (F : Fld) (n : Nat := 0) : Nat :=
  (cellFind (F.id, n) s.cells).getD (F.rst n)

/-- The list of cells with instance n of a field written: the value is cut to the field's width, and a value equal to the reset value is
not listed, so that equal contents are equal lists. (The match on the list keeps a write of an unknown store from being evaluated.) -/
def cellPut (F : Fld) (n v : Nat) : List ((Nat × Nat) × Nat) → List ((Nat × Nat) × Nat)
  | [] => if v % 2 ^ F.w = F.rst n then [] else [((F.id, n), v % 2 ^ F.w)]
  | c :: t => if v % 2 ^ F.w = F.rst n then cellDel (F.id, n) (c :: t) else cellSet (F.id, n) (v % 2 ^ F.w) (c :: t)

/-- Write instance n of a field. -/
def State.put (s : State) (F : Fld) (n v : Nat) : State := { s with cells := cellPut F n v s.cells }

/-- A one-bit field as a truth value. -/
def State.on (s : State) (F : Fld) (n : Nat := 0) : Bool := s.get F n != 0

/-- Set a one-bit field. -/
def State.set (s : State) (F : Fld) (n : Nat := 0) : State := s.put F n 1

/-- Clear a field. -/
def State.clr (s : State) (F : Fld) (n : Nat := 0) : State := s.put F n 0

/-- Return a field to its value after power-on reset. -/
def State.unput (s : State) (F : Fld) (n : Nat) : State := { s with cells := cellDel (F.id, n) s.cells }

/-- Count up; a count wraps at its width (assumption log 5). -/
def State.bump (s : State) (F : Fld) (n : Nat := 0) (k : Nat := 1) : State := s.put F n (s.get F n + k)

/-- Count up, stopping at the field's largest value. -/
def State.bumpSat (s : State) (F : Fld) (n : Nat) (k : Nat := 1) : State :=
  s.put F n (min (2 ^ F.w - 1) (s.get F n + k))

/-- Count down, stopping at zero. -/
def State.drop (s : State) (F : Fld) (n : Nat := 0) (k : Nat := 1) : State := s.put F n (s.get F n - k)

/-- Write a field when a condition holds. -/
def State.putIf (s : State) (c : Bool) (F : Fld) (n v : Nat) : State := if c then s.put F n v else s

/-- Apply a change when a condition holds. -/
def State.when (s : State) (c : Bool) (f : State → State) : State := if c then f s else s

/-- Apply a change once for each element of a list, in order. -/
def State.each {α : Type} (s : State) (l : List α) (f : State → α → State) : State := l.foldl f s

/-! ### Signed fields and bits -/

/-- Bits [lo + w - 1:lo] of a value. -/
def bits (v lo w : Nat) : Nat := v / 2 ^ lo % 2 ^ w

/-- Bit i of a value. -/
def bit (v i : Nat) : Bool := v.testBit i

/-- Two's complement of width w, read. -/
def toInt (w v : Nat) : Int :=
  let v := v % 2 ^ w
  if v < 2 ^ (w - 1) then (v : Int) else (v : Int) - (2 ^ w : Nat)

/-- Two's complement of width w, written. -/
def ofInt (w : Nat) (i : Int) : Nat := (i % (2 ^ w : Nat)).toNat

/-- A signed field read as an integer. -/
def State.getI (s : State) (F : Fld) (n : Nat := 0) : Int := toInt F.w (s.get F n)

/-- A signed field written. -/
def State.putI (s : State) (F : Fld) (n : Nat) (i : Int) : State := s.put F n (ofInt F.w i)

/-- The quotient rounded up. -/
def ceilDiv (a b : Nat) : Nat := (a + b - 1) / b

/-! ### Byte memories (lists of Host.Cell in canonical form; an unlisted address reads as zero) -/

/-- One octet. -/
def memRead (a : Nat) : List Host.Cell → Octet
  | [] => 0
  | (a', b) :: t => if a' = a then b else memRead a t

/-- Take an address out of the list. -/
def memDel (a : Nat) : List Host.Cell → List Host.Cell
  | [] => []
  | (a', b) :: t => if a' = a then t else if a < a' then (a', b) :: t else (a', b) :: memDel a t

/-- List a non-zero octet at its place. -/
def memIns (a : Nat) (b : Octet) : List Host.Cell → List Host.Cell
  | [] => [(a, b)]
  | (a', b') :: t =>
    if a' = a then (a, b) :: t
    else if a < a' then (a, b) :: (a', b') :: t
    else (a', b') :: memIns a b t

/-- Write one octet, keeping the form: writing zero removes the entry. -/
def memWrite (m : List Host.Cell) (a : Nat) (b : Octet) : List Host.Cell :=
  if b = 0 then memDel a m else memIns a b m

/-- Write octets at rising addresses. -/
def memWriteL (m : List Host.Cell) (a : Nat) : List Nat → List Host.Cell
  | [] => m
  | b :: t => memWriteL (memWrite m a (BitVec.ofNat 8 b)) (a + 1) t

/-- Read n octets. -/
def memReadL (m : List Host.Cell) (a : Nat) : Nat → List Nat
  | 0 => []
  | n + 1 => (memRead a m).toNat :: memReadL m (a + 1) n

/-- Drop every octet in [lo, hi): they read as zero again. -/
def memZero (m : List Host.Cell) (lo hi : Nat) : List Host.Cell :=
  m.filter fun c => c.1 < lo || hi ≤ c.1

/-- The canonical form: addresses strictly rising, no zero octet listed. -/
def memWf : List Host.Cell → Bool
  | [] => true
  | [(_, b)] => b != 0
  | (a, b) :: (a', b') :: t => b != 0 && a < a' && memWf ((a', b') :: t)

/-- The little-endian value of octets. -/
def leVal : List Nat → Nat
  | [] => 0
  | b :: t => b + 256 * leVal t

/-- n little-endian octets of a value. -/
def le : Nat → Nat → List Nat
  | 0, _ => []
  | n + 1, v => v % 256 :: le n (v / 256)

/-- n octets of a value, most significant first. -/
def be (n v : Nat) : List Nat := (le n v).reverse

/-- The number octets make, the most significant octet first. -/
def beVal (l : List Nat) : Nat := leVal l.reverse

/-- Lay octet strings at offsets over a string (what a later piece covers is replaced). -/
def overlay (base : List Nat) : List (Nat × List Nat) → List Nat
  | [] => base
  | (o, l) :: t => overlay (base.take o ++ l ++ base.drop (o + l.length)) t

/-- A record of n octets, zero where no piece lies. -/
def layout (n : Nat) (ps : List (Nat × List Nat)) : List Nat := overlay (List.replicate n 0) ps

/-- Octets [o, o + n) of a string, as a little-endian value. -/
def oct (l : List Nat) (o n : Nat) : Nat := leVal ((l.drop o).take n)

/-! ### CRCs (R59, R408) -/

/-- One bit of a reflected CRC. -/
def crcBit (poly c : Nat) : Nat := if c % 2 = 1 then (c / 2).xor poly else c / 2

/-- One octet of a reflected CRC. -/
def crcOctet (poly c b : Nat) : Nat :=
  (List.range 8).foldl (fun c _ => crcBit poly c) (c.xor b)

/-- Advance a reflected CRC over octets. -/
def crcAdvance (poly c : Nat) (l : List Nat) : Nat := l.foldl (crcOctet poly) c

/-- CRC32C: polynomial 0x1EDC_6F41 reflected, initial value and final xor all ones (R59). -/
def crc32c (l : List Nat) : Nat := (crcAdvance 0x82F63B78 0xFFFFFFFF l).xor 0xFFFFFFFF

/-! ### Time -/

/-- Mesh Phase, derived from the nanosecond clock (R29). -/
def State.mp (s : State) : Nat :=
  (s.get CLK.SEC + 2 ^ 48 - s.get TIME.MP_EPOCH_SEC) % 2 ^ 40 * 2 ^ 24
    + (s.get CLK.NS * 2 ^ 32 + s.get CLK.FRAC) * 2 ^ 24 / (10 ^ 9 * 2 ^ 32)

/-- Mesh Phase some nanoseconds of the clock ago (R33). -/
def State.mpAgo (s : State) (ns : Nat) : Nat :=
  let w := 2 ^ 40 * 10 ^ 9 * 2 ^ 32
  let now := ((s.get CLK.SEC + 2 ^ 48 - s.get TIME.MP_EPOCH_SEC) % 2 ^ 40 * 10 ^ 9 + s.get CLK.NS) * 2 ^ 32 + s.get CLK.FRAC
  (now + w - ns * 2 ^ 32 % w) % w * 2 ^ 24 / (10 ^ 9 * 2 ^ 32)

/-- The clock's reading, which tells one cycle from another. -/
def State.cycle (s : State) : Nat := (s.get CLK.SEC * 10 ^ 9 + s.get CLK.NS) * 2 ^ 32 + s.get CLK.FRAC

/-- Mesh Phase seconds, MP[55:24] (R48). -/
def State.mpSec (s : State) : Nat := s.mp / 2 ^ 24 % 2 ^ 32

/-- Whether less than some seconds have passed since an instant in Mesh Phase seconds; one ahead of now, after a backward step, is fresh
(R48). -/
def State.ageUnder (s : State) (at_ limit : Nat) : Bool :=
  let d := (s.mpSec + 2 ^ 32 - at_ % 2 ^ 32) % 2 ^ 32
  decide (2 ^ 31 ≤ d) || decide (d < limit)

/-- Whether `ticks` of Mesh Phase last at least `us` microseconds, without rounding. -/
def ticksGeUs (ticks us : Nat) : Bool := us * 2 ^ 24 ≤ ticks * 10 ^ 6

/-- Microseconds in ticks, rounded up: the first tick at which that length has passed. -/
def usTicks (us : Nat) : Nat := ceilDiv (us * 2 ^ 24) (10 ^ 6)

/-- Ticks in whole microseconds, rounded down. -/
def ticksUs (t : Nat) : Nat := t * 10 ^ 6 / 2 ^ 24

/-- An instant compared after another in a 32-bit count of seconds, with a 2^31 window (R48). -/
def after32 (a b : Nat) : Bool := (a + 2 ^ 32 - b % 2 ^ 32) % 2 ^ 32 < 2 ^ 31 && a % 2 ^ 32 != b % 2 ^ 32

/-! ### Free values -/

/-- The next of the values the part draws or the spec leaves open: an opaque function of a counter that no
rule reads (assumption log 3). -/
def State.draw (s : State) : Nat × State :=
  (Config.draw (s.get MODEL.FRESH), s.bump MODEL.FRESH)

end Sys2Proof.Machine
end

