-- ==== Sys2Proof/Machine/Net.lean ====
section
/-!
DEFINITION. What the Ethernet ports send and take as octets: the frame check sequence, the Internet checksum, IPv6 and UDP headers in
network byte order (R1, R43, R445), and the fields of a PTP message. The layouts are those of IEEE 802.3, RFC 8200, RFC 768, RFC 1071 and
IEEE 1588-2019, which the spec names (assumption log 142).
-/

namespace Sys2Proof.Machine

open Sys2Proof

/-- Octets [o, o + n) of a string, most significant first. -/
def octBe (l : List Nat) (o n : Nat) : Nat := beVal ((l.drop o).take n)

/-- The frame check sequence of an Ethernet frame, least significant octet first. -/
def ethFcs (l : List Nat) : List Nat := le 4 ((crcAdvance 0xEDB88320 0xFFFFFFFF l).xor 0xFFFFFFFF)

/-- The sum of the 16-bit words of octets, most significant octet first. -/
def sumWords : List Nat → Nat
  | [] => 0
  | [a] => 256 * a
  | a :: b :: t => 256 * a + b + sumWords t

/-- The Internet checksum, with zero sent as all ones. -/
def inetSum (l : List Nat) : Nat :=
  let x := sumWords l
  let y := x % 65536 + x / 65536
  let y := y % 65536 + y / 65536
  if y = 65535 then 65535 else 65535 - y

/-- A UDP datagram (source port, destination port, payload) with its checksum over the pseudo header of its addresses. -/
def udpOf (addrs : List Nat) (sp dp : Nat) (l : List Nat) : List Nat :=
  let n := l.length + 8
  let head (c : Nat) : List Nat := be 2 sp ++ be 2 dp ++ be 2 n ++ be 2 c
  head (inetSum (addrs ++ be 2 17 ++ be 4 n ++ head 0 ++ l)) ++ l

/-- An IPv6 packet that carries a UDP datagram (R1, R445). -/
def ip6Packet (flow hops src dst sp dp : Nat) (l : List Nat) : List Nat :=
  let addrs := be 16 src ++ be 16 dst
  be 4 (6 * 2 ^ 28 + flow % 2 ^ 28) ++ be 2 (l.length + 8) ++ [17, hops % 256] ++ addrs ++ udpOf addrs sp dp l

/-- The addresses (source, destination), ports and payload of an IPv6 packet that carries a UDP datagram with a good checksum. -/
def ip6Read (p : List Nat) : Option ((Nat × Nat) × (Nat × Nat) × List Nat) :=
  let n := octBe p 4 2
  let d := (p.drop 40).take n
  if p.getD 0 0 / 16 ≠ 6 ∨ p.getD 6 0 ≠ 17 ∨ n < 8 ∨ p.length < 40 + n then none
  else if udpOf ((p.drop 8).take 32) (octBe d 0 2) (octBe d 2 2) (d.drop 8) ≠ d then none
  else some ((octBe p 8 16, octBe p 24 16), (octBe d 0 2, octBe d 2 2), d.drop 8)

/-- A frame's payload with the PRP redundancy control trailer: sequence number, LAN (0 A, 1 B) and size, and the suffix (R472, IEC 62439-3). -/
def withRct (seq lan : Nat) (l : List Nat) : List Nat := l ++ be 2 (seq % 65536) ++ be 2 ((0xA + lan) * 4096 + (l.length + 6) % 4096) ++ be 2 0x88FB

/-! ### PTP messages (R42, R43) -/

/-- The transport of a PTP message (0 IEEE 802.3, 1 UDP over IPv4, 2 UDP over IPv6) and the offset of its header in an Ethernet frame. -/
def ptpAt (f : List Nat) : Option (Nat × Nat) :=
  let port (o : Nat) : Bool := octBe f o 2 == 319 || octBe f o 2 == 320
  let v4 := 14 + f.getD 14 0 % 16 * 4
  match octBe f 12 2 with
  | 0x88F7 => some (0, 14)
  | 0x0800 => if f.getD 23 0 = 17 && port (v4 + 2) then some (1, v4 + 8) else none
  | 0x86DD => if f.getD 20 0 = 17 && port 56 then some (2, 62) else none
  | _ => none

/-- Where the PTP header of a message begins. -/
def hdrOf (m : PtpMsg) : Nat := ((ptpAt m.frame).map (·.2)).getD 0

/-- The kind of a message, by its messageType. -/
def ptpKind (m : PtpMsg) : PtpKind :=
  match m.frame.getD (hdrOf m) 0 % 16 with
  | 0 => .sync
  | 1 => .delayReq
  | 2 => .pdelayReq
  | 3 => .pdelayResp
  | 8 => .followUp
  | 9 => .delayResp
  | _ => .other

/-- The domain of a message. -/
def ptpDomain (m : PtpMsg) : Nat := m.frame.getD (hdrOf m + 4) 0

/-- twoStepFlag. -/
def ptpTwoStep (m : PtpMsg) : Bool := bit (m.frame.getD (hdrOf m + 6) 0) 1

/-- correctionField, in 2^-16 ns. -/
def ptpCorr (m : PtpMsg) : Int := toInt 64 (octBe m.frame (hdrOf m + 8) 8)

/-- sourcePortIdentity. -/
def ptpSource (m : PtpMsg) : Nat := octBe m.frame (hdrOf m + 20) 10

/-- sequenceId. -/
def ptpSeq (m : PtpMsg) : Nat := octBe m.frame (hdrOf m + 30) 2

/-- The frame with another correctionField, its UDP checksum and frame check sequence computed anew (R43). -/
def ptpOut (m : PtpMsg) (corr : Int) : List Nat :=
  let f := overlay m.frame [(hdrOf m + 8, be 8 (ofInt 64 corr))]
  let f := match ptpAt m.frame with
    | some (1, o) => f.take (o - 8) ++ udpOf ((f.drop 26).take 8) (octBe f (o - 8) 2) (octBe f (o - 6) 2) (f.drop o)
    | some (2, o) => f.take (o - 8) ++ udpOf ((f.drop 22).take 32) (octBe f (o - 8) 2) (octBe f (o - 6) 2) (f.drop o)
    | _ => f
  f ++ ethFcs f

end Sys2Proof.Machine
end

