-- ==== Sys2Proof/Machine/Slots.lean ====
section
/-!
DEFINITION. What securing needs before any frame is built: the nonce (R345), the slot tree's checks (R334, R339 to R341), and the tokens
of shapers (R311).
-/

namespace Sys2Proof.Machine

/-- A string brought to n octets. -/
def fix (n : Nat) (l : List Nat) : List Nat := (List.range n).map fun i => l.getD i 0 % 256

/-- MIC octets of a security level (R345). -/
def micLen (level : Nat) : Nat := [0, 4, 8, 16, 0, 4, 8, 16].getD level 0

/-- The 13-octet nonce (R345). -/
def nonceOf (eui counter level : Nat) : List Nat := be 8 eui ++ be 4 counter ++ [level]

/-- No parent: the Rootstock. -/
def rootSlot : Nat := 0x3FF

/-- Octets of material by TYPE. -/
def matLen (type : Nat) : Nat := if type = 0 then 16 else 32

/-- The material of a slot. -/
def State.material (s : State) (n : Nat) : List Nat := be (matLen (s.get KSLOT.META_TYPE n)) (s.get KSX.MAT n)

/-- Whether keys operate: LIFE is ROOTED or CERTIFIED. -/
def State.rooted (s : State) : Bool := s.get OTP.LIFE == 1 || s.get OTP.LIFE == 2

/-- Whether every ancestor of slot n, over at most `fuel` levels, is VALID with the GEN its child recorded (R339). -/
def State.graftOk (s : State) : Nat → Nat → Bool
  | 0, _ => false
  | fuel + 1, n =>
    let p := s.get KSLOT.META_PARENT n
    p == rootSlot || (s.get KSLOT.META_STATE p == 1 && s.get KSLOT.GEN_GEN p == s.get KSLOT.GEN_PARENT_GEN n && s.graftOk fuel p)

/-- The check an operation makes of its slot and its ancestors: 0, KEY_INVALID or KEY_ORPHANED (R334, R339, R341). -/
def State.slotCode (s : State) (n : Nat) : Nat :=
  let st := s.get KSLOT.META_STATE n
  if !s.rooted || 1024 ≤ n || st == 0 || st == 3 then 0x09
  else if st = 2 ∨ !s.graftOk 7 n then 0x0A
  else 0

/-- Units of 2^-24. -/
def unit24 : Nat := 2 ^ 24

/-- The token count of shaper n at this instant, refilled (R311). -/
def State.shTokens (s : State) (n : Nat) : Int :=
  min ((s.get SHP.BURST n * unit24 : Nat) : Int)
    (s.getI SHP.T n + ((s.get SHP.RATE n * (s.mp - s.get SHP.PREV n) : Nat) : Int))

/-- Whether shaper n permits a release (R311). -/
def State.shPermits (s : State) (n : Nat) : Bool := !s.on SHAPER.CFG_EN n || decide (0 ≤ s.shTokens n)

end Sys2Proof.Machine
end

