-- ==== Sys2Proof/Machine/Report.lean ====
section
/-!
DEFINITION. What the part reports and where: Scorepad records into the writer's queue (R542 to R548), completions,
events and their backlogs (R437 to R439), entries in host rings with their interrupts (R427 to R430), and Tunnel
messages (R445 to R447).
-/

namespace Sys2Proof.Machine

/-! ### Scorepad records -/

/-- The calendar as eight octets in register order (R542). -/
def State.calOctets (s : State) : List Nat :=
  [s.get RTC.SEC, s.get RTC.MIN, s.get RTC.HOUR, s.get RTC.WDAY,
   s.get RTC.DATE, s.get RTC.MONTH, s.get RTC.YEAR, s.get RTC.CENTURY]

/-- A binary-coded octet as a number. -/
def unbcd (v : Nat) : Nat := v / 16 * 10 + v % 16

/-- A number below 100 in binary-coded decimal. -/
def bcd (v : Nat) : Nat := v / 10 * 16 + v % 10

/-- Days before a date of the Gregorian calendar, counted from the first of March of year 0. -/
def dayNumber (y m d : Nat) : Nat :=
  let y' := if m ≤ 2 then y - 1 else y
  let m' := if m ≤ 2 then m + 9 else m - 3
  365 * y' + y' / 4 - y' / 100 + y' / 400 + (153 * m' + 2) / 5 + d - 1

/-- Seconds of eight calendar octets (SEC, MIN, HOUR, WDAY, DATE, MONTH, YEAR, CENTURY), from the same origin. -/
def calSecondsOf (l : List Nat) : Nat :=
  let g (i : Nat) := unbcd (l.getD i 0)
  ((dayNumber (g 7 * 100 + g 6) (g 5) (g 4) * 24 + g 2) * 60 + g 1) * 60 + g 0

/-- Seconds of the calendar now. -/
def State.calSeconds (s : State) : Nat := calSecondsOf s.calOctets

/-- The token bucket of ACTION 0 records, refilled to now: 1,000 a second, depth 4,096 (R548); after a backward
step no time has passed. -/
def State.scpRefill (s : State) : State :=
  let now := s.mp
  let t := min (4096 * 2 ^ 24) (s.get SCPX.TOK + (now - s.get SCPX.TOK_AT) * 1000)
  (s.put SCPX.TOK 0 t).put SCPX.TOK_AT 0 now

/-- Put a record among others by its CODE, after those of the same (R547). -/
def scpPlace (r : SRec) : List SRec → List SRec
  | [] => [r]
  | x :: t => if r.code < x.code then r :: x :: t else x :: scpPlace r t

/-- Put a record into the writer's queue of 256, or count it lost: faults raised in one cycle stand in ascending CODE (R547). -/
def State.scpQueue (s : State) (r : SRec) : State :=
  if s.scpQ.length < 256 then
    let run := if r.kind = 1 ∧ s.get SCPX.CYC = s.get CLK.CYC then s.get SCPX.RUN else 0
    let k := s.scpQ.length - run
    (({ s with scpQ := s.scpQ.take k ++ scpPlace r (s.scpQ.drop k) }.put SCP.QUEUE 0 (s.scpQ.length + 1)).put SCPX.CYC 0 (s.get CLK.CYC)).put
      SCPX.RUN 0 (if r.kind = 1 then run + 1 else 0)
  else ((s.bump SCP.LOST_CNT).bump SCPX.LOST_UNREP).set SCP.EVENT_LOST

/-- Raise a record (R547): nothing while the Scorepad is out of service (R544); an ACTION 0 record takes a token
or is suppressed (R548). -/
def State.scpRaise (s : State) (r : SRec) : State :=
  if s.on FLT.STATUS_SCP_OUT then s
  else if r.action = 0 then
    let s := s.scpRefill
    if 2 ^ 24 ≤ s.get SCPX.TOK then (s.drop SCPX.TOK 0 (2 ^ 24)).scpQueue r
    else
      let k := s.get SCPX.SUP_UNREP
      ((s.bump SCP.SUPPRESSED_CNT).bump SCPX.SUP_UNREP).putIf (k < 2) SCPX.SUP_CODE k r.code
  else s.scpQueue r

/-- FLAGS of a record raised now, about a Hedge or none (R542). -/
def State.scpFlags (s : State) (hedge : Option Nat) (injected : Bool) : Nat :=
  (if s.on RTC.STATUS_OSC_STOPPED then 0 else 1) + (if s.get TIME.SRC_STATUS_STATE = 0 then 0 else 2)
    + (match hedge with | some h => 4 + 8 * (h % 8) | none => 0) + (if injected then 0x80 else 0)

/-- A record of a kind and code raised now, stamped with Mesh Phase and the calendar. -/
def State.record (s : State) (kind code unit action : Nat) (hedge : Option Nat) (addr count : Nat)
    (detail : List (Nat × List Nat)) (injected : Bool := false) : State :=
  s.scpRaise ⟨kind, code, s.mp, s.calOctets, unit, action, s.scpFlags hedge injected, addr, count,
    layout 12 detail⟩

/-! ### Rings -/

/-- The store instance of ring r of port i. -/
def rix (i r : Nat) : Nat := 128 * i + r

/-- The enable bit of ring r (0 CMD, 1 CPL, 2 EV, 3 RX). -/
def ringEn : Nat → Fld
  | 0 => HOSTH.CTL_CMD_EN
  | 1 => HOSTH.CTL_CPL_EN
  | 2 => HOSTH.CTL_EV_EN
  | _ => HOSTH.CTL_RX_EN

/-- Whether ring r of port i is written or read now: enabled, bus master on, not in reset (R426, R427, R448). -/
def State.ringUp (s : State) (i r : Nat) : Bool :=
  s.on (ringEn r) i && s.on HOSTH.STATUS_BM i && !s.on HOSTH.STATUS_IN_RESET i
    && (i == 8 || s.get HBIND.CTL_ATTACH i == 1)

/-- The entries a ring holds: PROD − CONS modulo 2^32. -/
def State.ringHeld (s : State) (i r : Nat) : Nat :=
  (s.get HOSTH.RING_PROD (rix i r) + 2 ^ 32 - s.get HOSTH.RING_CONS (rix i r)) % 2 ^ 32

/-- 2^SIZE. -/
def State.ringSize (s : State) (i r : Nat) : Nat := 2 ^ s.get HOSTH.RING_SIZE (rix i r)

/-- Whether a ring has room for one more entry. -/
def State.ringRoom (s : State) (i r : Nat) : Bool := s.ringHeld i r < s.ringSize i r

/-- The host address of entry index x of a ring (R427). -/
def State.ringAddr (s : State) (i r x : Nat) : Nat :=
  s.get HOSTH.RING_BASE (rix i r) + 64 * (x % s.ringSize i r)

/-- The key of an address of port i's host memory. -/
def hostKey (i a : Nat) : Nat := i * 2 ^ 64 + a % 2 ^ 64

/-- ATTACH of Hedge h's binding in force: a new one takes effect when its Hedge reset ends (R424). -/
def State.attach (s : State) (h : Nat) : Nat := if s.on HST.REBIND h then s.get HST.OLD_ATTACH h else s.get HBIND.CTL_ATTACH h

/-- FN of Hedge h's binding in force. -/
def State.boundFn (s : State) (h : Nat) : Nat := if s.on HST.REBIND h then s.get HST.OLD_FN h else s.get HBIND.CTL_FN h

/-- Write octets into port i's host memory. -/
def State.hostWrite (s : State) (i a : Nat) (l : List Nat) : State :=
  { s with mem.host := memWriteL s.mem.host (hostKey i a) l }

/-- Read octets of port i's host memory. -/
def State.hostRead (s : State) (i a n : Nat) : List Nat := memReadL s.mem.host (hostKey i a) n

/-- Count a pending entry on an MSI-X vector and signal it when IRQ.COUNT entries are pending, or at once (R430).
An IRQ.COUNT of 0 acts as 1. -/
def State.irq (s : State) (i v : Nat) (now : Bool := false) : State :=
  let s := s.putIf (s.get HST.IRQ_PEND (4 * i + v) == 0) HST.IRQ_AT (4 * i + v) s.mp
  let s := s.bump HST.IRQ_PEND (4 * i + v)
  if now || v == 3 || max 1 (s.get HOSTH.IRQ_COUNT i) ≤ s.get HST.IRQ_PEND (4 * i + v) then
    (s.bump HST.MSIX_CNT (4 * i + v)).clr HST.IRQ_PEND (4 * i + v)
  else s

/-- Publish the part's index of a ring at SHADOW, when SHADOW is non-zero (R429). -/
def State.shadow (s : State) (i r v : Nat) : State :=
  let a := s.get HOSTH.RING_SHADOW (rix i r)
  if a = 0 then s else s.hostWrite i a (le 4 v)

/-- Write one entry of the CPL or EV ring whole, with its PHASE, then the index, then the interrupt (R429). -/
def State.ringWrite (s : State) (i r : Nat) (octets : List Nat) (now : Bool := false) : State :=
  let p := s.get HOSTH.RING_PROD (rix i r)
  let phase := if p / s.ringSize i r % 2 = 0 then 0x80 else 0
  let e := overlay octets [(0, [octets.getD 0 0 % 128 + phase])]
  let s := (s.hostWrite i (s.ringAddr i r p) e).put HOSTH.RING_PROD (rix i r) (p + 1)
  (s.shadow i r (s.get HOSTH.RING_PROD (rix i r))).irq i (r - 1) now

/-! ### The FIFO fabric (R318 to R321) -/

/-- Whether a hardware FIFO takes an entry now; a full one drops it and counts it (R319), a frozen one takes and
discards it (R321). -/
def State.hwIn (s : State) (f : Nat) : Bool × State :=
  if s.on FIFO.STATUS_FROZEN f then (false, s)
  else if s.get FIFO.DEPTH f ≤ s.get FIFO.STATUS_LEVEL f then
    (false, (s.bump FIFO.DROP_CNT f).set FIFO.EVENT_DROP f)
  else
    let l := s.get FIFO.STATUS_LEVEL f + 1
    (true, (s.put FIFO.STATUS_LEVEL f l).put FIFO.HWM f (max l (s.get FIFO.HWM f)))

/-- An entry leaves a FIFO whose entries the model holds as records. -/
def State.hwOut (s : State) (f : Nat) (k : Nat := 1) : State := s.drop FIFO.STATUS_LEVEL f k

/-- Octets of one entry: 16, 32 or 64 (R331). -/
def State.fifoEsize (s : State) (f : Nat) : Nat := 16 * 2 ^ s.get FIFO.CFG_ESIZE f

/-- The chip SRAM offset of the entry a pointer names. -/
def State.fifoSlot (s : State) (f p : Nat) : Nat :=
  s.get FIFO.BASE f + s.fifoEsize f * (p % max 1 (s.get FIFO.DEPTH f))

/-- Whether a FIFO kept in chip SRAM takes an entry: it has room, or it is frozen, when writes complete and are discarded
(R321). -/
def State.fifoRoom (s : State) (f : Nat) : Bool :=
  s.on FIFO.CFG_EN f && (s.on FIFO.STATUS_FROZEN f || s.get FIFO.STATUS_LEVEL f < s.get FIFO.DEPTH f)

/-- Write a tail entry into chip SRAM and move the write pointer; a frozen FIFO discards it. -/
def State.fifoPush (s : State) (f : Nat) (octets : List Nat) : State :=
  if s.on FIFO.STATUS_FROZEN f then s else
  let wr := s.get FIFOX.WR f
  let l := s.get FIFO.STATUS_LEVEL f + 1
  let s := { s with mem.sram := memWriteL s.mem.sram (s.fifoSlot f wr) (octets.take (s.fifoEsize f)) }
  ((s.put FIFOX.WR f (wr + 1)).put FIFO.STATUS_LEVEL f l).put FIFO.HWM f (max l (s.get FIFO.HWM f))

/-- The head entry's octets. -/
def State.fifoHead (s : State) (f : Nat) : List Nat :=
  memReadL s.mem.sram (s.fifoSlot f (s.get FIFOX.RD f)) (s.fifoEsize f)

/-- Move the read pointer past the head entry. -/
def State.fifoPop (s : State) (f : Nat) : State :=
  (s.bump FIFOX.RD f).drop FIFO.STATUS_LEVEL f

/-! ### Tunnel messages (R445 to R447) -/

/-- Whether Hedge h's Tunnel carries messages: attached to it, up, out of reset (R446). -/
def State.tunUp (s : State) (h : Nat) : Bool :=
  s.get HBIND.CTL_ATTACH h == 2 && s.on HBIND.STATUS_UP h && !s.on HOSTH.STATUS_IN_RESET h

/-- Messages of h sent and not acknowledged. -/
def State.tunHeld (s : State) (h : Nat) : Nat := (s.tunQ.filter (·.hedge == h)).length

/-- Whether slot n carries a Tunnel's messages of one direction: an AES slot of h in order, with the use the direction needs (R338, R447). -/
def State.tunSlot (s : State) (h n use : Nat) : Bool :=
  s.slotCode n == 0 && s.get KSLOT.META_OWNER n == h && s.get KSLOT.META_USE n == use && decide (s.get KSLOT.META_TYPE n < 2)

/-- Whether a message of h can be sent as TUN_SEC asks: with a key and a NONCE_CNT not used before (R447). -/
def State.tunCan (s : State) (h : Nat) : Bool :=
  !s.on HBIND.CTL_TUN_SEC h || (s.tunSlot h (s.get HBIND.KEYS_TUN_TX_KEY h) 0 && s.get TUN.NONCE h != 2 ^ 32 - 1)

/-- OWN_IP6 of a binding. -/
def State.ownIp (s : State) (h : Nat) : Nat :=
  ((s.get HBIND.OWN_IP6_W0 h * 2 ^ 32 + s.get HBIND.OWN_IP6_W1 h) * 2 ^ 32 + s.get HBIND.OWN_IP6_W2 h) * 2 ^ 32 + s.get HBIND.OWN_IP6_W3 h

/-- PEER_IP6 of a binding. -/
def State.peerIp (s : State) (h : Nat) : Nat :=
  ((s.get HBIND.PEER_IP6_W0 h * 2 ^ 32 + s.get HBIND.PEER_IP6_W1 h) * 2 ^ 32 + s.get HBIND.PEER_IP6_W2 h) * 2 ^ 32 + s.get HBIND.PEER_IP6_W3 h

/-- Send the octets of a Tunnel message in UDP over IPv6 (R1, R445), under PRP on both ports with the trailer (R472). Traffic class, flow label
and hop limit are left open (assumption log 3). -/
def State.tunWire (s : State) (h : Nat) (l : List Nat) : State :=
  let (flow, s) := s.draw
  let (hops, s) := s.draw
  let p := ip6Packet flow hops (s.ownIp h) (s.peerIp h) (s.get HBIND.PORTS_LOCAL_PORT h) (s.get HBIND.PORTS_PEER_PORT h) l
  let mac := s.get HBIND.NEXT_MAC h
  if s.on PRP.CTL_EN && s.get HBIND.CTL_ETH_PORT h < 2 then
    let n := s.get PRPX.SEQ
    { s with wire := s.wire ++ [(.tunnel h 0 mac (withRct n 0 p) : Wire), .tunnel h 1 mac (withRct n 1 p)] }.bump PRPX.SEQ
  else { s with wire := s.wire ++ [.tunnel h (s.get HBIND.CTL_ETH_PORT h) mac p] }

/-- Put one message on the wire: the header with the SEQ received so far, the entries, the data, and, secured, the MIC under the next
NONCE_CNT, whose ceiling in MRAM goes up before it is reached (R347, R445, R447). -/
def State.tunEmit (s : State) (h kind seq : Nat) (entries data : List Nat) : State :=
  if !s.tunCan h then s else
  let sec := s.on HBIND.CTL_TUN_SEC h
  let c := if sec then s.get TUN.NONCE h else 0
  let body := entries ++ data
  let head := [1, kind, h, entries.length / 64] ++ le 4 seq ++ le 4 (s.get TUN.RX_SEQ h) ++ le 2 body.length
    ++ le 2 (s.get HBIND.STATUS_SESSION h) ++ le 4 c
  let body := if sec then
      fix (body.length + 16) (Config.ccmSeal 7 (s.material (s.get HBIND.KEYS_TUN_TX_KEY h)) (nonceOf (s.get SYS.EUI64) c 7) head body)
    else body
  let s := s.when (sec && decide (s.get TUN.CEIL h ≤ c)) (·.put TUN.CEIL h (min (2 ^ 32 - 1) (c + 1024)))
  let s := (s.when sec (·.put TUN.NONCE h (c + 1))).put TUN.SENT_AT h s.mp
  s.tunWire h (head ++ body)

/-- Send a numbered message (R446): it takes the next SEQ and is held until the host acknowledges it. -/
def State.tunSend (s : State) (h kind : Nat) (entries data : List Nat) : State :=
  let seq := s.get TUN.TX_SEQ h + 1
  let s := s.put TUN.TX_SEQ h seq
  { s with tunQ := s.tunQ ++ [(⟨h, kind, seq, entries, data, 0, s.mp⟩ : TunMsg)] }.tunEmit h kind seq entries data

/-- Whether a further message may go out: 256 unacknowledged at most (R446). -/
def State.tunRoom (s : State) (h : Nat) : Bool := s.tunUp h && s.tunCan h && decide (s.tunHeld h < 256)

/-- Octets of an IPv6 packet with one Tunnel message of n octets after the Tunnel header (R445, R447). -/
def State.tunPacket (s : State) (h n : Nat) : Nat := 40 + 8 + 20 + n + if s.on HBIND.CTL_TUN_SEC h then 16 else 0

/-! ### Completions -/

/-- The started command a completion is for. -/
def State.startedOf (s : State) (c : Cmd) : Option Started :=
  s.started.find? fun x => x.ring == c.ring && x.index == c.index && x.tag == c.tag

/-- A command is finally completed: it leaves the ledger, OUTSTANDING.NOW and its administrative place (R433, R443, R451). -/
def State.unstart (s : State) (c : Cmd) : State :=
  match s.startedOf c with
  | none => s
  | some x =>
    ({ s with started := s.started.erase x }.drop HOSTH.OUTSTANDING_NOW c.ring).when x.steward (·.drop HOSTH.ADMIN_LEVEL c.ring)

/-- Change the ledger's entry of a command. -/
def State.restart (s : State) (c : Cmd) (f : Started → Started) : State :=
  match s.startedOf c with
  | none => s
  | some x => { s with started := s.started.map fun y => if y = x then f x else y }

/-- Whether the Steward runs a command (R444). -/
def State.isRunning (s : State) (ring tag index : Nat) : Bool :=
  s.get HST.RUN_OP ring != 0 && s.get HST.RUN_TAG ring == tag && s.get HST.RUN_IDX ring == index

/-- The Steward is done with a command; its service time joins the last 16 of its ring (R443). -/
def State.served (s : State) (c : Cmd) : State :=
  if s.isRunning c.ring c.tag c.index then
    let mine := s.svcTimes.filter (·.1 == c.ring) ++ [(c.ring, ticksUs (s.mp - s.get HST.RUN_AT c.ring))]
    let rest := s.svcTimes.filter (·.1 != c.ring)
    { s with svcTimes := rest ++ mine.drop (mine.length - 16) }.clr HST.RUN_OP c.ring
  else s

/-- The FIFO that brings Hedge h's programs their completions and events (R378, R392). -/
def progFifo (h : Nat) : Nat := 1025 + 128 * h

/-- Post octets to Hedge h's programs: into F(1025 + 128h), with NOTICE set in its program threads (R380). -/
def State.toProg (s : State) (h : Nat) (octets : List Nat) : State :=
  let s := s.fifoPush (progFifo h) octets
  s.each [0, 1, 2, 3, 4, 5] fun s k =>
    let g := 4 * (112 + 2 * h + k / 3) + 1 + k % 3
    s.put THR.EVPEND g (Nat.lor (s.get THR.EVPEND g) (2 ^ 20))

/-- Whether the CPL ring, the Tunnel, or the FIFO of the programs takes a completion now. -/
def State.cplReady (s : State) (ring : Nat) : Bool :=
  if 16 ≤ ring then s.fifoRoom (progFifo (ring - 16))
  else (s.ringUp ring 1 && s.ringRoom ring 1) || (ring != 8 && s.tunRoom ring)

/-- Write one completion: the result data, the entry, the index, the interrupt (R429); or the Tunnel's message; or the programs' FIFO
entry (R392). With a final completion the command is completed, in the Tunnel once its message is acknowledged (R451). -/
def State.cplOut (s : State) (x : CplWait) : State :=
  let h := x.ring % 16
  let c : Cmd := ⟨h, oct x.octets 4 4, oct x.octets 8 4, false⟩
  let fin := x.own && bit (x.octets.getD 3 0) 0
  if x.ring = h ∧ h ≠ 8 ∧ s.get HBIND.CTL_ATTACH h = 2 then
    (s.when fin (·.restart c fun y => { y with sent := true })).tunSend h 3 x.octets x.data
  else
    let s := if x.data = [] then s else s.hostWrite h x.addr x.data
    let s := if 16 ≤ x.ring then s.toProg h x.octets else s.ringWrite h 1 x.octets (x.trump && s.on HOSTH.CTL_TRUMP_NOW h)
    s.when fin (·.unstart c)

/-- Write a completion, or let it wait behind those that wait (R437, R439). -/
def State.cplPost (s : State) (x : CplWait) : State :=
  if s.cplReady x.ring && !s.cplQ.any (·.ring == x.ring) then s.cplOut x else { s with cplQ := s.cplQ ++ [x] }

/-- Write the completions that wait, in order, as far as they are taken. -/
def State.cplDrain (s : State) (ring : Nat) : State :=
  s.each (s.cplQ.filter (·.ring == ring)) fun s x => if s.cplReady ring then { s with cplQ := s.cplQ.erase x }.cplOut x else s

/-- The octets a command's address names: host memory, or for a Tunnel command its message's data area (R435, R445). -/
def State.cmdData (s : State) (c : Cmd) (addr n : Nat) : List Nat :=
  if c.ring != 8 && c.index != 0xFFFFFFFF && s.attach c.ring == 2 then
    match s.startedOf c with
    | some x => (List.range n).map fun i => (x.data.drop addr).getD i 0
    | none => List.replicate n 0
  else s.hostRead c.ring addr n

/-- Where a command completes: its port, or the programs of its Hedge. -/
def cplRing (c : Cmd) : Nat := if c.index = 0xFFFFFFFF ∧ c.ring < 8 then 16 + c.ring else c.ring

/-- A completion of a command (R437); a command handed over to the partner at a switch is reported there (R456). A command a program posted completes to the program (R392). While the Hedge is in reset the one command
that can still end is the Steward command that was running, whose code HEDGE_RESET_DONE reports (R449). -/
def State.complete (s : State) (c : Cmd) (opcode status flags retry : Nat)
    (result : List (Nat × List Nat)) (trump : Bool := false) (addr : Nat := 0) (data : List Nat := []) : State :=
  let e := layout 64 ([(0, [1, status, opcode, flags + (if status = 1 then 0 else 1)]), (4, le 4 c.tag),
    (8, le 4 c.index), (12, le 4 retry), (16, le 8 s.mp)] ++ result)
  if s.on HOSTH.STATUS_IN_RESET c.ring then
    if status ≠ 1 ∧ s.isRunning c.ring c.tag c.index then
      ((s.unstart c).put HST.RUN_CODE c.ring status).set HST.RUN_END c.ring
    else s
  else
    let s := if status = 1 then s else s.served c
    if s.handed.contains (c.ring, c.tag, c.index) then
      { s with handed := if status = 1 then s.handed else s.handed.erase (c.ring, c.tag, c.index) }
    else s.cplPost ⟨cplRing c, trump, e, addr, data, true⟩

/-- A final completion with a status and no result. -/
def State.finish (s : State) (c : Cmd) (opcode status : Nat) : State := s.complete c opcode status 0 0 []

/-- A command that may end with BUSY_RETRY is taken: it reports ACCEPTED where that was asked (R8, R432). -/
def State.accepted (s : State) (c : Cmd) (opcode : Nat) : State := if c.want then s.finish c opcode 0x01 else s

/-- A final DONE with result data, for host memory or for the Tunnel's completion message, where a result that does not fit ends the
command with BAD_DESCRIPTOR (R445). -/
def State.answer (s : State) (c : Cmd) (opcode addr : Nat) (l : List Nat) (result : List (Nat × List Nat) := []) : State :=
  if c.ring != 8 && c.index != 0xFFFFFFFF && s.attach c.ring == 2 && s.get HOSTG.TUN_MTU < s.tunPacket c.ring (64 + l.length)
  then s.finish c opcode 0x12
  else s.complete c opcode 0 0 0 result false addr l

/-! ### Events -/

/-- The 64 octets of an event (R438). -/
def EvWait.octets (e : EvWait) : List Nat :=
  layout 64 [(0, [2, e.code]), (4, le 4 e.seq), (8, le 8 e.phase), (16, e.body.take 48)]

/-- Whether an event can leave now. -/
def State.evOpen (s : State) (h : Nat) : Bool :=
  (s.ringUp h 2 && s.ringRoom h 2) || (h != 8 && s.tunRoom h)

/-- An event has been written to its EV ring or acknowledged in the Tunnel: the calendar trigger it reports is PENDING, or missed, no
longer (R529, R531). -/
def State.calTold (s : State) (l : List Nat) : State :=
  let seq := oct l 4 4
  if oct l 1 1 = 0x0E ∧ 0x40 ≤ oct l 16 1 then
    let n := oct l 16 1 - 0x40
    if s.on CTX.POSTED n ∧ s.get CTX.SEQ n = seq then (s.clr CTX.POSTED n).clr RTC.CTRIG_CTL_PENDING n else s
  else if oct l 1 1 = 0x10 then
    s.each (List.range (oct l 18 1)) fun s i =>
      let n := oct l (20 + 10 * i) 1
      if s.on CTX.MPOST n ∧ s.get CTX.MSEQ n = seq then
        ((s.clr CTX.MPOST n).clr RTC.CTRIG_MISS_CNT n).clr RTC.CTRIG_MISS_FIRST_LO n |>.clr RTC.CTRIG_MISS_FIRST_HI n
      else s
  else s

/-- Messages of Hedge h's Tunnel are given up: what they reported of the calendar is to be posted again. -/
def State.calAgain (s : State) (h : Nat) : State :=
  s.each (List.range 16) fun s n => if s.get RTC.CTRIG_CTL_OWNER n = h then (s.clr CTX.POSTED n).clr CTX.MPOST n else s

/-- Hand one event to the EV ring or the Tunnel. -/
def State.evOut (s : State) (e : EvWait) : State :=
  if e.hedge != 8 && s.get HBIND.CTL_ATTACH e.hedge == 2 then s.tunSend e.hedge 4 e.octets []
  else (s.ringWrite e.hedge 2 e.octets).calTold e.octets

/-- Events waiting for a Hedge. -/
def State.evHeld (s : State) (h : Nat) : Nat := (s.evQ.filter (·.hedge == h)).length

/-- Post an event (R438, R439): into the ring, or behind the backlog of 1,024, or dropped and counted. -/
def State.event (s : State) (h code : Nat) (body : List (Nat × List Nat)) : State :=
  let e : EvWait := ⟨h, code, s.get HST.EV_SEQ h, s.mp, layout 48 (body.map fun p => (p.1 - 16, p.2))⟩
  let s := s.bump HST.EV_SEQ h
  if s.evHeld h = 0 && s.get HST.EV_UNREP h = 0 && s.evOpen h then s.evOut e
  else if s.evHeld h < 1024 then { s with evQ := s.evQ ++ [e] }
  else (s.bump HOSTH.EV_LOST h).bump HST.EV_UNREP h

/-! ### The Twin (R457 to R461) -/

/-- Whether the part is the standby of a pair (R457). -/
def State.standby (s : State) : Bool := s.get TWIN.STATUS_ROLE == 2

/-- Send a message on the Twin link, while it is trained (R459). -/
def State.twinSend (s : State) (m : TwinMsg) : State :=
  if s.on TWIN.CFG_EN && s.get TWIN.STATUS_LANES != 0 then { s with wire := s.wire ++ [.twin m] } else s

/-- Post ROLE_CHANGED to every port (R438, R457). -/
def State.roleTold (s : State) (cause : Nat) : State :=
  s.each [0, 1, 2, 3, 4, 5, 6, 7, 8] fun s i => s.event i 0x15 [(16, [s.get TWIN.STATUS_ROLE]), (17, [cause])]

/-- An active part whose own faults or core reset end its role tells its partner, and is the standby then (R463, R471); without a partner on
the link its role stays. The change is reported now, or, `later`, at the end of the core reset. -/
def State.twinDemote (s : State) (later : Bool) : State :=
  if s.get TWIN.STATUS_ROLE = 1 ∧ s.on TWIN.STATUS_LINK_UP then
    let s := ((s.twinSend (.demote 5)).put TWIN.STATUS_ROLE 0 2).clr TWIN.STATUS_SYNCED
    if later then s.put TWINX.TOLD 0 6 else s.roleTold 5
  else s

/-! ### Frames for the host (R442) -/

/-- Octets of Hedge h's receive backlog. -/
def State.rxHeld (s : State) (h : Nat) : Nat := ((s.rxQ.filter (·.hedge == h)).map (·.payload.length)).sum

/-- Keep BACKLOG_NOW equal to the octets that wait. -/
def State.rxShow (s : State) (h : Nat) : State := s.put HOSTH.BACKLOG_NOW h (s.rxHeld h)

/-- Whether a frame of Hedge h need not wait: the ring or the Tunnel takes frames, and the egress shaper permits (R312, R442). -/
def State.rxOpen (s : State) (h : Nat) : Bool := (s.ringUp h 3 || s.tunRoom h) && s.shPermits (52 + h)

/-- A frame is handed to Hedge h's backlog (R442): dropped beyond BACKLOG_MAX, and, while UPLINK_HOLD is 0, when it would have to
wait. -/
def State.rxIn (s : State) (x : RxFrame) : State :=
  let h := x.hedge
  if s.get HOSTH.BACKLOG_MAX h < s.rxHeld h + x.payload.length then (s.bump HOSTH.RX_BACKLOG_DROP h).bump HST.RX_BACK_REP h
  else if s.get HOSTH.UPLINK_HOLD h = 0 ∧ ¬ (s.rxOpen h ∧ ¬ s.rxQ.any (·.hedge == h)) then (s.bump HOSTH.RX_HOLD_DROP h).bump HST.RX_HOLD_REP h
  else { s with rxQ := s.rxQ ++ [x] }.rxShow h

end Sys2Proof.Machine
end

