-- ==== Sys2Proof/Machine/Chain.lean ====
section
/-!
DEFINITION. What several rules do to a transmit chain: its request and result FIFOs (R176, R177), the mute causes
(R187), and the end of a frame (R170, R171).
-/

namespace Sys2Proof.Machine

/-- The states of R169. -/
def chOff : Nat := 0
def chMuted : Nat := 1
def chStandby : Nat := 2
def chReady : Nat := 3
def chTx : Nat := 4

/-- The chain's requests, oldest first. -/
def State.reqs (s : State) (c : Nat) : List TxReq := s.txReq.filter (·.chain == c)

/-- The request at the head of the chain's FIFO; while that is frozen, only one the chain has taken before (R321). -/
def State.headReq (s : State) (c : Nat) : Option TxReq :=
  if s.on FIFO.STATUS_FROZEN (48 + c) && !s.on CHN.CHECKED c then none else s.txReq.find? (·.chain == c)

/-- Keep STATUS.FIFO_LEVEL and the level of F(48 + c) equal to the requests waiting. -/
def State.reqLevel (s : State) (c : Nat) : State :=
  let n := (s.reqs c).length
  (s.put TXC.STATUS_FIFO_LEVEL c n).put FIFO.STATUS_LEVEL (48 + c) n

/-- Write one result into the chain's result FIFO, F(52 + c). -/
def State.pushRes (s : State) (r : TxRes) : State :=
  let (ok, s) := s.hwIn (52 + r.chain)
  if ok then { s with txRes := s.txRes ++ [r] } else s

/-! ### What the gate has charged (R209, R210, R215, R216) -/

/-- Change a ledger's slot by a signed number of µs, never below zero (R209, R210). -/
def State.ledgerAdd (s : State) (sb cell slot : Nat) (d : Int) : State :=
  match s.ledger.find? fun x => x.sb == sb && x.cell == cell && x.slot == slot with
  | some x => { s with ledger := s.ledger.map fun y => if y = x then { x with us := ((x.us : Int) + d).toNat } else y }
  | none => { s with ledger := s.ledger ++ [(⟨sb, cell, slot, d.toNat, 0⟩ : LedgerSlot)] }

/-- The slot of sub-band b's duty ledger that holds a Mesh Phase: DUTY_WIN_S / 64 seconds each (R215). -/
def State.dutySlot (s : State) (b t : Nat) : Nat := t * 64 / (max 1 (s.get SB.DUTY_WIN_S b) * 2 ^ 24)

/-- The slot of its dwell ledgers: DWELL_PERIOD_S / 16 seconds each (R216). -/
def State.dwellSlot (s : State) (b t : Nat) : Nat := t * 16 / (max 1 (s.get SB.DWELL_DWELL_PERIOD_S b) * 2 ^ 24)

/-- Charge, or true up, a transmission in its ledgers (R209, R210). -/
def State.ledgerCharge (s : State) (x : OnAir) (d : Int) : State :=
  let s := if s.get SB.DUTY_PPM x.sb = 0 then s else s.ledgerAdd x.sb 256 (s.dutySlot x.sb x.start) d
  if s.on SB.CFG_FHSS x.sb then s.ledgerAdd x.sb x.cell (s.dwellSlot x.sb x.start) d else s

/-- The transmission chain c began last, while it has not ended. -/
def State.airOf (s : State) (c : Nat) : Option OnAir := s.air.find? fun x => x.chain == c && !x.ended && x.start == s.get CHN.FIRED_C c

/-- A cleared transmission that never went on air is refunded (R210). -/
def State.airUndo (s : State) (x : OnAir) : State := { s.ledgerCharge x (-(x.us : Int)) with air := s.air.filter (· != x) }

/-- What the gate and the readiness check found for trigger n no longer holds: the clearance is refunded, unless its frame has begun (R210). -/
def State.unclear (s : State) (n : Nat) : State :=
  let s := if s.on PTX.CLEARED n && !s.on PTX.GO n then
      match s.air.reverse.find? fun x => x.pt == n && !x.ended with
      | some x => s.airUndo x
      | none => s
    else s
  ((s.clr PTX.CLEARED n).clr PTX.RDY n).clr PTX.GO n

/-- Nothing is on its way from chain c any more: the clearances of its triggers are refunded, and that of a frame that had begun READY→TX
without a sample sent (R210). -/
def State.unclearChain (s : State) (c : Nat) : State :=
  let s := if s.get CHN.TRANS c = 3 then (match s.airOf c with | some x => s.airUndo x | none => s) else s
  s.each ((List.range 16).filter fun n => s.get PT.CTL_ACTION n == 1 && s.get PT.CTL_TARGET n == c) State.unclear

/-! ### Requests and ends of frames -/

/-- The head request leaves the FIFO. -/
def State.popReq (s : State) (c : Nat) : State :=
  match s.headReq c with
  | none => s
  | some r =>
    let s := { s with txReq := s.txReq.erase r }
    ((s.clr CHN.CHECKED c).clr CHN.RFLAGS c).reqLevel c

/-- The head request completes without being sent (R178): its result has no START_PHASE. -/
def State.endHead (s : State) (c status : Nat) : State :=
  match s.headReq c with
  | none => s
  | some r =>
    ((s.popReq c).pushRes ⟨c, r.tag, status, s.get CHN.RFLAGS c, 0xFF, 0x80, 0⟩).when (status == 6)
      (·.bump TXC.DENY_CNT c)

/-- Every request in the chain's FIFO completes with FAULT (R187). -/
def State.failReqs (s : State) (c : Nat) : State :=
  let rs := s.reqs c
  let s := { s with txReq := s.txReq.filter (·.chain != c) }
  let s := s.each rs fun s r => s.pushRes ⟨c, r.tag, 0x14, 0, 0xFF, 0x80, 0⟩
  ((s.clr CHN.CHECKED c).clr CHN.RFLAGS c).reqLevel c

/-- Whether chain c sends, or is on its way to it or back (R171). -/
def State.inTx (s : State) (c : Nat) : Bool := s.get TXC.STATUS_STATE c == chTx || s.get CHN.TRANS c == 3

/-- The driver and the lines of port p as they stand now (R169, R171, R182, R189): 4 µs into READY→TX the bias is at BIAS_ON, at 6 µs the
driver ramps; 2 µs into TX→READY driver and PA are off, at 4 µs the switch is back. What PA_BIAS does while it ramps is left open. -/
def State.portLines (s : State) (p : Nat) : State :=
  let put (s : State) (pa tr : Bool) (bias : Nat) (drv : Bool) : State :=
    let b (x : Bool) : Nat := if x then 1 else 0
    let s := ((s.put PIN.PA_EN p (b pa)).put PIN.TRSW (2 * p) (b tr)).put PIN.PA_BIAS p bias
    (s.put PIN.TRSW (2 * p + 1) (if tr then s.get TXPORT.CFG_AUX_TX p else s.get TXPORT.CFG_AUX_RX p)).put PIN.DRV p (b drv)
  let on := s.get TXPORT.BIAS_BIAS_ON p
  let off := s.get TXPORT.BIAS_BIAS_OFF p
  if !s.on PIN.CONF then s
  else
    match [0, 1, 2, 3].find? fun c => s.inTx c && s.get TXC.CTL_PORT c == p with
    | none => put s false false off false
    | some c =>
      let past (us : Nat) : Bool := ticksGeUs (s.mp - s.get CHN.T0 c) us
      match s.get CHN.TRANS c with
      | 3 =>
        if past 4 then put s true true on (past 6)
        else let (v, s) := s.draw; put s true true v false
      | 4 => put s (!past 2) (!past 4) (if past 2 then off else on) (!past 2)
      | _ => put s true true on true

/-- The driver, synthesiser and port lines off, as in every state but READY and TX (R169). -/
def State.chainQuiet (s : State) (c : Nat) : State :=
  ((s.clr SY.STATUS_LOCK c).clr SY.STATUS_CAL_RUNNING c).portLines (s.get TXC.CTL_PORT c)

/-- Enter MUTED or OFF at once: every waiting request fails, and what was cleared is refunded (R187, R210). -/
def State.chainStop (s : State) (c st : Nat) : State :=
  let s := s.unclearChain c
  let s := (((s.put TXC.STATUS_STATE c st).clr TXC.STATUS_TRANS c).clr CHN.TRANS c).chainQuiet c
  let s := (s.clr TXC.STATUS_PENDING c).clr CHN.PEND c
  (s.when (st == chMuted) (·.set TXC.EVENT_MUTED c)).failReqs c

/-- TX→READY begins, because the last sample has passed or the frame is ended early with a status (R171). -/
def State.txEnd (s : State) (c status : Nat) (early : Bool) : State :=
  if s.get CHN.TRANS c = 4 then s
  else
    let s := (((s.set TXC.STATUS_TRANS c).put CHN.TRANS c 4).put CHN.STATUS c status).put CHN.T0 c s.mp
    (s.when early (·.bump TXC.ABORT_CNT c)).portLines (s.get TXC.CTL_PORT c)

/-- Set mute causes of a chain (R170, R187): an enabled chain goes to MUTED, through TX→READY from TX; one on its way to STANDBY stays
muted. -/
def State.muteSet (s : State) (c bits : Nat) : State :=
  let s := s.put TXC.MUTE c (Nat.lor (s.get TXC.MUTE c) bits)
  let st := s.get TXC.STATUS_STATE c
  if s.get CHN.TRANS c = 1 then s.chainStop c chMuted
  else if st = chOff ∨ st = chMuted then s
  else if st = chTx then (s.txEnd c 0x14 true).set CHN.NEXT_MUTED c
  else s.chainStop c chMuted

/-- Clear mute causes of a chain; an enabled MUTED chain without a cause starts towards STANDBY (R170). -/
def State.muteClr (s : State) (c bits : Nat) : State :=
  let m := s.get TXC.MUTE c
  let s := s.put TXC.MUTE c (m - Nat.land m bits)
  if s.get TXC.MUTE c = 0 ∧ s.get TXC.STATUS_STATE c = chMuted ∧ s.on TXC.CTL_EN c ∧ s.get CHN.TRANS c = 0 then
    (s.put CHN.TRANS c 1).set TXC.STATUS_TRANS c
  else s

end Sys2Proof.Machine
end

