-- ==== Sys2Proof/Machine/Entry.lean ====
section
/-!
DEFINITION. The Thicket's entries (R58): every field of the 512 octets as a field of the store whose instance is the
entry's index, the octets they make, and the operations that write them. The model keeps an entry's fields and, in
place of the octets of CHECK, how CHECK differs from the value it should have: every write by the part to bytes 0x000
to 0x0BB rewrites CHECK in the same write (R55), which is the clearing of that difference.
-/

namespace Sys2Proof.Machine

/-- A field of the entry at an octet offset; instance n is entry n. -/
def ent (off lo w : Nat) : Fld :=
  ⟨0x200000000 + off, lo, w, .inner, 512, 1, 262144, 262144, false, fun _ => 0⟩

/-- 0x000 [63:0] EUI64: IEEE EUI-64 of the node. 0 and 0xFFFF_FFFF_FFFF_FFFF are never valid (R58). -/
def E.EUI64 : Fld := ent 0x000 0 64
/-- 0x008 [15:0] SHORT_ADDR: IEEE 802.15.4 short address, 0x0000 to 0xFFFD; 0xFFFE means none assigned (R58). -/
def E.SHORT_ADDR : Fld := ent 0x008 0 16
/-- 0x00A [2:0] HEDGE: Owning Hedge, 0 to 7 (R58). -/
def E.HEDGE : Fld := ent 0x00A 0 3
/-- 0x00B [2:0] STATE: 0 FREE, 1 JOINING, 2 ACTIVE, 3 SLEEPY, 4 LOST, 5–7 reserved (R58). -/
def E.STATE : Fld := ent 0x00B 0 3
/-- 0x00B [3] PINNED: Exempt from eviction and aging (R58). -/
def E.PINNED : Fld := ent 0x00B 3 1
/-- 0x00C [2:0] PROTO_GEN: Protocol generation last carried in the node's Hop header (R58). -/
def E.PROTO_GEN : Fld := ent 0x00C 0 3
/-- 0x00D [0] FLAGS_RELAY: Node relays frames for others (R58). -/
def E.FLAGS_RELAY : Fld := ent 0x00D 0 1
/-- 0x00D [1] FLAGS_SLEEPER: Node declared itself a sleeper at join (R58). -/
def E.FLAGS_SLEEPER : Fld := ent 0x00D 1 1
/-- 0x00E [15:0] INCARNATION: Count of times this index has been freed; kept when the entry is freed (R58). -/
def E.INCARNATION : Fld := ent 0x00E 0 16
/-- 0x010 [15:0] KEY_GEN: Key generation, 1 to 65,535; 0 means no key (R58). -/
def E.KEY_GEN : Fld := ent 0x010 0 16
/-- 0x012 [7:0] KEY_INDEX: Key index used in the Auxiliary Security Header (R58). -/
def E.KEY_INDEX : Fld := ent 0x012 0 8
/-- 0x013 [2:0] SEC_LEVEL: Security level required of the node's frames and used on downlinks (R58). -/
def E.SEC_LEVEL : Fld := ent 0x013 0 3
/-- 0x014 [31:0] TX_CNT: Next frame counter for frames sent to the node (R58). -/
def E.TX_CNT : Fld := ent 0x014 0 32
/-- 0x018 [31:0] RX_CNT: Highest frame counter accepted from the node (R58). -/
def E.RX_CNT : Fld := ent 0x018 0 32
/-- 0x01C [7:0] NBR_SEQ: Last accepted sequence number of an unsecured frame (R58). -/
def E.NBR_SEQ : Fld := ent 0x01C 0 8
/-- 0x01D [0] NBR_SEQ_VALID: NBR_SEQ holds a value (R58). -/
def E.NBR_SEQ_VALID : Fld := ent 0x01D 0 1
/-- 0x020 [63:0] REPLAY_MAP: Bit i set: counter RX_CNT − i has been accepted (R58). -/
def E.REPLAY_MAP : Fld := ent 0x020 0 64
/-- 0x028 [31:0] JOINED_AT: Mesh Phase seconds, MP[55:24], of the last completed join (R58). -/
def E.JOINED_AT : Fld := ent 0x028 0 32
/-- 0x030 [63:0] PH_OFFSET: Mesh Phase of the model's reference wake instant (R58). -/
def E.PH_OFFSET : Fld := ent 0x030 0 64
/-- 0x038 [31:0] PH_RATE: Rate error of the node's wake clock, signed, units of 2^-40 (R58). -/
def E.PH_RATE : Fld := ent 0x038 0 32
/-- 0x03C [31:0] PH_INTERVAL: Wake interval in Mesh Phase ticks; 0 means the node is not a sleeper (R58). -/
def E.PH_INTERVAL : Fld := ent 0x03C 0 32
/-- 0x040 [31:0] PH_UNCERT: Uncertainty at PH_LAST_OBS, in ticks (R58). -/
def E.PH_UNCERT : Fld := ent 0x040 0 32
/-- 0x044 [31:0] PH_LAST_STAMP: Last 32-bit wake-tick stamp received (R58). -/
def E.PH_LAST_STAMP : Fld := ent 0x044 0 32
/-- 0x048 [63:0] PH_LAST_OBS: Mesh Phase of the last observation (R58). -/
def E.PH_LAST_OBS : Fld := ent 0x048 0 64
/-- 0x050 [3:0] PH_DRIFT_CLASS: Drift class, 0 to 15 (R58). -/
def E.PH_DRIFT_CLASS : Fld := ent 0x050 0 4
/-- 0x051 [7:0] PH_MISSES: Consecutive aimed downlinks missed (R58). -/
def E.PH_MISSES : Fld := ent 0x051 0 8
/-- 0x052 [1:0] PH_MODE: 0 UNSEEDED, 1 AIMED, 2 FALLBACK, 3 reserved (R58). -/
def E.PH_MODE : Fld := ent 0x052 0 2
/-- 0x060 [7:0] PREF_LANE: Preferred Listening Lane, 0 to 47; 0xFF means none, and insertion writes 0xFF (R583) (R58). -/
def E.PREF_LANE : Fld := ent 0x060 0 8
/-- 0x061 [7:0] PHY_MODE: PHY mode code (Lane demodulation, equalisation and LDPC decoding) (R58). -/
def E.PHY_MODE : Fld := ent 0x061 0 8
/-- 0x062 [15:0] CHANNEL: Channel number in the Hedge's channel plan (R58). -/
def E.CHANNEL : Fld := ent 0x062 0 16
/-- 0x064 [31:0] FREQ_OFS: Node carrier offset, signed, units of 1/16 Hz (R58). -/
def E.FREQ_OFS : Fld := ent 0x064 0 32
/-- 0x068 [7:0] RSSI: Signed dBm of the last accepted frame (R58). -/
def E.RSSI : Fld := ent 0x068 0 8
/-- 0x069 [7:0] LQI: Link quality of the last accepted frame, 0 to 255 (R58). -/
def E.LQI : Fld := ent 0x069 0 8
/-- 0x06A [1:0] PREF_AP: Preferred aerial port (R58). -/
def E.PREF_AP : Fld := ent 0x06A 0 2
/-- 0x06B [7:0] TX_POWER: Downlink power at the aerial connector, signed, units of 0.5 dBm (R58). -/
def E.TX_POWER : Fld := ent 0x06B 0 8
/-- 0x06C [31:0] FREQ_OFS_AT: Mesh Phase seconds of the last FREQ_OFS update (R58). -/
def E.FREQ_OFS_AT : Fld := ent 0x06C 0 32
/-- 0x080 [17:0] NEXT_HOP: Entry index of the next hop (R58). -/
def E.NEXT_HOP : Fld := ent 0x080 0 18
/-- 0x080 [30] NH_DIRECT: Node is heard directly; NEXT_HOP is the entry's own index (R58). -/
def E.NH_DIRECT : Fld := ent 0x080 30 1
/-- 0x080 [31] NH_VALID: Route present (R58). -/
def E.NH_VALID : Fld := ent 0x080 31 1
/-- 0x084 [7:0] HOP_COUNT: Hops to the node, 1 for a direct node (R58). -/
def E.HOP_COUNT : Fld := ent 0x084 0 8
/-- 0x085 [7:0] LEARN_LANE: Lane on which the route was learned (R58). -/
def E.LEARN_LANE : Fld := ent 0x085 0 8
/-- 0x086 [15:0] METRIC: Link metric (Mesh forwarding, managed flooding and Deal campaigns) (R58). -/
def E.METRIC : Fld := ent 0x086 0 16
/-- 0x088 [31:0] LEARNED_AT: Mesh Phase seconds at which the route was learned (R58). -/
def E.LEARNED_AT : Fld := ent 0x088 0 32
/-- 0x08C [31:0] LAST_HIT: Mesh Phase seconds of the last hit (R58). -/
def E.LAST_HIT : Fld := ent 0x08C 0 32
/-- 0x090 [15:0] NH_INCARNATION: INCARNATION of the next-hop entry when the route was learned (R58). -/
def E.NH_INCARNATION : Fld := ent 0x090 0 16
/-- 0x0A0 [17:0] QUEUE_ID: Node queue bound to the entry; always equal to the entry index (R58). -/
def E.QUEUE_ID : Fld := ent 0x0A0 0 18
/-- 0x0A4 [13:0] METER_ID: Meter applied to the node's downlinks (R58). -/
def E.METER_ID : Fld := ent 0x0A4 0 14
/-- 0x0A4 [15] METER_EN: METER_ID is in use (R58). -/
def E.METER_EN : Fld := ent 0x0A4 15 1
/-- 0x0A8 [31:0] RX_FRAMES: Frames accepted from the node, saturating (R58). -/
def E.RX_FRAMES : Fld := ent 0x0A8 0 32
/-- 0x0AC [31:0] TX_FRAMES: Frames acknowledged by the node, saturating (R58). -/
def E.TX_FRAMES : Fld := ent 0x0AC 0 32
/-- 0x0B0 [15:0] TX_FAIL: Downlinks ending other than DONE or PHASE_STALE, saturating (R58). -/
def E.TX_FAIL : Fld := ent 0x0B0 0 16
/-- 0x0B2 [15:0] REPLAY_REJ: Frames rejected as replays, saturating (R58). -/
def E.REPLAY_REJ : Fld := ent 0x0B2 0 16
/-- 0x0B4 [15:0] AIM_MISS: Aimed downlinks missed, saturating (R58). -/
def E.AIM_MISS : Fld := ent 0x0B4 0 16
/-- 0x0BC: how the stored CHECK differs from the CRC32C of bytes 0x000 to 0x0BB (R58, R59); 0 when it holds. -/
def E.CHECK_DIFF : Fld := ent 0x0BC 0 32
/-- 0x0C0, 64 bytes: Used by the Mesh Runtime on the Hedge's behalf while the Hedge's THK EXPERT bit is clear (R58). Octet i of entry n is instance 64 * n + i. -/
def E.RUNTIME_PRIVATE : Fld := ent 0x0C0 0 8
/-- 0x100, 256 bytes: Owned by the Hedge's policy programs (R58). Octet i of entry n is instance 256 * n + i. -/
def E.POLICY_PRIVATE : Fld := ent 0x100 0 8

/-- The fields of bytes 0x000 to 0x0BB. -/
def entryFlds : List Fld :=
  [E.EUI64, E.SHORT_ADDR, E.HEDGE, E.STATE, E.PINNED, E.PROTO_GEN, E.FLAGS_RELAY, E.FLAGS_SLEEPER, E.INCARNATION, E.KEY_GEN, E.KEY_INDEX, E.SEC_LEVEL] ++
  [E.TX_CNT, E.RX_CNT, E.NBR_SEQ, E.NBR_SEQ_VALID, E.REPLAY_MAP, E.JOINED_AT, E.PH_OFFSET, E.PH_RATE, E.PH_INTERVAL, E.PH_UNCERT, E.PH_LAST_STAMP, E.PH_LAST_OBS] ++
  [E.PH_DRIFT_CLASS, E.PH_MISSES, E.PH_MODE, E.PREF_LANE, E.PHY_MODE, E.CHANNEL, E.FREQ_OFS, E.RSSI, E.LQI, E.PREF_AP, E.TX_POWER, E.FREQ_OFS_AT] ++
  [E.NEXT_HOP, E.NH_DIRECT, E.NH_VALID, E.HOP_COUNT, E.LEARN_LANE, E.METRIC, E.LEARNED_AT, E.LAST_HIT, E.NH_INCARNATION, E.QUEUE_ID, E.METER_ID, E.METER_EN] ++
  [E.RX_FRAMES, E.TX_FRAMES, E.TX_FAIL, E.REPLAY_REJ, E.AIM_MISS]

/-- The number of entries. -/
def entryCount : Nat := 262144

/-- Write a field of an entry, with CHECK in the same write (R55). -/
def State.wrE (s : State) (F : Fld) (e v : Nat) : State := (s.put F e v).clr E.CHECK_DIFF e

/-- Bytes 0x000 to 0x0BB of an entry. -/
def State.entryHead (s : State) (e : Nat) : List Nat :=
  le 0xBC ((entryFlds.map fun F => s.get F e * 2 ^ (8 * (F.base - 0x200000000) + F.lo)).sum)

/-- The CHECK an entry should have. -/
def State.entryCrc (s : State) (e : Nat) : Nat := crc32c (s.entryHead e)

/-- The 64 private octets of the Mesh Runtime, from 0x0C0. -/
def State.runtimePrivate (s : State) (e : Nat) : List Nat :=
  (List.range 64).map fun i => s.get E.RUNTIME_PRIVATE (64 * e + i)

/-- The 256 private octets of the Hedge's programs, from 0x100. -/
def State.policyPrivate (s : State) (e : Nat) : List Nat :=
  (List.range 256).map fun i => s.get E.POLICY_PRIVATE (256 * e + i)

/-- The 192 octets that NODE_READ returns, CHECK at 0x0BC, zero where nothing is shown. -/
def State.entryOctets (s : State) (e : Nat) : List Nat :=
  s.entryHead e ++ le 4 ((s.entryCrc e).xor (s.get E.CHECK_DIFF e))

/-- The indexes whose entries are not FREE, in the order the store lists them. -/
def State.usedEntries (s : State) : List Nat :=
  s.cells.filterMap fun c => if c.1.1 = E.STATE.id then some c.1.2 else none

/-- Move an entry's wake model by Δ, when it has been observed (R247). -/
def State.shiftModel (s : State) (e d : Nat) : State :=
  if s.get E.PH_LAST_OBS e = 0 then s
  else (s.wrE E.PH_OFFSET e (s.get E.PH_OFFSET e + d)).wrE E.PH_LAST_OBS e (s.get E.PH_LAST_OBS e + d)

end Sys2Proof.Machine
end

