-- ==== Sys2Proof/Machine/Phy.lean ====
section
/-!
DEFINITION. The PHY modes (R116 to R131): families, rates, PSDU ranges, airtime (R129, R210), preamble units (R249)
and occupied-bandwidth numbers (R206). The lengths of SUN-OFDM's STF, LTF and data symbols are those of
IEEE 802.15.4-2020, to which R210 refers (PRESUMED, assumption log 11).
-/

namespace Sys2Proof.Machine

/-- The families of R210. -/
inductive Fam where
  | fsk | ofdm | oqpsk | xl | xln
  deriving DecidableEq, Repr

/-- The family of a mode code; a reserved code has none (R116). -/
def famOf (m : Nat) : Option Fam :=
  if 0x10 ≤ m ∧ m ≤ 0x17 then some .fsk
  else if (0x20 ≤ m ∧ m ≤ 0x23) ∨ (0x28 ≤ m ∧ m ≤ 0x2D) ∨ (0x31 ≤ m ∧ m ≤ 0x36) ∨ (0x3A ≤ m ∧ m ≤ 0x3E) then some .ofdm
  else if m = 0x40 then some .oqpsk
  else if 0x50 ≤ m ∧ m ≤ 0x59 then some .xl
  else if 0x60 ≤ m ∧ m ≤ 0x69 then some .xln
  else none

/-- The detector group of a mode (R116). -/
def groupOf (m : Nat) : Nat :=
  match famOf m with
  | some .fsk => [0, 1, 1, 2, 3, 4, 1, 3].getD (m - 0x10) 0
  | some .ofdm => 5 + (m - 0x20) / 8
  | some .oqpsk => 9
  | some .xl => 10
  | _ => 11

/-- Bit rate in kb/s of a SUN-FSK or SUN-OFDM mode (R116, R120). -/
def kbpsOf (m : Nat) : Nat :=
  match m with
  | 0x10 => 50 | 0x11 => 100 | 0x12 => 100 | 0x13 => 150 | 0x14 => 200 | 0x15 => 300 | 0x16 => 200 | 0x17 => 400
  | 0x20 => 100 | 0x21 => 200 | 0x22 => 400 | 0x23 => 800
  | 0x28 => 50 | 0x29 => 100 | 0x2A => 200 | 0x2B => 400 | 0x2C => 600 | 0x2D => 800
  | 0x31 => 50 | 0x32 => 100 | 0x33 => 200 | 0x34 => 300 | 0x35 => 400 | 0x36 => 600
  | 0x3A => 50 | 0x3B => 100 | 0x3C => 150 | 0x3D => 200 | 0x3E => 300
  | _ => 250

/-- The longest PSDU of a mode (R119 to R121, R125). -/
def psduMax (m : Nat) : Nat := if m = 0x40 then 127 else 2047

/-- Information bits and codeword bits of a rate: k for 576 bits, of 1/2, 3/4 or 5/6 by MCS (R128, R130). -/
def ldpcK (mcs : Nat) : Nat :=
  if mcs = 6 ∨ mcs = 8 then 432 else if mcs = 9 then 480 else 288

/-- Coded bits in a symbol group at full width (R128). -/
def ncbpsOf (mcs : Nat) : Nat := [24, 24, 24, 48, 96, 192, 192, 384, 384, 384].getD mcs 24

/-- Time repetition (R128). -/
def rtOf (mcs : Nat) : Nat := if mcs = 0 then 8 else if mcs = 1 then 2 else 1

/-- Header symbols (R125, R128): repetition 32 for XL-R and XL0, else 4. -/
def hdrSyms (mcs : Nat) (narrow : Bool) : Nat :=
  if mcs ≤ 1 then (if narrow then 51 else 26) else if narrow then 7 else 4

/-- Codewords of a PSDU (R126). -/
def ncwOf (mcs len : Nat) (long : Bool) : Nat := ceilDiv (8 * len) (ldpcK mcs * (if long then 4 else 1))

/-- Data symbols (R126). -/
def nsymOf (mcs len : Nat) (long narrow : Bool) : Nat :=
  let q := if long then 4 else 1
  let ncoded := 8 * len + ncwOf mcs len long * ((576 - ldpcK mcs) * q)
  rtOf mcs * ceilDiv ncoded (if narrow then ncbpsOf mcs / 2 else ncbpsOf mcs)

/-- The standard preamble in units of R249; SUN-OFDM has its STF only. -/
def preStd (m : Nat) : Nat :=
  match famOf m with
  | some .fsk => 8
  | some .ofdm => 0
  | _ => 4

/-- Microseconds of n preamble units, rounded up (R249). -/
def preUs (m n : Nat) : Nat :=
  match famOf m with
  | some .fsk => ceilDiv (8000 * n) (kbpsOf m)
  | some .oqpsk => 32 * n
  | some .ofdm => 0
  | _ => 144 * n

/-- Whether CUR or NEXT lies in the range of R249. -/
def preOk (m n : Nat) : Bool :=
  n == 0 || match famOf m with
    | some .fsk => 8 ≤ n && n ≤ 1000
    | some .oqpsk => 4 ≤ n && n ≤ 1000
    | some .ofdm => false
    | _ => 4 ≤ n && n ≤ 2051

/-- The longest preamble of a mode, in units (R249). -/
def preMax (m : Nat) : Nat :=
  match famOf m with
  | some .ofdm => 0
  | some .fsk | some .oqpsk => 1000
  | _ => 2051

/-- Symbols of the PHR of a SUN-OFDM option (R210). -/
def phrSyms (m : Nat) : Nat := if m < 0x28 then 3 else 6

/-- Airtime in whole microseconds, rounded up (R129, R210): a mode, SUN-FSK FEC, long codewords, preamble units (0
standard) and PSDU octets. -/
def airtime (m : Nat) (fec long : Bool) (pre len : Nat) : Nat :=
  let p := if pre = 0 then preStd m else pre
  match famOf m with
  | some .fsk =>
    let bits := if fec then 8 * (p + 2) + 16 * (3 + len) else 8 * (p + 4 + len)
    ceilDiv (bits * 1000) (kbpsOf m)
  | some .ofdm => 120 * (4 + 2 + phrSyms m + ceilDiv (8 * len + 6) (kbpsOf m * 120 / 1000))
  | some .oqpsk => 32 * (2 + p + len)
  | some .xl => 144 * (p + 2 + hdrSyms (m - 0x50) false + nsymOf (m - 0x50) len long false)
  | some .xln => 144 * (p + 2 + hdrSyms (m - 0x60) true + nsymOf (m - 0x60) len long true)
  | none => 0

/-- The number i of a mode's occupied bandwidth (R206). -/
def obwIx (m : Nat) : Nat :=
  match famOf m with
  | some .fsk => m - 0x10
  | some .ofdm => 8 + (m - 0x20) / 8
  | some .oqpsk => 12
  | some .xl => 13
  | _ => 14

/-- Whether a mode may be sent in a band (0 below 1 GHz, 1 at 2.4 GHz): SUN-FSK and SUN-OFDM below, O-QPSK above,
XL-OFDM in both (R116, R157). -/
def bandOk (m band : Nat) : Bool :=
  match famOf m with
  | some .fsk | some .ofdm => band == 0
  | some .oqpsk => band == 1
  | some _ => true
  | none => false

/-- FCS octets of a mode (R436). -/
def fcsLen (m : Nat) : Nat := if m = 0x40 then 2 else 4

end Sys2Proof.Machine
end

