-- ==== Sys2Proof/Machine/Sched.lean ====
section
/-!
DEFINITION. The traffic manager's machinery (spec/09_traffic_manager.md): node queues and their lists, meters, shapers, start-time
fair queuing, release, return, true-up and the end of a downlink.
-/

namespace Sys2Proof.Machine

open Sys2Proof

/-- EXPERT_H[h] bit k as it took effect (R11, R12, R580). -/
def State.expH (s : State) (h k : Nat) : Bool := bit (s.get SYS.EXPERT_H_ACK h) k

/-- EXPERT_G bit k as it took effect. -/
def State.expG (s : State) (k : Nat) : Bool := bit (s.get SYS.EXPERT_G_ACK) k

/-- Airtime of a frame of the part: SUN-FSK without FEC and XL-OFDM in codewords of 576 bits, since a request names
neither (assumption log 12). -/
def airT (m pre len : Nat) : Nat := airtime m false false pre len

/-! ### Bands and channel plans -/

/-- Nominal frequency of channel c of Hedge h's plan (R199). -/
def State.planFreq (s : State) (h c : Nat) : Nat := s.get CHPLAN.F0_HZ h + c * s.get CHPLAN.SPACING_HZ h

/-- The band of a frequency: 0 below 1 GHz, 1 at 2.4 GHz. -/
def bandOf (hz : Nat) : Nat := if hz < 1000000000 then 0 else 1

/-- The band of Hedge h: that of channel 0 of its plan (R298). -/
def State.hedgeBand (s : State) (h : Nat) : Nat := bandOf (s.planFreq h 0)

/-- The band of the aerial port a chain is bound to; output o is paired with chain o (R298). -/
def State.chainBand (s : State) (c : Nat) : Nat := s.get TXC.CTL_PORT c / 2

/-- Whether output o requests downlinks (R298); a standby's outputs request nothing (R457). -/
def State.requesting (s : State) (o : Nat) : Bool := s.on TXC.CTL_EN o && s.get TXC.MUTE o == 0 && !s.standby

/-! ### Shapers (R311 to R313) -/

/-- Set T of shaper n now, at least −2^31, and what TOKENS and BLOCKED show. -/
def State.shSet (s : State) (n : Nat) (t : Int) : State :=
  let t := max t (-(2 ^ 31 : Int) * unit24)
  let blocked := s.on SHAPER.CFG_EN n && decide (t < 0)
  let s := ((s.putI SHP.T n t).put SHP.PREV n s.mp).putI SHAPER.TOKENS n (t / unit24)
  let s := s.when (blocked && !s.on SHAPER.STATUS_BLOCKED n) (·.bump SHAPER.BLOCK_CNT n)
  s.put SHAPER.STATUS_BLOCKED n (if blocked then 1 else 0)

/-- The mode a commit installs: fixed for shapers 32 to 59 (R312). -/
def State.shMode (s : State) (n : Nat) : Nat :=
  if 32 ≤ n ∧ n < 60 then (if n < 44 then 0 else 1) else s.get SHAPER.CFG_MODE n

/-- A commit of shaper n (R313). -/
def State.shCommit (s : State) (n : Nat) : State :=
  let s := ((s.put SHP.RATE n (s.get SHAPER.RATE n)).put SHP.BURST n (s.get SHAPER.BURST n)).put SHP.OVH n
    (s.get SHAPER.OVERHEAD n)
  let s := (s.put SHP.MODE n (s.shMode n)).bump SHAPER.STATUS_EPOCH n
  s.shSet n (if s.on SHAPER.CFG_RECONF n then 0 else (s.get SHP.BURST n * unit24 : Nat))

/-- What a frame of `us` of airtime and `octets` costs at shaper n (R312). -/
def State.shCost (s : State) (n us octets : Nat) : Nat :=
  (if s.get SHP.MODE n = 0 then us else octets) + s.get SHP.OVH n

/-- Charge shaper n, when it is enabled. -/
def State.shCharge (s : State) (n amount : Nat) : State :=
  if s.on SHAPER.CFG_EN n then s.shSet n (s.shTokens n - (amount * unit24 : Nat)) else s

/-- True up shaper n by d, when its EPOCH is the one at the charge (R314). -/
def State.shTrueUp (s : State) (n epoch : Nat) (d : Int) : State :=
  if s.get SHAPER.STATUS_EPOCH n = epoch then
    s.shSet n (min ((s.get SHP.BURST n * unit24 : Nat) : Int) (s.shTokens n - d * unit24))
  else s

/-! ### Meters (R305, R306) -/

/-- One decision of meter m on a downlink of a mode and length with the colour of the earlier meter: 0 green, 1 yellow,
2 red. -/
def State.meterDecide (s : State) (m cIn mode len : Nat) (aware : Bool) : Nat × State :=
  if !s.on METER.CFG_EN m then (0, s.bump METER.GREEN_CNT m)
  else
    let dt := s.mp - s.get MTR.PREV m
    let tc := min (s.get MTR.CBS m * unit24) (s.get MTR.TC m + s.get MTR.CIR m * dt)
    let tp := min (s.get MTR.PBS m * unit24) (s.get MTR.TP m + s.get MTR.PIR m * dt)
    let b := ((if s.get MTR.MODE m = 0 then len else airT mode 0 len) + s.get MTR.OVH m) * unit24
    let cIn := if aware || s.on MTR.AWARE m then cIn else 0
    let s := s.put MTR.PREV m s.mp
    if cIn = 2 ∨ tp < b then (2, ((s.put MTR.TC m tc).put MTR.TP m tp).bump METER.RED_CNT m)
    else if cIn = 1 ∨ tc < b then (1, ((s.put MTR.TC m tc).put MTR.TP m (tp - b)).bump METER.YELLOW_CNT m)
    else (0, ((s.put MTR.TC m (tc - b)).put MTR.TP m (tp - b)).bump METER.GREEN_CNT m)

/-- Fill the buckets of meter m, as a commit does. -/
def State.meterFill (s : State) (m : Nat) : State :=
  ((s.put MTR.TC m (s.get MTR.CBS m * unit24)).put MTR.TP m (s.get MTR.PBS m * unit24)).put MTR.PREV m s.mp

/-- A commit of meter m (R305, R306). -/
def State.meterCommit (s : State) (m : Nat) : State :=
  if s.get METER.PIR m < s.get METER.CIR m ∨ s.get METER.PBS m < s.get METER.CBS m ∨ s.get METER.CBS m = 0
      ∨ s.get METER.CFG_Y_ACT m = 3 ∨ s.get METER.CFG_R_ACT m = 3 then s.set METER.EVENT_BAD_CFG m
  else
    let s := ((s.put MTR.CIR m (s.get METER.CIR m)).put MTR.PIR m (s.get METER.PIR m)).put MTR.CBS m (s.get METER.CBS m)
    let s := (s.put MTR.PBS m (s.get METER.PBS m)).put MTR.OVH m (s.get METER.OVH m)
    let s := (s.put MTR.MODE m (s.get METER.CFG_MODE m)).put MTR.AWARE m (s.get METER.CFG_AWARE m)
    s.meterFill m

/-- What a downlink has met of its meters: the last colour and that meter, if it passed one. -/
structure Metered where
  colour : Nat
  meter : Option Nat
  deriving DecidableEq, Repr

/-- Pass meter m, or skip one whose OWNER is not the Hedge (R304). -/
def State.meterPass (s : State) (h m : Nat) (aware : Bool) (mode len : Nat) (x : Metered) : Metered × State :=
  if s.get METER.CFG_OWNER m ≠ h then (x, s.bump TMH.METER_MISMATCH h)
  else
    let (c, s) := s.meterDecide m x.colour mode len aware
    (⟨c, some m⟩, s)

/-! ### Queues and lists (R297 to R301) -/

/-- The number of Hedge h's flood queue for class k. -/
def floodQ (h k : Nat) : Nat := 262144 + 4 * h + k

/-- Whether a queue is a flood queue. -/
def isFloodQ (q : Nat) : Bool := 262144 ≤ q

/-- ELIG's value HOLD. -/
def elHold : Nat := 0xFFFFFFFFFFFFFFFF

/-- The downlinks of queue q that are in flight (R300). -/
def State.flying (s : State) (q : Nat) : List Down := s.downs.filter fun d => d.dest == q && d.stage != .queued

/-- The list of class k of queue q, in order. -/
def State.listOf (s : State) (q k : Nat) : List Down :=
  s.downs.filter fun d => d.dest == q && d.cls == k && d.stage == .queued

/-- Downlinks held in queue q. -/
def State.queueDepth (s : State) (q : Nat) : Nat := (s.downs.filter fun d => d.dest == q && d.stage == .queued).length

/-- Whether the group shaper of queue q, if it is bound to one, permits (R312). -/
def State.groupOk (s : State) (q : Nat) : Bool :=
  isFloodQ q || !s.on NQ.GROUP_EN q || s.shPermits (s.get NQ.GROUP q)

/-- Whether the list of class k of queue q is eligible now (R300, R301, R312, R436). -/
def State.eligible (s : State) (q k : Nat) : Bool :=
  s.listOf q k != [] && (isFloodQ q ||
    (let f := s.flying q
     (if k = 0 then f.length == 0 || (f.length == 1 && f.all (·.cls != 0)) else f.length == 0)
      && (if k = 0 then s.get NQ.ELIG q != elHold else s.get NQ.ELIG q ≤ s.mp) && s.groupOk q))

/-- Note which lists of queue q, of Hedge h, have become eligible: a candidate joins the tail of its aggregate's round
(R308). -/
def State.refreshQueue (s : State) (h q : Nat) : State :=
  s.each [0, 1, 2, 3] fun s k =>
    let n := 4 * q + k
    let now := s.eligible q k
    if now && !s.on NQ.BACK n then
      let a := 4 * h + k
      (((s.set NQ.BACK n).put NQ.SINCE n s.mp).put NQ.TURN n (s.get AGGX.TURN a)).bump AGGX.TURN a
    else s.put NQ.BACK n (if now then 1 else 0)

/-- The queues with downlinks, with their Hedges. -/
def State.queues (s : State) : List (Nat × Nat) := (s.downs.map fun d => (d.hedge, d.dest)).eraseDups

/-- The queues of aggregate a whose class list is not empty. -/
def State.aggQueues (s : State) (a : Nat) : List Nat :=
  ((s.downs.filter fun d => d.hedge == a / 4 && d.cls == a % 4 && d.stage == .queued).map (·.dest)).eraseDups

/-- Whether aggregate a is backlogged (R298, R308). -/
def State.aggBack (s : State) (a : Nat) : Bool :=
  s.on TMH.CTL_EN (a / 4) && (s.aggQueues a).any (fun q => s.on NQ.BACK (4 * q + a % 4))
    && s.shPermits a && s.shPermits (36 + a / 4)

/-- The weight of class k at output o (R325). -/
def State.outWeight (s : State) (o k : Nat) : Nat :=
  match k with
  | 1 => s.get OUT.W_W_LEAD o
  | 2 => s.get OUT.W_W_DEAL o
  | _ => s.get OUT.W_KITTY o

/-- Wake the flows that have become backlogged (R307), and refresh what AGG shows. -/
def State.refreshFlows (s : State) : State :=
  let s := s.each (List.range 32) fun s a =>
    let now := s.aggBack a
    let v := s.get TMG.V (2 * (a % 4) + s.hedgeBand (a / 4))
    let s := s.when (now && !s.on AFLOW.BACK a) fun s => s.put AGG.S a (max v (s.get AGG.F_LAST a))
    let s := s.put AFLOW.BACK a (if now then 1 else 0)
    (s.put AGG.QUEUES a (s.aggQueues a).length).put AGG.DEPTH a
      (s.downs.filter fun d => d.hedge == a / 4 && d.cls == a % 4 && d.stage == .queued).length
  s.each (List.range 16) fun s n =>
    let o := n / 4
    let k := n % 4
    let now := k != 0 && (List.range 8).any fun h => s.on AFLOW.BACK (4 * h + k) && s.hedgeBand h == s.chainBand o
    let s := s.when (now && !s.on OFLOW.BACK n) fun s => s.put OFLOW.S n (max (s.get OUT.V o) (s.get OFLOW.F n))
    s.put OFLOW.BACK n (if now then 1 else 0)

/-- Look at every queue and flow again. -/
def State.refreshAll (s : State) : State :=
  (s.each s.queues fun s p => s.refreshQueue p.1 p.2).refreshFlows

/-- Look at one queue again. -/
def State.refreshOne (s : State) (h q : Nat) : State := (s.refreshQueue h q).refreshFlows

/-! ### Admission (R299, R304 to R306) -/

/-- Cells of the downlink pool a downlink occupies (R299). -/
def cellsOf (psdu : Nat) : Nat := ceilDiv (psdu + 64) 256

/-- TMH[h].QMAX of class k. -/
def State.qmax (s : State) (h k : Nat) : Nat :=
  match k with
  | 0 => s.get TMH.QMAX_TRUMP h
  | 1 => s.get TMH.QMAX_LEAD h
  | 2 => s.get TMH.QMAX_DEAL h
  | _ => s.get TMH.QMAX_KITTY h

/-- Change the cells Hedge h uses. -/
def State.cellsAdd (s : State) (h k : Nat) : State := (s.bump TMH.CELLS_USED h k).bump TMG.CELLS_USED 0 k

/-- Give cells of Hedge h back. -/
def State.cellsDrop (s : State) (h k : Nat) : State := (s.drop TMH.CELLS_USED h k).drop TMG.CELLS_USED 0 k

/-- Steps 6 and 7 of R304: the limits of R299, then the tail of the list, where a hold under R251 counts it. The answer is the code that ends the
downlink, or none when it is enqueued. -/
def State.enqueue (s : State) (d : Down) : Option Nat × State :=
  let k := cellsOf d.psduLen
  if s.qmax d.hedge d.cls ≤ (s.listOf d.dest d.cls).length
      ∨ s.get TMH.CELL_QUOTA d.hedge < s.get TMH.CELLS_USED d.hedge + k then
    (some 0x05, s.bump TMH.TAIL_DROP d.hedge)
  else
    let waits := !isFloodQ d.dest && s.on NQ.UNKNOWN d.dest
    let s := s.when waits (·.bump WAKEH.HOLD_CNT d.hedge)
    let d := { d with uid := s.get DOWNX.NEXT, enq := s.mp, cells := k, stage := .queued, held := waits }
    let s := ({ s with downs := s.downs ++ [d] }.bump DOWNX.NEXT).bump TMG.ENQ_CNT
    let s := s.cellsAdd d.hedge k
    let s := s.when (!isFloodQ d.dest) fun s => s.put NQ.HWM d.dest (max (s.get NQ.HWM d.dest) (s.queueDepth d.dest))
    (none, s.refreshOne d.hedge d.dest)

/-- The completion flags of a downlink: DEMOTED and its colour (R437). -/
def downFlags (demoted : Bool) (colour : Nat) : Nat := (if demoted then 2 else 0) + 4 * colour

/-- Steps 3 to 7 of R304 for a downlink to an entry, or to a flood queue: none when it is enqueued, else the code that ends it and the
flags of its completion. -/
def State.takeIn (s : State) (d : Down) : Option (Nat × Nat) × State :=
  let h := d.hedge
  let a := 4 * h + d.cls
  let x : Metered := ⟨0, none⟩
  let (x, s) := if s.on AGG.METER_EN a then s.meterPass h (s.get AGG.METER_ID a) false d.mode d.psduLen x else (x, s)
  let (x, s) :=
    if !isFloodQ d.dest && s.on E.METER_EN d.dest then
      s.meterPass h (s.get E.METER_ID d.dest) true d.mode d.psduLen x
    else (x, s)
  let act := match x.meter, x.colour with
    | some m, 1 => s.get METER.CFG_Y_ACT m
    | some m, 2 => s.get METER.CFG_R_ACT m
    | _, _ => 0
  let d := { d with colour := if x.meter = none then 3 else x.colour }
  match act with
  | 2 => (some (0x05, downFlags false d.colour), s.bump TMH.METER_DROP h)
  | 1 =>
    let k := min 3 (d.cls + 1)
    let d' := { d with cls := k, demoted := true, dest := if isFloodQ d.dest then floodQ h k else d.dest }
    let (r, s) := s.enqueue d'
    (r.map (·, downFlags true d.colour), if r = none then s.bump TMH.DEMOTED h else s)
  | _ =>
    let (r, s) := s.enqueue d
    (r.map (·, downFlags false d.colour), s)

/-! ### Release, return and true-up (R300 to R314) -/

/-- Replace a downlink by its new self. -/
def State.setDown (s : State) (d : Down) : State :=
  { s with downs := s.downs.map fun x => if x.uid = d.uid then d else x }

/-- The downlink with a number. -/
def State.down (s : State) (u : Nat) : Option Down := s.downs.find? (·.uid == u)

/-- The shapers a release through output o charges (R312, R314). -/
def State.shapersOf (s : State) (d : Down) (o : Nat) : List Nat :=
  [4 * d.hedge + d.cls, 36 + d.hedge, 32 + o]
    ++ (if !isFloodQ d.dest && s.on NQ.GROUP_EN d.dest then [s.get NQ.GROUP d.dest] else [])

/-- The least start tag among candidates, ties to the lower number (R307). -/
def leastTag (tag : Nat → Nat) : List Nat → Option Nat
  | [] => none
  | x :: t => match leastTag tag t with
    | none => some x
    | some y => if tag x ≤ tag y then some x else some y

/-- Advance a flow's finish tag by cost c at weight w: ceil(c × 2^16 / w) (R307). -/
def tagStep (c w : Nat) : Nat := ceilDiv (c * 65536) (max 1 w)

/-- The head that aggregate a releases: in Trump the one enqueued first, else that of the queue whose turn it is
(R308). -/
def State.aggHead (s : State) (a : Nat) : Option Down :=
  let k := a % 4
  let qs := (s.aggQueues a).filter fun q => s.on NQ.BACK (4 * q + k)
  let q := if k = 0 then leastTag (fun q => ((s.listOf q 0).map (·.uid)).headD 0) qs
    else leastTag (fun q => s.get NQ.TURN (4 * q + k)) qs
  match q with
  | none => none
  | some q => (s.listOf q k).head?

/-- Release downlink d through output o: charges, tags, counts and the delay figures (R307 to R309, R314 to R316). -/
def State.release (s : State) (d : Down) (o : Nat) : State :=
  let k := d.cls
  let a := 4 * d.hedge + k
  let air := airT d.mode 0 d.psduLen
  let c := air + s.get AGG.OVH_US a
  let delay := ticksUs (s.mp - max d.enq (s.get NQ.SINCE (4 * d.dest + k)))
  let s := s.put TMG.V (2 * k + s.chainBand o) (s.get AGG.S a)
  let s := s.put AGG.F_LAST a (s.get AGG.S a + tagStep c (s.get AGG.WEIGHT a))
  let n := 4 * o + k
  let s := if k = 0 then s else
    (s.put OUT.V o (s.get OFLOW.S n)).put OFLOW.F n (s.get OFLOW.S n + tagStep c (s.outWeight o k))
  let shs := (s.shapersOf d o).filter fun x => s.on SHAPER.CFG_EN x
  let charged := (shs.filter fun x => s.get SHP.MODE x == 0).map fun x =>
    (x, s.get SHAPER.STATUS_EPOCH x, s.shCost x air d.psduLen)
  let s := s.each shs fun s x => s.shCharge x (s.shCost x air d.psduLen)
  let s := s.setDown { d with stage := .released, out := o, cost := c, charged := charged, airs0 := d.airs, use0 := d.airUse }
  let s := (s.bump OUT.STATUS_INFLIGHT o).bump (if k = 0 then OUT.REL_TRUMP else OUT.REL_OTHER) o
  let s := ((s.bump TMG.REL_CNT).bump AGG.REL_CNT a).put AGG.DELAY_HWM a (max delay (s.get AGG.DELAY_HWM a))
  let s := (s.put NQ.TURN (4 * d.dest + k) (s.get AGGX.TURN a)).bump AGGX.TURN a
  let s := s.refreshAll
  let s := s.when (s.on AFLOW.BACK a) fun s => s.put AGG.S a (s.get AGG.F_LAST a)
  s.when (k != 0 && s.on OFLOW.BACK n) fun s => s.put OFLOW.S n (s.get OFLOW.F n)

/-- Add a difference, scaled by 2^16 / w and rounded up, to a flow's tags (R314). -/
def tagTrueUp (f : Nat) (d : Int) (w : Nat) : Nat := ((f : Int) + -((-(d * 65536)) / (max 1 w : Nat))).toNat

/-- Give a released downlink's place up and true its charges up to its actual use (R314). -/
def State.unrelease (s : State) (d : Down) : State :=
  if d.stage = .queued then s
  else
    let a := 4 * d.hedge + d.cls
    let airs := d.airs - d.airs0
    let use := d.airUse - d.use0
    let dd : Int := ((use + airs * s.get AGG.OVH_US a : Nat) : Int) - d.cost
    let f := tagTrueUp (s.get AGG.F_LAST a) dd (s.get AGG.WEIGHT a)
    let same := s.get AGG.S a == s.get AGG.F_LAST a
    let s := (s.put AGG.F_LAST a f).putIf same AGG.S a f
    let n := 4 * d.out + d.cls
    let s := if d.cls = 0 then s else
      let f := tagTrueUp (s.get OFLOW.F n) dd (s.outWeight d.out d.cls)
      let same := s.get OFLOW.S n == s.get OFLOW.F n
      (s.put OFLOW.F n f).putIf same OFLOW.S n f
    let s := s.each d.charged fun s x =>
      s.shTrueUp x.1 x.2.1 (((use + airs * s.get SHP.OVH x.1 : Nat) : Int) - x.2.2)
    s.drop OUT.STATUS_INFLIGHT d.out

/-- Return a downlink to the head of its class list, refunded, with ELIG as given (R302). -/
def State.giveBack (s : State) (d : Down) (elig : Option Nat) : State :=
  let s := s.unrelease d
  let d := { d with stage := .queued, charged := [], cost := 0, chain := 4, pt := 64 }
  let s := { s with downs := d :: s.downs.filter (·.uid != d.uid) }
  let s := s.when (!isFloodQ d.dest) fun s => s.put NQ.HWM d.dest (max (s.get NQ.HWM d.dest) (s.queueDepth d.dest))
  let s := match elig with | some v => s.put NQ.ELIG d.dest v | none => s
  s.refreshOne d.hedge d.dest

/-- Clear the route of an entry whose downlinks keep failing (R275). -/
def State.routeFail (s : State) (h e : Nat) : State :=
  let n := min 255 (s.get E.RUNTIME_PRIVATE (64 * e + 2) + 1)
  let s := s.put E.RUNTIME_PRIVATE (64 * e + 2) n
  if s.get FWDH.ROUTE_FAIL_MAX h ≤ n ∧ ¬ s.expH h 0 ∧ s.on E.NH_VALID e then
    (s.wrE E.NH_VALID e 0).bump FWDH.ROUTE_BREAK h
  else s

/-- What the end of a downlink with a code counts at its Hedge and at its destination (R58, R214, R254, R275, R303). -/
def State.downCounts (s : State) (d : Down) (status : Nat) : State :=
  let h := d.hedge
  let s := match status with
    | 0x11 => s.bump TMH.EXPIRED h
    | 0x07 => s.bump MACH.LBT_FAIL_CNT h
    | 0x10 => s.bump WAKEH.STALE_CNT h
    | _ => s
  if isFloodQ d.dest || s.get E.INCARNATION d.dest != d.destInc then s
  else
    let e := d.dest
    if status = 0 ∨ status = 0x10 then s.put E.RUNTIME_PRIVATE (64 * e + 2) 0
    else
      let s := (s.bumpSat E.TX_FAIL e).clr E.CHECK_DIFF e
      if status = 0x08 then s.routeFail h e else s

/-- The RESULT octets of a SEND (R437). -/
def State.sendResult (s : State) (d : Down) : List (Nat × List Nat) :=
  [(24, le 8 d.start), (32, [min 255 d.airs]), (33, [d.lqi]), (34, le 2 d.preUsed),
   (36, le 4 (if isFloodQ d.dest then 0 else d.dest)),
   (40, le 4 (d.airUse + d.airs * s.get AGG.OVH_US (4 * d.hedge + d.cls)))]

/-- A downlink that asked for an acknowledgement is remembered for a second after it has left, so that a late one is known (R224; assumption
log 159). -/
def State.rememberAck (s : State) (d : Down) : State :=
  let l := s.pastAcks.filter fun x => decide (s.mp < x.ackEnd + 2 ^ 24)
  { s with pastAcks := if d.ackReq && d.start != 0 then l ++ [{ d with ackEnd := s.mp }] else l }

/-- Take a downlink out of the part: its place, its cells and its charges. -/
def State.downOut (s : State) (d : Down) : State :=
  let s := (s.unrelease d).rememberAck d
  let s := { s with downs := s.downs.filter (·.uid != d.uid) }
  (s.cellsDrop d.hedge d.cells).refreshOne d.hedge d.dest

/-- A downlink ends with a code: it leaves, it is counted, and the command that posted it completes (R437). -/
def State.downEnd (s : State) (d : Down) (status : Nat) : State :=
  let res := s.sendResult d
  let s := (s.downOut d).downCounts d status
  match d.cmd with
  | some c => s.complete c d.opcode status (downFlags d.demoted d.colour) 0 (if d.opcode = 0x01 then res else []) (d.cls == 0)
  | none => s

/-- Every queued downlink of a node queue ends with a code (R66). -/
def State.flushQueue (s : State) (q status : Nat) : State :=
  s.each (s.downs.filter (·.dest == q)) fun s d =>
    if d.stage = .queued then s.downEnd d status else s

/-- Every waiting downlink whose lifetime has ended completes with EXPIRED: those queued, and those of class Trump that their engine holds
(R240, R251, R303). -/
def State.sweepExpired (s : State) : State :=
  s.each (s.downs.filter fun d => (d.stage == .queued || d.stage == .held) && d.expiry ≤ s.mp) fun s d => s.downEnd d 0x11

end Sys2Proof.Machine
end

