-- ==== Sys2Proof/Machine/Arm.lean ====
section
/-!
DEFINITION. The disarming of triggers with the gate's refund (R34, R209, R210), the taking of an attempt from its chain, and the stopping
of threads (R388) and of everything of a Hedge in reset (R448).
-/

namespace Sys2Proof.Machine

/-! ### Coexistence wires (R191) -/

/-- Drive the wires as they are asserted, with their polarities, unless they are at high impedance. -/
def State.coexDrive (s : State) : State :=
  let lvl (x : Bool) (pol : Fld) : Nat := if x != s.on pol then 1 else 0
  if s.on PIN.COEX_Z then s
  else (s.put PIN.COEX_REQ 0 (lvl (s.get COEXX.BY != 0) COEX.CFG_REQ_POL)).put PIN.COEX_PRI 0 (lvl (s.get COEXX.PRI != 0) COEX.CFG_PRI_POL)

/-- A mask without bit c. -/
def maskOut (m c : Nat) : Nat := m - Nat.land m (2 ^ c)

/-- Chain c no longer asserts the wires. -/
def State.coexRelease (s : State) (c : Nat) : State :=
  ((s.put COEXX.BY 0 (maskOut (s.get COEXX.BY) c)).put COEXX.PRI 0 (maskOut (s.get COEXX.PRI) c)).clr CHN.COEXU c |>.coexDrive

/-- Chain c's trigger will not fire: the wires are released at its compare value. -/
def State.coexLater (s : State) (c cmp : Nat) : State :=
  if !bit (s.get COEXX.BY) c then s
  else if cmp ≤ s.mp then s.coexRelease c
  else s.put CHN.COEXU c cmp

/-- Release what is due. -/
def State.coexDue (s : State) : State :=
  s.each [0, 1, 2, 3] fun s c => if s.get CHN.COEXU c ≠ 0 ∧ s.get CHN.COEXU c ≤ s.mp then s.coexRelease c else s

/-! ### Triggers (R34, R209, R210) -/

/-- The armed TX_START trigger aimed at chain c. -/
def State.startTrigger (s : State) (c : Nat) : Option Nat :=
  (List.range 16).find? fun n => s.on PT.STATUS_ARMED n && s.get PT.CTL_ACTION n == 1 && s.get PT.CTL_TARGET n == c

/-- Disarm a trigger; a TX_START that does not fire gives the gate's clearance with its charge (R210), its readiness up, and the wires at
its compare value (R191). -/
def State.disarm (s : State) (n : Nat) : State :=
  let was := s.on PT.STATUS_ARMED n
  let s := s.clr PT.STATUS_ARMED n
  if was && s.get PT.CTL_ACTION n == 1 && n < 16 then
    let go := s.on PTX.GO n
    let s := s.unclear n
    if go then s else s.coexLater (s.get PT.CTL_TARGET n) (s.get PT.CMP n)
  else s

/-- Take a downlink's request out of its chain's FIFO, with its trigger. -/
def State.withdraw (s : State) (d : Down) : State :=
  let s := if d.pt < 16 && s.on PT.STATUS_ARMED d.pt && s.get PT.CMP d.pt == d.c then s.disarm d.pt else s
  match s.headReq d.chain with
  | some r =>
    if r.tag = d.uid ∧ ¬ r.ack then s.popReq d.chain
    else ({ s with txReq := s.txReq.filter fun x => !(x.chain == d.chain && x.tag == d.uid && !x.ack) }).reqLevel d.chain
  | none => s

/-- Downlinks armed for or by way of an entry that is LOST or FREE from now on, and not yet on their way, are taken back and resolved anew
(R60, R65, R274). -/
def State.callBack (s : State) (e : Nat) : State :=
  let armed (d : Down) : Bool := d.stage == .armed && d.freight != .flood && d.freight != .reflood && (d.dest == e || d.hop == e)
    && s.on PT.STATUS_ARMED d.pt && s.get PT.CMP d.pt == d.c && !s.on PTX.GO d.pt
  s.each (s.downs.filter armed) fun s d => (s.withdraw d).setDown { d with stage := .released, chain := 4, pt := 64 }

/-! ### Threads (R388, R395) -/

/-- The state of a thread (R395): 0 not started, 1 running, 2 waiting or stalled, 3 halted. -/
def State.threadState (s : State) (g : Nat) : Nat := s.get ENGE.STATUS_THREADS (g / 4) / 4 ^ (g % 4) % 4

/-- Set the state of a thread. -/
def State.putThread (s : State) (g v : Nat) : State :=
  s.put ENGE.STATUS_THREADS (g / 4) (s.get ENGE.STATUS_THREADS (g / 4) - s.threadState g * 4 ^ (g % 4) + v * 4 ^ (g % 4))

/-- The next instruction. -/
def State.pcNext (s : State) (g : Nat) : State := s.put THR.PC g (s.get THR.PC g + 4)

/-- A waiting thread runs on past its instruction. -/
def State.resume (s : State) (g : Nat) : State := ((s.putThread g 1).clr THR.WAIT g).pcNext g

/-- Set an edge event of a thread that is started and not halted. -/
def State.edge (s : State) (g k : Nat) : State :=
  if s.threadState g = 1 ∨ s.threadState g = 2 then s.put THR.EVPEND g (Nat.lor (s.get THR.EVPEND g) (2 ^ k)) else s

/-- What a forward step past the value it waits for does to a thread: its TWAIT ends, and its timer sets TIMER (R383). Every step sets STEPPED
in a thread that is started. -/
def State.threadStep (s : State) (old new g : Nat) : State :=
  let past (v : Nat) : Bool := decide (old < v) && decide (v ≤ new)
  let s := if s.threadState g = 0 then s else s.put THR.EVPEND g (Nat.lor (s.get THR.EVPEND g) (2 ^ 19))
  let s := if s.on THR.TIMER_ON g && past (s.get THR.TIMER g) then (s.clr THR.TIMER_ON g).edge g 16 else s
  if s.threadState g == 2 && s.get THR.WAIT g == 2 && past (s.get THR.WVAL g) then s.resume g else s

/-- A thread issues nothing more: its windows close, its tickets complete with their results discarded, its pending store is
abandoned, and ENGE keeps what it halted with. -/
def State.stopThread (s : State) (g epc cause eval : Nat) : State :=
  let s := (s.putThread g 3).clr THR.WAIT g
  let s := s.each [0, 1, 2, 3] fun s i => s.clr WIN.OPEN (4 * g + i)
  let s := { s with cry := s.cry.filter (·.thread != g) }
  let n := 8 * (g / 4) + g % 4
  ((s.put ENGE.THR_EPC n epc).put ENGE.THR_ECAUSE n cause).put ENGE.THR_EVAL n eval

/-- A thread is stopped as a reset stops it: it reads not started (R393, R395). -/
def State.idleThread (s : State) (g : Nat) : State :=
  let s := (s.putThread g 0).clr THR.WAIT g
  let s := s.each [0, 1, 2, 3] fun s i => s.clr WIN.OPEN (4 * g + i)
  { s with cry := s.cry.filter (·.thread != g) }

/-! ### What a Hedge reset removes within 100 µs (R448, R449) -/

/-- A downlink of a Hedge in reset: one on air completes and its outcome is discarded; any other leaves, disarmed and refunded. -/
def State.downReset (s : State) (d : Down) : State :=
  if d.stage = .armed ∧ s.get TXC.STATUS_STATE d.chain = chTx ∧ (s.headReq d.chain).any (fun r => r.tag == d.uid && !r.ack) then s.setDown { d with cmd := none, ackReq := false, aim := .plain, model := false }
  else (if d.stage = .armed then s.withdraw d else s).downOut d

/-- The front-end and program threads of h stop, its downlinks leave, and what waits for the Thicket or the queues is dropped. -/
def State.hedgeStop (s : State) (h : Nat) : State :=
  let s := s.each (List.range 8) fun s k => s.idleThread (4 * (112 + 2 * h) + k)
  let s := s.each (s.downs.filter (·.hedge == h)) State.downReset
  let ours (e : Nat) : Bool := s.get E.HEDGE e == h
  { s with
    delWait := s.delWait.filter fun w => !ours w.entry
    insWait := s.insWait.filter (·.hedge != h)
    splits := s.splits.filter fun x => !ours x.entry
    reflQ := s.reflQ.filter (·.hedge != h)
    campQ := s.campQ.filter (·.hedge != h)
    repairs := s.repairs.filter (·.1 != h) }

end Sys2Proof.Machine
end

