-- ==== Sys2Proof/Machine/Raise.lean ====
section
/-!
DEFINITION. Faults and their actions (R534 to R541), the taking of a reset (R475 to R483) and the start of a Hedge
reset (R448), which the rules of every chapter may cause.
-/

namespace Sys2Proof.Machine

/-! ### Hedge reset -/

/-- A Hedge reset of h starts, or adds its cause to the one in progress (R448, R449): fetching stops, every ring
enable clears, the counts of HEDGE_RESET_DONE are taken and a RESET record is raised. -/
def State.hedgeReset (s : State) (h cause : Nat) : State :=
  let s := s.put HOSTH.RESET_CAUSE h (Nat.lor (s.get HOSTH.RESET_CAUSE h) (2 ^ cause))
  let s := s.put HST.RCAUSE h (Nat.lor (s.get HST.RCAUSE h) (2 ^ cause))
  if s.on HOSTH.STATUS_IN_RESET h then s
  else
    let mine := s.started.filter (·.ring == h)
    let run := mine.filter fun x => s.isRunning h x.tag x.index
    let ended := (mine.filter fun x => !x.sent && !run.contains x).length
    let cons := s.get HOSTH.RING_CONS (rix h 0)
    let prod := s.get HOSTH.RING_PROD (rix h 0)
    let s := (s.set HOSTH.STATUS_IN_RESET h).set HOSTH.CTL_HRESET h
    let s := ((s.put HST.CONS0 h cons).put HST.PROD0 h prod).bump HOSTH.HEDGE_DISCARD_CNT h ((prod + 2 ^ 32 - cons) % 2 ^ 32)
    let s := (((s.clr HOSTH.CTL_CMD_EN h).clr HOSTH.CTL_CPL_EN h).clr HOSTH.CTL_EV_EN h).clr HOSTH.CTL_RX_EN h
    let s := (s.clr HST.DRAIN h).put HST.ENDED0 h ended
    let s := (s.put HST.RUN_END h (if run = [] then 1 else 0)).putIf (run == []) HST.RUN_OP h 0
    let s := { s with started := s.started.filter fun x => x.ring != h || run.contains x,
                      cplQ := s.cplQ.filter fun x => x.ring % 16 != h,
                      posted := s.posted.filter (·.1 % 16 != h), tunCmds := s.tunCmds.filter (·.hedge != h) }
    let s := s.when (h < 8) (·.hedgeStop h)
    let s := (s.put HOSTH.OUTSTANDING_NOW h run.length).put HOSTH.ADMIN_LEVEL h run.length
    s.record 2 3 0 0 (some h) 0 0 [(0, [s.get HOSTH.RESET_CAUSE h])]

/-! ### Taking a reset -/

/-- Blocks that no system or power-on reset touches: the calendar and backup domain (R475). -/
def backupBlock (id : Nat) : Bool := 0xE00000 * 64 ≤ id && id < 0xE01000 * 64

/-- The fields a system reset keeps besides: reset bookkeeping, what MRAM and OTP hold, the Scorepad writer's
state that the scan rebuilds, the latches of the backup domain, and the model's own counters. -/
def sysKept : List Fld :=
  [RST.RST_CAUSE, RST.LAST_LEVEL, RST.LAST_RESTARTS, RST.SYS_CNT, RST.CORE_CNT,
   MODEL.FRESH, CLK.CYC] ++
  [SCP.HEAD_SEQ, SCP.HEAD_ERA, SCP.OLDEST_SEQ, SCP.OLDEST_ERA, SCP.COUNT, SCPX.NEXT] ++
  [SECH.HEDGE_EPOCH, SECH.GROUP_GEN, SECH.GROUP_INDEX, TRUST.ANCHOR0, TRUST.ANCHOR1, TRUST.CTL_VALID0,
   TRUST.CTL_VALID1, TRUST.CTL_LOCK] ++
  [KSLOT.META_STATE, KSLOT.META_USE, KSLOT.META_TYPE, KSLOT.META_LEVEL, KSLOT.META_OWNER, KSLOT.META_PARENT,
   KSLOT.GEN_GEN, KSLOT.GEN_PARENT_GEN, KSLOT.WRITE_CNT, KSLOT.CREATED] ++
  [TWIN.TAKEOVER_EPOCH, CAL.STATUS_FACTORY, CAL.WRITE_CNT, PADS.TAMPER_STATE, PADS.TAMPER_EVENT,
   PADS.CTL_TAMPER_EN, PADS.TAMPER_TIME_LO, PADS.TAMPER_TIME_HI, PIN.PWRON_CTL]

/-- Whether a field number is one of some fields'. -/
def isOf (Fs : List Fld) (id : Nat) : Bool := Fs.any (·.id == id)

/-- The inner fields that lie in MRAM, OTP, flash or the backup domain. -/
def innerKept (id : Nat) : Bool := isOf keptInner id

/-- The state at the start of a power-on or system reset (R475): every field and memory at its reset value, but
for what MRAM, OTP, the boot flash, the backup domain and the world outside hold. -/
def State.resetTo (s : State) : State :=
  { State.reset with
    cells := s.cells.filter fun c => backupBlock c.1.1 || isOf sysKept c.1.1 || innerKept c.1.1
    wire := s.wire, mem.mram := s.mem.mram, ledgerM := s.ledgerM, mem.host := s.mem.host, mem.flash := s.mem.flash, resetLog := s.resetLog, pending := s.pending }

/-- A missed occurrence of calendar trigger n joins its record (R530). -/
def State.missAdd (s : State) (n lo hi : Nat) : State :=
  let s := if s.get RTC.CTRIG_MISS_CNT n = 0 then (s.put RTC.CTRIG_MISS_FIRST_LO n lo).put RTC.CTRIG_MISS_FIRST_HI n hi else s
  s.bumpSat RTC.CTRIG_MISS_CNT n

/-- READY is lost: every occurrence that is PENDING is missed (R530). -/
def State.pendMissed (s : State) : State :=
  s.each (List.range 16) fun s n =>
    if s.on RTC.CTRIG_CTL_PENDING n then
      ((s.clr RTC.CTRIG_CTL_PENDING n).clr CTX.POSTED n).missAdd n (s.get CTX.PEND_LO n) (s.get CTX.PEND_HI n)
    else s

/-- The cause bits of RST_CAUSE after a cause (R478). -/
def State.addCause (s : State) (bit : Nat) : State :=
  s.put RST.RST_CAUSE 0 (Nat.lor (s.get RST.RST_CAUSE) (2 ^ bit))

/-- Take a core reset (R486, R489): it is recorded, READY clears and FAULT_N is low until the sequence ends. One
that arrives while a sequence runs adds its cause only (R482). -/
def State.takeCore (s : State) (bit : Nat) : State :=
  let s := s.addCause bit
  if s.get RSTX.LEVEL ≠ 0 then s
  else
    let s := (((s.pendMissed.put RSTX.LEVEL 0 1).put RSTX.CYC 0 (s.get CLK.CYC)).clr BOOT.STATUS_READY).set FLT.STATUS_FAULT_N
    let s := (((s.put RST.LAST_LEVEL 0 2).clr RST.LAST_RESTARTS).bump RST.CORE_CNT).twinDemote true |>.clr TWIN.STATUS_SYNCED
    s.record 2 2 0 0 none 0 0 [(0, le 2 (s.get RST.RST_CAUSE)), (2, [0])]

/-- Take a system reset (level 2) or a power-on reset (level 3) (R475, R478, R482): everything but what is kept
returns to its reset value; a request during a sequence starts it again at the higher level and counts in
RESTARTS, but one in the cycle in which the sequence began makes one reset with it. A hold of R479, R508 or R541 outlasts a system reset. `fault` says that a fault decision of class CORE or SYSTEM started it, which holds FAULT_N low (R488). -/
def State.takeSys (s : State) (level bit : Nat) (fault : Bool) : State :=
  let running := s.get RSTX.LEVEL != 0
  let lv := max level (s.get RSTX.LEVEL)
  let same := running && s.get RSTX.CYC == s.get CLK.CYC
  let restarts := if same then s.get RST.LAST_RESTARTS else if running then min 255 (s.get RST.LAST_RESTARTS + 1) else 0
  let low := fault || (running && s.on RSTX.FAULT_START)
  let s' := s.pendMissed.resetTo
  let s' := if level = 3 then s'.put RST.RST_CAUSE 0 (2 ^ bit) else s'.addCause bit
  let hold := level != 3 && s.on RSTX.HELD
  let low := low || hold
  let s' := if hold then ((s'.set RSTX.HELD).put BOOT.STATUS_HOLD 0 (s.get BOOT.STATUS_HOLD)).put BOOT.HOLD_WORD 0 (s.get BOOT.HOLD_WORD) else s'
  let s' := s'.putIf (level != 3) RSTX.STOPPED 0 (s.get RSTX.STOPPED)
  let s' := ((s'.put RST.LAST_LEVEL 0 (3 - lv)).put RST.LAST_RESTARTS 0 restarts).put RSTX.LEVEL 0 lv
  let s' := s'.putIf (same && s.get RSTX.LEVEL == 1) RST.CORE_CNT 0 (s.get RST.CORE_CNT + 2 ^ 32 - 1)
  let s' := if lv = 3 then (s'.clr RST.SYS_CNT).clr RST.CORE_CNT else if same && s.get RSTX.LEVEL == 2 then s' else s'.bump RST.SYS_CNT
  let s' := s'.put RSTX.CYC 0 (s.get CLK.CYC)
  (s'.put RSTX.FAULT_START 0 (if low then 1 else 0)).put FLT.STATUS_FAULT_N 0 (if low then 1 else 0)

/-! ### Faults -/

/-- Whether a fault-caused reset of a level now would be the third within `win` seconds (R539): the window is judged
by the stamps of the RESET records, this one's too; any of them without CAL_VALID satisfies it. -/
def State.thirdReset (s : State) (level win : Nat) : Bool :=
  let two := ((s.resetLog.filter (·.level == level)).reverse.take 2)
  two.length == 2 && (s.on RTC.STATUS_OSC_STOPPED || two.any (!·.valid) || two.all fun r => decide (s.calSeconds < r.at_ + win))

/-- The class a fault is decided in, after escalation (R539). -/
def State.escalate (s : State) (action : Nat) : Nat :=
  let a := if action = 4 ∧ s.thirdReset 1 600 then 5 else action
  if a = 5 ∧ s.thirdReset 2 3600 then 6 else a

/-- The stamp of a fault-caused reset (R539); a core request that a running sequence absorbs is none (R482). -/
def State.stampReset (s : State) (level : Nat) : State :=
  if level = 1 ∧ s.get RSTX.LEVEL ≠ 0 then s
  else { s with resetLog := s.resetLog ++ [⟨level, s.calSeconds, !s.on RTC.STATUS_OSC_STOPPED⟩] }

/-- Set the FAULT mute cause of every chain (R534). -/
def State.muteFault (s : State) : State := s.each [0, 1, 2, 3] fun s c => s.muteSet c (2 ^ 8)

/-- STATUS.THREADS of an engine with every started thread halted (R395). -/
def haltedThreads (v : Nat) : Nat :=
  ((List.range 4).map fun t => if v / 4 ^ t % 4 = 0 then 0 else 3 * 4 ^ t).sum

/-- Every started thread of every engine is halted: none waits, and windows and tickets close (R388). -/
def State.haltEngines (s : State) : State :=
  let l := s.cells.filter fun c => c.1.1 != THR.WAIT.id && c.1.1 != WIN.OPEN.id
  { s with cells := l.map fun c => if c.1.1 = ENGE.STATUS_THREADS.id then (c.1, haltedThreads c.2) else c, cry := [] }

/-- Enter the safe state (R540). -/
def State.safeState (s : State) : State :=
  let s := (s.haltEngines.muteFault.put FLT.STATUS_STATE 0 2).set FLT.STATUS_FAULT_N
  let s := s.each [0, 1, 2, 3] fun s p => s.set RXX.PORT_OUT p
  s.each [0, 1, 2, 3, 4, 5, 6, 7] fun s h => s.hedgeReset h 6

/-- Whether the safe state holds, which no fault's reset ends (R540). -/
def State.safe (s : State) : Bool := s.get FLT.STATUS_STATE == 2

/-- The action of a class, once it is decided and recorded (R534): MASKED, UNIT_OUT and MUTE leave the unit's own
part to the rule that found the fault. In the safe state no reset follows (R540). -/
def State.act (s : State) (action : Nat) (hedge : Option Nat) (injected : Bool) : State :=
  if s.safe ∧ (action = 4 ∨ action = 5 ∨ action = 6) then s.bump FLT.ESC_CNT else
  match action with
  | 0 => s.bump FLT.MASKED_CNT
  | 1 => ((s.bump FLT.UNIT_CNT).set FLT.EVENT_UNIT_OUT).putIf (s.get FLT.STATUS_STATE == 0) FLT.STATUS_STATE 0 1
  | 2 => (s.bump FLT.UNIT_CNT).set FLT.EVENT_MUTE
  | 3 =>
    let s := (s.bump FLT.UNIT_CNT).set FLT.EVENT_HEDGE
    match hedge with | some h => s.hedgeReset h 6 | none => s
  | 4 => ((s.bump FLT.ESC_CNT).muteFault.when (!injected) (·.stampReset 1)).takeCore 9
  | 5 => (((s.bump FLT.ESC_CNT).muteFault.twinDemote true).when (!injected) (·.stampReset 2)).takeSys 2 9 true
  | 6 => ((s.bump FLT.ESC_CNT).twinDemote false).safeState
  | _ => (s.takeSys 2 9 true).set RSTX.STOPPED

/-- A detected fault (R534 to R537): its class is decided, the record queued, LAST written and the action begun. A
record of a class that resets the part is raised before the reset, whose scan keeps it waiting (R546). -/
def State.fault (s : State) (code unit action : Nat) (hedge : Option Nat := none) (addr : Nat := 0)
    (count : Nat := 0) (detail : List (Nat × List Nat) := []) (injected : Bool := false) : State :=
  let a := if injected then action else s.escalate action
  let s := s.record 1 code unit a hedge addr count detail injected
  let s := (s.put FLT.LAST_CODE 0 code).put FLT.LAST_UNIT 0 unit
  let q := s.scpQ
  let s := s.act a hedge injected
  if a = 5 ∨ a = 7 then ({ s with scpQ := q ++ s.scpQ }).put SCP.QUEUE 0 (q ++ s.scpQ).length else s

/-- A fault that is itself a source of R477: its bit is set beside the escalation's, when a reset is taken. -/
def State.sourceFault (s : State) (code unit action bit : Nat) (injected : Bool := false) : State :=
  let a := if injected then action else s.escalate action
  (if s.safe || a == 6 then s else s.addCause bit).fault code unit action none 0 0 [] injected

end Sys2Proof.Machine
end

