-- ==== Sys2Proof/Machine/Reach.lean ====
section
/-!
DEFINITION. What a requester reaches (spec/00_scope.md, spec/19_register_space.md): the requesters and their views, the register blocks, bus
errors, and the passage of a command that is a register access through its requester's view.
-/

namespace Sys2Proof.Machine

open Sys2Proof

/-! ### Requesters -/

/-- A requester's number in the instances of X64. -/
def Req.code : Req → Nat
  | .steward => 0
  | .priv => 1
  | .hedge h => 2 + h
  | .thread g => 16 + g

/-- The number of a requester's view: 0 the privileged one, h + 1 Hedge h's (R574, R579). -/
def viewOf : Req → Nat
  | .steward => 0
  | .priv => 0
  | .hedge h => h + 1
  | .thread g => if g / 4 < 112 then 0 else (g / 4 - 112) / 2 + 1

/-- A bus error: nothing changes but ERR of the view; a read answers all ones (R576). -/
def State.busErr (s : State) (r : Req) (off : Nat) : State :=
  let (i, w) := if viewOf r = 0 then (8, 28) else (viewOf r - 1, 24)
  (((s.put SYS.ERR_ADDR i (off % 2 ^ w)).bump SYS.ERR_CNT i).put MODEL.RESP 0 1).put MODEL.DATA 0 0xFFFFFFFF

/-- The instance of X64 for a requester and a 64-bit register. -/
def x64 (r : Req) (addr : Nat) : Nat := Req.code r * 2 ^ 28 + addr

/-- The 64-bit value a low-word write makes, with the high word the same requester wrote last (R3). -/
def State.join64 (s : State) (r : Req) (addr v : Nat) : Nat :=
  s.get X64.PEND (x64 r addr) * 2 ^ 32 + v % 2 ^ 32

/-! ### The block map (R574, R577, R579) -/

/-- The register blocks: first offset, end of the last instance, and fields (R579). -/
def blocks : List (Nat × Nat × List Fld) :=
  [(0x0, 0x248, SYS.flds), (0x400000, 0x400180, TIME.flds), (0x401000, 0x4017FC, PT.flds), (0x402000, 0x402200, CU.flds),
   (0x403000, 0x403120, PTP_PORT.flds), (0x404000, 0x404078, BEACON.flds), (0x500000, 0x500030, THK.flds),
   (0x501000, 0x5011FC, THK_HEDGE.flds), (0x502000, 0x5022F8, LEARN_LANE.flds), (0x600000, 0x6000EC, APRX.flds),
   (0x601000, 0x601160, SLICE.flds), (0x602000, 0x602400, DDC.flds), (0x603000, 0x6035FC, LANE.flds),
   (0x604000, 0x604010, BLANK.flds), (0x605000, 0x605010, DEMOD.flds), (0x605100, 0x6051C0, DET.flds),
   (0x606000, 0x60602C, LDPC.flds), (0x607000, 0x6075FC, LANE_RX.flds), (0x610000, 0x610338, TXC.flds),
   (0x611000, 0x611154, SY.flds), (0x612000, 0x6121B0, TXPORT.flds), (0x613000, 0x613024, COEX.flds),
   (0x620000, 0x62007C, REGPROF.flds), (0x620100, 0x6204F4, SB.flds), (0x620600, 0x620700, DUTY.flds),
   (0x621000, 0x621038, MAC.flds), (0x622000, 0x6221F0, MACH.flds), (0x623000, 0x6230F8, CHPLAN.flds),
   (0x624000, 0x624100, PANMAP.flds), (0x630000, 0x630080, WAKE.flds), (0x630100, 0x63013C, TXPRE.flds),
   (0x631000, 0x6313C4, WAKEH.flds), (0x640000, 0x640010, FWD.flds), (0x641000, 0x6413F8, FWDH.flds),
   (0x642000, 0x6421EC, CAMP.flds), (0x700000, 0x700080, TMG.flds), (0x700100, 0x7001E0, OUT.flds),
   (0x700800, 0x7009F0, TMH.flds), (0x701000, 0x7017EC, AGG.flds), (0x701800, 0x701A20, QPROBE.flds),
   (0x702000, 0x7027EC, WATCH.flds), (0x710000, 0x718000, SHAPER.flds), (0x740000, 0x75FFE4, FIFO.flds),
   (0x800000, 0x8FFFEC, METER.flds), (0x900000, 0x9000E0, SEC.flds), (0x901000, 0x9013C0, SECH.flds),
   (0x902000, 0x9027C4, TRUST.flds), (0x908000, 0x90FFF4, KSLOT.flds), (0xA00000, 0xA0000C, ENG.flds),
   (0xA01000, 0xA04FE0, ENGE.flds), (0xA08000, 0xA081E8, ENGH.flds), (0xB00000, 0xB0001C, HOSTG.flds),
   (0xB01000, 0xB013C8, HBIND.flds), (0xB10000, 0xB18180, HOSTH.flds), (0xC00000, 0xC00038, TWIN.flds),
   (0xC01000, 0xC01020, PRP.flds), (0xD00000, 0xD00014, RST.flds), (0xD01000, 0xD010B0, BOOT.flds),
   (0xD02000, 0xD0200C, OTP.flds), (0xD03000, 0xD03090, DDR.flds), (0xD04000, 0xD04010, CAL.flds),
   (0xE00000, 0xE00600, RTC.flds), (0xF00000, 0xF0002C, FLT.flds), (0xF01000, 0xF01028, SCP.flds),
   (0x1000000, 0x1000030, PADS.flds)]

/-- The instance of field F that has a word at an offset, and whether it is the high word. -/
def Fld.hit (F : Fld) (off : Nat) : Option (Nat × Bool) :=
  let d := off - F.base
  let n := if F.stride = 0 then 0 else d / F.stride
  let o := d - F.stride * n
  if off < F.base || !F.has n then none
  else if o = 0 then some (n, false)
  else if o = 4 ∧ F.wide then some (n, true)
  else none

/-- The fields of the word at an offset, with their instance, and whether it is their high word; empty where no register lies. -/
def wordFlds (off : Nat) : List (Fld × Nat × Bool) :=
  match blocks.find? fun b => b.1 ≤ off && off < b.2.1 with
  | some b => b.2.2.filterMap fun F => (F.hit off).map fun p => (F, p.1, p.2)
  | none => []

/-- Whether a register lies at an offset. -/
def isReg (off : Nat) : Bool := !(wordFlds off).isEmpty

/-- Whether an offset lies in a 4 KiB page that holds a register (R577). -/
def isMapped (off : Nat) : Bool := blocks.any fun b => b.1 / 4096 ≤ off / 4096 && off / 4096 ≤ (b.2.1 - 1) / 4096

/-- Whether the Hedge view column of R579 grants h the instance at an offset. -/
def State.grants (s : State) (h off : Nat) : Bool :=
  let inst (lo n stride : Nat) : Bool := lo + n * stride ≤ off && off < lo + (n + 1) * stride
  let owned (lo stride count : Nat) (F : Fld) : Bool := lo ≤ off && off < lo + stride * count && s.get F ((off - lo) / stride) == h
  off < 0x18 || off == 0x80 + 4 * h || inst 0x100 h 0x10 || inst 0x200 h 8
    || owned 0x401000 0x20 64 PT.CTL_OWNER || owned 0x402000 0x20 16 CU.CTL_OWNER || inst 0x404000 h 0x10 || inst 0x501000 h 0x40
    || inst 0x622000 h 0x40 || inst 0x623000 h 0x20 || inst 0x631000 h 0x80 || inst 0x641000 h 0x80 || inst 0x642000 h 0x40
    || inst 0x700800 h 0x40 || inst 0x701000 h 0x100 || inst 0x701800 h 0x40
    || owned 0x702000 0x20 64 WATCH.CFG_OWNER || owned 0x710000 0x20 1024 SHAPER.CFG_OWNER || owned 0x740000 0x40 2048 FIFO.CFG_OWNER
    || owned 0x800000 0x40 16384 METER.CFG_OWNER || inst 0x901000 h 0x80 || inst 0x902000 h 0x100
    || owned 0x908000 0x20 1024 KSLOT.META_OWNER || inst 0xA08000 h 0x40 || inst 0xB10000 h 0x1000
    || (0xE00000 ≤ off && off < 0xE00020) || off == 0xE00024 || owned 0xE00100 0x20 16 RTC.CTRIG_CTL_OWNER || inst 0xE00500 h 0x20

/-- What a requester meets at an offset: 0 a register, 1 a bus error, 2 no answer to a host before READY (R487), 3 a gap of a mapped page, 4 the
recovery window (R499). -/
def State.reachWord (s : State) (r : Req) (off len : Nat) : Nat :=
  let priv := viewOf r == 0
  let host := match r with | .priv => true | .hedge _ => true | _ => false
  let window := priv && 0xF000000 ≤ off && off < 0x10000000
  if off % 4 ≠ 0 ∨ len ≠ 4 then 1
  else if window && s.on BOOTX.RECOV then 4
  else if host && !s.on BOOT.STATUS_READY then if priv && 0xD00000 ≤ off && off < 0xD03000 && isReg off then 0 else 2
  else if priv then if isReg off then 0 else if off < 2 ^ 28 && isMapped off then 3 else 1
  else if off < 2 ^ 24 && s.grants (viewOf r - 1) off && isReg off then 0 else 1

/-! ### Commands that are register accesses (R13, R576) -/

/-- A command that is a write of the register at an offset: it acts where its requester reaches the register, and else is a bus error, or
goes unanswered before READY (R13, R487, R576). -/
def State.onBus (s : State) (r : Req) (off : Nat) (f : State → Host.Outcome State Fault Refusal) : Host.Outcome State Fault Refusal :=
  match s.reachWord r off 4 with
  | 0 => f s
  | 2 => .next (s.put MODEL.RESP 0 2)
  | _ => .next (s.busErr r off)

/-- A write of a register that the privileged view alone writes: a Hedge view that shows it ignores the write (R579). -/
def State.onPriv (s : State) (r : Req) (off : Nat) (f : State → Host.Outcome State Fault Refusal) : Host.Outcome State Fault Refusal :=
  s.onBus r off fun s => if viewOf r = 0 then f s else .next s

/-- A command that is a read of the register at an offset: where its requester does not reach it, all ones (R487, R576). -/
def State.onRead (s : State) (r : Req) (off : Nat) (f : State → Host.Outcome State Fault Refusal) : Host.Outcome State Fault Refusal :=
  match s.reachWord r off 4 with
  | 0 => f s
  | 2 => .next ((s.put MODEL.DATA 0 0xFFFFFFFF).put MODEL.RESP 0 2)
  | _ => .next (s.busErr r off)

end Sys2Proof.Machine
end

