-- ==== Sys2Proof/Machine/Receive.lean ====
section
/-!
DEFINITION. The receive side up to the lanes (spec/03_listening_lanes.md): stepped gain (R91 to R94), slices (R95,
R96), down-converters (R97), lane bindings (R99, R100), energy maps (R102 to R107) and self-blanking (R108, R109).
-/

namespace Sys2Proof.Machine

open Sys2Proof

/-! ### Ports, slices and branches -/

/-- The aerial port of a slice (R95). -/
def slicePort (n : Nat) : Nat := [0, 0, 1, 1, 2, 3].getD n 0

/-- The port in the same band. -/
def companion (p : Nat) : Nat := if p % 2 = 0 then p + 1 else p - 1

/-- Whether a port receives (R103, R111). -/
def State.portOn (s : State) (p : Nat) : Bool := s.on APRX.CTL_EN p && !s.on RXX.PORT_OUT p

/-- The slices' centre in Hz: FC, or the LO. -/
def State.sliceCentre (s : State) (n : Nat) : Nat := s.get SLICE.FC n * 1000

/-- The aerial port of a DDC. -/
def State.ddcPort (s : State) (d : Nat) : Nat := slicePort (s.get DDC.CTL_SLICE d)

/-- The aerial ports of a lane: branch A, and branch B when it is paired. -/
def State.lanePorts (s : State) (l : Nat) : List Nat :=
  let a := s.ddcPort (s.get LANE.CFG_DDC_A l)
  if s.on LANE.CFG_PAIR l then [a, s.ddcPort (s.get LANE.CFG_DDC_B l)] else [a]

/-- The lanes. -/
def allLanes : List Nat := List.range 48

/-- Whether a lane has a branch on a port. -/
def State.laneOn (s : State) (l p : Nat) : Bool := (s.lanePorts l).contains p

/-- Change the frames in flight on the lanes a test picks. -/
def State.inFlight (s : State) (pick : LaneFrame → Bool) (f : LaneFrame → LaneFrame) : State :=
  { s with frames := s.frames.map fun x => if !x.ended && pick x then f x else x }

/-- The frame a lane is receiving. -/
def State.frameOf (s : State) (l : Nat) : Option LaneFrame := s.frames.find? fun x => x.lane == l && !x.ended

/-- The lane no longer receives. -/
def State.laneIdle (s : State) (l : Nat) : State :=
  ((s.clr LANE.STATUS_RECEIVING l).clr LANE.STATUS_BRANCH_A_OK l).clr LANE.STATUS_BRANCH_B_OK l

/-- Drop the frame a lane is receiving. -/
def State.laneDrop (s : State) (l : Nat) : State :=
  ({ s with frames := s.frames.filter fun x => !(x.lane == l && !x.ended) }).laneIdle l

/-- Keep BRANCH_A_OK or BRANCH_B_OK of a lane for the branch on port p. -/
def State.branchOk (s : State) (l p : Nat) (ok : Bool) : State :=
  let v := if ok then 1 else 0
  match s.lanePorts l with
  | a :: rest =>
    let s := s.putIf (a == p) LANE.STATUS_BRANCH_A_OK l v
    match rest with
    | b :: _ => s.putIf (b == p) LANE.STATUS_BRANCH_B_OK l v
    | [] => s
  | [] => s

/-! ### Stepped gain (R91 to R94) -/

/-- Move a port to a gain index: the step counts in every frame in flight on the port (R92, R93, R114). -/
def State.gainStep (s : State) (p idx : Nat) : State :=
  if s.get APRX.STATUS_GAIN_IDX p = idx then s
  else
    let ls := allLanes.filter fun l => s.laneOn l p
    let first := ls.filter fun l => match s.frameOf l with | some f => f.steps == 0 | none => false
    let s := s.inFlight (fun x => ls.contains x.lane) fun x => { x with steps := min 255 (x.steps + 1) }
    (s.each first fun s l => s.bump LANE.STEP_FRAME_CNT l).put APRX.STATUS_GAIN_IDX p idx

/-- A clipped sample in a window of a port (R93, R101). -/
def State.clipWindow (s : State) (p : Nat) : State :=
  let ls := allLanes.filter fun l => s.laneOn l p
  let s := (s.bump APRX.CLIP_CNT p).inFlight (fun x => ls.contains x.lane) fun x =>
    { x with clipped := true, lost := x.lost || s.on LANE.CFG_PAIR x.lane }
  s.each (ls.filter fun l => s.on LANE.STATUS_RECEIVING l) fun s l => s.branchOk l p false

/-- Whether a port's receivers hear now: it receives and does not transmit (R109). -/
def State.hears (s : State) (p : Nat) : Bool :=
  s.portOn p && !s.blanks.any fun b => b.port == p && !b.closed

/-- AGC_WINDOW_END: the end of a 250 ns window on port p (R91, R93, R94); a branch that is neither clipped nor blanked counts again (R101). -/
def execAgcWindowEnd (p : Nat) (peak : Int) (clipped : Bool) (s : State) : Host.Outcome State Fault Refusal :=
  if 4 ≤ p then .next s
  else if !s.portOn p then .next (if s.on APRX.CTL_AGC_EN p then s else s.gainStep p (s.get APRX.CTL_MANUAL_GAIN p))
  else
    let frozen := s.on APRX.STATUS_FROZEN p
    let s := if clipped then s.clipWindow p
      else if !s.hears p then s
      else s.each (allLanes.filter fun l => s.on LANE.STATUS_RECEIVING l && s.laneOn l p) fun s l => s.branchOk l p true
    let idx := s.get APRX.STATUS_GAIN_IDX p
    if !s.on APRX.CTL_AGC_EN p then .next (s.gainStep p (s.get APRX.CTL_MANUAL_GAIN p))
    else if frozen then .next s
    else if 16 * s.getI APRX.AGC_THR_HIGH_THR p ≤ peak then
      let s := s.clr RXX.QUIET p
      .next (if idx < 7 then (s.gainStep p (idx + 1)).bump APRX.STEP_DN_CNT p else s)
    else if peak < 16 * s.getI APRX.AGC_THR_LOW_THR p then .next (s.bump RXX.QUIET p)
    else .next (s.clr RXX.QUIET p)

/-- AGC_UP_HOLD_EXPIRE: every window for UP_HOLD has been below LOW_THR (R91). -/
def execAgcUpHoldExpire (p : Nat) (s : State) : Host.Outcome State Fault Refusal :=
  if 4 ≤ p || !s.portOn p || !s.on APRX.CTL_AGC_EN p || s.on APRX.STATUS_FROZEN p
      || s.get RXX.QUIET p < 4 * s.get APRX.UP_HOLD p then .next s
  else
    let idx := s.get APRX.STATUS_GAIN_IDX p
    let s := s.clr RXX.QUIET p
    .next (if 0 < idx then (s.gainStep p (idx - 1)).bump APRX.STEP_UP_CNT p else s)

/-- AGC_THR_WRITE: HIGH_THR − LOW_THR must be at least 9 dB (R91). -/
def execAgcThrWrite (r : Req) (p v : Nat) (s : State) : Host.Outcome State Fault Refusal :=
  s.onBus r (APRX.AGC_THR_HIGH_THR.addr p) fun s =>
  if 4 ≤ p then .next s
  else if toInt 8 (bits v 8 8) + 9 ≤ toInt 8 v then
    .next ((s.put APRX.AGC_THR_HIGH_THR p v).put APRX.AGC_THR_LOW_THR p (bits v 8 8))
  else .next (s.set APRX.EVENT_BAD_CFG p)

/-- The receive LO of AP2 and AP3 at LO_MHZ: DIV 2, and the word rounded to nearest (R96, R159). -/
def State.loTune (s : State) (p : Nat) : State :=
  let w := (2 * (s.get APRX.LO_MHZ p * 2 ^ 24) + 20) / 40
  if p < 2 then s else ((s.put SY.WORD_INT (p + 2) (w / 2 ^ 24)).put SY.WORD_FRAC (p + 2) w).put SY.DIV (p + 2) 2

/-- SY4 or SY5 begins the full calibration of its port's enable, or stops (R165). -/
def State.loEnable (s : State) (p : Nat) (en : Bool) : State :=
  if p < 2 then s
  else
    let s := s.clr SY.STATUS_LOCK (p + 2)
    if en then (s.loTune p).set SY.STATUS_CAL_RUNNING (p + 2) else s.clr SY.STATUS_CAL_RUNNING (p + 2)

/-- A port receives from now on; the map period in progress is not measured whole (R104), and its LO calibrates (R165). -/
def State.portStart (s : State) (p : Nat) : State := ((s.set APRX.CTL_EN p).put RXX.ON_AT p s.mp).loEnable p true

/-- APRX_CTL_WRITE: EN, AGC_EN and MANUAL_GAIN; an AGC that is enabled, or a port, starts a new UP_HOLD interval
(R91, R94). -/
def execAprxCtlWrite (r : Req) (p v : Nat) (s : State) : Host.Outcome State Fault Refusal :=
  s.onBus r (APRX.CTL_EN.addr p) fun s =>
  if 4 ≤ p then .next s
  else
    let start := (v.testBit 0 && !s.on APRX.CTL_EN p) || (v.testBit 1 && !s.on APRX.CTL_AGC_EN p)
    let s := s.putIf (v.testBit 0 && !s.on APRX.CTL_EN p) RXX.ON_AT p s.mp
    let s := if v.testBit 0 != s.on APRX.CTL_EN p then s.loEnable p (v.testBit 0) else s
    let s := ((s.put APRX.CTL_EN p v).put APRX.CTL_AGC_EN p (bits v 1 1)).put APRX.CTL_MANUAL_GAIN p (bits v 4 3)
    .next (s.putIf start RXX.QUIET p 0)

/-! ### Slices and down-converters (R95 to R97) -/

/-- Whether an enabled DDC selects a slice. -/
def State.sliceUsed (s : State) (n : Nat) : Bool :=
  (List.range 64).any fun d => s.on DDC.CTL_EN d && s.get DDC.CTL_SLICE d == n

/-- LO_MHZ_WRITE: the LO of AP2 or AP3, while neither the port's slice nor a DDC on it is enabled (R96, R102). AP0 and AP1 have no LO; a
write there is ignored and sets no flag (assumption log 150). -/
def execLoMhzWrite (r : Req) (p v : Nat) (s : State) : Host.Outcome State Fault Refusal :=
  s.onBus r (APRX.LO_MHZ.addr p) fun s =>
  let v := v % 2 ^ 12
  if p < 2 ∨ 4 ≤ p then .next s
  else if 2422 ≤ v ∧ v ≤ 2462 ∧ ¬ s.on SLICE.CTL_EN (p + 2) ∧ ¬ s.sliceUsed (p + 2) then
    .next ((((s.put APRX.LO_MHZ p v).loTune p).put SLICE.FC (p + 2) (v * 1000)).put SLICE.BIN0_FREQ (p + 2) ((v - 40) * 1000000))
  else .next (s.set APRX.EVENT_BAD_CFG p)

/-- Whether a DDC may be enabled at a frequency on a slice (R97). -/
def State.ddcOk (s : State) (n f : Nat) : Bool :=
  let c := s.sliceCentre n
  if n < 4 then decide (f ≤ c + 19000000 ∧ c ≤ f + 19000000)
  else decide (f ≤ c + 39000000 ∧ c ≤ f + 39000000 ∧ (c + 1000000 ≤ f ∨ f + 1000000 ≤ c) ∧ 2403000000 ≤ f ∧ f ≤ 2481000000)

/-- DDC_WRITE: CTL at offset 0 or FREQ at offset 4, only while no enabled lane binds the DDC (R97, R113). -/
def execDdcWrite (r : Req) (d off v : Nat) (s : State) : Host.Outcome State Fault Refusal :=
  s.onBus r (DDC.CTL_EN.addr d + off) fun s =>
  if 64 ≤ d then .next s
  else
    let en := if off = 0 then v % 2 else s.get DDC.CTL_EN d
    let n := if off = 0 then bits v 1 3 else s.get DDC.CTL_SLICE d
    let f := if off = 0 then s.get DDC.FREQ d else v % 2 ^ 32
    if s.get DDC.CTL_LANE d ≠ 0xFF ∨ 6 ≤ n ∨ (en = 1 ∧ ¬ s.ddcOk n f) then .next (s.set DDC.EVENT_BAD_CFG d)
    else .next (((s.put DDC.CTL_EN d en).put DDC.CTL_SLICE d n).put DDC.FREQ d f)

/-! ### Lane configurations (R99, R100, R117) -/

/-- Whether a CFG value meets R99 against every lane's configuration now. -/
def State.laneCfgOk (s : State) (l v : Nat) : Bool :=
  let a := bits v 8 6
  let b := bits v 16 6
  let free (d : Nat) := s.on DDC.CTL_EN d && (s.get DDC.CTL_LANE d == 0xFF || s.get DDC.CTL_LANE d == l)
  if v % 2 = 0 then true
  else if bit v 1 then
    free a && free b && s.get DDC.CTL_SLICE a / 2 == 0 && s.get DDC.CTL_SLICE b / 2 == 1 && s.get DDC.FREQ a == s.get DDC.FREQ b
      && (allLanes.filter fun k => k != l && s.on LANE.CFG_EN k && s.on LANE.CFG_PAIR k).length < 16
  else free a

/-- Put a CFG value into force: the DDCs it leaves are released, those it binds are taken (R97, R100). -/
def State.laneCfgPut (s : State) (l v : Nat) : State :=
  let s := s.each ((List.range 64).filter fun d => s.get DDC.CTL_LANE d == l) fun s d => s.put DDC.CTL_LANE d 0xFF
  let s := ((s.put LANE.CFG_EN l v).put LANE.CFG_PAIR l (bits v 1 1)).put LANE.CFG_DDC_A l (bits v 8 6)
  let s := s.put LANE.CFG_DDC_B l (bits v 16 6)
  if v % 2 = 0 then s
  else (s.put DDC.CTL_LANE (bits v 8 6) l).putIf (bit v 1) DDC.CTL_LANE (bits v 16 6) l

/-- Whether a MODES value is valid on a lane (R117); a disabled lane is judged by the slice of the DDC its CFG.DDC_A names (assumption log
150). -/
def State.modesOk (s : State) (l v : Nat) : Bool :=
  let gs := (List.range 12).filter fun g => bit v g
  let n := s.get DDC.CTL_SLICE (s.get LANE.CFG_DDC_A l)
  gs.length ≤ 4 && if n < 4 then !bit v 9 else gs.all fun g => 9 ≤ g

/-- STATUS.PENDING follows what waits. -/
def State.lanePendBit (s : State) (l : Nat) : State :=
  s.put LANE.STATUS_PENDING l (if s.on LNX.PCFG_ON l || s.on LNX.PMODES_ON l then 1 else 0)

/-- At frame end the waiting values are checked again and applied, or dropped (R100, R117). -/
def State.lanePending (s : State) (l : Nat) : State :=
  let s := if s.on LNX.PCFG_ON l then
      let v := s.get LNX.PCFG l
      let s := s.clr LNX.PCFG_ON l
      if s.laneCfgOk l v then s.laneCfgPut l v else s.set LANE.EVENT_BAD_CFG l
    else s
  let s := if s.on LNX.PMODES_ON l then
      let v := s.get LNX.PMODES l
      let s := s.clr LNX.PMODES_ON l
      if s.modesOk l v then s.put LANE.MODES l v else s.set LANE.EVENT_BAD_CFG l
    else s
  s.lanePendBit l

/-- LANE_CFG_WRITE (R99, R100). -/
def execLaneCfgWrite (r : Req) (l v : Nat) (s : State) : Host.Outcome State Fault Refusal :=
  s.onBus r (LANE.CFG_EN.addr l) fun s =>
  if 48 ≤ l then .next s
  else if !s.laneCfgOk l v then .next (s.set LANE.EVENT_BAD_CFG l)
  else if !s.on LANE.STATUS_RECEIVING l then .next (s.laneCfgPut l v)
  else if bit v 2 then
    .next ((((s.laneDrop l).bump LANE.ABORT_CNT l).clr LNX.PCFG_ON l).laneCfgPut l v |>.lanePending l)
  else .next (((s.put LNX.PCFG l v).set LNX.PCFG_ON l).lanePendBit l)

/-- LANE_MODES_WRITE (R117). -/
def execLaneModesWrite (r : Req) (l v : Nat) (s : State) : Host.Outcome State Fault Refusal :=
  s.onBus r (LANE.MODES.addr l) fun s =>
  let v := v % 2 ^ 12
  if 48 ≤ l then .next s
  else if !s.modesOk l v then .next (s.set LANE.EVENT_BAD_CFG l)
  else if !s.on LANE.STATUS_RECEIVING l then .next (s.put LANE.MODES l v)
  else .next (((s.put LNX.PMODES l v).set LNX.PMODES_ON l).lanePendBit l)

/-! ### Energy maps (R102 to R107) -/

/-- The map period now, not reduced modulo 2^32 (R102). -/
def State.period (s : State) : Nat := s.mp / 128

/-- Bins of a slice. -/
def binsOf (n : Nat) : Nat := if n < 4 then 800 else 1600

/-- Whether a slice's map runs (R102). -/
def State.mapRuns (s : State) (n : Nat) : Bool := s.on SLICE.CTL_EN n && s.on SLICE.CTL_MAP_EN n

/-- The map of a slice, if it has ever run since the memory was zeroed. -/
def State.mapOf (s : State) (n : Nat) : Option EnergyMap := s.maps.find? (·.slice == n)

/-- Replace the map of a slice. -/
def State.mapSet (s : State) (m : EnergyMap) : State :=
  ({ s with maps := m :: s.maps.filter (·.slice != m.slice) }).put SLICE.HEAD m.slice m.head

/-- Rows without those of the periods lo to hi, which were not measured: their slots read 0 (R103). -/
def rowsWithout (lo hi : Nat) (rows : List (Nat × List Nat)) : List (Nat × List Nat) :=
  rows.filter fun r => !(List.range (min 256 (hi + 1 - lo))).any fun i => (lo + i) % 256 == r.1

/-- Start the map of a slice: every stamp is the current period, HEAD the period before, rows of periods without the map read 0, and MAP_VALID
clears (R103, R104, R106; HEAD at the start is the model's choice: assumption log 151). -/
def State.mapStart (s : State) (n : Nat) : State :=
  let k := s.period
  let l := List.replicate (binsOf n) (k % 2 ^ 32)
  let rows := match s.mapOf n with | some m => rowsWithout (m.head + 1) k m.rows | none => []
  let s := s.put SLICE.BIN0_FREQ n (s.sliceCentre n - if n < 4 then 20000000 else 40000000)
  (s.mapSet ⟨n, k - 1, 0, s.get SLICE.THR_THR_A n, s.get SLICE.THR_THR_B n, l, l, l, rows⟩).clr SLICE.STATUS_MAP_VALID n

/-- SLICE_FC_WRITE: the centre in kHz, which no write moves under an enabled DDC; read-only on S4 and S5 (R95, R112). A map that runs starts
anew over the bins it now has (assumption log 151). -/
def execSliceFcWrite (r : Req) (n v : Nat) (s : State) : Host.Outcome State Fault Refusal :=
  s.onBus r (SLICE.FC.addr n) fun s =>
  let v := v % 2 ^ 22
  if 4 ≤ n then .next s
  else if 420000 ≤ v ∧ v ≤ 940000 ∧ ¬ s.sliceUsed n then
    let s := (s.put SLICE.FC n v).put SLICE.BIN0_FREQ n (v * 1000 - 20000000)
    .next (if s.mapRuns n then { s with maps := s.maps.filter (·.slice != n) }.mapStart n else s)
  else .next (s.set SLICE.EVENT_BAD_CFG n)

/-- The maps after a core reset: the rows are gone, and every map that runs starts anew (R104, R110). -/
def State.mapsRestart (s : State) : State :=
  let s := { s with maps := [] }
  s.each (List.range 6) fun s n => let s := s.clr SLICE.STATUS_MAP_VALID n; if s.mapRuns n then s.mapStart n else s

/-- SLICE_CTL_WRITE: EN and MAP_EN; a map that begins to run starts anew (R102, R104). -/
def execSliceCtlWrite (r : Req) (n v : Nat) (s : State) : Host.Outcome State Fault Refusal :=
  s.onBus r (SLICE.CTL_EN.addr n) fun s =>
  if 6 ≤ n then .next s
  else
    let ran := s.mapRuns n
    let s := (s.put SLICE.CTL_EN n v).put SLICE.CTL_MAP_EN n (bits v 1 1)
    .next (if s.mapRuns n && !ran then s.mapStart n else s)

/-- Whether two half-open bands overlap. -/
def bandsMeet (a b c d : Int) : Bool := decide (a < d ∧ c < b)

/-- Whether a blanking interval blanks the bin [x, x + 50 kHz) of a slice on port q (R108). The reserved code 3 of
SUBGHZ and BAND24 acts as 0. -/
def State.binBlanked (s : State) (b : Blanking) (q x : Nat) : Bool :=
  let near (f : Int) : Bool := bandsMeet x (x + 50000) (f - (1000 * s.get BLANK.SPAN : Nat)) (f + (1000 * s.get BLANK.SPAN : Nat))
  if q = b.port then true
  else if q / 2 = b.port / 2 then
    match (if q < 2 then s.get BLANK.MODE_SUBGHZ else s.get BLANK.MODE_BAND24) with
    | 1 => near b.freq
    | 2 => false
    | _ => true
  else q < 2 && s.on BLANK.MODE_XBAND && near (3000000000 - (b.freq : Int))

/-- Whether the bin at x of a slice is never measured: outside the band, or at the LO (R96, R102). -/
def State.binNever (s : State) (n x : Nat) : Bool :=
  let c := s.sliceCentre n
  4 ≤ n && (x < 2402000000 || 2482000000 < x + 50000 || bandsMeet x (x + 50000) (c - 50000 : Nat) (c + 50000 : Nat))

/-- The value of a measured bin, from the mean power in 1/16 dBm (R103). -/
def binValue (level : Int) (clipped : Bool) : Nat :=
  if clipped then 0xFFFE else (max 1 (min 0xFFFD (level + 3200))).toNat

/-- The row of a period: the blankings that overlap it, and the levels, measured at the ball and referred to the connector (R98, R103,
R108). -/
def State.mapRow (s : State) (n : Nat) (bl : List Blanking) (on clipped : Bool) : Nat → List Int → Nat → List Nat
  | _, _, 0 => []
  | x, levels, k + 1 =>
    let v := if !on || s.binNever n x || bl.any (fun b => s.binBlanked b (slicePort n) x) then 0 else binValue (levels.headD (-3200) - s.getI APRX.RX_EXT_GAIN (slicePort n)) clipped
    v :: s.mapRow n bl on clipped (x + 50000) levels.tail k

/-- Move the stamps of the bins whose value a test picks to a period. -/
def stampIf (k : Nat) (p : Nat → Bool) : List Nat → List Nat → List Nat
  | v :: vs, t :: ts => (if p v then k else t) :: stampIf k p vs ts
  | _, _ => []

/-- MAP_PERIOD_END: the newest complete period's row and stamps, then HEAD, then the thresholds of the period that begins
(R103, R104, R106, R107). A period is measured when the map and the port ran through it; the rows of periods that passed without this
command are taken as not measured, and as late. -/
def execMapPeriodEnd (n : Nat) (levels : List Int) (clipped : Bool) (s : State) : Host.Outcome State Fault Refusal :=
  match s.mapOf n with
  | none => .next s
  | some m =>
    let k := s.period - 1
    if !s.mapRuns n || k ≤ m.head then .next s
    else
      let p := slicePort n
      let on := s.portOn p && decide (s.get RXX.ON_AT p ≤ 128 * k) && !(m.n == 0 && k == m.head + 1)
      let bl := s.blanks.filter fun b => decide (b.lo < 128 * (k + 1)) && (!b.closed || decide (128 * k < b.hi))
      let row := s.mapRow n bl on clipped (s.get SLICE.BIN0_FREQ n) levels (binsOf n)
      let w := k % 2 ^ 32
      let next := (k + 1) % 2 ^ 32
      let busy (thr v : Nat) := v != 0 && (thr ≤ v || v == 0xFFFE)
      let a := s.get SLICE.THR_THR_A n
      let b := s.get SLICE.THR_THR_B n
      let skipped := decide (m.head + 1 < k)
      let late := skipped || !!(4 * 2 ^ 24 < (s.mp - 128 * (k + 1)) * 10 ^ 6)
      let m' : EnergyMap := { m with
        head := k, n := m.n + (k - m.head), thrA := a, thrB := b
        busyA := if a = m.thrA then stampIf w (busy m.thrA) row m.busyA else m.busyA.map fun _ => next
        busyB := if b = m.thrB then stampIf w (busy m.thrB) row m.busyB else m.busyB.map fun _ => next
        blank := stampIf w (fun v => skipped || v == 0) row m.blank
        rows := (k % 256, row) :: rowsWithout (m.head + 1) k m.rows }
      let s := s.mapSet m'
      let s := s.putIf (!!(256 ≤ m'.n)) SLICE.STATUS_MAP_VALID n 1
      .next (s.putIf late SLICE.EVENT_ROW_LATE n 1)

/-- MAP_STAMP_REFRESH: every stamp older than 2^30 periods becomes the current period − 2^30 (R104). -/
def execMapStampRefresh (n : Nat) (s : State) : Host.Outcome State Fault Refusal :=
  match s.mapOf n with
  | none => .next s
  | some m =>
    let k := s.period
    let fresh (l : List Nat) := l.map fun t =>
      if 2 ^ 30 < (k % 2 ^ 32 + 2 ^ 32 - t) % 2 ^ 32 then (k % 2 ^ 32 + 2 ^ 32 - 2 ^ 30) % 2 ^ 32 else t
    .next (s.mapSet { m with busyA := fresh m.busyA, busyB := fresh m.busyB, blank := fresh m.blank })

/-- SLICE_THR_WRITE: both thresholds, in force from the next boundary; THR_A ignores the write while the profile is locked
(R107, R203). -/
def execSliceThrWrite (r : Req) (n v : Nat) (s : State) : Host.Outcome State Fault Refusal :=
  s.onBus r (SLICE.THR_THR_A.addr n) fun s =>
  if 6 ≤ n then .next s
  else
    let s := s.put SLICE.THR_THR_B n (bits v 16 16)
    if !s.on REGPROF.CTL_LOCK then .next (s.put SLICE.THR_THR_A n v)
    else if v % 2 ^ 16 = s.get SLICE.THR_THR_A n then .next s
    else .next (s.set SLICE.EVENT_BAD_CFG n)

/-- Octet `off` of the map region in chip SRAM (R105). Before a slice's map has run since the memory was zeroed its whole region reads 0
(assumption log 151). -/
def State.mapOctet (s : State) (off : Nat) : Nat :=
  match s.mapOf (off / 0x100000) with
  | none => 0
  | some m =>
    let o := off % 0x100000
    let n := binsOf m.slice
    let word (v i : Nat) := v / 256 ^ i % 256
    let stamp (l : List Nat) (base : Nat) := word (l.getD ((o - base) / 4) 0) ((o - base) % 4)
    if o < 4 then word m.head o
    else if o < 6 then word n (o - 4)
    else if 8 ≤ o ∧ o < 12 then word (s.get SLICE.BIN0_FREQ m.slice) (o - 8)
    else if 0x100 ≤ o ∧ o < 0x100 + 4 * n then stamp m.busyA 0x100
    else if 0x2000 ≤ o ∧ o < 0x2000 + 4 * n then stamp m.busyB 0x2000
    else if 0x4000 ≤ o ∧ o < 0x4000 + 4 * n then stamp m.blank 0x4000
    else if 0x8000 ≤ o ∧ o < 0x8000 + 512 * n then
      let e := o - 0x8000
      match m.rows.find? fun r => r.1 == e / (2 * n) with
      | some r => word (r.2.getD (e % (2 * n) / 2) 0) (e % 2)
      | none => 0
    else 0

/-! ### Self-blanking (R108, R109) -/

/-- The ports whose AGC a transmission on a port freezes. -/
def State.freezes (s : State) (p : Nat) : List Nat :=
  [p, companion p] ++ if 2 ≤ p && s.on BLANK.MODE_XBAND then [0, 1] else []

/-- STATUS.FROZEN of every port follows the open intervals. -/
def State.refreeze (s : State) : State :=
  let fs := (s.blanks.filter (!·.closed)).flatMap fun b => s.freezes b.port
  s.each [0, 1, 2, 3] fun s p => s.put APRX.STATUS_FROZEN p (if fs.contains p then 1 else 0)

/-- The start of the blanking interval of a transmission: BLANK.PRE before its READY→TX transition, which comes the chain's fixed path before
C (R108, R158). -/
def State.blankFrom (s : State) (x : OnAir) : Nat :=
  x.start - ceilDiv ((9400 + s.get TIME.TX_EXT_DELAY x.chain + s.get BLANK.TIME_PRE) * 2 ^ 24) (10 ^ 9)

/-- The blanking interval of a transmission opens (R108, R109). -/
def State.blankOpen (s : State) (x : OnAir) : State :=
  let c := x.chain
  if s.blanks.any fun b => b.chain == c && !b.closed then s
  else
    let p := x.port
    let keep := s.blanks.filter fun b => !b.closed || decide (s.mp < b.hi + 2 ^ 24)
    let s := ({ s with blanks := keep ++ [(⟨c, p, x.freq, s.blankFrom x, 0, false⟩ : Blanking)] }).bump BLANK.BLANK_CNT
    let rx := allLanes.filter fun l => s.on LANE.STATUS_RECEIVING l && s.laneOn l p
    let s := s.each rx fun s l =>
      if s.on LANE.CFG_PAIR l then (s.inFlight (·.lane == l) fun x => { x with lost := true }).branchOk l p false
      else ((s.laneDrop l).bump LANE.BLANK_ABORT_CNT l).lanePending l
    let near := allLanes.filter fun l => s.on LANE.STATUS_RECEIVING l && s.laneOn l (companion p)
    (s.inFlight (fun x => near.contains x.lane) fun x => { x with overlap := true }).refreeze

/-- SELF_BLANK_START: BLANK.PRE before the READY→TX transition of the transmission that chain c has coming (R108, R109). -/
def execSelfBlankStart (c : Nat) (s : State) : Host.Outcome State Fault Refusal :=
  match s.air.find? fun x => x.chain == c && !x.ended && decide (s.blankFrom x ≤ s.mp) with
  | some x => .next (s.blankOpen x)
  | none => .next s

/-- SELF_BLANK_END: BLANK.POST after the end of the chain's TX→READY transition (R108, R109). -/
def execSelfBlankEnd (c : Nat) (s : State) : Host.Outcome State Fault Refusal :=
  let isOver := match s.air.find? fun x => x.chain == c && (!x.ended || decide (s.mp < x.until_)) with
    | some _ => false
    | none => true
  if !isOver || !s.blanks.any (fun b => b.chain == c && !b.closed) then .next s
  else
    .next ({ s with blanks := s.blanks.map fun (b : Blanking) => if b.chain == c && !b.closed then { b with hi := s.mp, closed := true } else b }).refreeze

end Sys2Proof.Machine
end

