-- ==== Sys2Proof/Machine/Model.lean ====
section
/-!
DEFINITION. What the entries say about reaching a node: usable routes (R60, R274), the wake-clock model (R241, R242), the wake
channel (R229), the target wake (R248) and the eligibility time of a node queue (R301).
-/

namespace Sys2Proof.Machine

open Sys2Proof

/-! ### States of an entry (R58) -/

def stFree : Nat := 0
def stJoining : Nat := 1
def stActive : Nat := 2
def stSleepy : Nat := 3
def stLost : Nat := 4

/-- Whether an entry is ACTIVE or SLEEPY. -/
def State.live (s : State) (e : Nat) : Bool := s.get E.STATE e == stActive || s.get E.STATE e == stSleepy

/-! ### Routes -/

/-- Whether an entry's route is usable (R60). -/
def State.routeUsable (s : State) (e : Nat) : Bool :=
  let n := s.get E.NEXT_HOP e
  s.on E.NH_VALID e && s.live n && s.get E.HEDGE n == s.get E.HEDGE e && s.get E.INCARNATION n == s.get E.NH_INCARNATION e

/-- Where R274 sends a downlink. -/
inductive Route where
  | lost
  | hop (n : Nat) (direct : Bool)
  | flood
  | none
  deriving DecidableEq, Repr

/-- Resolve the route of a downlink to entry e (R274); a Hedge without a Hop PAN sends everything directly
(assumption log 13). -/
def State.resolve (s : State) (e : Nat) (hopPan noFlood command : Bool) : Route :=
  let h := s.get E.HEDGE e
  if s.get E.STATE e = stLost then .lost
  else if command || !hopPan then .hop e true
  else if s.on E.NH_VALID e && s.on E.NH_DIRECT e then .hop e true
  else if s.routeUsable e && s.get E.SHORT_ADDR e != 0xFFFE then .hop (s.get E.NEXT_HOP e) false
  else if !noFlood && s.on FWDH.CFG_NOROUTE_ACT h && s.get E.SHORT_ADDR e != 0xFFFE then .flood
  else .none

/-- The enabled Hop PANs of a Hedge, by PANMAP number (R200, R201). -/
def State.hopPans (s : State) (h : Nat) : List Nat :=
  (List.range 32).filter fun i => s.on PANMAP.CFG_EN i && s.get PANMAP.CFG_HEDGE i == h && s.on PANMAP.CFG_HOP i

/-! ### The wake-clock model -/

/-- Predicted Mesh Phase of the j-th wake after the anchor (R241). -/
def State.tHat (s : State) (e : Nat) (j : Int) : Int :=
  let i : Int := s.get E.PH_INTERVAL e
  (s.get E.PH_OFFSET e : Int) + j * i + (j * i * s.getI E.PH_RATE e) / (2 ^ 40 : Int)

/-- DRIFT of the entry's class, parts per 10^9 (R243). -/
def State.driftOf (s : State) (e : Nat) : Nat := s.get WAKE.DRIFT (s.get E.PH_DRIFT_CLASS e)

/-- u_base(t), rounded upward (R242). -/
def State.uBase (s : State) (e : Nat) (t : Int) : Nat :=
  s.get E.PH_UNCERT e + ceilDiv ((t - s.get E.PH_LAST_OBS e).toNat * s.driftOf e) (10 ^ 9)

/-- u_eff(t) (R242). -/
def State.uEff (s : State) (e : Nat) (t : Int) : Nat := s.uBase e t * 2 ^ min (s.get E.PH_MISSES e) 3

/-- C of the j-th wake: t̂ − u_eff (R248). -/
def State.wakeC (s : State) (e : Nat) (j : Nat) : Int := s.tHat e j - s.uEff e (s.tHat e j)

/-- The largest j below 2^n + lo whose C is below a bound, plus one, by halving; C rises with j. -/
def State.wakeSearch (s : State) (e : Nat) (bound : Int) : Nat → Nat → Nat
  | 0, lo => if s.wakeC e lo < bound then lo + 1 else lo
  | n + 1, lo => if s.wakeC e (lo + 2 ^ n - 1) < bound then s.wakeSearch e bound n (lo + 2 ^ n)
    else s.wakeSearch e bound n lo

/-- The smallest j with C ≥ a bound (R248). -/
def State.firstWake (s : State) (e : Nat) (bound : Int) : Nat := s.wakeSearch e bound 48 0

/-- The node's count at the anchor: PH_LAST_STAMP without the bits below the interval (R241). -/
def State.wRef (s : State) (e : Nat) : Nat :=
  let i := max 1 (s.get E.PH_INTERVAL e / 512)
  s.get E.PH_LAST_STAMP e - s.get E.PH_LAST_STAMP e % i

/-- The wake index k(j) (R241). -/
def State.wakeIx (s : State) (e j : Nat) : Nat :=
  let i := max 1 (s.get E.PH_INTERVAL e / 512)
  (s.wRef e + j * i) % 2 ^ 32 / i

/-- The hash of an EUI-64 that offsets its wake channels (R229). -/
def wakeHash (eui : Nat) : Nat := (((eui / 2 ^ 32).xor (eui % 2 ^ 32)) * 0x9E3779B1 % 2 ^ 32) / 2 ^ 16

/-- The channel a node listens on at wake j: its wake channel, or its fixed channel when the plan has none (R229). -/
def State.wakeChannel (s : State) (e j : Nat) : Nat :=
  let h := s.get E.HEDGE e
  let n := s.get CHPLAN.WAKE_WAKE_N h
  if n = 0 then s.get E.CHANNEL e
  else (wakeHash (s.get E.EUI64 e) + s.wakeIx e j * s.get CHPLAN.WAKE_WAKE_P h) % n

/-- LISTEN of a node in µs (R240). -/
def State.listenUs (s : State) (e : Nat) : Nat :=
  let v := s.get E.RUNTIME_PRIVATE (64 * e) + 256 * s.get E.RUNTIME_PRIVATE (64 * e + 1)
  if v = 0 then s.get WAKEH.LISTEN_DEF (s.get E.HEDGE e) else v

/-- G in ticks (R248). -/
def State.guardT (s : State) (h : Nat) : Nat := usTicks (s.get WAKEH.GUARD_US h)

/-- Whether the wake channel of wake j cannot be known (R251). -/
def State.wakeHold (s : State) (e j : Nat) : Bool :=
  let h := s.get E.HEDGE e
  s.get CHPLAN.WAKE_WAKE_N h != 0 &&
    decide (s.get E.PH_INTERVAL e ≤ 2 * s.uEff e (s.tHat e j) + s.guardT h)

/-! ### ELIG (R301) -/

/-- The downlink of queue q that would be released next. -/
def State.nextOf (s : State) (q : Nat) : Option Down :=
  (s.listOf q 0 ++ s.listOf q 1 ++ s.listOf q 2 ++ s.listOf q 3).head?

/-- The eligibility time of node queue q (R301). -/
def State.eligOf (s : State) (q : Nat) : Nat :=
  let h := s.get E.HEDGE q
  let d := s.nextOf q
  let command := match d with | some d => d.freight == .command | none => false
  let noFlood := match d with | some d => d.noFlood || d.freight == .relay | none => false
  match s.resolve q (s.hopPans h != []) noFlood command with
  | .lost => elHold
  | .none => elHold
  | .flood => 0
  | .hop n _ =>
    if s.get E.STATE n = stLost then elHold
    else if s.get E.STATE n ≠ stSleepy then 0
    else if s.get E.PH_INTERVAL n = 0 then elHold
    else
      let lead := usTicks (s.get WAKEH.LEAD_OTHER h) + usTicks (s.get TMH.ELIG_MARGIN h)
      let j := s.firstWake n ((s.mp + lead : Nat) : Int)
      if s.wakeHold n j then elHold else (s.wakeC n j - lead).toNat

/-- Whether the queue's next downlink goes to a sleeper whose wake channel cannot be known (R251). -/
def State.eligUnknown (s : State) (q : Nat) : Bool :=
  let h := s.get E.HEDGE q
  match s.nextOf q with
  | none => false
  | some d =>
    match s.resolve q (s.hopPans h != []) (d.noFlood || d.freight == .relay) (d.freight == .command) with
    | .hop n _ => s.get E.STATE n == stSleepy && s.get E.PH_INTERVAL n != 0
        && s.wakeHold n (s.firstWake n ((s.mp + usTicks (s.get WAKEH.LEAD_OTHER h) + usTicks (s.get TMH.ELIG_MARGIN h) : Nat) : Int))
    | _ => false

/-- The downlinks of queue q wait because the wake channel cannot be known; each is counted once (R251). -/
def State.queueUnknown (s : State) (q : Nat) : State :=
  let new (d : Down) : Bool := d.dest == q && d.stage == .queued && !d.held
  let k := (s.downs.filter new).length
  ({ s with downs := s.downs.map fun d => if new d then { d with held := true } else d }.bump WAKEH.HOLD_CNT (s.get E.HEDGE q) k).set
    NQ.UNKNOWN q

/-- Rewrite the ELIG of node queue q. -/
def State.writeElig (s : State) (q : Nat) : State :=
  if isFloodQ q then s
  else
    let s := s.put NQ.ELIG q (s.eligOf q)
    (if s.eligUnknown q then s.queueUnknown q else s.clr NQ.UNKNOWN q).refreshOne (s.get E.HEDGE q) q

/-- Rewrite ELIG of every queue of Hedge h that holds downlinks. -/
def State.writeEligs (s : State) (h : Nat) : State :=
  s.each (s.queues.filter fun p => p.1 == h && !isFloodQ p.2) fun s p => s.writeElig p.2

end Sys2Proof.Machine
end

