-- ==== Sys2Proof/Machine/Thicket.lean ====
section
/-!
DEFINITION. The Thicket (spec/02_thicket.md): the indexes, insertion, eviction, freeing, hits, aging, revalidation and the commands that
act on entries.
-/

namespace Sys2Proof.Machine

open Sys2Proof

/-! ### Indexes (R61 to R63) -/

/-- The octets of an index key: the Hedge, then the address, least significant octet first (R61; the order of the address's octets is the
model's: assumption log 145). -/
def idxOctets (short : Bool) (h key : Nat) : List Nat := h :: le (if short then 2 else 8) key

/-- Candidate bucket A (i = 0) or B (i = 1) of a key (R61). -/
def State.bucketOf (s : State) (i : Nat) (short : Bool) (h key : Nat) : Nat :=
  (crcAdvance 0x82F63B78 (s.get THKX.SEED i) (idxOctets short h key)).xor 0xFFFFFFFF % 65536

/-- Keys in a bucket of an index; bucket 65,536 is its stash. -/
def State.bucketUse (s : State) (short : Bool) (b : Nat) : Nat :=
  (s.idx.filter fun x => x.short == short && x.bucket == b).length

/-- Keep STASH_USED equal to the keys in the stashes. -/
def State.stashShow (s : State) : State :=
  (s.put THK.STASH_USED_EUI 0 (s.bucketUse false 65536)).put THK.STASH_USED_SHORT 0 (s.bucketUse true 65536)

/-- Place a key (R63); none when both buckets and the stash are full. -/
def State.idxInsert (s : State) (short : Bool) (h key e : Nat) : Option State :=
  let a := s.bucketOf 0 short h key
  let b := s.bucketOf 1 short h key
  let ua := s.bucketUse short a
  let ub := s.bucketUse short b
  let at_ := if ua ≤ ub ∧ ua < 8 then some a else if ub < 8 then some b
    else if s.bucketUse short 65536 < 256 then some 65536 else none
  at_.map fun k => ({ s with idx := s.idx ++ [(⟨short, h, key, k, e⟩ : IdxSlot)] }).stashShow

/-- Take an entry's keys out of both indexes. -/
def State.idxRemove (s : State) (e : Nat) : State :=
  ({ s with idx := s.idx.filter (·.entry != e) }).stashShow

/-- Find an entry by a key of Hedge h (R62). Short addresses 0xFFFE and 0xFFFF always miss, and so does an entry a
program is deleting (R415). -/
def State.find (s : State) (short : Bool) (h key : Nat) : Option Nat :=
  if short && 0xFFFE ≤ key then none
  else ((s.idx.find? fun x => x.short == short && x.hedge == h && x.key == key).map (·.entry)).filter
    fun e => !(s.delWait.any fun w => w.entry == e && w.thread.isSome)

/-- Whether a key is held by an entry, deleted ones that wait for their holds included (R64). -/
def State.keyHeld (s : State) (short : Bool) (h key : Nat) : Option Nat :=
  if short && 0xFFFE ≤ key then none else (s.idx.find? fun x => x.short == short && x.hedge == h && x.key == key).map (·.entry)

/-- The part reads an entry through the cache of 8,192 in sets of eight, the least recently used leaving (R55); which set an entry falls in is
the model's choice (assumption log 146). -/
def State.touch (s : State) (e : Nat) : State :=
  let rest := s.ecache.filter (· != e)
  let set_ := rest.filter fun x => x % 1024 == e % 1024
  let rest := if set_.length < 8 then rest else rest.erase (set_.getLastD e)
  { s.when (!s.ecache.contains e) (·.bump THK.CACHE_MISS_CNT) with ecache := e :: rest }

/-! ### Holds (R76, R385) -/

/-- Whether a window is open on an entry. -/
def State.heldEntry (s : State) (e : Nat) : Bool :=
  (List.range 2048).any fun n => s.on WIN.OPEN n && s.get WIN.ENTRY n == e

/-! ### Freeing (R57, R66) -/

/-- Causes of NODE_FREED (R438). -/
def fDeleted : Nat := 0
def fEvicted : Nat := 1
def fAged : Nat := 2
def fJoin : Nat := 3
def fCheck : Nat := 4

/-- The sweep record of an entry freed during a sweep goes to the gone list of 4,096, or is counted (R291, R292). -/
def State.sweepGone (s : State) (h e : Nat) : State :=
  if !s.on SWEEP.RUN h then s
  else
    let p (i : Nat) := s.get E.RUNTIME_PRIVATE (64 * e + i)
    let map := p 0x10 + 256 * p 0x11
    if p 0x12 % 2 = 0 ∧ map = 0 then s
    else if (s.gone.filter (·.1 == h)).length < 4096 then
      let first := (s.get NODE.INS_AT e + 2 ^ 32 - s.get SWEEP.T0 h) % 2 ^ 32 / max 1 (s.get SWEEP.ROUND_S h)
      { s with gone := s.gone ++ [(h, le 8 (s.get E.EUI64 e) ++ le 3 e ++ [p 0x12, p 0x10, p 0x11, p 0x13, first])] }
    else s.bump FWDH.GONE_OVERFLOW h

/-- A target freed during a campaign is GONE (R286). -/
def State.campGone (s : State) (h e : Nat) : State :=
  let st := s.get CAMP.STATUS_STATE h
  if st ≠ 0 ∧ st ≠ 7 ∧ s.get E.RUNTIME_PRIVATE (64 * e + 4) % 2 = 1 then
    let done := s.get E.RUNTIME_PRIVATE (64 * e + 4) / 2 % 2
    let s := { s with missing := s.missing.filter fun m => !(m.1 == h && m.2.1 == e) }
    (s.bump CAMP.GONE h).when (done == 1) (·.drop CAMP.COMPLETE h)
  else s

/-- Zero the entry but for INCARNATION, which counts on; at its wrap the index is withheld for the walk of R60. -/
def State.zeroEntry (s : State) (e : Nat) : State :=
  let h := s.get E.HEDGE e
  let inc := s.get E.INCARNATION e
  let s := (s.drop THK.STATUS_USED).drop THK_HEDGE.USED h
  let s := s.when (s.on E.PINNED e) (·.drop THK_HEDGE.PINNED h)
  let s := s.each (E.CHECK_DIFF :: entryFlds) fun s F => s.put F e 0
  let s := s.each (List.range 64) fun s i => s.put E.RUNTIME_PRIVATE (64 * e + i) 0
  let s := s.each (List.range 256) fun s i => s.put E.POLICY_PRIVATE (256 * e + i) 0
  let s := s.each [NODE.INS_AT, NODE.REJOIN_AT, NODE.REJOIN_ON, NODE.REKEY_ON, NODE.REKEY_AT, NODE.TXWARN, NODE.RXWARN, NODE.JOIN_AT, NODE.UNVAL, NODE.PASS_ON, NODE.PASS_HIT, NQ.ELIG, NQ.GROUP, NQ.GROUP_EN, NQ.HWM] fun s F => s.unput F e
  let s := s.put E.INCARNATION e (inc + 1)
  s.when (inc == 0xFFFF) (·.set THKX.WALK e)

/-- An entry becomes FREE (R66). A Hedge reset frees without flushing or posting (R80). -/
def State.freeEntry (s : State) (e cause : Nat) (quiet : Bool := false) : State :=
  let h := s.get E.HEDGE e
  let eui := s.get E.EUI64 e
  let s := s.idxRemove e
  let s := if quiet then s else (s.flushQueue e 0x04).callBack e
  let s := (s.sweepGone h e).campGone h e
  let s := { s with cands := s.cands.filter (fun c => c.2.1 != e), ecache := s.ecache.filter (· != e) }
  let s := s.each (List.range 2048) fun s n => if s.on WIN.OPEN n && s.get WIN.ENTRY n == e then s.clr WIN.OPEN n else s
  let s := s.zeroEntry e
  if quiet then s else s.event h 0x02 [(16, le 4 e), (20, le 8 eui), (28, [cause])]

/-- Check an entry that no one has looked at since the core reset (R79). -/
def State.revalidate (s : State) (e : Nat) : State :=
  if s.get E.STATE e = stFree ∨ ¬ s.on NODE.UNVAL e then s
  else
    let s := s.unput NODE.UNVAL e
    if s.get E.CHECK_DIFF e ≠ 0 then
      let h := s.get E.HEDGE e
      (((s.freeEntry e fCheck).bump THK.REVAL_FAIL_CNT).set THK.EVENT_CHECK_FAIL).record 3 3 0 0 (some h) e 0 []
    else if s.get E.STATE e = stJoining then s.freeEntry e fJoin
    else s

/-- A lookup, counted; what it finds is revalidated first where that is still to come, and read through the cache (R55, R62, R79, R85). -/
def State.lookup (s : State) (short : Bool) (h key : Nat) : Option Nat × State :=
  let s := s.bump THK.LOOKUP_CNT
  match s.find short h key with
  | none => (none, s)
  | some e =>
    let s := s.revalidate e
    if s.get E.STATE e = stFree then (none, s) else (some e, s.touch e)

/-- The entry a command of Hedge h names, when it is the Hedge's (R81). -/
def State.named (s : State) (h e : Nat) : Bool :=
  e < entryCount && s.get E.STATE e != stFree && s.get E.HEDGE e == h && !(s.delWait.any fun w => w.entry == e && w.thread.isSome)

/-- What a command or a thread names is revalidated first where that is still to come, and read through the cache (R55, R79). -/
def State.opened (s : State) (h e : Nat) : State :=
  if !s.named h e then s
  else
    let s := s.revalidate e
    if s.named h e then s.touch e else s

/-! ### Insertion (R69, R70, R583) -/

/-- Whether an index can be taken: FREE and not withheld. -/
def State.indexFree (s : State) (e : Nat) : Bool := s.get E.STATE e == stFree && !s.on THKX.WALK e

/-- The first free index at or after i, wrapping, within n tries. -/
def State.freeFrom (s : State) : Nat → Nat → Option Nat
  | 0, _ => none
  | n + 1, i => if s.indexFree (i % entryCount) then some (i % entryCount) else s.freeFrom n (i + 1)

/-- Withheld indexes. -/
def State.withheld (s : State) : List Nat :=
  s.cells.filterMap fun c => if c.1.1 = THKX.WALK.id then some c.1.2 else none

/-- The index an insertion takes: the part gives no promise which (R69), so the search starts at a free value. -/
def State.takeIndex (s : State) : Option Nat × State :=
  let (k, s) := s.draw
  (s.freeFrom (s.usedEntries.length + s.withheld.length + 1) (k % entryCount), s)

/-- Whether an entry qualifies for eviction by Hedge h (R70). -/
def State.evictable (s : State) (h e : Nat) : Bool :=
  s.get E.STATE e != stFree && s.get E.HEDGE e == h && !s.on E.PINNED e && !s.heldEntry e

/-- The Hedge's entries. -/
def State.entriesOf (s : State) (h : Nat) : List Nat := s.usedEntries.filter fun e => s.get E.HEDGE e == h

/-- Up to n uniform draws over the Hedge's entries, until one qualifies (R70). -/
def State.evictRandom (s : State) (h : Nat) : Nat → Option Nat × State
  | 0 => (none, s)
  | n + 1 =>
    let l := s.entriesOf h
    let (k, s) := s.draw
    match l[k % max 1 l.length]? with
    | none => (none, s)
    | some e => if s.evictable h e then (some e, s) else s.evictRandom h n

/-- The entry to evict, by CFG.EVICT (R70, R71). -/
def State.evictChoice (s : State) (h : Nat) : Option Nat × State :=
  match s.get THK_HEDGE.CFG_EVICT h with
  | 1 =>
    match (s.cands.filter fun c => c.1 == h).find? fun c => s.evictable h c.2.1 && s.get E.LAST_HIT c.2.1 == c.2.2 with
    | some c => (some c.2.1, s)
    | none => s.evictRandom h 16
  | 2 => s.evictRandom h 16
  | _ => (none, s)

/-- next(g) of R340. -/
def nextGen (g : Nat) : Nat := if g = 65535 then 1 else g + 1

/-- maxg(a, b) of R340. -/
def maxGen (a b : Nat) : Nat :=
  if a = 0 then b else if b = 0 then a
  else
    let d := (a + 65535 - b) % 65535
    if 1 ≤ d ∧ d ≤ 32767 then a else b

/-- index(g) of R344. -/
def keyIndex (g : Nat) : Nat := (g - 1) % 239 + 1

/-- The ledger bucket of an EUI-64 in Hedge h (R353). -/
def ledgerIx (h eui : Nat) : Nat := 131072 * h + crc32c (be 8 eui) % 131072

/-- Write the entry of an insertion, with KEY_GEN g (R583, R351); the epoch is locked before the first node is admitted (R30). -/
def State.writeEntry (s : State) (h e g : Nat) (b : NodeBlock) : State :=
  let sleeper := b.flags / 2 % 2
  let exp := s.get WAKEH.CFG_DEF_EXP h
  let w (s : State) (F : Fld) (v : Nat) := s.put F e v
  let s := w (w (w (w (w s E.EUI64 b.eui) E.SHORT_ADDR b.short) E.HEDGE h) E.STATE b.state) E.PINNED (if b.pinned then 1 else 0)
  let s := w (w (w (w s E.FLAGS_RELAY (b.flags % 2)) E.FLAGS_SLEEPER sleeper) E.METER_ID b.meter) E.METER_EN (if b.meterEn then 1 else 0)
  let s := w s E.PH_DRIFT_CLASS (b.drift.getD (s.get WAKEH.CFG_DEF_CLASS h))
  let s := w s E.PH_INTERVAL (if sleeper = 1 ∧ exp ≠ 0 then 2 ^ (exp + 9) else 0)
  let s := w (w (w s E.KEY_GEN g) E.KEY_INDEX (if g = 0 then 0 else keyIndex g)) E.SEC_LEVEL (if b.state = stJoining then 0 else b.secLevel)
  let s := w (w (w s E.PREF_LANE 0xFF) E.LAST_HIT s.mpSec) E.QUEUE_ID e
  let s := if b.state = stJoining then s else w s E.JOINED_AT s.mpSec
  let s := ((s.put NODE.INS_AT e s.mpSec).clr E.CHECK_DIFF e).set TIME.EPOCH_LOCK_LOCK
  let s := (s.bump THK.STATUS_USED).bump THK_HEDGE.USED h
  s.when b.pinned (·.bump THK_HEDGE.PINNED h)

/-- How an insertion ends. -/
inductive Ins where
  | done (e : Nat)
  | existed (e : Nat)
  | quota
  | bad
  | wait (evicted : Bool)
  deriving DecidableEq, Repr

/-- Whether a parameter block is well formed (R58, R81, R414). -/
def blockOk (b : NodeBlock) : Bool :=
  !b.reserved && b.eui != 0 && b.eui != 2 ^ 64 - 1 && b.short != 0xFFFF &&
    ((b.state == 1 && b.keyGen == 0) || (b.state == 2 && b.keyGen != 0 && b.flags / 2 % 2 == 0)
      || (b.state == 3 && b.keyGen != 0 && b.flags / 2 % 2 == 1))

/-- Make room, unless an earlier try has, and take an index, then write the entry and both keys (R63, R69, R70, R353, R583). -/
def State.insertNew (s : State) (h : Nat) (b : NodeBlock) (room : Bool) : Ins × State :=
  let full := !room && s.get THK_HEDGE.QUOTA h ≤ s.get THK_HEDGE.USED h
  let fail (s : State) : Ins × State := (.quota, s.bump THK_HEDGE.INSERT_FAIL h)
  match s.idxInsert false h b.eui 0 with
  | none => fail (s.set THK.EVENT_IDX_FULL)
  | some _ =>
    if b.short ≠ 0xFFFE ∧ (s.idxInsert true h b.short 0).isNone then fail (s.set THK.EVENT_IDX_FULL)
    else
      let (v, s) := if full then s.evictChoice h else (none, s)
      if full && v.isNone then fail s
      else
        let s := match v with
          | some e => (s.freeEntry e fEvicted).bump THK_HEDGE.EVICT_CNT h
          | none => s
        match s.takeIndex with
        | (none, s) => if s.withheld = [] then fail s else (.wait (room || full), s)
        | (some e, s) =>
          let ix := ledgerIx h b.eui
          let g := if b.state = stJoining then nextGen (s.get LEDGER.GEN ix) else b.keyGen
          let s := s.put LEDGER.GEN ix (if b.state = stJoining then g else maxGen (s.get LEDGER.GEN ix) g)
          let s := (s.idxInsert false h b.eui e).getD s
          let s := if b.short = 0xFFFE then s else (s.idxInsert true h b.short e).getD s
          (.done e, ((s.writeEntry h e g b).touch e).writeElig e)

/-- An insertion asked by a command, a program or a join request (R64, R72, R81); `room` says that an earlier try has evicted an entry for
it. -/
def State.insertNode (s : State) (h : Nat) (b : NodeBlock) (room : Bool := false) : Ins × State :=
  if !blockOk b then (.bad, s)
  else
    let s := (s.lookup false h b.eui).2
    match s.keyHeld false h b.eui with
    | some e => (.existed e, s)
    | none =>
      if (s.keyHeld true h b.short).isSome then (.bad, s)
      else if b.pinned ∧ min (s.get THK_HEDGE.PIN_MAX h) (s.get THK_HEDGE.QUOTA h) ≤ s.get THK_HEDGE.PINNED h then
        (.quota, s.bump THK_HEDGE.INSERT_FAIL h)
      else s.insertNew h b room

/-! ### Hits and states (R65, R73) -/

/-- A hit on an entry (R73). -/
def State.hit (s : State) (e : Nat) : State := s.wrE E.LAST_HIT e s.mpSec

/-- Move an entry to a state and rewrite the ELIG values it decides (R301). -/
def State.setNodeState (s : State) (e st : Nat) : State :=
  (s.wrE E.STATE e st).writeEligs (s.get E.HEDGE e)

/-- An entry becomes LOST, and downlinks to it are held (R65, R274, R438). -/
def State.lose (s : State) (e : Nat) : State :=
  ((s.setNodeState e stLost).callBack e).event (s.get E.HEDGE e) 0x03 [(16, le 4 e), (20, le 8 (s.get E.EUI64 e))]

/-- Change FLAGS, moving an ACTIVE or SLEEPY entry as SLEEPER says (R65). -/
def State.setFlags (s : State) (e flags : Nat) : State :=
  let s := (s.wrE E.FLAGS_RELAY e (flags % 2)).wrE E.FLAGS_SLEEPER e (flags / 2 % 2)
  let st := if flags / 2 % 2 = 1 then stSleepy else stActive
  if s.live e && s.get E.STATE e != st then s.setNodeState e st else s

/-! ### Learning limits (R68) -/

/-- A learning bucket refilled to now: tokens in 2^-24. -/
def refill (tok at_ now rate burst : Nat) : Nat := min (burst * 2 ^ 24) (tok + (now - at_) * rate)

/-- Settle a lane's bucket at the rate in force, before that changes (R68). -/
def State.settleLane (s : State) (l : Nat) : State :=
  (s.put THKX.LANE_TOK l (refill (s.get THKX.LANE_TOK l) (s.get THKX.LANE_AT l) s.mp (s.get LEARN_LANE.CFG_RATE l)
    (max 1 (s.get LEARN_LANE.CFG_BURST l)))).put THKX.LANE_AT l s.mp

/-- Settle a Hedge's bucket likewise. -/
def State.settleHedge (s : State) (h : Nat) : State :=
  (s.put THKX.HEDGE_TOK h (refill (s.get THKX.HEDGE_TOK h) (s.get THKX.HEDGE_AT h) s.mp (s.get THK_HEDGE.LEARN_RATE h)
    (max 1 (s.get THK_HEDGE.LEARN_BURST h)))).put THKX.HEDGE_AT h s.mp

/-- A learning event on a lane of a Hedge: whether it proceeds, and the buckets after it (R68). -/
def State.learn (s : State) (lane h : Nat) : Bool × State :=
  let s := (s.settleLane lane).settleHedge h
  let tl := s.get THKX.LANE_TOK lane
  let th := s.get THKX.HEDGE_TOK h
  let ok := 2 ^ 24 ≤ tl && 2 ^ 24 ≤ th
  let s := if ok then (s.put THKX.LANE_TOK lane (tl - 2 ^ 24)).put THKX.HEDGE_TOK h (th - 2 ^ 24) else s
  (ok, if ok then s else (s.bump LEARN_LANE.DROP_CNT lane).bump
    (if s.on THK_HEDGE.CFG_LEARN_ACT h then THK_HEDGE.LEARN_FLOOD else THK_HEDGE.LEARN_DROP) h)

/-! ### Time-driven steps (R60, R65, R71, R74, R77, R79) -/

/-- JOIN_TIMEOUT: no completed join within the time of insertion; a held entry stays until its hold has ended (R65, R76). -/
def execJoinTimeout (e : Nat) (s : State) : Host.Outcome State Fault Refusal :=
  let due := (s.get NODE.INS_AT e + s.get THK_HEDGE.JOIN_TIMEOUT (s.get E.HEDGE e)) % 2 ^ 32
  .next (if s.get E.STATE e = stJoining ∧ ¬ after32 due s.mpSec ∧ ¬ s.heldEntry e then s.freeEntry e fJoin else s)

/-- AGING_VISIT: the scanner reaches an entry, whose LAST_HIT the candidate lists take (R71, R74, R76). -/
def execAgingVisit (e : Nat) (s : State) : Host.Outcome State Fault Refusal :=
  let h := s.get E.HEDGE e
  let st := s.get E.STATE e
  let age := (s.mpSec + 2 ^ 32 - s.get E.LAST_HIT e) % 2 ^ 32
  let may := s.on THK.CTL_AGING_EN && e == s.get AGING.CURSOR && e < entryCount
  let s := s.when may fun s =>
    let s := (s.put AGING.CURSOR 0 (e + 1)).putIf (e + 1 == entryCount) AGING.DONE_AT 0 s.mp
    if st = stFree ∨ s.on E.PINNED e then s else (s.set NODE.PASS_ON e).put NODE.PASS_HIT e (s.get E.LAST_HIT e)
  if !may || s.on E.PINNED e || !s.on THK_HEDGE.CFG_AGING_EN h || s.heldEntry e || 2 ^ 31 ≤ age then .next s
  else if (st = stActive ∨ st = stSleepy) ∧ s.get THK_HEDGE.AGE_LOST h ≤ age then .next ((s.lose e).bump THK_HEDGE.AGED_LOST_CNT h)
  else if st = stLost ∧ s.get THK_HEDGE.AGE_FREE h ≤ age then .next ((s.freeEntry e fAged).bump THK_HEDGE.AGED_FREE_CNT h)
  else .next s

/-- Insert an entry into a list kept by rising age key. -/
def insertBy (key : Nat → Nat × Nat) (e : Nat) : List Nat → List Nat
  | [] => [e]
  | x :: t => if keyLt (key e) (key x) then e :: x :: t else x :: insertBy key e t

/-- The candidate list of a Hedge: its unpinned entries that the pass visited, with the oldest LAST_HIT it met, at most 64, ties by index
(R71). -/
def State.candsOf (s : State) (h : Nat) : List (Nat × Nat × Nat) :=
  let key (e : Nat) : Nat × Nat := (2 ^ 32 - (s.mpSec + 2 ^ 32 - s.get NODE.PASS_HIT e) % 2 ^ 32, e)
  let l := (s.entriesOf h).filter fun e => !s.on E.PINNED e && s.on NODE.PASS_ON e
  ((l.foldl (fun acc e => insertBy key e acc) []).take 64).map fun e => (h, e, s.get NODE.PASS_HIT e)

/-- AGE_SCAN in ticks. -/
def State.passTicks (s : State) : Nat := s.get THK.CTL_AGE_SCAN * 2 ^ 24

/-- A pass of the aging scanner begins (R74, R77). -/
def State.passStart (s : State) : State := (s.clr AGING.CURSOR).put AGING.START 0 s.mp

/-- AGING_PASS_END: AGE_SCAN seconds have passed and the pass has visited every entry; the lists are filled and the next pass begins. A pass
that took longer sets AGE_OVERRUN (R71, R74, R77). -/
def execAgingPassEnd (s : State) : Host.Outcome State Fault Refusal :=
  let due := s.get AGING.START + s.passTicks
  if s.on THK.CTL_AGING_EN && s.get AGING.CURSOR == entryCount && decide (due ≤ s.mp) then
    let s := s.when (decide (due ≤ s.get AGING.DONE_AT)) (·.set THK.EVENT_AGE_OVERRUN)
    let s := { s with cands := (List.range 8).flatMap s.candsOf }
    .next (s.each s.usedEntries fun s e => (s.unput NODE.PASS_ON e).unput NODE.PASS_HIT e).passStart
  else .next s

/-- REVAL_DONE: every entry has been revalidated (R79). -/
def execRevalDone (s : State) : Host.Outcome State Fault Refusal :=
  if s.on THK.STATUS_REVAL_ACTIVE then
    let s := s.each s.usedEntries fun s e => s.revalidate e
    .next ((s.clr THK.STATUS_REVAL_ACTIVE).set THK.EVENT_REVAL_DONE)
  else .next s

/-! ### Commands (R81, R82) -/

/-- NODE_INSERT (R81). -/
def execNodeInsert (c : Cmd) (b : NodeBlock) (s : State) : Host.Outcome State Fault Refusal :=
  if s.standby || s.expH c.ring 0 then .next (s.finish c 0x10 0x13)
  else
    match s.insertNode c.ring b with
    | (.done e, s) => .next (s.complete c 0x10 0 0 0 [(24, le 4 e)])
    | (.existed e, s) => .next (s.complete c 0x10 0 0x10 0 [(24, le 4 e)])
    | (.quota, s) => .next (s.finish c 0x10 0x05)
    | (.bad, s) => .next (s.finish c 0x10 0x12)
    | (.wait ev, s) => .next { s with insWait := s.insWait ++ [(⟨c.ring, b, some c, none, none, ev⟩ : InsWait)] }

/-- NODE_DELETE: a held entry becomes FREE when its last hold ends (R81, R385). -/
def execNodeDelete (c : Cmd) (e : Nat) (s : State) : Host.Outcome State Fault Refusal :=
  let s := s.opened c.ring e
  if s.standby then .next (s.finish c 0x11 0x13)
  else if !s.named c.ring e then .next (s.finish c 0x11 0x04)
  else if s.heldEntry e then .next { s with delWait := s.delWait ++ [(⟨e, some c, none⟩ : DelWait)] }
  else .next ((s.freeEntry e fDeleted).finish c 0x11 0)

/-- NODE_READ: bytes 0x000 to 0x0BF and, with PRIVATE, the private areas (R81, R435). -/
def execNodeRead (c : Cmd) (e : Nat) (priv : Bool) (addr : Nat) (s : State) : Host.Outcome State Fault Refusal :=
  let s := s.opened c.ring e
  if !s.named c.ring e then .next (s.finish c 0x12 0x04)
  else
    let l := s.entryOctets e ++ if priv then s.runtimePrivate e ++ s.policyPrivate e else []
    .next (s.answer c 0x12 addr l)

/-- Whether a NODE_UPDATE's mask names a program-owned field (R82). -/
def maskOwned (mask : Nat) : Bool := mask / 4 % 16 != 0

/-- Replace an entry's assigned short address: the new key goes in before the old one comes out (R63). -/
def State.moveShort (s : State) (h e v : Nat) : Option State :=
  let drop (s : State) : State := ({ s with idx := s.idx.filter fun x => !(x.short && x.entry == e && x.key != v) }).stashShow
  if v = s.get E.SHORT_ADDR e then some s
  else if v = 0xFFFE then some ((drop s).wrE E.SHORT_ADDR e v)
  else (s.idxInsert true h v e).map fun s => (drop s).wrE E.SHORT_ADDR e v

/-- Write what a NODE_UPDATE's mask names, but for SHORT_ADDR (R82, R435). -/
def State.updateFields (s : State) (e mask flags drift ap power meter : Nat) (rp pp : List Nat) : State :=
  let s := s.when (bit mask 1) (·.setFlags e flags)
  let s := s.when (bit mask 2) (·.wrE E.PH_DRIFT_CLASS e drift)
  let s := s.when (bit mask 3) (·.wrE E.PREF_AP e ap)
  let s := s.when (bit mask 4) (·.wrE E.TX_POWER e power)
  let s := s.when (bit mask 5) fun s => (s.wrE E.METER_ID e meter).wrE E.METER_EN e (meter / 2 ^ 15)
  let s := s.when (bit mask 6) fun s => s.each [E.RX_FRAMES, E.TX_FRAMES, E.TX_FAIL, E.REPLAY_REJ, E.AIM_MISS] fun s F => s.wrE F e 0
  let s := s.when (bit mask 7) fun s => s.each (List.range 64) fun s i => s.put E.RUNTIME_PRIVATE (64 * e + i) (rp.getD i 0)
  let s := s.when (bit mask 8) fun s => s.each (List.range 256) fun s i => s.put E.POLICY_PRIVATE (256 * e + i) (pp.getD i 0)
  s.when (bit mask 9 && s.live e) (·.lose e)

/-- NODE_UPDATE (R81, R82): any code but DONE leaves every field unchanged. -/
def execNodeUpdate (c : Cmd) (e mask short flags drift ap power meter addr : Nat) (s : State) : Host.Outcome State Fault Refusal :=
  let s := s.opened c.ring e
  let h := c.ring
  if s.standby then .next (s.finish c 0x13 0x13)
  else if !s.named h e then .next (s.finish c 0x13 0x04)
  else if 1024 ≤ mask ∨ (bit mask 0 ∧ (short = 0xFFFF ∨ (s.keyHeld true h short).any (· != e))) ∨ (bit mask 1 ∧ 4 ≤ flags)
      ∨ (bit mask 2 ∧ 16 ≤ drift) ∨ (bit mask 3 ∧ 4 ≤ ap) ∨ (bit mask 5 ∧ bit meter 14)
      ∨ (bit mask 9 ∧ s.get E.STATE e = stJoining) then .next (s.finish c 0x13 0x12)
  else if s.expH h 0 && maskOwned mask then .next (s.finish c 0x13 0x13)
  else
    match (if bit mask 0 then s.moveShort h e short else some s) with
    | none => .next ((s.set THK.EVENT_IDX_FULL).finish c 0x13 0x05)
    | some s =>
      let rp := if bit mask 7 then s.cmdData c addr 64 else []
      let pp := if bit mask 8 then s.cmdData c (addr + if bit mask 7 then 64 else 0) 256 else []
      .next (((s.updateFields e mask flags drift ap power meter rp pp).writeEligs h).finish c 0x13 0)

/-- NODE_PIN: a place in the Hedge's PINNED count, if PIN_MAX allows (R72). -/
def execNodePin (c : Cmd) (e : Nat) (s : State) : Host.Outcome State Fault Refusal :=
  let s := s.opened c.ring e
  let h := c.ring
  if s.standby then .next (s.finish c 0x14 0x13)
  else if !s.named h e then .next (s.finish c 0x14 0x04)
  else if s.on E.PINNED e then .next (s.finish c 0x14 0)
  else if min (s.get THK_HEDGE.PIN_MAX h) (s.get THK_HEDGE.QUOTA h) ≤ s.get THK_HEDGE.PINNED h then .next (s.finish c 0x14 0x05)
  else .next (((s.wrE E.PINNED e 1).bump THK_HEDGE.PINNED h).finish c 0x14 0)

/-- NODE_UNPIN (R72). -/
def execNodeUnpin (c : Cmd) (e : Nat) (s : State) : Host.Outcome State Fault Refusal :=
  let s := s.opened c.ring e
  let h := c.ring
  if s.standby then .next (s.finish c 0x15 0x13)
  else if !s.named h e then .next (s.finish c 0x15 0x04)
  else if s.on E.PINNED e then .next (((s.wrE E.PINNED e 0).drop THK_HEDGE.PINNED h).finish c 0x15 0)
  else .next (s.finish c 0x15 0)

/-- NODE_TOUCH: a hit (R73, R81). -/
def execNodeTouch (c : Cmd) (e : Nat) (s : State) : Host.Outcome State Fault Refusal :=
  let s := s.opened c.ring e
  if s.standby then .next (s.finish c 0x16 0x13)
  else if !s.named c.ring e then .next (s.finish c 0x16 0x04) else .next ((s.hit e).finish c 0x16 0)

/-- NODE_LIST: up to 1,024 indexes of the Hedge's entries in one state, ascending (R81). -/
def execNodeList (c : Cmd) (st start addr : Nat) (s : State) : Host.Outcome State Fault Refusal :=
  if st = 0 ∨ 4 < st then .next (s.finish c 0x17 0x12)
  else
    let l := ((s.entriesOf c.ring).filter fun e => s.get E.STATE e == st && (start == 0xFFFFFFFF || start < e)).take 1024
    .next (s.answer c 0x17 addr (l.flatMap fun e => le 4 e) [(24, le 4 l.length), (28, le 4 (l.getLastD start))])

/-- THK_QUOTA_WRITE (R86). -/
def execThkQuotaWrite (r : Req) (h v : Nat) (s : State) : Host.Outcome State Fault Refusal :=
  s.onPriv r (THK_HEDGE.QUOTA.addr h) fun s =>
  let v := v % 2 ^ 19
  let sum := s.get THK.QUOTA_SUM - s.get THK_HEDGE.QUOTA h + v
  if 8 ≤ h then .next s
  else if entryCount < sum then .next (s.set THK.EVENT_QUOTA_REFUSED)
  else .next ((s.put THK_HEDGE.QUOTA h v).put THK.QUOTA_SUM 0 sum)

end Sys2Proof.Machine
end

