-- ==== Sys2Proof/Machine/TwinLink.lean ====
section
/-!
DEFINITION. A standby's decision on takeover and the takeover itself (R461, R467), which an edge of the partner's heartbeat may lead to.
-/

namespace Sys2Proof.Machine

open Sys2Proof

/-- Add 2^16 to a counter, saturating (R348). -/
def skip16 (v : Nat) : Nat := min (2 ^ 32 - 1) (v + 2 ^ 16)

/-- Every TX_CNT and GROUP_TX_CNT takes the skip of R348. -/
def State.skipCounters (s : State) : State :=
  let s := s.each s.usedEntries fun s e => s.wrE E.TX_CNT e (skip16 (s.get E.TX_CNT e))
  s.each [0, 1, 2, 3, 4, 5, 6, 7] fun s h => s.put SECH.GROUP_TX_CNT h (skip16 (s.get SECH.GROUP_TX_CNT h))

/-- The completion of a command of the old active: FAULT, with FINAL, colour 3 and UNCERTAIN (R456); not into the rings of a Hedge in
reset. -/
def State.orphanCpl (s : State) (x : Nat × Nat × Nat × Nat) : State :=
  let (h, tag, op, ix) := x
  if s.on HOSTH.STATUS_IN_RESET h then s
  else
    let e := layout 64 [(0, [1, 0x14, op, 0x2D]), (4, le 4 tag), (8, le 4 ix), (16, le 8 s.mp)]
    s.cplPost ⟨cplRing ⟨h, tag, ix, false⟩, false, e, 0, [], false⟩

/-- The part becomes ACTIVE: its outputs, timing engines and acknowledgements start, and the next snapshot is a first one. -/
def State.beActive (s : State) : State :=
  ((s.put TWIN.STATUS_ROLE 0 1).put TWINX.ACTIVE_AT 0 s.mp).set TWINX.FULL_DUE |>.refreshAll

/-- A takeover with a cause, in the order of R467. The campaigns and sweeps go on without their start commands, which the ledger has
completed, and each chain's first frame takes a full calibration. -/
def State.takeover (s : State) (cause : Nat) : State :=
  let s := (s.bump TWIN.TAKEOVER_EPOCH).skipCounters
  let s := { s.each s.twinCmds State.orphanCpl with twinCmds := [] }
  let s := s.each [0, 1, 2, 3, 4, 5, 6, 7] fun s h => (s.clr CAMPX.CMD h).clr SWEEP.CMD h
  let s := s.each [0, 1, 2, 3] fun s c => s.set CHN.FIRST c
  let s := (s.put TWIN.STATUS_ROLE 0 1).roleTold cause
  (s.bump TWIN.TAKEOVER_CNT).beActive

/-- The condition of R461 for takeover, with its cause: PARTNER_FAULT, or PARTNER_LOST. -/
def State.takeCause (s : State) : Option Nat :=
  if s.on TWIN.STATUS_PARTNER_FAULT then some 1
  else if !s.on TWIN.STATUS_LINK_UP && !s.on TWIN.STATUS_PARTNER_HB then some 2
  else none

/-- A standby decides whenever an input changes (R461). -/
def State.decide461 (s : State) : State :=
  if !s.standby then s
  else
    match s.takeCause with
    | some cause => if s.on TWIN.CFG_AUTO_TAKEOVER && s.on TWIN.STATUS_SYNCED then s.takeover cause else s
    | none => s.when (!s.on TWIN.STATUS_LINK_UP) (·.set TWIN.EVENT_LINK_DOWN)

/-- An edge on the ball PINS.HB_IN names: the partner's heartbeat is present (R460). -/
def State.hbEdge (s : State) (source : Nat) : State :=
  if !s.on TWIN.CFG_EN || source != s.get TWIN.PINS_HB_IN then s
  else
    let was := s.on TWIN.STATUS_PARTNER_HB
    let s := (s.set TWIN.STATUS_PARTNER_HB).put TWINX.HB_EDGE 0 s.mp
    if was then s else s.decide461

end Sys2Proof.Machine
end

