-- ==== Sys2Proof/Machine/Time.lean ====
section
/-!
DEFINITION. Mesh Phase and the nanosecond clock (spec/01_mesh_phase.md): the clock and its slews, sets and steps,
the discipline, the capture units and the PTP ports.
-/

namespace Sys2Proof.Machine

open Sys2Proof

/-! ### The nanosecond clock -/

/-- The nominal increment, 0x01_5555_5555 (R16). -/
def incNominal : Nat := 5726623061

/-- The clock in units of 2^-32 ns. -/
def State.clock (s : State) : Nat :=
  (s.get CLK.SEC * 10 ^ 9 + s.get CLK.NS) * 2 ^ 32 + s.get CLK.FRAC

/-- Set the clock, in units of 2^-32 ns. -/
def State.setClock (s : State) (t : Nat) : State :=
  ((s.put CLK.SEC 0 (t / (2 ^ 32 * 10 ^ 9))).put CLK.NS 0 (t / 2 ^ 32 % 10 ^ 9)).put CLK.FRAC 0 (t % 2 ^ 32)

/-- The running slew's count, which NSC_SLEW_CNT reads (R21); the register shows its low 32 bits. -/
def State.setSlew (s : State) (adj : Int) (cnt : Nat) : State :=
  ((s.putI CLK.SLEW_ADJ 0 adj).put CLK.SLEW_CNT 0 cnt).put TIME.NSC_SLEW_CNT 0 cnt

/-- One 750 MHz cycle of the counter (R15). -/
def State.nscCycle (s : State) : State :=
  let run := s.get CLK.SLEW_CNT != 0
  let step : Int := (s.get TIME.NSC_INC : Int) + (if run then s.getI CLK.SLEW_ADJ else 0)
  let step := ofInt 40 step
  let f := s.get CLK.FRAC + step % 2 ^ 32
  let ns := s.get CLK.NS + step / 2 ^ 32 + f / 2 ^ 32
  let s := (s.put CLK.FRAC 0 f).bump CLK.CYC
  let s := if 10 ^ 9 ≤ ns then (s.put CLK.NS 0 (ns - 10 ^ 9)).bump CLK.SEC else s.put CLK.NS 0 ns
  if run then s.setSlew (s.getI CLK.SLEW_ADJ) (s.get CLK.SLEW_CNT - 1) else s

/-- SLEW_COUNT_EXPIRE: at a count of zero the adjustment no longer applies (R21). -/
def execSlewCountExpire (s : State) : Host.Outcome State Fault Refusal :=
  .next (if s.get CLK.SLEW_CNT = 0 then s.setSlew 0 0 else s)

/-- NSC_INC_WRITE: accepted with the servo off and within 1,000 ppm of nominal (R16). -/
def execNscIncWrite (r : Req) (v : Nat) (s : State) : Host.Outcome State Fault Refusal :=
  s.onBus r (TIME.NSC_INC.addr 0) fun s =>
  let x := s.join64 r 0x400008 v % 2 ^ 40
  .next (if !s.on TIME.NSC_CTL_SERVO_EN && 0x154FDF3B6 ≤ x && x ≤ 0x155ACB6F4 then s.put TIME.NSC_INC 0 x
    else s.set TIME.TIME_EVENT_INC_REFUSED)

/-- NSC_NOW_NS_READ: the nanoseconds, with the seconds and fraction of the same cycle latched (R17). -/
def execNscNowNsRead (r : Req) (s : State) : Host.Outcome State Fault Refusal :=
  s.onRead r (TIME.NSC_NOW_NS_NS.addr 0) fun s =>
  let s := (s.put TIME.NSC_NOW_NS_NS 0 (s.get CLK.NS)).put TIME.NSC_NOW_FRAC 0 (s.get CLK.FRAC)
  let s := (s.put TIME.NSC_NOW_SEC_LO 0 (s.get CLK.SEC)).put TIME.NSC_NOW_SEC_HI 0 (s.get CLK.SEC / 2 ^ 32)
  .next ((s.put MODEL.DATA 0 (s.get CLK.NS)).put MODEL.RESP 0 0)

/-! ### Steps (R18 to R21, R39, R247) -/

/-- The minimum lead of a trigger's action in ticks: 20 µs for TX_START, 100 ns otherwise (R35). -/
def State.ptLead (s : State) (n : Nat) : Nat := if s.get PT.CTL_ACTION n = 1 then 336 else 2

/-- The earliest instant of the series `cmp + k * period` that is at least `bound` (R39). -/
def reaim (cmp period bound : Nat) : Nat := bound + ((cmp : Int) - bound).emod period |>.toNat

/-- What a single-cycle step does to one armed trigger (R39); what was cleared for an instant that moves no longer holds. -/
def State.ptStep (s : State) (old new n : Nat) : State :=
  if !s.on PT.STATUS_ARMED n then s
  else
    let cmp := s.get PT.CMP n
    let per := s.get PT.PERIOD n
    let skipped := !!(old ≤ cmp) && !!(cmp < new)
    let s := s.when (skipped || new < old) (·.unclear n)
    if per = 0 then
      if skipped then (s.set PT.STATUS_MISSED n).clr PT.STATUS_ARMED n else s
    else if skipped then (s.set PT.STATUS_MISSED n).put PT.CMP n (reaim cmp per (new + s.ptLead n))
    else if new < old then s.put PT.CMP n (reaim cmp per (new + s.ptLead n))
    else s

/-- Add Δ to the wake models of entries behind the cursor at once, and to what the walk carries for the rest; start
the walk (R247). -/
def State.fixStep (s : State) (old new : Nat) : State :=
  let d := (new + 2 ^ 64 - old % 2 ^ 64) % 2 ^ 64
  let cur := s.get WAKE.STATUS_FIX_CURSOR
  let s := s.each (s.usedEntries.filter fun e => decide (e < cur) && !s.expH (s.get E.HEDGE e) 0) fun s e => s.shiftModel e d
  (s.put FIX.DELTA 0 (s.get FIX.DELTA + d)).set WAKE.STATUS_FIX_ACTIVE

/-- A step applied in a single cycle (R19, R21): the clock moves, a slew in progress ends, the step is logged, and
triggers, threads and wake models follow; an aging pass keeps the time it has run (assumption log 147). -/
def State.stepClock (s : State) (t : Nat) : State :=
  let old := s.mp
  let s := (s.setClock t).setSlew 0 0
  let new := s.mp
  let i := (s.get TIME.STEP_LOG_HEAD + 1) % 8
  let s := ((s.put TIME.STEP_LOG_BEFORE i old).put TIME.STEP_LOG_AFTER i new).put TIME.STEP_LOG_HEAD 0 i
  let s := (s.set TIME.TIME_EVENT_STEPPED).record 3 1 0 0 none 0 0 [(0, le 8 old)]
  let s := s.each (List.range 64) fun s n => s.ptStep old new n
  let s := s.each (List.range 512) fun s g => s.threadStep old new g
  let s := s.putI AGING.START 0 ((s.get AGING.START : Int) + new - old)
  let s := s.putI AGING.DONE_AT 0 ((s.get AGING.DONE_AT : Int) + new - old)
  s.fixStep old new

/-- Whether a step of Δ (2^-32 ns) is refused: before the epoch (R20), or too large for SLEW_ONLY (R18). -/
def State.stepRefused (s : State) (d : Int) : Bool :=
  (s.clock : Int) + d < (s.get TIME.MP_EPOCH_SEC * 10 ^ 9 * 2 ^ 32 : Nat)
    || (s.get TIME.STEP_CFG_STEP_MAX * 1000 * 2 ^ 32 < d.natAbs && s.on TIME.STEP_CFG_SLEW_ONLY)

/-- The slew that removes Δ: its adjustment per cycle and its cycles (R18). -/
def slewFor (ppm : Nat) (d : Int) : Int × Nat :=
  let a : Nat := incNominal * ppm * 10 / 10 ^ 6
  (if d < 0 then -(a : Int) else (a : Int), if a = 0 then 0 else ceilDiv d.natAbs a)

/-- Apply the step rules to Δ, in 2^-32 ns (R18, R20). -/
def State.stepRules (s : State) (d : Int) : State :=
  if s.stepRefused d then s.set TIME.TIME_EVENT_STEP_REFUSED
  else if d.natAbs ≤ s.get TIME.STEP_CFG_STEP_MAX * 1000 * 2 ^ 32 then
    let (a, c) := slewFor (s.get TIME.STEP_CFG_SLEW_PPM) d
    s.setSlew a c
  else s.stepClock ((s.clock : Int) + d).toNat

/-- A set or step asked by a host or the Steward: an accepted one seeds an UNSET clock (R23). -/
def State.hostStep (s : State) (d : Int) : State :=
  let ok := !s.stepRefused d
  let s := s.stepRules d
  if ok ∧ s.get TIME.SRC_STATUS_STATE = 0 then s.put TIME.SRC_STATUS_STATE 0 1 else s

/-- NSC_SET: the difference between the requested time and the clock, under the step rules (R18). -/
def execNscSet (r : Req) (s : State) : Host.Outcome State Fault Refusal :=
  s.onBus r (TIME.NSC_CTL_SET.addr 0) fun s =>
  let sec := s.get TIME.NSC_SET_SEC_HI * 2 ^ 32 + s.get TIME.NSC_SET_SEC_LO
  let t : Nat := (sec * 10 ^ 9 + s.get TIME.NSC_SET_NS) * 2 ^ 32
  .next (s.hostStep ((t : Int) - s.clock))

/-- NSC_STEP: the signed offset under the step rules (R18). -/
def execNscStep (r : Req) (s : State) : Host.Outcome State Fault Refusal :=
  s.onBus r (TIME.NSC_CTL_STEP.addr 0) fun s =>
  .next (s.hostStep ((s.getI TIME.NSC_STEP_SEC * 10 ^ 9 + s.getI TIME.NSC_STEP_NS) * 2 ^ 32))

/-- NSC_SLEW_CNT_WRITE: a new slew with the staged adjustment, or, with 0, the end of the slew (R21). -/
def execNscSlewCntWrite (r : Req) (v : Nat) (s : State) : Host.Outcome State Fault Refusal :=
  s.onBus r (TIME.NSC_SLEW_CNT.addr 0) fun s =>
  .next (s.setSlew (s.getI TIME.NSC_SLEW_ADJ) (v % 2 ^ 32))

/-! ### Discipline (R22 to R28) -/

/-- Whether source k (1 PPS_IN, 2 and 3 PTP ports 0 and 1) is present. -/
def State.srcPresent (s : State) (k : Nat) : Bool :=
  match k with
  | 1 => s.on TIME.SRC_STATUS_PPS_PRESENT
  | 2 => s.on TIME.SRC_STATUS_PTP0_PRESENT
  | 3 => s.on TIME.SRC_STATUS_PTP1_PRESENT
  | _ => false

/-- The source the selection rule names: with AUTO the first present one in priority order, without it PRI0 when
that is present; 0 none (R22). -/
def State.srcRule (s : State) : Nat :=
  let l := if s.on TIME.SRC_CTL_AUTO then [s.get TIME.SRC_CTL_PRI0, s.get TIME.SRC_CTL_PRI1, s.get TIME.SRC_CTL_PRI2]
    else [s.get TIME.SRC_CTL_PRI0]
  (l.find? s.srcPresent).getD 0

/-- Select a source: ACQUIRING, its first sample to come (R23). -/
def State.srcSelect (s : State) (k : Nat) : State :=
  let prev := s.get DISC.LAST_SRC
  let s := ((s.put TIME.SRC_STATUS_ACTIVE 0 k).put TIME.SRC_STATUS_STATE 0 2).set DISC.FIRST
  let s := ((s.clr DISC.LOCK_RUN).clr DISC.OUT_RUN).put DISC.LAST_SRC 0 k
  s.when (prev != 0 && prev != k) (·.set TIME.TIME_EVENT_SRC_SWITCH)

/-- The lowest increment the servo may write: 250 ppm below nominal (R16). -/
def servoLow : Nat := incNominal - 1431655

/-- The servo writes NSC_INC: the spec gives its gains but no control law, so the value is free within 250 ppm of
nominal (R16, R23; assumption log 10). -/
def State.servoWrite (s : State) : State :=
  if s.on TIME.NSC_CTL_SERVO_EN then
    let (x, s) := s.draw
    s.put TIME.NSC_INC 0 (servoLow + x % (2 * 1431655 + 1))
  else s

/-- Enter HOLDOVER: NSC_INC holds the mean of the servo's values over the last HOLD_AVG seconds of LOCKED (R26). -/
def State.enterHoldover (s : State) : State :=
  let now := s.mp
  let xs := (s.incHist.filter fun p => now < p.1 + s.get TIME.UNLOCK_CFG_HOLD_AVG * 2 ^ 24).map (·.2)
  let s := ((s.put TIME.SRC_STATUS_STATE 0 4).set TIME.TIME_EVENT_HOLDOVER).set TIME.TIME_EVENT_UNLOCK
  let s := s.clr TIME.SRC_STATUS_ACTIVE
  if s.on TIME.NSC_CTL_SERVO_EN ∧ xs ≠ [] then s.put TIME.NSC_INC 0 (xs.sum / xs.length) else s

/-- A phase-error sample (ns) of the selected source (R23, R24). -/
def State.servoSample (s : State) (err : Int) : State :=
  let s := s.putI TIME.PHASE_ERR 0 err
  let st := s.get TIME.SRC_STATUS_STATE
  if st = 3 then
    if s.get TIME.UNLOCK_CFG_UNLOCK_THR < err.natAbs then
      let run := s.get DISC.OUT_RUN + 1
      let s := (s.bump TIME.PPS_STATUS_OUTLIER_CNT).put DISC.OUT_RUN 0 run
      if s.get TIME.LOCK_CFG_UNLOCK_CNT ≤ run then s.enterHoldover else s
    else
      let s := (s.clr DISC.OUT_RUN).servoWrite
      { s with incHist := s.incHist ++ [(s.mp, s.get TIME.NSC_INC)] }
  else if st = 2 then
    let s := if s.on DISC.FIRST then (s.clr DISC.FIRST).stepRules (-err * 2 ^ 32) else s
    let s := s.servoWrite
    let run := if err.natAbs < s.get TIME.LOCK_CFG_LOCK_THR then min 255 (s.get DISC.LOCK_RUN + 1) else 0
    let s := s.put DISC.LOCK_RUN 0 run
    if s.get TIME.LOCK_CFG_LOCK_CNT ≤ run ∧ run ≠ 0 then
      { ((s.put TIME.SRC_STATUS_STATE 0 3).set TIME.TIME_EVENT_LOCK).clr DISC.OUT_RUN with incHist := [] }
    else s
  else s

/-- The selected source is lost (R23, R25): the next present one is selected while ACQUIRING with AUTO, SEEDED with
none; after LOCKED, HOLDOVER. -/
def State.srcLost (s : State) (k : Nat) : State :=
  if s.get TIME.SRC_STATUS_ACTIVE ≠ k then s
  else match s.get TIME.SRC_STATUS_STATE with
    | 2 =>
      let n := s.srcRule
      if n ≠ 0 then s.srcSelect n else (s.put TIME.SRC_STATUS_STATE 0 1).clr TIME.SRC_STATUS_ACTIVE
    | 3 => s.enterHoldover
    | _ => s

/-- A source shows itself present with a sample or an edge: it is selected where the rule names it (R22, R23). In
LOCKED this is a switch to a source of higher priority. -/
def State.srcSeen (s : State) (k : Nat) : State :=
  if s.srcRule = k ∧ k ≠ 0 ∧ s.get TIME.SRC_STATUS_ACTIVE ≠ k then
    let locked := s.get TIME.SRC_STATUS_STATE == 3
    (s.when locked (·.set TIME.TIME_EVENT_UNLOCK)).srcSelect k
  else s

/-- A write of SRC_CTL is looked at anew (R22): a selected source that the rule no longer names gives way to the one it names, or counts as
lost when it names none; an UNSET or SEEDED clock takes the source named. -/
def State.srcReview (s : State) : State :=
  let a := s.get TIME.SRC_STATUS_ACTIVE
  let n := s.srcRule
  let st := s.get TIME.SRC_STATUS_STATE
  if n = a ∨ st = 4 then s
  else if n = 0 then s.srcLost a
  else s.srcSeen n

/-- The PPS capture's distance from the nearest whole second, in ns, with the input delay taken off (R23, R49). -/
def State.ppsError (s : State) : Int :=
  let t : Int := ((s.get CLK.NS : Int) - s.get TIME.PPS_CFG_DELAY).emod (10 ^ 9)
  if t < 500000000 then t else t - 1000000000

/-- A write of PPS_CFG: another polarity starts the polarity check afresh (R28; assumption log 30). -/
def State.ppsCfg (s : State) (v : Nat) : State :=
  if bits v 1 1 = s.get TIME.PPS_CFG_POL then s else (s.clr DISC.POL_RUN).clr TIME.PPS_STATUS_POL_SUSPECT

/-- PPS_EDGE: presence after three edges 1 s ± 100 ppm apart, the polarity check on the pulse before, selection, and
a sample when PPS_IN is the selected source (R22, R23, R28). POL_SUSPECT stays set until PPS_CFG.POL changes (assumption log 30). -/
def execPpsEdge (levelUs : Nat) (s : State) : Host.Outcome State Fault Refusal :=
  if !s.on TIME.PPS_CFG_EN then .next s
  else
    let gap := s.get CLK.CYC - s.get DISC.PPS_LAST
    let good := s.on DISC.PPS_SEEN && 749925000 ≤ gap && gap ≤ 750075000
    let run := if good then min 3 (s.get DISC.PPS_RUN + 1) else 1
    let s := ((s.put DISC.PPS_RUN 0 run).put DISC.PPS_LAST 0 (s.get CLK.CYC)).set DISC.PPS_SEEN
    let s := s.when (run == 3 && !s.on TIME.PPS_STATUS_OPEN) (·.set TIME.SRC_STATUS_PPS_PRESENT)
    let pol := if 500000 < levelUs then min 3 (s.get DISC.POL_RUN + 1) else 0
    let s := (s.put DISC.POL_RUN 0 pol).when (pol == 3) (·.set TIME.PPS_STATUS_POL_SUSPECT)
    let s := s.srcSeen 1
    .next (if s.get TIME.SRC_STATUS_ACTIVE = 1 then s.servoSample s.ppsError else s)

/-- PPS_LOSS_TIMEOUT: no active edge within 1.5 s (1,125,000,000 cycles) of the previous one (R25). -/
def execPpsLossTimeout (s : State) : Host.Outcome State Fault Refusal :=
  if s.on DISC.PPS_SEEN && s.get DISC.PPS_LAST + 1125000000 ≤ s.get CLK.CYC then
    let s := ((s.clr DISC.PPS_SEEN).clr DISC.PPS_RUN).clr TIME.SRC_STATUS_PPS_PRESENT
    .next ((s.set TIME.TIME_EVENT_PPS_LOST).srcLost 1)
  else .next s

/-- PPS_OPEN_CHECK: the bias test sets or clears OPEN; while it is open PPS_IN is not present (R28). -/
def execPpsOpenCheck (isOpen : Bool) (s : State) : Host.Outcome State Fault Refusal :=
  if isOpen then
    let was := s.on TIME.SRC_STATUS_PPS_PRESENT
    let s := ((s.set TIME.PPS_STATUS_OPEN).clr TIME.SRC_STATUS_PPS_PRESENT).clr DISC.PPS_RUN
    .next (if was then s.srcLost 1 else s)
  else .next (s.clr TIME.PPS_STATUS_OPEN)

/-! ### PTP ports (R42 to R44) -/

/-- The presence bit of PTP port p. -/
def ptpPresent (p : Nat) : Fld := if p = 0 then TIME.SRC_STATUS_PTP0_PRESENT else TIME.SRC_STATUS_PTP1_PRESENT

/-- The port SRC_CTL names first among the PTP ports. -/
def State.firstPtpPort (s : State) : Nat :=
  match [s.get TIME.SRC_CTL_PRI0, s.get TIME.SRC_CTL_PRI1, s.get TIME.SRC_CTL_PRI2].find? (fun k => k == 2 || k == 3) with
  | some 3 => 1
  | _ => 0

/-- Whether a message is of a transport and the domain that port p is set to (R42, R52). -/
def State.ptpMine (s : State) (p : Nat) (m : PtpMsg) : Bool :=
  match ptpAt m.frame with
  | some (k, _) => bit (s.get PTP_PORT.CTL_TRANSPORT p) k && ptpDomain m == s.get PTP_PORT.CTL_DOMAIN p
  | none => false

/-- The ingress stamp of what arrives on port p now: the clock, at the reference plane, in 2^-16 ns (R42). -/
def State.ptpStamp (s : State) (p : Nat) : Int := (s.clock / 2 ^ 16 : Nat) - (s.get PTP_PORT.INGRESS_LAT p * 2 ^ 16 : Nat)

/-- PTP port p is no source any more: it left the SLAVE state, or is no ordinary clock (R22, R52). -/
def State.ptpGone (s : State) (p : Nat) : State :=
  if s.on (ptpPresent p) then (s.clr (ptpPresent p)).srcLost (p + 2) else s

/-- The ordinary clock's part of a message: presence while the port is SLAVE and Sync arrives, the peer delay between the reference planes,
and the offset from the master as a servo sample (R22, R23, R42). In HOLDOVER only a sample selects a source again. -/
def State.ptpClock (s : State) (p : Nat) (m : PtpMsg) : State :=
  let lat : Int := ((s.get PTP_PORT.INGRESS_LAT p + s.get PTP_PORT.EGRESS_LAT p) * 2 ^ 16 : Nat)
  let s := match m.turn with
    | some d => s.put PTP_PORT.PEER_DELAY p ((d - lat) / 2).toNat
    | none => s
  let s := if m.slave then s.when (ptpKind m == .sync) (·.set (ptpPresent p)) else s.ptpGone p
  let s := if s.on (ptpPresent p) && (m.master.isSome || s.get TIME.SRC_STATUS_STATE != 4) then s.srcSeen (p + 2) else s
  match m.master with
  | some t => if s.get TIME.SRC_STATUS_ACTIVE = p + 2 ∧ m.slave then s.servoSample ((s.ptpStamp p - t) / 65536) else s
  | none => s

/-- The correction a transparent clock adds: the residence time from ingress stamp to egress stamp at the reference planes, and for a Sync in
peer-to-peer mode the ingress port's peer delay and ASYM (R42, R43). -/
def State.tcCorrection (s : State) (p : Nat) (m : PtpMsg) : Int :=
  (m.resides : Int) + ((s.get PTP_PORT.INGRESS_LAT p + s.get PTP_PORT.EGRESS_LAT (1 - p)) * 2 ^ 16 : Nat)
    + (if ptpKind m = .sync ∧ s.on PTP_PORT.CTL_P2P p then (s.get PTP_PORT.PEER_DELAY p : Int) + s.getI PTP_PORT.ASYM p else 0)

/-- Forward a message out of the other port (R43); one of another transport or domain leaves as it came (assumption log 140). -/
def State.tcForward (s : State) (p : Nat) (m : PtpMsg) : State :=
  let out (s : State) (c : Int) : State := { s with wire := s.wire ++ [.ptp (1 - p) (ptpOut m c)] }
  let add := s.tcCorrection p m
  if !s.ptpMine p m then { s with wire := s.wire ++ [.ptp (1 - p) (m.frame ++ ethFcs m.frame)] }
  else match ptpKind m with
  | .sync =>
    if ptpTwoStep m then
      let t := s.syncTab ++ [⟨p, ptpSource m, ptpSeq m, add, s.mp⟩]
      out { s with syncTab := t.drop (t.length - 64) } (ptpCorr m)
    else out (s.bump PTP_PORT.TC_CNT p) (ptpCorr m + add)
  | .followUp =>
    match s.syncTab.find? (fun x => x.port == p && x.source == ptpSource m && x.seq == ptpSeq m
        && s.mp < x.at_ + 2 ^ 24) with
    | some x => out ({ s with syncTab := s.syncTab.erase x }.bump PTP_PORT.TC_CNT p) (ptpCorr m + x.corr)
    | none => out (s.bump PTP_PORT.TC_NOMATCH p) (ptpCorr m)
  | .delayReq | .pdelayReq | .pdelayResp => out (s.bump PTP_PORT.TC_CNT p) (ptpCorr m + add)
  | .delayResp | .other => out s (ptpCorr m)

/-- PTP_MSG_RX: an ordinary clock takes the message; with both ports in the role a transparent clock forwards it; under PRP there is no
transparent clock and the ordinary clock uses one port only (R42 to R44, R52). -/
def execPtpMsgRx (p : Nat) (m : PtpMsg) (s : State) : Host.Outcome State Fault Refusal :=
  if 2 ≤ p then .next s
  else
    let prp := s.on PRP.CTL_EN
    match s.get PTP_PORT.CTL_ROLE p with
    | 1 => .next (if (prp && s.firstPtpPort != p) || !s.ptpMine p m then s else s.ptpClock p m)
    | 2 => .next (if prp || s.get PTP_PORT.CTL_ROLE (1 - p) != 2 then s else s.tcForward p m)
    | _ => .next s

/-- PTP_SYNC_TIMEOUT: no Sync within three Sync intervals; the port is lost (R25). -/
def execPtpSyncTimeout (p : Nat) (s : State) : Host.Outcome State Fault Refusal :=
  if p < 2 ∧ s.on (ptpPresent p) then
    let e := s.get TIME.TIME_EVENT_PTP_LOST
    let s := (s.clr (ptpPresent p)).put TIME.TIME_EVENT_PTP_LOST 0 (Nat.lor e (2 ^ p))
    .next (s.srcLost (p + 2))
  else .next s

/-! ### Capture units (R41) -/

/-- The entries a unit holds. -/
def State.cuHeld (s : State) (n : Nat) : List CapEntry := s.capQ.filter (·.unit == n)

/-- Show the head entry, or zeros, at the unit's data registers. -/
def State.cuShow (s : State) (n : Nat) : State :=
  let l := s.cuHeld n
  let e : CapEntry := l.headD { unit := n, mp := 0, sec := 0, ns := 0, seq := 0 }
  let s := (s.put CU.STATUS_LEVEL n l.length).put CU.MP n e.mp
  ((s.put CU.NS n e.ns).put CU.SEC_LO n e.sec).put CU.SEC_HI_SEC n (e.sec / 2 ^ 32) |>.put CU.SEC_HI_SEQ n e.seq

/-- One unit captures an edge of its source: stamped into its FIFO of four, or dropped; every edge counts, from 0 at reset (the spec names no
first number: assumption log 141). -/
def State.cuCapture (s : State) (n : Nat) : State :=
  let seq := s.get CAP.SEQ n
  let s := s.put CAP.SEQ n (seq + 1)
  if (s.cuHeld n).length < 4 then
    let d := if s.get CU.CTL_SOURCE n = 8 then s.get TIME.PPS_CFG_DELAY else 0
    let u := s.setClock (s.clock - d * 2 ^ 32)
    ({ s with capQ := s.capQ ++ [(⟨n, u.mp, u.get CLK.SEC, u.get CLK.NS, seq⟩ : CapEntry)] }).cuShow n
  else s.set CU.STATUS_OVERFLOW n

/-- CU_EDGE: every enabled unit whose SOURCE and EDGE select it captures the edge (R41); EDGE 3 is reserved and
selects none. An edge of the partner's heartbeat is seen by the Twin too (R460). -/
def execCuEdge (source : Nat) (rising : Bool) (s : State) : Host.Outcome State Fault Refusal :=
  .next ((s.hbEdge source).each (List.range 16) fun s n =>
    let e := s.get CU.CTL_EDGE n
    if s.on CU.CTL_EN n && s.get CU.CTL_SOURCE n == source && source < 15
        && (e == 2 || (e == 0 && rising) || (e == 1 && !rising)) then s.cuCapture n else s)

/-- CU_POP: a write of 1 removes the head entry (R41). -/
def execCuPop (r : Req) (n v : Nat) (s : State) : Host.Outcome State Fault Refusal :=
  s.onBus r (CU.POP.addr n) fun s =>
  if v % 2 = 1 then
    match s.capQ.find? (·.unit == n) with
    | some e => .next ({ s with capQ := s.capQ.erase e }.cuShow n)
    | none => .next s
  else .next s

end Sys2Proof.Machine
end

