-- ==== Sys2Proof/Machine/Codec.lean ====
section
/-!
DEFINITION. XL-OFDM's header, scrambler and LDPC codes as a receiver reads them (R123, R125, R126, R130, R131): the
header's check, the syndrome of a codeword, and the PSDU of a frame's codewords.
-/

namespace Sys2Proof.Machine

/-- The first n outputs of the sequence generator from a state (R123). -/
def seqBits : Nat → Nat → List Bool
  | 0, _ => []
  | n + 1, s =>
    let b := (bit s 6).xor (bit s 3)
    b :: seqBits n (s * 2 % 128 + if b then 1 else 0)

/-- The scrambler's initial state: SCR_SEED in s[6:3], ones below (R123). -/
def scrState (seed : Nat) : Nat := seed % 16 * 8 + 7

/-- CRC-8 over the first n bits of a word, bit 0 first: x^8 + x^2 + x + 1, initial value 0xFF (R125). -/
def crc8 (w : Nat) : Nat → Nat
  | 0 => 0xFF
  | n + 1 =>
    let c := crc8 w n
    let fb := (bit c 7).xor (bit w n)
    (c * 2 % 256).xor (if fb then 7 else 0)

/-- What the 32 header bits say: MCS, LENGTH, CW_LONG and SCR_SEED (R125). -/
structure XlHeader where
  mcs : Nat
  len : Nat
  long : Bool
  seed : Nat
  deriving DecidableEq, Repr

/-- The header read. -/
def xlHeader (w : Nat) : XlHeader := ⟨bits w 0 4, bits w 4 11, bit w 15, bits w 16 4⟩

/-- Whether the header's CRC is good. -/
def xlCrcOk (w : Nat) : Bool := crc8 w 24 == bits w 24 8

/-- Whether the header names something R125 does not define. -/
def xlUnsup (w : Nat) : Bool := 10 ≤ bits w 0 4 || bits w 4 11 == 0 || bits w 20 4 != 0

/-- The zero block. -/
def zb : Nat := 999

/-- Information part of the rate 1/2 base matrix (R131). -/
def base12 : List (List Nat) :=
  [[17, zb, 88, zb, 141, zb], [zb, 53, zb, 170, zb, 9], [102, zb, 31, zb, zb, 66],
   [zb, 127, zb, 44, 79, zb], [150, zb, zb, 95, zb, 188], [zb, 6, 161, zb, 23, 112]]

/-- Rate 2/3 (R131); no mode of R128 uses it. -/
def base23 : List (List Nat) :=
  [[5, zb, 120, 77, zb, 36, 183, zb], [zb, 98, 14, zb, 151, zb, 60, 129],
   [140, 47, zb, 166, 2, 91, zb, 58], [71, 133, 108, zb, 179, 25, 117, 84]]

/-- Rate 3/4 (R131). -/
def base34 : List (List Nat) :=
  [[12, 90, zb, 145, 33, zb, 171, 64, 104], [159, zb, 41, 8, zb, 122, 57, zb, 190],
   [zb, 114, 176, 82, 137, 19, zb, 146, 27]]

/-- Rate 5/6 (R131). -/
def base56 : List (List Nat) :=
  [[3, 67, 125, 158, 40, 99, 186, 21, 143, 74], [110, 28, 160, 59, 135, 7, 82, 177, 46, 163]]

/-- The base matrix of an MCS (R128). -/
def baseOf (mcs : Nat) : List (List Nat) :=
  if mcs = 6 ∨ mcs = 8 then base34 else if mcs = 9 then base56 else base12

/-- The sum of the lifted information blocks in row r of a block row (R130): column j's block with shift t has its one in
column (r + t') mod Z. -/
def infoSum (word z : Nat) : List Nat → Nat → Nat → Bool
  | [], _, _ => false
  | t :: ts, j, r =>
    let t' := if z = 192 then t else t / 4
    let x := if t = zb then false else bit word (j * z + (r + t') % z)
    x.xor (infoSum word z ts (j + 1) r)

/-- Row r of block row i of the parity check: the information sum, p(i) and p(i − 1) (R130). -/
def checkRow (word z kb i : Nat) (row : List Nat) (r : Nat) : Bool :=
  (infoSum word z row 0 r).xor
    ((bit word ((kb + i) * z + r)).xor (if i = 0 then false else bit word ((kb + i - 1) * z + r)))

/-- Whether every check of the block rows from i on is met. -/
def checkRows (word z kb : Nat) : Nat → List (List Nat) → Bool
  | _, [] => true
  | i, row :: rows => (List.range z).all (fun r => !checkRow word z kb i row r) && checkRows word z kb (i + 1) rows

/-- Whether a codeword's syndrome is zero (R137). -/
def syndromeZero (mcs : Nat) (long : Bool) (word : Nat) : Bool :=
  let b := baseOf mcs
  checkRows word (if long then 192 else 48) (12 - b.length) 0 b

/-- Information bits of a codeword (R130). -/
def cwBits (mcs : Nat) (long : Bool) : Nat := ldpcK mcs * if long then 4 else 1

/-- The information bits that codeword i of a frame carries (R126). -/
def cwFill (mcs len : Nat) (long : Bool) (i : Nat) : Nat :=
  min (cwBits mcs long) (8 * len - i * cwBits mcs long)

/-- A codeword's hard decisions with the bits that were not sent as certain zeros (R126). -/
def cwMask (mcs len : Nat) (long : Bool) (i word : Nat) : Nat :=
  let k := cwBits mcs long
  word % 2 ^ cwFill mcs len long i + word / 2 ^ k * 2 ^ k

/-- Octets of a bit string, least significant bit first (R126). -/
def bitsToOctets : List Bool → List Nat
  | b0 :: b1 :: b2 :: b3 :: b4 :: b5 :: b6 :: b7 :: t =>
    let v (b : Bool) (k : Nat) := if b then k else 0
    (v b0 1 + v b1 2 + v b2 4 + v b3 8 + v b4 16 + v b5 32 + v b6 64 + v b7 128) :: bitsToOctets t
  | _ => []

/-- The PSDU of a frame's codewords, by number, descrambled (R126). -/
def xlPsdu (mcs len : Nat) (long : Bool) (seed : Nat) (ws : List (Nat × Nat)) : List Nat :=
  let n := ncwOf mcs len long
  let info := (List.range n).flatMap fun i =>
    let w := match ws.find? (fun x => x.1 == i) with | some x => x.2 | none => 0
    (List.range (cwFill mcs len long i)).map fun j => bit w j
  bitsToOctets (List.zipWith Bool.xor info (seqBits (8 * len) (scrState seed)))

end Sys2Proof.Machine
end

