-- ==== Sys2Proof/Machine/Wave.lean ====
section
/-!
DEFINITION. XL-OFDM on the air: the symbols a frame is sent as (R122 to R128), the soft values a lane's equaliser makes of the symbols it
receives (R136), and the layered min-sum of the LDPC decoders (R137).
-/

namespace Sys2Proof.Machine

/-! ### Numerology and sequences (R122, R123) -/

/-- k from −n to −1 and from 1 to n. -/
def bothSides (n : Nat) : List Int :=
  ((List.range n).map fun (i : Nat) => (i : Int) - n) ++ (List.range n).map fun (i : Nat) => (i : Int) + 1

/-- The used subcarriers, in ascending k; subcarrier 0 and all others carry zero. -/
def usedKs (narrow : Bool) : List Int := bothSides (if narrow then 26 else 52)

/-- The pilots. -/
def pilotKs (narrow : Bool) : List Int := if narrow then [-20, -7, 7, 20] else [-46, -33, -20, -7, 7, 20, 33, 46]

/-- The data subcarriers, by number. -/
def dataKs (narrow : Bool) : List Int := (usedKs narrow).filter fun k => !(pilotKs narrow).contains k

/-- ±1 as a bit of a sequence says: 1 − 2c. -/
def signOf (c : Bool) : Int := if c then -1 else 1

/-- c_P(n). -/
def pilotSeq (n : Nat) : Bool := (seqBits 127 0x7F).getD (n % 127) false

/-- L(k) of the long training symbols (R124). -/
def ltsAt (k : Int) : Int :=
  signOf ((seqBits 104 0x5B).getD (if k < 0 then k + 52 else k + 51).toNat false)

/-- The pilot on k in symbol n after LTS2 (R127). -/
def pilotAt (narrow : Bool) (n : Nat) (k : Int) : Int :=
  let b : Int := if (if narrow then k == 20 else k == 33 || k == 46) then -1 else 1
  b * signOf (pilotSeq n)

/-! ### What is sent (R124 to R127) -/

/-- A value of modulus 1 or √2 on subcarrier k. -/
def unitAt (k re im : Int) : Carrier := ⟨k, re, im, 1, 1⟩

/-- The short training symbol, with the mean power of a data symbol: all used subcarriers at modulus 1 (R124). -/
def stsSym (narrow : Bool) : List Carrier :=
  let v (k re im : Int) : Carrier := if narrow then ⟨k / 2, re, im, 13, 3⟩ else ⟨k, re, im, 26, 3⟩
  [v (-48) 1 1, v (-32) (-1) (-1), v (-16) 1 (-1), v 16 (-1) 1, v 32 1 1, v 48 1 (-1)]

/-- LTS1, or LTS2 with the sign of the header repetition. -/
def ltsSym (narrow : Bool) (sign : Int) : List Carrier := (usedKs narrow).map fun k => unitAt k (sign * ltsAt k) 0

/-- The pilots of symbol n. -/
def pilotsSym (narrow : Bool) (n : Nat) : List Carrier := (pilotKs narrow).map fun k => unitAt k (pilotAt narrow n k) 0

/-- The parity of the bits of a word under a mask. -/
def parity (m w : Nat) : Bool := (List.range 7).foldl (fun b i => b.xor (bit m i && bit w i)) false

/-- The rate 1/2, K = 7 code with generators 133 and 171 (octal) over some bits, from the six bits before them; the newest bit is the
most significant (R125). -/
def convBits : Nat → List Bool → List Bool
  | _, [] => []
  | past, b :: bs =>
    let w := past + if b then 64 else 0
    parity 0o133 w :: parity 0o171 w :: convBits (w / 2) bs

/-- The 76 coded bits h of a header word (R125). -/
def headerBits (w : Nat) : List Bool := convBits 0 ((List.range 38).map fun i => decide (i < 32) && bit w i)

/-- The header word of a frame, with its CRC (R125). -/
def headerWord (mcs len : Nat) (long : Bool) (seed : Nat) : Nat :=
  let w := mcs % 16 + len % 2048 * 16 + (if long then 2 ^ 15 else 0) + seed % 16 * 2 ^ 16
  w + crc8 w 24 * 2 ^ 24

/-- The MCS from which the header repetition is 4 (R128). -/
def rep4 (mcs : Nat) : Bool := decide (2 ≤ mcs)

/-- The header symbols: carrier number m carries BPSK of h(m mod 76) (R125, R127). -/
def headerSyms (narrow : Bool) (mcs len : Nat) (long : Bool) (seed : Nat) : List (List Carrier) :=
  let h := headerBits (headerWord mcs len long seed)
  let ks := dataKs narrow
  (List.range (hdrSyms mcs narrow)).map fun t =>
    pilotsSym narrow t ++ ks.mapIdx fun i k => unitAt k (-signOf (h.getD ((t * ks.length + i) % 76) false)) 0

/-- Bits per point (R127, R128). -/
def nbpscOf (mcs : Nat) : Nat := if mcs ≤ 4 then 1 else if mcs ≤ 6 then 2 else 4

/-- Frequency repetition (R128). -/
def rsOf (mcs : Nat) : Nat := [4, 4, 4, 2].getD mcs 1

/-- The squared modulus by which a constellation is normalised (R127; IEEE 802.15.4-2020, PRESUMED: assumption log 152). -/
def normOf (mcs : Nat) : Nat := [1, 1, 2, 1, 10].getD (nbpscOf mcs) 1

/-- One axis of the Gray constellations: one bit, or two (R127; PRESUMED: assumption log 152). -/
def axis : List Bool → Int
  | [b] => if b then 1 else -1
  | [b, c] => (if b then 1 else -1) * if c then 1 else 3
  | _ => 0

/-- The point of some bits, before normalisation. -/
def pointOf (mcs : Nat) (bs : List Bool) : Int × Int :=
  match nbpscOf mcs with
  | 1 => (axis (bs.take 1), 0)
  | 2 => (axis (bs.take 1), axis (bs.drop 1))
  | _ => (axis (bs.take 2), axis (bs.drop 2))

/-- Times j to a power: the phase of a repetition copy, e^(jπi/2) (R127). -/
def turned (i : Nat) (p : Int × Int) : Int × Int :=
  match i % 4 with
  | 0 => p
  | 1 => (-p.2, p.1)
  | 2 => (-p.1, -p.2)
  | _ => (p.2, -p.1)

/-- Distinct points in a symbol. -/
def pointsOf (narrow : Bool) (mcs : Nat) : Nat := (if narrow then 48 else 96) / rsOf mcs

/-- The data-subcarrier number of copy i of point g (R127). -/
def placeOf (narrow : Bool) (mcs g i : Nat) : Nat :=
  let d := pointsOf narrow mcs
  g * (if narrow then 19 else 37) % d + i * d

/-- One symbol of a group of coded bits, symbol n after LTS2 (R127). -/
def dataSym (narrow : Bool) (mcs n : Nat) (bs : List Bool) : List Carrier :=
  let ks := dataKs narrow
  let b := nbpscOf mcs
  pilotsSym narrow n ++ (List.range (pointsOf narrow mcs)).flatMap fun g =>
    (List.range (rsOf mcs)).map fun i =>
      let v := turned i (pointOf mcs ((bs.drop (g * b)).take b))
      ⟨ks.getD (placeOf narrow mcs g i) 0, v.1, v.2, 1, normOf mcs⟩

/-- The parity bits of a codeword: block i is the sum of row i plus block i − 1 (R130). -/
def parityBits (word z : Nat) : List Bool → List (List Nat) → List Bool
  | _, [] => []
  | prev, row :: rows =>
    let p := (List.range z).map fun r => (infoSum word z row 0 r).xor (prev.getD r false)
    p ++ parityBits word z p rows

/-- A number with some bits, the first the least significant. -/
def ofBits : List Bool → Nat
  | [] => 0
  | b :: bs => (if b then 1 else 0) + 2 * ofBits bs

/-- A codeword as sent: its information bits, then its parity bits (R126). -/
def cwSent (mcs : Nat) (long : Bool) (info : List Bool) : List Bool :=
  info ++ parityBits (ofBits info) (if long then 192 else 48) [] (baseOf mcs)

/-- The bits of octets, least significant first (R1). -/
def octetBits (os : List Nat) : List Bool := os.flatMap fun o => (List.range 8).map (bit o ·)

/-- The coded stream of a PSDU: scrambled, cut into codewords and coded (R126). -/
def codedBits (mcs : Nat) (long : Bool) (seed : Nat) (psdu : List Nat) : List Bool :=
  let bs := List.zipWith Bool.xor (octetBits psdu) (seqBits (8 * psdu.length) (scrState seed))
  let k := cwBits mcs long
  (List.range (ncwOf mcs psdu.length long)).flatMap fun i => cwSent mcs long ((bs.drop (i * k)).take k)

/-- Coded bits in a symbol group (R128). -/
def groupBits (narrow : Bool) (mcs : Nat) : Nat := if narrow then ncbpsOf mcs / 2 else ncbpsOf mcs

/-- A list of n bits: cut, or filled up with zeros. -/
def fitBits (n : Nat) (l : List Bool) : List Bool := (l ++ List.replicate (n - l.length) false).take n

/-- The data symbols: each group, filled up with zero bits, RT times in succession (R126, R127). -/
def dataSyms (narrow : Bool) (mcs : Nat) (long : Bool) (seed : Nat) (psdu : List Nat) : List (List Carrier) :=
  let bs := codedBits mcs long seed psdu
  let w := groupBits narrow mcs
  (List.range (nsymOf mcs psdu.length long narrow)).map fun t =>
    dataSym narrow mcs (hdrSyms mcs narrow + t) (fitBits w ((bs.drop (t / rtOf mcs * w)).take w))
/-- The symbols of an XL-OFDM frame with some short training symbols (R124, R249). -/
def xlFrame (narrow : Bool) (mcs sts : Nat) (long : Bool) (seed : Nat) (psdu : List Nat) : List (List Carrier) :=
  List.replicate sts (stsSym narrow) ++ [ltsSym narrow 1, ltsSym narrow (if rep4 mcs then 1 else -1)]
    ++ headerSyms narrow mcs psdu.length long seed ++ dataSyms narrow mcs long seed psdu

/-- The symbols of a frame in a mode, with some preamble units (0 standard); other families send as IEEE 802.15.4-2020 states (R119 to
R121). -/
def frameSyms (m pre : Nat) (seed : Nat) (psdu : List Nat) : List (List Carrier) :=
  let n := if pre = 0 then preStd m else pre
  match famOf m with
  | some .xl => xlFrame false (m % 16) n false seed psdu
  | some .xln => xlFrame true (m % 16) n false seed psdu
  | _ => []

/-! ### The equaliser (R136) -/

/-- A complex number. -/
abbrev Cx := Rat × Rat

/-- Complex product. -/
def Cx.mul (a b : Cx) : Cx := (a.1 * b.1 - a.2 * b.2, a.1 * b.2 + a.2 * b.1)

/-- Complex conjugate. -/
def Cx.conj (a : Cx) : Cx := (a.1, -a.2)

/-- Squared modulus. -/
def Cx.sq (a : Cx) : Rat := a.1 * a.1 + a.2 * a.2

/-- A received value. -/
def cxOf (p : Int × Int) : Cx := (p.1, p.2)

/-- The mean of some numbers. -/
def meanOf (l : List Rat) : Rat := l.foldl (· + ·) 0 / l.length

/-- The channel on every used subcarrier: the mean of LTS1 and the sign-corrected LTS2, divided by L(k). -/
def channelOf (narrow : Bool) (sign : Rat) (b : RxBranch) : List Cx :=
  (usedKs narrow).mapIdx fun i k =>
    let x := cxOf (b.lts1.getD i (0, 0))
    let y := cxOf (b.lts2.getD i (0, 0))
    let l : Rat := (ltsAt k : Int)
    ((x.1 + sign * y.1) / (2 * l), (x.2 + sign * y.2) / (2 * l))

/-- The noise on every used subcarrier, from the difference of the two LTS over groups of 8 adjacent ones. -/
def noiseOf (narrow : Bool) (sign : Rat) (b : RxBranch) : List Rat :=
  let d := (List.range (usedKs narrow).length).map fun i =>
    let x := cxOf (b.lts1.getD i (0, 0))
    let y := cxOf (b.lts2.getD i (0, 0))
    Cx.sq (x.1 - sign * y.1, x.2 - sign * y.2) / 2
  (List.range d.length).map fun i => meanOf ((d.drop (i / 8 * 8)).take 8)

/-- The common phase error and the phase slope over k of symbol n, by least squares over its pilots, in turns; the pilots lie
symmetrically around 0. -/
def phaseOf (narrow : Bool) (h : List Cx) (n : Nat) (sym : List (Int × Int)) : Rat × Rat :=
  let ks := usedKs narrow
  let obs := (pilotKs narrow).map fun k =>
    let i := ks.idxOf k
    let p : Rat := (pilotAt narrow n k : Int)
    let v := Cx.mul (cxOf (sym.getD i (0, 0))) (Cx.conj (h.getD i (0, 0)))
    ((k : Rat), Config.arg (p * v.1) (p * v.2))
  (meanOf (obs.map (·.2)), (obs.map fun x => x.1 * x.2).foldl (· + ·) 0 / (obs.map fun x => x.1 * x.1).foldl (· + ·) 0)

/-- The symbols with the mean of each one's phase estimate and the previous symbol's taken out; the first has no previous one (assumption
log 152). -/
def derotate (narrow : Bool) (h : List Cx) : Nat → Option (Rat × Rat) → List (List (Int × Int)) → List (List Cx)
  | _, _, [] => []
  | n, prev, sym :: syms =>
    let e := phaseOf narrow h n sym
    let p := prev.getD e
    let m : Rat × Rat := ((e.1 + p.1) / 2, (e.2 + p.2) / 2)
    ((usedKs narrow).mapIdx fun i (k : Int) => Cx.mul (cxOf (sym.getD i (0, 0))) (Config.cis (-(m.1 + m.2 * (k : Rat)))))
      :: derotate narrow h (n + 1) (some e) syms

/-- A branch after the equaliser's estimates: channel, noise and symbols. -/
structure EqBranch where
  h : List Cx
  noise : List Rat
  syms : List (List Cx)

/-- Equalise a branch. -/
def equalise (narrow : Bool) (mcs : Nat) (b : RxBranch) : EqBranch :=
  let sign : Rat := if rep4 mcs then 1 else -1
  let h := channelOf narrow sign b
  ⟨h, noiseOf narrow sign b, derotate narrow h 0 none b.syms⟩

/-- The weight 1/N of a subcarrier. -/
def weightOf (n : Rat) : Rat := if n = 0 then Config.quietWeight else 1 / n

/-- Point g of group t by maximal ratio over its copies in frequency and time and over the branches: the combined value and its
weight. -/
def combine (narrow : Bool) (mcs : Nat) (bs : List EqBranch) (t g : Nat) : Cx × Rat :=
  let ks := usedKs narrow
  let ds := dataKs narrow
  let terms := bs.flatMap fun b => (List.range (rtOf mcs)).flatMap fun r => (List.range (rsOf mcs)).map fun i =>
    let ix := ks.idxOf (ds.getD (placeOf narrow mcs g i) 0)
    let y := (b.syms.getD (hdrSyms mcs narrow + t * rtOf mcs + r) []).getD ix (0, 0)
    let j := turned i (1, 0)
    let h := Cx.mul (b.h.getD ix (0, 0)) (j.1, j.2)
    let w := weightOf (b.noise.getD ix 0)
    let v := Cx.mul (Cx.conj h) y
    ((w * v.1, w * v.2), w * Cx.sq h)
  (((terms.map (·.1.1)).foldl (· + ·) 0, (terms.map (·.1.2)).foldl (· + ·) 0), (terms.map (·.2)).foldl (· + ·) 0)

/-- The smallest of some numbers. -/
def leastRat : List Rat → Rat
  | [] => 0
  | [x] => x
  | x :: xs => min x (leastRat xs)

/-- All bit strings of a length. -/
def allBits : Nat → List (List Bool)
  | 0 => [[]]
  | n + 1 => (allBits n).flatMap fun l => [false :: l, true :: l]

/-- The distance of a point from a combined value, but for what is the same for every point. -/
def metricOf (mcs : Nat) (z : Cx × Rat) (bs : List Bool) : Rat :=
  let p := pointOf mcs bs
  let c := normOf mcs
  let k : Rat := if c = 1 then 1 else Config.root c
  z.2 * ((p.1 * p.1 + p.2 * p.2 : Int) : Rat) - 2 * k * (z.1.1 * (p.1 : Rat) + z.1.2 * (p.2 : Rat))

/-- The max-log soft values of a point's bits: positive for 0, 6 bits, saturating at ±31. -/
def softPoint (mcs : Nat) (z : Cx × Rat) : List Int :=
  let n := nbpscOf mcs
  let pick (i : Nat) (v : Bool) : Rat := leastRat (((allBits n).filter fun bs => bs.getD i false == v).map (metricOf mcs z))
  (List.range n).map fun i => max (-31) (min 31 (Config.softScale mcs (pick i true - pick i false)))

/-- The soft values of the groups received whole, in the order of the coded bits. -/
def softStream (narrow : Bool) (mcs : Nat) (air : List RxBranch) : List Int :=
  let bs := air.map (equalise narrow mcs)
  let n := (air.map fun b => (b.syms.length - hdrSyms mcs narrow) / rtOf mcs).foldl max 0
  (List.range n).flatMap fun t => (List.range (pointsOf narrow mcs)).flatMap fun g => softPoint mcs (combine narrow mcs bs t g)

/-- The value of a bit that is certainly zero: larger than any message of a decoder can grow (R126; assumption log 152). -/
def certain : Int := 2 ^ 400

/-- The soft values of codeword i of a frame, with the bits that are not sent as certain zeros (R126). -/
def cwSoft (narrow : Bool) (mcs len : Nat) (long : Bool) (air : List RxBranch) (i : Nat) : List Int :=
  let n := if long then 2304 else 576
  let k := cwBits mcs long
  let f := cwFill mcs len long i
  let l := (((softStream narrow mcs air).drop (i * n)).take (f + (n - k)))
  let l := l ++ List.replicate (f + (n - k) - l.length) 0
  l.take f ++ List.replicate (k - f) certain ++ l.drop f

/-! ### The decoder (R137) -/

/-- The bits in check r of block row i: those of the information blocks, then the parity blocks i − 1 and i (R130). -/
def checkBits (z kb i : Nat) (row : List Nat) (r : Nat) : List Nat :=
  let info := (row.mapIdx fun j t => (j, t)).filter (·.2 != zb)
  info.map (fun x => x.1 * z + (r + (if z = 192 then x.2 else x.2 / 4)) % z)
    ++ (if i = 0 then [] else [(kb + i - 1) * z + r]) ++ [(kb + i) * z + r]

/-- The smallest modulus and the product of the signs of the other inputs of a check. -/
def others (qs : List Rat) (i : Nat) : Rat :=
  let o := qs.eraseIdx i
  leastRat (o.map fun q => if q < 0 then -q else q) * (o.foldl (fun s q => if q < 0 then -s else s) 1)

/-- One check: from the values of its bits and its former messages, its new messages. -/
def checkNode (alpha : Rat) (ls ms : List Rat) : List Rat × List Rat :=
  let qs := List.zipWith (· - ·) ls ms
  let new := (List.range qs.length).map fun i => alpha * others qs i
  (List.zipWith (· + ·) qs new, new)

/-- The decoder's values of all bits, and the messages of every check, by number. -/
structure MinSum where
  bits : List Rat
  msgs : List (List Rat)

/-- Work through one base row as a layer. -/
def minSumLayer (alpha : Rat) (z kb : Nat) (m : MinSum) (i : Nat) (row : List Nat) : MinSum :=
  (List.range z).foldl (fun m r =>
    let bs := checkBits z kb i row r
    let (ls, ms) := checkNode alpha (bs.map fun b => m.bits.getD b 0) (m.msgs.getD (i * z + r) [])
    ⟨(bs.zip ls).foldl (fun l p => l.set p.1 p.2) m.bits, m.msgs.set (i * z + r) ms⟩) m

/-- One iteration: every base row in turn. -/
def minSumRound (alpha : Rat) (z kb : Nat) : Nat → List (List Nat) → MinSum → MinSum
  | _, [], m => m
  | i, row :: rows, m => minSumRound alpha z kb (i + 1) rows (minSumLayer alpha z kb m i row)

/-- Hard decisions, bit 0 first. -/
def hardWord (l : List Rat) : Nat := ofBits (l.map fun x => decide (x < 0))

/-- Iterate until the syndrome is zero or the limit is reached: the iterations run, the word, and whether its syndrome is zero. -/
def minSumRun (mcs : Nat) (long : Bool) (alpha : Rat) : Nat → Nat → MinSum → Nat × Nat × Bool
  | 0, done, m => (done, hardWord m.bits, false)
  | n + 1, done, m =>
    let z := if long then 192 else 48
    let b := baseOf mcs
    let m := minSumRound alpha z (12 - b.length) 0 b m
    let w := hardWord m.bits
    if syndromeZero mcs long w then (done + 1, w, true) else minSumRun mcs long alpha n (done + 1) m

/-- Decode a codeword's soft values with CFG.ALPHA under an iteration limit (R137). -/
def ldpcRun (mcs : Nat) (long : Bool) (alpha limit : Nat) (soft : List Int) : Nat × Nat × Bool :=
  let z := if long then 192 else 48
  let b := baseOf mcs
  let zero := (List.range (b.length * z)).map fun c => List.replicate (checkBits z (12 - b.length) (c / z) (b.getD (c / z) []) (c % z)).length (0 : Rat)
  minSumRun mcs long ((alpha : Rat) / 16) limit 0 ⟨soft.map fun (x : Int) => (x : Rat), zero⟩

end Sys2Proof.Machine
end

