-- ==== Sys2Proof/Machine/Chains.lean ====
section
/-!
DEFINITION. The phase triggers (spec/01_mesh_phase.md, R34 to R40) and the transmit chains (spec/05_transmit_chains.md): arming, firing,
the radio states, tuning, power, aerial checks, mutes and the coexistence wires.
-/

namespace Sys2Proof.Machine

open Sys2Proof

/-! ### Sub-bands and carriers (R160, R166, R167) -/

/-- Occupied bandwidth of a mode, Hz (R206). -/
def State.obw (s : State) (m : Nat) : Nat := s.get REGPROF.OBW (obwIx m)

/-- Whether a sub-band is in the profile and enabled. -/
def State.sbOk (s : State) (b : Nat) : Bool := b < s.get REGPROF.HDR_SB_COUNT && s.on SB.CFG_EN b

/-- Whether an occupied band around f (1/16 Hz) lies in sub-band b. -/
def State.fits (s : State) (b : Nat) (f16 : Int) (m : Nat) : Bool :=
  decide (((s.get SB.LO_HZ b * 16 : Nat) : Int) ≤ f16 - (8 * s.obw m : Nat))
    && decide (f16 + (8 * s.obw m : Nat) ≤ ((s.get SB.HI_HZ b * 16 : Nat) : Int))

/-- P_MAX of R179: the tighter of the profile's limit and P_CAP, in 0.25 dBm. -/
def State.pMax (s : State) (b : Nat) : Int := 2 * min (s.getI SB.CFG_P_MAX b) (s.getI SB.CFG_P_CAP b)

/-- Whether an airtime exceeds the longest permitted transmission of sub-band b; 0 sets none (R178). -/
def State.tooLong (s : State) (b us : Nat) : Bool := s.get SB.MAX_TX_US b != 0 && s.get SB.MAX_TX_US b < us

/-- Clamp to an interval. -/
def clampI (lo hi x : Int) : Int := max lo (min hi x)

/-- The offset a request's carrier takes, in 1/16 Hz, before the sub-band is looked at, and whether the estimate is stale
(R166). -/
def State.precomp (s : State) (r : TxReq) : Int × Bool :=
  match r.entry with
  | none => (0, false)
  | some e =>
    if !bit r.flags 1 then (0, false)
    else
      let h := r.hedge
      let ch := s.get E.CHANNEL e
      let known := s.get E.STATE e != stFree && s.get E.HEDGE e == h && s.get E.INCARNATION e == r.inc
        && s.get E.FREQ_OFS_AT e != 0 && s.ageUnder (s.get E.FREQ_OFS_AT e) (s.get TXC.PRECOMP_STALE r.chain)
        && s.on CHPLAN.CTL_EN h && !!(ch < s.get CHPLAN.COUNT h)
      if known then (Int.tdiv (s.getI E.FREQ_OFS e * (r.freq : Int)) (s.planFreq h ch : Nat), false) else (0, true)

/-- The reference is disciplined: LOCKED or HOLDOVER (R134, R160). -/
def State.refGood (s : State) : Bool := s.get TIME.SRC_STATUS_STATE == 3 || s.get TIME.SRC_STATUS_STATE == 4

/-- The output a synthesiser is programmed for, as f_true times a ratio: 1 − eps while the reference is disciplined (R134, R160). -/
def State.outRatio (s : State) : Nat × Nat := if s.refGood then (s.get TIME.NSC_INC, incNominal) else (1, 1)

/-- The synthesiser word of f_true (1/16 Hz) times DIV, in 2^-24 of 40 MHz, rounded to nearest, ties up (R159, R160). -/
def State.synthWord (s : State) (f16 div : Nat) : Nat :=
  let num := f16 * s.outRatio.1 * div
  let den := s.outRatio.2 * 16 * 40000000
  (2 * num * 2 ^ 24 + den) / (2 * den)

/-- Whether the VCO for an output times DIV reaches 3,600 MHz. -/
def State.vcoLow (s : State) (f16 d : Nat) : Bool := 3600000000 * 16 * s.outRatio.2 ≤ f16 * s.outRatio.1 * d

/-- DIV for an output at a port: 2 on AP2 and AP3, else the smallest of 4 to 9 that brings the VCO to 3,600 MHz
(R159). -/
def State.divFor (s : State) (port f16 : Nat) : Option Nat :=
  if 2 ≤ port then some 2 else [4, 5, 6, 7, 8, 9].find? (s.vcoLow f16)

/-- Whether the VCO stays within [3,600, 5,000] MHz (R159). -/
def State.vcoOk (s : State) (port f16 : Nat) : Bool :=
  match s.divFor port f16 with
  | none => false
  | some d => s.vcoLow f16 d && f16 * s.outRatio.1 * d ≤ 5000000000 * 16 * s.outRatio.2

/-- The calibration segment of a frequency (R161). -/
def segOf (hz : Nat) : Nat := if hz < 1000000000 then hz / 1000000 - 400 else 560 + (hz / 1000000 - 2402)

/-- SY[n].TEMP is measured: a free value (R162, R196; assumption log 3). -/
def State.sense (s : State) (n : Nat) : State := let (v, s) := s.draw; s.put SY.TEMP n v

/-- Whether a chain's calibration entry for a frequency is stale (R162, R164). -/
def State.calStale (s : State) (c hz : Nat) : Bool :=
  let n := 1024 * c + segOf hz
  s.get CALT.MARK n != s.get CALT.FLUSH c || s.on CALT.LOST n
    || decide (64 ≤ (s.getI SY.TEMP c - s.getI CALT.TEMP n).natAbs)

/-! ### Requests -/

/-- Write a request into a chain's FIFO; a MUTED or OFF chain completes it with FAULT (R187), a frozen FIFO discards it (R321). -/
def State.pushReq (s : State) (r : TxReq) : State :=
  let st := s.get TXC.STATUS_STATE r.chain
  if st = chOff ∨ st = chMuted then s.pushRes ⟨r.chain, r.tag, 0x14, 0, 0xFF, 0x80, 0⟩
  else if s.on FIFO.STATUS_FROZEN (48 + r.chain) then s
  else ({ s with txReq := s.txReq ++ [r] }).reqLevel r.chain

/-- Set a bit of the head request's result FLAGS (R177). -/
def State.orFlag (s : State) (c k : Nat) : State := s.put CHN.RFLAGS c (Nat.lor (s.get CHN.RFLAGS c) (2 ^ k))

/-- Set or clear a bit of the head request's result FLAGS (R177). -/
def State.putFlag (s : State) (c k : Nat) (v : Bool) : State :=
  if v then s.orFlag c k else s.put CHN.RFLAGS c (s.get CHN.RFLAGS c - Nat.land (s.get CHN.RFLAGS c) (2 ^ k))

/-- The carrier of a checked request at the connector, 1/16 Hz (R166). -/
def State.trueCarrier (s : State) (c : Nat) (r : TxReq) : Nat := (((16 * r.freq : Nat) : Int) + s.getI CHN.DFN c).toNat

/-- Whether a tuning for a request takes a full calibration (R163; the first after a takeover does: R467). -/
def State.calFull (s : State) (c : Nat) (r : TxReq) : Bool :=
  s.on CHN.FIRST c || bit r.flags 0 || (r.flags / 8 % 4 == 0 && r.freq != s.get CHN.PREV c) || s.calStale c r.freq

/-- What STATUS.CAL_NEXT_FULL reports now (R163). -/
def State.calNext (s : State) (c : Nat) : State :=
  s.put TXC.STATUS_CAL_NEXT_FULL c (match s.headReq c with | some r => if s.calFull c r then 1 else 0 | none => 0)

/-- Begin tuning a chain to the carrier of its checked head request: calibration by R163, the synthesiser for f_out (R159, R160), and the
tuner at the code of the segment (R184). A carrier the VCO cannot reach with the reference as it is now is never programmed (R159). -/
def State.startTune (s : State) (c : Nat) (r : TxReq) : State :=
  let f16 := s.trueCarrier c r
  let p := s.get TXC.CTL_PORT c
  let s := s.sense c
  if !s.vcoOk p f16 then s.endHead c 0x12
  else
    let cal := if s.calFull c r then 2 else if s.get TXC.STATUS_STATE c == chReady && r.freq == s.get CHN.PREV c then 0 else 1
    let n := 1024 * c + segOf r.freq
    let s := (s.put CHN.TRANS c 2).set TXC.STATUS_TRANS c
    let s := (s.put CHN.FREQ c r.freq).put CHN.CAL c cal
    let s := s.when (cal == 2) fun s => (((s.clr CHN.FIRST c).orFlag c 3).bump TXC.CAL_FULL_CNT c).set SY.STATUS_CAL_RUNNING c
    let s := s.when (cal == 1) fun s =>
      ((s.put SYX.BAND c (s.get CALT.BAND n)).put SYX.AMP c (s.get CALT.AMP n)).put SYX.LOOP c (s.get CALT.LOOP n)
    let d := (s.divFor p f16).getD 9
    let w := s.synthWord f16 d
    let s := ((s.put SY.WORD_INT c (w / 2 ^ 24)).put SY.WORD_FRAC c w).put SY.DIV c d
    let s := s.put CHN.OPEN c (if s.refGood then 0 else 1)
    let s := s.when (!s.on CHN.SEARCH p) fun s => (s.put TXPORT.TUNE_NOW p (s.get TUNE.CODE (1024 * p + segOf r.freq))).clr CHN.TREV p
    (s.put CHN.CAR16 c f16).put TXC.FREQ_NOW c (f16 / 16)

/-- Whether the chain is locked at the carrier of its checked head request (R172, R175). -/
def State.onCarrier (s : State) (c : Nat) (r : TxReq) : Bool :=
  s.get TXC.STATUS_STATE c == chReady && s.get CHN.TRANS c == 0 && s.on SY.STATUS_LOCK c && s.get CHN.FREQ c == r.freq
    && s.get CHN.CAR16 c == s.trueCarrier c r

/-- Tune for the checked head request, where the state allows it and its carrier asks for it (R170, R172); OPEN_REF is that of the carrier as
programmed (R160). -/
def State.tuneHead (s : State) (c : Nat) : State :=
  match s.headReq c with
  | none => s
  | some r =>
    let st := s.get TXC.STATUS_STATE c
    if !s.on CHN.CHECKED c || s.get CHN.TRANS c != 0 then s
    else
      let s := if s.onCarrier c r then s
        else if st = chStandby ∨ st = chReady then s.startTune c r
        else s
      if s.on CHN.CHECKED c then s.putFlag c 7 (s.on CHN.OPEN c) else s

/-- Set points of a checked request: target, clamp and open-loop driver setpoint (R179, R181), by the limit it was checked or decided under
(R205) and the detectors as they stand; a clamped frame counts once. The correction by the transmit power table is the calibration store's
(assumption log 14). -/
def State.setPower (s : State) (c : Nat) (r : TxReq) : State :=
  let p := s.get TXC.CTL_PORT c
  let s := s.sense c
  let want := 2 * toInt 8 r.power
  let pm := s.getI CHN.LIMIT c
  let sel := if s.get TXPORT.CFG_LOOP_DET p = 1 then s.on TXPORT.DET_STATUS_FWD_OPEN p else s.on TXPORT.DET_STATUS_PA_DET_OPEN p
  let other := if s.get TXPORT.CFG_LOOP_DET p = 1 then s.on TXPORT.DET_STATUS_PA_DET_OPEN p else s.on TXPORT.DET_STATUS_FWD_OPEN p
  let openLoop := sel && other
  let aim := if openLoop then min want (pm - 12) else min want pm
  let clamped := decide (pm < want)
  let s := s.when (clamped && !bit (s.get CHN.RFLAGS c) 0) (·.bump TXC.CLAMP_CNT c)
  let s := (s.putFlag c 0 clamped).putFlag c 5 openLoop
  let top : Int := if p < 2 then 40 else 24
  let n := 1024 * p + segOf r.freq
  let set0 := aim - s.getI TXPORT.LINE_GAIN p / 4 + Config.powerTable (s.get PWRT.ROW n) r.freq (s.get SY.TEMP c)
  let s := s.putFlag c 6 (decide (top < set0))
  let set0 := clampI (-120) top set0
  let cor := if openLoop then 0 else s.getI CHN.COR n
  ((s.putI CHN.TARGET c aim).putI CHN.SET0 c set0).putI CHN.SETP c (clampI (-120) top (set0 + cor))

/-- The effective conducted limit as it is now governs a request (R205). -/
def State.limitPower (s : State) (c : Nat) (r : TxReq) : State := (s.putI CHN.LIMIT c (s.pMax r.subband)).setPower c r

/-- The checks of R178 at the head, then the carrier (R166, R167). -/
def State.checkHead (s : State) (c : Nat) (r : TxReq) : State :=
  let port := s.get TXC.CTL_PORT c
  let s := (((s.clr CHN.RFLAGS c).put CHN.RL c 255).put CHN.PWR c 0x8000).clr CHN.START c
  if r.reserved || !bandOk r.mode (port / 2) || r.psduLen == 0 || psduMax r.mode < r.psduLen || r.flags / 32 != 0 then s.endHead c 0x12
  else if !s.sbOk r.subband || !s.fits r.subband (16 * r.freq : Nat) r.mode || s.tooLong r.subband (airT r.mode 0 r.psduLen) then
    s.endHead c 0x06
  else
    let (d0, stale) := s.precomp r
    let s := s.when stale (·.orFlag c 2)
    let m : Int := (16 * s.get TXC.PRECOMP_MAX c : Nat)
    let d1 := clampI (-m) m d0
    let f : Int := (16 * r.freq : Nat)
    let d2 := clampI ((s.get SB.LO_HZ r.subband * 16 + 8 * s.obw r.mode : Nat) - f) ((s.get SB.HI_HZ r.subband * 16 : Nat) - (8 * s.obw r.mode : Nat) - f) d1
    let s := s.when (d2 != d1) fun s => (s.orFlag c 1).bump TXC.PRECOMP_CLIP_CNT c
    if !s.vcoOk port (f + d2).toNat then s.endHead c 0x12
    else ((s.putI CHN.DFN c d2).set CHN.CHECKED c).limitPower c r

/-- A request is at the head of chain c's FIFO: it is checked once, and with AUTO_READY the chain tunes for it (R172, R178). -/
def State.headIn (s : State) (c : Nat) : State :=
  match s.headReq c with
  | none => s
  | some r =>
    let st := s.get TXC.STATUS_STATE c
    if !(st = chStandby || st = chReady) || s.get CHN.TRANS c != 0 then s
    else
      let s := (if s.on CHN.CHECKED c then s else s.checkHead c r).calNext c
      if s.on CHN.CHECKED c && s.on TXC.CTL_AUTO_READY c then s.tuneHead c else s

/-- TX_REQUEST_HEAD: a request at the head of chain c's FIFO (R172, R178). -/
def execTxRequestHead (c : Nat) (s : State) : Host.Outcome State Fault Refusal := .next (s.headIn c)

/-! ### Coexistence wires (R191 to R193) -/

/-- Whether COEX governs a port. -/
def State.governed (s : State) (p : Nat) : Bool := s.on COEX.CFG_EN && bit (s.get COEX.CFG_PORTS) p

/-- Assert COEX_REQ, and COEX_PRI where the request has it, for chain c; not while the wires are at high impedance. -/
def State.coexAssert (s : State) (c : Nat) : State :=
  let pri := match s.headReq c with
    | some r => bit (s.get COEX.CFG_PRI_CLASS) (r.flags / 8 % 4) || bit r.flags 2
    | none => false
  let s := (s.put COEXX.BY 0 (Nat.lor (s.get COEXX.BY) (2 ^ c))).clr CHN.COEXU c
  (if pri then s.put COEXX.PRI 0 (Nat.lor (s.get COEXX.PRI) (2 ^ c)) else s).coexDrive

/-- The grant for a port: not required, or present after a check that passed (R191, R193). -/
def State.granted (s : State) (p : Nat) : Bool :=
  !s.governed p || (s.get COEX.STATUS_CHECK == 1 && s.on COEX.STATUS_GNT)

/-! ### Ledgers and quiet intervals (R213, R215, R217) -/

/-- BUDGET of a sub-band's duty ledger, µs (R205, R215). -/
def State.dutyBudget (s : State) (b : Nat) : Nat := min (s.get SB.DUTY_PPM b) (s.get SB.DUTY_CAP_PPM b) * s.get SB.DUTY_WIN_S b

/-- How much a slot of a ledger may grow before it is written to MRAM (R217). -/
def State.ledgerStep (s : State) (x : LedgerSlot) : Nat :=
  if x.cell = 256 then s.dutyBudget x.sb / 64 else s.get SB.DWELL_DWELL_MS x.sb * 1000 / 16

/-- Write the slots a test picks to MRAM, with the header, the calendar's seconds and Mesh Phase. -/
def State.ledgerSave (s : State) (pick : LedgerSlot → Bool) : State :=
  let w := s.ledger.filter pick
  if w = [] then s
  else
    let same (a b : LedgerSlot) : Bool := a.sb == b.sb && a.cell == b.cell && a.slot == b.slot
    let s := { s with
      ledger := s.ledger.map fun x => if pick x then { x with saved := x.us } else x
      ledgerM := s.ledgerM.filter (fun m => !w.any (same m)) ++ w.map fun (x : LedgerSlot) => { x with saved := x.us } }
    ((s.set LEDG.HEADER).put LEDG.AT 0 s.calSeconds).put LEDG.MP 0 s.mp

/-- Slots that have grown by their step are written early (R217). -/
def State.ledgerEarly (s : State) : State :=
  s.ledgerSave fun x => decide (x.saved + max 1 (s.ledgerStep x) ≤ x.us)

/-- Release the quiet intervals a test picks. -/
def State.quietDrop (s : State) (pick : Quiet → Bool) : State :=
  let s := { s with quiet := s.quiet.filter (!pick ·) }
  s.put MAC.QUIET_USED 0 s.quiet.length

/-! ### Arming (R34 to R36, R178, R249) -/

/-- Put a gate record into F(56 + c) (R209). -/
def State.gatePost (s : State) (r : GateRec) : State :=
  let (ok, s) := s.hwIn (56 + r.chain)
  if ok then { s with gateRecs := s.gateRecs ++ [r] } else s

/-- The owner of a thread by its global number: 0xF for runtime threads, h for the front-end and policy engines of h
(R368). -/
def threadOwner (g : Nat) : Nat := if g / 4 < 112 then 0xF else (g / 4 - 112) / 2

/-- Whether an arming write's configuration is refused with BAD_CFG (R35, R158, R382). -/
def State.ptBad (s : State) (n : Nat) : Bool :=
  let t := s.get PT.CTL_TARGET n
  match s.get PT.CTL_ACTION n with
  | 0 => false
  | 1 => 16 ≤ n || 4 ≤ t || 2600 < s.get TIME.TX_EXT_DELAY (t % 4)
  | 2 => 6 ≤ t
  | 3 => 512 ≤ t || threadOwner t != s.get PT.CTL_OWNER n
  | 4 | 5 => 9 ≤ t
  | _ => true

/-- Post a trigger's event to its owner (R36, R438). -/
def State.ptEvent (s : State) (n : Nat) : State :=
  let h := s.get PT.CTL_OWNER n
  let st := s.get PT.STATUS_ARMED n + 2 * s.get PT.STATUS_FIRED n + 4 * s.get PT.STATUS_MISSED n
    + 8 * s.get PT.STATUS_CONFLICT n + 16 * s.get PT.STATUS_NOT_READY n + 32 * s.get PT.STATUS_BAD_CFG n
  if h < 8 then s.event h 0x0E [(16, [n]), (17, [st])] else s

/-- The preamble units a request is sent with: an Enh-Ack's is the standard one (R249, R221). -/
def State.preOf (s : State) (r : TxReq) : Nat := if r.ack then 0 else s.get TXPRE.CUR r.chain

/-- The check of the head request at an arming write (R178): the code that ends it, if one does. -/
def State.armCheck (s : State) (c : Nat) : Option Nat :=
  match s.headReq c with
  | none => none
  | some r =>
    if !preOk r.mode (s.preOf r) then some 0x12
    else if s.tooLong r.subband (airT r.mode (s.preOf r) r.psduLen) then some 0x06
    else none

/-- The triggers armed to start a frame on chain c. -/
def State.startsOn (s : State) (c : Nat) : List Nat :=
  (List.range 16).filter fun n => s.on PT.STATUS_ARMED n && s.get PT.CTL_ACTION n == 1 && s.get PT.CTL_TARGET n == c

/-- How many requests of chain c are sent before a start at a compare value. -/
def State.turnOf (s : State) (c cmp : Nat) : Nat :=
  ((s.startsOn c).filter fun n => !s.on PTX.GO n && decide (s.get PT.CMP n < cmp)).length + if s.inTx c then 1 else 0

/-- Insert a into a list in rising order of its first component. -/
def insertFirst (a : Nat × Nat) : List (Nat × Nat) → List (Nat × Nat)
  | [] => [a]
  | x :: t => if x.1 ≤ a.1 then x :: insertFirst a t else a :: x :: t

/-- The instants at which frames of chain c start and end at the connector: the one it sends and those armed, each with the request it
will start. -/
def State.airSpans (s : State) (c : Nat) : List (Nat × Nat) :=
  let starts := ((s.startsOn c).filter fun n => !s.on PTX.GO n).foldl (fun l n => insertFirst (s.get PT.CMP n, n) l) []
  let starts := (if s.inTx c then [(s.get CHN.FIRED_C c, 0)] else []) ++ starts
  (starts.zip (s.reqs c)).map fun (p, r) => (p.1, p.1 + usTicks (airT r.mode (s.preOf r) r.psduLen))

/-- Whether two half-open intervals overlap. -/
def spansMeet (a b : Nat × Nat) : Bool := a.1 < b.2 && b.1 < a.2

/-- Put a request into its chain's FIFO so that the start at a compare value sends it; one that comes to the head is checked afresh, and
what was cleared for the former head is refunded (R176, R210, R221). -/
def State.putReq (s : State) (r : TxReq) (cmp : Nat) : State :=
  let c := r.chain
  if s.on FIFO.STATUS_FROZEN (48 + c) then s else
  let k := s.turnOf c cmp
  let l := s.reqs c
  let rest := s.txReq.filter fun (x : TxReq) => x.chain != c
  let s := ({ s with txReq := l.take k ++ r :: (l.drop k ++ rest) }).reqLevel c
  if k = 0 then ((s.unclearChain c).clr CHN.CHECKED c).clr CHN.RFLAGS c else s

/-- Arm trigger n at the compare value it holds; an Enh-Ack's trigger (12 to 15) leaves CUR alone (R249). -/
def State.arm (s : State) (n : Nat) : State :=
  let s := if n < 16 then (s.disarm n).clr PTX.DENIED n else s.disarm n
  let act := s.get PT.CTL_ACTION n
  let cmp := s.get PT.CMP n
  if s.ptBad n then s.set PT.STATUS_BAD_CFG n
  else if cmp < s.mp + s.ptLead n then
    let s := (s.set PT.STATUS_MISSED n).ptEvent n
    if act = 1 then
      let c := s.get PT.CTL_TARGET n
      let tag := match (s.reqs c)[s.turnOf c cmp]? with | some r => r.tag | none => 0
      ((s.quietDrop fun q => q.chain == c && q.tag == tag).bump MAC.LATE_CNT).gatePost ⟨c, tag, 8, s.mp + 336⟩
    else s
  else if act = 1 then
    let c := s.get PT.CTL_TARGET n
    let s := if n < 12 then s.put TXPRE.CUR c (s.get TXPRE.NEXT c) else s
    match (if s.turnOf c cmp = 0 then s.armCheck c else none) with
    | some st => (s.set PT.STATUS_BAD_CFG n).endHead c st
    | none =>
      let s := s.set PT.STATUS_ARMED n
      if s.governed (s.get TXC.CTL_PORT c) && !ticksGeUs (cmp - s.mp) (s.get COEX.LEAD) then
        (s.coexAssert c).bump COEX.LATE_REQ_CNT
      else s
  else s.set PT.STATUS_ARMED n

/-- The Enh-Ack that trigger n, of 12 to 15, will not start leaves its chain's FIFO and is counted (R221). -/
def State.ackDrop (s : State) (n : Nat) : State :=
  let c := n - 12
  match (if n < 12 then none else (s.reqs c).find? (·.ack)) with
  | none => s
  | some r =>
    let s := if s.headReq c = some r then s.popReq c else ({ s with txReq := s.txReq.erase r }).reqLevel c
    s.bump MACH.ACK_SKIP r.hedge

/-- Whether a chain counts as in READY for its head request (R175); its grant is judged apart. -/
def State.radioReady (s : State) (c : Nat) : Bool :=
  match s.headReq c with
  | some r => s.on CHN.CHECKED c && s.onCarrier c r
  | none => false

/-- PT_READINESS_CHECK: the chain's state 12 µs before the compare value, with the grant sampled then (R36, R175,
R191). -/
def execPtReadinessCheck (n : Nat) (gnt : Bool) (s : State) : Host.Outcome State Fault Refusal :=
  let c := s.get PT.CTL_TARGET n
  if 16 ≤ n || !s.on PT.STATUS_ARMED n || s.get PT.CTL_ACTION n != 1 || ticksGeUs (s.get PT.CMP n - s.mp) 13 || s.on PTX.RDY n then .next s
  else
    let p := s.get TXC.CTL_PORT c
    let s := s.put COEX.STATUS_GNT 0 (if gnt != s.on COEX.CFG_GNT_POL then 1 else 0)
    if s.radioReady c && s.granted p && s.on PTX.CLEARED n then .next (s.set PTX.RDY n)
    else
      let s := s.when (!s.granted p) fun s => (s.bump COEX.DENY_CNT).set PTX.DENIED n
      .next (((s.set PT.STATUS_NOT_READY n).disarm n).ackDrop n)

/-- READY→TX begins for compare value `cmp`: the set points by the detectors of now, and the lines (R171, R181, R189). -/
def State.txBegin (s : State) (c cmp : Nat) : State :=
  let s := match s.headReq c with | some r => s.setPower c r | none => s
  let s := ((s.put CHN.TRANS c 3).set TXC.STATUS_TRANS c).put CHN.FIRED_C c cmp
  (s.put CHN.T0 c s.mp).portLines (s.get TXC.CTL_PORT c)

/-- The pin of a PIN_PULSE or PIN_TOGGLE target (R35). -/
def timePin (t : Nat) : Fld × Nat := if t < 8 then (PIN.TIME_IO, t) else (PIN.PPS_OUT, 0)

/-- What a firing trigger does (R35); a configuration no arming write would take does nothing. A TX_START has begun its transition already. -/
def State.ptAct (s : State) (n : Nat) : State :=
  let t := s.get PT.CTL_TARGET n
  let cmp := s.get PT.CMP n
  let (pin, k) := timePin t
  if s.ptBad n then s
  else match s.get PT.CTL_ACTION n with
  | 1 => ((s.clr PTX.CLEARED n).clr PTX.RDY n).clr PTX.GO n
  | 2 => s.put PTX.SNAP t cmp
  | 3 => s.put THR.EVPEND t (Nat.lor (s.get THR.EVPEND t) (2 ^ 17))
  | 4 => ((s.set pin k).put PTX.END n (cmp + s.get PT.WIDTH n)).put PTX.PIN n t
  | 5 => s.put pin k (1 - s.get pin k)
  | _ => s

/-- A TX_START that passed its readiness check begins READY→TX early by the fixed path of R158, where its chain still waits in READY; its
blanking interval is open by then (R108). -/
def State.ptGo (s : State) (n : Nat) : State :=
  let c := s.get PT.CTL_TARGET n
  let cmp := s.get PT.CMP n
  if s.on PT.STATUS_ARMED n && s.get PT.CTL_ACTION n == 1 && s.on PTX.RDY n && !s.on PTX.GO n
      && decide ((cmp - s.mp) * 10 ^ 9 ≤ (9400 + s.get TIME.TX_EXT_DELAY c) * 2 ^ 24)
      && s.get TXC.STATUS_STATE c == chReady && s.get CHN.TRANS c == 0 then
    let s := (s.txBegin c cmp).set PTX.GO n
    match s.airOf c with
    | some x => s.blankOpen x
    | none => s
  else s

/-- Whether trigger n is armed and at or past its compare value. -/
def State.ptDue (s : State) (n : Nat) : Bool := s.on PT.STATUS_ARMED n && decide (s.get PT.CMP n ≤ s.mp)

/-- Whether trigger n acts when it is due: a TX_START only when its chain has begun READY→TX for it. -/
def State.ptActs (s : State) (n : Nat) : Bool := s.get PT.CTL_ACTION n != 1 || s.on PTX.GO n

/-- After its instant a periodic trigger moves on by PERIOD and a one-shot trigger is disarmed (R36, R37). -/
def State.ptNext (s : State) (n : Nat) : State :=
  if s.get PT.PERIOD n = 0 then s.clr PT.STATUS_ARMED n else s.put PT.CMP n (s.get PT.CMP n + s.get PT.PERIOD n)

/-- The triggers that are due in this cycle: the lowest of those with one target and action acts (R36 to R38). A TX_START whose chain is not
ready for it does not fire and sets NOT_READY. -/
def State.ptFire (s : State) : State :=
  let s := s.coexDue.each (List.range 16) State.ptGo
  let due := (List.range 64).filter s.ptDue
  let key (n : Nat) : Nat × Nat := (s.get PT.CTL_ACTION n, s.get PT.CTL_TARGET n)
  let first (n : Nat) : Bool := !due.any fun m => m < n && key m == key n && s.ptActs m
  s.each due fun t n =>
    if s.ptActs n && first n then (((t.ptAct n).set PT.STATUS_FIRED n).bump PT.FIRE_CNT n).ptNext n
    else if s.ptActs n || (s.on PTX.RDY n && !first n) then ((t.set PT.STATUS_CONFLICT n).unclear n).ptNext n
    else ((t.set PT.STATUS_NOT_READY n).disarm n).ackDrop n

/-- PT_FIRE: one cycle of the triggers. -/
def execPtFire (s : State) : Host.Outcome State Fault Refusal := .next s.ptFire

/-- PT_CMP_LOW_WRITE: the compare value, with the high word the requester wrote last; it arms while EN is 1; a trigger
that is due in that cycle fires on its old value first (R3, R34). -/
def execPtCmpLowWrite (r : Req) (n v : Nat) (s : State) : Host.Outcome State Fault Refusal :=
  s.onBus r (PT.CMP.addr n) fun s =>
  if 64 ≤ n then .next s
  else
    let s := s.when (s.ptDue n) State.ptFire
    let s := s.put PT.CMP n (s.join64 r (0x401000 + 0x20 * n) v)
    .next (if s.on PT.CTL_EN n then s.arm n else s)

/-- PT_CTL_WRITE: the configuration; clearing EN disarms, and only the privileged view writes OWNER (R34, R40). What the gate cleared for
another action or target no longer holds. -/
def execPtCtlWrite (r : Req) (n v : Nat) (s : State) : Host.Outcome State Fault Refusal :=
  s.onBus r (PT.CTL_EN.addr n) fun s =>
  if 64 ≤ n then .next s
  else
    let s := if v % 2 = 0 then s.disarm n
      else if bits v 4 3 ≠ s.get PT.CTL_ACTION n ∨ bits v 16 9 ≠ s.get PT.CTL_TARGET n then s.unclear n else s
    let s := ((s.put PT.CTL_EN n v).put PT.CTL_ACTION n (bits v 4 3)).put PT.CTL_TARGET n (bits v 16 9)
    .next (s.putIf (viewOf r == 0) PT.CTL_OWNER n (bits v 28 4))

/-- PT_PULSE_END: a pulse has lasted WIDTH ticks at the pin it was driven on, unless another trigger's pulse lasts there (R35). -/
def execPtPulseEnd (n : Nat) (s : State) : Host.Outcome State Fault Refusal :=
  if s.get PTX.END n ≠ 0 ∧ s.get PTX.END n ≤ s.mp then
    let t := s.get PTX.PIN n
    let busy := (List.range 64).any fun m => m != n && s.get PTX.PIN m == t && decide (s.mp < s.get PTX.END m)
    let s := s.clr PTX.END n
    .next (if busy then s else s.clr (timePin t).1 (timePin t).2)
  else .next s

/-- PT_ALLOC: the lowest free trigger of PT24 to PT63, while the Hedge has fewer than PT_MAX (R40, R452). -/
def execPtAlloc (c : Cmd) (s : State) : Host.Outcome State Fault Refusal :=
  if s.expG 2 then .next (s.finish c 0x4D 0x13)
  else if s.get HOSTH.PT_MAX c.ring ≤ ((List.range 64).filter fun n => s.get PT.CTL_OWNER n == c.ring).length then .next (s.finish c 0x4D 0x05)
  else match ((List.range 40).map (· + 24)).find? fun n => s.get PT.CTL_OWNER n == 0xF with
    | none => .next (s.finish c 0x4D 0x05)
    | some n => .next ((s.put PT.CTL_OWNER n c.ring).complete c 0x4D 0 0 0 [(24, [n])])

/-- Clear a trigger's status (R40). -/
def State.ptClear (s : State) (n : Nat) : State :=
  s.each [PT.STATUS_FIRED, PT.STATUS_MISSED, PT.STATUS_CONFLICT, PT.STATUS_NOT_READY, PT.STATUS_BAD_CFG] fun s F => s.clr F n

/-- PT_FREE: a trigger of the Hedge is disarmed and returned; a number above 63 is a bad descriptor (R40, R434, assumption log 139). -/
def execPtFree (c : Cmd) (n : Nat) (s : State) : Host.Outcome State Fault Refusal :=
  if 64 ≤ n then .next (s.finish c 0x4E 0x12)
  else if s.get PT.CTL_OWNER n ≠ c.ring ∨ s.expH c.ring 5 then .next (s.finish c 0x4E 0x13)
  else .next ((((s.disarm n).ptClear n).put PT.CTL_OWNER n 0xF).finish c 0x4E 0)

/-! ### Radio states (R155, R156, R169 to R174) -/

/-- Whether another enabled chain is bound to a port (R156). -/
def State.portTaken (s : State) (c p : Nat) : Bool :=
  [0, 1, 2, 3].any fun d => d != c && s.on TXC.CTL_EN d && s.get TXC.CTL_PORT d == p

/-- An enabled chain leaves OFF (R170). -/
def State.chainOn (s : State) (c : Nat) : State :=
  if s.get TXC.MUTE c ≠ 0 then s.chainStop c chMuted
  else (s.put CHN.TRANS c 1).set TXC.STATUS_TRANS c

/-- TXC_CTL_WRITE (R156, R170, R187): a write with a PORT the chain may not take, or that enables it on a port another enabled chain is bound
to, is ignored whole. -/
def execTxcCtlWrite (r : Req) (c v : Nat) (s : State) : Host.Outcome State Fault Refusal :=
  s.onBus r (TXC.CTL_EN.addr c) fun s =>
  if 4 ≤ c then .next s
  else
    let st := s.get TXC.STATUS_STATE c
    let p := bits v 1 2
    let en := v % 2 == 1
    let was := s.on TXC.CTL_EN c
    let moves := p != s.get TXC.CTL_PORT c
    if (moves && (st != chOff || was)) || ((moves || (en && !was)) && s.portTaken c p) then .next (s.set TXC.EVENT_BAD_CFG c)
    else
      let s := ((s.put TXC.CTL_PORT c p).put TXC.CTL_AUTO_READY c (bits v 3 1)).put TXC.CTL_RETURN c (bits v 4 1)
      let hm := bits v 5 1
      let s := if hm = s.get TXC.CTL_HOST_MUTE c then s
        else if hm = 1 then (s.set TXC.CTL_HOST_MUTE c).muteSet c (2 ^ 7) else (s.clr TXC.CTL_HOST_MUTE c).muteClr c (2 ^ 7)
      if en && !was then .next (((s.set TXC.CTL_EN c).chainOn c).refreshAll)
      else if !en && was then
        let s := s.clr TXC.CTL_EN c
        .next (if s.get TXC.STATUS_STATE c = chTx then (s.txEnd c 0x14 true).set CHN.NEXT_OFF c else s.chainStop c chOff)
      else .next (if s.on TXC.CTL_AUTO_READY c then s.tuneHead c else s)

/-- Another request is at the head now: it is checked, and tuned for where the chain is commanded or automatic (R172, R174, R178). -/
def State.goReady (s : State) (c : Nat) : State :=
  match s.headReq c with
  | none => s.set TXC.EVENT_BAD_CFG c
  | some r => ((if s.on CHN.CHECKED c then s else s.checkHead c r).calNext c).tuneHead c

/-- Go to STANDBY from READY. -/
def State.toStandby (s : State) (c : Nat) : State :=
  if s.get TXC.STATUS_STATE c = chReady then (((s.unclearChain c).put TXC.STATUS_STATE c chStandby).clr TXC.STATUS_TRANS c).clr CHN.TRANS c |>.chainQuiet c
  else s

/-- GO_READY: at once, or pending until the transition or the frame ends (R172, R174). A standby's chains stay in STANDBY (R457). -/
def execGoReady (r : Req) (c : Nat) (s : State) : Host.Outcome State Fault Refusal :=
  s.onBus r (TXC.CMD_GO_READY.addr c) fun s =>
  if s.standby then .next s
  else if s.reqs c = [] then .next (s.set TXC.EVENT_BAD_CFG c)
  else if s.get CHN.TRANS c ≠ 0 ∨ s.get TXC.STATUS_STATE c = chTx then .next ((s.put CHN.PEND c 1).set TXC.STATUS_PENDING c)
  else .next (s.goReady c)

/-- GO_STANDBY (R170, R174). -/
def execGoStandby (r : Req) (c : Nat) (s : State) : Host.Outcome State Fault Refusal :=
  s.onBus r (TXC.CMD_GO_STANDBY.addr c) fun s =>
  if s.get CHN.TRANS c ≠ 0 ∨ s.get TXC.STATUS_STATE c = chTx then .next ((s.put CHN.PEND c 2).set TXC.STATUS_PENDING c)
  else .next (s.toStandby c)

/-- CAL_FLUSH: all 640 entries of the chain's synthesiser are stale (R162). -/
def execCalFlush (r : Req) (c : Nat) (s : State) : Host.Outcome State Fault Refusal :=
  s.onBus r (TXC.CMD_CAL_FLUSH.addr c) fun s => .next ((s.bump CALT.FLUSH c).calNext c)

/-- Apply the pending command of a chain, if there is one (R174). -/
def State.applyPending (s : State) (c : Nat) (otherwise : State → State) : State :=
  let p := s.get CHN.PEND c
  let s := (s.clr CHN.PEND c).clr TXC.STATUS_PENDING c
  match p with
  | 1 => s.goReady c
  | 2 => s.toStandby c
  | _ => otherwise s

/-- CHAIN_ENABLE_DONE: 20 µs after its causes cleared, the chain is in STANDBY, and a command that waited is applied (R170, R174). -/
def execChainEnableDone (c : Nat) (s : State) : Host.Outcome State Fault Refusal :=
  if s.get CHN.TRANS c = 1 then
    .next ((((s.clr CHN.TRANS c).clr TXC.STATUS_TRANS c).put TXC.STATUS_STATE c chStandby).applyPending c fun s => s)
  else .next s

/-- Put an entry of a calibration table: VCO band, amplitude code, loop-gain correction and temperature (R161). -/
def State.vcoPut (s : State) (n band amp loop temp : Nat) : State :=
  (((s.put CALT.BAND n band).put CALT.AMP n amp).put CALT.LOOP n loop).put CALT.TEMP n temp

/-- A full calibration has rewritten the entry of a chain's tuning; what it found is left open (R161, R162). -/
def State.calibrated (s : State) (c n : Nat) : State :=
  let (a, s) := s.draw
  let (b, s) := s.draw
  let (l, s) := s.draw
  let s := ((s.vcoPut n a b l (s.get SY.TEMP c)).put CALT.MARK n (s.get CALT.FLUSH c)).clr CALT.LOST n
  ((s.put SYX.BAND c a).put SYX.AMP c b).put SYX.LOOP c l

/-- SYNTH_TUNE_DONE: the chain is locked and in READY (R162, R163, R170); SY4 or SY5 has calibrated for its port (R165). -/
def execSynthTuneDone (c : Nat) (s : State) : Host.Outcome State Fault Refusal :=
  if c = 4 ∨ c = 5 then
    .next (if s.on SY.STATUS_CAL_RUNNING c then (s.clr SY.STATUS_CAL_RUNNING c).set SY.STATUS_LOCK c else s)
  else if s.get CHN.TRANS c = 2 then
    let f := s.get CHN.FREQ c
    let s := if s.get CHN.CAL c = 2 then s.calibrated c (1024 * c + segOf f) else s
    let s := ((s.clr CHN.TRANS c).clr TXC.STATUS_TRANS c).put TXC.STATUS_STATE c chReady
    let s := ((s.set SY.STATUS_LOCK c).clr SY.STATUS_CAL_RUNNING c).put CHN.PREV c f
    .next ((s.applyPending c fun s => s).calNext c)
  else .next s

/-- SYNTH_LOCK_LOST: a transmit synthesiser loses lock (R164, R536). -/
def execSynthLockLost (c : Nat) (s : State) : Host.Outcome State Fault Refusal :=
  if 4 ≤ c || !s.on SY.STATUS_LOCK c then .next s
  else
    let s := ((s.clr SY.STATUS_LOCK c).bump SY.LOCK_LOST_CNT c).set TXC.EVENT_LOCK_LOST c
    let s := ((s.set CALT.LOST (1024 * c + segOf (s.get CHN.FREQ c))).fault 0x0B01 c 0).calNext c
    .next (if s.get TXC.STATUS_STATE c = chTx then s.txEnd c 0x14 true else s.toStandby c)

/-- One coordinate move of the tuner search: the next of the six field and direction pairs, by one (R184). -/
def State.tunerTrial (s : State) (p : Nat) : State :=
  let k := s.get CHN.TSTEP p
  let code := s.get TXPORT.TUNE_NOW p
  let lo := [0, 6, 12].getD (k / 2) 0
  let w := [6, 6, 4].getD (k / 2) 6
  let v := bits code lo w
  let v' := if k % 2 = 0 then min (2 ^ w - 1) (v + 1) else v - 1
  let s := (s.put CHN.TPREV p code).set CHN.TMOVED p
  s.put TXPORT.TUNE_NOW p (code - v * 2 ^ lo + v' * 2 ^ lo)

/-- The tuner interval of a frame: a move that brought no gain is reverted, then a search makes its next trial (R180, R184). -/
def State.tunerStep (s : State) (p : Nat) : State :=
  let s := if s.on CHN.TREV p then (s.put TXPORT.TUNE_NOW p (s.get CHN.TPREV p)).clr CHN.TREV p else s
  if s.on CHN.SEARCH p then s.tunerTrial p else s

/-- The octets of a request's PSDU: the Mesh Runtime's own frame, else those at BUF (R176). -/
def State.psduOf (s : State) (r : TxReq) : List Nat := if r.psdu = [] then memReadL s.mem.sram r.buf r.psduLen else r.psdu

/-- The frame of the head request goes on air at the carrier of the tuning; the scrambler's seed is left open (R122 to R128, R166; assumption
log 153). A longer preamble than the standard one is counted (R262). -/
def State.txSend (s : State) (c : Nat) (r : TxReq) : State :=
  let s := s.when (decide (preStd r.mode < s.preOf r)) (·.bump TXPRE.EXT_CNT c)
  let (seed, s) := s.draw
  let psdu := s.psduOf r
  { s with wire := s.wire ++ [(.radio c (s.get CHN.CAR16 c) r.mode psdu (frameSyms r.mode (s.preOf r) seed psdu) : Wire)] }

/-- TX_STATE_ENTER: 8 µs after the start the chain is in TX and the first sample leaves the modulator (R170, R171,
R179). -/
def execTxStateEnter (c : Nat) (s : State) : Host.Outcome State Fault Refusal :=
  if s.get CHN.TRANS c = 3 then
    let s := ((s.clr CHN.TRANS c).clr TXC.STATUS_TRANS c).put TXC.STATUS_STATE c chTx
    let s := ((s.put CHN.START c (s.get CHN.FIRED_C c)).bump TXC.TX_CNT c).clr CHN.STATUS c
    let p := s.get TXC.CTL_PORT c
    let s := ((s.clr CHN.FROZEN c).portLines p).tunerStep p
    .next (match s.headReq c with | some r => s.txSend c r | none => s)
  else .next s

/-- Whether some µs have passed since the first sample of the frame on air was at the port ball (R158, R180). -/
def State.ballPast (s : State) (c us : Nat) : Bool :=
  (us * 1000) * 2 ^ 24 + s.get CHN.START c * 10 ^ 9 ≤ s.mp * 10 ^ 9 + s.get TIME.TX_EXT_DELAY c * 2 ^ 24

/-- POWER_LOOP_STEP: every 4 µs of the loop interval [16, 48) µs the driver moves by half the error, within ±6 dB of the open-loop
setpoint (R180); `measured` is mean power at the connector, 0.25 dBm. -/
def execPowerLoopStep (c : Nat) (measured : Int) (s : State) : Host.Outcome State Fault Refusal :=
  if s.get TXC.STATUS_STATE c = chTx ∧ s.get CHN.TRANS c = 0 ∧ ¬ bit (s.get CHN.RFLAGS c) 5 ∧ s.ballPast c 16 ∧ ¬ s.ballPast c 48
      ∧ ¬ s.on CHN.FROZEN c then
    let set0 := s.getI CHN.SET0 c
    let top : Int := if s.get TXC.CTL_PORT c < 2 then 40 else 24
    let v := s.getI CHN.SETP c + (s.getI CHN.TARGET c - measured) / 2
    .next (s.putI CHN.SETP c (clampI (-120) top (clampI (set0 - 24) (set0 + 24) v)))
  else .next s

/-- Whether power exceeds P_max by more than 1.5 dB (R182). -/
def State.overPower (s : State) (c : Nat) (measured : Int) : Bool :=
  (s.headReq c).isSome && decide (s.getI CHN.LIMIT c + 6 < measured)

/-- TX_LOOP_END: 48 µs into the frame the gain is frozen and its correction kept; overpower ends the frame (R180, R182). -/
def execTxLoopEnd (c : Nat) (measured : Int) (s : State) : Host.Outcome State Fault Refusal :=
  if s.get TXC.STATUS_STATE c ≠ chTx ∨ s.get CHN.TRANS c ≠ 0 ∨ s.on CHN.FROZEN c ∨ ¬ s.ballPast c 48 then .next s
  else
    let p := s.get TXC.CTL_PORT c
    let s := s.set CHN.FROZEN c
    let s := s.when (!bit (s.get CHN.RFLAGS c) 5) fun s =>
      s.putI CHN.COR (1024 * p + segOf (s.get CHN.FREQ c)) (s.getI CHN.SETP c - s.getI CHN.SET0 c)
    if s.overPower c measured then
      .next ((((s.txEnd c 0x14 true).set TXPORT.EVENT_OVERPOWER p).fault 0x0B04 c 2).muteSet c (2 ^ 5))
    else .next s

/-- An aerial classed open or short (R185, R566, R567). -/
def State.aerialFault (s : State) (c : Nat) (detail : List (Nat × List Nat)) : State :=
  let p := s.get TXC.CTL_PORT c
  let s := s.txEnd c 0x14 true
  ((s.set TXPORT.EVENT_OPEN_SHORT p).fault 0x0B03 c 2 none 0 0 detail).muteSet c (2 ^ 3)

/-- FWD_POWER_CHECK: forward power over [48, 64) µs more than 10 dB below P_t (R567). -/
def execFwdPowerCheck (c : Nat) (fwd : Int) (s : State) : Host.Outcome State Fault Refusal :=
  let p := s.get TXC.CTL_PORT c
  if s.get TXC.STATUS_STATE c = chTx ∧ ¬ s.on TXPORT.DET_STATUS_FWD_OPEN p ∧ fwd < s.getI CHN.TARGET c - 40 then
    .next (s.aerialFault c [(0, [1])])
  else .next s

/-- Whether the return loss can be measured at a port (R188). -/
def State.vswr (s : State) (p : Nat) : Bool := !s.on TXPORT.DET_STATUS_FWD_OPEN p && !s.on TXPORT.DET_STATUS_REV_OPEN p

/-- AERIAL_FAULT_DETECT: return loss, in 0.25 dB, over 16 µs of the frame (R183, R185). -/
def execAerialFaultDetect (c rl : Nat) (s : State) : Host.Outcome State Fault Refusal :=
  let p := s.get TXC.CTL_PORT c
  if s.get TXC.STATUS_STATE c = chTx ∧ s.vswr p ∧ rl < s.get TXPORT.RL_THR_RL_OPEN p then
    .next ((s.put CHN.RL c rl).aerialFault c [])
  else .next s

/-- The tuner search after a frame: a move is kept if RL rose by 0.5 dB, else it is reverted in the next frame's tuner interval; the search
ends when RL is good or six trials in a row brought nothing, and the code kept goes into the working table (R184). -/
def State.tunerJudge (s : State) (p rl seg : Nat) : State :=
  if !s.on CHN.SEARCH p || !s.on CHN.TMOVED p then s
  else
    let gain := s.get CHN.TRL p + 2 ≤ rl
    let s := s.clr CHN.TMOVED p
    let s := if gain then (s.clr CHN.TRIAL p).put CHN.TRL p rl
      else ((s.bump CHN.TRIAL p).set CHN.TREV p).put CHN.TSTEP p ((s.get CHN.TSTEP p + 1) % 6)
    if s.get TXPORT.RL_THR_RL_GOOD p ≤ rl ∨ 6 ≤ s.get CHN.TRIAL p then
      let code := if gain then s.get TXPORT.TUNE_NOW p else s.get CHN.TPREV p
      (((s.clr CHN.SEARCH p).clr CHN.TRIAL p).put TUNE.CODE (1024 * p + seg) code).bump TXPORT.SEARCH_CNT p
    else s

/-- Class a frame by its return loss (R183). -/
def State.rlClassify (s : State) (c rl : Nat) : State :=
  let p := s.get TXC.CTL_PORT c
  let s := (s.put TXPORT.LAST_RL p rl).tunerJudge p rl (segOf (s.get CHN.FREQ c))
  if rl < s.get TXPORT.RL_THR_RL_MIN p then
    let s := (s.bump TXPORT.MISMATCH_CNT p).set TXPORT.EVENT_MISMATCH p
    if s.on TXPORT.CFG_TUNE_SEARCH p && !s.on CHN.SEARCH p then ((s.set CHN.SEARCH p).clr CHN.TRIAL p).put CHN.TRL p rl else s
  else if s.get TXPORT.RL_THR_RL_GOOD p ≤ rl then s.clr CHN.SEARCH p
  else s

/-- TX_LAST_SAMPLE: the last sample has passed; `rl` is the frame's return loss in 0.25 dB and `pwr` its power in 0.25 dBm
(R170, R180, R183). -/
def execTxLastSample (c rl : Nat) (pwr : Int) (s : State) : Host.Outcome State Fault Refusal :=
  if s.get TXC.STATUS_STATE c ≠ chTx ∨ s.get CHN.TRANS c = 4 then .next s
  else
    let p := s.get TXC.CTL_PORT c
    let s := (s.txEnd c 0 false).putI CHN.PWR c pwr
    let s := s.putI TXPORT.LAST_PWR p pwr
    .next (if s.vswr p then (s.put CHN.RL c rl).rlClassify c rl else s)

/-- The result of the head request as it stands (R177). -/
def State.headResult (s : State) (c : Nat) (r : TxReq) : TxRes :=
  let pw := s.get CHN.PWR c
  ⟨c, r.tag, s.get CHN.STATUS c, s.get CHN.RFLAGS c, s.get CHN.RL c,
    if pw = 0x8000 then 0x80 else ofInt 8 (toInt 16 pw / 2), s.get CHN.START c⟩

/-- A transmission ends: the gate replaces the charge by the airtime spent from the first sample to TX→READY, and fixes its
blanking interval (R108, R210). -/
def State.airEnd (s : State) (c : Nat) : State :=
  match s.airOf c with
  | none => s
  | some x =>
    let ns := (s.mp - x.start) * 10 ^ 9 / 2 ^ 24 + 9400 + s.get TIME.TX_EXT_DELAY c - 14000
    let used := ceilDiv ns 1000
    let s := (s.ledgerCharge x ((used : Int) - x.us)).ledgerEarly
    { s with air := s.air.map fun y => if y = x then
        { x with us := used, ended := true, until_ := s.mp + ceilDiv (s.get BLANK.TIME_POST * 2 ^ 24) (10 ^ 9) } else y }

/-- READY again after a transmission; the result is handed out, the wires are released, and the chain goes where the causes, the
pending command or CTL.RETURN send it (R170 to R174, R177, R210). -/
def State.txToReady (s : State) (c : Nat) : State :=
  let s := (s.airEnd c).coexRelease c
  let s := match s.headReq c with
    | some r => (s.pushRes (s.headResult c r)).popReq c
    | none => s
  let s := ((s.clr CHN.TRANS c).clr TXC.STATUS_TRANS c).put TXC.STATUS_STATE c chReady
  let s := s.portLines (s.get TXC.CTL_PORT c)
  if s.on CHN.NEXT_OFF c then ((s.clr CHN.NEXT_OFF c).clr CHN.NEXT_MUTED c).chainStop c chOff
  else if s.on CHN.NEXT_MUTED c then (s.clr CHN.NEXT_MUTED c).chainStop c chMuted
  else if !s.on SY.STATUS_LOCK c then (s.clr CHN.PEND c).clr TXC.STATUS_PENDING c |>.toStandby c
  else s.applyPending c fun s => if s.on TXC.CTL_RETURN c then s.toStandby c else s

/-- TX_TO_READY_DONE: the chain is in READY again. -/
def execTxToReadyDone (c : Nat) (s : State) : Host.Outcome State Fault Refusal :=
  .next (if s.get CHN.TRANS c ≠ 4 then s else s.txToReady c)

/-! ### Checks, mutes and coexistence (R185 to R188, R191 to R193) -/

/-- OUTPUT_READBACK_MISMATCH: line k of a port (0 PA_EN, 1 TRSW T/R, 2 TRSW aux, 3 PA_BIAS), or COEX_REQ or COEX_PRI
(k = 4) (R186, R536); TIME_IO ball p (k = 5), PPS_OUT (6) or PWRON_CTL (7) (R566, R573). -/
def execOutputReadbackMismatch (k p : Nat) (s : State) : Host.Outcome State Fault Refusal :=
  if k = 4 then .next (s.set COEX.STATUS_READBACK)
  else if k < 4 ∧ p < 4 then
    let s := (s.set TXPORT.EVENT_READBACK p).put TXPORT.READBACK_SRC p k
    .next (s.each ([0, 1, 2, 3].filter fun c => s.get TXC.CTL_PORT c == p) fun s c => (s.fault 0x0B02 c 2).muteSet c (2 ^ 2))
  else if k = 5 ∧ p < 8 then .next (s.put PADS.READBACK_TIME_IO 0 (Nat.lor (s.get PADS.READBACK_TIME_IO) (2 ^ p)))
  else if k = 6 then .next (s.set PADS.READBACK_PPS_OUT)
  else if k = 7 then .next (s.set PADS.READBACK_PWRON_CTL)
  else .next s

/-- TXC_MUTE_WRITE: bits 2, 3, 5 and 6 clear by a write of 1 unless their condition still holds, bit 0 by the Steward's (R5, R187). Which
conditions hold on the board is a free value (assumption log 157). -/
def execTxcMuteWrite (r : Req) (c v : Nat) (s : State) : Host.Outcome State Fault Refusal :=
  s.onBus r (TXC.MUTE.addr c) fun s =>
  let mask := if r = .steward then 0x6D else 0x6C
  let v := Nat.land v mask
  let (held, s) := s.draw
  .next (if c < 4 then s.muteClr c (v - Nat.land v held) else s)

/-- RUNAWAY_TIMEOUT: TX has lasted 100 µs beyond its limit (R187). -/
def execRunawayTimeout (c : Nat) (s : State) : Host.Outcome State Fault Refusal :=
  match s.headReq c with
  | none => .next s
  | some r =>
    let lim := if s.get SB.MAX_TX_US r.subband = 0 then airT r.mode (s.preOf r) r.psduLen else s.get SB.MAX_TX_US r.subband
    if s.get TXC.STATUS_STATE c = chTx ∧ ticksGeUs (s.mp - s.get CHN.START c) (lim + 100) then
      .next ((s.fault 0x0B05 c 2).muteSet c (2 ^ 6))
    else .next s

/-- DET_CHECK: the bias check of a port that does not transmit (R188). -/
def execDetCheck (p : Nat) (pa fwd rev : Bool) (s : State) : Host.Outcome State Fault Refusal :=
  let b (x : Bool) : Nat := if x then 1 else 0
  let cs := [0, 1, 2, 3].filter fun c => s.get TXC.CTL_PORT c == p
  if 4 ≤ p || cs.any (fun c => s.get TXC.STATUS_STATE c == chTx) then .next s
  else
    let s := ((s.put TXPORT.DET_STATUS_PA_DET_OPEN p (b pa)).put TXPORT.DET_STATUS_FWD_OPEN p (b fwd)).put TXPORT.DET_STATUS_REV_OPEN p (b rev)
    let s := s.when (pa || fwd || rev) (·.set TXPORT.EVENT_DET_OPEN p)
    let bad := (fwd || rev) && !s.on TXPORT.CFG_ALLOW_NO_VSWR p
    .next (s.each cs fun s c =>
      if bad then (if bit (s.get TXC.MUTE c) 4 then s else s.fault 0x0B06 c 2).muteSet c (2 ^ 4) else s.muteClr c (2 ^ 4))

/-- COEX_REQ_ASSERT: LEAD before the compare value of an armed trigger on a governed port (R191). -/
def execCoexReqAssert (n : Nat) (s : State) : Host.Outcome State Fault Refusal :=
  let c := s.get PT.CTL_TARGET n
  if n < 16 && s.on PT.STATUS_ARMED n && s.get PT.CTL_ACTION n == 1 && s.governed (s.get TXC.CTL_PORT c)
      && !ticksGeUs (s.get PT.CMP n - s.mp) (s.get COEX.LEAD + 1) then .next (s.coexAssert c)
  else .next s

/-- COEX_GNT_FALL: the grant falls; with ABORT 1 a governed frame in TX ends with LBT_FAIL (R192). -/
def execCoexGntFall (s : State) : Host.Outcome State Fault Refusal :=
  let s := s.clr COEX.STATUS_GNT
  .next (s.each [0, 1, 2, 3] fun s c =>
    if s.get TXC.STATUS_STATE c = chTx ∧ s.governed (s.get TXC.CTL_PORT c) ∧ s.on COEX.CFG_ABORT ∧ s.get CHN.TRANS c ≠ 4 then
      ((s.orFlag c 4).txEnd c 0x07 true).bump COEX.ABORT_CNT
    else s)

/-- Start the coexistence check (R193). -/
def State.coexStart (s : State) : State :=
  ((s.put COEXX.STEP 0 1).clr COEX.STATUS_CHECK).set PIN.COEX_Z

/-- COEX_CHECK: CMD.CHECK, or CFG.EN rising (R193). -/
def execCoexCheck (r : Req) (s : State) : Host.Outcome State Fault Refusal :=
  s.onBus r (COEX.CMD_CHECK.addr 0) fun s => .next s.coexStart

/-- COEX_CHECK_STEP_END: the result of a step, an edge seen in step 1 or the grant following in step 2 (R193). -/
def execCoexCheckStepEnd (x : Bool) (s : State) : Host.Outcome State Fault Refusal :=
  match s.get COEXX.STEP with
  | 1 =>
    if x then .next ((s.clr COEXX.STEP).put COEX.STATUS_CHECK 0 2)
    else .next ((s.put COEXX.STEP 0 2).clr PIN.COEX_Z).coexDrive
  | 2 => .next ((s.clr COEXX.STEP).put COEX.STATUS_CHECK 0 (if x then 1 else 3))
  | _ => .next s

/-- COEX_LEAD_WRITE: 12 to 1,000 µs (R191). -/
def execCoexLeadWrite (r : Req) (v : Nat) (s : State) : Host.Outcome State Fault Refusal :=
  s.onBus r (COEX.LEAD.addr 0) fun s =>
  let v := v % 2 ^ 16
  .next (if 12 ≤ v ∧ v ≤ 1000 then s.put COEX.LEAD 0 v else s.set COEX.EVENT_BAD_CFG)

end Sys2Proof.Machine
end

