-- ==== Sys2Proof/Machine/Gate.lean ====
section
/-!
DEFINITION. Channel plans and PAN identifiers (R199, R200), the regulatory profile (R202 to R206), the transmit gate (R207 to
R213) and its ledgers (R215 to R217).
-/

namespace Sys2Proof.Machine

open Sys2Proof

/-! ### Channel plans, PAN identifiers and the profile -/

/-- Whether a channel's nominal frequency lies in a band of the part (R199). -/
def chanOk (f : Nat) : Bool := (400000000 ≤ f && f < 960000000) || (2402000000 ≤ f && f < 2482000000)

/-- Whether a plan may be enabled (R199). -/
def planOk (f0 sp count wn wp : Nat) : Bool :=
  count != 0 && wn ≤ count && (wn == 0 || Nat.gcd wp wn == 1) && (List.range count).all fun c => chanOk (f0 + c * sp)

/-- CHPLAN_WRITE: CTL, F0_HZ, SPACING_HZ, COUNT or WAKE of a plan, checked while it is, or becomes, enabled (R199). -/
def execChplanWrite (r : Req) (h off v : Nat) (s : State) : Host.Outcome State Fault Refusal :=
  s.onBus r (CHPLAN.CTL_EN.addr h + off) fun s =>
  if 8 ≤ h then .next s
  else
    let t := match off with
      | 0 => s.put CHPLAN.CTL_EN h v
      | 4 => s.put CHPLAN.F0_HZ h v
      | 8 => s.put CHPLAN.SPACING_HZ h v
      | 0xC => s.put CHPLAN.COUNT h v
      | 0x10 => (s.put CHPLAN.WAKE_WAKE_N h v).put CHPLAN.WAKE_WAKE_P h (bits v 16 10)
      | _ => s
    let ok := planOk (t.get CHPLAN.F0_HZ h) (t.get CHPLAN.SPACING_HZ h) (t.get CHPLAN.COUNT h) (t.get CHPLAN.WAKE_WAKE_N h)
      (t.get CHPLAN.WAKE_WAKE_P h)
    if !t.on CHPLAN.CTL_EN h || ok then .next t
    else .next (s.set CHPLAN.EVENT_BAD_CFG h)

/-- PANMAP_WRITE (R200). -/
def execPanmapWrite (r : Req) (i off v : Nat) (s : State) : Host.Outcome State Fault Refusal :=
  s.onBus r (PANMAP.CFG_EN.addr i + off) fun s =>
  if 32 ≤ i then .next s
  else if off = 4 then .next (s.put PANMAP.OWN_SHORT i v)
  else
    let pan := v % 2 ^ 16
    let clash := bit v 24 && (List.range 32).any fun j => j != i && s.on PANMAP.CFG_EN j && s.get PANMAP.CFG_PAN_ID j == pan
    if pan = 0xFFFF ∨ clash then .next (s.set MAC.EVENT_BAD_CFG)
    else .next ((((s.put PANMAP.CFG_PAN_ID i v).put PANMAP.CFG_HEDGE i (bits v 16 3)).put PANMAP.CFG_EN i (bits v 24 1)).put
      PANMAP.CFG_HOP i (bits v 25 1))

/-- AIR_EUI64_WRITE: the low word, with the high word the requester wrote last; only while no chain is enabled (R3, R234). -/
def execAirEui64Write (r : Req) (v : Nat) (s : State) : Host.Outcome State Fault Refusal :=
  s.onBus r (MAC.AIR_EUI64.addr 0) fun s =>
  let x := s.join64 r 0x621030 v
  .next (if [0, 1, 2, 3].any fun c => s.on TXC.CTL_EN c then s.set MAC.EVENT_BAD_CFG else s.put MAC.AIR_EUI64 0 x)

/-- PROFILE_SET_REGION: accepted only while the field is blank (R202, R434). -/
def execProfileSetRegion (c : Cmd) (region : Nat) (s : State) : Host.Outcome State Fault Refusal :=
  if s.get OTP.REGION ≠ 0 then .next (s.finish c 0x70 0x13)
  else .next ((s.put OTP.REGION 0 region).finish c 0x70 0)

/-- The lowest LBT_THR of the enabled LBT sub-bands that overlap the band of a slice's port, or the reset value (R203). -/
def State.thrA (s : State) (n : Nat) : Nat :=
  let lo := if n < 4 then 400000000 else 2402000000
  let hi := if n < 4 then 960000000 else 2482000000
  let bs := (List.range (s.get REGPROF.HDR_SB_COUNT)).filter fun b =>
    s.on SB.CFG_EN b && s.on SB.CFG_LBT_EN b && s.get SB.LO_HZ b < hi && lo < s.get SB.HI_HZ b
  match bs.map fun b => s.get SB.LBT_THR b with
  | [] => 0x0640
  | x :: xs => xs.foldl min x

/-- The Steward's lock: THR_A of every slice follows the profile first, and the PROFILE mute cause clears (R187, R203). -/
def State.lockProfile (s : State) : State :=
  let s := s.each (List.range 6) fun s n => s.put SLICE.THR_THR_A n (s.thrA n)
  (s.set REGPROF.CTL_LOCK).each [0, 1, 2, 3] fun s c => s.muteClr c (2 ^ 1)

/-- REGPROF_LOCK_SET: the profile is locked, which the Steward does with THR_A set. Refused while FRAMEWORK is 0 (R204, R231). -/
def execRegprofLockSet (r : Req) (s : State) : Host.Outcome State Fault Refusal :=
  s.onBus r (REGPROF.CTL_LOCK.addr 0) fun s =>
  if s.get REGPROF.HDR_FRAMEWORK = 0 ∨ s.on REGPROF.CTL_LOCK then .next s
  else if r = .steward then .next s.lockProfile
  else .next ((s.set REGPROF.CTL_LOCK).each [0, 1, 2, 3] fun s c => s.muteClr c (2 ^ 1))

/-! ### Ledgers (R215 to R217) -/

/-- µs in a ledger's slots [cur − back, cur]. -/
def State.ledgerSum (s : State) (b cell back cur : Nat) : Nat :=
  ((s.ledger.filter fun x => x.sb == b && x.cell == cell && x.slot ≤ cur && cur ≤ x.slot + back).map (·.us)).foldl (· + ·) 0

/-- USED of a duty ledger at an instant (R215). -/
def State.dutyUsed (s : State) (b t : Nat) : Nat := s.ledgerSum b 256 64 (s.dutySlot b t)

/-- The start of the first slot after `cur` at which a ledger can take an airtime. -/
def State.ledgerFree (s : State) (b cell back cur air cap len parts : Nat) : Nat :=
  let j := ((List.range (back + 2)).map (cur + 1 + ·)).find? fun j => s.ledgerSum b cell back j + air ≤ cap
  ceilDiv (j.getD (cur + back + 1) * max 1 len * 2 ^ 24) parts

/-- DUTY_SLOT_END: the ended slots of a sub-band's ledgers are written to MRAM, and slots that no sum can take in any more are
dropped (R215 to R217). -/
def execDutySlotEnd (i : Nat) (s : State) : Host.Outcome State Fault Refusal :=
  let cur (x : LedgerSlot) := if x.cell = 256 then s.dutySlot i s.mp else s.dwellSlot i s.mp
  let s := s.ledgerSave fun x => x.sb == i && x.saved != x.us && decide (x.slot < cur x)
  let old (x : LedgerSlot) : Bool := x.sb == i && decide (x.slot + (if x.cell = 256 then 64 else 16) < cur x)
  .next { s with ledger := s.ledger.filter (!old ·), ledgerM := s.ledgerM.filter (!old ·) }

/-- The ledgers after a power-on or system reset (R217): the stored slots, by their age at the last write and the calendar time since, with
the allowance on the newest of each ledger, or, where that time cannot be known, every ledger full. -/
def State.ledgerRestore (s : State) : State :=
  let subs := (List.range 16).filter fun b => s.get SB.DUTY_PPM b != 0
  let hops := (List.range 16).filter fun b => s.on SB.CFG_FHSS b
  if !s.on LEDG.HEADER then s
  else if s.on RTC.STATUS_OSC_STOPPED || s.on LEDG.BAD then
    let full := (subs.map fun b => (⟨b, 256, s.dutySlot b s.mp, s.dutyBudget b, 0⟩ : LedgerSlot))
      ++ hops.flatMap fun b => (List.range 256).map fun c => (⟨b, c, s.dwellSlot b s.mp, s.get SB.DWELL_DWELL_MS b * 1000, 0⟩ : LedgerSlot)
    { s.set MAC.EVENT_LEDGER_LOST with ledger := full }
  else
    let gone := s.calSeconds - s.get LEDG.AT
    let back (x : LedgerSlot) : Nat := if x.cell = 256 then 64 else 16
    let win (x : LedgerSlot) : Nat := max 1 (if x.cell = 256 then s.get SB.DUTY_WIN_S x.sb else s.get SB.DWELL_DWELL_PERIOD_S x.sb)
    let newest (x : LedgerSlot) : Nat :=
      ((s.ledgerM.filter fun y => y.sb == x.sb && y.cell == x.cell).map (·.slot)).foldl max 0
    let slotAt (x : LedgerSlot) (t : Nat) : Nat := if x.cell = 256 then s.dutySlot x.sb t else s.dwellSlot x.sb t
    let place (x : LedgerSlot) : Option LedgerSlot :=
      let cur := slotAt x s.mp
      let age := slotAt x (s.get LEDG.MP) - x.slot + gone * back x / win x
      let us := x.us + if x.slot = newest x then s.ledgerStep x else 0
      if age ≤ back x then some { x with slot := cur - age, us := us, saved := us } else none
    { s.set MAC.EVENT_LEDGER_RESTORED with ledger := s.ledgerM.filterMap place }

/-! ### The gate (R207 to R213) -/

/-- What the gate decides on: the request, its carrier in 1/16 Hz, the instant C and the airtime. -/
structure GateCase where
  r : TxReq
  f16 : Nat
  c : Nat
  air : Nat

/-- The occupied band in whole Hz. -/
def State.occupied (s : State) (g : GateCase) : Nat × Nat :=
  ((g.f16 - 8 * s.obw g.r.mode) / 16, ceilDiv (g.f16 + 8 * s.obw g.r.mode) 16)

/-- The channel cell of a frame (R216). -/
def State.cellOf (s : State) (g : GateCase) : Nat :=
  if s.get SB.DWELL_GRID g.r.subband = 0 then 0
  else (g.f16 / 16 - s.get SB.LO_HZ g.r.subband) / s.get SB.DWELL_GRID g.r.subband

/-- The end of a transmission on air, as it is known now. -/
def State.airStop (s : State) (x : OnAir) : Nat :=
  let e := x.start + usTicks x.us
  if x.ended then e else max e s.mp

/-- The blanking interval of a transmission cleared for C on a chain (R108, R158, R171). -/
def State.blankSpan (s : State) (chain c air : Nat) : Nat × Nat :=
  let lead := 9400 + s.get TIME.TX_EXT_DELAY chain
  (c - ceilDiv ((lead + s.get BLANK.TIME_PRE) * 2 ^ 24) (10 ^ 9),
   c + ceilDiv ((air * 1000 + 14000 + s.get BLANK.TIME_POST) * 2 ^ 24) (10 ^ 9) - lead * 2 ^ 24 / 10 ^ 9)

/-- The bins of a slice that overlap a band, by number. -/
def State.binsIn (s : State) (n f1 f2 : Nat) : List Nat :=
  let x0 := s.get SLICE.BIN0_FREQ n
  (List.range (binsOf n)).filter fun b => bandsMeet (x0 + 50000 * b : Nat) (x0 + 50000 * (b + 1) : Nat) f1 f2

/-- Whether a transmission on a port and carrier would blank a bin that a quiet interval listens to. -/
def State.wouldBlank (s : State) (port freq : Nat) (q : List Nat) (f1 f2 : Nat) : Bool :=
  q.any fun n => (s.binsIn n f1 f2).any fun b =>
    s.binBlanked ⟨0, port, freq, 0, 0, true⟩ (slicePort n) (s.get SLICE.BIN0_FREQ n + 50000 * b)

/-- The slices the gate considers for a band (R212). -/
def State.considered (s : State) (port f1 f2 : Nat) : List Nat :=
  (List.range 6).filter fun n =>
    let c := s.sliceCentre n
    let lo := if n < 4 then c - 20000000 else max (c - 40000000) 2402000000
    let hi := if n < 4 then c + 20000000 else min (c + 40000000) 2482000000
    s.mapRuns n && slicePort n / 2 == port / 2 && lo ≤ f1 && f2 ≤ hi

/-- Whether period stamp a precedes period k, modulo 2^32 (R104). -/
def precedes (a k : Nat) : Bool :=
  let d := (k % 2 ^ 32 + 2 ^ 32 - a % 2 ^ 32) % 2 ^ 32
  0 < d && d < 2 ^ 31

/-- Whether a stamp lies in the periods k0 to k1. -/
def stampIn (a k0 k1 : Nat) : Bool := (a + 2 ^ 32 - k0 % 2 ^ 32) % 2 ^ 32 ≤ k1 - k0

/-- Listen-before-talk over a window of `len` ticks: 0 CLEAR, 1 BUSY, 2 UNCOVERED (R211, R212). -/
def State.lbt (s : State) (g : GateCase) (port len : Nat) : Nat :=
  let (f1, f2) := s.occupied g
  let k0 := (g.c - 437 - len) / 128
  let k1 := (g.c - 438) / 128
  let ms := (s.considered port f1 f2).filterMap fun n => (s.mapOf n).map fun m => (m, s.binsIn n f1 f2)
  if ms.any fun (m, bs) => bs.any fun b => stampIn (m.busyA.getD b 0) k0 k1 then 1
  else if ms.any fun (m, bs) => k1 ≤ m.head && bs.all fun b => precedes (m.busyA.getD b 0) k0 && precedes (m.blank.getD b 0) k0 then 0
  else 2

/-- Reserve a quiet interval (R213); the answer is the instant reported. -/
def State.quietReserve (s : State) (g : GateCase) (port len : Nat) : Nat × State :=
  let (f1, f2) := s.occupied g
  if 16 ≤ s.quiet.length then ((s.quiet.map (·.hi)).foldl max 0, s)
  else
    let ns := s.considered port f1 f2
    let ends := (s.air.filter fun x => s.wouldBlank x.port x.freq ns f1 f2).map fun x =>
      if x.ended then x.until_ else (s.blankSpan x.chain x.start x.us).2
    let lo := (ends ++ s.quiet.map (·.hi)).foldl max s.mp
    let s := { s with quiet := s.quiet ++ [(⟨lo, lo + len, ns, f1, f2, g.r.chain, g.r.tag⟩ : Quiet)] }
    (lo + len + 437, s.put MAC.QUIET_USED 0 s.quiet.length)

/-- Steps 1 to 5 of R209: the verdict and EARLIEST of the first check that fails. -/
def State.gateChecks (s : State) (g : GateCase) (port : Nat) : Option (Nat × Nat) :=
  let b := g.r.subband
  let off := usTicks (s.get SB.MIN_OFF_US b)
  let last := ((s.air.filter fun x => x.sb == b && x.start ≤ g.c).map s.airStop).foldl max 0
  let duty := s.get SB.DUTY_PPM b != 0
  let hop := s.on SB.CFG_FHSS b
  let cell := s.cellOf g
  let dwell := s.get SB.DWELL_DWELL_MS b * 1000
  let (lo, hi) := s.blankSpan g.r.chain g.c g.air
  let held := s.quiet.filter fun q => decide (lo < q.hi ∧ q.lo < hi) && s.wouldBlank port (g.f16 / 16) q.slices q.f1 q.f2
  if !s.sbOk b || s.obw g.r.mode < s.get SB.MIN_BW_HZ b || (duty && s.dutyBudget b < g.air)
      || (hop && (dwell < g.air || 255 < cell)) then some (7, 0)
  else if s.get SB.MIN_OFF_US b ≠ 0 ∧ last ≠ 0 ∧ g.c < last + off then some (4, last + off)
  else if hop && dwell < s.ledgerSum b cell 16 (s.dwellSlot b g.c) + g.air then
    some (5, s.ledgerFree b cell 16 (s.dwellSlot b g.c) g.air dwell (s.get SB.DWELL_DWELL_PERIOD_S b) 16)
  else if duty && s.dutyBudget b < s.dutyUsed b g.c + g.air then
    some (3, s.ledgerFree b 256 64 (s.dutySlot b g.c) g.air (s.dutyBudget b) (s.get SB.DUTY_WIN_S b) 64)
  else if held ≠ [] then some (6, (held.map (·.hi)).foldl max 0)
  else none

/-- Count a verdict (R233, R234). -/
def State.gateCount (s : State) (v b : Nat) : State :=
  match v with
  | 0 => s.bump MAC.CLEAR_CNT
  | 1 => s.bump MAC.BUSY_CNT
  | 2 => s.bump MAC.UNCOVERED_CNT
  | 3 => s.bump DUTY.HOLD_CNT b
  | 6 => s.bump MAC.QUIET_HOLD_CNT
  | 7 => if b < 16 then s.bump DUTY.DENY_CNT b else s
  | _ => s

/-- Drop on-air records that no rule can look at any more. -/
def State.airPrune (s : State) : State :=
  { s with air := s.air.filter fun x => !x.ended || decide (s.mp < x.until_)
      || s.air.all fun y => y.sb != x.sb || !y.ended || s.airStop y ≤ s.airStop x }

/-- A frame is cleared: its on-air interval and charges (R208, R209). -/
def State.gateClear (s : State) (g : GateCase) (port n : Nat) : State :=
  let x : OnAir := ⟨g.r.chain, port, g.r.subband, g.f16 / 16, s.cellOf g, g.c, g.air, false, 0, n⟩
  let s := s.airPrune
  ((({ s with air := s.air ++ [x] }).ledgerCharge x g.air).ledgerEarly).set PTX.CLEARED n

/-- Whether trigger n's decision is due and not taken: from C − 13 µs of an armed TX_START (R207). -/
def State.gateDue (s : State) (n : Nat) : Bool :=
  n < 16 && s.on PT.STATUS_ARMED n && s.get PT.CTL_ACTION n == 1 && !ticksGeUs (s.get PT.CMP n - s.mp) 14 && !s.on PTX.CLEARED n
    && !!(s.get PT.CTL_TARGET n < 4)

/-- The gate's decision for trigger n (R207 to R213), under the limits as they stand (R205). While the DRBG is stopped, a decision that needs
a random value ends the request with FAULT (R333). -/
def State.gateDecide (s : State) (n : Nat) : State :=
  let ch := s.get PT.CTL_TARGET n
  let c := s.get PT.CMP n
  if !s.gateDue n then s
  else
    match s.headReq ch with
    | none => s
    | some r =>
      if !s.on CHN.CHECKED ch then s
      else
        let s := s.limitPower ch r
        let port := s.get TXC.CTL_PORT ch
        let f16 := (((16 * r.freq : Nat) : Int) + s.getI CHN.DFN ch).toNat
        let g : GateCase := ⟨r, f16, c, airT r.mode (s.preOf r) r.psduLen⟩
        let lbtOn := s.on SB.CFG_LBT_EN r.subband && !(r.ack && s.on SB.CFG_ACK_LBT_EXEMPT r.subband)
        let random := lbtOn && !r.ack && (s.gateChecks g port).isNone
        if random && s.get SB.LBT_LBT_RAND_US r.subband != 0 && !s.on SEC.STATUS_DRBG_OK then (s.disarm n).endHead ch 0x14
        else
          let (x, s) := if random then s.draw else (0, s)
          let len := usTicks (s.get SB.LBT_LBT_US r.subband + if r.ack then 0 else x % (s.get SB.LBT_LBT_RAND_US r.subband + 1))
          let (v, earliest) := match s.gateChecks g port with
            | some p => p
            | none => if !lbtOn then (0, c) else
                match s.lbt g port len with
                | 0 => (0, c)
                | k => (k, 0)
          let s := s.gateCount v r.subband
          let s := if v = 6 then s else s.quietDrop fun q => q.chain == ch && q.tag == r.tag
          let (earliest, s) := if v = 2 then s.quietReserve g port len else (earliest, s)
          if v = 0 then
            let s := s.gateClear g port n
            if r.ack then s else s.gatePost ⟨ch, r.tag, 0, earliest⟩
          else if r.ack then (s.disarm n).ackDrop (12 + ch)
          else (s.gatePost ⟨ch, r.tag, v, earliest⟩).disarm n

/-- GATE_DECISION: the decision for trigger n, after those of lower-numbered chains that fall due in the same cycle (R208). -/
def execGateDecision (n : Nat) (s : State) : Host.Outcome State Fault Refusal :=
  let before (c : Nat) : List Nat := (s.startsOn c).filter fun m => s.gateDue m && s.get PT.CMP m == s.get PT.CMP n
  .next (if s.gateDue n then (s.each ((List.range (s.get PT.CTL_TARGET n)).flatMap before) State.gateDecide).gateDecide n else s)

/-- QUIET_RELEASE: quiet intervals that have ended are released (R213). -/
def execQuietRelease (s : State) : Host.Outcome State Fault Refusal :=
  .next (s.quietDrop fun q => decide (q.hi ≤ s.mp))

end Sys2Proof.Machine
end

