-- ==== Sys2Proof/Machine/Frame.lean ====
section
/-!
DEFINITION. Frames in the air format (R226 to R228, R436): their octets, their lengths, how they are secured (R345), and the frame check
sequence. The FCS polynomials and the framing of information elements are those of IEEE 802.15.4-2020, to which R226 refers
(PRESUMED, assumption log 16).
-/

namespace Sys2Proof.Machine

open Sys2Proof

/-- The frame check sequence of n octets, 2 or 4. -/
def fcsOf (n : Nat) (l : List Nat) : List Nat :=
  if n = 2 then le 2 (crcAdvance 0x8408 0 l) else le 4 ((crcAdvance 0xEDB88320 0xFFFFFFFF l).xor 0xFFFFFFFF)

/-- An address: none, short or extended. -/
inductive Addr where
  | none
  | short (a : Nat)
  | ext (a : Nat)
  deriving DecidableEq, Repr

/-- Addressing mode code (R226). -/
def Addr.mode : Addr → Nat
  | .none => 0
  | .short _ => 2
  | .ext _ => 3

/-- The octets of an address. -/
def Addr.octets : Addr → List Nat
  | .none => []
  | .short a => le 2 a
  | .ext a => le 8 a

/-- A frame: type, flags, sequence number, destination PAN identifier if it carries one, addresses, security level (0
unsecured) with counter and key index, Hop header if any, and payload. -/
structure Frame where
  type : Nat
  pend : Bool
  ackReq : Bool
  comp : Bool
  seq : Option Nat
  ie : Bool
  pan : Option Nat
  dst : Addr
  src : Addr
  level : Nat
  counter : Nat
  keyIx : Nat
  hop : List Nat
  payload : List Nat
  deriving DecidableEq, Repr

/-- The MAC header with the Auxiliary Security Header (R226, R227). -/
def Frame.header (f : Frame) : List Nat :=
  let b (x : Bool) (k : Nat) := if x then 2 ^ k else 0
  le 2 (f.type + b (f.level != 0) 3 + b f.pend 4 + b f.ackReq 5 + b f.comp 6 + b f.seq.isNone 8 + b f.ie 9 + f.dst.mode * 2 ^ 10
      + 2 * 2 ^ 12 + f.src.mode * 2 ^ 14)
    ++ (match f.seq with | some n => [n % 256] | none => [])
    ++ (match f.pan with | some p => le 2 p | none => [])
    ++ f.dst.octets ++ f.src.octets
    ++ (if f.level = 0 then [] else [f.level + 8] ++ le 4 f.counter ++ [f.keyIx])

/-- The whole frame without its FCS, secured under a key as its sender (R228, R345). -/
def Frame.octets (f : Frame) (key : List Nat) (eui : Nat) : List Nat :=
  let a := f.header ++ f.hop
  if f.level = 0 then a ++ f.payload
  else a ++ fix (f.payload.length + micLen f.level) (Config.ccmSeal f.level key (nonceOf eui f.counter f.level) a f.payload)

/-- A frame's octets with the FCS of a mode: the PSDU (R226, R436). -/
def withFcs (mode : Nat) (l : List Nat) : List Nat := l ++ fcsOf (fcsLen mode) l

/-- Octets of the frame with an FCS of n octets. -/
def Frame.len (f : Frame) (n : Nat) : Nat := f.header.length + f.hop.length + f.payload.length + micLen f.level + n

/-- The Hop header (R228). -/
def hopHeader (ttl gen cls : Nat) (flood : Bool) (origin seq stamp : Nat) : List Nat :=
  le 2 (ttl % 64 + gen % 8 * 64 + cls % 4 * 512 + if flood then 2048 else 0) ++ le 2 origin ++ le 2 seq ++ le 4 stamp

/-! ### Reading a frame -/

/-- An address of a mode at the front of a string, and the rest. -/
def takeAddr (mode : Nat) (l : List Nat) : Option (Addr × List Nat) :=
  match mode with
  | 0 => some (.none, l)
  | 2 => if l.length < 2 then none else some (.short (leVal (l.take 2)), l.drop 2)
  | 3 => if l.length < 8 then none else some (.ext (leVal (l.take 8)), l.drop 8)
  | _ => none

/-- Skip header information elements; the answer says whether payload elements follow, and what remains. -/
def skipHeaderIe : Nat → List Nat → Option (Bool × List Nat)
  | 0, _ => none
  | n + 1, l =>
    match l with
    | [] => some (false, [])
    | a :: b :: rest =>
      let w := a + 256 * b
      let len := w % 128
      let id := w / 128 % 256
      if w / 2 ^ 15 % 2 = 1 ∨ rest.length < len then none
      else if id = 0x7E then some (true, rest.drop len)
      else if id = 0x7F then some (false, rest.drop len)
      else skipHeaderIe n (rest.drop len)
    | _ => none

/-- Skip payload information elements. -/
def skipPayloadIe : Nat → List Nat → Option (List Nat)
  | 0, _ => none
  | n + 1, l =>
    match l with
    | [] => some []
    | a :: b :: rest =>
      let w := a + 256 * b
      let len := w % 2048
      if w / 2 ^ 15 % 2 = 0 ∨ rest.length < len then none
      else if w / 2048 % 16 = 0xF then some (rest.drop len)
      else skipPayloadIe n (rest.drop len)
    | _ => none

/-- A received frame: its fields, the security control octet as received, the octets authenticated so far, what follows them,
and whether payload elements stand in front of the payload. -/
structure RxParsed where
  f : Frame
  control : Nat
  head : List Nat
  body : List Nat
  payIe : Bool
  deriving DecidableEq, Repr

/-- Whether the PAN identifier fields are as R226 wants them on a data or MAC command frame: a destination PAN identifier and
no source PAN identifier. -/
def panOk (comp : Bool) (dst src : Nat) : Bool := if dst = 3 ∧ src = 3 then !comp else comp

/-- The addressing fields of an acknowledgement: PAN identifiers in any form of frame version 2 (destination, then source, each where
its address mode and compression call for one). -/
def ackPans (comp : Bool) (dst src : Nat) : Bool × Bool :=
  if dst = 0 ∧ src = 0 then (comp, false)
  else if src = 0 then (!comp, false)
  else if dst = 0 then (false, !comp)
  else if dst = 3 ∧ src = 3 then (!comp, false)
  else (true, !comp)

/-- Read the frame up to its Auxiliary Security Header and information elements (R218 step 1, R226, R227); `hopPan` says whether a
PAN identifier is a Hop PAN's, whose data frames carry no information elements and a Hop header. -/
def parseFrame (hopPan : Nat → Bool) (l : List Nat) : Option RxParsed :=
  if l.length < 2 then none
  else
    let fc := leVal (l.take 2)
    let type := fc % 8
    let comp := bit fc 6
    let sup := bit fc 8
    let ie := bit fc 9
    let dm := bits fc 10 2
    let sm := bits fc 14 2
    if type = 0 ∨ 3 < type ∨ bit fc 7 ∨ bits fc 12 2 ≠ 2 ∨ (sup ∧ type ≠ 2 ∧ bit fc 3) ∨ dm = 1 ∨ sm = 1
        ∨ (type ≠ 2 ∧ (dm = 0 ∨ sm = 0 ∨ !panOk comp dm sm)) then none
    else
      let r := l.drop 2
      if !sup && r.isEmpty then none
      else
        let seq := if sup then none else r.head?
        let r := if sup then r else r.drop 1
        let (dp, sp) := if type = 2 then ackPans comp dm sm else (true, false)
        if dp && r.length < 2 then none
        else
          let pan := if dp then some (leVal (r.take 2)) else none
          let r := if dp then r.drop 2 else r
          match takeAddr dm r with
          | none => none
          | some (dst, r) =>
            if sp && r.length < 2 then none
            else
              match takeAddr sm (if sp then r.drop 2 else r) with
              | none => none
              | some (src, r) =>
                let sec := bit fc 3
                if sec && r.length < 6 then none
                else
                  let control := if sec then r.headD 0 else 0
                  let counter := if sec then oct r 1 4 else 0
                  let keyIx := if sec then r.getD 5 0 else 0
                  let r := if sec then r.drop 6 else r
                  let hop := type == 1 && match pan with | some p => hopPan p | none => false
                  if ie && hop then none
                  else
                    match (if ie then skipHeaderIe l.length r else some (false, r)) with
                    | none => none
                    | some (pie, r) =>
                      if hop && r.length < 10 then none
                      else
                        let hh := if hop then r.take 10 else []
                        let r := if hop then r.drop 10 else r
                        if hop && bits (leVal (hh.take 2)) 12 4 != 0 then none
                        else
                          some ⟨⟨type, bit fc 4, bit fc 5, comp, seq, ie, pan, dst, src, control % 8, counter, keyIx, hh, []⟩, control,
                            l.take (l.length - r.length), r, pie⟩

end Sys2Proof.Machine
end

