-- ==== Sys2Proof/Machine/Secure.lean ====
section
/-!
DEFINITION. Keys and counters as frames use them (spec/10_keys_and_trust.md): the slot tree (R339), derivations and their cache
(R343, R344), frame keys (R346), counters (R347, R348), rekeying (R354 to R356), and the securing of a downlink (R345, R359).
-/

namespace Sys2Proof.Machine

open Sys2Proof

/-! ### Derivations (R343) -/

/-- ASCII octets of a label. -/
def asc (t : String) : List Nat := t.toList.map Char.toNat

/-- K = leftmost l bits of HMAC-SHA-256(ki, [1]_4 ‖ label ‖ 0x00 ‖ context ‖ [l]_4). -/
def kdf (ki label ctx : List Nat) (l : Nat) : List Nat :=
  fix (l / 8) ((fix 32 (Config.hmac256 ki (be 4 1 ++ label ++ [0] ++ ctx ++ be 4 l))).take (l / 8))

/-! ### The slot tree (R334, R337 to R341) -/

/-- Write a record into slot n (R339, R341): its GEN and its write count go on, and the counts of grafts follow. -/
def State.slotWrite (s : State) (n h parent use type : Nat) (mat : List Nat) : State :=
  let fresh := s.get KSLOT.META_STATE n == 0
  let s := s.putIf (!fresh) KSX.RETIRED_AT n s.mp
  let pg := s.get KSLOT.GEN_GEN parent
  let lv := s.get KSLOT.META_LEVEL parent + 1
  let s := s.when fresh fun s => (s.bump SECH.SLOTS_USED h).drop SEC.SLOT_FREE
  let s := ((s.put KSLOT.META_STATE n 1).put KSLOT.META_USE n use).put KSLOT.META_TYPE n type
  let s := ((s.put KSLOT.META_LEVEL n lv).put KSLOT.META_OWNER n h).put KSLOT.META_PARENT n parent
  let s := (s.put KSLOT.GEN_GEN n (nextGen (s.get KSLOT.GEN_GEN n))).put KSLOT.GEN_PARENT_GEN n pg
  ((s.bump KSLOT.WRITE_CNT n).put KSLOT.CREATED n s.mpSec).put KSX.MAT n (beVal mat)

/-- Erase graft n (R342, R358): the record is zeroed but for its GEN and write count, and it returns to the free pool. -/
def State.slotErase (s : State) (n : Nat) : State :=
  let s := ((s.drop SECH.SLOTS_USED (s.get KSLOT.META_OWNER n)).bump SEC.SLOT_FREE).put KSX.RETIRED_AT n s.mp
  let s := s.each [KSLOT.META_STATE, KSLOT.META_USE, KSLOT.META_TYPE, KSLOT.META_LEVEL, KSLOT.META_OWNER, KSLOT.META_PARENT,
    KSLOT.GEN_PARENT_GEN, KSX.MAT] fun s F => s.clr F n
  ((s.put KSLOT.GEN_GEN n (nextGen (s.get KSLOT.GEN_GEN n))).bump KSLOT.WRITE_CNT n).put KSLOT.CREATED n s.mpSec

/-- The Hedge root of h (R337, R343). -/
def State.hedgeRoot (s : State) (h : Nat) : List Nat :=
  kdf (be 32 (s.get OTP.ROOT)) (asc "XTH hedge root") ([h] ++ be 4 (s.get SECH.HEDGE_EPOCH h)) 256

/-- Whether the material of slot n, or of a slot above it over at most `fuel` levels, was retired after an instant (R357). -/
def State.retiredSince (s : State) (since : Nat) : Nat → Nat → Bool
  | 0, _ => false
  | fuel + 1, n => n != rootSlot && (decide (since < s.get KSX.RETIRED_AT n) ||
      (s.get KSLOT.META_STATE n != 0 && s.retiredSince since fuel (s.get KSLOT.META_PARENT n)))

/-! ### The derived-key cache (R344) -/

/-- The set a tag lies in. -/
def KeyTag.set (t : KeyTag) : Nat := Config.cacheSet [t.kind, t.hedge, t.ident, t.gen, t.slot, t.slotGen] % 16384

/-- Use a tag: a hit becomes the most recent of its set, a miss derives the key and displaces the least recent of four. -/
def State.cacheUse (s : State) (t : KeyTag) : State :=
  if s.kcache.contains t then { s with kcache := t :: s.kcache.erase t }
  else
    let same := s.kcache.filter fun x => x.set == t.set
    let keep := match same.drop 3 with
      | [] => s.kcache
      | l => s.kcache.filter fun x => !l.contains x
    ({ s with kcache := t :: keep }.bump SEC.DERIVE_CNT).bump KSLOT.USE_CNT t.slot

/-- The slot SECH[h] names as master of a kind of key. -/
def State.masterOf (s : State) (kind h : Nat) : Nat :=
  match kind with
  | 0 => s.get SECH.LINK_MASTER h
  | 1 => s.get SECH.INSTALL_MASTER h
  | _ => s.get SECH.GROUP_MASTER h

/-- The code of a use of a master: it must be a DERIVE_ONLY HMAC-256 slot of the Hedge (R343), in order under R339. -/
def State.masterCode (s : State) (kind h : Nat) : Nat :=
  let n := s.masterOf kind h
  if n = rootSlot ∨ s.get KSLOT.META_USE n ≠ 3 ∨ s.get KSLOT.META_TYPE n ≠ 2 ∨ s.get KSLOT.META_OWNER n ≠ h then 0x09
  else s.slotCode n

/-- The tag a key of a kind has now. -/
def State.tagOf (s : State) (kind h ident gen : Nat) : KeyTag :=
  let n := s.masterOf kind h
  ⟨kind, h, ident, gen, n, s.get KSLOT.GEN_GEN n⟩

/-- Label of a kind of key. -/
def kindLabel (kind : Nat) : List Nat := if kind = 0 then asc "XTH link" else if kind = 1 then asc "XTH install" else asc "XTH group"

/-- Context of a key: the EUI-64 with the generation for a link key, the EUI-64 for an install key, the generation for a group
key. -/
def kindContext (kind ident gen : Nat) : List Nat :=
  if kind = 0 then be 8 ident ++ be 2 gen else if kind = 1 then be 8 ident else be 2 gen

/-- The key under a tag. -/
def State.keyAt (s : State) (t : KeyTag) : List Nat := kdf (s.material t.slot) (kindLabel t.kind) (kindContext t.kind t.ident t.gen) 128

/-- A derived key: the code, the key, and the state after the cache has been used. -/
def State.derive (s : State) (kind h ident gen : Nat) : Nat × List Nat × State :=
  let code := s.masterCode kind h
  if code ≠ 0 then (code, [], s)
  else
    let t := s.tagOf kind h ident gen
    (0, s.keyAt t, s.cacheUse t)

/-- The link key of entry e for generation g. -/
def State.linkKey (s : State) (e g : Nat) : Nat × List Nat × State :=
  if g = 0 then (0x09, [], s) else s.derive 0 (s.get E.HEDGE e) (s.get E.EUI64 e) g

/-- The group key of Hedge h for generation g. -/
def State.groupKey (s : State) (h g : Nat) : Nat × List Nat × State := s.derive 2 h g g

/-- The install key of an EUI-64 in Hedge h. -/
def State.installKey (s : State) (h eui : Nat) : Nat × List Nat × State := s.derive 1 h eui 0

/-- Key index of a group generation (R346). -/
def groupIndex (g : Nat) : Nat := 0xF0 + g % 16

/-! ### The MAC commands of the part (R351, R354, R356) -/

/-- The PAN a Hedge's frames are sent on: its lowest enabled Hop PAN, else its lowest enabled PAN (assumption log 18). -/
def State.panOf (s : State) (h : Nat) : Option Nat :=
  match s.hopPans h with
  | i :: _ => some i
  | [] => (List.range 32).find? fun i => s.on PANMAP.CFG_EN i && s.get PANMAP.CFG_HEDGE i == h

/-- The address frames to an entry carry. -/
def State.addrOf (s : State) (e : Nat) : Addr :=
  if s.get E.SHORT_ADDR e = 0xFFFE then .ext (s.get E.EUI64 e) else .short (s.get E.SHORT_ADDR e)

/-- The security level a downlink's frame takes towards entry n (R346): a frame that carries a key takes at least 5. -/
def State.levelOf (s : State) (d : Down) (n : Nat) : Nat :=
  match d.sec with
  | .kek => 0
  | .group => s.get SECH.CFG_DEF_SEC_LEVEL d.hedge
  | _ =>
    let v := s.get E.SEC_LEVEL n
    let k := d.payload.headD 0
    if d.freight = .command ∧ (k = 0xA3 ∨ k = 0xA4) then max v 5 else v

/-- The frame of a downlink to entry n on PANMAP entry `pan`, with its security fields and its wake stamp (R226 to R228, R276,
R345, R436). -/
def State.downFrame (s : State) (d : Down) (n pan level counter keyIx stamp : Nat) (pend : Bool) : Frame :=
  let join := d.sec == .kek
  let flood := d.freight == .flood || d.freight == .reflood
  let wide := flood || d.sec == .group
  let hop := d.freight != .command && s.on PANMAP.CFG_HOP pan
  let dst := if join then .ext (s.get E.EUI64 n) else if wide then .short 0xFFFF else s.addrOf n
  let src := if join then .ext (s.get MAC.AIR_EUI64) else .short (s.get PANMAP.OWN_SHORT pan)
  let hh := if hop then hopHeader d.ttl d.gen d.cls flood d.origin d.floodSeq stamp else []
  ⟨if d.freight = .command then 3 else 1, pend, d.ackReq, !join, some d.seqNo, false, some (s.get PANMAP.CFG_PAN_ID pan), dst, src,
    level, counter, keyIx, hh, (if hop then le 2 d.final else []) ++ d.payload⟩

/-- The PSDU octets of a downlink to entry n. -/
def State.downLen (s : State) (d : Down) (n pan : Nat) : Nat :=
  (s.downFrame d n pan (s.levelOf d n) 0 0 0 false).len (fcsLen d.mode)

/-- A downlink that has not been admitted yet, with the fields every kind shares. -/
def State.newDown (s : State) (h dest cls : Nat) (freight : Freight) (sec : Secure) (payload : List Nat) : Down :=
  { uid := 0, hedge := h, dest := dest, destInc := s.get E.INCARNATION dest, freight := freight, sec := sec, cls := cls, cmd := none,
    opcode := 0, ackReq := false, noFlood := false, calFull := false, beacon := false, mode := 0, power := 0, psduLen := 0,
    final := 0, ttl := 0, origin := 0, floodSeq := 0, gen := 0, pans := [], payload := payload, expiry := 2 ^ 64 - 1, enq := 0,
    colour := 0, demoted := false, cells := 0, stage := .queued, out := 0, cost := 0, charged := [], retries := 0, lbt := 0,
    bound := 0, hop := dest, hopInc := 0, aim := .plain, chain := 4, pt := 64, c := 0, pre := 0, freq := 0, lo := 0, hi := 0,
    prev := 0, late := false, model := true, held := false, frame := [], tag := none, seqNo := 0, ackEnd := 0, airs := 0,
    airUse := 0, airs0 := 0, use0 := 0, start := 0, lqi := 0, preUsed := 0, rx := none, autoMode := false, autoPower := false }

/-- Enqueue a MAC command to entry e in class Lead, acknowledged and without an end of its lifetime (R351, R354, R356; assumption
log 18). -/
def State.postCommand (s : State) (e : Nat) (sec : Secure) (payload : List Nat) : State :=
  let h := s.get E.HEDGE e
  let d := s.newDown h e 1 .command sec payload
  let d := { d with ackReq := true, mode := s.get E.PHY_MODE e, power := s.get E.TX_POWER e }
  let d := { d with psduLen := s.downLen d e ((s.panOf h).getD 0) }
  (s.takeIn d).2

/-! ### Rekeying (R354 to R356) -/

/-- Start or repeat the rekey of entry e: the ledger, then the Rekey command; answers the code (R354). -/
def State.startRekey (s : State) (e : Nat) : Nat × State :=
  let g := nextGen (s.get E.KEY_GEN e)
  if s.get E.TX_CNT e = 2 ^ 32 - 1 then (0x0C, s)
  else
    let (c, _, s) := s.linkKey e (s.get E.KEY_GEN e)
    if c ≠ 0 then (c, s)
    else
      let (c, key, s) := s.linkKey e g
      if c ≠ 0 then (c, s)
      else
        let ix := ledgerIx (s.get E.HEDGE e) (s.get E.EUI64 e)
        let s := s.put LEDGER.GEN ix (maxGen (s.get LEDGER.GEN ix) g)
        let s := s.postCommand e .link ([0xA3, 1] ++ le 2 g ++ [keyIndex g, 0, 0, 0] ++ key)
        (0, (s.set NODE.REKEY_ON e).put NODE.REKEY_AT e s.mpSec)

/-- The rekey of entry e commits before step 9 judges the frame (R355). -/
def State.commitRekey (s : State) (e : Nat) : State :=
  let g := nextGen (s.get E.KEY_GEN e)
  let s := ((s.wrE E.KEY_GEN e g).wrE E.KEY_INDEX e (keyIndex g)).wrE E.RX_CNT e 0
  let s := (s.wrE E.REPLAY_MAP e 0).wrE E.TX_CNT e 0
  let s := ((s.clr NODE.REKEY_ON e).clr NODE.TXWARN e).clr NODE.RXWARN e
  s.event (s.get E.HEDGE e) 0x05 [(16, le 4 e), (20, le 8 (s.get E.EUI64 e)), (28, le 2 g)]

/-- Start a group rekey of h (R356); answers the code. -/
def State.startGroup (s : State) (h : Nat) : Nat × State :=
  let g := nextGen (s.get SECH.GROUP_GEN h)
  let (c, key, s) := s.groupKey h g
  if c ≠ 0 then (c, s)
  else
    let at_ := (s.mpSec + s.get SECH.GROUP_SWITCH_S h) % 2 ^ 32
    let p := [0xA4, 1] ++ le 2 g ++ [groupIndex g, 0, 0, 0] ++ key ++ le 4 at_
    let s := s.each ((s.entriesOf h).filter s.live) fun s e => s.postCommand e .link p
    (0, (s.set GRPX.RUN h).put GRPX.SWITCH_AT h at_)

/-! ### Counters (R347, R348) -/

/-- The value from which COUNTER_WARN is posted. -/
def warnAt : Nat := 2 ^ 32 - 2 ^ 24

/-- Post COUNTER_WARN for a stream (0 link transmit, 1 link receive, 2 group transmit). -/
def State.counterWarn (s : State) (h entry eui stream c : Nat) : State :=
  (s.event h 0x06 [(16, le 4 entry), (20, le 8 eui), (28, [stream]), (32, le 4 c)]).set SECH.EVENT_COUNTER_WARN h

/-- Take the next counter value of entry e's link stream; none when it would be 2^32 − 1 (R56, R348). -/
def State.takeTx (s : State) (e : Nat) : Option Nat × State :=
  let c := s.get E.TX_CNT e
  let h := s.get E.HEDGE e
  if c = 2 ^ 32 - 1 then (none, s)
  else
    let s := s.wrE E.TX_CNT e (c + 1)
    if warnAt ≤ c ∧ ¬ s.on NODE.TXWARN e then
      let s := (s.counterWarn h e (s.get E.EUI64 e) 0 c).set NODE.TXWARN e
      (some c, if s.on SECH.CFG_AUTO_REKEY h then (s.startRekey e).2 else s)
    else (some c, s)

/-- Take the next counter value of Hedge h's group stream, with a new ceiling in MRAM before a value at or above the old one is used
(R347, R348). -/
def State.takeGroup (s : State) (h : Nat) : Option Nat × State :=
  let c := s.get SECH.GROUP_TX_CNT h
  if c = 2 ^ 32 - 1 then (none, s)
  else
    let s := s.when (decide (s.get GRPX.CEIL h ≤ c)) fun s => s.put GRPX.CEIL h (min (2 ^ 32 - 1) (c + 1024))
    let s := s.put SECH.GROUP_TX_CNT h (c + 1)
    if warnAt ≤ c ∧ ¬ s.on GRPX.WARN h then
      let s := (s.counterWarn h 0xFFFFFFFF 0 2 c).set GRPX.WARN h
      (some c, if s.on GRPX.RUN h then s else (s.startGroup h).2)
    else (some c, s)

/-- Each group counter goes on from its stored ceiling (R347). -/
def State.groupResume (s : State) : State :=
  s.each [0, 1, 2, 3, 4, 5, 6, 7] fun s h => s.put SECH.GROUP_TX_CNT h (s.get GRPX.CEIL h)

/-! ### Securing a downlink (R345, R359) -/

/-- Whether the key that secured a downlink's frame to entry n is still current (R359). -/
def State.keyCurrent (s : State) (d : Down) (n : Nat) : Bool :=
  match d.tag with
  | none => true
  | some t => s.masterCode t.kind d.hedge == 0
      && t == (if t.kind = 2 then s.tagOf 2 d.hedge (s.get SECH.GROUP_GEN d.hedge) (s.get SECH.GROUP_GEN d.hedge)
        else s.tagOf 0 d.hedge (s.get E.EUI64 n) (s.get E.KEY_GEN n))

/-- Secure a downlink's frame to entry n on PANMAP entry `pan` with the next counter value: the code that ends it (0 none), and the
downlink with its frame. -/
def State.secureDown (s : State) (d : Down) (n pan stamp : Nat) (pend : Bool) : Nat × Down × State :=
  let h := d.hedge
  let level := s.levelOf d n
  let d := { d with seqNo := s.get MACX.SEQ h, psduLen := s.downLen d n pan }
  let s := s.bump MACX.SEQ h
  let eui := s.get MAC.AIR_EUI64
  if psduMax d.mode < d.psduLen then (0x12, d, s)
  else if level = 0 then (0, { d with frame := (s.downFrame d n pan 0 0 0 stamp pend).octets [] eui, tag := none }, s)
  else
    let grp := d.sec == .group
    let g := if grp then s.get SECH.GROUP_GEN h else s.get E.KEY_GEN n
    let (c, key, s) := if grp then s.groupKey h g else s.linkKey n g
    if c ≠ 0 then (c, d, s)
    else
      let t := if grp then s.tagOf 2 h g g else s.tagOf 0 h (s.get E.EUI64 n) g
      let (cnt, s) := if grp then s.takeGroup h else s.takeTx n
      match cnt with
      | none => (0x0C, d, s)
      | some k =>
        let f := s.downFrame d n pan level k (if grp then groupIndex g else keyIndex g) stamp pend
        (0, { d with frame := f.octets key eui, tag := some t }, s.bump SEC.CCM_CNT)

end Sys2Proof.Machine
end

