-- ==== Sys2Proof/Machine/Keys.lean ====
section
/-!
DEFINITION. The commands and events of keys and trust (spec/10_keys_and_trust.md): the random source (R333), the key commands (R342, R349),
trust anchors (R361), attestation (R360), rekeying (R354, R356), and the Join Response (R350 to R352).
-/

namespace Sys2Proof.Machine

open Sys2Proof

/-! ### The random source (R333) -/

/-- A health test fails: the DRBG stops; the third failure within 1 s is escalated (R536). -/
def State.drbgFail (s : State) : State :=
  let third := s.get DRBGX.F2 != 0 && decide (s.mp - s.get DRBGX.F2 < 2 ^ 24)
  let s := (s.put DRBGX.F2 0 (s.get DRBGX.F1)).put DRBGX.F1 0 s.mp
  ((s.clr SEC.STATUS_DRBG_OK).set SEC.EVENT_RNG_FAIL).fault 0x0D01 0 (if third then 4 else 0)

/-- DRBG_HEALTH_FAIL. -/
def execDrbgHealthFail (s : State) : Host.Outcome State Fault Refusal := .next s.drbgFail

/-- DRBG_RESTART: 10 ms after the failure; passed start-up tests reinstantiate the DRBG. -/
def execDrbgRestart (pass : Bool) (s : State) : Host.Outcome State Fault Refusal :=
  if s.on SEC.STATUS_DRBG_OK then .next s
  else .next (if pass then s.set SEC.STATUS_DRBG_OK else s.drbgFail)

/-! ### Slots by command (R342) -/

/-- Whether slot n is one of Hedge h's. -/
def State.ownSlot (s : State) (h n : Nat) : Bool := s.get KSLOT.META_STATE n != 0 && s.get KSLOT.META_OWNER n == h

/-- Whether slot n is out of Hedge h's reach as a parent: another Hedge's slot, or one of the Steward's or another Hedge's among K0 to K15
(R337, R342). K8 lies within reach, and its use attribute says for what. -/
def State.foreignSlot (s : State) (h n : Nat) : Bool :=
  n != 8 && ((n < 16 && n != h) || (s.get KSLOT.META_STATE n != 0 && s.get KSLOT.META_OWNER n != h))

/-- The target of KEY_IMPORT and KEY_DERIVE: a code, and the slot. -/
def State.targetSlot (s : State) (h target : Nat) : Nat × Nat :=
  let full := s.get SECH.SLOT_QUOTA h ≤ s.get SECH.SLOTS_USED h
  if target = rootSlot then
    match (List.range 1008).find? fun i => s.get KSLOT.META_STATE (16 + i) == 0 with
    | some i => if full then (0x05, 0) else (0, 16 + i)
    | none => (0x05, 0)
  else if target < 16 then (0x13, 0)
  else if s.get KSLOT.META_STATE target = 0 then (if full then (0x05, 0) else (0, target))
  else if s.ownSlot h target then (0, target)
  else (0x13, 0)

/-- The final completion of a key written into a slot, with its number and new GEN (R437). -/
def State.slotDone (s : State) (c : Cmd) (op n : Nat) : State :=
  s.complete c op 0 0 0 [(24, le 2 n), (26, le 2 (s.get KSLOT.GEN_GEN n))]

/-- The material a KEY_IMPORT blob unwraps to, with the count of ECC operations (R349); none when a check fails. -/
def State.unwrap (s : State) (h target parent : Nat) (blob : List Nat) : Option (List Nat) :=
  if parent = 8 then
    match Config.ecdh (s.material 8) (blob.take 64) with
    | none => none
    | some z => Config.kwpOpen (kdf (fix 32 z) (asc "XTH import") (be 8 (s.get SYS.EUI64) ++ [h] ++ be 2 target) 256) (blob.drop 64)
  else Config.kwpOpen (s.material parent) blob

/-- KEY_IMPORT: under K8 the new slot's parent is K_h (R342, R349). -/
def execKeyImport (c : Cmd) (target parent use type len addr : Nat) (s : State) : Host.Outcome State Fault Refusal :=
  let h := c.ring
  let real := if parent = 8 then h else parent
  let (tc, n) := s.targetSlot h target
  let code := s.slotCode parent
  if 3 < use ∨ 3 < type ∨ 128 < len ∨ 1024 ≤ target ∨ 1024 ≤ parent then .next (s.finish c 0x41 0x12)
  else if s.foreignSlot h parent ∨ tc = 0x13 then .next (s.finish c 0x41 0x13)
  else if code ≠ 0 then .next (s.finish c 0x41 code)
  else if s.get KSLOT.META_USE parent ≠ 2 ∨ (parent ≠ 8 ∧ s.get KSLOT.META_TYPE parent ≠ 1) then .next (s.finish c 0x41 0x09)
  else if s.slotCode real ≠ 0 then .next (s.finish c 0x41 (s.slotCode real))
  else if 6 ≤ s.get KSLOT.META_LEVEL real then .next (s.finish c 0x41 0x12)
  else if tc ≠ 0 then .next (s.finish c 0x41 tc)
  else
    let blob := s.cmdData c addr len
    let s := (s.when (parent == 8) (·.bump SEC.ECC_CNT)).bump KSLOT.USE_CNT parent
    match s.unwrap h target parent blob with
    | none => .next (s.finish c 0x41 0x09)
    | some m =>
      if m.length ≠ matLen type then .next (s.finish c 0x41 0x09)
      else .next ((s.slotWrite n h real use type m).slotDone c 0x41 n)

/-- KEY_DERIVE (R342, R343). -/
def execKeyDerive (c : Cmd) (target parent use type labelLen ctxLen addr : Nat) (s : State) : Host.Outcome State Fault Refusal :=
  let h := c.ring
  let (tc, n) := s.targetSlot h target
  let code := s.slotCode parent
  let text := s.cmdData c addr (labelLen + ctxLen)
  let label := text.take labelLen
  if 3 < use ∨ 2 < type ∨ 32 < labelLen ∨ 64 < ctxLen ∨ 1024 ≤ target ∨ 1024 ≤ parent ∨ label.take 4 = asc "XTH " then
    .next (s.finish c 0x42 0x12)
  else if s.foreignSlot h parent ∨ tc = 0x13 then .next (s.finish c 0x42 0x13)
  else if code ≠ 0 then .next (s.finish c 0x42 code)
  else if s.get KSLOT.META_USE parent ≠ 3 then .next (s.finish c 0x42 0x09)
  else if 6 ≤ s.get KSLOT.META_LEVEL parent then .next (s.finish c 0x42 0x12)
  else if tc ≠ 0 then .next (s.finish c 0x42 tc)
  else
    let key := kdf (s.material parent) label (text.drop labelLen) (8 * matLen type)
    .next (((s.bump KSLOT.USE_CNT parent).slotWrite n h parent use type key).slotDone c 0x42 n)

/-- KEY_ERASE: takes effect in one cycle (R342, R357, R358). -/
def execKeyErase (c : Cmd) (slot : Nat) (s : State) : Host.Outcome State Fault Refusal :=
  if 1024 ≤ slot then .next (s.finish c 0x43 0x12)
  else if slot < 16 ∨ !s.ownSlot c.ring slot then .next (s.finish c 0x43 0x13)
  else .next ((s.slotErase slot).finish c 0x43 0)

/-- KSLOT[n] registers +0x00 to +0x10 as octets (R366, R437). -/
def State.slotOctets (s : State) (n : Nat) : List Nat :=
  let m := s.get KSLOT.META_STATE n + 4 * s.get KSLOT.META_USE n + 16 * s.get KSLOT.META_TYPE n + 64 * s.get KSLOT.META_LEVEL n
    + 2 ^ 12 * s.get KSLOT.META_OWNER n + 2 ^ 16 * s.get KSLOT.META_PARENT n
  le 4 m ++ le 4 (s.get KSLOT.GEN_GEN n + 2 ^ 16 * s.get KSLOT.GEN_PARENT_GEN n) ++ le 4 (s.get KSLOT.USE_CNT n)
    ++ le 4 (s.get KSLOT.WRITE_CNT n) ++ le 4 (s.get KSLOT.CREATED n)

/-- KEY_INFO (R342). -/
def execKeyInfo (c : Cmd) (slot : Nat) (s : State) : Host.Outcome State Fault Refusal :=
  let h := c.ring
  if 1024 ≤ slot then .next (s.finish c 0x44 0x12)
  else if slot = h ∨ slot = 8 ∨ (16 ≤ slot ∧ s.ownSlot h slot) then .next (s.complete c 0x44 0 0 0 [(24, s.slotOctets slot)])
  else .next (s.finish c 0x44 0x13)

/-- K_h takes the root of its epoch, under the next GEN (R337, R339). -/
def State.newHedgeRoot (s : State) (h : Nat) : State :=
  let s := ((s.put KSX.MAT h (beVal (s.hedgeRoot h))).put KSLOT.GEN_GEN h (nextGen (s.get KSLOT.GEN_GEN h))).put KSX.RETIRED_AT h s.mp
  let s := ((s.put KSLOT.META_STATE h 1).put KSLOT.META_USE h 3).put KSLOT.META_TYPE h 2
  let s := ((s.put KSLOT.META_LEVEL h 1).put KSLOT.META_OWNER h h).put KSLOT.META_PARENT h rootSlot
  (s.bump KSLOT.WRITE_CNT h).put KSLOT.CREATED h s.mpSec

/-- HEDGE_KEY_WIPE (R342, R361, R435). -/
def execHedgeKeyWipe (c : Cmd) (confirm : Nat) (s : State) : Host.Outcome State Fault Refusal :=
  let h := c.ring
  if confirm ≠ 0x45504957 then .next (s.finish c 0x45 0x12)
  else if !s.rooted then .next (s.finish c 0x45 0x09)
  else
    let s := (s.bump SECH.HEDGE_EPOCH h).newHedgeRoot h
    let s := s.each (List.range 24) fun s i => (s.clr TRUST.ANCHOR0 (64 * h + i)).clr TRUST.ANCHOR1 (64 * h + i)
    let s := ((s.clr TRUST.CTL_VALID0 h).clr TRUST.CTL_VALID1 h).clr TRUST.CTL_LOCK h
    .next ({ s with kcache := s.kcache.filter (·.hedge != h) }.finish c 0x45 0)

/-- TRUST_SET (R342, R361, R366). -/
def execTrustSet (c : Cmd) (anchor : Nat) (lockAfter : Bool) (addr : Nat) (s : State) : Host.Outcome State Fault Refusal :=
  let h := c.ring
  if 1 < anchor then .next (s.finish c 0x46 0x12)
  else if s.on TRUST.CTL_LOCK h then .next (s.finish c 0x46 0x13)
  else
    let l := s.cmdData c addr 96
    let F := if anchor = 0 then TRUST.ANCHOR0 else TRUST.ANCHOR1
    let s := s.each (List.range 24) fun s i => s.put F (64 * h + i) (oct l (4 * i) 4)
    let s := s.set (if anchor = 0 then TRUST.CTL_VALID0 else TRUST.CTL_VALID1) h
    .next ((s.when lockAfter (·.set TRUST.CTL_LOCK h)).finish c 0x46 0)

/-- TRUST_LOCK_SET: bit 2 of TRUST[h].CTL is set by a write of 1 (R361, R366). -/
def execTrustLockSet (r : Req) (h v : Nat) (s : State) : Host.Outcome State Fault Refusal :=
  s.onBus r (TRUST.CTL_LOCK.addr h) fun s =>
  .next (if h < 8 ∧ bit v 2 then s.set TRUST.CTL_LOCK h else s)

/-! ### Attestation (R360) -/

/-- SHA-256 over the SHA-384 of Hedge h's policy programs in load order; zeros if none. -/
def State.policyHash (s : State) (h : Nat) : List Nat :=
  match s.progs.filter (·.1 == h) with
  | [] => List.replicate 32 0
  | l => fix 32 (Config.sha256 (l.flatMap (·.2)))

/-- SHA-256 over the metadata of h's VALID slots, in slot order. -/
def State.slotDigest (s : State) (h : Nat) : List Nat :=
  fix 32 (Config.sha256 (((List.range 1024).filter fun n => s.get KSLOT.META_STATE n == 1 && s.get KSLOT.META_OWNER n == h).flatMap
    s.slotOctets))

/-- A hash in twelve register words, as octets. -/
def State.hashWords (s : State) (F : Fld) : List Nat := (List.range 12).flatMap fun i => le 4 (s.get F i)

/-- The 224-octet state block. -/
def State.stateBlock (s : State) (h : Nat) : List Nat :=
  layout 224 [(0, [1, h, s.get OTP.LIFE, s.get REGPROF.HDR_REGION]), (4, le 8 (s.get SYS.EUI64)),
    (12, le 4 (s.get SYS.ID_PART + 2 ^ 16 * s.get SYS.ID_FAMILY + 2 ^ 24 * s.get SYS.ID_MINOR + 2 ^ 28 * s.get SYS.ID_MAJOR)),
    (16, le 8 s.mp), (24, [s.get BOOT.STATUS_SLOT, s.get TIME.SRC_STATUS_STATE]), (28, le 4 (s.get SECH.HEDGE_EPOCH h)),
    (32, s.hashWords BOOT.STEWARD_HASH), (80, s.hashWords BOOT.RUNTIME_HASH), (128, s.policyHash h), (160, s.slotDigest h),
    (192, le 4 (s.get SYS.EXPERT_H_OWN h + 2 ^ 16 * s.get SYS.EXPERT_H_ACK h)), (196, le 4 (s.get SCP.HEAD_SEQ))]

/-- ATTEST. -/
def execAttest (c : Cmd) (slot : Nat) (challenge : List Nat) (addr : Nat) (s : State) : Host.Outcome State Fault Refusal :=
  let h := c.ring
  let ch := fix 32 challenge
  if 1024 ≤ slot ∨ ch.all (· == 0) then .next (s.finish c 0x47 0x12)
  else if s.get KSLOT.META_STATE slot ≠ 0 ∧ s.get KSLOT.META_OWNER slot ≠ h then .next (s.finish c 0x47 0x13)
  else if s.slotCode slot ≠ 0 then .next (s.finish c 0x47 (s.slotCode slot))
  else if s.get KSLOT.META_USE slot ≠ 0 ∨ s.get KSLOT.META_TYPE slot ≠ 2 then .next (s.finish c 0x47 0x09)
  else
    let s := s.bump KSLOT.USE_CNT slot
    let b := s.stateBlock h
    .next (s.answer c 0x47 addr (b ++ fix 32 (Config.hmac256 (s.material slot) (asc "XTH-ATTEST-1" ++ ch ++ b))))

/-! ### Rekeying by command and by time (R354, R356) -/

/-- NODE_REKEY. -/
def execNodeRekey (c : Cmd) (e : Nat) (s : State) : Host.Outcome State Fault Refusal :=
  if s.standby then .next (s.finish c 0x48 0x13)
  else if !s.named c.ring e then .next (s.finish c 0x48 0x04)
  else
    let (code, s) := s.startRekey e
    .next ((s.when (code == 0x0C) (·.bump SECH.EXHAUSTED c.ring)).finish c 0x48 code)

/-- GROUP_REKEY: BUSY_RETRY while one runs; the spec states no hint for it, so RETRY_AFTER is a free value (assumption log 3). -/
def execGroupRekey (c : Cmd) (s : State) : Host.Outcome State Fault Refusal :=
  let h := c.ring
  if s.standby then .next (s.finish c 0x49 0x13)
  else if s.on GRPX.RUN h then
    let (k, s) := s.draw
    .next (s.complete c 0x49 0x02 0 k [])
  else
    let (code, s) := (s.accepted c 0x49).startGroup h
    .next (s.finish c 0x49 code)

/-- REKEY_RETRY_EXPIRE: no frame under the new key within REKEY_RETRY_S, so the command is sent again (R354). -/
def execRekeyRetryExpire (e : Nat) (s : State) : Host.Outcome State Fault Refusal :=
  let due := (s.get NODE.REKEY_AT e + s.get SECH.REKEY_RETRY_S (s.get E.HEDGE e)) % 2 ^ 32
  .next (if s.on NODE.REKEY_ON e ∧ ¬ s.standby ∧ ¬ after32 due s.mpSec then (s.startRekey e).2 else s)

/-- GROUP_SWITCH: at SWITCH_AT the new generation is in force (R356, R438). -/
def execGroupSwitch (h : Nat) (s : State) : Host.Outcome State Fault Refusal :=
  if s.on GRPX.RUN h ∧ ¬ after32 (s.get GRPX.SWITCH_AT h) s.mpSec then
    let old := s.get SECH.GROUP_GEN h
    let g := nextGen old
    let s := (s.put GRPX.PREV h old).put GRPX.PREV_AT h (s.get GRPX.SWITCH_AT h + s.get SECH.GROUP_OVERLAP_S h)
    let s := ((s.put SECH.GROUP_GEN h g).put SECH.GROUP_INDEX h (groupIndex g)).clr SECH.GROUP_TX_CNT h
    let s := ((s.clr GRPX.CEIL h).clr GRPX.RUN h).clr GRPX.WARN h
    .next ((s.set SECH.EVENT_GROUP_SWITCHED h).event h 0x0A [(16, le 2 g), (18, [groupIndex g])])
  else .next s

/-- GROUP_OVERLAP_END: the previous group key is accepted no longer (R356). -/
def execGroupOverlapEnd (h : Nat) (s : State) : Host.Outcome State Fault Refusal :=
  .next (if s.get GRPX.PREV h ≠ 0 ∧ ¬ after32 (s.get GRPX.PREV_AT h) s.mpSec then s.clr GRPX.PREV h else s)

/-! ### The root's end, the sweep and the zeroing (R334, R339, R358) -/

/-- KEY_DESTROY_ALL: LIFE becomes RETIRED and every slot reads EMPTY (R334, R435). -/
def execKeyDestroyAll (c : Cmd) (confirm : Nat) (s : State) : Host.Outcome State Fault Refusal :=
  if confirm ≠ 0x4C4C4144 then .next (s.finish c 0x71 0x12)
  else
    let s := (s.put OTP.LIFE 0 3).put SEC.STATUS_LIFE 0 3
    let s := { s with cells := s.cells.filter (fun x => x.1.1 != KSLOT.META_STATE.id && x.1.1 != KSX.MAT.id), kcache := [] }
    let s := s.each [0, 1, 2, 3, 4, 5, 6, 7] fun s h => s.clr SECH.SLOTS_USED h
    .next ((s.put SEC.SLOT_FREE 0 1008).finish c 0x71 0)

/-- KEY_ORPHAN_SWEEP: every VALID slot with a broken line to the Rootstock becomes ORPHANED (R339). -/
def execKeyOrphanSweep (s : State) : Host.Outcome State Fault Refusal :=
  .next (s.each ((List.range 1024).filter fun n => s.get KSLOT.META_STATE n == 1 && !s.graftOk 7 n) fun s n => s.put KSLOT.META_STATE n 2)

/-- KEY_RETIRE_ZERO: the copies of retired material, cache entries among them, are zeroed (R358). -/
def execKeyRetireZero (s : State) : Host.Outcome State Fault Refusal :=
  .next { s with kcache := s.kcache.filter fun t => t.slotGen == s.get KSLOT.GEN_GEN t.slot && s.slotCode t.slot == 0 }

/-- SLOT_QUOTA_WRITE (R365). -/
def execSlotQuotaWrite (r : Req) (h v : Nat) (s : State) : Host.Outcome State Fault Refusal :=
  s.onPriv r (SECH.SLOT_QUOTA.addr h) fun s =>
  let v := v % 2 ^ 10
  let sum := s.get SEC.QUOTA_SUM - s.get SECH.SLOT_QUOTA h + v
  if 8 ≤ h then .next s
  else if 1008 < sum then .next (s.set SEC.EVENT_QUOTA_REFUSED)
  else .next ((s.put SECH.SLOT_QUOTA h v).put SEC.QUOTA_SUM 0 sum)

/-! ### Joining (R350 to R352) -/

/-- The ephemeral private key of a response: reused for at most 256 responses or 1 s (R351). -/
def State.ephemeral (s : State) : List Nat × State :=
  let old := decide (256 ≤ s.get JOINX.EPH_N ∨ 2 ^ 24 ≤ s.mp - s.get JOINX.EPH_AT)
  let s := s.when old fun s =>
    let (k, s) := s.draw
    (((s.put JOINX.EPH 0 k).put JOINX.EPH_N 0 0).put JOINX.EPH_AT 0 s.mp).bump SEC.ECC_CNT
  (be 32 (s.get JOINX.EPH), s.bump JOINX.EPH_N)

/-- The 132 octets of a Join Response to entry e (R351); none while a key, a random value or a valid public key is missing. -/
def State.joinOctets (s : State) (e : Nat) (install nonceN ephN authN : List Nat) : Option (List Nat) × State :=
  let h := s.get E.HEDGE e
  let eui := s.get E.EUI64 e
  let g := s.get E.KEY_GEN e
  let grp := s.on SECH.CFG_GROUP_EN h
  let gg := s.get SECH.GROUP_GEN h
  let (c1, link, s) := s.linkKey e g
  let (c2, group, s) := if grp then s.groupKey h gg else (0, List.replicate 16 0, s)
  if c1 ≠ 0 ∨ c2 ≠ 0 ∨ !s.on SEC.STATUS_DRBG_OK then (none, s)
  else
    let (priv, s) := s.ephemeral
    let (k, s) := s.draw
    let nonceP := le 8 k
    let s := s.bump SEC.ECC_CNT
    match Config.ecdh priv ephN with
    | none => (none, s)
    | some z =>
      let kek := kdf (fix 32 z) (asc "XTH join") (be 8 eui ++ nonceN ++ nonceP) 128
      let a := [0xA2, 1, s.get SECH.CFG_DEF_SEC_LEVEL h, 0] ++ nonceP ++ fix 64 (Config.p256Pub priv) ++ le 2 g ++ [keyIndex g]
        ++ [if grp then groupIndex gg else 0] ++ le 2 (s.get E.SHORT_ADDR e) ++ le 2 (if grp then gg else 0)
      let b := a ++ fix 40 (Config.ccmSeal 6 kek (nonceOf (s.get MAC.AIR_EUI64) 0 6) a (link ++ group))
      (some (b ++ (fix 32 (Config.hmac256 install (b ++ authN))).take 8), s.bump SEC.CCM_CNT)

/-- Answer a Join Request for entry e, in JOINING: whole, or split where the frame exceeds the mode's range (R351, R352). -/
def State.joinRespond (s : State) (e : Nat) (install nonceN ephN authN : List Nat) : State :=
  match s.joinOctets e install nonceN ephN authN with
  | (none, s) => s
  | (some l, s) =>
    let s := s.put NODE.JOIN_AT e s.mp
    let m := s.get E.PHY_MODE e
    if 132 + 21 + fcsLen m ≤ psduMax m then s.postCommand e .kek l
    else
      let s := s.bump JOINX.PAIR
      let p := s.get JOINX.PAIR
      let u := s.get DOWNX.NEXT
      let s := s.postCommand e .kek ([0xA6, p] ++ (l.drop 1).take 79)
      { s with splits := s.splits.filter (·.entry != e) ++ [(⟨u, e, [0xA7, p] ++ l.drop 80⟩ : Split)] }

/-- JOIN_RESPONSE_PART2: Part 1 has ended, so Part 2 is sent (R352). -/
def execJoinResponsePart2 (e : Nat) (s : State) : Host.Outcome State Fault Refusal :=
  match s.splits.find? (·.entry == e) with
  | none => .next s
  | some x =>
    if (s.down x.uid).isSome then .next s
    else
      let s := { s with splits := s.splits.erase x }
      .next (if s.get E.STATE e = stJoining then s.postCommand e .kek x.payload else s)

end Sys2Proof.Machine
end

