-- ==== Sys2Proof/Machine/Lanes.lean ====
section
/-!
DEFINITION. The lanes (spec/04_demodulation_and_decoding.md): synchronisation (R118, R132), headers (R119 to R125), the LDPC pool
(R137 to R141), the end of a frame with its report (R133, R134, R144 to R147), and the duplicate filter (R148).
-/

namespace Sys2Proof.Machine

open Sys2Proof

/-! ### Synchronisation -/

/-- Whether the lane hears anything: it is in service, and one of its branches hears. -/
def State.laneHears (s : State) (l : Nat) : Bool := !bit (s.get FLT.LANE_OUT) l && (s.lanePorts l).any s.hears

/-- A lane begins to receive a frame (R93, R101, R109, R132). -/
def State.laneSync (s : State) (l g metric : Nat) : State :=
  let ps := s.lanePorts l
  let gain (i : Nat) := match ps[i]? with | some p => s.get APRX.STATUS_GAIN_IDX p | none => 0
  let lost := ps.any fun p => !s.hears p
  let overlap := s.blanks.any fun b => !b.closed && ps.any fun p => companion p == b.port
  let f : LaneFrame := ⟨s.get RXX.UID, l, g, metric, s.mp, false, 0, 0, false, 4, false, 0, 0, gain 0, gain 1, 0, false, overlap, lost,
    0, [], 0, false, false, [], [], 0, []⟩
  let s := ({ s with frames := s.frames ++ [f] }).bump RXX.UID
  ps.foldl (fun s p => s.branchOk l p (s.hears p)) (s.set LANE.STATUS_RECEIVING l)

/-- SYNC_DECLARE: a detector's metric exceeds THR; two declarations within 8 µs are judged by metric (R118, R132). -/
def execSyncDeclare (l g metric : Nat) (s : State) : Host.Outcome State Fault Refusal :=
  if 48 ≤ l || 12 ≤ g || !s.on LANE.CFG_EN l || !bit (s.get LANE.MODES l) g || metric ≤ s.get DET.CFG_THR g || !s.laneHears l then .next s
  else
    match s.frameOf l with
    | none => .next ((s.laneSync l g metric).bump DET.DET_CNT g)
    | some f =>
      if f.hdr || f.group == g || decide (8 * 2 ^ 24 < (s.mp - f.sync) * 10 ^ 6) then .next s
      else
        let s := s.bump DET.DET_CNT g
        if f.metric < metric || (f.metric == metric && g < f.group) then
          .next ((s.inFlight (fun x => x.uid == f.uid) fun x => { x with group := g, metric := metric }).bump DET.LOST_CNT f.group)
        else .next (s.bump DET.LOST_CNT g)

/-! ### Headers -/

/-- The frame a lane is receiving ends without being accepted (R100, R144). -/
def State.laneGiveUp (s : State) (l : Nat) (why : Fld) : State := ((s.laneDrop l).bump why l).lanePending l

/-- Go on with a frame whose header is good. -/
def State.laneHeader (s : State) (f : LaneFrame) (mode len : Nat) (fec long : Bool) (fcs seed ref : Nat) : State :=
  s.inFlight (fun x => x.uid == f.uid) fun x =>
    { x with hdr := true, mode := mode, len := len, fec := fec, long := long, fcs := fcs, seed := seed, ref := ref }

/-- The Mesh Phase at which what passed the ball of a port some nanoseconds ago was at the aerial connector (R98). -/
def State.connectorPhase (s : State) (p age : Nat) : Nat := s.mpAgo (age + s.get APRX.RX_EXT_DELAY p)

/-- LANE_HEADER_END: the header is judged (R119 to R121, R125), and the frame stamped with the Mesh Phase of its reference instant at the
connector, by branch A's path (R98, R143). -/
def execLaneHeaderEnd (l : Nat) (h : Header) (age : Nat) (s : State) : Host.Outcome State Fault Refusal :=
  match s.frameOf l with
  | none => .next s
  | some f =>
    if f.hdr then .next s
    else
      let ref := s.connectorPhase (s.ddcPort (s.get LANE.CFG_DDC_A l)) age
      match h with
      | .fsk mode sw fec fcs2 len =>
        if famOf mode ≠ some .fsk ∨ groupOf mode ≠ f.group then .next s
        else if sw ∨ len % 2048 = 0 then .next (s.laneGiveUp l LANE_RX.UNSUP_CNT)
        else .next (s.laneHeader f mode (len % 2048) fec false (if fcs2 then 2 else 4) 0 ref)
      | .ofdm mcs len good =>
        if f.group < 5 ∨ 9 ≤ f.group then .next s
        else if !good then .next ((s.bump DET.HDR_FAIL_CNT f.group).laneGiveUp l LANE_RX.HDR_FAIL_CNT)
        else
          let mode := 0x20 + 8 * (f.group - 5) + mcs
          if 8 ≤ mcs || (famOf mode).isNone || len % 2048 == 0 then .next (s.laneGiveUp l LANE_RX.UNSUP_CNT)
          else .next (s.laneHeader f mode (len % 2048) false false 4 0 ref)
      | .oqpsk len =>
        if f.group ≠ 9 then .next s
        else if len = 0 ∨ 127 < len then .next (s.laneGiveUp l LANE_RX.UNSUP_CNT)
        else .next (s.laneHeader f 0x40 len false false 2 0 ref)
      | .xl w air =>
        if f.group < 10 then .next s
        else if !xlCrcOk w then .next ((s.bump DET.HDR_FAIL_CNT f.group).laneGiveUp l LANE_RX.HDR_FAIL_CNT)
        else if xlUnsup w then .next (s.laneGiveUp l LANE_RX.UNSUP_CNT)
        else
          let x := xlHeader w
          let s := s.inFlight (fun y => y.uid == f.uid) fun y => { y with air := air.take 2 }
          .next (s.laneHeader f (0x50 + 16 * (f.group - 10) + x.mcs) x.len false x.long 4 x.seed ref)

/-! ### Hand-off (R145 to R148) -/

/-- MCS of an XL-OFDM mode. -/
def mcsOf (m : Nat) : Nat := m % 16

/-- Whether a mode is XL-OFDM or XL-OFDM-N. -/
def isXl (m : Nat) : Bool := 0x50 ≤ m && m ≤ 0x69

/-- Codewords of a frame. -/
def LaneFrame.ncw (f : LaneFrame) : Nat := if isXl f.mode then ncwOf (mcsOf f.mode) f.len f.long else 0

/-- Whether a frame can be handed on. -/
def LaneFrame.ready (f : LaneFrame) : Bool := f.ended && !f.failed && f.words.length == f.ncw

/-- Deliver a heard frame into its lane's FIFO (R319, R378). -/
def State.heardOut (s : State) (x : Heard) : State :=
  let (ok, s) := s.hwIn x.lane
  if ok then { s with laneQ := s.laneQ ++ [(⟨x.lane, x.fcs, x.report, x.psdu, s.mp⟩ : LaneIn)] } else s

/-- Count a suppressed duplicate. -/
def State.dupCount (s : State) (l : Nat) : State := (s.bump LANE_RX.DUP_CNT l).bump DEMOD.DUP_CNT

/-- Whether two frames are one (R148). -/
def State.twins (s : State) (a b : Heard) : Bool :=
  a.mode == b.mode && a.psdu == b.psdu
    && decide ((max a.ref b.ref - min a.ref b.ref) * 10 ^ 6 ≤ s.get DEMOD.CTL_DUP_WIN * 2 ^ 24)

/-- A frame comes to the duplicate filter: the copy with the higher LQI stays, on equal LQI the lower lane. -/
def State.heardIn (s : State) (x : Heard) : State :=
  if !s.on DEMOD.CTL_DUP_EN then s.heardOut x
  else
    match s.heard.find? (s.twins x) with
    | none => { s with heard := s.heard.filter (fun y => !y.out || decide (s.mp < y.at_ + 2 ^ 24)) ++ [x] }
    | some y =>
      if y.out || x.lqi < y.lqi || (x.lqi == y.lqi && y.lane ≤ x.lane) then s.dupCount x.lane
      else ({ s with heard := s.heard.map fun z => if z = y then { x with at_ := y.at_ } else z }).dupCount y.lane

/-- Hand one frame on (R145). -/
def State.handOne (s : State) (f : LaneFrame) : State :=
  let xl := isXl f.mode
  let psdu := if xl then xlPsdu (mcsOf f.mode) f.len f.long f.seed f.words else f.psdu
  let rep := if xl then overlay f.report [(24, [f.iter % 256])] else f.report
  let s := { s with frames := s.frames.filter (·.uid != f.uid) }
  let s := ((s.bump LANE_RX.OK_CNT f.lane).put LANE_RX.LAST_FREQ f.lane (oct rep 16 4)).put LANE_RX.LAST_SNR f.lane (oct rep 20 2)
  s.heardIn ⟨f.lane, f.fcs, rep, psdu, f.mode, f.ref, f.lqi, s.mp, false⟩

/-- Hand on what a lane can, in order of reference instant (R145). -/
def State.handOff (s : State) (l : Nat) : State :=
  s.each ((s.frames.filter (·.lane == l)).takeWhile LaneFrame.ready) State.handOne

/-- DUP_WIN_EXPIRE: frames that have waited DUP_WIN are delivered (R148). -/
def execDupWinExpire (s : State) : Host.Outcome State Fault Refusal :=
  let due := s.heard.filter fun x => !x.out && ticksGeUs (s.mp - x.at_) (s.get DEMOD.CTL_DUP_WIN)
  let s := { s with heard := s.heard.map fun (x : Heard) => if due.contains x then { x with out := true } else x }
  .next (s.each due State.heardOut)

/-! ### The LDPC pool -/

/-- Codewords waiting. -/
def State.poolLevel (s : State) : Nat := (s.words.filter (·.run == 4)).length

/-- LEVEL, HWM and degraded operation follow the queue (R140, R153). -/
def State.poolSync (s : State) : State :=
  let n := s.poolLevel
  let s := (s.put LDPC.STATUS_LEVEL 0 n).put LDPC.HWM 0 (max n (s.get LDPC.HWM))
  if !s.on LDPC.STATUS_DEGRADED && s.get LDPC.QUEUE_HIGH ≤ n then (s.set LDPC.STATUS_DEGRADED).set LDPC.EVENT_DEGRADED
  else if s.on LDPC.STATUS_DEGRADED && n ≤ s.get LDPC.QUEUE_LOW then s.clr LDPC.STATUS_DEGRADED
  else s

/-- A frame is dropped because of a codeword (R140, R142). -/
def State.frameFail (s : State) (uid : Nat) : State :=
  match s.frames.find? fun f => f.uid == uid && !f.failed with
  | none => s
  | some f =>
    let s := s.bump LANE_RX.DECODE_FAIL_CNT f.lane
    if f.ended then ({ s with frames := s.frames.filter (·.uid != uid) }).handOff f.lane
    else { s with frames := s.frames.map fun (x : LaneFrame) => if x.uid == uid then { x with failed := true } else x }

/-- Discard a codeword (R140). -/
def State.cwDrop (s : State) (uid : Nat) : State := ((s.bump LDPC.DROP_CNT).set LDPC.EVENT_DROP).frameFail uid

/-- With no decoder in service every waiting codeword is discarded (R141). -/
def State.poolOrphans (s : State) : State :=
  if s.get LDPC.STATUS_IN_SERVICE ≠ 0 then s
  else
    let w := s.words.filter (·.run == 4)
    (({ s with words := s.words.filter (·.run != 4) }).each w fun s x => s.cwDrop x.frame).poolSync

/-- A decoder leaves service (R141). -/
def State.decLeave (s : State) (k : Nat) : State :=
  let m := s.get LDPC.STATUS_IN_SERVICE
  if bit m k then ((s.put LDPC.STATUS_IN_SERVICE 0 (m - 2 ^ k)).set LDPC.EVENT_DEC_OUT).poolOrphans else s

/-- A decoder is found faulty: its codeword goes back to the head of the queue (R141). -/
def State.decFault (s : State) (k iters : Nat) : State :=
  let mine := s.words.filter (·.run == k)
  let s := { s with words := mine.map (fun (x : CodeWord) => { x with run := 4 }) ++ s.words.filter (fun (x : CodeWord) => x.run != k) }
  let s := (s.bump LDPC.ITER_SUM 0 (if mine.isEmpty then 0 else iters)).put LDX.OUT 0 (Nat.lor (s.get LDX.OUT) (2 ^ k))
  (s.poolSync).decLeave k

/-- The oldest frame of a lane that has codewords still to submit; its last one may come when the lane is free again (R139). -/
def State.submitting (s : State) (l : Nat) : Option LaneFrame :=
  s.frames.find? fun f => f.lane == l && f.hdr && !f.failed && decide (f.sub < f.ncw)

/-- A codeword joins the queue: after those submitted before it, and in one cycle in order of lane numbers (R139). -/
def cwQueue (w : CodeWord) : List CodeWord → List CodeWord
  | [] => [w]
  | x :: xs =>
    if x.run == 4 && x.cycle == w.cycle && decide (w.lane < x.lane) then w :: x :: xs
    else x :: cwQueue w xs

/-- LDPC_CW_SUBMIT: the last soft value of the lane's next codeword is formed, and the codeword joins the queue (R136, R139, R140). -/
def execLdpcCwSubmit (x : CwIn) (s : State) : Host.Outcome State Fault Refusal :=
  match s.submitting x.lane with
  | none => .next s
  | some f =>
    let air := f.air.mapIdx fun i b => { b with syms := b.syms ++ x.rx.getD i [] }
    let s := { s with frames := s.frames.map fun (y : LaneFrame) => if y.uid == f.uid then { y with sub := y.sub + 1, air := air } else y }
    if 256 ≤ s.poolLevel || s.get LDPC.STATUS_IN_SERVICE == 0 then .next (s.cwDrop f.uid)
    else
      let m := mcsOf f.mode
      let soft := cwSoft (0x60 ≤ f.mode) m f.len f.long air f.sub
      .next ({ s with words := cwQueue ⟨x.lane, f.uid, f.sub, 4, false, s.cycle, soft, m, f.long⟩ s.words }).poolSync

/-- LDPC_DECODE_START: a free decoder takes the oldest waiting codeword (R139, R140). -/
def execLdpcDecodeStart (k : Nat) (s : State) : Host.Outcome State Fault Refusal :=
  if 4 ≤ k || !bit (s.get LDPC.STATUS_IN_SERVICE) k || !bit (s.get LDPC.DEC_EN) k || s.words.any (·.run == k) then .next s
  else
    match s.words.find? (·.run == 4) with
    | none => .next s
    | some w =>
      let deg := s.on LDPC.STATUS_DEGRADED
      let s := { s with words := s.words.map fun (x : CodeWord) => if x = w then { x with run := k, deg := deg } else x }
      .next (s.when deg (·.bump LDPC.DEG_CNT)).poolSync

/-- What a decoder makes of a codeword under the limit it was started with: iterations, word, and whether the syndrome is zero (R137). -/
def State.decoded (s : State) (w : CodeWord) : Nat × Nat × Bool :=
  ldpcRun w.mcs w.long (s.get LDPC.CFG_ALPHA) (if w.deg then s.get LDPC.CFG_DEG_ITER else s.get LDPC.CFG_MAX_ITER) w.soft

/-- A codeword of a frame is decoded: its word is the frame's, which may be complete with it (R142, R145). -/
def State.wordIn (s : State) (w : CodeWord) (iter v : Nat) : State :=
  ({ s with frames := s.frames.map fun (f : LaneFrame) =>
      if f.uid == w.frame then { f with words := f.words ++ [(w.ix, v)], iter := max f.iter iter } else f }).handOff w.lane

/-- LDPC_DECODE_DONE: the syndrome is zero, or the iteration limit is reached (R137, R141, R142). The decoder reports what it computed; a report
of anything else does not occur (assumption log 4). -/
def execLdpcDecodeDone (k iter word : Nat) (s : State) : Host.Outcome State Fault Refusal :=
  match s.words.find? (fun w => w.run == k && k < 4) with
  | none => .next s
  | some w =>
    let (i, v, ok) := s.decoded w
    if i ≠ iter ∨ v ≠ word then .next s else
    let s := { s with words := s.words.filter (· != w) }
    let s := ((s.bump LDPC.CW_CNT).bump LDPC.ITER_SUM 0 iter).when (!ok) (·.bump LDPC.FAIL_CNT)
    let s := if ok then s.wordIn w iter v else s.frameFail w.frame
    .next (if bit (s.get LDPC.DEC_EN) k then s else s.decLeave k)

/-- LDPC_CFG_WRITE: CFG at offset 0, QUEUE at offset 4 (R140, R153). -/
def execLdpcCfgWrite (r : Req) (off v : Nat) (s : State) : Host.Outcome State Fault Refusal :=
  s.onBus r (LDPC.CFG_MAX_ITER.addr 0 + off) fun s =>
  let ok (x lo hi : Nat) : Bool := lo ≤ x && x ≤ hi
  if off = 0 then
    if ok (bits v 0 6) 1 32 && ok (bits v 8 6) 1 32 && ok (bits v 16 4) 8 16 then
      .next (((s.put LDPC.CFG_MAX_ITER 0 v).put LDPC.CFG_DEG_ITER 0 (bits v 8 6)).put LDPC.CFG_ALPHA 0 (bits v 16 4))
    else .next (s.set LDPC.EVENT_BAD_CFG)
  else if bits v 16 9 < bits v 0 9 then
    .next ((s.put LDPC.QUEUE_HIGH 0 v).put LDPC.QUEUE_LOW 0 (bits v 16 9)).poolSync
  else .next (s.set LDPC.EVENT_BAD_CFG)

/-- LDPC_DEC_EN_WRITE: an idle decoder whose bit clears leaves service at once; a set bit brings it back unless a fault took
it out (R141, R153). -/
def execLdpcDecEnWrite (r : Req) (v : Nat) (s : State) : Host.Outcome State Fault Refusal :=
  s.onBus r (LDPC.DEC_EN.addr 0) fun s =>
  let s := s.put LDPC.DEC_EN 0 v
  .next (s.each [0, 1, 2, 3] fun s k =>
    if bit v k then
      if bit (s.get LDX.OUT) k then s else s.put LDPC.STATUS_IN_SERVICE 0 (Nat.lor (s.get LDPC.STATUS_IN_SERVICE) (2 ^ k))
    else if s.words.any (·.run == k) then s else s.decLeave k)

/-! ### The end of a frame -/

/-- FREQ_OFS and whether it is uncorrected (R134), rounded to the nearest unit. -/
def State.freqOfs (s : State) (l : Nat) (measured : Int) : Int × Bool :=
  if s.refGood then
    let f : Int := (16 * s.get DDC.FREQ (s.get LANE.CFG_DDC_A l) : Nat)
    let d := f * ((incNominal : Int) - (s.get TIME.NSC_INC : Nat))
    (measured + (2 * d + incNominal) / (2 * incNominal), false)
  else (measured, true)

/-- LQI from SNR in 1/4 dB (R147). -/
def lqiOf (snr : Int) : Nat := (max 0 (min 255 (2 * snr + 40))).toNat

/-- RSSI of a branch from its mean power at the ball in 1/16 dBm: referred to the connector and rounded to whole dBm (R98, R147). -/
def State.rssi (s : State) (p : Nat) (ball : Int) : Int := clampI (-127) 127 ((ball - s.getI APRX.RX_EXT_GAIN p + 8) / 16)

/-- The reception report of a frame at its end (R146, R147). -/
def State.report (s : State) (f : LaneFrame) (m : LaneMeasure) : List Nat × Nat :=
  let l := f.lane
  let pair := s.on LANE.CFG_PAIR l
  let snr := clampI (-40) 160 m.snr
  let (freq, unc) := s.freqOfs l m.freq
  let flag (b : Bool) (k : Nat) := if b then 2 ^ k else 0
  let ps := s.lanePorts l
  let dur := if isXl f.mode then airtime f.mode false f.long 0 f.len else m.us
  (layout 32 [(0, le 8 f.ref), (8, [f.mode, l,
      flag pair 0 + flag f.lost 1 + flag f.clipped 2 + flag f.overlap 3 + flag f.fec 5 + flag f.long 6 + flag unc 7,
      f.gainA + 8 * f.gainB, f.steps, ofInt 8 (s.rssi (ps.headD 0) m.rssiA), if pair then ofInt 8 (s.rssi (ps.getD 1 0) m.rssiB) else 0x80,
      lqiOf snr]), (16, le 4 (ofInt 32 freq)), (20, le 2 (ofInt 16 snr)), (22, le 2 f.len), (25, [f.ncw % 256]),
      (26, [ps.headD 0 + 4 * ps.getD 1 0]), (28, le 4 dur)], lqiOf snr)

/-- LANE_FRAME_END: the last symbol has passed; the lane searches again and its waiting configuration is applied (R100,
R144, R145). -/
def execLaneFrameEnd (l : Nat) (m : LaneMeasure) (s : State) : Host.Outcome State Fault Refusal :=
  match s.frameOf l with
  | none => .next s
  | some f =>
    if !f.hdr then .next s
    else
      let (rep, lqi) := s.report f m
      let s := if f.failed then s.laneDrop l
        else s.inFlight (fun x => x.uid == f.uid) fun x =>
          { x with ended := true, report := rep, psdu := (m.psdu.map (· % 256)).take f.len, lqi := lqi }
      .next (((s.laneIdle l).handOff l).lanePending l)

end Sys2Proof.Machine
end

