-- ==== Sys2Proof/Machine/Attempt.lean ====
section
/-!
DEFINITION. Attempts of downlinks (spec/07_phase_aimed_wakeup.md): how each is timed, and how it is secured, queued and armed.
-/

namespace Sys2Proof.Machine

open Sys2Proof

/-! ### The seen-cache (R278) -/

/-- Whether an entry of the seen-cache is live now. -/
def State.seenLive (s : State) (x : Nat × Nat × Nat × Nat) : Bool :=
  (s.mpSec + 2 ^ 32 - x.2.2.2 % 2 ^ 32) % 2 ^ 32 < s.get FWD.SEEN_LIFE

/-- Whether a flood's key is found. -/
def State.seenHas (s : State) (h o q : Nat) : Bool :=
  s.seen.any fun x => x.1 == h && x.2.1 == o && x.2.2.1 == q && s.seenLive x

/-- Keep SEEN_USED equal to the entries held. -/
def State.seenShow (s : State) (h : Nat) : State :=
  (s.put FWDH.SEEN_USED h (s.seen.filter (·.1 == h)).length).put FWD.SEEN_USED 0 s.seen.length

/-- Insert a flood's key; a Hedge at SEEN_MAX, or a full cache, gives up the Hedge's oldest entry. -/
def State.seenAdd (s : State) (h o q : Nat) : State :=
  let s := { s with seen := s.seen.filter s.seenLive }
  if s.seenHas h o q then s.seenShow h
  else
    let full := s.get FWDH.SEEN_MAX h ≤ (s.seen.filter (·.1 == h)).length || 131072 ≤ s.seen.length
    let s := match full, s.seen.find? (·.1 == h) with
      | true, some x => (({ s with seen := s.seen.erase x }).bump FWDH.SEEN_EVICT h).bump FWD.SEEN_EVICT
      | _, _ => s
    ({ s with seen := s.seen ++ [(h, o, q, s.mpSec)] }).seenShow h

/-! ### Modes, units and windows (R143, R221, R224, R249) -/

/-- TURN of the family of a mode, µs (R221). -/
def turnUs (m : Nat) : Nat := if m = 0x40 then 192 else 1000

/-- The mode an Enh-Ack answers a mode in (R221). -/
def ackMode (m : Nat) : Nat :=
  match famOf m with
  | some .xl | some .xln => if mcsOf m ≤ 1 then m - mcsOf m else m - mcsOf m + 2
  | _ => m

/-- Preamble units that last at least some ticks (R248, R249); SUN-OFDM has no unit, so no number will do. -/
def unitsFor (m ticks : Nat) : Nat :=
  match famOf m with
  | some .fsk => ceilDiv (ticks * kbpsOf m * 1000) (8 * 2 ^ 24)
  | some .oqpsk => ceilDiv (ticks * 10 ^ 6) (32 * 2 ^ 24)
  | some .xl | some .xln => ceilDiv (ticks * 10 ^ 6) (144 * 2 ^ 24)
  | _ => 4096

/-- Ticks from the first preamble sample to the reference instant (R143), with a preamble of `pre` units (0 standard). -/
def refTicks (m pre : Nat) : Nat :=
  let p := if pre = 0 then preStd m else pre
  match famOf m with
  | some .fsk => (p + 2) * 8 * 2 ^ 24 / (kbpsOf m * 1000)
  | some .ofdm => 720 * 2 ^ 24 / 10 ^ 6
  | some .oqpsk => (p + 1) * 32 * 2 ^ 24 / 10 ^ 6
  | _ => (p + 2) * 144 * 2 ^ 24 / 10 ^ 6

/-- Whether a downlink travels as a flood. -/
def Down.isFlood (d : Down) : Bool := d.freight == .flood || d.freight == .reflood

/-- Airtime of the attempt in hand, µs. -/
def Down.air (d : Down) : Nat := airT d.mode d.pre d.psduLen

/-- Whether an enabled lane is tuned to a carrier and takes the mode group a node acknowledges a mode in (R224). -/
def State.ackCovered (s : State) (freq m : Nat) : Bool :=
  allLanes.any fun l => s.on LANE.CFG_EN l && s.get DDC.FREQ (s.get LANE.CFG_DDC_A l) == freq
    && bit (s.get LANE.MODES l) (groupOf (ackMode m))

/-- The sub-band of a request: the lowest enabled one that holds the occupied band, else number 0, which the checks of the chain
judge (assumption log 19). -/
def State.subbandFor (s : State) (freq m : Nat) : Nat :=
  ((List.range 16).find? fun b => s.sbOk b && s.fits b (16 * freq : Nat) m).getD 0

/-- ARM_LEAD_US for a chain (R258). -/
def State.armLead (s : State) (c : Nat) : Nat :=
  let a := s.get WAKE.ARM_LEAD_US
  if c < 4 && s.governed (s.get TXC.CTL_PORT c) then max a (s.get COEX.LEAD + 20) else a

/-- LEAD of a downlink, ticks (R248). -/
def State.leadOf (s : State) (d : Down) : Nat :=
  usTicks (if d.cls = 0 then s.get WAKEH.LEAD_TRUMP d.hedge else s.get WAKEH.LEAD_OTHER d.hedge)

/-- RETRY of a class (R225). -/
def State.retryOf (s : State) (h k : Nat) : Nat :=
  s.get ([MACH.RETRY_TRUMP, MACH.RETRY_LEAD, MACH.RETRY_DEAL].getD k MACH.RETRY_KITTY) h

/-- LBT_TRIES of a class (R214). -/
def State.lbtTriesOf (s : State) (h k : Nat) : Nat :=
  s.get ([MACH.LBT_TRIES_TRUMP, MACH.LBT_TRIES_LEAD, MACH.LBT_TRIES_DEAL].getD k MACH.LBT_TRIES_KITTY) h

/-- The chains of the carrier's band that could carry an attempt: enabled, without a mute cause; those of the entry's preferred port
first. -/
def State.chainsFor (s : State) (d : Down) : List Nat :=
  let l := [0, 1, 2, 3].filter fun c => s.on TXC.CTL_EN c && s.get TXC.MUTE c == 0 && s.get TXC.STATUS_STATE c != chOff
    && s.get TXC.STATUS_STATE c != chMuted && s.chainBand c == bandOf d.freq
  let pref (c : Nat) : Bool := !d.isFlood && s.get TXC.CTL_PORT c == s.get E.PREF_AP d.hop
  l.filter pref ++ l.filter (!pref ·)

/-! ### Timing an attempt (R248 to R253) -/

/-- How an attempt is timed. -/
inductive Plan where
  | go (d : Down)
  | hold (counted : Bool)
  | unfit
  deriving DecidableEq, Repr

/-- Whether a downlink is aimed at wakes: its next hop is SLEEPY (R248). -/
def State.sleeperHop (s : State) (d : Down) : Bool := !d.isFlood && s.get E.STATE d.hop == stSleepy

/-- The attempt at the first wake whose C is at least `bound`: aimed, a long preamble, or a train (R248, R250, R252, R253). -/
def State.planWake (s : State) (d : Down) (bound : Nat) : Plan :=
  let e := d.hop
  let h := d.hedge
  let i := s.get E.PH_INTERVAL e
  let j := s.firstWake e (bound : Nat)
  let t := s.tHat e j
  let u := s.uEff e t
  let g := s.guardT h
  if s.wakeHold e j then .hold true
  else
    let d := { d with freq := s.planFreq h (s.wakeChannel e j), bound := bound, late := false, prev := 0, model := true }
    let p := max (preStd d.mode) (unitsFor d.mode (2 * u + g))
    if s.get E.PH_MODE e = 1 ∧ (2 * u + g) * 10 ^ 6 ≤ s.get WAKEH.FALLBACK_US h * 2 ^ 24 ∧ preOk d.mode p then
      .go { d with aim := .aimed, c := (t - u).toNat, pre := p }
    else
      let uf := min u (i / 2 + i / 512)
      let a := (t - uf).toNat
      let b := (t + uf).toNat
      let p := max (preStd d.mode) (unitsFor d.mode (2 * uf + g))
      if s.get WAKEH.CFG_FB_KIND h = 0 ∧ preOk d.mode p then .go { d with aim := .long, c := a, pre := p, lo := a, hi := b }
      else
        let listen := usTicks (s.listenUs e)
        let air := airT d.mode 0 d.psduLen
        if listen < g + usTicks (air + s.get WAKEH.TRAIN_GAP_US h) then .unfit
        else .go { d with aim := .train, c := a + listen - g, pre := 0, lo := a, hi := b }

/-- Time the next attempt of a downlink, no earlier than `bound`. -/
def State.planAttempt (s : State) (d : Down) (bound : Nat) : Plan :=
  if s.sleeperHop d then
    if s.get E.PH_INTERVAL d.hop = 0 then .hold false else s.planWake d bound
  else
    let ch := if d.isFlood then s.get FWDH.FLOOD_FLOOD_CH d.hedge else s.get E.CHANNEL d.hop
    let d := { d with freq := s.planFreq d.hedge ch }
    let c := max bound (s.mp + usTicks (((s.chainsFor d).map s.armLead).foldl max (s.get WAKE.ARM_LEAD_US)))
    .go { d with aim := .plain, c := c, pre := if d.isFlood then s.get FWDH.FLOOD_PRE d.hedge else 0, bound := bound, late := false, prev := 0, model := true }

/-! ### Floods of the part (R276) -/

/-- A flood takes its Hop PANs and, when it is the part's own, its TTL, GEN and FLOOD_SEQ, and its keys enter the seen-cache. -/
def State.startFlood (s : State) (d : Down) : Down × State :=
  if d.pans ≠ [] then (d, s)
  else
    let h := d.hedge
    let pans := s.hopPans h
    if d.freight = .reflood then ({ d with pans := pans }, s)
    else
      let q := s.get FWDH.FLOOD_SEQ h
      let d := { d with freight := .flood, sec := .group, ackReq := false, pans := pans, ttl := if d.ttl = 0 then s.get FWDH.TTL_FLOOD_TTL h else d.ttl,
                        gen := s.get FWDH.GEN_BASE h, floodSeq := q, mode := s.get FWDH.FLOOD_FLOOD_MODE h }
      let s := s.bump FWDH.FLOOD_SEQ h
      (d, s.each (pans.map fun p => s.get PANMAP.OWN_SHORT p) fun s o => s.seenAdd h o q)

/-! ### Securing an attempt -/

/-- The body of a mesh time beacon whose reference instant is at a Mesh Phase (R45); ACCURACY, which the spec does not derive, is a free
value (assumption log 3). -/
def State.beaconBody (s : State) (phase : Nat) : List Nat × State :=
  let st := s.get TIME.SRC_STATUS_STATE
  let fl := (if st ≠ 0 then 1 else 0) + (if st = 3 then 2 else 0) + if st = 4 then 4 else 0
  let (k, s) := s.draw
  ([1, fl, 0, 0] ++ le 8 phase ++ le 4 0 ++ le 2 (s.get TIME.UTC_OFFSET) ++ le 2 k, s)

/-- MACH[h].CFG.PEND_CLASS names a class the queue of entry e holds (R223). -/
def State.pendBit (s : State) (h e : Nat) : Bool :=
  s.downs.any fun d => d.dest == e && d.stage == .queued && bit (s.get MACH.CFG_PEND_CLASS h) d.cls

/-- Secure the frame of the attempt in hand, unless the frame it has still stands (R225, R345, R359). A beacon, and a flood's copy, is
always secured afresh. -/
def State.secureNow (s : State) (d : Down) : Nat × Down × State :=
  let keep := d.frame != [] && !d.isFlood && s.get E.INCARNATION d.hop == d.hopInc && s.keyCurrent d d.hop
  match (if d.isFlood then d.pans.head? else s.panOf d.hedge) with
  | none => (0x03, d, s)
  | some pan =>
    if keep then (0, d, s)
    else
      let ref := d.c + refTicks d.mode d.pre
      let (body, s) := if d.beacon then s.beaconBody ref else (d.payload, s)
      let d := { d with payload := body, hopInc := s.get E.INCARNATION d.hop }
      let d := if d.freight = .flood ∨ d.freight = .send then { d with origin := s.get PANMAP.OWN_SHORT pan } else d
      s.secureDown d d.hop pan (ref / 512) false

/-! ### The end of a downlink, and its return (R252 to R256, R273, R302) -/

/-- Deliver a data frame of a Hop PAN: a relayed one touches its origin, where that was found, and takes its PROTO_GEN (R271, R281), which a
standby leaves (R465); one whose origin was not found is counted (R268). META names the origin, and whether the frame was relayed. -/
def State.hopDeliver (s : State) (gen : Nat) (f : RxFrame) : State :=
  let o := f.meta_ % 2 ^ 18
  let s := if bit f.flags 3 then s.bump FWDH.ORIGIN_UNKNOWN f.hedge
    else if bit f.meta_ 24 && s.get E.STATE o != stFree && s.get E.EUI64 o == f.src then (s.hit o).when (!s.standby) (·.wrE E.PROTO_GEN o gen)
    else s
  s.rxIn f

/-- A relayed frame ends: one without a route is delivered with RELAY_FAILED (R271, R273); no other end of it is reported. -/
def State.relayEnd (s : State) (d : Down) (status : Nat) : State :=
  if d.freight = .relay ∧ status = 0x03 then
    let s := s.bump FWDH.RELAY_NOROUTE d.hedge
    match d.rx with
    | some x => s.hopDeliver d.gen { x with flags := Nat.lor x.flags 16 }
    | none => s
  else s

/-- A downlink ends with a code; COUNTER_EXHAUSTED is counted (R365). A flood whose copy fails within its lifetime goes on with the copies for
its remaining Hop PANs, and ends with the code of the last (R276; assumption log 160). -/
def State.finishDown (s : State) (d : Down) (status : Nat) : State :=
  let s := s.when (status == 0x0C) (·.bump SECH.EXHAUSTED d.hedge)
  if d.isFlood && 1 < d.pans.length && status != 0 && status != 0x11 then
    (s.when (status == 7) (·.bump MACH.LBT_FAIL_CNT d.hedge)).setDown
      { d with pans := d.pans.drop 1, frame := [], tag := none, stage := .released, lbt := 0, chain := 4, pt := 64 }
  else (s.downEnd d status).relayEnd d status

/-- Let a planned attempt wait for its instant, or return it to its queue when C is further off than RETURN_US (R302). A flood's queue has
no ELIG, so it is not returned (assumption log 20). -/
def State.placePlan (s : State) (d : Down) : State :=
  let h := d.hedge
  if d.cls ≠ 0 ∧ !d.isFlood ∧ s.mp + usTicks (s.get TMH.RETURN_US h) < d.c then
    s.giveBack d (some (d.c - usTicks (s.get WAKEH.LEAD_OTHER h) - usTicks (s.get TMH.ELIG_MARGIN h)))
  else s.setDown { d with stage := .planned }

/-- A frame that requests an acknowledgement is sent only where an enabled lane can hear the answer (R224). -/
def State.uncovered (s : State) (d : Down) : Bool := d.ackReq && !s.ackCovered d.freq d.mode

/-- Whether the route a downlink was aimed along still stands: its destination and next hop are the entries they were, and neither is LOST
(R60, R65). -/
def State.hopStands (s : State) (d : Down) : Bool :=
  let ok (e inc : Nat) : Bool := s.get E.INCARNATION e == inc && s.get E.STATE e != stFree && s.get E.STATE e != stLost
  d.isFlood || (ok d.dest d.destInc && ok d.hop d.hopInc)

/-- A downlink that cannot be sent for now waits in its queue, or, of class Trump, with its engine (R240, R251, R274, R302). -/
def State.holdDown (s : State) (d : Down) : State :=
  if d.cls = 0 then s.setDown { d with stage := .held } else s.giveBack d (some elHold)

/-- Time the next attempt no earlier than `bound` and place it; a downlink whose route no longer stands is resolved anew. `limit` asks for EXPIRED when C lies beyond the lifetime (R214,
R257). -/
def State.replan (s : State) (d : Down) (bound : Nat) (limit : Bool) : State :=
  if !s.hopStands d then s.setDown { d with stage := .released }
  else match s.planAttempt d bound with
  | .go d' => if limit && d'.expiry < d'.c then s.finishDown d' 0x11 else if s.uncovered d' then s.finishDown d' 0x12 else s.placePlan d'
  | .hold counted =>
    let s := s.when (counted && !d.held) (·.bump WAKEH.HOLD_CNT d.hedge)
    let s := s.holdDown { d with held := d.held || counted }
    if counted && d.cls != 0 then s.queueUnknown d.dest else s
  | .unfit => (s.bump WAKEH.TRAIN_UNFIT d.hedge).finishDown d 0x08

/-- The next attempt of a downlink that goes on: for a sleeper the first wake at least LEAD from now, else at once. -/
def State.again (s : State) (d : Down) : State := s.replan d (if s.sleeperHop d then s.mp + s.leadOf d else s.mp) false

/-! ### Taking a downlink (R248, R274) -/

/-- The next hop's part of a downlink that goes to entry n (R267, R274, R282). -/
def State.aimHop (s : State) (d : Down) (n : Nat) (direct : Bool) : Down :=
  let h := d.hedge
  let d := if d.hop = n ∧ d.hopInc = s.get E.INCARNATION n then d else { d with frame := [], tag := none }
  let d := { d with hop := n, hopInc := s.get E.INCARNATION n, mode := if d.autoMode then s.get E.PHY_MODE n else d.mode,
                    power := if d.autoPower then s.get E.TX_POWER n else d.power }
  if d.freight = .send then
    { d with ttl := s.get FWDH.TTL_TTL_INIT h, gen := s.get E.PROTO_GEN d.dest, floodSeq := s.get FWDH.FLOOD_SEQ h,
             final := if direct && s.get E.SHORT_ADDR d.dest == 0xFFFE then 0xFFFF else s.get E.SHORT_ADDR d.dest }
  else d

/-- Secure an attempt, where its answer can be heard, and place it (R224). -/
def State.placeChecked (s : State) (d : Down) : State :=
  if s.uncovered d then s.finishDown d 0x12
  else
    match s.secureNow d with
    | (0, d, s) => s.placePlan d
    | (code, d, s) => s.finishDown d code

/-- Take a downlink whose path is known: time its attempt, check and secure it. -/
def State.take (s : State) (d : Down) : State :=
  let bound := if s.sleeperHop d then max d.bound (s.mp + s.leadOf d) else d.bound
  match s.planAttempt d bound with
  | .go d' => s.placeChecked d'
  | _ => s.replan d bound false

/-- DOWNLINK_RELEASE: the engine resolves the route of a released downlink, aims it, secures it and lets it wait for its instant (R248,
R258, R274, R276). -/
def execDownlinkRelease (u : Nat) (s : State) : Host.Outcome State Fault Refusal :=
  match s.down u with
  | none => .next s
  | some d =>
    if d.stage ≠ .released ∧ d.stage ≠ .held then .next s
    else if (d.isFlood || d.opcode == 0x02) && d.freight != .reflood && s.expH d.hedge 3 then .next (s.finishDown { d with pans := [] } 0x13)
    else if d.isFlood then
      let (d, s) := s.startFlood d
      .next (if d.pans = [] then s.finishDown d 0 else s.take d)
    else if s.get E.INCARNATION d.dest ≠ d.destInc ∨ s.get E.STATE d.dest = stFree then .next (s.finishDown d 0x04)
    else
      match s.resolve d.dest (s.hopPans d.hedge != []) (d.noFlood || d.freight == .relay) (d.freight == .command) with
      | .lost => .next (s.holdDown d)
      | .none => .next (s.finishDown d 0x03)
      | .hop n direct => .next (s.take (s.aimHop d n direct))
      | .flood =>
        if s.expH d.hedge 3 then .next (s.finishDown d 0x13) else
        let (d, s) := s.startFlood { d with freight := .flood, ttl := 0, final := s.get E.SHORT_ADDR d.dest }
        .next (if d.pans = [] then s.finishDown d 0x03 else s.take d)

/-! ### Arming (R258) -/

/-- Whether a chain has no frame on air and none armed that overlaps [C − 100 µs, the end of the ack window), and a trigger left; its FIFO
holds no request without a trigger, and a frame that is armed on it has the same preamble, since both go by one CUR (R249, R258; assumption
log 19). -/
def State.chainFree (s : State) (d : Down) (c : Nat) : Bool :=
  let spans := s.airSpans c
  let win := (d.c - usTicks 100, d.c + usTicks (d.air + if d.ackReq then turnUs d.mode + s.get MACH.ACK_WIN d.hedge else 0))
  !spans.any (spansMeet win) && spans.length == (s.reqs c).length && !(s.on PT.STATUS_ARMED c && s.on PT.STATUS_ARMED (c + 4))
    && (s.startsOn c).all fun n => 12 ≤ n || s.get TXPRE.CUR c == d.pre

/-- An armed Lead, Deal or Kitty attempt whose gate decision is at least 20 µs away, and without which one of some chains could carry
downlink d (R258). -/
def State.victim (s : State) (d : Down) (cs : List Nat) : Option Down :=
  s.downs.find? fun v => v.stage == .armed && v.cls != 0 && cs.contains v.chain && !s.on PTX.CLEARED v.pt
    && s.on PT.STATUS_ARMED v.pt && s.get PT.CMP v.pt == v.c && ticksGeUs (v.c - s.mp) 33 && (s.withdraw v).chainFree d v.chain

/-- Write the request and TXPRE and arm the trigger (R176, R249, R258). -/
def State.armOn (s : State) (d : Down) (c : Nat) : State :=
  let n := if s.on PT.STATUS_ARMED c then c + 4 else c
  let valid := !d.isFlood
  let fl := (if d.calFull then 1 else 0) + (if valid then 2 else 0) + 8 * d.cls
  let r : TxReq := ⟨c, d.mode, fl, d.psduLen, d.freq, d.power, s.subbandFor d.freq d.mode, if valid then some d.hop else none, 0,
    d.uid, if valid then d.hopInc else 0, if valid then d.hedge else 0, false, false, withFcs d.mode d.frame⟩
  let s := (s.putReq r d.c).put TXPRE.NEXT c d.pre
  let s := (((s.put PT.CTL_EN n 1).put PT.CTL_ACTION n 1).put PT.CTL_TARGET n c).put PT.CTL_OWNER n 0xF
  let s := s.each [PT.STATUS_FIRED, PT.STATUS_MISSED, PT.STATUS_CONFLICT, PT.STATUS_NOT_READY, PT.STATUS_BAD_CFG] fun s F => s.clr F n
  let s := ((s.clr PT.PERIOD n).put PT.CMP n d.c).setDown { d with stage := .armed, chain := c, pt := n }
  s.arm n

/-- Arm the attempt of a planned downlink on a free chain; a Trump attempt may displace an armed one; without a chain the attempt targets
the next wake (R258). While the TX or the TIME blocks are Expert the Mesh Runtime writes neither TXPRE nor a trigger, and the downlink ends with
ACCESS_DENIED (R11, R580). -/
def State.armAttempt (s : State) (d : Down) : State :=
  if s.expG 1 || s.expG 2 then s.finishDown d 0x13 else
  let cs := s.chainsFor d
  match cs.find? (s.chainFree d) with
  | some c => s.armOn d c
  | none =>
    match (if d.cls = 0 then s.victim d cs else none) with
    | some v =>
      let s := s.withdraw v
      ((s.giveBack v none).writeElig v.dest).armOn d v.chain
    | none => (s.bump WAKEH.NO_CHAIN d.hedge).replan d (max (d.c + 1) (s.mp + 1)) false

/-- Whether an attempt must wait: a Trump downlink of its queue is in flight (R300), or the step correction has still to reach the entry
it is aimed at (R247). -/
def State.mustWait (s : State) (d : Down) : Bool :=
  (d.cls != 0 && (s.flying d.dest).any fun x => x.cls == 0 && x.uid != d.uid)
    || (d.aim == .aimed && s.on WAKE.STATUS_FIX_ACTIVE && decide (s.get WAKE.STATUS_FIX_CURSOR ≤ d.hop))

end Sys2Proof.Machine
end

