-- ==== Sys2Proof/Machine/Wake.lean ====
section
/-!
DEFINITION. What happens to attempts (spec/07_phase_aimed_wakeup.md): gate verdicts (R214, R257), results (R177), trains (R253), the end
of the ack window (R225, R255); and the wake-clock model's observations (R244 to R247).
-/

namespace Sys2Proof.Machine

open Sys2Proof

/-! ### Observations (R244 to R246) -/

/-- The quotient rounded to nearest, ties away from zero. -/
def roundDiv (a b : Int) : Int :=
  if b = 0 then 0
  else
    let q := (2 * a.natAbs + b.natAbs) / (2 * b.natAbs)
    if decide (a < 0) == decide (b < 0) then (q : Int) else -(q : Int)

/-- anchor(): the model takes the measured wake (R245), so the observation is applied and counted (R261). -/
def State.obsAnchor (s : State) (e : Nat) (tw : Int) (tObs stamp : Nat) : State :=
  let s := s.bump WAKE.OBS_CNT
  let s := (s.wrE E.PH_OFFSET e (ofInt 64 tw)).wrE E.PH_LAST_OBS e tObs
  let s := ((s.wrE E.PH_LAST_STAMP e stamp).wrE E.PH_UNCERT e (s.get WAKE.OBS_OBS_UNCERT)).wrE E.PH_MISSES e 0
  if s.get E.PH_MODE e = 2 then s.wrE E.PH_MODE e 1 else s

/-- A breach is counted and may raise the drift class (R246). -/
def State.breach (s : State) (e : Nat) : State :=
  let h := s.get E.HEDGE e
  let k := s.get E.PH_DRIFT_CLASS e
  let s := s.bump WAKEH.BREACH_CNT h
  if s.on WAKEH.CFG_AUTO_RAISE h ∧ k < 15 then (s.wrE E.PH_DRIFT_CLASS e (k + 1)).event h 0x08 [(16, le 4 e), (20, le 8 (s.get E.EUI64 e)), (28, [k + 1])] else s

/-- Write PH_RATE, kept within its field (R245). -/
def State.setRate (s : State) (e : Nat) (r : Int) : State := s.wrE E.PH_RATE e (ofInt 32 (clampI (-(2 ^ 31 : Int)) (2 ^ 31 - 1) r))

/-- The model that aimed an attempt towards an entry no longer exists (R255). -/
def State.modelGone (s : State) (e : Nat) : State :=
  { s with downs := s.downs.map fun (d : Down) => if d.hop = e ∧ (d.stage = .armed ∨ d.stage = .onAir ∨ d.stage = .ackWait)
      then { d with model := false } else d }

/-- Update the model of entry e from an observation (R245); `fresh` asks to anchor it afresh without a new rate (R240). -/
def State.observe (s : State) (e tObs stamp : Nat) (fresh : Bool) : State :=
  let i := s.get E.PH_INTERVAL e / 512
  if s.get E.PH_INTERVAL e = 0 ∨ i = 0 ∨ tObs ≤ s.get E.PH_LAST_OBS e then s
  else
    let rate := s.getI E.PH_RATE e
    let d : Nat := stamp % i * 512 + 256
    let tw : Int := (tObs : Int) - d - (d * rate) / (2 ^ 40 : Int)
    let s := if fresh then s.obsAnchor e tw tObs stamp
      else if s.get E.PH_LAST_OBS e = 0 ∨ 2 ^ 40 ≤ tObs - s.get E.PH_LAST_OBS e then
        ((s.wrE E.PH_RATE e 0).wrE E.PH_MODE e 0).obsAnchor e tw tObs stamp
      else
        let span : Int := tw - s.get E.PH_OFFSET e
        let j0 : Int := (((stamp - stamp % i + 2 ^ 32 - s.wRef e) % 2 ^ 32 / i : Nat) : Int)
        let q : Int := ((2 ^ 32 / i : Nat) : Int)
        let j := j0 + q * roundDiv (span - j0 * (s.get E.PH_INTERVAL e : Nat)) ((s.get E.PH_INTERVAL e : Nat) * q)
        let err := tw - s.tHat e j
        let full := roundDiv (err * 2 ^ 40) span
        if s.get E.PH_MODE e = 0 then
          if span < (s.get WAKE.SPAN_RATE_SPAN * 2 ^ 24 : Nat) then s
          else ((s.setRate e (rate + full)).wrE E.PH_MODE e 1).obsAnchor e tw tObs stamp
        else if (s.uBase e tw : Int) < err.natAbs then ((s.setRate e (rate + full)).breach e).obsAnchor e tw tObs stamp
        else if (s.get WAKE.SPAN_RATE_MIN * 2 ^ 24 : Nat) ≤ span then
          (s.setRate e (rate + full / (2 ^ s.get WAKE.OBS_RATE_SHIFT : Nat))).obsAnchor e tw tObs stamp
        else s.obsAnchor e tw tObs stamp
    ((s.modelGone e).writeElig e).writeEligs (s.get E.HEDGE e)

/-- Apply an observation, or keep it until the step correction has reached the entry (R247). -/
def State.observeOr (s : State) (e tObs stamp : Nat) (fresh : Bool) : State :=
  if s.on WAKE.STATUS_FIX_ACTIVE ∧ s.get WAKE.STATUS_FIX_CURSOR ≤ e then
    { s with obsQ := s.obsQ ++ [(⟨e, s.get E.INCARNATION e, tObs, stamp, fresh⟩ : ObsWait)] }
  else s.observe e tObs stamp fresh

/-- The step correction reaches every entry below `until_`: each is corrected, and the observations that waited for it are applied
(R247). -/
def State.fixTo (s : State) (until_ : Nat) : State :=
  let cur := s.get WAKE.STATUS_FIX_CURSOR
  let at_ (e : Nat) : Bool := decide (cur ≤ e) && decide (e < until_)
  let s := s.each (s.usedEntries.filter fun e => at_ e && !s.expH (s.get E.HEDGE e) 0) fun s e => s.shiftModel e (s.get FIX.DELTA)
  let q := s.obsQ.filter fun o => at_ o.entry
  let s := { s with obsQ := s.obsQ.filter fun o => !at_ o.entry }.put WAKE.STATUS_FIX_CURSOR 0 until_
  s.each q fun s o =>
    if s.get E.INCARNATION o.entry = o.inc ∧ s.get E.STATE o.entry ≠ stFree then s.observe o.entry o.tObs o.stamp o.anchor else s

/-- While the step correction runs, a cycle takes its cursor on by as many entries as the Mesh Runtime corrects in it: a free number, since
the spec only bounds the walk's length (R247; assumption log 35). -/
def State.fixWalk (s : State) : State :=
  if !s.on WAKE.STATUS_FIX_ACTIVE then s
  else
    let (k, s) := s.draw
    s.fixTo (s.get WAKE.STATUS_FIX_CURSOR + k % (262144 - s.get WAKE.STATUS_FIX_CURSOR))

/-- NSC_CYCLE: one 750 MHz cycle (R15), in which the step correction goes on (R247). -/
def execNscCycle (s : State) : Host.Outcome State Fault Refusal := .next s.nscCycle.fixWalk

/-- PHASE_FIX_WALK_DONE: the walk reaches the end of the table: the entries from the cursor on are corrected (R247). -/
def execPhaseFixWalkDone (s : State) : Host.Outcome State Fault Refusal :=
  if !s.on WAKE.STATUS_FIX_ACTIVE then .next s
  else .next ((((s.fixTo 262144).clr WAKE.STATUS_FIX_ACTIVE).clr WAKE.STATUS_FIX_CURSOR).clr FIX.DELTA)

/-! ### Gate records (R214, R257) -/

/-- The backoff after a busy verdict, µs: u × BACKOFF_UNIT_US, u uniform below 2^BE (R214). -/
def State.backoff (s : State) (lbt : Nat) : Nat × State :=
  let be := min (s.get MAC.BACKOFF_MAX_BE) (s.get MAC.BACKOFF_MIN_BE + (lbt - 1))
  let (x, s) := s.draw
  (x % 2 ^ be * s.get MAC.BACKOFF_UNIT_US, s)

/-- A copy of a train that the gate held may still go at `bound` when coverage stays unbroken (R253, R257). -/
def State.trainHolds (s : State) (d : Down) (bound : Nat) : Bool :=
  d.aim == .train && d.prev != 0
    && decide (max bound (s.mp + usTicks (s.armLead d.chain)) + s.guardT d.hedge ≤ d.prev + usTicks (s.listenUs d.hop))

/-- The attempt is held until `bound`: the copy of a train moves, any other attempt is timed anew (R214, R257). -/
def State.heldUntil (s : State) (d : Down) (bound : Nat) (limit : Bool) : State :=
  if s.trainHolds d bound then
    let c := max bound (s.mp + usTicks (s.armLead d.chain))
    if limit && d.expiry < c then s.finishDown d 0x11 else s.setDown { d with stage := .planned, c := c, late := true }
  else if limit && d.expiry < bound then s.finishDown d 0x11
  else s.replan d bound limit

/-- What a verdict other than CLEAR does to an attempt (R214, R257). -/
def State.verdict (s : State) (d : Down) (v earliest : Nat) : State :=
  match v with
  | 1 =>
    let d := { d with lbt := d.lbt + 1 }
    if s.lbtTriesOf d.hedge d.cls ≤ d.lbt then s.finishDown d 0x07
    else if !s.on SEC.STATUS_DRBG_OK then s.finishDown d 0x14
    else
      let (us, s) := s.backoff d.lbt
      s.heldUntil d (s.mp + usTicks us) false
  | 2 | 6 => s.heldUntil d earliest (s.sleeperHop d)
  | 3 | 4 | 5 => s.heldUntil d earliest true
  | 7 => s.finishDown d 0x06
  | _ => if s.trainHolds d s.mp then s.heldUntil d s.mp false else s.again d

/-- ATTEMPT_ARM: at C − ARM_LEAD_US the attempt is armed, never on a standby (R457), on a chain that can carry it; one whose trigger found its chain not ready is timed anew (R36, R258), and
a denied grant counts as a busy verdict (R191). -/
def execAttemptArm (u : Nat) (s : State) : Host.Outcome State Fault Refusal :=
  match s.down u with
  | none => .next s
  | some d =>
    if d.stage = .armed ∧ s.on PT.STATUS_NOT_READY d.pt ∧ ¬ s.on PT.STATUS_ARMED d.pt then
      .next (if s.on PTX.DENIED d.pt then (s.withdraw d).verdict d 1 0 else (s.withdraw d).again d)
    else if d.stage ≠ .planned ∨ s.standby ∨ s.mustWait d then .next s
    else if !s.hopStands d then .next (s.setDown { d with stage := .released })
    else if s.uncovered d then .next (s.finishDown d 0x12)
    else
      let cs := s.chainsFor d
      let lead := match cs.find? (s.chainFree d) with
        | some c => s.armLead c
        | none => (cs.map s.armLead).foldl max (s.get WAKE.ARM_LEAD_US)
      if s.mp + usTicks lead < d.c then .next s
      else
        match s.secureNow d with
        | (0, d, s) => .next (s.armAttempt d)
        | (code, d, s) => .next (s.finishDown d code)

/-- GATE_RECORD_HANDLE: the oldest gate record of chain c. -/
def execGateRecordHandle (c : Nat) (s : State) : Host.Outcome State Fault Refusal :=
  match (if s.on FIFO.STATUS_FROZEN (56 + c) then none else s.gateRecs.find? (·.chain == c)) with
  | none => .next s
  | some g =>
    let s := { s with gateRecs := s.gateRecs.erase g }.hwOut (56 + c)
    match s.down g.tag with
    | none => .next s
    | some d =>
      if d.stage ≠ .armed ∨ d.chain ≠ c ∨ g.verdict = 0 then .next s
      else .next ((s.withdraw d).verdict d g.verdict g.earliest)

/-! ### Results (R177, R249, R252 to R254) -/

/-- The next attempt after one that reached no one, or NO_ACK when the retries are spent (R225). -/
def State.retry (s : State) (d : Down) : State :=
  if d.retries < s.retryOf d.hedge d.cls then s.again { d with retries := d.retries + 1 } else s.finishDown d 0x08

/-- What a frame on air counts: the attempt, its airtime and its kind. A whole train is one attempt (R225, R253). -/
def State.countAir (s : State) (d : Down) (start : Nat) : Down × State :=
  let first := d.aim != .train || d.prev == 0
  let pre := if d.pre = 0 then preStd d.mode else d.pre
  let s := if !first then s else match d.aim with
    | .aimed => s.bump WAKEH.AIM_CNT d.hedge
    | .long => s.bump WAKEH.FALLBACK_CNT d.hedge
    | .train => (s.bump WAKEH.FALLBACK_CNT d.hedge).bump WAKEH.TRAIN_CNT d.hedge
    | .plain => s
  let s := s.when d.isFlood (·.bump FWDH.FLOOD_SENT d.hedge)
  ({ d with airs := d.airs + (if first then 1 else 0), airUse := d.airUse + d.air, start := start, preUsed := pre }, s)

/-- A copy of a flood has been sent: the next Hop PAN's, or the end (R276). -/
def State.floodNext (s : State) (d : Down) : State :=
  let d := { d with pans := d.pans.drop 1 }
  if d.pans = [] then s.finishDown d 0 else s.take d

/-- A frame has been sent. -/
def State.sent (s : State) (d : Down) : State :=
  if d.isFlood then s.floodNext d
  else
    let s := s.when (d.freight == .relay) (·.bump FWDH.RELAYED d.hedge)
    let win := usTicks (d.air + turnUs d.mode + s.get MACH.ACK_WIN d.hedge)
    if d.ackReq then s.setDown { d with stage := .ackWait, ackEnd := d.start + win }
    else if d.aim = .train then s.setDown { d with stage := .ackWait, ackEnd := 0 }
    else s.finishDown d 0

/-- TX_RESULT_HANDLE: the oldest result of chain c (R177). -/
def execTxResultHandle (c : Nat) (s : State) : Host.Outcome State Fault Refusal :=
  match (if s.on FIFO.STATUS_FROZEN (52 + c) then none else s.txRes.find? (·.chain == c)) with
  | none => .next s
  | some r =>
    let s := { s with txRes := s.txRes.erase r }.hwOut (52 + c)
    match s.down r.tag with
    | none => .next (if 2 ^ 31 ≤ r.tag ∧ r.status = 0 then s.bump MACH.ACK_SENT (r.tag % 8) else s)
    | some d =>
      if d.chain ≠ c ∨ d.stage ≠ .armed then .next s
      else
        let (d, s) := if r.start = 0 then (d, s) else s.countAir d r.start
        .next (if r.status = 0 then s.sent d else s.finishDown d r.status)

/-! ### Trains and the ack window (R225, R253, R255) -/

/-- TRAIN_COPY_ARM: the next copy of a train, or its end: the window covered, or coverage broken (R253). -/
def execTrainCopyArm (u : Nat) (s : State) : Host.Outcome State Fault Refusal :=
  match s.down u with
  | none => .next s
  | some d =>
    if d.stage ≠ .ackWait ∨ d.aim ≠ .train then .next s
    else if d.hi ≤ d.c then .next (if d.ackReq then s else s.finishDown d 0)
    else if d.late ∧ d.prev + usTicks (s.listenUs d.hop) < d.c + s.guardT d.hedge then .next (s.again d)
    else
      let next := d.c + usTicks (d.air + s.get WAKEH.TRAIN_GAP_US d.hedge)
      if s.mp + usTicks (s.armLead d.chain) < next then .next s
      else
        let d := { d with prev := d.c, c := next, late := false, stage := .planned }
        .next (if s.keyCurrent d d.hop then (s.setDown d).armAttempt d else s.again d)

/-- A miss of an aimed attempt (R255); under the Hedge's THK EXPERT bit it goes to the policy engines instead (R244), in a record whose
form the spec does not state (assumption log 3). -/
def State.miss (s : State) (d : Down) : State :=
  let e := d.hop
  let h := d.hedge
  if d.aim ≠ .aimed ∨ !d.model ∨ s.get E.INCARNATION e ≠ d.hopInc then s
  else if s.expH h 0 then
    let (k, s) := s.draw
    if s.fifoRoom (progFifo h) then s.toProg h (le 64 k) else s
  else
    let n := min 255 (s.get E.PH_MISSES e + 1)
    let s := ((s.wrE E.PH_MISSES e n).bumpSat E.AIM_MISS e).bump WAKEH.MISS_CNT h
    if n = 3 then ((s.wrE E.PH_MODE e 2).event h 0x09 [(16, le 4 e), (20, le 8 (s.get E.EUI64 e))]).clr E.CHECK_DIFF e
    else s.clr E.CHECK_DIFF e

/-- ACK_WINDOW_EXPIRE: no matching ack came before the window closed; a train ends with its last copy's window (R225, R253, R255). -/
def execAckWindowExpire (u : Nat) (s : State) : Host.Outcome State Fault Refusal :=
  match s.down u with
  | none => .next s
  | some d =>
    if d.stage ≠ .ackWait ∨ !d.ackReq ∨ s.mp < d.ackEnd ∨ (d.aim = .train ∧ d.c < d.hi) then .next s
    else .next ((s.miss d).retry d)

/-- A matching ack ends a downlink: PHASE_STALE after a fallback attempt, else DONE (R224, R254, R256). -/
def State.ackHit (s : State) (d : Down) (lqi : Nat) : State :=
  let e := d.hop
  let stale := d.aim == .long || d.aim == .train
  let s := (s.hit e).bumpSat E.TX_FRAMES e
  let s := if s.expH d.hedge 0 then s.clr E.CHECK_DIFF e else s.wrE E.PH_MISSES e 0
  s.finishDown { d with lqi := lqi } (if stale then 0x10 else 0)

end Sys2Proof.Machine
end

