-- ==== Sys2Proof/Machine/Mac.lean ====
section
/-!
DEFINITION. What the MAC does with a frame a lane hands on (R218): its checks, replay (R219, R220), keys (R346, R351, R355), Enh-Acks (R221 to
R224), joining (R350 to R353), wake schedules (R240), routes (R264 to R271), forwarding (R272, R273, R277), and delivery (R440).
-/

namespace Sys2Proof.Machine

open Sys2Proof

/-! ### Reception reports (R146) -/

def repPhase (r : List Nat) : Nat := oct r 0 8
def repMode (r : List Nat) : Nat := r.getD 8 0
def repLane (r : List Nat) : Nat := r.getD 9 0
def repFlags (r : List Nat) : Nat := r.getD 10 0
def repLqi (r : List Nat) : Nat := r.getD 15 0

/-- The nominal carrier of a lane: the frequency of its branch A's DDC. -/
def State.laneFreq (s : State) (l : Nat) : Nat := s.get DDC.FREQ (s.get LANE.CFG_DDC_A l)

/-- A frame in processing: its report and fields, the PANMAP number and Hedge it is for, and the entry it is from. -/
structure Rx where
  rep : List Nat
  p : RxParsed
  pan : Nat
  h : Nat
  e : Nat
  at_ : Nat
  deriving DecidableEq, Repr

/-- Whether a frame says it is secured. -/
def RxParsed.secured (p : RxParsed) : Bool := bit (p.head.headD 0) 3

/-! ### Lookup (R62, R200) -/

/-- The enabled PANMAP entry with a PAN identifier. -/
def State.panmapOf (s : State) (pan : Nat) : Option Nat :=
  (List.range 32).find? fun i => s.on PANMAP.CFG_EN i && s.get PANMAP.CFG_PAN_ID i == pan

/-- Whether a PAN identifier is a Hop PAN's. -/
def State.hopPan (s : State) (pan : Nat) : Bool :=
  match s.panmapOf pan with
  | some i => s.on PANMAP.CFG_HOP i
  | none => false

/-- Look an address up in Hedge h's Thicket. -/
def State.findAddr (s : State) (h : Nat) (a : Addr) : Option Nat × State :=
  match a with
  | .none => (none, s)
  | .short k => s.lookup true h k
  | .ext k => s.lookup false h k

/-! ### Replay (R219, R220) -/

/-- A verdict; `fresh` carries the new RX_CNT and REPLAY_MAP. -/
inductive Verdict where
  | fresh (cnt map : Nat)
  | again
  | stale
  deriving DecidableEq, Repr

/-- Judge counter c against RX_CNT and REPLAY_MAP (R219). -/
def judge (cnt map c : Nat) : Verdict :=
  if cnt < c then
    let d := c - cnt
    .fresh c (Nat.lor (if 64 ≤ d then 0 else map * 2 ^ d % 2 ^ 64) 1)
  else if cnt - c < 64 then
    if bit map (cnt - c) then .again else .fresh cnt (Nat.lor map (2 ^ (cnt - c)))
  else .stale

/-- Write what a fresh counter leaves; COUNTER_WARN once under a key generation (R219). -/
def State.keepCounter (s : State) (e cnt map : Nat) : State :=
  let s := (s.wrE E.RX_CNT e cnt).wrE E.REPLAY_MAP e map
  if warnAt ≤ cnt ∧ ¬ s.on NODE.RXWARN e then
    (s.counterWarn (s.get E.HEDGE e) e (s.get E.EUI64 e) 1 cnt).set NODE.RXWARN e
  else s

/-- A frame with counter c is judged new: what that leaves, and the counter record for the partner of a pair (R219, R465). -/
def State.recordCounter (s : State) (e c cnt map : Nat) : State :=
  (s.keepCounter e cnt map).twinSend (.record (s.get E.HEDGE e) e c)

/-! ### Keys on receive (R346) -/

/-- What a key index selects: the link key in force, the next link key, or a group key. -/
inductive KeyKind where
  | link | next | group
  deriving DecidableEq, Repr

/-- The key that a key index selects for a frame from entry e; none when it selects none or it cannot be derived. -/
def State.rxKey (s : State) (e ix : Nat) : Option (List Nat × KeyKind) × State :=
  let h := s.get E.HEDGE e
  let g := s.get E.KEY_GEN e
  let gg := s.get SECH.GROUP_GEN h
  let prev := s.get GRPX.PREV h
  let pick (r : Nat × List Nat × State) (k : KeyKind) : Option (List Nat × KeyKind) × State :=
    if r.1 = 0 then (some (r.2.1, k), r.2.2) else (none, r.2.2)
  if ix < 0xF0 then
    if g ≠ 0 ∧ ix = keyIndex g then pick (s.linkKey e g) .link
    else if g ≠ 0 ∧ ix = keyIndex (nextGen g) then pick (s.linkKey e (nextGen g)) .next
    else (none, s)
  else if ix = groupIndex gg then pick (s.groupKey h gg) .group
  else if prev ≠ 0 ∧ ix = groupIndex prev then pick (s.groupKey h prev) .group
  else (none, s)

/-- Check and open a secured frame from entry e (step 8); the answer is its payload and the kind of its key. -/
def State.openFrame (s : State) (e : Nat) (p : RxParsed) : Option (List Nat × KeyKind) × State :=
  match s.rxKey e p.f.keyIx with
  | (none, s) => (none, s)
  | (some (key, kind), s) =>
    let s := s.bump SEC.CCM_CNT
    match Config.ccmOpen p.f.level key (nonceOf (s.get E.EUI64 e) p.f.counter p.f.level) p.head p.body with
    | none => (none, s)
    | some m => (some (fix (p.body.length - micLen p.f.level) m, kind), s)

/-- Whether the security header breaks step 6 of R218 (R227). -/
def badControl (p : RxParsed) : Bool :=
  p.f.level == 0 || p.f.level == 4 || bits p.control 3 2 != 1 || bits p.control 5 3 != 0 || p.f.keyIx == 0

/-! ### What an accepted frame writes (R65, R73, R135, R291) -/

/-- FREQ_OFS, RSSI and LQI (R135). -/
def State.radioUpdate (s : State) (e : Nat) (r : List Nat) : State :=
  let rssi := max (toInt 8 (r.getD 13 0)) (toInt 8 (r.getD 14 0))
  let s := (s.wrE E.RSSI e (ofInt 8 rssi)).wrE E.LQI e (repLqi r)
  if bit (repFlags r) 7 then s
  else
    let est := toInt 32 (oct r 16 4)
    let old := s.getI E.FREQ_OFS e
    let age := (s.mpSec + 2 ^ 32 - s.get E.FREQ_OFS_AT e) % 2 ^ 32
    let new := if s.get DEMOD.FREQ_STALE ≤ age ∨ 16 * s.get DEMOD.FREQ_JUMP < (est - old).natAbs then est
      else old + (est - old) / (2 ^ s.get DEMOD.FREQ_AVG_SHIFT : Nat)
    (s.wrE E.FREQ_OFS e (ofInt 32 new)).wrE E.FREQ_OFS_AT e s.mpSec

/-- The Mesh Runtime notes where a node was heard: PHY_MODE, PREF_LANE, and CHANNEL when the carrier is one of the plan's. -/
def State.heardOn (s : State) (h e : Nat) (r : List Nat) : State :=
  let s := (s.wrE E.PHY_MODE e (repMode r)).wrE E.PREF_LANE e (repLane r)
  let f := s.laneFreq (repLane r)
  match (List.range (s.get CHPLAN.COUNT h)).find? fun c => s.on CHPLAN.CTL_EN h && s.planFreq h c == f with
  | some c => s.wrE E.CHANNEL e c
  | none => s

/-- A node is heard in the round of a sweep that its frame's reference instant lies in (R291). -/
def State.sweepHeard (s : State) (h e : Nat) (r : List Nat) : State :=
  let k := (repPhase r / 2 ^ 24 + 2 ^ 32 - s.get SWEEP.T0 h) % 2 ^ 32 / max 1 (s.get SWEEP.ROUND_S h)
  if s.on SWEEP.RUN h ∧ k < s.get SWEEP.ROUNDS h then
    let o (i : Nat) := 64 * e + 0x10 + i
    let map := Nat.lor (s.get E.RUNTIME_PRIVATE (o 0) + 256 * s.get E.RUNTIME_PRIVATE (o 1)) (2 ^ k)
    ((s.put E.RUNTIME_PRIVATE (o 0) map).put E.RUNTIME_PRIVATE (o 1) (map / 256)).put E.RUNTIME_PRIVATE (o 3)
      (max (repLqi r) (s.get E.RUNTIME_PRIVATE (o 3)))
  else s

/-- A LOST entry is found again (R65, R438). -/
def State.foundAgain (s : State) (e : Nat) : State :=
  if s.get E.STATE e = stLost then
    (s.setNodeState e (if s.on E.FLAGS_SLEEPER e then stSleepy else stActive)).event (s.get E.HEDGE e) 0x04
      [(16, le 4 e), (20, le 8 (s.get E.EUI64 e))]
  else s

/-- A join completes, before step 9 judges the frame (R65, R351, R438). -/
def State.joinComplete (s : State) (e : Nat) : State :=
  let h := s.get E.HEDGE e
  let s := ((s.wrE E.RX_CNT e 0).wrE E.REPLAY_MAP e 0).wrE E.TX_CNT e 0
  let s := (s.wrE E.SEC_LEVEL e (s.get SECH.CFG_DEF_SEC_LEVEL h)).wrE E.JOINED_AT e s.mpSec
  let s := ((s.clr NODE.TXWARN e).clr NODE.RXWARN e).bump SECH.JOIN_OK h
  let s := s.setNodeState e (if s.on E.FLAGS_SLEEPER e then stSleepy else stActive)
  s.event h 0x01 [(16, le 4 e), (20, le 8 (s.get E.EUI64 e)), (28, le 2 (s.get E.SHORT_ADDR e)), (30, le 2 (s.get E.KEY_GEN e))]

/-- What step 8 passed changes before step 9: a completed join, or the commit of a rekey (R351, R355); nothing on a standby (R465). -/
def State.keyAccepted (s : State) (e : Nat) (k : KeyKind) : State :=
  if s.standby then s else
  match k with
  | .link => if s.get E.STATE e = stJoining then s.joinComplete e else s
  | .next => s.commitRekey e
  | .group => s

/-! ### Enh-Acks sent (R221 to R223) -/

/-- The first sample of the answer to a frame: TURN after its last sample (R221); from the reference instant to that sample passes what
the frame's airtime leaves of it. -/
def ackStart (r : List Nat) : Nat :=
  let m := repMode r
  let us := airtime m (bit (repFlags r) 5) (bit (repFlags r) 6) 0 (oct r 22 2)
  repPhase r + usTicks us - refTicks m 0 + usTicks (turnUs m)

/-- The chain bound to the aerial port of branch A. -/
def State.ackChain (s : State) (r : List Nat) : Option Nat :=
  [0, 1, 2, 3].find? fun c => s.on TXC.CTL_EN c && s.get TXC.CTL_PORT c == r.getD 26 0 % 4

/-- The frame of an Enh-Ack to entry e without its security (R226). -/
def State.ackFrame (s : State) (e : Nat) (seq : Option Nat) (counter : Nat) : Frame :=
  ⟨2, s.pendBit (s.get E.HEDGE e) e, false, true, seq, false, none, .ext (s.get E.EUI64 e), .none, s.get E.SEC_LEVEL e, counter,
    s.get E.KEY_INDEX e, [], []⟩

/-- Whether a chain cannot carry an Enh-Ack over [c, fin): it is in TX, its ack trigger is taken, or it has a request armed that would
overlap the ack, or start within 100 µs of its end (R221). -/
def State.ackBlocked (s : State) (ch c fin : Nat) : Bool :=
  s.inTx ch || s.on PT.STATUS_ARMED (12 + ch) || (s.airSpans ch).any (spansMeet (c, fin + usTicks 100 + 1))

/-- Put an Enh-Ack of some PSDU octets into its chain's FIFO, ahead of every request that starts later, and arm its trigger (R221). -/
def State.ackPlace (s : State) (e ch mode freq : Nat) (psdu : List Nat) (c : Nat) : State :=
  let h := s.get E.HEDGE e
  let r : TxReq := ⟨ch, mode, 8 + 2, psdu.length, freq, s.get E.TX_POWER e, s.subbandFor freq mode, some e, 0, 2 ^ 31 + h,
    s.get E.INCARNATION e, h, false, true, psdu⟩
  let s := s.putReq r c
  let n := 12 + ch
  let s := (((s.put PT.CTL_EN n 1).put PT.CTL_ACTION n 1).put PT.CTL_TARGET n ch).put PT.CTL_OWNER n 0xF
  ((s.ptClear n).clr PT.PERIOD n).put PT.CMP n c |>.arm n

/-- Answer a frame from entry e with an Enh-Ack, or count that none is sent (R221, R222, R348); a standby sends none (R465). -/
def State.sendAck (s : State) (e : Nat) (r : List Nat) (seq : Option Nat) : State :=
  let h := s.get E.HEDGE e
  let skip (s : State) : State := s.bump MACH.ACK_SKIP h
  let mode := ackMode (repMode r)
  let len := (s.ackFrame e seq 0).len (fcsLen mode)
  let c := ackStart r
  if s.standby then s else
  match s.ackChain r with
  | none => skip s
  | some ch =>
    if s.ackBlocked ch c (c + usTicks (airT mode 0 len)) then skip s
    else
      let place (s : State) (counter : Nat) (key : List Nat) : State :=
        let psdu := withFcs mode ((s.ackFrame e seq counter).octets key (s.get MAC.AIR_EUI64))
        let s := s.ackPlace e ch mode (s.laneFreq (repLane r)) psdu c
        if s.on PT.STATUS_ARMED (12 + ch) then s else s.ackDrop (12 + ch)
      if s.get E.SEC_LEVEL e = 0 then place s 0 []
      else
        match s.linkKey e (s.get E.KEY_GEN e) with
        | (0, key, s) =>
          match s.takeTx e with
          | (some k, s) => place (s.bump SEC.CCM_CNT) k key
          | (none, s) => skip s
        | (_, _, s) => skip s

/-! ### Enh-Acks received (R224) -/

/-- Whether an acknowledgement answers downlink d's carrier, node and sequence number. -/
def State.ackFits (s : State) (d : Down) (r : List Nat) (f : Frame) : Bool :=
  let e := d.hop
  d.ackReq && d.start != 0 && !d.isFlood && s.laneFreq (repLane r) == d.freq && s.get E.INCARNATION e == d.hopInc
    && (match f.src with | .none => true | .short a => a == s.get E.SHORT_ADDR e | .ext a => a == s.get E.EUI64 e)
    && f.seq == some d.seqNo

/-- The instant at which the last sample of downlink d's last attempt left the connector. -/
def Down.lastSample (d : Down) : Nat := d.start + usTicks (airT d.mode d.preUsed d.psduLen)

/-- The acknowledgement's window (R224). -/
def State.ackWindow (s : State) (d : Down) : Nat × Nat :=
  let t := d.lastSample + usTicks (turnUs d.mode)
  (t - usTicks 200, t + usTicks (s.get MACH.ACK_WIN d.hedge))

/-- The security part of a match: an acknowledgement of a secured downlink passes steps 7 to 9 of R218 with verdict new, under the node's
key. -/
def State.ackSecure (s : State) (d : Down) (p : RxParsed) : Bool × State :=
  let level := s.levelOf d d.hop
  if d.tag = none then (true, s)
  else if !p.secured || badControl p || p.f.level < level || p.f.counter == 2 ^ 32 - 1 || 0xF0 ≤ p.f.keyIx then (false, s)
  else
    match s.openFrame d.hop p with
    | (none, s) => (false, s)
    | (some (_, k), s) =>
      let s := s.keyAccepted d.hop k
      match judge (s.get E.RX_CNT d.hop) (s.get E.REPLAY_MAP d.hop) p.f.counter with
      | .fresh cnt map => (true, s.recordCounter d.hop p.f.counter cnt map)
      | _ => (false, s)

/-- A matching acknowledgement ends downlink d, wherever its next attempt stands (R224, R225). -/
def State.ackEnds (s : State) (d : Down) (r : List Nat) (secured : Bool) : State :=
  let s := if d.stage = .armed then s.withdraw d else s
  let s := if secured then (s.radioUpdate d.hop r).foundAgain d.hop else s
  s.ackHit d (repLqi r)

/-- Step 2: an acknowledgement; one that comes after the window is late, also when its downlink has ended (R224). -/
def State.ackRx (s : State) (r : List Nat) (p : RxParsed) : State :=
  let t := repPhase r
  let ds := s.downs.filter fun d => s.ackFits d r p.f
  match ds.find? fun d => decide ((s.ackWindow d).1 ≤ t) && decide (t < (s.ackWindow d).2) with
  | some d =>
    match s.ackSecure d p with
    | (true, s) => s.ackEnds d r p.secured
    | (false, s) => s.bump MAC.STRAY_ACK
  | none =>
    match (ds ++ s.pastAcks.filter fun d => s.ackFits d r p.f).find? fun d => decide ((s.ackWindow d).2 ≤ t) with
    | some d => s.bump MACH.LATE_ACK d.hedge
    | none => s.bump MAC.STRAY_ACK

/-! ### Joining (R350 to R353) -/

/-- Whether a frame is an unsecured Join Request: a MAC command from an extended address to a Hop PAN. -/
def State.isJoin (s : State) (pan : Nat) (p : RxParsed) : Bool :=
  p.f.type == 3 && !p.secured && p.body.headD 0 == 0xA1 && s.on PANMAP.CFG_HOP pan &&
    (match p.f.src with | .ext _ => true | _ => false)

/-- Whether a Join Request's octets are as R350 lays them out and its AUTH_N holds. -/
def State.joinAuthentic (s : State) (h eui : Nat) (l : List Nat) : Bool × List Nat × State :=
  match s.installKey h eui with
  | (0, key, s) =>
    (l.length == 84 && l.getD 1 0 == 1 && l.getD 2 0 < 4 && l.getD 3 0 == 0 &&
      (l.drop 76 == (fix 32 (Config.hmac256 key (l.take 76 ++ be 8 eui))).take 8), key, s)
  | (_, _, s) => (false, [], s)

/-- The parameter block of an insertion by a Join Request. -/
def joinBlock (eui flags : Nat) : NodeBlock := ⟨eui, 0xFFFE, stJoining, false, flags, none, 0, false, 0, 0, false⟩

/-- Answer entry e's Join Request. -/
def State.joinAnswer (s : State) (e : Nat) (install l : List Nat) : State :=
  s.joinRespond e install ((l.drop 4).take 8) ((l.drop 12).take 64) (l.drop 76)

/-- A new JOINING entry notes where it was heard and is answered (R351). -/
def State.joinedNew (s : State) (h e : Nat) (r install l : List Nat) : State :=
  (if s.expH h 0 then s else s.heardOn h e r).joinAnswer e install l

/-- A Join Request from an EUI-64 without an entry: authenticated, limited, inserted (R65, R68, R69, R350). -/
def State.joinNew (s : State) (h eui : Nat) (r l : List Nat) : State :=
  let (ok, install, s) := s.joinAuthentic h eui l
  if !ok then s.bump SECH.JOIN_AUTH_FAIL h
  else
    match s.learn (repLane r) h with
    | (false, s) =>
      if s.on THK_HEDGE.CFG_LEARN_ACT h then
        s.rxIn ⟨h, s.mp, 0x20, 0xFFFF, 3 * 2 ^ 25, eui, overlay r [(10, [Nat.lor (repFlags r) 16])], l⟩
      else s
    | (true, s) =>
      match s.insertNode h (joinBlock eui (l.getD 2 0)) with
      | (.done e, s) => s.joinedNew h e r install l
      | (.wait ev, s) => { s with insWait := s.insWait ++ [(⟨h, joinBlock eui (l.getD 2 0), none, none, some (repLane r, r, l), ev⟩ : InsWait)] }
      | (_, s) => s

/-- A Join Request from an entry that is still JOINING: a fresh response, at most one a second (R351); none from a standby. -/
def State.joinAgain (s : State) (e : Nat) (r l : List Nat) : State :=
  if s.standby then s else
  let h := s.get E.HEDGE e
  let (ok, install, s) := s.joinAuthentic h (s.get E.EUI64 e) l
  if !ok then s.bump SECH.JOIN_AUTH_FAIL h
  else if s.get NODE.JOIN_AT e ≠ 0 ∧ s.mp < s.get NODE.JOIN_AT e + 2 ^ 24 then s
  else (if s.expH h 0 then s else s.heardOn h e r).joinAnswer e install l

/-- A Join Request from a node whose entry exists (R353): REJOIN_SEEN at most once a minute. -/
def State.rejoin (s : State) (e : Nat) : State :=
  let h := s.get E.HEDGE e
  let s := s.bump SECH.REJOIN_BLOCKED h
  let age := (s.mpSec + 2 ^ 32 - s.get NODE.REJOIN_AT e) % 2 ^ 32
  if s.on NODE.REJOIN_ON e ∧ age < 60 then s
  else ((s.set NODE.REJOIN_ON e).put NODE.REJOIN_AT e s.mpSec).event h 0x07 [(16, le 4 e), (20, le 8 (s.get E.EUI64 e))]

/-! ### Wake Schedule commands (R239, R240) -/

/-- A Wake Schedule command from entry e, passed step 9 with verdict new. -/
def State.wakeSchedule (s : State) (h e phase : Nat) (secured : Bool) (l : List Nat) : State :=
  let n := l.getD 2 0
  let listen := oct l 4 2
  if !secured || l.length != 10 || l.getD 1 0 != 1 || !(n == 0 || (6 ≤ n && n ≤ 22)) || l.getD 3 0 != 0 || listen < 100 then
    s.bump WAKEH.SCHED_BAD h
  else
    let s := s.setFlags e ((if n = 0 then 0 else 2) + s.get E.FLAGS_RELAY e)
    if s.expH h 0 then s
    else
      let i := if n = 0 then 0 else 2 ^ (n + 9)
      let changed := s.get E.PH_INTERVAL e != i
      let s := s.wrE E.PH_INTERVAL e i
      let s := (s.put E.RUNTIME_PRIVATE (64 * e) listen).put E.RUNTIME_PRIVATE (64 * e + 1) (listen / 256)
      let s := if changed then s.modelGone e else s
      let s := if n = 0 then s else s.observeOr e phase (oct l 6 4) changed
      s.writeEligs h

/-! ### Routes (R264 to R271) -/

/-- The Hop header's fields (R228). -/
def hopTtl (l : List Nat) : Nat := oct l 0 2 % 64
def hopGen (l : List Nat) : Nat := bits (oct l 0 2) 6 3
def hopClass (l : List Nat) : Nat := bits (oct l 0 2) 9 2
def hopFlood (l : List Nat) : Bool := bit (oct l 0 2) 11
def hopOrigin (l : List Nat) : Nat := oct l 2 2
def hopSeq (l : List Nat) : Nat := oct l 4 2
def hopStamp (l : List Nat) : Nat := oct l 6 4

/-- What a frame with a Hop header says of its origin: relayed or not, the origin's entry if it was found, the hop count, and whether its
TTL is bad; the hop count of its originator is judged in a unicast frame only (R267, R268; assumption log 65). -/
structure Origin where
  relayed : Bool
  o : Option Nat
  hops : Nat
  ttlBad : Bool
  deriving DecidableEq, Repr

/-- Look at the origin of a frame from entry e. -/
def State.originOf (s : State) (h e : Nat) (hh : List Nat) : Origin × State :=
  let init := s.get FWDH.TTL_TTL_INIT h
  let ttl := hopTtl hh
  let relayed := hopOrigin hh != s.get E.SHORT_ADDR e
  let (o, s) := if relayed then s.findAddr h (.short (hopOrigin hh)) else (none, s)
  let o := o.filter fun x => s.live x || s.get E.STATE x == stLost
  let bad := ttl == 0 || init < ttl || (!hopFlood hh && !relayed && ttl != init)
  (⟨relayed, o, init + 1 - ttl, bad⟩, s)

/-- How a candidate compares with the route of entry x (R269): 0 ignored, 1 refresh, 2 route change. -/
def State.routeKind (s : State) (h x next : Nat) (direct : Bool) (metric : Nat) : Nat :=
  if s.routeUsable x && s.get E.NEXT_HOP x == next && s.on E.NH_DIRECT x == direct then 1
  else if !s.routeUsable x || metric + s.get FWDH.ROUTE_ROUTE_HYST h < s.get E.METRIC x then 2
  else
    let age := (s.mpSec + 2 ^ 32 - s.get E.LEARNED_AT x) % 2 ^ 32
    if s.get FWDH.ROUTE_STALE h ≤ age ∧ age < 2 ^ 31 then 2 else 0

/-- The fields a refresh writes. -/
def State.routeRefresh (s : State) (x hops lane metric : Nat) : State :=
  ((s.wrE E.METRIC x metric).wrE E.HOP_COUNT x hops).wrE E.LEARN_LANE x lane |>.wrE E.LEARNED_AT x s.mpSec

/-- Offer a candidate route to entry x (R269, R275); none when the frame must be dropped, because a route change is excess under LEARN_ACT
0 (R69). -/
def State.offerRoute (s : State) (h lane x next : Nat) (direct : Bool) (hops metric : Nat) : Option State :=
  match s.routeKind h x next direct metric with
  | 0 => some s
  | 1 => some (s.routeRefresh x hops lane metric)
  | _ =>
    match s.learn lane h with
    | (true, s) =>
      let s := ((s.wrE E.NEXT_HOP x next).wrE E.NH_DIRECT x (if direct then 1 else 0)).wrE E.NH_VALID x 1
      let s := (s.wrE E.NH_INCARNATION x (s.get E.INCARNATION next)).routeRefresh x hops lane metric
      some (((s.put E.RUNTIME_PRIVATE (64 * x + 2) 0).bump FWDH.ROUTE_CHANGE h).writeElig x)
    | (false, s) => if s.on THK_HEDGE.CFG_LEARN_ACT h then some ((s.wrE E.NH_VALID x 0).writeElig x) else none

/-- Learn the routes a data frame with a Hop header offers (R268, R270). -/
def State.learnRoutes (s : State) (h e : Nat) (r hh : List Nat) (g : Origin) : Option State :=
  let link := 256 - repLqi r
  match s.offerRoute h (repLane r) e e true 1 link with
  | none => none
  | some s =>
    match g.o with
    | some o =>
      if !hopFlood hh && g.relayed && s.on E.FLAGS_RELAY e then
        s.offerRoute h (repLane r) o e false g.hops (min 0xFFFF (link + (g.hops - 1) * s.get FWDH.ROUTE_HOP_COST h))
      else some s
    | none => some s

/-! ### Delivery, relaying and floods (R266, R271 to R273, R277, R440) -/

/-- FLAGS of the RX entries about the frame's security. -/
def rxSecFlags (secured : Bool) (group : Bool) : Nat := (if secured then 0 else 0x20) + if group then 0x40 else 0

/-- META of the RX entries of a data frame. -/
def rxMeta (e : Nat) (hh : List Nat) (relayed : Bool) : Nat :=
  e + hopGen hh * 2 ^ 18 + hopClass hh * 2 ^ 21 + (if hopFlood hh then 2 ^ 23 else 0) + (if relayed then 2 ^ 24 else 0) + 2 ^ 25

/-- What a data frame on a Hop PAN would be delivered as. -/
def State.rxOf (s : State) (x : Rx) (g : Origin) (flags final : Nat) (payload : List Nat) : RxFrame :=
  let e := g.o.getD x.e
  ⟨x.h, s.mp, flags + (if g.relayed && g.o.isNone then 8 else 0), final, rxMeta e x.p.f.hop g.relayed, s.get E.EUI64 e, x.rep, payload⟩

/-- A campaign's report from entry e (R285, R286): octet 4 of RUNTIME_PRIVATE holds target, complete and reported. -/
def State.reportRx (s : State) (h e : Nat) (l : List Nat) : State :=
  let st := s.get CAMP.STATUS_STATE h
  let p := s.get E.RUNTIME_PRIVATE (64 * e + 4)
  if s.standby ∨ ¬ (st = 3 ∨ (st = 6 ∧ s.get CAMPX.RESUME h = 3)) ∨ l.headD 0 ≠ 0x33 ∨ l.length < 71 ∨ oct l 1 2 ≠ s.get CAMPX.NUM h % 2 ^ 16 ∨ p % 2 = 0 then s
  else
    let s := { s with missing := s.missing.filter fun m => !(m.1 == h && m.2.1 == e) }
    if oct l 3 2 = 0 then
      (s.put E.RUNTIME_PRIVATE (64 * e + 4) (Nat.lor p 6)).when (!bit p 1) (·.bump CAMP.COMPLETE h)
    else
      let first := oct l 5 2
      let lost := (List.range 512).filter fun i => bit (l.getD (7 + i / 8) 0) (i % 8) && first + i < s.get CAMPX.BCOUNT h
      let s := { s with missing := s.missing ++ lost.map fun i => (h, e, first + i) }
      (s.put E.RUNTIME_PRIVATE (64 * e + 4) (Nat.lor (p - if bit p 1 then 2 else 0) 4)).when (bit p 1) (·.drop CAMP.COMPLETE h)

/-- Take a frame to relay, or deliver it with RELAY_FAILED (R273). A frame its queue does not take is handled as one not taken. A standby
leaves the frame to its partner (R457). -/
def State.relayRx (s : State) (x : Rx) (f : RxFrame) (final : Nat) (payload : List Nat) : State :=
  let hh := x.p.f.hop
  let fail (s : State) : State := (s.bump FWDH.RELAY_NOROUTE x.h).hopDeliver (hopGen hh) { f with flags := f.flags + 16 }
  if s.standby then s
  else if !s.on FWDH.CFG_RELAY_EN x.h || hopTtl hh < 2 then fail s
  else
    match s.findAddr x.h (.short final) with
    | (none, s) => fail s
    | (some n, s) =>
      let d := s.newDown x.h n (hopClass hh) .relay .link payload
      let d := { d with ackReq := true, mode := s.get E.PHY_MODE n, power := s.get E.TX_POWER n, autoMode := true, autoPower := true,
                        ttl := hopTtl hh - 1, origin := hopOrigin hh, floodSeq := hopSeq hh, gen := hopGen hh, final := final,
                        expiry := s.mp + s.get FWDH.FWD_LIFETIME x.h * 2 ^ 24 / 1000, rx := some f }
      let d := { d with psduLen := s.downLen d n x.pan }
      match s.takeIn d with
      | (none, s) => s
      | (some _, s) => fail s

/-- A new flood is flooded again after a random delay (R277). -/
def State.refloodRx (s : State) (x : Rx) (final : Nat) (payload : List Nat) : State :=
  let h := x.h
  let hh := x.p.f.hop
  if s.standby || !s.on FWDH.CFG_REFLOOD_EN h || hopTtl hh < 2 || !s.on SEC.STATUS_DRBG_OK then s
  else
    let (k, s) := s.draw
    let due := s.mp + usTicks (k % max 1 (s.get FWDH.FLOOD_JITTER_US h))
    let d := s.newDown h (floodQ h (hopClass hh)) (hopClass hh) .reflood .group payload
    let d := { d with uid := s.get DOWNX.NEXT, mode := s.get FWDH.FLOOD_FLOOD_MODE h, ttl := hopTtl hh - 1, origin := hopOrigin hh,
                      floodSeq := hopSeq hh, gen := hopGen hh, final := final, bound := due }
    ({ s with reflQ := s.reflQ ++ [d] }).bump DOWNX.NEXT

/-- REFLOOD_SEND: the delay of flood u has passed, so it joins its Hedge's flood queue (R276, R277). -/
def execRefloodSend (u : Nat) (s : State) : Host.Outcome State Fault Refusal :=
  match s.reflQ.find? (·.uid == u) with
  | none => .next s
  | some d =>
    if s.standby ∨ s.mp < d.bound then .next s
    else
      let s := { s with reflQ := s.reflQ.erase d }
      let pan := (s.panOf d.hedge).getD 0
      .next (s.takeIn { d with psduLen := s.downLen d 0 pan }).2

/-- Step 12 on a Hop PAN (R266, R272); a unicast frame with a bad TTL is delivered, not relayed (R267). -/
def State.step12 (s : State) (x : Rx) (g : Origin) (sf : Nat) (clear : List Nat) : State :=
  let h := x.h
  let hh := x.p.f.hop
  let final := oct clear 0 2
  let payload := clear.drop 2
  let own := s.get PANMAP.OWN_SHORT x.pan
  if clear.length < 2 ∨ final = 0xFFFE then
    let s := s.bump FWDH.PREFIX_BAD h
    s.hopDeliver (hopGen hh) (s.rxOf x g (sf + 4) (if clear.length < 2 then 0xFFFE else final) (if clear.length < 2 then clear else payload))
  else if !hopFlood hh then
    let f := s.rxOf x g sf final payload
    if g.ttlBad ∧ 2 ≤ hopTtl hh ∧ final ≠ own ∧ final ≠ 0xFFFF then s.hopDeliver (hopGen hh) f
    else if final = own ∨ final = 0xFFFF then (s.reportRx h (g.o.getD x.e) payload).hopDeliver (hopGen hh) f
    else s.relayRx x f final payload
  else if hopOrigin hh = 0xFFFE then s.bump FWDH.NOORIGIN h
  else if s.seenHas h (hopOrigin hh) (hopSeq hh) then s.bump FWDH.SEEN_DROP h
  else
    let s := s.seenAdd h (hopOrigin hh) (hopSeq hh)
    let s := if final = own ∨ final = 0xFFFF then s.hopDeliver (hopGen hh) (s.rxOf x g sf final payload) else s
    s.refloodRx x final payload

/-! ### The twelve steps (R218) -/

/-- Steps 10 to 12 for a frame with verdict new; `s0` is the state in which the entry is as it was, to which a frame dropped by R69
returns. A standby writes only what R465 names. -/
def State.accept (s0 s : State) (x : Rx) (secured : Bool) (kind : KeyKind) (clear : List Nat) : State :=
  let h := x.h
  let e := x.e
  let f := x.p.f
  let hop := f.type == 1 && s.on PANMAP.CFG_HOP x.pan
  let hh := f.hop
  let final := oct clear 0 2
  let bad := clear.length < 2 ∨ final = 0xFFFE
  let (g, s) := if hop then s.originOf h e hh else (⟨false, none, 1, false⟩, s)
  let act := !s.standby
  let learned := if act && hop && secured && !bad && !g.ttlBad && !s.expH h 0 then s.learnRoutes h e x.rep hh g else some s
  match learned with
  | none => (s0.bump LEARN_LANE.DROP_CNT (repLane x.rep)).bump THK_HEDGE.LEARN_DROP h
  | some s =>
    let s := s.bumpSat E.RX_FRAMES e
    let s := s.clr E.CHECK_DIFF e
    let s := s.when (secured && kind != .group) (·.hit e)
    let s := s.when secured fun s => (s.radioUpdate e x.rep).when act (·.foundAgain e)
    let s := s.when (act && secured && !s.expH h 0) (·.heardOn h e x.rep)
    let s := s.when (act && hop && !g.relayed) (·.wrE E.PROTO_GEN e (hopGen hh))
    let s := s.when act (·.sweepHeard h (if g.relayed then g.o.getD e else e) x.rep)
    let s := s.when (hop && g.ttlBad) (·.bump FWDH.TTL_BAD h)
    let s := s.when (hop && g.relayed && !s.on E.FLAGS_RELAY e) (·.bump FWDH.NOT_RELAY h)
    let s := if act && hop && secured && !bad && !s.expH h 0 then s.observeOr e (repPhase x.rep) (hopStamp hh) false else s
    let s := if act && f.type == 3 && s.on PANMAP.CFG_HOP x.pan && clear.headD 0 == 0xA5 then s.wakeSchedule h e (repPhase x.rep) secured clear
      else s
    let s := if f.ackReq then s.sendAck e x.rep f.seq else s
    let sf := rxSecFlags secured (secured && kind == .group)
    if f.type = 3 then s
    else if hop then s.step12 x g sf clear
    else s.rxIn ⟨h, s.mp, sf, 0xFFFF, e + 2 ^ 25, s.get E.EUI64 e, x.rep, clear⟩

/-- Step 9 and what follows. -/
def State.macReplay (s0 s : State) (x : Rx) (secured : Bool) (kind : KeyKind) (clear : List Nat) : State :=
  let e := x.e
  let f := x.p.f
  let v := if secured then judge (s.get E.RX_CNT e) (s.get E.REPLAY_MAP e) f.counter
    else if s.on E.NBR_SEQ_VALID e ∧ f.seq = some (s.get E.NBR_SEQ e) then .again else .fresh 0 0
  match v with
  | .stale => (s.when (!s.standby) fun s => (s.bumpSat E.REPLAY_REJ e).clr E.CHECK_DIFF e).bump MACH.REPLAY x.h
  | .again =>
    let s := s.bump MACH.DUP x.h
    if f.ackReq then s.sendAck e x.rep f.seq else s
  | .fresh cnt map =>
    let s := if secured then s.recordCounter e f.counter cnt map else (s.wrE E.NBR_SEQ e (f.seq.getD 0)).wrE E.NBR_SEQ_VALID e 1
    s0.accept s x secured kind clear

/-- Payload information elements in front of a payload are skipped (R226). -/
def clearOf (p : RxParsed) (m : List Nat) : Option (List Nat) := if p.payIe then skipPayloadIe m.length m else some m

/-- Whether the check of a frame ended with KEY_RETIRED_DURING (R357 to R359): the master of its key was retired after the frame left its
lane, and the security engine had taken the check before (a free value: assumption log 161). -/
def State.retiredDuring (s : State) (x : Rx) : Bool × State :=
  if s.retiredSince x.at_ 7 (s.masterOf (if x.p.f.keyIx < 0xF0 then 0 else 2) x.h) then
    let (k, s) := s.draw
    (k % 2 == 1, s)
  else (false, s)

/-- Steps 6 to 8 for a frame whose source is entry x.e. -/
def State.macEntry (s : State) (x : Rx) : State :=
  let h := x.h
  let e := x.e
  let p := x.p
  let level := s.get E.SEC_LEVEL e
  let gen := hopGen p.f.hop
  let base := s.get FWDH.GEN_BASE h
  if s.isJoin x.pan p then
    if s.get E.STATE e = stJoining then s.joinAgain e x.rep p.body else s.rejoin e
  else if (!p.secured && (level != 0 || s.get E.STATE e == stJoining)) || (p.secured && (badControl p || p.f.level < level)) then
    s.bump MACH.SEC_DROP h
  else if p.f.hop ≠ [] ∧ gen ≠ base ∧ gen ≠ (base + 1) % 8 then s.bump FWDH.GEN_DROP h
  else if p.secured ∧ p.f.counter = 2 ^ 32 - 1 then s.bump MACH.SEC_DROP h
  else if !p.secured ∧ p.f.seq = none then s.bump MACH.SEC_DROP h
  else if !p.secured then
    match clearOf p p.body with
    | none => s.bump MAC.FORMAT_DROP
    | some m => s.macReplay s x false .link m
  else
    let (late, s) := s.retiredDuring x
    if late then s.bump SECH.RETIRED_DROP h else
    match s.openFrame e p with
    | (none, s) => s.bump MACH.SEC_FAIL h
    | (some (m, kind), s) =>
      match clearOf p m with
      | none => s.bump MAC.FORMAT_DROP
      | some m => s.macReplay (s.keyAccepted e kind) x true kind m

/-- Steps 4 and 5 for a frame to PANMAP entry i. -/
def State.macFrom (s : State) (r : List Nat) (p : RxParsed) (at_ i : Nat) : State :=
  let h := s.get PANMAP.CFG_HEDGE i
  if p.f.dst ≠ .short (s.get PANMAP.OWN_SHORT i) ∧ p.f.dst ≠ .ext (s.get MAC.AIR_EUI64) ∧ p.f.dst ≠ .short 0xFFFF then
    s.bump MAC.NOT_FOR_US
  else
    match s.findAddr h p.f.src with
    | (some e, s) => s.macEntry ⟨r, p, i, h, e, at_⟩
    | (none, s) =>
      match p.f.src with
      | .ext eui => if s.isJoin i p && !s.standby then s.joinNew h eui r p.body else s.bump MACH.NO_ENTRY h
      | _ => s.bump MACH.NO_ENTRY h

/-- Steps 1 to 3: the frame check sequence and format, acknowledgements, and the PAN. A frame that fails its check sequence is counted as one
that fails step 1. -/
def State.macRx (s : State) (x : LaneIn) : State :=
  let n := x.psdu.length - x.fcs
  let l := x.psdu.take n
  if x.psdu.length < x.fcs ∨ x.psdu.drop n ≠ fcsOf x.fcs l then s.bump MAC.FORMAT_DROP
  else
    match parseFrame s.hopPan l with
    | none => s.bump MAC.FORMAT_DROP
    | some p =>
      if p.f.type = 2 then s.ackRx x.report p
      else
        match p.f.pan.bind s.panmapOf with
        | none => s.bump MAC.NOPAN_DROP
        | some i => s.macFrom x.report p x.at_ i

/-- MAC_RX_FRAME: the oldest frame in lane l's FIFO (R218). -/
def execMacRxFrame (l : Nat) (s : State) : Host.Outcome State Fault Refusal :=
  match (if s.on FIFO.STATUS_FROZEN l then none else s.laneQ.find? (·.lane == l)) with
  | none => .next s
  | some x => .next (({ s with laneQ := s.laneQ.erase x }.hwOut l).macRx x)

end Sys2Proof.Machine
end

