-- ==== Sys2Proof/Machine/Engine.lean ====
section
/-!
DEFINITION. The threads of the Triros engines (spec/11_triros_engines.md): their kinds and registers, what a thread reaches in its data
address map, traps and halts, the pending events, the windows on Thicket entries and the end of holds.
-/

namespace Sys2Proof.Machine

open Sys2Proof

/-! ### Threads (R367 to R371) -/

/-- The kinds of thread (R369, R370). -/
inductive Kind where
  | runtime
  | front (h : Nat)
  | program (h : Nat)
  deriving DecidableEq, Repr

/-- The kind of global thread g. -/
def kindOf (g : Nat) : Kind :=
  let e := g / 4
  if e < 112 then .runtime else if g % 4 = 0 then .front ((e - 112) / 2) else .program ((e - 112) / 2)

/-- The Hedge a thread belongs to. -/
def Kind.hedge : Kind → Option Nat
  | .runtime => none
  | .front h => some h
  | .program h => some h

/-- The program thread number, 0 to 5, of a thread of a policy engine (R370). -/
def progNumber (g : Nat) : Nat := 3 * ((g / 4 - 112) % 2) + g % 4 - 1

/-- The thread that is Hedge h's program thread k. -/
def progThread (h k : Nat) : Nat := 4 * (112 + 2 * h + k / 3) + 1 + k % 3

/-- A general register; w0 reads as zero (R371). -/
def State.w (s : State) (g r : Nat) : Nat := if r = 0 then 0 else s.get THR.W (32 * g + r) % 2 ^ 32

/-- Write a general register; w0 ignores it (R399). -/
def State.setW (s : State) (g r v : Nat) : State := if r = 0 then s else s.put THR.W (32 * g + r) v

/-- The pair at an even register: the low word in it, the high word in the next (R399). -/
def State.pair (s : State) (g r : Nat) : Nat := s.w g r + 2 ^ 32 * s.w g (r + 1)

/-- Write a pair. -/
def State.setPair (s : State) (g r v : Nat) : State := (s.setW g r (v % 2 ^ 32)).setW g (r + 1) (v / 2 ^ 32)

/-- The flags Z, N, C and V are bits 3 to 0 of PSR (R371). -/
def State.flagC (s : State) (g : Nat) : Nat := s.get THR.FLAGS g / 2 % 2

/-- Set Z and N from a result (R402). -/
def State.setZN (s : State) (g v : Nat) : State :=
  s.put THR.FLAGS g (s.get THR.FLAGS g % 4 + (if v % 2 ^ 32 = 0 then 8 else 0) + (if bit v 31 then 4 else 0))

/-- Set Z alone (R402). -/
def State.setZ (s : State) (g : Nat) (z : Bool) : State := s.put THR.FLAGS g (s.get THR.FLAGS g % 8 + if z then 8 else 0)

/-! ### Halts and traps (R387, R388) -/

/-- A program thread has halted: it is shown and counted (R388, R396). -/
def State.progHalted (s : State) (h g : Nat) : State :=
  (s.put ENGH.PROG_HALTED h (Nat.lor (s.get ENGH.PROG_HALTED h) (2 ^ progNumber g))).bump ENGH.HALT_CNT h

/-- A thread halts, and the part acts according to its owner (R388). -/
def State.halt (s : State) (g epc cause eval : Nat) : State :=
  let s := s.stopThread g epc cause eval
  match kindOf g with
  | .program h => (s.progHalted h g).event h 0x0C [(16, [progNumber g]), (17, [cause]), (20, le 4 eval), (24, le 4 epc)]
  | _ => (s.bump ENG.FAULT_HALT_CNT).fault 0x0401 (g / 4) 4 none 0 0 [(0, [cause])]

/-- A trap: to the vector, or a halt (R388). -/
def State.trap (s : State) (g cause eval : Nat) : State :=
  let s := s.bump ENGE.TRAP_CNT (g / 4)
  let pc := s.get THR.PC g
  if s.get THR.TVEC g ≠ 0 ∧ ¬ s.on THR.T g then
    let s := ((s.put THR.EPC g pc).put THR.ECAUSE g cause).put THR.EVAL g eval
    (s.set THR.T g).put THR.PC g (s.get THR.TVEC g)
  else s.halt g pc cause eval

/-- A thread waits: what for, the register to write and the value waited for. -/
def State.waitFor (s : State) (g kind reg v : Nat) : State :=
  (((s.putThread g 2).put THR.WAIT g kind).put THR.WREG g reg).put THR.WVAL g v

/-- Whether a thread waits for a kind of thing. -/
def State.waiting (s : State) (g kind : Nat) : Bool := g < 512 && s.threadState g == 2 && s.get THR.WAIT g == kind

/-- Whether a PC lies in a thread's instruction range (R374). -/
def pcOk (g pc : Nat) : Bool := pc < if g / 4 < 112 then 0x40000 else 0x10000

/-- The issue of an instruction by thread g: only a ready thread issues (R368); a PC outside the range traps with FETCH (R411), and a
forbidden form with ILLEGAL and its word (R398). -/
def State.issue (s : State) (g : Nat) (ok : Bool) (word : Nat) (f : State → State) : State :=
  if 512 ≤ g ∨ s.threadState g ≠ 1 then s
  else if !pcOk g (s.get THR.PC g) then s.trap g 0x02 (s.get THR.PC g)
  else
    let s := s.bump ENGE.ISSUE_CNT (g / 4)
    if ok then f s else s.trap g 0x01 word

/-! ### DRAM (R503, R504) -/

/-- Write one octet of DRAM: the first write to a granule zero-fills it, is counted, and sets its written bit. -/
def State.dramPut (s : State) (a b : Nat) : State :=
  let k := a / 4096
  let s := s.when (!s.on DRX.WRITTEN k) fun s => (s.set DRX.WRITTEN k).bump DDR.CH_ZERO_FILL_CNT (k % 2)
  { s with mem.dram := memWrite s.mem.dram a (BitVec.ofNat 8 b) }

/-- Write octets of DRAM. -/
def State.dramWrite (s : State) (a : Nat) : List Nat → State
  | [] => s
  | b :: t => (s.dramPut a b).dramWrite (a + 1) t

/-- The Thicket region of DRAM: 128 MiB of entries and 4 MiB of indexes from TABLE_BASE (R84, R85; assumption log 22). -/
def State.inThicket (s : State) (a : Nat) : Bool :=
  s.get THK.TABLE_BASE ≤ a && a < s.get THK.TABLE_BASE + 132 * 2 ^ 20

/-! ### The data address map (R373 to R377) -/

/-- Where an engine address lies: the memory and the place in it; a window has its slot 4g + i and the octet in the entry. -/
inductive Place where
  | local_ (k : Nat)
  | shared (k : Nat)
  | window (n off : Nat)
  | regs (off : Nat)
  | sram (off : Nat)
  | dram (a : Nat)
  | none
  deriving DecidableEq, Repr

/-- The place of address ea for thread g; program threads see a quarter of the shared memory (R373, R374). -/
def State.place (s : State) (g ea : Nat) : Place :=
  if ea < 0x10000 then .local_ (0x10000 * (g / 4) + ea)
  else if 0x100000 ≤ ea ∧ ea < 0x200000 then
    match kindOf g with
    | .program h => if ea < 0x140000 then .shared (0x100000 * (g / 32) + 0x40000 * (h % 4) + (ea - 0x100000)) else .none
    | _ => .shared (0x100000 * (g / 32) + (ea - 0x100000))
  else if 0x200000 ≤ ea ∧ ea < 0x200800 then .window (4 * g + (ea - 0x200000) / 0x200) ((ea - 0x200000) % 0x200)
  else if 0x20000000 ≤ ea ∧ ea < 0x30000000 then .regs (ea - 0x20000000)
  else if 0x40000000 ≤ ea ∧ ea < 0x43040000 then .sram (ea - 0x40000000)
  else if 0x80000000 ≤ ea then .dram (s.get THR.SEG g * 2 ^ 24 + (ea - 0x80000000))
  else .none

/-- Whether a chip SRAM offset lies in the map region (R105). -/
def inMaps (off : Nat) : Bool := 0x2A00000 ≤ off && off < 0x3000000

/-- Whether octet o of an entry lies in the Thicket block that R11 protects: the model, the radio preferences and the route, with METER_ID
and METER_EN (R82). -/
def programOwned (o : Nat) : Bool :=
  (0x30 ≤ o && o < 0x64) || o == 0x6A || o == 0x6B || (0x80 ≤ o && o < 0xA0) || o == 0xA4 || o == 0xA5

/-- Whether octet o of entry e may be written through a window by a kind of thread (R11, R82). -/
def State.winWritable (s : State) (k : Kind) (e o : Nat) : Bool :=
  let hit := 0x8C ≤ o && o < 0x90
  match k with
  | .program h =>
    if 0x100 ≤ o then true
    else if 0xC0 ≤ o then s.expH h 0
    else s.expH h 0 && ((0x30 ≤ o && o < 0xA0 && !hit) || o == 0xA4 || o == 0xA5)
  | _ => o < 0x100 && !(0xBC ≤ o && o < 0xC0) && !hit && !(s.expH (s.get E.HEDGE e) 0 && programOwned o)

/-- Whether an offset lies in Hedge h's SRAM grant (R374). -/
def State.inSramGrant (s : State) (h off : Nat) : Bool :=
  off < 0x3000000 && s.get ENGH.SRAM_BASE h ≤ off && off < s.get ENGH.SRAM_BASE h + s.get ENGH.SRAM_SIZE h

/-- Whether a DRAM address lies in Hedge h's grant (R374). -/
def State.inDramGrant (s : State) (h a : Nat) : Bool :=
  s.get ENGH.DRAM_BASE h ≤ a && a < s.get ENGH.DRAM_BASE h + s.get ENGH.DRAM_SIZE h

/-- Whether an octet of the watch memory belongs to a ring of Hedge h (R317). -/
def State.ownWatch (s : State) (h off : Nat) : Bool :=
  0x3000000 ≤ off && off < 0x3040000 && s.get WATCH.CFG_OWNER ((off - 0x3000000) / 0x1000) == h

/-- Whether a thread reaches one octet, to read or to write it: 0, or the cause of the trap (R374, R385). -/
def State.reach (s : State) (g ea : Nat) (wr : Bool) : Nat :=
  let k := kindOf g
  let deny (c : Bool) : Nat := if c then 0x04 else 0
  match s.place g ea with
  | .local_ _ =>
    match k with
    | .runtime => 0
    | .front _ => deny (0x4000 ≤ ea)
    | .program _ => deny (ea < 0x4000)
  | .shared _ =>
    match k with
    | .front _ => 0x04
    | _ => 0
  | .window n o => if !s.on WIN.OPEN n then 0x05 else deny (wr && !s.winWritable k (s.get WIN.ENTRY n) o)
  | .regs off =>
    match k with
    | .runtime => 0
    | .front _ => deny (0x1000000 ≤ off)
    | .program _ => 0x04
  | .sram off =>
    match k with
    | .runtime => deny (wr && 0x2A00000 ≤ off)
    | .front h => deny (!(s.inSramGrant h off && !(wr && inMaps off)) && !(!wr && inMaps off))
    | .program h => deny (!(s.inSramGrant h off && !(wr && inMaps off)) && !(!wr && (inMaps off || s.ownWatch h off)))
  | .dram a =>
    match k.hedge with
    | none => deny (s.get DDR.USABLE ≤ a || s.inThicket a)
    | some h => deny (!s.inDramGrant h a || s.inThicket a)
  | .none => 0x04

/-- The first trap cause over n octets; 0 when all are reached. -/
def State.reachAll (s : State) (g ea n : Nat) (wr : Bool) : Nat :=
  (((List.range n).map fun i => s.reach g (ea + i) wr).find? (· != 0)).getD 0

/-- All 512 octets of an entry (R58). -/
def State.entryAll (s : State) (e : Nat) : List Nat := s.entryOctets e ++ s.runtimePrivate e ++ s.policyPrivate e

/-- Read octets at a place of a memory; the register window is read as words only. -/
def State.placeRead (s : State) (p : Place) (n : Nat) : List Nat :=
  match p with
  | .local_ k => memReadL s.mem.localMem k n
  | .shared k => memReadL s.mem.sharedMem k n
  | .window i o => ((s.entryAll (s.get WIN.ENTRY i)).drop o).take n
  | .sram off => if inMaps off then (List.range n).map fun i => s.mapOctet (off - 0x2A00000 + i) else memReadL s.mem.sram off n
  | .dram a => memReadL s.mem.dram a n
  | _ => []

/-- Count an entry in or out of the Thicket's counts, when it is not FREE. -/
def State.countEntry (s : State) (e : Nat) (up : Bool) : State :=
  let one (s : State) (F : Fld) (n : Nat) := if up then s.bump F n else s.drop F n
  if s.get E.STATE e = stFree then s
  else
    let h := s.get E.HEDGE e
    (one (one s THK.STATUS_USED 0) THK_HEDGE.USED h).when (s.on E.PINNED e) fun s => one s THK_HEDGE.PINNED h

/-- Store octets at an offset of an entry, with CHECK in the same write; reserved bits stay zero (R55, R58, R385). -/
def State.entryStore (s : State) (e off : Nat) (l : List Nat) : State :=
  if 0x100 ≤ off then (s.each ((List.range l.length).zip l) fun s p => s.put E.POLICY_PRIVATE (256 * e + (off - 0x100 + p.1)) p.2)
  else if 0xC0 ≤ off then (s.each ((List.range l.length).zip l) fun s p => s.put E.RUNTIME_PRIVATE (64 * e + (off - 0xC0 + p.1)) p.2)
  else
    let v := leVal ((overlay (s.entryHead e) [(off, l)]).take 0xBC)
    let touched (F : Fld) : Bool :=
      let b := F.base - 0x200000000
      b < off + l.length && off < b + (F.lo + F.w + 7) / 8
    let s := s.countEntry e false
    let s := s.each (entryFlds.filter touched) fun s F => s.put F e (bits v (8 * (F.base - 0x200000000) + F.lo) F.w)
    (s.clr E.CHECK_DIFF e).countEntry e true

/-- Write octets at a place. -/
def State.placeWrite (s : State) (p : Place) (l : List Nat) : State :=
  match p with
  | .local_ k => { s with mem.localMem := memWriteL s.mem.localMem k l }
  | .shared k => { s with mem.sharedMem := memWriteL s.mem.sharedMem k l }
  | .window i o => s.entryStore (s.get WIN.ENTRY i) o l
  | .sram off => { s with mem.sram := memWriteL s.mem.sram off l }
  | .dram a => s.dramWrite a l
  | _ => s

/-- Whether a place lies in local memory, cluster shared memory or chip SRAM, where buffers may lie (R414, R416, R417). -/
def Place.buffer : Place → Bool
  | .local_ _ => true
  | .shared _ => true
  | .sram _ => true
  | _ => false

/-- The check of a buffer of n octets: 0, or the cause of the trap. -/
def State.bufCheck (s : State) (g ea align n : Nat) (wr : Bool) : Nat :=
  if ea % align ≠ 0 then 0x03
  else if !(s.place g ea).buffer then 0x04
  else s.reachAll g ea n wr

/-! ### FIFOs as threads see them (R376, R378, R379) -/

/-- The FIFOs whose entries the model holds as records: the lanes', the chains' requests and results, the gate's and those of released
downlinks. -/
def typedFifo (f : Nat) : Bool := f < 76

/-- A request written into chain c's FIFO by an engine, read as R176 lays it out. -/
def reqOf (c : Nat) (l : List Nat) : TxReq :=
  let b (i : Nat) := l.getD i 0
  let ev := bit (b 15) 7
  { chain := c, mode := b 0, flags := b 1, psduLen := oct l 2 2, freq := oct l 4 4, power := b 8, subband := b 9,
    entry := if ev then some (oct l 12 4 % 2 ^ 18) else none, buf := oct l 16 4, tag := oct l 20 4, inc := oct l 24 2, hedge := b 26 % 8,
    reserved := b 1 / 32 != 0 || oct l 10 2 != 0 || bits (oct l 12 4) 18 13 != 0 || b 26 / 8 != 0 || oct l 27 5 != 0
      || (!ev && (oct l 24 2 != 0 || b 26 != 0)),
    ack := false, psdu := [] }

/-- A request as R176 lays it out. -/
def TxReq.octets (r : TxReq) : List Nat :=
  layout 32 [(0, [r.mode, r.flags]), (2, le 2 r.psduLen), (4, le 4 r.freq), (8, [r.power, r.subband]),
    (12, le 4 (match r.entry with | some e => e + 2 ^ 31 | none => 0)), (16, le 4 r.buf), (20, le 4 r.tag), (24, le 2 r.inc), (26, [if r.entry.isSome then r.hedge else 0])]

/-- The head entry of a FIFO, as octets; none while it is empty or frozen. -/
def State.fifoFront (s : State) (f : Nat) : Option (List Nat) :=
  let z := s.fifoEsize f
  if s.on FIFO.STATUS_FROZEN f then none
  else if f < 48 then
    (s.laneQ.find? (·.lane == f)).map fun x =>
      fix z (le 4 (x.report.length + x.psdu.length + 2 ^ 31) ++ x.report ++ x.psdu)
  else if f < 52 then (s.headReq (f - 48)).map fun r => fix z r.octets
  else if f < 56 then
    (s.txRes.find? (·.chain == f - 52)).map fun r => fix z (le 4 r.tag ++ [r.status, r.flags, r.rl, r.pwr] ++ le 8 r.start)
  else if f < 60 then
    (s.gateRecs.find? (·.chain == f - 56)).map fun r => fix z (le 4 r.tag ++ [r.verdict, 0, 0, 0] ++ le 8 r.earliest)
  else if f < 76 ∨ s.get FIFO.STATUS_LEVEL f = 0 then none
  else some (s.fifoHead f)

/-- Take the head entry out of a FIFO. -/
def State.fifoTake (s : State) (f : Nat) : State :=
  if f < 48 then
    match s.laneQ.find? (·.lane == f) with
    | some x => { s with laneQ := s.laneQ.erase x }.hwOut f
    | none => s
  else if f < 52 then s.popReq (f - 48)
  else if f < 56 then
    match s.txRes.find? (·.chain == f - 52) with
    | some r => { s with txRes := s.txRes.erase r }.hwOut f
    | none => s
  else if f < 60 then
    match s.gateRecs.find? (·.chain == f - 56) with
    | some r => { s with gateRecs := s.gateRecs.erase r }.hwOut f
    | none => s
  else if f < 76 then s
  else if 1025 ≤ f ∧ f % 128 = 1 then (s.fifoPop f).cplDrain (16 + (f - 1025) / 128)
  else s.fifoPop f

/-- Whether thread g may name FIFO f (R376): a Hedge's threads only those it owns. -/
def State.fifoMay (s : State) (g f : Nat) : Bool :=
  match (kindOf g).hedge with
  | none => true
  | some h => s.get FIFO.CFG_OWNER f == h

/-- Whether a FIFO takes an entry from a thread now. -/
def State.fifoTakes (s : State) (f : Nat) : Bool :=
  if f < 76 then s.on FIFO.STATUS_FROZEN f || s.get FIFO.STATUS_LEVEL f < s.get FIFO.DEPTH f else s.fifoRoom f

/-- Store an entry of thread g into FIFO f: a request for a chain, or octets in chip SRAM; what a front-end thread posts to its
programs sets NOTICE (R378, R380). -/
def State.fifoStore (s : State) (g f : Nat) (l : List Nat) : State :=
  if f < 76 then
    if s.on FIFO.STATUS_FROZEN f then s else s.pushReq (reqOf (f - 48) l)
  else
    match kindOf g with
    | .front h => if f = progFifo h then s.toProg h l else s.fifoPush f l
    | _ => s.fifoPush f l

/-! ### Events (R380, R381) -/

/-- Whether an enabled watch slot's condition holds. -/
def State.watchOn (s : State) (g i : Nat) : Bool :=
  let v := s.get THR.WSLOT (16 * g + i)
  let f := v % 2048
  bit v 15 && if bit v 12 then s.fifoTakes f else (s.fifoFront f).isSome

/-- The pending events: the level bits follow their conditions. -/
def State.evPend (s : State) (g : Nat) : Nat :=
  s.get THR.EVPEND g / 2 ^ 16 * 2 ^ 16 + ((List.range 16).map fun i => if s.watchOn g i then 2 ^ i else 0).sum

/-- What a WAITEV of mask m would return. -/
def State.evHit (s : State) (g m : Nat) : Nat := Nat.land (Nat.land (s.evPend g) (s.get THR.EVMASK g)) m

/-- Complete a WAITEV: the bits are returned, and the edge bits among them clear. -/
def State.evTake (s : State) (g rd v : Nat) : State :=
  let old := s.get THR.EVPEND g
  (s.put THR.EVPEND g (old - Nat.land old v)).setW g rd v

/-- THREAD_EVENT_WAKE. -/
def execThreadEventWake (g : Nat) (s : State) : Host.Outcome State Fault Refusal :=
  let v := s.evHit g (s.get THR.WVAL g)
  .next (if s.waiting g 1 ∧ v ≠ 0 then (s.evTake g (s.get THR.WREG g) v).resume g else s)

/-- TWAIT_EXPIRE (R383). -/
def execTwaitExpire (g : Nat) (s : State) : Host.Outcome State Fault Refusal :=
  .next (if s.waiting g 2 ∧ s.get THR.WVAL g ≤ s.mp then s.resume g else s)

/-- THREAD_TIMER_FIRE (R383). -/
def execThreadTimerFire (g : Nat) (s : State) : Host.Outcome State Fault Refusal :=
  .next (if g < 512 ∧ s.on THR.TIMER_ON g ∧ s.get THR.TIMER g ≤ s.mp then (s.clr THR.TIMER_ON g).edge g 16 else s)

/-! ### Stalled stores (R379) -/

/-- FIFO_STALL_RESUME: an entry has been freed and thread g's store completes. -/
def execFifoStallResume (g : Nat) (s : State) : Host.Outcome State Fault Refusal :=
  let f := s.get THR.WVAL g
  .next (if s.waiting g 4 ∧ s.fifoTakes f then
    (s.fifoStore g f (s.placeRead (s.place g (s.get THR.WADDR g)) (s.get THR.WLEN g))).resume g else s)

/-- FIFO_STALL_TIMEOUT: the store is abandoned after 64 µs, the thread traps, and the FIFO's owner hears of it. -/
def execFifoStallTimeout (g : Nat) (s : State) : Host.Outcome State Fault Refusal :=
  if s.waiting g 4 ∧ s.get THR.WAT g + 48000 ≤ s.get CLK.CYC then
    let f := s.get THR.WVAL g
    let o := s.get FIFO.CFG_OWNER f
    let s := ((s.putThread g 1).clr THR.WAIT g).bump ENGE.STALL_CNT (g / 4)
    let s := if o < 8 then s.event o 0x0F [(16, le 2 f), (18, [g / 4]), (20, [g % 4])] else s
    .next (s.trap g 0x06 f)
  else .next s

/-! ### Windows and holds (R385) -/

/-- Open a window slot of thread g on an entry; what the slot held is closed first. -/
def State.openWin (s : State) (g slot e : Nat) : State :=
  ((s.set WIN.OPEN (4 * g + slot)).put WIN.ENTRY (4 * g + slot) e).put WIN.AT (4 * g + slot) (s.get CLK.CYC)

/-- Close thread g's own windows on an entry. -/
def State.closeOwn (s : State) (g e : Nat) : State :=
  s.each [0, 1, 2, 3] fun s i => if s.on WIN.OPEN (4 * g + i) ∧ s.get WIN.ENTRY (4 * g + i) = e then s.clr WIN.OPEN (4 * g + i) else s

/-- THICKET_WINDOW_TIMEOUT: window slot n = 4g + i closes 100 µs after it opened. -/
def execThicketWindowTimeout (n : Nat) (s : State) : Host.Outcome State Fault Refusal :=
  .next (if n < 2048 ∧ s.on WIN.OPEN n ∧ s.get WIN.AT n + 75000 ≤ s.get CLK.CYC then s.clr WIN.OPEN n else s)

/-- A deferred deletion is answered: the command, or the thread that waits for it. -/
def State.delDone (s : State) (w : DelWait) : State :=
  let s := match w.cmd with | some c => s.finish c 0x11 0 | none => s
  match w.thread with
  | some g => if s.waiting g 5 ∧ s.get THR.WVAL g = w.entry then ((s.setW g (s.get THR.WREG g) 0).setZ g false).resume g else s
  | none => s

/-- ENTRY_HOLD_END: the last hold on entry e has ended, and a deferred deletion frees it. -/
def execEntryHoldEnd (e : Nat) (s : State) : Host.Outcome State Fault Refusal :=
  if s.heldEntry e ∨ ¬ s.delWait.any (·.entry == e) then .next s
  else
    let l := s.delWait.filter (·.entry == e)
    let s := { s with delWait := s.delWait.filter (·.entry != e) }
    .next ((if s.get E.STATE e = stFree then s else s.freeEntry e fDeleted).each l State.delDone)

/-! ### The engine watchdog (R389) -/

/-- ENGINE_WDOG_EXPIRE: no runtime or front-end thread of engine e has kicked it for WDOG_TIMEOUT. -/
def execEngineWdogExpire (e : Nat) (s : State) : Host.Outcome State Fault Refusal :=
  if 128 ≤ e ∨ ¬ s.on ENGE.CTL_WDOG_EN e ∨ s.get CLK.CYC < s.get ENGX.KICK e + 750 * s.get ENGE.WDOG_TIMEOUT e then .next s
  else
    let s := s.put ENGX.KICK e (s.get CLK.CYC)
    if e < 112 then .next (s.sourceFault 0x0403 e 4 6)
    else .next ((s.hedgeReset ((e - 112) / 2) 4).fault 0x0403 e 3 (some ((e - 112) / 2)))

end Sys2Proof.Machine
end

