-- ==== Sys2Proof/Machine/Alu.lean ====
section
/-!
DEFINITION. The Triros instructions that work on a thread's own registers (spec/12_triros_instructions.md): the words of R397, the
register and immediate ALU, bit fields, CRC and hash, branches and jumps, time, thread and system instructions. Each instruction
command names the thread and the fields of the word it has fetched (assumption log 23).
-/

namespace Sys2Proof.Machine

open Sys2Proof

/-! ### Words (R397) -/

/-- A format R word. -/
def wordR (op : Nat) (rd ra rb : BitVec 5) (func : Nat) : Nat :=
  op * 2 ^ 26 + rd.toNat * 2 ^ 21 + ra.toNat * 2 ^ 16 + rb.toNat * 2 ^ 11 + func

/-- A format I word. -/
def wordI (op : Nat) (rd ra : BitVec 5) (imm : Nat) : Nat := op * 2 ^ 26 + rd.toNat * 2 ^ 21 + ra.toNat * 2 ^ 16 + imm

/-- A format F word. -/
def wordF (rd ra pos len : BitVec 5) (sub : Nat) : Nat :=
  0x18 * 2 ^ 26 + rd.toNat * 2 ^ 21 + ra.toNat * 2 ^ 16 + pos.toNat * 2 ^ 11 + len.toNat * 2 ^ 6 + sub

/-- A format X word. -/
def wordX (op unit : Nat) (rd ra : BitVec 5) (cmd : BitVec 12) : Nat :=
  op * 2 ^ 26 + rd.toNat * 2 ^ 21 + ra.toNat * 2 ^ 16 + unit * 2 ^ 12 + cmd.toNat

/-! ### Arithmetic -/

/-- The value of a register field. -/
def State.r (s : State) (g : Nat) (x : BitVec 5) : Nat := s.w g x.toNat

/-- Sign extension to 32 bits (R400). -/
def sext {n : Nat} (x : BitVec n) : Nat := ofInt 32 x.toInt

/-- A sum with its carry and its signed overflow (R403): result, C, V. -/
def addFlags (a bb cin : Nat) : Nat × Bool × Bool :=
  let sum := a + bb + cin
  let res := sum % 2 ^ 32
  (res, 2 ^ 32 ≤ sum, bit a 31 == bit bb 31 && bit res 31 != bit a 31)

/-- Write a result with Z and N, and go on. -/
def State.alu (s : State) (g : Nat) (rd : BitVec 5) (v : Nat) : State :=
  let v := v % 2 ^ 32
  ((s.setW g rd.toNat v).setZN g v).pcNext g

/-- Write a sum with all four flags, and go on. -/
def State.sum (s : State) (g : Nat) (rd : BitVec 5) (a bb cin : Nat) : State :=
  let x := addFlags a bb cin
  let f := (if x.1 = 0 then 8 else 0) + (if bit x.1 31 then 4 else 0) + (if x.2.1 then 2 else 0) + if x.2.2 then 1 else 0
  ((s.setW g rd.toNat x.1).put THR.FLAGS g f).pcNext g

/-- Write a result without touching the flags, and go on. -/
def State.move (s : State) (g : Nat) (rd : BitVec 5) (v : Nat) : State := (s.setW g rd.toNat v).pcNext g

/-- A register instruction of opcode 0x00 that sets Z and N (R402, R403). -/
def State.regOp (s : State) (g : Nat) (rd ra rb : BitVec 5) (func : Nat) (f : Nat → Nat → Nat) : State :=
  s.issue g true (wordR 0x00 rd ra rb func) fun s => s.alu g rd (f (s.r g ra) (s.r g rb))

/-- An immediate instruction that sets Z and N (R402, R404). -/
def State.immOp (s : State) (g : Nat) (rd ra : BitVec 5) (imm : BitVec 16) (op : Nat) (ok : Bool) (f : Nat → Nat) : State :=
  s.issue g ok (wordI op rd ra imm.toNat) fun s => s.alu g rd (f (s.r g ra))

/-- The complement of a word. -/
def notW (b : Nat) : Nat := 2 ^ 32 - 1 - b % 2 ^ 32

/-- Arithmetic shift right. -/
def sar (a k : Nat) : Nat := ofInt 32 (toInt 32 a / (2 ^ k : Nat))

/-- Less than, signed. -/
def ltS (a b : Nat) : Bool := toInt 32 a < toInt 32 b

/-- Leading zeros of a word, 32 for zero. -/
def clz (a : Nat) : Nat := ((List.range 32).takeWhile fun i => !bit a (31 - i)).length

/-- Ones in a word. -/
def ones (a : Nat) : Nat := ((List.range 32).filter (bit a)).length

/-! ### Register ALU (R403) -/

/-- ADD. -/
def execAdd (g : Nat) (rd ra rb : BitVec 5) (s : State) : Host.Outcome State Fault Refusal :=
  .next (s.issue g true (wordR 0x00 rd ra rb 0x000) fun s => s.sum g rd (s.r g ra) (s.r g rb) 0)

/-- SUB: a plus the complement of b plus 1, so C is set when there is no borrow. -/
def execSub (g : Nat) (rd ra rb : BitVec 5) (s : State) : Host.Outcome State Fault Refusal :=
  .next (s.issue g true (wordR 0x00 rd ra rb 0x001) fun s => s.sum g rd (s.r g ra) (notW (s.r g rb)) 1)

/-- ADDC. -/
def execAddc (g : Nat) (rd ra rb : BitVec 5) (s : State) : Host.Outcome State Fault Refusal :=
  .next (s.issue g true (wordR 0x00 rd ra rb 0x002) fun s => s.sum g rd (s.r g ra) (s.r g rb) (s.flagC g))

/-- SUBC. -/
def execSubc (g : Nat) (rd ra rb : BitVec 5) (s : State) : Host.Outcome State Fault Refusal :=
  .next (s.issue g true (wordR 0x00 rd ra rb 0x003) fun s => s.sum g rd (s.r g ra) (notW (s.r g rb)) (s.flagC g))

/-- AND. -/
def execAnd (g : Nat) (rd ra rb : BitVec 5) (s : State) : Host.Outcome State Fault Refusal :=
  .next (s.regOp g rd ra rb 0x004 Nat.land)

/-- OR. -/
def execOr (g : Nat) (rd ra rb : BitVec 5) (s : State) : Host.Outcome State Fault Refusal :=
  .next (s.regOp g rd ra rb 0x005 Nat.lor)

/-- XOR. -/
def execXor (g : Nat) (rd ra rb : BitVec 5) (s : State) : Host.Outcome State Fault Refusal :=
  .next (s.regOp g rd ra rb 0x006 Nat.xor)

/-- ANDN. -/
def execAndn (g : Nat) (rd ra rb : BitVec 5) (s : State) : Host.Outcome State Fault Refusal :=
  .next (s.regOp g rd ra rb 0x007 (fun a b => Nat.land a (notW b)))

/-- SHL. -/
def execShl (g : Nat) (rd ra rb : BitVec 5) (s : State) : Host.Outcome State Fault Refusal :=
  .next (s.regOp g rd ra rb 0x008 (fun a b => a * 2 ^ (b % 32)))

/-- SHR. -/
def execShr (g : Nat) (rd ra rb : BitVec 5) (s : State) : Host.Outcome State Fault Refusal :=
  .next (s.regOp g rd ra rb 0x009 (fun a b => a / 2 ^ (b % 32)))

/-- SAR. -/
def execSar (g : Nat) (rd ra rb : BitVec 5) (s : State) : Host.Outcome State Fault Refusal :=
  .next (s.regOp g rd ra rb 0x00A (fun a b => sar a (b % 32)))

/-- ROL. -/
def execRol (g : Nat) (rd ra rb : BitVec 5) (s : State) : Host.Outcome State Fault Refusal :=
  .next (s.regOp g rd ra rb 0x00B (fun a b => a * 2 ^ (b % 32) % 2 ^ 32 + a / 2 ^ (32 - b % 32)))

/-- MUL. -/
def execMul (g : Nat) (rd ra rb : BitVec 5) (s : State) : Host.Outcome State Fault Refusal :=
  .next (s.regOp g rd ra rb 0x00C (fun a b => a * b))

/-- MULHU. -/
def execMulhu (g : Nat) (rd ra rb : BitVec 5) (s : State) : Host.Outcome State Fault Refusal :=
  .next (s.regOp g rd ra rb 0x00D (fun a b => a * b / 2 ^ 32))

/-- MULHS. -/
def execMulhs (g : Nat) (rd ra rb : BitVec 5) (s : State) : Host.Outcome State Fault Refusal :=
  .next (s.regOp g rd ra rb 0x00E (fun a b => ofInt 32 (toInt 32 a * toInt 32 b / (2 ^ 32 : Nat))))

/-- CLZ; rb is zero. -/
def execClz (g : Nat) (rd ra rb : BitVec 5) (s : State) : Host.Outcome State Fault Refusal :=
  .next (s.issue g (rb == 0) (wordR 0x00 rd ra rb 0x00F) fun s => s.alu g rd (clz (s.r g ra)))

/-- POPC; rb is zero. -/
def execPopc (g : Nat) (rd ra rb : BitVec 5) (s : State) : Host.Outcome State Fault Refusal :=
  .next (s.issue g (rb == 0) (wordR 0x00 rd ra rb 0x010) fun s => s.alu g rd (ones (s.r g ra)))

/-- MIN. -/
def execMin (g : Nat) (rd ra rb : BitVec 5) (s : State) : Host.Outcome State Fault Refusal :=
  .next (s.regOp g rd ra rb 0x011 (fun a b => if ltS a b then a else b))

/-- MAX. -/
def execMax (g : Nat) (rd ra rb : BitVec 5) (s : State) : Host.Outcome State Fault Refusal :=
  .next (s.regOp g rd ra rb 0x012 (fun a b => if ltS b a then a else b))

/-- MINU. -/
def execMinu (g : Nat) (rd ra rb : BitVec 5) (s : State) : Host.Outcome State Fault Refusal :=
  .next (s.regOp g rd ra rb 0x013 (fun a b => if a < b then a else b))

/-- MAXU. -/
def execMaxu (g : Nat) (rd ra rb : BitVec 5) (s : State) : Host.Outcome State Fault Refusal :=
  .next (s.regOp g rd ra rb 0x014 (fun a b => if b < a then a else b))

/-- SLT. -/
def execSlt (g : Nat) (rd ra rb : BitVec 5) (s : State) : Host.Outcome State Fault Refusal :=
  .next (s.regOp g rd ra rb 0x015 (fun a b => if ltS a b then 1 else 0))

/-- SLTU. -/
def execSltu (g : Nat) (rd ra rb : BitVec 5) (s : State) : Host.Outcome State Fault Refusal :=
  .next (s.regOp g rd ra rb 0x016 (fun a b => if a < b then 1 else 0))

/-! ### Immediate ALU (R404) -/

/-- ADDI. -/
def execAddi (g : Nat) (rd ra : BitVec 5) (imm : BitVec 16) (s : State) : Host.Outcome State Fault Refusal :=
  .next (s.issue g true (wordI 0x01 rd ra imm.toNat) fun s => s.sum g rd (s.r g ra) (sext imm) 0)

/-- ANDI. -/
def execAndi (g : Nat) (rd ra : BitVec 5) (imm : BitVec 16) (s : State) : Host.Outcome State Fault Refusal :=
  .next (s.immOp g rd ra imm 0x02 true (Nat.land · imm.toNat))

/-- ORI. -/
def execOri (g : Nat) (rd ra : BitVec 5) (imm : BitVec 16) (s : State) : Host.Outcome State Fault Refusal :=
  .next (s.immOp g rd ra imm 0x03 true (Nat.lor · imm.toNat))

/-- XORI. -/
def execXori (g : Nat) (rd ra : BitVec 5) (imm : BitVec 16) (s : State) : Host.Outcome State Fault Refusal :=
  .next (s.immOp g rd ra imm 0x04 true (Nat.xor · imm.toNat))

/-- SHLI: imm[15:5] is zero. -/
def execShli (g : Nat) (rd ra : BitVec 5) (imm : BitVec 16) (s : State) : Host.Outcome State Fault Refusal :=
  .next (s.immOp g rd ra imm 0x05 (imm.toNat < 32) (fun a => a * 2 ^ (imm.toNat % 32)))

/-- SHRI: imm[15:5] is zero. -/
def execShri (g : Nat) (rd ra : BitVec 5) (imm : BitVec 16) (s : State) : Host.Outcome State Fault Refusal :=
  .next (s.immOp g rd ra imm 0x06 (imm.toNat < 32) (fun a => a / 2 ^ (imm.toNat % 32)))

/-- SARI: imm[15:5] is zero. -/
def execSari (g : Nat) (rd ra : BitVec 5) (imm : BitVec 16) (s : State) : Host.Outcome State Fault Refusal :=
  .next (s.immOp g rd ra imm 0x07 (imm.toNat < 32) (fun a => sar a (imm.toNat % 32)))

/-- SLTI. -/
def execSlti (g : Nat) (rd ra : BitVec 5) (imm : BitVec 16) (s : State) : Host.Outcome State Fault Refusal :=
  .next (s.immOp g rd ra imm 0x08 true (fun a => if ltS a (sext imm) then 1 else 0))

/-- LUI: ra is zero, and no flag changes. -/
def execLui (g : Nat) (rd ra : BitVec 5) (imm : BitVec 16) (s : State) : Host.Outcome State Fault Refusal :=
  .next (s.issue g (ra == 0) (wordI 0x09 rd ra imm.toNat) fun s => s.move g rd (imm.toNat * 2 ^ 16))

/-! ### Bit fields (R407), CRC and hash (R408) -/

/-- Whether a field of len + 1 bits at pos lies in a word. -/
def fieldOk (pos len : BitVec 5) : Bool := pos.toNat + len.toNat + 1 ≤ 32

/-- EXT. -/
def execExt (g : Nat) (rd ra pos len : BitVec 5) (s : State) : Host.Outcome State Fault Refusal :=
  .next (s.issue g (fieldOk pos len) (wordF rd ra pos len 0) fun s =>
    s.move g rd (ofInt 32 (toInt (len.toNat + 1) (bits (s.r g ra) pos.toNat (len.toNat + 1)))))

/-- EXTU. -/
def execExtu (g : Nat) (rd ra pos len : BitVec 5) (s : State) : Host.Outcome State Fault Refusal :=
  .next (s.issue g (fieldOk pos len) (wordF rd ra pos len 1) fun s => s.move g rd (bits (s.r g ra) pos.toNat (len.toNat + 1)))

/-- INS: the other bits of rd are kept. -/
def execIns (g : Nat) (rd ra pos len : BitVec 5) (s : State) : Host.Outcome State Fault Refusal :=
  .next (s.issue g (fieldOk pos len) (wordF rd ra pos len 2) fun s =>
    let old := s.r g rd
    let n := len.toNat + 1
    s.move g rd (old - bits old pos.toNat n * 2 ^ pos.toNat + s.r g ra % 2 ^ n * 2 ^ pos.toNat))

/-- BSWAP: pos and len are zero. -/
def execBswap (g : Nat) (rd ra pos len : BitVec 5) (s : State) : Host.Outcome State Fault Refusal :=
  .next (s.issue g (pos == 0 && len == 0) (wordF rd ra pos len 3) fun s => s.move g rd (leVal (be 4 (s.r g ra))))

/-- Whether an octet count is 1, 2 or 4. -/
def countOk (n : BitVec 3) : Bool := n == 1 || n == 2 || n == 4

/-- CRC32C over n octets of b. -/
def execCrc32c (g : Nat) (rd ra rb : BitVec 5) (n : BitVec 3) (s : State) : Host.Outcome State Fault Refusal :=
  .next (s.issue g (countOk n) (wordR 0x19 rd ra rb n.toNat) fun s =>
    s.move g rd (crcAdvance 0x82F63B78 (s.r g ra) (le n.toNat (s.r g rb))))

/-- CRC16 over n octets of b. -/
def execCrc16 (g : Nat) (rd ra rb : BitVec 5) (n : BitVec 3) (s : State) : Host.Outcome State Fault Refusal :=
  .next (s.issue g (countOk n) (wordR 0x19 rd ra rb (0x100 + n.toNat)) fun s =>
    s.move g rd (crcAdvance 0x8408 (s.r g ra % 2 ^ 16) (le n.toNat (s.r g rb))))

/-- HASH. -/
def execHash (g : Nat) (rd ra rb : BitVec 5) (s : State) : Host.Outcome State Fault Refusal :=
  .next (s.issue g true (wordR 0x19 rd ra rb 0x200) fun s =>
    s.move g rd (Nat.xor (s.r g ra) (s.r g rb) * 0x9E3779B1 % 2 ^ 32 / 2 ^ 16))

/-! ### Branches and jumps (R410, R411) -/

/-- The address a displacement in words leads to. -/
def State.target (s : State) (g : Nat) (disp : Int) : Nat := ofInt 32 ((s.get THR.PC g : Int) + disp * 4)

/-- A branch: to its target when the condition holds, else on. -/
def State.branch (s : State) (g op : Nat) (ra rb : BitVec 5) (disp : BitVec 16) (cond : Nat → Nat → Bool) : State :=
  s.issue g true (wordI op ra rb disp.toNat) fun s =>
    if cond (s.r g ra) (s.r g rb) then s.put THR.PC g (s.target g disp.toInt) else s.pcNext g

/-- BEQ. -/
def execBeq (g : Nat) (ra rb : BitVec 5) (disp : BitVec 16) (s : State) : Host.Outcome State Fault Refusal :=
  .next (s.branch g 0x20 ra rb disp (fun a b => a == b))

/-- BNE. -/
def execBne (g : Nat) (ra rb : BitVec 5) (disp : BitVec 16) (s : State) : Host.Outcome State Fault Refusal :=
  .next (s.branch g 0x21 ra rb disp (fun a b => a != b))

/-- BLT. -/
def execBlt (g : Nat) (ra rb : BitVec 5) (disp : BitVec 16) (s : State) : Host.Outcome State Fault Refusal :=
  .next (s.branch g 0x22 ra rb disp ltS)

/-- BGE. -/
def execBge (g : Nat) (ra rb : BitVec 5) (disp : BitVec 16) (s : State) : Host.Outcome State Fault Refusal :=
  .next (s.branch g 0x23 ra rb disp (fun a b => !ltS a b))

/-- BLTU. -/
def execBltu (g : Nat) (ra rb : BitVec 5) (disp : BitVec 16) (s : State) : Host.Outcome State Fault Refusal :=
  .next (s.branch g 0x24 ra rb disp (fun a b => decide (a < b)))

/-- BGEU. -/
def execBgeu (g : Nat) (ra rb : BitVec 5) (disp : BitVec 16) (s : State) : Host.Outcome State Fault Refusal :=
  .next (s.branch g 0x25 ra rb disp (fun a b => decide (b ≤ a)))

/-- J: disp is disp26[25:1]. -/
def execJ (g : Nat) (disp : BitVec 25) (s : State) : Host.Outcome State Fault Refusal :=
  .next (s.issue g true (0x26 * 2 ^ 26 + disp.toNat * 2) fun s => s.put THR.PC g (s.target g disp.toInt))

/-- JAL: the link goes to w31. -/
def execJal (g : Nat) (disp : BitVec 25) (s : State) : Host.Outcome State Fault Refusal :=
  .next (s.issue g true (0x26 * 2 ^ 26 + disp.toNat * 2 + 1) fun s =>
    (s.setW g 31 (s.get THR.PC g + 4)).put THR.PC g (s.target g disp.toInt))

/-- JALR: the target is computed before the link is written. -/
def execJalr (g : Nat) (rd ra : BitVec 5) (imm : BitVec 16) (s : State) : Host.Outcome State Fault Refusal :=
  .next (s.issue g true (wordI 0x27 rd ra imm.toNat) fun s =>
    let t := (s.r g ra + sext imm) % 2 ^ 32 / 4 * 4
    (s.setW g rd.toNat (s.get THR.PC g + 4)).put THR.PC g t)

/-! ### Time instructions (R383, R420) -/

/-- An even register number, which a pair needs (R399). -/
def evenReg (x : BitVec 5) : Bool := x.toNat % 2 == 0

/-- TNOW. -/
def execTnow (g : Nat) (rd ra : BitVec 5) (cmd : BitVec 12) (s : State) : Host.Outcome State Fault Refusal :=
  .next (s.issue g (evenReg rd && ra == 0 && cmd == 0) (wordX 0x2B 0 rd ra cmd) fun s => (s.setPair g rd.toNat s.mp).pcNext g)

/-- TWAIT: completes at once when the value is already reached. -/
def execTwait (g : Nat) (rd ra : BitVec 5) (cmd : BitVec 12) (s : State) : Host.Outcome State Fault Refusal :=
  .next (s.issue g (evenReg ra && rd == 0 && cmd.toNat < 2) (wordX 0x2B 1 rd ra cmd) fun s =>
    let v := (s.pair g ra.toNat + if bit cmd.toNat 0 then s.mp else 0) % 2 ^ 64
    if v ≤ s.mp then s.pcNext g else s.waitFor g 2 0 v)

/-- TARM: arms or disarms the single timer. -/
def execTarm (g : Nat) (rd ra : BitVec 5) (cmd : BitVec 12) (s : State) : Host.Outcome State Fault Refusal :=
  .next (s.issue g (evenReg ra && rd == 0 && cmd.toNat < 4 && (!bit cmd.toNat 1 || ra == 0)) (wordX 0x2B 2 rd ra cmd) fun s =>
    if bit cmd.toNat 1 then (s.clr THR.TIMER_ON g).pcNext g
    else
      let v := (s.pair g ra.toNat + if bit cmd.toNat 0 then s.mp else 0) % 2 ^ 64
      ((s.put THR.TIMER g v).set THR.TIMER_ON g).pcNext g)

/-! ### Thread instructions (R421, R422) -/

/-- YIELD: only the order of issue changes, which this model leaves to the sender of commands. -/
def execYield (g : Nat) (rd ra : BitVec 5) (cmd : BitVec 12) (s : State) : Host.Outcome State Fault Refusal :=
  .next (s.issue g (rd == 0 && ra == 0 && cmd == 0) (wordX 0x2C 0 rd ra cmd) (·.pcNext g))

/-- WAITEV: forbidden when no event it names may wake the thread. -/
def execWaitev (g : Nat) (rd ra : BitVec 5) (cmd : BitVec 12) (s : State) : Host.Outcome State Fault Refusal :=
  .next (s.issue g (cmd == 0 && Nat.land (s.r g ra) (s.get THR.EVMASK g) != 0) (wordX 0x2C 1 rd ra cmd) fun s =>
    let m := s.r g ra
    let v := s.evHit g m
    if v = 0 then s.waitFor g 1 rd.toNat m else (s.evTake g rd.toNat v).pcNext g)

/-- SIGNAL: to a thread of the same owner (R382). -/
def execSignal (g : Nat) (rd ra : BitVec 5) (cmd : BitVec 12) (s : State) : Host.Outcome State Fault Refusal :=
  .next (s.issue g (rd == 0 && cmd.toNat < 8) (wordX 0x2C 2 rd ra cmd) fun s =>
    let t := s.r g ra % 512
    if threadOwner t ≠ threadOwner g then s.trap g 0x04 t else (s.edge t (24 + cmd.toNat)).pcNext g)

/-- FENCE: accesses of this model complete in order, so nothing is left to wait for. -/
def execFence (g : Nat) (rd ra : BitVec 5) (cmd : BitVec 12) (s : State) : Host.Outcome State Fault Refusal :=
  .next (s.issue g (rd == 0 && ra == 0 && cmd == 0) (wordX 0x2C 3 rd ra cmd) (·.pcNext g))

/-- HALT: the spec states no ECAUSE and no EVAL for it, so both are free values. -/
def execHalt (g : Nat) (rd ra : BitVec 5) (cmd : BitVec 12) (s : State) : Host.Outcome State Fault Refusal :=
  .next (s.issue g (rd == 0 && ra == 0 && cmd == 0) (wordX 0x2C 4 rd ra cmd) fun s =>
    let (x, s) := s.draw
    let (y, s) := s.draw
    s.halt g (s.get THR.PC g) (x % 2 ^ 8) (y % 2 ^ 32))

/-! ### System instructions (R371, R423) -/

/-- OWNER of a thread. -/
def ownerWord (g : Nat) : Nat :=
  match kindOf g with
  | .runtime => 0xF
  | .front h => h + 16
  | .program h => h + 32

/-- The cycle count of a thread's engine, at 1.5 GHz (R367, R371). -/
def State.cycles (s : State) (g : Nat) : Nat := (2 * s.get CLK.CYC + Config.cycleOrigin (g / 4)) % 2 ^ 64

/-- Read a special register (R371). -/
def State.special (s : State) (g k : Nat) : Nat × State :=
  match k with
  | 0 => (g, s)
  | 1 => (ownerWord g, s)
  | 2 => (s.get THR.FLAGS g + 16 * s.get THR.T g, s)
  | 3 => (s.get THR.SEG g, s)
  | 4 => (s.get THR.EVMASK g, s)
  | 5 => (s.evPend g, s)
  | 6 => (s.get THR.TVEC g, s)
  | 7 => (s.get THR.EPC g, s)
  | 8 => (s.get THR.ECAUSE g, s)
  | 9 => (s.get THR.EVAL g, s)
  | 10 => (s.get THR.TIMER g % 2 ^ 32, s)
  | 11 => (s.get THR.TIMER g / 2 ^ 32, s)
  | 12 => (s.cycles g % 2 ^ 32, (s.put THR.CYC_HI g (s.cycles g / 2 ^ 32)).set THR.CYC_ON g)
  | 13 => (if s.on THR.CYC_ON g then s.get THR.CYC_HI g else s.cycles g / 2 ^ 32, s.clr THR.CYC_ON g)
  | 15 => (s.get THR.SCRATCH g, s)
  | _ => (if 16 ≤ k ∧ k < 32 then s.get THR.WSLOT (16 * g + (k - 16)) else 0, s)

/-- Whether a Hedge's thread may set SEG to v: the window meets its DRAM grant (R375). -/
def State.segOk (s : State) (g v : Nat) : Bool :=
  match (kindOf g).hedge with
  | none => true
  | some h =>
    let b := s.get ENGH.DRAM_BASE h
    let n := s.get ENGH.DRAM_SIZE h
    n != 0 && b < v * 2 ^ 24 + 2 ^ 31 && v * 2 ^ 24 < b + n

/-- Write a special register, or the trap it causes (R371, R375, R423). -/
def State.putSpecial (s : State) (g k v : Nat) : State :=
  let plain (F : Fld) : State := (s.put F g v).pcNext g
  let priv : State := s.trap g 0x07 k
  match k with
  | 2 => plain THR.FLAGS
  | 3 => if s.segOk g v then plain THR.SEG else s.trap g 0x0A v
  | 4 => plain THR.EVMASK
  | 6 => plain THR.TVEC
  | 7 => plain THR.EPC
  | 14 =>
    match kindOf g with
    | .program _ => priv
    | _ => (s.put ENGX.KICK (g / 4) (s.get CLK.CYC)).pcNext g
  | 15 => plain THR.SCRATCH
  | _ =>
    if 16 ≤ k ∧ k < 32 ∧ s.fifoMay g (v % 2048) then (s.put THR.WSLOT (16 * g + (k - 16)) (Nat.land v 0x97FF)).pcNext g else priv

/-- MFS. -/
def execMfs (g : Nat) (rd ra : BitVec 5) (cmd : BitVec 12) (s : State) : Host.Outcome State Fault Refusal :=
  .next (s.issue g (ra == 0 && cmd.toNat < 64) (wordX 0x3F 0 rd ra cmd) fun s =>
    let x := s.special g cmd.toNat
    x.2.move g rd x.1)

/-- MTS. -/
def execMts (g : Nat) (rd ra : BitVec 5) (cmd : BitVec 12) (s : State) : Host.Outcome State Fault Refusal :=
  .next (s.issue g (rd == 0 && cmd.toNat < 64) (wordX 0x3F 1 rd ra cmd) fun s => s.putSpecial g cmd.toNat (s.r g ra))

/-- TRAP. -/
def execTrap (g : Nat) (rd ra : BitVec 5) (cmd : BitVec 12) (s : State) : Host.Outcome State Fault Refusal :=
  .next (s.issue g (rd == 0 && ra == 0) (wordX 0x3F 2 rd ra cmd) fun s => s.trap g 0x09 cmd.toNat)

/-- TRET: forbidden outside a trap. -/
def execTret (g : Nat) (rd ra : BitVec 5) (cmd : BitVec 12) (s : State) : Host.Outcome State Fault Refusal :=
  .next (s.issue g (rd == 0 && ra == 0 && cmd == 0 && s.on THR.T g) (wordX 0x3F 3 rd ra cmd) fun s =>
    (s.put THR.PC g (s.get THR.EPC g)).clr THR.T g)

end Sys2Proof.Machine
end

