-- ==== Sys2Proof/Machine/Accel.lean ====
section
/-!
DEFINITION. The Triros instructions that reach the accelerators: the Thicket (R412 to R415), the FIFO fabric (R416) and the security
engine (R417 to R419).
-/

namespace Sys2Proof.Machine

open Sys2Proof

/-! ### Table instructions (R412 to R415) -/

/-- The Hedge a table instruction acts for: a runtime thread names it in cmd[7:4], a Hedge's thread leaves the field zero. -/
def actFor (g : Nat) (cmd : BitVec 12) : Nat := ((kindOf g).hedge).getD (bits cmd.toNat 4 4)

/-- Whether cmd[7:4] is as the thread's kind must write it. -/
def hedgeOk (g : Nat) (cmd : BitVec 12) : Bool :=
  match (kindOf g).hedge with
  | none => bits cmd.toNat 4 4 < 8
  | some _ => bits cmd.toNat 4 4 == 0

/-- The entry LKUP finds, counted as a lookup (R62, R412). -/
def State.lkup (s : State) (g key h : Nat) (ra : BitVec 5) : Option Nat × State :=
  match key with
  | 0 => s.lookup false h (s.pair g ra.toNat)
  | 1 => s.lookup true h (s.r g ra % 2 ^ 16)
  | _ =>
    let e := s.r g ra % 2 ^ 18
    let s := (s.bump THK.LOOKUP_CNT).opened h e
    (if s.named h e then some e else none, s)

/-- LKUP. -/
def execLkup (g : Nat) (rd ra : BitVec 5) (cmd : BitVec 12) (s : State) : Host.Outcome State Fault Refusal :=
  let key := bits cmd.toNat 2 2
  let slot := bits cmd.toNat 0 2
  let win := !bit cmd.toNat 8
  let ok := key != 3 && (key != 0 || evenReg ra) && hedgeOk g cmd && bits cmd.toNat 9 3 == 0
  .next (s.issue g ok (wordX 0x28 0 rd ra cmd) fun s =>
    let (e, s) := s.lkup g key (actFor g cmd) ra
    let s := s.when win (·.clr WIN.OPEN (4 * g + slot))
    match e with
    | some e => ((((s.when win (·.openWin g slot e)).setW g rd.toNat e).setZ g false).pcNext g)
    | none => (((s.setW g rd.toNat 0xFFFFFFFF).setZ g true).pcNext g))

/-- A parameter block of TINS, read (R414). -/
def blockOf (l : List Nat) : NodeBlock :=
  let b (i : Nat) := l.getD i 0
  let m := oct l 16 2
  { eui := oct l 0 8, short := oct l 8 2, state := b 10, pinned := bit (b 11) 2, flags := b 11 % 4,
    drift := if bit (b 12) 7 then none else some (b 12 % 16), meter := m % 2 ^ 14, meterEn := bit m 15, secLevel := b 13 % 8,
    keyGen := oct l 14 2,
    reserved := b 11 / 8 != 0 || bits (b 12) 4 3 != 0 || b 13 / 8 != 0 || bit m 14 || oct l 18 6 != 0 }

/-- TINS on a standby answers ACCESS_DENIED, as NODE_INSERT does (R83, R457); it names no entry, so its index field is a free value. -/
def State.tinsDenied (s : State) (g rd : Nat) : State :=
  let (x, s) := s.draw
  (s.setW g rd (0x13 + 2 ^ 8 * (x % 2 ^ 18))).setZ g true

/-- The outcome of TINS in rd and Z; a failure names no entry, so its index field is a free value. -/
def State.tinsDone (s : State) (g rd slot : Nat) (win : Bool) (r : Ins) : State :=
  let fail (st : Nat) : State :=
    let (x, s) := s.draw
    (s.setW g rd (st + 2 ^ 8 * (x % 2 ^ 18))).setZ g true
  let good (e ex : Nat) : State := ((s.when win (·.openWin g slot e)).setW g rd (2 ^ 8 * e + 2 ^ 31 * ex)).setZ g false
  match r with
  | .done e => good e 0
  | .existed e => good e 1
  | .quota => fail 0x05
  | _ => fail 0x12

/-- TINS: from a block of 24 octets, aligned to 8; it waits where NODE_INSERT waits (R60, R414). -/
def execTins (g : Nat) (rd ra : BitVec 5) (cmd : BitVec 12) (s : State) : Host.Outcome State Fault Refusal :=
  let slot := bits cmd.toNat 0 2
  let win := !bit cmd.toNat 8
  let ok := bits cmd.toNat 2 2 == 0 && hedgeOk g cmd && bits cmd.toNat 9 3 == 0
  .next (s.issue g ok (wordX 0x28 1 rd ra cmd) fun s =>
    let a := s.r g ra
    let c := s.bufCheck g a 8 24 false
    if c ≠ 0 then s.trap g c a
    else
      let b := blockOf (s.placeRead (s.place g a) 24)
      let h := actFor g cmd
      if s.standby then (s.tinsDenied g rd.toNat).pcNext g
      else match s.insertNode h b with
      | (.wait ev, s) =>
        { s with insWait := s.insWait ++ [(⟨h, b, none, some (g, rd.toNat, slot, !win), none, ev⟩ : InsWait)] }.waitFor g 6 rd.toNat 0
      | (r, s) => (s.tinsDone g rd.toNat slot win r).pcNext g)

/-- TDEL: the thread's own windows on the entry close at once; it waits for those of the others (R415). -/
def execTdel (g : Nat) (rd ra : BitVec 5) (cmd : BitVec 12) (s : State) : Host.Outcome State Fault Refusal :=
  let ok := bits cmd.toNat 0 4 == 0 && hedgeOk g cmd && bits cmd.toNat 8 4 == 0
  .next (s.issue g ok (wordX 0x28 2 rd ra cmd) fun s =>
    let e := s.r g ra % 2 ^ 18
    let s := s.opened (actFor g cmd) e
    if !s.named (actFor g cmd) e then ((s.setW g rd.toNat 0x04).setZ g true).pcNext g
    else
      let s := s.closeOwn g e
      if s.heldEntry e then { s with delWait := s.delWait ++ [(⟨e, none, some g⟩ : DelWait)] }.waitFor g 5 rd.toNat e
      else (((s.freeEntry e fDeleted).setW g rd.toNat 0).setZ g false).pcNext g)

/-- TTOUCH: a hit on the entry (R73, R415). -/
def execTtouch (g : Nat) (rd ra : BitVec 5) (cmd : BitVec 12) (s : State) : Host.Outcome State Fault Refusal :=
  let ok := bits cmd.toNat 0 4 == 0 && hedgeOk g cmd && bits cmd.toNat 8 4 == 0
  .next (s.issue g ok (wordX 0x28 3 rd ra cmd) fun s =>
    let e := s.r g ra % 2 ^ 18
    let s := s.opened (actFor g cmd) e
    if s.named (actFor g cmd) e then (((s.hit e).setW g rd.toNat 0).setZ g false).pcNext g
    else ((s.setW g rd.toNat 0x04).setZ g true).pcNext g)

/-! ### Queue instructions (R376, R379, R416) -/

/-- The FIFO a queue instruction names. -/
def State.fifoNamed (s : State) (g : Nat) (rd : BitVec 5) (cmd : BitVec 12) : Nat :=
  if bit cmd.toNat 11 then s.r g rd % 2048 else cmd.toNat % 2048

/-- QPUT: a copy of the buffer, or a stall while the FIFO is full. Hardware alone produces into the FIFOs below F76 but for the chains'
requests (R378). -/
def execQput (g : Nat) (rd ra : BitVec 5) (cmd : BitVec 12) (s : State) : Host.Outcome State Fault Refusal :=
  .next (s.issue g true (wordX 0x29 0 rd ra cmd) fun s =>
    let f := s.fifoNamed g rd cmd
    let a := s.r g ra
    let n := s.fifoEsize f
    let c := s.bufCheck g a 16 n false
    if !s.fifoMay g f ∨ (f < 76 ∧ ¬ (48 ≤ f ∧ f < 52)) then s.trap g 0x04 f
    else if c ≠ 0 then s.trap g c a
    else if s.fifoTakes f then (s.fifoStore g f (s.placeRead (s.place g a) n)).pcNext g
    else
      let s := ((s.bump FIFO.STALL_CNT f).waitFor g 4 0 f).put THR.WADDR g a
      (s.put THR.WLEN g n).put THR.WAT g (s.get CLK.CYC))

/-- QGET and QPEEK: the head entry into the buffer, or nothing while the FIFO is empty. -/
def State.queueRead (s : State) (g : Nat) (rd ra : BitVec 5) (cmd : BitVec 12) (take : Bool) : State :=
  let f := s.fifoNamed g rd cmd
  let a := s.r g ra
  let n := s.fifoEsize f
  let c := s.bufCheck g a 16 n true
  if !s.fifoMay g f then s.trap g 0x04 f
  else if c ≠ 0 then s.trap g c a
  else
    match s.fifoFront f with
    | none => ((s.setW g rd.toNat 0).setZ g true).pcNext g
    | some l => ((((s.placeWrite (s.place g a) l).when take (·.fifoTake f)).setW g rd.toNat n).setZ g false).pcNext g

/-- QGET. -/
def execQget (g : Nat) (rd ra : BitVec 5) (cmd : BitVec 12) (s : State) : Host.Outcome State Fault Refusal :=
  .next (s.issue g true (wordX 0x29 1 rd ra cmd) fun s => s.queueRead g rd ra cmd true)

/-- QPEEK. -/
def execQpeek (g : Nat) (rd ra : BitVec 5) (cmd : BitVec 12) (s : State) : Host.Outcome State Fault Refusal :=
  .next (s.issue g true (wordX 0x29 2 rd ra cmd) fun s => s.queueRead g rd ra cmd false)

/-! ### Crypto instructions (R384, R417 to R419) -/

/-- A command block, read. -/
structure CryBlock where
  op : Nat
  kind : Nat
  level : Nat
  hedge : Nat
  key : Nat
  eui : Nat
  counter : Nat
  adLen : Nat
  len : Nat
  ad : Nat
  inp : Nat
  out : Nat
  rest : Nat
  deriving DecidableEq, Repr

/-- The block's 48 octets, read (R417). -/
def cryBlock (l : List Nat) : CryBlock :=
  ⟨l.getD 0 0, l.getD 1 0, l.getD 2 0, l.getD 3 0, oct l 4 4, oct l 8 8, oct l 16 4, oct l 20 2, oct l 22 2, oct l 24 4, oct l 28 4,
    oct l 32 4, oct l 36 12⟩

/-- Whether the fields are as R417 and R418 permit them for thread g. -/
def CryBlock.ok (b : CryBlock) (g : Nat) : Bool :=
  let ccm := b.op == 1 || b.op == 2
  let kinds : List Nat := if ccm then [1, 2, 3] else if b.op == 3 || b.op == 4 then [1] else [0]
  let bit0 (k : Nat) : Bool :=
    match k with
    | 0 => b.key == 0
    | 1 => b.key < 1024
    | 2 => bits b.key 18 13 == 0
    | _ => b.key < 2
  1 ≤ b.op && b.op ≤ 9 && kinds.contains b.kind && bit0 b.kind && b.rest == 0
    && (if ccm then b.level != 0 && b.level != 4 && b.level < 8 else b.level == 0)
    && (match (kindOf g).hedge with | none => b.hedge < 8 | some _ => b.hedge == 0)
    && b.adLen ≤ 2047 && b.len ≤ (if ccm then 2047 else 4096)

/-- Octets read from AD, from IN and from OUT, and octets written to OUT. -/
def CryBlock.spans (b : CryBlock) : Nat × Nat × Nat × Nat :=
  let mic := micLen b.level
  match b.op with
  | 1 => (b.adLen, b.len, 0, b.len + mic)
  | 2 => (b.adLen, b.len + mic, 0, b.len)
  | 3 => (0, b.len, 0, 32)
  | 4 => (0, b.len, 32, 0)
  | 5 => (0, b.len, 0, 32)
  | 6 => (0, b.len, 0, 48)
  | 7 => (64, 32, 64, 0)
  | 8 => (96, 48, 96, 0)
  | _ => (0, 0, 0, b.len)

/-- The Hedge an operation acts for. -/
def CryBlock.forHedge (b : CryBlock) (g : Nat) : Nat := ((kindOf g).hedge).getD b.hedge

/-- The key of an operation: a code, the key, the slot and GEN it hangs on, and the state after the cache has been used (R338, R339,
R342, R346, R418). -/
def State.cryKey (s : State) (g : Nat) (b : CryBlock) : Nat × List Nat × Option (Nat × Nat) × State :=
  let h := b.forHedge g
  let runtime := (kindOf g).hedge.isNone
  let derived (kind ident gen : Nat) : Nat × List Nat × Option (Nat × Nat) × State :=
    if gen = 0 then (0x09, [], none, s)
    else
      let t := s.tagOf kind h ident gen
      let (c, k, s) := s.derive kind h ident gen
      (c, k, some (t.slot, t.slotGen), s)
  match b.kind with
  | 0 => (0, [], none, s)
  | 1 =>
    let n := b.key % 1024
    let use := if b.op = 1 ∨ b.op = 3 then 0 else 1
    let type := if b.op ≤ 2 then 0 else 2
    let c := s.slotCode n
    if !s.ownSlot h n && s.get KSLOT.META_STATE n != 0 then (0x13, [], none, s)
    else if c ≠ 0 then (c, [], none, s)
    else if s.get KSLOT.META_USE n ≠ use ∨ s.get KSLOT.META_TYPE n ≠ type then (0x09, [], none, s)
    else (0, s.material n, some (n, s.get KSLOT.GEN_GEN n), s.bump KSLOT.USE_CNT n)
  | 2 =>
    let e := b.key % 2 ^ 18
    if b.op = 1 ∧ ¬ runtime then (0x13, [], none, s)
    else if !s.named h e then (0x04, [], none, s)
    else
      let gen := s.get E.KEY_GEN e
      derived 0 (s.get E.EUI64 e) (if bit b.key 31 then nextGen gen else gen)
  | _ =>
    if b.op = 1 ∧ ¬ runtime then (0x13, [], none, s)
    else
      let gen := if b.key % 2 = 1 then s.get GRPX.PREV h else s.get SECH.GROUP_GEN h
      derived 2 gen gen

/-- n octets from the DRBG. -/
def State.drawOctets (s : State) : Nat → List Nat × State
  | 0 => ([], s)
  | n + 1 =>
    let (x, s) := s.draw
    let (l, s) := s.drawOctets n
    (x % 256 :: l, s)

/-- What an operation computes: its code, whether its check failed, its output, and the state after random octets are drawn (R332,
R333, R345, R418). -/
def State.cryRun (s : State) (b : CryBlock) (key ad inp sig : List Nat) : Nat × Bool × List Nat × State :=
  let nonce := nonceOf b.eui b.counter b.level
  match b.op with
  | 1 => (0, false, fix (b.len + micLen b.level) (Config.ccmSeal b.level key nonce ad inp), s)
  | 2 =>
    match Config.ccmOpen b.level key nonce ad inp with
    | some m => (0, false, fix b.len m, s)
    | none =>
      let (l, s) := s.drawOctets b.len
      (0, true, l, s)
  | 3 => (0, false, fix 32 (Config.hmac256 key inp), s)
  | 4 => (0, fix 32 (Config.hmac256 key inp) != sig, [], s)
  | 5 => (0, false, fix 32 (Config.sha256 inp), s)
  | 6 => (0, false, fix 48 (Config.sha384 inp), s)
  | 7 => (0, !Config.p256Verify ad inp sig, [], s)
  | 8 => (0, !Config.p384Verify ad inp sig, [], s)
  | _ =>
    if s.on SEC.STATUS_DRBG_OK then
      let (l, s) := s.drawOctets b.len
      (0, false, l, s)
    else (0x14, false, [], s)

/-- The lowest free ticket of a thread. -/
def State.freeTicket (s : State) (g : Nat) : Option Nat :=
  (List.range 8).find? fun t => !s.cry.any fun x => x.thread == g && x.ticket == t

/-- CRY: the block and the inputs are read before it returns. -/
def execCry (g : Nat) (rd ra : BitVec 5) (cmd : BitVec 12) (s : State) : Host.Outcome State Fault Refusal :=
  .next (s.issue g (cmd == 0) (wordX 0x2A 0 rd ra cmd) fun s =>
    let a := s.r g ra
    let c := s.bufCheck g a 16 48 false
    if c ≠ 0 then s.trap g c a
    else
      match s.freeTicket g with
      | none => s.trap g 0x0B 0
      | some t =>
        let b := cryBlock (s.placeRead (s.place g a) 48)
        let start (s : State) (x : CryOp) : State := ({ s with cry := s.cry ++ [x] }.setW g rd.toNat t).pcNext g
        if !b.ok g then start s ⟨g, t, 0x12, false, none, 0, [], false⟩
        else
          let (na, ni, nr, nw) := b.spans
          let reg (p n : Nat) : Bool := n != 0 && (match s.place g p with | .regs _ => true | _ => false)
          let bad := [(b.ad, na, false), (b.inp, ni, false), (b.out, nr, false), (b.out, nw, true)].find? fun x =>
            s.reachAll g x.1 x.2.1 x.2.2 != 0 || reg x.1 x.2.1
          match bad with
          | some x => s.trap g 0x04 x.1
          | none =>
            let rd' (p n : Nat) : List Nat := s.placeRead (s.place g p) n
            let (ad, inp, sig) := (rd' b.ad na, rd' b.inp ni, rd' b.out nr)
            let (code, key, slot, s) := s.cryKey g b
            if code ≠ 0 then start s ⟨g, t, code, false, none, 0, [], false⟩
            else
              let (code, fail, out, s) := s.cryRun b key ad inp sig
              let s := (s.when (b.op ≤ 2) (·.bump SEC.CCM_CNT)).when (b.op == 7 || b.op == 8) (·.bump SEC.ECC_CNT)
              start s ⟨g, t, code, fail, slot, b.out, out, false⟩)

/-- The result a ticket gives: status and CHECK_FAIL. -/
def CryOp.result (x : CryOp) : Nat := x.status + if x.fail then 256 else 0

/-- CWAIT returns a completed ticket's result and frees it. -/
def State.cwaitDone (s : State) (g rd : Nat) (x : CryOp) : State :=
  let s := { s with cry := s.cry.erase x }
  (s.setW g rd x.result).setZ g (x.result != 0)

/-- CWAIT. -/
def execCwait (g : Nat) (rd ra : BitVec 5) (cmd : BitVec 12) (s : State) : Host.Outcome State Fault Refusal :=
  .next (s.issue g (cmd.toNat < 2) (wordX 0x2A 1 rd ra cmd) fun s =>
    let t := s.r g ra % 8
    match s.cry.find? fun x => x.thread == g && x.ticket == t with
    | none => ((s.setW g rd.toNat 0x12).setZ g true).pcNext g
    | some x =>
      if x.done then (s.cwaitDone g rd.toNat x).pcNext g
      else if bit cmd.toNat 0 then ((s.setW g rd.toNat 0x01).setZ g true).pcNext g
      else s.waitFor g 3 rd.toNat t)

/-- A completed operation: a key that has changed since its start gives KEY_RETIRED_DURING and zeros (R359). -/
def State.cryEnd (s : State) (x : CryOp) : CryOp :=
  match x.key with
  | none => { x with done := true }
  | some (n, gen) =>
    if s.get KSLOT.GEN_GEN n = gen ∧ s.slotCode n = 0 then { x with done := true }
    else { x with done := true, status := 0x0B, fail := false, out := List.replicate x.out.length 0 }

/-- CRY_COMPLETE: the output is written, then CRYPTO is set, and a thread that waits for the ticket goes on. -/
def execCryComplete (g t : Nat) (s : State) : Host.Outcome State Fault Refusal :=
  match s.cry.find? fun x => x.thread == g && x.ticket == t && !x.done with
  | none => .next s
  | some x =>
    let y := s.cryEnd x
    let s := { s with cry := s.cry.map fun z => if z = x then y else z }
    let s := if y.out = [] then s else s.placeWrite (s.place g y.outAt) y.out
    let s := s.edge g 18
    .next (if s.waiting g 3 ∧ s.get THR.WVAL g = t then (s.cwaitDone g (s.get THR.WREG g) y).resume g else s)

end Sys2Proof.Machine
end

