-- ==== Sys2Proof/Machine/Scorepad.lean ====
section
/-!
DEFINITION. The Scorepad's ring in MRAM (R542 to R549): committing, scanning and reading.
-/

namespace Sys2Proof.Machine

open Sys2Proof

/-- The part's record of 64 octets under a key (R542). -/
def SRec.octets (r : SRec) (key : Nat) : List Nat :=
  let head := le 4 (key % 2 ^ 32) ++ [key / 2 ^ 32 % 256, r.kind] ++ le 2 r.code
  let body := head ++ le 8 r.phase ++ fix 8 r.cal ++ le 2 r.unit ++ [r.action % 256, r.flags % 256] ++ le 8 r.addr ++ le 4 r.count
    ++ fix 12 r.detail
  body ++ le 4 (crc32c body) ++ head

/-- Slots of the ring. -/
def scpSlots : Nat := 32768

/-- Slot n's octets. -/
def State.scpSlot (s : State) (n : Nat) : List Nat := memReadL s.mem.mram (64 * n) 64

/-- Whether a slot's octets are a committed record (R544). -/
def scpGood (l : List Nat) : Bool := oct l 0 8 != 0 && oct l 56 8 == oct l 0 8 && oct l 52 4 == crc32c (l.take 52)

/-- The key of a slot's octets. -/
def scpKey (l : List Nat) : Nat := oct l 0 5

/-- The slots that are not empty, with their octets. -/
def State.scpUsed (s : State) : List (Nat × List Nat) :=
  let ns := (s.mem.mram.filterMap fun c => if c.1 < 64 * scpSlots then some (c.1 / 64) else none).eraseDups
  ns.map fun n => (n, s.scpSlot n)

/-- The keys of the committed records. -/
def State.scpKeys (s : State) : List Nat := (s.scpUsed.filter fun x => scpGood x.2).map fun x => scpKey x.2

/-- The slots that are torn. -/
def State.scpTorn (s : State) : List Nat := (s.scpUsed.filter fun x => !scpGood x.2).map (·.1)

/-- Whether key a comes after key b, modulo 2^40 with a 2^39 window (R545). -/
def keyAfter (a b : Nat) : Bool := a != b && (a + 2 ^ 40 - b) % 2 ^ 40 < 2 ^ 39

/-- The newest key of a list. -/
def newestKey : List Nat → Option Nat
  | [] => none
  | k :: t => match newestKey t with
    | none => some k
    | some m => some (if keyAfter k m then k else m)

/-- The oldest key of a list. -/
def oldestKey : List Nat → Option Nat
  | [] => none
  | k :: t => match oldestKey t with
    | none => some k
    | some m => some (if keyAfter m k then k else m)

/-- Keep HEAD, OLDEST and COUNT as the ring holds them. -/
def State.scpShow (s : State) : State :=
  let ks := s.scpKeys
  let a := (newestKey ks).getD 0
  let b := (oldestKey ks).getD 0
  let s := (s.put SCP.HEAD_SEQ 0 a).put SCP.HEAD_ERA 0 (a / 2 ^ 32)
  ((s.put SCP.OLDEST_SEQ 0 b).put SCP.OLDEST_ERA 0 (b / 2 ^ 32)).put SCP.COUNT 0 ks.length

/-- The scan after a power-on or system reset (R546): the next key, the torn slots, and the TORN record, which is the first to be
written. -/
def State.scpScan (s : State) : State :=
  let ks := s.scpKeys
  let torn := s.scpTorn
  let next := match newestKey ks with | some k => (k + 1) % 2 ^ 40 | none => 0
  let s := (s.scpShow.put SCPX.NEXT 0 next).put SCP.TORN_CNT 0 torn.length
  if torn.contains (next % scpSlots) then
    let r : SRec := ⟨4, 1, s.mp, s.calOctets, 0, 0, s.scpFlags none false, next % scpSlots, 0, []⟩
    { s with scpQ := r :: s.scpQ }.set SCP.EVENT_TORN |>.put SCP.QUEUE 0 (s.scpQ.length + 1)
  else s

/-- The record of lost records, once there is space (R547). -/
def State.scpLost (s : State) : State :=
  let n := s.get SCPX.LOST_UNREP
  if n = 0 then s
  else (s.scpQueue ⟨4, 2, s.mp, s.calOctets, 0, 0, s.scpFlags none false, 0, n, []⟩).clr SCPX.LOST_UNREP

/-- SCOREPAD_COMMIT: the oldest record of the queue is committed under the next key and its slot read back (R544, R547). A record whose
slot does not read back as written is committed again under the next key, and a second failure in a row takes the Scorepad out of
service. -/
def execScorepadCommit (read : List Nat) (s : State) : Host.Outcome State Fault Refusal :=
  match s.scpQ with
  | [] => .next s
  | r :: q =>
    if s.on FLT.STATUS_SCP_OUT then .next s
    else
      let key := s.get SCPX.NEXT
      let l := r.octets key
      let s := ({ s with mem.mram := memWriteL s.mem.mram (64 * (key % scpSlots)) (fix 64 read) }.put SCPX.NEXT 0 (key + 1)).scpShow
      if fix 64 read = l then
        .next (({ s with scpQ := q }.put SCP.QUEUE 0 q.length).clr SCPX.FAIL_RUN).scpLost
      else if s.on SCPX.FAIL_RUN then
        .next (((s.set SCP.EVENT_WRITE_FAIL).fault 0x1101 0 1).set FLT.STATUS_SCP_OUT |>.set FLT.EVENT_SCP_FAIL)
      else .next ((s.set SCP.EVENT_WRITE_FAIL).set SCPX.FAIL_RUN)

/-- SCOREPAD_SUPPRESS_REPORT: once per second while any record is suppressed (R548). -/
def execScorepadSuppressReport (s : State) : Host.Outcome State Fault Refusal :=
  let n := s.get SCPX.SUP_UNREP
  if n = 0 ∨ s.on FLT.STATUS_SCP_OUT ∨ (s.get SCPX.SUP_AT ≠ 0 ∧ s.mp < s.get SCPX.SUP_AT + 2 ^ 24) then .next s
  else
    let r : SRec := ⟨4, 3, s.mp, s.calOctets, 0, 0, s.scpFlags none false, 0, n, le 2 (s.get SCPX.SUP_CODE) ++ le 2 (s.get SCPX.SUP_CODE 1)⟩
    .next ((((s.scpQueue r).clr SCPX.SUP_UNREP).clr SCPX.SUP_CODE).clr SCPX.SUP_CODE 1 |>.put SCPX.SUP_AT 0 s.mp)

/-- SCOREPAD_READ: the committed records from a key to the newest, in order (R549). -/
def execScorepadRead (c : Cmd) (addr seq era count : Nat) (oldest : Bool) (s : State) : Host.Outcome State Fault Refusal :=
  if count = 0 ∨ 1024 < count then .next (s.finish c 0x76 0x12)
  else
    match newestKey s.scpKeys, oldestKey s.scpKeys with
    | some new, some old =>
      let want := era % 256 * 2 ^ 32 + seq % 2 ^ 32
      let gap := !oldest && keyAfter old want
      let start := if oldest || gap then old else want
      let span := if keyAfter start new then 0 else (new + 2 ^ 40 - start) % 2 ^ 40 + 1
      let ks := (List.range (min span scpSlots)).map fun i => (start + i) % 2 ^ 40
      let held := s.scpKeys
      let good := ks.filter held.contains
      let out := good.take count
      let more := out.length < good.length
      let last := out.getLastD 0
      let passed := if more then ks.takeWhile (· != last) else ks
      let torn := s.scpTorn
      let skipped := (passed.filter fun k => torn.contains (k % scpSlots)).length
      .next (s.answer c 0x76 addr (out.flatMap fun k => s.scpSlot (k % scpSlots))
        [(24, le 4 out.length), (28, le 4 (last % 2 ^ 32)), (32, [last / 2 ^ 32]), (33, [(if gap then 1 else 0) + if more then 2 else 0]),
          (36, le 4 skipped)])
    | _, _ => .next (s.answer c 0x76 addr [])

end Sys2Proof.Machine
end

