-- ==== Sys2Proof/Machine/Forward.lean ====
section
/-!
DEFINITION. The part's own floods and what uses them (spec/08_forwarding_and_flooding.md, spec/01_mesh_phase.md): the time beacon (R45, R46),
the protocol generation (R280 to R283), campaigns (R284 to R289, R362) and discovery sweeps (R290 to R292).
-/

namespace Sys2Proof.Machine

open Sys2Proof

/-- Octets of Hedge h's DRAM grant, by offset (R374); none beyond it. -/
def State.grantRead (s : State) (h off n : Nat) : Option (List Nat) :=
  if off + n ≤ s.get ENGH.DRAM_SIZE h then some (memReadL s.mem.dram (s.get ENGH.DRAM_BASE h + off) n) else none

/-- A flood of the part for the Hedge's flood queue (R276). -/
def State.ownFlood (s : State) (h cls final : Nat) (payload : List Nat) : Down :=
  let d := s.newDown h (floodQ h cls) cls .flood .group payload
  let d := { d with mode := s.get FWDH.FLOOD_FLOOD_MODE h, final := final }
  { d with psduLen := s.downLen d 0 ((s.panOf h).getD 0) }

/-! ### The mesh time beacon (R45, R46) -/

/-- BEACON_INTERVAL: INTERVAL seconds have passed since Hedge h's last beacon, and the discipline state permits one; a standby sends none. -/
def execBeaconInterval (h : Nat) (s : State) : Host.Outcome State Fault Refusal :=
  if s.standby then .next s
  else if !s.on BEACON.CTL_EN h then .next (s.clr BEACX.SENT h)
  else
    let age := (s.mpSec + 2 ^ 32 - s.get BEACX.AT h) % 2 ^ 32
    if s.on BEACX.SENT h ∧ age < s.get BEACON.INTERVAL h then .next s
    else
      let s := (s.set BEACX.SENT h).put BEACX.AT h s.mpSec
      .next (if s.refGood || s.on BEACON.CTL_SEND_UNLOCKED h then (s.takeIn { s.ownFlood h 1 0xFFFF (List.replicate 20 0) with beacon := true }).2
        else s)

/-! ### The protocol generation (R281, R283) -/

/-- The Hedge's non-FREE entries at generation g. -/
def State.genCount (s : State) (h g : Nat) : Nat := ((s.entriesOf h).filter fun e => s.get E.PROTO_GEN e == g).length

/-- GEN_BASE_WRITE: N + 1 is accepted while no entry is at N, or with FORCE. -/
def execGenBaseWrite (r : Req) (h v : Nat) (s : State) : Host.Outcome State Fault Refusal :=
  s.onBus r (FWDH.GEN_BASE.addr h) fun s =>
  let n := s.get FWDH.GEN_BASE h
  if 8 ≤ h ∨ v % 8 = n then .next s
  else if v % 8 = (n + 1) % 8 ∧ (bit v 8 ∨ s.genCount h n = 0) then .next (s.put FWDH.GEN_BASE h (n + 1))
  else .next (s.set FWDH.EVENT_GEN_REFUSED h)

/-! ### Campaigns (R284 to R289) -/

/-- Whether Hedge h's campaign runs. -/
def State.campRuns (s : State) (h : Nat) : Bool := s.get CAMP.STATUS_STATE h != 0 && s.get CAMP.STATUS_STATE h != 7

/-- The start command of Hedge h's campaign. -/
def State.campCmd (s : State) (h : Nat) : Cmd := ⟨h, s.get CAMPX.TAG h, s.get CAMPX.INDEX h, false⟩

/-- The campaign is DONE; its start command completes with the counts (R286, R289, R437). -/
def State.campEnd (s : State) (h status : Nat) (aborted : Bool) : State :=
  let s := (s.put CAMP.STATUS_STATE h 7).put CAMP.STATUS_ABORTED h (if aborted then 1 else 0)
  let s := { s with missing := s.missing.filter (·.1 != h), repairs := s.repairs.filter (·.1 != h), campQ := s.campQ.filter (·.hedge != h) }
  let res := [(24, le 4 (s.get CAMPX.NUM h)), (28, le 4 (s.get CAMP.COMPLETE h)), (32, le 4 (s.get CAMP.SILENT h)),
    (36, le 4 (s.get CAMP.GONE h)), (40, [if aborted then 1 else 0])]
  if s.on CAMPX.CMD h then (s.clr CAMPX.CMD h).complete (s.campCmd h) 0x40 status 0 0 (if status = 0 then res else []) else s

/-- A frame of Hedge h's campaign, in class Deal: a flood, or a repair by unicast to entry e. -/
def State.campFrame (s : State) (h : Nat) (dest : Option Nat) (payload : List Nat) : Down :=
  match dest with
  | none => { s.ownFlood h 2 0xFFFF payload with opcode := 0x40 }
  | some e =>
    let d := s.newDown h e 2 .send .link payload
    let d := { d with opcode := 0x40, ackReq := true, autoMode := true, autoPower := true }
    let d := { d with mode := s.get E.PHY_MODE e, power := s.get E.TX_POWER e }
    { d with psduLen := s.downLen d e ((s.panOf h).getD 0) }

/-- Whether a campaign frame of Hedge h is still in the part. -/
def State.campBusy (s : State) (h : Nat) : Bool := s.downs.any fun d => d.hedge == h && d.opcode == 0x40 && d.cmd.isNone

/-- Whether the manifest of a start command holds (R362). -/
def State.manifestOk (s : State) (h num bsize bcount from_ : Nat) (m : List Nat) : Bool :=
  let body := m.take (64 + 32 * bcount)
  let key := (List.range 24).flatMap fun i => le 4 (s.get TRUST.ANCHOR1 (64 * h + i))
  let len := oct m 16 4
  s.on TRUST.CTL_VALID1 h && Config.p384Verify key (fix 48 (Config.sha384 body)) ((m.drop (64 + 32 * bcount)).take 96)
    && oct m 0 4 == 0x4D485458 && oct m 4 1 == 1 && oct m 5 1 == 0 && oct m 52 12 == 0 && oct m 8 4 == num && oct m 12 2 == bsize
    && oct m 14 2 == bcount && oct m 6 1 == from_ && decide ((bcount - 1) * bsize < len) && decide (len ≤ bcount * bsize)

/-- The targets of a start command: the Hedge's entries of its FROM_GEN, or those of its list. -/
def State.campTargets (s : State) (h from_ : Nat) (l : Option (List Nat)) : List Nat :=
  match l with
  | none => (s.entriesOf h).filter fun e => s.get E.PROTO_GEN e == from_
  | some l => (s.entriesOf h).filter l.contains

/-- Words of 4 octets. -/
def words4 (n : Nat) (l : List Nat) : List Nat := (List.range n).map fun i => oct l (4 * i) 4

/-- CAMPAIGN_START: BUSY_RETRY while one runs, with a hint the spec does not state (assumption log 3); the hash lists of running
campaigns share 4 MiB (R284, R362). -/
def execCampaignStart (c : Cmd) (num bsize bcount from_ : Nat) (list : Bool) (lcount mOff iOff lOff : Nat) (s : State) :
    Host.Outcome State Fault Refusal :=
  let h := c.ring
  let bad := bsize < 64 ∨ 1024 < bsize ∨ bsize % 16 ≠ 0 ∨ bcount = 0 ∨ 65535 < bcount ∨ 7 < from_
  let used := ([0, 1, 2, 3, 4, 5, 6, 7].map fun k => if s.campRuns k then 32 * s.get CAMPX.BCOUNT k else 0).sum
  if s.standby || s.expH h 3 then .next (s.finish c 0x40 0x13)
  else if s.campRuns h then
    let (k, s) := s.draw
    .next (s.complete c 0x40 0x02 0 k [])
  else
    let s := s.accepted c 0x40
    if bad then .next (s.finish c 0x40 0x12)
    else
      match s.grantRead h mOff (160 + 32 * bcount), (if list then s.grantRead h lOff (4 * lcount) else some []) with
      | some m, some l =>
        let s := s.when (s.on TRUST.CTL_VALID1 h) (·.bump SEC.ECC_CNT)
        if !s.manifestOk h num bsize bcount from_ m then .next (s.finish c 0x40 0x0D)
        else if s.get ENGH.DRAM_SIZE h < iOff + oct m 16 4 then .next (s.finish c 0x40 0x12)
        else if 2 ^ 22 < used + 32 * bcount then .next (s.finish c 0x40 0x05)
        else
          let ts := s.campTargets h from_ (if list then some (words4 lcount l) else none)
          let s := s.each (s.entriesOf h) fun s e => s.put E.RUNTIME_PRIVATE (64 * e + 4) (if ts.contains e then 1 else 0)
          let s := s.each (List.range bcount) fun s b => s.put CAMPX.HASH (65536 * h + b) (oct m (64 + 32 * b) 32)
          let s := (((s.put CAMPX.NUM h num).put CAMPX.BSIZE h bsize).put CAMPX.BCOUNT h bcount).put CAMPX.IMAGE h iOff
          let s := (((s.put CAMPX.LEN h (oct m 16 4)).put CAMPX.TAG h c.tag).put CAMPX.INDEX h c.index).set CAMPX.CMD h
          let s := s.each [CAMPX.MROUND, CAMPX.ACTS, CAMPX.HAND, CAMP.BLOCK_CUR, CAMP.STATUS_ROUND, CAMP.STATUS_PAUSE_CAUSE, CAMP.STATUS_ABORTED,
            CAMP.COMPLETE, CAMP.SILENT, CAMP.GONE] fun s F => s.clr F h
          .next (((s.put CAMP.TARGETS h ts.length).put CAMP.STATUS_STATE h 2).served c)
      | _, _ => .next (s.finish c 0x40 0x12)

/-- Pause the campaign: its frames that are not armed leave the queues until it goes on (R288, R289). -/
def State.campPause (s : State) (h cause : Nat) : State :=
  let ds := s.downs.filter fun d => d.hedge == h && d.opcode == 0x40 && d.cmd.isNone
    && (d.stage == .queued || d.stage == .released || d.stage == .held || d.stage == .planned)
  let s := ((s.put CAMPX.RESUME h (s.get CAMP.STATUS_STATE h)).put CAMPX.PAUSED_AT h s.mpSec).put CAMP.STATUS_STATE h 6
  let s := s.put CAMP.STATUS_PAUSE_CAUSE h cause
  { s.each ds fun s d => s.downOut d with campQ := s.campQ ++ ds }

/-- Block b of Hedge h's campaign as it stands in DRAM. -/
def State.campBlock (s : State) (h b : Nat) : List Nat :=
  let z := s.get CAMPX.BSIZE h
  memReadL s.mem.dram (s.get ENGH.DRAM_BASE h + s.get CAMPX.IMAGE h + b * z) (min z (s.get CAMPX.LEN h - b * z))

/-- Copy block b, check the copy against its signed hash, and hand it to the queues; on a mismatch the campaign pauses (R288). -/
def State.campSend (s : State) (h : Nat) (dest : Option Nat) (b : Nat) : State :=
  let data := s.campBlock h b
  if leVal (fix 32 (Config.sha256 data)) ≠ s.get CAMPX.HASH (65536 * h + b) then
    let s := (s.campPause h 2).bump CAMP.MISMATCH_CNT h
    s.event h 0x0B [(16, le 4 (s.get CAMPX.NUM h)), (20, le 2 b), (22, [2])]
  else
    let p := [0x31] ++ le 2 (s.get CAMPX.NUM h) ++ le 2 b ++ le 2 (s.get CAMPX.BCOUNT h) ++ [0] ++ data
    match s.takeIn (s.campFrame h dest p) with
    | (none, s) => (s.set CAMPX.HAND h).bump (if dest.isSome then CAMP.REPAIR_SENT else CAMP.BLOCKS_SENT) h
    | (some _, s) => s

/-- Flood a REPORT_REQ and open the REPORTING window (R285, R286). -/
def State.campReporting (s : State) (h : Nat) : State :=
  let spread := s.get CAMP.CFG2_SPREAD_S h
  let s := (s.put CAMP.STATUS_STATE h 3).put CAMPX.WIN_AT h (s.mpSec + spread + 10)
  let s := { s with missing := s.missing.filter (·.1 != h) }
  let s := s.each (s.entriesOf h) fun s e =>
    let p := s.get E.RUNTIME_PRIVATE (64 * e + 4)
    s.put E.RUNTIME_PRIVATE (64 * e + 4) (p - if bit p 2 then 4 else 0)
  (s.takeIn (s.campFrame h none ([0x32] ++ le 2 (s.get CAMPX.NUM h) ++ le 2 spread))).2

/-- Enter ACTIVATING; the spec does not state how ACTIVATE_AT is chosen, so it is a free value (assumption log 3). -/
def State.campActivating (s : State) (h : Nat) : State :=
  let (k, s) := s.draw
  ((s.put CAMP.STATUS_STATE h 5).put CAMPX.ACT_AT h k).put CAMPX.WIN_AT h s.mpSec |>.clr CAMPX.ACTS h

/-- The frame in hand has left: go on to the next block or repair, or to the next state (R286). -/
def State.campNext (s : State) (h : Nat) : State :=
  let s := s.clr CAMPX.HAND h
  if s.get CAMP.STATUS_STATE h = 2 then
    let b := s.get CAMP.BLOCK_CUR h + 1
    if b < s.get CAMPX.BCOUNT h then s.put CAMP.BLOCK_CUR h b
    else
      let s := (s.clr CAMP.BLOCK_CUR h).bump CAMPX.MROUND h
      if s.get CAMPX.MROUND h < max 1 (s.get CAMP.CFG_MCAST_ROUNDS h) then s else s.campReporting h
  else
    match s.repairs.find? (·.1 == h) with
    | some x => { s with repairs := s.repairs.erase x }
    | none => s

/-- The repair in hand, the targets that are gone left out; the end of the repair set ends the round (R286, R287). -/
def State.campRepair (s : State) (h : Nat) : State :=
  let s := { s with repairs := s.repairs.filter fun x => x.1 != h || (match x.2.1 with
    | none => true
    | some e => s.get E.STATE e != stFree && s.get E.HEDGE e == h && bit (s.get E.RUNTIME_PRIVATE (64 * e + 4)) 0) }
  match s.repairs.find? (·.1 == h) with
  | some x => (s.put CAMP.BLOCK_CUR h x.2.2).campSend h x.2.1 x.2.2
  | none => if s.get CAMP.CFG_REPAIR_ROUNDS h ≤ s.get CAMP.STATUS_ROUND h then s.campActivating h else s.campReporting h

/-- CAMPAIGN_BLOCK_SEND: the next block of Hedge h's campaign, or the next repair, one frame in hand at a time. -/
def execCampaignBlockSend (h : Nat) (s : State) : Host.Outcome State Fault Refusal :=
  let st := s.get CAMP.STATUS_STATE h
  if (st ≠ 2 ∧ st ≠ 4) ∨ s.standby ∨ s.campBusy h then .next s
  else
    let s := if s.on CAMPX.HAND h then s.campNext h else s
    match s.get CAMP.STATUS_STATE h with
    | 2 => .next (s.campSend h none (s.get CAMP.BLOCK_CUR h))
    | 4 => .next (s.campRepair h)
    | _ => .next s

/-- The repair set: floods of the blocks that REMCAST_MIN targets or more lack, then unicasts of the others (R287). -/
def State.repairSet (s : State) (h : Nat) : List (Nat × Option Nat × Nat) :=
  let l := s.missing.filter (·.1 == h)
  let many (b : Nat) : Bool := s.get CAMP.CFG_REMCAST_MIN h ≤ (l.filter fun x => x.2.2 == b).length
  let bs := (List.range (s.get CAMPX.BCOUNT h)).filter fun b => l.any fun x => decide (x.2.2 = b)
  (bs.filter many).map (fun b => (h, none, b)) ++ (bs.filter (!many ·)).flatMap fun b =>
    (l.filter fun x => x.2.2 == b).map fun m => (h, some m.2.1, b)

/-- CAMPAIGN_REPORT_WINDOW_END: SPREAD_S + 10 s after the request; the silent targets of the round are counted, and repair or activation
begins (R286, R287). -/
def execCampaignReportWindowEnd (h : Nat) (s : State) : Host.Outcome State Fault Refusal :=
  if s.standby ∨ s.get CAMP.STATUS_STATE h ≠ 3 ∨ after32 (s.get CAMPX.WIN_AT h) s.mpSec then .next s
  else
    let silent := (s.entriesOf h).filter fun e =>
      let p := s.get E.RUNTIME_PRIVATE (64 * e + 4)
      bit p 0 && !bit p 1 && !bit p 2
    let s := s.put CAMP.SILENT h silent.length
    if s.missing.any (·.1 == h) then
      let rest := s.repairs.filter (·.1 != h)
      let s := { s with repairs := rest ++ s.repairSet h }
      .next (((s.bump CAMP.STATUS_ROUND h).put CAMP.STATUS_STATE h 4).clr CAMPX.HAND h)
    else .next (s.campActivating h)

/-- CAMPAIGN_ACTIVATE_SEND: three floods 10 s apart, then DONE (R285, R286). -/
def execCampaignActivateSend (h : Nat) (s : State) : Host.Outcome State Fault Refusal :=
  if s.standby ∨ s.get CAMP.STATUS_STATE h ≠ 5 ∨ after32 (s.get CAMPX.WIN_AT h) s.mpSec then .next s
  else
    match s.takeIn (s.campFrame h none ([0x34] ++ le 2 (s.get CAMPX.NUM h) ++ le 4 (s.get CAMPX.ACT_AT h))) with
    | (some _, s) => .next s
    | (none, s) =>
      let s := (s.bump CAMPX.ACTS h).put CAMPX.WIN_AT h (s.mpSec + 10)
      .next (if s.get CAMPX.ACTS h = 3 then s.campEnd h 0 false else s)

/-- Whether a command names Hedge h's campaign. -/
def State.campNamed (s : State) (h num : Nat) : Bool := s.get CAMP.STATUS_STATE h != 0 && s.get CAMPX.NUM h == num % 2 ^ 32

/-- CAMPAIGN_PAUSE. A command that names no campaign of the Hedge that runs completes with BAD_DESCRIPTOR (the model's choice). -/
def execCampaignPause (c : Cmd) (num : Nat) (s : State) : Host.Outcome State Fault Refusal :=
  let h := c.ring
  if s.standby || s.expH h 3 then .next (s.finish c 0x22 0x13)
  else if !s.campNamed h num || !s.campRuns h then .next (s.finish c 0x22 0x12)
  else if s.get CAMP.STATUS_STATE h = 6 then .next (s.finish c 0x22 0)
  else .next ((s.campPause h 1).finish c 0x22 0)

/-- CAMPAIGN_RESUME: the frames taken back are queued again; a block that is not taken is copied and checked afresh. The time spent in PAUSED
extends a window or an interval that ran (R289). -/
def execCampaignResume (c : Cmd) (num : Nat) (s : State) : Host.Outcome State Fault Refusal :=
  let h := c.ring
  if s.standby || s.expH h 3 then .next (s.finish c 0x23 0x13)
  else if !s.campNamed h num || !s.campRuns h then .next (s.finish c 0x23 0x12)
  else if s.get CAMP.STATUS_STATE h ≠ 6 then .next (s.finish c 0x23 0)
  else
    let ds := s.campQ.filter (·.hedge == h)
    let s := { s with campQ := s.campQ.filter (·.hedge != h) }
    let s := (s.put CAMP.STATUS_STATE h (s.get CAMPX.RESUME h)).clr CAMP.STATUS_PAUSE_CAUSE h
    let s := s.put CAMPX.WIN_AT h (s.get CAMPX.WIN_AT h + (s.mpSec + 2 ^ 32 - s.get CAMPX.PAUSED_AT h) % 2 ^ 32)
    let s := s.each ds fun s d =>
      match s.takeIn { d with stage := .queued } with
      | (none, s) => s
      | (some _, s) => if d.payload.headD 0 = 0x31 then s.clr CAMPX.HAND h else s
    .next (s.finish c 0x23 0)

/-- CAMPAIGN_ABORT. -/
def execCampaignAbort (c : Cmd) (num : Nat) (s : State) : Host.Outcome State Fault Refusal :=
  let h := c.ring
  if s.standby || s.expH h 3 then .next (s.finish c 0x24 0x13)
  else if !s.campNamed h num then .next (s.finish c 0x24 0x12)
  else .next (((s.campPause h 1).campEnd h 0 true).clr CAMP.STATUS_PAUSE_CAUSE h |>.finish c 0x24 0)

/-- CAMP_STATUS_READ: the word at CAMP[h] + 0x00; DONE returns to IDLE (R286, R289). -/
def execCampStatusRead (r : Req) (h : Nat) (s : State) : Host.Outcome State Fault Refusal :=
  s.onRead r (CAMP.STATUS_STATE.addr h) fun s =>
  let v := s.get CAMP.STATUS_STATE h + 16 * s.get CAMP.STATUS_ROUND h + 256 * s.get CAMP.STATUS_PAUSE_CAUSE h
    + 2048 * s.get CAMP.STATUS_ABORTED h
  let s := (s.put MODEL.DATA 0 v).put MODEL.RESP 0 0
  .next (if s.get CAMP.STATUS_STATE h = 7 then (s.clr CAMP.STATUS_STATE h).clr CAMP.STATUS_ABORTED h else s)

/-! ### Discovery sweeps (R290 to R292) -/

/-- SWEEP_START: BUSY_RETRY while one runs, with a hint the spec does not state (assumption log 3). -/
def execSweepStart (c : Cmd) (rounds roundS ttl : Nat) (silent : Bool) (s : State) : Host.Outcome State Fault Refusal :=
  let h := c.ring
  if s.standby then .next (s.finish c 0x20 0x13)
  else if s.on SWEEP.RUN h then
    let (k, s) := s.draw
    .next (s.complete c 0x20 0x02 0 k [])
  else
  let s := s.accepted c 0x20
  if rounds = 0 ∨ 16 < rounds ∨ roundS < 10 ∨ 3600 < roundS ∨ ttl = 0 ∨ 63 < ttl then .next (s.finish c 0x20 0x12)
  else
    let s := { s with gone := s.gone.filter (·.1 != h) }
    let s := s.each (s.entriesOf h) fun s e =>
      s.each [(0x10, 0), (0x11, 0), (0x12, 1), (0x13, 0)] fun s p => s.put E.RUNTIME_PRIVATE (64 * e + p.1) p.2
    let s := (((s.set SWEEP.RUN h).bump SWEEP.NUM h).put SWEEP.ROUNDS h rounds).put SWEEP.ROUND_S h roundS
    let s := (((s.put SWEEP.TTL h ttl).put SWEEP.SILENT h (if silent then 1 else 0)).put SWEEP.T0 h s.mpSec).clr SWEEP.ROUND h
    .next ((((s.clr SWEEP.HAVE h).put SWEEP.TAG h c.tag).put SWEEP.INDEX h c.index).set SWEEP.CMD h)

/-- SWEEP_ROUND_START: the next round of Hedge h's sweep begins with a discovery request, in class Deal (the model's choice). -/
def execSweepRoundStart (h : Nat) (s : State) : Host.Outcome State Fault Refusal :=
  let r := s.get SWEEP.ROUND h
  let at_ := (s.get SWEEP.T0 h + r * s.get SWEEP.ROUND_S h) % 2 ^ 32
  if !s.on SWEEP.RUN h || s.standby || s.get SWEEP.ROUNDS h ≤ r || after32 at_ s.mpSec then .next s
  else
    let p := [0x41] ++ le 2 (s.get SWEEP.NUM h) ++ [r] ++ le 2 (s.get SWEEP.ROUND_S h - 5)
    .next ((s.takeIn { s.ownFlood h 2 0xFFFF p with ttl := s.get SWEEP.TTL h }).2.put SWEEP.ROUND h (r + 1))

/-- The sweep of Hedge h ends with a code. -/
def State.sweepEnd (s : State) (h status : Nat) : State :=
  let s := (s.clr SWEEP.RUN h).put SWEEP.HAVE h (if status = 0 then 1 else 0)
  if !s.on SWEEP.CMD h then s
  else (s.clr SWEEP.CMD h).complete ⟨h, s.get SWEEP.TAG h, s.get SWEEP.INDEX h, false⟩ 0x20 status 0 0 (if status = 0 then [(24, le 4 (s.get SWEEP.NUM h))] else [])

/-- SWEEP_END: the last round of Hedge h's sweep has ended. -/
def execSweepEnd (h : Nat) (s : State) : Host.Outcome State Fault Refusal :=
  let at_ := (s.get SWEEP.T0 h + s.get SWEEP.ROUNDS h * s.get SWEEP.ROUND_S h) % 2 ^ 32
  if !s.on SWEEP.RUN h || s.standby || after32 at_ s.mpSec then .next s else .next (s.sweepEnd h 0)

/-- A record of a sweep's result (R292), from EUI-64 and index octets, AT_START, map, LQI, first possible round and FREED. -/
def sweepRecord (rounds : Nat) (id : List Nat) (start : Bool) (map lqi first : Nat) (freed : Bool) : List Nat :=
  let want := (List.range rounds).filter (first ≤ ·)
  let all := map != 0 && want.all fun r => bit map r
  let fl := (if all then 1 else 0) + (if map != 0 && !all then 2 else 0) + (if start then 0 else 4) + (if freed then 8 else 0)
    + if start && map == 0 then 16 else 0
  id ++ [fl] ++ le 2 map ++ [lqi, 0]

/-- Every record of Hedge h's result, in order. -/
def State.sweepRecords (s : State) (h : Nat) : List (List Nat) :=
  let n := s.get SWEEP.ROUNDS h
  let live := (s.entriesOf h).filterMap fun e =>
    let p (i : Nat) := s.get E.RUNTIME_PRIVATE (64 * e + i)
    let map := p 0x10 + 256 * p 0x11
    let first := (s.get NODE.INS_AT e + 2 ^ 32 - s.get SWEEP.T0 h) % 2 ^ 32 / max 1 (s.get SWEEP.ROUND_S h)
    if map = 0 ∧ (p 0x12 = 0 ∨ ¬ s.on SWEEP.SILENT h) then none
    else some (sweepRecord n (le 8 (s.get E.EUI64 e) ++ le 3 e) (p 0x12 != 0) map (p 0x13) (if p 0x12 = 0 then first else 0) false)
  let gone := (s.gone.filter (·.1 == h)).filterMap fun x =>
    let o (i : Nat) := x.2.getD (11 + i) 0
    let map := o 1 + 256 * o 2
    if map = 0 ∧ (o 0 = 0 ∨ ¬ s.on SWEEP.SILENT h) then none
    else some (sweepRecord n (x.2.take 11) (o 0 != 0) map (o 3) (if o 0 = 0 then o 4 else 0) true)
  live ++ gone

/-- SWEEP_READ (R292, R437). -/
def execSweepRead (c : Cmd) (first count addr : Nat) (s : State) : Host.Outcome State Fault Refusal :=
  if count = 0 ∨ 1024 < count then .next (s.finish c 0x21 0x12)
  else
    let l := if s.on SWEEP.HAVE c.ring then ((s.sweepRecords c.ring).drop first).take count else []
    .next (s.answer c 0x21 addr l.flatten [(24, le 4 l.length), (28, le 4 (first + l.length + (2 ^ 32 - 1)))])

end Sys2Proof.Machine
end

