-- ==== Sys2Proof/Machine/Programs.lean ====
section
/-!
DEFINITION. Hedge programs and grants (R372, R374, R390 to R393), and the walk for a wrapped INCARNATION, which insertions of commands,
threads and joins may wait for (R60).
-/

namespace Sys2Proof.Machine

open Sys2Proof

/-! ### Programs (R390, R391) -/

/-- Start a thread at a PC with its registers as R372 gives them. -/
def State.startThread (s : State) (g pc : Nat) : State :=
  let s := s.each (List.range 32) fun s i => s.clr THR.W (32 * g + i)
  let s := s.each (List.range 16) fun s i => s.clr THR.WSLOT (16 * g + i)
  let s := s.each [THR.FLAGS, THR.T, THR.EVMASK, THR.EVPEND, THR.TVEC, THR.EPC, THR.SEG, THR.TIMER_ON, THR.WAIT] fun s F => s.clr F g
  (s.put THR.PC g pc).putThread g 1

/-- Start Hedge h's program thread k: w1 holds its number and w2 the Hedge. -/
def State.startProgram (s : State) (h k pc : Nat) : State :=
  let g := progThread h k
  ((s.startThread g pc).setW g 1 k).setW g 2 h

/-- Halt Hedge h's program threads that run or wait; the spec states no ECAUSE and no EVAL for such a halt. With `post`, each is
reported (R388, R391). -/
def State.haltPrograms (s : State) (h : Nat) (post : Bool) : State :=
  s.each [0, 1, 2, 3, 4, 5] fun s k =>
    let g := progThread h k
    if s.threadState g = 1 ∨ s.threadState g = 2 then
      let (x, s) := s.draw
      let (y, s) := s.draw
      let pc := s.get THR.PC g
      let s := (s.stopThread g pc (x % 2 ^ 8) (y % 2 ^ 32)).progHalted h g
      s.when post (·.event h 0x0C [(16, [k]), (17, [x % 2 ^ 8]), (20, le 4 y), (24, le 4 pc)])
    else s

/-- Where quarter q of instruction memory, and of shared memory, lies for Hedge h. -/
def codeAt (h : Nat) : Nat := 0x40000 * (14 + h / 4) + 0x10000 * (h % 4)
def sharedAt (h : Nat) : Nat := 0x100000 * (14 + h / 4) + 0x40000 * (h % 4)

/-- Zero h's quarter of instruction and cluster memory and its parts of local memory, from `lo` on (R391, R393). -/
def State.clearProgram (s : State) (h lo : Nat) : State :=
  let e := 112 + 2 * h
  let l := memZero s.mem.localMem (0x10000 * e + lo) (0x10000 * e + 0x10000)
  { s with
    mem.instrMem := memZero s.mem.instrMem (codeAt h) (codeAt h + 0x10000)
    mem.sharedMem := memZero s.mem.sharedMem (sharedAt h) (sharedAt h + 0x40000)
    mem.localMem := memZero l (0x10000 * (e + 1) + lo) (0x10000 * (e + 1) + 0x10000) }

/-- No program of h is loaded. -/
def State.unload (s : State) (h : Nat) : State :=
  { (s.put ENGH.PROG_STATE h 0) with progs := s.progs.filter (·.1 != h), images := s.images.filter (·.1 != h) }

/-- Whether the fields of an image are as R390 lays them out for Hedge h. -/
def State.imageOk (s : State) (h : Nat) (m : List Nat) : Bool :=
  let code := oct m 8 4
  let data := oct m 12 4
  let shared := oct m 16 4
  oct m 0 4 == 0x50525458 && oct m 4 1 == 1 && oct m 5 1 == h && oct m 6 1 < 64 && oct m 7 1 == 0 && code % 4 == 0 && 4 ≤ code
    && code ≤ 65536 && data ≤ 49152 && shared ≤ 262144 && oct m 20 2 ≤ s.get ENG.API_VERSION && oct m 22 2 == 0 && oct m 48 16 == 0
    && m.length == 64 + code + data + shared + 96

/-- Whether an image's signature holds under anchor 0 of Hedge h (R361). -/
def State.imageSigned (s : State) (h : Nat) (m : List Nat) : Bool :=
  let key := (List.range 24).flatMap fun i => le 4 (s.get TRUST.ANCHOR0 (64 * h + i))
  s.on TRUST.CTL_VALID0 h && Config.p384Verify key (fix 48 (Config.sha384 (m.take (m.length - 96)))) (m.drop (m.length - 96))

/-- Steps 4 to 7 of R391 on a checked image: memories, the read-back (`good` says that it holds), the kept image, the threads. -/
def State.runImage (s : State) (h : Nat) (m : List Nat) (good : Bool) : State :=
  let s := s.clearProgram h 0x4000
  let code := oct m 8 4
  let data := (m.drop (64 + code)).take (oct m 12 4)
  let e := 112 + 2 * h
  let s := { s with
    mem.instrMem := memWriteL s.mem.instrMem (codeAt h) ((m.drop 64).take code)
    mem.localMem := memWriteL (memWriteL s.mem.localMem (0x10000 * e + 0x4000) data) (0x10000 * (e + 1) + 0x4000) data
    mem.sharedMem := memWriteL s.mem.sharedMem (sharedAt h) ((m.drop (64 + code + oct m 12 4)).take (oct m 16 4)) }
  let s := s.unload h
  if !good then s
  else
    let s := { s with progs := s.progs ++ [(h, fix 48 (Config.sha384 m))], images := s.images ++ [(h, m)] }
    let s := ((s.put ENGH.PROG_STATE h 2).clr ENGH.PROG_HALTED h).bump ENGH.LOAD_CNT h
    s.each [0, 1, 2, 3, 4, 5] fun s k =>
      if bit (oct m 6 1) k then s.startProgram h k (oct m (24 + 4 * k) 4) else s.putThread (progThread h k) 0

/-- PROG_LOAD; `good` says that the read-back of step 6 matches. -/
def execProgLoad (c : Cmd) (off len : Nat) (good : Bool) (s : State) : Host.Outcome State Fault Refusal :=
  let h := c.ring
  match s.grantRead h off len with
  | none => .next (s.finish c 0x4A 0x13)
  | some m =>
    if !s.imageOk h m then .next (s.finish c 0x4A 0x12)
    else
      let s := s.when (s.on TRUST.CTL_VALID0 h) (·.bump SEC.ECC_CNT)
      if !s.imageSigned h m then .next (s.finish c 0x4A 0x0D)
      else .next (((s.haltPrograms h false).runImage h m good).finish c 0x4A (if good then 0 else 0x0D))

/-- PROG_STOP. -/
def execProgStop (c : Cmd) (s : State) : Host.Outcome State Fault Refusal :=
  .next (((s.haltPrograms c.ring true).unload c.ring).finish c 0x4B 0)

/-- PROG_SIGNAL: NOTICE in the named program threads. -/
def execProgSignal (c : Cmd) (mask : Nat) (s : State) : Host.Outcome State Fault Refusal :=
  if 64 ≤ mask then .next (s.finish c 0x4C 0x12)
  else
    let s := s.each ([0, 1, 2, 3, 4, 5].filter (bit mask)) fun s k => s.edge (progThread c.ring k) 20
    .next (s.finish c 0x4C 0)

/-! ### Grants (R374, R396) -/

/-- Whether [a, a + n) and [b, b + m) share an octet. -/
def meets (a n b m : Nat) : Bool := n != 0 && m != 0 && a < b + m && b < a + n

/-- Whether a DRAM grant of h may be [b, b + n). -/
def State.dramGrantOk (s : State) (h b n : Nat) : Bool :=
  b % 2 ^ 24 == 0 && n % 2 ^ 24 == 0 && !meets b n (s.get THK.TABLE_BASE) (132 * 2 ^ 20)
    && !meets b n (s.get DDR.STEWARD_BASE) (2 ^ 26)
    && (List.range 8).all fun k => k == h || !meets b n (s.get ENGH.DRAM_BASE k) (s.get ENGH.DRAM_SIZE k)

/-- Whether an SRAM grant of h may be [b, b + n). -/
def State.sramGrantOk (s : State) (h b n : Nat) : Bool :=
  b % 4096 == 0 && n % 4096 == 0
    && (List.range 8).all fun k => k == h || !meets b n (s.get ENGH.SRAM_BASE k) (s.get ENGH.SRAM_SIZE k)

/-- ENGH_GRANT_WRITE: a privileged write at offset `off` of ENGH[h]; the low words at 0x08 and 0x10 take the high words written before
them (R3). It is refused while a program is loaded, and where grants or the Thicket would meet. -/
def execEnghGrantWrite (r : Req) (h off v : Nat) (s : State) : Host.Outcome State Fault Refusal :=
  s.onPriv r (ENGH.SRAM_BASE.addr h + off) fun s =>
  let v32 := v % 2 ^ 32
  let at_ := 0xA08000 + 0x40 * h + off
  if 8 ≤ h then .next s
  else if off = 0x0C ∨ off = 0x14 then .next (s.put X64.PEND (x64 r (at_ - 4)) v32)
  else
    let bad := s.set ENG.EVENT_BAD_CFG
    let set (ok : Bool) (F : Fld) (x : Nat) : State := if ok && s.get ENGH.PROG_STATE h == 0 then s.put F h x else bad
    let x := s.join64 r at_ v
    let b := s.get ENGH.SRAM_BASE h
    let n := s.get ENGH.SRAM_SIZE h
    let db := s.get ENGH.DRAM_BASE h
    let dn := s.get ENGH.DRAM_SIZE h
    .next (match off with
      | 0x00 => set (s.sramGrantOk h (v32 % 2 ^ 26) n) ENGH.SRAM_BASE v32
      | 0x04 => set (s.sramGrantOk h b (v32 % 2 ^ 26)) ENGH.SRAM_SIZE v32
      | 0x08 => set (s.dramGrantOk h x dn) ENGH.DRAM_BASE x
      | 0x10 => set (s.dramGrantOk h db x) ENGH.DRAM_SIZE x
      | _ => s)

/-! ### The walk for a wrapped INCARNATION (R60) -/

/-- Try a waiting insertion again; none when it must go on waiting. -/
def State.insertAgain (s : State) (x : InsWait) : Option State :=
  match s.insertNode x.hedge x.block x.evicted with
  | (.wait _, _) => none
  | (r, s) =>
    let s := match x.cmd with
      | some c =>
        match r with
        | .done e => s.complete c 0x10 0 0 0 [(24, le 4 e)]
        | .existed e => s.complete c 0x10 0 0x10 0 [(24, le 4 e)]
        | .quota => s.finish c 0x10 0x05
        | _ => s.finish c 0x10 0x12
      | none => s
    let s := match x.thread with
      | some (g, rd, slot, nowin) => if s.waiting g 6 then (s.tinsDone g rd slot (!nowin) r).resume g else s
      | none => s
    some (match x.join, r with
      | some (_, rep, l), .done e =>
        let (_, k, s) := s.installKey x.hedge x.block.eui
        s.joinedNew x.hedge e rep k l
      | _, _ => s)

/-- Serve the waiting insertions in order, up to one that must go on waiting. -/
def State.insertWaiting (s : State) : List InsWait → State
  | [] => { s with insWait := [] }
  | x :: t =>
    match s.insertAgain x with
    | none => { s with insWait := x :: t }
    | some s' => s'.insertWaiting t

/-- INCARNATION_WALK_END: the walk for index e has cleared every route to it; the index is in use again and waiting insertions go on. -/
def execIncarnationWalkEnd (e : Nat) (s : State) : Host.Outcome State Fault Refusal :=
  if !s.on THKX.WALK e then .next s
  else
    let stale := s.usedEntries.filter fun n => s.get E.NEXT_HOP n == e && s.on E.NH_VALID n
    let s := s.each stale fun s n => (s.wrE E.NH_VALID n 0).writeElig n
    let s := s.clr THKX.WALK e
    .next (s.insertWaiting s.insWait)

end Sys2Proof.Machine
end

