-- ==== Sys2Proof/Machine/Traffic.lean ====
section
/-!
DEFINITION. The commands and events of the traffic manager (spec/09_traffic_manager.md) over the machinery of Sched.lean, and the
configuration and pointer check of the FIFO fabric (R318, R321).
-/

namespace Sys2Proof.Machine

open Sys2Proof

/-! ### Meters and shapers (R305, R311, R313) -/

/-- METER_COMMIT: a write of METER[m].CMD. -/
def execMeterCommit (r : Req) (m v : Nat) (s : State) : Host.Outcome State Fault Refusal :=
  s.onBus r (METER.CMD_COMMIT.addr m) fun s =>
  .next (if m < 16384 ∧ v % 2 = 1 then s.meterCommit m else s)

/-- SHAPER_COMMIT: a write of SHAPER[n].CMD; flows its shaper holds are looked at again. -/
def execShaperCommit (r : Req) (n v : Nat) (s : State) : Host.Outcome State Fault Refusal :=
  s.onBus r (SHAPER.CMD_COMMIT.addr n) fun s =>
  .next (if n < 1024 ∧ v % 2 = 1 then (s.shCommit n).refreshAll else s)

/-- SHAPER_UNBLOCK: a blocked shaper's tokens have refilled to 0 (R311). -/
def execShaperUnblock (n : Nat) (s : State) : Host.Outcome State Fault Refusal :=
  .next (if s.on SHAPER.CFG_EN n ∧ s.on SHAPER.STATUS_BLOCKED n ∧ 0 ≤ s.shTokens n then (s.shSet n (s.shTokens n)).refreshAll else s)

/-! ### Selection (R303, R307, R308, R310) -/

/-- The backlogged aggregate of class k in output o's band with the least start tag. -/
def State.pickAgg (s : State) (o k : Nat) : Option Nat :=
  leastTag (fun a => s.get AGG.S a) (([0, 1, 2, 3, 4, 5, 6, 7].map fun h => 4 * h + k).filter fun a =>
    s.on AFLOW.BACK a && s.hedgeBand (a / 4) == s.chainBand o)

/-- The class output o serves next: Trump while it is backlogged and has a place, else by virtual time. -/
def State.pickClass (s : State) (o : Nat) : Option Nat :=
  let n := s.get OUT.STATUS_INFLIGHT o
  let room := s.get OUT.INFLIGHT_MAX o
  if (s.pickAgg o 0).isSome ∧ n < room + s.get OUT.INFLIGHT_TRUMP_EXTRA o then some 0
  else if n < room ∧ s.shPermits (32 + o) then
    leastTag (fun k => s.get OFLOW.S (4 * o + k)) ([1, 2, 3].filter fun k => s.on OFLOW.BACK (4 * o + k))
  else none

/-- OUTPUT_REQUEST: an output with a free place requests a downlink; one whose lifetime has ended completes with EXPIRED instead;
a release rewrites the queue's ELIG (R301, R303, R308). -/
def execOutputRequest (o : Nat) (s : State) : Host.Outcome State Fault Refusal :=
  let s := s.refreshAll
  if 4 ≤ o || !s.requesting o then .next s
  else
    match (s.pickClass o).bind (s.pickAgg o) with
    | none => .next s
    | some a =>
      match s.aggHead a with
      | none => .next s
      | some d => .next (if d.expiry ≤ s.mp then s.downEnd d 0x11 else (s.release d o).writeElig d.dest)

/-- QUEUE_ELIGIBLE: Mesh Phase has reached queue q's ELIG (R301). -/
def execQueueEligible (q : Nat) (s : State) : Host.Outcome State Fault Refusal :=
  .next (s.refreshOne (s.get E.HEDGE q) q)

/-- EXPIRY_SWEEP (R303). -/
def execExpirySweep (s : State) : Host.Outcome State Fault Refusal := .next s.sweepExpired

/-! ### Watches and probes (R312, R316, R317, R327) -/

/-- µs since a list became eligible; 0 for one that is not, saturating. -/
def State.listDelay (s : State) (q k : Nat) : Nat :=
  if s.on NQ.BACK (4 * q + k) then min 0xFFFFFFFF (ticksUs (s.mp - s.get NQ.SINCE (4 * q + k))) else 0

/-- DEPTH and DELAY of a watch's target. -/
def State.watchSample (s : State) (type target : Nat) : Nat × Nat :=
  let of_ (d : Option Down) : Nat := match d with | some d => s.listDelay d.dest d.cls | none => 0
  match type with
  | 0 => (s.queueDepth target, of_ (s.nextOf target))
  | 1 => (s.get AGG.DEPTH (target % 32), of_ (s.aggHead (target % 32)))
  | _ =>
    let o := target % 4
    (s.get OUT.STATUS_INFLIGHT o, (s.queues.filter fun p => s.hedgeBand p.1 == s.chainBand o && s.on TMH.CTL_EN p.1).foldl
      (fun m p => [0, 1, 2, 3].foldl (fun m k => max m (s.listDelay p.2 k)) m) 0)

/-- Whether a watch may sample its target: any for one that no Hedge owns, else a queue or an aggregate of its Hedge (R317); one that may not
takes no sample (assumption log 162). -/
def State.watchMay (s : State) (w : Nat) : Bool :=
  let h := s.get WATCH.CFG_OWNER w
  let t := s.get WATCH.CFG_TARGET w
  match s.get WATCH.CFG_TYPE w with
  | 0 => 8 ≤ h || (s.get E.STATE t != stFree && s.get E.HEDGE t == h)
  | 1 => 8 ≤ h || t % 32 / 4 == h
  | 2 => 8 ≤ h
  | _ => false

/-- WATCH_SAMPLE: watch w at the start of window n of its PERIOD. -/
def execWatchSample (w : Nat) (s : State) : Host.Outcome State Fault Refusal :=
  if 64 ≤ w || !s.on WATCH.CFG_EN w || !s.watchMay w then .next s
  else
    let n := ticksUs s.mp / max 1 (s.get WATCH.PERIOD w)
    let (depth, delay) := s.watchSample (s.get WATCH.CFG_TYPE w) (s.get WATCH.CFG_TARGET w)
    let rec_ := le 8 s.mp ++ le 4 (min 0xFFFFFFFF depth) ++ le 4 delay
    .next ({ s with mem.sram := memWriteL s.mem.sram (0x03000000 + w * 0x1000 + n % 256 * 16) rec_ }.put WATCH.HEAD w n)

/-- Whether queue q is Hedge i's, or any for the privileged probe. -/
def State.probeMay (s : State) (i q : Nat) : Bool :=
  i == 8 || (s.get E.STATE q != stFree && s.get E.HEDGE q == i)

/-- QPROBE_SEL_WRITE (R327). -/
def execQprobeSelWrite (r : Req) (i v : Nat) (s : State) : Host.Outcome State Fault Refusal :=
  s.onBus r (QPROBE.SEL_Q.addr i) fun s =>
  let q := v % 2 ^ 18
  if 9 ≤ i then .next s
  else if !s.probeMay i q then .next (s.set QPROBE.STATUS_DENIED i)
  else
    let len (k : Nat) : Nat := min 255 (s.listOf q k).length
    let s := ((s.put QPROBE.SEL_Q i q).clr QPROBE.STATUS_DENIED i).put QPROBE.STATUS_INFLIGHT i (s.flying q).length
    let s := (s.put QPROBE.DEPTH i (len 0 + 256 * len 1 + 65536 * len 2 + 16777216 * len 3)).put QPROBE.ELIG i (s.get NQ.ELIG q)
    let s := (s.put QPROBE.GROUP_ID i (s.get NQ.GROUP q)).put QPROBE.GROUP_EN i (s.get NQ.GROUP_EN q)
    let s := s.put QPROBE.DEPTH_HWM i (s.get NQ.HWM q)
    .next (if bit v 31 then s.clr NQ.HWM q else s)

/-- The code of a binding of queue q to a group shaper: 0, BAD_DESCRIPTOR for a shaper that is no group's, or ACCESS_DENIED. -/
def State.groupCode (s : State) (q id : Nat) (en : Bool) : Nat :=
  if !en then 0 else if id < 64 then 0x12 else if s.get SHAPER.CFG_OWNER id = s.get E.HEDGE q then 0 else 0x13

/-- Bind queue q, or unbind it. -/
def State.groupBind (s : State) (q id : Nat) (en : Bool) : State :=
  ((s.put NQ.GROUP q id).put NQ.GROUP_EN q (if en then 1 else 0)).refreshOne (s.get E.HEDGE q) q

/-- QPROBE_GROUP_WRITE: a refused binding is a bus error (R7, R312). -/
def execQprobeGroupWrite (r : Req) (i v : Nat) (s : State) : Host.Outcome State Fault Refusal :=
  s.onBus r (QPROBE.GROUP_ID.addr i) fun s =>
  let q := s.get QPROBE.SEL_Q i
  let id := v % 2 ^ 10
  let en := bit v 15
  if 9 ≤ i || !s.probeMay i q || s.groupCode q id en != 0 then .next (s.busErr r (0x701818 + 0x40 * i))
  else .next (((s.groupBind q id en).put QPROBE.GROUP_ID i id).put QPROBE.GROUP_EN i (if en then 1 else 0))

/-- QUEUE_CFG (R11, R312, R435). -/
def execQueueCfg (c : Cmd) (e group : Nat) (s : State) : Host.Outcome State Fault Refusal :=
  let id := group % 2 ^ 10
  let en := bit group 15
  if s.standby || s.expH c.ring 4 then .next (s.finish c 0x18 0x13)
  else if !s.named c.ring e then .next (s.finish c 0x18 0x04)
  else if s.groupCode e id en ≠ 0 then .next (s.finish c 0x18 (s.groupCode e id en))
  else .next ((s.groupBind e id en).finish c 0x18 0)

/-! ### Limits of a Hedge (R298, R299) -/

/-- TMH_CTL_WRITE: EN is refused while the Hedge's plan spans both bands. -/
def execTmhCtlWrite (r : Req) (h v : Nat) (s : State) : Host.Outcome State Fault Refusal :=
  s.onBus r (TMH.CTL_EN.addr h) fun s =>
  if 8 ≤ h then .next s
  else if v % 2 = 1 ∧ bandOf (s.planFreq h (s.get CHPLAN.COUNT h - 1)) ≠ s.hedgeBand h then .next (s.set TMH.EVENT_BAD_CFG h)
  else .next ((s.put TMH.CTL_EN h v).refreshAll)

/-- CELL_QUOTA_WRITE. -/
def execCellQuotaWrite (r : Req) (h v : Nat) (s : State) : Host.Outcome State Fault Refusal :=
  s.onPriv r (TMH.CELL_QUOTA.addr h) fun s =>
  let v := v % 2 ^ 17
  let sum := s.get TMG.CELL_SUM - s.get TMH.CELL_QUOTA h + v
  if 8 ≤ h then .next s
  else if 65536 < sum then .next (s.set TMG.EVENT_QUOTA_REFUSED)
  else .next ((s.put TMH.CELL_QUOTA h v).put TMG.CELL_SUM 0 sum)

/-! ### FIFOs (R318, R321) -/

/-- Empty a FIFO and initialise its pointers. -/
def State.fifoClear (s : State) (f : Nat) : State :=
  let req := s.txReq.filter fun x => 48 + x.chain != f
  let res := s.txRes.filter fun x => 52 + x.chain != f
  let s := { s with laneQ := s.laneQ.filter (·.lane != f), txReq := req, txRes := res,
                    gateRecs := s.gateRecs.filter fun x => 56 + x.chain != f }
  ((s.clr FIFOX.RD f).clr FIFOX.WR f).clr FIFO.STATUS_LEVEL f

/-- FIFO_CFG_WRITE: the word at offset 0, 4, 8 or 0xC of FIFO[f]. BASE, DEPTH and ESIZE keep their values while EN is 1, and a value outside
R318 is not taken; both set BAD_CFG (the model's choice of flag). Enabling empties the FIFO. -/
def execFifoCfgWrite (r : Req) (f off v : Nat) (s : State) : Host.Outcome State Fault Refusal :=
  s.onBus r (FIFO.CFG_EN.addr f + off) fun s =>
  let en := s.on FIFO.CFG_EN f
  let bad := s.set FIFO.EVENT_BAD_CFG f
  if 2048 ≤ f then .next s
  else
    match off with
    | 0 =>
      let e := bits v 1 2
      let s := if e = s.get FIFO.CFG_ESIZE f then s else if en ∨ e = 3 then bad else s.put FIFO.CFG_ESIZE f e
      let s := s.putIf (viewOf r == 0) FIFO.CFG_OWNER f (bits v 24 4)
      .next ((s.when (!en && v % 2 == 1) (·.fifoClear f)).put FIFO.CFG_EN f v)
    | 4 => .next (if en ∨ v % 64 ≠ 0 then bad else s.put FIFO.BASE f v)
    | 8 => .next (if en ∨ ¬ (List.range 14).any (fun k => v % 2 ^ 16 == 4 * 2 ^ k) then bad else s.put FIFO.DEPTH f v)
    | 0xC => .next (s.put FIFO.CT_THR f v)
    | _ => .next s

/-- FIFO_PTR_CHECK: the two copies of FIFO f's pointers are compared; on a mismatch it freezes and the fault is reported. -/
def execFifoPtrCheck (f : Nat) (same : Bool) (s : State) : Host.Outcome State Fault Refusal :=
  if same || 2048 ≤ f then .next s
  else
    let h := s.get FIFO.CFG_OWNER f
    let s := (s.set FIFO.STATUS_FROZEN f).set FIFO.EVENT_PTR_FAULT f
    .next (if h < 8 then s.fault 0x0601 f 3 (some h) f else s.fault 0x0601 f 4 none f)

end Sys2Proof.Machine
end

