-- ==== Sys2Proof/Machine/HostIf.lean ====
section
/-!
DEFINITION. Host ports (spec/13_hedges_and_hosts.md): attachments (R424 to R426), rings and doorbells (R427 to R431), the fetching and the
admission of commands (R432 to R435, R443, R444), the data-path commands (R436), events (R439) and received frames (R440 to R442).
-/

namespace Sys2Proof.Machine

open Sys2Proof

/-! ### Attachments (R424 to R426) -/

/-- The PCIe port that carries function f (R425). -/
def State.fnPort (s : State) (f : Nat) : Nat := if s.on HOSTG.CFG_BIFUR then f / 4 else 0

/-- The Hedge attached to function f, by the bindings in force. -/
def State.fnHedge (s : State) (f : Nat) : Option Nat := (List.range 8).find? fun h => s.attach h == 1 && s.boundFn h == f

/-- Whether Hedge h's binding clashes with another's, or names no attachment of R424. -/
def State.bindBad (s : State) (h : Nat) : Bool :=
  s.get HBIND.CTL_ATTACH h == 3 || (List.range 8).any fun k => k != h && s.get HBIND.CTL_ATTACH k == s.get HBIND.CTL_ATTACH h &&
    ((s.get HBIND.CTL_ATTACH h == 1 && s.get HBIND.CTL_FN k == s.get HBIND.CTL_FN h)
      || (s.get HBIND.CTL_ATTACH h == 2 && s.ownIp k == s.ownIp h && s.get HBIND.PORTS_LOCAL_PORT k == s.get HBIND.PORTS_LOCAL_PORT h))

/-- The fields of a binding whose change starts a Hedge reset. -/
def State.binding (s : State) (h : Nat) : List Nat :=
  [HBIND.CTL_ATTACH, HBIND.CTL_FN, HBIND.CTL_ETH_PORT, HBIND.PORTS_LOCAL_PORT, HBIND.PORTS_PEER_PORT, HBIND.OWN_IP6_W0, HBIND.OWN_IP6_W1,
    HBIND.OWN_IP6_W2, HBIND.OWN_IP6_W3, HBIND.PEER_IP6_W0, HBIND.PEER_IP6_W1, HBIND.PEER_IP6_W2, HBIND.PEER_IP6_W3, HBIND.PEER_ID,
    HBIND.NEXT_MAC].map fun F => s.get F h

/-- The registers of HBIND[h] after a write at offset `off` (R454); a 64-bit one changes with its low word (R3). -/
def State.bindWord (s : State) (r : Req) (h off v : Nat) : State :=
  let at_ := 0xB01000 + 0x80 * h + off
  match off with
  | 0x00 => (((s.put HBIND.CTL_ATTACH h v).put HBIND.CTL_FN h (bits v 4 3)).put HBIND.CTL_ETH_PORT h (bits v 8 1)).put HBIND.CTL_TUN_SEC h
      (bits v 9 1)
  | 0x04 => (s.put HBIND.PORTS_LOCAL_PORT h v).put HBIND.PORTS_PEER_PORT h (bits v 16 16)
  | 0x08 => (s.put HBIND.KEYS_TUN_TX_KEY h v).put HBIND.KEYS_TUN_RX_KEY h (bits v 16 10)
  | 0x10 => s.put HBIND.OWN_IP6_W0 h v
  | 0x14 => s.put HBIND.OWN_IP6_W1 h v
  | 0x18 => s.put HBIND.OWN_IP6_W2 h v
  | 0x1C => s.put HBIND.OWN_IP6_W3 h v
  | 0x20 => s.put HBIND.PEER_IP6_W0 h v
  | 0x24 => s.put HBIND.PEER_IP6_W1 h v
  | 0x28 => s.put HBIND.PEER_IP6_W2 h v
  | 0x2C => s.put HBIND.PEER_IP6_W3 h v
  | 0x30 => s.put HBIND.PEER_ID h (s.join64 r at_ v)
  | 0x38 => s.put HBIND.NEXT_MAC h (s.join64 r at_ v)
  | 0x34 | 0x3C => s.put X64.PEND (x64 r (at_ - 4)) (v % 2 ^ 32)
  | _ => s

/-- A state in which Hedge h's binding has been written keeps the one in force until then (R424). -/
def State.keepBinding (s : State) (h : Nat) (t : State) : State :=
  if s.on HST.REBIND h then t
  else
    (((t.put HST.OLD_ATTACH h (s.get HBIND.CTL_ATTACH h)).put HST.OLD_FN h (s.get HBIND.CTL_FN h)).put HST.OLD_ETH h
      (s.get HBIND.CTL_ETH_PORT h)).put HST.OLD_IP h (s.ownIp h)

/-- HBIND_WRITE: a change of the binding starts a Hedge reset with cause REBIND, or the write is ignored with BAD_CFG (R424); HRESET in
CTL starts one with cause PRIV (R454). -/
def execHbindWrite (r : Req) (h off v : Nat) (s : State) : Host.Outcome State Fault Refusal :=
  s.onBus r (HBIND.CTL_ATTACH.addr h + off) fun s =>
  let t := s.bindWord r h off v
  if 8 ≤ h then .next s
  else if t.binding h ≠ s.binding h ∧ t.bindBad h then .next (s.set HOSTG.EVENT_BAD_CFG)
  else
    let t := t.when (decide (t.binding h ≠ s.binding h)) fun t => ((s.keepBinding h t).set HST.REBIND h).hedgeReset h 5
    .next (t.when (off == 0 && bit v 16) (·.hedgeReset h 1))

/-- PCIE_FLR: a function-level reset of function f. -/
def execPcieFlr (f : Nat) (s : State) : Host.Outcome State Fault Refusal :=
  match s.fnHedge f with
  | some h => .next (s.hedgeReset h 2)
  | none => .next s

/-- Set bus master enable of function f, and what HOSTH shows of it. -/
def State.busMaster (s : State) (f v : Nat) : State :=
  let s := s.put HST.FN_BM f v
  let s := s.when (s.get HOSTG.CFG_PRIV_FN == f) (·.put HOSTH.STATUS_BM 8 v)
  match s.fnHedge f with
  | some h => s.put HOSTH.STATUS_BM h v
  | none => s

/-- PCIE_PERST: PERST of port p; the link and configuration space return to their reset values, and the link trains with a width, a
speed and inverted lanes (R425, R426, R477). -/
def execPciePerst (p width speed pol : Nat) (s : State) : Host.Outcome State Fault Refusal :=
  if 2 ≤ p then .next s
  else
    let s := (s.addCause (10 + p)).bump HOSTG.PERST_CNT
    let s := ((s.put HOSTG.LINK_WIDTH p width).put HOSTG.LINK_SPEED p speed).put HOSTG.LINK_POL_INV p pol
    let fs := (List.range 8).filter fun f => s.fnPort f == p
    .next (s.each fs fun s f =>
      let s := s.busMaster f 0
      match s.fnHedge f with
      | some h => (s.put HBIND.STATUS_UP h (if width = 0 then 0 else 1)).hedgeReset h 3
      | none => s)

/-- BUS_MASTER_CHANGE: bus master enable of function f. -/
def execBusMasterChange (f : Nat) (on : Bool) (s : State) : Host.Outcome State Fault Refusal :=
  if 8 ≤ f then .next s
  else
    let s := s.busMaster f (if on then 1 else 0)
    let s := s.when (s.get HOSTG.CFG_PRIV_FN == f) (·.cplDrain 8)
    .next (match s.fnHedge f with
      | some h => s.cplDrain h
      | none => s)

/-! ### Rings and doorbells (R427 to R431) -/

/-- Clear CMD_EN: at once when every posted command has been fetched, else once it has (R431). -/
def State.cmdOff (s : State) (i : Nat) : State :=
  if s.ringHeld i 0 = 0 then (s.clr HOSTH.CTL_CMD_EN i).clr HST.DRAIN i else s.set HST.DRAIN i

/-- DMA_ERROR of a DMA request of port i (R426). -/
def execDmaError (i : Nat) (s : State) : Host.Outcome State Fault Refusal :=
  if 9 ≤ i then .next s
  else
    let s := (s.set HOSTH.EVENT_DMA_ERR i).irq i 3
    let s := s.when (s.on HOSTH.CTL_CMD_EN i) (·.cmdOff i)
    .next (((s.clr HOSTH.CTL_CPL_EN i).clr HOSTH.CTL_EV_EN i).clr HOSTH.CTL_RX_EN i)

/-- A doorbell that is ignored (R428). -/
def State.doorbellBad (s : State) (i : Nat) : State := (s.set HOSTH.EVENT_DOORBELL_BAD i).irq i 3

/-- The doorbell of a ring the host fills: PROD, neither backwards nor more than 2^SIZE ahead of CONS. -/
def State.prodOk (s : State) (i r v : Nat) : Bool :=
  let cons := s.get HOSTH.RING_CONS (rix i r)
  decide (s.ringHeld i r ≤ (v + 2 ^ 32 - cons) % 2 ^ 32) && decide ((v + 2 ^ 32 - cons) % 2 ^ 32 ≤ s.ringSize i r)

/-- The doorbell of a ring the host empties: CONS, neither backwards nor beyond PROD. -/
def State.consOk (s : State) (i r v : Nat) : Bool :=
  decide ((s.get HOSTH.RING_PROD (rix i r) + 2 ^ 32 - v) % 2 ^ 32 ≤ s.ringHeld i r)

/-- CMD_DOORBELL: the commands it covers are posted now (R428); ignored in reset (R448). -/
def execCmdDoorbell (r : Req) (i v : Nat) (s : State) : Host.Outcome State Fault Refusal :=
  s.onBus r (HOSTH.RING_PROD.addr (128 * i)) fun s =>
  let v := v % 2 ^ 32
  if 9 ≤ i || s.on HOSTH.STATUS_IN_RESET i then .next s
  else if !s.prodOk i 0 v then .next (s.doorbellBad i)
  else .next ({ s with posted := s.posted ++ [(i, v, s.mp)] }.put HOSTH.RING_PROD (rix i 0) v)

/-- RX_DOORBELL. -/
def execRxDoorbell (r : Req) (i v : Nat) (s : State) : Host.Outcome State Fault Refusal :=
  s.onBus r (HOSTH.RING_PROD.addr (128 * i + 3)) fun s =>
  let v := v % 2 ^ 32
  if 9 ≤ i || s.on HOSTH.STATUS_IN_RESET i then .next s
  else if !s.prodOk i 3 v then .next (s.doorbellBad i)
  else .next (s.put HOSTH.RING_PROD (rix i 3) v)

/-- CPL_DOORBELL: completions that wait take the places it frees. -/
def execCplDoorbell (r : Req) (i v : Nat) (s : State) : Host.Outcome State Fault Refusal :=
  s.onBus r (HOSTH.RING_CONS.addr (128 * i + 1)) fun s =>
  let v := v % 2 ^ 32
  if 9 ≤ i || s.on HOSTH.STATUS_IN_RESET i then .next s
  else if !s.consOk i 1 v then .next (s.doorbellBad i)
  else .next ((s.put HOSTH.RING_CONS (rix i 1) v).cplDrain i)

/-- EV_DOORBELL. -/
def execEvDoorbell (r : Req) (i v : Nat) (s : State) : Host.Outcome State Fault Refusal :=
  s.onBus r (HOSTH.RING_CONS.addr (128 * i + 2)) fun s =>
  let v := v % 2 ^ 32
  if 9 ≤ i || s.on HOSTH.STATUS_IN_RESET i then .next s
  else if !s.consOk i 2 v then .next (s.doorbellBad i)
  else .next (s.put HOSTH.RING_CONS (rix i 2) v)

/-- Write one ring enable: enabling zeroes the ring's indices (R427), clearing acts as R431. -/
def State.ringEnable (s : State) (i r : Nat) (on : Bool) : State :=
  let was := s.on (ringEn r) i
  if on then
    let n := rix i r
    let s := if was then s else ((s.clr HOSTH.RING_PROD n).clr HOSTH.RING_CONS n).clr HOSTH.RING_FETCH n
    let s := s.when (r == 0) fun s => if was then s.clr HST.DRAIN i else { s with posted := s.posted.filter (·.1 != i) }
    s.set (ringEn r) i
  else if r = 0 then (if was then s.cmdOff i else s)
  else s.clr (ringEn r) i

/-- A write of HOSTH[i].CTL (R431, R448, R455): in reset the enables stay clear, and the privileged rings have no reset of their own. -/
def State.hostCtl (s : State) (i v : Nat) : State :=
  let s := s.put HOSTH.CTL_TRUMP_NOW i (bits v 9 1)
  let s := if s.on HOSTH.STATUS_IN_RESET i then s
    else s.each [0, 1, 2, 3] fun s r => s.ringEnable i r (bit v r)
  let s := s.cplDrain i
  s.when (bit v 8 && i != 8) (·.hedgeReset i 0)

/-- RING_CTL_WRITE: a write of HOSTH[i].CTL. -/
def execRingCtlWrite (r : Req) (i v : Nat) (s : State) : Host.Outcome State Fault Refusal :=
  s.onBus r (HOSTH.CTL_CMD_EN.addr i) fun s => .next (if 9 ≤ i then s else s.hostCtl i v)

/-- CMD_RING_DRAIN_DONE (R431). -/
def execCmdRingDrainDone (i : Nat) (s : State) : Host.Outcome State Fault Refusal :=
  .next (if s.on HST.DRAIN i ∧ s.ringHeld i 0 = 0 then s.cmdOff i else s)

/-- IRQ_COALESCE_TIMEOUT: IRQ.TIME has passed since the first entry pending on vector v of port i (R430). -/
def execIrqCoalesceTimeout (i v : Nat) (s : State) : Host.Outcome State Fault Refusal :=
  let n := 4 * i + v
  if 9 ≤ i ∨ 4 ≤ v ∨ s.get HST.IRQ_PEND n = 0 ∨ ¬ ticksGeUs (s.mp - s.get HST.IRQ_AT n) (s.get HOSTH.IRQ_TIME i) then .next s
  else .next ((s.bump HST.MSIX_CNT n).clr HST.IRQ_PEND n)

/-! ### Descriptors (R432, R434, R435) -/

/-- Who carries a command out. -/
inductive DescRoute where
  | front
  | steward
  | privileged
  deriving DecidableEq, Repr

/-- The route, the FLAGS bits and the fields (octet and width in bits) of an opcode's descriptor. -/
def descOf (op : Nat) : Option (DescRoute × Nat × List (Nat × Nat)) :=
  match op with
  | 0x01 => some (.front, 0x1F, [(8, 64), (16, 18), (20, 32), (24, 16), (26, 8), (27, 8), (28, 2), (32, 64), (40, 192)])
  | 0x02 => some (.front, 0x11, [(14, 16), (20, 32), (24, 16), (28, 2), (32, 64), (40, 192)])
  | 0x03 => some (.front, 1, [])
  | 0x04 | 0x05 => some (.front, 1, [(8, 64), (16, 64), (24, 32)])
  | 0x10 => some (.front, 1, [(8, 192)])
  | 0x11 | 0x14 | 0x15 | 0x16 | 0x22 | 0x23 | 0x24 => some (.front, 1, [(8, 32)])
  | 0x12 => some (.front, 1, [(8, 32), (12, 1), (16, 64)])
  | 0x13 => some (.front, 1, [(8, 32), (12, 10), (14, 16), (16, 8), (17, 8), (18, 8), (19, 8), (20, 16), (24, 64)])
  | 0x17 => some (.front, 1, [(8, 8), (12, 32), (16, 64)])
  | 0x18 => some (.front, 1, [(8, 32), (12, 16)])
  | 0x19 => some (.front, 1, [(8, 8), (12, 32), (16, 32), (24, 64)])
  | 0x20 => some (.front, 1, [(8, 8), (10, 16), (12, 8), (13, 1)])
  | 0x21 => some (.front, 1, [(8, 32), (12, 32), (16, 64)])
  | 0x40 => some (.steward, 1, [(8, 32), (12, 16), (14, 16), (16, 8), (17, 1), (20, 32), (24, 64), (32, 64), (40, 64)])
  | 0x41 => some (.steward, 1, [(8, 16), (10, 16), (12, 8), (13, 8), (16, 16), (24, 64)])
  | 0x42 => some (.steward, 1, [(8, 16), (10, 16), (12, 8), (13, 8), (14, 8), (15, 8), (24, 64)])
  | 0x43 | 0x44 => some (.steward, 1, [(8, 16)])
  | 0x45 | 0x48 => some (.steward, 1, [(8, 32)])
  | 0x46 => some (.steward, 1, [(8, 8), (9, 1), (24, 64)])
  | 0x47 => some (.steward, 1, [(8, 16), (16, 256), (48, 64)])
  | 0x49 | 0x4B | 0x4D => some (.steward, 1, [])
  | 0x4A => some (.steward, 1, [(8, 64), (16, 32)])
  | 0x4C => some (.steward, 1, [(8, 6)])
  | 0x4E => some (.steward, 1, [(8, 8)])
  | 0x4F | 0x50 => some (.steward, 1, [(8, 8), (9, 8), (16, 64)])
  | 0x70 | 0x72 => some (.privileged, 1, [(8, 8)])
  | 0x71 => some (.privileged, 1, [(8, 32)])
  | 0x73 => some (.privileged, 1, [(8, 64)])
  | 0x74 => some (.privileged, 3, [(8, 64), (16, 32)])
  | 0x75 => some (.privileged, 1, [(8, 64), (16, 32), (20, 1), (21, 8)])
  | 0x76 => some (.privileged, 3, [(8, 64), (16, 32), (20, 8), (24, 32)])
  | _ => none

/-- Whether a descriptor has a non-zero bit that its opcode does not name (R2, R432, R435). -/
def descReserved (l : List Nat) (flags : Nat) (fs : List (Nat × Nat)) : Bool :=
  let v := leVal l
  let named := ((0, 8) :: (4, 32) :: fs).foldl (fun m p => Nat.lor m ((2 ^ p.2 - 1) * 2 ^ (8 * p.1))) (flags * 2 ^ 8)
  Nat.lor v named != named

/-- The code that ends a descriptor on ring i before it is carried out, if one does: 0 none (R434, R540). The privileged rings serve the
privileged opcodes and NOP; in the safe state SCOREPAD_READ and CAL_EXPORT only. -/
def State.descCode (s : State) (i : Nat) (l : List Nat) : Nat :=
  let op := l.headD 0
  match descOf op with
  | none => 0x12
  | some (route, flags, fs) =>
    if i = 8 ∧ s.get FLT.STATUS_STATE = 2 ∧ op ≠ 0x73 ∧ op ≠ 0x76 then 0x14
    else if route == .privileged && i != 8 then 0x13
    else if i = 8 ∧ route ≠ .privileged ∧ op ≠ 0x03 then 0x13
    else if descReserved l flags fs then 0x12
    else 0

/-! ### Fetching and admission (R433, R443, R444) -/

/-- The instant at which the command at index x of port i's command ring was posted. -/
def State.postedAt (s : State) (i x : Nat) : Nat :=
  match s.posted.find? fun p => p.1 == i && decide ((p.2.1 + 2 ^ 32 - (x + 1)) % 2 ^ 32 < 2 ^ 31) with
  | some p => p.2.2
  | none => s.mp

/-- The next command of a source: port i, or 16 + h the programs of Hedge h; with its data area and the instant it was posted. -/
def State.nextCmd (s : State) (src : Nat) : Option (List Nat × List Nat × Nat) :=
  if 16 ≤ src then
    let f := progFifo (src - 16) - 1
    if s.get FIFO.STATUS_LEVEL f = 0 ∨ s.on FIFO.STATUS_FROZEN f then none else some (fix 64 (s.fifoHead f), [], s.mp)
  else if src ≠ 8 ∧ s.get HBIND.CTL_ATTACH src = 2 then (s.tunCmds.find? (·.hedge == src)).map fun x => (x.octets, x.data, x.at_)
  else if s.ringUp src 0 && s.ringHeld src 0 != 0 then
    let x := s.get HOSTH.RING_CONS (rix src 0)
    some (s.hostRead src (s.ringAddr src 0 x) 64, [], s.postedAt src x)
  else none

/-- Take that command from its source: CONS moves on, in the Tunnel too, whose commands it counts (R449). -/
def State.cmdTaken (s : State) (src : Nat) : State :=
  if 16 ≤ src then s.fifoPop (progFifo (src - 16) - 1)
  else
    let x := s.get HOSTH.RING_CONS (rix src 0) + 1
    let s := s.put HOSTH.RING_CONS (rix src 0) x
    if src ≠ 8 ∧ s.get HBIND.CTL_ATTACH src = 2 then
      match s.tunCmds.find? (·.hedge == src) with
      | some y => { s with tunCmds := s.tunCmds.erase y }
      | none => s
    else { s with posted := s.posted.filter fun p => !(p.1 == src && p.2.1 == x % 2 ^ 32) }.shadow src 0 (x % 2 ^ 32)

/-- The octets that fetching a descriptor brings in besides itself, which the ingress shaper charges: a payload's (R312). -/
def descPayload (l : List Nat) : Nat :=
  if (l.headD 0 = 1 ∨ l.headD 0 = 2) ∧ ¬ bit (l.getD 1 0) 4 then oct l 24 2 else 0

/-- The hint of a refused admission, µs (R443); before a first service the mean is a free value (assumption log 3). -/
def State.retryHint (s : State) (i : Nat) : Nat × State :=
  let l := (s.svcTimes.filter (·.1 == i)).map (·.2)
  let n := ((List.range 9).filter fun k => s.get HOSTH.ADMIN_LEVEL k != 0).length
  let (k, s) := if l = [] then s.draw else (l.sum / l.length, s)
  (min 10000000 (max 1000 (k * n)), s)

/-- The commands that may still end with BUSY_RETRY when they are carried out; those report ACCEPTED only once they have not (R8, R284, R290,
R356). -/
def busyLater (op : Nat) : Bool := op == 0x20 || op == 0x40 || op == 0x49

/-- COMMAND_FETCH: the front end starts the next command of port i, or with 16 + h of the programs of Hedge h: it is checked, recorded in the
ledger, and admitted or refused; the command's own row carries it out (R392, R432 to R434, R443, R451). -/
def execCommandFetch (src : Nat) (s : State) : Host.Outcome State Fault Refusal :=
  let i := src % 16
  if (8 < src ∧ src < 16) || 24 ≤ src || s.on HOSTH.STATUS_IN_RESET i || !s.on BOOT.STATUS_READY
      || s.get HOSTH.OUTSTANDING_MAX i ≤ s.get HOSTH.OUTSTANDING_NOW i || (src < 8 && !s.shPermits (44 + i)) then .next s
  else
    match s.nextCmd src with
    | none => .next s
    | some (l, data, at_) =>
      let op := l.headD 0
      let x := if src = i then s.get HOSTH.RING_CONS (rix i 0) else 0xFFFFFFFF
      let c : Cmd := ⟨i, oct l 4 4, x, bit (l.getD 1 0) 0⟩
      let s := (s.cmdTaken src).when (decide (src < 8)) fun s => s.shCharge (44 + i) (s.shCost (44 + i) 0 (64 + descPayload l))
      let s := (s.bump HOSTH.CMD_CNT i).bump HOSTH.OUTSTANDING_NOW i
      let code := s.descCode i l
      let adm := match descOf op with
        | some (.front, _) | none => false
        | _ => code == 0
      let full := adm && decide (64 ≤ s.get HOSTH.ADMIN_LEVEL i)
      let y : Started := ⟨i, x, c.tag, op, adm && !full, code == 0 && !adm, false, at_, data⟩
      let s := { s with started := s.started ++ [y] }
      if code ≠ 0 then .next (s.finish c op code)
      else if full then
        let (k, s) := s.retryHint i
        .next ((s.bump HOSTH.BUSY_CNT i).complete c op 0x02 0 k [])
      else
        let s := s.when adm (·.bump HOSTH.ADMIN_LEVEL i)
        .next (if c.want && !busyLater op then s.finish c op 0x01 else s)

/-- The administrative command of ring i that waits longest. -/
def State.adminWait (s : State) (i : Nat) : Option Started := s.started.find? fun x => x.ring == i && x.steward && !x.began

/-- STEWARD_SERVE: the privileged queue first, then the Hedges in turn, while no command runs (R444). -/
def execStewardServe (s : State) : Host.Outcome State Fault Refusal :=
  let rr := s.get HST.RR
  let order := 8 :: (List.range 8).map fun k => (rr + k) % 8
  if !s.on BOOT.STATUS_READY || (List.range 9).any fun i => s.get HST.RUN_OP i != 0 then .next s
  else
    match order.findSome? s.adminWait with
    | none => .next s
    | some x =>
      let s := { s with started := s.started.map fun y => if y = x then { x with began := true } else y }
      let s := ((s.put HST.RUN_OP x.ring x.opcode).put HST.RUN_TAG x.ring x.tag).put HST.RUN_IDX x.ring x.index
      .next ((s.put HST.RUN_AT x.ring s.mp).when (x.ring != 8) (·.put HST.RR 0 (x.ring + 1)))

/-! ### Data-path commands (R435, R436) -/

/-- The payload of a SEND or FLOOD: inline, or at its address. -/
def State.payloadOf (s : State) (c : Cmd) (flags len addr : Nat) (inline : List Nat) : List Nat :=
  if bit flags 4 then fix len inline else s.cmdData c addr len

/-- The instant from which a command's lifetime runs. -/
def State.cmdAt (s : State) (c : Cmd) : Nat :=
  match s.startedOf c with
  | some x => x.at_
  | none => s.mp

/-- Whether the fields SEND and FLOOD share are out of range. -/
def sendBad (c : Cmd) (flags life len cls : Nat) : Bool :=
  8 ≤ c.ring || life == 0 || 3600000 < life || 3 < cls || (bit flags 4 && 24 < len)

/-- Admit a downlink a command posts, or end the command (R304). -/
def State.postDown (s : State) (c : Cmd) (d : Down) : State :=
  if (famOf d.mode).isNone || psduMax d.mode < d.psduLen then s.finish c d.opcode 0x12
  else
    match s.takeIn d with
    | (none, s) => s
    | (some (code, flags), s) => s.complete c d.opcode code flags 0 (if d.opcode = 1 then s.sendResult d else []) (d.cls == 0)

/-- SEND: `flags` as R435 lays FLAGS out, `inline` octets 40 to 63. -/
def execSend (c : Cmd) (eui entry life len mode power cls flags addr : Nat) (inline : List Nat) (s : State) :
    Host.Outcome State Fault Refusal :=
  let h := c.ring
  if s.standby then .next (s.finish c 0x01 0x13)
  else if sendBad c flags life len cls then .next (s.finish c 0x01 0x12)
  else
    let (r, s) := if eui ≠ 0 then s.findAddr h (.ext eui) else (if s.named h entry then some entry else none, s)
    match r with
    | none => .next (s.finish c 0x01 0x04)
    | some e =>
      let d := s.newDown h e cls .send .link (s.payloadOf c flags len addr inline)
      let d := { d with cmd := some c, opcode := 0x01, ackReq := bit flags 1, noFlood := bit flags 2, calFull := bit flags 3,
                        autoMode := mode == 0, autoPower := power == 0x80, mode := if mode = 0 then s.get E.PHY_MODE e else mode,
                        power := if power = 0x80 then s.get E.TX_POWER e else power, expiry := s.cmdAt c + life * 2 ^ 24 / 1000 }
      .next (s.postDown c { d with psduLen := s.downLen d e ((s.panOf h).getD 0) })

/-- FLOOD. -/
def execFlood (c : Cmd) (final life len cls flags addr : Nat) (inline : List Nat) (s : State) : Host.Outcome State Fault Refusal :=
  if s.standby then .next (s.finish c 0x02 0x13)
  else if sendBad c flags life len cls ∨ final = 0xFFFE then .next (s.finish c 0x02 0x12)
  else
    let d := s.ownFlood c.ring cls final (s.payloadOf c flags len addr inline)
    .next (s.postDown c { d with cmd := some c, opcode := 0x02, expiry := s.cmdAt c + life * 2 ^ 24 / 1000 })

/-- NOP. -/
def execNop (c : Cmd) (s : State) : Host.Outcome State Fault Refusal := .next (s.finish c 0x03 0)

/-- Whether a length of MEM_WRITE or MEM_READ is in range. -/
def memLenOk (n : Nat) : Bool := 64 ≤ n && n ≤ 16777216 && n % 64 == 0

/-- MEM_WRITE: host memory into the Hedge's DRAM grant. -/
def execMemWrite (c : Cmd) (addr off len : Nat) (s : State) : Host.Outcome State Fault Refusal :=
  let h := c.ring
  if s.standby then .next (s.finish c 0x04 0x13)
  else if 8 ≤ h || !memLenOk len then .next (s.finish c 0x04 0x12)
  else if s.get ENGH.DRAM_SIZE h < off + len then .next (s.finish c 0x04 0x13)
  else .next ((s.dramWrite (s.get ENGH.DRAM_BASE h + off) (s.cmdData c addr len)).finish c 0x04 0)

/-- MEM_READ: the Hedge's DRAM grant into host memory. -/
def execMemRead (c : Cmd) (addr off len : Nat) (s : State) : Host.Outcome State Fault Refusal :=
  if 8 ≤ c.ring || !memLenOk len then .next (s.finish c 0x05 0x12)
  else
    match s.grantRead c.ring off len with
    | some l => .next (s.answer c 0x05 addr l)
    | none => .next (s.finish c 0x05 0x13)

/-- WATCH_READ: samples `first` onwards of a watch of the Hedge (R317). -/
def execWatchRead (c : Cmd) (w first count addr : Nat) (s : State) : Host.Outcome State Fault Refusal :=
  if 64 ≤ w ∨ count = 0 ∨ 256 < count then .next (s.finish c 0x19 0x12)
  else if s.get WATCH.CFG_OWNER w ≠ c.ring then .next (s.finish c 0x19 0x13)
  else .next (s.answer c 0x19 addr ((List.range count).flatMap fun k => memReadL s.mem.sram (0x03000000 + w * 0x1000 + (first + k) % 256 * 16) 16))

/-- HEDGE_RESET: completes when the reset of Hedge h ends (R434, R448). -/
def execHedgeReset (c : Cmd) (h : Nat) (s : State) : Host.Outcome State Fault Refusal :=
  if 8 ≤ h then .next (s.finish c 0x72 0x12)
  else .next (({ s with hrCmds := s.hrCmds ++ [(c, h)] }.served c).hedgeReset h 1)

/-! ### Events (R438, R439) -/

/-- Write waiting events in order while they are taken; an EVENT_LOSS takes the first place that frees (R439). -/
def State.evDrain (s : State) (h : Nat) : State :=
  let s := s.each (s.evQ.filter (·.hedge == h)) fun s x => if s.evOpen h then { s with evQ := s.evQ.erase x }.evOut x else s
  let n := s.get HST.EV_UNREP h
  if n ≠ 0 ∧ s.evHeld h < 1024 then (s.clr HST.EV_UNREP h).event h 0x14 [(16, le 4 n)] else s

/-- EV_BACKLOG_DRAIN. -/
def execEvBacklogDrain (h : Nat) (s : State) : Host.Outcome State Fault Refusal := .next (if 9 ≤ h then s else s.evDrain h)

/-! ### Received frames (R440 to R442) -/

/-- Place data into posted buffers from FETCH on, over at most n entries: the entries used (address, octets, octets placed), or none when
they run out (R441). -/
def State.rxFill (s : State) (h : Nat) : Nat → List Nat → List (Nat × List Nat × Nat) → Option (List (Nat × List Nat × Nat)) × State
  | 0, _, _ => (none, s)
  | n + 1, data, acc =>
    let f := s.get HOSTH.RING_FETCH (rix h 3)
    if f = s.get HOSTH.RING_PROD (rix h 3) then (none, s)
    else
      let a := s.ringAddr h 3 f
      let e := s.hostRead h a 64
      let part := data.take (oct e 8 2)
      let acc := acc ++ [(a, e, part.length)]
      let s := (s.hostWrite h (oct e 0 8) part).put HOSTH.RING_FETCH (rix h 3) (f + 1)
      if data.length ≤ part.length then (some acc, s) else s.rxFill h n (data.drop part.length) acc

/-- The write-back of entry k of n (R440). -/
def RxFrame.entry (x : RxFrame) (e : List Nat) (k n len : Nat) : List Nat :=
  let fl := (if k = 0 then 0x81 else 0) + (if k + 1 = n then 2 else 0) + Nat.land x.flags 0x7C
  overlay (fix 64 e) [(10, le 2 len), (12, [fl]), (13, [if k = 0 then n else 0]), (14, le 2 x.final), (20, le 4 x.meta_), (24, le 8 x.src),
    (32, if k = 0 then fix 32 x.report else List.replicate 32 0)]

/-- A frame finds no buffer or credit: it is dropped (R441, R446). -/
def State.rxNoBuf (s : State) (h : Nat) : State := (s.bump HOSTH.RX_NOBUF_DROP h).bump HST.RX_NOBUF_REP h

/-- Place a frame in posted buffers and publish it, or drop it; the egress shaper is charged with the octets written (R312, R441). -/
def State.rxRing (s : State) (x : RxFrame) : State :=
  let h := x.hedge
  let n := rix h 3
  let f0 := s.get HOSTH.RING_FETCH n
  let pay (s : State) (k : Nat) : State := s.shCharge (52 + h) (s.shCost (52 + h) 0 k)
  match s.rxFill h 65537 x.payload [] with
  | (none, s) =>
    let used := (s.get HOSTH.RING_FETCH n + 2 ^ 32 - f0) % 2 ^ 32
    let got := ((List.range used).map fun k => oct (s.hostRead h (s.ringAddr h 3 (f0 + k)) 64) 8 2).sum
    (pay (s.put HOSTH.RING_FETCH n f0) got).rxNoBuf h
  | (some l, s) =>
    let wb := (List.range l.length).zip l
    let s := s.each (wb.drop 1 ++ wb.take 1) fun s p => s.hostWrite h p.2.1 (x.entry p.2.2.1 p.1 l.length p.2.2.2)
    let s := s.put HOSTH.RING_CONS n (f0 + l.length)
    let s := (s.shadow h 3 (s.get HOSTH.RING_CONS n)).irq h 2
    pay (s.bump HOSTH.RX_DELIVERED h) (x.payload.length + 64 * l.length)

/-- Send a frame over the Tunnel for one credit, or drop it (R445, R446). -/
def State.rxTunnel (s : State) (x : RxFrame) : State :=
  let h := x.hedge
  if s.get TUN.CREDIT h = 0 ∨ s.get HOSTG.TUN_MTU < s.tunPacket h (64 + x.payload.length) then s.rxNoBuf h
  else
    let s := ((s.drop TUN.CREDIT h).tunSend h 5 (x.entry [] 0 1 x.payload.length) x.payload).bump HOSTH.RX_DELIVERED h
    s.shCharge (52 + h) (s.shCost (52 + h) 0 (64 + x.payload.length))

/-- RX_PLACE: the first frame of Hedge h that need not wait leaves the egress shaper. -/
def execRxPlace (h : Nat) (s : State) : Host.Outcome State Fault Refusal :=
  match s.rxQ.find? (·.hedge == h) with
  | none => .next s
  | some x =>
    if 8 ≤ h || !s.rxOpen h then .next s
    else
      let s := { s with rxQ := s.rxQ.erase x }.rxShow h
      .next (if s.get HBIND.CTL_ATTACH h = 2 then s.rxTunnel x else s.rxRing x)

/-- RX_HOLD_EXPIRE: frames of Hedge h that have waited UPLINK_HOLD are dropped (R442). -/
def execRxHoldExpire (h : Nat) (s : State) : Host.Outcome State Fault Refusal :=
  let late (x : RxFrame) : Bool := x.hedge == h && ticksGeUs (s.mp - x.tIn) (1000 * s.get HOSTH.UPLINK_HOLD h)
  let n := (s.rxQ.filter late).length
  .next (if n = 0 then s
    else (({ s with rxQ := s.rxQ.filter fun x => !late x }.rxShow h).bump HOSTH.RX_HOLD_DROP h n).bump HST.RX_HOLD_REP h n)

/-- RX_LOSS_REPORT (R438). -/
def execRxLossReport (h : Nat) (s : State) : Host.Outcome State Fault Refusal :=
  let a := s.get HST.RX_NOBUF_REP h
  let b := s.get HST.RX_HOLD_REP h
  let c := s.get HST.RX_BACK_REP h
  if 8 ≤ h ∨ a + b + c = 0 ∨ (s.on HST.LOSS_ON h ∧ s.mp < s.get HST.LOSS_AT h + 2 ^ 24) then .next s
  else
    let s := ((s.clr HST.RX_NOBUF_REP h).clr HST.RX_HOLD_REP h).clr HST.RX_BACK_REP h
    .next (((s.set HST.LOSS_ON h).put HST.LOSS_AT h s.mp).event h 0x13 [(16, le 4 a), (20, le 4 b), (24, le 4 c)])

/-! ### Reset requests and HEDGE_DISCARD_CNT (R448, R450) -/

/-- HOSTH_HRESET_WRITE: a write of HOSTH[h].CTL; its bit 8 starts a self-reset (R455). -/
def execHosthHresetWrite (r : Req) (h v : Nat) (s : State) : Host.Outcome State Fault Refusal :=
  s.onBus r (HOSTH.CTL_HRESET.addr h) fun s => .next (if 9 ≤ h then s else s.hostCtl h v)

/-- HBIND_HRESET_WRITE: a write of 1 to HBIND[h].CTL.HRESET (R454). -/
def execHbindHresetWrite (r : Req) (h : Nat) (s : State) : Host.Outcome State Fault Refusal :=
  s.onBus r (HBIND.CTL_HRESET.addr h) fun s => .next (if 8 ≤ h then s else s.hedgeReset h 1)

/-- CNT_CLR_DISCARD: a write of HOSTH[i].CNT_CLR. -/
def execCntClrDiscard (r : Req) (i v : Nat) (s : State) : Host.Outcome State Fault Refusal :=
  s.onBus r (HOSTH.CNT_CLR_DISCARD.addr i) fun s =>
  .next (if i < 9 ∧ v % 2 = 1 then s.clr HOSTH.HEDGE_DISCARD_CNT i else s)

end Sys2Proof.Machine
end

