-- ==== Sys2Proof/Machine/Tunnel.lean ====
section
/-!
DEFINITION. The Hedge Tunnel (spec/13_hedges_and_hosts.md, R445 to R447): messages from the host, sessions, acknowledgements and resends.
-/

namespace Sys2Proof.Machine

open Sys2Proof

/-! ### Receiving a message -/

/-- The Tunnel of h is down until the next START (R446). -/
def State.tunDown (s : State) (h : Nat) : State := (s.clr HBIND.STATUS_UP h).clr HBIND.STATUS_SESSION h

/-- The UDP payload of an IPv6 packet that arrives on an Ethernet port from the binding's peer for its own address and ports (R445); under PRP
ports 0 and 1 are one node (R472). -/
def State.tunFor (s : State) (h port : Nat) (p : List Nat) : Option (List Nat) :=
  let mine := s.get HBIND.CTL_ETH_PORT h
  if !(port == mine || (s.on PRP.CTL_EN && !!(port < 2) && !!(mine < 2))) then none
  else
    match ip6Read p with
    | some ((src, dst), (sp, dp), l) =>
      if src = s.peerIp h ∧ dst = s.ownIp h ∧ sp = s.get HBIND.PORTS_PEER_PORT h ∧ dp = s.get HBIND.PORTS_LOCAL_PORT h then some l else none
    | none => none

/-- Read a message of a type from an IPv6 packet that arrives on an Ethernet port: its Tunnel header and what follows it, opened when TUN_SEC is
1 (R445, R447). -/
def State.tunRead (s : State) (h kind port : Nat) (p : List Nat) : Option (List Nat × List Nat) × State :=
  let l := (s.tunFor h port p).getD []
  let sec := s.on HBIND.CTL_TUN_SEC h
  let n := oct l 12 2
  let head := l.take 20
  if 8 ≤ h || s.get HBIND.CTL_ATTACH h != 2 || s.on HOSTH.STATUS_IN_RESET h || !s.on BOOT.STATUS_READY || l.length < 20
      || l.length != 20 + n + (if sec then 16 else 0) || s.get HOSTG.TUN_MTU < 48 + l.length || head.getD 0 0 != 1
      || head.getD 1 0 != kind || head.getD 2 0 != h then (none, s)
  else if !sec then (some (head, l.drop 20), s)
  else
    let c := oct l 16 4
    let bad : Option (List Nat × List Nat) × State := (none, s.bump HBIND.TUN_AUTH_DROP h)
    let slot := s.get HBIND.KEYS_TUN_RX_KEY h
    if c < s.get TUN.RX_NONCE h || !s.tunSlot h slot 1 then bad
    else
      match Config.ccmOpen 7 (s.material slot) (nonceOf (s.get HBIND.PEER_ID h) c 7) head (l.drop 20) with
      | none => bad
      | some m => (some (head, fix n m), s.put TUN.RX_NONCE h (c + 1))

/-- The host has acknowledged every message up to a SEQ: they are released, and the commands they complete leave the ledger
(R446, R451). -/
def State.tunAcked (s : State) (h seq : Nat) : State :=
  let done (x : TunMsg) : Bool := x.hedge == h && decide (x.seq ≤ seq)
  let l := s.tunQ.filter done
  let s := { s with tunQ := s.tunQ.filter fun x => !done x }
  (s.each l fun s x =>
    let c : Cmd := ⟨h, oct x.entries 4 4, oct x.entries 8 4, false⟩
    if x.kind = 3 ∧ bit (x.entries.getD 3 0) 0 ∧ (s.startedOf c).any (·.sent) then s.unstart c else if x.kind = 4 then s.calTold x.entries else s).cplDrain h

/-- A message of the live session, other than START: it is heard, and its ACK_SEQ counts (R446). -/
def State.tunHear (s : State) (h kind port : Nat) (p : List Nat) : Option (List Nat × List Nat) × State :=
  match s.tunRead h kind port p with
  | (none, s) => (none, s)
  | (some (head, body), s) =>
    if !s.on HBIND.STATUS_UP h || s.get HBIND.STATUS_SESSION h != oct head 14 2 then (none, s)
    else (some (head, body), (s.put TUN.HEARD_AT h s.mp).tunAcked h (oct head 8 4))

/-- Acknowledge what has been received in order. -/
def State.tunAck (s : State) (h : Nat) : State := s.tunEmit h 6 0 [] []

/-- A numbered message: taken only as the next in order; a duplicate is acknowledged and discarded, any other discarded (R446). -/
def State.tunOrder (s : State) (h seq : Nat) : Bool × State :=
  let last := s.get TUN.RX_SEQ h
  if seq = last + 1 then (true, s.put TUN.RX_SEQ h seq)
  else (false, if 0 < seq ∧ seq ≤ last then s.tunAck h else s)

/-- TUN_CMD_MSG: a CMD message taken in order posts its commands. -/
def execTunCmdMsg (h port : Nat) (p : List Nat) (s : State) : Host.Outcome State Fault Refusal :=
  match s.tunHear h 1 port p with
  | (none, s) => .next s
  | (some (head, body), s) =>
    let n := head.getD 3 0
    if body.length < 64 * n then .next s
    else
      match s.tunOrder h (oct head 4 4) with
      | (false, s) => .next s
      | (true, s) =>
        let cs := (List.range n).map fun k => (⟨h, fix 64 ((body.drop (64 * k)).take 64), body.drop (64 * n), s.mp⟩ : TunCmd)
        .next (({ s with tunCmds := s.tunCmds ++ cs }.bump HOSTH.RING_PROD (rix h 0) n).tunAck h)

/-- TUN_CREDIT_MSG. -/
def execTunCreditMsg (h port : Nat) (p : List Nat) (s : State) : Host.Outcome State Fault Refusal :=
  match s.tunHear h 2 port p with
  | (none, s) => .next s
  | (some (head, body), s) =>
    if body.length < 4 then .next s
    else
      match s.tunOrder h (oct head 4 4) with
      | (false, s) => .next s
      | (true, s) => .next ((s.bumpSat TUN.CREDIT h (oct body 0 4)).tunAck h)

/-- TUN_ACK_MSG. -/
def execTunAckMsg (h port : Nat) (p : List Nat) (s : State) : Host.Outcome State Fault Refusal := .next (s.tunHear h 6 port p).2

/-- TUN_KEEPALIVE_MSG. -/
def execTunKeepaliveMsg (h port : Nat) (p : List Nat) (s : State) : Host.Outcome State Fault Refusal := .next (s.tunHear h 8 port p).2

/-- TUN_START_MSG: a new SESSION value starts a session, in which the part answers START and sends its unacknowledged messages again in
their old order (R446). -/
def execTunStartMsg (h port : Nat) (p : List Nat) (s : State) : Host.Outcome State Fault Refusal :=
  match s.tunRead h 7 port p with
  | (none, s) => .next s
  | (some (head, _), s) =>
    let v := oct head 14 2
    if v = 0 ∨ oct head 4 4 ≠ 1 ∨ !s.tunCan h then .next s
    else if s.on HBIND.STATUS_UP h ∧ s.get HBIND.STATUS_SESSION h = v then .next ((s.put TUN.HEARD_AT h s.mp).tunAck h)
    else
      let old := s.tunQ.filter fun x => x.hedge == h && x.kind != 7
      let s := { s with tunQ := s.tunQ.filter (·.hedge != h) }.calAgain h
      let s := ((s.set HBIND.STATUS_UP h).put HBIND.STATUS_SESSION h v).put TUN.HEARD_AT h s.mp
      let s := ((s.put TUN.RX_SEQ h 1).clr TUN.TX_SEQ h).tunSend h 7 [] []
      .next ((s.each old fun s x => s.tunSend h x.kind x.entries x.data).cplDrain h)

/-! ### Time and neighbours (R445, R446) -/

/-- TUN_NEIGHBOR_SOLICIT: a solicitation for an address on an Ethernet port; under PRP the answer leaves on both ports (R472). -/
def execTunNeighborSolicit (port ip6 : Nat) (s : State) : Host.Outcome State Fault Refusal :=
  let prp := s.on PRP.CTL_EN && !!(port < 2)
  let at_ (k : Nat) : Bool := k == port || (prp && !!(k < 2))
  let mine := (List.range 8).any fun h => s.attach h == 2 && (if s.on HST.REBIND h then at_ (s.get HST.OLD_ETH h) && s.get HST.OLD_IP h == ip6
    else at_ (s.get HBIND.CTL_ETH_PORT h) && s.ownIp h == ip6)
  .next (if !mine then s
    else if prp then
      let n := s.get PRPX.SEQ
      { s with wire := s.wire ++ [(.advert 0 ip6 (some n) : Wire), .advert 1 ip6 (some n)] }.bump PRPX.SEQ
    else { s with wire := s.wire ++ [.advert port ip6 none] })

/-- TUN_RESEND_TIMEOUT: every message unacknowledged for TUN.RTO is sent again; one whose eighth resend was not answered takes the Tunnel
down. -/
def execTunResendTimeout (h : Nat) (s : State) : Host.Outcome State Fault Refusal :=
  let due (x : TunMsg) : Bool := x.hedge == h && ticksGeUs (s.mp - x.at_) (1000 * s.get HOSTG.TUN_RTO)
  let l := s.tunQ.filter due
  if !s.tunUp h then .next s
  else if l.any fun x => decide (8 ≤ x.resends) then .next (s.tunDown h)
  else
    let s' := { s with tunQ := s.tunQ.map fun x => if due x then { x with resends := x.resends + 1, at_ := s.mp } else x }
    .next (s'.each l fun s x => s.tunEmit h x.kind x.seq x.entries x.data)

/-- TUN_SILENCE_TIMEOUT: 3 s without any message. -/
def execTunSilenceTimeout (h : Nat) (s : State) : Host.Outcome State Fault Refusal :=
  .next (if s.tunUp h ∧ s.get TUN.HEARD_AT h + 3 * 2 ^ 24 ≤ s.mp then s.tunDown h else s)

/-- TUN_KEEPALIVE_SEND: 1 s since the part's last message. -/
def execTunKeepaliveSend (h : Nat) (s : State) : Host.Outcome State Fault Refusal :=
  .next (if s.tunUp h ∧ s.get TUN.SENT_AT h + 2 ^ 24 ≤ s.mp then s.tunEmit h 8 0 [] [] else s)

end Sys2Proof.Machine
end

