-- ==== Sys2Proof/Machine/HedgeReset.lean ====
section
/-!
DEFINITION. The end of a Hedge reset (R448 to R450) with its effects in every chapter: R40, R80, R260, R293, R322, R363, R393, R424, R581.
-/

namespace Sys2Proof.Machine

open Sys2Proof

/-- Clear instance n of the counters (RC fields) among some fields. -/
def State.clearRc (s : State) (Fs : List Fld) (n : Nat) : State := s.each (Fs.filter (·.acc == .rc)) fun s F => s.clr F n

/-- The instances whose field holds a value, where that value is not the field's reset value. -/
def State.holding (s : State) (F : Fld) (v : Nat) : List Nat :=
  s.cells.filterMap fun c => if c.1.1 = F.id ∧ c.2 = v then some c.1.2 else none

/-- The Thicket's part: the entries are freed without events, or lose RUNTIME_PRIVATE; the learning bucket is full and the candidate list
empty (R80). The answer counts the entries freed. -/
def State.thkReset (s : State) (h : Nat) : Nat × State :=
  let es := s.entriesOf h
  let free := s.on THK_HEDGE.CFG_RESET_FREE h
  let s := if free then s.each es fun s e => s.freeEntry e fDeleted true
    else s.each es fun s e => s.each (List.range 64) fun s k => s.clr E.RUNTIME_PRIVATE (64 * e + k)
  let s := (s.put THKX.HEDGE_TOK h (max 1 (s.get THK_HEDGE.LEARN_BURST h) * 2 ^ 24)).put THKX.HEDGE_AT h s.mp
  (if free then es.length else 0, { s with cands := s.cands.filter (·.1 != h) })

/-- Forwarding's part: the seen-cache entries, the campaign and the sweep end; counters clear (R293). -/
def State.fwdReset (s : State) (h : Nat) : State :=
  let s := ({ s with seen := s.seen.filter (·.1 != h), gone := s.gone.filter (·.1 != h), missing := s.missing.filter (·.1 != h) }).seenShow h
  let s := s.each [CAMP.STATUS_STATE, CAMP.STATUS_ROUND, CAMP.STATUS_PAUSE_CAUSE, CAMP.STATUS_ABORTED, CAMP.BLOCK_CUR, CAMP.TARGETS,
    CAMP.COMPLETE, CAMP.SILENT, CAMP.GONE, CAMPX.CMD, CAMPX.HAND, SWEEP.RUN, SWEEP.CMD, SWEEP.HAVE] fun s F => s.clr F h
  (s.clearRc FWDH.flds h).clearRc CAMP.flds h

/-- The traffic manager's part (R321, R322). -/
def State.tmReset (s : State) (h : Nat) : State :=
  let s := s.each [0, 1, 2, 3] fun s k =>
    let v := s.get TMG.V (2 * k + s.hedgeBand h)
    (s.put AGG.S (4 * h + k) v).put AGG.F_LAST (4 * h + k) v
  let groups := (s.holding SHAPER.CFG_OWNER h).filter (64 ≤ ·)
  let shs := ([4 * h, 4 * h + 1, 4 * h + 2, 4 * h + 3, 36 + h, 44 + h, 52 + h] ++ groups).filter fun n => s.on SHAPER.CFG_EN n
  let s := s.each shs fun s n => s.shSet n (if s.on SHAPER.CFG_RECONF n then 0 else (s.get SHP.BURST n * unit24 : Nat))
  let s := s.each (s.holding METER.CFG_OWNER h) State.meterFill
  let s := s.each (s.holding FIFO.CFG_OWNER h) fun s f => (s.fifoClear f).clr FIFO.STATUS_FROZEN f
  (s.clearRc TMH.flds h).refreshAll

/-- The engines' part: the Hedge's memories are zeroed, its front end starts again, and its program is reloaded or unloaded (R393). -/
def State.engReset (s : State) (h : Nat) : State :=
  let s := s.clearProgram h 0
  let fs := s.entries.filter fun p => kindOf p.1 == .front h
  let s := s.each fs fun s p => s.startThread p.1 p.2
  match s.on ENGH.CFG_KEEP_ON_HEDGE h, s.images.find? (·.1 == h) with
  | true, some (_, m) => (s.runImage h m true).event h 0x0D []
  | _, _ => s.unload h

/-- The binding written before or while the reset ran takes effect (R424). -/
def State.rebound (s : State) (h : Nat) : State :=
  if !s.on HST.REBIND h then s
  else
    let f := s.get HBIND.CTL_FN h
    let pcie := s.get HBIND.CTL_ATTACH h == 1
    let s := (({ s with tunQ := s.tunQ.filter (·.hedge != h) }).tunDown h).clr HST.REBIND h |>.calAgain h
    let s := s.put HBIND.STATUS_UP h (if pcie && s.get HOSTG.LINK_WIDTH (s.fnPort f) != 0 then 1 else 0)
    s.put HOSTH.STATUS_BM h (if pcie then s.get HST.FN_BM f else 0)

/-- The octets of HEDGE_RESET_DONE from octet 16 on (R450). -/
def State.resetDone (s : State) (h freed : Nat) : List (Nat × List Nat) :=
  let ran := s.get HST.RUN_OP h != 0
  let gone := (s.get HST.PROD0 h + 2 ^ 32 - s.get HST.CONS0 h) % 2 ^ 32
  [(16, [s.get HST.RCAUSE h]), (20, le 4 (s.get HST.CONS0 h)), (24, le 4 (s.get HST.PROD0 h)), (28, le 4 gone),
    (32, le 4 (s.get HST.ENDED0 h)), (36, le 4 (if ran then s.get HST.RUN_TAG h else 0)), (40, [s.get HST.RUN_OP h]),
    (41, [if ran then s.get HST.RUN_CODE h else 0]), (42, [if ran then 1 else 0]), (44, le 4 (s.rxQ.filter (·.hedge == h)).length),
    (48, le 4 freed)]

/-- What a Hedge reset of h leaves at its end: the triggers it owns are disarmed whatever their action (R40; R31 keeps all others running:
assumption log 144); HEDGE_RESET_DONE is queued and HEDGE_RESET commands that wait for it complete. -/
def State.hedgeResetEnd (s : State) (h : Nat) : State :=
  let (freed, s) := s.thkReset h
  let s := (s.fwdReset h).tmReset h
  let s := ({ s with kcache := s.kcache.filter (·.hedge != h) }).clearRc SECH.flds h
  let s := s.each ((s.holding PT.CTL_OWNER h).filter (· < 64)) fun s n => (s.disarm n).ptClear n
  let s := s.clearRc HOSTH.flds h
  let tun := s.get HBIND.CTL_ATTACH h == 2
  let s := s.putIf tun HOSTH.RING_CONS (rix h 0) (s.get HOSTH.RING_PROD (rix h 0))
  let done := s.resetDone h freed
  let s := s.each [HOSTH.STATUS_IN_RESET, HOSTH.CTL_HRESET, HST.RCAUSE, HST.RUN_OP, HST.RUN_TAG, HST.RUN_CODE, HST.RUN_END, HST.ENDED0,
    HST.CONS0, HST.PROD0, SYS.EXPERT_H_OWN, SYS.EXPERT_H_ACK] fun s F => s.clr F h
  let s := s.each (List.range 6) fun s k => s.clr EXPX.CHG (6 * h + k)
  let s := ((s.engReset h).rebound h).event h 0x11 done
  let cs := s.hrCmds.filter (·.2 == h)
  let s := { s with hrCmds := s.hrCmds.filter (·.2 != h) }
  s.each cs fun s x => s.finish x.1 0x72 0

/-- HEDGE_RESET_END: not while a Steward command of h runs (R448), the safe state lasts (R540), or the part is not READY (R476). -/
def execHedgeResetEnd (h : Nat) (s : State) : Host.Outcome State Fault Refusal :=
  .next (if h < 8 && s.on HOSTH.STATUS_IN_RESET h && s.on HST.RUN_END h && s.get FLT.STATUS_STATE != 2 && s.on BOOT.STATUS_READY
    then s.hedgeResetEnd h else s)

end Sys2Proof.Machine
end

