-- ==== Sys2Proof/Machine/Twin.lean ====
section
/-!
DEFINITION. Twin operation (spec/14_twin_operation.md): roles (R457, R458), the link and the wires (R459 to R461), snapshots (R462 to R464),
counter records (R465), phase (R466), switching (R463), loopback tests (R469), two actives (R470) and PRP (R472).
-/

namespace Sys2Proof.Machine

open Sys2Proof

/-! ### The link (R458, R459) -/

/-- Say HELLO. -/
def State.hello (s : State) : State :=
  s.twinSend (.hello (s.get SYS.EUI64) (s.get TWIN.CFG_PREFER) (s.get TWIN.STATUS_ROLE) (s.get TWIN.SCHEMA_OWN))

/-- Any message from the partner: the link is up, which feeds the decision of R461. -/
def State.twinHeard (s : State) : State :=
  let was := s.on TWIN.STATUS_LINK_UP
  let s := (s.set TWIN.STATUS_LINK_UP).put TWINX.HEARD 0 s.mp
  if was then s else s.decide461

/-- The wires of R460: the part's own heartbeat by PT23 and the capture of the partner's by CU15. -/
def State.hbStart (s : State) : State :=
  let p := usTicks 500
  let s := ((s.disarm 23).put PT.CTL_EN 23 1).put PT.CTL_ACTION 23 5
  let s := ((s.put PT.CTL_TARGET 23 (s.get TWIN.PINS_HB_OUT)).put PT.PERIOD 23 p).put PT.CMP 23 (s.mp + p)
  let s := (s.set PT.STATUS_ARMED 23).set CU.CTL_EN 15
  ((s.put CU.CTL_EDGE 15 2).put CU.CTL_SOURCE 15 (s.get TWIN.PINS_HB_IN)).put TWINX.HB_EDGE 0 s.mp

/-- Take a downlink that is not on air back to its queue. -/
def State.takeBack (s : State) (d : Down) : State :=
  if d.stage = .released ∨ d.stage = .held ∨ d.stage = .planned then s.giveBack d none
  else if d.stage = .armed ∧ ¬ (s.get TXC.STATUS_STATE d.chain = chTx ∧ (s.headReq d.chain).any fun r => r.tag == d.uid && !r.ack) then
    (s.withdraw d).giveBack d none
  else s

/-- The part is a standby: nothing of its own is sent any more, its Enh-Acks are dropped, and its chains go to STANDBY as they can (R457). -/
def State.beStandby (s : State) : State :=
  let s := ((s.each s.downs State.takeBack).put TWIN.STATUS_ROLE 0 2).clr TWIN.STATUS_SYNCED
  let s := s.each [0, 1, 2, 3] fun s c => if s.on PT.STATUS_ARMED (12 + c) then (s.disarm (12 + c)).ackDrop (12 + c) else s
  let s := s.refreshAll
  s.each [0, 1, 2, 3] fun s c =>
    if s.get TXC.STATUS_STATE c = chTx ∨ s.get CHN.TRANS c ≠ 0 then (s.put CHN.PEND c 2).set TXC.STATUS_PENDING c else s.toStandby c

/-- TWIN_CFG_EN_WRITE: a write of TWIN.CFG that sets EN trains the link on some lanes and says HELLO; one that clears it leaves the part
STANDALONE. -/
def execTwinCfgEnWrite (r : Req) (v lanes : Nat) (s : State) : Host.Outcome State Fault Refusal :=
  s.onBus r (TWIN.CFG_EN.addr 0) fun s =>
  let was := s.on TWIN.CFG_EN
  let s := ((s.put TWIN.CFG_EN 0 v).put TWIN.CFG_PREFER 0 (bits v 1 1)).put TWIN.CFG_AUTO_TAKEOVER 0 (bits v 2 1)
  if v % 2 = 1 ∧ ¬ was then
    let n := min 2 lanes
    let s := (s.put TWIN.STATUS_LANES 0 n).when (n == 1) (·.set TWIN.EVENT_LANE_DEGRADED)
    let s := ((s.set TWINX.WAIT).put TWINX.EN_AT 0 s.mp).clr TWINX.PARTNER
    .next (s.hbStart.put TWINX.HEARD 0 s.mp).hello
  else if v % 2 = 0 ∧ was then
    let told := s.get TWIN.STATUS_ROLE != 0
    let s := s.each [TWIN.STATUS_ROLE, TWIN.STATUS_LINK_UP, TWIN.STATUS_LANES, TWIN.STATUS_PARTNER_HB, TWIN.STATUS_PARTNER_FAULT,
      TWIN.STATUS_SYNCED, TWINX.WAIT, TWINX.PARTNER] fun s F => s.clr F
    let s := ({ s.disarm 23 with twinCmds := [] }.clr CU.CTL_EN 15).refreshAll
    .next (s.when told (·.roleTold 6))
  else .next s

/-- TWIN_HELLO_RX: the roles are settled by the first HELLO, and a partner new to the part gets a full snapshot and an answer. -/
def execTwinHelloRx (eui prefer role schema : Nat) (same : Bool) (s : State) : Host.Outcome State Fault Refusal :=
  if !s.on TWIN.CFG_EN then .next s
  else
    let new := s.on TWINX.WAIT || s.get TWINX.PARTNER != eui || role != 1
    let s := ((s.put TWINX.PARTNER 0 eui).put TWIN.SCHEMA_PARTNER 0 schema).when (!same) (·.set TWIN.EVENT_CONFIG_DIFF)
    let s := s.when new (·.set TWINX.FULL_DUE)
    let mine := s.get TWIN.CFG_PREFER
    let active := role != 1 && (mine > prefer || (mine == prefer && decide (s.get SYS.EUI64 < eui)))
    let s := if s.on TWINX.WAIT then
        let s := s.clr TWINX.WAIT
        (if active then s.beActive else s.beStandby).roleTold 0
      else s
    .next ((s.when (role == 0) State.hello).twinHeard)

/-- TWIN_HELLO_TIMEOUT: no HELLO within 10 s of CFG.EN. -/
def execTwinHelloTimeout (s : State) : Host.Outcome State Fault Refusal :=
  .next (if s.on TWINX.WAIT && ticksGeUs (s.mp - s.get TWINX.EN_AT) 10000000 then ((s.clr TWINX.WAIT).beActive).roleTold 0 else s)

/-- TWIN_HEARTBEAT_SEND: every 100 µs. -/
def execTwinHeartbeatSend (s : State) : Host.Outcome State Fault Refusal :=
  .next (if s.on TWIN.CFG_EN && ticksGeUs (s.mp - s.get TWINX.SENT) 100 then (s.twinSend .heartbeat).put TWINX.SENT 0 s.mp else s)

/-- TWIN_LINK_SILENT: no message for LOSS_US. -/
def execTwinLinkSilent (s : State) : Host.Outcome State Fault Refusal :=
  .next (if s.on TWIN.STATUS_LINK_UP && ticksGeUs (s.mp - s.get TWINX.HEARD) (s.get TWIN.LOSS_US) then
      ((s.clr TWIN.STATUS_LINK_UP).set TWIN.EVENT_LINK_DOWN).decide461 else s)

/-- TWIN_LINK_UP: a message of the partner, such as its heartbeat message, arrives. -/
def execTwinLinkUp (s : State) : Host.Outcome State Fault Refusal :=
  .next (if s.on TWIN.CFG_EN && s.get TWIN.STATUS_LANES != 0 then s.twinHeard else s)

/-! ### The wires (R460, R461) -/

/-- TWIN_HB_SILENT: no edge of the partner's heartbeat for LOSS_US. -/
def execTwinHbSilent (s : State) : Host.Outcome State Fault Refusal :=
  .next (if s.on TWIN.STATUS_PARTNER_HB && ticksGeUs (s.mp - s.get TWINX.HB_EDGE) (s.get TWIN.LOSS_US) then
      (s.clr TWIN.STATUS_PARTNER_HB).decide461 else s)

/-- PARTNER_FAULT_ASSERT. -/
def execPartnerFaultAssert (s : State) : Host.Outcome State Fault Refusal :=
  .next (if s.on TWIN.CFG_EN && !s.on TWIN.STATUS_PARTNER_FAULT then (s.set TWIN.STATUS_PARTNER_FAULT).decide461 else s)

/-- PARTNER_FAULT_RELEASE. -/
def execPartnerFaultRelease (s : State) : Host.Outcome State Fault Refusal :=
  .next (if s.on TWIN.STATUS_PARTNER_FAULT then (s.clr TWIN.STATUS_PARTNER_FAULT).decide461 else s)

/-- TWIN_CMD_TAKEOVER: on a synced standby; the cause is that of the condition recorded, else SWITCH (R461). -/
def execTwinCmdTakeover (r : Req) (s : State) : Host.Outcome State Fault Refusal :=
  s.onBus r (TWIN.CMD_TAKEOVER.addr 0) fun s =>
  .next (if s.standby && s.on TWIN.STATUS_SYNCED then s.takeover (s.takeCause.getD 3) else s)

/-- TWIN_DEMOTION_RX: the partner announces its demotion; a synced standby takes over at once. -/
def execTwinDemotionRx (cause : Nat) (s : State) : Host.Outcome State Fault Refusal :=
  if !s.on TWIN.CFG_EN then .next s
  else
    let s := s.twinHeard
    .next (if s.standby && s.on TWIN.STATUS_SYNCED then s.takeover cause else s)

/-! ### Snapshots (R462 to R464, R466) -/

/-- The 512 octets of an entry (R58). -/
def State.entryWhole (s : State) (e : Nat) : List Nat := s.entryOctets e ++ s.runtimePrivate e ++ s.policyPrivate e

/-- The items per Hedge a snapshot carries (R462). -/
def snapFlds : List Fld :=
  [SECH.GROUP_GEN, SECH.GROUP_INDEX, GRPX.CEIL, SECH.HEDGE_EPOCH, FWDH.FLOOD_SEQ] ++
  [CAMP.STATUS_STATE, CAMP.STATUS_ROUND, CAMP.STATUS_PAUSE_CAUSE, CAMP.STATUS_ABORTED, CAMP.BLOCK_CUR, CAMP.TARGETS, CAMP.COMPLETE,
    CAMP.SILENT, CAMP.GONE] ++
  [CAMPX.NUM, CAMPX.BSIZE, CAMPX.BCOUNT, CAMPX.IMAGE, CAMPX.LEN, CAMPX.MROUND, CAMPX.ACTS, CAMPX.ACT_AT, CAMPX.RESUME, CAMPX.HASH,
    CAMPX.WIN_AT, CAMPX.PAUSED_AT] ++
  [SWEEP.RUN, SWEEP.NUM, SWEEP.ROUNDS, SWEEP.ROUND, SWEEP.ROUND_S, SWEEP.TTL, SWEEP.SILENT, SWEEP.T0, SWEEP.HAVE]

/-- Indexes whose entries may have been written: used, or freed before, or carried before. -/
def State.snapIndexes (s : State) : List Nat :=
  (s.usedEntries ++ (s.cells.filterMap fun c => if c.1.1 = E.INCARNATION.id then some c.1.2 else none) ++ s.snapSent.map (·.1)).eraseDups

/-- Capture a snapshot (R462): what has been written since the last one, or, for the first to a partner, everything. -/
def State.snapshot (s : State) : TwinSnap × State :=
  let full := s.on TWINX.FULL_DUE
  let sent := if full then [] else s.snapSent
  let es := (s.snapIndexes.map fun e => (e, s.entryWhole e)).filter fun x => !sent.contains x
  let led := s.cells.filterMap fun c => if c.1.1 = LEDGER.GEN.id then some (c.1.2, c.2) else none
  let ls := led.filter fun x => full || !s.snapLedger.contains x
  let seq := s.get TWIN.SNAP_SEQ + 1
  let x : TwinSnap := {
    schema := s.get TWIN.SCHEMA_OWN, seq := seq % 2 ^ 32, at_ := s.mp, epoch := s.get TWIN.TAKEOVER_EPOCH, full := full, entries := es, ledger := ls,
    cells := s.cells.filter (fun c => isOf snapFlds c.1.1), missing := s.missing, gone := s.gone,
    duty := s.ledger.map (fun (y : LedgerSlot) => (y.sb, y.cell, y.slot, y.us)),
    cmds := (s.started.filter (·.ring < 8)).map (fun (y : Started) => (y.ring, y.tag, y.opcode, y.index)) }
  let keep := sent.filter fun y => !es.any fun z => z.1 == y.1
  let s := { s with snapSent := keep ++ es, snapLedger := led }
  (x, ((s.put TWIN.SNAP_SEQ 0 seq).clr TWINX.FULL_DUE).twinSend (.snap x))

/-- The Twin cycle of this instant (R462). -/
def State.twinCycle (s : State) : Nat := s.mp * 1000 / (max 1 (s.get TWIN.CYCLE_MS) * 2 ^ 24)

/-- The offset of the two parts' Mesh Phase as measured (R466). -/
def State.phaseSplit (s : State) (ofs : Int) : State :=
  (s.putI TWIN.PHASE_OFS 0 ofs).when (decide (20000 < ofs.natAbs)) (·.set TWIN.EVENT_PHASE_SPLIT)

/-- SNAPSHOT_CAPTURE: once in each Twin cycle, on an active with a partner linked. -/
def execSnapshotCapture (late : Bool) (ofs : Int) (s : State) : Host.Outcome State Fault Refusal :=
  if s.get TWIN.STATUS_ROLE ≠ 1 ∨ ¬ s.on TWIN.STATUS_LINK_UP ∨ s.twinCycle < s.get TWINX.CYCLE then .next s
  else
    let s := (s.put TWINX.CYCLE 0 (s.twinCycle + 1)).phaseSplit ofs
    .next (s.snapshot.2.when late (·.set TWIN.EVENT_SNAP_LATE))

/-- The union of two sets of accepted counters under R219, as RX_CNT and REPLAY_MAP. -/
def replayUnion (c1 m1 c2 m2 : Nat) : Nat × Nat :=
  let (hi, mh, lo, ml) := if c2 ≤ c1 then (c1, m1, c2, m2) else (c2, m2, c1, m1)
  (hi, Nat.lor mh (if 64 ≤ hi - lo then 0 else ml * 2 ^ (hi - lo) % 2 ^ 64))

/-- Write an entry from its 512 octets, with its keys in the indexes (R61, R463); CHECK as the octets give it. -/
def State.twinEntry (s : State) (e : Nat) (l : List Nat) : State :=
  let head := leVal (fix 0xBC l)
  let s := s.each entryFlds fun s F => s.put F e (head / 2 ^ (8 * (F.base - 0x200000000) + F.lo))
  let s := s.each (List.range 64) fun s i => s.put E.RUNTIME_PRIVATE (64 * e + i) (l.getD (0xC0 + i) 0)
  let s := s.each (List.range 256) fun s i => s.put E.POLICY_PRIVATE (256 * e + i) (l.getD (0x100 + i) 0)
  let s := s.put E.CHECK_DIFF e ((s.entryCrc e).xor (oct l 0xBC 4))
  if s.get E.STATE e = stFree then s
  else
    let h := s.get E.HEDGE e
    let k := s.get E.SHORT_ADDR e
    let s := (s.idxInsert false h (s.get E.EUI64 e) e).getD s
    if k = 0xFFFE then s else (s.idxInsert true h k e).getD s

/-- Count an entry in, or out of, USED and PINNED. -/
def State.tally (s : State) (e : Nat) (gone : Bool) : State :=
  if s.get E.STATE e = stFree then s
  else
    let h := s.get E.HEDGE e
    let b (s : State) (F : Fld) (n : Nat) : State := if gone then s.drop F n else s.bump F n
    (b (b s THK.STATUS_USED 0) THK_HEDGE.USED h).when (s.on E.PINNED e) fun s => b s THK_HEDGE.PINNED h

/-- Apply a carried entry: it replaces the part's own, but the accepted counters of one node under one key generation are united
(R463). -/
def State.snapEntry (s : State) (x : Nat × List Nat) : State :=
  let (e, l) := x
  if entryCount ≤ e then s
  else
    let c := s.get E.RX_CNT e
    let m := s.get E.REPLAY_MAP e
    let ids (s : State) : List Nat := [s.get E.EUI64 e, s.get E.INCARNATION e, s.get E.KEY_GEN e]
    let was := ids s
    let old := s.get E.STATE e
    let s := ((s.tally e true).idxRemove e).twinEntry e l
    let s := if old ≠ stFree ∧ was = ids s ∧ s.get E.STATE e ≠ stFree then
        let u := replayUnion c m (s.get E.RX_CNT e) (s.get E.REPLAY_MAP e)
        (s.wrE E.RX_CNT e u.1).wrE E.REPLAY_MAP e u.2
      else s
    let s := if was = ids s then s else s.each [NODE.REJOIN_ON, NODE.REKEY_ON, NODE.TXWARN, NODE.RXWARN] fun s F => s.clr F e
    ((s.putIf (was != ids s) NODE.INS_AT e s.mpSec).tally e false).when (s.get E.STATE e != stFree) (·.writeElig e)

/-- Apply the items per Hedge. HEDGE_EPOCH is not taken over, since key provisioning is each part's own (R457); GROUP_TX_CNT stands at the
ceiling carried. -/
def State.snapCells (s : State) (l : List ((Nat × Nat) × Nat)) : State :=
  let Fs := snapFlds.filter fun F => F.id != SECH.HEDGE_EPOCH.id
  let s := { s with cells := s.cells.filter fun c => !isOf Fs c.1.1 }
  let s := s.each l fun s c =>
    match Fs.find? fun F => F.id == c.1.1 with
    | some F => s.put F c.1.2 c.2
    | none => s
  s.groupResume

/-- The duty and dwell ledgers carried replace the part's own; what the part has written to MRAM of a slot stays known. -/
def State.snapDuty (s : State) (l : List (Nat × Nat × Nat × Nat)) : State :=
  let saved (b c k : Nat) : Nat := match s.ledger.find? fun x => x.sb == b && x.cell == c && x.slot == k with
    | some x => x.saved
    | none => 0
  { s with ledger := l.map fun (b, c, k, us) => (⟨b, c, k, us, saved b c k⟩ : LedgerSlot) }

/-- SNAPSHOT_APPLY: a whole snapshot, of the part's own schema or the one before it (R463, R464). -/
def execSnapshotApply (x : TwinSnap) (ofs : Int) (s : State) : Host.Outcome State Fault Refusal :=
  if !s.standby then .next s
  else
    let s := (s.twinHeard.phaseSplit ofs)
    let own := s.get TWIN.SCHEMA_OWN
    if !s.standby then .next s
    else if x.schema ≠ own ∧ x.schema + 1 ≠ own then .next ((s.set TWIN.EVENT_SCHEMA_MISMATCH).clr TWIN.STATUS_SYNCED)
    else
      let s := s.each x.entries State.snapEntry
      let s := s.each x.ledger fun s y => s.put LEDGER.GEN y.1 y.2
      let s := (s.snapCells x.cells).snapDuty x.duty
      let s := { s with missing := x.missing, gone := x.gone, twinCmds := x.cmds }
      let s := (s.put TWIN.TAKEOVER_EPOCH 0 x.epoch).put TWIN.SNAP_SEQ 0 x.seq
      .next ((s.when x.full (·.set TWIN.STATUS_SYNCED)).refreshAll)

/-- TWIN_COUNTER_RECORD_RX: the counter is accepted in the part's own entry too (R465). -/
def execTwinCounterRecordRx (h e counter : Nat) (s : State) : Host.Outcome State Fault Refusal :=
  if !s.on TWIN.CFG_EN then .next s
  else
    let s := s.twinHeard.bump TWIN.MIRROR_CNT
    if !s.named h e then .next s
    else
      match judge (s.get E.RX_CNT e) (s.get E.REPLAY_MAP e) counter with
      | .fresh cnt map => .next (s.keepCounter e cnt map)
      | _ => .next s

/-! ### Switching and two actives (R463, R470) -/

/-- What an active gives up when it becomes the standby: its downlinks leave, but for a frame on air, which ends; and the partner reports
the commands that have not completed. -/
def State.handOver (s : State) : State :=
  let s := s.each s.downs State.downReset
  let mine := s.started.filter (·.ring < 8)
  let run := mine.filter fun (y : Started) => s.isRunning y.ring y.tag y.index
  let cmds := (s.insWait.filterMap (·.cmd)) ++ s.delWait.filterMap (·.cmd)
  let s := s.each mine fun s (y : Started) => s.unstart ⟨y.ring, y.tag, y.index, false⟩
  let s := { s with
    reflQ := [], campQ := [], repairs := [], splits := [], cplQ := s.cplQ.filter (fun x => x.ring % 16 == 8),
    handed := s.handed ++ run.map (fun (y : Started) => (y.ring, y.tag, y.index)) ++ cmds.map (fun (c : Cmd) => (c.ring, c.tag, c.index)) }
  s.each [0, 1, 2, 3, 4, 5, 6, 7] fun s h => ((s.clr CAMPX.CMD h).clr SWEEP.CMD h).clr GRPX.RUN h

/-- TWIN_CMD_SWITCH: the active sends a final snapshot and its demotion, and is the standby. -/
def execTwinCmdSwitch (r : Req) (s : State) : Host.Outcome State Fault Refusal :=
  s.onBus r (TWIN.CMD_SWITCH.addr 0) fun s =>
  if s.get TWIN.STATUS_ROLE ≠ 1 ∨ ¬ s.on TWIN.STATUS_LINK_UP then .next s
  else .next ((s.snapshot.2.handOver.twinSend (.demote 3)).beStandby.roleTold 3)

/-- TWIN_DUAL_ACTIVE: the part whose change to ACTIVE is older performs a core reset and starts as the standby. -/
def execTwinDualActive (at_ : Nat) (s : State) : Host.Outcome State Fault Refusal :=
  if s.get TWIN.STATUS_ROLE ≠ 1 ∨ at_ ≤ s.get TWINX.ACTIVE_AT then .next s
  else .next (((s.put TWIN.STATUS_ROLE 0 2).clr TWIN.STATUS_SYNCED).put TWINX.TOLD 0 5 |>.takeCore 12)

/-! ### Loopback tests (R469) -/

/-- A test of every chain; a failure is reported and prevents nothing. -/
def State.loopTest (s : State) (ok : List Bool) : State :=
  (s.put TWINX.LOOP_AT 0 s.mp).when (!([0, 1, 2, 3].all fun i => ok.getD i true)) (·.set TWIN.EVENT_LOOP_FAIL)

/-- TWIN_CMD_LOOP: on a standby. -/
def execTwinCmdLoop (r : Req) (ok : List Bool) (s : State) : Host.Outcome State Fault Refusal :=
  s.onBus r (TWIN.CMD_LOOP.addr 0) fun s =>
  .next (if s.standby then s.loopTest ok else s)

/-- TWIN_LOOP_TEST: every LOOP_S seconds on a standby. -/
def execTwinLoopTest (ok : List Bool) (s : State) : Host.Outcome State Fault Refusal :=
  .next (if s.standby && decide (s.get TWIN.LOOP_S * 2 ^ 24 ≤ s.mp - s.get TWINX.LOOP_AT) then s.loopTest ok else s)

/-! ### PRP (R472) -/

/-- The table without the entries forgotten after FORGET_MS. -/
def State.prpLive (s : State) : List (Nat × Nat × Nat) :=
  s.prpTab.filter fun x => decide ((s.mp - x.2.2) * 1000 < s.get PRP.FORGET_MS * 2 ^ 24)

/-- Source nodes in a table. -/
def prpNodes (l : List (Nat × Nat × Nat)) : List Nat := (l.map (·.1)).eraseDups

/-- PRP_FRAME_RX: LAN A belongs to port 0 and LAN B to port 1. A source node beyond the table's 1,024 is not tracked. -/
def execPrpFrameRx (port source seq : Nat) (lanB sup : Bool) (s : State) : Host.Outcome State Fault Refusal :=
  if !s.on PRP.CTL_EN || 2 ≤ port then .next s
  else
    let s := s.when (lanB != (port == 1)) (·.bump (if port = 0 then PRP.LAN_A_ERR else PRP.LAN_B_ERR))
    let s := s.when sup (·.put PRPX.HEARD port s.mp)
    let l := s.prpLive
    if l.any fun x => x.1 == source && x.2.1 == seq then
      .next ({ s with prpTab := l }.put PRP.NODES 0 (prpNodes l).length |>.bump PRP.DUP_DISCARD)
    else
      let room := (prpNodes l).contains source || decide ((prpNodes l).length < 1024)
      let l := if room then l ++ [(source, seq, s.mp)] else l
      .next ({ s with prpTab := l }.put PRP.NODES 0 (prpNodes l).length)

/-- PRP_SUP_SEND: every SUP_INT_MS on both ports, with one sequence number. -/
def execPrpSupSend (s : State) : Host.Outcome State Fault Refusal :=
  if !s.on PRP.CTL_EN || decide ((s.mp - s.get PRPX.SUP_AT) * 1000 < s.get PRP.SUP_INT_MS * 2 ^ 24) then .next s
  else
    let n := s.get PRPX.SEQ
    .next ({ s with wire := s.wire ++ [(.supervision 0 n : Wire), .supervision 1 n] }.bump PRPX.SEQ |>.put PRPX.SUP_AT 0 s.mp)

/-- PRP_SUP_TIMEOUT: a port without a supervision frame for 3 × SUP_INT_MS. -/
def execPrpSupTimeout (port : Nat) (s : State) : Host.Outcome State Fault Refusal :=
  if !s.on PRP.CTL_EN || 2 ≤ port || decide ((s.mp - s.get PRPX.HEARD port) * 1000 < 3 * s.get PRP.SUP_INT_MS * 2 ^ 24) then .next s
  else .next (s.set (if port = 0 then PRP.EVENT_LAN_A_DOWN else PRP.EVENT_LAN_B_DOWN))

end Sys2Proof.Machine
end

