-- ==== Sys2Proof/Machine/Flash.lean ====
section
/-!
DEFINITION. The boot flash and its images (R490 to R498), and the calibration store (R509 to R512).
-/

namespace Sys2Proof.Machine

open Sys2Proof

/-! ### The boot record (R491) -/

/-- Copy i of the boot record. -/
def State.bootCopy (s : State) (i : Nat) : List Nat := memReadL s.mem.flash (0x10000 * i) 276

/-- Whether a copy is valid. -/
def bootCopyOk (l : List Nat) : Bool := oct l 0 4 == 0x42525458 && oct l 272 4 == crc32c (l.take 272)

/-- The newer valid copy, with its number. -/
def State.bootRec (s : State) : Option (Nat × List Nat) :=
  let a := s.bootCopy 0
  let b := s.bootCopy 1
  match bootCopyOk a, bootCopyOk b with
  | true, true => if after32 (oct b 4 4) (oct a 4 4) then some (1, b) else some (0, a)
  | true, false => some (0, a)
  | false, true => some (1, b)
  | false, false => none

/-- A record with its next SEQ and CRC. -/
def bootSeal (l : List Nat) (seq : Nat) : List Nat :=
  let l := overlay (fix 272 l) [(0, le 4 0x42525458), (4, le 4 seq)]
  l ++ le 4 (crc32c l)

/-- Change the record, in its older copy; without a valid copy both are written. -/
def State.bootPut (s : State) (ps : List (Nat × List Nat)) : State :=
  match s.bootRec with
  | some (i, l) => { s with mem.flash := memWriteL s.mem.flash (0x10000 * (1 - i)) (bootSeal (overlay l ps) (oct l 4 4 + 1)) }
  | none =>
    let l := bootSeal (overlay [] ps) 0
    { s with mem.flash := memWriteL (memWriteL s.mem.flash 0 l) 0x10000 l }

/-- A field of the boot record at octet o, 0 without a record. -/
def State.bootField (s : State) (o : Nat) : Nat :=
  match s.bootRec with
  | some (_, l) => oct l o 1
  | none => 0

/-- BOOT.TRIES shows the record's (R514). -/
def State.triesShow (s : State) : State := s.put BOOT.TRIES 0 (s.bootField 10)

/-! ### Images (R492, R493, R497) -/

/-- Where slot n lies. -/
def slotAt (n : Nat) : Nat := 0x100000 + 0x1000000 * n

/-- MIN_SVN. -/
def State.minSvn (s : State) : Nat := ((List.range 64).filter fun i => bit (s.get OTP.MIN_SVN) i).length

/-- Whether a section lies in an image as R492 has it. -/
def sectionOk (ofs len total cap : Nat) : Bool := 256 ≤ ofs && ofs % 256 == 0 && ofs + len ≤ total && len ≤ cap

/-- Whether the header of an image is as R492 states. -/
def headerOk (m : List Nat) : Bool :=
  let total := oct m 8 4
  let so := oct m 12 4
  let sl := oct m 16 4
  let ro := oct m 20 4
  let rl := oct m 24 4
  oct m 0 4 == 0x49485458 && oct m 4 1 == 1 && oct m 5 1 < 2 && oct m 6 1 ≤ 64 && oct m 7 1 == 0 && total % 256 == 0 && total ≤ 16777120
    && sectionOk so sl total 0x300000 && sectionOk ro rl total 0xC00000 && (so + sl ≤ ro || ro + rl ≤ so) && oct m 124 132 == 0

/-- Whether an image passes (R493). -/
def State.bootImageOk (s : State) (m : List Nat) : Bool :=
  let total := oct m 8 4
  let key := (m.drop 28).take 96
  headerOk m && m.length == total + 96 && beVal (fix 48 (Config.sha384 key)) == s.get OTP.ANCHOR
    && Config.p384Verify key (fix 48 (Config.sha384 (m.take total))) (m.drop total) && s.minSvn ≤ oct m 6 1

/-- The image at an address of a memory; nothing when its header is not one. -/
def imageAt (mem : List Host.Cell) (a : Nat) : List Nat :=
  let h := memReadL mem a 256
  if headerOk h then memReadL mem a (oct h 8 4 + 96) else []

/-! ### The calibration store (R509 to R512) -/

/-- Where the store lies in MRAM (R501). -/
def calAt : Nat := 0x400000

/-- Offset and size of each field. -/
def calField : Nat → Nat × Nat
  | 0 => (0x400, 0x1000) | 1 => (0x1400, 0x2000) | 2 => (0x3400, 0xF000) | 3 => (0x12400, 0x1400)
  | 4 => (0x13800, 0xA000) | 5 => (0x1D800, 0x1800) | 6 => (0x1F000, 64) | _ => (0x1F040, 192)

/-- The header of a page read by `rd` (offset, length). -/
def calHeadOk (rd : Nat → Nat → List Nat) : Bool := oct (rd 0 8) 0 4 == 0x4C435458 && oct (rd 0 8) 4 1 == 1

/-- The directory's number of field id. -/
def calIndex (rd : Nat → Nat → List Nat) (id : Nat) : Option Nat :=
  (List.range 32).find? fun i => oct (rd (0x100 + 16 * i) 16) 0 1 == id && oct (rd (0x100 + 16 * i) 16) 8 4 != 0

/-- The directory entry and the octets of field id, when it is valid and its CRC holds (R510). -/
def calGood (rd : Nat → Nat → List Nat) (id : Nat) : Option (List Nat × List Nat) :=
  match calIndex rd id with
  | none => none
  | some i =>
    let e := rd (0x100 + 16 * i) 16
    let (o, n) := calField id
    let l := rd o n
    if calHeadOk rd && bit (oct e 1 1) 0 && oct e 4 4 == o && oct e 8 4 == n && oct e 12 4 == crc32c l then some (e, l) else none

/-- Read the part's own page. -/
def State.calRead (s : State) (o n : Nat) : List Nat := memReadL s.mem.mram (calAt + o) n

/-- Write octets of the page. -/
def State.calWrite (s : State) (o : Nat) (l : List Nat) : State := { s with mem.mram := memWriteL s.mem.mram (calAt + o) l }

/-- Write field id with its directory entry; a page without a header gets one (R509, R511). -/
def State.calStore (s : State) (id : Nat) (l : List Nat) (factory : Bool) : State :=
  let (o, n) := calField id
  let s := if calHeadOk s.calRead then s else s.calWrite 0 (le 4 0x4C435458 ++ [1, 0, 0, 0] ++ le 8 (s.get SYS.EUI64))
  let i := (calIndex s.calRead id).getD id
  let l := fix n l
  let e := [id, if factory then 3 else 1, 0, 0] ++ le 4 o ++ le 4 n ++ le 4 (crc32c l)
  ((s.calWrite o l).calWrite (0x100 + 16 * i) e).bump CAL.WRITE_CNT

/-- The frequency segment a port's tuner code stands for: that of its chain's tuning, else the first of its band (R161; assumption
log 155). -/
def State.portSeg (s : State) (p : Nat) : Nat :=
  match [0, 1, 2, 3].find? fun c => s.get TXC.CTL_PORT c == p && s.get CHN.FREQ c != 0 with
  | some c => segOf (s.get CHN.FREQ c)
  | none => if p < 2 then 0 else 560

/-- Field 2 into the synthesisers' tables (R161). -/
def State.calVco (s : State) (l : List Nat) : State :=
  s.each (List.range 4) fun s c => s.each (List.range 640) fun s k =>
    let e := (l.drop (16 * (640 * c + k))).take 16
    let s := (s.vcoPut (1024 * c + k) (Config.vcoBand e) (Config.vcoAmp e) (Config.vcoLoop e) (Config.vcoTemp e)).clr CALT.LOST (1024 * c + k)
    s.put CALT.MARK (1024 * c + k) (s.get CALT.FLUSH c)

/-- Field 3 into the tuners' tables and, with `regs`, the codes in force (R184). -/
def State.calTuner (s : State) (regs : Bool) (l : List Nat) : State :=
  let s := s.each (List.range 4) fun s p => s.each (List.range 640) fun s k => s.put TUNE.CODE (1024 * p + k) (oct l (2 * (640 * p + k)) 2)
  if regs then s.each [0, 1, 2, 3] fun s p => s.put TXPORT.TUNE_NOW p (s.get TUNE.CODE (1024 * p + s.portSeg p)) else s

/-- Field 4 into the power tables (R179). -/
def State.calPower (s : State) (l : List Nat) : State :=
  s.each (List.range 4) fun s p => s.each (List.range 640) fun s k => s.put PWRT.ROW (1024 * p + k) (oct l (16 * (640 * p + k)) 16)

/-- Field 7 into the registers with reset value C (R509). -/
def State.calBoard (s : State) (regs : Bool) (l : List Nat) : State :=
  let s := if regs then s.each [0, 1, 2, 3] fun s p => s.put TXPORT.LINE_GAIN p (Config.boardValue l p) else s
  s.each [0, 1] fun s p => (s.put PTP_PORT.INGRESS_LAT p (Config.boardValue l (4 + p))).put PTP_PORT.EGRESS_LAT p (Config.boardValue l (6 + p))

/-- Act on the octets of a field that is good. -/
def State.calField (s : State) (id : Nat) (f : State → List Nat → State) : State :=
  match calGood s.calRead id with
  | none => s
  | some (_, l) => f s l

/-- Load the fields into their tables and, unless a core reset spares them, their registers; a field that is bad is reported (R161, R179,
R184, R194, R510; assumption log 155). -/
def State.calLoad (s : State) (regs : Bool) : State :=
  let ok := (List.range 8).filter fun id => (calGood s.calRead id).isSome
  let mask (l : List Nat) : Nat := (l.map (2 ^ ·)).sum
  let fac := ok.filter fun id => match calGood s.calRead id with | some (e, _) => bit (oct e 1 1) 1 | none => false
  let s := (s.put CAL.STATUS_VALID 0 (mask ok)).put CAL.STATUS_FACTORY 0 (mask fac)
  let bad := (List.range 8).filter fun id => !ok.contains id
  let s := s.each bad fun s id => (s.set CAL.EVENT_FIELD_BAD).fault 0x0801 id 0
  let s := ((s.calField 2 State.calVco).calField 3 fun s l => s.calTuner regs l).calField 4 State.calPower
  s.calField 7 fun s l => s.calBoard regs l

/-- The CAL mute cause: it stands while a field of the transmit side is bad (R187, R510). -/
def State.calMute (s : State) : State :=
  let ok := s.get CAL.STATUS_VALID / 4 == 63
  s.each [0, 1, 2, 3] fun s c => if ok then s.muteClr c 1 else s.muteSet c 1

/-- CAL_SAVE_TUNER: the working tuner tables of the ports named go into field 3 (R511, R517). -/
def execCalSaveTuner (r : Req) (ports : Nat) (s : State) : Host.Outcome State Fault Refusal :=
  s.onBus r (CAL.CMD_SAVE_TUNER.addr 0) fun s =>
  if ports % 16 = 0 then .next s
  else
    let old := s.calRead 0x12400 0x1400
    let new := [0, 1, 2, 3].flatMap fun p =>
      if bit ports p then (List.range 640).flatMap fun k => le 2 (s.get TUNE.CODE (1024 * p + k)) else (old.drop (1280 * p)).take 1280
    let s := (s.calStore 3 new false).set CAL.EVENT_SAVED
    let v := s.get CAL.STATUS_VALID
    .next ((s.put CAL.STATUS_VALID 0 (Nat.lor v 8)).put CAL.STATUS_FACTORY 0 (s.get CAL.STATUS_FACTORY - if bit (s.get CAL.STATUS_FACTORY) 3 then 8 else 0))

/-- CAL_EXPORT: the whole page. -/
def execCalExport (c : Cmd) (addr : Nat) (s : State) : Host.Outcome State Fault Refusal :=
  .next (s.answer c 0x73 addr (s.calRead 0 0x40000))

/-- Whether the radio is at rest, as CAL_RESTORE asks. -/
def State.calRest (s : State) : Bool := [0, 1, 2, 3].all fun i => s.get TXC.STATUS_STATE i == chOff && !s.on APRX.CTL_EN i

/-- CAL_RESTORE (R511, R512). -/
def execCalRestore (c : Cmd) (addr mask : Nat) (foreign : Bool) (s : State) : Host.Outcome State Fault Refusal :=
  let rd (o n : Nat) : List Nat := s.hostRead c.ring (addr + o) n
  let ids := (List.range 8).filter (bit mask)
  if !s.calRest then .next (s.finish c 0x74 0x13)
  else if 256 ≤ mask || !calHeadOk rd || ids.any (fun id => (calGood rd id).isNone)
      || (!foreign && oct (rd 8 8) 0 8 != s.get SYS.EUI64) then .next (s.finish c 0x74 0x12)
  else
    let s := s.each ids fun s id => match calGood rd id with
      | some (e, l) => s.calStore id l (bit (oct e 1 1) 1)
      | none => s
    .next (((s.calLoad true).calMute).finish c 0x74 0)

/-! ### BOOT_IMAGE_WRITE (R498, R512) -/

/-- BOOT_IMAGE_WRITE: the image is taken and its slot is being written; BOOT_FLASH_WRITE_DONE ends the command. -/
def execBootImageWrite (c : Cmd) (addr len : Nat) (activate : Bool) (slot : Nat) (s : State) : Host.Outcome State Fault Refusal :=
  let recov := s.on BOOT.STATUS_RECOVERY
  let n := if recov then slot else 1 - s.get BOOT.STATUS_SLOT
  if s.on BOOT.STATUS_TRIAL then .next (s.finish c 0x75 0x13)
  else if 1 < slot ∨ (¬ recov ∧ slot ≠ 0) ∨ len = 0 ∨ 0x1000000 < len then .next (s.finish c 0x75 0x12)
  else
    let m := s.hostRead c.ring addr len
    let s := match s.bootRec with
      | some (_, l) => if oct l 9 1 = n + 1 then s.bootPut [(9, [0, 0])] else s
      | none => s
    let s := { s with mem.flash := memZero s.mem.flash (slotAt n) (slotAt n + 0x1000000), flashBuf := m }
    let s := (((s.triesShow.set BOOTX.WON).put BOOTX.WTAG 0 c.tag).put BOOTX.WINDEX 0 c.index).put BOOTX.WSLOT 0 n
    .next ((s.put BOOTX.WACT 0 (if activate then 1 else 0)).served c)

/-- BOOT_FLASH_WRITE_DONE: the slot is read back and checked; with ACTIVATE it becomes PENDING, with three tries. Without a valid record both
copies are written, with ACTIVE the slot written (R499). -/
def execBootFlashWriteDone (s : State) : Host.Outcome State Fault Refusal :=
  if !s.on BOOTX.WON then .next s
  else
    let n := s.get BOOTX.WSLOT
    let c : Cmd := ⟨8, s.get BOOTX.WTAG, s.get BOOTX.WINDEX, false⟩
    let s := ({ s with mem.flash := memWriteL s.mem.flash (slotAt n) s.flashBuf, flashBuf := [] }).clr BOOTX.WON
    if !s.bootImageOk (imageAt s.mem.flash (slotAt n)) then .next (s.finish c 0x75 0x0D)
    else
      let s := if s.bootRec.isNone then s.bootPut [(8, [n])] else s
      let s := if s.on BOOTX.WACT then s.bootPut [(9, [n + 1, 3])] else s
      .next (s.triesShow.finish c 0x75 0)

end Sys2Proof.Machine
end

