-- ==== Sys2Proof/Machine/Boot.lean ====
section
/-!
DEFINITION. Resets and the way out of them (spec/15_reset_boot_memory.md): the sources (R477 to R483), the boot sequence (R484 to R499,
R505 to R508, R335), and the core reset with its effects in every chapter (R486, R31, R79, R150, R194, R217, R260, R293, R322, R363, R393,
R451, R551).
-/

namespace Sys2Proof.Machine

open Sys2Proof

/-! ### Sources (R477 to R481) -/

/-- POWER_ON: the supplies rose. -/
def execPowerOn (s : State) : Host.Outcome State Fault Refusal := .next (s.takeSys 3 0 false)

/-- Whether a low pulse is taken (R481): never below 200 ns, always from 1 µs on, between them as `take` says. -/
def lowTaken (ns : Nat) (take : Bool) : Bool := 1000 ≤ ns || (200 ≤ ns && take)

/-- POR_N_LOW: a low pulse on POR_N. -/
def execPorNLow (ns : Nat) (take : Bool) (s : State) : Host.Outcome State Fault Refusal :=
  .next (if lowTaken ns take then s.takeSys 3 1 false else s)

/-- RESET_N_LOW: a low pulse on RESET_N. -/
def execResetNLow (ns : Nat) (take : Bool) (s : State) : Host.Outcome State Fault Refusal :=
  .next (if lowTaken ns take then s.takeSys 2 2 false else s)

/-- SUPPLY_LOW: a monitored rail falls below its threshold (R536, R561). -/
def execSupplyLow (s : State) : Host.Outcome State Fault Refusal := .next (s.sourceFault 0x0201 0 5 3)

/-- THERMAL_TRIP: the part is held in system reset (R479). -/
def execThermalTrip (s : State) : Host.Outcome State Fault Refusal :=
  let t := s.sourceFault 0x0202 0 5 4
  .next (if t.get RSTX.LEVEL = 0 then t else ((t.put BOOT.STATUS_HOLD 0 4).set RSTX.HELD).set FLT.STATUS_FAULT_N)

/-- THERMAL_HOLD_END: Tj has fallen 10 °C below the trip temperature; a normal release may follow. -/
def execThermalHoldEnd (s : State) : Host.Outcome State Fault Refusal :=
  .next (if s.get BOOT.STATUS_HOLD = 4 then (s.clr BOOT.STATUS_HOLD).clr RSTX.HELD else s)

/-- STEWARD_WDOG_EXPIRE (R477, R536). -/
def execStewardWdogExpire (s : State) : Host.Outcome State Fault Refusal := .next (s.sourceFault 0x0302 0 5 5)

/-- RST_CMD_SYSTEM: the software system reset (R480). -/
def execRstCmdSystem (r : Req) (s : State) : Host.Outcome State Fault Refusal :=
  s.onBus r (RST.CMD.addr 0) fun s => .next (s.takeSys 2 7 false)

/-- RST_CMD_CORE: the software core reset (R480); in the safe state none is taken (R540). -/
def execRstCmdCore (r : Req) (s : State) : Host.Outcome State Fault Refusal :=
  s.onBus r (RST.CMD.addr 0) fun s => .next (if s.safe then s else s.takeCore 8)

/-! ### OTP (R505 to R508) -/

/-- The triple-stored fields: first word and words of a copy. -/
def otpFields : List (Nat × Nat) :=
  [(0, 2), (6, 1), (9, 1), (0xC, 1), (0xF, 2), (0x40, 12), (0x80, 24), (0x100, 8), (0x118, 8)]

/-- The words that cannot be used when some words are marginal: a marginal word of TRIM, and every marginal copy of a word two or three of
whose copies are. -/
def otpBad (marginal : List Nat) : List Nat :=
  let trim := (List.range 32).map (0x20 + ·)
  let triples := otpFields.flatMap fun f => (List.range f.2).map fun i => [f.1 + i, f.1 + f.2 + i, f.1 + 2 * f.2 + i]
  trim.filter marginal.contains ++ (triples.map fun t => t.filter marginal.contains).flatMap fun t => if 2 ≤ t.length then t else []

/-- The least number of a list. -/
def leastOf : List Nat → Option Nat
  | [] => none
  | x :: t => match leastOf t with
    | none => some x
    | some y => some (min x y)

/-- The part holds with a cause until the next power-on reset (R508). -/
def State.hold (s : State) (cause : Nat) : State := ((s.put BOOT.STATUS_HOLD 0 cause).set RSTX.HELD).set FLT.STATUS_FAULT_N

/-- What the read of OTP leaves: the marginal words counted and recorded, and the fields loaded into their registers. -/
def State.otpRead (s : State) (marginal : List Nat) : State :=
  let ws := (List.range 2048).filter marginal.contains
  let s := s.each ws fun s w => s.fault 0x0802 w 0
  let s := ((s.put OTP.STATUS_MARGINAL 0 (if ws = [] then 0 else 1)).put OTP.MARG_CNT 0 ws.length).put OTP.MARG_LAST 0 (ws.getLastD 0)
  let s := s.when (ws.any fun w => 0x100 ≤ w && w < 0x130) (·.set SEC.STATUS_ROOT_MARGINAL)
  let s := ((s.put SYS.EUI64 0 (s.get OTP.EUI64)).put MAC.AIR_EUI64 0 (s.get OTP.EUI64)).put SEC.STATUS_LIFE 0 (s.get OTP.LIFE)
  let s := s.each (List.range 24) fun s i => s.put SEC.CERT i (s.get OTP.CERT / 2 ^ (32 * i))
  let s := (s.put HOSTG.CFG_BIFUR 0 (s.get OTP.STRAPS)).put BOOT.SVN_MIN 0 s.minSvn
  let s := s.put REGPROF.HDR_REGION 0 (s.get OTP.REGION)
  match leastOf (otpBad ws) with
  | none => s
  | some w => (s.put BOOT.HOLD_WORD 0 w).hold 1

/-- The fields that MRAM holds, but for the calibration store's (R501). -/
def mramFields : List Fld :=
  [SCP.HEAD_SEQ, SCP.HEAD_ERA, SCP.OLDEST_SEQ, SCP.OLDEST_ERA, SCP.COUNT, SCPX.NEXT, SECH.HEDGE_EPOCH, SECH.GROUP_GEN, SECH.GROUP_INDEX,
    TRUST.ANCHOR0, TRUST.ANCHOR1, TRUST.CTL_VALID0, TRUST.CTL_VALID1, TRUST.CTL_LOCK, KSLOT.META_STATE, KSLOT.META_USE, KSLOT.META_TYPE,
    KSLOT.META_LEVEL, KSLOT.META_OWNER, KSLOT.META_PARENT, KSLOT.GEN_GEN, KSLOT.GEN_PARENT_GEN, KSLOT.WRITE_CNT, KSLOT.CREATED, KSX.MAT,
    TWIN.TAKEOVER_EPOCH, LEDGER.GEN, LEDG.HEADER, LEDG.AT, LEDG.BAD, GRPX.CEIL, TUN.CEIL]

/-- MRAM is zeroed but for the calibration store (R502). -/
def State.mramZero (s : State) : State :=
  { s with
    mem.mram := s.mem.mram.filter fun c => calAt ≤ c.1 && c.1 < calAt + 0x40000
    ledgerM := [], resetLog := []
    cells := s.cells.filter fun c => !isOf mramFields c.1.1 }

/-! ### The slot to boot (R491, R495) -/

/-- The order of slots by the boot record, with what the choice writes. -/
def State.bootOrder (s : State) (sel : Nat) : List Nat × State :=
  match s.bootRec with
  | none => (if sel = 1 then [0] else if sel = 2 then [1] else if sel = 3 then [] else [0, 1], s)
  | some (_, l) =>
    let active := oct l 8 1 % 2
    let pend := oct l 9 1
    let tries := oct l 10 1
    if sel = 1 then ([0], s) else if sel = 2 then ([1], s) else if sel = 3 then ([], s)
    else if pend ≠ 0 ∧ tries = 0 then ([active, 1 - active], (s.bootPut [(9, [0])]).set BOOT.EVENT_REVERTED)
    else if pend ≠ 0 then ([pend - 1, active], s.bootPut [(10, [tries - 1])])
    else ([active, 1 - active], s)

/-! ### The first start (R335, R508) -/

/-- The root is drawn into the bank that is blank, with the slot K8; `ok` says that the copies read back as drawn. -/
def State.rootGenerate (s : State) (ok : Bool) : State :=
  if s.on OTP.USED 0 ∧ s.on OTP.USED 1 then s.hold 2
  else
    let bank := s.get OTP.USED 0
    let (root, s) := s.draw
    let s := s.set OTP.USED bank
    if !ok then
      let (w, s) := s.draw
      if bank = 0 then (s.put BOOT.HOLD_WORD 0 (0x100 + w % 24)).hold 1 else s.hold 2
    else
      let (key, s) := s.draw
      let s := s.bump SEC.ECC_CNT
      let s := (s.put OTP.ROOT 0 root).put OTP.BANK1 0 bank
      let s := ((s.put KSLOT.META_STATE 8 1).put KSLOT.META_USE 8 2).put KSLOT.META_TYPE 8 3
      let s := ((s.put KSLOT.META_LEVEL 8 1).put KSLOT.META_OWNER 8 0xF).put KSLOT.META_PARENT 8 rootSlot
      let s := (s.put KSLOT.GEN_GEN 8 (nextGen (s.get KSLOT.GEN_GEN 8))).bump KSLOT.WRITE_CNT 8
      let s := (s.put KSLOT.CREATED 8 s.mpSec).put KSX.MAT 8 key
      (s.put OTP.LIFE 0 1).put SEC.STATUS_LIFE 0 1

/-- Keys after a power-on or system reset (R337, R343, R347, R363): the DRBG, K0 to K7, the identity key's public half, the free slots, and
the group and Tunnel counters. -/
def State.keysStart (s : State) : State :=
  let s := s.set SEC.STATUS_DRBG_OK
  let s := s.when s.rooted fun s =>
    let s := s.each (List.range 8) fun s h =>
      if s.get KSLOT.META_STATE h = 1 then s.put KSX.MAT h (beVal (s.hedgeRoot h)) else s.newHedgeRoot h
    let pub := fix 64 (Config.p256Pub (s.material 8))
    s.each (List.range 16) fun s i => s.put SEC.ID_PUB i (oct pub (4 * i) 4)
  let used (h : Nat) : Nat :=
    ((List.range 1008).filter fun k => s.get KSLOT.META_STATE (16 + k) != 0 && s.get KSLOT.META_OWNER (16 + k) == h).length
  let s := s.each (List.range 8) fun s h => s.put SECH.SLOTS_USED h (used h)
  let all := ((List.range 1008).filter fun k => s.get KSLOT.META_STATE (16 + k) != 0).length
  let s := (s.put SEC.SLOT_FREE 0 (1008 - all)).groupResume
  s.each (List.range 8) fun s h => s.put TUN.NONCE h (s.get TUN.CEIL h)

/-! ### The sequence (R484) -/

/-- The clock is seeded from the calendar, by a set with UTC_OFFSET added (R31). -/
def State.clockSeed (s : State) : State :=
  if s.on RTC.STATUS_OSC_STOPPED then s
  else
    let sec : Int := (s.calSeconds : Int) - (dayNumber 1970 1 1 * 86400 : Nat) + s.getI TIME.UTC_OFFSET
    s.hostStep (sec * (10 ^ 9 * 2 ^ 32 : Nat) - s.clock)

/-- Write one word of the regulatory profile (R203): the profile's own fields take its bits. -/
def State.profileWord (s : State) (x : Nat × Nat) : State :=
  let Fs := (REGPROF.flds ++ SB.flds).filter (·.acc == .rwl)
  s.each Fs fun s F => s.each (List.range (F.outer * F.inner)) fun s n =>
    if F.addr n = 0x620000 + x.1 then s.put F n (x.2 / 2 ^ F.lo) else s

/-- OBW of the shipped profiles, Hz, by the index of R206. -/
def shippedObw : List Nat :=
  [100000, 200000, 200000, 300000, 400000, 600000, 300000, 600000, 1200000, 800000, 400000, 200000, 2000000, 812500, 406250]

/-- The profile of the part's region is written, THR_A follows it, and it is locked (R203, R204). -/
def State.profileStart (s : State) (ws : List (Nat × Nat)) : State :=
  if s.get OTP.REGION = 0 then s
  else
    let s := (s.each ws State.profileWord).each (List.range 15) fun s i => s.put REGPROF.OBW i (shippedObw.getD i 0)
    if s.get REGPROF.HDR_FRAMEWORK = 0 then s else s.lockProfile

/-- The Mesh Runtime is copied into instruction memory and its threads start (R393, R494). -/
def State.runtimeStart (s : State) : State :=
  let s := { s with mem.instrMem := (Config.runtimePlace s.runtime).foldl (fun m (p : Nat × List Nat) => memWriteL m p.1 p.2) s.mem.instrMem }
  s.each s.entries fun s p => s.startThread p.1 p.2

/-- DRAM is trained under the boot record's parameters (R484, R503); without a record none is usable. -/
def State.dramStart (s : State) (trained : Nat) : State :=
  match s.bootRec with
  | none => s
  | some (_, l) =>
    let n := 2 * 2 ^ (oct l 12 1 % 4) * 2 ^ 30 * 15 / 16
    let s := s.each [0, 1] fun s c => s.set (if bit trained c then DDR.CH_STATUS_TRAINED else DDR.CH_STATUS_LOST) c
    (s.put DDR.USABLE 0 n).put DDR.STEWARD_BASE 0 (n - 2 ^ 26)

/-- Owners of the pools of Hedge FIFOs (R318). -/
def State.fifoPools (s : State) : State :=
  s.each (List.range 8) fun s h => s.each (List.range 128) fun s k => s.put FIFO.CFG_OWNER (1024 + 128 * h + k) h

/-- The calibration store is loaded, the field I/O configured, reception enabled and the CAL mute cause cleared, as far as the fields are
good (R187, R189, R510). -/
def State.radioStart (s : State) : State :=
  let s := s.calLoad true
  let s := ((s.set PIN.CONF).clr PIN.COEX_Z).calMute.coexDrive
  let s := s.each [0, 1, 2, 3] State.portLines
  if s.get CAL.STATUS_VALID % 4 = 3 then s.each [0, 1, 2, 3] State.portStart else s

/-- The links train (R425, R490). -/
def State.linksStart (s : State) (ls : List (Nat × Nat × Nat)) : State :=
  s.each [0, 1] fun s p =>
    match ls[p]? with
    | some (w, v, i) => ((s.put HOSTG.LINK_WIDTH p w).put HOSTG.LINK_SPEED p v).put HOSTG.LINK_POL_INV p i
    | none => s

/-- The record of a tamper event, under the latched time (R543, R568). -/
def State.tamperRecord (s : State) (n : Nat) : State :=
  let t := le 4 (s.get PADS.TAMPER_TIME_LO n) ++ le 4 (s.get PADS.TAMPER_TIME_HI n)
  (s.scpRaise ⟨5, 0x10 + n, s.mp, t, 0, 0, s.scpFlags none false, 0, 0, []⟩).clr PADX.DUE n

/-- The Mesh Runtime is ready (R484, R489). -/
def State.ready (s : State) : State :=
  let s := ((s.set BOOT.STATUS_READY).clr RSTX.LEVEL).clr RSTX.FAULT_START
  let s := if s.safe then s else s.clr FLT.STATUS_FAULT_N
  s.each [0, 1] fun s n => s.when (s.on PADX.DUE n) (·.tamperRecord n)

/-- The hashes, versions and numbers of the image that runs (R494, R496, R514). -/
def State.imageNote (s : State) (m : List Nat) : State :=
  let st := (m.drop (oct m 12 4)).take (oct m 16 4)
  let rt := (m.drop (oct m 20 4)).take (oct m 24 4)
  let hs := fix 48 (Config.sha384 st)
  let hr := fix 48 (Config.sha384 rt)
  let s := s.each (List.range 12) fun s i => (s.put BOOT.STEWARD_HASH i (oct hs (4 * i) 4)).put BOOT.RUNTIME_HASH i (oct hr (4 * i) 4)
  let s := (s.put BOOT.SVN_RUNNING 0 (oct m 6 1)).put BOOTX.LOCK 0 (oct m 5 1)
  let s := (s.put SYS.VERSION_STEWARD 0 (Config.imageVersion st)).put SYS.VERSION_RUNTIME 0 (Config.imageVersion rt)
  { s.put ENG.API_VERSION 0 (Config.apiVersion rt) with runtime := rt }

/-- Whether thread g runs the part's own code: a runtime thread or a front end. -/
def ownThread (g : Nat) : Bool :=
  g < 512 && match kindOf g with
    | .program _ => false
    | _ => true

/-- The Steward places the Thicket in DRAM and locks the place (R54). Which of the places that are aligned to 128 MiB and hold it whole is
the Steward's: a free value (assumption log 148). -/
def State.tablePlace (s : State) : State :=
  let n := (s.get DDR.USABLE - 4 * 2 ^ 20) / 2 ^ 27
  (s.put THK.TABLE_BASE 0 (Config.tableBase % max 1 n * 2 ^ 27)).set THK.TABLE_LOCK_LOCK

/-- From a checked image on to READY; at a power-on reset with LIFE BLANK the root is drawn first, and without one the part holds. A
channel that does not train takes the part into the safe state (R536, R541). -/
def State.bootRun (s : State) (x : BootIn) (m : List Nat) : State :=
  let s := s.imageNote m
  let s := s.when (s.get OTP.LIFE == 0 && s.get RSTX.LEVEL == 3) (·.rootGenerate x.rootOk)
  if s.on RSTX.HELD then s
  else
    let s := { (s.dramStart x.trained).keysStart with mem.sram := [] }
    let (a, s) := s.draw
    let (b, s) := s.draw
    let s := ((s.put THKX.SEED 0 a).put THKX.SEED 1 b).tablePlace.fifoPools.clockSeed
    let s := { s with entries := x.threads.filter fun p => ownThread p.1 }
    let s := ((s.passStart.runtimeStart.linksStart x.links).radioStart.profileStart x.profile).ledgerRestore
    let s := (s.put BOOT.READY_US 0 x.us).ready
    s.each [0, 1] fun s c => s.when (s.on DDR.CH_STATUS_LOST c) fun s => s.fault 0x0702 c 6

/-- The boot stops in recovery with NO_IMAGE (R495, R499). -/
def State.bootRecovery (s : State) (links : List (Nat × Nat × Nat)) : State :=
  (((s.put BOOT.STATUS_HOLD 0 3).set BOOTX.RECOV).set FLT.STATUS_FAULT_N).linksStart (links.take 1)

/-- Choose the slot, check and run it; none that passes, or no DRAM for want of a record, leaves the part in recovery. -/
def State.bootFlash (s : State) (x : BootIn) : State :=
  let (order, s) := s.bootOrder x.sel
  let s := s.triesShow
  match order.find? fun n => s.bootImageOk (imageAt s.mem.flash (slotAt n)) with
  | none => s.bootRecovery x.links
  | some n =>
    if s.bootRec.isNone then s.bootRecovery x.links
    else
      let s := (s.put BOOT.STATUS_SLOT 0 n).put BOOT.STATUS_TRIAL 0 (if s.bootField 9 = n + 1 then 1 else 0)
      s.bootRun x (imageAt s.mem.flash (slotAt n))

/-- RESET_RELEASE: the sequence of R484 after a power-on or system reset. The records raised before the reset follow the RESET record. -/
def execResetRelease (x : BootIn) (s : State) : Host.Outcome State Fault Refusal :=
  if s.get RSTX.LEVEL < 2 ∨ s.on RSTX.HELD ∨ s.on RSTX.STOPPED ∨ s.on BOOTX.RECOV then .next s
  else
    let power := s.get RSTX.LEVEL == 3
    let s := s.when (power && s.get OTP.LIFE == 0) State.mramZero
    let q := s.scpQ
    let s := { s with scpQ := [] }.scpScan
    let s := s.record 2 (if power then 0 else 1) 0 0 none 0 0 [(0, le 2 (s.get RST.RST_CAUSE)), (2, [s.get RST.LAST_RESTARTS])]
    let s := { s with scpQ := s.scpQ ++ q }.put SCP.QUEUE 0 (s.scpQ.length + q.length)
    let s := ((s.put BOOT.STATUS_BOOT_SEL 0 x.sel).set FLT.STATUS_FAULT_N).otpRead x.marginal
    .next (if s.on RSTX.HELD then s else s.bootFlash x)

/-- What a start meets outside the part's state, each a free value, where a register write that asks for one does not say it (R484; assumption log
3). -/
def State.bootDraw (s : State) : BootIn × State :=
  let (sel, s) := s.draw
  let (m, s) := s.draw
  let (root, s) := s.draw
  let (dram, s) := s.draw
  let (link, s) := s.draw
  let (prof, s) := s.draw
  let (on, s) := s.draw
  let (pc, s) := s.draw
  let (us, s) := s.draw
  let word (x i : Nat) : Nat := x / 2 ^ (32 * i) % 2 ^ 32
  (⟨sel % 4, (List.range 128).filter (bit m ·), bit root 0, dram % 4,
    [0, 1].map fun i => (word link (3 * i) % 17, word link (3 * i + 1) % 8, word link (3 * i + 2) % 2 ^ 16),
    (List.range 1024).map fun i => (4 * i, word prof i),
    ((List.range 448).filter (bit on ·)).map fun g => (g, word pc g), us⟩, s)

/-- RECOV_GO: the image in the recovery window is checked and run (R499). -/
def execRecovGo (r : Req) (x : BootIn) (s : State) : Host.Outcome State Fault Refusal :=
  s.onBus r (BOOT.RECOV_GO.addr 0) fun s =>
  if !s.on BOOTX.RECOV then .next s
  else
    let n := s.get BOOT.RECOV_LEN
    let m := if n ≤ 0x1000000 then memReadL s.mem.sram 0 n else []
    if !s.bootImageOk m then .next (s.put BOOT.STATUS_HOLD 0 3)
    else .next (((s.set BOOT.STATUS_RECOVERY).clr BOOT.STATUS_HOLD).clr BOOTX.RECOV |>.bootRun x m)

/-- BOOT_CONFIRM: the pending slot becomes ACTIVE, and MIN_SVN may rise (R496, R497). -/
def execBootConfirm (r : Req) (s : State) : Host.Outcome State Fault Refusal :=
  s.onBus r (BOOT.CTL_CONFIRM.addr 0) fun s =>
  if !s.on BOOT.STATUS_TRIAL then .next s
  else
    let s := s.bootPut [(8, [s.get BOOT.STATUS_SLOT, 0, 0])]
    let n := s.get BOOT.SVN_RUNNING
    let s := s.when (s.on BOOTX.LOCK && decide (s.minSvn < n)) fun s => (s.put OTP.MIN_SVN 0 (2 ^ n - 1)).put BOOT.SVN_MIN 0 n
    .next (s.clr BOOT.STATUS_TRIAL).triesShow

/-! ### Core reset -/

/-- Take some fields' cells out of the store. -/
def State.forget (s : State) (Fs : List Fld) : State := { s with cells := s.cells.filter fun c => !isOf Fs c.1.1 }

/-- STATE as the units out of service have it (R552). -/
def State.unitsShow (s : State) : State :=
  let out := s.get FLT.LANE_OUT != 0 || s.get FLT.AES_OUT != 0 || s.get LDX.OUT != 0 || s.on FLT.STATUS_SCP_OUT
    || [0, 1, 2, 3].any (fun p => s.on RXX.PORT_OUT p) || s.cells.any fun c => c.1.1 == KSLOT.META_STATE.id && c.2 == 3
  if s.safe then s else s.put FLT.STATUS_STATE 0 (if out then 1 else 0)

/-- Units that pass self-test return to service (R534, R551). -/
def State.unitsReturn (s : State) (lanesOk aesOk decOk portsOk : Nat) : State :=
  let still (v ok : Nat) : Nat := v - Nat.land v ok
  let s := (s.put FLT.LANE_OUT 0 (still (s.get FLT.LANE_OUT) lanesOk)).put FLT.AES_OUT 0 (still (s.get FLT.AES_OUT) aesOk)
  let s := s.put LDX.OUT 0 (still (s.get LDX.OUT) decOk)
  let s := s.put LDPC.STATUS_IN_SERVICE 0 (still (s.get LDPC.DEC_EN) (s.get LDX.OUT))
  let s := s.each [0, 1, 2, 3] fun s p => s.when (bit portsOk p && s.on RXX.PORT_OUT p) fun s => (s.clr RXX.PORT_OUT p).put RXX.ON_AT p s.mp
  s.unitsShow

/-- Lanes and pool: every frame and codeword in flight is dropped (R150). -/
def State.lanesCore (s : State) : State :=
  let s := { s with frames := [], words := [], heard := [], laneQ := [] }
  (s.each (List.range 48) fun s l => (s.laneDrop l).lanePending l).poolSync

/-- Triggers and chains: TX_START and ENGINE_EVENT triggers are disarmed, a frame in TX ends with no result, and the FAULT cause clears
(R31, R194). -/
def State.chainsCore (s : State) : State :=
  let s := s.each (List.range 64) fun s n =>
    s.when (s.on PT.STATUS_ARMED n && (s.get PT.CTL_ACTION n == 1 || s.get PT.CTL_ACTION n == 3)) (·.disarm n)
  let s := { s.quietDrop (fun _ => true) with txReq := [], txRes := [], gateRecs := [] }
  s.each [0, 1, 2, 3] fun s c =>
    let s := ((s.clr CHN.CHECKED c).clr CHN.RFLAGS c).reqLevel c
    let s := s.when (s.inTx c) fun s => ((s.put TXC.STATUS_STATE c chTx).txEnd c 0x14 true).txToReady c
    s.muteClr c (2 ^ 8)

/-- Queues, tags, buckets and FIFOs (R322). -/
def State.trafficCore (s : State) : State :=
  let s := { s with downs := [], pastAcks := [], splits := [], reflQ := [], campQ := [], repairs := [] }
  let s := s.forget (OFLOW.flds ++ AFLOW.flds ++ NQ.flds ++ AGGX.flds ++ FIFOX.flds ++ [AGG.S, AGG.F_LAST, AGG.QUEUES, AGG.DEPTH, TMG.V,
    TMG.CELLS_USED, TMH.CELLS_USED, OUT.V, OUT.STATUS_INFLIGHT, FIFO.STATUS_LEVEL, FIFO.STATUS_FROZEN])
  let s := s.each (s.holding SHAPER.CFG_EN 1) State.shCommit
  (s.each (s.holding METER.CFG_EN 1) State.meterCommit).refreshAll

/-- Forwarding, campaigns and sweeps (R293). -/
def State.fwdCore (s : State) : State :=
  let s := { s with seen := [] }.forget [CAMPX.HASH]
  s.each (List.range 8) fun s h =>
    let s := s.seenShow h
    let s := if s.campRuns h ∧ s.get CAMP.STATUS_STATE h ≠ 6 then
        (s.campPause h 3).event h 0x0B [(16, le 4 (s.get CAMPX.NUM h)), (20, le 2 (s.get CAMP.BLOCK_CUR h)), (22, [3])]
      else s
    s.each [CAMPX.CMD, SWEEP.RUN, SWEEP.CMD] fun s F => s.clr F h

/-- Threads stop and the engine memories and chip SRAM are zeroed (R393, R500). -/
def State.enginesCore (s : State) : State :=
  let s := s.forget (THR.flds ++ WIN.flds ++ [ENGE.STATUS_THREADS] ++ CALT.flds ++ TUNE.flds ++ [PWRT.ROW])
  { s with mem.sram := [], mem.localMem := [], mem.sharedMem := [], mem.instrMem := [], cry := [], delWait := [], insWait := [], obsQ := [], cands := [], ecache := [],
           kcache := [] }

/-- Hedge h's program after a core reset: reloaded from its kept image, or unloaded (R393). -/
def State.programCore (s : State) (progOk h : Nat) : State :=
  if s.get ENGH.PROG_STATE h = 0 then s
  else
    match s.on ENGH.CFG_RESTART_CORE h, s.images.find? (·.1 == h) with
    | true, some (_, m) => (s.runImage h m (bit progOk h)).when (bit progOk h) (·.event h 0x0D [])
    | _, _ => s.unload h

/-- The front end's part (R451): every started command ends with FAULT, and CORE_RESET_DONE is posted on each port. -/
def State.hostCore (s : State) (frames events : Nat → Nat) : State :=
  let old := s.started
  let s := s.each old fun s x =>
    s.complete ⟨x.ring, x.tag, x.index, false⟩ x.opcode 0x14 (if x.began then 0x20 else 0) 0 []
  s.each (List.range 9) fun s h =>
    s.event h 0x12 [(16, le 4 (old.filter (·.ring == h)).length), (20, le 4 (frames h)), (24, le 4 (events h))]

/-- The backlogs in chip SRAM are lost; a Steward command that was running runs no longer (R451). -/
def State.backlogCore (s : State) : State :=
  let s := { s with cplQ := [], evQ := [], rxQ := [], hrCmds := [], flashBuf := [] }.clr BOOTX.WON
  let s := s.each (List.range 16) fun s n => (s.clr CTX.POSTED n).clr CTX.MPOST n
  s.each (List.range 9) fun s h => s.rxShow h

/-- The programs of Hedges that do not restart are reported halted before the memories go (R393). -/
def State.programsHalt (s : State) (progOk : Nat) : State :=
  s.each (List.range 8) fun s h =>
    let again := s.on ENGH.CFG_RESTART_CORE h && s.images.any (·.1 == h) && bit progOk h
    s.when (s.get ENGH.PROG_STATE h != 0 && !again) (·.haltPrograms h true)

/-- A core reset up to READY (R486). -/
def State.coreReset (s : State) (progOk lanesOk aesOk decOk portsOk : Nat) : State :=
  let frames (h : Nat) : Nat := (s.rxQ.filter (·.hedge == h)).length
  let events (h : Nat) : Nat := s.evHeld h
  let s := s.backlogCore.programsHalt progOk
  let s := s.lanesCore.chainsCore.trafficCore.fwdCore.enginesCore.mapsRestart
  let s := ((s.calLoad false).unitsReturn lanesOk aesOk decOk portsOk).groupResume
  let s := (s.each (List.range 8) fun s h => s.put TUN.NONCE h (s.get TUN.CEIL h)).runtimeStart
  let s := ((s.set THK.STATUS_REVAL_ACTIVE).each s.usedEntries fun s e => s.set NODE.UNVAL e).hostCore frames events
  let s := s.each (List.range 8) fun s h =>
    (s.programCore progOk h).when (s.on HOSTH.STATUS_IN_RESET h) fun s => (s.set HST.RUN_END h).clr HST.RUN_OP h
  let s := s.when (s.get TWINX.TOLD != 0) fun s => (s.roleTold (s.get TWINX.TOLD - 1)).clr TWINX.TOLD
  s.hello.ready

/-- CORE_RESET: a hash that differs ends in a system reset, as a fault decision does (R486, R539). -/
def execCoreReset (stewardOk runtimeOk : Bool) (progOk lanesOk aesOk decOk portsOk : Nat) (s : State) : Host.Outcome State Fault Refusal :=
  if s.get RSTX.LEVEL ≠ 1 then .next s
  else if stewardOk && runtimeOk then .next (s.coreReset progOk lanesOk aesOk decOk portsOk)
  else
    let t := s.act (s.escalate 5) none false
    .next (if t.get RSTX.LEVEL = 1 then t.ready else t)

end Sys2Proof.Machine
end

