-- ==== Sys2Proof/Machine/Calendar.lean ====
section
/-!
DEFINITION. The calendar and the backup domain (spec/16_calendar.md).
-/

namespace Sys2Proof.Machine

open Sys2Proof

/-! ### Calendar arithmetic (R520) -/

/-- Days of a month. -/
def monthDays (y m : Nat) : Nat :=
  if m = 2 then if y % 4 = 0 ∧ (y % 100 ≠ 0 ∨ y % 400 = 0) then 29 else 28
  else if m = 4 ∨ m = 6 ∨ m = 9 ∨ m = 11 then 30 else 31

/-- Year, month and date of a day number (the inverse of dayNumber). -/
def dayDate (z : Nat) : Nat × Nat × Nat :=
  let era := z / 146097
  let doe := z % 146097
  let yoe := (doe - doe / 1460 + doe / 36524 - doe / 146096) / 365
  let doy := doe - (365 * yoe + yoe / 4 - yoe / 100)
  let m' := (5 * doy + 2) / 153
  let m := if m' < 10 then m' + 3 else m' - 9
  (yoe + 400 * era + (if m ≤ 2 then 1 else 0), m, doy - (153 * m' + 2) / 5 + 1)

/-- Weekday of a day number, 1 Monday to 7 Sunday. -/
def dayWeek (z : Nat) : Nat := (z + 2) % 7 + 1

/-- The eight calendar octets of a count of seconds. -/
def calOf (t : Nat) : List Nat :=
  let (y, m, d) := dayDate (t / 86400)
  [bcd (t % 60), bcd (t / 60 % 60), bcd (t / 3600 % 24), dayWeek (t / 86400), bcd d, bcd m, bcd (y % 100), bcd (y / 100)]

/-- Seconds of a date and a time of day. -/
def secondsOf (y m d tod : Nat) : Nat := dayNumber y m d * 86400 + tod

/-- Whether an octet is two BCD digits that make a number from lo to hi. -/
def bcdIn (v lo hi : Nat) : Bool := v % 16 ≤ 9 && v / 16 ≤ 9 && lo ≤ unbcd v && unbcd v ≤ hi

/-- Whether eight octets, WDAY apart, are a time the calendar can hold (R523). -/
def calValid (l : List Nat) : Bool :=
  let g (i : Nat) : Nat := l.getD i 0
  bcdIn (g 0) 0 59 && bcdIn (g 1) 0 59 && bcdIn (g 2) 0 23 && bcdIn (g 5) 1 12 && bcdIn (g 6) 0 99 && bcdIn (g 7) 20 23
    && bcdIn (g 4) 1 (monthDays (100 * unbcd (g 7) + unbcd (g 6)) (unbcd (g 5)))

/-- Put eight octets into the time registers. -/
def State.calPut (s : State) (l : List Nat) : State :=
  let g (i : Nat) : Nat := l.getD i 0
  let s := ((s.put RTC.SEC 0 (g 0)).put RTC.MIN 0 (g 1)).put RTC.HOUR 0 (g 2)
  let s := ((s.put RTC.WDAY 0 (g 3)).put RTC.DATE 0 (g 4)).put RTC.MONTH 0 (g 5)
  (s.put RTC.YEAR 0 (g 6)).put RTC.CENTURY 0 (g 7)

/-! ### Calendar triggers (R528 to R531) -/

/-- The first occurrence after `now`, and after the due time itself, of a series (R528); none of a one-shot. -/
def nextDue (rep due now : Nat) : Option Nat :=
  let (y, m, d) := dayDate (due / 86400)
  let tod := due % 86400
  let every (step : Nat) : Option Nat := some (due + step * (1 + (now - due) / step))
  if rep = 1 then every 86400
  else if rep = 2 then every 604800
  else if 0x81 ≤ rep ∧ rep ≤ 0xBC then every (60 * (rep - 0x80))
  else
    let from_ := max due now
    let (y0, m0, _) := dayDate (from_ / 86400)
    if rep = 3 then
      let c := (List.range 26).map fun k => (y0 + (m0 - 1 + k) / 12, (m0 - 1 + k) % 12 + 1)
      ((c.filter fun p => d ≤ monthDays p.1 p.2).map fun p => secondsOf p.1 p.2 d tod).find? (from_ < ·)
    else if rep = 4 then
      let c := (List.range 10).map fun k => max y y0 + k
      ((c.filter fun y => d ≤ monthDays y m).map fun y => secondsOf y m d tod).find? (from_ < ·)
    else none

/-- The due time of trigger n as octets. -/
def State.trigDue (s : State) (n : Nat) : List Nat := le 4 (s.get RTC.CTRIG_DUE_LO n) ++ le 4 (s.get RTC.CTRIG_DUE_HI n)

/-- Set the due time of trigger n to a count of seconds; none disables the trigger. -/
def State.trigNext (s : State) (n : Nat) (t : Option Nat) : State :=
  match t with
  | none => s.clr RTC.CTRIG_CTL_EN n
  | some t => (s.put RTC.CTRIG_DUE_LO n (oct (calOf t) 0 4)).put RTC.CTRIG_DUE_HI n (oct (calOf t) 4 4)

/-- Trigger n falls due: PENDING while the main supply is on and the part READY, else missed; its due time advances (R529, R530). -/
def State.trigFire (s : State) (n : Nat) : State :=
  let lo := s.get RTC.CTRIG_DUE_LO n
  let hi := s.get RTC.CTRIG_DUE_HI n
  let t := calSecondsOf (s.trigDue n)
  let s := if s.on BOOT.STATUS_READY ∧ ¬ s.on RTCX.OFF then
      let s := ((s.set RTC.CTRIG_CTL_PENDING n).clr CTX.POSTED n).put CTX.PEND_LO n lo
      (s.put CTX.PEND_HI n hi).bump RTC.CTRIG_FIRE_CNT n
    else s.missAdd n lo hi
  s.trigNext n (nextDue (s.get RTC.CTRIG_CTL_REPEAT n) t t)

/-- The occurrences of trigger n up to an instant are missed; MISS_CNT saturates, so that no more than 255 need be taken one by one
(R525, R530). -/
def State.trigSkip (s : State) (n upTo : Nat) : Nat → State
  | 0 =>
    let t := calSecondsOf (s.trigDue n)
    if !s.on RTC.CTRIG_CTL_EN n || upTo < t then s else s.trigNext n (nextDue (s.get RTC.CTRIG_CTL_REPEAT n) t upTo)
  | fuel + 1 =>
    let t := calSecondsOf (s.trigDue n)
    if !s.on RTC.CTRIG_CTL_EN n || upTo < t then s
    else
      let s := s.missAdd n (s.get RTC.CTRIG_DUE_LO n) (s.get RTC.CTRIG_DUE_HI n)
      (s.trigNext n (nextDue (s.get RTC.CTRIG_CTL_REPEAT n) t t)).trigSkip n upTo fuel

/-- CAL_TRIG_SET (R528). -/
def execCalTrigSet (c : Cmd) (n rep : Nat) (due : List Nat) (s : State) : Host.Outcome State Fault Refusal :=
  let owner := s.get RTC.CTRIG_CTL_OWNER n
  let now := s.calSeconds
  let t := calSecondsOf due
  let t' := if now < t then some t else nextDue rep t now
  if 16 ≤ n then .next (s.finish c 0x4F 0x12)
  else if (owner ≠ 0xF ∧ owner ≠ c.ring) ∨ s.on RTC.STATUS_OSC_STOPPED then .next (s.finish c 0x4F 0x13)
  else if !calValid due || due.getD 3 0 != 0 || !(rep ≤ 4 || (0x81 ≤ rep && rep ≤ 0xBC)) || t' == none then .next (s.finish c 0x4F 0x12)
  else
    let s := ((s.put RTC.CTRIG_CTL_OWNER n c.ring).put RTC.CTRIG_CTL_REPEAT n rep).set RTC.CTRIG_CTL_EN n
    .next ((s.trigNext n t').finish c 0x4F 0)

/-- CAL_TRIG_CLR (R528). -/
def execCalTrigClr (c : Cmd) (n : Nat) (s : State) : Host.Outcome State Fault Refusal :=
  let owner := s.get RTC.CTRIG_CTL_OWNER n
  if 16 ≤ n then .next (s.finish c 0x50 0x12)
  else if owner ≠ 0xF ∧ owner ≠ c.ring then .next (s.finish c 0x50 0x13)
  else
    let s := s.each [RTC.CTRIG_CTL_EN, RTC.CTRIG_CTL_PENDING, RTC.CTRIG_CTL_REPEAT, RTC.CTRIG_DUE_LO, RTC.CTRIG_DUE_HI,
      RTC.CTRIG_MISS_FIRST_LO, RTC.CTRIG_MISS_FIRST_HI, RTC.CTRIG_MISS_CNT, CTX.POSTED, CTX.MPOST] fun s F => s.clr F n
    .next ((s.put RTC.CTRIG_CTL_OWNER n 0xF).finish c 0x50 0)

/-- TRIGGER_EVENT_POST: the Steward posts the TRIGGER event of a PENDING occurrence; it waits while the owner's backlog is full. -/
def execTriggerEventPost (n : Nat) (s : State) : Host.Outcome State Fault Refusal :=
  let h := s.get RTC.CTRIG_CTL_OWNER n
  if 16 ≤ n ∨ !s.on RTC.CTRIG_CTL_PENDING n ∨ s.on CTX.POSTED n ∨ !s.on BOOT.STATUS_READY ∨ 1024 ≤ s.evHeld h then .next s
  else .next (((s.set CTX.POSTED n).put CTX.SEQ n (s.get HST.EV_SEQ h)).event h 0x0E [(16, [0x40 + n]), (17, [2])])

/-- Insert a number into a list that rises by a key; equal keys keep their order. -/
def insertKey (key : Nat → Nat) (x : Nat) : List Nat → List Nat
  | [] => [x]
  | y :: t => if key x < key y then x :: y :: t else y :: insertKey key x t

/-- The triggers of Hedge h with a missed record not yet posted, by due time and then by number. -/
def State.missedOf (s : State) (h : Nat) : List Nat :=
  let ns := (List.range 16).filter fun n => s.get RTC.CTRIG_CTL_OWNER n == h && s.get RTC.CTRIG_MISS_CNT n != 0 && !s.on CTX.MPOST n
  let key (n : Nat) : Nat := calSecondsOf (le 4 (s.get RTC.CTRIG_MISS_FIRST_LO n) ++ le 4 (s.get RTC.CTRIG_MISS_FIRST_HI n))
  ns.foldl (fun l n => insertKey key n l) []

/-- Post up to four of the missed triggers as entries `from_` on of `total`. -/
def State.missedEvent (s : State) (h total from_ : Nat) (ns : List Nat) : State :=
  let s := s.each ns fun s n => (s.set CTX.MPOST n).put CTX.MSEQ n (s.get HST.EV_SEQ h)
  let body := ns.flatMap fun n => [n, 0] ++ le 4 (s.get RTC.CTRIG_MISS_FIRST_LO n) ++ le 4 (s.get RTC.CTRIG_MISS_FIRST_HI n)
  s.event h 0x10 [(16, [total]), (17, [from_]), (18, [ns.length]), (20, body)]

/-- MISSED_TRIGGERS_POST: the missed triggers of Hedge h. -/
def execMissedTriggersPost (h : Nat) (s : State) : Host.Outcome State Fault Refusal :=
  let ns := s.missedOf h
  if 8 ≤ h ∨ ns = [] ∨ !s.on BOOT.STATUS_READY ∨ 1020 < s.evHeld h then .next s
  else .next (s.each [0, 4, 8, 12] fun s k => s.when (k < ns.length) (·.missedEvent h ns.length k ((ns.drop k).take 4)))

/-! ### Counting and alarms (R520, R521, R526) -/

/-- Whether alarm n matches eight calendar octets. -/
def State.alarmMatches (s : State) (n : Nat) (l : List Nat) : Bool :=
  let m := s.get RTC.ALM_CTL_MASK n
  s.on RTC.ALM_CTL_EN n && (bit m 0 || s.get RTC.ALM_TIME_SEC n == l.getD 0 0) && (bit m 1 || s.get RTC.ALM_TIME_MIN n == l.getD 1 0)
    && (bit m 2 || s.get RTC.ALM_TIME_HOUR n == l.getD 2 0) && (bit m 3 || s.get RTC.ALM_TIME_DATE n == l.getD 4 0)

/-- Set the level of PWRON_CTL (R527). -/
def State.pwron (s : State) (v : Nat) : State := (s.put RTC.PWRON_LEVEL 0 v).put PIN.PWRON_CTL 0 v

/-- RTC_SECOND: the next second, the alarms that match it and the triggers that fall due. Nothing counts while HALT is 1. -/
def execRtcSecond (s : State) : Host.Outcome State Fault Refusal :=
  if s.on RTC.CTL_HALT then .next s
  else
    let wrap := s.calSeconds + 1 == secondsOf 2400 1 1 0
    let l := calOf (if wrap then secondsOf 2000 1 1 0 else s.calSeconds + 1)
    let s := s.calPut l
    let s := s.when wrap fun s => (s.set RTC.STATUS_OSC_STOPPED).set RTC.EVENT_RANGE_WRAP
    let s := s.each [0, 1] fun s n => s.when (s.alarmMatches n l) fun s =>
      (s.set (if n = 0 then RTC.EVENT_ALARM0 else RTC.EVENT_ALARM1)).when (s.on RTC.ALM_CTL_PWRON n) (·.pwron 1)
    .next (s.each (List.range 16) fun s n =>
      if s.on RTC.CTRIG_CTL_EN n ∧ calSecondsOf (s.trigDue n) = calSecondsOf l then s.trigFire n else s)

/-- OSC_STOP_DETECT: no crystal edge for 1 ms. -/
def execOscStopDetect (s : State) : Host.Outcome State Fault Refusal := .next ((s.set RTC.STATUS_OSC_STOPPED).set RTC.EVENT_OSC_FAIL)

/-! ### Reading (R522) -/

/-- RTC_TIME_READ: the view freezes with the first read, answers from its shadows and thaws with the read of CENTURY. -/
def execRtcTimeRead (r : Req) (k : Nat) (s : State) : Host.Outcome State Fault Refusal :=
  s.onRead r (RTC.SEC.addr 0 + 4 * k) fun s =>
  if 8 ≤ k then .next s
  else
    let n := viewOf r
    let l := s.calOctets
    let s := s.when (!s.on RTC.STATUS_FROZEN n) fun s =>
      (s.each (List.range 8) fun s i => s.put RTCX.SHADOW (8 * n + i) (l.getD i 0)).set RTC.STATUS_FROZEN n
    let s := (s.put MODEL.DATA 0 (s.get RTCX.SHADOW (8 * n + k))).put MODEL.RESP 0 0
    .next (s.when (k == 7) (·.clr RTC.STATUS_FROZEN n))

/-- RTC_THAW_TIMEOUT: 1 ms after the freeze. -/
def execRtcThawTimeout (r : Req) (s : State) : Host.Outcome State Fault Refusal := .next (s.clr RTC.STATUS_FROZEN (viewOf r))

/-! ### Setting (R523 to R525) -/

/-- Step 3 of a set: the registers are checked; WDAY is computed, OSC_STOPPED clears and counting resumes, and a set forward takes the due
times it passes as missed. -/
def State.calSet (s : State) : State :=
  let l := s.calOctets
  if !calValid l then s.set RTC.EVENT_BAD_SET
  else
    let old := calSecondsOf (le 8 (s.get RTCX.OLD))
    let new := calSecondsOf l
    let s := ((s.calPut (calOf new)).clr RTC.STATUS_OSC_STOPPED).clr RTC.CTL_HALT
    if new ≤ old then s
    else s.each (List.range 16) fun s n =>
      let due := calSecondsOf (s.trigDue n)
      if s.on RTC.CTRIG_CTL_EN n ∧ old < due ∧ due ≤ new then s.trigSkip n new 255 else s

/-- HALT is set: counting stops. -/
def State.calHalt (s : State) : State := (s.set RTC.CTL_HALT).put RTCX.OLD 0 (leVal s.calOctets)

/-- RTC_HALT_WRITE: a write of CTL. A set that fails its check changes nothing but EVENT.BAD_SET. -/
def execRtcHaltWrite (r : Req) (v : Nat) (s : State) : Host.Outcome State Fault Refusal :=
  s.onBus r (RTC.CTL_HALT.addr 0) fun s =>
  let auto_ (s : State) : State := s.put RTC.CTL_AUTO_SET 0 (bits v 1 1)
  if bit v 0 then .next (auto_ (if s.on RTC.CTL_HALT then s else s.calHalt))
  else if s.on RTC.CTL_HALT then
    let t := s.calSet
    .next (if t.on RTC.CTL_HALT then t else auto_ t)
  else .next (auto_ s)

/-- RTC_TIME_WRITE: time register k; WDAY is the part's own. -/
def execRtcTimeWrite (r : Req) (k v : Nat) (s : State) : Host.Outcome State Fault Refusal :=
  s.onPriv r (RTC.SEC.addr 0 + 4 * k) fun s =>
  if 8 ≤ k then .next s
  else if !s.on RTC.CTL_HALT then .next (s.set RTC.EVENT_BAD_SET)
  else .next (match k with
    | 0 => s.put RTC.SEC 0 v
    | 1 => s.put RTC.MIN 0 v
    | 2 => s.put RTC.HOUR 0 v
    | 3 => s
    | 4 => s.put RTC.DATE 0 v
    | 5 => s.put RTC.MONTH 0 v
    | 6 => s.put RTC.YEAR 0 v
    | _ => s.put RTC.CENTURY 0 v)

/-- RTC_AUTO_SET: the hourly comparison with UTC, while LOCKED; a calendar that is off by 1 s or not to be trusted is set, with a record.
A host's set in progress is left alone. -/
def execRtcAutoSet (s : State) : Host.Outcome State Fault Refusal :=
  let utc : Nat := ((s.get CLK.SEC : Int) - s.getI TIME.UTC_OFFSET).toNat + dayNumber 1970 1 1 * 86400
  if !s.on RTC.CTL_AUTO_SET ∨ s.get TIME.SRC_STATUS_STATE ≠ 3 ∨ s.on RTC.CTL_HALT then .next s
  else if s.calSeconds = utc ∧ !s.on RTC.STATUS_OSC_STOPPED then .next s
  else
    let old := s.calOctets
    .next (((s.calHalt.calPut (calOf utc)).calSet).record 3 2 0 0 none 0 0 [(0, old)])

/-- PWRON_LEVEL_WRITE (R527). -/
def execPwronLevelWrite (r : Req) (v : Nat) (s : State) : Host.Outcome State Fault Refusal :=
  s.onBus r (RTC.PWRON_LEVEL.addr 0) fun s => .next (s.pwron v)

/-! ### The backup supply (R518, R519) -/

/-- BACKUP_RESET: every register of the backup domain returns to its reset value; OSC_STOPPED is then set. -/
def execBackupReset (s : State) : Host.Outcome State Fault Refusal :=
  let tamper := [PADS.TAMPER_STATE, PADS.TAMPER_EVENT, PADS.CTL_TAMPER_EN, PADS.TAMPER_TIME_LO, PADS.TAMPER_TIME_HI, PADX.DUE]
  let own := tamper ++ [RTCX.SHADOW, RTCX.OLD, CTX.POSTED, CTX.MPOST, CTX.PEND_LO, CTX.PEND_HI, PIN.PWRON_CTL]
  .next { s with cells := s.cells.filter fun c => !backupBlock c.1.1 && !isOf own c.1.1 }

/-- BACKUP_SUPPLY_SWITCH: no count, register or write is lost; with the main supply lost, every occurrence that is PENDING is missed
(R530). -/
def execBackupSupplySwitch (vbat : Bool) (s : State) : Host.Outcome State Fault Refusal :=
  .next (if vbat then s.pendMissed.set RTCX.OFF else s.clr RTCX.OFF)

/-- VBAT_LOW_DETECT: VBAT crosses the threshold, downwards when `low`. -/
def execVbatLowDetect (low : Bool) (s : State) : Host.Outcome State Fault Refusal :=
  .next (if s.on RTC.STATUS_VBAT_LOW = low then s else (s.put RTC.STATUS_VBAT_LOW 0 (if low then 1 else 0)).when low (·.set RTC.EVENT_VBAT_LOW))

end Sys2Proof.Machine
end

