-- ==== Sys2Proof/Machine/Faults.lean ====
section
/-!
DEFINITION. The detection of faults (R536, R541), their injection (R550), and the tamper inputs (R568).
-/

namespace Sys2Proof.Machine

open Sys2Proof

/-! ### Clocks and the Steward -/

/-- REFCLK_LOSS: the part stops (R541). -/
def execRefclkLoss (s : State) : Host.Outcome State Fault Refusal := .next (s.fault 0x0101 0 7)

/-- PLL_UNLOCK: the part stops. -/
def execPllUnlock (s : State) : Host.Outcome State Fault Refusal := .next (s.fault 0x0102 0 7)

/-- REFCLK_RESTORED: the STOP hold ends; the sequence of R484 may follow. -/
def execRefclkRestored (s : State) : Host.Outcome State Fault Refusal := .next (s.clr RSTX.STOPPED)

/-- CLOCK_DUP_MISMATCH. -/
def execClockDupMismatch (s : State) : Host.Outcome State Fault Refusal := .next (s.fault 0x0103 0 5)

/-- STEWARD_LOCKSTEP_MISMATCH. -/
def execStewardLockstepMismatch (s : State) : Host.Outcome State Fault Refusal := .next (s.fault 0x0301 0 5)

/-! ### Memories (R500, R503, R504) -/

/-- A DRAM channel is lost (R536, R541). -/
def State.channelLost (s : State) (c a count detail : Nat) (injected : Bool := false) : State :=
  ((s.set DDR.CH_STATUS_LOST c).clr DDR.CH_STATUS_TRAINED c).fault 0x0702 c 6 none a count [(0, [detail])] injected

/-- Uncorrectable blocks of channel c within the last 1 ms. -/
def State.recentErrs (s : State) (c : Nat) : Nat :=
  ([0, 1, 2].filter fun i => s.get DRX.ERR_AT (3 * c + i) != 0 && decide (s.mp + 1 ≤ s.get DRX.ERR_AT (3 * c + i) + usTicks 1000)).length

/-- Remember an uncorrectable block of channel c. -/
def State.noteErr (s : State) (c : Nat) : State :=
  let s := (s.put DRX.ERR_AT (3 * c + 2) (s.get DRX.ERR_AT (3 * c + 1))).put DRX.ERR_AT (3 * c + 1) (s.get DRX.ERR_AT (3 * c))
  s.put DRX.ERR_AT (3 * c) (s.mp + 1)

/-- The entry of the Thicket an address lies in. -/
def State.entryAt (s : State) (a : Nat) : Option Nat :=
  let b := s.get THK.TABLE_BASE
  if b ≤ a ∧ a < b + 2 ^ 27 then some ((a - b) / 512) else none

/-- Uncorrectable blocks of DRAM from an address on: the fourth on its channel within 1 ms loses the channel; fewer are a fault of what lies
there. They read as zeros from then on. -/
def State.dramBad (s : State) (a blocks : Nat) : State :=
  let c := a / 4096 % 2
  let had := s.recentErrs c
  let s := s.bump DDR.CH_ECC_UNCORR c blocks
  if 4 ≤ had + blocks then s.channelLost c a 4 1
  else
    let s := s.each (List.range blocks) fun s _ => s.noteErr c
    match s.entryAt a with
    | some e =>
      let s := s.fault 0x0701 0 1 none a
      if s.get E.STATE e = stFree then s else s.freeEntry e fCheck
    | none =>
      let lo := a / 32 * 32
      let s := { s with mem.dram := memZero s.mem.dram lo (lo + 32 * blocks) }
      match (List.range 8).find? fun h => s.inDramGrant h a with
      | some h => s.fault 0x0703 0 3 (some h) a
      | none => s.fault 0x0703 0 (if s.get DDR.STEWARD_BASE ≤ a then 5 else 4) none a

/-- An uncorrectable error of chip SRAM: in a Hedge's grant or FIFO, or elsewhere. -/
def State.sramBad (s : State) (off : Nat) : State :=
  let size (f : Nat) : Nat := s.fifoEsize f * s.get FIFO.DEPTH f
  let fifo : Option Nat := (List.range 2048).find? fun f =>
    76 ≤ f && s.on FIFO.CFG_EN f && s.get FIFO.CFG_OWNER f < 8 && s.get FIFO.BASE f ≤ off && off < s.get FIFO.BASE f + size f
  match (List.range 8).find? fun h => s.inSramGrant h off, fifo with
  | some h, _ => s.fault 0x0502 0 3 (some h) off
  | none, some f => s.fault 0x0502 f 3 (some (s.get FIFO.CFG_OWNER f)) off
  | none, none => s.fault 0x0501 0 4 none off

/-- A corrected error, counted and recorded as MASKED. -/
def State.eccFixed (s : State) (x : EccAt) : State :=
  match x with
  | .steward => s.fault 0x0300 0 0
  | .engine g ea => (s.bump ENGE.ECC_CORR (g / 4)).fault 0x0400 (g / 4) 0 none ea
  | .sram off => s.fault 0x0500 0 0 none off
  | .dram a n => (s.bump DDR.CH_ECC_CORR (a / 4096 % 2) n).fault 0x0700 (a / 4096 % 2) 0 none a

/-- MEMORY_ECC_ERROR: an uncorrectable one in an engine's memory traps the thread that read it with ECC (R387). -/
def execMemoryEccError (at_ : EccAt) (corrected : Bool) (s : State) : Host.Outcome State Fault Refusal :=
  if corrected then .next (s.eccFixed at_)
  else .next (match at_ with
    | .steward => s.fault 0x0303 0 5
    | .engine g ea => if g < 512 ∧ s.threadState g = 1 then s.trap g 0x08 ea else s
    | .sram off => s.sramBad off
    | .dram a n => s.dramBad a n)

/-- SRAM_SCRUB: the errors found by a scrub of chip SRAM. -/
def execSramScrub (errs : List (Nat × Bool)) (s : State) : Host.Outcome State Fault Refusal :=
  .next (s.each errs fun s x => if x.2 then s.sramBad x.1 else s.eccFixed (.sram x.1))

/-- DRAM_SCRUB: the errors found in a granule; one never written is not read. -/
def execDramScrub (k : Nat) (errs : List (Nat × Bool)) (s : State) : Host.Outcome State Fault Refusal :=
  if !s.on DRX.WRITTEN k then .next s
  else .next (s.each errs fun s x =>
    let a := 4096 * k + x.1 % 4096
    if x.2 then s.dramBad a 1 else s.eccFixed (.dram a 1))

/-- DRAM_PROBE: two failed probes in a row lose the channel. -/
def execDramProbe (ok0 ok1 : Bool) (s : State) : Host.Outcome State Fault Refusal :=
  .next (s.each [(0, ok0), (1, ok1)] fun s x =>
    if x.2 then s.clr DRX.PROBE x.1
    else if !s.on DDR.CH_STATUS_TRAINED x.1 then s
    else if s.on DRX.PROBE x.1 then s.channelLost x.1 0 2 0
    else s.set DRX.PROBE x.1)

/-! ### Units (R536) -/

/-- ENGINE_BIST. -/
def execEngineBist (e : Nat) (ok : Bool) (s : State) : Host.Outcome State Fault Refusal :=
  .next (if ok || 128 ≤ e then s else s.fault 0x0402 e 4)

/-- A receive port stops receiving. -/
def State.portLeaves (s : State) (p : Nat) : State := s.set RXX.PORT_OUT p

/-- A lane leaves service, with the frame it receives. -/
def State.laneLeaves (s : State) (l : Nat) : State :=
  ((s.put FLT.LANE_OUT 0 (Nat.lor (s.get FLT.LANE_OUT) (2 ^ l))).laneDrop l).lanePending l

/-- ADC_SUBCONV_CHECK. -/
def execAdcSubconvCheck (p : Nat) (ok : Bool) (s : State) : Host.Outcome State Fault Refusal :=
  .next (if ok || 2 ≤ p || s.on RXX.PORT_OUT p then s else (s.fault 0x0901 p 1).portLeaves p)

/-- RX_SYNTH_LOCK_LOST: SY4 or SY5 loses lock, which is a fault while its port receives (R165, R196). -/
def execRxSynthLockLost (n : Nat) (s : State) : Host.Outcome State Fault Refusal :=
  if n ≠ 4 ∧ n ≠ 5 then .next s
  else
    let s := (s.when (s.on SY.STATUS_LOCK n) (·.bump SY.LOCK_LOST_CNT n)).clr SY.STATUS_LOCK n
    .next (if s.portOn (n - 2) then (s.fault 0x0902 (n - 2) 1).portLeaves (n - 2) else s)

/-- LANE_CHECKER_SLOT: an enabled lane whose soft outputs differ leaves service. -/
def execLaneCheckerSlot (l : Nat) (ok : Bool) (s : State) : Host.Outcome State Fault Refusal :=
  .next (if ok || 48 ≤ l || !s.on LANE.CFG_EN l || bit (s.get FLT.LANE_OUT) l then s else (s.fault 0x0903 l 1).laneLeaves l)

/-- LDPC_KNOWN_TEST (R141). -/
def execLdpcKnownTest (k iters : Nat) (ok : Bool) (s : State) : Host.Outcome State Fault Refusal :=
  .next (if ok || 4 ≤ k || bit (s.get LDX.OUT) k then s else (s.fault 0x0A01 k 1).decFault k iters)

/-- A security core leaves service. -/
def State.aesLeaves (s : State) (core : Nat) : State := s.put FLT.AES_OUT 0 (Nat.lor (s.get FLT.AES_OUT) (2 ^ core))

/-- CRYPTO_KAT: a failed core leaves service; the last of its kind takes a core reset with it. -/
def execCryptoKat (kind : CoreKind) (core : Nat) (ok last : Bool) (s : State) : Host.Outcome State Fault Refusal :=
  if ok then .next s
  else .next (match kind with
    | .aes =>
      if 4 ≤ core ∨ bit (s.get FLT.AES_OUT) core then s
      else
        let s := s.aesLeaves core
        s.fault 0x0D02 core (if s.get FLT.AES_OUT = 15 then 4 else 1)
    | _ => s.fault 0x0D02 core (if last then 4 else 1))

/-! ### Injection (R550) -/

/-- The class an injected CODE is decided in, with the Hedge it names; none for a CODE that may not be injected. -/
def State.injectClass (s : State) (code u : Nat) : Option (Nat × Option Nat) :=
  let owner := s.get FIFO.CFG_OWNER u
  let mine : Option Nat := if u < 2048 ∧ owner < 8 then some owner else none
  if code = 0x0103 ∨ code = 0x0201 ∨ code = 0x0202 ∨ code = 0x0301 ∨ code = 0x0302 ∨ code = 0x0303 then some (5, none)
  else if code = 0x0401 ∨ code = 0x0402 ∨ code = 0x0501 ∨ code = 0x0703 ∨ code = 0x0C01 then some (4, none)
  else if code = 0x0403 then some (if 112 ≤ u ∧ u < 128 then (3, some ((u - 112) / 2)) else (4, none))
  else if code = 0x0502 then some (3, mine)
  else if code = 0x0601 then some (if mine.isSome then (3, mine) else (4, none))
  else if code = 0x0702 then some (6, none)
  else if code = 0x0D02 then some (if u < 4 ∧ Nat.lor (s.get FLT.AES_OUT) (2 ^ u) = 15 then 4 else 1, none)
  else if code = 0x0701 ∨ code = 0x0901 ∨ code = 0x0902 ∨ code = 0x0903 ∨ code = 0x0A01 ∨ code = 0x0D03 ∨ code = 0x1101 then
    some (1, none)
  else if 0x0B02 ≤ code ∧ code ≤ 0x0B06 then some (2, none)
  else if code = 0x0300 ∨ code = 0x0400 ∨ code = 0x0500 ∨ code = 0x0700 ∨ code = 0x0801 ∨ code = 0x0802 ∨ code = 0x0B01 ∨ code = 0x0D01 then
    some (0, none)
  else none

/-- What becomes of the unit an injected fault names. -/
def State.injectUnit (s : State) (code u : Nat) : State :=
  if code = 0x0701 then if s.get E.STATE u = stFree then s else s.freeEntry u fCheck
  else if code = 0x0702 ∧ u < 2 then (s.set DDR.CH_STATUS_LOST u).clr DDR.CH_STATUS_TRAINED u
  else if code = 0x0901 ∧ u < 2 then s.portLeaves u
  else if code = 0x0902 ∧ (u = 2 ∨ u = 3) then s.portLeaves u
  else if code = 0x0903 ∧ u < 48 then s.laneLeaves u
  else if code = 0x0A01 ∧ u < 4 then s.decFault u 0
  else if code = 0x0D02 ∧ u < 4 then s.aesLeaves u
  else if code = 0x0D03 ∧ u < 1024 then ((s.put KSLOT.META_STATE u 3).bump SEC.TAG_FAIL_CNT).set SEC.EVENT_TAG_FAIL
  else if code = 0x1101 then (s.set FLT.STATUS_SCP_OUT).set FLT.EVENT_SCP_FAIL
  else if code = 0x0601 ∧ u < 2048 then (s.set FIFO.STATUS_FROZEN u).set FIFO.EVENT_PTR_FAULT u
  else if 0x0B02 ≤ code ∧ code ≤ 0x0B06 ∧ u < 4 then s.muteSet u (2 ^ ([2, 3, 5, 6, 4].getD (code - 0x0B02) 0))
  else s

/-- The bit of RST_CAUSE of a fault that is itself a source of a reset (R477). -/
def sourceBit (code : Nat) : Option Nat :=
  if code = 0x0201 then some 3 else if code = 0x0202 then some 4 else if code = 0x0302 then some 5 else if code = 0x0403 then some 6 else none

/-- FAULT_INJECT: the part acts as though INJECT.CODE had been detected in INJECT.UNIT. -/
def execFaultInject (r : Req) (s : State) : Host.Outcome State Fault Refusal :=
  s.onBus r (FLT.INJ_GO.addr 0) fun s =>
  let code := s.get FLT.INJECT_CODE
  let u := s.get FLT.INJECT_UNIT
  match s.on BOOT.STATUS_READY, s.injectClass code u with
  | true, some (a, h) =>
    let t := s.injectUnit code u
    .next (match sourceBit code, h with
      | some k, none => t.sourceFault code u a k true
      | _, _ => t.fault code u a h 0 0 [] true)
  | _, _ => .next (s.set FLT.EVENT_BAD_CFG)

/-! ### Tamper inputs (R568, R573) -/

/-- TAMPER_SAMPLE: ball n is sampled; the first high reading since the flag was cleared is latched with its time, and recorded at once when
the part is READY. -/
def execTamperSample (n : Nat) (high : Bool) (s : State) : Host.Outcome State Fault Refusal :=
  if 2 ≤ n || !bit (s.get PADS.CTL_TAMPER_EN) n then .next s
  else
    let st := s.get PADS.TAMPER_STATE
    let s := s.put PADS.TAMPER_STATE 0 (st - (if bit st n then 2 ^ n else 0) + (if high then 2 ^ n else 0))
    if !high || bit (s.get PADS.TAMPER_EVENT) n then .next s
    else
      let s := (s.put PADS.TAMPER_EVENT 0 (s.get PADS.TAMPER_EVENT + 2 ^ n)).set PADX.DUE n
      let l := s.calOctets
      let s := (s.put PADS.TAMPER_TIME_LO n (oct l 0 4)).put PADS.TAMPER_TIME_HI n (oct l 4 4)
      .next (if s.on BOOT.STATUS_READY then s.tamperRecord n else s)

end Sys2Proof.Machine
end

