-- ==== Sys2Proof/Machine/Bus.lean ====
section
/-!
DEFINITION. Register space (spec/00_scope.md, spec/19_register_space.md): the blocks and views, reading and writing a word by the access
codes, the words whose write has an effect of its own, and Expert ownership.
-/

namespace Sys2Proof.Machine

open Sys2Proof

/-! ### Reading (R3 to R5, R575) -/

/-- The hottest die sensor is read: a free value, and the highest since TJ_MAX was last read with it (R573; assumption log 3). -/
def State.dieSample (s : State) : State :=
  let (v, s) := s.draw
  let t := v % 2 ^ 16
  let high := if s.on PADX.TJ_SEEN ∧ toInt 16 t < s.getI PADS.TJ_MAX then s.get PADS.TJ_MAX else t
  (s.put PADS.TJ 0 t).put PADS.TJ_MAX 0 high

/-- Bring the fields that show a value of the moment up to date before a word is read: Mesh Phase, the clock, ledgers, counts of entries,
requests, tokens and pending events. The die's temperatures and the supplies are free values (assumption log 3). -/
def State.freshen (s : State) (off : Nat) : State :=
  let at_ (F : Fld) : Option Nat := (F.hit off).map (·.1)
  let drawn (F : Fld) : State := let (v, s) := s.draw; s.put F 0 v
  if off = 0x400010 then match execNscNowNsRead .steward s with | .next t => t | _ => s
  else if off = 0x400040 ∨ off = 0x400044 then s.put TIME.MP_NOW 0 s.mp
  else if 0x610000 ≤ off ∧ off < 0x610400 ∧ off % 0x100 = 8 then s.calNext ((off - 0x610000) / 0x100)
  else if 0x611000 ≤ off ∧ off < 0x611180 ∧ off % 0x40 = 0xC then s.sense ((off - 0x611000) / 0x40)
  else if off = 0x61300C then let (v, s) := s.draw; s.put COEX.STATUS_GNT 0 v
  else if off = FWD.SEEN_USED.base ∨ (at_ FWDH.SEEN_USED).isSome then
    { s with seen := s.seen.filter s.seenLive }.seenShow ((at_ FWDH.SEEN_USED).getD 0)
  else if off = PADS.TJ.base then s.dieSample.set PADX.TJ_SEEN
  else if off = PADS.TJ_MAX.base then s.dieSample.clr PADX.TJ_SEEN
  else if off = PADS.SUPPLY_OK.base then drawn PADS.SUPPLY_OK
  else
    match at_ DUTY.USED, at_ DUTY.BUDGET, at_ FWDH.GEN_CNT_LO, at_ FWDH.GEN_CNT_HI, at_ OUT.STATUS_INFLIGHT, at_ SHAPER.TOKENS,
      at_ ENGE.THR_EVPEND with
    | some b, _, _, _, _, _, _ => s.put DUTY.USED b (s.dutyUsed b s.mp)
    | _, some b, _, _, _, _, _ => s.put DUTY.BUDGET b (s.dutyBudget b)
    | _, _, some h, _, _, _, _ => s.put FWDH.GEN_CNT_LO h (s.genCount h (s.get FWDH.GEN_BASE h))
    | _, _, _, some h, _, _, _ => s.put FWDH.GEN_CNT_HI h (s.genCount h ((s.get FWDH.GEN_BASE h + 1) % 8))
    | _, _, _, _, some o, _, _ => (s.put OUT.STATUS_BAND o (s.chainBand o)).put OUT.STATUS_REQUESTING o (if s.requesting o then 1 else 0)
    | _, _, _, _, _, some n, _ => s.putI SHAPER.TOKENS n (s.shTokens n / unit24)
    | _, _, _, _, _, _, some k => s.put ENGE.THR_EVPEND k (s.evPend (4 * (k / 8) + k % 8))
    | _, _, _, _, _, _, _ => s

/-- What a read shows of a field: WO reads zero, VIEW and FROZEN are the view's. -/
def State.shown (s : State) (r : Req) (F : Fld) (n : Nat) : Nat :=
  if F.acc = .wo then 0
  else if F.id = SYS.VIEW.id then (if viewOf r = 0 then 8 else viewOf r - 1)
  else if F.id = RTC.STATUS_FROZEN.id then s.get F (viewOf r)
  else s.get F n

/-- Read the word of a register: the low word of a 64-bit register latches the high word into the requester's shadow, which its next read
of the high word returns (R3); a read clears RC fields, but not those of AGG in a Hedge view (R575). -/
def State.readWord (s : State) (r : Req) (off : Nat) : State :=
  let s := s.freshen off
  let l := wordFlds off
  let k := x64 r (off - 4)
  let high (F : Fld) (n : Nat) : Nat := if s.on X64.LATCHED k then s.get X64.SHADOW k else s.get F n / 2 ^ 32
  let v := (l.map fun (F, n, hi) => if hi then high F n else s.shown r F n % 2 ^ 32 * 2 ^ F.lo).sum
  let keep := viewOf r != 0 && 0x701000 ≤ off && off < 0x701800
  let s := s.each l fun s (F, n, hi) =>
    if hi then s.clr X64.LATCHED k
    else if F.wide then (s.put X64.SHADOW (x64 r off) (s.get F n / 2 ^ 32)).set X64.LATCHED (x64 r off)
    else if F.acc = .rc ∧ ¬ keep then s.clr F n
    else s
  (s.put MODEL.DATA 0 v).put MODEL.RESP 0 0

/-- The state after a command that always goes on. -/
def next (s : State) : Host.Outcome State Fault Refusal → State
  | .next t => t
  | _ => s

/-- Read a word as a requester. -/
def State.busRead (s : State) (r : Req) (off len : Nat) : State :=
  match s.reachWord r off len with
  | 0 =>
    if 0xE00000 ≤ off ∧ off < 0xE00020 then next s (execRtcTimeRead r ((off - 0xE00000) / 4) s)
    else match CAMP.STATUS_STATE.hit off with
      | some (h, _) => next s (execCampStatusRead r h s)
      | none => s.readWord r off
  | 2 => (s.put MODEL.DATA 0 0xFFFFFFFF).put MODEL.RESP 0 2
  | 3 => (s.put MODEL.DATA 0 0).put MODEL.RESP 0 0
  | 4 => (s.put MODEL.DATA 0 (leVal (memReadL s.mem.sram (off - 0xF000000) 4))).put MODEL.RESP 0 0
  | _ => s.busErr r off

/-! ### Writing by the access codes (R2 to R4, R6) -/

/-- The values a register table takes; others are ignored (where a table gives a range and does not say so, that is the model's choice). -/
def ranges : List (Fld × Nat × Nat) :=
  [(TIME.STEP_CFG_SLEW_PPM, 1, 50), (PT.WIDTH, 17, 0xFFFFFF), (BEACON.INTERVAL, 1, 3600), (THK.CTL_AGE_SCAN, 2, 255),
   (THK_HEDGE.AGE_LOST, 1, 0xFFFFFF), (THK_HEDGE.AGE_FREE, 1, 0xFFFFFF), (THK_HEDGE.JOIN_TIMEOUT, 1, 65535),
   (THK_HEDGE.LEARN_BURST, 1, 65535), (LEARN_LANE.CFG_BURST, 1, 65535), (APRX.UP_HOLD, 100, 65535), (DEMOD.CTL_DUP_WIN, 1, 255),
   (COEX.GNT_MAX, 1, 255), (TIME.NSC_SET_NS, 0, 999999999), (REGPROF.HDR_SB_COUNT, 0, 16), (SB.DUTY_PPM, 0, 1000000), (SB.DUTY_WIN_S, 64, 65535)] ++
  [(MACH.LBT_TRIES_TRUMP, 1, 15), (MACH.LBT_TRIES_LEAD, 1, 15), (MACH.LBT_TRIES_DEAL, 1, 15), (MACH.LBT_TRIES_KITTY, 1, 15),
   (WAKE.OBS_OBS_UNCERT, 768, 65535), (WAKE.OBS_RATE_SHIFT, 0, 8), (WAKE.ARM_LEAD_US, 100, 10000), (WAKEH.GUARD_US, 50, 65535),
   (WAKEH.LEAD_TRUMP, 700, 65535), (WAKEH.LEAD_OTHER, 700, 65535), (FWD.SEEN_LIFE, 1, 3600), (FWDH.TTL_TTL_INIT, 2, 63),
   (FWDH.TTL_FLOOD_TTL, 1, 63), (FWDH.ROUTE_FAIL_MAX, 1, 255), (CAMP.CFG_MCAST_ROUNDS, 1, 4), (CAMP.CFG_REPAIR_ROUNDS, 1, 15),
   (CAMP.CFG2_SPREAD_S, 10, 3600)] ++
  [(TMG.EXP_SCAN, 10, 1000), (OUT.W_W_LEAD, 1, 65535), (OUT.W_W_DEAL, 1, 65535), (OUT.W_KITTY, 1, 65535), (OUT.INFLIGHT_MAX, 1, 256),
   (OUT.INFLIGHT_TRUMP_EXTRA, 0, 64), (TMH.QMAX_TRUMP, 1, 255), (TMH.QMAX_LEAD, 1, 255), (TMH.QMAX_DEAL, 1, 255),
   (TMH.QMAX_KITTY, 1, 255), (TMH.RETURN_US, 1000, 0xFFFFFFFF), (AGG.WEIGHT, 1, 65535), (WATCH.PERIOD, 100, 1000000),
   (SECH.GROUP_SWITCH_S, 10, 65535), (SECH.REKEY_RETRY_S, 10, 65535), (ENGE.WDOG_TIMEOUT, 100, 10000)] ++
  [(HOSTG.TUN_MTU, 1280, 9000), (HOSTG.TUN_RTO, 1, 1000), (HOSTH.OUTSTANDING_MAX, 1, 16384), (HOSTH.UPLINK_HOLD, 0, 60000),
   (TWIN.CYCLE_MS, 100, 10000), (TWIN.LOSS_US, 500, 65535), (TWIN.LOOP_S, 10, 65535), (PRP.SUP_INT_MS, 100, 10000),
   (PRP.FORGET_MS, 10, 10000)]

/-- Whether a field takes a value. -/
def takes (F : Fld) (x : Nat) : Bool :=
  if F.id = WAKEH.CFG_DEF_EXP.id then x == 0 || (6 ≤ x && x ≤ 22)
  else if F.id = TIME.NSC_STEP_NS.id then (toInt 32 x).natAbs ≤ 999999999
  else if F.id = SECH.CFG_DEF_SEC_LEVEL.id then x != 0 && x != 4
  else match ranges.find? fun p => p.1.id == F.id with
    | some (_, lo, hi) => lo ≤ x && x ≤ hi
    | none => true

/-- The flag a value that is not taken sets, if any. The spec names no cause for WAKE.EVENT.BAD_CFG; the model's choice is a refused
write of the block. -/
def refusedFlag (F : Fld) (n : Nat) : Option (Fld × Nat) :=
  if isOf [OUT.W_W_LEAD, OUT.W_W_DEAL, OUT.W_KITTY] F.id then some (TMG.EVENT_BAD_CFG, 0)
  else if F.id = WAKEH.CFG_DEF_EXP.id then some (WAKEH.EVENT_BAD_CFG, n)
  else if F.id = TWIN.CYCLE_MS.id then some (TWIN.EVENT_BAD_CFG, 0)
  else if isOf [WAKE.OBS_OBS_UNCERT, WAKE.OBS_RATE_SHIFT, WAKE.ARM_LEAD_US] F.id then some (WAKE.EVENT_BAD_CFG, 0)
  else none

/-- Fields that only the privileged view writes, though a Hedge view holds their instance (R579 and the register tables). -/
def privOnly : List Fld :=
  [PT.CTL_OWNER, CU.CTL_OWNER, THK_HEDGE.QUOTA, THK_HEDGE.PIN_MAX, FWDH.SEEN_MAX, TMH.CELL_QUOTA, WATCH.CFG_OWNER, SHAPER.CFG_OWNER,
   FIFO.CFG_OWNER, METER.CFG_OWNER, SECH.SLOT_QUOTA, HOSTH.OUTSTANDING_MAX, HOSTH.BACKLOG_MAX, HOSTH.PT_MAX]

/-- A field takes a value written, or sets its flag. -/
def State.takeFld (s : State) (r : Req) (F : Fld) (n x : Nat) : State :=
  if viewOf r ≠ 0 ∧ isOf privOnly F.id then s
  else if takes F x then s.put F n x
  else match refusedFlag F n with
    | some (E, k) => s.set E k
    | none => s

/-- Whether the lock of the RWL fields at an offset is set (R6). -/
def State.lockedAt (s : State) (off : Nat) : Bool :=
  if off < 0x500000 then s.on TIME.EPOCH_LOCK_LOCK
  else if off < 0x600000 then s.on THK.TABLE_LOCK_LOCK
  else if off < 0xB00000 then s.on REGPROF.CTL_LOCK
  else s.on HOSTG.CFG_LOCK

/-- A field takes its part of a word written, by its access code. -/
def State.writeFld (s : State) (r : Req) (locked : Bool) (F : Fld) (n x : Nat) : State :=
  match F.acc with
  | .rw => s.takeFld r F n x
  | .rwl => if locked then s else s.takeFld r F n x
  | .w1c => s.put F n (s.get F n - Nat.land (s.get F n) x)
  | .w1s => s.put F n (Nat.lor (s.get F n) x)
  | _ => s

/-- Write the word at an offset by the access codes; a 64-bit register changes with its low word, and its high word waits for that (R3). -/
def State.plainWrite (s : State) (r : Req) (off v : Nat) : State :=
  let locked := s.lockedAt off
  s.each (wordFlds off) fun s (F, n, hi) =>
    if hi then s.put X64.PEND (x64 r (off - 4)) v
    else if F.wide then s.writeFld r locked F n (s.join64 r off v % 2 ^ F.w)
    else s.writeFld r locked F n (bits v F.lo F.w)

/-! ### Words whose write has an effect of its own -/

/-- OWN of register i (a Hedge's, or 8 the global one) is written: each bit that changes takes effect after its earlier changes (R580). -/
def State.ownWrite (s : State) (i v : Nat) : State :=
  let own := if i = 8 then s.get SYS.EXPERT_G_OWN else s.get SYS.EXPERT_H_OWN i
  let s := s.each ((List.range 6).filter fun k => bit own k != bit v k) fun s k => s.bump EXPX.CHG (6 * i + k)
  if i = 8 then s.put SYS.EXPERT_G_OWN 0 v else s.put SYS.EXPERT_H_OWN i v

/-- Ownership (R580), the clock and its sources, the triggers, capture units and PTP ports (R16, R18, R21, R22, R28, R34, R41, R52). -/
def State.timeWord (s : State) (r : Req) (off v : Nat) : Option State :=
  let o := off % 0x20
  if off = 0x40 then some (s.ownWrite 8 v)
  else if 0x80 ≤ off ∧ off < 0xA0 then some (s.ownWrite ((off - 0x80) / 4) v)
  else if off = 0x400000 then
    let s := s.put TIME.NSC_CTL_SERVO_EN 0 (bits v 2 1)
    let s := s.when (bit v 0) fun s => next s (execNscSet r s)
    some (s.when (bit v 1) fun s => next s (execNscStep r s))
  else if off = 0x400008 then some (next s (execNscIncWrite r v s))
  else if off = 0x400054 then some (s.plainWrite r off v).srcReview
  else if off = 0x400080 then some ((s.ppsCfg v).plainWrite r off v)
  else if off = 0x403000 ∨ off = 0x403100 then
    let p := (off - 0x403000) / 0x100
    let s := s.plainWrite r off v
    some (if s.get PTP_PORT.CTL_ROLE p = 1 then s else s.ptpGone p)
  else if off = 0x400038 then some (next s (execNscSlewCntWrite r v s))
  else if 0x401000 ≤ off ∧ off < 0x401800 ∧ o = 0 then some (next s (execPtCmpLowWrite r ((off - 0x401000) / 0x20) v s))
  else if 0x401000 ≤ off ∧ off < 0x401800 ∧ o = 0xC then some (next s (execPtCtlWrite r ((off - 0x401000) / 0x20) v s))
  else if 0x402000 ≤ off ∧ off < 0x402200 ∧ o = 0x1C then some (next s (execCuPop r ((off - 0x402000) / 0x20) v s))
  else none

/-- The Thicket and the receive side (R54, R86, R91, R95 to R100, R107, R117, R140, R141). -/
def State.rxWord (s : State) (r : Req) (off v : Nat) : Option State :=
  if off = 0x500008 then some (s.plainWrite r off (v / 2 ^ 27 * 2 ^ 27))
  else if off = 0x500000 then
    let was := s.on THK.CTL_AGING_EN
    let s := s.plainWrite r off v
    some (if s.on THK.CTL_AGING_EN && !was then s.passStart else s)
  else if 0x502000 ≤ off ∧ off < 0x502300 ∧ off % 0x10 = 0 then some ((s.settleLane ((off - 0x502000) / 0x10)).plainWrite r off v)
  else if 0x501000 ≤ off ∧ off < 0x501200 ∧ off % 0x40 = 0x20 then some ((s.settleHedge ((off - 0x501000) / 0x40)).plainWrite r off v)
  else match THK_HEDGE.QUOTA.hit off with
  | some (h, _) => some (if viewOf r = 0 then next s (execThkQuotaWrite r h v s) else s)
  | none =>
    if 0x600000 ≤ off ∧ off < 0x600100 then
      let p := (off - 0x600000) / 0x40
      match off % 0x40 with
      | 0 => some (next s (execAprxCtlWrite r p v s))
      | 4 => some (next s (execAgcThrWrite r p v s))
      | 0x18 => some (next s (execLoMhzWrite r p v s))
      | _ => none
    else if 0x601000 ≤ off ∧ off < 0x601180 then
      let n := (off - 0x601000) / 0x40
      match off % 0x40 with
      | 0 => some (next s (execSliceCtlWrite r n v s))
      | 4 => some (next s (execSliceFcWrite r n v s))
      | 8 => some (next s (execSliceThrWrite r n v s))
      | _ => none
    else if 0x602000 ≤ off ∧ off < 0x602400 ∧ off % 0x10 < 8 then
      some (next s (execDdcWrite r ((off - 0x602000) / 0x10) (off % 0x10) v s))
    else if 0x603000 ≤ off ∧ off < 0x603600 ∧ off % 0x20 = 0 then some (next s (execLaneCfgWrite r ((off - 0x603000) / 0x20) v s))
    else if 0x603000 ≤ off ∧ off < 0x603600 ∧ off % 0x20 = 4 then some (next s (execLaneModesWrite r ((off - 0x603000) / 0x20) v s))
    else if off = 0x604004 then some (s.plainWrite r off v).refreeze
    else if off = 0x606000 ∨ off = 0x606004 then some (next s (execLdpcCfgWrite r (off - 0x606000) v s))
    else if off = 0x606028 then some (next s (execLdpcDecEnWrite r v s))
    else none

/-- The chains, coexistence and medium access (R156, R172, R187, R191, R193, R197, R199 to R204, R234, R261). -/
def State.txWord (s : State) (r : Req) (off v : Nat) : Option State :=
  if 0x610000 ≤ off ∧ off < 0x610400 then
    let c := (off - 0x610000) / 0x100
    match off % 0x100 with
    | 0 => some (next s (execTxcCtlWrite r c v s))
    | 4 =>
      let s := s.when (bit v 0) fun s => next s (execGoReady r c s)
      let s := s.when (bit v 1) fun s => next s (execGoStandby r c s)
      some (s.when (bit v 2) fun s => next s (execCalFlush r c s))
    | 0xC => some (next s (execTxcMuteWrite r c v s))
    | _ => none
  else if 0x612000 ≤ off ∧ off < 0x612200 ∧ (off % 0x80 = 0 ∨ off % 0x80 = 8) then
    some ((s.plainWrite r off v).portLines ((off - 0x612000) / 0x80))
  else match TXPORT.RL_THR_RL_MIN.hit off with
  | some (p, _) => some (if bits v 8 8 < bits v 0 8 ∧ bits v 0 8 ≤ bits v 16 8 then s.plainWrite r off v else s.set TXPORT.EVENT_BAD_CFG p)
  | none =>
    if off = 0x613000 then
      let was := s.on COEX.CFG_EN
      some ((s.plainWrite r off v).coexDrive.when (bit v 0 && !was) fun s => next s (execCoexCheck r s))
    else if off = 0x613004 then some (next s (execCoexLeadWrite r v s))
    else if off = 0x613010 then some (s.when (bit v 0) fun s => next s (execCoexCheck r s))
    else if off = 0x620004 then some (s.when (bit v 0) fun s => next s (execRegprofLockSet r s))
    else if off = 0x621000 then
      some (if bits v 0 16 ≠ 0 ∧ bits v 16 4 ≤ bits v 20 4 ∧ bits v 20 4 ≤ 8 then s.plainWrite r off v else s.set MAC.EVENT_BAD_CFG)
    else if off = 0x621030 then some (next s (execAirEui64Write r v s))
    else if 0x623000 ≤ off ∧ off < 0x623100 ∧ off % 0x20 < 0x14 then
      some (next s (execChplanWrite r ((off - 0x623000) / 0x20) (off % 0x20) v s))
    else if 0x624000 ≤ off ∧ off < 0x624100 then some (next s (execPanmapWrite r ((off - 0x624000) / 8) (off % 8) v s))
    else if off = 0x630004 then
      some (if 1 ≤ bits v 16 16 ∧ bits v 16 16 ≤ bits v 0 16 then s.plainWrite r off v
        else (s.plainWrite r off (bits v 0 16 + 2 ^ 16 * s.get WAKE.SPAN_RATE_MIN)).set WAKE.EVENT_BAD_CFG)
    else none

/-- Forwarding and traffic (R278, R283, R298, R299, R305, R311 to R313, R318, R327). -/
def State.trafficWord (s : State) (r : Req) (off v : Nat) : Option State :=
  let priv := viewOf r == 0
  let seen := off - 0x641000
  if 0x641000 ≤ off ∧ off < 0x641400 ∧ seen % 0x80 = 0x28 then
    let h := seen / 0x80
    let sum := ((List.range 8).map fun k => if k = h then v % 2 ^ 17 else s.get FWDH.SEEN_MAX k).sum
    some (if !priv then s else if sum ≤ 131072 then s.put FWDH.SEEN_MAX h v else s.set FWD.EVENT_SEEN_REFUSED)
  else if 0x641000 ≤ off ∧ off < 0x641400 ∧ seen % 0x80 = 0x30 then some (next s (execGenBaseWrite r (seen / 0x80) v s))
  else if 0x700800 ≤ off ∧ off < 0x700A00 ∧ off % 0x40 = 0 then some (next s (execTmhCtlWrite r ((off - 0x700800) / 0x40) v s))
  else if 0x700800 ≤ off ∧ off < 0x700A00 ∧ off % 0x40 = 8 then
    some (if priv then next s (execCellQuotaWrite r ((off - 0x700800) / 0x40) v s) else s)
  else if 0x701800 ≤ off ∧ off < 0x701A40 ∧ off % 0x40 = 0 then some (next s (execQprobeSelWrite r ((off - 0x701800) / 0x40) v s))
  else if 0x701800 ≤ off ∧ off < 0x701A40 ∧ off % 0x40 = 0x18 then some (next s (execQprobeGroupWrite r ((off - 0x701800) / 0x40) v s))
  else if 0x710000 ≤ off ∧ off < 0x718000 ∧ off % 0x20 = 0 then
    let n := (off - 0x710000) / 0x20
    let was := s.on SHAPER.CFG_EN n
    let s := (s.put SHAPER.CFG_EN n (v % 2)).put SHAPER.CFG_RECONF n (bits v 2 1)
    let s := s.putIf (!(32 ≤ n && n < 60)) SHAPER.CFG_MODE n (bits v 1 1)
    let s := s.putIf (priv && !(36 ≤ n && n < 60)) SHAPER.CFG_OWNER n (bits v 24 4)
    let s := if was && !bit v 0 then (s.clr SHAPER.STATUS_BLOCKED n).refreshAll else s
    some (s.when (bit v 0 && !was) fun s => next s (execShaperCommit r n 1 s))
  else if 0x710000 ≤ off ∧ off < 0x718000 ∧ off % 0x20 = 0x14 then some (next s (execShaperCommit r ((off - 0x710000) / 0x20) v s))
  else if 0x740000 ≤ off ∧ off < 0x760000 ∧ off % 0x40 < 0x10 then
    some (next s (execFifoCfgWrite r ((off - 0x740000) / 0x40) (off % 0x40) v s))
  else if 0x800000 ≤ off ∧ off < 0x900000 ∧ off % 0x40 = 0x18 then some (next s (execMeterCommit r ((off - 0x800000) / 0x40) v s))
  else none

/-- The words of a ring (R427, R428): BASE, SIZE and SHADOW only while the ring is disabled. -/
def State.ringWord (s : State) (r : Req) (i k o off v : Nat) : State :=
  let bad := (s.set HOSTH.EVENT_BAD_CFG i).irq i 3
  let off_ := !s.on (ringEn k) i
  match o with
  | 0 => if off_ then s.plainWrite r off (v / 4096 * 4096) else bad
  | 8 => if off_ && 6 ≤ v % 32 && v % 32 ≤ 16 then s.put HOSTH.RING_SIZE (rix i k) v else bad
  | 0xC => if k = 0 then next s (execCmdDoorbell r i v s) else if k = 3 then next s (execRxDoorbell r i v s) else s
  | 0x10 => if k = 1 then next s (execCplDoorbell r i v s) else if k = 2 then next s (execEvDoorbell r i v s) else s
  | 0x18 => if off_ then s.plainWrite r off v else bad
  | _ => s.plainWrite r off v

/-- Keys, engines, hosts and the Twin (R361, R365, R396, R424 to R431, R448, R450, R461, R469). What a write of TWIN.CFG or TWIN.CMD.LOOP meets
on the link is drawn (assumption log 3). -/
def State.hostWord (s : State) (r : Req) (off v : Nat) : Option State :=
  if 0x901000 ≤ off ∧ off < 0x901400 ∧ off % 0x80 = 0xC then
    some (if viewOf r = 0 then next s (execSlotQuotaWrite r ((off - 0x901000) / 0x80) v s) else s)
  else if 0x902000 ≤ off ∧ off < 0x902800 then
    some (if off % 0x100 = 0xC0 then next s (execTrustLockSet r ((off - 0x902000) / 0x100) v s) else s)
  else if 0xA08000 ≤ off ∧ off < 0xA08200 ∧ off % 0x40 ≠ 0x18 then
    some (if viewOf r = 0 then next s (execEnghGrantWrite r ((off - 0xA08000) / 0x40) (off % 0x40) v s) else s)
  else if off = 0xB00000 then
    let s := s.plainWrite r off v
    some (s.put HOSTH.STATUS_BM 8 (s.get HST.FN_BM (s.get HOSTG.CFG_PRIV_FN)))
  else if 0xB01000 ≤ off ∧ off < 0xB01400 ∧ off % 0x80 < 0x40 then
    some (next s (execHbindWrite r ((off - 0xB01000) / 0x80) (off % 0x80) v s))
  else if 0xB10000 ≤ off ∧ off < 0xB19000 then
    let i := (off - 0xB10000) / 0x1000
    let o := off % 0x1000
    if o = 0 then some (next s (execRingCtlWrite r i v s))
    else if o = 0x2C then some (next s (execCntClrDiscard r i v s))
    else if 0x100 ≤ o ∧ o < 0x180 then some (s.ringWord r i ((o - 0x100) / 0x20) (o % 0x20) off v)
    else none
  else if off = 0xC00000 then
    let (k, t) := s.draw
    some (if bit v 0 ∧ ¬ s.on TWIN.CFG_EN then next t (execTwinCfgEnWrite r v (1 + k % 2) t) else next s (execTwinCfgEnWrite r v 0 s))
  else if off = 0xC00024 then
    let s := s.when (bit v 0) fun s => next s (execTwinCmdSwitch r s)
    let s := s.when (bit v 1) fun s => next s (execTwinCmdTakeover r s)
    let (k, t) := s.draw
    some (if bit v 2 then next t (execTwinCmdLoop r ((List.range 4).map fun c => bit k c) t) else s)
  else none

/-- PRP, whose ports wait for supervision frames from now on (R472); reset, boot, calibration, calendar and faults (R480, R496, R511, R523, R527, R532, R550). A write of RECOV.GO is the row RECOV_GO, which
carries what the image meets. -/
def State.systemWord (s : State) (r : Req) (off v : Nat) : Option State :=
  if off = 0xD00004 then
    some (if v = 0x53595354 then next s (execRstCmdSystem r s) else if v = 0x434F5245 then next s (execRstCmdCore r s) else s)
  else if off = 0xD01014 then some (s.when (bit v 0) fun s => next s (execBootConfirm r s))
  else if off = 0xD01020 then some (s.when (bit v 0) fun s => let (x, s) := s.bootDraw; next s (execRecovGo r x s))
  else if off = 0xC01000 ∧ bit v 0 ∧ ¬ s.on PRP.CTL_EN then
    some (((s.put PRPX.HEARD 0 s.mp).put PRPX.HEARD 1 s.mp).plainWrite r off v)
  else if off = 0xD04004 then some (next s (execCalSaveTuner r v s))
  else if 0xE00000 ≤ off ∧ off < 0xE00400 ∧ viewOf r ≠ 0 then some s
  else if 0xE00000 ≤ off ∧ off < 0xE00020 then some (next s (execRtcTimeWrite r ((off - 0xE00000) / 4) v s))
  else if off = 0xE00020 then some (next s (execRtcHaltWrite r v s))
  else if off = 0xE0002C then some (next s (execPwronLevelWrite r v s))
  else if 0xE00400 ≤ off ∧ off < 0xE00440 ∧ r ≠ .steward then some s
  else if off = 0xF00024 then some (if v = 0x494E4A54 then next s (execFaultInject r s) else s)
  else none

/-- Write a word of a register: its own effect, or by the access codes. -/
def State.writeWord (s : State) (r : Req) (off v : Nat) : State :=
  let v := v % 2 ^ 32
  let own :=
    if off < 0x500000 then s.timeWord r off v
    else if off < 0x610000 then s.rxWord r off v
    else if off < 0x640000 then s.txWord r off v
    else if off < 0x701000 ∨ (0x701800 ≤ off ∧ off < 0x900000) then s.trafficWord r off v
    else if off < 0x900000 then (if viewOf r = 0 then none else some s)
    else if off < 0xD00000 then s.hostWord r off v
    else s.systemWord r off v
  own.getD (s.plainWrite r off v)

/-- Write a word as a requester. -/
def State.busWrite (s : State) (r : Req) (off len v : Nat) : State :=
  match s.reachWord r off len with
  | 0 => (s.put MODEL.RESP 0 0).writeWord r off v
  | 2 => s.put MODEL.RESP 0 2
  | 3 => s.put MODEL.RESP 0 0
  | 4 => { s with mem.sram := memWriteL s.mem.sram (off - 0xF000000) (le 4 v) }.put MODEL.RESP 0 0
  | _ => s.busErr r off

/-- REG_WRITE: a write of `len` octets at an offset of the requester's view. -/
def execRegWrite (r : Req) (off len v : Nat) (s : State) : Host.Outcome State Fault Refusal := .next (s.busWrite r off len v)

/-- REG64_LOW_READ: a read of the low word of a 64-bit register. -/
def execReg64LowRead (r : Req) (off : Nat) (s : State) : Host.Outcome State Fault Refusal := .next (s.busRead r off 4)

/-- RC_FIELD_READ: a read of a word with RC fields. -/
def execRcFieldRead (r : Req) (off : Nat) (s : State) : Host.Outcome State Fault Refusal := .next (s.busRead r off 4)

/-- REGISTER_READ: a read of `len` octets at any offset. -/
def execRegisterRead (r : Req) (off len : Nat) (s : State) : Host.Outcome State Fault Refusal := .next (s.busRead r off len)

/-! ### Expert ownership (R11, R12, R580, R581) -/

/-- EXPERT_G_WRITE. -/
def execExpertGWrite (r : Req) (v : Nat) (s : State) : Host.Outcome State Fault Refusal := .next (s.busWrite r 0x40 4 v)

/-- EXPERT_H_WRITE. -/
def execExpertHWrite (r : Req) (h v : Nat) (s : State) : Host.Outcome State Fault Refusal :=
  .next (if h < 8 then s.busWrite r (0x80 + 4 * h) 4 v else s)

/-- Writable fields that hold no configuration of the Mesh Runtime: commands, staged values, and the clock's and the triggers' own. -/
def notConfig : List Fld :=
  [TIME.NSC_INC, TIME.NSC_SET_SEC_LO, TIME.NSC_SET_SEC_HI, TIME.NSC_SET_NS, TIME.NSC_STEP_SEC, TIME.NSC_STEP_NS, TIME.NSC_SLEW_ADJ,
   TIME.NSC_SLEW_CNT, PT.CMP, MAC.AIR_EUI64, QPROBE.SEL_Q, QPROBE.GROUP_ID, QPROBE.GROUP_EN, TXPRE.NEXT, FWDH.GEN_BASE]

/-- The fields that the EXPERT bit numbered b (6h + k of a Hedge, 48 + k global) governs, with the instances (R580). -/
def State.expertScope (s : State) (b : Nat) : List (List Fld × (Nat → Bool)) :=
  let h := b / 6
  let own (F : Fld) (n : Nat) : Bool := s.get F n == if b < 48 then h else 0xF
  let mine (n : Nat) : Bool := n == h
  let all (_ : Nat) : Bool := true
  let shared := [(WATCH.flds, own WATCH.CFG_OWNER), (SHAPER.flds, own SHAPER.CFG_OWNER), (FIFO.flds, own FIFO.CFG_OWNER),
    (METER.flds, own METER.CFG_OWNER)]
  let timers := [(PT.flds, own PT.CTL_OWNER), (CU.flds, own CU.CTL_OWNER)]
  if b < 48 then
    match b % 6 with
    | 0 => [(THK_HEDGE.flds, mine)]
    | 1 => [(MACH.flds, mine), (CHPLAN.flds, mine)]
    | 2 => [(WAKEH.flds, mine)]
    | 3 => [(FWDH.flds, mine), (CAMP.flds, mine)]
    | 4 => (TMH.flds, mine) :: shared
    | _ => (BEACON.flds, mine) :: timers
  else
    match b - 48 with
    | 0 => [APRX.flds, SLICE.flds, DDC.flds, LANE.flds, BLANK.flds, DEMOD.flds, DET.flds, LDPC.flds, LANE_RX.flds].map fun l => (l, all)
    | 1 => [TXC.flds, SY.flds, TXPORT.flds, COEX.flds, WAKE.flds, TXPRE.flds].map fun l => (l, all)
    | 2 => (TIME.flds, all) :: (PTP_PORT.flds, all) :: timers
    | 3 => [(MAC.flds, all), (PANMAP.flds, all)]
    | 4 => [(FWD.flds, all)]
    | _ => (TMG.flds, all) :: (OUT.flds, all) :: (AGG.flds, all) :: shared

/-- The configuration fields among those a bit governs, with their instances. -/
def State.configOf (s : State) (b : Nat) : List (Fld × (Nat → Bool)) :=
  (s.expertScope b).flatMap fun (l, p) => (l.filter fun F => F.acc == .rw && !isOf (notConfig ++ privOnly) F.id).map fun F => (F, p)

/-- The cells of the store that hold configuration a bit governs. -/
def State.recordOf (s : State) (b : Nat) : List ((Nat × Nat) × Nat) :=
  let fs := s.configOf b
  s.cells.filter fun c => fs.any fun (F, p) => F.id == c.1.1 && p c.1.2

/-- Write the word at an offset as the record has it, the fields outside the record staying as they are. -/
def State.reloadWord (s : State) (rec_ : List ((Nat × Nat) × Nat)) (fs : List (Fld × (Nat → Bool))) (off : Nat) : State :=
  let l := (wordFlds off).filter fun (F, _, hi) => F.acc == .rw && !hi
  let old := (l.map fun (F, n, _) => s.get F n % 2 ^ 32 * 2 ^ F.lo).sum
  let new := (l.map fun (F, n, _) =>
    (if fs.any fun (G, p) => G.id == F.id && p n then (cellFind (F.id, n) rec_).getD (F.rst n) else s.get F n) % 2 ^ 32 * 2 ^ F.lo).sum
  if old = new then s else s.writeWord (.thread 0) off new

/-- EXPERT_TAKE_EFFECT: the bits of register i (a Hedge's, or 8 the global one) whose next change sets them take effect; the Mesh Runtime's configuration record holds
the blocks as it then leaves them. -/
def execExpertTakeEffect (i : Nat) (s : State) : Host.Outcome State Fault Refusal :=
  if 9 ≤ i then .next s
  else
    let (ack, F, n) := if i = 8 then (s.get SYS.EXPERT_G_ACK, SYS.EXPERT_G_ACK, 0) else (s.get SYS.EXPERT_H_ACK i, SYS.EXPERT_H_ACK, i)
    let ks := (List.range 6).filter fun k => s.get EXPX.CHG (6 * i + k) != 0 && !bit ack k
    let recs := ks.map fun k => (6 * i + k, s.recordOf (6 * i + k))
    let s := { s with records := s.records.filter (fun (x : Nat × List ((Nat × Nat) × Nat)) => !recs.any fun (y : Nat × List ((Nat × Nat) × Nat)) => y.1 == x.1) ++ recs }
    .next ((s.put F n (ack + (ks.map (2 ^ ·)).sum)).each ks fun s k => s.drop EXPX.CHG (6 * i + k) 1)

/-- The Mesh Runtime reloads what bit b governs from its record. -/
def State.reload (s : State) (b : Nat) : State :=
  match s.records.find? (·.1 == b) with
  | none => s
  | some (_, rec_) =>
    let fs := s.configOf b
    let keys := (rec_ ++ s.recordOf b).map (·.1)
    let offs := keys.filterMap fun k => (fs.find? fun (F, _) => F.id == k.1).map fun (F, _) => F.addr k.2
    { (s.each offs fun s off => s.reloadWord rec_ fs off) with records := s.records.filter (·.1 != b) }

/-- EXPERT_RELOAD: the bits of register i whose next change clears them leave ACK, and the blocks of every bit that is clear are the Mesh
Runtime's again. -/
def execExpertReload (i : Nat) (s : State) : Host.Outcome State Fault Refusal :=
  if 9 ≤ i then .next s
  else
    let (ack, F, n) := if i = 8 then (s.get SYS.EXPERT_G_ACK, SYS.EXPERT_G_ACK, 0) else (s.get SYS.EXPERT_H_ACK i, SYS.EXPERT_H_ACK, i)
    let ks := (List.range 6).filter fun k => s.get EXPX.CHG (6 * i + k) != 0 && bit ack k
    let ack := ack - (ks.map (2 ^ ·)).sum
    let s := (s.put F n ack).each ks fun s k => s.drop EXPX.CHG (6 * i + k) 1
    .next (s.each ((List.range 6).filter fun k => !bit ack k) fun s k => s.reload (6 * i + k))

end Sys2Proof.Machine
end

