-- ==== Sys2Proof/Machine/Memory.lean ====
section
/-!
DEFINITION. The Triros instructions that reach memory (spec/12_triros_instructions.md, R405, R406, R409): loads, stores and atomics over
the address map of R373, with register space behind the register window.
-/

namespace Sys2Proof.Machine

open Sys2Proof

/-! ### Loads and stores (R405) -/

/-- The effective address of a displacement. -/
def State.ea (s : State) (g : Nat) (ra : BitVec 5) (disp : Nat) : Nat := (s.r g ra + disp) % 2 ^ 32

/-- The displacement of LDW, LDP, STW and STP: imm[15:2], in words. -/
def wordDisp (imm : BitVec 14) : Nat := sext imm * 4

/-- The cause of an access of n octets at ea: 0 where it is made (R377, R406). -/
def State.accessCause (s : State) (g ea n : Nat) (wr : Bool) : Nat :=
  if ea % n ≠ 0 then 0x03
  else
    match s.place g ea with
    | .regs _ => if n = 4 then s.reach g ea wr else 0x04
    | _ => s.reachAll g ea n wr

/-- A load of n octets: their value goes on, or the thread traps; a bus error traps with ACCESS (R576). -/
def State.load (s : State) (g ea n : Nat) (f : State → Nat → State) : State :=
  let c := s.accessCause g ea n false
  if c ≠ 0 then s.trap g c ea
  else
    match s.place g ea with
    | .regs off =>
      let t := s.busRead (.thread g) off 4
      if t.get MODEL.RESP = 1 then t.trap g 0x04 ea else f t (t.get MODEL.DATA)
    | p => f s (leVal (s.placeRead p n))

/-- A store of the n low octets of a value. -/
def State.store (s : State) (g ea n v : Nat) : State :=
  let c := s.accessCause g ea n true
  if c ≠ 0 then s.trap g c ea
  else
    match s.place g ea with
    | .regs off =>
      let t := s.busWrite (.thread g) off 4 v
      if t.get MODEL.RESP = 1 then t.trap g 0x04 ea else t.pcNext g
    | p => (s.placeWrite p (le n v)).pcNext g

/-- LDB. -/
def execLdb (g : Nat) (rd ra : BitVec 5) (imm : BitVec 16) (s : State) : Host.Outcome State Fault Refusal :=
  .next (s.issue g true (wordI 0x10 rd ra imm.toNat) fun s =>
    s.load g (s.ea g ra (sext imm)) 1 fun s v => s.move g rd (sext (BitVec.ofNat 8 v)))

/-- LDBU. -/
def execLdbu (g : Nat) (rd ra : BitVec 5) (imm : BitVec 16) (s : State) : Host.Outcome State Fault Refusal :=
  .next (s.issue g true (wordI 0x11 rd ra imm.toNat) fun s => s.load g (s.ea g ra (sext imm)) 1 fun s v => s.move g rd v)

/-- LDH. -/
def execLdh (g : Nat) (rd ra : BitVec 5) (imm : BitVec 16) (s : State) : Host.Outcome State Fault Refusal :=
  .next (s.issue g true (wordI 0x12 rd ra imm.toNat) fun s =>
    s.load g (s.ea g ra (sext imm)) 2 fun s v => s.move g rd (sext (BitVec.ofNat 16 v)))

/-- LDHU. -/
def execLdhu (g : Nat) (rd ra : BitVec 5) (imm : BitVec 16) (s : State) : Host.Outcome State Fault Refusal :=
  .next (s.issue g true (wordI 0x13 rd ra imm.toNat) fun s => s.load g (s.ea g ra (sext imm)) 2 fun s v => s.move g rd v)

/-- LDW. -/
def execLdw (g : Nat) (rd ra : BitVec 5) (imm : BitVec 14) (s : State) : Host.Outcome State Fault Refusal :=
  .next (s.issue g true (wordI 0x14 rd ra (4 * imm.toNat)) fun s => s.load g (s.ea g ra (wordDisp imm)) 4 fun s v => s.move g rd v)

/-- LDP: a pair, with rd even (R399). -/
def execLdp (g : Nat) (rd ra : BitVec 5) (imm : BitVec 14) (s : State) : Host.Outcome State Fault Refusal :=
  .next (s.issue g (evenReg rd) (wordI 0x14 rd ra (4 * imm.toNat + 1)) fun s =>
    s.load g (s.ea g ra (wordDisp imm)) 8 fun s v => (s.setPair g rd.toNat v).pcNext g)

/-- STB. -/
def execStb (g : Nat) (rd ra : BitVec 5) (imm : BitVec 16) (s : State) : Host.Outcome State Fault Refusal :=
  .next (s.issue g true (wordI 0x15 rd ra imm.toNat) fun s => s.store g (s.ea g ra (sext imm)) 1 (s.r g rd))

/-- STH. -/
def execSth (g : Nat) (rd ra : BitVec 5) (imm : BitVec 16) (s : State) : Host.Outcome State Fault Refusal :=
  .next (s.issue g true (wordI 0x16 rd ra imm.toNat) fun s => s.store g (s.ea g ra (sext imm)) 2 (s.r g rd))

/-- STW. -/
def execStw (g : Nat) (rd ra : BitVec 5) (imm : BitVec 14) (s : State) : Host.Outcome State Fault Refusal :=
  .next (s.issue g true (wordI 0x17 rd ra (4 * imm.toNat)) fun s => s.store g (s.ea g ra (wordDisp imm)) 4 (s.r g rd))

/-- STP. -/
def execStp (g : Nat) (rd ra : BitVec 5) (imm : BitVec 14) (s : State) : Host.Outcome State Fault Refusal :=
  .next (s.issue g (evenReg rd) (wordI 0x17 rd ra (4 * imm.toNat + 1)) fun s => s.store g (s.ea g ra (wordDisp imm)) 8 (s.pair g rd.toNat))

/-! ### Atomics (R409) -/

/-- Whether atomics are permitted at a place (R377). -/
def Place.atomic : Place → Bool
  | .local_ _ => true
  | .shared _ => true
  | .window _ _ => true
  | .sram _ => true
  | _ => false

/-- A register or, of 8 octets, a pair, cut to its size. -/
def State.sized (s : State) (g : Nat) (x : BitVec 5) (sz : BitVec 2) : Nat := s.pair g x.toNat % 2 ^ (8 * 2 ^ sz.toNat)

/-- An atomic with its size in func[4:3]: `f` gives from the old value the new one to write, if any, and the flag Z, if it changes. -/
def State.atomic (s : State) (g : Nat) (rd ra rb : BitVec 5) (sz : BitVec 2) (op : Nat)
    (f : State → Nat → Option Nat × Option Bool) : State :=
  s.issue g (sz.toNat != 3 || (evenReg rd && evenReg rb)) (wordR 0x1A rd ra rb (sz.toNat * 8 + op)) fun s =>
    let n := 2 ^ sz.toNat
    let ea := s.r g ra
    let p := s.place g ea
    if ea % n ≠ 0 then s.trap g 0x03 ea
    else if !p.atomic then s.trap g 0x04 ea
    else if s.reachAll g ea n false ≠ 0 then s.trap g (s.reachAll g ea n false) ea
    else if s.reachAll g ea n true ≠ 0 then s.trap g (s.reachAll g ea n true) ea
    else
      let old := leVal (s.placeRead p n)
      let (new, z) := f s old
      let s := match new with | some v => s.placeWrite p (le n v) | none => s
      let s := match z with | some z => s.setZ g z | none => s
      (if n = 8 then s.setPair g rd.toNat old else s.setW g rd.toNat old).pcNext g

/-- AADD. -/
def execAadd (g : Nat) (rd ra rb : BitVec 5) (sz : BitVec 2) (s : State) : Host.Outcome State Fault Refusal :=
  .next (s.atomic g rd ra rb sz 0 fun s old => (some (old + s.sized g rb sz), none))

/-- ASWP. -/
def execAswp (g : Nat) (rd ra rb : BitVec 5) (sz : BitVec 2) (s : State) : Host.Outcome State Fault Refusal :=
  .next (s.atomic g rd ra rb sz 1 fun s _ => (some (s.sized g rb sz), none))

/-- ACAS: Z is 0 when the value was written. -/
def execAcas (g : Nat) (rd ra rb : BitVec 5) (sz : BitVec 2) (s : State) : Host.Outcome State Fault Refusal :=
  .next (s.atomic g rd ra rb sz 2 fun s old => if old = s.sized g rd sz then (some (s.sized g rb sz), some false) else (none, some true))

end Sys2Proof.Machine
end

