-- ==== Sys2Proof/Machine/Dispatch.lean ====
section
/-! DEFINITION. One arm per command: a direct call of its meaning. -/

namespace Sys2Proof.Machine

open Sys2Proof

def exec (i : Instr) (s : State) : Host.Outcome State Fault Refusal :=
  match i with
  | .regWrite r off len v => Sys2Proof.Machine.execRegWrite r off len v s
  | .reg64LowRead r off => Sys2Proof.Machine.execReg64LowRead r off s
  | .rcFieldRead r off => Sys2Proof.Machine.execRcFieldRead r off s
  | .expertGWrite r v => Sys2Proof.Machine.execExpertGWrite r v s
  | .expertHWrite r h v => Sys2Proof.Machine.execExpertHWrite r h v s
  | .expertTakeEffect idx => Sys2Proof.Machine.execExpertTakeEffect idx s
  | .expertReload idx => Sys2Proof.Machine.execExpertReload idx s
  | .nscCycle => Sys2Proof.Machine.execNscCycle s
  | .slewCountExpire => Sys2Proof.Machine.execSlewCountExpire s
  | .nscIncWrite r v => Sys2Proof.Machine.execNscIncWrite r v s
  | .nscNowNsRead r => Sys2Proof.Machine.execNscNowNsRead r s
  | .nscSet r => Sys2Proof.Machine.execNscSet r s
  | .nscStep r => Sys2Proof.Machine.execNscStep r s
  | .nscSlewCntWrite r v => Sys2Proof.Machine.execNscSlewCntWrite r v s
  | .ppsEdge levelUs => Sys2Proof.Machine.execPpsEdge levelUs s
  | .ppsLossTimeout => Sys2Proof.Machine.execPpsLossTimeout s
  | .ptpMsgRx p m => Sys2Proof.Machine.execPtpMsgRx p m s
  | .ptpSyncTimeout p => Sys2Proof.Machine.execPtpSyncTimeout p s
  | .ptCmpLowWrite r n v => Sys2Proof.Machine.execPtCmpLowWrite r n v s
  | .ptCtlWrite r n v => Sys2Proof.Machine.execPtCtlWrite r n v s
  | .ptReadinessCheck n gnt => Sys2Proof.Machine.execPtReadinessCheck n gnt s
  | .ptFire => Sys2Proof.Machine.execPtFire s
  | .ptAlloc c => Sys2Proof.Machine.execPtAlloc c s
  | .ptFree c n => Sys2Proof.Machine.execPtFree c n s
  | .cuEdge source rising => Sys2Proof.Machine.execCuEdge source rising s
  | .cuPop r n v => Sys2Proof.Machine.execCuPop r n v s
  | .beaconInterval h => Sys2Proof.Machine.execBeaconInterval h s
  | .incarnationWalkEnd e => Sys2Proof.Machine.execIncarnationWalkEnd e s
  | .joinTimeout e => Sys2Proof.Machine.execJoinTimeout e s
  | .agingVisit e => Sys2Proof.Machine.execAgingVisit e s
  | .agingPassEnd => Sys2Proof.Machine.execAgingPassEnd s
  | .revalDone => Sys2Proof.Machine.execRevalDone s
  | .entryHoldEnd e => Sys2Proof.Machine.execEntryHoldEnd e s
  | .nodeInsert c b => Sys2Proof.Machine.execNodeInsert c b s
  | .nodeDelete c e => Sys2Proof.Machine.execNodeDelete c e s
  | .nodeRead c e priv addr => Sys2Proof.Machine.execNodeRead c e priv addr s
  | .nodeUpdate c e mask short flags drift ap power meter addr => Sys2Proof.Machine.execNodeUpdate c e mask short flags drift ap power meter addr s
  | .nodePin c e => Sys2Proof.Machine.execNodePin c e s
  | .nodeUnpin c e => Sys2Proof.Machine.execNodeUnpin c e s
  | .nodeTouch c e => Sys2Proof.Machine.execNodeTouch c e s
  | .nodeList c st start addr => Sys2Proof.Machine.execNodeList c st start addr s
  | .thkQuotaWrite r h v => Sys2Proof.Machine.execThkQuotaWrite r h v s
  | .agcWindowEnd p peak clipped => Sys2Proof.Machine.execAgcWindowEnd p peak clipped s
  | .agcUpHoldExpire p => Sys2Proof.Machine.execAgcUpHoldExpire p s
  | .agcThrWrite r p v => Sys2Proof.Machine.execAgcThrWrite r p v s
  | .aprxCtlWrite r p v => Sys2Proof.Machine.execAprxCtlWrite r p v s
  | .sliceFcWrite r n v => Sys2Proof.Machine.execSliceFcWrite r n v s
  | .loMhzWrite r p v => Sys2Proof.Machine.execLoMhzWrite r p v s
  | .ddcWrite r d off v => Sys2Proof.Machine.execDdcWrite r d off v s
  | .laneCfgWrite r l v => Sys2Proof.Machine.execLaneCfgWrite r l v s
  | .laneModesWrite r l v => Sys2Proof.Machine.execLaneModesWrite r l v s
  | .sliceCtlWrite r n v => Sys2Proof.Machine.execSliceCtlWrite r n v s
  | .mapPeriodEnd n levels clipped => Sys2Proof.Machine.execMapPeriodEnd n levels clipped s
  | .mapStampRefresh n => Sys2Proof.Machine.execMapStampRefresh n s
  | .sliceThrWrite r n v => Sys2Proof.Machine.execSliceThrWrite r n v s
  | .selfBlankStart c => Sys2Proof.Machine.execSelfBlankStart c s
  | .selfBlankEnd c => Sys2Proof.Machine.execSelfBlankEnd c s
  | .syncDeclare l g metric => Sys2Proof.Machine.execSyncDeclare l g metric s
  | .laneHeaderEnd l h age => Sys2Proof.Machine.execLaneHeaderEnd l h age s
  | .ldpcCwSubmit x => Sys2Proof.Machine.execLdpcCwSubmit x s
  | .ldpcDecodeStart k => Sys2Proof.Machine.execLdpcDecodeStart k s
  | .ldpcDecodeDone k iter word => Sys2Proof.Machine.execLdpcDecodeDone k iter word s
  | .laneFrameEnd l m => Sys2Proof.Machine.execLaneFrameEnd l m s
  | .dupWinExpire => Sys2Proof.Machine.execDupWinExpire s
  | .ldpcCfgWrite r off v => Sys2Proof.Machine.execLdpcCfgWrite r off v s
  | .ldpcDecEnWrite r v => Sys2Proof.Machine.execLdpcDecEnWrite r v s
  | .txcCtlWrite r c v => Sys2Proof.Machine.execTxcCtlWrite r c v s
  | .goReady r c => Sys2Proof.Machine.execGoReady r c s
  | .goStandby r c => Sys2Proof.Machine.execGoStandby r c s
  | .calFlush r c => Sys2Proof.Machine.execCalFlush r c s
  | .chainEnableDone c => Sys2Proof.Machine.execChainEnableDone c s
  | .txRequestHead c => Sys2Proof.Machine.execTxRequestHead c s
  | .synthTuneDone c => Sys2Proof.Machine.execSynthTuneDone c s
  | .synthLockLost c => Sys2Proof.Machine.execSynthLockLost c s
  | .txStateEnter c => Sys2Proof.Machine.execTxStateEnter c s
  | .powerLoopStep c measured => Sys2Proof.Machine.execPowerLoopStep c measured s
  | .txLoopEnd c measured => Sys2Proof.Machine.execTxLoopEnd c measured s
  | .fwdPowerCheck c fwd => Sys2Proof.Machine.execFwdPowerCheck c fwd s
  | .aerialFaultDetect c rl => Sys2Proof.Machine.execAerialFaultDetect c rl s
  | .txLastSample c rl pwr => Sys2Proof.Machine.execTxLastSample c rl pwr s
  | .txToReadyDone c => Sys2Proof.Machine.execTxToReadyDone c s
  | .outputReadbackMismatch k p => Sys2Proof.Machine.execOutputReadbackMismatch k p s
  | .txcMuteWrite r c v => Sys2Proof.Machine.execTxcMuteWrite r c v s
  | .runawayTimeout c => Sys2Proof.Machine.execRunawayTimeout c s
  | .detCheck p pa fwd rev => Sys2Proof.Machine.execDetCheck p pa fwd rev s
  | .coexReqAssert n => Sys2Proof.Machine.execCoexReqAssert n s
  | .coexGntFall => Sys2Proof.Machine.execCoexGntFall s
  | .coexCheck r => Sys2Proof.Machine.execCoexCheck r s
  | .coexCheckStepEnd x => Sys2Proof.Machine.execCoexCheckStepEnd x s
  | .coexLeadWrite r v => Sys2Proof.Machine.execCoexLeadWrite r v s
  | .chplanWrite r h off v => Sys2Proof.Machine.execChplanWrite r h off v s
  | .panmapWrite r idx off v => Sys2Proof.Machine.execPanmapWrite r idx off v s
  | .airEui64Write r v => Sys2Proof.Machine.execAirEui64Write r v s
  | .profileSetRegion c region => Sys2Proof.Machine.execProfileSetRegion c region s
  | .regprofLockSet r => Sys2Proof.Machine.execRegprofLockSet r s
  | .gateDecision n => Sys2Proof.Machine.execGateDecision n s
  | .quietRelease => Sys2Proof.Machine.execQuietRelease s
  | .gateRecordHandle c => Sys2Proof.Machine.execGateRecordHandle c s
  | .dutySlotEnd idx => Sys2Proof.Machine.execDutySlotEnd idx s
  | .macRxFrame l => Sys2Proof.Machine.execMacRxFrame l s
  | .ackWindowExpire u => Sys2Proof.Machine.execAckWindowExpire u s
  | .phaseFixWalkDone => Sys2Proof.Machine.execPhaseFixWalkDone s
  | .downlinkRelease u => Sys2Proof.Machine.execDownlinkRelease u s
  | .attemptArm u => Sys2Proof.Machine.execAttemptArm u s
  | .trainCopyArm u => Sys2Proof.Machine.execTrainCopyArm u s
  | .txResultHandle c => Sys2Proof.Machine.execTxResultHandle c s
  | .refloodSend u => Sys2Proof.Machine.execRefloodSend u s
  | .genBaseWrite r h v => Sys2Proof.Machine.execGenBaseWrite r h v s
  | .campaignStart c num bsize bcount from_ list lcount mOff iOff lOff => Sys2Proof.Machine.execCampaignStart c num bsize bcount from_ list lcount mOff iOff lOff s
  | .campaignBlockSend h => Sys2Proof.Machine.execCampaignBlockSend h s
  | .campaignReportWindowEnd h => Sys2Proof.Machine.execCampaignReportWindowEnd h s
  | .campaignActivateSend h => Sys2Proof.Machine.execCampaignActivateSend h s
  | .campaignPause c num => Sys2Proof.Machine.execCampaignPause c num s
  | .campaignResume c num => Sys2Proof.Machine.execCampaignResume c num s
  | .campaignAbort c num => Sys2Proof.Machine.execCampaignAbort c num s
  | .campStatusRead r h => Sys2Proof.Machine.execCampStatusRead r h s
  | .sweepStart c rounds roundS ttl silent => Sys2Proof.Machine.execSweepStart c rounds roundS ttl silent s
  | .sweepRoundStart h => Sys2Proof.Machine.execSweepRoundStart h s
  | .sweepEnd h => Sys2Proof.Machine.execSweepEnd h s
  | .sweepRead c first count addr => Sys2Proof.Machine.execSweepRead c first count addr s
  | .meterCommit r m v => Sys2Proof.Machine.execMeterCommit r m v s
  | .shaperCommit r n v => Sys2Proof.Machine.execShaperCommit r n v s
  | .outputRequest o => Sys2Proof.Machine.execOutputRequest o s
  | .queueEligible q => Sys2Proof.Machine.execQueueEligible q s
  | .expirySweep => Sys2Proof.Machine.execExpirySweep s
  | .watchSample w => Sys2Proof.Machine.execWatchSample w s
  | .qprobeSelWrite r idx v => Sys2Proof.Machine.execQprobeSelWrite r idx v s
  | .qprobeGroupWrite r idx v => Sys2Proof.Machine.execQprobeGroupWrite r idx v s
  | .queueCfg c e group => Sys2Proof.Machine.execQueueCfg c e group s
  | .tmhCtlWrite r h v => Sys2Proof.Machine.execTmhCtlWrite r h v s
  | .cellQuotaWrite r h v => Sys2Proof.Machine.execCellQuotaWrite r h v s
  | .fifoCfgWrite r f off v => Sys2Proof.Machine.execFifoCfgWrite r f off v s
  | .fifoPtrCheck f same => Sys2Proof.Machine.execFifoPtrCheck f same s
  | .fifoStallResume g => Sys2Proof.Machine.execFifoStallResume g s
  | .fifoStallTimeout g => Sys2Proof.Machine.execFifoStallTimeout g s
  | .drbgHealthFail => Sys2Proof.Machine.execDrbgHealthFail s
  | .drbgRestart pass => Sys2Proof.Machine.execDrbgRestart pass s
  | .keyImport c target parent use type len addr => Sys2Proof.Machine.execKeyImport c target parent use type len addr s
  | .keyDerive c target parent use type labelLen ctxLen addr => Sys2Proof.Machine.execKeyDerive c target parent use type labelLen ctxLen addr s
  | .keyErase c slot => Sys2Proof.Machine.execKeyErase c slot s
  | .keyInfo c slot => Sys2Proof.Machine.execKeyInfo c slot s
  | .hedgeKeyWipe c confirm => Sys2Proof.Machine.execHedgeKeyWipe c confirm s
  | .trustSet c anchor lockAfter addr => Sys2Proof.Machine.execTrustSet c anchor lockAfter addr s
  | .trustLockSet r h v => Sys2Proof.Machine.execTrustLockSet r h v s
  | .attest c slot challenge addr => Sys2Proof.Machine.execAttest c slot challenge addr s
  | .nodeRekey c e => Sys2Proof.Machine.execNodeRekey c e s
  | .groupRekey c => Sys2Proof.Machine.execGroupRekey c s
  | .keyDestroyAll c confirm => Sys2Proof.Machine.execKeyDestroyAll c confirm s
  | .keyOrphanSweep => Sys2Proof.Machine.execKeyOrphanSweep s
  | .keyRetireZero => Sys2Proof.Machine.execKeyRetireZero s
  | .slotQuotaWrite r h v => Sys2Proof.Machine.execSlotQuotaWrite r h v s
  | .joinResponsePart2 e => Sys2Proof.Machine.execJoinResponsePart2 e s
  | .rekeyRetryExpire e => Sys2Proof.Machine.execRekeyRetryExpire e s
  | .groupSwitch h => Sys2Proof.Machine.execGroupSwitch h s
  | .groupOverlapEnd h => Sys2Proof.Machine.execGroupOverlapEnd h s
  | .add g rd ra rb => Sys2Proof.Machine.execAdd g rd ra rb s
  | .sub g rd ra rb => Sys2Proof.Machine.execSub g rd ra rb s
  | .addc g rd ra rb => Sys2Proof.Machine.execAddc g rd ra rb s
  | .subc g rd ra rb => Sys2Proof.Machine.execSubc g rd ra rb s
  | .and g rd ra rb => Sys2Proof.Machine.execAnd g rd ra rb s
  | .or g rd ra rb => Sys2Proof.Machine.execOr g rd ra rb s
  | .xor g rd ra rb => Sys2Proof.Machine.execXor g rd ra rb s
  | .andn g rd ra rb => Sys2Proof.Machine.execAndn g rd ra rb s
  | .shl g rd ra rb => Sys2Proof.Machine.execShl g rd ra rb s
  | .shr g rd ra rb => Sys2Proof.Machine.execShr g rd ra rb s
  | .sar g rd ra rb => Sys2Proof.Machine.execSar g rd ra rb s
  | .rol g rd ra rb => Sys2Proof.Machine.execRol g rd ra rb s
  | .mul g rd ra rb => Sys2Proof.Machine.execMul g rd ra rb s
  | .mulhu g rd ra rb => Sys2Proof.Machine.execMulhu g rd ra rb s
  | .mulhs g rd ra rb => Sys2Proof.Machine.execMulhs g rd ra rb s
  | .clz g rd ra rb => Sys2Proof.Machine.execClz g rd ra rb s
  | .popc g rd ra rb => Sys2Proof.Machine.execPopc g rd ra rb s
  | .min g rd ra rb => Sys2Proof.Machine.execMin g rd ra rb s
  | .max g rd ra rb => Sys2Proof.Machine.execMax g rd ra rb s
  | .minu g rd ra rb => Sys2Proof.Machine.execMinu g rd ra rb s
  | .maxu g rd ra rb => Sys2Proof.Machine.execMaxu g rd ra rb s
  | .slt g rd ra rb => Sys2Proof.Machine.execSlt g rd ra rb s
  | .sltu g rd ra rb => Sys2Proof.Machine.execSltu g rd ra rb s
  | .addi g rd ra imm => Sys2Proof.Machine.execAddi g rd ra imm s
  | .andi g rd ra imm => Sys2Proof.Machine.execAndi g rd ra imm s
  | .ori g rd ra imm => Sys2Proof.Machine.execOri g rd ra imm s
  | .xori g rd ra imm => Sys2Proof.Machine.execXori g rd ra imm s
  | .shli g rd ra imm => Sys2Proof.Machine.execShli g rd ra imm s
  | .shri g rd ra imm => Sys2Proof.Machine.execShri g rd ra imm s
  | .sari g rd ra imm => Sys2Proof.Machine.execSari g rd ra imm s
  | .slti g rd ra imm => Sys2Proof.Machine.execSlti g rd ra imm s
  | .lui g rd ra imm => Sys2Proof.Machine.execLui g rd ra imm s
  | .ldb g rd ra imm => Sys2Proof.Machine.execLdb g rd ra imm s
  | .ldbu g rd ra imm => Sys2Proof.Machine.execLdbu g rd ra imm s
  | .ldh g rd ra imm => Sys2Proof.Machine.execLdh g rd ra imm s
  | .ldhu g rd ra imm => Sys2Proof.Machine.execLdhu g rd ra imm s
  | .ldw g rd ra imm => Sys2Proof.Machine.execLdw g rd ra imm s
  | .ldp g rd ra imm => Sys2Proof.Machine.execLdp g rd ra imm s
  | .stb g rd ra imm => Sys2Proof.Machine.execStb g rd ra imm s
  | .sth g rd ra imm => Sys2Proof.Machine.execSth g rd ra imm s
  | .stw g rd ra imm => Sys2Proof.Machine.execStw g rd ra imm s
  | .stp g rd ra imm => Sys2Proof.Machine.execStp g rd ra imm s
  | .ext g rd ra pos len => Sys2Proof.Machine.execExt g rd ra pos len s
  | .extu g rd ra pos len => Sys2Proof.Machine.execExtu g rd ra pos len s
  | .ins g rd ra pos len => Sys2Proof.Machine.execIns g rd ra pos len s
  | .bswap g rd ra pos len => Sys2Proof.Machine.execBswap g rd ra pos len s
  | .crc32c g rd ra rb n => Sys2Proof.Machine.execCrc32c g rd ra rb n s
  | .crc16 g rd ra rb n => Sys2Proof.Machine.execCrc16 g rd ra rb n s
  | .hash g rd ra rb => Sys2Proof.Machine.execHash g rd ra rb s
  | .aadd g rd ra rb sz => Sys2Proof.Machine.execAadd g rd ra rb sz s
  | .aswp g rd ra rb sz => Sys2Proof.Machine.execAswp g rd ra rb sz s
  | .acas g rd ra rb sz => Sys2Proof.Machine.execAcas g rd ra rb sz s
  | .beq g ra rb disp => Sys2Proof.Machine.execBeq g ra rb disp s
  | .bne g ra rb disp => Sys2Proof.Machine.execBne g ra rb disp s
  | .blt g ra rb disp => Sys2Proof.Machine.execBlt g ra rb disp s
  | .bge g ra rb disp => Sys2Proof.Machine.execBge g ra rb disp s
  | .bltu g ra rb disp => Sys2Proof.Machine.execBltu g ra rb disp s
  | .bgeu g ra rb disp => Sys2Proof.Machine.execBgeu g ra rb disp s
  | .j g disp => Sys2Proof.Machine.execJ g disp s
  | .jal g disp => Sys2Proof.Machine.execJal g disp s
  | .jalr g rd ra imm => Sys2Proof.Machine.execJalr g rd ra imm s
  | .lkup g rd ra cmd => Sys2Proof.Machine.execLkup g rd ra cmd s
  | .tins g rd ra cmd => Sys2Proof.Machine.execTins g rd ra cmd s
  | .tdel g rd ra cmd => Sys2Proof.Machine.execTdel g rd ra cmd s
  | .ttouch g rd ra cmd => Sys2Proof.Machine.execTtouch g rd ra cmd s
  | .qput g rd ra cmd => Sys2Proof.Machine.execQput g rd ra cmd s
  | .qget g rd ra cmd => Sys2Proof.Machine.execQget g rd ra cmd s
  | .qpeek g rd ra cmd => Sys2Proof.Machine.execQpeek g rd ra cmd s
  | .cry g rd ra cmd => Sys2Proof.Machine.execCry g rd ra cmd s
  | .cwait g rd ra cmd => Sys2Proof.Machine.execCwait g rd ra cmd s
  | .tnow g rd ra cmd => Sys2Proof.Machine.execTnow g rd ra cmd s
  | .twait g rd ra cmd => Sys2Proof.Machine.execTwait g rd ra cmd s
  | .tarm g rd ra cmd => Sys2Proof.Machine.execTarm g rd ra cmd s
  | .yield g rd ra cmd => Sys2Proof.Machine.execYield g rd ra cmd s
  | .waitev g rd ra cmd => Sys2Proof.Machine.execWaitev g rd ra cmd s
  | .signal g rd ra cmd => Sys2Proof.Machine.execSignal g rd ra cmd s
  | .fence g rd ra cmd => Sys2Proof.Machine.execFence g rd ra cmd s
  | .halt g rd ra cmd => Sys2Proof.Machine.execHalt g rd ra cmd s
  | .mfs g rd ra cmd => Sys2Proof.Machine.execMfs g rd ra cmd s
  | .mts g rd ra cmd => Sys2Proof.Machine.execMts g rd ra cmd s
  | .trap g rd ra cmd => Sys2Proof.Machine.execTrap g rd ra cmd s
  | .tret g rd ra cmd => Sys2Proof.Machine.execTret g rd ra cmd s
  | .threadEventWake g => Sys2Proof.Machine.execThreadEventWake g s
  | .twaitExpire g => Sys2Proof.Machine.execTwaitExpire g s
  | .threadTimerFire g => Sys2Proof.Machine.execThreadTimerFire g s
  | .cryComplete g t => Sys2Proof.Machine.execCryComplete g t s
  | .thicketWindowTimeout n => Sys2Proof.Machine.execThicketWindowTimeout n s
  | .engineWdogExpire e => Sys2Proof.Machine.execEngineWdogExpire e s
  | .enghGrantWrite r h off v => Sys2Proof.Machine.execEnghGrantWrite r h off v s
  | .progLoad c off len good => Sys2Proof.Machine.execProgLoad c off len good s
  | .progStop c => Sys2Proof.Machine.execProgStop c s
  | .progSignal c mask => Sys2Proof.Machine.execProgSignal c mask s
  | .hbindWrite r h off v => Sys2Proof.Machine.execHbindWrite r h off v s
  | .pcieFlr f => Sys2Proof.Machine.execPcieFlr f s
  | .pciePerst p width speed pol => Sys2Proof.Machine.execPciePerst p width speed pol s
  | .busMasterChange f on => Sys2Proof.Machine.execBusMasterChange f on s
  | .dmaError idx => Sys2Proof.Machine.execDmaError idx s
  | .cmdDoorbell r idx v => Sys2Proof.Machine.execCmdDoorbell r idx v s
  | .rxDoorbell r idx v => Sys2Proof.Machine.execRxDoorbell r idx v s
  | .cplDoorbell r idx v => Sys2Proof.Machine.execCplDoorbell r idx v s
  | .evDoorbell r idx v => Sys2Proof.Machine.execEvDoorbell r idx v s
  | .ringCtlWrite r idx v => Sys2Proof.Machine.execRingCtlWrite r idx v s
  | .cmdRingDrainDone idx => Sys2Proof.Machine.execCmdRingDrainDone idx s
  | .commandFetch src => Sys2Proof.Machine.execCommandFetch src s
  | .send c eui entry life len mode power cls flags addr inline => Sys2Proof.Machine.execSend c eui entry life len mode power cls flags addr inline s
  | .flood c final life len cls flags addr inline => Sys2Proof.Machine.execFlood c final life len cls flags addr inline s
  | .nop c => Sys2Proof.Machine.execNop c s
  | .memWrite c addr off len => Sys2Proof.Machine.execMemWrite c addr off len s
  | .memRead c addr off len => Sys2Proof.Machine.execMemRead c addr off len s
  | .watchRead c w first count addr => Sys2Proof.Machine.execWatchRead c w first count addr s
  | .calTrigSet c n rep due => Sys2Proof.Machine.execCalTrigSet c n rep due s
  | .calTrigClr c n => Sys2Proof.Machine.execCalTrigClr c n s
  | .hedgeReset c h => Sys2Proof.Machine.execHedgeReset c h s
  | .calExport c addr => Sys2Proof.Machine.execCalExport c addr s
  | .calRestore c addr mask foreign => Sys2Proof.Machine.execCalRestore c addr mask foreign s
  | .bootImageWrite c addr len activate slot => Sys2Proof.Machine.execBootImageWrite c addr len activate slot s
  | .scorepadRead c addr seq era count oldest => Sys2Proof.Machine.execScorepadRead c addr seq era count oldest s
  | .stewardServe => Sys2Proof.Machine.execStewardServe s
  | .irqCoalesceTimeout idx v => Sys2Proof.Machine.execIrqCoalesceTimeout idx v s
  | .evBacklogDrain h => Sys2Proof.Machine.execEvBacklogDrain h s
  | .rxPlace h => Sys2Proof.Machine.execRxPlace h s
  | .rxHoldExpire h => Sys2Proof.Machine.execRxHoldExpire h s
  | .rxLossReport h => Sys2Proof.Machine.execRxLossReport h s
  | .tunCmdMsg h port p => Sys2Proof.Machine.execTunCmdMsg h port p s
  | .tunCreditMsg h port p => Sys2Proof.Machine.execTunCreditMsg h port p s
  | .tunAckMsg h port p => Sys2Proof.Machine.execTunAckMsg h port p s
  | .tunStartMsg h port p => Sys2Proof.Machine.execTunStartMsg h port p s
  | .tunKeepaliveMsg h port p => Sys2Proof.Machine.execTunKeepaliveMsg h port p s
  | .tunNeighborSolicit port ip6 => Sys2Proof.Machine.execTunNeighborSolicit port ip6 s
  | .tunResendTimeout h => Sys2Proof.Machine.execTunResendTimeout h s
  | .tunSilenceTimeout h => Sys2Proof.Machine.execTunSilenceTimeout h s
  | .tunKeepaliveSend h => Sys2Proof.Machine.execTunKeepaliveSend h s
  | .hosthHresetWrite r h v => Sys2Proof.Machine.execHosthHresetWrite r h v s
  | .hbindHresetWrite r h => Sys2Proof.Machine.execHbindHresetWrite r h s
  | .hedgeResetEnd h => Sys2Proof.Machine.execHedgeResetEnd h s
  | .cntClrDiscard r idx v => Sys2Proof.Machine.execCntClrDiscard r idx v s
  | .twinCfgEnWrite r v lanes => Sys2Proof.Machine.execTwinCfgEnWrite r v lanes s
  | .twinHelloRx eui prefer role schema same => Sys2Proof.Machine.execTwinHelloRx eui prefer role schema same s
  | .twinHelloTimeout => Sys2Proof.Machine.execTwinHelloTimeout s
  | .twinHeartbeatSend => Sys2Proof.Machine.execTwinHeartbeatSend s
  | .twinLinkSilent => Sys2Proof.Machine.execTwinLinkSilent s
  | .twinHbSilent => Sys2Proof.Machine.execTwinHbSilent s
  | .partnerFaultAssert => Sys2Proof.Machine.execPartnerFaultAssert s
  | .twinCmdTakeover r => Sys2Proof.Machine.execTwinCmdTakeover r s
  | .twinCmdSwitch r => Sys2Proof.Machine.execTwinCmdSwitch r s
  | .twinCmdLoop r ok => Sys2Proof.Machine.execTwinCmdLoop r ok s
  | .twinDemotionRx cause => Sys2Proof.Machine.execTwinDemotionRx cause s
  | .snapshotCapture late ofs => Sys2Proof.Machine.execSnapshotCapture late ofs s
  | .snapshotApply x ofs => Sys2Proof.Machine.execSnapshotApply x ofs s
  | .twinCounterRecordRx h e counter => Sys2Proof.Machine.execTwinCounterRecordRx h e counter s
  | .twinLoopTest ok => Sys2Proof.Machine.execTwinLoopTest ok s
  | .twinDualActive at_ => Sys2Proof.Machine.execTwinDualActive at_ s
  | .prpFrameRx port source seq lanB sup => Sys2Proof.Machine.execPrpFrameRx port source seq lanB sup s
  | .prpSupSend => Sys2Proof.Machine.execPrpSupSend s
  | .prpSupTimeout port => Sys2Proof.Machine.execPrpSupTimeout port s
  | .powerOn => Sys2Proof.Machine.execPowerOn s
  | .porNLow ns take => Sys2Proof.Machine.execPorNLow ns take s
  | .resetNLow ns take => Sys2Proof.Machine.execResetNLow ns take s
  | .supplyLow => Sys2Proof.Machine.execSupplyLow s
  | .thermalTrip => Sys2Proof.Machine.execThermalTrip s
  | .thermalHoldEnd => Sys2Proof.Machine.execThermalHoldEnd s
  | .stewardWdogExpire => Sys2Proof.Machine.execStewardWdogExpire s
  | .rstCmdSystem r => Sys2Proof.Machine.execRstCmdSystem r s
  | .rstCmdCore r => Sys2Proof.Machine.execRstCmdCore r s
  | .resetRelease x => Sys2Proof.Machine.execResetRelease x s
  | .coreReset stewardOk runtimeOk progOk lanesOk aesOk decOk portsOk => Sys2Proof.Machine.execCoreReset stewardOk runtimeOk progOk lanesOk aesOk decOk portsOk s
  | .bootConfirm r => Sys2Proof.Machine.execBootConfirm r s
  | .recovGo r x => Sys2Proof.Machine.execRecovGo r x s
  | .dramScrub k errs => Sys2Proof.Machine.execDramScrub k errs s
  | .calSaveTuner r ports => Sys2Proof.Machine.execCalSaveTuner r ports s
  | .rtcSecond => Sys2Proof.Machine.execRtcSecond s
  | .oscStopDetect => Sys2Proof.Machine.execOscStopDetect s
  | .rtcTimeRead r k => Sys2Proof.Machine.execRtcTimeRead r k s
  | .rtcThawTimeout r => Sys2Proof.Machine.execRtcThawTimeout r s
  | .rtcHaltWrite r v => Sys2Proof.Machine.execRtcHaltWrite r v s
  | .rtcTimeWrite r k v => Sys2Proof.Machine.execRtcTimeWrite r k v s
  | .rtcAutoSet => Sys2Proof.Machine.execRtcAutoSet s
  | .pwronLevelWrite r v => Sys2Proof.Machine.execPwronLevelWrite r v s
  | .triggerEventPost n => Sys2Proof.Machine.execTriggerEventPost n s
  | .missedTriggersPost h => Sys2Proof.Machine.execMissedTriggersPost h s
  | .backupReset => Sys2Proof.Machine.execBackupReset s
  | .backupSupplySwitch vbat => Sys2Proof.Machine.execBackupSupplySwitch vbat s
  | .refclkLoss => Sys2Proof.Machine.execRefclkLoss s
  | .pllUnlock => Sys2Proof.Machine.execPllUnlock s
  | .refclkRestored => Sys2Proof.Machine.execRefclkRestored s
  | .clockDupMismatch => Sys2Proof.Machine.execClockDupMismatch s
  | .stewardLockstepMismatch => Sys2Proof.Machine.execStewardLockstepMismatch s
  | .memoryEccError at_ corrected => Sys2Proof.Machine.execMemoryEccError at_ corrected s
  | .sramScrub errs => Sys2Proof.Machine.execSramScrub errs s
  | .engineBist e ok => Sys2Proof.Machine.execEngineBist e ok s
  | .dramProbe ok0 ok1 => Sys2Proof.Machine.execDramProbe ok0 ok1 s
  | .adcSubconvCheck p ok => Sys2Proof.Machine.execAdcSubconvCheck p ok s
  | .laneCheckerSlot l ok => Sys2Proof.Machine.execLaneCheckerSlot l ok s
  | .ldpcKnownTest k iters ok => Sys2Proof.Machine.execLdpcKnownTest k iters ok s
  | .cryptoKat kind core ok last => Sys2Proof.Machine.execCryptoKat kind core ok last s
  | .scorepadCommit read => Sys2Proof.Machine.execScorepadCommit read s
  | .scorepadSuppressReport => Sys2Proof.Machine.execScorepadSuppressReport s
  | .faultInject r => Sys2Proof.Machine.execFaultInject r s
  | .tamperSample n high => Sys2Proof.Machine.execTamperSample n high s
  | .rxSynthLockLost n => Sys2Proof.Machine.execRxSynthLockLost n s
  | .ppsOpenCheck isOpen => Sys2Proof.Machine.execPpsOpenCheck isOpen s
  | .vbatLowDetect low => Sys2Proof.Machine.execVbatLowDetect low s
  | .shaperUnblock n => Sys2Proof.Machine.execShaperUnblock n s
  | .ptPulseEnd n => Sys2Proof.Machine.execPtPulseEnd n s
  | .registerRead r off len => Sys2Proof.Machine.execRegisterRead r off len s
  | .twinLinkUp => Sys2Proof.Machine.execTwinLinkUp s
  | .partnerFaultRelease => Sys2Proof.Machine.execPartnerFaultRelease s
  | .bootFlashWriteDone => Sys2Proof.Machine.execBootFlashWriteDone s

end Sys2Proof.Machine
end

