-- ==== Sys2Proof/Safety.lean ====
section
/-!
DEFINITION. What the statements mean by a good state and by a completed command.
-/

namespace Sys2Proof.Machine

open Sys2Proof

/-- Every byte memory is in its canonical form: addresses strictly rising, no zero octet listed. -/
def Memories.ok (m : Memories) : Bool :=
  memWf m.sram && memWf m.localMem && memWf m.sharedMem && memWf m.instrMem && memWf m.dram && memWf m.mram && memWf m.host && memWf m.flash

/-- The command completes from s: exec answers a next state, and P holds of it. -/
def completes (c : Instr) (s : State) (P : State → Prop) : Prop := ∃ t, exec c s = .next t ∧ P t

/-- t differs from s in nothing but the listed fields' instances. -/
def sameBut (s t : State) (l : List (Fld × Nat)) : Prop :=
  { t with cells := s.cells } = s ∧ ∀ (F : Fld) (n : Nat), (l.any fun p => p.1.id == F.id && p.2 == n) = false → t.get F n = s.get F n

/-- Thread g issues its instruction: it is ready, and its PC lies in its range (R368, R411). -/
def State.issues (s : State) (g : Nat) : Bool := decide (g < 512) && s.threadState g == 1 && pcOk g (s.get THR.PC g)

/-- The state in which an issued instruction of thread g acts: the issue is counted. -/
def State.issued (s : State) (g : Nat) : State := s.bump ENGE.ISSUE_CNT (g / 4)

/-- PSR's flags Z, N, C and V as one number (R371). -/
def flagWord (z n c v : Bool) : Nat := 8 * z.toNat + 4 * n.toNat + 2 * c.toNat + v.toNat

/-- Z and N of a result. -/
def resultFlags (r : Nat) : Nat := flagWord (r == 0) (decide (2 ^ 31 ≤ r)) false false

/-- The flags of a sum whose value is n without sign, before it is cut to 32 bits, and i with sign. -/
def sumFlags (n : Nat) (i : Int) : Nat :=
  flagWord (n % 2 ^ 32 == 0) (decide (2 ^ 31 ≤ n % 2 ^ 32)) (decide (2 ^ 32 ≤ n)) (decide (i < -2 ^ 31 ∨ 2 ^ 31 ≤ i))

/-- The state after an instruction of thread g that writes v into rd and f into the flags. -/
def State.result (s : State) (g : Nat) (rd : BitVec 5) (v f : Nat) : State :=
  (((s.issued g).setW g rd.toNat v).put THR.FLAGS g f).pcNext g

/-- The state after an instruction of thread g that writes v into rd and no flag. -/
def State.moved (s : State) (g : Nat) (rd : BitVec 5) (v : Nat) : State := ((s.issued g).setW g rd.toNat v).pcNext g

/-- Whether a place holds octets that loads and stores of every size reach: all but the register window and the gaps (R373, R406). -/
def Place.memory : Place → Bool
  | .regs _ => false
  | .none => false
  | _ => true

end Sys2Proof.Machine
end

