-- ==== Sys2Proof/Certificates/Slice0/Obligations.lean ====
section
/-!
DEFINITION. The statements about the model.
-/

open Sys2Proof Sys2Proof.Machine

/-- A step runs the command at the front of the queue: For every command and state, a step with that command at the front of the queue is exec of that command on the state with the queue's rest; with an empty queue the block idles, the state as it was (the queue and its idling are the model's own, assumption 1). The rules it rests on: R3, R433. -/
def Obligations.StepRuns : Prop :=
  (∀ (c : Instr) (rest : List Instr) (s : State), s.pending = c :: rest → step s = exec c { s with pending := rest })
  ∧ (∀ (s : State), s.pending = [] → step s = .next s)

/-- Every step completes and takes exactly one command off the queue: From every state a step answers a next state, never a fault or a refusal, and leaves waiting the commands that waited behind the front one, in their order: no command's effect touches the queue (assumption 1). The rules it rests on: R3, R433. -/
def Obligations.StepTakesOne : Prop :=
  (∀ (s : State), ∃ t, step s = .next t ∧ t.pending = s.pending.tail)

/-- Every step keeps the memories in their canonical form: If the eight byte memories list rising addresses and no zero octet before a step, they do after it, whatever the command; the form is the model's own (assumption 1). The rules it rests on: R3, R433. -/
def Obligations.MemoriesStayCanonical : Prop :=
  (∀ (t : State) (s : State), s.mem.ok = true → step s = .next t → t.mem.ok = true)

/-- What reset leaves: At reset the memories are empty and canonical, the queue is empty, the increment is nominal, every trigger belongs to nobody, the part is not ready and no field is listed apart from its reset value (reset values the spec does not give are the model's, assumption 2). The rules it rests on: R3, R14, R16, R40. -/
def Obligations.ResetState : Prop :=
  (State.reset.mem.ok = true ∧ State.reset.pending = [] ∧ State.reset.get TIME.NSC_INC = 0x155555555 ∧ (∀ n, n < 64 → State.reset.get PT.CTL_OWNER n = 15) ∧ State.reset.get BOOT.STATUS_READY = 0 ∧ ∀ (F : Fld) (n : Nat), State.reset.get F n = F.rst n)

/-- Register reads and writes by access code: An access that is not an aligned word answers a bus error and changes no register but the error record of its view; an aligned read of the low word of a 64-bit register answers it and latches the high word for the requester; a read of an RC field answers it and clears it; a write of an RW field sets it; a write of an RO register changes nothing. The rules it rests on: R3, R4, R5. -/
def Obligations.BusAccess : Prop :=
  (∀ (r : Req) (off len : Nat) (s : State), (off % 4 ≠ 0 ∨ len ≠ 4) → exec (.registerRead r off len) s = .next (s.busErr r off))
  ∧ (∀ (r : Req) (off len v : Nat) (s : State), (off % 4 ≠ 0 ∨ len ≠ 4) → exec (.regWrite r off len v) s = .next (s.busErr r off))
  ∧ (∀ (r : Req) (s : State), s.reachWord r 8 4 = 0 → completes (.reg64LowRead r 8) s fun t => t.get MODEL.DATA = s.get SYS.EUI64 % 2 ^ 32 ∧ t.get X64.SHADOW (x64 r 8) = s.get SYS.EUI64 / 2 ^ 32 % 2 ^ 32 ∧ t.get X64.LATCHED (x64 r 8) = 1 ∧ t.get MODEL.RESP = 0)
  ∧ (∀ (r : Req) (s : State), s.reachWord r 0x204 4 = 0 → completes (.rcFieldRead r 0x204) s fun t => t.get MODEL.DATA = s.get SYS.ERR_CNT 0 % 2 ^ 32 ∧ t.get SYS.ERR_CNT 0 = 0 ∧ t.get MODEL.RESP = 0)
  ∧ (∀ (r : Req) (s : State), s.reachWord r 0x20 4 = 0 → completes (.registerRead r 0x20 4) s fun t => t.get MODEL.DATA = s.get SYS.SCRATCH 0 % 2 ^ 32 ∧ t.get MODEL.RESP = 0 ∧ sameBut s t [(MODEL.DATA, 0), (MODEL.RESP, 0)])
  ∧ (∀ (r : Req) (v : Nat) (s : State), s.reachWord r 0x20 4 = 0 → viewOf r = 0 → completes (.regWrite r 0x20 4 v) s fun t => t.get SYS.SCRATCH 0 = v % 2 ^ 32 ∧ sameBut s t [(SYS.SCRATCH, 0), (MODEL.RESP, 0)])
  ∧ (∀ (r : Req) (v : Nat) (s : State), s.reachWord r 0 4 = 0 → viewOf r = 0 → completes (.regWrite r 0 4 v) s fun t => t.get MODEL.RESP = 0 ∧ sameBut s t [(MODEL.RESP, 0)])

/-- Expert ownership is requested, acknowledged and given back: In READY a privileged write of EXPERT_G.OWN that reaches its register leaves OWN holding the six bits written, and one of EXPERT_H[1].OWN those of Hedge 1; when the Runtime has finished its update each bit whose change to 1 waits is acknowledged, a configuration record of its block as it stands replaces the older one, and the change waits no longer, for the global register and for each Hedge's; when it reloads, each bit whose change to 0 waits leaves the acknowledgement, and every block whose bit is not acknowledged is reloaded from its record. That changes wait bit by bit is the model's choice (assumption 128). The rules it rests on: R11, R12, R580. -/
def Obligations.ExpertOwnership : Prop :=
  (∀ (r : Req) (v : Nat) (s : State), s.reachWord r 0x40 4 = 0 → viewOf r = 0 → s.get BOOT.STATUS_READY = 1 → completes (.expertGWrite r v) s fun t => t.get SYS.EXPERT_G_OWN = v % 64)
  ∧ (∀ (r : Req) (v : Nat) (s : State), s.reachWord r 0x84 4 = 0 → viewOf r = 0 → s.get BOOT.STATUS_READY = 1 → completes (.expertHWrite r 1 v) s fun t => t.get SYS.EXPERT_H_OWN 1 = v % 64)
  ∧ (∀ (s : State), exec (.expertTakeEffect 8) s = .next ((fun ks : List Nat => (fun recs : List (Nat × List ((Nat × Nat) × Nat)) => (({ s with records := s.records.filter (fun x => !recs.any fun y => y.1 == x.1) ++ recs } : State).put SYS.EXPERT_G_ACK 0 (s.get SYS.EXPERT_G_ACK + (ks.map (2 ^ ·)).sum)).each ks fun u k => u.drop EXPX.CHG (48 + k) 1) (ks.map fun k => (48 + k, s.recordOf (48 + k)))) ((List.range 6).filter fun k => s.get EXPX.CHG (48 + k) != 0 && !bit (s.get SYS.EXPERT_G_ACK) k)))
  ∧ (∀ (h : Nat) (s : State), h < 8 → exec (.expertTakeEffect h) s = .next ((fun ks : List Nat => (fun recs : List (Nat × List ((Nat × Nat) × Nat)) => (({ s with records := s.records.filter (fun x => !recs.any fun y => y.1 == x.1) ++ recs } : State).put SYS.EXPERT_H_ACK h (s.get SYS.EXPERT_H_ACK h + (ks.map (2 ^ ·)).sum)).each ks fun u k => u.drop EXPX.CHG (6 * h + k) 1) (ks.map fun k => (6 * h + k, s.recordOf (6 * h + k)))) ((List.range 6).filter fun k => s.get EXPX.CHG (6 * h + k) != 0 && !bit (s.get SYS.EXPERT_H_ACK h) k)))
  ∧ (∀ (s : State), exec (.expertReload 8) s = .next ((fun ks : List Nat => (fun ack : Nat => ((s.put SYS.EXPERT_G_ACK 0 ack).each ks fun u k => u.drop EXPX.CHG (48 + k) 1).each ((List.range 6).filter fun k => !bit ack k) fun u k => u.reload (48 + k)) (s.get SYS.EXPERT_G_ACK - (ks.map (2 ^ ·)).sum)) ((List.range 6).filter fun k => s.get EXPX.CHG (48 + k) != 0 && bit (s.get SYS.EXPERT_G_ACK) k)))
  ∧ (∀ (h : Nat) (s : State), h < 8 → exec (.expertReload h) s = .next ((fun ks : List Nat => (fun ack : Nat => ((s.put SYS.EXPERT_H_ACK h ack).each ks fun u k => u.drop EXPX.CHG (6 * h + k) 1).each ((List.range 6).filter fun k => !bit ack k) fun u k => u.reload (6 * h + k)) (s.get SYS.EXPERT_H_ACK h - (ks.map (2 ^ ·)).sum)) ((List.range 6).filter fun k => s.get EXPX.CHG (6 * h + k) != 0 && bit (s.get SYS.EXPERT_H_ACK h) k)))

/-- One cycle of the 750 MHz time tick: With the clock in range, no slew and no correction of a step of Mesh Phase running, a cycle adds NSC_INC to seconds, nanoseconds and fraction taken as one number of 2^-32 ns, keeps the nanoseconds below 1,000,000,000, counts the cycle and changes nothing else; a running slew counts down one; in every state the cycle is the clock's cycle and then the walk's share of the step's correction (the walk's pace is free, assumption 35); at a slew count of 0 the adjustment ends. The rules it rests on: R14, R15. -/
def Obligations.ClockCycle : Prop :=
  (∀ (s : State), s.get CLK.NS < 10 ^ 9 → s.get CLK.SLEW_CNT = 0 → s.get CLK.SEC < 2 ^ 48 - 1 → s.get CLK.FRAC < 2 ^ 32 → s.get WAKE.STATUS_FIX_ACTIVE = 0 → completes (.nscCycle) s fun t => (t.get CLK.SEC * 10 ^ 9 + t.get CLK.NS) * 2 ^ 32 + t.get CLK.FRAC = (s.get CLK.SEC * 10 ^ 9 + s.get CLK.NS) * 2 ^ 32 + s.get CLK.FRAC + s.get TIME.NSC_INC % 2 ^ 40 ∧ t.get CLK.NS < 10 ^ 9 ∧ t.get CLK.CYC = (s.get CLK.CYC + 1) % 2 ^ 64 ∧ sameBut s t [(CLK.SEC, 0), (CLK.NS, 0), (CLK.FRAC, 0), (CLK.CYC, 0)])
  ∧ (∀ (s : State), s.get CLK.SLEW_CNT ≠ 0 → s.get WAKE.STATUS_FIX_ACTIVE = 0 → completes (.nscCycle) s fun t => t.get CLK.SLEW_CNT = (s.get CLK.SLEW_CNT - 1) % 2 ^ 64 ∧ t.get TIME.NSC_SLEW_CNT = (s.get CLK.SLEW_CNT - 1) % 2 ^ 32)
  ∧ (∀ (s : State), exec (.nscCycle) s = .next (s.nscCycle.fixWalk))
  ∧ (∀ (s : State), s.get CLK.SLEW_CNT = 0 → exec (.slewCountExpire) s = .next (((s.putI CLK.SLEW_ADJ 0 0).put CLK.SLEW_CNT 0 0).put TIME.NSC_SLEW_CNT 0 0))

/-- Which writes of NSC_INC are accepted: A write of NSC_INC that reaches it, its 40 bits the two words joined, becomes the increment while SERVO_EN is 0 and it lies from 0x01_54FD_F3B6 to 0x01_55AC_B6F4; every other write that reaches it leaves the increment and sets INC_REFUSED; nothing else changes. The rules it rests on: R16. -/
def Obligations.IncrementWrite : Prop :=
  (∀ (r : Req) (v : Nat) (s : State), s.reachWord r (TIME.NSC_INC.addr 0) 4 = 0 → s.get TIME.NSC_CTL_SERVO_EN = 0 → 0x154FDF3B6 ≤ s.join64 r 0x400008 v % 2 ^ 40 → s.join64 r 0x400008 v % 2 ^ 40 ≤ 0x155ACB6F4 → completes (.nscIncWrite r v) s fun t => t.get TIME.NSC_INC = s.join64 r 0x400008 v % 2 ^ 40 ∧ sameBut s t [(TIME.NSC_INC, 0)])
  ∧ (∀ (r : Req) (v : Nat) (s : State), s.reachWord r (TIME.NSC_INC.addr 0) 4 = 0 → (s.get TIME.NSC_CTL_SERVO_EN ≠ 0 ∨ s.join64 r 0x400008 v % 2 ^ 40 < 0x154FDF3B6 ∨ 0x155ACB6F4 < s.join64 r 0x400008 v % 2 ^ 40) → completes (.nscIncWrite r v) s fun t => t.get TIME.TIME_EVENT_INC_REFUSED = 1 ∧ sameBut s t [(TIME.TIME_EVENT_INC_REFUSED, 0)])

/-- Reading, setting, stepping and slewing the clock: (Each access one that reaches its register.) A read of NSC_NOW_NS answers the nanoseconds and latches the seconds and fraction of the same cycle; a write of NSC_SLEW_CNT starts a slew of that many cycles with the staged adjustment; a write of NSC_CTL.SET is the step from the clock to the time in NSC_SET_*, and one of NSC_CTL.STEP the step by NSC_STEP_*, both by the model's one step operation; that operation, asked to place the clock before MP_EPOCH_SEC, sets STEP_REFUSED and nothing else. The rules it rests on: R17, R18, R20, R21. -/
def Obligations.ClockRegisters : Prop :=
  (∀ (r : Req) (s : State), s.reachWord r (TIME.NSC_NOW_NS_NS.addr 0) 4 = 0 → exec (.nscNowNsRead r) s = .next ((((((s.put TIME.NSC_NOW_NS_NS 0 (s.get CLK.NS)).put TIME.NSC_NOW_FRAC 0 (s.get CLK.FRAC)).put TIME.NSC_NOW_SEC_LO 0 (s.get CLK.SEC)).put TIME.NSC_NOW_SEC_HI 0 (s.get CLK.SEC / 2 ^ 32)).put MODEL.DATA 0 (s.get CLK.NS)).put MODEL.RESP 0 0))
  ∧ (∀ (r : Req) (v : Nat) (s : State), s.reachWord r (TIME.NSC_SLEW_CNT.addr 0) 4 = 0 → exec (.nscSlewCntWrite r v) s = .next (((s.putI CLK.SLEW_ADJ 0 (s.getI TIME.NSC_SLEW_ADJ)).put CLK.SLEW_CNT 0 (v % 2 ^ 32)).put TIME.NSC_SLEW_CNT 0 (v % 2 ^ 32)))
  ∧ (∀ (r : Req) (s : State), s.reachWord r (TIME.NSC_CTL_SET.addr 0) 4 = 0 → exec (.nscSet r) s = .next (s.hostStep ((((s.get TIME.NSC_SET_SEC_HI * 2 ^ 32 + s.get TIME.NSC_SET_SEC_LO) * 10 ^ 9 + s.get TIME.NSC_SET_NS) * 2 ^ 32 : Nat) - (s.clock : Int))))
  ∧ (∀ (r : Req) (s : State), s.reachWord r (TIME.NSC_CTL_STEP.addr 0) 4 = 0 → exec (.nscStep r) s = .next (s.hostStep ((s.getI TIME.NSC_STEP_SEC * 10 ^ 9 + s.getI TIME.NSC_STEP_NS) * 2 ^ 32)))
  ∧ (∀ (d : Int) (s : State), (s.clock : Int) + d < (s.get TIME.MP_EPOCH_SEC * 10 ^ 9 * 2 ^ 32 : Nat) → s.hostStep d = s.set TIME.TIME_EVENT_STEP_REFUSED)

/-- PPS and PTP as time sources, and the capture units: A PPS edge with PPS_CFG.EN 0 changes nothing; one 750,000,000 cycles after another, the third of a row, not late by its level nor on an open input, makes the source present, its count 3 and its cycle kept, while PPS neither is nor may become the active source; 1,125,000,000 cycles without an edge while PPS is not the active source clear the source's presence and set PPS_LOST; an open input is shown and not present, and a present source so lost is lost to the discipline as well; an input not open is shown so. While both ports forward (ROLE 2, no PRP) a message goes through the transparent clock; at a port with ROLE 1 a message of its transport and domain goes to the port's clock; where only one port has ROLE 2 its messages change nothing; a present port three Sync intervals without Sync, no source active, is lost with its bit of PTP_LOST. A capture unit with fewer than four entries held (its source not the PPS input) puts Mesh Phase, seconds, nanoseconds and its sequence number behind them and counts the number on; with four held it sets OVERFLOW and counts the number on; an edge of a source reaches every enabled unit that selects the source and the edge; a write of 1 to POP that reaches it removes the head entry and shows the next. The rules it rests on: R22, R25, R28, R41, R42, R43. -/
def Obligations.ClockSources : Prop :=
  (∀ (us : Nat) (s : State), s.get TIME.PPS_CFG_EN = 0 → exec (.ppsEdge us) s = .next (s))
  ∧ (∀ (us : Nat) (s : State), s.get TIME.PPS_CFG_EN = 1 → s.get DISC.PPS_SEEN = 1 → s.get CLK.CYC - s.get DISC.PPS_LAST = 750000000 → s.get DISC.PPS_RUN = 2 → s.get TIME.PPS_STATUS_OPEN = 0 → us ≤ 500000 → s.get TIME.SRC_STATUS_ACTIVE ≠ 1 → s.get TIME.SRC_CTL_PRI0 = 0 → s.get TIME.SRC_CTL_AUTO = 0 → completes (.ppsEdge us) s fun t => t.get TIME.SRC_STATUS_PPS_PRESENT = 1 ∧ t.get DISC.PPS_RUN = 3 ∧ t.get DISC.PPS_LAST = s.get CLK.CYC % 2 ^ 64)
  ∧ (∀ (s : State), s.get DISC.PPS_SEEN = 1 → s.get DISC.PPS_LAST + 1125000000 ≤ s.get CLK.CYC → s.get TIME.SRC_STATUS_ACTIVE ≠ 1 → exec (.ppsLossTimeout) s = .next ((((s.clr DISC.PPS_SEEN).clr DISC.PPS_RUN).clr TIME.SRC_STATUS_PPS_PRESENT).set TIME.TIME_EVENT_PPS_LOST))
  ∧ (∀ (s : State), s.get TIME.SRC_STATUS_PPS_PRESENT = 0 → exec (.ppsOpenCheck true) s = .next (((s.set TIME.PPS_STATUS_OPEN).clr TIME.SRC_STATUS_PPS_PRESENT).clr DISC.PPS_RUN))
  ∧ (∀ (s : State), s.get TIME.SRC_STATUS_PPS_PRESENT ≠ 0 → exec (.ppsOpenCheck true) s = .next ((((s.set TIME.PPS_STATUS_OPEN).clr TIME.SRC_STATUS_PPS_PRESENT).clr DISC.PPS_RUN).srcLost 1))
  ∧ (∀ (s : State), exec (.ppsOpenCheck false) s = .next (s.clr TIME.PPS_STATUS_OPEN))
  ∧ (∀ (p : Nat) (m : PtpMsg) (s : State), p < 2 → s.get PTP_PORT.CTL_ROLE p = 2 → s.get PTP_PORT.CTL_ROLE (1 - p) = 2 → s.get PRP.CTL_EN = 0 → exec (.ptpMsgRx p m) s = .next (s.tcForward p m))
  ∧ (∀ (p : Nat) (m : PtpMsg) (s : State), p < 2 → s.get PTP_PORT.CTL_ROLE p = 1 → s.get PRP.CTL_EN = 0 → s.ptpMine p m = true → exec (.ptpMsgRx p m) s = .next (s.ptpClock p m))
  ∧ (∀ (p : Nat) (m : PtpMsg) (s : State), p < 2 → s.get PTP_PORT.CTL_ROLE p = 2 → s.get PTP_PORT.CTL_ROLE (1 - p) ≠ 2 → exec (.ptpMsgRx p m) s = .next (s))
  ∧ (∀ (p : Nat) (s : State), p < 2 → s.get (ptpPresent p) ≠ 0 → s.get TIME.SRC_STATUS_ACTIVE = 0 → exec (.ptpSyncTimeout p) s = .next ((s.clr (ptpPresent p)).put TIME.TIME_EVENT_PTP_LOST 0 (Nat.lor (s.get TIME.TIME_EVENT_PTP_LOST) (2 ^ p))))
  ∧ (∀ (n : Nat) (s : State), (s.cuHeld n).length < 4 → s.get CU.CTL_SOURCE n ≠ 8 → s.cuCapture n = (fun u : State => ({ u with capQ := u.capQ ++ [⟨n, (u.setClock u.clock).mp, (u.setClock u.clock).get CLK.SEC, (u.setClock u.clock).get CLK.NS, s.get CAP.SEQ n⟩] } : State).cuShow n) (s.put CAP.SEQ n (s.get CAP.SEQ n + 1)))
  ∧ (∀ (n : Nat) (s : State), 4 ≤ (s.cuHeld n).length → s.cuCapture n = (s.put CAP.SEQ n (s.get CAP.SEQ n + 1)).set CU.STATUS_OVERFLOW n)
  ∧ (∀ (src : Nat) (up : Bool) (s : State), exec (.cuEdge src up) s = .next ((s.hbEdge src).each (List.range 16) fun u n => if u.on CU.CTL_EN n && u.get CU.CTL_SOURCE n == src && src < 15 && (u.get CU.CTL_EDGE n == 2 || (u.get CU.CTL_EDGE n == 0 && up) || (u.get CU.CTL_EDGE n == 1 && !up)) then u.cuCapture n else u))
  ∧ (∀ (r : Req) (n : Nat) (e : CapEntry) (s : State), s.reachWord r (CU.POP.addr n) 4 = 0 → s.capQ.find? (·.unit == n) = some e → exec (.cuPop r n 1) s = .next (({ s with capQ := s.capQ.erase e } : State).cuShow n))

/-- An entry's timeouts, aging, revalidation and quota: A JOINING entry whose join timeout has come and on which no thread has a window open is freed, JOIN_TIMEOUT its cause. While aging is enabled the scanner's visit moves the cursor on (at the last entry noting when the pass was done), marks an entry in use and not pinned as seen in this pass with the last hit it then had, and, its Hedge's aging enabled, no window open on it and its age under 2^31 s, moves an ACTIVE or SLEEPY entry of at least AGE_LOST s to LOST and counts it, and frees a LOST entry of at least AGE_FREE s and counts it; a pinned entry only moves the cursor. At the end of a pass whose time has run the candidate lists of all Hedges are made anew, the marks of the pass fall and the next pass starts, with AGE_OVERRUN where the last visit came no earlier than that end. Revalidation of the whole table revalidates every entry in use, ends and sets REVAL_DONE. A privileged quota write that reaches its register is taken, with the sum, while the sum stays within 262,144, and else only sets QUOTA_REFUSED. The rules it rests on: R60, R65, R71, R72, R74, R79, R86, R385. -/
def Obligations.EntryLife : Prop :=
  (∀ (e : Nat) (s : State), s.get E.STATE e = stJoining → after32 ((s.get NODE.INS_AT e + s.get THK_HEDGE.JOIN_TIMEOUT (s.get E.HEDGE e)) % 2 ^ 32) s.mpSec = false → s.heldEntry e = false → exec (.joinTimeout e) s = .next (s.freeEntry e fJoin))
  ∧ (∀ (e : Nat) (s : State), e < entryCount → s.get THK.CTL_AGING_EN ≠ 0 → s.get AGING.CURSOR = e → s.get E.PINNED e = 0 → s.get THK_HEDGE.CFG_AGING_EN (s.get E.HEDGE e) ≠ 0 → s.heldEntry e = false → ((s.mpSec + 2 ^ 32 - s.get E.LAST_HIT e) % 2 ^ 32) < 2 ^ 31 → (s.get E.STATE e = stActive ∨ s.get E.STATE e = stSleepy) → s.get THK_HEDGE.AGE_LOST (s.get E.HEDGE e) ≤ ((s.mpSec + 2 ^ 32 - s.get E.LAST_HIT e) % 2 ^ 32) → exec (.agingVisit e) s = .next (((let u := (s.put AGING.CURSOR 0 (e + 1)).putIf (e + 1 == entryCount) AGING.DONE_AT 0 s.mp; if s.get E.STATE e = stFree ∨ u.on E.PINNED e then u else (u.set NODE.PASS_ON e).put NODE.PASS_HIT e (u.get E.LAST_HIT e)).lose e).bump THK_HEDGE.AGED_LOST_CNT (s.get E.HEDGE e)))
  ∧ (∀ (e : Nat) (s : State), e < entryCount → s.get THK.CTL_AGING_EN ≠ 0 → s.get AGING.CURSOR = e → s.get E.PINNED e = 0 → s.get THK_HEDGE.CFG_AGING_EN (s.get E.HEDGE e) ≠ 0 → s.heldEntry e = false → ((s.mpSec + 2 ^ 32 - s.get E.LAST_HIT e) % 2 ^ 32) < 2 ^ 31 → s.get E.STATE e = stLost → s.get THK_HEDGE.AGE_FREE (s.get E.HEDGE e) ≤ ((s.mpSec + 2 ^ 32 - s.get E.LAST_HIT e) % 2 ^ 32) → exec (.agingVisit e) s = .next (((let u := (s.put AGING.CURSOR 0 (e + 1)).putIf (e + 1 == entryCount) AGING.DONE_AT 0 s.mp; if s.get E.STATE e = stFree ∨ u.on E.PINNED e then u else (u.set NODE.PASS_ON e).put NODE.PASS_HIT e (u.get E.LAST_HIT e)).freeEntry e fAged).bump THK_HEDGE.AGED_FREE_CNT (s.get E.HEDGE e)))
  ∧ (∀ (e : Nat) (s : State), e < entryCount → s.get THK.CTL_AGING_EN ≠ 0 → s.get AGING.CURSOR = e → s.get E.PINNED e ≠ 0 → exec (.agingVisit e) s = .next ((s.put AGING.CURSOR 0 (e + 1)).putIf (e + 1 == entryCount) AGING.DONE_AT 0 s.mp))
  ∧ (∀ (s : State), s.get THK.CTL_AGING_EN ≠ 0 → s.get AGING.CURSOR = entryCount → s.get AGING.START + s.passTicks ≤ s.mp → exec (.agingPassEnd) s = .next ((let w := s.when (decide (s.get AGING.START + s.passTicks ≤ s.get AGING.DONE_AT)) (·.set THK.EVENT_AGE_OVERRUN); let x := { w with cands := (List.range 8).flatMap w.candsOf }; (x.each x.usedEntries fun y e => (y.unput NODE.PASS_ON e).unput NODE.PASS_HIT e).passStart)))
  ∧ (∀ (s : State), s.get THK.STATUS_REVAL_ACTIVE ≠ 0 → exec (.revalDone) s = .next (((s.each s.usedEntries fun u e => u.revalidate e).clr THK.STATUS_REVAL_ACTIVE).set THK.EVENT_REVAL_DONE))
  ∧ (∀ (r : Req) (h v : Nat) (s : State), s.reachWord r (THK_HEDGE.QUOTA.addr h) 4 = 0 → viewOf r = 0 → h < 8 → s.get THK.QUOTA_SUM - s.get THK_HEDGE.QUOTA h + v % 2 ^ 19 ≤ entryCount → exec (.thkQuotaWrite r h v) s = .next ((s.put THK_HEDGE.QUOTA h (v % 2 ^ 19)).put THK.QUOTA_SUM 0 (s.get THK.QUOTA_SUM - s.get THK_HEDGE.QUOTA h + v % 2 ^ 19)))
  ∧ (∀ (r : Req) (h v : Nat) (s : State), s.reachWord r (THK_HEDGE.QUOTA.addr h) 4 = 0 → viewOf r = 0 → h < 8 → entryCount < s.get THK.QUOTA_SUM - s.get THK_HEDGE.QUOTA h + v % 2 ^ 19 → exec (.thkQuotaWrite r h v) s = .next (s.set THK.EVENT_QUOTA_REFUSED))

/-- The commands that name a Thicket entry: Outside standby (NODE_READ and NODE_LIST in it too), with the entry the command names revalidated and touched first where the Hedge owns it: NODE_INSERT, its Hedge's Thicket not owned by software, answers as the insertion ends: DONE with the index, DONE with the flag that the node was there, QUOTA, BAD_DESCRIPTOR, or it waits; NODE_DELETE frees an entry without holds and completes DONE, and waits where a hold stands; NODE_READ answers the entry's octets, with PRIV those of the two private areas after them; NODE_UPDATE, none of its fields ill-formed, forbidden or owned by software and the index able to take the new short address, writes the fields its mask names and the Hedge's eligibility and completes DONE; NODE_PIN pins an entry within the limit and counts it, answers DONE for a pinned one and QUOTA beyond the limit; NODE_UNPIN unpins a pinned entry, drops the count and completes DONE; NODE_TOUCH records a hit and completes DONE; NODE_LIST of a state from 1 to 4 answers at most 1,024 indexes of the Hedge's entries in that state beyond the start; an entry the Hedge does not own completes NODE_UNKNOWN. The rules it rests on: R72, R79, R81, R82, R385, R414. -/
def Obligations.NodeCommands : Prop :=
  (∀ (c : Cmd) (b : NodeBlock) (s : State), s.standby = false → s.expH c.ring 0 = false → exec (.nodeInsert c b) s = .next (match s.insertNode c.ring b with | (.done e, u) => u.complete c 0x10 0 0 0 [(24, le 4 e)] | (.existed e, u) => u.complete c 0x10 0 0x10 0 [(24, le 4 e)] | (.quota, u) => u.finish c 0x10 0x05 | (.bad, u) => u.finish c 0x10 0x12 | (.wait ev, u) => { u with insWait := u.insWait ++ [(⟨c.ring, b, some c, none, none, ev⟩ : InsWait)] }))
  ∧ (∀ (c : Cmd) (e : Nat) (s : State), (s.opened c.ring e).standby = false → (s.opened c.ring e).named c.ring e = true → (s.opened c.ring e).heldEntry e = false → exec (.nodeDelete c e) s = .next (((s.opened c.ring e).freeEntry e fDeleted).finish c 0x11 0))
  ∧ (∀ (c : Cmd) (e : Nat) (s : State), (s.opened c.ring e).standby = false → (s.opened c.ring e).named c.ring e = true → (s.opened c.ring e).heldEntry e = true → exec (.nodeDelete c e) s = .next ({ (s.opened c.ring e) with delWait := (s.opened c.ring e).delWait ++ [(⟨e, some c, none⟩ : DelWait)] }))
  ∧ (∀ (c : Cmd) (e addr : Nat) (s : State), (s.opened c.ring e).named c.ring e = true → exec (.nodeRead c e false addr) s = .next ((s.opened c.ring e).answer c 0x12 addr ((s.opened c.ring e).entryOctets e)))
  ∧ (∀ (c : Cmd) (e addr : Nat) (s : State), (s.opened c.ring e).named c.ring e = true → exec (.nodeRead c e true addr) s = .next ((s.opened c.ring e).answer c 0x12 addr ((s.opened c.ring e).entryOctets e ++ ((s.opened c.ring e).runtimePrivate e ++ (s.opened c.ring e).policyPrivate e))))
  ∧ (∀ (c : Cmd) (e mask short flags drift ap power meter addr : Nat) (w : State) (s : State), (s.opened c.ring e).standby = false → (s.opened c.ring e).named c.ring e = true → (¬ (1024 ≤ mask ∨ (bit mask 0 ∧ (short = 0xFFFF ∨ ((s.opened c.ring e).keyHeld true c.ring short).any (· != e))) ∨ (bit mask 1 ∧ 4 ≤ flags) ∨ (bit mask 2 ∧ 16 ≤ drift) ∨ (bit mask 3 ∧ 4 ≤ ap) ∨ (bit mask 5 ∧ bit meter 14) ∨ (bit mask 9 ∧ (s.opened c.ring e).get E.STATE e = stJoining))) → ((s.opened c.ring e).expH c.ring 0 && maskOwned mask) = false → (if bit mask 0 then (s.opened c.ring e).moveShort c.ring e short else some (s.opened c.ring e)) = some w → exec (.nodeUpdate c e mask short flags drift ap power meter addr) s = .next (((w.updateFields e mask flags drift ap power meter (if bit mask 7 then w.cmdData c addr 64 else []) (if bit mask 8 then w.cmdData c (addr + if bit mask 7 then 64 else 0) 256 else [])).writeEligs c.ring).finish c 0x13 0))
  ∧ (∀ (c : Cmd) (e : Nat) (s : State), (s.opened c.ring e).standby = false → (s.opened c.ring e).named c.ring e = true → (s.opened c.ring e).get E.PINNED e = 0 → (s.opened c.ring e).get THK_HEDGE.PINNED c.ring < min ((s.opened c.ring e).get THK_HEDGE.PIN_MAX c.ring) ((s.opened c.ring e).get THK_HEDGE.QUOTA c.ring) → exec (.nodePin c e) s = .next ((((s.opened c.ring e).wrE E.PINNED e 1).bump THK_HEDGE.PINNED c.ring).finish c 0x14 0))
  ∧ (∀ (c : Cmd) (e : Nat) (s : State), (s.opened c.ring e).standby = false → (s.opened c.ring e).named c.ring e = true → (s.opened c.ring e).get E.PINNED e = 0 → min ((s.opened c.ring e).get THK_HEDGE.PIN_MAX c.ring) ((s.opened c.ring e).get THK_HEDGE.QUOTA c.ring) ≤ (s.opened c.ring e).get THK_HEDGE.PINNED c.ring → exec (.nodePin c e) s = .next ((s.opened c.ring e).finish c 0x14 0x05))
  ∧ (∀ (c : Cmd) (e : Nat) (s : State), (s.opened c.ring e).standby = false → (s.opened c.ring e).named c.ring e = true → (s.opened c.ring e).get E.PINNED e ≠ 0 → exec (.nodePin c e) s = .next ((s.opened c.ring e).finish c 0x14 0))
  ∧ (∀ (c : Cmd) (e : Nat) (s : State), (s.opened c.ring e).standby = false → (s.opened c.ring e).named c.ring e = true → (s.opened c.ring e).get E.PINNED e ≠ 0 → exec (.nodeUnpin c e) s = .next ((((s.opened c.ring e).wrE E.PINNED e 0).drop THK_HEDGE.PINNED c.ring).finish c 0x15 0))
  ∧ (∀ (c : Cmd) (e : Nat) (s : State), (s.opened c.ring e).standby = false → (s.opened c.ring e).named c.ring e = true → exec (.nodeTouch c e) s = .next (((s.opened c.ring e).hit e).finish c 0x16 0))
  ∧ (∀ (c : Cmd) (e : Nat) (s : State), (s.opened c.ring e).standby = false → (s.opened c.ring e).named c.ring e = false → exec (.nodeTouch c e) s = .next ((s.opened c.ring e).finish c 0x16 0x04))
  ∧ (∀ (c : Cmd) (q start addr : Nat) (s : State), 1 ≤ q → q ≤ 4 → exec (.nodeList c q start addr) s = .next ((fun l : List Nat => s.answer c 0x17 addr (l.flatMap fun e => le 4 e) [(24, le 4 l.length), (28, le 4 (l.getLastD start))]) (((s.entriesOf c.ring).filter fun e => s.get E.STATE e == q && (start == 0xFFFFFFFF || start < e)).take 1024)))

/-- The gain control of a receive port: At the end of a window on a port that runs, after a clip in it is recorded (or, the port hearing, the branches of the lanes that receive on it are good again): under automatic gain and not frozen, a peak at the high threshold clears the quiet count, steps the gain down by one and counts the step while the index is under 7; a peak under the low threshold counts the window as quiet; one between clears the count. With automatic gain off the written index takes effect, also on a port that does not run; a frozen port keeps its gain. When the quiet count reaches UP_HOLD, in 4 windows each, the gain of a port that runs under automatic gain and is not frozen steps up by one, counted, and at index 0 only the count clears. Thresholds of one word at least 9 dB apart are taken and others refused with BAD_CFG; a CTL write sets enable, automatic gain and the manual index, starts the quiet count anew when either is switched on, and notes when the port is switched on; with both off and staying off it writes those fields alone. (Register writes are those that reach their register.). The rules it rests on: R91, R94. -/
def Obligations.GainControl : Prop :=
  (∀ (p : Nat) (peak : Int) (clip : Bool) (s : State), p < 4 → s.portOn p = true → ((if clip then s.clipWindow p else if !s.hears p then s else s.each (allLanes.filter fun l => s.on LANE.STATUS_RECEIVING l && s.laneOn l p) fun u l => u.branchOk l p true).get APRX.CTL_AGC_EN p ≠ 0) → s.get APRX.STATUS_FROZEN p = 0 → (16 * (if clip then s.clipWindow p else if !s.hears p then s else s.each (allLanes.filter fun l => s.on LANE.STATUS_RECEIVING l && s.laneOn l p) fun u l => u.branchOk l p true).getI APRX.AGC_THR_HIGH_THR p ≤ peak) → ((if clip then s.clipWindow p else if !s.hears p then s else s.each (allLanes.filter fun l => s.on LANE.STATUS_RECEIVING l && s.laneOn l p) fun u l => u.branchOk l p true).get APRX.STATUS_GAIN_IDX p < 7) → exec (.agcWindowEnd p peak clip) s = .next ((((if clip then s.clipWindow p else if !s.hears p then s else s.each (allLanes.filter fun l => s.on LANE.STATUS_RECEIVING l && s.laneOn l p) fun u l => u.branchOk l p true).clr RXX.QUIET p).gainStep p ((if clip then s.clipWindow p else if !s.hears p then s else s.each (allLanes.filter fun l => s.on LANE.STATUS_RECEIVING l && s.laneOn l p) fun u l => u.branchOk l p true).get APRX.STATUS_GAIN_IDX p + 1)).bump APRX.STEP_DN_CNT p))
  ∧ (∀ (p : Nat) (peak : Int) (clip : Bool) (s : State), p < 4 → s.portOn p = true → ((if clip then s.clipWindow p else if !s.hears p then s else s.each (allLanes.filter fun l => s.on LANE.STATUS_RECEIVING l && s.laneOn l p) fun u l => u.branchOk l p true).get APRX.CTL_AGC_EN p ≠ 0) → s.get APRX.STATUS_FROZEN p = 0 → (peak < 16 * (if clip then s.clipWindow p else if !s.hears p then s else s.each (allLanes.filter fun l => s.on LANE.STATUS_RECEIVING l && s.laneOn l p) fun u l => u.branchOk l p true).getI APRX.AGC_THR_HIGH_THR p) → (peak < 16 * (if clip then s.clipWindow p else if !s.hears p then s else s.each (allLanes.filter fun l => s.on LANE.STATUS_RECEIVING l && s.laneOn l p) fun u l => u.branchOk l p true).getI APRX.AGC_THR_LOW_THR p) → exec (.agcWindowEnd p peak clip) s = .next ((if clip then s.clipWindow p else if !s.hears p then s else s.each (allLanes.filter fun l => s.on LANE.STATUS_RECEIVING l && s.laneOn l p) fun u l => u.branchOk l p true).bump RXX.QUIET p))
  ∧ (∀ (p : Nat) (peak : Int) (clip : Bool) (s : State), p < 4 → s.portOn p = true → ((if clip then s.clipWindow p else if !s.hears p then s else s.each (allLanes.filter fun l => s.on LANE.STATUS_RECEIVING l && s.laneOn l p) fun u l => u.branchOk l p true).get APRX.CTL_AGC_EN p ≠ 0) → s.get APRX.STATUS_FROZEN p = 0 → (peak < 16 * (if clip then s.clipWindow p else if !s.hears p then s else s.each (allLanes.filter fun l => s.on LANE.STATUS_RECEIVING l && s.laneOn l p) fun u l => u.branchOk l p true).getI APRX.AGC_THR_HIGH_THR p) → (16 * (if clip then s.clipWindow p else if !s.hears p then s else s.each (allLanes.filter fun l => s.on LANE.STATUS_RECEIVING l && s.laneOn l p) fun u l => u.branchOk l p true).getI APRX.AGC_THR_LOW_THR p ≤ peak) → exec (.agcWindowEnd p peak clip) s = .next ((if clip then s.clipWindow p else if !s.hears p then s else s.each (allLanes.filter fun l => s.on LANE.STATUS_RECEIVING l && s.laneOn l p) fun u l => u.branchOk l p true).clr RXX.QUIET p))
  ∧ (∀ (p : Nat) (peak : Int) (clip : Bool) (s : State), p < 4 → s.portOn p = true → ((if clip then s.clipWindow p else if !s.hears p then s else s.each (allLanes.filter fun l => s.on LANE.STATUS_RECEIVING l && s.laneOn l p) fun u l => u.branchOk l p true).get APRX.CTL_AGC_EN p = 0) → exec (.agcWindowEnd p peak clip) s = .next ((if clip then s.clipWindow p else if !s.hears p then s else s.each (allLanes.filter fun l => s.on LANE.STATUS_RECEIVING l && s.laneOn l p) fun u l => u.branchOk l p true).gainStep p ((if clip then s.clipWindow p else if !s.hears p then s else s.each (allLanes.filter fun l => s.on LANE.STATUS_RECEIVING l && s.laneOn l p) fun u l => u.branchOk l p true).get APRX.CTL_MANUAL_GAIN p)))
  ∧ (∀ (p : Nat) (peak : Int) (clip : Bool) (s : State), p < 4 → s.portOn p = false → s.get APRX.CTL_AGC_EN p = 0 → exec (.agcWindowEnd p peak clip) s = .next (s.gainStep p (s.get APRX.CTL_MANUAL_GAIN p)))
  ∧ (∀ (p : Nat) (peak : Int) (clip : Bool) (s : State), p < 4 → s.portOn p = true → ((if clip then s.clipWindow p else if !s.hears p then s else s.each (allLanes.filter fun l => s.on LANE.STATUS_RECEIVING l && s.laneOn l p) fun u l => u.branchOk l p true).get APRX.CTL_AGC_EN p ≠ 0) → s.get APRX.STATUS_FROZEN p ≠ 0 → exec (.agcWindowEnd p peak clip) s = .next ((if clip then s.clipWindow p else if !s.hears p then s else s.each (allLanes.filter fun l => s.on LANE.STATUS_RECEIVING l && s.laneOn l p) fun u l => u.branchOk l p true)))
  ∧ (∀ (p : Nat) (s : State), p < 4 → s.portOn p = true → s.get APRX.CTL_AGC_EN p ≠ 0 → s.get APRX.STATUS_FROZEN p = 0 → 4 * s.get APRX.UP_HOLD p ≤ s.get RXX.QUIET p → 0 < s.get APRX.STATUS_GAIN_IDX p → exec (.agcUpHoldExpire p) s = .next (((s.clr RXX.QUIET p).gainStep p (s.get APRX.STATUS_GAIN_IDX p - 1)).bump APRX.STEP_UP_CNT p))
  ∧ (∀ (p : Nat) (s : State), p < 4 → s.portOn p = true → s.get APRX.CTL_AGC_EN p ≠ 0 → s.get APRX.STATUS_FROZEN p = 0 → 4 * s.get APRX.UP_HOLD p ≤ s.get RXX.QUIET p → s.get APRX.STATUS_GAIN_IDX p = 0 → exec (.agcUpHoldExpire p) s = .next (s.clr RXX.QUIET p))
  ∧ (∀ (r : Req) (p v : Nat) (s : State), s.reachWord r (APRX.AGC_THR_HIGH_THR.addr p) 4 = 0 → p < 4 → toInt 8 (bits v 8 8) + 9 ≤ toInt 8 v → exec (.agcThrWrite r p v) s = .next ((s.put APRX.AGC_THR_HIGH_THR p v).put APRX.AGC_THR_LOW_THR p (bits v 8 8)))
  ∧ (∀ (r : Req) (p v : Nat) (s : State), s.reachWord r (APRX.AGC_THR_HIGH_THR.addr p) 4 = 0 → p < 4 → toInt 8 v < toInt 8 (bits v 8 8) + 9 → exec (.agcThrWrite r p v) s = .next (s.set APRX.EVENT_BAD_CFG p))
  ∧ (∀ (r : Req) (p v : Nat) (s : State), s.reachWord r (APRX.CTL_EN.addr p) 4 = 0 → p < 4 → s.get APRX.CTL_EN p = 0 → v % 2 = 0 → bits v 1 1 = 0 → completes (.aprxCtlWrite r p v) s fun t => t.get APRX.CTL_EN p = 0 ∧ t.get APRX.CTL_AGC_EN p = 0 ∧ t.get APRX.CTL_MANUAL_GAIN p = bits v 4 3 ∧ sameBut s t [(APRX.CTL_EN, p), (APRX.CTL_AGC_EN, p), (APRX.CTL_MANUAL_GAIN, p)])
  ∧ (∀ (r : Req) (p v : Nat) (s : State), s.reachWord r (APRX.CTL_EN.addr p) 4 = 0 → p < 4 → exec (.aprxCtlWrite r p v) s = .next ((let start := (v.testBit 0 && !s.on APRX.CTL_EN p) || (v.testBit 1 && !s.on APRX.CTL_AGC_EN p); let a := s.putIf (v.testBit 0 && !s.on APRX.CTL_EN p) RXX.ON_AT p s.mp; let b := if v.testBit 0 != a.on APRX.CTL_EN p then a.loEnable p (v.testBit 0) else a; (((b.put APRX.CTL_EN p v).put APRX.CTL_AGC_EN p (bits v 1 1)).put APRX.CTL_MANUAL_GAIN p (bits v 4 3)).putIf start RXX.QUIET p 0)))

/-- Slices, down-converters and lane bindings: (Each write one that reaches its register.) The centre of a slice S0 to S3 that nothing enabled uses takes a value from 420,000 to 940,000 kHz and BIN0_FREQ follows, a running map starting anew; while it is used the write only sets BAD_CFG. The LO of AP2 or AP3 takes 2,422 to 2,462 MHz while its slice is neither enabled nor used, the synthesizer tuned and FC and BIN0_FREQ following. A DDC that no lane binds takes its control or its frequency, in range where it is or becomes enabled; a bound one sets BAD_CFG. A lane's configuration the checks accept takes effect at once while it does not receive, ends the frame where IMMEDIATE says so, and else waits for the frame's end; its modes likewise take effect at once or wait. A write of a slice's CTL sets both enables and starts the map when it begins to run. THR_B is written always, THR_A while the profile is unlocked; locked, another THR_A sets BAD_CFG. The rules it rests on: R95, R96, R97, R99, R100, R104, R117, R203. -/
def Obligations.SlicesAndLanes : Prop :=
  (∀ (r : Req) (n v : Nat) (s : State), s.reachWord r (SLICE.FC.addr n) 4 = 0 → n < 4 → 420000 ≤ v → v ≤ 940000 → s.sliceUsed n = false → exec (.sliceFcWrite r n v) s = .next ((let u := (s.put SLICE.FC n v).put SLICE.BIN0_FREQ n (v * 1000 - 20000000); if u.mapRuns n then { u with maps := u.maps.filter (·.slice != n) }.mapStart n else u)))
  ∧ (∀ (r : Req) (n v : Nat) (s : State), s.reachWord r (SLICE.FC.addr n) 4 = 0 → n < 4 → s.sliceUsed n = true → exec (.sliceFcWrite r n v) s = .next (s.set SLICE.EVENT_BAD_CFG n))
  ∧ (∀ (r : Req) (p v : Nat) (s : State), s.reachWord r (APRX.LO_MHZ.addr p) 4 = 0 → 2 ≤ p → p < 4 → 2422 ≤ v → v ≤ 2462 → s.get SLICE.CTL_EN (p + 2) = 0 → s.sliceUsed (p + 2) = false → exec (.loMhzWrite r p v) s = .next ((((s.put APRX.LO_MHZ p v).loTune p).put SLICE.FC (p + 2) (v * 1000)).put SLICE.BIN0_FREQ (p + 2) ((v - 40) * 1000000)))
  ∧ (∀ (r : Req) (d v : Nat) (s : State), s.reachWord r (DDC.CTL_EN.addr d + 0) 4 = 0 → d < 64 → s.get DDC.CTL_LANE d = 0xFF → bits v 1 3 < 6 → ¬ (v % 2 = 1 ∧ ¬ s.ddcOk (bits v 1 3) (s.get DDC.FREQ d)) → exec (.ddcWrite r d 0 v) s = .next (((s.put DDC.CTL_EN d (v % 2)).put DDC.CTL_SLICE d (bits v 1 3)).put DDC.FREQ d (s.get DDC.FREQ d)))
  ∧ (∀ (r : Req) (d v : Nat) (s : State), s.reachWord r (DDC.CTL_EN.addr d + 4) 4 = 0 → d < 64 → s.get DDC.CTL_LANE d = 0xFF → s.get DDC.CTL_SLICE d < 6 → ¬ (s.get DDC.CTL_EN d = 1 ∧ ¬ s.ddcOk (s.get DDC.CTL_SLICE d) (v % 2 ^ 32)) → exec (.ddcWrite r d 4 v) s = .next (((s.put DDC.CTL_EN d (s.get DDC.CTL_EN d)).put DDC.CTL_SLICE d (s.get DDC.CTL_SLICE d)).put DDC.FREQ d (v % 2 ^ 32)))
  ∧ (∀ (r : Req) (d off v : Nat) (s : State), s.reachWord r (DDC.CTL_EN.addr d + off) 4 = 0 → d < 64 → s.get DDC.CTL_LANE d ≠ 0xFF → exec (.ddcWrite r d off v) s = .next (s.set DDC.EVENT_BAD_CFG d))
  ∧ (∀ (r : Req) (l v : Nat) (s : State), s.reachWord r (LANE.CFG_EN.addr l) 4 = 0 → l < 48 → s.laneCfgOk l v = true → s.get LANE.STATUS_RECEIVING l = 0 → exec (.laneCfgWrite r l v) s = .next (s.laneCfgPut l v))
  ∧ (∀ (r : Req) (l v : Nat) (s : State), s.reachWord r (LANE.CFG_EN.addr l) 4 = 0 → l < 48 → s.laneCfgOk l v = true → s.get LANE.STATUS_RECEIVING l ≠ 0 → bit v 2 = true → exec (.laneCfgWrite r l v) s = .next (((((s.laneDrop l).bump LANE.ABORT_CNT l).clr LNX.PCFG_ON l).laneCfgPut l v).lanePending l))
  ∧ (∀ (r : Req) (l v : Nat) (s : State), s.reachWord r (LANE.CFG_EN.addr l) 4 = 0 → l < 48 → s.laneCfgOk l v = true → s.get LANE.STATUS_RECEIVING l ≠ 0 → bit v 2 = false → exec (.laneCfgWrite r l v) s = .next (((s.put LNX.PCFG l v).set LNX.PCFG_ON l).lanePendBit l))
  ∧ (∀ (r : Req) (l v : Nat) (s : State), s.reachWord r (LANE.MODES.addr l) 4 = 0 → l < 48 → s.modesOk l (v % 2 ^ 12) = true → s.get LANE.STATUS_RECEIVING l = 0 → exec (.laneModesWrite r l v) s = .next (s.put LANE.MODES l (v % 2 ^ 12)))
  ∧ (∀ (r : Req) (l v : Nat) (s : State), s.reachWord r (LANE.MODES.addr l) 4 = 0 → l < 48 → s.modesOk l (v % 2 ^ 12) = true → s.get LANE.STATUS_RECEIVING l ≠ 0 → exec (.laneModesWrite r l v) s = .next (((s.put LNX.PMODES l (v % 2 ^ 12)).set LNX.PMODES_ON l).lanePendBit l))
  ∧ (∀ (r : Req) (n v : Nat) (s : State), s.reachWord r (SLICE.CTL_EN.addr n) 4 = 0 → n < 6 → exec (.sliceCtlWrite r n v) s = .next ((let u := (s.put SLICE.CTL_EN n v).put SLICE.CTL_MAP_EN n (bits v 1 1); if u.mapRuns n && !s.mapRuns n then u.mapStart n else u)))
  ∧ (∀ (r : Req) (n v : Nat) (s : State), s.reachWord r (SLICE.THR_THR_A.addr n) 4 = 0 → n < 6 → s.get REGPROF.CTL_LOCK = 0 → exec (.sliceThrWrite r n v) s = .next ((s.put SLICE.THR_THR_B n (bits v 16 16)).put SLICE.THR_THR_A n v))
  ∧ (∀ (r : Req) (n v : Nat) (s : State), s.reachWord r (SLICE.THR_THR_A.addr n) 4 = 0 → n < 6 → s.get REGPROF.CTL_LOCK ≠ 0 → v % 2 ^ 16 ≠ s.get SLICE.THR_THR_A n → exec (.sliceThrWrite r n v) s = .next ((s.put SLICE.THR_THR_B n (bits v 16 16)).set SLICE.EVENT_BAD_CFG n))

/-- Energy map periods and the blanking of the part's own transmissions: At the end of a period past the map's last row, the slice's map running, HEAD holds the period just ended and the map keeps that period's row, computed from its levels, blanking and bins, before the older rows with those of skipped periods cleared; the byte memories do not change. A refresh rewrites every stamp more than 2^30 periods old to one 2^30 periods old and changes nothing else. At its time before the transmission the blanking of a frame on air is opened; when the frame is over, its open interval is closed at the present and the frozen ports are decided anew. The rules it rests on: R104, R106, R108. -/
def Obligations.MapsAndBlanking : Prop :=
  (∀ (n : Nat) (levels : List Int) (clip : Bool) (m : EnergyMap) (s : State), s.mapOf n = some m → s.mapRuns n = true → m.head < (s.period - 1) → completes (.mapPeriodEnd n levels clip) s fun t => t.get SLICE.HEAD n = (s.period - 1) % 2 ^ 32 ∧ t.mem = s.mem ∧ (t.maps.any fun x => x.slice == n && x.head == (s.period - 1) && x.rows == ((s.period - 1) % 256, (s.mapRow n (s.blanks.filter fun b => decide (b.lo < 128 * ((s.period - 1) + 1)) && (!b.closed || decide (128 * (s.period - 1) < b.hi))) (s.portOn (slicePort n) && decide (s.get RXX.ON_AT (slicePort n) ≤ 128 * (s.period - 1)) && !(m.n == 0 && (s.period - 1) == m.head + 1)) clip (s.get SLICE.BIN0_FREQ n) levels (binsOf n))) :: rowsWithout (m.head + 1) (s.period - 1) m.rows) = true)
  ∧ (∀ (n : Nat) (m : EnergyMap) (s : State), s.mapOf n = some m → exec (.mapStampRefresh n) s = .next (s.mapSet { m with busyA := m.busyA.map (fun x => if 2 ^ 30 < (s.period % 2 ^ 32 + 2 ^ 32 - x) % 2 ^ 32 then (s.period % 2 ^ 32 + 2 ^ 32 - 2 ^ 30) % 2 ^ 32 else x), busyB := m.busyB.map (fun x => if 2 ^ 30 < (s.period % 2 ^ 32 + 2 ^ 32 - x) % 2 ^ 32 then (s.period % 2 ^ 32 + 2 ^ 32 - 2 ^ 30) % 2 ^ 32 else x), blank := m.blank.map (fun x => if 2 ^ 30 < (s.period % 2 ^ 32 + 2 ^ 32 - x) % 2 ^ 32 then (s.period % 2 ^ 32 + 2 ^ 32 - 2 ^ 30) % 2 ^ 32 else x) }))
  ∧ (∀ (c : Nat) (x : OnAir) (s : State), (s.air.find? (fun x => x.chain == c && !x.ended && decide (s.blankFrom x ≤ s.mp)) = some x) → exec (.selfBlankStart c) s = .next (s.blankOpen x))
  ∧ (∀ (c : Nat) (s : State), (s.air.find? (fun x => x.chain == c && (!x.ended || decide (s.mp < x.until_))) = none) → (s.blanks.any (fun b => b.chain == c && !b.closed) = true) → exec (.selfBlankEnd c) s = .next (({ s with blanks := s.blanks.map fun (b : Blanking) => if b.chain == c && !b.closed then { b with hi := s.mp, closed := true } else b } : State).refreeze))

/-- A lane's frame from its sync to its hand-off: A sync over the threshold in a mode group the enabled, hearing lane has set starts a frame on a free lane and is counted in its group; within 8 µs of another group's, its header not yet in, a stronger one takes the frame over and the other group counts the loss, a weaker one is counted lost. A header the rules accept continues the frame with its mode, length, FEC, FCS and reference instant at the connector: SUN-FSK of the frame's group, SUN-OFDM with a good check, O-QPSK of 1 to 127 octets, XL-OFDM with a good CRC (keeping what the branches have received); a header with a Mode Switch or a length that is not supported ends the frame with UNSUP_CNT, a failed check with HDR_FAIL_CNT. The frame's last symbol records the report, PSDU and LQI of a frame not failed, drops a failed one, and hands on. When DUP_WIN has passed, every frame held that long goes on. A codeword's symbols join the frame's branches and the word queues for the pool, or, the pool full or out of service, is dropped; a free enabled decoder takes the oldest word, counted where decoding is degraded; at its completion, reported as computed, the word and its iterations are counted, a good word joins its frame, a bad one is counted and fails it. LDPC.CFG takes iteration limits of 1 to 32 and an ALPHA of 8 to 16, QUEUE levels only with LOW under HIGH; a DEC_EN write admits each decoder set and not out by a fault, and takes out each one cleared that runs no word. (Register writes are those that reach their register.). The rules it rests on: R119, R125, R132, R137, R139, R140, R141, R144, R148. -/
def Obligations.LaneFrames : Prop :=
  (∀ (l g metric : Nat) (s : State), l < 48 → g < 12 → s.get LANE.CFG_EN l ≠ 0 → bit (s.get LANE.MODES l) g = true → s.get DET.CFG_THR g < metric → s.laneHears l = true → s.frameOf l = none → exec (.syncDeclare l g metric) s = .next ((s.laneSync l g metric).bump DET.DET_CNT g))
  ∧ (∀ (l g metric : Nat) (f : LaneFrame) (s : State), l < 48 → g < 12 → s.get LANE.CFG_EN l ≠ 0 → bit (s.get LANE.MODES l) g = true → s.get DET.CFG_THR g < metric → s.laneHears l = true → s.frameOf l = some f → f.hdr = false → f.group ≠ g → (s.mp - f.sync) * 10 ^ 6 ≤ 8 * 2 ^ 24 → (f.metric < metric ∨ (f.metric = metric ∧ g < f.group)) → exec (.syncDeclare l g metric) s = .next (((s.bump DET.DET_CNT g).inFlight (fun x => x.uid == f.uid) fun x => { x with group := g, metric := metric }).bump DET.LOST_CNT f.group))
  ∧ (∀ (l g metric : Nat) (f : LaneFrame) (s : State), l < 48 → g < 12 → s.get LANE.CFG_EN l ≠ 0 → bit (s.get LANE.MODES l) g = true → s.get DET.CFG_THR g < metric → s.laneHears l = true → s.frameOf l = some f → f.hdr = false → f.group ≠ g → (s.mp - f.sync) * 10 ^ 6 ≤ 8 * 2 ^ 24 → (¬ (f.metric < metric ∨ (f.metric = metric ∧ g < f.group))) → exec (.syncDeclare l g metric) s = .next ((s.bump DET.DET_CNT g).bump DET.LOST_CNT g))
  ∧ (∀ (l mode len age : Nat) (fec fcs2 : Bool) (f : LaneFrame) (s : State), s.frameOf l = some f → f.hdr = false → famOf mode = some .fsk → groupOf mode = f.group → len % 2048 ≠ 0 → exec (.laneHeaderEnd l (.fsk mode false fec fcs2 len) age) s = .next (s.laneHeader f mode (len % 2048) fec false (if fcs2 then 2 else 4) 0 (s.connectorPhase (s.ddcPort (s.get LANE.CFG_DDC_A l)) age)))
  ∧ (∀ (l mode len age : Nat) (fec fcs2 : Bool) (f : LaneFrame) (s : State), s.frameOf l = some f → f.hdr = false → famOf mode = some .fsk → groupOf mode = f.group → exec (.laneHeaderEnd l (.fsk mode true fec fcs2 len) age) s = .next (s.laneGiveUp l LANE_RX.UNSUP_CNT))
  ∧ (∀ (l mcs len age : Nat) (f : LaneFrame) (s : State), s.frameOf l = some f → f.hdr = false → 5 ≤ f.group → f.group < 9 → mcs < 8 → (famOf (0x20 + 8 * (f.group - 5) + mcs)).isSome = true → len % 2048 ≠ 0 → exec (.laneHeaderEnd l (.ofdm mcs len true) age) s = .next (s.laneHeader f (0x20 + 8 * (f.group - 5) + mcs) (len % 2048) false false 4 0 (s.connectorPhase (s.ddcPort (s.get LANE.CFG_DDC_A l)) age)))
  ∧ (∀ (l mcs len age : Nat) (f : LaneFrame) (s : State), s.frameOf l = some f → f.hdr = false → 5 ≤ f.group → f.group < 9 → exec (.laneHeaderEnd l (.ofdm mcs len false) age) s = .next ((s.bump DET.HDR_FAIL_CNT f.group).laneGiveUp l LANE_RX.HDR_FAIL_CNT))
  ∧ (∀ (l len age : Nat) (f : LaneFrame) (s : State), s.frameOf l = some f → f.hdr = false → f.group = 9 → 0 < len → len ≤ 127 → exec (.laneHeaderEnd l (.oqpsk len) age) s = .next (s.laneHeader f 0x40 len false false 2 0 (s.connectorPhase (s.ddcPort (s.get LANE.CFG_DDC_A l)) age)))
  ∧ (∀ (l len age : Nat) (f : LaneFrame) (s : State), s.frameOf l = some f → f.hdr = false → f.group = 9 → (len = 0 ∨ 127 < len) → exec (.laneHeaderEnd l (.oqpsk len) age) s = .next (s.laneGiveUp l LANE_RX.UNSUP_CNT))
  ∧ (∀ (l w age : Nat) (air : List RxBranch) (f : LaneFrame) (s : State), s.frameOf l = some f → f.hdr = false → 10 ≤ f.group → xlCrcOk w = true → xlUnsup w = false → exec (.laneHeaderEnd l (.xl w air) age) s = .next ((s.inFlight (fun y => y.uid == f.uid) fun y => { y with air := air.take 2 }).laneHeader f (0x50 + 16 * (f.group - 10) + (xlHeader w).mcs) (xlHeader w).len false (xlHeader w).long 4 (xlHeader w).seed (s.connectorPhase (s.ddcPort (s.get LANE.CFG_DDC_A l)) age)))
  ∧ (∀ (l w age : Nat) (air : List RxBranch) (f : LaneFrame) (s : State), s.frameOf l = some f → f.hdr = false → 10 ≤ f.group → xlCrcOk w = false → exec (.laneHeaderEnd l (.xl w air) age) s = .next ((s.bump DET.HDR_FAIL_CNT f.group).laneGiveUp l LANE_RX.HDR_FAIL_CNT))
  ∧ (∀ (l : Nat) (m : LaneMeasure) (f : LaneFrame) (s : State), s.frameOf l = some f → f.hdr = true → f.failed = true → exec (.laneFrameEnd l m) s = .next ((((s.laneDrop l).laneIdle l).handOff l).lanePending l))
  ∧ (∀ (l : Nat) (m : LaneMeasure) (f : LaneFrame) (s : State), s.frameOf l = some f → f.hdr = true → f.failed = false → exec (.laneFrameEnd l m) s = .next ((((s.inFlight (fun x => x.uid == f.uid) fun x => { x with ended := true, report := (s.report f m).1, psdu := (m.psdu.map (· % 256)).take f.len, lqi := (s.report f m).2 }).laneIdle l).handOff l).lanePending l))
  ∧ (∀ (s : State), exec (.dupWinExpire) s = .next ((let due := s.heard.filter fun x => !x.out && ticksGeUs (s.mp - x.at_) (s.get DEMOD.CTL_DUP_WIN); ({ s with heard := s.heard.map fun (x : Heard) => if due.contains x then { x with out := true } else x } : State).each due State.heardOut)))
  ∧ (∀ (x : CwIn) (f : LaneFrame) (s : State), s.submitting x.lane = some f → (({ s with frames := s.frames.map fun (y : LaneFrame) => if y.uid == f.uid then { y with sub := y.sub + 1, air := (f.air.mapIdx fun i b => { b with syms := b.syms ++ x.rx.getD i [] }) } else y } : State).poolLevel < 256) → (({ s with frames := s.frames.map fun (y : LaneFrame) => if y.uid == f.uid then { y with sub := y.sub + 1, air := (f.air.mapIdx fun i b => { b with syms := b.syms ++ x.rx.getD i [] }) } else y } : State).get LDPC.STATUS_IN_SERVICE ≠ 0) → exec (.ldpcCwSubmit x) s = .next (({ ({ s with frames := s.frames.map fun (y : LaneFrame) => if y.uid == f.uid then { y with sub := y.sub + 1, air := (f.air.mapIdx fun i b => { b with syms := b.syms ++ x.rx.getD i [] }) } else y } : State) with words := cwQueue ⟨x.lane, f.uid, f.sub, 4, false, ({ s with frames := s.frames.map fun (y : LaneFrame) => if y.uid == f.uid then { y with sub := y.sub + 1, air := (f.air.mapIdx fun i b => { b with syms := b.syms ++ x.rx.getD i [] }) } else y } : State).cycle, cwSoft (0x60 ≤ f.mode) (mcsOf f.mode) f.len f.long (f.air.mapIdx fun i b => { b with syms := b.syms ++ x.rx.getD i [] }) f.sub, mcsOf f.mode, f.long⟩ ({ s with frames := s.frames.map fun (y : LaneFrame) => if y.uid == f.uid then { y with sub := y.sub + 1, air := (f.air.mapIdx fun i b => { b with syms := b.syms ++ x.rx.getD i [] }) } else y } : State).words } : State).poolSync))
  ∧ (∀ (x : CwIn) (f : LaneFrame) (s : State), s.submitting x.lane = some f → (256 ≤ ({ s with frames := s.frames.map fun (y : LaneFrame) => if y.uid == f.uid then { y with sub := y.sub + 1, air := (f.air.mapIdx fun i b => { b with syms := b.syms ++ x.rx.getD i [] }) } else y } : State).poolLevel ∨ ({ s with frames := s.frames.map fun (y : LaneFrame) => if y.uid == f.uid then { y with sub := y.sub + 1, air := (f.air.mapIdx fun i b => { b with syms := b.syms ++ x.rx.getD i [] }) } else y } : State).get LDPC.STATUS_IN_SERVICE = 0) → exec (.ldpcCwSubmit x) s = .next (({ s with frames := s.frames.map fun (y : LaneFrame) => if y.uid == f.uid then { y with sub := y.sub + 1, air := (f.air.mapIdx fun i b => { b with syms := b.syms ++ x.rx.getD i [] }) } else y } : State).cwDrop f.uid))
  ∧ (∀ (k : Nat) (w : CodeWord) (s : State), k < 4 → bit (s.get LDPC.STATUS_IN_SERVICE) k = true → bit (s.get LDPC.DEC_EN) k = true → s.words.any (·.run == k) = false → s.words.find? (·.run == 4) = some w → exec (.ldpcDecodeStart k) s = .next ((({ s with words := s.words.map fun (x : CodeWord) => if x = w then { x with run := k, deg := s.on LDPC.STATUS_DEGRADED } else x } : State).when (s.on LDPC.STATUS_DEGRADED) (·.bump LDPC.DEG_CNT)).poolSync))
  ∧ (∀ (k : Nat) (w : CodeWord) (s : State), (s.words.find? (fun w => w.run == k && k < 4) = some w) → exec (.ldpcDecodeDone k (s.decoded w).1 (s.decoded w).2.1) s = .next ((let d := s.decoded w; let u := { s with words := s.words.filter (· != w) }; let x := ((u.bump LDPC.CW_CNT).bump LDPC.ITER_SUM 0 d.1).when (!d.2.2) (·.bump LDPC.FAIL_CNT); let y := if d.2.2 then x.wordIn w d.1 d.2.1 else x.frameFail w.frame; if bit (y.get LDPC.DEC_EN) k then y else y.decLeave k)))
  ∧ (∀ (r : Req) (v : Nat) (s : State), s.reachWord r (LDPC.CFG_MAX_ITER.addr 0 + 0) 4 = 0 → 1 ≤ bits v 0 6 → bits v 0 6 ≤ 32 → 1 ≤ bits v 8 6 → bits v 8 6 ≤ 32 → 8 ≤ bits v 16 4 → bits v 16 4 ≤ 16 → exec (.ldpcCfgWrite r 0 v) s = .next (((s.put LDPC.CFG_MAX_ITER 0 v).put LDPC.CFG_DEG_ITER 0 (bits v 8 6)).put LDPC.CFG_ALPHA 0 (bits v 16 4)))
  ∧ (∀ (r : Req) (v : Nat) (s : State), s.reachWord r (LDPC.CFG_MAX_ITER.addr 0 + 4) 4 = 0 → bits v 0 9 ≤ bits v 16 9 → exec (.ldpcCfgWrite r 4 v) s = .next (s.set LDPC.EVENT_BAD_CFG))
  ∧ (∀ (r : Req) (v : Nat) (s : State), s.reachWord r (LDPC.CFG_MAX_ITER.addr 0 + 4) 4 = 0 → bits v 16 9 < bits v 0 9 → exec (.ldpcCfgWrite r 4 v) s = .next (((s.put LDPC.QUEUE_HIGH 0 v).put LDPC.QUEUE_LOW 0 (bits v 16 9)).poolSync))
  ∧ (∀ (r : Req) (v : Nat) (s : State), s.reachWord r (LDPC.DEC_EN.addr 0) 4 = 0 → exec (.ldpcDecEnWrite r v) s = .next ((s.put LDPC.DEC_EN 0 v).each [0, 1, 2, 3] fun u k => if bit v k then (if bit (u.get LDX.OUT) k then u else u.put LDPC.STATUS_IN_SERVICE 0 (Nat.lor (u.get LDPC.STATUS_IN_SERVICE) (2 ^ k))) else if u.words.any (·.run == k) then u else u.decLeave k))

/-- Phase triggers are armed, checked, fired and owned: A low-word write of CMP that reaches it fires the trigger on its old value where that is due, sets the compare value and arms while CTL.EN is 1; a CTL write disarms with EN 0, drops the checks a changed action or target has outlived, sets enable, action and target, and the owner only from the privileged view. From 13 µs before its compare value an armed TX_START of PT0 to PT15, not yet checked, passes its readiness check while its chain is ready, the port granted and the trigger cleared; otherwise it sets NOT_READY, a missing grant being counted, and is disarmed and its acknowledgement dropped. A cycle acts on the triggers due as the model's one firing operation has it; where exactly one is due after the chains have begun their transitions and it may act, it acts, sets FIRED, counts, and goes on to its period. A pulse ends at its end and clears the pin it was begun on, unless another trigger's pulse holds that pin. PT_ALLOC gives the lowest free of PT24 to PT63 under PT_MAX; PT_FREE disarms, clears and returns a trigger of the asking Hedge; one of another is ACCESS_DENIED, a number of 64 or more BAD_DESCRIPTOR. An armed TX_START on a governed port asserts the coexistence request when its lead has come. The rules it rests on: R34, R35, R36, R40, R191, R207. -/
def Obligations.Triggers : Prop :=
  (∀ (r : Req) (n v : Nat) (s : State), s.reachWord r (PT.CMP.addr n) 4 = 0 → n < 64 → exec (.ptCmpLowWrite r n v) s = .next ((let u := s.when (s.ptDue n) State.ptFire; let w := u.put PT.CMP n (u.join64 r (0x401000 + 0x20 * n) v); if w.on PT.CTL_EN n then w.arm n else w)))
  ∧ (∀ (r : Req) (n v : Nat) (s : State), s.reachWord r (PT.CTL_EN.addr n) 4 = 0 → n < 64 → exec (.ptCtlWrite r n v) s = .next ((let u := if v % 2 = 0 then s.disarm n else if bits v 4 3 ≠ s.get PT.CTL_ACTION n ∨ bits v 16 9 ≠ s.get PT.CTL_TARGET n then s.unclear n else s; (((u.put PT.CTL_EN n v).put PT.CTL_ACTION n (bits v 4 3)).put PT.CTL_TARGET n (bits v 16 9)).putIf (viewOf r == 0) PT.CTL_OWNER n (bits v 28 4))))
  ∧ (∀ (n : Nat) (gnt : Bool) (s : State), n < 16 → s.get PT.STATUS_ARMED n ≠ 0 → s.get PT.CTL_ACTION n = 1 → ticksGeUs (s.get PT.CMP n - s.mp) 13 = false → s.get PTX.RDY n = 0 → ((s.put COEX.STATUS_GNT 0 (if gnt != s.on COEX.CFG_GNT_POL then 1 else 0)).radioReady (s.get PT.CTL_TARGET n) && (s.put COEX.STATUS_GNT 0 (if gnt != s.on COEX.CFG_GNT_POL then 1 else 0)).granted (s.get TXC.CTL_PORT (s.get PT.CTL_TARGET n)) && (s.put COEX.STATUS_GNT 0 (if gnt != s.on COEX.CFG_GNT_POL then 1 else 0)).on PTX.CLEARED n) = true → exec (.ptReadinessCheck n gnt) s = .next ((s.put COEX.STATUS_GNT 0 (if gnt != s.on COEX.CFG_GNT_POL then 1 else 0)).set PTX.RDY n))
  ∧ (∀ (n : Nat) (gnt : Bool) (s : State), n < 16 → s.get PT.STATUS_ARMED n ≠ 0 → s.get PT.CTL_ACTION n = 1 → ticksGeUs (s.get PT.CMP n - s.mp) 13 = false → s.get PTX.RDY n = 0 → ((s.put COEX.STATUS_GNT 0 (if gnt != s.on COEX.CFG_GNT_POL then 1 else 0)).radioReady (s.get PT.CTL_TARGET n) && (s.put COEX.STATUS_GNT 0 (if gnt != s.on COEX.CFG_GNT_POL then 1 else 0)).granted (s.get TXC.CTL_PORT (s.get PT.CTL_TARGET n)) && (s.put COEX.STATUS_GNT 0 (if gnt != s.on COEX.CFG_GNT_POL then 1 else 0)).on PTX.CLEARED n) = false → exec (.ptReadinessCheck n gnt) s = .next (((((s.put COEX.STATUS_GNT 0 (if gnt != s.on COEX.CFG_GNT_POL then 1 else 0)).when (!(s.put COEX.STATUS_GNT 0 (if gnt != s.on COEX.CFG_GNT_POL then 1 else 0)).granted (s.get TXC.CTL_PORT (s.get PT.CTL_TARGET n))) fun w => (w.bump COEX.DENY_CNT).set PTX.DENIED n).set PT.STATUS_NOT_READY n).disarm n).ackDrop n))
  ∧ (∀ (s : State), exec (.ptFire) s = .next (s.ptFire))
  ∧ (∀ (n : Nat) (s : State), ((List.range 64).filter (s.coexDue.each (List.range 16) State.ptGo).ptDue) = [n] → (s.coexDue.each (List.range 16) State.ptGo).ptActs n = true → exec (.ptFire) s = .next (((((s.coexDue.each (List.range 16) State.ptGo).ptAct n).set PT.STATUS_FIRED n).bump PT.FIRE_CNT n).ptNext n))
  ∧ (∀ (n : Nat) (s : State), s.get PTX.END n ≠ 0 → s.get PTX.END n ≤ s.mp → ((List.range 64).any (fun m => m != n && s.get PTX.PIN m == s.get PTX.PIN n && decide (s.mp < s.get PTX.END m)) = false) → exec (.ptPulseEnd n) s = .next ((s.clr PTX.END n).clr (timePin (s.get PTX.PIN n)).1 (timePin (s.get PTX.PIN n)).2))
  ∧ (∀ (n : Nat) (s : State), s.get PTX.END n ≠ 0 → s.get PTX.END n ≤ s.mp → ((List.range 64).any (fun m => m != n && s.get PTX.PIN m == s.get PTX.PIN n && decide (s.mp < s.get PTX.END m)) = true) → exec (.ptPulseEnd n) s = .next (s.clr PTX.END n))
  ∧ (∀ (c : Cmd) (n : Nat) (s : State), s.expG 2 = false → (((List.range 64).filter fun n => s.get PT.CTL_OWNER n == c.ring).length < s.get HOSTH.PT_MAX c.ring) → ((((List.range 40).map (· + 24)).find? fun n => s.get PT.CTL_OWNER n == 0xF) = some n) → exec (.ptAlloc c) s = .next ((s.put PT.CTL_OWNER n c.ring).complete c 0x4D 0 0 0 [(24, [n])]))
  ∧ (∀ (c : Cmd) (n : Nat) (s : State), n < 64 → s.get PT.CTL_OWNER n = c.ring → s.expH c.ring 5 = false → exec (.ptFree c n) s = .next ((((s.disarm n).ptClear n).put PT.CTL_OWNER n 0xF).finish c 0x4E 0))
  ∧ (∀ (c : Cmd) (n : Nat) (s : State), n < 64 → s.get PT.CTL_OWNER n ≠ c.ring → exec (.ptFree c n) s = .next (s.finish c 0x4E 0x13))
  ∧ (∀ (c : Cmd) (n : Nat) (s : State), 64 ≤ n → exec (.ptFree c n) s = .next (s.finish c 0x4E 0x12))
  ∧ (∀ (n : Nat) (s : State), n < 16 → s.get PT.STATUS_ARMED n ≠ 0 → s.get PT.CTL_ACTION n = 1 → s.governed (s.get TXC.CTL_PORT (s.get PT.CTL_TARGET n)) = true → ticksGeUs (s.get PT.CMP n - s.mp) (s.get COEX.LEAD + 1) = false → exec (.coexReqAssert n) s = .next (s.coexAssert (s.get PT.CTL_TARGET n)))

/-- A transmit chain from OFF to TX and back: (Register writes are those that reach their register.) A CTL write that would move an enabled or active chain's port, or give a chain a port another has, only sets BAD_CFG; any other takes the port, AUTO_READY and RETURN and sets or clears the host's mute, then enables the chain, disables it (ending its frame with FAULT from TX, else stopping it), or, with neither, tunes the head request while AUTO_READY is set. A chain enabled is in STANDBY when its move ends, and a pending command then applies. GO_READY with a request tunes for it, without one sets BAD_CFG, and waits during a transition or in TX; GO_STANDBY goes back, or waits so. CAL_FLUSH counts the flush and shows what calibration the head then needs. The head request is checked and tuned as the model's head operation has it. A tuning's end stores a full calibration, makes the chain READY with its lock shown and the carrier kept as its previous one, and applies a pending command; the receive synthesizers show lock when their calibration ends. READY to TX ends in TX: the start noted, the frame counted, the tuner's trial made and the head request sent. From 16 to 48 µs at the ball of a closed-loop frame not frozen the driver moves by half the error within its limits. The last sample ends the frame and keeps its power, and its return loss where both detectors serve; TX to READY completes. The rules it rests on: R156, R162, R163, R170, R171, R172, R174, R178, R180. -/
def Obligations.ChainStates : Prop :=
  (∀ (r : Req) (c v : Nat) (s : State), s.reachWord r (TXC.CTL_EN.addr c) 4 = 0 → c < 4 → (((bits v 1 2 != s.get TXC.CTL_PORT c && (s.get TXC.STATUS_STATE c != chOff || s.on TXC.CTL_EN c)) || ((bits v 1 2 != s.get TXC.CTL_PORT c || (v % 2 == 1 && !s.on TXC.CTL_EN c)) && s.portTaken c (bits v 1 2))) : Bool) = true → exec (.txcCtlWrite r c v) s = .next (s.set TXC.EVENT_BAD_CFG c))
  ∧ (∀ (r : Req) (c v : Nat) (s : State), s.reachWord r (TXC.CTL_EN.addr c) 4 = 0 → c < 4 → (((bits v 1 2 != s.get TXC.CTL_PORT c && (s.get TXC.STATUS_STATE c != chOff || s.on TXC.CTL_EN c)) || ((bits v 1 2 != s.get TXC.CTL_PORT c || (v % 2 == 1 && !s.on TXC.CTL_EN c)) && s.portTaken c (bits v 1 2))) : Bool) = false → v % 2 = 1 → s.get TXC.CTL_EN c = 0 → exec (.txcCtlWrite r c v) s = .next ((((let a := ((s.put TXC.CTL_PORT c (bits v 1 2)).put TXC.CTL_AUTO_READY c (bits v 3 1)).put TXC.CTL_RETURN c (bits v 4 1); if bits v 5 1 = a.get TXC.CTL_HOST_MUTE c then a else if bits v 5 1 = 1 then (a.set TXC.CTL_HOST_MUTE c).muteSet c (2 ^ 7) else (a.clr TXC.CTL_HOST_MUTE c).muteClr c (2 ^ 7)).set TXC.CTL_EN c).chainOn c).refreshAll))
  ∧ (∀ (r : Req) (c v : Nat) (s : State), s.reachWord r (TXC.CTL_EN.addr c) 4 = 0 → c < 4 → (((bits v 1 2 != s.get TXC.CTL_PORT c && (s.get TXC.STATUS_STATE c != chOff || s.on TXC.CTL_EN c)) || ((bits v 1 2 != s.get TXC.CTL_PORT c || (v % 2 == 1 && !s.on TXC.CTL_EN c)) && s.portTaken c (bits v 1 2))) : Bool) = false → v % 2 = 0 → s.get TXC.CTL_EN c ≠ 0 → exec (.txcCtlWrite r c v) s = .next ((let w := (let a := ((s.put TXC.CTL_PORT c (bits v 1 2)).put TXC.CTL_AUTO_READY c (bits v 3 1)).put TXC.CTL_RETURN c (bits v 4 1); if bits v 5 1 = a.get TXC.CTL_HOST_MUTE c then a else if bits v 5 1 = 1 then (a.set TXC.CTL_HOST_MUTE c).muteSet c (2 ^ 7) else (a.clr TXC.CTL_HOST_MUTE c).muteClr c (2 ^ 7)).clr TXC.CTL_EN c; if w.get TXC.STATUS_STATE c = chTx then (w.txEnd c 0x14 true).set CHN.NEXT_OFF c else w.chainStop c chOff)))
  ∧ (∀ (r : Req) (c v : Nat) (s : State), s.reachWord r (TXC.CTL_EN.addr c) 4 = 0 → c < 4 → (((bits v 1 2 != s.get TXC.CTL_PORT c && (s.get TXC.STATUS_STATE c != chOff || s.on TXC.CTL_EN c)) || ((bits v 1 2 != s.get TXC.CTL_PORT c || (v % 2 == 1 && !s.on TXC.CTL_EN c)) && s.portTaken c (bits v 1 2))) : Bool) = false → (v % 2 = 1 ↔ s.get TXC.CTL_EN c ≠ 0) → exec (.txcCtlWrite r c v) s = .next (if (let a := ((s.put TXC.CTL_PORT c (bits v 1 2)).put TXC.CTL_AUTO_READY c (bits v 3 1)).put TXC.CTL_RETURN c (bits v 4 1); if bits v 5 1 = a.get TXC.CTL_HOST_MUTE c then a else if bits v 5 1 = 1 then (a.set TXC.CTL_HOST_MUTE c).muteSet c (2 ^ 7) else (a.clr TXC.CTL_HOST_MUTE c).muteClr c (2 ^ 7)).on TXC.CTL_AUTO_READY c then (let a := ((s.put TXC.CTL_PORT c (bits v 1 2)).put TXC.CTL_AUTO_READY c (bits v 3 1)).put TXC.CTL_RETURN c (bits v 4 1); if bits v 5 1 = a.get TXC.CTL_HOST_MUTE c then a else if bits v 5 1 = 1 then (a.set TXC.CTL_HOST_MUTE c).muteSet c (2 ^ 7) else (a.clr TXC.CTL_HOST_MUTE c).muteClr c (2 ^ 7)).tuneHead c else (let a := ((s.put TXC.CTL_PORT c (bits v 1 2)).put TXC.CTL_AUTO_READY c (bits v 3 1)).put TXC.CTL_RETURN c (bits v 4 1); if bits v 5 1 = a.get TXC.CTL_HOST_MUTE c then a else if bits v 5 1 = 1 then (a.set TXC.CTL_HOST_MUTE c).muteSet c (2 ^ 7) else (a.clr TXC.CTL_HOST_MUTE c).muteClr c (2 ^ 7))))
  ∧ (∀ (c : Nat) (s : State), s.get CHN.TRANS c = 1 → exec (.chainEnableDone c) s = .next ((((s.clr CHN.TRANS c).clr TXC.STATUS_TRANS c).put TXC.STATUS_STATE c chStandby).applyPending c fun s => s))
  ∧ (∀ (r : Req) (c : Nat) (s : State), s.reachWord r (TXC.CMD_GO_READY.addr c) 4 = 0 → s.standby = false → s.reqs c ≠ [] → s.get CHN.TRANS c = 0 → s.get TXC.STATUS_STATE c ≠ chTx → exec (.goReady r c) s = .next (s.goReady c))
  ∧ (∀ (r : Req) (c : Nat) (s : State), s.reachWord r (TXC.CMD_GO_READY.addr c) 4 = 0 → s.standby = false → s.reqs c ≠ [] → (s.get CHN.TRANS c ≠ 0 ∨ s.get TXC.STATUS_STATE c = chTx) → exec (.goReady r c) s = .next ((s.put CHN.PEND c 1).set TXC.STATUS_PENDING c))
  ∧ (∀ (r : Req) (c : Nat) (s : State), s.reachWord r (TXC.CMD_GO_READY.addr c) 4 = 0 → s.standby = false → s.reqs c = [] → exec (.goReady r c) s = .next (s.set TXC.EVENT_BAD_CFG c))
  ∧ (∀ (r : Req) (c : Nat) (s : State), s.reachWord r (TXC.CMD_GO_STANDBY.addr c) 4 = 0 → s.get CHN.TRANS c = 0 → s.get TXC.STATUS_STATE c ≠ chTx → exec (.goStandby r c) s = .next (s.toStandby c))
  ∧ (∀ (r : Req) (c : Nat) (s : State), s.reachWord r (TXC.CMD_GO_STANDBY.addr c) 4 = 0 → (s.get CHN.TRANS c ≠ 0 ∨ s.get TXC.STATUS_STATE c = chTx) → exec (.goStandby r c) s = .next ((s.put CHN.PEND c 2).set TXC.STATUS_PENDING c))
  ∧ (∀ (r : Req) (c : Nat) (s : State), s.reachWord r (TXC.CMD_CAL_FLUSH.addr c) 4 = 0 → exec (.calFlush r c) s = .next ((s.bump CALT.FLUSH c).calNext c))
  ∧ (∀ (c : Nat) (s : State), exec (.txRequestHead c) s = .next (s.headIn c))
  ∧ (∀ (c : Nat) (q : TxReq) (s : State), s.headReq c = some q → s.get CHN.CHECKED c = 0 → s.get TXC.STATUS_STATE c = chStandby → s.get CHN.TRANS c = 0 → exec (.txRequestHead c) s = .next ((let u := (s.checkHead c q).calNext c; if u.on CHN.CHECKED c && u.on TXC.CTL_AUTO_READY c then u.tuneHead c else u)))
  ∧ (∀ (c : Nat) (s : State), c ≠ 4 → c ≠ 5 → s.get CHN.TRANS c = 2 → exec (.synthTuneDone c) s = .next ((let f := s.get CHN.FREQ c; let u := if s.get CHN.CAL c = 2 then s.calibrated c (1024 * c + segOf f) else s; let w := ((u.clr CHN.TRANS c).clr TXC.STATUS_TRANS c).put TXC.STATUS_STATE c chReady; ((((w.set SY.STATUS_LOCK c).clr SY.STATUS_CAL_RUNNING c).put CHN.PREV c f).applyPending c fun s => s).calNext c)))
  ∧ (∀ (c : Nat) (s : State), (c = 4 ∨ c = 5) → s.get SY.STATUS_CAL_RUNNING c ≠ 0 → exec (.synthTuneDone c) s = .next ((s.clr SY.STATUS_CAL_RUNNING c).set SY.STATUS_LOCK c))
  ∧ (∀ (c : Nat) (s : State), s.get CHN.TRANS c = 3 → exec (.txStateEnter c) s = .next ((let u := ((s.clr CHN.TRANS c).clr TXC.STATUS_TRANS c).put TXC.STATUS_STATE c chTx; let w := ((u.put CHN.START c (u.get CHN.FIRED_C c)).bump TXC.TX_CNT c).clr CHN.STATUS c; let x := ((w.clr CHN.FROZEN c).portLines (w.get TXC.CTL_PORT c)).tunerStep (w.get TXC.CTL_PORT c); match x.headReq c with | some q => x.txSend c q | none => x)))
  ∧ (∀ (c : Nat) (m : Int) (s : State), s.get TXC.STATUS_STATE c = chTx → s.get CHN.TRANS c = 0 → bit (s.get CHN.RFLAGS c) 5 = false → s.ballPast c 16 = true → s.ballPast c 48 = false → s.get CHN.FROZEN c = 0 → exec (.powerLoopStep c m) s = .next (s.putI CHN.SETP c (clampI (-120) (if s.get TXC.CTL_PORT c < 2 then 40 else 24) (clampI (s.getI CHN.SET0 c - 24) (s.getI CHN.SET0 c + 24) (s.getI CHN.SETP c + (s.getI CHN.TARGET c - m) / 2)))))
  ∧ (∀ (c rl : Nat) (w : Int) (s : State), s.get TXC.STATUS_STATE c = chTx → s.get CHN.TRANS c ≠ 4 → exec (.txLastSample c rl w) s = .next ((let p := s.get TXC.CTL_PORT c; let u := ((s.txEnd c 0 false).putI CHN.PWR c w).putI TXPORT.LAST_PWR p w; if u.vswr p then (u.put CHN.RL c rl).rlClassify c rl else u)))
  ∧ (∀ (c : Nat) (s : State), s.get CHN.TRANS c = 4 → exec (.txToReadyDone c) s = .next (s.txToReady c))

/-- The guards that end or mute a transmission, and coexistence: Loss of a locked transmit synthesizer clears the lock, counts it, marks its calibration lost, raises its fault and, in TX, ends the frame with FAULT, else takes the chain to STANDBY. At the loop's end, 48 µs at the ball, the frame is frozen and a closed loop's correction kept; a power over the limit then ends the frame, raises the fault and mutes the chain. In TX a forward power more than 10 dB under the target, its detector serving, and a return loss under RL_OPEN, both detectors serving, are aerial faults. A read-back mismatch of a port's lines is recorded with its source and faults and mutes each chain bound to the port; one of the coexistence pins, a TIME_IO pin, PPS_OUT or PWRON_CTL sets its read-back bit. A write of MUTE clears the causes it may that no longer hold (which do is a free value, log entry 157). A frame over its limit by 100 µs raises the fault and sets the RUNAWAY mute. A detector check outside TX shows the open detectors, sets DET_OPEN with any, and mutes or unmutes the port's chains, a newly muted one with a fault. When the grant falls with ABORT set, each governed frame not yet ending ends with its flag and is counted; with ABORT clear none does. The wiring check starts, ends SWAPPED where the wrong line answers at its first step, goes to its second step else, and ends there PASS or NO_RESPONSE. LEAD is taken from 12 to 1,000 µs and else sets BAD_CFG. (Register writes are those that reach their register.). The rules it rests on: R164, R182, R185, R186, R187, R188, R191, R192, R193, R567. -/
def Obligations.ChainGuards : Prop :=
  (∀ (c : Nat) (s : State), c < 4 → s.get SY.STATUS_LOCK c ≠ 0 → exec (.synthLockLost c) s = .next ((let u := ((s.clr SY.STATUS_LOCK c).bump SY.LOCK_LOST_CNT c).set TXC.EVENT_LOCK_LOST c; let w := ((u.set CALT.LOST (1024 * c + segOf (u.get CHN.FREQ c))).fault 0x0B01 c 0).calNext c; if w.get TXC.STATUS_STATE c = chTx then w.txEnd c 0x14 true else w.toStandby c)))
  ∧ (∀ (c : Nat) (m : Int) (s : State), s.get TXC.STATUS_STATE c = chTx → s.get CHN.TRANS c = 0 → s.get CHN.FROZEN c = 0 → s.ballPast c 48 = true → exec (.txLoopEnd c m) s = .next ((let p := s.get TXC.CTL_PORT c; let u := s.set CHN.FROZEN c; let w := u.when (!bit (u.get CHN.RFLAGS c) 5) fun x => x.putI CHN.COR (1024 * p + segOf (x.get CHN.FREQ c)) (x.getI CHN.SETP c - x.getI CHN.SET0 c); if w.overPower c m then (((w.txEnd c 0x14 true).set TXPORT.EVENT_OVERPOWER p).fault 0x0B04 c 2).muteSet c (2 ^ 5) else w)))
  ∧ (∀ (c : Nat) (fwd : Int) (s : State), s.get TXC.STATUS_STATE c = chTx → s.get TXPORT.DET_STATUS_FWD_OPEN (s.get TXC.CTL_PORT c) = 0 → fwd < s.getI CHN.TARGET c - 40 → exec (.fwdPowerCheck c fwd) s = .next (s.aerialFault c [(0, [1])]))
  ∧ (∀ (c rl : Nat) (s : State), s.get TXC.STATUS_STATE c = chTx → s.vswr (s.get TXC.CTL_PORT c) = true → rl < s.get TXPORT.RL_THR_RL_OPEN (s.get TXC.CTL_PORT c) → exec (.aerialFaultDetect c rl) s = .next ((s.put CHN.RL c rl).aerialFault c []))
  ∧ (∀ (k p : Nat) (s : State), k < 4 → p < 4 → exec (.outputReadbackMismatch k p) s = .next (((s.set TXPORT.EVENT_READBACK p).put TXPORT.READBACK_SRC p k).each ([0, 1, 2, 3].filter fun c => ((s.set TXPORT.EVENT_READBACK p).put TXPORT.READBACK_SRC p k).get TXC.CTL_PORT c == p) fun u c => (u.fault 0x0B02 c 2).muteSet c (2 ^ 2)))
  ∧ (∀ (p : Nat) (s : State), exec (.outputReadbackMismatch 4 p) s = .next (s.set COEX.STATUS_READBACK))
  ∧ (∀ (p : Nat) (s : State), p < 8 → exec (.outputReadbackMismatch 5 p) s = .next (s.put PADS.READBACK_TIME_IO 0 (Nat.lor (s.get PADS.READBACK_TIME_IO) (2 ^ p))))
  ∧ (∀ (p : Nat) (s : State), exec (.outputReadbackMismatch 6 p) s = .next (s.set PADS.READBACK_PPS_OUT))
  ∧ (∀ (p : Nat) (s : State), exec (.outputReadbackMismatch 7 p) s = .next (s.set PADS.READBACK_PWRON_CTL))
  ∧ (∀ (r : Req) (c v : Nat) (s : State), s.reachWord r (TXC.MUTE.addr c) 4 = 0 → c < 4 → exec (.txcMuteWrite r c v) s = .next ((let w := Nat.land v (if r = .steward then 0x6D else 0x6C); s.draw.2.muteClr c (w - Nat.land w s.draw.1))))
  ∧ (∀ (c : Nat) (q : TxReq) (s : State), s.headReq c = some q → s.get TXC.STATUS_STATE c = chTx → ticksGeUs (s.mp - s.get CHN.START c) ((if s.get SB.MAX_TX_US q.subband = 0 then airT q.mode (s.preOf q) q.psduLen else s.get SB.MAX_TX_US q.subband) + 100) = true → exec (.runawayTimeout c) s = .next ((s.fault 0x0B05 c 2).muteSet c (2 ^ 6)))
  ∧ (∀ (p : Nat) (pa fwd rev : Bool) (s : State), p < 4 → (([0, 1, 2, 3].filter fun c => s.get TXC.CTL_PORT c == p).any (fun c => s.get TXC.STATUS_STATE c == chTx) = false) → exec (.detCheck p pa fwd rev) s = .next ((let u := (((s.put TXPORT.DET_STATUS_PA_DET_OPEN p (if pa then 1 else 0)).put TXPORT.DET_STATUS_FWD_OPEN p (if fwd then 1 else 0)).put TXPORT.DET_STATUS_REV_OPEN p (if rev then 1 else 0)).when (pa || fwd || rev) (·.set TXPORT.EVENT_DET_OPEN p); let bad := (fwd || rev) && !u.on TXPORT.CFG_ALLOW_NO_VSWR p; u.each ([0, 1, 2, 3].filter fun c => s.get TXC.CTL_PORT c == p) fun w c => if bad then (if bit (w.get TXC.MUTE c) 4 then w else w.fault 0x0B06 c 2).muteSet c (2 ^ 4) else w.muteClr c (2 ^ 4))))
  ∧ (∀ (s : State), exec (.coexGntFall) s = .next ((s.clr COEX.STATUS_GNT).each [0, 1, 2, 3] fun u c => if u.get TXC.STATUS_STATE c = chTx ∧ u.governed (u.get TXC.CTL_PORT c) ∧ u.on COEX.CFG_ABORT ∧ u.get CHN.TRANS c ≠ 4 then ((u.orFlag c 4).txEnd c 0x07 true).bump COEX.ABORT_CNT else u))
  ∧ (∀ (s : State), s.get COEX.CFG_ABORT = 0 → exec (.coexGntFall) s = .next (s.clr COEX.STATUS_GNT))
  ∧ (∀ (r : Req) (s : State), s.reachWord r (COEX.CMD_CHECK.addr 0) 4 = 0 → exec (.coexCheck r) s = .next (s.coexStart))
  ∧ (∀ (s : State), s.get COEXX.STEP = 1 → exec (.coexCheckStepEnd true) s = .next ((s.clr COEXX.STEP).put COEX.STATUS_CHECK 0 2))
  ∧ (∀ (s : State), s.get COEXX.STEP = 1 → exec (.coexCheckStepEnd false) s = .next (((s.put COEXX.STEP 0 2).clr PIN.COEX_Z).coexDrive))
  ∧ (∀ (x : Bool) (s : State), s.get COEXX.STEP = 2 → exec (.coexCheckStepEnd x) s = .next ((s.clr COEXX.STEP).put COEX.STATUS_CHECK 0 (if x then 1 else 3)))
  ∧ (∀ (r : Req) (v : Nat) (s : State), s.reachWord r (COEX.LEAD.addr 0) 4 = 0 → 12 ≤ v → v ≤ 1000 → exec (.coexLeadWrite r v) s = .next (s.put COEX.LEAD 0 v))
  ∧ (∀ (r : Req) (v : Nat) (s : State), s.reachWord r (COEX.LEAD.addr 0) 4 = 0 → 1000 < v → v < 2 ^ 16 → exec (.coexLeadWrite r v) s = .next (s.set COEX.EVENT_BAD_CFG))

/-- The transmit gate, channel plans, PAN map and regulatory profile: (Register writes are those that reach their register.) A write of a channel plan takes its word where the plan it leaves is not enabled or lies within the profile's rules, and else only sets BAD_CFG. A PAN map entry takes OWN_SHORT always, and its PAN, Hedge and enables unless the PAN is 0xFFFF or, enabled, another enabled entry's; then it sets BAD_CFG. AIR_EUI64 is written with every chain disabled and else sets BAD_CFG. A region is programmed once and further tries complete ACCESS_DENIED. With a profile loaded and not locked, the Steward's LOCK locks it with the thresholds, another's sets the lock and lets go the mute of each chain. A gate decision due first makes the decisions due at the same compare value on chains of lower number, then its own; with none of those, a checked head request that is no acknowledgement, its limit set, that passes the gate's checks in a sub-band without listening is cleared for its trigger with verdict CLEAR posted, counted, its quiet intervals dropped; one the checks refuse with a verdict other than the three that hold it by listening is counted, its quiet intervals dropped, its verdict posted and its trigger disarmed. Quiet intervals whose end has passed end. When a slot ends no ledger keeps a slot further back than 64 for the duty ledger and 16 for a dwell ledger. The rules it rests on: R199, R203, R207, R208, R210, R214, R215, R227. -/
def Obligations.GateAndProfile : Prop :=
  (∀ (r : Req) (h off v : Nat) (s : State), s.reachWord r (CHPLAN.CTL_EN.addr h + off) 4 = 0 → h < 8 → ((let t := match off with | 0 => s.put CHPLAN.CTL_EN h v | 4 => s.put CHPLAN.F0_HZ h v | 8 => s.put CHPLAN.SPACING_HZ h v | 0xC => s.put CHPLAN.COUNT h v | 0x10 => (s.put CHPLAN.WAKE_WAKE_N h v).put CHPLAN.WAKE_WAKE_P h (bits v 16 10) | _ => s; t).get CHPLAN.CTL_EN h = 0 ∨ planOk ((let t := match off with | 0 => s.put CHPLAN.CTL_EN h v | 4 => s.put CHPLAN.F0_HZ h v | 8 => s.put CHPLAN.SPACING_HZ h v | 0xC => s.put CHPLAN.COUNT h v | 0x10 => (s.put CHPLAN.WAKE_WAKE_N h v).put CHPLAN.WAKE_WAKE_P h (bits v 16 10) | _ => s; t).get CHPLAN.F0_HZ h) ((let t := match off with | 0 => s.put CHPLAN.CTL_EN h v | 4 => s.put CHPLAN.F0_HZ h v | 8 => s.put CHPLAN.SPACING_HZ h v | 0xC => s.put CHPLAN.COUNT h v | 0x10 => (s.put CHPLAN.WAKE_WAKE_N h v).put CHPLAN.WAKE_WAKE_P h (bits v 16 10) | _ => s; t).get CHPLAN.SPACING_HZ h) ((let t := match off with | 0 => s.put CHPLAN.CTL_EN h v | 4 => s.put CHPLAN.F0_HZ h v | 8 => s.put CHPLAN.SPACING_HZ h v | 0xC => s.put CHPLAN.COUNT h v | 0x10 => (s.put CHPLAN.WAKE_WAKE_N h v).put CHPLAN.WAKE_WAKE_P h (bits v 16 10) | _ => s; t).get CHPLAN.COUNT h) ((let t := match off with | 0 => s.put CHPLAN.CTL_EN h v | 4 => s.put CHPLAN.F0_HZ h v | 8 => s.put CHPLAN.SPACING_HZ h v | 0xC => s.put CHPLAN.COUNT h v | 0x10 => (s.put CHPLAN.WAKE_WAKE_N h v).put CHPLAN.WAKE_WAKE_P h (bits v 16 10) | _ => s; t).get CHPLAN.WAKE_WAKE_N h) ((let t := match off with | 0 => s.put CHPLAN.CTL_EN h v | 4 => s.put CHPLAN.F0_HZ h v | 8 => s.put CHPLAN.SPACING_HZ h v | 0xC => s.put CHPLAN.COUNT h v | 0x10 => (s.put CHPLAN.WAKE_WAKE_N h v).put CHPLAN.WAKE_WAKE_P h (bits v 16 10) | _ => s; t).get CHPLAN.WAKE_WAKE_P h) = true) → exec (.chplanWrite r h off v) s = .next ((let t := match off with | 0 => s.put CHPLAN.CTL_EN h v | 4 => s.put CHPLAN.F0_HZ h v | 8 => s.put CHPLAN.SPACING_HZ h v | 0xC => s.put CHPLAN.COUNT h v | 0x10 => (s.put CHPLAN.WAKE_WAKE_N h v).put CHPLAN.WAKE_WAKE_P h (bits v 16 10) | _ => s; t)))
  ∧ (∀ (r : Req) (h off v : Nat) (s : State), s.reachWord r (CHPLAN.CTL_EN.addr h + off) 4 = 0 → h < 8 → (let t := match off with | 0 => s.put CHPLAN.CTL_EN h v | 4 => s.put CHPLAN.F0_HZ h v | 8 => s.put CHPLAN.SPACING_HZ h v | 0xC => s.put CHPLAN.COUNT h v | 0x10 => (s.put CHPLAN.WAKE_WAKE_N h v).put CHPLAN.WAKE_WAKE_P h (bits v 16 10) | _ => s; t).get CHPLAN.CTL_EN h ≠ 0 → planOk ((let t := match off with | 0 => s.put CHPLAN.CTL_EN h v | 4 => s.put CHPLAN.F0_HZ h v | 8 => s.put CHPLAN.SPACING_HZ h v | 0xC => s.put CHPLAN.COUNT h v | 0x10 => (s.put CHPLAN.WAKE_WAKE_N h v).put CHPLAN.WAKE_WAKE_P h (bits v 16 10) | _ => s; t).get CHPLAN.F0_HZ h) ((let t := match off with | 0 => s.put CHPLAN.CTL_EN h v | 4 => s.put CHPLAN.F0_HZ h v | 8 => s.put CHPLAN.SPACING_HZ h v | 0xC => s.put CHPLAN.COUNT h v | 0x10 => (s.put CHPLAN.WAKE_WAKE_N h v).put CHPLAN.WAKE_WAKE_P h (bits v 16 10) | _ => s; t).get CHPLAN.SPACING_HZ h) ((let t := match off with | 0 => s.put CHPLAN.CTL_EN h v | 4 => s.put CHPLAN.F0_HZ h v | 8 => s.put CHPLAN.SPACING_HZ h v | 0xC => s.put CHPLAN.COUNT h v | 0x10 => (s.put CHPLAN.WAKE_WAKE_N h v).put CHPLAN.WAKE_WAKE_P h (bits v 16 10) | _ => s; t).get CHPLAN.COUNT h) ((let t := match off with | 0 => s.put CHPLAN.CTL_EN h v | 4 => s.put CHPLAN.F0_HZ h v | 8 => s.put CHPLAN.SPACING_HZ h v | 0xC => s.put CHPLAN.COUNT h v | 0x10 => (s.put CHPLAN.WAKE_WAKE_N h v).put CHPLAN.WAKE_WAKE_P h (bits v 16 10) | _ => s; t).get CHPLAN.WAKE_WAKE_N h) ((let t := match off with | 0 => s.put CHPLAN.CTL_EN h v | 4 => s.put CHPLAN.F0_HZ h v | 8 => s.put CHPLAN.SPACING_HZ h v | 0xC => s.put CHPLAN.COUNT h v | 0x10 => (s.put CHPLAN.WAKE_WAKE_N h v).put CHPLAN.WAKE_WAKE_P h (bits v 16 10) | _ => s; t).get CHPLAN.WAKE_WAKE_P h) = false → exec (.chplanWrite r h off v) s = .next (s.set CHPLAN.EVENT_BAD_CFG h))
  ∧ (∀ (r : Req) (i v : Nat) (s : State), s.reachWord r (PANMAP.CFG_EN.addr i + 4) 4 = 0 → i < 32 → exec (.panmapWrite r i 4 v) s = .next (s.put PANMAP.OWN_SHORT i v))
  ∧ (∀ (r : Req) (i off v : Nat) (s : State), s.reachWord r (PANMAP.CFG_EN.addr i + off) 4 = 0 → i < 32 → off ≠ 4 → v % 2 ^ 16 ≠ 0xFFFF → ((bit v 24 && (List.range 32).any fun j => j != i && s.on PANMAP.CFG_EN j && s.get PANMAP.CFG_PAN_ID j == v % 2 ^ 16) = false) → exec (.panmapWrite r i off v) s = .next ((((s.put PANMAP.CFG_PAN_ID i v).put PANMAP.CFG_HEDGE i (bits v 16 3)).put PANMAP.CFG_EN i (bits v 24 1)).put PANMAP.CFG_HOP i (bits v 25 1)))
  ∧ (∀ (r : Req) (i off v : Nat) (s : State), s.reachWord r (PANMAP.CFG_EN.addr i + off) 4 = 0 → i < 32 → off ≠ 4 → (v % 2 ^ 16 = 0xFFFF ∨ (bit v 24 && (List.range 32).any fun j => j != i && s.on PANMAP.CFG_EN j && s.get PANMAP.CFG_PAN_ID j == v % 2 ^ 16) = true) → exec (.panmapWrite r i off v) s = .next (s.set MAC.EVENT_BAD_CFG))
  ∧ (∀ (r : Req) (v : Nat) (s : State), s.reachWord r (MAC.AIR_EUI64.addr 0) 4 = 0 → s.get TXC.CTL_EN 0 = 0 → s.get TXC.CTL_EN 1 = 0 → s.get TXC.CTL_EN 2 = 0 → s.get TXC.CTL_EN 3 = 0 → exec (.airEui64Write r v) s = .next (s.put MAC.AIR_EUI64 0 (s.join64 r 0x621030 v)))
  ∧ (∀ (r : Req) (v : Nat) (s : State), s.reachWord r (MAC.AIR_EUI64.addr 0) 4 = 0 → ([0, 1, 2, 3].any (fun c => s.on TXC.CTL_EN c) = true) → exec (.airEui64Write r v) s = .next (s.set MAC.EVENT_BAD_CFG))
  ∧ (∀ (c : Cmd) (region : Nat) (s : State), s.get OTP.REGION = 0 → exec (.profileSetRegion c region) s = .next ((s.put OTP.REGION 0 region).finish c 0x70 0))
  ∧ (∀ (c : Cmd) (region : Nat) (s : State), s.get OTP.REGION ≠ 0 → exec (.profileSetRegion c region) s = .next (s.finish c 0x70 0x13))
  ∧ (∀ (s : State), s.reachWord .steward (REGPROF.CTL_LOCK.addr 0) 4 = 0 → s.get REGPROF.HDR_FRAMEWORK ≠ 0 → s.get REGPROF.CTL_LOCK = 0 → exec (.regprofLockSet .steward) s = .next (s.lockProfile))
  ∧ (∀ (r : Req) (s : State), s.reachWord r (REGPROF.CTL_LOCK.addr 0) 4 = 0 → s.get REGPROF.HDR_FRAMEWORK ≠ 0 → s.get REGPROF.CTL_LOCK = 0 → r ≠ .steward → exec (.regprofLockSet r) s = .next ((s.set REGPROF.CTL_LOCK).each [0, 1, 2, 3] fun u c => u.muteClr c (2 ^ 1)))
  ∧ (∀ (n : Nat) (s : State), s.gateDue n = true → exec (.gateDecision n) s = .next ((s.each (((List.range (s.get PT.CTL_TARGET n)).flatMap fun c => (s.startsOn c).filter fun m => s.gateDue m && s.get PT.CMP m == s.get PT.CMP n) : List Nat) State.gateDecide).gateDecide n))
  ∧ (∀ (n : Nat) (q : TxReq) (s : State), s.gateDue n = true → ((((List.range (s.get PT.CTL_TARGET n)).flatMap fun c => (s.startsOn c).filter fun m => s.gateDue m && s.get PT.CMP m == s.get PT.CMP n) : List Nat) = []) → s.headReq (s.get PT.CTL_TARGET n) = some q → s.get CHN.CHECKED (s.get PT.CTL_TARGET n) ≠ 0 → q.ack = false → (s.limitPower (s.get PT.CTL_TARGET n) q).gateChecks (⟨q, (((16 * q.freq : Nat) : Int) + (s.limitPower (s.get PT.CTL_TARGET n) q).getI CHN.DFN (s.get PT.CTL_TARGET n)).toNat, s.get PT.CMP n, airT q.mode ((s.limitPower (s.get PT.CTL_TARGET n) q).preOf q) q.psduLen⟩ : GateCase) ((s.limitPower (s.get PT.CTL_TARGET n) q).get TXC.CTL_PORT (s.get PT.CTL_TARGET n)) = none → (s.limitPower (s.get PT.CTL_TARGET n) q).get SB.CFG_LBT_EN q.subband = 0 → exec (.gateDecision n) s = .next (((((s.limitPower (s.get PT.CTL_TARGET n) q).gateCount 0 q.subband).quietDrop fun x => x.chain == (s.get PT.CTL_TARGET n) && x.tag == q.tag).gateClear (⟨q, (((16 * q.freq : Nat) : Int) + (s.limitPower (s.get PT.CTL_TARGET n) q).getI CHN.DFN (s.get PT.CTL_TARGET n)).toNat, s.get PT.CMP n, airT q.mode ((s.limitPower (s.get PT.CTL_TARGET n) q).preOf q) q.psduLen⟩ : GateCase) ((s.limitPower (s.get PT.CTL_TARGET n) q).get TXC.CTL_PORT (s.get PT.CTL_TARGET n)) n).gatePost ⟨(s.get PT.CTL_TARGET n), q.tag, 0, s.get PT.CMP n⟩))
  ∧ (∀ (n v e : Nat) (q : TxReq) (s : State), s.gateDue n = true → ((((List.range (s.get PT.CTL_TARGET n)).flatMap fun c => (s.startsOn c).filter fun m => s.gateDue m && s.get PT.CMP m == s.get PT.CMP n) : List Nat) = []) → s.headReq (s.get PT.CTL_TARGET n) = some q → s.get CHN.CHECKED (s.get PT.CTL_TARGET n) ≠ 0 → q.ack = false → (s.limitPower (s.get PT.CTL_TARGET n) q).gateChecks (⟨q, (((16 * q.freq : Nat) : Int) + (s.limitPower (s.get PT.CTL_TARGET n) q).getI CHN.DFN (s.get PT.CTL_TARGET n)).toNat, s.get PT.CMP n, airT q.mode ((s.limitPower (s.get PT.CTL_TARGET n) q).preOf q) q.psduLen⟩ : GateCase) ((s.limitPower (s.get PT.CTL_TARGET n) q).get TXC.CTL_PORT (s.get PT.CTL_TARGET n)) = some (v, e) → v ≠ 0 → v ≠ 2 → v ≠ 6 → exec (.gateDecision n) s = .next (((((s.limitPower (s.get PT.CTL_TARGET n) q).gateCount v q.subband).quietDrop fun x => x.chain == (s.get PT.CTL_TARGET n) && x.tag == q.tag).gatePost ⟨(s.get PT.CTL_TARGET n), q.tag, v, e⟩).disarm n))
  ∧ (∀ (s : State), exec (.quietRelease) s = .next (s.quietDrop fun q => decide (q.hi ≤ s.mp)))
  ∧ (∀ (i : Nat) (s : State), completes (.dutySlotEnd i) s fun t => (t.ledger.all fun x => !(x.sb == i) || decide ((if x.cell = 256 then s.dutySlot i s.mp else s.dwellSlot i s.mp) ≤ x.slot + if x.cell = 256 then 64 else 16)) = true)

/-- A downlink's attempts on air: A released or held unicast downlink, its flooding not owned by software, whose entry has gone completes NODE_UNKNOWN; one whose entry stands is aimed at the next hop its route gives, held while the node is LOST, and without one ends NO_ROUTE or, where the Hedge asks for it, goes on as a flood; a flood starts and is placed on its first Hop PAN, or ends DONE without any. At its lead a planned attempt that need not wait, its hop standing and its carrier covered, is secured and armed, or ends with the code that securing gives. A gate record other than CLEAR for the armed attempt of its chain withdraws the attempt, which then goes on as the verdict says. A result for the armed attempt of its chain, the air counted where it was sent, marks a DONE attempt sent and ends another with its status. A train past its end without an acknowledgement asked completes DONE, and before it, its last copy not late, arms the next copy at its lead under the current key. An acknowledgement window that has passed, any train over, is a miss and is tried again. The end of a step's walk takes the correction to the last entry and ends the step. The rules it rests on: R213, R214, R225, R247, R248, R252, R253, R254, R255, R257, R258, R274. -/
def Obligations.Attempts : Prop :=
  (∀ (u : Nat) (d : Down) (s : State), s.down u = some d → (d.stage = .released ∨ d.stage = .held) → d.isFlood = false → ¬ (d.opcode = 0x02 ∧ d.freight ≠ .reflood ∧ s.expH d.hedge 3 = true) → (s.get E.INCARNATION d.dest ≠ d.destInc ∨ s.get E.STATE d.dest = stFree) → exec (.downlinkRelease u) s = .next (s.finishDown d 0x04))
  ∧ (∀ (u n : Nat) (direct : Bool) (d : Down) (s : State), s.down u = some d → (d.stage = .released ∨ d.stage = .held) → d.isFlood = false → ¬ (d.opcode = 0x02 ∧ d.freight ≠ .reflood ∧ s.expH d.hedge 3 = true) → s.get E.INCARNATION d.dest = d.destInc → s.get E.STATE d.dest ≠ stFree → s.resolve d.dest (s.hopPans d.hedge != []) (d.noFlood || d.freight == .relay) (d.freight == .command) = .hop n direct → exec (.downlinkRelease u) s = .next (s.take (s.aimHop d n direct)))
  ∧ (∀ (u : Nat) (d : Down) (s : State), s.down u = some d → (d.stage = .released ∨ d.stage = .held) → d.isFlood = false → ¬ (d.opcode = 0x02 ∧ d.freight ≠ .reflood ∧ s.expH d.hedge 3 = true) → s.get E.INCARNATION d.dest = d.destInc → s.get E.STATE d.dest ≠ stFree → s.resolve d.dest (s.hopPans d.hedge != []) (d.noFlood || d.freight == .relay) (d.freight == .command) = .lost → exec (.downlinkRelease u) s = .next (s.holdDown d))
  ∧ (∀ (u : Nat) (d : Down) (s : State), s.down u = some d → (d.stage = .released ∨ d.stage = .held) → d.isFlood = false → ¬ (d.opcode = 0x02 ∧ d.freight ≠ .reflood ∧ s.expH d.hedge 3 = true) → s.get E.INCARNATION d.dest = d.destInc → s.get E.STATE d.dest ≠ stFree → s.resolve d.dest (s.hopPans d.hedge != []) (d.noFlood || d.freight == .relay) (d.freight == .command) = .none → exec (.downlinkRelease u) s = .next (s.finishDown d 0x03))
  ∧ (∀ (u : Nat) (d : Down) (s : State), s.down u = some d → (d.stage = .released ∨ d.stage = .held) → d.isFlood = false → ¬ (d.opcode = 0x02 ∧ d.freight ≠ .reflood ∧ s.expH d.hedge 3 = true) → s.get E.INCARNATION d.dest = d.destInc → s.get E.STATE d.dest ≠ stFree → s.resolve d.dest (s.hopPans d.hedge != []) (d.noFlood || d.freight == .relay) (d.freight == .command) = .flood → s.expH d.hedge 3 = false → exec (.downlinkRelease u) s = .next ((let p := s.startFlood { d with freight := .flood, ttl := 0, final := s.get E.SHORT_ADDR d.dest }; if p.1.pans = [] then p.2.finishDown p.1 0x03 else p.2.take p.1)))
  ∧ (∀ (u : Nat) (d : Down) (s : State), s.down u = some d → (d.stage = .released ∨ d.stage = .held) → d.isFlood = true → (d.freight = .reflood ∨ s.expH d.hedge 3 = false) → exec (.downlinkRelease u) s = .next ((let p := s.startFlood d; if p.1.pans = [] then p.2.finishDown p.1 0 else p.2.take p.1)))
  ∧ (∀ (u : Nat) (d : Down) (s : State), s.down u = some d → d.stage = .planned → s.standby = false → s.mustWait d = false → s.hopStands d = true → s.uncovered d = false → d.c ≤ s.mp + usTicks (match (s.chainsFor d).find? (s.chainFree d) with | some c => s.armLead c | none => ((s.chainsFor d).map s.armLead).foldl max (s.get WAKE.ARM_LEAD_US)) → exec (.attemptArm u) s = .next (match s.secureNow d with | (0, d', w) => w.armAttempt d' | (k, d', w) => w.finishDown d' k))
  ∧ (∀ (c : Nat) (g : GateRec) (d : Down) (s : State), s.get FIFO.STATUS_FROZEN (56 + c) = 0 → s.gateRecs.find? (·.chain == c) = some g → (({ s with gateRecs := s.gateRecs.erase g } : State).hwOut (56 + c)).down g.tag = some d → d.stage = .armed → d.chain = c → g.verdict ≠ 0 → exec (.gateRecordHandle c) s = .next (((({ s with gateRecs := s.gateRecs.erase g } : State).hwOut (56 + c)).withdraw d).verdict d g.verdict g.earliest))
  ∧ (∀ (c : Nat) (x : TxRes) (d : Down) (s : State), s.get FIFO.STATUS_FROZEN (52 + c) = 0 → s.txRes.find? (·.chain == c) = some x → (({ s with txRes := s.txRes.erase x } : State).hwOut (52 + c)).down x.tag = some d → d.stage = .armed → d.chain = c → exec (.txResultHandle c) s = .next ((let p := if x.start = 0 then (d, (({ s with txRes := s.txRes.erase x } : State).hwOut (52 + c))) else (({ s with txRes := s.txRes.erase x } : State).hwOut (52 + c)).countAir d x.start; if x.status = 0 then p.2.sent p.1 else p.2.finishDown p.1 x.status)))
  ∧ (∀ (u : Nat) (d : Down) (s : State), s.down u = some d → d.stage = .ackWait → d.aim = .train → d.hi ≤ d.c → d.ackReq = false → exec (.trainCopyArm u) s = .next (s.finishDown d 0))
  ∧ (∀ (u : Nat) (d : Down) (s : State), s.down u = some d → d.stage = .ackWait → d.aim = .train → d.c < d.hi → d.late = false → (d.c + usTicks (d.air + s.get WAKEH.TRAIN_GAP_US d.hedge)) ≤ s.mp + usTicks (s.armLead d.chain) → s.keyCurrent ({ d with prev := d.c, c := (d.c + usTicks (d.air + s.get WAKEH.TRAIN_GAP_US d.hedge)), late := false, stage := .planned } : Down) d.hop = true → exec (.trainCopyArm u) s = .next ((s.setDown ({ d with prev := d.c, c := (d.c + usTicks (d.air + s.get WAKEH.TRAIN_GAP_US d.hedge)), late := false, stage := .planned } : Down)).armAttempt ({ d with prev := d.c, c := (d.c + usTicks (d.air + s.get WAKEH.TRAIN_GAP_US d.hedge)), late := false, stage := .planned } : Down)))
  ∧ (∀ (u : Nat) (d : Down) (s : State), s.down u = some d → d.stage = .ackWait → d.ackReq = true → d.ackEnd ≤ s.mp → (d.aim ≠ .train ∨ d.hi ≤ d.c) → exec (.ackWindowExpire u) s = .next ((s.miss d).retry d))
  ∧ (∀ (s : State), s.get WAKE.STATUS_FIX_ACTIVE ≠ 0 → exec (.phaseFixWalkDone) s = .next ((((s.fixTo 262144).clr WAKE.STATUS_FIX_ACTIVE).clr WAKE.STATUS_FIX_CURSOR).clr FIX.DELTA))

/-- Received frames, floods sent on and beacons: The oldest frame of a lane whose FIFO is not frozen goes through the steps of reception. Outside standby a flood heard is admitted again when its wait has ended, its length made anew for the Hop PAN. Outside standby, with beacons not enabled a Hedge's beacon state is cleared; with them enabled and none sent yet or the interval past, the time is noted and, with a disciplined clock or SEND_UNLOCKED, a beacon flood is admitted, and without either none. A write of GEN_BASE that reaches it and differs from it moves it by one, forced or with no entry of the generation left, and is otherwise refused with GEN_REFUSED. The rules it rests on: R46, R218, R276, R277, R281, R283. -/
def Obligations.FramesAndFloods : Prop :=
  (∀ (l : Nat) (x : LaneIn) (s : State), s.get FIFO.STATUS_FROZEN l = 0 → s.laneQ.find? (·.lane == l) = some x → exec (.macRxFrame l) s = .next ((({ s with laneQ := s.laneQ.erase x } : State).hwOut l).macRx x))
  ∧ (∀ (u : Nat) (d : Down) (s : State), s.reflQ.find? (·.uid == u) = some d → s.standby = false → d.bound ≤ s.mp → exec (.refloodSend u) s = .next ((let w : State := { s with reflQ := s.reflQ.erase d }; (w.takeIn { d with psduLen := w.downLen d 0 ((w.panOf d.hedge).getD 0) }).2)))
  ∧ (∀ (h : Nat) (s : State), s.standby = false → s.get BEACON.CTL_EN h = 0 → exec (.beaconInterval h) s = .next (s.clr BEACX.SENT h))
  ∧ (∀ (h : Nat) (s : State), s.standby = false → s.get BEACON.CTL_EN h ≠ 0 → (s.get BEACX.SENT h = 0 ∨ s.get BEACON.INTERVAL h ≤ ((s.mpSec + 2 ^ 32 - s.get BEACX.AT h) % 2 ^ 32)) → (s.refGood = true ∨ s.get BEACON.CTL_SEND_UNLOCKED h ≠ 0) → exec (.beaconInterval h) s = .next ((((s.set BEACX.SENT h).put BEACX.AT h s.mpSec).takeIn { ((s.set BEACX.SENT h).put BEACX.AT h s.mpSec).ownFlood h 1 0xFFFF (List.replicate 20 0) with beacon := true }).2))
  ∧ (∀ (h : Nat) (s : State), s.standby = false → s.get BEACON.CTL_EN h ≠ 0 → (s.get BEACX.SENT h = 0 ∨ s.get BEACON.INTERVAL h ≤ ((s.mpSec + 2 ^ 32 - s.get BEACX.AT h) % 2 ^ 32)) → s.refGood = false → s.get BEACON.CTL_SEND_UNLOCKED h = 0 → exec (.beaconInterval h) s = .next (((s.set BEACX.SENT h).put BEACX.AT h s.mpSec)))
  ∧ (∀ (r : Req) (h v : Nat) (s : State), s.reachWord r (FWDH.GEN_BASE.addr h) 4 = 0 → h < 8 → v % 8 ≠ s.get FWDH.GEN_BASE h → v % 8 = (s.get FWDH.GEN_BASE h + 1) % 8 → (bit v 8 = true ∨ s.genCount h (s.get FWDH.GEN_BASE h) = 0) → exec (.genBaseWrite r h v) s = .next (s.put FWDH.GEN_BASE h (s.get FWDH.GEN_BASE h + 1)))
  ∧ (∀ (r : Req) (h v : Nat) (s : State), s.reachWord r (FWDH.GEN_BASE.addr h) 4 = 0 → h < 8 → v % 8 ≠ s.get FWDH.GEN_BASE h → (v % 8 ≠ (s.get FWDH.GEN_BASE h + 1) % 8 ∨ (bit v 8 = false ∧ s.genCount h (s.get FWDH.GEN_BASE h) ≠ 0)) → exec (.genBaseWrite r h v) s = .next (s.set FWDH.EVENT_GEN_REFUSED h))

/-- A campaign from its start to its end: Outside standby, the Hedge's forwarding not owned by software: CAMPAIGN_START, ACCEPTED where the descriptor asks for it, with valid fields and its manifest and list readable in the grant, no campaign of the Hedge running, completes IMAGE_MISMATCH where the manifest does not hold, BAD_DESCRIPTOR where its image runs past the grant, QUOTA where its hashes do not fit, and else starts: its targets marked, its hashes held, its fields, number, tag and counts set, its state SENDING_BLOCKS; with a campaign running it completes BUSY_RETRY. A campaign that sends blocks or repairs and has none under way goes on, past a block handed over, to its next block or repair. A report window that ends writes the silent targets' count and, with blocks missing, begins a repair round, with none goes on to activation. An activation due is sent as admission allows, and the third one ends the campaign. Pause stops a running campaign for the command, resume of a paused one restores its state and its held frames and moves its window on, abort ends it aborted; each completes DONE. The status read that reaches it shows a campaign that is DONE and clears it. The rules it rests on: R284, R285, R286, R287, R288, R289. -/
def Obligations.Campaigns : Prop :=
  (∀ (c : Cmd) (num bsize bcount from_ lcount mOff iOff lOff : Nat) (list : Bool) (m l : List Nat) (s : State), s.standby = false → s.expH c.ring 3 = false → s.campRuns c.ring = false → 64 ≤ bsize → bsize ≤ 1024 → bsize % 16 = 0 → 1 ≤ bcount → bcount ≤ 65535 → from_ ≤ 7 → (s.accepted c 0x40).grantRead c.ring mOff (160 + 32 * bcount) = some m → (if list then (s.accepted c 0x40).grantRead c.ring lOff (4 * lcount) else some []) = some l → exec (.campaignStart c num bsize bcount from_ list lcount mOff iOff lOff) s = .next (if !((s.accepted c 0x40).when ((s.accepted c 0x40).on TRUST.CTL_VALID1 c.ring) (·.bump SEC.ECC_CNT)).manifestOk c.ring num bsize bcount from_ m then ((s.accepted c 0x40).when ((s.accepted c 0x40).on TRUST.CTL_VALID1 c.ring) (·.bump SEC.ECC_CNT)).finish c 0x40 0x0D else if ((s.accepted c 0x40).when ((s.accepted c 0x40).on TRUST.CTL_VALID1 c.ring) (·.bump SEC.ECC_CNT)).get ENGH.DRAM_SIZE c.ring < iOff + oct m 16 4 then ((s.accepted c 0x40).when ((s.accepted c 0x40).on TRUST.CTL_VALID1 c.ring) (·.bump SEC.ECC_CNT)).finish c 0x40 0x12 else if 2 ^ 22 < ([0, 1, 2, 3, 4, 5, 6, 7].map fun k => if s.campRuns k then 32 * s.get CAMPX.BCOUNT k else 0).sum + 32 * bcount then ((s.accepted c 0x40).when ((s.accepted c 0x40).on TRUST.CTL_VALID1 c.ring) (·.bump SEC.ECC_CNT)).finish c 0x40 0x05 else (let h := c.ring; let t1 := ((s.accepted c 0x40).when ((s.accepted c 0x40).on TRUST.CTL_VALID1 c.ring) (·.bump SEC.ECC_CNT)).each (((s.accepted c 0x40).when ((s.accepted c 0x40).on TRUST.CTL_VALID1 c.ring) (·.bump SEC.ECC_CNT)).entriesOf h) fun u e => u.put E.RUNTIME_PRIVATE (64 * e + 4) (if (((s.accepted c 0x40).when ((s.accepted c 0x40).on TRUST.CTL_VALID1 c.ring) (·.bump SEC.ECC_CNT)).campTargets c.ring from_ (if list then some (words4 lcount l) else none)).contains e then 1 else 0); let t2 := t1.each (List.range bcount) fun u b => u.put CAMPX.HASH (65536 * h + b) (oct m (64 + 32 * b) 32); let t3 := (((t2.put CAMPX.NUM h num).put CAMPX.BSIZE h bsize).put CAMPX.BCOUNT h bcount).put CAMPX.IMAGE h iOff; let t4 := (((t3.put CAMPX.LEN h (oct m 16 4)).put CAMPX.TAG h c.tag).put CAMPX.INDEX h c.index).set CAMPX.CMD h; let t5 := t4.each [CAMPX.MROUND, CAMPX.ACTS, CAMPX.HAND, CAMP.BLOCK_CUR, CAMP.STATUS_ROUND, CAMP.STATUS_PAUSE_CAUSE, CAMP.STATUS_ABORTED, CAMP.COMPLETE, CAMP.SILENT, CAMP.GONE] fun u F => u.clr F h; ((t5.put CAMP.TARGETS h (((s.accepted c 0x40).when ((s.accepted c 0x40).on TRUST.CTL_VALID1 c.ring) (·.bump SEC.ECC_CNT)).campTargets c.ring from_ (if list then some (words4 lcount l) else none)).length).put CAMP.STATUS_STATE h 2).served c)))
  ∧ (∀ (c : Cmd) (num bsize bcount from_ lcount mOff iOff lOff : Nat) (list : Bool) (s : State), s.standby = false → s.expH c.ring 3 = false → s.campRuns c.ring = true → exec (.campaignStart c num bsize bcount from_ list lcount mOff iOff lOff) s = .next (s.draw.2.complete c 0x40 0x02 0 s.draw.1 []))
  ∧ (∀ (h : Nat) (s : State), (s.get CAMP.STATUS_STATE h = 2 ∨ s.get CAMP.STATUS_STATE h = 4) → s.standby = false → s.campBusy h = false → exec (.campaignBlockSend h) s = .next ((let u := if s.on CAMPX.HAND h then s.campNext h else s; match u.get CAMP.STATUS_STATE h with | 2 => u.campSend h none (u.get CAMP.BLOCK_CUR h) | 4 => u.campRepair h | _ => u)))
  ∧ (∀ (h : Nat) (s : State), s.standby = false → s.get CAMP.STATUS_STATE h = 3 → after32 (s.get CAMPX.WIN_AT h) s.mpSec = false → exec (.campaignReportWindowEnd h) s = .next ((let u := s.put CAMP.SILENT h ((s.entriesOf h).filter fun e => bit (s.get E.RUNTIME_PRIVATE (64 * e + 4)) 0 && !bit (s.get E.RUNTIME_PRIVATE (64 * e + 4)) 1 && !bit (s.get E.RUNTIME_PRIVATE (64 * e + 4)) 2).length; if u.missing.any (·.1 == h) then ((({ u with repairs := u.repairs.filter (·.1 != h) ++ u.repairSet h } : State).bump CAMP.STATUS_ROUND h).put CAMP.STATUS_STATE h 4).clr CAMPX.HAND h else u.campActivating h)))
  ∧ (∀ (h : Nat) (s : State), s.standby = false → s.get CAMP.STATUS_STATE h = 5 → after32 (s.get CAMPX.WIN_AT h) s.mpSec = false → exec (.campaignActivateSend h) s = .next (match s.takeIn (s.campFrame h none ([0x34] ++ le 2 (s.get CAMPX.NUM h) ++ le 4 (s.get CAMPX.ACT_AT h))) with | (some _, w) => w | (none, w) => (fun x : State => if x.get CAMPX.ACTS h = 3 then x.campEnd h 0 false else x) ((w.bump CAMPX.ACTS h).put CAMPX.WIN_AT h (w.mpSec + 10))))
  ∧ (∀ (c : Cmd) (num : Nat) (s : State), s.standby = false → s.expH c.ring 3 = false → s.campNamed c.ring num = true → s.campRuns c.ring = true → s.get CAMP.STATUS_STATE c.ring ≠ 6 → exec (.campaignPause c num) s = .next ((s.campPause c.ring 1).finish c 0x22 0))
  ∧ (∀ (c : Cmd) (num : Nat) (s : State), s.standby = false → s.expH c.ring 3 = false → s.campNamed c.ring num = true → s.campRuns c.ring = true → s.get CAMP.STATUS_STATE c.ring = 6 → exec (.campaignResume c num) s = .next ((let h := c.ring; let u : State := { s with campQ := s.campQ.filter (·.hedge != h) }; let w := (u.put CAMP.STATUS_STATE h (u.get CAMPX.RESUME h)).clr CAMP.STATUS_PAUSE_CAUSE h; let x := w.put CAMPX.WIN_AT h (w.get CAMPX.WIN_AT h + (w.mpSec + 2 ^ 32 - w.get CAMPX.PAUSED_AT h) % 2 ^ 32); (x.each (s.campQ.filter (·.hedge == h)) fun y d => match y.takeIn { d with stage := .queued } with | (none, z) => z | (some _, z) => if d.payload.headD 0 = 0x31 then z.clr CAMPX.HAND h else z).finish c 0x23 0)))
  ∧ (∀ (c : Cmd) (num : Nat) (s : State), s.standby = false → s.expH c.ring 3 = false → s.campNamed c.ring num = true → exec (.campaignAbort c num) s = .next ((((s.campPause c.ring 1).campEnd c.ring 0 true).clr CAMP.STATUS_PAUSE_CAUSE c.ring).finish c 0x24 0))
  ∧ (∀ (r : Req) (h : Nat) (s : State), s.reachWord r (CAMP.STATUS_STATE.addr h) 4 = 0 → s.get CAMP.STATUS_STATE h = 7 → completes (.campStatusRead r h) s fun t => t.get CAMP.STATUS_STATE h = 0 ∧ t.get CAMP.STATUS_ABORTED h = 0 ∧ t.get MODEL.DATA = (7 + 16 * s.get CAMP.STATUS_ROUND h + 256 * s.get CAMP.STATUS_PAUSE_CAUSE h + 2048 * s.get CAMP.STATUS_ABORTED h) % 2 ^ 32 ∧ sameBut s t [(CAMP.STATUS_STATE, h), (CAMP.STATUS_ABORTED, h), (MODEL.DATA, 0), (MODEL.RESP, 0)])
  ∧ (∀ (r : Req) (h : Nat) (s : State), s.reachWord r (CAMP.STATUS_STATE.addr h) 4 = 0 → s.get CAMP.STATUS_STATE h ≠ 7 → exec (.campStatusRead r h) s = .next ((s.put MODEL.DATA 0 (s.get CAMP.STATUS_STATE h + 16 * s.get CAMP.STATUS_ROUND h + 256 * s.get CAMP.STATUS_PAUSE_CAUSE h + 2048 * s.get CAMP.STATUS_ABORTED h)).put MODEL.RESP 0 0))

/-- Discovery sweeps: Outside standby and with no sweep of the Hedge running, SWEEP_START, ACCEPTED where the descriptor asks for it, with fields in range starts a sweep: the list of those gone and the records are emptied, and its number, rounds, TTL, time and command are held; with one out of range it completes BAD_DESCRIPTOR, and with a sweep running BUSY_RETRY. A round is admitted at its time and counted; the sweep ends when its rounds are over. SWEEP_READ of 1 to 1,024 records answers those asked for of a finished sweep, and none where none has finished. The rules it rests on: R290, R291, R292. -/
def Obligations.Sweeps : Prop :=
  (∀ (c : Cmd) (rounds roundS ttl : Nat) (silent : Bool) (s : State), s.standby = false → s.get SWEEP.RUN c.ring = 0 → 1 ≤ rounds → rounds ≤ 16 → 10 ≤ roundS → roundS ≤ 3600 → 1 ≤ ttl → ttl ≤ 63 → exec (.sweepStart c rounds roundS ttl silent) s = .next ((let h := c.ring; let u : State := { (s.accepted c 0x20) with gone := (s.accepted c 0x20).gone.filter (·.1 != h) }; let w := u.each (u.entriesOf h) fun x e => x.each [(0x10, 0), (0x11, 0), (0x12, 1), (0x13, 0)] fun y p => y.put E.RUNTIME_PRIVATE (64 * e + p.1) p.2; let x := (((w.set SWEEP.RUN h).bump SWEEP.NUM h).put SWEEP.ROUNDS h rounds).put SWEEP.ROUND_S h roundS; let y := (((x.put SWEEP.TTL h ttl).put SWEEP.SILENT h (if silent then 1 else 0)).put SWEEP.T0 h x.mpSec).clr SWEEP.ROUND h; (((y.clr SWEEP.HAVE h).put SWEEP.TAG h c.tag).put SWEEP.INDEX h c.index).set SWEEP.CMD h)))
  ∧ (∀ (c : Cmd) (rounds roundS ttl : Nat) (silent : Bool) (s : State), s.standby = false → s.get SWEEP.RUN c.ring = 0 → (rounds = 0 ∨ 16 < rounds ∨ roundS < 10 ∨ 3600 < roundS ∨ ttl = 0 ∨ 63 < ttl) → exec (.sweepStart c rounds roundS ttl silent) s = .next ((s.accepted c 0x20).finish c 0x20 0x12))
  ∧ (∀ (c : Cmd) (rounds roundS ttl : Nat) (silent : Bool) (s : State), s.standby = false → s.get SWEEP.RUN c.ring ≠ 0 → exec (.sweepStart c rounds roundS ttl silent) s = .next (s.draw.2.complete c 0x20 0x02 0 s.draw.1 []))
  ∧ (∀ (h : Nat) (s : State), s.get SWEEP.RUN h ≠ 0 → s.standby = false → s.get SWEEP.ROUND h < s.get SWEEP.ROUNDS h → after32 ((s.get SWEEP.T0 h + s.get SWEEP.ROUND h * s.get SWEEP.ROUND_S h) % 2 ^ 32) s.mpSec = false → exec (.sweepRoundStart h) s = .next ((s.takeIn { s.ownFlood h 2 0xFFFF ([0x41] ++ le 2 (s.get SWEEP.NUM h) ++ [s.get SWEEP.ROUND h] ++ le 2 (s.get SWEEP.ROUND_S h - 5)) with ttl := s.get SWEEP.TTL h }).2.put SWEEP.ROUND h (s.get SWEEP.ROUND h + 1)))
  ∧ (∀ (h : Nat) (s : State), s.get SWEEP.RUN h ≠ 0 → s.standby = false → after32 ((s.get SWEEP.T0 h + s.get SWEEP.ROUNDS h * s.get SWEEP.ROUND_S h) % 2 ^ 32) s.mpSec = false → exec (.sweepEnd h) s = .next (s.sweepEnd h 0))
  ∧ (∀ (c : Cmd) (first count addr : Nat) (s : State), 1 ≤ count → count ≤ 1024 → s.get SWEEP.HAVE c.ring = 0 → exec (.sweepRead c first count addr) s = .next (s.answer c 0x21 addr [] [(24, le 4 0), (28, le 4 (first + 0 + (2 ^ 32 - 1)))]))
  ∧ (∀ (c : Cmd) (first count addr : Nat) (s : State), 1 ≤ count → count ≤ 1024 → s.get SWEEP.HAVE c.ring ≠ 0 → exec (.sweepRead c first count addr) s = .next ((fun l : List (List Nat) => s.answer c 0x21 addr l.flatten [(24, le 4 l.length), (28, le 4 (first + l.length + (2 ^ 32 - 1)))]) (((s.sweepRecords c.ring).drop first).take count)))

/-- Meters, shapers, watches and queue probes: (Register writes are those that reach their register.) A write of 1 to COMMIT of a meter takes the meter's new configuration, of a shaper the shaper's, eligibility then made anew; an enabled blocked shaper whose tokens reach 0 permits again. An enabled watch that may see its target writes one record of Mesh Phase, depth and delay into its ring at the sample's place and advances HEAD. A probe of a queue the requester's view may see shows its number, items in flight, depths, eligibility, group and high-water mark, which it clears where asked; of any other it only sets DENIED. A group binding of a queue the view may see that the rules allow is made and shown; one of a queue it may not see is a bus error. The rules it rests on: R311, R312, R316, R322, R327. -/
def Obligations.TrafficMeters : Prop :=
  (∀ (r : Req) (m v : Nat) (s : State), s.reachWord r (METER.CMD_COMMIT.addr m) 4 = 0 → m < 16384 → v % 2 = 1 → exec (.meterCommit r m v) s = .next (s.meterCommit m))
  ∧ (∀ (r : Req) (n v : Nat) (s : State), s.reachWord r (SHAPER.CMD_COMMIT.addr n) 4 = 0 → n < 1024 → v % 2 = 1 → exec (.shaperCommit r n v) s = .next ((s.shCommit n).refreshAll))
  ∧ (∀ (n : Nat) (s : State), s.get SHAPER.CFG_EN n ≠ 0 → s.get SHAPER.STATUS_BLOCKED n ≠ 0 → 0 ≤ s.shTokens n → exec (.shaperUnblock n) s = .next ((s.shSet n (s.shTokens n)).refreshAll))
  ∧ (∀ (w : Nat) (s : State), w < 64 → s.get WATCH.CFG_EN w ≠ 0 → s.watchMay w = true → exec (.watchSample w) s = .next ((let n := ticksUs s.mp / max 1 (s.get WATCH.PERIOD w); let x := s.watchSample (s.get WATCH.CFG_TYPE w) (s.get WATCH.CFG_TARGET w); ({ s with mem.sram := memWriteL s.mem.sram (0x03000000 + w * 0x1000 + n % 256 * 16) (le 8 s.mp ++ le 4 (min 0xFFFFFFFF x.1) ++ le 4 x.2) } : State).put WATCH.HEAD w n)))
  ∧ (∀ (r : Req) (i v : Nat) (s : State), s.reachWord r (QPROBE.SEL_Q.addr i) 4 = 0 → i < 9 → s.probeMay i (v % 2 ^ 18) = false → exec (.qprobeSelWrite r i v) s = .next (s.set QPROBE.STATUS_DENIED i))
  ∧ (∀ (r : Req) (i v : Nat) (s : State), s.reachWord r (QPROBE.SEL_Q.addr i) 4 = 0 → i < 9 → s.probeMay i (v % 2 ^ 18) = true → exec (.qprobeSelWrite r i v) s = .next ((let q := v % 2 ^ 18; let len := fun (x : State) (k : Nat) => min 255 (x.listOf q k).length; let a := ((s.put QPROBE.SEL_Q i q).clr QPROBE.STATUS_DENIED i).put QPROBE.STATUS_INFLIGHT i (((s.put QPROBE.SEL_Q i q).clr QPROBE.STATUS_DENIED i).flying q).length; let b := (a.put QPROBE.DEPTH i (len s 0 + 256 * len s 1 + 65536 * len s 2 + 16777216 * len s 3)).put QPROBE.ELIG i (a.get NQ.ELIG q); let x := (b.put QPROBE.GROUP_ID i (b.get NQ.GROUP q)).put QPROBE.GROUP_EN i (b.get NQ.GROUP_EN q); let y := x.put QPROBE.DEPTH_HWM i (x.get NQ.HWM q); if bit v 31 then y.clr NQ.HWM q else y)))
  ∧ (∀ (r : Req) (i v : Nat) (s : State), s.reachWord r (QPROBE.GROUP_ID.addr i) 4 = 0 → i < 9 → s.probeMay i (s.get QPROBE.SEL_Q i) = true → s.groupCode (s.get QPROBE.SEL_Q i) (v % 2 ^ 10) (bit v 15) = 0 → exec (.qprobeGroupWrite r i v) s = .next (((s.groupBind (s.get QPROBE.SEL_Q i) (v % 2 ^ 10) (bit v 15)).put QPROBE.GROUP_ID i (v % 2 ^ 10)).put QPROBE.GROUP_EN i (if bit v 15 then 1 else 0)))
  ∧ (∀ (r : Req) (i v : Nat) (s : State), s.reachWord r (QPROBE.GROUP_ID.addr i) 4 = 0 → i < 9 → s.probeMay i (s.get QPROBE.SEL_Q i) = false → exec (.qprobeGroupWrite r i v) s = .next (s.busErr r (0x701818 + 0x40 * i)))

/-- Queues, outputs, quotas and FIFOs: (Register writes are those that reach their register.) After eligibility is made anew, an output that asks releases the head of what its class and aggregate selection picks, its queue's eligibility then written, ends it EXPIRED past its lifetime, or, nothing picked, changes nothing more; one that does not ask changes nothing more. A queue's eligibility is made anew by itself; the sweep ends what has expired. Outside standby, the Hedge's traffic not owned by software, QUEUE_CFG of an entry the Hedge owns binds the queue to a group the rules allow and completes DONE. A Hedge's CTL takes EN, save where its plan's band is not the Hedge's: then BAD_CFG. A privileged CELL_QUOTA is taken, with the sum, while the sum stays within 65,536, and else only sets QUOTA_REFUSED. FIFO.CFG takes the entry size while disabled, the owner from the privileged view, and EN, enabling emptying the FIFO; BASE takes a multiple of 64 and DEPTH four times a power of two up to 2^13 while the FIFO is disabled, and else set BAD_CFG; CT_THR is taken always. Pointers that disagree freeze the FIFO, set PTR_FAULT and raise the fault, the owner's Hedge reset or the part's own; pointers that agree change nothing. The rules it rests on: R298, R299, R301, R303, R307, R308, R310, R314, R318, R321. -/
def Obligations.TrafficQueues : Prop :=
  (∀ (o : Nat) (s : State), o < 4 → s.refreshAll.requesting o = true → exec (.outputRequest o) s = .next ((fun u : State => match (u.pickClass o).bind (u.pickAgg o) with | none => u | some a => match u.aggHead a with | none => u | some d => if d.expiry ≤ u.mp then u.downEnd d 0x11 else (u.release d o).writeElig d.dest) s.refreshAll))
  ∧ (∀ (o : Nat) (s : State), o < 4 → s.refreshAll.requesting o = false → exec (.outputRequest o) s = .next (s.refreshAll))
  ∧ (∀ (q : Nat) (s : State), exec (.queueEligible q) s = .next (s.refreshOne (s.get E.HEDGE q) q))
  ∧ (∀ (s : State), exec (.expirySweep) s = .next (s.sweepExpired))
  ∧ (∀ (c : Cmd) (e group : Nat) (s : State), s.standby = false → s.expH c.ring 4 = false → s.named c.ring e = true → s.groupCode e (group % 2 ^ 10) (bit group 15) = 0 → exec (.queueCfg c e group) s = .next ((s.groupBind e (group % 2 ^ 10) (bit group 15)).finish c 0x18 0))
  ∧ (∀ (r : Req) (h v : Nat) (s : State), s.reachWord r (TMH.CTL_EN.addr h) 4 = 0 → h < 8 → ¬ (v % 2 = 1 ∧ bandOf (s.planFreq h (s.get CHPLAN.COUNT h - 1)) ≠ s.hedgeBand h) → exec (.tmhCtlWrite r h v) s = .next ((s.put TMH.CTL_EN h v).refreshAll))
  ∧ (∀ (r : Req) (h v : Nat) (s : State), s.reachWord r (TMH.CTL_EN.addr h) 4 = 0 → h < 8 → v % 2 = 1 → bandOf (s.planFreq h (s.get CHPLAN.COUNT h - 1)) ≠ s.hedgeBand h → exec (.tmhCtlWrite r h v) s = .next (s.set TMH.EVENT_BAD_CFG h))
  ∧ (∀ (r : Req) (h v : Nat) (s : State), s.reachWord r (TMH.CELL_QUOTA.addr h) 4 = 0 → viewOf r = 0 → h < 8 → s.get TMG.CELL_SUM - s.get TMH.CELL_QUOTA h + v % 2 ^ 17 ≤ 65536 → exec (.cellQuotaWrite r h v) s = .next ((s.put TMH.CELL_QUOTA h (v % 2 ^ 17)).put TMG.CELL_SUM 0 (s.get TMG.CELL_SUM - s.get TMH.CELL_QUOTA h + v % 2 ^ 17)))
  ∧ (∀ (r : Req) (h v : Nat) (s : State), s.reachWord r (TMH.CELL_QUOTA.addr h) 4 = 0 → viewOf r = 0 → h < 8 → 65536 < s.get TMG.CELL_SUM - s.get TMH.CELL_QUOTA h + v % 2 ^ 17 → exec (.cellQuotaWrite r h v) s = .next (s.set TMG.EVENT_QUOTA_REFUSED))
  ∧ (∀ (r : Req) (f v : Nat) (s : State), s.reachWord r (FIFO.CFG_EN.addr f + 0) 4 = 0 → f < 2048 → exec (.fifoCfgWrite r f 0 v) s = .next ((let en := s.on FIFO.CFG_EN f; let e := bits v 1 2; let u := if e = s.get FIFO.CFG_ESIZE f then s else if en ∨ e = 3 then s.set FIFO.EVENT_BAD_CFG f else s.put FIFO.CFG_ESIZE f e; let w := u.putIf (viewOf r == 0) FIFO.CFG_OWNER f (bits v 24 4); (w.when (!en && v % 2 == 1) (·.fifoClear f)).put FIFO.CFG_EN f v)))
  ∧ (∀ (r : Req) (f v : Nat) (s : State), s.reachWord r (FIFO.CFG_EN.addr f + 4) 4 = 0 → f < 2048 → s.get FIFO.CFG_EN f = 0 → v % 64 = 0 → exec (.fifoCfgWrite r f 4 v) s = .next (s.put FIFO.BASE f v))
  ∧ (∀ (r : Req) (f v : Nat) (s : State), s.reachWord r (FIFO.CFG_EN.addr f + 4) 4 = 0 → f < 2048 → (s.get FIFO.CFG_EN f ≠ 0 ∨ v % 64 ≠ 0) → exec (.fifoCfgWrite r f 4 v) s = .next (s.set FIFO.EVENT_BAD_CFG f))
  ∧ (∀ (r : Req) (f v : Nat) (s : State), s.reachWord r (FIFO.CFG_EN.addr f + 8) 4 = 0 → f < 2048 → s.get FIFO.CFG_EN f = 0 → ((List.range 14).any (fun k => v % 2 ^ 16 == 4 * 2 ^ k) = true) → exec (.fifoCfgWrite r f 8 v) s = .next (s.put FIFO.DEPTH f v))
  ∧ (∀ (r : Req) (f v : Nat) (s : State), s.reachWord r (FIFO.CFG_EN.addr f + 8) 4 = 0 → f < 2048 → (s.get FIFO.CFG_EN f ≠ 0 ∨ (List.range 14).any (fun k => v % 2 ^ 16 == 4 * 2 ^ k) = false) → exec (.fifoCfgWrite r f 8 v) s = .next (s.set FIFO.EVENT_BAD_CFG f))
  ∧ (∀ (r : Req) (f v : Nat) (s : State), s.reachWord r (FIFO.CFG_EN.addr f + 0xC) 4 = 0 → f < 2048 → exec (.fifoCfgWrite r f 0xC v) s = .next (s.put FIFO.CT_THR f v))
  ∧ (∀ (f : Nat) (s : State), f < 2048 → exec (.fifoPtrCheck f false) s = .next ((let u := (s.set FIFO.STATUS_FROZEN f).set FIFO.EVENT_PTR_FAULT f; if s.get FIFO.CFG_OWNER f < 8 then u.fault 0x0601 f 3 (some (s.get FIFO.CFG_OWNER f)) f else u.fault 0x0601 f 4 none f)))
  ∧ (∀ (f : Nat) (s : State), exec (.fifoPtrCheck f true) s = .next (s))

/-- The key commands: KEY_IMPORT of fields in range, the target given and free or the Hedge's own, the parent not another's and usable as a wrapping key under level 6, counts the use and the curve's work and writes the unwrapped key with DONE and its slot, or completes POLICY where the blob does not unwrap to a key of its type. KEY_DERIVE, likewise, under a deriving key and with a label outside the part's own, counts the use and writes the derived key. KEY_ERASE empties a slot of the Hedge's from 16 up and completes DONE, and completes ACCESS_DENIED for slots under 16. KEY_INFO answers the metadata of the Hedge's root, slot 8 or a slot of its own. HEDGE_KEY_WIPE with its confirmation makes a new root, clears the anchors and their lock and forgets the Hedge's derived keys. TRUST_SET of anchor 0 or 1 writes its words, shows it valid and locks where asked while the lock is clear, and anchor 1 under the lock completes ACCESS_DENIED; a write of the lock bit that reaches its register sets it. ATTEST with a challenge not zero under a signing key of the Hedge answers the state block and its code and counts the use. Outside standby NODE_REKEY of an entry of the Hedge starts and completes with the code of the start, an exhausted counter counted; GROUP_REKEY, ACCEPTED where the descriptor asks, starts likewise, and completes BUSY_RETRY while one runs. KEY_DESTROY_ALL with its confirmation ends the life cycle at 3 with every slot empty, all slots free and no derived key, DONE, and without it completes BAD_DESCRIPTOR. The rules it rests on: R334, R339, R340, R342, R354, R356, R358, R360. -/
def Obligations.KeyCommands : Prop :=
  (∀ (c : Cmd) (target parent use type len addr n : Nat) (s : State), (¬ (3 < use ∨ 3 < type ∨ 128 < len ∨ 1024 ≤ target ∨ 1024 ≤ parent)) → s.foreignSlot c.ring parent = false → s.targetSlot c.ring target = (0, n) → s.slotCode parent = 0 → s.get KSLOT.META_USE parent = 2 → (parent = 8 ∨ s.get KSLOT.META_TYPE parent = 1) → s.slotCode (if parent = 8 then c.ring else parent) = 0 → s.get KSLOT.META_LEVEL (if parent = 8 then c.ring else parent) < 6 → exec (.keyImport c target parent use type len addr) s = .next ((fun w : State => match w.unwrap c.ring target parent (s.cmdData c addr len) with | none => w.finish c 0x41 0x09 | some m => if m.length ≠ matLen type then w.finish c 0x41 0x09 else (w.slotWrite n c.ring (if parent = 8 then c.ring else parent) use type m).slotDone c 0x41 n) ((s.when (parent == 8) (·.bump SEC.ECC_CNT)).bump KSLOT.USE_CNT parent)))
  ∧ (∀ (c : Cmd) (target parent use type labelLen ctxLen addr n : Nat) (s : State), (¬ (3 < use ∨ 2 < type ∨ 32 < labelLen ∨ 64 < ctxLen ∨ 1024 ≤ target ∨ 1024 ≤ parent ∨ ((s.cmdData c addr (labelLen + ctxLen)).take labelLen).take 4 = asc "XTH ")) → s.foreignSlot c.ring parent = false → s.targetSlot c.ring target = (0, n) → s.slotCode parent = 0 → s.get KSLOT.META_USE parent = 3 → s.get KSLOT.META_LEVEL parent < 6 → exec (.keyDerive c target parent use type labelLen ctxLen addr) s = .next (((s.bump KSLOT.USE_CNT parent).slotWrite n c.ring parent use type (kdf (s.material parent) ((s.cmdData c addr (labelLen + ctxLen)).take labelLen) ((s.cmdData c addr (labelLen + ctxLen)).drop labelLen) (8 * matLen type))).slotDone c 0x42 n))
  ∧ (∀ (c : Cmd) (slot : Nat) (s : State), 16 ≤ slot → slot < 1024 → s.ownSlot c.ring slot = true → exec (.keyErase c slot) s = .next ((s.slotErase slot).finish c 0x43 0))
  ∧ (∀ (c : Cmd) (slot : Nat) (s : State), slot < 16 → exec (.keyErase c slot) s = .next (s.finish c 0x43 0x13))
  ∧ (∀ (c : Cmd) (slot : Nat) (s : State), slot < 1024 → (slot = c.ring ∨ slot = 8 ∨ (16 ≤ slot ∧ s.ownSlot c.ring slot = true)) → exec (.keyInfo c slot) s = .next (s.complete c 0x44 0 0 0 [(24, s.slotOctets slot)]))
  ∧ (∀ (c : Cmd) (s : State), s.rooted = true → exec (.hedgeKeyWipe c 0x45504957) s = .next ((fun w : State => ({ w with kcache := w.kcache.filter (·.hedge != c.ring) } : State).finish c 0x45 0) ((((((s.bump SECH.HEDGE_EPOCH c.ring).newHedgeRoot c.ring).each (List.range 24) fun x i => (x.clr TRUST.ANCHOR0 (64 * c.ring + i)).clr TRUST.ANCHOR1 (64 * c.ring + i)).clr TRUST.CTL_VALID0 c.ring).clr TRUST.CTL_VALID1 c.ring).clr TRUST.CTL_LOCK c.ring)))
  ∧ (∀ (c : Cmd) (anchor addr : Nat) (k : Bool) (s : State), anchor ≤ 1 → s.get TRUST.CTL_LOCK c.ring = 0 → exec (.trustSet c anchor k addr) s = .next (((((s.each (List.range 24) fun x i => x.put (if anchor = 0 then TRUST.ANCHOR0 else TRUST.ANCHOR1) (64 * c.ring + i) (oct (s.cmdData c addr 96) (4 * i) 4)).set (if anchor = 0 then TRUST.CTL_VALID0 else TRUST.CTL_VALID1) c.ring).when k (·.set TRUST.CTL_LOCK c.ring)).finish c 0x46 0)))
  ∧ (∀ (c : Cmd) (addr : Nat) (k : Bool) (s : State), s.get TRUST.CTL_LOCK c.ring ≠ 0 → exec (.trustSet c 1 k addr) s = .next (s.finish c 0x46 0x13))
  ∧ (∀ (r : Req) (h v : Nat) (s : State), s.reachWord r (TRUST.CTL_LOCK.addr h) 4 = 0 → h < 8 → bit v 2 = true → exec (.trustLockSet r h v) s = .next (s.set TRUST.CTL_LOCK h))
  ∧ (∀ (c : Cmd) (slot addr : Nat) (challenge : List Nat) (s : State), slot < 1024 → (fix 32 challenge).all (· == 0) = false → (s.get KSLOT.META_STATE slot = 0 ∨ s.get KSLOT.META_OWNER slot = c.ring) → s.slotCode slot = 0 → s.get KSLOT.META_USE slot = 0 → s.get KSLOT.META_TYPE slot = 2 → exec (.attest c slot challenge addr) s = .next ((fun w : State => w.answer c 0x47 addr (w.stateBlock c.ring ++ fix 32 (Config.hmac256 (w.material slot) (asc "XTH-ATTEST-1" ++ fix 32 challenge ++ w.stateBlock c.ring)))) (s.bump KSLOT.USE_CNT slot)))
  ∧ (∀ (c : Cmd) (e : Nat) (s : State), s.standby = false → s.named c.ring e = true → exec (.nodeRekey c e) s = .next (((s.startRekey e).2.when ((s.startRekey e).1 == 0x0C) (·.bump SECH.EXHAUSTED c.ring)).finish c 0x48 (s.startRekey e).1))
  ∧ (∀ (c : Cmd) (s : State), s.standby = false → s.get GRPX.RUN c.ring = 0 → exec (.groupRekey c) s = .next (((s.accepted c 0x49).startGroup c.ring).2.finish c 0x49 ((s.accepted c 0x49).startGroup c.ring).1))
  ∧ (∀ (c : Cmd) (s : State), s.standby = false → s.get GRPX.RUN c.ring ≠ 0 → exec (.groupRekey c) s = .next (s.draw.2.complete c 0x49 0x02 0 s.draw.1 []))
  ∧ (∀ (c : Cmd) (k : Nat) (s : State), k ≠ 0x4C4C4144 → exec (.keyDestroyAll c k) s = .next (s.finish c 0x71 0x12))
  ∧ (∀ (c : Cmd) (s : State), completes (.keyDestroyAll c 0x4C4C4144) s fun t => ∃ u : State, t = u.finish c 0x71 0 ∧ u.get OTP.LIFE = 3 ∧ u.get SEC.STATUS_LIFE = 3 ∧ u.get SEC.SLOT_FREE = 1008 ∧ u.kcache = [] ∧ (∀ n, u.get KSLOT.META_STATE n = 0) ∧ ∀ h, h < 8 → u.get SECH.SLOTS_USED h = 0)

/-- Keys over time: A DRBG that fails its test stops; a stopped one that passes serves again and one that fails again stops again. The orphan sweep marks orphan each slot in use whose chain of parents is broken; retired entries, whose slot has moved on or cannot be used, leave the derived-key cache. A privileged quota write that reaches its register is taken, with the sum, while the sum stays within 1,008, and else only sets QUOTA_REFUSED. Part 2 of a split Join Response whose first part is over is posted to an entry still JOINING. Outside standby a rekey that waits is started again at its time. A group rekey's switch at its instant makes the next generation the group's, its counter 0, the old one kept as previous, sets GROUP_SWITCHED and posts its event; at the overlap's end the previous one falls. The rules it rests on: R333, R334, R339, R340, R344, R351, R352, R354, R356. -/
def Obligations.KeyEvents : Prop :=
  (∀ (s : State), exec (.drbgHealthFail) s = .next (s.drbgFail))
  ∧ (∀ (s : State), s.get SEC.STATUS_DRBG_OK = 0 → exec (.drbgRestart true) s = .next (s.set SEC.STATUS_DRBG_OK))
  ∧ (∀ (s : State), s.get SEC.STATUS_DRBG_OK = 0 → exec (.drbgRestart false) s = .next (s.drbgFail))
  ∧ (∀ (s : State), exec (.keyOrphanSweep) s = .next (s.each ((List.range 1024).filter fun n => s.get KSLOT.META_STATE n == 1 && !s.graftOk 7 n) fun x n => x.put KSLOT.META_STATE n 2))
  ∧ (∀ (s : State), exec (.keyRetireZero) s = .next ({ s with kcache := s.kcache.filter fun x => x.slotGen == s.get KSLOT.GEN_GEN x.slot && s.slotCode x.slot == 0 }))
  ∧ (∀ (r : Req) (h v : Nat) (s : State), s.reachWord r (SECH.SLOT_QUOTA.addr h) 4 = 0 → viewOf r = 0 → h < 8 → s.get SEC.QUOTA_SUM - s.get SECH.SLOT_QUOTA h + v % 2 ^ 10 ≤ 1008 → exec (.slotQuotaWrite r h v) s = .next ((s.put SECH.SLOT_QUOTA h (v % 2 ^ 10)).put SEC.QUOTA_SUM 0 (s.get SEC.QUOTA_SUM - s.get SECH.SLOT_QUOTA h + v % 2 ^ 10)))
  ∧ (∀ (r : Req) (h v : Nat) (s : State), s.reachWord r (SECH.SLOT_QUOTA.addr h) 4 = 0 → viewOf r = 0 → h < 8 → 1008 < s.get SEC.QUOTA_SUM - s.get SECH.SLOT_QUOTA h + v % 2 ^ 10 → exec (.slotQuotaWrite r h v) s = .next (s.set SEC.EVENT_QUOTA_REFUSED))
  ∧ (∀ (e : Nat) (x : Split) (s : State), s.splits.find? (·.entry == e) = some x → s.down x.uid = none → s.get E.STATE e = stJoining → exec (.joinResponsePart2 e) s = .next (({ s with splits := s.splits.erase x } : State).postCommand e .kek x.payload))
  ∧ (∀ (e : Nat) (s : State), s.get NODE.REKEY_ON e ≠ 0 → s.standby = false → after32 ((s.get NODE.REKEY_AT e + s.get SECH.REKEY_RETRY_S (s.get E.HEDGE e)) % 2 ^ 32) s.mpSec = false → exec (.rekeyRetryExpire e) s = .next ((s.startRekey e).2))
  ∧ (∀ (h : Nat) (s : State), s.get GRPX.RUN h ≠ 0 → after32 (s.get GRPX.SWITCH_AT h) s.mpSec = false → exec (.groupSwitch h) s = .next ((let g := nextGen (s.get SECH.GROUP_GEN h); let u := (s.put GRPX.PREV h (s.get SECH.GROUP_GEN h)).put GRPX.PREV_AT h ((s.put GRPX.PREV h (s.get SECH.GROUP_GEN h)).get GRPX.SWITCH_AT h + (s.put GRPX.PREV h (s.get SECH.GROUP_GEN h)).get SECH.GROUP_OVERLAP_S h); let w := ((u.put SECH.GROUP_GEN h g).put SECH.GROUP_INDEX h (groupIndex g)).clr SECH.GROUP_TX_CNT h; let x := ((w.clr GRPX.CEIL h).clr GRPX.RUN h).clr GRPX.WARN h; (x.set SECH.EVENT_GROUP_SWITCHED h).event h 0x0A [(16, le 2 g), (18, [groupIndex g])])))
  ∧ (∀ (h : Nat) (s : State), s.get GRPX.PREV h ≠ 0 → after32 (s.get GRPX.PREV_AT h) s.mpSec = false → exec (.groupOverlapEnd h) s = .next (s.clr GRPX.PREV h))

/-- Sums and differences of a thread: When a ready thread whose PC lies in its range issues ADD, SUB, ADDC, SUBC or ADDI, the next state is the model's write-back (State.result) of the sum or the difference modulo 2^32 into rd with the flags of sumFlags: Z that it is zero, N its bit 31, C that the sum without sign reaches 2^32 (for a difference: that nothing is borrowed), V that the value with sign lies outside 32 bits. That write-back counts the issue, moves the PC on by 4, leaves every register of the thread but rd, and all of them for w0, and every other field, byte of memory and queue as it was. The rules it rests on: R368, R399, R402, R403, R404. -/
def Obligations.ThreadSums : Prop :=
  (∀ (g : Nat) (rd ra rb : BitVec 5) (s : State), s.issues g = true → exec (.add g rd ra rb) s = .next (s.result g rd ((s.r g ra + s.r g rb) % 2 ^ 32) (sumFlags (s.r g ra + s.r g rb) (toInt 32 (s.r g ra) + toInt 32 (s.r g rb)))))
  ∧ (∀ (g : Nat) (rd ra rb : BitVec 5) (s : State), s.issues g = true → exec (.sub g rd ra rb) s = .next (s.result g rd ((2 ^ 32 + s.r g ra - s.r g rb) % 2 ^ 32) (sumFlags (2 ^ 32 + s.r g ra - s.r g rb) (toInt 32 (s.r g ra) - toInt 32 (s.r g rb)))))
  ∧ (∀ (g : Nat) (rd ra rb : BitVec 5) (s : State), s.issues g = true → exec (.addc g rd ra rb) s = .next (s.result g rd ((s.r g ra + s.r g rb + (s.get THR.FLAGS g / 2 % 2)) % 2 ^ 32) (sumFlags (s.r g ra + s.r g rb + (s.get THR.FLAGS g / 2 % 2)) (toInt 32 (s.r g ra) + toInt 32 (s.r g rb) + ((s.get THR.FLAGS g / 2 % 2) : Nat)))))
  ∧ (∀ (g : Nat) (rd ra rb : BitVec 5) (s : State), s.issues g = true → exec (.subc g rd ra rb) s = .next (s.result g rd ((2 ^ 32 + s.r g ra - s.r g rb - 1 + (s.get THR.FLAGS g / 2 % 2)) % 2 ^ 32) (sumFlags (2 ^ 32 + s.r g ra - s.r g rb - 1 + (s.get THR.FLAGS g / 2 % 2)) (toInt 32 (s.r g ra) - toInt 32 (s.r g rb) - 1 + ((s.get THR.FLAGS g / 2 % 2) : Nat)))))
  ∧ (∀ (g : Nat) (rd ra : BitVec 5) (imm : BitVec 16) (s : State), s.issues g = true → exec (.addi g rd ra imm) s = .next (s.result g rd ((s.r g ra + (imm.toInt % 2 ^ 32).toNat) % 2 ^ 32) (sumFlags (s.r g ra + (imm.toInt % 2 ^ 32).toNat) (toInt 32 (s.r g ra) + imm.toInt))))
  ∧ (∀ (g v f : Nat) (rd : BitVec 5) (s : State), f < 16 → (s.result g rd v f).get THR.PC g = (s.get THR.PC g + 4) % 2 ^ 32 ∧ (s.result g rd v f).get THR.FLAGS g = f ∧ (rd ≠ 0 → (s.result g rd v f).get THR.W (32 * g + rd.toNat) = v % 2 ^ 32) ∧ sameBut s (s.result g rd v f) [(ENGE.ISSUE_CNT, g / 4), (THR.PC, g), (THR.FLAGS, g), (THR.W, 32 * g + rd.toNat)] ∧ (rd = 0 → sameBut s (s.result g rd v f) [(ENGE.ISSUE_CNT, g / 4), (THR.PC, g), (THR.FLAGS, g)]))

/-- Logic and shifts of a thread: When a ready thread whose PC lies in its range issues AND, OR, XOR, ANDN, a shift or a rotation, or an immediate form of them, the next state is the model's write-back (State.result) of the result into rd with Z and N of the result and C and V as they were; a shift counts by b[4:0] and SAR copies bit 31 in; an immediate shift needs imm[15:5] zero and LUI, which writes its immediate in the high half and changes no flag (State.moved), needs ra zero: each of these four traps with ILLEGAL instead. The rules it rests on: R399, R402, R403, R404. -/
def Obligations.ThreadLogicAndShifts : Prop :=
  (∀ (g : Nat) (rd ra rb : BitVec 5) (s : State), s.issues g = true → exec (.and g rd ra rb) s = .next (s.result g rd (Nat.land (s.r g ra) (s.r g rb)) (s.get THR.FLAGS g % 4 + resultFlags (Nat.land (s.r g ra) (s.r g rb)))))
  ∧ (∀ (g : Nat) (rd ra rb : BitVec 5) (s : State), s.issues g = true → exec (.or g rd ra rb) s = .next (s.result g rd (Nat.lor (s.r g ra) (s.r g rb)) (s.get THR.FLAGS g % 4 + resultFlags (Nat.lor (s.r g ra) (s.r g rb)))))
  ∧ (∀ (g : Nat) (rd ra rb : BitVec 5) (s : State), s.issues g = true → exec (.xor g rd ra rb) s = .next (s.result g rd (Nat.xor (s.r g ra) (s.r g rb)) (s.get THR.FLAGS g % 4 + resultFlags (Nat.xor (s.r g ra) (s.r g rb)))))
  ∧ (∀ (g : Nat) (rd ra rb : BitVec 5) (s : State), s.issues g = true → exec (.andn g rd ra rb) s = .next (s.result g rd (s.r g ra - Nat.land (s.r g ra) (s.r g rb)) (s.get THR.FLAGS g % 4 + resultFlags (s.r g ra - Nat.land (s.r g ra) (s.r g rb)))))
  ∧ (∀ (g : Nat) (rd ra rb : BitVec 5) (s : State), s.issues g = true → exec (.shl g rd ra rb) s = .next (s.result g rd ((s.r g ra * 2 ^ (s.r g rb % 32)) % 2 ^ 32) (s.get THR.FLAGS g % 4 + resultFlags ((s.r g ra * 2 ^ (s.r g rb % 32)) % 2 ^ 32))))
  ∧ (∀ (g : Nat) (rd ra rb : BitVec 5) (s : State), s.issues g = true → exec (.shr g rd ra rb) s = .next (s.result g rd (s.r g ra / 2 ^ (s.r g rb % 32)) (s.get THR.FLAGS g % 4 + resultFlags (s.r g ra / 2 ^ (s.r g rb % 32)))))
  ∧ (∀ (g : Nat) (rd ra rb : BitVec 5) (s : State), s.issues g = true → exec (.sar g rd ra rb) s = .next (s.result g rd ((toInt 32 (s.r g ra) / 2 ^ (s.r g rb % 32) % 2 ^ 32).toNat) (s.get THR.FLAGS g % 4 + resultFlags ((toInt 32 (s.r g ra) / 2 ^ (s.r g rb % 32) % 2 ^ 32).toNat))))
  ∧ (∀ (g : Nat) (rd ra rb : BitVec 5) (s : State), s.issues g = true → exec (.rol g rd ra rb) s = .next (s.result g rd ((s.r g ra * 2 ^ (s.r g rb % 32) + s.r g ra / 2 ^ (32 - s.r g rb % 32)) % 2 ^ 32) (s.get THR.FLAGS g % 4 + resultFlags ((s.r g ra * 2 ^ (s.r g rb % 32) + s.r g ra / 2 ^ (32 - s.r g rb % 32)) % 2 ^ 32))))
  ∧ (∀ (g : Nat) (rd ra : BitVec 5) (imm : BitVec 16) (s : State), s.issues g = true → exec (.andi g rd ra imm) s = .next (s.result g rd (Nat.land (s.r g ra) imm.toNat) (s.get THR.FLAGS g % 4 + resultFlags (Nat.land (s.r g ra) imm.toNat))))
  ∧ (∀ (g : Nat) (rd ra : BitVec 5) (imm : BitVec 16) (s : State), s.issues g = true → exec (.ori g rd ra imm) s = .next (s.result g rd (Nat.lor (s.r g ra) imm.toNat) (s.get THR.FLAGS g % 4 + resultFlags (Nat.lor (s.r g ra) imm.toNat))))
  ∧ (∀ (g : Nat) (rd ra : BitVec 5) (imm : BitVec 16) (s : State), s.issues g = true → exec (.xori g rd ra imm) s = .next (s.result g rd (Nat.xor (s.r g ra) imm.toNat) (s.get THR.FLAGS g % 4 + resultFlags (Nat.xor (s.r g ra) imm.toNat))))
  ∧ (∀ (g : Nat) (rd ra : BitVec 5) (imm : BitVec 16) (s : State), s.issues g = true → imm.toNat < 32 → exec (.shli g rd ra imm) s = .next (s.result g rd ((s.r g ra * 2 ^ imm.toNat) % 2 ^ 32) (s.get THR.FLAGS g % 4 + resultFlags ((s.r g ra * 2 ^ imm.toNat) % 2 ^ 32))))
  ∧ (∀ (g : Nat) (rd ra : BitVec 5) (imm : BitVec 16) (s : State), s.issues g = true → imm.toNat < 32 → exec (.shri g rd ra imm) s = .next (s.result g rd (s.r g ra / 2 ^ imm.toNat) (s.get THR.FLAGS g % 4 + resultFlags (s.r g ra / 2 ^ imm.toNat))))
  ∧ (∀ (g : Nat) (rd ra : BitVec 5) (imm : BitVec 16) (s : State), s.issues g = true → imm.toNat < 32 → exec (.sari g rd ra imm) s = .next (s.result g rd ((toInt 32 (s.r g ra) / 2 ^ imm.toNat % 2 ^ 32).toNat) (s.get THR.FLAGS g % 4 + resultFlags ((toInt 32 (s.r g ra) / 2 ^ imm.toNat % 2 ^ 32).toNat))))
  ∧ (∀ (g : Nat) (rd ra : BitVec 5) (imm : BitVec 16) (s : State), s.issues g = true → ra = 0 → exec (.lui g rd ra imm) s = .next (s.moved g rd (imm.toNat * 2 ^ 16)))
  ∧ (∀ (g : Nat) (rd ra : BitVec 5) (imm : BitVec 16) (s : State), s.issues g = true → 32 ≤ imm.toNat → exec (.shli g rd ra imm) s = .next ((s.issued g).trap g 0x01 (wordI 0x05 rd ra imm.toNat)))
  ∧ (∀ (g : Nat) (rd ra : BitVec 5) (imm : BitVec 16) (s : State), s.issues g = true → 32 ≤ imm.toNat → exec (.shri g rd ra imm) s = .next ((s.issued g).trap g 0x01 (wordI 0x06 rd ra imm.toNat)))
  ∧ (∀ (g : Nat) (rd ra : BitVec 5) (imm : BitVec 16) (s : State), s.issues g = true → 32 ≤ imm.toNat → exec (.sari g rd ra imm) s = .next ((s.issued g).trap g 0x01 (wordI 0x07 rd ra imm.toNat)))
  ∧ (∀ (g : Nat) (rd ra : BitVec 5) (imm : BitVec 16) (s : State), s.issues g = true → ra ≠ 0 → exec (.lui g rd ra imm) s = .next ((s.issued g).trap g 0x01 (wordI 0x09 rd ra imm.toNat)))

/-- Products, counts and comparisons of a thread: When a ready thread whose PC lies in its range issues MUL, MULHU, MULHS, CLZ, POPC, MIN, MAX, MINU, MAXU, SLT, SLTU or SLTI, the next state is the model's write-back (State.result) into rd of the low or the high word of the product, 31 less the position of the highest one (32 for zero), the number of ones, the smaller or the larger value, or 1 where the comparison holds and else 0, with Z and N of it and C and V as they were; CLZ and POPC need rb zero and trap with ILLEGAL instead. The rules it rests on: R399, R402, R403, R404. -/
def Obligations.ThreadProductsAndCompares : Prop :=
  (∀ (g : Nat) (rd ra rb : BitVec 5) (s : State), s.issues g = true → exec (.mul g rd ra rb) s = .next (s.result g rd (s.r g ra * s.r g rb % 2 ^ 32) (s.get THR.FLAGS g % 4 + resultFlags (s.r g ra * s.r g rb % 2 ^ 32))))
  ∧ (∀ (g : Nat) (rd ra rb : BitVec 5) (s : State), s.issues g = true → exec (.mulhu g rd ra rb) s = .next (s.result g rd (s.r g ra * s.r g rb / 2 ^ 32) (s.get THR.FLAGS g % 4 + resultFlags (s.r g ra * s.r g rb / 2 ^ 32))))
  ∧ (∀ (g : Nat) (rd ra rb : BitVec 5) (s : State), s.issues g = true → exec (.mulhs g rd ra rb) s = .next (s.result g rd ((toInt 32 (s.r g ra) * toInt 32 (s.r g rb) / 2 ^ 32 % 2 ^ 32).toNat) (s.get THR.FLAGS g % 4 + resultFlags ((toInt 32 (s.r g ra) * toInt 32 (s.r g rb) / 2 ^ 32 % 2 ^ 32).toNat))))
  ∧ (∀ (g : Nat) (rd ra rb : BitVec 5) (s : State), s.issues g = true → rb = 0 → exec (.clz g rd ra rb) s = .next (s.result g rd (if s.r g ra = 0 then 32 else 31 - (s.r g ra).log2) (s.get THR.FLAGS g % 4 + resultFlags (if s.r g ra = 0 then 32 else 31 - (s.r g ra).log2))))
  ∧ (∀ (g : Nat) (rd ra rb : BitVec 5) (s : State), s.issues g = true → rb = 0 → exec (.popc g rd ra rb) s = .next (s.result g rd (((List.range 32).filter fun i => s.r g ra / 2 ^ i % 2 == 1).length) (s.get THR.FLAGS g % 4 + resultFlags (((List.range 32).filter fun i => s.r g ra / 2 ^ i % 2 == 1).length))))
  ∧ (∀ (g : Nat) (rd ra rb : BitVec 5) (s : State), s.issues g = true → exec (.min g rd ra rb) s = .next (s.result g rd (if toInt 32 (s.r g ra) < toInt 32 (s.r g rb) then s.r g ra else s.r g rb) (s.get THR.FLAGS g % 4 + resultFlags (if toInt 32 (s.r g ra) < toInt 32 (s.r g rb) then s.r g ra else s.r g rb))))
  ∧ (∀ (g : Nat) (rd ra rb : BitVec 5) (s : State), s.issues g = true → exec (.max g rd ra rb) s = .next (s.result g rd (if toInt 32 (s.r g rb) < toInt 32 (s.r g ra) then s.r g ra else s.r g rb) (s.get THR.FLAGS g % 4 + resultFlags (if toInt 32 (s.r g rb) < toInt 32 (s.r g ra) then s.r g ra else s.r g rb))))
  ∧ (∀ (g : Nat) (rd ra rb : BitVec 5) (s : State), s.issues g = true → exec (.minu g rd ra rb) s = .next (s.result g rd (Nat.min (s.r g ra) (s.r g rb)) (s.get THR.FLAGS g % 4 + resultFlags (Nat.min (s.r g ra) (s.r g rb)))))
  ∧ (∀ (g : Nat) (rd ra rb : BitVec 5) (s : State), s.issues g = true → exec (.maxu g rd ra rb) s = .next (s.result g rd (Nat.max (s.r g ra) (s.r g rb)) (s.get THR.FLAGS g % 4 + resultFlags (Nat.max (s.r g ra) (s.r g rb)))))
  ∧ (∀ (g : Nat) (rd ra rb : BitVec 5) (s : State), s.issues g = true → exec (.slt g rd ra rb) s = .next (s.result g rd (if toInt 32 (s.r g ra) < toInt 32 (s.r g rb) then 1 else 0) (s.get THR.FLAGS g % 4 + resultFlags (if toInt 32 (s.r g ra) < toInt 32 (s.r g rb) then 1 else 0))))
  ∧ (∀ (g : Nat) (rd ra rb : BitVec 5) (s : State), s.issues g = true → exec (.sltu g rd ra rb) s = .next (s.result g rd (if s.r g ra < s.r g rb then 1 else 0) (s.get THR.FLAGS g % 4 + resultFlags (if s.r g ra < s.r g rb then 1 else 0))))
  ∧ (∀ (g : Nat) (rd ra : BitVec 5) (imm : BitVec 16) (s : State), s.issues g = true → exec (.slti g rd ra imm) s = .next (s.result g rd (if toInt 32 (s.r g ra) < imm.toInt then 1 else 0) (s.get THR.FLAGS g % 4 + resultFlags (if toInt 32 (s.r g ra) < imm.toInt then 1 else 0))))
  ∧ (∀ (g : Nat) (rd ra rb : BitVec 5) (s : State), s.issues g = true → rb ≠ 0 → exec (.clz g rd ra rb) s = .next ((s.issued g).trap g 0x01 (wordR 0x00 rd ra rb 0x00F)))
  ∧ (∀ (g : Nat) (rd ra rb : BitVec 5) (s : State), s.issues g = true → rb ≠ 0 → exec (.popc g rd ra rb) s = .next ((s.issued g).trap g 0x01 (wordR 0x00 rd ra rb 0x010)))

/-- Bit fields, CRCs and hashes of a thread: When a ready thread whose PC lies in its range issues EXT, EXTU, INS, BSWAP, CRC32C, CRC16 or HASH, the next state is the model's write-back without flags (State.moved) into rd of the field with or without its sign, rd's own value with the field replaced, the octets in reverse order, the CRC advanced over 1, 2 or 4 octets of b, or the hash; that write-back counts the issue, moves the PC on by 4 and leaves all but rd as it was. A field of EXT, EXTU or INS that does not fit 32 bits, a count of CRC32C or CRC16 other than 1, 2 and 4, and a non-zero pos or len of BSWAP trap with ILLEGAL instead. The rules it rests on: R399, R402, R407, R408. -/
def Obligations.ThreadFieldsAndHashes : Prop :=
  (∀ (g : Nat) (rd ra pos len : BitVec 5) (s : State), s.issues g = true → pos.toNat + len.toNat < 32 → exec (.ext g rd ra pos len) s = .next (s.moved g rd (if (s.r g ra / 2 ^ pos.toNat % 2 ^ (len.toNat + 1)) < 2 ^ len.toNat then (s.r g ra / 2 ^ pos.toNat % 2 ^ (len.toNat + 1)) else (s.r g ra / 2 ^ pos.toNat % 2 ^ (len.toNat + 1)) + 2 ^ 32 - 2 ^ (len.toNat + 1))))
  ∧ (∀ (g : Nat) (rd ra pos len : BitVec 5) (s : State), s.issues g = true → pos.toNat + len.toNat < 32 → exec (.extu g rd ra pos len) s = .next (s.moved g rd ((s.r g ra / 2 ^ pos.toNat % 2 ^ (len.toNat + 1)))))
  ∧ (∀ (g : Nat) (rd ra pos len : BitVec 5) (s : State), s.issues g = true → pos.toNat + len.toNat < 32 → exec (.ins g rd ra pos len) s = .next (s.moved g rd (s.r g rd % 2 ^ pos.toNat + s.r g ra % 2 ^ (len.toNat + 1) * 2 ^ pos.toNat + s.r g rd / 2 ^ (pos.toNat + len.toNat + 1) * 2 ^ (pos.toNat + len.toNat + 1))))
  ∧ (∀ (g : Nat) (rd ra : BitVec 5) (s : State), s.issues g = true → exec (.bswap g rd ra 0 0) s = .next (s.moved g rd (s.r g ra % 256 * 2 ^ 24 + s.r g ra / 2 ^ 8 % 256 * 2 ^ 16 + s.r g ra / 2 ^ 16 % 256 * 2 ^ 8 + s.r g ra / 2 ^ 24)))
  ∧ (∀ (g : Nat) (rd ra rb : BitVec 5) (n : BitVec 3) (s : State), s.issues g = true → (n = 1 ∨ n = 2 ∨ n = 4) → exec (.crc32c g rd ra rb n) s = .next (s.moved g rd (crcAdvance 0x82F63B78 (s.r g ra) ((List.range n.toNat).map fun i => s.r g rb / 2 ^ (8 * i) % 256))))
  ∧ (∀ (g : Nat) (rd ra rb : BitVec 5) (n : BitVec 3) (s : State), s.issues g = true → (n = 1 ∨ n = 2 ∨ n = 4) → exec (.crc16 g rd ra rb n) s = .next (s.moved g rd (crcAdvance 0x8408 (s.r g ra % 2 ^ 16) ((List.range n.toNat).map fun i => s.r g rb / 2 ^ (8 * i) % 256))))
  ∧ (∀ (g : Nat) (rd ra rb : BitVec 5) (s : State), s.issues g = true → exec (.hash g rd ra rb) s = .next (s.moved g rd (Nat.xor (s.r g ra) (s.r g rb) * 0x9E3779B1 % 2 ^ 32 / 2 ^ 16)))
  ∧ (∀ (g : Nat) (rd ra pos len : BitVec 5) (s : State), s.issues g = true → 32 ≤ pos.toNat + len.toNat → exec (.ext g rd ra pos len) s = .next ((s.issued g).trap g 0x01 (wordF rd ra pos len 0)))
  ∧ (∀ (g : Nat) (rd ra rb : BitVec 5) (n : BitVec 3) (s : State), s.issues g = true → n ≠ 1 → n ≠ 2 → n ≠ 4 → exec (.crc32c g rd ra rb n) s = .next ((s.issued g).trap g 0x01 (wordR 0x19 rd ra rb n.toNat)))
  ∧ (∀ (g : Nat) (rd ra pos len : BitVec 5) (s : State), s.issues g = true → 32 ≤ pos.toNat + len.toNat → exec (.extu g rd ra pos len) s = .next ((s.issued g).trap g 0x01 (wordF rd ra pos len 1)))
  ∧ (∀ (g : Nat) (rd ra pos len : BitVec 5) (s : State), s.issues g = true → 32 ≤ pos.toNat + len.toNat → exec (.ins g rd ra pos len) s = .next ((s.issued g).trap g 0x01 (wordF rd ra pos len 2)))
  ∧ (∀ (g : Nat) (rd ra pos len : BitVec 5) (s : State), s.issues g = true → (pos ≠ 0 ∨ len ≠ 0) → exec (.bswap g rd ra pos len) s = .next ((s.issued g).trap g 0x01 (wordF rd ra pos len 3)))
  ∧ (∀ (g : Nat) (rd ra rb : BitVec 5) (n : BitVec 3) (s : State), s.issues g = true → n ≠ 1 → n ≠ 2 → n ≠ 4 → exec (.crc16 g rd ra rb n) s = .next ((s.issued g).trap g 0x01 (wordR 0x19 rd ra rb (0x100 + n.toNat))))
  ∧ (∀ (g v : Nat) (rd : BitVec 5) (s : State), (s.moved g rd v).get THR.PC g = (s.get THR.PC g + 4) % 2 ^ 32 ∧ (rd ≠ 0 → (s.moved g rd v).get THR.W (32 * g + rd.toNat) = v % 2 ^ 32) ∧ sameBut s (s.moved g rd v) [(ENGE.ISSUE_CNT, g / 4), (THR.PC, g), (THR.W, 32 * g + rd.toNat)])

/-- Branches and jumps of a thread: When a ready thread whose PC lies in its range issues BEQ, BNE, BLT, BGE, BLTU or BGEU and its comparison holds, its PC becomes the PC plus four times the displacement, modulo 2^32, and otherwise the PC plus 4; J goes there always; JAL also writes the PC plus 4 into w31, and JALR, which goes to the sum of ra and its immediate cut to a multiple of 4, writes it into rd; the issue is counted and nothing else changes. ADD of a thread whose PC lies outside its range traps with FETCH, and ADD of a thread that is not ready changes nothing. The rules it rests on: R399, R402, R410, R411. -/
def Obligations.ThreadBranches : Prop :=
  (∀ (g : Nat) (ra rb : BitVec 5) (disp : BitVec 16) (s : State), s.issues g = true → exec (.beq g ra rb disp) s = .next (if s.r g ra = s.r g rb then (s.issued g).put THR.PC g (((s.get THR.PC g : Int) + 4 * disp.toInt) % 2 ^ 32).toNat else (s.issued g).pcNext g))
  ∧ (∀ (g : Nat) (ra rb : BitVec 5) (disp : BitVec 16) (s : State), s.issues g = true → exec (.bne g ra rb disp) s = .next (if s.r g ra ≠ s.r g rb then (s.issued g).put THR.PC g (((s.get THR.PC g : Int) + 4 * disp.toInt) % 2 ^ 32).toNat else (s.issued g).pcNext g))
  ∧ (∀ (g : Nat) (ra rb : BitVec 5) (disp : BitVec 16) (s : State), s.issues g = true → exec (.blt g ra rb disp) s = .next (if toInt 32 (s.r g ra) < toInt 32 (s.r g rb) then (s.issued g).put THR.PC g (((s.get THR.PC g : Int) + 4 * disp.toInt) % 2 ^ 32).toNat else (s.issued g).pcNext g))
  ∧ (∀ (g : Nat) (ra rb : BitVec 5) (disp : BitVec 16) (s : State), s.issues g = true → exec (.bge g ra rb disp) s = .next (if toInt 32 (s.r g rb) ≤ toInt 32 (s.r g ra) then (s.issued g).put THR.PC g (((s.get THR.PC g : Int) + 4 * disp.toInt) % 2 ^ 32).toNat else (s.issued g).pcNext g))
  ∧ (∀ (g : Nat) (ra rb : BitVec 5) (disp : BitVec 16) (s : State), s.issues g = true → exec (.bltu g ra rb disp) s = .next (if s.r g ra < s.r g rb then (s.issued g).put THR.PC g (((s.get THR.PC g : Int) + 4 * disp.toInt) % 2 ^ 32).toNat else (s.issued g).pcNext g))
  ∧ (∀ (g : Nat) (ra rb : BitVec 5) (disp : BitVec 16) (s : State), s.issues g = true → exec (.bgeu g ra rb disp) s = .next (if s.r g rb ≤ s.r g ra then (s.issued g).put THR.PC g (((s.get THR.PC g : Int) + 4 * disp.toInt) % 2 ^ 32).toNat else (s.issued g).pcNext g))
  ∧ (∀ (g : Nat) (disp : BitVec 25) (s : State), s.issues g = true → exec (.j g disp) s = .next ((s.issued g).put THR.PC g (((s.get THR.PC g : Int) + 4 * disp.toInt) % 2 ^ 32).toNat))
  ∧ (∀ (g : Nat) (disp : BitVec 25) (s : State), s.issues g = true → exec (.jal g disp) s = .next (((s.issued g).put THR.W (32 * g + 31) (s.get THR.PC g + 4)).put THR.PC g (((s.get THR.PC g : Int) + 4 * disp.toInt) % 2 ^ 32).toNat))
  ∧ (∀ (g : Nat) (rd ra : BitVec 5) (imm : BitVec 16) (s : State), s.issues g = true → exec (.jalr g rd ra imm) s = .next (((s.issued g).setW g rd.toNat (s.get THR.PC g + 4)).put THR.PC g (((s.r g ra : Int) + imm.toInt) % 2 ^ 32 / 4 * 4).toNat))
  ∧ (∀ (g : Nat) (rd ra rb : BitVec 5) (s : State), g < 512 → s.threadState g = 1 → pcOk g (s.get THR.PC g) = false → exec (.add g rd ra rb) s = .next (s.trap g 0x02 (s.get THR.PC g)))
  ∧ (∀ (g : Nat) (rd ra rb : BitVec 5) (s : State), s.threadState g ≠ 1 → exec (.add g rd ra rb) s = .next (s))

/-- Loads of a thread: When a ready thread whose PC lies in its range issues LDB, LDBU, LDH, LDHU, LDW or LDP and the address, ra plus the displacement (in words for LDW and LDP) modulo 2^32, is aligned and lies in a memory all of whose octets it reaches, rd takes the octets there, least significant first, with their sign for LDB and LDH; LDP fills an even pair; the issue is counted, the PC goes on by 4 and nothing else changes. LDW in the register window that is answered without a bus error reads the register. LDW at an address not aligned traps with ALIGN; LDBU where there is no place traps with ACCESS and in a closed window with WINDOW_CLOSED; LDHU in the register window traps with ACCESS. The rules it rests on: R373, R377, R387, R399, R405, R406. -/
def Obligations.ThreadLoads : Prop :=
  (∀ (g : Nat) (rd ra : BitVec 5) (imm : BitVec 16) (ea : Nat) (p : Place) (s : State), s.issues g = true → ea = (((s.r g ra : Int) + imm.toInt) % 2 ^ 32).toNat → s.place g ea = p → p.memory = true → ea % 1 = 0 → (s.issued g).reachAll g ea 1 false = 0 → exec (.ldb g rd ra imm) s = .next (s.moved g rd (if leVal ((s.issued g).placeRead p 1) % 2 ^ 8 < 2 ^ 7 then leVal ((s.issued g).placeRead p 1) % 2 ^ 8 else leVal ((s.issued g).placeRead p 1) % 2 ^ 8 + 2 ^ 32 - 2 ^ 8)))
  ∧ (∀ (g : Nat) (rd ra : BitVec 5) (imm : BitVec 16) (ea : Nat) (p : Place) (s : State), s.issues g = true → ea = (((s.r g ra : Int) + imm.toInt) % 2 ^ 32).toNat → s.place g ea = p → p.memory = true → ea % 1 = 0 → (s.issued g).reachAll g ea 1 false = 0 → exec (.ldbu g rd ra imm) s = .next (s.moved g rd (leVal ((s.issued g).placeRead p 1))))
  ∧ (∀ (g : Nat) (rd ra : BitVec 5) (imm : BitVec 16) (ea : Nat) (p : Place) (s : State), s.issues g = true → ea = (((s.r g ra : Int) + imm.toInt) % 2 ^ 32).toNat → s.place g ea = p → p.memory = true → ea % 2 = 0 → (s.issued g).reachAll g ea 2 false = 0 → exec (.ldh g rd ra imm) s = .next (s.moved g rd (if leVal ((s.issued g).placeRead p 2) % 2 ^ 16 < 2 ^ 15 then leVal ((s.issued g).placeRead p 2) % 2 ^ 16 else leVal ((s.issued g).placeRead p 2) % 2 ^ 16 + 2 ^ 32 - 2 ^ 16)))
  ∧ (∀ (g : Nat) (rd ra : BitVec 5) (imm : BitVec 16) (ea : Nat) (p : Place) (s : State), s.issues g = true → ea = (((s.r g ra : Int) + imm.toInt) % 2 ^ 32).toNat → s.place g ea = p → p.memory = true → ea % 2 = 0 → (s.issued g).reachAll g ea 2 false = 0 → exec (.ldhu g rd ra imm) s = .next (s.moved g rd (leVal ((s.issued g).placeRead p 2))))
  ∧ (∀ (g : Nat) (rd ra : BitVec 5) (imm : BitVec 14) (ea : Nat) (p : Place) (s : State), s.issues g = true → ea = (((s.r g ra : Int) + 4 * imm.toInt) % 2 ^ 32).toNat → s.place g ea = p → p.memory = true → ea % 4 = 0 → (s.issued g).reachAll g ea 4 false = 0 → exec (.ldw g rd ra imm) s = .next (s.moved g rd (leVal ((s.issued g).placeRead p 4))))
  ∧ (∀ (g : Nat) (rd ra : BitVec 5) (imm : BitVec 14) (ea : Nat) (p : Place) (s : State), s.issues g = true → ea = (((s.r g ra : Int) + 4 * imm.toInt) % 2 ^ 32).toNat → rd.toNat % 2 = 0 → s.place g ea = p → p.memory = true → ea % 8 = 0 → (s.issued g).reachAll g ea 8 false = 0 → exec (.ldp g rd ra imm) s = .next ((((s.issued g).setW g rd.toNat (leVal ((s.issued g).placeRead p 8) % 2 ^ 32)).setW g (rd.toNat + 1) (leVal ((s.issued g).placeRead p 8) / 2 ^ 32)).pcNext g))
  ∧ (∀ (g : Nat) (rd ra : BitVec 5) (imm : BitVec 14) (off : Nat) (s : State), s.issues g = true → s.place g (s.ea g ra (wordDisp imm)) = .regs off → s.ea g ra (wordDisp imm) % 4 = 0 → (s.issued g).reach g (s.ea g ra (wordDisp imm)) false = 0 → ((s.issued g).busRead (.thread g) off 4).get MODEL.RESP ≠ 1 → exec (.ldw g rd ra imm) s = .next ((((s.issued g).busRead (.thread g) off 4).setW g rd.toNat (((s.issued g).busRead (.thread g) off 4).get MODEL.DATA)).pcNext g))
  ∧ (∀ (g : Nat) (rd ra : BitVec 5) (imm : BitVec 14) (ea : Nat) (s : State), s.issues g = true → ea = (((s.r g ra : Int) + 4 * imm.toInt) % 2 ^ 32).toNat → ea % 4 ≠ 0 → exec (.ldw g rd ra imm) s = .next ((s.issued g).trap g 0x03 ea))
  ∧ (∀ (g : Nat) (rd ra : BitVec 5) (imm : BitVec 16) (ea : Nat) (p : Place) (s : State), s.issues g = true → ea = (((s.r g ra : Int) + imm.toInt) % 2 ^ 32).toNat → p = .none → s.place g ea = p → exec (.ldbu g rd ra imm) s = .next ((s.issued g).trap g 0x04 ea))
  ∧ (∀ (g : Nat) (rd ra : BitVec 5) (imm : BitVec 16) (ea n off : Nat) (s : State), s.issues g = true → ea = (((s.r g ra : Int) + imm.toInt) % 2 ^ 32).toNat → s.place g ea = .window n off → s.get WIN.OPEN n = 0 → exec (.ldbu g rd ra imm) s = .next ((s.issued g).trap g 0x05 ea))
  ∧ (∀ (g : Nat) (rd ra : BitVec 5) (imm : BitVec 16) (ea off : Nat) (s : State), s.issues g = true → ea = (((s.r g ra : Int) + imm.toInt) % 2 ^ 32).toNat → s.place g ea = .regs off → ea % 2 = 0 → exec (.ldhu g rd ra imm) s = .next ((s.issued g).trap g 0x04 ea))

/-- Stores of a thread: When a ready thread whose PC lies in its range issues STB, STH, STW or STP and the address, ra plus the displacement (in words for STW and STP) modulo 2^32, is aligned and lies in a memory all of whose octets it may write, the low octets of the register rd, or of the even pair, are written there by the model's place write, least significant first; the issue is counted, the PC goes on by 4 and nothing else changes. STW in the register window that is answered without a bus error writes the register. STP at an address not aligned traps with ALIGN, and STB of a thread of Hedge 0's programs under 0x4000 in local memory with ACCESS, and nothing is stored. The rules it rests on: R373, R374, R377, R387, R399, R405, R406. -/
def Obligations.ThreadStores : Prop :=
  (∀ (g : Nat) (rd ra : BitVec 5) (imm : BitVec 16) (ea : Nat) (p : Place) (s : State), s.issues g = true → ea = (((s.r g ra : Int) + imm.toInt) % 2 ^ 32).toNat → s.place g ea = p → p.memory = true → ea % 1 = 0 → (s.issued g).reachAll g ea 1 true = 0 → exec (.stb g rd ra imm) s = .next (((s.issued g).placeWrite p (le 1 (s.r g rd))).pcNext g))
  ∧ (∀ (g : Nat) (rd ra : BitVec 5) (imm : BitVec 16) (ea : Nat) (p : Place) (s : State), s.issues g = true → ea = (((s.r g ra : Int) + imm.toInt) % 2 ^ 32).toNat → s.place g ea = p → p.memory = true → ea % 2 = 0 → (s.issued g).reachAll g ea 2 true = 0 → exec (.sth g rd ra imm) s = .next (((s.issued g).placeWrite p (le 2 (s.r g rd))).pcNext g))
  ∧ (∀ (g : Nat) (rd ra : BitVec 5) (imm : BitVec 14) (ea : Nat) (p : Place) (s : State), s.issues g = true → ea = (((s.r g ra : Int) + 4 * imm.toInt) % 2 ^ 32).toNat → s.place g ea = p → p.memory = true → ea % 4 = 0 → (s.issued g).reachAll g ea 4 true = 0 → exec (.stw g rd ra imm) s = .next (((s.issued g).placeWrite p (le 4 (s.r g rd))).pcNext g))
  ∧ (∀ (g : Nat) (rd ra : BitVec 5) (imm : BitVec 14) (ea : Nat) (p : Place) (s : State), s.issues g = true → ea = (((s.r g ra : Int) + 4 * imm.toInt) % 2 ^ 32).toNat → rd.toNat % 2 = 0 → s.place g ea = p → p.memory = true → ea % 8 = 0 → (s.issued g).reachAll g ea 8 true = 0 → exec (.stp g rd ra imm) s = .next (((s.issued g).placeWrite p (le 8 (s.r g rd + 2 ^ 32 * s.w g (rd.toNat + 1)))).pcNext g))
  ∧ (∀ (g : Nat) (rd ra : BitVec 5) (imm : BitVec 14) (off : Nat) (s : State), s.issues g = true → s.place g (s.ea g ra (wordDisp imm)) = .regs off → s.ea g ra (wordDisp imm) % 4 = 0 → (s.issued g).reach g (s.ea g ra (wordDisp imm)) true = 0 → ((s.issued g).busWrite (.thread g) off 4 (s.r g rd)).get MODEL.RESP ≠ 1 → exec (.stw g rd ra imm) s = .next (((s.issued g).busWrite (.thread g) off 4 (s.r g rd)).pcNext g))
  ∧ (∀ (g : Nat) (rd ra : BitVec 5) (imm : BitVec 14) (ea : Nat) (s : State), s.issues g = true → ea = (((s.r g ra : Int) + 4 * imm.toInt) % 2 ^ 32).toNat → rd.toNat % 2 = 0 → ea % 8 ≠ 0 → exec (.stp g rd ra imm) s = .next ((s.issued g).trap g 0x03 ea))
  ∧ (∀ (g : Nat) (rd ra : BitVec 5) (imm : BitVec 16) (ea : Nat) (p : Place) (s : State), s.issues g = true → ea = (((s.r g ra : Int) + imm.toInt) % 2 ^ 32).toNat → (kindOf g).hedge = some 0 → s.place g ea = p → g % 4 ≠ 0 → ea < 0x4000 → exec (.stb g rd ra imm) s = .next ((s.issued g).trap g 0x04 ea))

/-- What a thread stores in local memory, it loads again: If a ready runtime thread stores a word in its local memory and issues a load of the same address next, the loaded register holds what was stored, and every octet of local memory outside the word reads as before; the other seven memories are as before. The rules it rests on: R373, R377, R405, R406. -/
def Obligations.StoreThenLoad : Prop :=
  (∀ (g : Nat) (rd ra rx : BitVec 5) (imm : BitVec 14) (k : Nat) (s : State), s.issues g = true → g < 448 → memWf s.mem.localMem = true → s.place g (s.ea g ra (wordDisp imm)) = .local_ k → s.ea g ra (wordDisp imm) % 4 = 0 → pcOk g (s.get THR.PC g + 4) = true → rx ≠ 0 → completes (.stw g rd ra imm) s fun t => completes (.ldw g rx ra imm) t fun u => u.w g rx.toNat = s.r g rd ∧ (∀ a, (a < k ∨ k + 4 ≤ a) → memRead a u.mem.localMem = memRead a s.mem.localMem) ∧ ({ u.mem with localMem := [] } : Memories) = { s.mem with localMem := [] })

/-- Atomics of a thread: When a ready thread whose PC lies in its range issues AADD, ASWP or ACAS at an address that is aligned, lies where atomics are permitted and may be read and written, rd takes the old octets, for 8 octets an even pair of registers standing for each operand; AADD leaves the sum there and ASWP the new value, modulo the size; ACAS leaves the new value and clears Z where the old octets are the expected ones in rd, and else writes nothing there and sets Z; the PC goes on by 4 and no other flag changes. AADD not aligned traps with ALIGN, and ASWP where atomics are not permitted with ACCESS. The rules it rests on: R377, R387, R399, R402, R409. -/
def Obligations.ThreadAtomics : Prop :=
  (∀ (g : Nat) (rd ra rb : BitVec 5) (sz : BitVec 2) (p : Place) (s : State), s.issues g = true → sz ≠ 3 → s.place g (s.r g ra) = p → p.atomic = true → s.r g ra % 2 ^ sz.toNat = 0 → (s.issued g).reachAll g (s.r g ra) (2 ^ sz.toNat) false = 0 → (s.issued g).reachAll g (s.r g ra) (2 ^ sz.toNat) true = 0 → exec (.aadd g rd ra rb sz) s = .next ((((s.issued g).placeWrite p (le (2 ^ sz.toNat) (leVal ((s.issued g).placeRead p (2 ^ sz.toNat)) + s.r g rb))).setW g rd.toNat (leVal ((s.issued g).placeRead p (2 ^ sz.toNat)))).pcNext g))
  ∧ (∀ (g : Nat) (rd ra rb : BitVec 5) (sz : BitVec 2) (p : Place) (s : State), s.issues g = true → sz ≠ 3 → s.place g (s.r g ra) = p → p.atomic = true → s.r g ra % 2 ^ sz.toNat = 0 → (s.issued g).reachAll g (s.r g ra) (2 ^ sz.toNat) false = 0 → (s.issued g).reachAll g (s.r g ra) (2 ^ sz.toNat) true = 0 → exec (.aswp g rd ra rb sz) s = .next ((((s.issued g).placeWrite p (le (2 ^ sz.toNat) (s.r g rb))).setW g rd.toNat (leVal ((s.issued g).placeRead p (2 ^ sz.toNat)))).pcNext g))
  ∧ (∀ (g : Nat) (rd ra rb : BitVec 5) (p : Place) (s : State), s.issues g = true → rd.toNat % 2 = 0 → rb.toNat % 2 = 0 → s.place g (s.r g ra) = p → p.atomic = true → s.r g ra % 8 = 0 → (s.issued g).reachAll g (s.r g ra) (8) false = 0 → (s.issued g).reachAll g (s.r g ra) (8) true = 0 → exec (.aadd g rd ra rb 3) s = .next ((((s.issued g).placeWrite p (le 8 (leVal ((s.issued g).placeRead p 8) + s.pair g rb.toNat))).setPair g rd.toNat (leVal ((s.issued g).placeRead p 8))).pcNext g))
  ∧ (∀ (g : Nat) (rd ra rb : BitVec 5) (p : Place) (s : State), s.issues g = true → rd.toNat % 2 = 0 → rb.toNat % 2 = 0 → s.place g (s.r g ra) = p → p.atomic = true → s.r g ra % 8 = 0 → (s.issued g).reachAll g (s.r g ra) (8) false = 0 → (s.issued g).reachAll g (s.r g ra) (8) true = 0 → exec (.aswp g rd ra rb 3) s = .next ((((s.issued g).placeWrite p (le 8 (s.pair g rb.toNat))).setPair g rd.toNat (leVal ((s.issued g).placeRead p 8))).pcNext g))
  ∧ (∀ (g : Nat) (rd ra rb : BitVec 5) (sz : BitVec 2) (p : Place) (s : State), s.issues g = true → sz ≠ 3 → s.place g (s.r g ra) = p → p.atomic = true → s.r g ra % 2 ^ sz.toNat = 0 → (s.issued g).reachAll g (s.r g ra) (2 ^ sz.toNat) false = 0 → (s.issued g).reachAll g (s.r g ra) (2 ^ sz.toNat) true = 0 → leVal ((s.issued g).placeRead p (2 ^ sz.toNat)) = s.r g rd % 2 ^ (8 * 2 ^ sz.toNat) → exec (.acas g rd ra rb sz) s = .next (((((s.issued g).placeWrite p (le (2 ^ sz.toNat) (s.r g rb))).setZ g false).setW g rd.toNat (leVal ((s.issued g).placeRead p (2 ^ sz.toNat)))).pcNext g))
  ∧ (∀ (g : Nat) (rd ra rb : BitVec 5) (sz : BitVec 2) (p : Place) (s : State), s.issues g = true → sz ≠ 3 → s.place g (s.r g ra) = p → p.atomic = true → s.r g ra % 2 ^ sz.toNat = 0 → (s.issued g).reachAll g (s.r g ra) (2 ^ sz.toNat) false = 0 → (s.issued g).reachAll g (s.r g ra) (2 ^ sz.toNat) true = 0 → leVal ((s.issued g).placeRead p (2 ^ sz.toNat)) ≠ s.r g rd % 2 ^ (8 * 2 ^ sz.toNat) → exec (.acas g rd ra rb sz) s = .next ((((s.issued g).setZ g true).setW g rd.toNat (leVal ((s.issued g).placeRead p (2 ^ sz.toNat)))).pcNext g))
  ∧ (∀ (g : Nat) (rd ra rb : BitVec 5) (p : Place) (s : State), s.issues g = true → rd.toNat % 2 = 0 → rb.toNat % 2 = 0 → s.place g (s.r g ra) = p → p.atomic = true → s.r g ra % 8 = 0 → (s.issued g).reachAll g (s.r g ra) 8 false = 0 → (s.issued g).reachAll g (s.r g ra) 8 true = 0 → leVal ((s.issued g).placeRead p 8) = s.pair g rd.toNat → exec (.acas g rd ra rb 3) s = .next (((((s.issued g).placeWrite p (le 8 (s.pair g rb.toNat))).setZ g false).setPair g rd.toNat (leVal ((s.issued g).placeRead p 8))).pcNext g))
  ∧ (∀ (g : Nat) (rd ra rb : BitVec 5) (p : Place) (s : State), s.issues g = true → rd.toNat % 2 = 0 → rb.toNat % 2 = 0 → s.place g (s.r g ra) = p → p.atomic = true → s.r g ra % 8 = 0 → (s.issued g).reachAll g (s.r g ra) 8 false = 0 → (s.issued g).reachAll g (s.r g ra) 8 true = 0 → leVal ((s.issued g).placeRead p 8) ≠ s.pair g rd.toNat → exec (.acas g rd ra rb 3) s = .next ((((s.issued g).setZ g true).setPair g rd.toNat (leVal ((s.issued g).placeRead p 8))).pcNext g))
  ∧ (∀ (g : Nat) (rd ra rb : BitVec 5) (sz : BitVec 2) (s : State), s.issues g = true → sz ≠ 3 → s.r g ra % 2 ^ sz.toNat ≠ 0 → exec (.aadd g rd ra rb sz) s = .next ((s.issued g).trap g 0x03 (s.r g ra)))
  ∧ (∀ (g : Nat) (rd ra rb : BitVec 5) (sz : BitVec 2) (p : Place) (s : State), s.issues g = true → sz ≠ 3 → s.r g ra % 2 ^ sz.toNat = 0 → s.place g (s.r g ra) = p → p.atomic = false → exec (.aswp g rd ra rb sz) s = .next ((s.issued g).trap g 0x04 (s.r g ra)))

/-- Table instructions of a thread: For a ready thread whose PC lies in its range and an instruction in form: LKUP by the EUI64 in a pair, by a short address or by an index looks up in the Hedge it acts for, and, unless NOWIN is set, closes the window slot it names first; on a hit it opens the slot on the entry unless NOWIN is set, rd takes the index and Z clears, on a miss rd takes 0xFFFFFFFF and Z sets. TINS with its block's buffer in order, outside standby, acts as the insertion of NODE_INSERT on the 24 octets there, answers as it ends and waits where it waits; in standby it is denied. TDEL, the entry revalidated first, answers NODE_UNKNOWN in rd with Z set for an entry that is not the Hedge's, closes the thread's own windows on one that is, frees it and answers 0 where nothing else holds it, and waits otherwise. TTOUCH, the entry revalidated first, is a hit and answers 0, or NODE_UNKNOWN with Z set. (TINS that fails names no entry: that field of rd is a free value, assumption 3.). The rules it rests on: R62, R73, R79, R385, R399, R402, R412, R413, R414, R415. -/
def Obligations.ThreadTable : Prop :=
  (∀ (g e : Nat) (rd ra : BitVec 5) (cmd : BitVec 12) (s : State), s.issues g = true → bits cmd.toNat 2 2 ≠ 3 → (bits cmd.toNat 2 2 ≠ 0 ∨ ra.toNat % 2 = 0) → hedgeOk g cmd = true → bits cmd.toNat 9 3 = 0 → ((s.issued g).lkup g (bits cmd.toNat 2 2) (actFor g cmd) ra).1 = some e → exec (.lkup g rd ra cmd) s = .next (((((if bit cmd.toNat 8 then (if bit cmd.toNat 8 then ((s.issued g).lkup g (bits cmd.toNat 2 2) (actFor g cmd) ra).2 else ((s.issued g).lkup g (bits cmd.toNat 2 2) (actFor g cmd) ra).2.clr WIN.OPEN (4 * g + bits cmd.toNat 0 2)) else (if bit cmd.toNat 8 then ((s.issued g).lkup g (bits cmd.toNat 2 2) (actFor g cmd) ra).2 else ((s.issued g).lkup g (bits cmd.toNat 2 2) (actFor g cmd) ra).2.clr WIN.OPEN (4 * g + bits cmd.toNat 0 2)).openWin g (bits cmd.toNat 0 2) e).setW g rd.toNat e).setZ g false).pcNext g)))
  ∧ (∀ (g : Nat) (rd ra : BitVec 5) (cmd : BitVec 12) (s : State), s.issues g = true → bits cmd.toNat 2 2 ≠ 3 → (bits cmd.toNat 2 2 ≠ 0 ∨ ra.toNat % 2 = 0) → hedgeOk g cmd = true → bits cmd.toNat 9 3 = 0 → ((s.issued g).lkup g (bits cmd.toNat 2 2) (actFor g cmd) ra).1 = none → exec (.lkup g rd ra cmd) s = .next ((((if bit cmd.toNat 8 then ((s.issued g).lkup g (bits cmd.toNat 2 2) (actFor g cmd) ra).2 else ((s.issued g).lkup g (bits cmd.toNat 2 2) (actFor g cmd) ra).2.clr WIN.OPEN (4 * g + bits cmd.toNat 0 2)).setW g rd.toNat 0xFFFFFFFF).setZ g true).pcNext g))
  ∧ (∀ (g : Nat) (rd ra : BitVec 5) (cmd : BitVec 12) (s : State), s.issues g = true → bits cmd.toNat 2 2 = 0 → hedgeOk g cmd = true → bits cmd.toNat 9 3 = 0 → (s.issued g).bufCheck g (s.r g ra) 8 24 false = 0 → s.standby = false → exec (.tins g rd ra cmd) s = .next (match (s.issued g).insertNode (actFor g cmd) (blockOf ((s.issued g).placeRead (s.place g (s.r g ra)) 24)) with | (.wait ev, u) => { u with insWait := u.insWait ++ [(⟨(actFor g cmd), (blockOf ((s.issued g).placeRead (s.place g (s.r g ra)) 24)), none, some (g, rd.toNat, bits cmd.toNat 0 2, bit cmd.toNat 8), none, ev⟩ : InsWait)] }.waitFor g 6 rd.toNat 0 | (r, u) => (u.tinsDone g rd.toNat (bits cmd.toNat 0 2) (!bit cmd.toNat 8) r).pcNext g))
  ∧ (∀ (g : Nat) (rd ra : BitVec 5) (cmd : BitVec 12) (s : State), s.issues g = true → bits cmd.toNat 2 2 = 0 → hedgeOk g cmd = true → bits cmd.toNat 9 3 = 0 → (s.issued g).bufCheck g (s.r g ra) 8 24 false = 0 → s.standby = true → exec (.tins g rd ra cmd) s = .next (((s.issued g).tinsDenied g rd.toNat).pcNext g))
  ∧ (∀ (g : Nat) (rd ra : BitVec 5) (cmd : BitVec 12) (s : State), s.issues g = true → bits cmd.toNat 0 4 = 0 → hedgeOk g cmd = true → bits cmd.toNat 8 4 = 0 → ((s.issued g).opened (actFor g cmd) (s.r g ra % 2 ^ 18)).named (actFor g cmd) (s.r g ra % 2 ^ 18) = true → (((s.issued g).opened (actFor g cmd) (s.r g ra % 2 ^ 18)).closeOwn g (s.r g ra % 2 ^ 18)).heldEntry (s.r g ra % 2 ^ 18) = false → exec (.tdel g rd ra cmd) s = .next (((((((s.issued g).opened (actFor g cmd) (s.r g ra % 2 ^ 18)).closeOwn g (s.r g ra % 2 ^ 18)).freeEntry (s.r g ra % 2 ^ 18) fDeleted).setW g rd.toNat 0).setZ g false).pcNext g))
  ∧ (∀ (g : Nat) (rd ra : BitVec 5) (cmd : BitVec 12) (s : State), s.issues g = true → bits cmd.toNat 0 4 = 0 → hedgeOk g cmd = true → bits cmd.toNat 8 4 = 0 → ((s.issued g).opened (actFor g cmd) (s.r g ra % 2 ^ 18)).named (actFor g cmd) (s.r g ra % 2 ^ 18) = true → (((s.issued g).opened (actFor g cmd) (s.r g ra % 2 ^ 18)).closeOwn g (s.r g ra % 2 ^ 18)).heldEntry (s.r g ra % 2 ^ 18) = true → exec (.tdel g rd ra cmd) s = .next (({ (((s.issued g).opened (actFor g cmd) (s.r g ra % 2 ^ 18)).closeOwn g (s.r g ra % 2 ^ 18)) with delWait := (((s.issued g).opened (actFor g cmd) (s.r g ra % 2 ^ 18)).closeOwn g (s.r g ra % 2 ^ 18)).delWait ++ [(⟨(s.r g ra % 2 ^ 18), none, some g⟩ : DelWait)] } : State).waitFor g 5 rd.toNat (s.r g ra % 2 ^ 18)))
  ∧ (∀ (g : Nat) (rd ra : BitVec 5) (cmd : BitVec 12) (s : State), s.issues g = true → bits cmd.toNat 0 4 = 0 → hedgeOk g cmd = true → bits cmd.toNat 8 4 = 0 → ((s.issued g).opened (actFor g cmd) (s.r g ra % 2 ^ 18)).named (actFor g cmd) (s.r g ra % 2 ^ 18) = false → exec (.tdel g rd ra cmd) s = .next (((((s.issued g).opened (actFor g cmd) (s.r g ra % 2 ^ 18)).setW g rd.toNat 0x04).setZ g true).pcNext g))
  ∧ (∀ (g : Nat) (rd ra : BitVec 5) (cmd : BitVec 12) (s : State), s.issues g = true → bits cmd.toNat 0 4 = 0 → hedgeOk g cmd = true → bits cmd.toNat 8 4 = 0 → ((s.issued g).opened (actFor g cmd) (s.r g ra % 2 ^ 18)).named (actFor g cmd) (s.r g ra % 2 ^ 18) = true → exec (.ttouch g rd ra cmd) s = .next ((((((s.issued g).opened (actFor g cmd) (s.r g ra % 2 ^ 18)).hit (s.r g ra % 2 ^ 18)).setW g rd.toNat 0).setZ g false).pcNext g))
  ∧ (∀ (g : Nat) (rd ra : BitVec 5) (cmd : BitVec 12) (s : State), s.issues g = true → bits cmd.toNat 0 4 = 0 → hedgeOk g cmd = true → bits cmd.toNat 8 4 = 0 → ((s.issued g).opened (actFor g cmd) (s.r g ra % 2 ^ 18)).named (actFor g cmd) (s.r g ra % 2 ^ 18) = false → exec (.ttouch g rd ra cmd) s = .next (((((s.issued g).opened (actFor g cmd) (s.r g ra % 2 ^ 18)).setW g rd.toNat 0x04).setZ g true).pcNext g))

/-- Windows time out and holds end: A window slot open for 100 µs, 75,000 cycles, closes, and before that stays as it is. When nothing holds an entry any more, its deferred deletions leave the list, the entry is freed where it is not yet free, and each command or thread that waits for it is answered in turn; while a window holds it nothing happens. At the end of the walk for an index every route to it is made invalid with that node's eligibility written, the index is in use again, and the waiting insertions go on in their order. The rules it rests on: R60, R76, R385, R415. -/
def Obligations.WindowsAndHolds : Prop :=
  (∀ (n : Nat) (s : State), n < 2048 → s.get WIN.OPEN n ≠ 0 → s.get WIN.AT n + 75000 ≤ s.get CLK.CYC → exec (.thicketWindowTimeout n) s = .next (s.put WIN.OPEN n 0))
  ∧ (∀ (n : Nat) (s : State), s.get CLK.CYC < s.get WIN.AT n + 75000 → exec (.thicketWindowTimeout n) s = .next (s))
  ∧ (∀ (e : Nat) (s : State), s.heldEntry e = true → exec (.entryHoldEnd e) s = .next (s))
  ∧ (∀ (e : Nat) (s : State), s.heldEntry e = false → s.delWait.any (·.entry == e) = true → exec (.entryHoldEnd e) s = .next ((let u : State := { s with delWait := s.delWait.filter (·.entry != e) }; (if u.get E.STATE e = stFree then u else u.freeEntry e fDeleted).each (s.delWait.filter (·.entry == e)) State.delDone)))
  ∧ (∀ (e : Nat) (s : State), s.get THKX.WALK e ≠ 0 → exec (.incarnationWalkEnd e) s = .next ((let u := (s.each (s.usedEntries.filter fun n => s.get E.NEXT_HOP n == e && s.on E.NH_VALID n) fun x n => (x.wrE E.NH_VALID n 0).writeElig n).clr THKX.WALK e; u.insertWaiting u.insWait)))

/-- Queue instructions of a thread: For a ready thread whose PC lies in its range, naming a FIFO by cmd or, with cmd[11], by rd, with its buffer in order: QPUT into a FIFO it may write copies the buffer into one that takes it, and stalls on one that does not, counted, with the buffer, length and cycle kept; QGET moves the head entry into the buffer, rd takes the entry size and Z clears; QPEEK does so and leaves the entry; on an empty FIFO both leave rd 0 and Z set. A FIFO the thread may not name traps with ACCESS. A stalled store whose FIFO takes it again is made and the thread goes on; after 64 µs, 48,000 cycles, it is abandoned and counted, told to the FIFO's owning Hedge where there is one, and the thread, ready again, traps with STALL_TIMEOUT. The rules it rests on: R376, R378, R379, R402, R416. -/
def Obligations.ThreadQueues : Prop :=
  (∀ (g : Nat) (rd ra : BitVec 5) (cmd : BitVec 12) (s : State), s.issues g = true → (s.issued g).fifoMay g ((s.issued g).fifoNamed g rd cmd) = true → ¬ (((s.issued g).fifoNamed g rd cmd) < 76 ∧ ¬ (48 ≤ ((s.issued g).fifoNamed g rd cmd) ∧ ((s.issued g).fifoNamed g rd cmd) < 52)) → (s.issued g).bufCheck g (s.r g ra) 16 ((s.issued g).fifoEsize ((s.issued g).fifoNamed g rd cmd)) false = 0 → (s.issued g).fifoTakes ((s.issued g).fifoNamed g rd cmd) = true → exec (.qput g rd ra cmd) s = .next (((s.issued g).fifoStore g ((s.issued g).fifoNamed g rd cmd) ((s.issued g).placeRead (s.place g (s.r g ra)) ((s.issued g).fifoEsize ((s.issued g).fifoNamed g rd cmd)))).pcNext g))
  ∧ (∀ (g : Nat) (rd ra : BitVec 5) (cmd : BitVec 12) (s : State), s.issues g = true → (s.issued g).fifoMay g ((s.issued g).fifoNamed g rd cmd) = true → ¬ (((s.issued g).fifoNamed g rd cmd) < 76 ∧ ¬ (48 ≤ ((s.issued g).fifoNamed g rd cmd) ∧ ((s.issued g).fifoNamed g rd cmd) < 52)) → (s.issued g).bufCheck g (s.r g ra) 16 ((s.issued g).fifoEsize ((s.issued g).fifoNamed g rd cmd)) false = 0 → (s.issued g).fifoTakes ((s.issued g).fifoNamed g rd cmd) = false → exec (.qput g rd ra cmd) s = .next ((let u := (((s.issued g).bump FIFO.STALL_CNT ((s.issued g).fifoNamed g rd cmd)).waitFor g 4 0 ((s.issued g).fifoNamed g rd cmd)).put THR.WADDR g (s.r g ra); (u.put THR.WLEN g ((s.issued g).fifoEsize ((s.issued g).fifoNamed g rd cmd))).put THR.WAT g ((u.put THR.WLEN g ((s.issued g).fifoEsize ((s.issued g).fifoNamed g rd cmd))).get CLK.CYC))))
  ∧ (∀ (g : Nat) (rd ra : BitVec 5) (cmd : BitVec 12) (s : State), s.issues g = true → (s.issued g).fifoMay g ((s.issued g).fifoNamed g rd cmd) = false → exec (.qput g rd ra cmd) s = .next ((s.issued g).trap g 0x04 ((s.issued g).fifoNamed g rd cmd)))
  ∧ (∀ (g : Nat) (rd ra : BitVec 5) (cmd : BitVec 12) (s : State), s.issues g = true → (s.issued g).fifoMay g ((s.issued g).fifoNamed g rd cmd) = true → (s.issued g).bufCheck g (s.r g ra) 16 ((s.issued g).fifoEsize ((s.issued g).fifoNamed g rd cmd)) true = 0 → (s.issued g).fifoFront ((s.issued g).fifoNamed g rd cmd) = none → exec (.qget g rd ra cmd) s = .next ((((s.issued g).setW g rd.toNat 0).setZ g true).pcNext g))
  ∧ (∀ (g : Nat) (rd ra : BitVec 5) (cmd : BitVec 12) (l : List Nat) (s : State), s.issues g = true → (s.issued g).fifoMay g ((s.issued g).fifoNamed g rd cmd) = true → (s.issued g).bufCheck g (s.r g ra) 16 ((s.issued g).fifoEsize ((s.issued g).fifoNamed g rd cmd)) true = 0 → (s.issued g).fifoFront ((s.issued g).fifoNamed g rd cmd) = some l → exec (.qget g rd ra cmd) s = .next ((((((s.issued g).placeWrite (s.place g (s.r g ra)) l).fifoTake ((s.issued g).fifoNamed g rd cmd)).setW g rd.toNat ((s.issued g).fifoEsize ((s.issued g).fifoNamed g rd cmd))).setZ g false).pcNext g))
  ∧ (∀ (g : Nat) (rd ra : BitVec 5) (cmd : BitVec 12) (l : List Nat) (s : State), s.issues g = true → (s.issued g).fifoMay g ((s.issued g).fifoNamed g rd cmd) = true → (s.issued g).bufCheck g (s.r g ra) 16 ((s.issued g).fifoEsize ((s.issued g).fifoNamed g rd cmd)) true = 0 → (s.issued g).fifoFront ((s.issued g).fifoNamed g rd cmd) = some l → exec (.qpeek g rd ra cmd) s = .next (((((s.issued g).placeWrite (s.place g (s.r g ra)) l).setW g rd.toNat ((s.issued g).fifoEsize ((s.issued g).fifoNamed g rd cmd))).setZ g false).pcNext g))
  ∧ (∀ (g : Nat) (rd ra : BitVec 5) (cmd : BitVec 12) (s : State), s.issues g = true → (s.issued g).fifoMay g ((s.issued g).fifoNamed g rd cmd) = true → (s.issued g).bufCheck g (s.r g ra) 16 ((s.issued g).fifoEsize ((s.issued g).fifoNamed g rd cmd)) true = 0 → (s.issued g).fifoFront ((s.issued g).fifoNamed g rd cmd) = none → exec (.qpeek g rd ra cmd) s = .next ((((s.issued g).setW g rd.toNat 0).setZ g true).pcNext g))
  ∧ (∀ (g : Nat) (rd ra : BitVec 5) (cmd : BitVec 12) (s : State), s.issues g = true → (s.issued g).fifoMay g ((s.issued g).fifoNamed g rd cmd) = false → exec (.qget g rd ra cmd) s = .next ((s.issued g).trap g 0x04 ((s.issued g).fifoNamed g rd cmd)))
  ∧ (∀ (g f : Nat) (s : State), g < 512 → s.threadState g = 2 → s.get THR.WAIT g = 4 → f = s.get THR.WVAL g → s.fifoTakes f = true → exec (.fifoStallResume g) s = .next (((((s.fifoStore g f (s.placeRead (s.place g (s.get THR.WADDR g)) (s.get THR.WLEN g))).putThread g 1).clr THR.WAIT g).pcNext g)))
  ∧ (∀ (g : Nat) (s : State), s.fifoTakes (s.get THR.WVAL g) = false → exec (.fifoStallResume g) s = .next (s))
  ∧ (∀ (g : Nat) (s : State), g < 512 → s.threadState g = 2 → s.get THR.WAIT g = 4 → s.get THR.WAT g + 48000 ≤ s.get CLK.CYC → exec (.fifoStallTimeout g) s = .next ((let f := s.get THR.WVAL g; let o := s.get FIFO.CFG_OWNER f; let u := ((s.putThread g 1).clr THR.WAIT g).bump ENGE.STALL_CNT (g / 4); (if o < 8 then u.event o 0x0F [(16, le 2 f), (18, [g / 4]), (20, [g % 4])] else u).trap g 0x06 f)))

/-- Crypto instructions of a thread: For a ready thread whose PC lies in its range, its 48-octet block's buffer in order: CRY traps with CRY_OVERFLOW when the thread holds eight tickets; otherwise it answers the lowest free ticket in rd and goes on, the operation begun with status BAD_DESCRIPTOR for a block out of form, with the key's code where its key cannot be used, and else with the code, check and output the operation gives, each CCM operation and each curve operation counted; it traps with ACCESS at the first of its ranges it does not reach or that lies in the register window. CWAIT returns a finished operation's status and CHECK_FAIL, frees its ticket and sets Z unless both are 0; for a ticket not held it answers BAD_DESCRIPTOR with Z set; for one still running ACCEPTED with Z set where cmd[0] is 1, and else it waits. The end of an operation fixes its result, writes its output to its place, sets the event CRYPTO in the thread and lets the thread that waits for it go on with the result. The rules it rests on: R359, R384, R402, R417, R418, R419. -/
def Obligations.ThreadCrypto : Prop :=
  (∀ (g : Nat) (rd ra : BitVec 5) (s : State), s.issues g = true → (s.issued g).bufCheck g (s.r g ra) 16 48 false = 0 → s.freeTicket g = none → exec (.cry g rd ra 0) s = .next ((s.issued g).trap g 0x0B 0))
  ∧ (∀ (g t : Nat) (rd ra : BitVec 5) (s : State), s.issues g = true → (s.issued g).bufCheck g (s.r g ra) 16 48 false = 0 → s.freeTicket g = some t → (cryBlock ((s.issued g).placeRead (s.place g (s.r g ra)) 48)).ok g = false → exec (.cry g rd ra 0) s = .next (({ (s.issued g) with cry := s.cry ++ [(⟨g, t, 0x12, false, none, 0, [], false⟩ : CryOp)] }.setW g rd.toNat t).pcNext g))
  ∧ (∀ (g t : Nat) (rd ra : BitVec 5) (x : Nat × Nat × Bool) (s : State), s.issues g = true → (s.issued g).bufCheck g (s.r g ra) 16 48 false = 0 → s.freeTicket g = some t → (cryBlock ((s.issued g).placeRead (s.place g (s.r g ra)) 48)).ok g = true → (([((cryBlock ((s.issued g).placeRead (s.place g (s.r g ra)) 48)).ad, (cryBlock ((s.issued g).placeRead (s.place g (s.r g ra)) 48)).spans.1, false), ((cryBlock ((s.issued g).placeRead (s.place g (s.r g ra)) 48)).inp, (cryBlock ((s.issued g).placeRead (s.place g (s.r g ra)) 48)).spans.2.1, false), ((cryBlock ((s.issued g).placeRead (s.place g (s.r g ra)) 48)).out, (cryBlock ((s.issued g).placeRead (s.place g (s.r g ra)) 48)).spans.2.2.1, false), ((cryBlock ((s.issued g).placeRead (s.place g (s.r g ra)) 48)).out, (cryBlock ((s.issued g).placeRead (s.place g (s.r g ra)) 48)).spans.2.2.2, true)].find? fun x => (s.issued g).reachAll g x.1 x.2.1 x.2.2 != 0 || (x.2.1 != 0 && (match (s.issued g).place g x.1 with | .regs _ => true | _ => false))) = some x) → exec (.cry g rd ra 0) s = .next ((s.issued g).trap g 0x04 x.1))
  ∧ (∀ (g t : Nat) (rd ra : BitVec 5) (s : State), s.issues g = true → (s.issued g).bufCheck g (s.r g ra) 16 48 false = 0 → s.freeTicket g = some t → (cryBlock ((s.issued g).placeRead (s.place g (s.r g ra)) 48)).ok g = true → (([((cryBlock ((s.issued g).placeRead (s.place g (s.r g ra)) 48)).ad, (cryBlock ((s.issued g).placeRead (s.place g (s.r g ra)) 48)).spans.1, false), ((cryBlock ((s.issued g).placeRead (s.place g (s.r g ra)) 48)).inp, (cryBlock ((s.issued g).placeRead (s.place g (s.r g ra)) 48)).spans.2.1, false), ((cryBlock ((s.issued g).placeRead (s.place g (s.r g ra)) 48)).out, (cryBlock ((s.issued g).placeRead (s.place g (s.r g ra)) 48)).spans.2.2.1, false), ((cryBlock ((s.issued g).placeRead (s.place g (s.r g ra)) 48)).out, (cryBlock ((s.issued g).placeRead (s.place g (s.r g ra)) 48)).spans.2.2.2, true)].find? fun x => (s.issued g).reachAll g x.1 x.2.1 x.2.2 != 0 || (x.2.1 != 0 && (match (s.issued g).place g x.1 with | .regs _ => true | _ => false))) = none) → ((s.issued g).cryKey g (cryBlock ((s.issued g).placeRead (s.place g (s.r g ra)) 48))).1 ≠ 0 → exec (.cry g rd ra 0) s = .next (({ ((s.issued g).cryKey g (cryBlock ((s.issued g).placeRead (s.place g (s.r g ra)) 48))).2.2.2 with cry := ((s.issued g).cryKey g (cryBlock ((s.issued g).placeRead (s.place g (s.r g ra)) 48))).2.2.2.cry ++ [(⟨g, t, ((s.issued g).cryKey g (cryBlock ((s.issued g).placeRead (s.place g (s.r g ra)) 48))).1, false, none, 0, [], false⟩ : CryOp)] }.setW g rd.toNat t).pcNext g))
  ∧ (∀ (g t : Nat) (rd ra : BitVec 5) (s : State), s.issues g = true → (s.issued g).bufCheck g (s.r g ra) 16 48 false = 0 → s.freeTicket g = some t → (cryBlock ((s.issued g).placeRead (s.place g (s.r g ra)) 48)).ok g = true → (([((cryBlock ((s.issued g).placeRead (s.place g (s.r g ra)) 48)).ad, (cryBlock ((s.issued g).placeRead (s.place g (s.r g ra)) 48)).spans.1, false), ((cryBlock ((s.issued g).placeRead (s.place g (s.r g ra)) 48)).inp, (cryBlock ((s.issued g).placeRead (s.place g (s.r g ra)) 48)).spans.2.1, false), ((cryBlock ((s.issued g).placeRead (s.place g (s.r g ra)) 48)).out, (cryBlock ((s.issued g).placeRead (s.place g (s.r g ra)) 48)).spans.2.2.1, false), ((cryBlock ((s.issued g).placeRead (s.place g (s.r g ra)) 48)).out, (cryBlock ((s.issued g).placeRead (s.place g (s.r g ra)) 48)).spans.2.2.2, true)].find? fun x => (s.issued g).reachAll g x.1 x.2.1 x.2.2 != 0 || (x.2.1 != 0 && (match (s.issued g).place g x.1 with | .regs _ => true | _ => false))) = none) → ((s.issued g).cryKey g (cryBlock ((s.issued g).placeRead (s.place g (s.r g ra)) 48))).1 = 0 → exec (.cry g rd ra 0) s = .next ((let r := (((s.issued g).cryKey g (cryBlock ((s.issued g).placeRead (s.place g (s.r g ra)) 48))).2.2.2.cryRun (cryBlock ((s.issued g).placeRead (s.place g (s.r g ra)) 48)) ((s.issued g).cryKey g (cryBlock ((s.issued g).placeRead (s.place g (s.r g ra)) 48))).2.1 ((s.issued g).placeRead ((s.issued g).place g (cryBlock ((s.issued g).placeRead (s.place g (s.r g ra)) 48)).ad) (cryBlock ((s.issued g).placeRead (s.place g (s.r g ra)) 48)).spans.1) ((s.issued g).placeRead ((s.issued g).place g (cryBlock ((s.issued g).placeRead (s.place g (s.r g ra)) 48)).inp) (cryBlock ((s.issued g).placeRead (s.place g (s.r g ra)) 48)).spans.2.1) ((s.issued g).placeRead ((s.issued g).place g (cryBlock ((s.issued g).placeRead (s.place g (s.r g ra)) 48)).out) (cryBlock ((s.issued g).placeRead (s.place g (s.r g ra)) 48)).spans.2.2.1)); let u := (r.2.2.2.when ((cryBlock ((s.issued g).placeRead (s.place g (s.r g ra)) 48)).op ≤ 2) (·.bump SEC.CCM_CNT)).when ((cryBlock ((s.issued g).placeRead (s.place g (s.r g ra)) 48)).op == 7 || (cryBlock ((s.issued g).placeRead (s.place g (s.r g ra)) 48)).op == 8) (·.bump SEC.ECC_CNT); ({ u with cry := u.cry ++ [(⟨g, t, r.1, r.2.1, ((s.issued g).cryKey g (cryBlock ((s.issued g).placeRead (s.place g (s.r g ra)) 48))).2.2.1, (cryBlock ((s.issued g).placeRead (s.place g (s.r g ra)) 48)).out, r.2.2.1, false⟩ : CryOp)] }.setW g rd.toNat t).pcNext g)))
  ∧ (∀ (g : Nat) (rd ra : BitVec 5) (cmd : BitVec 12) (s : State), s.issues g = true → cmd.toNat < 2 → ((s.cry.find? fun x => x.thread == g && x.ticket == s.r g ra % 8) = none) → exec (.cwait g rd ra cmd) s = .next ((((s.issued g).setW g rd.toNat 0x12).setZ g true).pcNext g))
  ∧ (∀ (g : Nat) (rd ra : BitVec 5) (cmd : BitVec 12) (x : CryOp) (s : State), s.issues g = true → cmd.toNat < 2 → ((s.cry.find? fun x => x.thread == g && x.ticket == s.r g ra % 8) = some x) → x.done = true → exec (.cwait g rd ra cmd) s = .next (((({ (s.issued g) with cry := s.cry.erase x }.setW g rd.toNat (x.status + if x.fail then 256 else 0)).setZ g (x.status != 0 || x.fail)).pcNext g)))
  ∧ (∀ (g : Nat) (rd ra : BitVec 5) (x : CryOp) (s : State), s.issues g = true → ((s.cry.find? fun x => x.thread == g && x.ticket == s.r g ra % 8) = some x) → x.done = false → exec (.cwait g rd ra 1) s = .next ((((s.issued g).setW g rd.toNat 0x01).setZ g true).pcNext g))
  ∧ (∀ (g : Nat) (rd ra : BitVec 5) (x : CryOp) (s : State), s.issues g = true → ((s.cry.find? fun x => x.thread == g && x.ticket == s.r g ra % 8) = some x) → x.done = false → exec (.cwait g rd ra 0) s = .next ((s.issued g).waitFor g 3 rd.toNat (s.r g ra % 8)))
  ∧ (∀ (g t : Nat) (x : CryOp) (s : State), (s.cry.find? (fun x => x.thread == g && x.ticket == t && !x.done) = some x) → exec (.cryComplete g t) s = .next ((let y := s.cryEnd x; let u : State := { s with cry := s.cry.map fun z => if z = x then y else z }; let w := (if y.out = [] then u else u.placeWrite (u.place g y.outAt) y.out).edge g 18; if w.waiting g 3 ∧ w.get THR.WVAL g = t then (w.cwaitDone g (w.get THR.WREG g) y).resume g else w)))

/-- Time, events and waits of a thread: For a ready thread whose PC lies in its range and an instruction in form: TNOW writes Mesh Phase into its pair; TWAIT, with its instant taken from its pair, and from now on with cmd[0], goes on at once where that instant is reached and waits for it where not; TARM sets the timer's instant the same way and arms it, or disarms the timer with cmd[1]; YIELD and FENCE only go on, since accesses complete in order here; WAITEV returns the pending bits its mask and EVMASK pick in rd and clears the edge bits among them, or waits where there is none, and is forbidden where mask and EVMASK share no bit; SIGNAL sets event 24 + cmd in a thread of its owner that is ready or waiting and changes nothing in another thread of its owner, and traps with ACCESS for a thread of another owner. A thread that waits in WAITEV takes the picked bits once there are some and goes on, one that waits in TWAIT goes on once its instant is reached, and an armed timer whose instant is reached disarms and sets event 16 in a thread that is ready or waiting; before that each stays as it is. The rules it rests on: R380, R381, R382, R383, R420, R421, R422. -/
def Obligations.ThreadTimeAndEvents : Prop :=
  (∀ (g : Nat) (rd : BitVec 5) (s : State), s.issues g = true → rd.toNat % 2 = 0 → exec (.tnow g rd 0 0) s = .next ((((s.issued g).setW g rd.toNat (s.mp % 2 ^ 32)).setW g (rd.toNat + 1) (s.mp / 2 ^ 32)).pcNext g))
  ∧ (∀ (g : Nat) (ra : BitVec 5) (cmd : BitVec 12) (s : State), s.issues g = true → ra.toNat % 2 = 0 → cmd.toNat < 2 → ((s.pair g ra.toNat + if bit cmd.toNat 0 then s.mp else 0) % 2 ^ 64) ≤ s.mp → exec (.twait g 0 ra cmd) s = .next ((s.issued g).pcNext g))
  ∧ (∀ (g : Nat) (ra : BitVec 5) (cmd : BitVec 12) (s : State), s.issues g = true → ra.toNat % 2 = 0 → cmd.toNat < 2 → s.mp < ((s.pair g ra.toNat + if bit cmd.toNat 0 then s.mp else 0) % 2 ^ 64) → exec (.twait g 0 ra cmd) s = .next ((s.issued g).waitFor g 2 0 ((s.pair g ra.toNat + if bit cmd.toNat 0 then s.mp else 0) % 2 ^ 64)))
  ∧ (∀ (g : Nat) (ra : BitVec 5) (cmd : BitVec 12) (s : State), s.issues g = true → ra.toNat % 2 = 0 → cmd.toNat < 2 → exec (.tarm g 0 ra cmd) s = .next ((((s.issued g).put THR.TIMER g ((s.pair g ra.toNat + if bit cmd.toNat 0 then s.mp else 0) % 2 ^ 64)).put THR.TIMER_ON g 1).pcNext g))
  ∧ (∀ (g : Nat) (cmd : BitVec 12) (s : State), s.issues g = true → (cmd.toNat = 2 ∨ cmd.toNat = 3) → exec (.tarm g 0 0 cmd) s = .next (((s.issued g).put THR.TIMER_ON g 0).pcNext g))
  ∧ (∀ (g : Nat) (s : State), s.issues g = true → exec (.yield g 0 0 0) s = .next ((s.issued g).pcNext g))
  ∧ (∀ (g : Nat) (s : State), s.issues g = true → exec (.fence g 0 0 0) s = .next ((s.issued g).pcNext g))
  ∧ (∀ (g : Nat) (rd ra : BitVec 5) (s : State), s.issues g = true → Nat.land (s.r g ra) (s.get THR.EVMASK g) ≠ 0 → (s.evHit g (s.r g ra)) ≠ 0 → exec (.waitev g rd ra 0) s = .next ((((s.issued g).put THR.EVPEND g (s.get THR.EVPEND g - Nat.land (s.get THR.EVPEND g) (s.evHit g (s.r g ra)))).setW g rd.toNat (s.evHit g (s.r g ra))).pcNext g))
  ∧ (∀ (g : Nat) (rd ra : BitVec 5) (s : State), s.issues g = true → Nat.land (s.r g ra) (s.get THR.EVMASK g) ≠ 0 → (s.evHit g (s.r g ra)) = 0 → exec (.waitev g rd ra 0) s = .next ((s.issued g).waitFor g 1 rd.toNat (s.r g ra)))
  ∧ (∀ (g : Nat) (rd ra : BitVec 5) (s : State), s.issues g = true → Nat.land (s.r g ra) (s.get THR.EVMASK g) = 0 → exec (.waitev g rd ra 0) s = .next ((s.issued g).trap g 0x01 (wordX 0x2C 1 rd ra 0)))
  ∧ (∀ (g : Nat) (ra : BitVec 5) (cmd : BitVec 12) (s : State), s.issues g = true → cmd.toNat < 8 → threadOwner (s.r g ra % 512) = threadOwner g → (s.threadState (s.r g ra % 512) = 1 ∨ s.threadState (s.r g ra % 512) = 2) → exec (.signal g 0 ra cmd) s = .next (((s.issued g).put THR.EVPEND (s.r g ra % 512) (Nat.lor (s.get THR.EVPEND (s.r g ra % 512)) (2 ^ (24 + cmd.toNat)))).pcNext g))
  ∧ (∀ (g : Nat) (ra : BitVec 5) (cmd : BitVec 12) (s : State), s.issues g = true → cmd.toNat < 8 → threadOwner (s.r g ra % 512) = threadOwner g → s.threadState (s.r g ra % 512) ≠ 1 → s.threadState (s.r g ra % 512) ≠ 2 → exec (.signal g 0 ra cmd) s = .next ((s.issued g).pcNext g))
  ∧ (∀ (g : Nat) (ra : BitVec 5) (cmd : BitVec 12) (s : State), s.issues g = true → cmd.toNat < 8 → threadOwner (s.r g ra % 512) ≠ threadOwner g → exec (.signal g 0 ra cmd) s = .next ((s.issued g).trap g 0x04 (s.r g ra % 512)))
  ∧ (∀ (g : Nat) (s : State), g < 512 → s.threadState g = 2 → s.get THR.WAIT g = 1 → s.evHit g (s.get THR.WVAL g) ≠ 0 → exec (.threadEventWake g) s = .next ((let v := s.evHit g (s.get THR.WVAL g); (((s.put THR.EVPEND g (s.get THR.EVPEND g - Nat.land (s.get THR.EVPEND g) v)).setW g (s.get THR.WREG g) v).putThread g 1).clr THR.WAIT g).pcNext g))
  ∧ (∀ (g : Nat) (s : State), s.evHit g (s.get THR.WVAL g) = 0 → exec (.threadEventWake g) s = .next (s))
  ∧ (∀ (g : Nat) (s : State), g < 512 → s.threadState g = 2 → s.get THR.WAIT g = 2 → s.get THR.WVAL g ≤ s.mp → exec (.twaitExpire g) s = .next (((s.putThread g 1).clr THR.WAIT g).pcNext g))
  ∧ (∀ (g : Nat) (s : State), s.mp < s.get THR.WVAL g → exec (.twaitExpire g) s = .next (s))
  ∧ (∀ (g : Nat) (s : State), g < 512 → s.get THR.TIMER_ON g ≠ 0 → s.get THR.TIMER g ≤ s.mp → (s.threadState g = 1 ∨ s.threadState g = 2) → exec (.threadTimerFire g) s = .next ((s.put THR.TIMER_ON g 0).put THR.EVPEND g (Nat.lor (s.get THR.EVPEND g) (2 ^ 16))))
  ∧ (∀ (g : Nat) (s : State), (s.get THR.TIMER_ON g = 0 ∨ s.mp < s.get THR.TIMER g) → exec (.threadTimerFire g) s = .next (s))

/-- Special registers, traps and halts: For a ready thread whose PC lies in its range: MFS moves into rd the special register cmd names, in the order its clauses name them: the thread number, the owner word, the flags with T at bit 4, SEG, EVMASK, EVPEND, TVEC, EPC, ECAUSE, EVAL, the timer's halves, the cycle counter's halves (reading the low one keeps the high one for the next read of it), SCRATCH and the watch slots, and 0 for the kick register and every reserved number below 64. MTS writes the flags, EVMASK, TVEC, EPC and SCRATCH; SEG where its window meets the grant, trapping with cause 0x0A where not; a watch slot where the thread may name that FIFO; and kicks its engine's watchdog from a thread that is no program's; every other number, and these last two where not allowed, traps with PRIV. TRAP goes to the vector with EPC, ECAUSE 9 and EVAL written and T set, and halts the thread where TVEC is 0 or T set, counted either way. TRET in a trap goes to EPC and clears T, and outside one is forbidden. HALT halts the thread (its ECAUSE and EVAL are free values, assumption 3). An engine watchdog that is enabled and not kicked in its time restarts its count and, for an engine of the runtime, is fault 0x0403 of that engine's source with its cause bit; for an engine of a Hedge it resets that Hedge and is a fault naming it; disabled, or before its time, it changes nothing. The rules it rests on: R367, R371, R375, R387, R388, R389, R402, R421, R423. -/
def Obligations.ThreadSystem : Prop :=
  (∀ (g : Nat) (rd : BitVec 5) (s : State), s.issues g = true → exec (.mfs g rd 0 0) s = .next ((s.issued g).move g rd g))
  ∧ (∀ (g : Nat) (rd : BitVec 5) (s : State), s.issues g = true → exec (.mfs g rd 0 1) s = .next ((s.issued g).move g rd (ownerWord g)))
  ∧ (∀ (g : Nat) (rd : BitVec 5) (s : State), s.issues g = true → exec (.mfs g rd 0 2) s = .next ((s.issued g).move g rd (s.get THR.FLAGS g + 16 * s.get THR.T g)))
  ∧ (∀ (g : Nat) (rd : BitVec 5) (s : State), s.issues g = true → exec (.mfs g rd 0 3) s = .next ((s.issued g).move g rd (s.get THR.SEG g)))
  ∧ (∀ (g : Nat) (rd : BitVec 5) (s : State), s.issues g = true → exec (.mfs g rd 0 4) s = .next ((s.issued g).move g rd (s.get THR.EVMASK g)))
  ∧ (∀ (g : Nat) (rd : BitVec 5) (s : State), s.issues g = true → exec (.mfs g rd 0 5) s = .next ((s.issued g).move g rd ((s.issued g).evPend g)))
  ∧ (∀ (g : Nat) (rd : BitVec 5) (s : State), s.issues g = true → exec (.mfs g rd 0 6) s = .next ((s.issued g).move g rd (s.get THR.TVEC g)))
  ∧ (∀ (g : Nat) (rd : BitVec 5) (s : State), s.issues g = true → exec (.mfs g rd 0 7) s = .next ((s.issued g).move g rd (s.get THR.EPC g)))
  ∧ (∀ (g : Nat) (rd : BitVec 5) (s : State), s.issues g = true → exec (.mfs g rd 0 8) s = .next ((s.issued g).move g rd (s.get THR.ECAUSE g)))
  ∧ (∀ (g : Nat) (rd : BitVec 5) (s : State), s.issues g = true → exec (.mfs g rd 0 9) s = .next ((s.issued g).move g rd (s.get THR.EVAL g)))
  ∧ (∀ (g : Nat) (rd : BitVec 5) (s : State), s.issues g = true → exec (.mfs g rd 0 10) s = .next ((s.issued g).move g rd (s.get THR.TIMER g % 2 ^ 32)))
  ∧ (∀ (g : Nat) (rd : BitVec 5) (s : State), s.issues g = true → exec (.mfs g rd 0 11) s = .next ((s.issued g).move g rd (s.get THR.TIMER g / 2 ^ 32)))
  ∧ (∀ (g : Nat) (rd : BitVec 5) (s : State), s.issues g = true → exec (.mfs g rd 0 12) s = .next ((((s.issued g).put THR.CYC_HI g ((s.issued g).cycles g / 2 ^ 32)).put THR.CYC_ON g 1).move g rd ((s.issued g).cycles g % 2 ^ 32)))
  ∧ (∀ (g : Nat) (rd : BitVec 5) (s : State), s.issues g = true → exec (.mfs g rd 0 13) s = .next (((s.issued g).put THR.CYC_ON g 0).move g rd (if s.get THR.CYC_ON g ≠ 0 then s.get THR.CYC_HI g else (s.issued g).cycles g / 2 ^ 32)))
  ∧ (∀ (g : Nat) (rd : BitVec 5) (s : State), s.issues g = true → exec (.mfs g rd 0 15) s = .next ((s.issued g).move g rd (s.get THR.SCRATCH g)))
  ∧ (∀ (g k : Nat) (rd : BitVec 5) (s : State), s.issues g = true → k < 16 → exec (.mfs g rd 0 (BitVec.ofNat 12 (16 + k))) s = .next ((s.issued g).move g rd (s.get THR.WSLOT (16 * g + k))))
  ∧ (∀ (g k : Nat) (rd : BitVec 5) (s : State), s.issues g = true → (k = 14 ∨ 32 ≤ k) → k < 64 → exec (.mfs g rd 0 (BitVec.ofNat 12 k)) s = .next ((s.issued g).move g rd 0))
  ∧ (∀ (g : Nat) (ra : BitVec 5) (s : State), s.issues g = true → exec (.mts g 0 ra 2) s = .next (((s.issued g).put THR.FLAGS g (s.r g ra)).pcNext g))
  ∧ (∀ (g : Nat) (ra : BitVec 5) (s : State), s.issues g = true → exec (.mts g 0 ra 4) s = .next (((s.issued g).put THR.EVMASK g (s.r g ra)).pcNext g))
  ∧ (∀ (g : Nat) (ra : BitVec 5) (s : State), s.issues g = true → exec (.mts g 0 ra 6) s = .next (((s.issued g).put THR.TVEC g (s.r g ra)).pcNext g))
  ∧ (∀ (g : Nat) (ra : BitVec 5) (s : State), s.issues g = true → exec (.mts g 0 ra 7) s = .next (((s.issued g).put THR.EPC g (s.r g ra)).pcNext g))
  ∧ (∀ (g : Nat) (ra : BitVec 5) (s : State), s.issues g = true → exec (.mts g 0 ra 15) s = .next (((s.issued g).put THR.SCRATCH g (s.r g ra)).pcNext g))
  ∧ (∀ (g : Nat) (ra : BitVec 5) (s : State), s.issues g = true → s.segOk g (s.r g ra) = true → exec (.mts g 0 ra 3) s = .next (((s.issued g).put THR.SEG g (s.r g ra)).pcNext g))
  ∧ (∀ (g : Nat) (ra : BitVec 5) (s : State), s.issues g = true → s.segOk g (s.r g ra) = false → exec (.mts g 0 ra 3) s = .next ((s.issued g).trap g 0x0A (s.r g ra)))
  ∧ (∀ (g k : Nat) (ra : BitVec 5) (s : State), s.issues g = true → k < 16 → (s.issued g).fifoMay g (s.r g ra % 2048) = true → exec (.mts g 0 ra (BitVec.ofNat 12 (16 + k))) s = .next (((s.issued g).put THR.WSLOT (16 * g + k) (Nat.land (s.r g ra) 0x97FF)).pcNext g))
  ∧ (∀ (g k : Nat) (ra : BitVec 5) (s : State), s.issues g = true → k < 16 → (s.issued g).fifoMay g (s.r g ra % 2048) = false → exec (.mts g 0 ra (BitVec.ofNat 12 (16 + k))) s = .next ((s.issued g).trap g 0x07 (16 + k)))
  ∧ (∀ (g : Nat) (ra : BitVec 5) (s : State), s.issues g = true → (g < 448 ∨ g % 4 = 0) → exec (.mts g 0 ra 14) s = .next (((s.issued g).put ENGX.KICK (g / 4) (s.get CLK.CYC)).pcNext g))
  ∧ (∀ (g : Nat) (ra : BitVec 5) (s : State), s.issues g = true → 448 ≤ g → g % 4 ≠ 0 → exec (.mts g 0 ra 14) s = .next ((s.issued g).trap g 0x07 14))
  ∧ (∀ (g k : Nat) (ra : BitVec 5) (s : State), s.issues g = true → k < 64 → (k = 0 ∨ k = 1 ∨ k = 5 ∨ (8 ≤ k ∧ k < 14) ∨ 32 ≤ k) → exec (.mts g 0 ra (BitVec.ofNat 12 k)) s = .next ((s.issued g).trap g 0x07 k))
  ∧ (∀ (g : Nat) (cmd : BitVec 12) (s : State), s.issues g = true → s.get THR.TVEC g ≠ 0 → s.get THR.T g = 0 → exec (.trap g 0 0 cmd) s = .next (((((((s.issued g).bump ENGE.TRAP_CNT (g / 4)).put THR.EPC g (s.get THR.PC g)).put THR.ECAUSE g 9).put THR.EVAL g cmd.toNat).put THR.T g 1).put THR.PC g (s.get THR.TVEC g)))
  ∧ (∀ (g : Nat) (cmd : BitVec 12) (s : State), s.issues g = true → (s.get THR.TVEC g = 0 ∨ s.get THR.T g ≠ 0) → exec (.trap g 0 0 cmd) s = .next (((s.issued g).bump ENGE.TRAP_CNT (g / 4)).halt g (s.get THR.PC g) 9 cmd.toNat))
  ∧ (∀ (g : Nat) (s : State), s.issues g = true → s.get THR.T g ≠ 0 → exec (.tret g 0 0 0) s = .next (((s.issued g).put THR.PC g (s.get THR.EPC g)).put THR.T g 0))
  ∧ (∀ (g : Nat) (s : State), s.issues g = true → s.get THR.T g = 0 → exec (.tret g 0 0 0) s = .next ((s.issued g).trap g 0x01 (wordX 0x3F 3 0 0 0)))
  ∧ (∀ (g : Nat) (s : State), s.issues g = true → exec (.halt g 0 0 0) s = .next (((s.issued g).draw.2.draw.2).halt g (s.get THR.PC g) ((s.issued g).draw.1 % 2 ^ 8) ((s.issued g).draw.2.draw.1 % 2 ^ 32)))
  ∧ (∀ (e : Nat) (s : State), e < 112 → s.get ENGE.CTL_WDOG_EN e ≠ 0 → s.get ENGX.KICK e + 750 * s.get ENGE.WDOG_TIMEOUT e ≤ s.get CLK.CYC → exec (.engineWdogExpire e) s = .next ((s.put ENGX.KICK e (s.get CLK.CYC)).sourceFault 0x0403 e 4 6))
  ∧ (∀ (e : Nat) (s : State), 112 ≤ e → e < 128 → s.get ENGE.CTL_WDOG_EN e ≠ 0 → s.get ENGX.KICK e + 750 * s.get ENGE.WDOG_TIMEOUT e ≤ s.get CLK.CYC → exec (.engineWdogExpire e) s = .next (((s.put ENGX.KICK e (s.get CLK.CYC)).hedgeReset ((e - 112) / 2) 4).fault 0x0403 e 3 (some ((e - 112) / 2))))
  ∧ (∀ (e : Nat) (s : State), (s.get ENGE.CTL_WDOG_EN e = 0 ∨ s.get CLK.CYC < s.get ENGX.KICK e + 750 * s.get ENGE.WDOG_TIMEOUT e) → exec (.engineWdogExpire e) s = .next (s))

/-- Loading, stopping and signalling a program, and the grants: PROG_LOAD of an image that lies in the Hedge's DRAM grant completes BAD_DESCRIPTOR where the image is out of form; where it is in form a signature check is counted if the Hedge has an anchor in slot 0, and it completes IMAGE_MISMATCH where the image is not signed under that anchor; else the program's threads halt, its memories are cleared and written from the image, and it runs and completes DONE where the read-back holds and is unloaded with IMAGE_MISMATCH where not; an image outside the grant completes ACCESS_DENIED and does nothing more. PROG_STOP halts the program's threads, each reported, unloads it and completes DONE. PROG_SIGNAL with a mask of up to six bits sets NOTICE in each thread it names and completes DONE, and with a wider one completes BAD_DESCRIPTOR. A privileged write of SRAM_BASE, SRAM_SIZE or the low half of DRAM_BASE or DRAM_SIZE of a Hedge takes effect only while no program of the Hedge is loaded and the grant it gives is aligned and clear of the table, of the Steward and of every other Hedge's; else it only sets BAD_CFG. A write of the high half of either is kept for the low half's write. The rules it rests on: R361, R372, R374, R388, R390, R391, R396. -/
def Obligations.ProgramsAndGrants : Prop :=
  (∀ (c : Cmd) (off len : Nat) (good : Bool) (s : State), s.get ENGH.DRAM_SIZE c.ring < off + len → exec (.progLoad c off len good) s = .next (s.finish c 0x4A 0x13))
  ∧ (∀ (c : Cmd) (off len : Nat) (good : Bool) (s : State), off + len ≤ s.get ENGH.DRAM_SIZE c.ring → exec (.progLoad c off len good) s = .next (if !s.imageOk c.ring (memReadL s.mem.dram (s.get ENGH.DRAM_BASE c.ring + off) len) then s.finish c 0x4A 0x12 else if !(if s.get TRUST.CTL_VALID0 c.ring ≠ 0 then s.bump SEC.ECC_CNT 0 else s).imageSigned c.ring (memReadL s.mem.dram (s.get ENGH.DRAM_BASE c.ring + off) len) then (if s.get TRUST.CTL_VALID0 c.ring ≠ 0 then s.bump SEC.ECC_CNT 0 else s).finish c 0x4A 0x0D else (((if s.get TRUST.CTL_VALID0 c.ring ≠ 0 then s.bump SEC.ECC_CNT 0 else s).haltPrograms c.ring false).runImage c.ring (memReadL s.mem.dram (s.get ENGH.DRAM_BASE c.ring + off) len) good).finish c 0x4A (if good then 0 else 0x0D)))
  ∧ (∀ (c : Cmd) (s : State), exec (.progStop c) s = .next (((s.haltPrograms c.ring true).unload c.ring).finish c 0x4B 0))
  ∧ (∀ (c : Cmd) (mask : Nat) (s : State), 64 ≤ mask → exec (.progSignal c mask) s = .next (s.finish c 0x4C 0x12))
  ∧ (∀ (c : Cmd) (mask : Nat) (s : State), mask < 64 → exec (.progSignal c mask) s = .next ((s.each ([0, 1, 2, 3, 4, 5].filter (bit mask)) fun s k => if s.threadState (progThread c.ring k) = 1 ∨ s.threadState (progThread c.ring k) = 2 then s.put THR.EVPEND (progThread c.ring k) (Nat.lor (s.get THR.EVPEND (progThread c.ring k)) (2 ^ 20)) else s).finish c 0x4C 0))
  ∧ (∀ (r : Req) (h v : Nat) (s : State), h < 8 → s.get ENGH.PROG_STATE h = 0 → viewOf r = 0 → s.reachWord r (ENGH.SRAM_BASE.addr h) 4 = 0 → s.sramGrantOk h (v % 2 ^ 26) (s.get ENGH.SRAM_SIZE h) = true → exec (.enghGrantWrite r h 0x00 v) s = .next (s.put ENGH.SRAM_BASE h (v % 2 ^ 32)))
  ∧ (∀ (r : Req) (h v : Nat) (s : State), h < 8 → s.get ENGH.PROG_STATE h = 0 → viewOf r = 0 → s.reachWord r (ENGH.SRAM_BASE.addr h + 0x04) 4 = 0 → s.sramGrantOk h (s.get ENGH.SRAM_BASE h) (v % 2 ^ 26) = true → exec (.enghGrantWrite r h 0x04 v) s = .next (s.put ENGH.SRAM_SIZE h (v % 2 ^ 32)))
  ∧ (∀ (r : Req) (h v : Nat) (s : State), h < 8 → s.get ENGH.PROG_STATE h = 0 → viewOf r = 0 → s.reachWord r (ENGH.SRAM_BASE.addr h + 0x08) 4 = 0 → s.dramGrantOk h (s.join64 r (0xA08008 + 0x40 * h) v) (s.get ENGH.DRAM_SIZE h) = true → exec (.enghGrantWrite r h 0x08 v) s = .next (s.put ENGH.DRAM_BASE h (s.join64 r (0xA08008 + 0x40 * h) v)))
  ∧ (∀ (r : Req) (h v : Nat) (s : State), h < 8 → s.get ENGH.PROG_STATE h = 0 → viewOf r = 0 → s.reachWord r (ENGH.SRAM_BASE.addr h + 0x10) 4 = 0 → s.dramGrantOk h (s.get ENGH.DRAM_BASE h) (s.join64 r (0xA08010 + 0x40 * h) v) = true → exec (.enghGrantWrite r h 0x10 v) s = .next (s.put ENGH.DRAM_SIZE h (s.join64 r (0xA08010 + 0x40 * h) v)))
  ∧ (∀ (r : Req) (h off v : Nat) (s : State), h < 8 → viewOf r = 0 → (off = 0x0C ∨ off = 0x14) → s.reachWord r (ENGH.SRAM_BASE.addr h + off) 4 = 0 → exec (.enghGrantWrite r h off v) s = .next (s.put X64.PEND (x64 r (0xA08000 + 0x40 * h + off - 4)) (v % 2 ^ 32)))
  ∧ (∀ (r : Req) (h off v : Nat) (s : State), h < 8 → viewOf r = 0 → (off = 0x00 ∨ off = 0x04 ∨ off = 0x08 ∨ off = 0x10) → s.reachWord r (ENGH.SRAM_BASE.addr h + off) 4 = 0 → s.get ENGH.PROG_STATE h ≠ 0 → exec (.enghGrantWrite r h off v) s = .next (s.put ENG.EVENT_BAD_CFG 0 1))
  ∧ (∀ (r : Req) (h v : Nat) (s : State), h < 8 → viewOf r = 0 → s.reachWord r (ENGH.SRAM_BASE.addr h) 4 = 0 → s.sramGrantOk h (v % 2 ^ 26) (s.get ENGH.SRAM_SIZE h) = false → exec (.enghGrantWrite r h 0x00 v) s = .next (s.put ENG.EVENT_BAD_CFG 0 1))
  ∧ (∀ (r : Req) (h v : Nat) (s : State), h < 8 → viewOf r = 0 → s.reachWord r (ENGH.SRAM_BASE.addr h + 0x04) 4 = 0 → s.sramGrantOk h (s.get ENGH.SRAM_BASE h) (v % 2 ^ 26) = false → exec (.enghGrantWrite r h 0x04 v) s = .next (s.put ENG.EVENT_BAD_CFG 0 1))
  ∧ (∀ (r : Req) (h v : Nat) (s : State), h < 8 → viewOf r = 0 → s.reachWord r (ENGH.SRAM_BASE.addr h + 0x08) 4 = 0 → s.dramGrantOk h (s.join64 r (0xA08008 + 0x40 * h) v) (s.get ENGH.DRAM_SIZE h) = false → exec (.enghGrantWrite r h 0x08 v) s = .next (s.put ENG.EVENT_BAD_CFG 0 1))
  ∧ (∀ (r : Req) (h v : Nat) (s : State), h < 8 → viewOf r = 0 → s.reachWord r (ENGH.SRAM_BASE.addr h + 0x10) 4 = 0 → s.dramGrantOk h (s.get ENGH.DRAM_BASE h) (s.join64 r (0xA08010 + 0x40 * h) v) = false → exec (.enghGrantWrite r h 0x10 v) s = .next (s.put ENG.EVENT_BAD_CFG 0 1))

/-- Bindings, PCIe functions and DMA errors: A write of HBIND that changes no field of the binding takes effect and starts no reset with cause REBIND; one that changes it, and clashes with no other, keeps the binding in force aside where no change was pending yet, takes effect, is marked pending and starts a Hedge reset with cause REBIND; one that clashes is ignored with BAD_CFG; bit 16 of a write of CTL starts a reset with cause PRIV besides. The key slots change alone where the binding stands. An FLR of a function resets the Hedge attached to it with cause FLR, and one of a function with no Hedge does nothing. PERST of a port records its cause, counts, and takes the width, speed and inverted lanes the link trains with; bus master clears on each function of the port, and each Hedge attached there takes UP from the width and is reset with cause PERST. A change of bus master enable shows in HOSTH of the function's Hedge, and of the privileged port for its function, and waiting completions go out where they can. A DMA error sets DMA_ERR, raises vector 3, clears CMD_EN where set (at once with nothing posted, else when that is fetched) and clears the other ring enables of its port. The rules it rests on: R424, R425, R426, R448, R454, R477. -/
def Obligations.Attachments : Prop :=
  (∀ (r : Req) (h off v : Nat) (s : State), h < 8 → s.reachWord r (HBIND.CTL_ATTACH.addr h + off) 4 = 0 → (s.bindWord r h off v).binding h = s.binding h → exec (.hbindWrite r h off v) s = .next ((let u := (s.bindWord r h off v); (if off = 0 ∧ bit v 16 = true then u.hedgeReset h 1 else u))))
  ∧ (∀ (r : Req) (h off v : Nat) (s : State), h < 8 → s.reachWord r (HBIND.CTL_ATTACH.addr h + off) 4 = 0 → (s.bindWord r h off v).binding h ≠ s.binding h → (s.bindWord r h off v).bindBad h = false → exec (.hbindWrite r h off v) s = .next ((let u := ((if s.get HST.REBIND h ≠ 0 then (s.bindWord r h off v) else ((((s.bindWord r h off v).put HST.OLD_ATTACH h (s.get HBIND.CTL_ATTACH h)).put HST.OLD_FN h (s.get HBIND.CTL_FN h)).put HST.OLD_ETH h (s.get HBIND.CTL_ETH_PORT h)).put HST.OLD_IP h (s.ownIp h)).put HST.REBIND h 1).hedgeReset h 5; (if off = 0 ∧ bit v 16 = true then u.hedgeReset h 1 else u))))
  ∧ (∀ (r : Req) (h off v : Nat) (s : State), h < 8 → s.reachWord r (HBIND.CTL_ATTACH.addr h + off) 4 = 0 → (s.bindWord r h off v).binding h ≠ s.binding h → (s.bindWord r h off v).bindBad h = true → exec (.hbindWrite r h off v) s = .next (s.put HOSTG.EVENT_BAD_CFG 0 1))
  ∧ (∀ (r : Req) (h v : Nat) (s : State), h < 8 → s.reachWord r (HBIND.CTL_ATTACH.addr h + 8) 4 = 0 → exec (.hbindWrite r h 8 v) s = .next ((s.put HBIND.KEYS_TUN_TX_KEY h v).put HBIND.KEYS_TUN_RX_KEY h (bits v 16 10)))
  ∧ (∀ (f h : Nat) (s : State), s.fnHedge f = some h → exec (.pcieFlr f) s = .next (s.hedgeReset h 2))
  ∧ (∀ (f : Nat) (s : State), s.fnHedge f = none → exec (.pcieFlr f) s = .next (s))
  ∧ (∀ (p width speed pol : Nat) (s : State), p < 2 → exec (.pciePerst p width speed pol) s = .next ((((((s.put RST.RST_CAUSE 0 (Nat.lor (s.get RST.RST_CAUSE) (2 ^ (10 + p)))).bump HOSTG.PERST_CNT).put HOSTG.LINK_WIDTH p width).put HOSTG.LINK_SPEED p speed).put HOSTG.LINK_POL_INV p pol).each ((List.range 8).filter fun f => s.fnPort f == p) fun u f => match (u.busMaster f 0).fnHedge f with | some h => ((u.busMaster f 0).put HBIND.STATUS_UP h (if width = 0 then 0 else 1)).hedgeReset h 3 | none => u.busMaster f 0))
  ∧ (∀ (f : Nat) (on : Bool) (s : State), f < 8 → s.fnHedge f = none → s.get HOSTG.CFG_PRIV_FN ≠ f → exec (.busMasterChange f on) s = .next (s.put HST.FN_BM f (if on then 1 else 0)))
  ∧ (∀ (f h : Nat) (on : Bool) (s : State), f < 8 → s.fnHedge f = some h → s.get HOSTG.CFG_PRIV_FN ≠ f → exec (.busMasterChange f on) s = .next (((s.put HST.FN_BM f (if on then 1 else 0)).put HOSTH.STATUS_BM h (if on then 1 else 0)).cplDrain h))
  ∧ (∀ (f : Nat) (on : Bool) (s : State), f < 8 → s.fnHedge f = none → s.get HOSTG.CFG_PRIV_FN = f → exec (.busMasterChange f on) s = .next (((s.put HST.FN_BM f (if on then 1 else 0)).put HOSTH.STATUS_BM 8 (if on then 1 else 0)).cplDrain 8))
  ∧ (∀ (f h : Nat) (on : Bool) (s : State), f < 8 → s.fnHedge f = some h → s.get HOSTG.CFG_PRIV_FN = f → exec (.busMasterChange f on) s = .next (((((s.put HST.FN_BM f (if on then 1 else 0)).put HOSTH.STATUS_BM 8 (if on then 1 else 0)).put HOSTH.STATUS_BM h (if on then 1 else 0)).cplDrain 8).cplDrain h))
  ∧ (∀ (i : Nat) (s : State), i < 9 → s.get HOSTH.CTL_CMD_EN i = 0 → exec (.dmaError i) s = .next (((((s.put HOSTH.EVENT_DMA_ERR i 1).irq i 3).put HOSTH.CTL_CPL_EN i 0).put HOSTH.CTL_EV_EN i 0).put HOSTH.CTL_RX_EN i 0))
  ∧ (∀ (i : Nat) (s : State), i < 9 → s.get HOSTH.CTL_CMD_EN i ≠ 0 → exec (.dmaError i) s = .next ((let u := (s.put HOSTH.EVENT_DMA_ERR i 1).irq i 3; (((if u.ringHeld i 0 = 0 then (u.put HOSTH.CTL_CMD_EN i 0).put HST.DRAIN i 0 else u.put HST.DRAIN i 1).put HOSTH.CTL_CPL_EN i 0).put HOSTH.CTL_EV_EN i 0).put HOSTH.CTL_RX_EN i 0)))

/-- Doorbells and ring enables: A doorbell of a port that is not in reset, whose register the requester reaches, moves the host's index where it stays within its ring: of the command ring it posts the commands with their instant, of the completion ring it lets waiting completions out; one that would move the index backwards or too far is ignored with DOORBELL_BAD and vector 3; in reset each is ignored. A write of a port's CTL takes TRUMP_NOW, sets or clears each of the four ring enables unless the port is in reset, lets waiting completions out, and with bit 8 starts a Hedge reset with cause SELF except on the privileged port. Setting one of the three other enables from clear zeroes its ring's indices. CMD_EN that waits to clear clears once nothing posted is unfetched. A coalesced interrupt is sent when its time has passed since its first entry, and not before. The rules it rests on: R427, R428, R430, R431, R448, R455. -/
def Obligations.RingsAndDoorbells : Prop :=
  (∀ (r : Req) (i v : Nat) (s : State), i < 9 → s.get HOSTH.STATUS_IN_RESET i = 0 → s.reachWord r (HOSTH.RING_PROD.addr (128 * i)) 4 = 0 → s.prodOk i 0 (v % 2 ^ 32) = true → exec (.cmdDoorbell r i v) s = .next (({ s with posted := s.posted ++ [(i, v % 2 ^ 32, s.mp)] } : State).put HOSTH.RING_PROD (128 * i) v))
  ∧ (∀ (r : Req) (i v : Nat) (s : State), i < 9 → s.get HOSTH.STATUS_IN_RESET i = 0 → s.reachWord r (HOSTH.RING_PROD.addr (128 * i)) 4 = 0 → s.prodOk i 0 (v % 2 ^ 32) = false → exec (.cmdDoorbell r i v) s = .next ((s.put HOSTH.EVENT_DOORBELL_BAD i 1).irq i 3))
  ∧ (∀ (r : Req) (i v : Nat) (s : State), s.get HOSTH.STATUS_IN_RESET i ≠ 0 → s.reachWord r (HOSTH.RING_PROD.addr (128 * i)) 4 = 0 → exec (.cmdDoorbell r i v) s = .next (s))
  ∧ (∀ (r : Req) (i v : Nat) (s : State), i < 9 → s.get HOSTH.STATUS_IN_RESET i = 0 → s.reachWord r (HOSTH.RING_PROD.addr (128 * i + 3)) 4 = 0 → s.prodOk i 3 (v % 2 ^ 32) = true → exec (.rxDoorbell r i v) s = .next (s.put HOSTH.RING_PROD (128 * i + 3) v))
  ∧ (∀ (r : Req) (i v : Nat) (s : State), i < 9 → s.get HOSTH.STATUS_IN_RESET i = 0 → s.reachWord r (HOSTH.RING_PROD.addr (128 * i + 3)) 4 = 0 → s.prodOk i 3 (v % 2 ^ 32) = false → exec (.rxDoorbell r i v) s = .next ((s.put HOSTH.EVENT_DOORBELL_BAD i 1).irq i 3))
  ∧ (∀ (r : Req) (i v : Nat) (s : State), s.get HOSTH.STATUS_IN_RESET i ≠ 0 → s.reachWord r (HOSTH.RING_PROD.addr (128 * i + 3)) 4 = 0 → exec (.rxDoorbell r i v) s = .next (s))
  ∧ (∀ (r : Req) (i v : Nat) (s : State), i < 9 → s.get HOSTH.STATUS_IN_RESET i = 0 → s.reachWord r (HOSTH.RING_CONS.addr (128 * i + 1)) 4 = 0 → s.consOk i 1 (v % 2 ^ 32) = true → exec (.cplDoorbell r i v) s = .next ((s.put HOSTH.RING_CONS (128 * i + 1) v).cplDrain i))
  ∧ (∀ (r : Req) (i v : Nat) (s : State), i < 9 → s.get HOSTH.STATUS_IN_RESET i = 0 → s.reachWord r (HOSTH.RING_CONS.addr (128 * i + 1)) 4 = 0 → s.consOk i 1 (v % 2 ^ 32) = false → exec (.cplDoorbell r i v) s = .next ((s.put HOSTH.EVENT_DOORBELL_BAD i 1).irq i 3))
  ∧ (∀ (r : Req) (i v : Nat) (s : State), s.get HOSTH.STATUS_IN_RESET i ≠ 0 → s.reachWord r (HOSTH.RING_CONS.addr (128 * i + 1)) 4 = 0 → exec (.cplDoorbell r i v) s = .next (s))
  ∧ (∀ (r : Req) (i v : Nat) (s : State), i < 9 → s.get HOSTH.STATUS_IN_RESET i = 0 → s.reachWord r (HOSTH.RING_CONS.addr (128 * i + 2)) 4 = 0 → s.consOk i 2 (v % 2 ^ 32) = true → exec (.evDoorbell r i v) s = .next (s.put HOSTH.RING_CONS (128 * i + 2) v))
  ∧ (∀ (r : Req) (i v : Nat) (s : State), i < 9 → s.get HOSTH.STATUS_IN_RESET i = 0 → s.reachWord r (HOSTH.RING_CONS.addr (128 * i + 2)) 4 = 0 → s.consOk i 2 (v % 2 ^ 32) = false → exec (.evDoorbell r i v) s = .next ((s.put HOSTH.EVENT_DOORBELL_BAD i 1).irq i 3))
  ∧ (∀ (r : Req) (i v : Nat) (s : State), s.get HOSTH.STATUS_IN_RESET i ≠ 0 → s.reachWord r (HOSTH.RING_CONS.addr (128 * i + 2)) 4 = 0 → exec (.evDoorbell r i v) s = .next (s))
  ∧ (∀ (r : Req) (i v : Nat) (s : State), i < 9 → s.get HOSTH.STATUS_IN_RESET i = 0 → s.reachWord r (HOSTH.CTL_CMD_EN.addr i) 4 = 0 → exec (.ringCtlWrite r i v) s = .next ((let w := ((s.put HOSTH.CTL_TRUMP_NOW i (bits v 9 1)).each [0, 1, 2, 3] fun u k => u.ringEnable i k (bit v k)).cplDrain i; (if bit v 8 = true ∧ i ≠ 8 then w.hedgeReset i 0 else w))))
  ∧ (∀ (r : Req) (i v : Nat) (s : State), i < 9 → s.get HOSTH.STATUS_IN_RESET i ≠ 0 → s.reachWord r (HOSTH.CTL_CMD_EN.addr i) 4 = 0 → exec (.ringCtlWrite r i v) s = .next ((let w := (s.put HOSTH.CTL_TRUMP_NOW i (bits v 9 1)).cplDrain i; (if bit v 8 = true ∧ i ≠ 8 then w.hedgeReset i 0 else w))))
  ∧ (∀ (r : Req) (h : Nat) (s : State), h < 8 → s.reachWord r (HOSTH.CTL_CMD_EN.addr h) 4 = 0 → s.get HOSTH.STATUS_IN_RESET h = 0 → s.get HOSTH.CTL_EV_EN h = 0 → s.get HOSTH.CTL_CMD_EN h = 0 → exec (.ringCtlWrite r h 4) s = .next ((((((((s.put HOSTH.CTL_TRUMP_NOW h 0).put HOSTH.CTL_CPL_EN h 0).put HOSTH.RING_PROD (128 * h + 2) 0).put HOSTH.RING_CONS (128 * h + 2) 0).put HOSTH.RING_FETCH (128 * h + 2) 0).put HOSTH.CTL_EV_EN h 1).put HOSTH.CTL_RX_EN h 0).cplDrain h))
  ∧ (∀ (i : Nat) (s : State), s.get HST.DRAIN i ≠ 0 → s.ringHeld i 0 = 0 → exec (.cmdRingDrainDone i) s = .next ((s.put HOSTH.CTL_CMD_EN i 0).put HST.DRAIN i 0))
  ∧ (∀ (i : Nat) (s : State), s.ringHeld i 0 ≠ 0 → exec (.cmdRingDrainDone i) s = .next (s))
  ∧ (∀ (i v : Nat) (s : State), i < 9 → v < 4 → s.get HST.IRQ_PEND (4 * i + v) ≠ 0 → ticksGeUs (s.mp - s.get HST.IRQ_AT (4 * i + v)) (s.get HOSTH.IRQ_TIME i) = true → exec (.irqCoalesceTimeout i v) s = .next ((s.bump HST.MSIX_CNT (4 * i + v)).put HST.IRQ_PEND (4 * i + v) 0))
  ∧ (∀ (i v : Nat) (s : State), (s.get HST.IRQ_PEND (4 * i + v) = 0 ∨ ticksGeUs (s.mp - s.get HST.IRQ_AT (4 * i + v)) (s.get HOSTH.IRQ_TIME i) = false) → exec (.irqCoalesceTimeout i v) s = .next (s))

/-- Fetching a command and serving the administrative ones: Nothing is fetched for a port in reset, before READY, at OUTSTANDING.MAX, or with no command waiting. Else, where the ingress shaper of a Hedge's port permits, the next command of its ring, its Tunnel or its Hedge's program leaves its source, a Hedge's port is charged for it, it is counted and it enters the ledger: a descriptor out of form, or on the wrong ring, completes with its code; one for the Steward or the privileged ring that finds 64 waiting is answered BUSY_RETRY, counted, with the hint; every other is admitted, counted in the level where the Steward serves it, and answered ACCEPTED where that was asked for and the command is none that may still end BUSY_RETRY. STEWARD_SERVE begins the longest-waiting command of the privileged queue, else of the next Hedge in turn, when the part is READY and none runs, and does nothing before READY, while one runs or when none waits. The rules it rests on: R8, R433, R434, R443, R444, R448, R476. -/
def Obligations.CommandAdmission : Prop :=
  (∀ (src : Nat) (s : State), (s.get HOSTH.STATUS_IN_RESET (src % 16) ≠ 0 ∨ s.get BOOT.STATUS_READY = 0 ∨ s.get HOSTH.OUTSTANDING_MAX (src % 16) ≤ s.get HOSTH.OUTSTANDING_NOW (src % 16)) → exec (.commandFetch src) s = .next (s))
  ∧ (∀ (src : Nat) (s : State), s.nextCmd src = none → exec (.commandFetch src) s = .next (s))
  ∧ (∀ (src at_ : Nat) (l data : List Nat) (s : State), (src < 9 ∨ (16 ≤ src ∧ src < 24)) → s.get HOSTH.STATUS_IN_RESET (src % 16) = 0 → s.get BOOT.STATUS_READY ≠ 0 → s.get HOSTH.OUTSTANDING_NOW (src % 16) < s.get HOSTH.OUTSTANDING_MAX (src % 16) → (8 ≤ src ∨ s.shPermits (44 + (src % 16)) = true) → s.nextCmd src = some (l, data, at_) → (((if src < 8 then (s.cmdTaken src).shCharge (44 + (src % 16)) ((s.cmdTaken src).shCost (44 + (src % 16)) 0 (64 + descPayload l)) else s.cmdTaken src).bump HOSTH.CMD_CNT (src % 16)).bump HOSTH.OUTSTANDING_NOW (src % 16)).descCode (src % 16) l ≠ 0 → exec (.commandFetch src) s = .next (({ (((if src < 8 then (s.cmdTaken src).shCharge (44 + (src % 16)) ((s.cmdTaken src).shCost (44 + (src % 16)) 0 (64 + descPayload l)) else s.cmdTaken src).bump HOSTH.CMD_CNT (src % 16)).bump HOSTH.OUTSTANDING_NOW (src % 16)) with started := (((if src < 8 then (s.cmdTaken src).shCharge (44 + (src % 16)) ((s.cmdTaken src).shCost (44 + (src % 16)) 0 (64 + descPayload l)) else s.cmdTaken src).bump HOSTH.CMD_CNT (src % 16)).bump HOSTH.OUTSTANDING_NOW (src % 16)).started ++ [(⟨(src % 16), (if src = (src % 16) then s.get HOSTH.RING_CONS (128 * (src % 16)) else 0xFFFFFFFF), oct l 4 4, l.headD 0, false, false, false, at_, data⟩ : Started)] } : State).finish (⟨(src % 16), oct l 4 4, (if src = (src % 16) then s.get HOSTH.RING_CONS (128 * (src % 16)) else 0xFFFFFFFF), bit (l.getD 1 0) 0⟩ : Cmd) (l.headD 0) ((((if src < 8 then (s.cmdTaken src).shCharge (44 + (src % 16)) ((s.cmdTaken src).shCost (44 + (src % 16)) 0 (64 + descPayload l)) else s.cmdTaken src).bump HOSTH.CMD_CNT (src % 16)).bump HOSTH.OUTSTANDING_NOW (src % 16)).descCode (src % 16) l)))
  ∧ (∀ (src at_ : Nat) (l data : List Nat) (s : State), (src < 9 ∨ (16 ≤ src ∧ src < 24)) → s.get HOSTH.STATUS_IN_RESET (src % 16) = 0 → s.get BOOT.STATUS_READY ≠ 0 → s.get HOSTH.OUTSTANDING_NOW (src % 16) < s.get HOSTH.OUTSTANDING_MAX (src % 16) → (8 ≤ src ∨ s.shPermits (44 + (src % 16)) = true) → s.nextCmd src = some (l, data, at_) → (((if src < 8 then (s.cmdTaken src).shCharge (44 + (src % 16)) ((s.cmdTaken src).shCost (44 + (src % 16)) 0 (64 + descPayload l)) else s.cmdTaken src).bump HOSTH.CMD_CNT (src % 16)).bump HOSTH.OUTSTANDING_NOW (src % 16)).descCode (src % 16) l = 0 → (match descOf (l.headD 0) with | some (.front, _) => true | none => true | _ => false) = false → 64 ≤ s.get HOSTH.ADMIN_LEVEL (src % 16) → exec (.commandFetch src) s = .next ((let u : State := { (((if src < 8 then (s.cmdTaken src).shCharge (44 + (src % 16)) ((s.cmdTaken src).shCost (44 + (src % 16)) 0 (64 + descPayload l)) else s.cmdTaken src).bump HOSTH.CMD_CNT (src % 16)).bump HOSTH.OUTSTANDING_NOW (src % 16)) with started := (((if src < 8 then (s.cmdTaken src).shCharge (44 + (src % 16)) ((s.cmdTaken src).shCost (44 + (src % 16)) 0 (64 + descPayload l)) else s.cmdTaken src).bump HOSTH.CMD_CNT (src % 16)).bump HOSTH.OUTSTANDING_NOW (src % 16)).started ++ [(⟨(src % 16), (if src = (src % 16) then s.get HOSTH.RING_CONS (128 * (src % 16)) else 0xFFFFFFFF), oct l 4 4, l.headD 0, false, false, false, at_, data⟩ : Started)] }; let k := u.retryHint (src % 16); (k.2.bump HOSTH.BUSY_CNT (src % 16)).complete (⟨(src % 16), oct l 4 4, (if src = (src % 16) then s.get HOSTH.RING_CONS (128 * (src % 16)) else 0xFFFFFFFF), bit (l.getD 1 0) 0⟩ : Cmd) (l.headD 0) 0x02 0 k.1 [])))
  ∧ (∀ (src at_ : Nat) (l data : List Nat) (s : State), (src < 9 ∨ (16 ≤ src ∧ src < 24)) → s.get HOSTH.STATUS_IN_RESET (src % 16) = 0 → s.get BOOT.STATUS_READY ≠ 0 → s.get HOSTH.OUTSTANDING_NOW (src % 16) < s.get HOSTH.OUTSTANDING_MAX (src % 16) → (8 ≤ src ∨ s.shPermits (44 + (src % 16)) = true) → s.nextCmd src = some (l, data, at_) → (((if src < 8 then (s.cmdTaken src).shCharge (44 + (src % 16)) ((s.cmdTaken src).shCost (44 + (src % 16)) 0 (64 + descPayload l)) else s.cmdTaken src).bump HOSTH.CMD_CNT (src % 16)).bump HOSTH.OUTSTANDING_NOW (src % 16)).descCode (src % 16) l = 0 → (match descOf (l.headD 0) with | some (.front, _) => true | none => true | _ => false) = false → s.get HOSTH.ADMIN_LEVEL (src % 16) < 64 → exec (.commandFetch src) s = .next ((let u := ({ (((if src < 8 then (s.cmdTaken src).shCharge (44 + (src % 16)) ((s.cmdTaken src).shCost (44 + (src % 16)) 0 (64 + descPayload l)) else s.cmdTaken src).bump HOSTH.CMD_CNT (src % 16)).bump HOSTH.OUTSTANDING_NOW (src % 16)) with started := (((if src < 8 then (s.cmdTaken src).shCharge (44 + (src % 16)) ((s.cmdTaken src).shCost (44 + (src % 16)) 0 (64 + descPayload l)) else s.cmdTaken src).bump HOSTH.CMD_CNT (src % 16)).bump HOSTH.OUTSTANDING_NOW (src % 16)).started ++ [(⟨(src % 16), (if src = (src % 16) then s.get HOSTH.RING_CONS (128 * (src % 16)) else 0xFFFFFFFF), oct l 4 4, l.headD 0, true, false, false, at_, data⟩ : Started)] } : State).bump HOSTH.ADMIN_LEVEL (src % 16); if bit (l.getD 1 0) 0 = true ∧ l.headD 0 ≠ 0x20 ∧ l.headD 0 ≠ 0x40 ∧ l.headD 0 ≠ 0x49 then u.finish (⟨(src % 16), oct l 4 4, (if src = (src % 16) then s.get HOSTH.RING_CONS (128 * (src % 16)) else 0xFFFFFFFF), bit (l.getD 1 0) 0⟩ : Cmd) (l.headD 0) 0x01 else u)))
  ∧ (∀ (src at_ : Nat) (l data : List Nat) (s : State), (src < 9 ∨ (16 ≤ src ∧ src < 24)) → s.get HOSTH.STATUS_IN_RESET (src % 16) = 0 → s.get BOOT.STATUS_READY ≠ 0 → s.get HOSTH.OUTSTANDING_NOW (src % 16) < s.get HOSTH.OUTSTANDING_MAX (src % 16) → (8 ≤ src ∨ s.shPermits (44 + (src % 16)) = true) → s.nextCmd src = some (l, data, at_) → (((if src < 8 then (s.cmdTaken src).shCharge (44 + (src % 16)) ((s.cmdTaken src).shCost (44 + (src % 16)) 0 (64 + descPayload l)) else s.cmdTaken src).bump HOSTH.CMD_CNT (src % 16)).bump HOSTH.OUTSTANDING_NOW (src % 16)).descCode (src % 16) l = 0 → (match descOf (l.headD 0) with | some (.front, _) => true | none => true | _ => false) = true → exec (.commandFetch src) s = .next ((let u : State := { (((if src < 8 then (s.cmdTaken src).shCharge (44 + (src % 16)) ((s.cmdTaken src).shCost (44 + (src % 16)) 0 (64 + descPayload l)) else s.cmdTaken src).bump HOSTH.CMD_CNT (src % 16)).bump HOSTH.OUTSTANDING_NOW (src % 16)) with started := (((if src < 8 then (s.cmdTaken src).shCharge (44 + (src % 16)) ((s.cmdTaken src).shCost (44 + (src % 16)) 0 (64 + descPayload l)) else s.cmdTaken src).bump HOSTH.CMD_CNT (src % 16)).bump HOSTH.OUTSTANDING_NOW (src % 16)).started ++ [(⟨(src % 16), (if src = (src % 16) then s.get HOSTH.RING_CONS (128 * (src % 16)) else 0xFFFFFFFF), oct l 4 4, l.headD 0, false, true, false, at_, data⟩ : Started)] }; if bit (l.getD 1 0) 0 = true ∧ l.headD 0 ≠ 0x20 ∧ l.headD 0 ≠ 0x40 ∧ l.headD 0 ≠ 0x49 then u.finish (⟨(src % 16), oct l 4 4, (if src = (src % 16) then s.get HOSTH.RING_CONS (128 * (src % 16)) else 0xFFFFFFFF), bit (l.getD 1 0) 0⟩ : Cmd) (l.headD 0) 0x01 else u)))
  ∧ (∀ (s : State), (s.get BOOT.STATUS_READY = 0 ∨ ((List.range 9).any fun i => s.get HST.RUN_OP i != 0) = true) → exec (.stewardServe) s = .next (s))
  ∧ (∀ (s : State), (((8 :: (List.range 8).map fun k => (s.get HST.RR + k) % 8).findSome? s.adminWait) = none) → exec (.stewardServe) s = .next (s))
  ∧ (∀ (x : Started) (s : State), s.get BOOT.STATUS_READY ≠ 0 → (((List.range 9).any fun i => s.get HST.RUN_OP i != 0) = false) → (((8 :: (List.range 8).map fun k => (s.get HST.RR + k) % 8).findSome? s.adminWait) = some x) → exec (.stewardServe) s = .next ((let u := (((({ s with started := s.started.map fun y => if y = x then { x with began := true } else y } : State).put HST.RUN_OP x.ring x.opcode).put HST.RUN_TAG x.ring x.tag).put HST.RUN_IDX x.ring x.index).put HST.RUN_AT x.ring s.mp; if x.ring = 8 then u else u.put HST.RR 0 (x.ring + 1))))

/-- The commands that move data: NOP completes DONE. Outside standby MEM_WRITE, with a length of 64 to 16,777,216 octets in multiples of 64 that stays in the Hedge's DRAM grant, copies the command's data there and completes DONE, and MEM_READ, in standby too, answers the grant's octets; a length out of range, or a command of the privileged port, is BAD_DESCRIPTOR and one beyond the grant ACCESS_DENIED; MEM_WRITE in standby is ACCESS_DENIED. WATCH_READ answers samples of a watch the Hedge owns, in their ring of 256; one of another owner is ACCESS_DENIED and fields out of range are BAD_DESCRIPTOR. SEND finds its entry by EUI64, or by index where that is 0, and queues the downlink its fields and the entry give; an unknown node is NODE_UNKNOWN. FLOOD queues the flood its fields give. Of both, a mode that does not exist or that the frame does not fit is BAD_DESCRIPTOR, and else the queue takes the downlink, or refuses it with its code and flags; fields out of range (for FLOOD, final hop 0xFFFE too) are BAD_DESCRIPTOR; in standby both are ACCESS_DENIED. HEDGE_RESET of a Hedge starts its reset with cause PRIV and waits for the end of it to complete; of a number beyond 7 it is BAD_DESCRIPTOR. The rules it rests on: R304, R434, R435, R436, R451, R457. -/
def Obligations.DataPathCommands : Prop :=
  (∀ (c : Cmd) (s : State), exec (.nop c) s = .next (s.finish c 0x03 0))
  ∧ (∀ (c : Cmd) (addr off len : Nat) (s : State), s.standby = false → c.ring < 8 → 64 ≤ len → len ≤ 16777216 → len % 64 = 0 → off + len ≤ s.get ENGH.DRAM_SIZE c.ring → exec (.memWrite c addr off len) s = .next ((s.dramWrite (s.get ENGH.DRAM_BASE c.ring + off) (s.cmdData c addr len)).finish c 0x04 0))
  ∧ (∀ (c : Cmd) (addr off len : Nat) (s : State), s.standby = false → (8 ≤ c.ring ∨ len < 64 ∨ 16777216 < len ∨ len % 64 ≠ 0) → exec (.memWrite c addr off len) s = .next (s.finish c 0x04 0x12))
  ∧ (∀ (c : Cmd) (addr off len : Nat) (s : State), s.standby = false → c.ring < 8 → 64 ≤ len → len ≤ 16777216 → len % 64 = 0 → s.get ENGH.DRAM_SIZE c.ring < off + len → exec (.memWrite c addr off len) s = .next (s.finish c 0x04 0x13))
  ∧ (∀ (c : Cmd) (addr off len : Nat) (s : State), s.standby = true → exec (.memWrite c addr off len) s = .next (s.finish c 0x04 0x13))
  ∧ (∀ (c : Cmd) (addr off len : Nat) (s : State), c.ring < 8 → 64 ≤ len → len ≤ 16777216 → len % 64 = 0 → off + len ≤ s.get ENGH.DRAM_SIZE c.ring → exec (.memRead c addr off len) s = .next (s.answer c 0x05 addr (memReadL s.mem.dram (s.get ENGH.DRAM_BASE c.ring + off) len)))
  ∧ (∀ (c : Cmd) (addr off len : Nat) (s : State), c.ring < 8 → 64 ≤ len → len ≤ 16777216 → len % 64 = 0 → s.get ENGH.DRAM_SIZE c.ring < off + len → exec (.memRead c addr off len) s = .next (s.finish c 0x05 0x13))
  ∧ (∀ (c : Cmd) (addr off len : Nat) (s : State), (8 ≤ c.ring ∨ len < 64 ∨ 16777216 < len ∨ len % 64 ≠ 0) → exec (.memRead c addr off len) s = .next (s.finish c 0x05 0x12))
  ∧ (∀ (c : Cmd) (k first count addr : Nat) (s : State), k < 64 → 1 ≤ count → count ≤ 256 → s.get WATCH.CFG_OWNER k = c.ring → exec (.watchRead c k first count addr) s = .next (s.answer c 0x19 addr ((List.range count).flatMap fun j => memReadL s.mem.sram (0x3000000 + 4096 * k + (first + j) % 256 * 16) 16)))
  ∧ (∀ (c : Cmd) (k first count addr : Nat) (s : State), k < 64 → 1 ≤ count → count ≤ 256 → s.get WATCH.CFG_OWNER k ≠ c.ring → exec (.watchRead c k first count addr) s = .next (s.finish c 0x19 0x13))
  ∧ (∀ (c : Cmd) (k first count addr : Nat) (s : State), (64 ≤ k ∨ count = 0 ∨ 256 < count) → exec (.watchRead c k first count addr) s = .next (s.finish c 0x19 0x12))
  ∧ (∀ (c : Cmd) (eui entry life len mode power cls flags addr e : Nat) (inline : List Nat) (s : State), s.standby = false → sendBad c flags life len cls = false → (if eui ≠ 0 then s.findAddr c.ring (.ext eui) else (if s.named c.ring entry then some entry else none, s)).1 = some e → ((famOf ({ ({ (((if eui ≠ 0 then s.findAddr c.ring (.ext eui) else (if s.named c.ring entry then some entry else none, s)).2).newDown c.ring e cls .send .link (if bit flags 4 then fix len inline else ((if eui ≠ 0 then s.findAddr c.ring (.ext eui) else (if s.named c.ring entry then some entry else none, s)).2).cmdData c addr len)) with cmd := some c, opcode := 0x01, ackReq := bit flags 1, noFlood := bit flags 2, calFull := bit flags 3, autoMode := mode == 0, autoPower := power == 0x80, mode := if mode = 0 then ((if eui ≠ 0 then s.findAddr c.ring (.ext eui) else (if s.named c.ring entry then some entry else none, s)).2).get E.PHY_MODE e else mode, power := if power = 0x80 then ((if eui ≠ 0 then s.findAddr c.ring (.ext eui) else (if s.named c.ring entry then some entry else none, s)).2).get E.TX_POWER e else power, expiry := ((if eui ≠ 0 then s.findAddr c.ring (.ext eui) else (if s.named c.ring entry then some entry else none, s)).2).cmdAt c + life * 2 ^ 24 / 1000 } : Down) with psduLen := ((if eui ≠ 0 then s.findAddr c.ring (.ext eui) else (if s.named c.ring entry then some entry else none, s)).2).downLen ({ (((if eui ≠ 0 then s.findAddr c.ring (.ext eui) else (if s.named c.ring entry then some entry else none, s)).2).newDown c.ring e cls .send .link (if bit flags 4 then fix len inline else ((if eui ≠ 0 then s.findAddr c.ring (.ext eui) else (if s.named c.ring entry then some entry else none, s)).2).cmdData c addr len)) with cmd := some c, opcode := 0x01, ackReq := bit flags 1, noFlood := bit flags 2, calFull := bit flags 3, autoMode := mode == 0, autoPower := power == 0x80, mode := if mode = 0 then ((if eui ≠ 0 then s.findAddr c.ring (.ext eui) else (if s.named c.ring entry then some entry else none, s)).2).get E.PHY_MODE e else mode, power := if power = 0x80 then ((if eui ≠ 0 then s.findAddr c.ring (.ext eui) else (if s.named c.ring entry then some entry else none, s)).2).get E.TX_POWER e else power, expiry := ((if eui ≠ 0 then s.findAddr c.ring (.ext eui) else (if s.named c.ring entry then some entry else none, s)).2).cmdAt c + life * 2 ^ 24 / 1000 } : Down) e ((((if eui ≠ 0 then s.findAddr c.ring (.ext eui) else (if s.named c.ring entry then some entry else none, s)).2).panOf c.ring).getD 0) } : Down).mode).isNone = true ∨ psduMax ({ ({ (((if eui ≠ 0 then s.findAddr c.ring (.ext eui) else (if s.named c.ring entry then some entry else none, s)).2).newDown c.ring e cls .send .link (if bit flags 4 then fix len inline else ((if eui ≠ 0 then s.findAddr c.ring (.ext eui) else (if s.named c.ring entry then some entry else none, s)).2).cmdData c addr len)) with cmd := some c, opcode := 0x01, ackReq := bit flags 1, noFlood := bit flags 2, calFull := bit flags 3, autoMode := mode == 0, autoPower := power == 0x80, mode := if mode = 0 then ((if eui ≠ 0 then s.findAddr c.ring (.ext eui) else (if s.named c.ring entry then some entry else none, s)).2).get E.PHY_MODE e else mode, power := if power = 0x80 then ((if eui ≠ 0 then s.findAddr c.ring (.ext eui) else (if s.named c.ring entry then some entry else none, s)).2).get E.TX_POWER e else power, expiry := ((if eui ≠ 0 then s.findAddr c.ring (.ext eui) else (if s.named c.ring entry then some entry else none, s)).2).cmdAt c + life * 2 ^ 24 / 1000 } : Down) with psduLen := ((if eui ≠ 0 then s.findAddr c.ring (.ext eui) else (if s.named c.ring entry then some entry else none, s)).2).downLen ({ (((if eui ≠ 0 then s.findAddr c.ring (.ext eui) else (if s.named c.ring entry then some entry else none, s)).2).newDown c.ring e cls .send .link (if bit flags 4 then fix len inline else ((if eui ≠ 0 then s.findAddr c.ring (.ext eui) else (if s.named c.ring entry then some entry else none, s)).2).cmdData c addr len)) with cmd := some c, opcode := 0x01, ackReq := bit flags 1, noFlood := bit flags 2, calFull := bit flags 3, autoMode := mode == 0, autoPower := power == 0x80, mode := if mode = 0 then ((if eui ≠ 0 then s.findAddr c.ring (.ext eui) else (if s.named c.ring entry then some entry else none, s)).2).get E.PHY_MODE e else mode, power := if power = 0x80 then ((if eui ≠ 0 then s.findAddr c.ring (.ext eui) else (if s.named c.ring entry then some entry else none, s)).2).get E.TX_POWER e else power, expiry := ((if eui ≠ 0 then s.findAddr c.ring (.ext eui) else (if s.named c.ring entry then some entry else none, s)).2).cmdAt c + life * 2 ^ 24 / 1000 } : Down) e ((((if eui ≠ 0 then s.findAddr c.ring (.ext eui) else (if s.named c.ring entry then some entry else none, s)).2).panOf c.ring).getD 0) } : Down).mode < ({ ({ (((if eui ≠ 0 then s.findAddr c.ring (.ext eui) else (if s.named c.ring entry then some entry else none, s)).2).newDown c.ring e cls .send .link (if bit flags 4 then fix len inline else ((if eui ≠ 0 then s.findAddr c.ring (.ext eui) else (if s.named c.ring entry then some entry else none, s)).2).cmdData c addr len)) with cmd := some c, opcode := 0x01, ackReq := bit flags 1, noFlood := bit flags 2, calFull := bit flags 3, autoMode := mode == 0, autoPower := power == 0x80, mode := if mode = 0 then ((if eui ≠ 0 then s.findAddr c.ring (.ext eui) else (if s.named c.ring entry then some entry else none, s)).2).get E.PHY_MODE e else mode, power := if power = 0x80 then ((if eui ≠ 0 then s.findAddr c.ring (.ext eui) else (if s.named c.ring entry then some entry else none, s)).2).get E.TX_POWER e else power, expiry := ((if eui ≠ 0 then s.findAddr c.ring (.ext eui) else (if s.named c.ring entry then some entry else none, s)).2).cmdAt c + life * 2 ^ 24 / 1000 } : Down) with psduLen := ((if eui ≠ 0 then s.findAddr c.ring (.ext eui) else (if s.named c.ring entry then some entry else none, s)).2).downLen ({ (((if eui ≠ 0 then s.findAddr c.ring (.ext eui) else (if s.named c.ring entry then some entry else none, s)).2).newDown c.ring e cls .send .link (if bit flags 4 then fix len inline else ((if eui ≠ 0 then s.findAddr c.ring (.ext eui) else (if s.named c.ring entry then some entry else none, s)).2).cmdData c addr len)) with cmd := some c, opcode := 0x01, ackReq := bit flags 1, noFlood := bit flags 2, calFull := bit flags 3, autoMode := mode == 0, autoPower := power == 0x80, mode := if mode = 0 then ((if eui ≠ 0 then s.findAddr c.ring (.ext eui) else (if s.named c.ring entry then some entry else none, s)).2).get E.PHY_MODE e else mode, power := if power = 0x80 then ((if eui ≠ 0 then s.findAddr c.ring (.ext eui) else (if s.named c.ring entry then some entry else none, s)).2).get E.TX_POWER e else power, expiry := ((if eui ≠ 0 then s.findAddr c.ring (.ext eui) else (if s.named c.ring entry then some entry else none, s)).2).cmdAt c + life * 2 ^ 24 / 1000 } : Down) e ((((if eui ≠ 0 then s.findAddr c.ring (.ext eui) else (if s.named c.ring entry then some entry else none, s)).2).panOf c.ring).getD 0) } : Down).psduLen) → exec (.send c eui entry life len mode power cls flags addr inline) s = .next (((if eui ≠ 0 then s.findAddr c.ring (.ext eui) else (if s.named c.ring entry then some entry else none, s)).2).finish c 0x01 0x12))
  ∧ (∀ (c : Cmd) (eui entry life len mode power cls flags addr e : Nat) (inline : List Nat) (s : State), s.standby = false → sendBad c flags life len cls = false → (if eui ≠ 0 then s.findAddr c.ring (.ext eui) else (if s.named c.ring entry then some entry else none, s)).1 = some e → (famOf ({ ({ (((if eui ≠ 0 then s.findAddr c.ring (.ext eui) else (if s.named c.ring entry then some entry else none, s)).2).newDown c.ring e cls .send .link (if bit flags 4 then fix len inline else ((if eui ≠ 0 then s.findAddr c.ring (.ext eui) else (if s.named c.ring entry then some entry else none, s)).2).cmdData c addr len)) with cmd := some c, opcode := 0x01, ackReq := bit flags 1, noFlood := bit flags 2, calFull := bit flags 3, autoMode := mode == 0, autoPower := power == 0x80, mode := if mode = 0 then ((if eui ≠ 0 then s.findAddr c.ring (.ext eui) else (if s.named c.ring entry then some entry else none, s)).2).get E.PHY_MODE e else mode, power := if power = 0x80 then ((if eui ≠ 0 then s.findAddr c.ring (.ext eui) else (if s.named c.ring entry then some entry else none, s)).2).get E.TX_POWER e else power, expiry := ((if eui ≠ 0 then s.findAddr c.ring (.ext eui) else (if s.named c.ring entry then some entry else none, s)).2).cmdAt c + life * 2 ^ 24 / 1000 } : Down) with psduLen := ((if eui ≠ 0 then s.findAddr c.ring (.ext eui) else (if s.named c.ring entry then some entry else none, s)).2).downLen ({ (((if eui ≠ 0 then s.findAddr c.ring (.ext eui) else (if s.named c.ring entry then some entry else none, s)).2).newDown c.ring e cls .send .link (if bit flags 4 then fix len inline else ((if eui ≠ 0 then s.findAddr c.ring (.ext eui) else (if s.named c.ring entry then some entry else none, s)).2).cmdData c addr len)) with cmd := some c, opcode := 0x01, ackReq := bit flags 1, noFlood := bit flags 2, calFull := bit flags 3, autoMode := mode == 0, autoPower := power == 0x80, mode := if mode = 0 then ((if eui ≠ 0 then s.findAddr c.ring (.ext eui) else (if s.named c.ring entry then some entry else none, s)).2).get E.PHY_MODE e else mode, power := if power = 0x80 then ((if eui ≠ 0 then s.findAddr c.ring (.ext eui) else (if s.named c.ring entry then some entry else none, s)).2).get E.TX_POWER e else power, expiry := ((if eui ≠ 0 then s.findAddr c.ring (.ext eui) else (if s.named c.ring entry then some entry else none, s)).2).cmdAt c + life * 2 ^ 24 / 1000 } : Down) e ((((if eui ≠ 0 then s.findAddr c.ring (.ext eui) else (if s.named c.ring entry then some entry else none, s)).2).panOf c.ring).getD 0) } : Down).mode).isNone = false → ({ ({ (((if eui ≠ 0 then s.findAddr c.ring (.ext eui) else (if s.named c.ring entry then some entry else none, s)).2).newDown c.ring e cls .send .link (if bit flags 4 then fix len inline else ((if eui ≠ 0 then s.findAddr c.ring (.ext eui) else (if s.named c.ring entry then some entry else none, s)).2).cmdData c addr len)) with cmd := some c, opcode := 0x01, ackReq := bit flags 1, noFlood := bit flags 2, calFull := bit flags 3, autoMode := mode == 0, autoPower := power == 0x80, mode := if mode = 0 then ((if eui ≠ 0 then s.findAddr c.ring (.ext eui) else (if s.named c.ring entry then some entry else none, s)).2).get E.PHY_MODE e else mode, power := if power = 0x80 then ((if eui ≠ 0 then s.findAddr c.ring (.ext eui) else (if s.named c.ring entry then some entry else none, s)).2).get E.TX_POWER e else power, expiry := ((if eui ≠ 0 then s.findAddr c.ring (.ext eui) else (if s.named c.ring entry then some entry else none, s)).2).cmdAt c + life * 2 ^ 24 / 1000 } : Down) with psduLen := ((if eui ≠ 0 then s.findAddr c.ring (.ext eui) else (if s.named c.ring entry then some entry else none, s)).2).downLen ({ (((if eui ≠ 0 then s.findAddr c.ring (.ext eui) else (if s.named c.ring entry then some entry else none, s)).2).newDown c.ring e cls .send .link (if bit flags 4 then fix len inline else ((if eui ≠ 0 then s.findAddr c.ring (.ext eui) else (if s.named c.ring entry then some entry else none, s)).2).cmdData c addr len)) with cmd := some c, opcode := 0x01, ackReq := bit flags 1, noFlood := bit flags 2, calFull := bit flags 3, autoMode := mode == 0, autoPower := power == 0x80, mode := if mode = 0 then ((if eui ≠ 0 then s.findAddr c.ring (.ext eui) else (if s.named c.ring entry then some entry else none, s)).2).get E.PHY_MODE e else mode, power := if power = 0x80 then ((if eui ≠ 0 then s.findAddr c.ring (.ext eui) else (if s.named c.ring entry then some entry else none, s)).2).get E.TX_POWER e else power, expiry := ((if eui ≠ 0 then s.findAddr c.ring (.ext eui) else (if s.named c.ring entry then some entry else none, s)).2).cmdAt c + life * 2 ^ 24 / 1000 } : Down) e ((((if eui ≠ 0 then s.findAddr c.ring (.ext eui) else (if s.named c.ring entry then some entry else none, s)).2).panOf c.ring).getD 0) } : Down).psduLen ≤ psduMax ({ ({ (((if eui ≠ 0 then s.findAddr c.ring (.ext eui) else (if s.named c.ring entry then some entry else none, s)).2).newDown c.ring e cls .send .link (if bit flags 4 then fix len inline else ((if eui ≠ 0 then s.findAddr c.ring (.ext eui) else (if s.named c.ring entry then some entry else none, s)).2).cmdData c addr len)) with cmd := some c, opcode := 0x01, ackReq := bit flags 1, noFlood := bit flags 2, calFull := bit flags 3, autoMode := mode == 0, autoPower := power == 0x80, mode := if mode = 0 then ((if eui ≠ 0 then s.findAddr c.ring (.ext eui) else (if s.named c.ring entry then some entry else none, s)).2).get E.PHY_MODE e else mode, power := if power = 0x80 then ((if eui ≠ 0 then s.findAddr c.ring (.ext eui) else (if s.named c.ring entry then some entry else none, s)).2).get E.TX_POWER e else power, expiry := ((if eui ≠ 0 then s.findAddr c.ring (.ext eui) else (if s.named c.ring entry then some entry else none, s)).2).cmdAt c + life * 2 ^ 24 / 1000 } : Down) with psduLen := ((if eui ≠ 0 then s.findAddr c.ring (.ext eui) else (if s.named c.ring entry then some entry else none, s)).2).downLen ({ (((if eui ≠ 0 then s.findAddr c.ring (.ext eui) else (if s.named c.ring entry then some entry else none, s)).2).newDown c.ring e cls .send .link (if bit flags 4 then fix len inline else ((if eui ≠ 0 then s.findAddr c.ring (.ext eui) else (if s.named c.ring entry then some entry else none, s)).2).cmdData c addr len)) with cmd := some c, opcode := 0x01, ackReq := bit flags 1, noFlood := bit flags 2, calFull := bit flags 3, autoMode := mode == 0, autoPower := power == 0x80, mode := if mode = 0 then ((if eui ≠ 0 then s.findAddr c.ring (.ext eui) else (if s.named c.ring entry then some entry else none, s)).2).get E.PHY_MODE e else mode, power := if power = 0x80 then ((if eui ≠ 0 then s.findAddr c.ring (.ext eui) else (if s.named c.ring entry then some entry else none, s)).2).get E.TX_POWER e else power, expiry := ((if eui ≠ 0 then s.findAddr c.ring (.ext eui) else (if s.named c.ring entry then some entry else none, s)).2).cmdAt c + life * 2 ^ 24 / 1000 } : Down) e ((((if eui ≠ 0 then s.findAddr c.ring (.ext eui) else (if s.named c.ring entry then some entry else none, s)).2).panOf c.ring).getD 0) } : Down).mode → exec (.send c eui entry life len mode power cls flags addr inline) s = .next (match ((if eui ≠ 0 then s.findAddr c.ring (.ext eui) else (if s.named c.ring entry then some entry else none, s)).2).takeIn ({ ({ (((if eui ≠ 0 then s.findAddr c.ring (.ext eui) else (if s.named c.ring entry then some entry else none, s)).2).newDown c.ring e cls .send .link (if bit flags 4 then fix len inline else ((if eui ≠ 0 then s.findAddr c.ring (.ext eui) else (if s.named c.ring entry then some entry else none, s)).2).cmdData c addr len)) with cmd := some c, opcode := 0x01, ackReq := bit flags 1, noFlood := bit flags 2, calFull := bit flags 3, autoMode := mode == 0, autoPower := power == 0x80, mode := if mode = 0 then ((if eui ≠ 0 then s.findAddr c.ring (.ext eui) else (if s.named c.ring entry then some entry else none, s)).2).get E.PHY_MODE e else mode, power := if power = 0x80 then ((if eui ≠ 0 then s.findAddr c.ring (.ext eui) else (if s.named c.ring entry then some entry else none, s)).2).get E.TX_POWER e else power, expiry := ((if eui ≠ 0 then s.findAddr c.ring (.ext eui) else (if s.named c.ring entry then some entry else none, s)).2).cmdAt c + life * 2 ^ 24 / 1000 } : Down) with psduLen := ((if eui ≠ 0 then s.findAddr c.ring (.ext eui) else (if s.named c.ring entry then some entry else none, s)).2).downLen ({ (((if eui ≠ 0 then s.findAddr c.ring (.ext eui) else (if s.named c.ring entry then some entry else none, s)).2).newDown c.ring e cls .send .link (if bit flags 4 then fix len inline else ((if eui ≠ 0 then s.findAddr c.ring (.ext eui) else (if s.named c.ring entry then some entry else none, s)).2).cmdData c addr len)) with cmd := some c, opcode := 0x01, ackReq := bit flags 1, noFlood := bit flags 2, calFull := bit flags 3, autoMode := mode == 0, autoPower := power == 0x80, mode := if mode = 0 then ((if eui ≠ 0 then s.findAddr c.ring (.ext eui) else (if s.named c.ring entry then some entry else none, s)).2).get E.PHY_MODE e else mode, power := if power = 0x80 then ((if eui ≠ 0 then s.findAddr c.ring (.ext eui) else (if s.named c.ring entry then some entry else none, s)).2).get E.TX_POWER e else power, expiry := ((if eui ≠ 0 then s.findAddr c.ring (.ext eui) else (if s.named c.ring entry then some entry else none, s)).2).cmdAt c + life * 2 ^ 24 / 1000 } : Down) e ((((if eui ≠ 0 then s.findAddr c.ring (.ext eui) else (if s.named c.ring entry then some entry else none, s)).2).panOf c.ring).getD 0) } : Down) with | (none, u) => u | (some (code, fl), u) => u.complete c 0x01 code fl 0 (u.sendResult ({ ({ (((if eui ≠ 0 then s.findAddr c.ring (.ext eui) else (if s.named c.ring entry then some entry else none, s)).2).newDown c.ring e cls .send .link (if bit flags 4 then fix len inline else ((if eui ≠ 0 then s.findAddr c.ring (.ext eui) else (if s.named c.ring entry then some entry else none, s)).2).cmdData c addr len)) with cmd := some c, opcode := 0x01, ackReq := bit flags 1, noFlood := bit flags 2, calFull := bit flags 3, autoMode := mode == 0, autoPower := power == 0x80, mode := if mode = 0 then ((if eui ≠ 0 then s.findAddr c.ring (.ext eui) else (if s.named c.ring entry then some entry else none, s)).2).get E.PHY_MODE e else mode, power := if power = 0x80 then ((if eui ≠ 0 then s.findAddr c.ring (.ext eui) else (if s.named c.ring entry then some entry else none, s)).2).get E.TX_POWER e else power, expiry := ((if eui ≠ 0 then s.findAddr c.ring (.ext eui) else (if s.named c.ring entry then some entry else none, s)).2).cmdAt c + life * 2 ^ 24 / 1000 } : Down) with psduLen := ((if eui ≠ 0 then s.findAddr c.ring (.ext eui) else (if s.named c.ring entry then some entry else none, s)).2).downLen ({ (((if eui ≠ 0 then s.findAddr c.ring (.ext eui) else (if s.named c.ring entry then some entry else none, s)).2).newDown c.ring e cls .send .link (if bit flags 4 then fix len inline else ((if eui ≠ 0 then s.findAddr c.ring (.ext eui) else (if s.named c.ring entry then some entry else none, s)).2).cmdData c addr len)) with cmd := some c, opcode := 0x01, ackReq := bit flags 1, noFlood := bit flags 2, calFull := bit flags 3, autoMode := mode == 0, autoPower := power == 0x80, mode := if mode = 0 then ((if eui ≠ 0 then s.findAddr c.ring (.ext eui) else (if s.named c.ring entry then some entry else none, s)).2).get E.PHY_MODE e else mode, power := if power = 0x80 then ((if eui ≠ 0 then s.findAddr c.ring (.ext eui) else (if s.named c.ring entry then some entry else none, s)).2).get E.TX_POWER e else power, expiry := ((if eui ≠ 0 then s.findAddr c.ring (.ext eui) else (if s.named c.ring entry then some entry else none, s)).2).cmdAt c + life * 2 ^ 24 / 1000 } : Down) e ((((if eui ≠ 0 then s.findAddr c.ring (.ext eui) else (if s.named c.ring entry then some entry else none, s)).2).panOf c.ring).getD 0) } : Down)) (cls == 0)))
  ∧ (∀ (c : Cmd) (eui entry life len mode power cls flags addr : Nat) (inline : List Nat) (s : State), s.standby = false → sendBad c flags life len cls = false → (if eui ≠ 0 then s.findAddr c.ring (.ext eui) else (if s.named c.ring entry then some entry else none, s)).1 = none → exec (.send c eui entry life len mode power cls flags addr inline) s = .next (((if eui ≠ 0 then s.findAddr c.ring (.ext eui) else (if s.named c.ring entry then some entry else none, s)).2).finish c 0x01 0x04))
  ∧ (∀ (c : Cmd) (eui entry life len mode power cls flags addr : Nat) (inline : List Nat) (s : State), s.standby = false → (8 ≤ c.ring ∨ life = 0 ∨ 3600000 < life ∨ 3 < cls ∨ (bit flags 4 = true ∧ 24 < len)) → exec (.send c eui entry life len mode power cls flags addr inline) s = .next (s.finish c 0x01 0x12))
  ∧ (∀ (c : Cmd) (eui entry life len mode power cls flags addr : Nat) (inline : List Nat) (s : State), s.standby = true → exec (.send c eui entry life len mode power cls flags addr inline) s = .next (s.finish c 0x01 0x13))
  ∧ (∀ (c : Cmd) (final life len cls flags addr : Nat) (inline : List Nat) (s : State), s.standby = false → sendBad c flags life len cls = false → final ≠ 0xFFFE → (famOf ({ s.ownFlood c.ring cls final (if bit flags 4 then fix len inline else s.cmdData c addr len) with cmd := some c, opcode := 0x02, expiry := s.cmdAt c + life * 2 ^ 24 / 1000 } : Down).mode).isNone = false → ({ s.ownFlood c.ring cls final (if bit flags 4 then fix len inline else s.cmdData c addr len) with cmd := some c, opcode := 0x02, expiry := s.cmdAt c + life * 2 ^ 24 / 1000 } : Down).psduLen ≤ psduMax ({ s.ownFlood c.ring cls final (if bit flags 4 then fix len inline else s.cmdData c addr len) with cmd := some c, opcode := 0x02, expiry := s.cmdAt c + life * 2 ^ 24 / 1000 } : Down).mode → exec (.flood c final life len cls flags addr inline) s = .next (match s.takeIn ({ s.ownFlood c.ring cls final (if bit flags 4 then fix len inline else s.cmdData c addr len) with cmd := some c, opcode := 0x02, expiry := s.cmdAt c + life * 2 ^ 24 / 1000 } : Down) with | (none, u) => u | (some (code, fl), u) => u.complete c 0x02 code fl 0 [] (({ s.ownFlood c.ring cls final (if bit flags 4 then fix len inline else s.cmdData c addr len) with cmd := some c, opcode := 0x02, expiry := s.cmdAt c + life * 2 ^ 24 / 1000 } : Down).cls == 0)))
  ∧ (∀ (c : Cmd) (final life len cls flags addr : Nat) (inline : List Nat) (s : State), s.standby = false → sendBad c flags life len cls = false → final ≠ 0xFFFE → ((famOf ({ s.ownFlood c.ring cls final (if bit flags 4 then fix len inline else s.cmdData c addr len) with cmd := some c, opcode := 0x02, expiry := s.cmdAt c + life * 2 ^ 24 / 1000 } : Down).mode).isNone = true ∨ psduMax ({ s.ownFlood c.ring cls final (if bit flags 4 then fix len inline else s.cmdData c addr len) with cmd := some c, opcode := 0x02, expiry := s.cmdAt c + life * 2 ^ 24 / 1000 } : Down).mode < ({ s.ownFlood c.ring cls final (if bit flags 4 then fix len inline else s.cmdData c addr len) with cmd := some c, opcode := 0x02, expiry := s.cmdAt c + life * 2 ^ 24 / 1000 } : Down).psduLen) → exec (.flood c final life len cls flags addr inline) s = .next (s.finish c 0x02 0x12))
  ∧ (∀ (c : Cmd) (final life len cls flags addr : Nat) (inline : List Nat) (s : State), s.standby = false → (final = 0xFFFE ∨ 8 ≤ c.ring ∨ life = 0 ∨ 3600000 < life ∨ 3 < cls ∨ (bit flags 4 = true ∧ 24 < len)) → exec (.flood c final life len cls flags addr inline) s = .next (s.finish c 0x02 0x12))
  ∧ (∀ (c : Cmd) (final life len cls flags addr : Nat) (inline : List Nat) (s : State), s.standby = true → exec (.flood c final life len cls flags addr inline) s = .next (s.finish c 0x02 0x13))
  ∧ (∀ (c : Cmd) (h : Nat) (s : State), h < 8 → exec (.hedgeReset c h) s = .next ((({ s with hrCmds := s.hrCmds ++ [(c, h)] } : State).served c).hedgeReset h 1))
  ∧ (∀ (c : Cmd) (h : Nat) (s : State), 8 ≤ h → exec (.hedgeReset c h) s = .next (s.finish c 0x72 0x12))

/-- Waiting events and received frames: Waiting events of a port are written in order, each while its ring or Tunnel takes events, and then, where events were lost and fewer than 1,024 still wait, an EVENT_LOSS of their number. The first waiting frame of a Hedge whose ring or Tunnel takes frames, and whose egress shaper permits, leaves the backlog: on PCIe it fills posted buffers from FETCH on, the entries are written back, the first last, CONS moves on, vector 2 is raised and it is counted delivered, the shaper charged with its octets and entries; with too few buffers FETCH returns, it is dropped and counted, the shaper charged with what was written; over the Tunnel it goes out for one credit, counted and charged, and is dropped and counted with no credit or where it exceeds the MTU. Frames of a Hedge that have waited UPLINK_HOLD are dropped together and counted, and none else is. Losses not yet reported are reported in one event, at most once a second. The rules it rests on: R312, R438, R439, R440, R441, R442, R446. -/
def Obligations.EventsAndUplinks : Prop :=
  (∀ (h : Nat) (s : State), h < 9 → ((s.each (s.evQ.filter (·.hedge == h)) fun u x => if u.evOpen h then ({ u with evQ := u.evQ.erase x } : State).evOut x else u).get HST.EV_UNREP h = 0 ∨ 1024 ≤ (s.each (s.evQ.filter (·.hedge == h)) fun u x => if u.evOpen h then ({ u with evQ := u.evQ.erase x } : State).evOut x else u).evHeld h) → exec (.evBacklogDrain h) s = .next ((s.each (s.evQ.filter (·.hedge == h)) fun u x => if u.evOpen h then ({ u with evQ := u.evQ.erase x } : State).evOut x else u)))
  ∧ (∀ (h : Nat) (s : State), h < 9 → ((s.each (s.evQ.filter (·.hedge == h)) fun u x => if u.evOpen h then ({ u with evQ := u.evQ.erase x } : State).evOut x else u).get HST.EV_UNREP h ≠ 0) → ((s.each (s.evQ.filter (·.hedge == h)) fun u x => if u.evOpen h then ({ u with evQ := u.evQ.erase x } : State).evOut x else u).evHeld h < 1024) → exec (.evBacklogDrain h) s = .next (((s.each (s.evQ.filter (·.hedge == h)) fun u x => if u.evOpen h then ({ u with evQ := u.evQ.erase x } : State).evOut x else u).put HST.EV_UNREP h 0).event h 0x14 [(16, le 4 ((s.each (s.evQ.filter (·.hedge == h)) fun u x => if u.evOpen h then ({ u with evQ := u.evQ.erase x } : State).evOut x else u).get HST.EV_UNREP h))]))
  ∧ (∀ (h : Nat) (x : RxFrame) (l : List (Nat × List Nat × Nat)) (s : State), s.rxQ.find? (·.hedge == h) = some x → h < 8 → s.rxOpen h = true → s.get HBIND.CTL_ATTACH h ≠ 2 → ((({ s with rxQ := s.rxQ.erase x } : State).put HOSTH.BACKLOG_NOW h (({ s with rxQ := s.rxQ.erase x } : State).rxHeld h)).rxFill h 65537 x.payload []).1 = some l → exec (.rxPlace h) s = .next ((let u := ((({ s with rxQ := s.rxQ.erase x } : State).put HOSTH.BACKLOG_NOW h (({ s with rxQ := s.rxQ.erase x } : State).rxHeld h)).rxFill h 65537 x.payload []).2.each ((((List.range l.length).zip l).drop 1) ++ (((List.range l.length).zip l).take 1)) fun u p => u.hostWrite h p.2.1 (x.entry p.2.2.1 p.1 l.length p.2.2.2); let u := u.put HOSTH.RING_CONS (128 * h + 3) ((s.get HOSTH.RING_FETCH (128 * h + 3)) + l.length); let u := ((u.shadow h 3 (u.get HOSTH.RING_CONS (128 * h + 3))).irq h 2).bump HOSTH.RX_DELIVERED h; u.shCharge (52 + h) (u.shCost (52 + h) 0 (x.payload.length + 64 * l.length)))))
  ∧ (∀ (h : Nat) (x : RxFrame) (s : State), s.rxQ.find? (·.hedge == h) = some x → h < 8 → s.rxOpen h = true → s.get HBIND.CTL_ATTACH h ≠ 2 → ((({ s with rxQ := s.rxQ.erase x } : State).put HOSTH.BACKLOG_NOW h (({ s with rxQ := s.rxQ.erase x } : State).rxHeld h)).rxFill h 65537 x.payload []).1 = none → exec (.rxPlace h) s = .next ((let n := (((({ s with rxQ := s.rxQ.erase x } : State).put HOSTH.BACKLOG_NOW h (({ s with rxQ := s.rxQ.erase x } : State).rxHeld h)).rxFill h 65537 x.payload []).2.get HOSTH.RING_FETCH (128 * h + 3) + 2 ^ 32 - (s.get HOSTH.RING_FETCH (128 * h + 3))) % 2 ^ 32; let got := ((List.range n).map fun k => oct (((({ s with rxQ := s.rxQ.erase x } : State).put HOSTH.BACKLOG_NOW h (({ s with rxQ := s.rxQ.erase x } : State).rxHeld h)).rxFill h 65537 x.payload []).2.hostRead h (((({ s with rxQ := s.rxQ.erase x } : State).put HOSTH.BACKLOG_NOW h (({ s with rxQ := s.rxQ.erase x } : State).rxHeld h)).rxFill h 65537 x.payload []).2.ringAddr h 3 ((s.get HOSTH.RING_FETCH (128 * h + 3)) + k)) 64) 8 2).sum; let u := ((({ s with rxQ := s.rxQ.erase x } : State).put HOSTH.BACKLOG_NOW h (({ s with rxQ := s.rxQ.erase x } : State).rxHeld h)).rxFill h 65537 x.payload []).2.put HOSTH.RING_FETCH (128 * h + 3) (s.get HOSTH.RING_FETCH (128 * h + 3)); ((u.shCharge (52 + h) (u.shCost (52 + h) 0 got)).bump HOSTH.RX_NOBUF_DROP h).bump HST.RX_NOBUF_REP h)))
  ∧ (∀ (h : Nat) (x : RxFrame) (s : State), s.rxQ.find? (·.hedge == h) = some x → h < 8 → s.rxOpen h = true → s.get HBIND.CTL_ATTACH h = 2 → (({ s with rxQ := s.rxQ.erase x } : State).put HOSTH.BACKLOG_NOW h (({ s with rxQ := s.rxQ.erase x } : State).rxHeld h)).get TUN.CREDIT h ≠ 0 → (({ s with rxQ := s.rxQ.erase x } : State).put HOSTH.BACKLOG_NOW h (({ s with rxQ := s.rxQ.erase x } : State).rxHeld h)).tunPacket h (64 + x.payload.length) ≤ s.get HOSTG.TUN_MTU → exec (.rxPlace h) s = .next ((let u := (((({ s with rxQ := s.rxQ.erase x } : State).put HOSTH.BACKLOG_NOW h (({ s with rxQ := s.rxQ.erase x } : State).rxHeld h)).drop TUN.CREDIT h).tunSend h 5 (x.entry [] 0 1 x.payload.length) x.payload).bump HOSTH.RX_DELIVERED h; u.shCharge (52 + h) (u.shCost (52 + h) 0 (64 + x.payload.length)))))
  ∧ (∀ (h : Nat) (x : RxFrame) (s : State), s.rxQ.find? (·.hedge == h) = some x → h < 8 → s.rxOpen h = true → s.get HBIND.CTL_ATTACH h = 2 → ((({ s with rxQ := s.rxQ.erase x } : State).put HOSTH.BACKLOG_NOW h (({ s with rxQ := s.rxQ.erase x } : State).rxHeld h)).get TUN.CREDIT h = 0 ∨ s.get HOSTG.TUN_MTU < (({ s with rxQ := s.rxQ.erase x } : State).put HOSTH.BACKLOG_NOW h (({ s with rxQ := s.rxQ.erase x } : State).rxHeld h)).tunPacket h (64 + x.payload.length)) → exec (.rxPlace h) s = .next (((({ s with rxQ := s.rxQ.erase x } : State).put HOSTH.BACKLOG_NOW h (({ s with rxQ := s.rxQ.erase x } : State).rxHeld h)).bump HOSTH.RX_NOBUF_DROP h).bump HST.RX_NOBUF_REP h))
  ∧ (∀ (h : Nat) (s : State), s.rxQ.find? (·.hedge == h) = none → exec (.rxPlace h) s = .next (s))
  ∧ (∀ (h : Nat) (s : State), (s.rxQ.filter (fun x : RxFrame => x.hedge == h && ticksGeUs (s.mp - x.tIn) (1000 * s.get HOSTH.UPLINK_HOLD h)) ≠ []) → exec (.rxHoldExpire h) s = .next ((let u : State := { s with rxQ := s.rxQ.filter fun x => !(fun x : RxFrame => x.hedge == h && ticksGeUs (s.mp - x.tIn) (1000 * s.get HOSTH.UPLINK_HOLD h)) x }; ((u.put HOSTH.BACKLOG_NOW h (u.rxHeld h)).bump HOSTH.RX_HOLD_DROP h (s.rxQ.filter (fun x : RxFrame => x.hedge == h && ticksGeUs (s.mp - x.tIn) (1000 * s.get HOSTH.UPLINK_HOLD h))).length).bump HST.RX_HOLD_REP h (s.rxQ.filter (fun x : RxFrame => x.hedge == h && ticksGeUs (s.mp - x.tIn) (1000 * s.get HOSTH.UPLINK_HOLD h))).length)))
  ∧ (∀ (h : Nat) (s : State), (s.rxQ.filter (fun x : RxFrame => x.hedge == h && ticksGeUs (s.mp - x.tIn) (1000 * s.get HOSTH.UPLINK_HOLD h)) = []) → exec (.rxHoldExpire h) s = .next (s))
  ∧ (∀ (h : Nat) (s : State), h < 8 → s.get HST.RX_NOBUF_REP h + s.get HST.RX_HOLD_REP h + s.get HST.RX_BACK_REP h ≠ 0 → (s.get HST.LOSS_ON h = 0 ∨ s.get HST.LOSS_AT h + 2 ^ 24 ≤ s.mp) → exec (.rxLossReport h) s = .next ((((((s.put HST.RX_NOBUF_REP h 0).put HST.RX_HOLD_REP h 0).put HST.RX_BACK_REP h 0).put HST.LOSS_ON h 1).put HST.LOSS_AT h s.mp).event h 0x13 [(16, le 4 (s.get HST.RX_NOBUF_REP h)), (20, le 4 (s.get HST.RX_HOLD_REP h)), (24, le 4 (s.get HST.RX_BACK_REP h))]))
  ∧ (∀ (h : Nat) (s : State), s.get HST.LOSS_ON h ≠ 0 → s.mp < s.get HST.LOSS_AT h + 2 ^ 24 → exec (.rxLossReport h) s = .next (s))

/-- The Hedge Tunnel: A packet on the binding's Ethernet port (with PRP on, on either of ports 0 and 1) between the binding's addresses and ports, with its UDP payload in the Tunnel's form and, with TUN_SEC 0, unsealed, is read as its header and body and changes nothing before its kind acts. A message so read in the live session restarts the silence timer and releases what its ACK_SEQ covers; an ACK and a KEEPALIVE do no more. A CMD or CREDIT message besides is, as the next in order, taken (its commands posted, or its credits added) and acknowledged; as a repetition only acknowledged; and otherwise not taken. A message of kinds 1, 2, 6 or 8 that is not read, or is of no live session, changes nothing further. A START with SEQ 1 and another SESSION value than the live one begins that session: the part's sequence starts again, it answers START and sends what was not acknowledged again in its old order; one with the live value is acknowledged. A neighbour solicitation for an attached Hedge's address in force is answered on its port, under PRP on both of ports 0 and 1 with one sequence number, and for no such address it is not. Messages unacknowledged for TUN.RTO are sent again; when one has been sent again eight times already, or after 3 s without a message, the Tunnel is down; 1 s after the part's last message it sends a KEEPALIVE, each only while the Tunnel is up and not before its time. The rules it rests on: R445, R446, R447, R472. -/
def Obligations.TunnelMessages : Prop :=
  (∀ (h port : Nat) (p l : List Nat) (s : State), h < 8 → s.get HBIND.CTL_ATTACH h = 2 → s.get HOSTH.STATUS_IN_RESET h = 0 → s.get BOOT.STATUS_READY ≠ 0 → s.get HBIND.CTL_TUN_SEC h = 0 → ((port = s.get HBIND.CTL_ETH_PORT h ∨ (s.get PRP.CTL_EN ≠ 0 ∧ port < 2 ∧ s.get HBIND.CTL_ETH_PORT h < 2))) → ip6Read p = some ((s.peerIp h, s.ownIp h), (s.get HBIND.PORTS_PEER_PORT h, s.get HBIND.PORTS_LOCAL_PORT h), l) → l.length = 20 + oct l 12 2 → 48 + l.length ≤ s.get HOSTG.TUN_MTU → l.take 3 = [1, 8, h] → s.get HBIND.STATUS_UP h ≠ 0 → s.get HBIND.STATUS_SESSION h = oct l 14 2 → exec (.tunKeepaliveMsg h port p) s = .next ((s.put TUN.HEARD_AT h s.mp).tunAcked h (oct l 8 4)))
  ∧ (∀ (h port : Nat) (p head body : List Nat) (s : State), (s.tunRead h 8 port p).1 = some (head, body) → (s.tunRead h 8 port p).2.get HBIND.STATUS_UP h ≠ 0 → (s.tunRead h 8 port p).2.get HBIND.STATUS_SESSION h = oct head 14 2 → exec (.tunKeepaliveMsg h port p) s = .next ((((s.tunRead h 8 port p).2.put TUN.HEARD_AT h s.mp).tunAcked h (oct head 8 4))))
  ∧ (∀ (h port : Nat) (p head body : List Nat) (s : State), (s.tunRead h 6 port p).1 = some (head, body) → (s.tunRead h 6 port p).2.get HBIND.STATUS_UP h ≠ 0 → (s.tunRead h 6 port p).2.get HBIND.STATUS_SESSION h = oct head 14 2 → exec (.tunAckMsg h port p) s = .next ((((s.tunRead h 6 port p).2.put TUN.HEARD_AT h s.mp).tunAcked h (oct head 8 4))))
  ∧ (∀ (h port : Nat) (p head body : List Nat) (s : State), (s.tunRead h 1 port p).1 = some (head, body) → (s.tunRead h 1 port p).2.get HBIND.STATUS_UP h ≠ 0 → (s.tunRead h 1 port p).2.get HBIND.STATUS_SESSION h = oct head 14 2 → oct head 4 4 = (((s.tunRead h 1 port p).2.put TUN.HEARD_AT h s.mp).tunAcked h (oct head 8 4)).get TUN.RX_SEQ h + 1 → 64 * head.getD 3 0 ≤ body.length → exec (.tunCmdMsg h port p) s = .next ((let u := (((s.tunRead h 1 port p).2.put TUN.HEARD_AT h s.mp).tunAcked h (oct head 8 4)).put TUN.RX_SEQ h (oct head 4 4); let n := head.getD 3 0; (({ u with tunCmds := u.tunCmds ++ (List.range n).map fun k => (⟨h, fix 64 ((body.drop (64 * k)).take 64), body.drop (64 * n), u.mp⟩ : TunCmd) } : State).bump HOSTH.RING_PROD (128 * h) n).tunAck h)))
  ∧ (∀ (h port : Nat) (p head body : List Nat) (s : State), (s.tunRead h 1 port p).1 = some (head, body) → (s.tunRead h 1 port p).2.get HBIND.STATUS_UP h ≠ 0 → (s.tunRead h 1 port p).2.get HBIND.STATUS_SESSION h = oct head 14 2 → 1 ≤ oct head 4 4 → oct head 4 4 ≤ (((s.tunRead h 1 port p).2.put TUN.HEARD_AT h s.mp).tunAcked h (oct head 8 4)).get TUN.RX_SEQ h → 64 * head.getD 3 0 ≤ body.length → exec (.tunCmdMsg h port p) s = .next ((((s.tunRead h 1 port p).2.put TUN.HEARD_AT h s.mp).tunAcked h (oct head 8 4)).tunAck h))
  ∧ (∀ (h port : Nat) (p head body : List Nat) (s : State), (s.tunRead h 1 port p).1 = some (head, body) → (s.tunRead h 1 port p).2.get HBIND.STATUS_UP h ≠ 0 → (s.tunRead h 1 port p).2.get HBIND.STATUS_SESSION h = oct head 14 2 → (oct head 4 4 = 0 ∨ (((s.tunRead h 1 port p).2.put TUN.HEARD_AT h s.mp).tunAcked h (oct head 8 4)).get TUN.RX_SEQ h + 1 < oct head 4 4) → exec (.tunCmdMsg h port p) s = .next ((((s.tunRead h 1 port p).2.put TUN.HEARD_AT h s.mp).tunAcked h (oct head 8 4))))
  ∧ (∀ (h port : Nat) (p head body : List Nat) (s : State), (s.tunRead h 2 port p).1 = some (head, body) → (s.tunRead h 2 port p).2.get HBIND.STATUS_UP h ≠ 0 → (s.tunRead h 2 port p).2.get HBIND.STATUS_SESSION h = oct head 14 2 → oct head 4 4 = (((s.tunRead h 2 port p).2.put TUN.HEARD_AT h s.mp).tunAcked h (oct head 8 4)).get TUN.RX_SEQ h + 1 → 4 ≤ body.length → exec (.tunCreditMsg h port p) s = .next ((((((s.tunRead h 2 port p).2.put TUN.HEARD_AT h s.mp).tunAcked h (oct head 8 4)).put TUN.RX_SEQ h (oct head 4 4)).bumpSat TUN.CREDIT h (oct body 0 4)).tunAck h))
  ∧ (∀ (h port : Nat) (p head body : List Nat) (s : State), (s.tunRead h 2 port p).1 = some (head, body) → (s.tunRead h 2 port p).2.get HBIND.STATUS_UP h ≠ 0 → (s.tunRead h 2 port p).2.get HBIND.STATUS_SESSION h = oct head 14 2 → 1 ≤ oct head 4 4 → oct head 4 4 ≤ (((s.tunRead h 2 port p).2.put TUN.HEARD_AT h s.mp).tunAcked h (oct head 8 4)).get TUN.RX_SEQ h → 4 ≤ body.length → exec (.tunCreditMsg h port p) s = .next ((((s.tunRead h 2 port p).2.put TUN.HEARD_AT h s.mp).tunAcked h (oct head 8 4)).tunAck h))
  ∧ (∀ (h port : Nat) (p head body : List Nat) (s : State), (s.tunRead h 2 port p).1 = some (head, body) → (s.tunRead h 2 port p).2.get HBIND.STATUS_UP h ≠ 0 → (s.tunRead h 2 port p).2.get HBIND.STATUS_SESSION h = oct head 14 2 → (oct head 4 4 = 0 ∨ (((s.tunRead h 2 port p).2.put TUN.HEARD_AT h s.mp).tunAcked h (oct head 8 4)).get TUN.RX_SEQ h + 1 < oct head 4 4) → exec (.tunCreditMsg h port p) s = .next ((((s.tunRead h 2 port p).2.put TUN.HEARD_AT h s.mp).tunAcked h (oct head 8 4))))
  ∧ (∀ (h port : Nat) (p : List Nat) (s : State), ((s.tunRead h 1 port p).1 = none ∨ (s.tunRead h 1 port p).2.get HBIND.STATUS_UP h = 0) → exec (.tunCmdMsg h port p) s = .next ((s.tunRead h 1 port p).2))
  ∧ (∀ (h port : Nat) (p : List Nat) (s : State), ((s.tunRead h 2 port p).1 = none ∨ (s.tunRead h 2 port p).2.get HBIND.STATUS_UP h = 0) → exec (.tunCreditMsg h port p) s = .next ((s.tunRead h 2 port p).2))
  ∧ (∀ (h port : Nat) (p : List Nat) (s : State), ((s.tunRead h 6 port p).1 = none ∨ (s.tunRead h 6 port p).2.get HBIND.STATUS_UP h = 0) → exec (.tunAckMsg h port p) s = .next ((s.tunRead h 6 port p).2))
  ∧ (∀ (h port : Nat) (p : List Nat) (s : State), ((s.tunRead h 8 port p).1 = none ∨ (s.tunRead h 8 port p).2.get HBIND.STATUS_UP h = 0) → exec (.tunKeepaliveMsg h port p) s = .next ((s.tunRead h 8 port p).2))
  ∧ (∀ (h port : Nat) (p head body : List Nat) (s : State), (s.tunRead h 7 port p).1 = some (head, body) → oct head 14 2 ≠ 0 → oct head 4 4 = 1 → (s.tunRead h 7 port p).2.tunCan h = true → ((s.tunRead h 7 port p).2.get HBIND.STATUS_UP h = 0 ∨ (s.tunRead h 7 port p).2.get HBIND.STATUS_SESSION h ≠ oct head 14 2) → exec (.tunStartMsg h port p) s = .next ((let r := (s.tunRead h 7 port p).2; let u := ({ r with tunQ := r.tunQ.filter (·.hedge != h) } : State).calAgain h; let w := (((u.put HBIND.STATUS_UP h 1).put HBIND.STATUS_SESSION h (oct head 14 2)).put TUN.HEARD_AT h s.mp).put TUN.RX_SEQ h 1; (((w.put TUN.TX_SEQ h 0).tunSend h 7 [] []).each (r.tunQ.filter fun x => x.hedge == h && x.kind != 7) fun w x => w.tunSend h x.kind x.entries x.data).cplDrain h)))
  ∧ (∀ (h port : Nat) (p head body : List Nat) (s : State), (s.tunRead h 7 port p).1 = some (head, body) → oct head 14 2 ≠ 0 → oct head 4 4 = 1 → (s.tunRead h 7 port p).2.tunCan h = true → (s.tunRead h 7 port p).2.get HBIND.STATUS_UP h ≠ 0 → (s.tunRead h 7 port p).2.get HBIND.STATUS_SESSION h = oct head 14 2 → exec (.tunStartMsg h port p) s = .next (((s.tunRead h 7 port p).2.put TUN.HEARD_AT h s.mp).tunAck h))
  ∧ (∀ (port ip6 : Nat) (s : State), (s.get PRP.CTL_EN = 0 ∨ 2 ≤ port) → ((let at_ := fun k : Nat => k == port; (List.range 8).any (fun h : Nat => s.attach h == 2 && (if s.get HST.REBIND h ≠ 0 then at_ (s.get HST.OLD_ETH h) && s.get HST.OLD_IP h == ip6 else at_ (s.get HBIND.CTL_ETH_PORT h) && s.ownIp h == ip6))) = true) → exec (.tunNeighborSolicit port ip6) s = .next (({ s with wire := s.wire ++ [.advert port ip6 none] } : State)))
  ∧ (∀ (port ip6 : Nat) (s : State), s.get PRP.CTL_EN ≠ 0 → port < 2 → ((let at_ := fun k : Nat => decide (k < 2); (List.range 8).any (fun h : Nat => s.attach h == 2 && (if s.get HST.REBIND h ≠ 0 then at_ (s.get HST.OLD_ETH h) && s.get HST.OLD_IP h == ip6 else at_ (s.get HBIND.CTL_ETH_PORT h) && s.ownIp h == ip6))) = true) → exec (.tunNeighborSolicit port ip6) s = .next (({ s with wire := s.wire ++ [(.advert 0 ip6 (some (s.get PRPX.SEQ)) : Wire), .advert 1 ip6 (some (s.get PRPX.SEQ))] } : State).bump PRPX.SEQ))
  ∧ (∀ (port ip6 : Nat) (s : State), (((List.range 8).any fun h => s.attach h == 2) = false) → exec (.tunNeighborSolicit port ip6) s = .next (s))
  ∧ (∀ (h : Nat) (s : State), s.tunUp h = true → (((s.tunQ.filter (fun x : TunMsg => x.hedge == h && ticksGeUs (s.mp - x.at_) (1000 * s.get HOSTG.TUN_RTO))).any fun x => decide (8 ≤ x.resends)) = false) → exec (.tunResendTimeout h) s = .next (({ s with tunQ := s.tunQ.map fun x => if (fun x : TunMsg => x.hedge == h && ticksGeUs (s.mp - x.at_) (1000 * s.get HOSTG.TUN_RTO)) x then { x with resends := x.resends + 1, at_ := s.mp } else x } : State).each (s.tunQ.filter (fun x : TunMsg => x.hedge == h && ticksGeUs (s.mp - x.at_) (1000 * s.get HOSTG.TUN_RTO))) fun u x => u.tunEmit h x.kind x.seq x.entries x.data))
  ∧ (∀ (h : Nat) (s : State), s.tunUp h = true → (((s.tunQ.filter (fun x : TunMsg => x.hedge == h && ticksGeUs (s.mp - x.at_) (1000 * s.get HOSTG.TUN_RTO))).any fun x => decide (8 ≤ x.resends)) = true) → exec (.tunResendTimeout h) s = .next ((s.put HBIND.STATUS_UP h 0).put HBIND.STATUS_SESSION h 0))
  ∧ (∀ (h : Nat) (s : State), s.tunUp h = false → exec (.tunResendTimeout h) s = .next (s))
  ∧ (∀ (h : Nat) (s : State), s.tunUp h = true → s.get TUN.HEARD_AT h + 3 * 2 ^ 24 ≤ s.mp → exec (.tunSilenceTimeout h) s = .next ((s.put HBIND.STATUS_UP h 0).put HBIND.STATUS_SESSION h 0))
  ∧ (∀ (h : Nat) (s : State), s.mp < s.get TUN.HEARD_AT h + 3 * 2 ^ 24 → exec (.tunSilenceTimeout h) s = .next (s))
  ∧ (∀ (h : Nat) (s : State), s.tunUp h = false → exec (.tunSilenceTimeout h) s = .next (s))
  ∧ (∀ (h : Nat) (s : State), s.tunUp h = true → s.get TUN.SENT_AT h + 2 ^ 24 ≤ s.mp → exec (.tunKeepaliveSend h) s = .next (s.tunEmit h 8 0 [] []))
  ∧ (∀ (h : Nat) (s : State), (s.tunUp h = false ∨ s.mp < s.get TUN.SENT_AT h + 2 ^ 24) → exec (.tunKeepaliveSend h) s = .next (s))

/-- Hedge resets from request to end: A write of HOSTH[h].CTL acts as RING_CTL_WRITE does: in reset the enables stay as they are, and bit 8 starts a Hedge reset with cause SELF except on the privileged port. A write of 1 to HBIND[h].CTL.HRESET starts one with cause PRIV. A reset of a Hedge ends only once no Steward command of it runs, the part is READY and not in the safe state: the Thicket's, forwarding's, the traffic manager's and the engines' parts act, the key cache and counters clear, the triggers it owns are disarmed and free, the Tunnel's commands are passed over, the reset's own state and the Expert bits clear, a new binding takes effect, HEDGE_RESET_DONE is posted and the HEDGE_RESET commands that wait for it complete; else nothing happens. CNT_CLR with bit 0 zeroes the discard count, and without it does nothing. The rules it rests on: R40, R80, R260, R293, R322, R363, R393, R424, R448, R449, R450, R454. -/
def Obligations.HedgeResets : Prop :=
  (∀ (r : Req) (i v : Nat) (s : State), i < 9 → s.get HOSTH.STATUS_IN_RESET i ≠ 0 → s.reachWord r (HOSTH.CTL_HRESET.addr i) 4 = 0 → exec (.hosthHresetWrite r i v) s = .next ((let w := (s.put HOSTH.CTL_TRUMP_NOW i (bits v 9 1)).cplDrain i; (if bit v 8 = true ∧ i ≠ 8 then w.hedgeReset i 0 else w))))
  ∧ (∀ (r : Req) (i v : Nat) (s : State), i < 9 → s.get HOSTH.STATUS_IN_RESET i = 0 → s.reachWord r (HOSTH.CTL_HRESET.addr i) 4 = 0 → exec (.hosthHresetWrite r i v) s = .next ((let w := ((s.put HOSTH.CTL_TRUMP_NOW i (bits v 9 1)).each [0, 1, 2, 3] fun u k => u.ringEnable i k (bit v k)).cplDrain i; (if bit v 8 = true ∧ i ≠ 8 then w.hedgeReset i 0 else w))))
  ∧ (∀ (r : Req) (h : Nat) (s : State), h < 8 → s.reachWord r (HBIND.CTL_HRESET.addr h) 4 = 0 → exec (.hbindHresetWrite r h) s = .next (s.hedgeReset h 1))
  ∧ (∀ (h : Nat) (s : State), h < 8 → s.get HOSTH.STATUS_IN_RESET h ≠ 0 → s.get HST.RUN_END h ≠ 0 → s.get FLT.STATUS_STATE ≠ 2 → s.get BOOT.STATUS_READY ≠ 0 → exec (.hedgeResetEnd h) s = .next ((let f := s.thkReset h; let u := (f.2.fwdReset h).tmReset h; let u := (({ u with kcache := u.kcache.filter (·.hedge != h) }) : State).clearRc SECH.flds h; let u := (u.each ((u.holding PT.CTL_OWNER h).filter (· < 64)) fun u n => (u.disarm n).ptClear n).clearRc HOSTH.flds h; let u := if u.get HBIND.CTL_ATTACH h = 2 then u.put HOSTH.RING_CONS (128 * h) (u.get HOSTH.RING_PROD (128 * h)) else u; let done := u.resetDone h f.1; let u := u.each [HOSTH.STATUS_IN_RESET, HOSTH.CTL_HRESET, HST.RCAUSE, HST.RUN_OP, HST.RUN_TAG, HST.RUN_CODE, HST.RUN_END, HST.ENDED0, HST.CONS0, HST.PROD0, SYS.EXPERT_H_OWN, SYS.EXPERT_H_ACK] fun u F => u.put F h 0; let u := u.each (List.range 6) fun u k => u.put EXPX.CHG (6 * h + k) 0; let u := ((u.engReset h).rebound h).event h 0x11 done; ({ u with hrCmds := u.hrCmds.filter (·.2 != h) } : State).each (u.hrCmds.filter (·.2 == h)) fun u x => u.finish x.1 0x72 0)))
  ∧ (∀ (h : Nat) (s : State), (s.get HST.RUN_END h = 0 ∨ s.get FLT.STATUS_STATE = 2 ∨ s.get BOOT.STATUS_READY = 0) → exec (.hedgeResetEnd h) s = .next (s))
  ∧ (∀ (r : Req) (i v : Nat) (s : State), i < 9 → v % 2 = 1 → s.reachWord r (HOSTH.CNT_CLR_DISCARD.addr i) 4 = 0 → exec (.cntClrDiscard r i v) s = .next (s.put HOSTH.HEDGE_DISCARD_CNT i 0))
  ∧ (∀ (r : Req) (i v : Nat) (s : State), v % 2 = 0 → s.reachWord r (HOSTH.CNT_CLR_DISCARD.addr i) 4 = 0 → exec (.cntClrDiscard r i v) s = .next (s))

/-- The Twin link, its wires and PRP: A write of TWIN.CFG takes PREFER and AUTO_TAKEOVER; where it sets EN from 0 it trains up to two lanes (one alone raises LANE_DEGRADED), forgets the partner, starts the wait for HELLO, the own heartbeat by PT23 and the capture of the partner's by CU15, and says HELLO; where it clears EN from 1 the role, the link's and the partner's bits clear, the heartbeat stops and the part is STANDALONE, told where it had a role. With EN 0 a HELLO changes nothing. With EN 1 it sets the partner and its schema, raises CONFIG_DIFF where configurations differ and asks for a full snapshot for a new partner; while the part waits it also settles the roles (ACTIVE by preference, then by the smaller EUI64, and never beside an ACTIVE partner) and ends the wait; it is answered where the partner has no role, and it is heard as a message. A wait of 10 s makes the part ACTIVE; a heartbeat message goes out every 100 µs. A heard message, with EN 1 and lanes up, sets LINK_UP and the instant; a link or wire silent for LOSS_US clears its bit, the link raising LINK_DOWN; the partner's fault line sets and clears its bit. Each of these changes of an input makes a standby decide: with AUTO_TAKEOVER and SYNCED it takes over with the cause R461 gives. With PRP on, a frame on the wrong LAN is counted, a supervision frame restarts its port's watch, a frame that repeats one in the table is discarded and counted, and any other enters the table where its source has or finds a place among 1,024; entries older than FORGET_MS leave. Supervision frames go out on both ports with one number every SUP_INT_MS, and a port that has not heard one for three times that raises its event; with PRP off none of these acts. The rules it rests on: R457, R458, R459, R460, R461, R467, R472. -/
def Obligations.TwinLinkAndWires : Prop :=
  (∀ (r : Req) (v lanes : Nat) (s : State), s.reachWord r (TWIN.CFG_EN.addr 0) 4 = 0 → ((v % 2 = 1 ∧ s.get TWIN.CFG_EN ≠ 0) ∨ (v % 2 = 0 ∧ s.get TWIN.CFG_EN = 0)) → exec (.twinCfgEnWrite r v lanes) s = .next (((s.put TWIN.CFG_EN 0 v).put TWIN.CFG_PREFER 0 (v / 2 % 2)).put TWIN.CFG_AUTO_TAKEOVER 0 (v / 4 % 2)))
  ∧ (∀ (r : Req) (v lanes : Nat) (s : State), s.reachWord r (TWIN.CFG_EN.addr 0) 4 = 0 → v % 2 = 1 → s.get TWIN.CFG_EN = 0 → exec (.twinCfgEnWrite r v lanes) s = .next ((let u := (((s.put TWIN.CFG_EN 0 v).put TWIN.CFG_PREFER 0 (v / 2 % 2)).put TWIN.CFG_AUTO_TAKEOVER 0 (v / 4 % 2)).put TWIN.STATUS_LANES 0 (min 2 lanes); let u := if min 2 lanes = 1 then u.put TWIN.EVENT_LANE_DEGRADED 0 1 else u; let u := ((u.put TWINX.WAIT 0 1).put TWINX.EN_AT 0 u.mp).put TWINX.PARTNER 0 0; let u := (let q := usTicks 500; let u := (((((((u.disarm 23).put PT.CTL_EN 23 1).put PT.CTL_ACTION 23 5).put PT.CTL_TARGET 23 (u.get TWIN.PINS_HB_OUT)).put PT.PERIOD 23 q).put PT.CMP 23 (u.mp + q)).put PT.STATUS_ARMED 23 1).put CU.CTL_EN 15 1; ((u.put CU.CTL_EDGE 15 2).put CU.CTL_SOURCE 15 (u.get TWIN.PINS_HB_IN)).put TWINX.HB_EDGE 0 u.mp); let u := u.put TWINX.HEARD 0 u.mp; (u.twinSend (.hello (u.get SYS.EUI64) (u.get TWIN.CFG_PREFER) (u.get TWIN.STATUS_ROLE) (u.get TWIN.SCHEMA_OWN))))))
  ∧ (∀ (r : Req) (v lanes : Nat) (s : State), s.reachWord r (TWIN.CFG_EN.addr 0) 4 = 0 → v % 2 = 0 → s.get TWIN.CFG_EN ≠ 0 → exec (.twinCfgEnWrite r v lanes) s = .next ((let u := (((s.put TWIN.CFG_EN 0 v).put TWIN.CFG_PREFER 0 (v / 2 % 2)).put TWIN.CFG_AUTO_TAKEOVER 0 (v / 4 % 2)).each [TWIN.STATUS_ROLE, TWIN.STATUS_LINK_UP, TWIN.STATUS_LANES, TWIN.STATUS_PARTNER_HB, TWIN.STATUS_PARTNER_FAULT, TWIN.STATUS_SYNCED, TWINX.WAIT, TWINX.PARTNER] fun u F => u.put F 0 0; let u := (({ u.disarm 23 with twinCmds := [] } : State).put CU.CTL_EN 15 0).refreshAll; if s.get TWIN.STATUS_ROLE ≠ 0 then u.roleTold 6 else u)))
  ∧ (∀ (eui prefer role schema : Nat) (same : Bool) (s : State), s.get TWIN.CFG_EN = 0 → exec (.twinHelloRx eui prefer role schema same) s = .next (s))
  ∧ (∀ (eui prefer role schema : Nat) (same : Bool) (s : State), s.get TWIN.CFG_EN ≠ 0 → s.get TWINX.WAIT = 0 → exec (.twinHelloRx eui prefer role schema same) s = .next ((let u := (let u := (s.put TWINX.PARTNER 0 eui).put TWIN.SCHEMA_PARTNER 0 schema; let u := if same then u else u.put TWIN.EVENT_CONFIG_DIFF 0 1; if (s.get TWINX.WAIT ≠ 0 ∨ s.get TWINX.PARTNER ≠ eui ∨ role ≠ 1) then u.put TWINX.FULL_DUE 0 1 else u); let u := if role = 0 then (u.twinSend (.hello (u.get SYS.EUI64) (u.get TWIN.CFG_PREFER) (u.get TWIN.STATUS_ROLE) (u.get TWIN.SCHEMA_OWN))) else u; (let p := u.get TWIN.STATUS_LINK_UP; let u := (u.put TWIN.STATUS_LINK_UP 0 1).put TWINX.HEARD 0 u.mp; if p ≠ 0 then u else (if u.standby = false then u else match u.takeCause with | some k => (if u.get TWIN.CFG_AUTO_TAKEOVER ≠ 0 ∧ u.get TWIN.STATUS_SYNCED ≠ 0 then u.takeover k else u) | none => (if u.get TWIN.STATUS_LINK_UP = 0 then u.put TWIN.EVENT_LINK_DOWN 0 1 else u))))))
  ∧ (∀ (eui prefer role schema : Nat) (same : Bool) (s : State), s.get TWIN.CFG_EN ≠ 0 → s.get TWINX.WAIT ≠ 0 → exec (.twinHelloRx eui prefer role schema same) s = .next ((let u := ((let u := (s.put TWINX.PARTNER 0 eui).put TWIN.SCHEMA_PARTNER 0 schema; let u := if same then u else u.put TWIN.EVENT_CONFIG_DIFF 0 1; if (s.get TWINX.WAIT ≠ 0 ∨ s.get TWINX.PARTNER ≠ eui ∨ role ≠ 1) then u.put TWINX.FULL_DUE 0 1 else u)).put TWINX.WAIT 0 0; let u := (if (role != 1 && (s.get TWIN.CFG_PREFER > prefer || (s.get TWIN.CFG_PREFER == prefer && decide (s.get SYS.EUI64 < eui)))) then u.beActive else u.beStandby).roleTold 0; let u := if role = 0 then (u.twinSend (.hello (u.get SYS.EUI64) (u.get TWIN.CFG_PREFER) (u.get TWIN.STATUS_ROLE) (u.get TWIN.SCHEMA_OWN))) else u; (let p := u.get TWIN.STATUS_LINK_UP; let u := (u.put TWIN.STATUS_LINK_UP 0 1).put TWINX.HEARD 0 u.mp; if p ≠ 0 then u else (if u.standby = false then u else match u.takeCause with | some k => (if u.get TWIN.CFG_AUTO_TAKEOVER ≠ 0 ∧ u.get TWIN.STATUS_SYNCED ≠ 0 then u.takeover k else u) | none => (if u.get TWIN.STATUS_LINK_UP = 0 then u.put TWIN.EVENT_LINK_DOWN 0 1 else u))))))
  ∧ (∀ (s : State), s.get TWINX.WAIT ≠ 0 → ticksGeUs (s.mp - s.get TWINX.EN_AT) 10000000 = true → exec (.twinHelloTimeout) s = .next ((let u := s.put TWINX.WAIT 0 0; ((((u.put TWIN.STATUS_ROLE 0 1).put TWINX.ACTIVE_AT 0 u.mp).put TWINX.FULL_DUE 0 1).refreshAll).roleTold 0)))
  ∧ (∀ (s : State), (s.get TWINX.WAIT = 0 ∨ ticksGeUs (s.mp - s.get TWINX.EN_AT) 10000000 = false) → exec (.twinHelloTimeout) s = .next (s))
  ∧ (∀ (s : State), s.get TWIN.CFG_EN ≠ 0 → ticksGeUs (s.mp - s.get TWINX.SENT) 100 = true → exec (.twinHeartbeatSend) s = .next ((s.twinSend .heartbeat).put TWINX.SENT 0 s.mp))
  ∧ (∀ (s : State), (s.get TWIN.CFG_EN = 0 ∨ ticksGeUs (s.mp - s.get TWINX.SENT) 100 = false) → exec (.twinHeartbeatSend) s = .next (s))
  ∧ (∀ (s : State), s.get TWIN.STATUS_LINK_UP ≠ 0 → ticksGeUs (s.mp - s.get TWINX.HEARD) (s.get TWIN.LOSS_US) = true → exec (.twinLinkSilent) s = .next ((let u := (s.put TWIN.STATUS_LINK_UP 0 0).put TWIN.EVENT_LINK_DOWN 0 1; (if u.standby = false then u else match u.takeCause with | some k => (if u.get TWIN.CFG_AUTO_TAKEOVER ≠ 0 ∧ u.get TWIN.STATUS_SYNCED ≠ 0 then u.takeover k else u) | none => (if u.get TWIN.STATUS_LINK_UP = 0 then u.put TWIN.EVENT_LINK_DOWN 0 1 else u)))))
  ∧ (∀ (s : State), (s.get TWIN.STATUS_LINK_UP = 0 ∨ ticksGeUs (s.mp - s.get TWINX.HEARD) (s.get TWIN.LOSS_US) = false) → exec (.twinLinkSilent) s = .next (s))
  ∧ (∀ (s : State), s.get TWIN.CFG_EN ≠ 0 → s.get TWIN.STATUS_LANES ≠ 0 → exec (.twinLinkUp) s = .next ((let u := s; (let p := u.get TWIN.STATUS_LINK_UP; let u := (u.put TWIN.STATUS_LINK_UP 0 1).put TWINX.HEARD 0 u.mp; if p ≠ 0 then u else (if u.standby = false then u else match u.takeCause with | some k => (if u.get TWIN.CFG_AUTO_TAKEOVER ≠ 0 ∧ u.get TWIN.STATUS_SYNCED ≠ 0 then u.takeover k else u) | none => (if u.get TWIN.STATUS_LINK_UP = 0 then u.put TWIN.EVENT_LINK_DOWN 0 1 else u))))))
  ∧ (∀ (s : State), (s.get TWIN.CFG_EN = 0 ∨ s.get TWIN.STATUS_LANES = 0) → exec (.twinLinkUp) s = .next (s))
  ∧ (∀ (s : State), s.get TWIN.STATUS_PARTNER_HB ≠ 0 → ticksGeUs (s.mp - s.get TWINX.HB_EDGE) (s.get TWIN.LOSS_US) = true → exec (.twinHbSilent) s = .next ((let u := s.put TWIN.STATUS_PARTNER_HB 0 0; (if u.standby = false then u else match u.takeCause with | some k => (if u.get TWIN.CFG_AUTO_TAKEOVER ≠ 0 ∧ u.get TWIN.STATUS_SYNCED ≠ 0 then u.takeover k else u) | none => (if u.get TWIN.STATUS_LINK_UP = 0 then u.put TWIN.EVENT_LINK_DOWN 0 1 else u)))))
  ∧ (∀ (s : State), (s.get TWIN.STATUS_PARTNER_HB = 0 ∨ ticksGeUs (s.mp - s.get TWINX.HB_EDGE) (s.get TWIN.LOSS_US) = false) → exec (.twinHbSilent) s = .next (s))
  ∧ (∀ (s : State), s.get TWIN.CFG_EN ≠ 0 → s.get TWIN.STATUS_PARTNER_FAULT = 0 → exec (.partnerFaultAssert) s = .next ((let u := s.put TWIN.STATUS_PARTNER_FAULT 0 1; (if u.standby = false then u else match u.takeCause with | some k => (if u.get TWIN.CFG_AUTO_TAKEOVER ≠ 0 ∧ u.get TWIN.STATUS_SYNCED ≠ 0 then u.takeover k else u) | none => (if u.get TWIN.STATUS_LINK_UP = 0 then u.put TWIN.EVENT_LINK_DOWN 0 1 else u)))))
  ∧ (∀ (s : State), s.get TWIN.STATUS_PARTNER_FAULT ≠ 0 → exec (.partnerFaultRelease) s = .next ((let u := s.put TWIN.STATUS_PARTNER_FAULT 0 0; (if u.standby = false then u else match u.takeCause with | some k => (if u.get TWIN.CFG_AUTO_TAKEOVER ≠ 0 ∧ u.get TWIN.STATUS_SYNCED ≠ 0 then u.takeover k else u) | none => (if u.get TWIN.STATUS_LINK_UP = 0 then u.put TWIN.EVENT_LINK_DOWN 0 1 else u)))))
  ∧ (∀ (port source seq : Nat) (lanB sup : Bool) (s : State), s.get PRP.CTL_EN ≠ 0 → port < 2 → (((s.prpTab.filter fun x => decide ((s.mp - x.2.2) * 1000 < s.get PRP.FORGET_MS * 2 ^ 24)).any fun x => x.1 == source && x.2.1 == seq) = false) → exec (.prpFrameRx port source seq lanB sup) s = .next ((let l := if (prpNodes (s.prpTab.filter fun x => decide ((s.mp - x.2.2) * 1000 < s.get PRP.FORGET_MS * 2 ^ 24))).contains source = true ∨ (prpNodes (s.prpTab.filter fun x => decide ((s.mp - x.2.2) * 1000 < s.get PRP.FORGET_MS * 2 ^ 24))).length < 1024 then (s.prpTab.filter fun x => decide ((s.mp - x.2.2) * 1000 < s.get PRP.FORGET_MS * 2 ^ 24)) ++ [(source, seq, s.mp)] else (s.prpTab.filter fun x => decide ((s.mp - x.2.2) * 1000 < s.get PRP.FORGET_MS * 2 ^ 24)); ({ (let u := if lanB = (port == 1) then s else s.bump (if port = 0 then PRP.LAN_A_ERR else PRP.LAN_B_ERR); if sup then u.put PRPX.HEARD port s.mp else u) with prpTab := l } : State).put PRP.NODES 0 (prpNodes l).length)))
  ∧ (∀ (port source seq : Nat) (lanB sup : Bool) (s : State), s.get PRP.CTL_EN ≠ 0 → port < 2 → (((s.prpTab.filter fun x => decide ((s.mp - x.2.2) * 1000 < s.get PRP.FORGET_MS * 2 ^ 24)).any fun x => x.1 == source && x.2.1 == seq) = true) → exec (.prpFrameRx port source seq lanB sup) s = .next ((({ (let u := if lanB = (port == 1) then s else s.bump (if port = 0 then PRP.LAN_A_ERR else PRP.LAN_B_ERR); if sup then u.put PRPX.HEARD port s.mp else u) with prpTab := (s.prpTab.filter fun x => decide ((s.mp - x.2.2) * 1000 < s.get PRP.FORGET_MS * 2 ^ 24)) } : State).put PRP.NODES 0 (prpNodes (s.prpTab.filter fun x => decide ((s.mp - x.2.2) * 1000 < s.get PRP.FORGET_MS * 2 ^ 24))).length).bump PRP.DUP_DISCARD))
  ∧ (∀ (port source seq : Nat) (lanB sup : Bool) (s : State), s.get PRP.CTL_EN = 0 → exec (.prpFrameRx port source seq lanB sup) s = .next (s))
  ∧ (∀ (s : State), s.get PRP.CTL_EN ≠ 0 → s.get PRP.SUP_INT_MS * 2 ^ 24 ≤ (s.mp - s.get PRPX.SUP_AT) * 1000 → exec (.prpSupSend) s = .next (((({ s with wire := s.wire ++ [.supervision 0 (s.get PRPX.SEQ), .supervision 1 (s.get PRPX.SEQ)] } : State).bump PRPX.SEQ).put PRPX.SUP_AT 0 s.mp)))
  ∧ (∀ (s : State), (s.get PRP.CTL_EN = 0 ∨ (s.mp - s.get PRPX.SUP_AT) * 1000 < s.get PRP.SUP_INT_MS * 2 ^ 24) → exec (.prpSupSend) s = .next (s))
  ∧ (∀ (port : Nat) (s : State), s.get PRP.CTL_EN ≠ 0 → port < 2 → 3 * s.get PRP.SUP_INT_MS * 2 ^ 24 ≤ (s.mp - s.get PRPX.HEARD port) * 1000 → exec (.prpSupTimeout port) s = .next (s.put (if port = 0 then PRP.EVENT_LAN_A_DOWN else PRP.EVENT_LAN_B_DOWN) 0 1))
  ∧ (∀ (port : Nat) (s : State), (s.get PRP.CTL_EN = 0 ∨ (s.mp - s.get PRPX.HEARD port) * 1000 < 3 * s.get PRP.SUP_INT_MS * 2 ^ 24) → exec (.prpSupTimeout port) s = .next (s))

/-- Takeover, switching, snapshots and the two actives: TAKEOVER on a synced standby takes over, with the cause of the condition that holds and else SWITCH: the epoch counts, every TX_CNT and group counter skips 2^16 ahead, the old active's commands complete as orphans, the commands of campaigns and sweeps are forgotten, each chain's next frame takes a full calibration, and the part is ACTIVE, told and counted; elsewhere TAKEOVER does nothing. SWITCH on an active with a partner linked sends a last snapshot, hands over, announces its demotion and is the standby, told; elsewhere it does nothing. A demotion heard by a synced standby is a takeover with its cause; on any other part with EN 1 it is only heard. In each Twin cycle an active with a partner linked measures the offset (beyond 20,000 it raises PHASE_SPLIT) and sends one snapshot, raising SNAP_LATE where it was late; else nothing is sent. A standby hears a snapshot and measures; where that leaves it a standby, it applies one of its own schema or the one before (entries, ledgers, the items per Hedge, the duty of the gate, what is missing, the commands, epoch and number, and SYNCED with a full one), and of any other schema raises SCHEMA_MISMATCH and is not synced. With EN 1 a counter record is heard and counted, and a fresh counter of a named entry is accepted in that entry; with EN 0 it changes nothing. A loopback test, by command on a standby or each LOOP_S seconds, records its instant and raises LOOP_FAIL where a chain failed. Of two actives the one with the older change performs a core reset and is the standby; the other goes on. The rules it rests on: R457, R461, R462, R463, R464, R465, R466, R467, R469, R470. -/
def Obligations.TwinRolesAndSnapshots : Prop :=
  (∀ (r : Req) (s : State), s.reachWord r (TWIN.CMD_TAKEOVER.addr 0) 4 = 0 → s.standby = true → s.get TWIN.STATUS_SYNCED ≠ 0 → exec (.twinCmdTakeover r) s = .next ((let u := s.bump TWIN.TAKEOVER_EPOCH; let u := u.each u.usedEntries fun u e => u.wrE E.TX_CNT e (min (2 ^ 32 - 1) (u.get E.TX_CNT e + 2 ^ 16)); let u := u.each [0, 1, 2, 3, 4, 5, 6, 7] fun u h => u.put SECH.GROUP_TX_CNT h (min (2 ^ 32 - 1) (u.get SECH.GROUP_TX_CNT h + 2 ^ 16)); let u : State := { u.each u.twinCmds State.orphanCpl with twinCmds := [] }; let u := u.each [0, 1, 2, 3, 4, 5, 6, 7] fun u h => (u.put CAMPX.CMD h 0).put SWEEP.CMD h 0; let u := u.each [0, 1, 2, 3] fun u c => u.put CHN.FIRST c 1; let u := ((u.put TWIN.STATUS_ROLE 0 1).roleTold (if s.get TWIN.STATUS_PARTNER_FAULT ≠ 0 then 1 else if s.get TWIN.STATUS_LINK_UP = 0 ∧ s.get TWIN.STATUS_PARTNER_HB = 0 then 2 else 3)).bump TWIN.TAKEOVER_CNT; (((u.put TWIN.STATUS_ROLE 0 1).put TWINX.ACTIVE_AT 0 u.mp).put TWINX.FULL_DUE 0 1).refreshAll)))
  ∧ (∀ (r : Req) (s : State), s.reachWord r (TWIN.CMD_TAKEOVER.addr 0) 4 = 0 → (s.standby = false ∨ s.get TWIN.STATUS_SYNCED = 0) → exec (.twinCmdTakeover r) s = .next (s))
  ∧ (∀ (r : Req) (s : State), s.reachWord r (TWIN.CMD_SWITCH.addr 0) 4 = 0 → s.get TWIN.STATUS_ROLE = 1 → s.get TWIN.STATUS_LINK_UP ≠ 0 → exec (.twinCmdSwitch r) s = .next ((s.snapshot.2.handOver.twinSend (.demote 3)).beStandby.roleTold 3))
  ∧ (∀ (r : Req) (s : State), s.reachWord r (TWIN.CMD_SWITCH.addr 0) 4 = 0 → (s.get TWIN.STATUS_ROLE ≠ 1 ∨ s.get TWIN.STATUS_LINK_UP = 0) → exec (.twinCmdSwitch r) s = .next (s))
  ∧ (∀ (cause : Nat) (s : State), s.get TWIN.CFG_EN ≠ 0 → (let u := s; (let p := u.get TWIN.STATUS_LINK_UP; let u := (u.put TWIN.STATUS_LINK_UP 0 1).put TWINX.HEARD 0 u.mp; if p ≠ 0 then u else (if u.standby = false then u else match u.takeCause with | some k => (if u.get TWIN.CFG_AUTO_TAKEOVER ≠ 0 ∧ u.get TWIN.STATUS_SYNCED ≠ 0 then u.takeover k else u) | none => (if u.get TWIN.STATUS_LINK_UP = 0 then u.put TWIN.EVENT_LINK_DOWN 0 1 else u)))).standby = true → (let u := s; (let p := u.get TWIN.STATUS_LINK_UP; let u := (u.put TWIN.STATUS_LINK_UP 0 1).put TWINX.HEARD 0 u.mp; if p ≠ 0 then u else (if u.standby = false then u else match u.takeCause with | some k => (if u.get TWIN.CFG_AUTO_TAKEOVER ≠ 0 ∧ u.get TWIN.STATUS_SYNCED ≠ 0 then u.takeover k else u) | none => (if u.get TWIN.STATUS_LINK_UP = 0 then u.put TWIN.EVENT_LINK_DOWN 0 1 else u)))).get TWIN.STATUS_SYNCED ≠ 0 → exec (.twinDemotionRx cause) s = .next ((let u := s; (let p := u.get TWIN.STATUS_LINK_UP; let u := (u.put TWIN.STATUS_LINK_UP 0 1).put TWINX.HEARD 0 u.mp; if p ≠ 0 then u else (if u.standby = false then u else match u.takeCause with | some k => (if u.get TWIN.CFG_AUTO_TAKEOVER ≠ 0 ∧ u.get TWIN.STATUS_SYNCED ≠ 0 then u.takeover k else u) | none => (if u.get TWIN.STATUS_LINK_UP = 0 then u.put TWIN.EVENT_LINK_DOWN 0 1 else u)))).takeover cause))
  ∧ (∀ (cause : Nat) (s : State), s.get TWIN.CFG_EN ≠ 0 → ((let u := s; (let p := u.get TWIN.STATUS_LINK_UP; let u := (u.put TWIN.STATUS_LINK_UP 0 1).put TWINX.HEARD 0 u.mp; if p ≠ 0 then u else (if u.standby = false then u else match u.takeCause with | some k => (if u.get TWIN.CFG_AUTO_TAKEOVER ≠ 0 ∧ u.get TWIN.STATUS_SYNCED ≠ 0 then u.takeover k else u) | none => (if u.get TWIN.STATUS_LINK_UP = 0 then u.put TWIN.EVENT_LINK_DOWN 0 1 else u)))).standby = false ∨ (let u := s; (let p := u.get TWIN.STATUS_LINK_UP; let u := (u.put TWIN.STATUS_LINK_UP 0 1).put TWINX.HEARD 0 u.mp; if p ≠ 0 then u else (if u.standby = false then u else match u.takeCause with | some k => (if u.get TWIN.CFG_AUTO_TAKEOVER ≠ 0 ∧ u.get TWIN.STATUS_SYNCED ≠ 0 then u.takeover k else u) | none => (if u.get TWIN.STATUS_LINK_UP = 0 then u.put TWIN.EVENT_LINK_DOWN 0 1 else u)))).get TWIN.STATUS_SYNCED = 0) → exec (.twinDemotionRx cause) s = .next ((let u := s; (let p := u.get TWIN.STATUS_LINK_UP; let u := (u.put TWIN.STATUS_LINK_UP 0 1).put TWINX.HEARD 0 u.mp; if p ≠ 0 then u else (if u.standby = false then u else match u.takeCause with | some k => (if u.get TWIN.CFG_AUTO_TAKEOVER ≠ 0 ∧ u.get TWIN.STATUS_SYNCED ≠ 0 then u.takeover k else u) | none => (if u.get TWIN.STATUS_LINK_UP = 0 then u.put TWIN.EVENT_LINK_DOWN 0 1 else u))))))
  ∧ (∀ (late : Bool) (ofs : Int) (s : State), s.get TWIN.STATUS_ROLE = 1 → s.get TWIN.STATUS_LINK_UP ≠ 0 → s.get TWINX.CYCLE ≤ s.twinCycle → exec (.snapshotCapture late ofs) s = .next ((let u := s.put TWINX.CYCLE 0 (s.twinCycle + 1); let u := (let u := u.putI TWIN.PHASE_OFS 0 ofs; if 20000 < ofs.natAbs then u.put TWIN.EVENT_PHASE_SPLIT 0 1 else u); if late then u.snapshot.2.put TWIN.EVENT_SNAP_LATE 0 1 else u.snapshot.2)))
  ∧ (∀ (late : Bool) (ofs : Int) (s : State), (s.get TWIN.STATUS_ROLE ≠ 1 ∨ s.get TWIN.STATUS_LINK_UP = 0 ∨ s.twinCycle < s.get TWINX.CYCLE) → exec (.snapshotCapture late ofs) s = .next (s))
  ∧ (∀ (x : TwinSnap) (ofs : Int) (s : State), s.standby = true → (let u := (let u := s; (let p := u.get TWIN.STATUS_LINK_UP; let u := (u.put TWIN.STATUS_LINK_UP 0 1).put TWINX.HEARD 0 u.mp; if p ≠ 0 then u else (if u.standby = false then u else match u.takeCause with | some k => (if u.get TWIN.CFG_AUTO_TAKEOVER ≠ 0 ∧ u.get TWIN.STATUS_SYNCED ≠ 0 then u.takeover k else u) | none => (if u.get TWIN.STATUS_LINK_UP = 0 then u.put TWIN.EVENT_LINK_DOWN 0 1 else u)))); (let u := u.putI TWIN.PHASE_OFS 0 ofs; if 20000 < ofs.natAbs then u.put TWIN.EVENT_PHASE_SPLIT 0 1 else u)).standby = true → x.schema ≠ s.get TWIN.SCHEMA_OWN → x.schema + 1 ≠ s.get TWIN.SCHEMA_OWN → exec (.snapshotApply x ofs) s = .next (((let u := (let u := s; (let p := u.get TWIN.STATUS_LINK_UP; let u := (u.put TWIN.STATUS_LINK_UP 0 1).put TWINX.HEARD 0 u.mp; if p ≠ 0 then u else (if u.standby = false then u else match u.takeCause with | some k => (if u.get TWIN.CFG_AUTO_TAKEOVER ≠ 0 ∧ u.get TWIN.STATUS_SYNCED ≠ 0 then u.takeover k else u) | none => (if u.get TWIN.STATUS_LINK_UP = 0 then u.put TWIN.EVENT_LINK_DOWN 0 1 else u)))); (let u := u.putI TWIN.PHASE_OFS 0 ofs; if 20000 < ofs.natAbs then u.put TWIN.EVENT_PHASE_SPLIT 0 1 else u)).put TWIN.EVENT_SCHEMA_MISMATCH 0 1).put TWIN.STATUS_SYNCED 0 0))
  ∧ (∀ (x : TwinSnap) (ofs : Int) (s : State), s.standby = true → (let u := (let u := s; (let p := u.get TWIN.STATUS_LINK_UP; let u := (u.put TWIN.STATUS_LINK_UP 0 1).put TWINX.HEARD 0 u.mp; if p ≠ 0 then u else (if u.standby = false then u else match u.takeCause with | some k => (if u.get TWIN.CFG_AUTO_TAKEOVER ≠ 0 ∧ u.get TWIN.STATUS_SYNCED ≠ 0 then u.takeover k else u) | none => (if u.get TWIN.STATUS_LINK_UP = 0 then u.put TWIN.EVENT_LINK_DOWN 0 1 else u)))); (let u := u.putI TWIN.PHASE_OFS 0 ofs; if 20000 < ofs.natAbs then u.put TWIN.EVENT_PHASE_SPLIT 0 1 else u)).standby = true → (x.schema = s.get TWIN.SCHEMA_OWN ∨ x.schema + 1 = s.get TWIN.SCHEMA_OWN) → exec (.snapshotApply x ofs) s = .next ((let u := ((let u := (let u := s; (let p := u.get TWIN.STATUS_LINK_UP; let u := (u.put TWIN.STATUS_LINK_UP 0 1).put TWINX.HEARD 0 u.mp; if p ≠ 0 then u else (if u.standby = false then u else match u.takeCause with | some k => (if u.get TWIN.CFG_AUTO_TAKEOVER ≠ 0 ∧ u.get TWIN.STATUS_SYNCED ≠ 0 then u.takeover k else u) | none => (if u.get TWIN.STATUS_LINK_UP = 0 then u.put TWIN.EVENT_LINK_DOWN 0 1 else u)))); (let u := u.putI TWIN.PHASE_OFS 0 ofs; if 20000 < ofs.natAbs then u.put TWIN.EVENT_PHASE_SPLIT 0 1 else u)).each x.entries State.snapEntry).each x.ledger fun u y => u.put LEDGER.GEN y.1 y.2; let u := (u.snapCells x.cells).snapDuty x.duty; let u := (({ u with missing := x.missing, gone := x.gone, twinCmds := x.cmds } : State).put TWIN.TAKEOVER_EPOCH 0 x.epoch).put TWIN.SNAP_SEQ 0 x.seq; if x.full then (u.put TWIN.STATUS_SYNCED 0 1).refreshAll else u.refreshAll)))
  ∧ (∀ (x : TwinSnap) (ofs : Int) (s : State), s.standby = true → (let u := (let u := s; (let p := u.get TWIN.STATUS_LINK_UP; let u := (u.put TWIN.STATUS_LINK_UP 0 1).put TWINX.HEARD 0 u.mp; if p ≠ 0 then u else (if u.standby = false then u else match u.takeCause with | some k => (if u.get TWIN.CFG_AUTO_TAKEOVER ≠ 0 ∧ u.get TWIN.STATUS_SYNCED ≠ 0 then u.takeover k else u) | none => (if u.get TWIN.STATUS_LINK_UP = 0 then u.put TWIN.EVENT_LINK_DOWN 0 1 else u)))); (let u := u.putI TWIN.PHASE_OFS 0 ofs; if 20000 < ofs.natAbs then u.put TWIN.EVENT_PHASE_SPLIT 0 1 else u)).standby = false → exec (.snapshotApply x ofs) s = .next ((let u := (let u := s; (let p := u.get TWIN.STATUS_LINK_UP; let u := (u.put TWIN.STATUS_LINK_UP 0 1).put TWINX.HEARD 0 u.mp; if p ≠ 0 then u else (if u.standby = false then u else match u.takeCause with | some k => (if u.get TWIN.CFG_AUTO_TAKEOVER ≠ 0 ∧ u.get TWIN.STATUS_SYNCED ≠ 0 then u.takeover k else u) | none => (if u.get TWIN.STATUS_LINK_UP = 0 then u.put TWIN.EVENT_LINK_DOWN 0 1 else u)))); (let u := u.putI TWIN.PHASE_OFS 0 ofs; if 20000 < ofs.natAbs then u.put TWIN.EVENT_PHASE_SPLIT 0 1 else u))))
  ∧ (∀ (x : TwinSnap) (ofs : Int) (s : State), s.standby = false → exec (.snapshotApply x ofs) s = .next (s))
  ∧ (∀ (h e counter : Nat) (s : State), s.get TWIN.CFG_EN ≠ 0 → ((let u := s; (let p := u.get TWIN.STATUS_LINK_UP; let u := (u.put TWIN.STATUS_LINK_UP 0 1).put TWINX.HEARD 0 u.mp; if p ≠ 0 then u else (if u.standby = false then u else match u.takeCause with | some k => (if u.get TWIN.CFG_AUTO_TAKEOVER ≠ 0 ∧ u.get TWIN.STATUS_SYNCED ≠ 0 then u.takeover k else u) | none => (if u.get TWIN.STATUS_LINK_UP = 0 then u.put TWIN.EVENT_LINK_DOWN 0 1 else u)))).bump TWIN.MIRROR_CNT).named h e = true → exec (.twinCounterRecordRx h e counter) s = .next (match judge (((let u := s; (let p := u.get TWIN.STATUS_LINK_UP; let u := (u.put TWIN.STATUS_LINK_UP 0 1).put TWINX.HEARD 0 u.mp; if p ≠ 0 then u else (if u.standby = false then u else match u.takeCause with | some k => (if u.get TWIN.CFG_AUTO_TAKEOVER ≠ 0 ∧ u.get TWIN.STATUS_SYNCED ≠ 0 then u.takeover k else u) | none => (if u.get TWIN.STATUS_LINK_UP = 0 then u.put TWIN.EVENT_LINK_DOWN 0 1 else u)))).bump TWIN.MIRROR_CNT).get E.RX_CNT e) (((let u := s; (let p := u.get TWIN.STATUS_LINK_UP; let u := (u.put TWIN.STATUS_LINK_UP 0 1).put TWINX.HEARD 0 u.mp; if p ≠ 0 then u else (if u.standby = false then u else match u.takeCause with | some k => (if u.get TWIN.CFG_AUTO_TAKEOVER ≠ 0 ∧ u.get TWIN.STATUS_SYNCED ≠ 0 then u.takeover k else u) | none => (if u.get TWIN.STATUS_LINK_UP = 0 then u.put TWIN.EVENT_LINK_DOWN 0 1 else u)))).bump TWIN.MIRROR_CNT).get E.REPLAY_MAP e) counter with | .fresh cnt map => ((let u := s; (let p := u.get TWIN.STATUS_LINK_UP; let u := (u.put TWIN.STATUS_LINK_UP 0 1).put TWINX.HEARD 0 u.mp; if p ≠ 0 then u else (if u.standby = false then u else match u.takeCause with | some k => (if u.get TWIN.CFG_AUTO_TAKEOVER ≠ 0 ∧ u.get TWIN.STATUS_SYNCED ≠ 0 then u.takeover k else u) | none => (if u.get TWIN.STATUS_LINK_UP = 0 then u.put TWIN.EVENT_LINK_DOWN 0 1 else u)))).bump TWIN.MIRROR_CNT).keepCounter e cnt map | _ => ((let u := s; (let p := u.get TWIN.STATUS_LINK_UP; let u := (u.put TWIN.STATUS_LINK_UP 0 1).put TWINX.HEARD 0 u.mp; if p ≠ 0 then u else (if u.standby = false then u else match u.takeCause with | some k => (if u.get TWIN.CFG_AUTO_TAKEOVER ≠ 0 ∧ u.get TWIN.STATUS_SYNCED ≠ 0 then u.takeover k else u) | none => (if u.get TWIN.STATUS_LINK_UP = 0 then u.put TWIN.EVENT_LINK_DOWN 0 1 else u)))).bump TWIN.MIRROR_CNT)))
  ∧ (∀ (h e counter : Nat) (s : State), s.get TWIN.CFG_EN ≠ 0 → ((let u := s; (let p := u.get TWIN.STATUS_LINK_UP; let u := (u.put TWIN.STATUS_LINK_UP 0 1).put TWINX.HEARD 0 u.mp; if p ≠ 0 then u else (if u.standby = false then u else match u.takeCause with | some k => (if u.get TWIN.CFG_AUTO_TAKEOVER ≠ 0 ∧ u.get TWIN.STATUS_SYNCED ≠ 0 then u.takeover k else u) | none => (if u.get TWIN.STATUS_LINK_UP = 0 then u.put TWIN.EVENT_LINK_DOWN 0 1 else u)))).bump TWIN.MIRROR_CNT).named h e = false → exec (.twinCounterRecordRx h e counter) s = .next (((let u := s; (let p := u.get TWIN.STATUS_LINK_UP; let u := (u.put TWIN.STATUS_LINK_UP 0 1).put TWINX.HEARD 0 u.mp; if p ≠ 0 then u else (if u.standby = false then u else match u.takeCause with | some k => (if u.get TWIN.CFG_AUTO_TAKEOVER ≠ 0 ∧ u.get TWIN.STATUS_SYNCED ≠ 0 then u.takeover k else u) | none => (if u.get TWIN.STATUS_LINK_UP = 0 then u.put TWIN.EVENT_LINK_DOWN 0 1 else u)))).bump TWIN.MIRROR_CNT)))
  ∧ (∀ (h e counter : Nat) (s : State), s.get TWIN.CFG_EN = 0 → exec (.twinCounterRecordRx h e counter) s = .next (s))
  ∧ (∀ (r : Req) (ok : List Bool) (s : State), s.standby = true → s.reachWord r (TWIN.CMD_LOOP.addr 0) 4 = 0 → exec (.twinCmdLoop r ok) s = .next ((if ([0, 1, 2, 3].all fun i => ok.getD i true) = true then s.put TWINX.LOOP_AT 0 s.mp else (s.put TWINX.LOOP_AT 0 s.mp).put TWIN.EVENT_LOOP_FAIL 0 1)))
  ∧ (∀ (r : Req) (ok : List Bool) (s : State), s.standby = false → s.reachWord r (TWIN.CMD_LOOP.addr 0) 4 = 0 → exec (.twinCmdLoop r ok) s = .next (s))
  ∧ (∀ (ok : List Bool) (s : State), s.standby = true → s.get TWIN.LOOP_S * 2 ^ 24 ≤ s.mp - s.get TWINX.LOOP_AT → exec (.twinLoopTest ok) s = .next ((if ([0, 1, 2, 3].all fun i => ok.getD i true) = true then s.put TWINX.LOOP_AT 0 s.mp else (s.put TWINX.LOOP_AT 0 s.mp).put TWIN.EVENT_LOOP_FAIL 0 1)))
  ∧ (∀ (ok : List Bool) (s : State), (s.standby = false ∨ s.mp - s.get TWINX.LOOP_AT < s.get TWIN.LOOP_S * 2 ^ 24) → exec (.twinLoopTest ok) s = .next (s))
  ∧ (∀ (at_ : Nat) (s : State), s.get TWIN.STATUS_ROLE = 1 → s.get TWINX.ACTIVE_AT < at_ → exec (.twinDualActive at_) s = .next ((((s.put TWIN.STATUS_ROLE 0 2).put TWIN.STATUS_SYNCED 0 0).put TWINX.TOLD 0 5).takeCore 12))
  ∧ (∀ (at_ : Nat) (s : State), (s.get TWIN.STATUS_ROLE ≠ 1 ∨ at_ ≤ s.get TWINX.ACTIVE_AT) → exec (.twinDualActive at_) s = .next (s))

/-- The sources of reset and the way out: Power-on takes a power-on reset with cause bit 0 alone: all state but what outlasts it returns to its reset value after PENDING occurrences are missed, the level and the restarts are recorded, the counts clear, and FAULT_N stays low only where the sequence it ends kept it low. A low pulse on POR_N of 1 µs or more, or of 200 ns up to that where it is taken, takes one with bit 1; on RESET_N a system reset with bit 2; a shorter pulse or one not taken does nothing. A low supply and the Steward's watchdog are faults 0x0201 and 0x0302 of their source with bits 3 and 5; a thermal trip is fault 0x0202 with bit 4 and, where a reset follows, holds the part with cause 4 and FAULT_N low, until THERMAL_HOLD_END ends that hold and no other. The software requests, where the requester reaches the register, take a system reset with bit 7 or a core reset with bit 8, the latter not in the safe state. RESET_RELEASE does nothing outside a power-on or system reset, in a hold or stop or in recovery. Else MRAM is zeroed at a power-on with LIFE blank, the Scorepad scanned, the RESET record put before those that waited, BOOT_SEL and the OTP read; without a hold the slots are tried in the boot record's order: the first image that passes runs, with a valid record, and with none the part stops in recovery. CORE_RESET, in a core reset and with both hashes right, ends the work of every unit, returns units, memories, threads and programs as R486 lists them and leads to READY; with a hash wrong the action of a system reset is taken as escalated, and READY follows where that leaves the core level; outside a core reset it does nothing. The rules it rests on: R477, R478, R479, R480, R481, R482, R484, R486, R536, R540, R561. -/
def Obligations.ResetSources : Prop :=
  (∀ (s : State), exec (.powerOn) s = .next ((let low := decide (s.get RSTX.LEVEL ≠ 0) && decide (s.get RSTX.FAULT_START ≠ 0); let u := s.pendMissed.resetTo.put RST.RST_CAUSE 0 1; let u := (u.put RST.LAST_LEVEL 0 0).put RST.LAST_RESTARTS 0 (if (decide (s.get RSTX.LEVEL ≠ 0) && s.get RSTX.CYC == s.get CLK.CYC) then s.get RST.LAST_RESTARTS else if s.get RSTX.LEVEL ≠ 0 then min 255 (s.get RST.LAST_RESTARTS + 1) else 0); let u := (((u.put RSTX.LEVEL 0 3).put RST.CORE_CNT 0 0).put RST.SYS_CNT 0 0).put RSTX.CYC 0 (s.get CLK.CYC); (u.put RSTX.FAULT_START 0 (if low then 1 else 0)).put FLT.STATUS_FAULT_N 0 (if low then 1 else 0))))
  ∧ (∀ (ns : Nat) (take : Bool) (s : State), (1000 ≤ ns ∨ (200 ≤ ns ∧ take = true)) → exec (.porNLow ns take) s = .next (s.takeSys 3 1 false))
  ∧ (∀ (ns : Nat) (take : Bool) (s : State), (ns < 200 ∨ (ns < 1000 ∧ take = false)) → exec (.porNLow ns take) s = .next (s))
  ∧ (∀ (ns : Nat) (take : Bool) (s : State), (1000 ≤ ns ∨ (200 ≤ ns ∧ take = true)) → exec (.resetNLow ns take) s = .next (s.takeSys 2 2 false))
  ∧ (∀ (ns : Nat) (take : Bool) (s : State), (ns < 200 ∨ (ns < 1000 ∧ take = false)) → exec (.resetNLow ns take) s = .next (s))
  ∧ (∀ (s : State), exec (.supplyLow) s = .next (s.sourceFault 0x0201 0 5 3))
  ∧ (∀ (s : State), (s.sourceFault 0x0202 0 5 4).get RSTX.LEVEL = 0 → exec (.thermalTrip) s = .next ((s.sourceFault 0x0202 0 5 4)))
  ∧ (∀ (s : State), (s.sourceFault 0x0202 0 5 4).get RSTX.LEVEL ≠ 0 → exec (.thermalTrip) s = .next ((((s.sourceFault 0x0202 0 5 4).put BOOT.STATUS_HOLD 0 4).put RSTX.HELD 0 1).put FLT.STATUS_FAULT_N 0 1))
  ∧ (∀ (s : State), s.get BOOT.STATUS_HOLD = 4 → exec (.thermalHoldEnd) s = .next ((s.put BOOT.STATUS_HOLD 0 0).put RSTX.HELD 0 0))
  ∧ (∀ (s : State), s.get BOOT.STATUS_HOLD ≠ 4 → exec (.thermalHoldEnd) s = .next (s))
  ∧ (∀ (s : State), exec (.stewardWdogExpire) s = .next (s.sourceFault 0x0302 0 5 5))
  ∧ (∀ (r : Req) (s : State), s.reachWord r (RST.CMD.addr 0) 4 = 0 → exec (.rstCmdSystem r) s = .next (s.takeSys 2 7 false))
  ∧ (∀ (r : Req) (s : State), s.reachWord r (RST.CMD.addr 0) 4 = 0 → s.get FLT.STATUS_STATE ≠ 2 → exec (.rstCmdCore r) s = .next (s.takeCore 8))
  ∧ (∀ (r : Req) (s : State), s.reachWord r (RST.CMD.addr 0) 4 = 0 → s.get FLT.STATUS_STATE = 2 → exec (.rstCmdCore r) s = .next (s))
  ∧ (∀ (x : BootIn) (s : State), (s.get RSTX.LEVEL < 2 ∨ s.get RSTX.HELD ≠ 0 ∨ s.get RSTX.STOPPED ≠ 0 ∨ s.get BOOTX.RECOV ≠ 0) → exec (.resetRelease x) s = .next (s))
  ∧ (∀ (x : BootIn) (s : State), 2 ≤ s.get RSTX.LEVEL → s.get RSTX.HELD = 0 → s.get RSTX.STOPPED = 0 → s.get BOOTX.RECOV = 0 → exec (.resetRelease x) s = .next ((let u := (let u := if s.get RSTX.LEVEL = 3 ∧ s.get OTP.LIFE = 0 then s.mramZero else s; let q := u.scpQ; let u := ({ u with scpQ := [] } : State).scpScan; let u := u.record 2 (if s.get RSTX.LEVEL = 3 then 0 else 1) 0 0 none 0 0 [(0, le 2 (u.get RST.RST_CAUSE)), (2, [u.get RST.LAST_RESTARTS])]; let u := ({ u with scpQ := u.scpQ ++ q } : State).put SCP.QUEUE 0 (u.scpQ.length + q.length); ((u.put BOOT.STATUS_BOOT_SEL 0 x.sel).put FLT.STATUS_FAULT_N 0 1).otpRead x.marginal); if u.get RSTX.HELD ≠ 0 then u else (let o := u.bootOrder x.sel; let w := o.2.put BOOT.TRIES 0 (o.2.bootField 10); let stop : State := (((w.put BOOT.STATUS_HOLD 0 3).put BOOTX.RECOV 0 1).put FLT.STATUS_FAULT_N 0 1).linksStart (x.links.take 1); match o.1.find? fun n => w.bootImageOk (imageAt w.mem.flash (slotAt n)) with | none => stop | some n => if w.bootRec.isNone then stop else ((w.put BOOT.STATUS_SLOT 0 n).put BOOT.STATUS_TRIAL 0 (if w.bootField 9 = n + 1 then 1 else 0)).bootRun x (imageAt w.mem.flash (slotAt n))))))
  ∧ (∀ (p l a d q : Nat) (s : State), s.get RSTX.LEVEL = 1 → exec (.coreReset true true p l a d q) s = .next ((let frames := fun h : Nat => (s.rxQ.filter (·.hedge == h)).length; let events := fun h : Nat => s.evHeld h; let u := (s.backlogCore.programsHalt p).lanesCore.chainsCore.trafficCore.fwdCore.enginesCore.mapsRestart; let u := ((u.calLoad false).unitsReturn l a d q).groupResume; let u := (u.each (List.range 8) fun u h => u.put TUN.NONCE h (u.get TUN.CEIL h)).runtimeStart; let u := u.put THK.STATUS_REVAL_ACTIVE 0 1; let u := (u.each u.usedEntries fun u e => u.put NODE.UNVAL e 1).hostCore frames events; let u := u.each (List.range 8) fun u h => (let w := u.programCore p h; if w.get HOSTH.STATUS_IN_RESET h ≠ 0 then (w.put HST.RUN_END h 1).put HST.RUN_OP h 0 else w); let u := if u.get TWINX.TOLD ≠ 0 then (u.roleTold (u.get TWINX.TOLD - 1)).put TWINX.TOLD 0 0 else u; u.hello.ready)))
  ∧ (∀ (x y : Bool) (p l a d q : Nat) (s : State), s.get RSTX.LEVEL = 1 → (x = false ∨ y = false) → exec (.coreReset x y p l a d q) s = .next ((let t := s.act (s.escalate 5) none false; if t.get RSTX.LEVEL = 1 then t.ready else t)))
  ∧ (∀ (x y : Bool) (p l a d q : Nat) (s : State), s.get RSTX.LEVEL ≠ 1 → exec (.coreReset x y p l a d q) s = .next (s))

/-- Boot flash, images and the calibration store: CONFIRM on trial writes the slot as ACTIVE with nothing pending, raises MIN_SVN to the running version where the image locks it and it was lower, and ends the trial; off trial it is ignored. RECOV.GO in recovery takes the image of RECOV_LEN octets in the window, runs it where it passes, with the recovery and hold states set so, and holds with NO_IMAGE where it does not; elsewhere it does nothing. BOOT_IMAGE_WRITE is ACCESS_DENIED on trial, BAD_DESCRIPTOR with a slot it may not name or a length of 0 or beyond 16 MiB, and else takes a pending mark off the slot it writes, erases that slot, takes the image and starts the write. Its end programs the slot and completes IMAGE_MISMATCH where the slot read back does not pass; where it passes a part without a record gets one, ACTIVATE makes the slot pending with three tries, and it completes DONE; with no write in progress it does nothing. CAL_EXPORT answers the page of 256 KiB. CAL_RESTORE with a chain or port enabled is ACCESS_DENIED; a mask beyond the eight fields, a page out of order, a named field that is bad or another part's page without the leave for it is BAD_DESCRIPTOR; else the named fields are stored, the store loaded and the mute cause judged, and it completes DONE. A tuner save stores field 3 with the working codes of the ports named and the old ones of the others, raises SAVED and marks the field valid and no factory value; with no port named it does nothing. The rules it rests on: R490, R491, R493, R495, R496, R497, R498, R499, R509, R511, R512, R517. -/
def Obligations.BootAndImages : Prop :=
  (∀ (r : Req) (s : State), s.reachWord r (BOOT.CTL_CONFIRM.addr 0) 4 = 0 → s.get BOOT.STATUS_TRIAL = 0 → exec (.bootConfirm r) s = .next (s))
  ∧ (∀ (r : Req) (s : State), s.reachWord r (BOOT.CTL_CONFIRM.addr 0) 4 = 0 → s.get BOOT.STATUS_TRIAL ≠ 0 → exec (.bootConfirm r) s = .next ((let u := if (s.bootPut [(8, [s.get BOOT.STATUS_SLOT, 0, 0])]).get BOOTX.LOCK ≠ 0 ∧ (s.bootPut [(8, [s.get BOOT.STATUS_SLOT, 0, 0])]).minSvn < (s.bootPut [(8, [s.get BOOT.STATUS_SLOT, 0, 0])]).get BOOT.SVN_RUNNING then ((s.bootPut [(8, [s.get BOOT.STATUS_SLOT, 0, 0])]).put OTP.MIN_SVN 0 (2 ^ (s.bootPut [(8, [s.get BOOT.STATUS_SLOT, 0, 0])]).get BOOT.SVN_RUNNING - 1)).put BOOT.SVN_MIN 0 ((s.bootPut [(8, [s.get BOOT.STATUS_SLOT, 0, 0])]).get BOOT.SVN_RUNNING) else (s.bootPut [(8, [s.get BOOT.STATUS_SLOT, 0, 0])]); let u := u.put BOOT.STATUS_TRIAL 0 0; u.put BOOT.TRIES 0 (u.bootField 10))))
  ∧ (∀ (r : Req) (x : BootIn) (s : State), s.reachWord r (BOOT.RECOV_GO.addr 0) 4 = 0 → s.get BOOTX.RECOV = 0 → exec (.recovGo r x) s = .next (s))
  ∧ (∀ (r : Req) (x : BootIn) (s : State), s.reachWord r (BOOT.RECOV_GO.addr 0) 4 = 0 → s.get BOOTX.RECOV ≠ 0 → exec (.recovGo r x) s = .next ((let m := if s.get BOOT.RECOV_LEN ≤ 0x1000000 then memReadL s.mem.sram 0 (s.get BOOT.RECOV_LEN) else []; if s.bootImageOk m then ((((s.put BOOT.STATUS_RECOVERY 0 1).put BOOT.STATUS_HOLD 0 0).put BOOTX.RECOV 0 0).bootRun x m) else s.put BOOT.STATUS_HOLD 0 3)))
  ∧ (∀ (c : Cmd) (addr len : Nat) (act : Bool) (slot : Nat) (s : State), s.get BOOT.STATUS_TRIAL ≠ 0 → exec (.bootImageWrite c addr len act slot) s = .next (s.finish c 0x75 0x13))
  ∧ (∀ (c : Cmd) (addr len : Nat) (act : Bool) (slot : Nat) (s : State), s.get BOOT.STATUS_TRIAL = 0 → (1 < slot ∨ (s.get BOOT.STATUS_RECOVERY = 0 ∧ slot ≠ 0) ∨ len = 0 ∨ 0x1000000 < len) → exec (.bootImageWrite c addr len act slot) s = .next (s.finish c 0x75 0x12))
  ∧ (∀ (c : Cmd) (addr len : Nat) (act : Bool) (slot : Nat) (s : State), s.get BOOT.STATUS_TRIAL = 0 → (slot = 0 ∨ (slot = 1 ∧ s.get BOOT.STATUS_RECOVERY ≠ 0)) → 1 ≤ len → len ≤ 0x1000000 → exec (.bootImageWrite c addr len act slot) s = .next ((let u := match s.bootRec with | some (_, l) => (if oct l 9 1 = (if s.get BOOT.STATUS_RECOVERY ≠ 0 then slot else 1 - s.get BOOT.STATUS_SLOT) + 1 then s.bootPut [(9, [0, 0])] else s) | none => s; let u : State := { u with mem.flash := memZero u.mem.flash (slotAt (if s.get BOOT.STATUS_RECOVERY ≠ 0 then slot else 1 - s.get BOOT.STATUS_SLOT)) (slotAt (if s.get BOOT.STATUS_RECOVERY ≠ 0 then slot else 1 - s.get BOOT.STATUS_SLOT) + 0x1000000), flashBuf := s.hostRead c.ring addr len }; let u := (((u.put BOOT.TRIES 0 (u.bootField 10)).put BOOTX.WON 0 1).put BOOTX.WTAG 0 c.tag).put BOOTX.WINDEX 0 c.index; ((u.put BOOTX.WSLOT 0 (if s.get BOOT.STATUS_RECOVERY ≠ 0 then slot else 1 - s.get BOOT.STATUS_SLOT)).put BOOTX.WACT 0 (if act then 1 else 0)).served c)))
  ∧ (∀ (s : State), s.get BOOTX.WON = 0 → exec (.bootFlashWriteDone) s = .next (s))
  ∧ (∀ (s : State), s.get BOOTX.WON ≠ 0 → exec (.bootFlashWriteDone) s = .next (if (({ s with mem.flash := memWriteL s.mem.flash (slotAt (s.get BOOTX.WSLOT)) s.flashBuf, flashBuf := [] } : State).put BOOTX.WON 0 0).bootImageOk (imageAt (({ s with mem.flash := memWriteL s.mem.flash (slotAt (s.get BOOTX.WSLOT)) s.flashBuf, flashBuf := [] } : State).put BOOTX.WON 0 0).mem.flash (slotAt (s.get BOOTX.WSLOT))) then (let u := if (({ s with mem.flash := memWriteL s.mem.flash (slotAt (s.get BOOTX.WSLOT)) s.flashBuf, flashBuf := [] } : State).put BOOTX.WON 0 0).bootRec.isNone then (({ s with mem.flash := memWriteL s.mem.flash (slotAt (s.get BOOTX.WSLOT)) s.flashBuf, flashBuf := [] } : State).put BOOTX.WON 0 0).bootPut [(8, [s.get BOOTX.WSLOT])] else (({ s with mem.flash := memWriteL s.mem.flash (slotAt (s.get BOOTX.WSLOT)) s.flashBuf, flashBuf := [] } : State).put BOOTX.WON 0 0); let u := if u.get BOOTX.WACT ≠ 0 then u.bootPut [(9, [s.get BOOTX.WSLOT + 1, 3])] else u; (u.put BOOT.TRIES 0 (u.bootField 10)).finish (⟨8, s.get BOOTX.WTAG, s.get BOOTX.WINDEX, false⟩ : Cmd) 0x75 0) else (({ s with mem.flash := memWriteL s.mem.flash (slotAt (s.get BOOTX.WSLOT)) s.flashBuf, flashBuf := [] } : State).put BOOTX.WON 0 0).finish (⟨8, s.get BOOTX.WTAG, s.get BOOTX.WINDEX, false⟩ : Cmd) 0x75 0x0D))
  ∧ (∀ (c : Cmd) (addr : Nat) (s : State), exec (.calExport c addr) s = .next (s.answer c 0x73 addr (s.calRead 0 0x40000)))
  ∧ (∀ (c : Cmd) (addr mask : Nat) (foreign : Bool) (s : State), s.calRest = false → exec (.calRestore c addr mask foreign) s = .next (s.finish c 0x74 0x13))
  ∧ (∀ (c : Cmd) (addr mask : Nat) (foreign : Bool) (s : State), s.calRest = true → (256 ≤ mask ∨ calHeadOk (fun o n : Nat => s.hostRead c.ring (addr + o) n) = false ∨ (((List.range 8).filter (bit mask)).any fun id => (calGood (fun o n : Nat => s.hostRead c.ring (addr + o) n) id).isNone) = true ∨ (foreign = false ∧ oct (s.hostRead c.ring (addr + 8) 8) 0 8 ≠ s.get SYS.EUI64)) → exec (.calRestore c addr mask foreign) s = .next (s.finish c 0x74 0x12))
  ∧ (∀ (c : Cmd) (addr mask : Nat) (foreign : Bool) (s : State), s.calRest = true → mask < 256 → (calHeadOk (fun o n : Nat => s.hostRead c.ring (addr + o) n) = true) → ((((List.range 8).filter (bit mask)).any fun id => (calGood (fun o n : Nat => s.hostRead c.ring (addr + o) n) id).isNone) = false) → (foreign = true ∨ oct (s.hostRead c.ring (addr + 8) 8) 0 8 = s.get SYS.EUI64) → exec (.calRestore c addr mask foreign) s = .next ((let u := s.each ((List.range 8).filter (bit mask)) fun u id => match calGood (fun o n : Nat => s.hostRead c.ring (addr + o) n) id with | some (e, l) => u.calStore id l (bit (oct e 1 1) 1) | none => u; ((u.calLoad true).calMute).finish c 0x74 0)))
  ∧ (∀ (r : Req) (ports : Nat) (s : State), s.reachWord r (CAL.CMD_SAVE_TUNER.addr 0) 4 = 0 → ports % 16 = 0 → exec (.calSaveTuner r ports) s = .next (s))
  ∧ (∀ (r : Req) (ports : Nat) (s : State), s.reachWord r (CAL.CMD_SAVE_TUNER.addr 0) 4 = 0 → ports % 16 ≠ 0 → exec (.calSaveTuner r ports) s = .next ((let u := (s.calStore 3 ([0, 1, 2, 3].flatMap fun p => if bit ports p then (List.range 640).flatMap fun k => le 2 (s.get TUNE.CODE (1024 * p + k)) else ((s.calRead 0x12400 0x1400).drop (1280 * p)).take 1280) false).put CAL.EVENT_SAVED 0 1; (u.put CAL.STATUS_VALID 0 (Nat.lor (u.get CAL.STATUS_VALID) 8)).put CAL.STATUS_FACTORY 0 (u.get CAL.STATUS_FACTORY - if bit (u.get CAL.STATUS_FACTORY) 3 then 8 else 0))))

/-- The calendar, its triggers and the backup domain: A second, unless HALT is 1, puts the next time (after 2399 that of 2000, with OSC_STOPPED and RANGE_WRAP set), sets the event of each alarm that matches and with PWRON the output, and lets each enabled trigger due at that time fire. OSC_STOP_DETECT sets OSC_STOPPED and OSC_FAIL. A read of a time register freezes its view with all eight octets where it is not frozen, answers from that shadow, and with CENTURY thaws it; a time-out thaws it. A write of CTL takes AUTO_SET; HALT set halts and keeps the time then, HALT cleared while halted sets: an invalid time sets BAD_SET and stays halted, AUTO_SET as it was; a valid one puts its weekday, clears OSC_STOPPED, counts again, and a step forward skips each enabled trigger due in between. A privileged write of a time register while halted takes effect, but for WDAY; while not halted it sets BAD_SET. The automatic set, with AUTO_SET, LOCKED and no HALT, sets the calendar to UTC with a record where it differs or was stopped, and does nothing else. PWRON_LEVEL drives its ball. CAL_TRIG_SET of a free or own trigger, with the calendar set, in form and with an occurrence to come, takes it with its first due time; beyond 15, out of form or with none to come it is BAD_DESCRIPTOR, another's or with the calendar stopped ACCESS_DENIED. CAL_TRIG_CLR of a free or own one clears and frees it; of another's it is ACCESS_DENIED, beyond 15 BAD_DESCRIPTOR. A PENDING occurrence is posted once, when READY and with place in the backlog; missed occurrences not yet posted are posted in order, four to an event, so too. A backup reset returns the backup domain's fields to their reset values and leaves all else; a switch to VBAT makes PENDING occurrences missed and those to come until the switch back; crossing the VBAT threshold sets its state and, downwards, its event. The rules it rests on: R518, R519, R520, R521, R522, R523, R525, R526, R527, R528, R529, R530. -/
def Obligations.CalendarAndTriggers : Prop :=
  (∀ (s : State), s.get RTC.CTL_HALT ≠ 0 → exec (.rtcSecond) s = .next (s))
  ∧ (∀ (s : State), s.get RTC.CTL_HALT = 0 → exec (.rtcSecond) s = .next ((let u := s.calPut (calOf (if (s.calSeconds + 1 = secondsOf 2400 1 1 0) then secondsOf 2000 1 1 0 else s.calSeconds + 1)); let u := if (s.calSeconds + 1 = secondsOf 2400 1 1 0) then (u.put RTC.STATUS_OSC_STOPPED 0 1).put RTC.EVENT_RANGE_WRAP 0 1 else u; let u := u.each [0, 1] fun u n => if u.alarmMatches n (calOf (if (s.calSeconds + 1 = secondsOf 2400 1 1 0) then secondsOf 2000 1 1 0 else s.calSeconds + 1)) then (let w := u.put (if n = 0 then RTC.EVENT_ALARM0 else RTC.EVENT_ALARM1) 0 1; if w.get RTC.ALM_CTL_PWRON n ≠ 0 then (w.put RTC.PWRON_LEVEL 0 1).put PIN.PWRON_CTL 0 1 else w) else u; u.each (List.range 16) fun u n => if u.get RTC.CTRIG_CTL_EN n ≠ 0 ∧ calSecondsOf (u.trigDue n) = calSecondsOf (calOf (if (s.calSeconds + 1 = secondsOf 2400 1 1 0) then secondsOf 2000 1 1 0 else s.calSeconds + 1)) then u.trigFire n else u)))
  ∧ (∀ (s : State), exec (.oscStopDetect) s = .next ((s.put RTC.STATUS_OSC_STOPPED 0 1).put RTC.EVENT_OSC_FAIL 0 1))
  ∧ (∀ (r : Req) (k : Nat) (s : State), k < 8 → s.reachWord r (RTC.SEC.addr 0 + 4 * k) 4 = 0 → exec (.rtcTimeRead r k) s = .next ((let n := viewOf r; let u := if s.get RTC.STATUS_FROZEN n = 0 then (s.each (List.range 8) fun u i => u.put RTCX.SHADOW (8 * n + i) (s.calOctets.getD i 0)).put RTC.STATUS_FROZEN n 1 else s; let u := (u.put MODEL.DATA 0 (u.get RTCX.SHADOW (8 * n + k))).put MODEL.RESP 0 0; if k = 7 then u.put RTC.STATUS_FROZEN n 0 else u)))
  ∧ (∀ (r : Req) (s : State), exec (.rtcThawTimeout r) s = .next (s.put RTC.STATUS_FROZEN (viewOf r) 0))
  ∧ (∀ (r : Req) (v : Nat) (s : State), s.reachWord r (RTC.CTL_HALT.addr 0) 4 = 0 → bit v 0 = true → exec (.rtcHaltWrite r v) s = .next ((let u := if s.get RTC.CTL_HALT ≠ 0 then s else (s.put RTC.CTL_HALT 0 1).put RTCX.OLD 0 (leVal s.calOctets); u.put RTC.CTL_AUTO_SET 0 (bits v 1 1))))
  ∧ (∀ (r : Req) (v : Nat) (s : State), s.reachWord r (RTC.CTL_HALT.addr 0) 4 = 0 → bit v 0 = false → s.get RTC.CTL_HALT ≠ 0 → exec (.rtcHaltWrite r v) s = .next ((let u := s; let t := (let l := u.calOctets; if calValid l = false then u.put RTC.EVENT_BAD_SET 0 1 else (let old := calSecondsOf (le 8 (u.get RTCX.OLD)); let new := calSecondsOf l; let w := ((u.calPut (calOf new)).put RTC.STATUS_OSC_STOPPED 0 0).put RTC.CTL_HALT 0 0; if new ≤ old then w else w.each (List.range 16) fun w n => if w.get RTC.CTRIG_CTL_EN n ≠ 0 ∧ old < calSecondsOf (w.trigDue n) ∧ calSecondsOf (w.trigDue n) ≤ new then w.trigSkip n new 255 else w)); if t.get RTC.CTL_HALT ≠ 0 then t else t.put RTC.CTL_AUTO_SET 0 (bits v 1 1))))
  ∧ (∀ (r : Req) (v : Nat) (s : State), s.reachWord r (RTC.CTL_HALT.addr 0) 4 = 0 → bit v 0 = false → s.get RTC.CTL_HALT = 0 → exec (.rtcHaltWrite r v) s = .next (s.put RTC.CTL_AUTO_SET 0 (bits v 1 1)))
  ∧ (∀ (r : Req) (k v : Nat) (s : State), s.reachWord r (RTC.SEC.addr 0 + 4 * k) 4 = 0 → viewOf r = 0 → s.get RTC.CTL_HALT = 0 → k < 8 → exec (.rtcTimeWrite r k v) s = .next (s.put RTC.EVENT_BAD_SET 0 1))
  ∧ (∀ (r : Req) (k v : Nat) (s : State), s.reachWord r (RTC.SEC.addr 0 + 4 * k) 4 = 0 → viewOf r = 0 → s.get RTC.CTL_HALT ≠ 0 → k < 8 → k ≠ 3 → exec (.rtcTimeWrite r k v) s = .next (s.put ([RTC.SEC, RTC.MIN, RTC.HOUR, RTC.WDAY, RTC.DATE, RTC.MONTH, RTC.YEAR, RTC.CENTURY].getD k RTC.SEC) 0 v))
  ∧ (∀ (r : Req) (v : Nat) (s : State), s.reachWord r (RTC.SEC.addr 0 + 4 * 3) 4 = 0 → viewOf r = 0 → s.get RTC.CTL_HALT ≠ 0 → exec (.rtcTimeWrite r 3 v) s = .next (s))
  ∧ (∀ (s : State), (s.get RTC.CTL_AUTO_SET = 0 ∨ s.get TIME.SRC_STATUS_STATE ≠ 3 ∨ s.get RTC.CTL_HALT ≠ 0 ∨ (s.calSeconds = (((s.get CLK.SEC : Int) - s.getI TIME.UTC_OFFSET).toNat + dayNumber 1970 1 1 * 86400) ∧ s.get RTC.STATUS_OSC_STOPPED = 0)) → exec (.rtcAutoSet) s = .next (s))
  ∧ (∀ (s : State), s.get RTC.CTL_AUTO_SET ≠ 0 → s.get TIME.SRC_STATUS_STATE = 3 → s.get RTC.CTL_HALT = 0 → (s.calSeconds ≠ (((s.get CLK.SEC : Int) - s.getI TIME.UTC_OFFSET).toNat + dayNumber 1970 1 1 * 86400) ∨ s.get RTC.STATUS_OSC_STOPPED ≠ 0) → exec (.rtcAutoSet) s = .next ((let u := ((s.put RTC.CTL_HALT 0 1).put RTCX.OLD 0 (leVal s.calOctets)).calPut (calOf (((s.get CLK.SEC : Int) - s.getI TIME.UTC_OFFSET).toNat + dayNumber 1970 1 1 * 86400)); ((let l := u.calOctets; if calValid l = false then u.put RTC.EVENT_BAD_SET 0 1 else (let old := calSecondsOf (le 8 (u.get RTCX.OLD)); let new := calSecondsOf l; let w := ((u.calPut (calOf new)).put RTC.STATUS_OSC_STOPPED 0 0).put RTC.CTL_HALT 0 0; if new ≤ old then w else w.each (List.range 16) fun w n => if w.get RTC.CTRIG_CTL_EN n ≠ 0 ∧ old < calSecondsOf (w.trigDue n) ∧ calSecondsOf (w.trigDue n) ≤ new then w.trigSkip n new 255 else w))).record 3 2 0 0 none 0 0 [(0, s.calOctets)])))
  ∧ (∀ (r : Req) (v : Nat) (s : State), s.reachWord r (RTC.PWRON_LEVEL.addr 0) 4 = 0 → exec (.pwronLevelWrite r v) s = .next ((s.put RTC.PWRON_LEVEL 0 v).put PIN.PWRON_CTL 0 v))
  ∧ (∀ (c : Cmd) (n rep : Nat) (due : List Nat) (s : State), n < 16 → (s.get RTC.CTRIG_CTL_OWNER n = 15 ∨ s.get RTC.CTRIG_CTL_OWNER n = c.ring) → s.get RTC.STATUS_OSC_STOPPED = 0 → (calValid due = true ∧ due.getD 3 0 = 0 ∧ (rep ≤ 4 ∨ (0x81 ≤ rep ∧ rep ≤ 0xBC))) → (if s.calSeconds < calSecondsOf due then some (calSecondsOf due) else nextDue rep (calSecondsOf due) s.calSeconds).isSome = true → exec (.calTrigSet c n rep due) s = .next ((let t := (if s.calSeconds < calSecondsOf due then some (calSecondsOf due) else nextDue rep (calSecondsOf due) s.calSeconds).getD 0; ((((((s.put RTC.CTRIG_CTL_OWNER n c.ring).put RTC.CTRIG_CTL_REPEAT n rep).put RTC.CTRIG_CTL_EN n 1).put RTC.CTRIG_DUE_LO n (oct (calOf t) 0 4)).put RTC.CTRIG_DUE_HI n (oct (calOf t) 4 4)).finish c 0x4F 0))))
  ∧ (∀ (c : Cmd) (n rep : Nat) (due : List Nat) (s : State), n < 16 → ((s.get RTC.CTRIG_CTL_OWNER n ≠ 15 ∧ s.get RTC.CTRIG_CTL_OWNER n ≠ c.ring) ∨ s.get RTC.STATUS_OSC_STOPPED ≠ 0) → exec (.calTrigSet c n rep due) s = .next (s.finish c 0x4F 0x13))
  ∧ (∀ (c : Cmd) (n rep : Nat) (due : List Nat) (s : State), n < 16 → (s.get RTC.CTRIG_CTL_OWNER n = 15 ∨ s.get RTC.CTRIG_CTL_OWNER n = c.ring) → s.get RTC.STATUS_OSC_STOPPED = 0 → (¬ (calValid due = true ∧ due.getD 3 0 = 0 ∧ (rep ≤ 4 ∨ (0x81 ≤ rep ∧ rep ≤ 0xBC))) ∨ (if s.calSeconds < calSecondsOf due then some (calSecondsOf due) else nextDue rep (calSecondsOf due) s.calSeconds) = none) → exec (.calTrigSet c n rep due) s = .next (s.finish c 0x4F 0x12))
  ∧ (∀ (c : Cmd) (n rep : Nat) (due : List Nat) (s : State), 16 ≤ n → exec (.calTrigSet c n rep due) s = .next (s.finish c 0x4F 0x12))
  ∧ (∀ (c : Cmd) (n : Nat) (s : State), n < 16 → (s.get RTC.CTRIG_CTL_OWNER n = 15 ∨ s.get RTC.CTRIG_CTL_OWNER n = c.ring) → exec (.calTrigClr c n) s = .next ((((s.each [RTC.CTRIG_CTL_EN, RTC.CTRIG_CTL_PENDING, RTC.CTRIG_CTL_REPEAT, RTC.CTRIG_DUE_LO, RTC.CTRIG_DUE_HI, RTC.CTRIG_MISS_FIRST_LO, RTC.CTRIG_MISS_FIRST_HI, RTC.CTRIG_MISS_CNT, CTX.POSTED, CTX.MPOST] fun u F => u.put F n 0).put RTC.CTRIG_CTL_OWNER n 15).finish c 0x50 0)))
  ∧ (∀ (c : Cmd) (n : Nat) (s : State), n < 16 → s.get RTC.CTRIG_CTL_OWNER n ≠ c.ring → s.get RTC.CTRIG_CTL_OWNER n ≠ 15 → exec (.calTrigClr c n) s = .next (s.finish c 0x50 0x13))
  ∧ (∀ (c : Cmd) (n : Nat) (s : State), 16 ≤ n → exec (.calTrigClr c n) s = .next (s.finish c 0x50 0x12))
  ∧ (∀ (n : Nat) (s : State), n < 16 → s.get RTC.CTRIG_CTL_PENDING n ≠ 0 → s.get CTX.POSTED n = 0 → s.get BOOT.STATUS_READY ≠ 0 → s.evHeld (s.get RTC.CTRIG_CTL_OWNER n) < 1024 → exec (.triggerEventPost n) s = .next (((s.put CTX.POSTED n 1).put CTX.SEQ n (s.get HST.EV_SEQ (s.get RTC.CTRIG_CTL_OWNER n))).event (s.get RTC.CTRIG_CTL_OWNER n) 0x0E [(16, [0x40 + n]), (17, [2])]))
  ∧ (∀ (n : Nat) (s : State), (s.get CTX.POSTED n ≠ 0 ∨ s.get RTC.CTRIG_CTL_PENDING n = 0 ∨ s.get BOOT.STATUS_READY = 0 ∨ 1024 ≤ s.evHeld (s.get RTC.CTRIG_CTL_OWNER n)) → exec (.triggerEventPost n) s = .next (s))
  ∧ (∀ (h : Nat) (s : State), (s.missedOf h = [] ∨ s.get BOOT.STATUS_READY = 0 ∨ 1020 < s.evHeld h) → exec (.missedTriggersPost h) s = .next (s))
  ∧ (∀ (h : Nat) (s : State), h < 8 → s.missedOf h ≠ [] → s.get BOOT.STATUS_READY ≠ 0 → s.evHeld h ≤ 1020 → exec (.missedTriggersPost h) s = .next (s.each [0, 4, 8, 12] fun u k => if k < (s.missedOf h).length then (let ns := ((s.missedOf h).drop k).take 4; let w := u.each ns fun w n => (w.put CTX.MPOST n 1).put CTX.MSEQ n (w.get HST.EV_SEQ h); w.event h 0x10 [(16, [(s.missedOf h).length]), (17, [k]), (18, [ns.length]), (20, ns.flatMap fun n => [n, 0] ++ le 4 (w.get RTC.CTRIG_MISS_FIRST_LO n) ++ le 4 (w.get RTC.CTRIG_MISS_FIRST_HI n))]) else u))
  ∧ (∀ (s : State), exec (.backupReset) s = .next (({ s with cells := s.cells.filter fun c => !backupBlock c.1.1 && !isOf [PADS.TAMPER_STATE, PADS.TAMPER_EVENT, PADS.CTL_TAMPER_EN, PADS.TAMPER_TIME_LO, PADS.TAMPER_TIME_HI, PADX.DUE, RTCX.SHADOW, RTCX.OLD, CTX.POSTED, CTX.MPOST, CTX.PEND_LO, CTX.PEND_HI, PIN.PWRON_CTL] c.1.1 } : State)))
  ∧ (∀ (s : State), exec (.backupSupplySwitch true) s = .next (s.pendMissed.put RTCX.OFF 0 1))
  ∧ (∀ (s : State), exec (.backupSupplySwitch false) s = .next (s.put RTCX.OFF 0 0))
  ∧ (∀ (s : State), s.get RTC.STATUS_VBAT_LOW = 0 → exec (.vbatLowDetect true) s = .next ((s.put RTC.STATUS_VBAT_LOW 0 1).put RTC.EVENT_VBAT_LOW 0 1))
  ∧ (∀ (s : State), s.get RTC.STATUS_VBAT_LOW ≠ 0 → exec (.vbatLowDetect false) s = .next (s.put RTC.STATUS_VBAT_LOW 0 0))
  ∧ (∀ (low : Bool) (s : State), (if s.get RTC.STATUS_VBAT_LOW ≠ 0 then true else false) = low → exec (.vbatLowDetect low) s = .next (s))

/-- Clocks, memories and units that fail: Loss of the reference clock, a PLL out of lock, clocks that differ, the Steward's lockstep and an uncorrectable error of its memory are the faults 0x0101, 0x0102 (both stop the part), 0x0103, 0x0301 and 0x0303; a restored reference clock ends the stop. An uncorrectable error traps the ready engine thread that read it and does nothing to another; in chip SRAM it is a fault of the Hedge whose grant or FIFO holds it, else of the part; in DRAM it is counted, the fourth on a channel within 1 ms loses the channel, and before that the entry it lies in is freed with a fault, or the blocks read as zeros with a fault of the Hedge's grant, the Steward or the Runtime that holds them. A corrected error is counted where a counter exists and is a masked fault. A scrub acts so on each error it finds, in DRAM only in granules that were written. Two failed probes in a row of a trained channel lose it; a good one clears its mark. A failed engine self-test of an engine is fault 0x0402; a failed check takes a receive port (0x0901), an enabled lane (0x0903), or a decoder (0x0A01) out of service with its fault, and none that passes or is out already changes anything. A synthesiser of the receive side that loses lock counts it and, while its port receives, is fault 0x0902 that takes the port out. A security core that fails its test is fault 0x0D02, with a core reset's class where it is the last, an AES core leaving service; one that passes, or an AES core that is out, changes nothing. The rules it rests on: R141, R165, R196, R387, R500, R503, R504, R534, R536, R541. -/
def Obligations.FaultDetection : Prop :=
  (∀ (s : State), exec (.refclkLoss) s = .next (s.fault 0x0101 0 7))
  ∧ (∀ (s : State), exec (.pllUnlock) s = .next (s.fault 0x0102 0 7))
  ∧ (∀ (s : State), exec (.refclkRestored) s = .next (s.put RSTX.STOPPED 0 0))
  ∧ (∀ (s : State), exec (.clockDupMismatch) s = .next (s.fault 0x0103 0 5))
  ∧ (∀ (s : State), exec (.stewardLockstepMismatch) s = .next (s.fault 0x0301 0 5))
  ∧ (∀ (s : State), exec (.memoryEccError .steward false) s = .next (s.fault 0x0303 0 5))
  ∧ (∀ (s : State), exec (.memoryEccError .steward true) s = .next (s.fault 0x0300 0 0))
  ∧ (∀ (g ea : Nat) (s : State), g < 512 → s.threadState g = 1 → exec (.memoryEccError (.engine g ea) false) s = .next (s.trap g 0x08 ea))
  ∧ (∀ (g ea : Nat) (s : State), s.threadState g ≠ 1 → exec (.memoryEccError (.engine g ea) false) s = .next (s))
  ∧ (∀ (g ea : Nat) (s : State), exec (.memoryEccError (.engine g ea) true) s = .next ((s.bump ENGE.ECC_CORR (g / 4)).fault 0x0400 (g / 4) 0 none ea))
  ∧ (∀ (off : Nat) (s : State), exec (.memoryEccError (.sram off) true) s = .next (s.fault 0x0500 0 0 none off))
  ∧ (∀ (off : Nat) (s : State), exec (.memoryEccError (.sram off) false) s = .next ((let fifo := (List.range 2048).find? fun f => 76 ≤ f && (decide (s.get FIFO.CFG_EN f ≠ 0)) && decide (s.get FIFO.CFG_OWNER f < 8) && decide (s.get FIFO.BASE f ≤ off) && decide (off < s.get FIFO.BASE f + s.fifoEsize f * s.get FIFO.DEPTH f); match (List.range 8).find? fun h => s.inSramGrant h off, fifo with | some h, _ => s.fault 0x0502 0 3 (some h) off | none, some f => s.fault 0x0502 f 3 (some (s.get FIFO.CFG_OWNER f)) off | none, none => s.fault 0x0501 0 4 none off)))
  ∧ (∀ (a n : Nat) (s : State), exec (.memoryEccError (.dram a n) true) s = .next ((s.bump DDR.CH_ECC_CORR (a / 4096 % 2) n).fault 0x0700 (a / 4096 % 2) 0 none a))
  ∧ (∀ (a n : Nat) (s : State), exec (.memoryEccError (.dram a n) false) s = .next ((let c := a / 4096 % 2; let had := s.recentErrs c; let u := s.bump DDR.CH_ECC_UNCORR c n; if 4 ≤ had + n then ((u.put DDR.CH_STATUS_LOST c 1).put DDR.CH_STATUS_TRAINED c 0).fault 0x0702 c 6 none a 4 [(0, [1])] else (let u := u.each (List.range n) fun u _ => u.noteErr c; match u.entryAt a with | some e => (let w := u.fault 0x0701 0 1 none a; if w.get E.STATE e = stFree then w else w.freeEntry e fCheck) | none => (let w : State := { u with mem.dram := memZero u.mem.dram (a / 32 * 32) (a / 32 * 32 + 32 * n) }; match (List.range 8).find? fun h => w.inDramGrant h a with | some h => w.fault 0x0703 0 3 (some h) a | none => w.fault 0x0703 0 (if w.get DDR.STEWARD_BASE ≤ a then 5 else 4) none a)))))
  ∧ (∀ (l : List (Nat × Bool)) (s : State), exec (.sramScrub l) s = .next (s.each l fun u x => if x.2 then u.sramBad x.1 else u.fault 0x0500 0 0 none x.1))
  ∧ (∀ (off : Nat) (s : State), exec (.sramScrub [(off, true)]) s = .next ((let fifo := (List.range 2048).find? fun f => 76 ≤ f && (decide (s.get FIFO.CFG_EN f ≠ 0)) && decide (s.get FIFO.CFG_OWNER f < 8) && decide (s.get FIFO.BASE f ≤ off) && decide (off < s.get FIFO.BASE f + s.fifoEsize f * s.get FIFO.DEPTH f); match (List.range 8).find? fun h => s.inSramGrant h off, fifo with | some h, _ => s.fault 0x0502 0 3 (some h) off | none, some f => s.fault 0x0502 f 3 (some (s.get FIFO.CFG_OWNER f)) off | none, none => s.fault 0x0501 0 4 none off)))
  ∧ (∀ (k : Nat) (l : List (Nat × Bool)) (s : State), s.get DRX.WRITTEN k = 0 → exec (.dramScrub k l) s = .next (s))
  ∧ (∀ (k : Nat) (l : List (Nat × Bool)) (s : State), s.get DRX.WRITTEN k ≠ 0 → exec (.dramScrub k l) s = .next (s.each l fun u x => if x.2 then u.dramBad (4096 * k + x.1 % 4096) 1 else (u.bump DDR.CH_ECC_CORR ((4096 * k + x.1 % 4096) / 4096 % 2) 1).fault 0x0700 ((4096 * k + x.1 % 4096) / 4096 % 2) 0 none (4096 * k + x.1 % 4096)))
  ∧ (∀ (ok0 ok1 : Bool) (s : State), exec (.dramProbe ok0 ok1) s = .next (s.each [(0, ok0), (1, ok1)] fun u x => if x.2 then u.put DRX.PROBE x.1 0 else if u.get DDR.CH_STATUS_TRAINED x.1 = 0 then u else if u.get DRX.PROBE x.1 = 0 then u.put DRX.PROBE x.1 1 else ((u.put DDR.CH_STATUS_LOST x.1 1).put DDR.CH_STATUS_TRAINED x.1 0).fault 0x0702 x.1 6 none 0 2 [(0, [0])]))
  ∧ (∀ (e : Nat) (s : State), e < 128 → exec (.engineBist e false) s = .next (s.fault 0x0402 e 4))
  ∧ (∀ (e : Nat) (s : State), exec (.engineBist e true) s = .next (s))
  ∧ (∀ (p : Nat) (s : State), p < 2 → s.get RXX.PORT_OUT p = 0 → exec (.adcSubconvCheck p false) s = .next ((s.fault 0x0901 p 1).put RXX.PORT_OUT p 1))
  ∧ (∀ (p : Nat) (ok : Bool) (s : State), (ok = true ∨ s.get RXX.PORT_OUT p ≠ 0) → exec (.adcSubconvCheck p ok) s = .next (s))
  ∧ (∀ (n : Nat) (s : State), (n = 4 ∨ n = 5) → (let u := if s.get SY.STATUS_LOCK n ≠ 0 then s.bump SY.LOCK_LOST_CNT n else s; u.put SY.STATUS_LOCK n 0).portOn (n - 2) = true → exec (.rxSynthLockLost n) s = .next (((let u := if s.get SY.STATUS_LOCK n ≠ 0 then s.bump SY.LOCK_LOST_CNT n else s; u.put SY.STATUS_LOCK n 0).fault 0x0902 (n - 2) 1).put RXX.PORT_OUT (n - 2) 1))
  ∧ (∀ (n : Nat) (s : State), (n = 4 ∨ n = 5) → (let u := if s.get SY.STATUS_LOCK n ≠ 0 then s.bump SY.LOCK_LOST_CNT n else s; u.put SY.STATUS_LOCK n 0).portOn (n - 2) = false → exec (.rxSynthLockLost n) s = .next ((let u := if s.get SY.STATUS_LOCK n ≠ 0 then s.bump SY.LOCK_LOST_CNT n else s; u.put SY.STATUS_LOCK n 0)))
  ∧ (∀ (l : Nat) (s : State), l < 48 → s.get LANE.CFG_EN l ≠ 0 → bit (s.get FLT.LANE_OUT) l = false → exec (.laneCheckerSlot l false) s = .next ((let u := s.fault 0x0903 l 1; ((u.put FLT.LANE_OUT 0 (Nat.lor (u.get FLT.LANE_OUT) (2 ^ l))).laneDrop l).lanePending l)))
  ∧ (∀ (l : Nat) (ok : Bool) (s : State), (ok = true ∨ s.get LANE.CFG_EN l = 0 ∨ bit (s.get FLT.LANE_OUT) l = true) → exec (.laneCheckerSlot l ok) s = .next (s))
  ∧ (∀ (k iters : Nat) (s : State), k < 4 → bit (s.get LDX.OUT) k = false → exec (.ldpcKnownTest k iters false) s = .next ((s.fault 0x0A01 k 1).decFault k iters))
  ∧ (∀ (k iters : Nat) (ok : Bool) (s : State), (ok = true ∨ bit (s.get LDX.OUT) k = true) → exec (.ldpcKnownTest k iters ok) s = .next (s))
  ∧ (∀ (kind : CoreKind) (core : Nat) (last : Bool) (s : State), exec (.cryptoKat kind core true last) s = .next (s))
  ∧ (∀ (core : Nat) (last : Bool) (s : State), core < 4 → bit (s.get FLT.AES_OUT) core = false → exec (.cryptoKat .aes core false last) s = .next ((s.put FLT.AES_OUT 0 (Nat.lor (s.get FLT.AES_OUT) (2 ^ core))).fault 0x0D02 core (if (s.put FLT.AES_OUT 0 (Nat.lor (s.get FLT.AES_OUT) (2 ^ core))).get FLT.AES_OUT = 15 then 4 else 1)))
  ∧ (∀ (core : Nat) (last : Bool) (s : State), bit (s.get FLT.AES_OUT) core = true → exec (.cryptoKat .aes core false last) s = .next (s))
  ∧ (∀ (kind : CoreKind) (core : Nat) (last : Bool) (s : State), kind ≠ .aes → exec (.cryptoKat kind core false last) s = .next (s.fault 0x0D02 core (if last then 4 else 1)))

/-- The Scorepad, fault injection and tamper inputs: With a record queued and the Scorepad in service, SCOREPAD_COMMIT writes the oldest under the next key into its slot: where it reads back it leaves the queue and records lost meanwhile are reported; a first failure raises WRITE_FAIL and the record stays; a second in a row takes the Scorepad out with fault 0x1101. With none queued or the Scorepad out nothing happens. Suppressed records are reported in one record, at most once a second and with the Scorepad in service, and else nothing happens. SCOREPAD_READ with a count of 1 to 1,024 answers the committed records in key order from the oldest, or from the key named where that is not lost (else from the oldest, with the gap told), up to the count, with the number, the last key, whether more follow and the torn slots passed; of an empty ring it answers nothing; another count is BAD_DESCRIPTOR. FAULT_INJECT when READY, of a code in the list, takes the unit's own part and is that fault, injected, with the cause bit where it is a source of reset and of no Hedge; else it sets BAD_CFG. A tamper input that is enabled is sampled; a high one whose event is clear latches the event, the time and the record to be raised, at once when READY; a disabled one is not sampled. The rules it rests on: R540, R543, R544, R545, R546, R547, R548, R549, R550, R568. -/
def Obligations.ScorepadAndInjection : Prop :=
  (∀ (read : List Nat) (s : State), (s.scpQ = [] ∨ s.get FLT.STATUS_SCP_OUT ≠ 0) → exec (.scorepadCommit read) s = .next (s))
  ∧ (∀ (r : SRec) (q : List SRec) (read : List Nat) (s : State), s.scpQ = r :: q → s.get FLT.STATUS_SCP_OUT = 0 → fix 64 read = r.octets (s.get SCPX.NEXT) → exec (.scorepadCommit read) s = .next ((let u := (({ s with mem.mram := memWriteL s.mem.mram (64 * ((s.get SCPX.NEXT) % 32768)) (fix 64 read) } : State).put SCPX.NEXT 0 ((s.get SCPX.NEXT) + 1)).scpShow; ((({ u with scpQ := q } : State).put SCP.QUEUE 0 q.length).put SCPX.FAIL_RUN 0 0).scpLost)))
  ∧ (∀ (r : SRec) (q : List SRec) (read : List Nat) (s : State), s.scpQ = r :: q → s.get FLT.STATUS_SCP_OUT = 0 → fix 64 read ≠ r.octets (s.get SCPX.NEXT) → s.get SCPX.FAIL_RUN = 0 → exec (.scorepadCommit read) s = .next ((let u := (({ s with mem.mram := memWriteL s.mem.mram (64 * ((s.get SCPX.NEXT) % 32768)) (fix 64 read) } : State).put SCPX.NEXT 0 ((s.get SCPX.NEXT) + 1)).scpShow; (u.put SCP.EVENT_WRITE_FAIL 0 1).put SCPX.FAIL_RUN 0 1)))
  ∧ (∀ (r : SRec) (q : List SRec) (read : List Nat) (s : State), s.scpQ = r :: q → s.get FLT.STATUS_SCP_OUT = 0 → fix 64 read ≠ r.octets (s.get SCPX.NEXT) → s.get SCPX.FAIL_RUN ≠ 0 → exec (.scorepadCommit read) s = .next ((let u := (({ s with mem.mram := memWriteL s.mem.mram (64 * ((s.get SCPX.NEXT) % 32768)) (fix 64 read) } : State).put SCPX.NEXT 0 ((s.get SCPX.NEXT) + 1)).scpShow; (((u.put SCP.EVENT_WRITE_FAIL 0 1).fault 0x1101 0 1).put FLT.STATUS_SCP_OUT 0 1).put FLT.EVENT_SCP_FAIL 0 1)))
  ∧ (∀ (s : State), (s.get SCPX.SUP_UNREP = 0 ∨ s.get FLT.STATUS_SCP_OUT ≠ 0 ∨ (s.get SCPX.SUP_AT ≠ 0 ∧ s.mp < s.get SCPX.SUP_AT + 2 ^ 24)) → exec (.scorepadSuppressReport) s = .next (s))
  ∧ (∀ (s : State), s.get SCPX.SUP_UNREP ≠ 0 → s.get FLT.STATUS_SCP_OUT = 0 → (s.get SCPX.SUP_AT = 0 ∨ s.get SCPX.SUP_AT + 2 ^ 24 ≤ s.mp) → exec (.scorepadSuppressReport) s = .next (((((s.scpQueue ⟨4, 3, s.mp, s.calOctets, 0, 0, s.scpFlags none false, 0, s.get SCPX.SUP_UNREP, le 2 (s.get SCPX.SUP_CODE) ++ le 2 (s.get SCPX.SUP_CODE 1)⟩).put SCPX.SUP_UNREP 0 0).put SCPX.SUP_CODE 0 0).put SCPX.SUP_CODE 1 0).put SCPX.SUP_AT 0 s.mp))
  ∧ (∀ (c : Cmd) (addr seq era count : Nat) (oldest : Bool) (s : State), (count = 0 ∨ 1024 < count) → exec (.scorepadRead c addr seq era count oldest) s = .next (s.finish c 0x76 0x12))
  ∧ (∀ (c : Cmd) (addr seq era count : Nat) (oldest : Bool) (s : State), 1 ≤ count → count ≤ 1024 → s.scpKeys = [] → exec (.scorepadRead c addr seq era count oldest) s = .next (s.answer c 0x76 addr []))
  ∧ (∀ (c : Cmd) (addr seq era count new old : Nat) (oldest : Bool) (s : State), 1 ≤ count → count ≤ 1024 → newestKey s.scpKeys = some new → oldestKey s.scpKeys = some old → exec (.scorepadRead c addr seq era count oldest) s = .next ((let span := if keyAfter (if oldest || (!oldest && keyAfter old (era % 256 * 2 ^ 32 + seq % 2 ^ 32)) then old else (era % 256 * 2 ^ 32 + seq % 2 ^ 32)) new then 0 else (new + 2 ^ 40 - (if oldest || (!oldest && keyAfter old (era % 256 * 2 ^ 32 + seq % 2 ^ 32)) then old else (era % 256 * 2 ^ 32 + seq % 2 ^ 32))) % 2 ^ 40 + 1; let ks := (List.range (min span 32768)).map fun i => ((if oldest || (!oldest && keyAfter old (era % 256 * 2 ^ 32 + seq % 2 ^ 32)) then old else (era % 256 * 2 ^ 32 + seq % 2 ^ 32)) + i) % 2 ^ 40; let good := ks.filter s.scpKeys.contains; let out := good.take count; let more := decide (out.length < good.length); let passed := if more then ks.takeWhile (· != out.getLastD 0) else ks; let skipped := (passed.filter fun k => s.scpTorn.contains (k % 32768)).length; s.answer c 0x76 addr (out.flatMap fun k => s.scpSlot (k % 32768)) [(24, le 4 out.length), (28, le 4 (out.getLastD 0 % 2 ^ 32)), (32, [out.getLastD 0 / 2 ^ 32]), (33, [(if (!oldest && keyAfter old (era % 256 * 2 ^ 32 + seq % 2 ^ 32)) then 1 else 0) + if more then 2 else 0]), (36, le 4 skipped)])))
  ∧ (∀ (r : Req) (s : State), s.reachWord r (FLT.INJ_GO.addr 0) 4 = 0 → (s.get BOOT.STATUS_READY = 0 ∨ s.injectClass (s.get FLT.INJECT_CODE) (s.get FLT.INJECT_UNIT) = none) → exec (.faultInject r) s = .next (s.put FLT.EVENT_BAD_CFG 0 1))
  ∧ (∀ (r : Req) (a : Nat) (h : Option Nat) (s : State), s.reachWord r (FLT.INJ_GO.addr 0) 4 = 0 → s.get BOOT.STATUS_READY ≠ 0 → s.injectClass (s.get FLT.INJECT_CODE) (s.get FLT.INJECT_UNIT) = some (a, h) → (h.isSome = true ∨ ¬ (s.get FLT.INJECT_CODE = 0x0201 ∨ s.get FLT.INJECT_CODE = 0x0202 ∨ s.get FLT.INJECT_CODE = 0x0302 ∨ s.get FLT.INJECT_CODE = 0x0403)) → exec (.faultInject r) s = .next ((s.injectUnit (s.get FLT.INJECT_CODE) (s.get FLT.INJECT_UNIT)).fault (s.get FLT.INJECT_CODE) (s.get FLT.INJECT_UNIT) a h 0 0 [] true))
  ∧ (∀ (r : Req) (a : Nat) (s : State), s.reachWord r (FLT.INJ_GO.addr 0) 4 = 0 → s.get BOOT.STATUS_READY ≠ 0 → s.injectClass (s.get FLT.INJECT_CODE) (s.get FLT.INJECT_UNIT) = some (a, none) → (s.get FLT.INJECT_CODE = 0x0201 ∨ s.get FLT.INJECT_CODE = 0x0202 ∨ s.get FLT.INJECT_CODE = 0x0302 ∨ s.get FLT.INJECT_CODE = 0x0403) → exec (.faultInject r) s = .next ((s.injectUnit (s.get FLT.INJECT_CODE) (s.get FLT.INJECT_UNIT)).sourceFault (s.get FLT.INJECT_CODE) (s.get FLT.INJECT_UNIT) a (if s.get FLT.INJECT_CODE = 0x0201 then 3 else if s.get FLT.INJECT_CODE = 0x0202 then 4 else if s.get FLT.INJECT_CODE = 0x0302 then 5 else 6) true))
  ∧ (∀ (n : Nat) (high : Bool) (s : State), bit (s.get PADS.CTL_TAMPER_EN) n = false → exec (.tamperSample n high) s = .next (s))
  ∧ (∀ (n : Nat) (high : Bool) (s : State), n < 2 → bit (s.get PADS.CTL_TAMPER_EN) n = true → (high = false ∨ bit (s.get PADS.TAMPER_EVENT) n = true) → exec (.tamperSample n high) s = .next ((s.put PADS.TAMPER_STATE 0 (s.get PADS.TAMPER_STATE - (if bit (s.get PADS.TAMPER_STATE) n then 2 ^ n else 0) + (if high then 2 ^ n else 0)))))
  ∧ (∀ (n : Nat) (high : Bool) (s : State), n < 2 → bit (s.get PADS.CTL_TAMPER_EN) n = true → high = true → bit (s.get PADS.TAMPER_EVENT) n = false → exec (.tamperSample n high) s = .next ((let u := ((((s.put PADS.TAMPER_STATE 0 (s.get PADS.TAMPER_STATE - (if bit (s.get PADS.TAMPER_STATE) n then 2 ^ n else 0) + (if high then 2 ^ n else 0))).put PADS.TAMPER_EVENT 0 (s.get PADS.TAMPER_EVENT + 2 ^ n)).put PADX.DUE n 1).put PADS.TAMPER_TIME_LO n (oct s.calOctets 0 4)).put PADS.TAMPER_TIME_HI n (oct s.calOctets 4 4); if u.get BOOT.STATUS_READY ≠ 0 then (u.scpRaise ⟨5, 0x10 + n, u.mp, le 4 (u.get PADS.TAMPER_TIME_LO n) ++ le 4 (u.get PADS.TAMPER_TIME_HI n), 0, 0, u.scpFlags none false, 0, 0, []⟩).put PADX.DUE n 0 else u)))

/-- The DRAM window of a thread and its SEG: Engine address 0x8000_0000 + x is DRAM address SEG × 16 MiB + x. A thread of Hedge h that writes SEG with a window that meets h's DRAM grant takes the value; with one that does not it traps with SEG, and a program thread's SEG, or that of any thread with a trap vector, stays as it was. Each access is reached exactly where its own address lies in the grant: a load beyond it traps with ACCESS, one in it takes the octet. -/
def Obligations.SegmentWindow : Prop :=
  (∀ (g x : Nat) (s : State), x < 2 ^ 31 → s.place g (0x80000000 + x) = .dram (s.get THR.SEG g * 2 ^ 24 + x))
  ∧ (∀ (g h a : Nat) (ra : BitVec 5) (s : State), s.issues g = true → (kindOf g).hedge = some h → s.get ENGH.DRAM_BASE h ≤ a → a < s.get ENGH.DRAM_BASE h + s.get ENGH.DRAM_SIZE h → s.r g ra * 2 ^ 24 ≤ a → a < s.r g ra * 2 ^ 24 + 2 ^ 31 → exec (.mts g 0 ra 3) s = .next (((s.issued g).put THR.SEG g (s.r g ra)).pcNext g))
  ∧ (∀ (g h : Nat) (ra : BitVec 5) (s : State), s.issues g = true → (kindOf g).hedge = some h → (s.get ENGH.DRAM_SIZE h = 0 ∨ s.get ENGH.DRAM_BASE h + s.get ENGH.DRAM_SIZE h ≤ s.r g ra * 2 ^ 24 ∨ s.r g ra * 2 ^ 24 + 2 ^ 31 ≤ s.get ENGH.DRAM_BASE h) → exec (.mts g 0 ra 3) s = .next ((s.issued g).trap g 0x0A (s.r g ra)))
  ∧ (∀ (g h : Nat) (ra : BitVec 5) (s : State), s.issues g = true → (kindOf g).hedge = some h → (s.get ENGH.DRAM_SIZE h = 0 ∨ s.get ENGH.DRAM_BASE h + s.get ENGH.DRAM_SIZE h ≤ s.r g ra * 2 ^ 24 ∨ s.r g ra * 2 ^ 24 + 2 ^ 31 ≤ s.get ENGH.DRAM_BASE h) → (kindOf g = .program h ∨ (s.get THR.TVEC g ≠ 0 ∧ s.get THR.T g = 0)) → completes (.mts g 0 ra 3) s fun t => t.get THR.SEG g = s.get THR.SEG g)
  ∧ (∀ (g h x : Nat) (wr : Bool) (s : State), (kindOf g).hedge = some h → x < 2 ^ 31 → s.reach g (0x80000000 + x) wr = if s.get ENGH.DRAM_BASE h ≤ s.get THR.SEG g * 2 ^ 24 + x ∧ s.get THR.SEG g * 2 ^ 24 + x < s.get ENGH.DRAM_BASE h + s.get ENGH.DRAM_SIZE h then 0 else 0x04)
  ∧ (∀ (g h x : Nat) (rd ra : BitVec 5) (s : State), s.issues g = true → (kindOf g).hedge = some h → x < 2 ^ 31 → s.r g ra = 0x80000000 + x → s.get ENGH.DRAM_BASE h ≤ s.get THR.SEG g * 2 ^ 24 + x → s.get THR.SEG g * 2 ^ 24 + x < s.get ENGH.DRAM_BASE h + s.get ENGH.DRAM_SIZE h → exec (.ldbu g rd ra 0) s = .next (s.moved g rd (memRead (s.get THR.SEG g * 2 ^ 24 + x) s.mem.dram).toNat))
  ∧ (∀ (g h x : Nat) (rd ra : BitVec 5) (s : State), s.issues g = true → (kindOf g).hedge = some h → x < 2 ^ 31 → s.r g ra = 0x80000000 + x → (s.get THR.SEG g * 2 ^ 24 + x < s.get ENGH.DRAM_BASE h ∨ s.get ENGH.DRAM_BASE h + s.get ENGH.DRAM_SIZE h ≤ s.get THR.SEG g * 2 ^ 24 + x) → exec (.ldbu g rd ra 0) s = .next ((s.issued g).trap g 0x04 (0x80000000 + x)))

/-- What a write of RST.CMD asks: A write of 0x5359_5354 to RST.CMD through the privileged view takes a software system reset, one of 0x434F_5245 a software core reset (none in the safe state), every other value changes nothing; a Hedge view does not hold RST, and a write there is a bus error. -/
def Obligations.ResetCommand : Prop :=
  (∀ (r : Req) (s : State), viewOf r = 0 → s.reachWord r 0xD00004 4 = 0 → exec (.regWrite r 0xD00004 4 0x53595354) s = .next ((s.put MODEL.RESP 0 0).takeSys 2 7 false))
  ∧ (∀ (r : Req) (s : State), viewOf r = 0 → s.reachWord r 0xD00004 4 = 0 → s.get FLT.STATUS_STATE ≠ 2 → exec (.regWrite r 0xD00004 4 0x434F5245) s = .next ((s.put MODEL.RESP 0 0).takeCore 8))
  ∧ (∀ (r : Req) (s : State), viewOf r = 0 → s.reachWord r 0xD00004 4 = 0 → s.get FLT.STATUS_STATE = 2 → exec (.regWrite r 0xD00004 4 0x434F5245) s = .next (s.put MODEL.RESP 0 0))
  ∧ (∀ (r : Req) (v : Nat) (s : State), viewOf r = 0 → s.reachWord r 0xD00004 4 = 0 → v ≠ 0x53595354 → v ≠ 0x434F5245 → exec (.regWrite r 0xD00004 4 v) s = .next (s.put MODEL.RESP 0 0))
  ∧ (∀ (h v : Nat) (s : State), h < 8 → s.get BOOT.STATUS_READY ≠ 0 → exec (.regWrite (.hedge h) 0xD00004 4 v) s = .next (s.busErr (.hedge h) 0xD00004))
end

