-- ==== Sys2Proof/Laws/Memory.lean ====
section
/-!
SUPPORT. Laws of the byte memories: a read after a write, and that every memory operation keeps the canonical form.
-/

namespace Sys2Proof.Machine

/-! ### The canonical form -/

/-- Every address of a list lies above a bound. -/
def aboveAll (a : Nat) (m : List Host.Cell) : Prop := ∀ c ∈ m, a < c.1

theorem memWf_cons {a : Nat} {b : BitVec 8} {t : List Host.Cell} : memWf ((a, b) :: t) = true ↔ b ≠ 0 ∧ aboveAll a t ∧ memWf t = true := by
  induction t generalizing a b with
  | nil => simp [memWf, aboveAll]
  | cons c t ih =>
    obtain ⟨a', b'⟩ := c
    simp only [memWf, Bool.and_eq_true, bne_iff_ne, decide_eq_true_eq, ne_eq]
    constructor
    · rintro ⟨⟨hb, ha⟩, h⟩
      refine ⟨hb, ?_, h⟩
      have := (ih.1 h).2.1
      intro c hc
      rcases List.mem_cons.1 hc with rfl | hc
      · exact ha
      · exact Nat.lt_trans ha (this c hc)
    · rintro ⟨hb, ha, h⟩
      exact ⟨⟨hb, ha (a', b') (List.mem_cons_self ..)⟩, h⟩

theorem aboveAll_memDel {a k : Nat} {m : List Host.Cell} (h : aboveAll a m) : aboveAll a (memDel k m) := by
  induction m with
  | nil => simpa [memDel] using h
  | cons c t ih =>
    obtain ⟨a', b'⟩ := c
    have ht : aboveAll a t := fun c hc => h c (List.mem_cons_of_mem _ hc)
    unfold memDel
    split
    · exact ht
    · split
      · exact h
      · intro c hc
        rcases List.mem_cons.1 hc with rfl | hc
        · exact h _ (List.mem_cons_self ..)
        · exact ih ht c hc

theorem memDel_wf {k : Nat} {m : List Host.Cell} (h : memWf m = true) : memWf (memDel k m) = true := by
  induction m with
  | nil => simpa [memDel] using h
  | cons c t ih =>
    obtain ⟨a', b'⟩ := c
    obtain ⟨hb, ha, ht⟩ := memWf_cons.1 h
    unfold memDel
    split
    · exact ht
    · split
      · exact h
      · exact memWf_cons.2 ⟨hb, aboveAll_memDel ha, ih ht⟩

theorem aboveAll_memIns {a k : Nat} {b : BitVec 8} {m : List Host.Cell} (h : aboveAll a m) (hk : a < k) : aboveAll a (memIns k b m) := by
  induction m with
  | nil => intro c hc; simp [memIns] at hc; simpa [hc] using hk
  | cons c t ih =>
    obtain ⟨a', b'⟩ := c
    have ht : aboveAll a t := fun c hc => h c (List.mem_cons_of_mem _ hc)
    have h0 : a < a' := h _ (List.mem_cons_self ..)
    unfold memIns
    split
    · next e => subst e; intro c hc; exact (List.mem_cons.1 hc).elim (fun e => e ▸ h0) fun hc => ht c hc
    · split
      · intro c hc; exact (List.mem_cons.1 hc).elim (fun e => e ▸ hk) fun hc => h c hc
      · intro c hc; exact (List.mem_cons.1 hc).elim (fun e => e ▸ h0) fun hc => ih ht c hc

theorem memIns_wf {k : Nat} {b : BitVec 8} {m : List Host.Cell} (hb : b ≠ 0) (h : memWf m = true) : memWf (memIns k b m) = true := by
  induction m with
  | nil => simpa [memIns, memWf] using hb
  | cons c t ih =>
    obtain ⟨a', b'⟩ := c
    obtain ⟨hb', ha, ht⟩ := memWf_cons.1 h
    unfold memIns
    split
    · next e => subst e; exact memWf_cons.2 ⟨hb, ha, ht⟩
    · next e =>
      split
      · next hlt =>
        refine memWf_cons.2 ⟨hb, ?_, h⟩
        intro c hc
        rcases List.mem_cons.1 hc with rfl | hc
        · exact hlt
        · exact Nat.lt_trans hlt (ha c hc)
      · next hlt => exact memWf_cons.2 ⟨hb', aboveAll_memIns ha (by omega), ih ht⟩

theorem memWrite_wf {m : List Host.Cell} (a : Nat) (b : BitVec 8) (h : memWf m = true) : memWf (memWrite m a b) = true := by
  unfold memWrite
  split
  · exact memDel_wf h
  · next hb => exact memIns_wf hb h

theorem memWriteL_wf {m : List Host.Cell} (a : Nat) (l : List Nat) (h : memWf m = true) : memWf (memWriteL m a l) = true := by
  induction l generalizing m a with
  | nil => exact h
  | cons b t ih => exact ih _ (memWrite_wf _ _ h)

theorem memFilter_wf {m : List Host.Cell} (p : Host.Cell → Bool) (h : memWf m = true) : memWf (m.filter p) = true := by
  induction m with
  | nil => exact h
  | cons c t ih =>
    obtain ⟨a, b⟩ := c
    obtain ⟨hb, ha, ht⟩ := memWf_cons.1 h
    by_cases hp : p (a, b)
    · rw [List.filter_cons_of_pos hp]
      exact memWf_cons.2 ⟨hb, fun c hc => ha c ((List.mem_filter.1 hc).1), ih ht⟩
    · rw [List.filter_cons_of_neg hp]; exact ih ht

theorem memZero_wf {m : List Host.Cell} (lo hi : Nat) (h : memWf m = true) : memWf (memZero m lo hi) = true := memFilter_wf _ h

/-! ### A read after a write -/

theorem memRead_above {a : Nat} {m : List Host.Cell} (h : aboveAll a m) : memRead a m = 0 := by
  induction m with
  | nil => rfl
  | cons c t ih =>
    obtain ⟨a', b'⟩ := c
    have h0 : a < a' := h _ (List.mem_cons_self ..)
    have : a' ≠ a := by omega
    simp [memRead, this, ih fun c hc => h c (List.mem_cons_of_mem _ hc)]

theorem memRead_memDel {a k : Nat} {m : List Host.Cell} (h : memWf m = true) : memRead a (memDel k m) = if a = k then 0 else memRead a m := by
  induction m with
  | nil => simp [memDel, memRead]
  | cons c t ih =>
    obtain ⟨a', b'⟩ := c
    obtain ⟨hb, ha, ht⟩ := memWf_cons.1 h
    unfold memDel
    by_cases h1 : a' = k
    · subst h1
      by_cases h2 : a = a'
      · subst h2; simp [memRead_above ha]
      · have : a' ≠ a := fun e => h2 e.symm
        simp [memRead, h2, this]
    · by_cases h3 : k < a'
      · by_cases h2 : a = k
        · subst h2
          have : aboveAll a ((a', b') :: t) := by
            intro c hc; exact (List.mem_cons.1 hc).elim (fun e => e ▸ h3) fun hc => Nat.lt_trans h3 (ha c hc)
          simp [h1, h3, memRead_above this]
        · simp [h1, h3, h2]
      · by_cases h2 : a' = a
        · subst h2; simp [h1, h3, memRead]
        · simp [h1, h3, h2, memRead, ih ht]

theorem memRead_memIns {a k : Nat} {b : BitVec 8} {m : List Host.Cell} : memRead a (memIns k b m) = if a = k then b else memRead a m := by
  induction m with
  | nil => by_cases h : a = k <;> simp [memIns, memRead, h, eq_comm]
  | cons c t ih =>
    obtain ⟨a', b'⟩ := c
    unfold memIns
    by_cases h1 : a' = k
    · subst h1; by_cases h2 : a = a' <;> simp [memRead, h2, eq_comm]
    · by_cases h3 : k < a'
      · by_cases h2 : a = k <;> simp [h1, h3, memRead, h2, eq_comm]
      · by_cases h2 : a' = a
        · subst h2; simp [h1, h3, memRead]
        · simp [h1, h3, h2, memRead, ih]

/-- A read after a write of one octet. -/
theorem memRead_memWrite {a k : Nat} {b : BitVec 8} {m : List Host.Cell} (h : memWf m = true) :
    memRead a (memWrite m k b) = if a = k then b else memRead a m := by
  unfold memWrite
  split
  · next e => rw [memRead_memDel h]; simp [e]
  · exact memRead_memIns

/-- Octets outside a string written read as before. -/
theorem memRead_memWriteL_outside {a k : Nat} {l : List Nat} {m : List Host.Cell} (h : memWf m = true) (ha : a < k ∨ k + l.length ≤ a) :
    memRead a (memWriteL m k l) = memRead a m := by
  induction l generalizing m k with
  | nil => rfl
  | cons b t ih =>
    simp only [List.length_cons] at ha
    have hne : a ≠ k := by omega
    rw [memWriteL, ih (memWrite_wf _ _ h) (by omega), memRead_memWrite h, if_neg hne]

/-- The i-th octet of a string written is read back. -/
theorem memRead_memWriteL {k i : Nat} {l : List Nat} {m : List Host.Cell} (h : memWf m = true) (hi : i < l.length) :
    memRead (k + i) (memWriteL m k l) = BitVec.ofNat 8 (l.getD i 0) := by
  induction l generalizing m k i with
  | nil => simp at hi
  | cons b t ih =>
    cases i with
    | zero =>
      rw [memWriteL, memRead_memWriteL_outside (memWrite_wf _ _ h) (by omega), memRead_memWrite h]; simp
    | succ i =>
      have := ih (m := memWrite m k (BitVec.ofNat 8 b)) (k := k + 1) (i := i) (memWrite_wf _ _ h) (by simpa using hi)
      rw [memWriteL]; simpa [Nat.add_assoc, Nat.add_comm 1 i] using this

end Sys2Proof.Machine
end

