-- ==== Sys2Proof/Laws/Queue.lean ====
section
/-! SUPPORT. No operation of the model touches the queue of waiting commands: one lemma per
operation and per command, so that a step takes exactly one command off the queue. -/

namespace Sys2Proof.Machine
open Sys2Proof
set_option linter.all false
set_option linter.unusedSimpArgs false

/-- The commands that wait (assumption 1). -/
def State.queue (s : State) : List Instr := s.pending
theorem State.pending_eq (s : State) : s.pending = s.queue := (rfl)
@[simp] theorem State.queue_mk (x0 : List ((Nat × Nat) × Nat)) (x1 : Memories) (x2 : List Nat) (x3 : List Nat) (x4 : List SRec) (x5 : List ResetStamp) (x6 :
    List Started) (x7 : List (Nat × Nat × Nat)) (x8 : List TunCmd) (x9 : List (Cmd × Nat)) (x10 : List (Nat × Nat)) (x11 : List
    CplWait) (x12 : List EvWait) (x13 : List RxFrame) (x14 : List TunMsg) (x15 : List TxReq) (x16 : List TxRes) (x17 : List
    GateRec) (x18 : List OnAir) (x19 : List Quiet) (x20 : List LedgerSlot) (x21 : List LedgerSlot) (x22 : List CapEntry) (x23 :
    List SyncRec) (x24 : List (Nat × Nat)) (x25 : List Wire) (x26 : List Down) (x27 : List Down) (x28 : List IdxSlot) (x29 : List
    Nat) (x30 : List DelWait) (x31 : List InsWait) (x32 : List (Nat × List Nat)) (x33 : List (Nat × Nat × Nat)) (x34 : List (Nat
    × Option Nat × Nat)) (x35 : List Down) (x36 : List (Nat × Nat × Nat × Nat)) (x37 : List (Nat × Nat × Nat)) (x38 : List
    EnergyMap) (x39 : List Blanking) (x40 : List LaneFrame) (x41 : List CodeWord) (x42 : List Heard) (x43 : List LaneIn) (x44 :
    List KeyTag) (x45 : List Split) (x46 : List Down) (x47 : List ObsWait) (x48 : List CryOp) (x49 : List (Nat × List Nat)) (x50
    : List (Nat × List Nat)) (x51 : List (Nat × Nat)) (x52 : List (Nat × List Nat)) (x53 : List (Nat × Nat)) (x54 : List (Nat ×
    Nat × Nat × Nat)) (x55 : List (Nat × Nat × Nat)) (x56 : List (Nat × Nat × Nat)) (x57 : List (Nat × List ((Nat × Nat) × Nat)))
    (p : List Instr) :
    State.queue ⟨x0, x1, x2, x3, x4, x5, x6, x7, x8, x9, x10, x11, x12, x13, x14, x15, x16, x17, x18, x19, x20, x21, x22, x23, x24, x25, x26,
      x27, x28, x29, x30, x31, x32, x33, x34, x35, x36, x37, x38, x39, x40, x41, x42, x43, x44, x45, x46, x47, x48, x49, x50, x51,
      x52, x53, x54, x55, x56, x57, p⟩ = p := (rfl)
@[simp] theorem next_next (s t : State) : next s (.next t) = t := (rfl)


@[simp] theorem State.put_queue (s : State) (F : Fld) (n v : Nat) : (s.put F n v).queue = s.queue := (rfl)
@[simp] theorem State.set_queue (s : State) (F : Fld) (n : Nat) : (s.set F n).queue = s.queue := (rfl)
@[simp] theorem State.clr_queue (s : State) (F : Fld) (n : Nat) : (s.clr F n).queue = s.queue := (rfl)
@[simp] theorem State.unput_queue (s : State) (F : Fld) (n : Nat) : (s.unput F n).queue = s.queue := (rfl)
@[simp] theorem State.bump_queue (s : State) (F : Fld) (n k : Nat) : (s.bump F n k).queue = s.queue := (rfl)
@[simp] theorem State.bumpSat_queue (s : State) (F : Fld) (n k : Nat) : (s.bumpSat F n k).queue = s.queue := (rfl)
@[simp] theorem State.drop_queue (s : State) (F : Fld) (n k : Nat) : (s.drop F n k).queue = s.queue := (rfl)
@[simp] theorem State.putI_queue (s : State) (F : Fld) (n : Nat) (i : Int) : (s.putI F n i).queue = s.queue := (rfl)
@[simp] theorem State.putIf_queue (s : State) (c : Bool) (F : Fld) (n v : Nat) : (s.putIf c F n v).queue = s.queue := by
  cases c <;> rfl
@[simp] theorem State.draw_queue (s : State) : s.draw.2.queue = s.queue := (rfl)
@[simp] theorem ite_queue (c : Prop) [Decidable c] (s t : State) (p : List Instr) (hs : s.queue = p) (ht : t.queue = p) :
    (if c then s else t).queue = p := by split <;> assumption
@[simp] theorem State.when_queue (s : State) (c : Bool) (f : State → State) (h : (f s).queue = s.queue) :
    (s.when c f).queue = s.queue := by cases c <;> simp [State.when, h]
@[simp] theorem State.each_queue {α : Type} (s : State) (l : List α) (f : State → α → State) (h : ∀ u a, (f u a).queue = u.queue) :
    (s.each l f).queue = s.queue := by
  unfold State.each
  induction l generalizing s with
  | nil => rfl
  | cons a t ih => rw [List.foldl_cons, ih, h]
theorem pair_queue {α : Type} {p : α × State} {a : α} {s t : State} (h : p = (a, t)) (hp : p.2.queue = s.queue) : t.queue = s.queue := by
  rw [← hp, h]
theorem pairL_queue {α : Type} {p : State × α} {a : α} {s t : State} (h : p = (t, a)) (hp : p.1.queue = s.queue) : t.queue = s.queue := by
  rw [← hp, h]
theorem foldl_queue {α : Type} (l : List α) (s : State) (f : State → α → State) (h : ∀ u a, (f u a).queue = u.queue) :
    (l.foldl f s).queue = s.queue := by
  induction l generalizing s with
  | nil => rfl
  | cons a t ih => rw [List.foldl_cons, ih, h]
theorem foldlL_queue {α β : Type} (l : List α) (s : State × β) (f : State × β → α → State × β) (h : ∀ u a, (f u a).1.queue = u.1.queue) :
    (l.foldl f s).1.queue = s.1.queue := by
  induction l generalizing s with
  | nil => rfl
  | cons a t ih => rw [List.foldl_cons, ih, h]
theorem foldlR_queue {α β : Type} (l : List α) (s : β × State) (f : β × State → α → β × State) (h : ∀ u a, (f u a).2.queue = u.2.queue) :
    (l.foldl f s).2.queue = s.2.queue := by
  induction l generalizing s with
  | nil => rfl
  | cons a t ih => rw [List.foldl_cons, ih, h]
theorem getD_queue (o : Option State) (s : State) (h : ∀ t, o = some t → t.queue = s.queue) : (o.getD s).queue = s.queue := by
  cases o with
  | none => rfl
  | some t => exact h t rfl
theorem tripR_queue {α β : Type} {p : α × β × State} {a : α} {b : β} {s t : State} (h : p = (a, b, t)) (hp : p.2.2.queue = s.queue) :
    t.queue = s.queue := by rw [← hp, h]
theorem tripM_queue {α β : Type} {p : α × State × β} {a : α} {b : β} {s t : State} (h : p = (a, t, b)) (hp : p.2.1.queue = s.queue) :
    t.queue = s.queue := by rw [← hp, h]
theorem quadR_queue {α β γ : Type} {p : α × β × γ × State} {a : α} {b : β} {c : γ} {s t : State} (h : p = (a, b, c, t))
    (hp : p.2.2.2.queue = s.queue) : t.queue = s.queue := by rw [← hp, h]
theorem ite_q (c : Prop) [Decidable c] (s t u : State) (hs : c → s.queue = u.queue) (ht : ¬c → t.queue = u.queue) :
    (if c then s else t).queue = u.queue := by by_cases h : c <;> simp [h, hs, ht]
/-- Whatever state o holds has the queue of s. -/
def QO (s : State) (o : Option State) : Prop := ∀ t, o = some t → t.queue = s.queue
theorem QO.none (s : State) : QO s none := nofun
theorem QO.some {s t : State} (h : t.queue = s.queue) : QO s (some t) := by intro u hu; cases hu; exact h
theorem QO.ite {s : State} {c : Prop} [Decidable c] {a b : Option State} (ha : QO s a) (hb : QO s b) : QO s (if c then a else b) := by
  split <;> assumption
@[simp] theorem State.scpRefill_queue (s : State) : (State.scpRefill s).queue = s.queue := by simp [State.scpRefill, State.pending_eq]
@[simp] theorem State.scpQueue_queue (s : State) (r : SRec) : (State.scpQueue s r).queue = s.queue := by simp [State.scpQueue, State.pending_eq]
@[simp] theorem State.scpRaise_queue (s : State) (r : SRec) : (State.scpRaise s r).queue = s.queue := by
  unfold State.scpRaise
  repeat' first
    | with_reducible rfl | intro _ | split | dsimp only | simp -implicitDefEqProofs [State.pending_eq]

@[simp] theorem State.record_queue (s : State) (kind : Nat) (code : Nat) (unit : Nat) (action : Nat) (hedge : Option Nat) (addr : Nat) (count : Nat) (detail : List (Nat × List Nat)) (injected : Bool) : (State.record s kind code unit action hedge addr count detail injected).queue = s.queue := by simp [State.record, State.pending_eq]
@[simp] theorem State.hostWrite_queue (s : State) (i : Nat) (a : Nat) (l : List Nat) : (State.hostWrite s i a l).queue = s.queue := by simp [State.hostWrite, State.pending_eq]
@[simp] theorem State.irq_queue (s : State) (i : Nat) (v : Nat) (now : Bool) : (State.irq s i v now).queue = s.queue := by simp [State.irq, State.pending_eq]
@[simp] theorem State.shadow_queue (s : State) (i : Nat) (r : Nat) (v : Nat) : (State.shadow s i r v).queue = s.queue := by simp [State.shadow, State.pending_eq]
@[simp] theorem State.ringWrite_queue (s : State) (i : Nat) (r : Nat) (octets : List Nat) (now : Bool) : (State.ringWrite s i r octets now).queue = s.queue := by simp [State.ringWrite, State.pending_eq]
@[simp] theorem State.hwIn_queue (s : State) (f : Nat) : ((State.hwIn s f).2).queue = s.queue := by
  unfold State.hwIn
  repeat' first
    | with_reducible rfl | intro _ | refine pair_queue (by assumption) ?_ | refine tripR_queue (by assumption) ?_ | split
    | dsimp only | simp -implicitDefEqProofs [State.pending_eq]

@[simp] theorem State.hwOut_queue (s : State) (f : Nat) (k : Nat) : (State.hwOut s f k).queue = s.queue := by simp [State.hwOut, State.pending_eq]
@[simp] theorem State.fifoPush_queue (s : State) (f : Nat) (octets : List Nat) : (State.fifoPush s f octets).queue = s.queue := by simp [State.fifoPush, State.pending_eq]
@[simp] theorem State.fifoPop_queue (s : State) (f : Nat) : (State.fifoPop s f).queue = s.queue := by simp [State.fifoPop, State.pending_eq]
@[simp] theorem State.tunWire_queue (s : State) (h : Nat) (l : List Nat) : (State.tunWire s h l).queue = s.queue := by simp [State.tunWire, State.pending_eq]
@[simp] theorem State.tunEmit_queue (s : State) (h : Nat) (kind : Nat) (seq : Nat) (entries : List Nat) (data : List Nat) : (State.tunEmit s h kind seq entries data).queue = s.queue := by simp [State.tunEmit, State.pending_eq]
@[simp] theorem State.tunSend_queue (s : State) (h : Nat) (kind : Nat) (entries : List Nat) (data : List Nat) : (State.tunSend s h kind entries data).queue = s.queue := by simp [State.tunSend, State.pending_eq]
@[simp] theorem State.unstart_queue (s : State) (c : Cmd) : (State.unstart s c).queue = s.queue := by
  unfold State.unstart
  repeat' first
    | with_reducible rfl | intro _ | rw [State.when_queue] | refine pair_queue (by assumption) ?_
    | refine tripR_queue (by assumption) ?_ | split | dsimp only | simp -implicitDefEqProofs [State.pending_eq]

@[simp] theorem State.restart_queue (s : State) (c : Cmd) (f : Started → Started) : (State.restart s c f).queue = s.queue := by
  unfold State.restart
  repeat' first
    | with_reducible rfl | intro _ | refine pair_queue (by assumption) ?_ | refine tripR_queue (by assumption) ?_ | split
    | dsimp only | simp -implicitDefEqProofs [State.pending_eq]

@[simp] theorem State.served_queue (s : State) (c : Cmd) : (State.served s c).queue = s.queue := by simp [State.served, State.pending_eq]
@[simp] theorem State.toProg_queue (s : State) (h : Nat) (octets : List Nat) : (State.toProg s h octets).queue = s.queue := by simp [State.toProg, State.pending_eq]
@[simp] theorem State.cplOut_queue (s : State) (x : CplWait) : (State.cplOut s x).queue = s.queue := by simp [State.cplOut, State.pending_eq]
@[simp] theorem State.cplPost_queue (s : State) (x : CplWait) : (State.cplPost s x).queue = s.queue := by simp [State.cplPost, State.pending_eq]
@[simp] theorem State.cplDrain_queue (s : State) (ring : Nat) : (State.cplDrain s ring).queue = s.queue := by simp [State.cplDrain, State.pending_eq]
@[simp] theorem State.complete_queue (s : State) (c : Cmd) (opcode : Nat) (status : Nat) (flags : Nat) (retry : Nat) (result : List (Nat × List Nat)) (trump : Bool) (addr : Nat) (data : List Nat) : (State.complete s c opcode status flags retry result trump addr data).queue = s.queue := by simp [State.complete, State.pending_eq]
@[simp] theorem State.finish_queue (s : State) (c : Cmd) (opcode : Nat) (status : Nat) : (State.finish s c opcode status).queue = s.queue := by simp [State.finish, State.pending_eq]
@[simp] theorem State.accepted_queue (s : State) (c : Cmd) (opcode : Nat) : (State.accepted s c opcode).queue = s.queue := by simp [State.accepted, State.pending_eq]
@[simp] theorem State.answer_queue (s : State) (c : Cmd) (opcode : Nat) (addr : Nat) (l : List Nat) (result : List (Nat × List Nat)) : (State.answer s c opcode addr l result).queue = s.queue := by simp [State.answer, State.pending_eq]
@[simp] theorem State.calTold_queue (s : State) (l : List Nat) : (State.calTold s l).queue = s.queue := by
  unfold State.calTold
  repeat' first
    | with_reducible rfl | intro _ | rw [State.each_queue] | split | dsimp only | simp -implicitDefEqProofs [State.pending_eq]

@[simp] theorem State.calAgain_queue (s : State) (h : Nat) : (State.calAgain s h).queue = s.queue := by simp [State.calAgain, State.pending_eq]
@[simp] theorem State.evOut_queue (s : State) (e : EvWait) : (State.evOut s e).queue = s.queue := by simp [State.evOut, State.pending_eq]
@[simp] theorem State.event_queue (s : State) (h : Nat) (code : Nat) (body : List (Nat × List Nat)) : (State.event s h code body).queue = s.queue := by simp [State.event, State.pending_eq]
@[simp] theorem State.twinSend_queue (s : State) (m : TwinMsg) : (State.twinSend s m).queue = s.queue := by simp [State.twinSend, State.pending_eq]
@[simp] theorem State.roleTold_queue (s : State) (cause : Nat) : (State.roleTold s cause).queue = s.queue := by simp [State.roleTold, State.pending_eq]
@[simp] theorem State.twinDemote_queue (s : State) (later : Bool) : (State.twinDemote s later).queue = s.queue := by simp [State.twinDemote, State.pending_eq]
@[simp] theorem State.rxShow_queue (s : State) (h : Nat) : (State.rxShow s h).queue = s.queue := by simp [State.rxShow, State.pending_eq]
@[simp] theorem State.rxIn_queue (s : State) (x : RxFrame) : (State.rxIn s x).queue = s.queue := by simp [State.rxIn, State.pending_eq]
@[simp] theorem State.reqLevel_queue (s : State) (c : Nat) : (State.reqLevel s c).queue = s.queue := by simp [State.reqLevel, State.pending_eq]
@[simp] theorem State.pushRes_queue (s : State) (r : TxRes) : (State.pushRes s r).queue = s.queue := by simp [State.pushRes, State.pending_eq]
@[simp] theorem State.ledgerAdd_queue (s : State) (sb : Nat) (cell : Nat) (slot : Nat) (d : Int) : (State.ledgerAdd s sb cell slot d).queue = s.queue := by
  unfold State.ledgerAdd
  repeat' first
    | with_reducible rfl | intro _ | refine pair_queue (by assumption) ?_ | refine tripR_queue (by assumption) ?_ | split
    | dsimp only | simp -implicitDefEqProofs [State.pending_eq]

@[simp] theorem State.ledgerCharge_queue (s : State) (x : OnAir) (d : Int) : (State.ledgerCharge s x d).queue = s.queue := by simp [State.ledgerCharge, State.pending_eq]
@[simp] theorem State.airUndo_queue (s : State) (x : OnAir) : (State.airUndo s x).queue = s.queue := by simp [State.airUndo, State.pending_eq]
@[simp] theorem State.unclear_queue (s : State) (n : Nat) : (State.unclear s n).queue = s.queue := by
  unfold State.unclear
  repeat' first
    | with_reducible rfl | intro _ | refine pair_queue (by assumption) ?_ | refine tripR_queue (by assumption) ?_ | split
    | dsimp only | simp -implicitDefEqProofs [State.pending_eq]

@[simp] theorem State.unclearChain_queue (s : State) (c : Nat) : (State.unclearChain s c).queue = s.queue := by
  unfold State.unclearChain
  repeat' first
    | with_reducible rfl | intro _ | rw [State.each_queue] | refine pair_queue (by assumption) ?_
    | refine tripR_queue (by assumption) ?_ | split | dsimp only | simp -implicitDefEqProofs [State.pending_eq]

@[simp] theorem State.popReq_queue (s : State) (c : Nat) : (State.popReq s c).queue = s.queue := by
  unfold State.popReq
  repeat' first
    | with_reducible rfl | intro _ | refine pair_queue (by assumption) ?_ | refine tripR_queue (by assumption) ?_ | split
    | dsimp only | simp -implicitDefEqProofs [State.pending_eq]

@[simp] theorem State.endHead_queue (s : State) (c : Nat) (status : Nat) : (State.endHead s c status).queue = s.queue := by
  unfold State.endHead
  repeat' first
    | with_reducible rfl | intro _ | rw [State.when_queue] | refine pair_queue (by assumption) ?_
    | refine tripR_queue (by assumption) ?_ | split | dsimp only | simp -implicitDefEqProofs [State.pending_eq]

@[simp] theorem State.failReqs_queue (s : State) (c : Nat) : (State.failReqs s c).queue = s.queue := by simp [State.failReqs, State.pending_eq]
@[simp] theorem State.portLines_queue (s : State) (p : Nat) : (State.portLines s p).queue = s.queue := by
  unfold State.portLines
  repeat' first
    | with_reducible rfl | intro _ | refine pair_queue (by assumption) ?_ | refine tripR_queue (by assumption) ?_ | split
    | dsimp only | simp -implicitDefEqProofs [State.pending_eq]

@[simp] theorem State.chainQuiet_queue (s : State) (c : Nat) : (State.chainQuiet s c).queue = s.queue := by simp [State.chainQuiet, State.pending_eq]
@[simp] theorem State.chainStop_queue (s : State) (c : Nat) (st : Nat) : (State.chainStop s c st).queue = s.queue := by simp [State.chainStop, State.pending_eq]
@[simp] theorem State.txEnd_queue (s : State) (c : Nat) (status : Nat) (early : Bool) : (State.txEnd s c status early).queue = s.queue := by simp [State.txEnd, State.pending_eq]
@[simp] theorem State.muteSet_queue (s : State) (c : Nat) (bits : Nat) : (State.muteSet s c bits).queue = s.queue := by
  unfold State.muteSet
  repeat' first
    | with_reducible rfl | intro _ | split | dsimp only | simp -implicitDefEqProofs [State.pending_eq]

@[simp] theorem State.muteClr_queue (s : State) (c : Nat) (bits : Nat) : (State.muteClr s c bits).queue = s.queue := by simp [State.muteClr, State.pending_eq]
@[simp] theorem State.wrE_queue (s : State) (F : Fld) (e : Nat) (v : Nat) : (State.wrE s F e v).queue = s.queue := by simp [State.wrE, State.pending_eq]
@[simp] theorem State.shiftModel_queue (s : State) (e : Nat) (d : Nat) : (State.shiftModel s e d).queue = s.queue := by simp [State.shiftModel, State.pending_eq]
@[simp] theorem State.shSet_queue (s : State) (n : Nat) (t : Int) : (State.shSet s n t).queue = s.queue := by simp [State.shSet, State.pending_eq]
@[simp] theorem State.shCommit_queue (s : State) (n : Nat) : (State.shCommit s n).queue = s.queue := by simp [State.shCommit, State.pending_eq]
@[simp] theorem State.shCharge_queue (s : State) (n : Nat) (amount : Nat) : (State.shCharge s n amount).queue = s.queue := by simp [State.shCharge, State.pending_eq]
@[simp] theorem State.shTrueUp_queue (s : State) (n : Nat) (epoch : Nat) (d : Int) : (State.shTrueUp s n epoch d).queue = s.queue := by simp [State.shTrueUp, State.pending_eq]
@[simp] theorem State.meterDecide_queue (s : State) (m : Nat) (cIn : Nat) (mode : Nat) (len : Nat) (aware : Bool) : ((State.meterDecide s m cIn mode len aware).2).queue = s.queue := by
  unfold State.meterDecide
  conv => lhs; arg 1; dsimp only
  repeat' first
    | with_reducible rfl | intro _ | refine pair_queue (by assumption) ?_ | refine tripR_queue (by assumption) ?_ | split
    | dsimp only | simp -implicitDefEqProofs [State.pending_eq]

@[simp] theorem State.meterFill_queue (s : State) (m : Nat) : (State.meterFill s m).queue = s.queue := by simp [State.meterFill, State.pending_eq]
@[simp] theorem State.meterCommit_queue (s : State) (m : Nat) : (State.meterCommit s m).queue = s.queue := by simp [State.meterCommit, State.pending_eq]
@[simp] theorem State.meterPass_queue (s : State) (h : Nat) (m : Nat) (aware : Bool) (mode : Nat) (len : Nat) (x : Metered) : ((State.meterPass s h m aware mode len x).2).queue = s.queue := by
  unfold State.meterPass
  repeat' first
    | with_reducible rfl | intro _ | refine pair_queue (by assumption) ?_ | refine tripR_queue (by assumption) ?_ | split
    | dsimp only | simp -implicitDefEqProofs [State.pending_eq]

@[simp] theorem State.refreshQueue_queue (s : State) (h : Nat) (q : Nat) : (State.refreshQueue s h q).queue = s.queue := by simp [State.refreshQueue, State.pending_eq]
@[simp] theorem State.refreshFlows_queue (s : State) : (State.refreshFlows s).queue = s.queue := by simp [State.refreshFlows, State.pending_eq]
@[simp] theorem State.refreshAll_queue (s : State) : (State.refreshAll s).queue = s.queue := by simp [State.refreshAll, State.pending_eq]
@[simp] theorem State.refreshOne_queue (s : State) (h : Nat) (q : Nat) : (State.refreshOne s h q).queue = s.queue := by simp [State.refreshOne, State.pending_eq]
@[simp] theorem State.cellsAdd_queue (s : State) (h : Nat) (k : Nat) : (State.cellsAdd s h k).queue = s.queue := by simp [State.cellsAdd, State.pending_eq]
@[simp] theorem State.cellsDrop_queue (s : State) (h : Nat) (k : Nat) : (State.cellsDrop s h k).queue = s.queue := by simp [State.cellsDrop, State.pending_eq]
@[simp] theorem State.enqueue_queue (s : State) (d : Down) : ((State.enqueue s d).2).queue = s.queue := by
  unfold State.enqueue
  repeat' first
    | with_reducible rfl | intro _ | rw [State.when_queue] | refine pair_queue (by assumption) ?_
    | refine tripR_queue (by assumption) ?_ | split | dsimp only | simp -implicitDefEqProofs [State.pending_eq]

@[simp] theorem State.takeIn_queue (s : State) (d : Down) : ((State.takeIn s d).2).queue = s.queue := by
  unfold State.takeIn
  repeat' first
    | with_reducible rfl | intro _ | refine pair_queue (by assumption) ?_ | refine tripR_queue (by assumption) ?_ | split
    | dsimp only | simp -implicitDefEqProofs [State.pending_eq]

@[simp] theorem State.setDown_queue (s : State) (d : Down) : (State.setDown s d).queue = s.queue := by simp [State.setDown, State.pending_eq]
@[simp] theorem State.release_queue (s : State) (d : Down) (o : Nat) : (State.release s d o).queue = s.queue := by simp [State.release, State.pending_eq]
@[simp] theorem State.unrelease_queue (s : State) (d : Down) : (State.unrelease s d).queue = s.queue := by simp [State.unrelease, State.pending_eq]
@[simp] theorem State.giveBack_queue (s : State) (d : Down) (elig : Option Nat) : (State.giveBack s d elig).queue = s.queue := by
  unfold State.giveBack
  repeat' first
    | with_reducible rfl | intro _ | rw [State.when_queue] | refine pair_queue (by assumption) ?_
    | refine tripR_queue (by assumption) ?_ | split | dsimp only | simp -implicitDefEqProofs [State.pending_eq]

@[simp] theorem State.routeFail_queue (s : State) (h : Nat) (e : Nat) : (State.routeFail s h e).queue = s.queue := by simp [State.routeFail, State.pending_eq]
@[simp] theorem State.downCounts_queue (s : State) (d : Down) (status : Nat) : (State.downCounts s d status).queue = s.queue := by
  unfold State.downCounts
  repeat' first
    | with_reducible rfl | intro _ | refine pair_queue (by assumption) ?_ | refine tripR_queue (by assumption) ?_ | split
    | dsimp only | simp -implicitDefEqProofs [State.pending_eq]

@[simp] theorem State.rememberAck_queue (s : State) (d : Down) : (State.rememberAck s d).queue = s.queue := by simp [State.rememberAck, State.pending_eq]
@[simp] theorem State.downOut_queue (s : State) (d : Down) : (State.downOut s d).queue = s.queue := by simp [State.downOut, State.pending_eq]
@[simp] theorem State.downEnd_queue (s : State) (d : Down) (status : Nat) : (State.downEnd s d status).queue = s.queue := by
  unfold State.downEnd
  repeat' first
    | with_reducible rfl | intro _ | refine pair_queue (by assumption) ?_ | refine tripR_queue (by assumption) ?_ | split
    | dsimp only | simp -implicitDefEqProofs [State.pending_eq]

@[simp] theorem State.flushQueue_queue (s : State) (q : Nat) (status : Nat) : (State.flushQueue s q status).queue = s.queue := by simp [State.flushQueue, State.pending_eq]
@[simp] theorem State.sweepExpired_queue (s : State) : (State.sweepExpired s).queue = s.queue := by simp [State.sweepExpired, State.pending_eq]
@[simp] theorem State.coexDrive_queue (s : State) : (State.coexDrive s).queue = s.queue := by simp [State.coexDrive, State.pending_eq]
@[simp] theorem State.coexRelease_queue (s : State) (c : Nat) : (State.coexRelease s c).queue = s.queue := by simp [State.coexRelease, State.pending_eq]
@[simp] theorem State.coexLater_queue (s : State) (c : Nat) (cmp : Nat) : (State.coexLater s c cmp).queue = s.queue := by simp [State.coexLater, State.pending_eq]
@[simp] theorem State.coexDue_queue (s : State) : (State.coexDue s).queue = s.queue := by simp [State.coexDue, State.pending_eq]
@[simp] theorem State.disarm_queue (s : State) (n : Nat) : (State.disarm s n).queue = s.queue := by
  unfold State.disarm
  repeat' first
    | with_reducible rfl | intro _ | split | dsimp only | simp -implicitDefEqProofs [State.pending_eq]

@[simp] theorem State.withdraw_queue (s : State) (d : Down) : (State.withdraw s d).queue = s.queue := by
  unfold State.withdraw
  repeat' first
    | with_reducible rfl | intro _ | refine pair_queue (by assumption) ?_ | refine tripR_queue (by assumption) ?_ | split
    | dsimp only | simp -implicitDefEqProofs [State.pending_eq]

@[simp] theorem State.callBack_queue (s : State) (e : Nat) : (State.callBack s e).queue = s.queue := by simp [State.callBack, State.pending_eq]
@[simp] theorem State.putThread_queue (s : State) (g : Nat) (v : Nat) : (State.putThread s g v).queue = s.queue := by simp [State.putThread, State.pending_eq]
@[simp] theorem State.pcNext_queue (s : State) (g : Nat) : (State.pcNext s g).queue = s.queue := by simp [State.pcNext, State.pending_eq]
@[simp] theorem State.resume_queue (s : State) (g : Nat) : (State.resume s g).queue = s.queue := by simp [State.resume, State.pending_eq]
@[simp] theorem State.edge_queue (s : State) (g : Nat) (k : Nat) : (State.edge s g k).queue = s.queue := by simp [State.edge, State.pending_eq]
@[simp] theorem State.threadStep_queue (s : State) (old : Nat) (new : Nat) (g : Nat) : (State.threadStep s old new g).queue = s.queue := by simp [State.threadStep, State.pending_eq]
@[simp] theorem State.stopThread_queue (s : State) (g : Nat) (epc : Nat) (cause : Nat) (eval : Nat) : (State.stopThread s g epc cause eval).queue = s.queue := by simp [State.stopThread, State.pending_eq]
@[simp] theorem State.idleThread_queue (s : State) (g : Nat) : (State.idleThread s g).queue = s.queue := by simp [State.idleThread, State.pending_eq]
@[simp] theorem State.downReset_queue (s : State) (d : Down) : (State.downReset s d).queue = s.queue := by simp [State.downReset, State.pending_eq]
@[simp] theorem State.hedgeStop_queue (s : State) (h : Nat) : (State.hedgeStop s h).queue = s.queue := by simp [State.hedgeStop, State.pending_eq]
@[simp] theorem State.hedgeReset_queue (s : State) (h : Nat) (cause : Nat) : (State.hedgeReset s h cause).queue = s.queue := by simp [State.hedgeReset, State.pending_eq]
@[simp] theorem State.resetTo_queue (s : State) : (State.resetTo s).queue = s.queue := by simp [State.resetTo, State.pending_eq]
@[simp] theorem State.missAdd_queue (s : State) (n : Nat) (lo : Nat) (hi : Nat) : (State.missAdd s n lo hi).queue = s.queue := by simp [State.missAdd, State.pending_eq]
@[simp] theorem State.pendMissed_queue (s : State) : (State.pendMissed s).queue = s.queue := by simp [State.pendMissed, State.pending_eq]
@[simp] theorem State.addCause_queue (s : State) (bit : Nat) : (State.addCause s bit).queue = s.queue := by simp [State.addCause, State.pending_eq]
@[simp] theorem State.takeCore_queue (s : State) (bit : Nat) : (State.takeCore s bit).queue = s.queue := by simp [State.takeCore, State.pending_eq]
@[simp] theorem State.takeSys_queue (s : State) (level : Nat) (bit : Nat) (fault : Bool) : (State.takeSys s level bit fault).queue = s.queue := by
  unfold State.takeSys
  repeat' first
    | with_reducible rfl | intro _ | split | dsimp only | simp -implicitDefEqProofs [State.pending_eq]

@[simp] theorem State.stampReset_queue (s : State) (level : Nat) : (State.stampReset s level).queue = s.queue := by simp [State.stampReset, State.pending_eq]
@[simp] theorem State.muteFault_queue (s : State) : (State.muteFault s).queue = s.queue := by simp [State.muteFault, State.pending_eq]
@[simp] theorem State.haltEngines_queue (s : State) : (State.haltEngines s).queue = s.queue := by simp [State.haltEngines, State.pending_eq]
@[simp] theorem State.safeState_queue (s : State) : (State.safeState s).queue = s.queue := by simp [State.safeState, State.pending_eq]
@[simp] theorem State.act_queue (s : State) (action : Nat) (hedge : Option Nat) (injected : Bool) : (State.act s action hedge injected).queue = s.queue := by
  unfold State.act
  repeat' first
    | with_reducible rfl | intro _ | rw [State.when_queue] | refine pair_queue (by assumption) ?_
    | refine tripR_queue (by assumption) ?_ | split | dsimp only | simp -implicitDefEqProofs [State.pending_eq]

@[simp] theorem State.fault_queue (s : State) (code : Nat) (unit : Nat) (action : Nat) (hedge : Option Nat) (addr : Nat) (count : Nat) (detail : List (Nat × List Nat)) (injected : Bool) : (State.fault s code unit action hedge addr count detail injected).queue = s.queue := by simp [State.fault, State.pending_eq]
@[simp] theorem State.sourceFault_queue (s : State) (code : Nat) (unit : Nat) (action : Nat) (bit : Nat) (injected : Bool) : (State.sourceFault s code unit action bit injected).queue = s.queue := by simp [State.sourceFault, State.pending_eq]
@[simp] theorem State.busErr_queue (s : State) (r : Req) (off : Nat) : (State.busErr s r off).queue = s.queue := by simp [State.busErr, State.pending_eq]
@[simp] theorem State.onBus_queue (s : State) (r : Req) (off : Nat) (f : State → Host.Outcome State Fault Refusal) (hf : ∀ u, (next u (f u)).queue = u.queue) : (next s (State.onBus s r off f)).queue = s.queue := by
  unfold State.onBus
  repeat' first
    | with_reducible rfl | intro _ | (rw [State.onPriv_queue]) | (rw [State.onRead_queue]) | (rw [hf])
    | refine pair_queue (by assumption) ?_ | refine tripR_queue (by assumption) ?_ | split | dsimp only
    | simp -implicitDefEqProofs [State.pending_eq]

@[simp] theorem State.onPriv_queue (s : State) (r : Req) (off : Nat) (f : State → Host.Outcome State Fault Refusal) (hf : ∀ u, (next u (f u)).queue = u.queue) : (next s (State.onPriv s r off f)).queue = s.queue := by
  unfold State.onPriv
  repeat' first
    | with_reducible rfl | intro _ | (rw [State.onBus_queue]) | (rw [State.onRead_queue]) | (rw [hf]) | split | dsimp only
    | simp -implicitDefEqProofs [State.pending_eq]

@[simp] theorem State.onRead_queue (s : State) (r : Req) (off : Nat) (f : State → Host.Outcome State Fault Refusal) (hf : ∀ u, (next u (f u)).queue = u.queue) : (next s (State.onRead s r off f)).queue = s.queue := by
  unfold State.onRead
  repeat' first
    | with_reducible rfl | intro _ | (rw [State.onBus_queue]) | (rw [State.onPriv_queue]) | (rw [hf])
    | refine pair_queue (by assumption) ?_ | refine tripR_queue (by assumption) ?_ | split | dsimp only
    | simp -implicitDefEqProofs [State.pending_eq]

@[simp] theorem State.inFlight_queue (s : State) (pick : LaneFrame → Bool) (f : LaneFrame → LaneFrame) : (State.inFlight s pick f).queue = s.queue := by simp [State.inFlight, State.pending_eq]
@[simp] theorem State.laneIdle_queue (s : State) (l : Nat) : (State.laneIdle s l).queue = s.queue := by simp [State.laneIdle, State.pending_eq]
@[simp] theorem State.laneDrop_queue (s : State) (l : Nat) : (State.laneDrop s l).queue = s.queue := by simp [State.laneDrop, State.pending_eq]
@[simp] theorem State.branchOk_queue (s : State) (l : Nat) (p : Nat) (ok : Bool) : (State.branchOk s l p ok).queue = s.queue := by
  unfold State.branchOk
  repeat' first
    | with_reducible rfl | intro _ | (rw [State.onBus_queue]) | (rw [State.onPriv_queue]) | (rw [State.onRead_queue])
    | refine pair_queue (by assumption) ?_ | refine tripR_queue (by assumption) ?_ | split | dsimp only
    | simp -implicitDefEqProofs [State.pending_eq]

@[simp] theorem State.gainStep_queue (s : State) (p : Nat) (idx : Nat) : (State.gainStep s p idx).queue = s.queue := by simp [State.gainStep, State.pending_eq]
@[simp] theorem State.clipWindow_queue (s : State) (p : Nat) : (State.clipWindow s p).queue = s.queue := by simp [State.clipWindow, State.pending_eq]
@[simp] theorem execAgcWindowEnd_queue (p : Nat) (peak : Int) (clipped : Bool) (s : State) : (next s (execAgcWindowEnd p peak clipped s)).queue = s.queue := by
  unfold execAgcWindowEnd
  repeat' first
    | with_reducible rfl | intro _ | rw [State.each_queue] | (rw [State.onBus_queue]) | (rw [State.onPriv_queue])
    | (rw [State.onRead_queue]) | split | dsimp only | simp -implicitDefEqProofs [State.pending_eq]

@[simp] theorem execAgcUpHoldExpire_queue (p : Nat) (s : State) : (next s (execAgcUpHoldExpire p s)).queue = s.queue := by
  unfold execAgcUpHoldExpire
  repeat' first
    | with_reducible rfl | intro _ | (rw [State.onBus_queue]) | (rw [State.onPriv_queue]) | (rw [State.onRead_queue]) | split
    | dsimp only | simp -implicitDefEqProofs [State.pending_eq]

@[simp] theorem execAgcThrWrite_queue (r : Req) (p : Nat) (v : Nat) (s : State) : (next s (execAgcThrWrite r p v s)).queue = s.queue := by
  unfold execAgcThrWrite
  repeat' first
    | with_reducible rfl | intro _ | (rw [State.onBus_queue]) | (rw [State.onPriv_queue]) | (rw [State.onRead_queue]) | split
    | dsimp only | simp -implicitDefEqProofs [State.pending_eq]

@[simp] theorem State.loTune_queue (s : State) (p : Nat) : (State.loTune s p).queue = s.queue := by simp [State.loTune, State.pending_eq]
@[simp] theorem State.loEnable_queue (s : State) (p : Nat) (en : Bool) : (State.loEnable s p en).queue = s.queue := by simp [State.loEnable, State.pending_eq]
@[simp] theorem State.portStart_queue (s : State) (p : Nat) : (State.portStart s p).queue = s.queue := by simp [State.portStart, State.pending_eq]
@[simp] theorem execAprxCtlWrite_queue (r : Req) (p : Nat) (v : Nat) (s : State) : (next s (execAprxCtlWrite r p v s)).queue = s.queue := by
  unfold execAprxCtlWrite
  repeat' first
    | with_reducible rfl | intro _ | (rw [State.onBus_queue]) | (rw [State.onPriv_queue]) | (rw [State.onRead_queue]) | split
    | dsimp only | simp -implicitDefEqProofs [State.pending_eq]

@[simp] theorem execLoMhzWrite_queue (r : Req) (p : Nat) (v : Nat) (s : State) : (next s (execLoMhzWrite r p v s)).queue = s.queue := by
  unfold execLoMhzWrite
  repeat' first
    | with_reducible rfl | intro _ | (rw [State.onBus_queue]) | (rw [State.onPriv_queue]) | (rw [State.onRead_queue]) | split
    | dsimp only | simp -implicitDefEqProofs [State.pending_eq]

@[simp] theorem execDdcWrite_queue (r : Req) (d : Nat) (off : Nat) (v : Nat) (s : State) : (next s (execDdcWrite r d off v s)).queue = s.queue := by
  unfold execDdcWrite
  repeat' first
    | with_reducible rfl | intro _ | (rw [State.onBus_queue]) | (rw [State.onPriv_queue]) | (rw [State.onRead_queue]) | split
    | dsimp only | simp -implicitDefEqProofs [State.pending_eq]

@[simp] theorem State.laneCfgPut_queue (s : State) (l : Nat) (v : Nat) : (State.laneCfgPut s l v).queue = s.queue := by simp [State.laneCfgPut, State.pending_eq]
@[simp] theorem State.lanePendBit_queue (s : State) (l : Nat) : (State.lanePendBit s l).queue = s.queue := by simp [State.lanePendBit, State.pending_eq]
@[simp] theorem State.lanePending_queue (s : State) (l : Nat) : (State.lanePending s l).queue = s.queue := by simp [State.lanePending, State.pending_eq]
@[simp] theorem execLaneCfgWrite_queue (r : Req) (l : Nat) (v : Nat) (s : State) : (next s (execLaneCfgWrite r l v s)).queue = s.queue := by
  unfold execLaneCfgWrite
  repeat' first
    | with_reducible rfl | intro _ | (rw [State.onBus_queue]) | (rw [State.onPriv_queue]) | (rw [State.onRead_queue]) | split
    | dsimp only | simp -implicitDefEqProofs [State.pending_eq]

@[simp] theorem execLaneModesWrite_queue (r : Req) (l : Nat) (v : Nat) (s : State) : (next s (execLaneModesWrite r l v s)).queue = s.queue := by
  unfold execLaneModesWrite
  repeat' first
    | with_reducible rfl | intro _ | (rw [State.onBus_queue]) | (rw [State.onPriv_queue]) | (rw [State.onRead_queue]) | split
    | dsimp only | simp -implicitDefEqProofs [State.pending_eq]

@[simp] theorem State.mapSet_queue (s : State) (m : EnergyMap) : (State.mapSet s m).queue = s.queue := by simp [State.mapSet, State.pending_eq]
@[simp] theorem State.mapStart_queue (s : State) (n : Nat) : (State.mapStart s n).queue = s.queue := by simp [State.mapStart, State.pending_eq]
@[simp] theorem execSliceFcWrite_queue (r : Req) (n : Nat) (v : Nat) (s : State) : (next s (execSliceFcWrite r n v s)).queue = s.queue := by
  unfold execSliceFcWrite
  repeat' first
    | with_reducible rfl | intro _ | (rw [State.onBus_queue]) | (rw [State.onPriv_queue]) | (rw [State.onRead_queue]) | split
    | dsimp only | simp -implicitDefEqProofs [State.pending_eq]

@[simp] theorem State.mapsRestart_queue (s : State) : (State.mapsRestart s).queue = s.queue := by simp [State.mapsRestart, State.pending_eq]
@[simp] theorem execSliceCtlWrite_queue (r : Req) (n : Nat) (v : Nat) (s : State) : (next s (execSliceCtlWrite r n v s)).queue = s.queue := by
  unfold execSliceCtlWrite
  repeat' first
    | with_reducible rfl | intro _ | (rw [State.onBus_queue]) | (rw [State.onPriv_queue]) | (rw [State.onRead_queue]) | split
    | dsimp only | simp -implicitDefEqProofs [State.pending_eq]

@[simp] theorem execMapPeriodEnd_queue (n : Nat) (levels : List Int) (clipped : Bool) (s : State) : (next s (execMapPeriodEnd n levels clipped s)).queue = s.queue := by
  unfold execMapPeriodEnd
  repeat' first
    | with_reducible rfl | intro _ | (rw [State.onBus_queue]) | (rw [State.onPriv_queue]) | (rw [State.onRead_queue])
    | refine pair_queue (by assumption) ?_ | refine tripR_queue (by assumption) ?_ | split | dsimp only
    | simp -implicitDefEqProofs [State.pending_eq]

@[simp] theorem execMapStampRefresh_queue (n : Nat) (s : State) : (next s (execMapStampRefresh n s)).queue = s.queue := by
  unfold execMapStampRefresh
  repeat' first
    | with_reducible rfl | intro _ | (rw [State.onBus_queue]) | (rw [State.onPriv_queue]) | (rw [State.onRead_queue])
    | refine pair_queue (by assumption) ?_ | refine tripR_queue (by assumption) ?_ | split | dsimp only
    | simp -implicitDefEqProofs [State.pending_eq]

@[simp] theorem execSliceThrWrite_queue (r : Req) (n : Nat) (v : Nat) (s : State) : (next s (execSliceThrWrite r n v s)).queue = s.queue := by
  unfold execSliceThrWrite
  repeat' first
    | with_reducible rfl | intro _ | (rw [State.onBus_queue]) | (rw [State.onPriv_queue]) | (rw [State.onRead_queue]) | split
    | dsimp only | simp -implicitDefEqProofs [State.pending_eq]

@[simp] theorem State.refreeze_queue (s : State) : (State.refreeze s).queue = s.queue := by simp [State.refreeze, State.pending_eq]
@[simp] theorem State.blankOpen_queue (s : State) (x : OnAir) : (State.blankOpen s x).queue = s.queue := by
  unfold State.blankOpen
  repeat' first
    | with_reducible rfl | intro _ | rw [State.each_queue] | (rw [State.onBus_queue]) | (rw [State.onPriv_queue])
    | (rw [State.onRead_queue]) | refine pair_queue (by assumption) ?_ | refine tripR_queue (by assumption) ?_ | split
    | dsimp only | simp -implicitDefEqProofs [State.pending_eq]

@[simp] theorem execSelfBlankStart_queue (c : Nat) (s : State) : (next s (execSelfBlankStart c s)).queue = s.queue := by
  unfold execSelfBlankStart
  repeat' first
    | with_reducible rfl | intro _ | (rw [State.onBus_queue]) | (rw [State.onPriv_queue]) | (rw [State.onRead_queue])
    | refine pair_queue (by assumption) ?_ | refine tripR_queue (by assumption) ?_ | split | dsimp only
    | simp -implicitDefEqProofs [State.pending_eq]

@[simp] theorem execSelfBlankEnd_queue (c : Nat) (s : State) : (next s (execSelfBlankEnd c s)).queue = s.queue := by
  unfold execSelfBlankEnd
  repeat' first
    | with_reducible rfl | intro _ | (rw [State.onBus_queue]) | (rw [State.onPriv_queue]) | (rw [State.onRead_queue])
    | refine pair_queue (by assumption) ?_ | refine tripR_queue (by assumption) ?_ | split | dsimp only
    | simp -implicitDefEqProofs [State.pending_eq]

@[simp] theorem State.queueUnknown_queue (s : State) (q : Nat) : (State.queueUnknown s q).queue = s.queue := by simp [State.queueUnknown, State.pending_eq]
@[simp] theorem State.writeElig_queue (s : State) (q : Nat) : (State.writeElig s q).queue = s.queue := by simp [State.writeElig, State.pending_eq]
@[simp] theorem State.writeEligs_queue (s : State) (h : Nat) : (State.writeEligs s h).queue = s.queue := by simp [State.writeEligs, State.pending_eq]
@[simp] theorem State.stashShow_queue (s : State) : (State.stashShow s).queue = s.queue := by simp [State.stashShow, State.pending_eq]
theorem State.idxInsert_queue (s : State) (short : Bool) (h : Nat) (key : Nat) (e : Nat) : ∀ t, (State.idxInsert s short h key e) = some t → t.queue = s.queue := by
  intro t ht
  unfold State.idxInsert at ht
  dsimp only at ht
  repeat' split at ht
  all_goals first
    | cases ht
    | (injection ht with ht; subst ht)
    | (obtain ⟨u, hu, rfl⟩ := Option.map_eq_some_iff.1 ht)
  repeat' first
    | with_reducible rfl | intro _ | (rw [State.onBus_queue]) | (rw [State.onPriv_queue]) | (rw [State.onRead_queue])
    | refine pair_queue (by assumption) ?_ | refine tripR_queue (by assumption) ?_ | split | dsimp only
    | simp -implicitDefEqProofs [State.pending_eq]

@[simp] theorem State.idxRemove_queue (s : State) (e : Nat) : (State.idxRemove s e).queue = s.queue := by simp [State.idxRemove, State.pending_eq]
@[simp] theorem State.touch_queue (s : State) (e : Nat) : (State.touch s e).queue = s.queue := by simp [State.touch, State.pending_eq]
@[simp] theorem State.sweepGone_queue (s : State) (h : Nat) (e : Nat) : (State.sweepGone s h e).queue = s.queue := by
  unfold State.sweepGone
  repeat' first
    | with_reducible rfl | intro _ | (rw [State.onBus_queue]) | (rw [State.onPriv_queue]) | (rw [State.onRead_queue])
    | refine pair_queue (by assumption) ?_ | refine tripR_queue (by assumption) ?_ | split | dsimp only
    | simp -implicitDefEqProofs [State.pending_eq]

@[simp] theorem State.campGone_queue (s : State) (h : Nat) (e : Nat) : (State.campGone s h e).queue = s.queue := by simp [State.campGone, State.pending_eq]
@[simp] theorem State.zeroEntry_queue (s : State) (e : Nat) : (State.zeroEntry s e).queue = s.queue := by simp [State.zeroEntry, State.pending_eq]
@[simp] theorem State.freeEntry_queue (s : State) (e : Nat) (cause : Nat) (quiet : Bool) : (State.freeEntry s e cause quiet).queue = s.queue := by simp [State.freeEntry, State.pending_eq]
@[simp] theorem State.revalidate_queue (s : State) (e : Nat) : (State.revalidate s e).queue = s.queue := by
  unfold State.revalidate
  repeat' first
    | with_reducible rfl | intro _ | (rw [State.onBus_queue]) | (rw [State.onPriv_queue]) | (rw [State.onRead_queue]) | split
    | dsimp only | simp -implicitDefEqProofs [State.pending_eq]

@[simp] theorem State.lookup_queue (s : State) (short : Bool) (h : Nat) (key : Nat) : ((State.lookup s short h key).2).queue = s.queue := by
  unfold State.lookup
  repeat' first
    | with_reducible rfl | intro _ | (rw [State.onBus_queue]) | (rw [State.onPriv_queue]) | (rw [State.onRead_queue])
    | refine pair_queue (by assumption) ?_ | refine tripR_queue (by assumption) ?_ | split | dsimp only
    | simp -implicitDefEqProofs [State.pending_eq]

@[simp] theorem State.opened_queue (s : State) (h : Nat) (e : Nat) : (State.opened s h e).queue = s.queue := by simp [State.opened, State.pending_eq]
@[simp] theorem State.takeIndex_queue (s : State) : ((State.takeIndex s).2).queue = s.queue := by simp [State.takeIndex, State.pending_eq]
@[simp] theorem State.evictRandom_queue (s : State) (h n : Nat) : (s.evictRandom h n).2.queue = s.queue := by
  induction n generalizing s with
  | zero => rfl
  | succ n ih =>
    unfold State.evictRandom
    repeat' first
      | (rw [ih])
      | with_reducible rfl | intro _ | rw [State.each_queue] | rw [State.when_queue] | rw [foldl_queue] | rw [foldlL_queue]
      | rw [foldlR_queue] | rw [getD_queue] | refine pair_queue (by assumption) ?_ | refine pairL_queue (by assumption) ?_
      | refine tripR_queue (by assumption) ?_ | refine tripM_queue (by assumption) ?_ | refine quadR_queue (by assumption) ?_
      | split | (rw [State.onBus_queue]) | (rw [State.onPriv_queue]) | (rw [State.onRead_queue]) | (rw [State.applyPending_queue])
      | (rw [State.issue_queue]) | exact State.moveShort_queue _ _ _ _ _ (by assumption)
      | exact State.offerRoute_queue _ _ _ _ _ _ _ _ _ (by assumption)
      | exact State.learnRoutes_queue _ _ _ _ _ _ _ (by assumption) | dsimp only | simp -implicitDefEqProofs [State.pending_eq]

@[simp] theorem State.evictChoice_queue (s : State) (h : Nat) : ((State.evictChoice s h).2).queue = s.queue := by
  unfold State.evictChoice
  repeat' first
    | with_reducible rfl | intro _ | (rw [State.onBus_queue]) | (rw [State.onPriv_queue]) | (rw [State.onRead_queue])
    | refine pair_queue (by assumption) ?_ | refine tripR_queue (by assumption) ?_ | split | dsimp only
    | simp -implicitDefEqProofs [State.pending_eq]

@[simp] theorem State.writeEntry_queue (s : State) (h : Nat) (e : Nat) (g : Nat) (b : NodeBlock) : (State.writeEntry s h e g b).queue = s.queue := by simp [State.writeEntry, State.pending_eq]
@[simp] theorem State.insertNew_queue (s : State) (h : Nat) (b : NodeBlock) (room : Bool) : (s.insertNew h b room).2.queue = s.queue := by
  unfold State.insertNew
  extract_lets full fail
  have hf (u : State) : (fail u).2.queue = u.queue := by simp only [fail, State.bump_queue]
  clear_value fail
  split
  · rw [hf, State.set_queue]
  · split
    · rw [hf, State.set_queue]
    · split
      rename_i v s1 h1
      have q1 : s1.queue = s.queue := by
        refine pair_queue h1 ?_
        split
        · rw [State.evictChoice_queue]
        · rfl
      split
      · rw [hf, q1]
      · extract_lets s2
        have q2 : s2.queue = s.queue := by
          simp only [s2]
          split
          · rw [State.bump_queue, State.freeEntry_queue, q1]
          · exact q1
        clear_value s2
        split
        · rename_i h2
          have q3 := pair_queue h2 (State.takeIndex_queue _)
          split
          · rw [hf, q3, q2]
          · rw [q3, q2]
        · rename_i h2
          have q3 := pair_queue h2 (State.takeIndex_queue _)
          extract_lets g s3 s4 s5
          have q5 : s3.queue = s.queue := by rw [State.put_queue, q3, q2]
          have q6 : s4.queue = s3.queue := getD_queue _ _ fun t ht => State.idxInsert_queue _ _ _ _ _ _ ht
          have q7 : s5.queue = s4.queue := by
            simp only [s5]
            split
            · rfl
            · exact getD_queue _ _ fun t ht => State.idxInsert_queue _ _ _ _ _ _ ht
          rw [State.writeElig_queue, State.touch_queue, State.writeEntry_queue, q7, q6, q5]
@[simp] theorem State.insertNode_queue (s : State) (h : Nat) (b : NodeBlock) (room : Bool) : ((State.insertNode s h b room).2).queue = s.queue := by
  unfold State.insertNode
  repeat' first
    | with_reducible rfl | intro _ | (rw [State.onBus_queue]) | (rw [State.onPriv_queue]) | (rw [State.onRead_queue])
    | refine pair_queue (by assumption) ?_ | refine tripR_queue (by assumption) ?_ | split | dsimp only
    | simp -implicitDefEqProofs [State.pending_eq]

@[simp] theorem State.hit_queue (s : State) (e : Nat) : (State.hit s e).queue = s.queue := by simp [State.hit, State.pending_eq]
@[simp] theorem State.setNodeState_queue (s : State) (e : Nat) (st : Nat) : (State.setNodeState s e st).queue = s.queue := by simp [State.setNodeState, State.pending_eq]
@[simp] theorem State.lose_queue (s : State) (e : Nat) : (State.lose s e).queue = s.queue := by simp [State.lose, State.pending_eq]
@[simp] theorem State.setFlags_queue (s : State) (e : Nat) (flags : Nat) : (State.setFlags s e flags).queue = s.queue := by simp [State.setFlags, State.pending_eq]
@[simp] theorem State.settleLane_queue (s : State) (l : Nat) : (State.settleLane s l).queue = s.queue := by simp [State.settleLane, State.pending_eq]
@[simp] theorem State.settleHedge_queue (s : State) (h : Nat) : (State.settleHedge s h).queue = s.queue := by simp [State.settleHedge, State.pending_eq]
@[simp] theorem State.learn_queue (s : State) (lane : Nat) (h : Nat) : ((State.learn s lane h).2).queue = s.queue := by simp [State.learn, State.pending_eq]
@[simp] theorem execJoinTimeout_queue (e : Nat) (s : State) : (next s (execJoinTimeout e s)).queue = s.queue := by simp [execJoinTimeout, State.pending_eq]
@[simp] theorem execAgingVisit_queue (e : Nat) (s : State) : (next s (execAgingVisit e s)).queue = s.queue := by
  unfold execAgingVisit
  repeat' first
    | with_reducible rfl | intro _ | rw [State.when_queue] | (rw [State.onBus_queue]) | (rw [State.onPriv_queue])
    | (rw [State.onRead_queue]) | split | dsimp only | simp -implicitDefEqProofs [State.pending_eq]

@[simp] theorem State.passStart_queue (s : State) : (State.passStart s).queue = s.queue := by simp [State.passStart, State.pending_eq]
@[simp] theorem execAgingPassEnd_queue (s : State) : (next s (execAgingPassEnd s)).queue = s.queue := by
  unfold execAgingPassEnd
  repeat' first
    | with_reducible rfl | intro _ | rw [State.each_queue] | rw [State.when_queue] | (rw [State.onBus_queue])
    | (rw [State.onPriv_queue]) | (rw [State.onRead_queue]) | split | dsimp only | simp -implicitDefEqProofs [State.pending_eq]

@[simp] theorem execRevalDone_queue (s : State) : (next s (execRevalDone s)).queue = s.queue := by
  unfold execRevalDone
  repeat' first
    | with_reducible rfl | intro _ | rw [State.each_queue] | (rw [State.onBus_queue]) | (rw [State.onPriv_queue])
    | (rw [State.onRead_queue]) | split | dsimp only | simp -implicitDefEqProofs [State.pending_eq]

@[simp] theorem execNodeInsert_queue (c : Cmd) (b : NodeBlock) (s : State) : (next s (execNodeInsert c b s)).queue = s.queue := by
  unfold execNodeInsert
  repeat' first
    | with_reducible rfl | intro _ | (rw [State.onBus_queue]) | (rw [State.onPriv_queue]) | (rw [State.onRead_queue])
    | refine pair_queue (by assumption) ?_ | refine tripR_queue (by assumption) ?_ | split | dsimp only
    | simp -implicitDefEqProofs [State.pending_eq]

@[simp] theorem execNodeDelete_queue (c : Cmd) (e : Nat) (s : State) : (next s (execNodeDelete c e s)).queue = s.queue := by
  unfold execNodeDelete
  extract_lets u
  have q : u.queue = s.queue := State.opened_queue ..
  clear_value u
  split
  · rw [next_next, State.finish_queue, q]
  split
  · rw [next_next, State.finish_queue, q]
  split
  · rw [next_next, State.queue_mk, State.pending_eq, q]
  · rw [next_next, State.finish_queue, State.freeEntry_queue, q]
@[simp] theorem execNodeRead_queue (c : Cmd) (e : Nat) (priv : Bool) (addr : Nat) (s : State) : (next s (execNodeRead c e priv addr s)).queue = s.queue := by
  unfold execNodeRead
  repeat' first
    | with_reducible rfl | intro _ | (rw [State.onBus_queue]) | (rw [State.onPriv_queue]) | (rw [State.onRead_queue]) | split
    | dsimp only | simp -implicitDefEqProofs [State.pending_eq]

theorem State.moveShort_queue (s : State) (h e v : Nat) : ∀ t, s.moveShort h e v = some t → t.queue = s.queue := by
  intro t ht
  unfold State.moveShort at ht
  split at ht
  · cases ht; rfl
  · split at ht
    · cases ht; simp [State.pending_eq]
    · obtain ⟨u, hu, rfl⟩ := Option.map_eq_some_iff.1 ht
      have := State.idxInsert_queue _ _ _ _ _ _ hu
      simp [this, State.pending_eq]
@[simp] theorem State.updateFields_queue (s : State) (e : Nat) (mask : Nat) (flags : Nat) (drift : Nat) (ap : Nat) (power : Nat) (meter : Nat) (rp : List Nat) (pp : List Nat) : (State.updateFields s e mask flags drift ap power meter rp pp).queue = s.queue := by simp [State.updateFields, State.pending_eq]
@[simp] theorem execNodeUpdate_queue (c : Cmd) (e mask short flags drift ap power meter addr : Nat) (s : State) :
    (next s (execNodeUpdate c e mask short flags drift ap power meter addr s)).queue = s.queue := by
  unfold execNodeUpdate
  extract_lets u h
  have q0 : u.queue = s.queue := State.opened_queue ..
  clear_value u h
  split
  · rw [next_next, State.finish_queue, q0]
  split
  · rw [next_next, State.finish_queue, q0]
  split
  · rw [next_next, State.finish_queue, q0]
  split
  · rw [next_next, State.finish_queue, q0]
  split
  · rw [next_next, State.finish_queue, State.set_queue, q0]
  rename_i h1
  have q : ∀ t, (if bit mask 0 = true then u.moveShort h e short else some u) = some t → t.queue = u.queue := by
    intro t ht
    split at ht
    · exact State.moveShort_queue _ _ _ _ _ ht
    · cases ht; rfl
  have q1 := q _ h1
  extract_lets rp pp
  clear_value rp pp
  rw [next_next, State.finish_queue, State.writeEligs_queue, State.updateFields_queue, q1, q0]
@[simp] theorem execNodePin_queue (c : Cmd) (e : Nat) (s : State) : (next s (execNodePin c e s)).queue = s.queue := by
  unfold execNodePin
  repeat' first
    | with_reducible rfl | intro _ | (rw [State.onBus_queue]) | (rw [State.onPriv_queue]) | (rw [State.onRead_queue]) | split
    | dsimp only | simp -implicitDefEqProofs [State.pending_eq]

@[simp] theorem execNodeUnpin_queue (c : Cmd) (e : Nat) (s : State) : (next s (execNodeUnpin c e s)).queue = s.queue := by
  unfold execNodeUnpin
  repeat' first
    | with_reducible rfl | intro _ | (rw [State.onBus_queue]) | (rw [State.onPriv_queue]) | (rw [State.onRead_queue]) | split
    | dsimp only | simp -implicitDefEqProofs [State.pending_eq]

@[simp] theorem execNodeTouch_queue (c : Cmd) (e : Nat) (s : State) : (next s (execNodeTouch c e s)).queue = s.queue := by
  unfold execNodeTouch
  repeat' first
    | with_reducible rfl | intro _ | (rw [State.onBus_queue]) | (rw [State.onPriv_queue]) | (rw [State.onRead_queue]) | split
    | dsimp only | simp -implicitDefEqProofs [State.pending_eq]

@[simp] theorem execNodeList_queue (c : Cmd) (st : Nat) (start : Nat) (addr : Nat) (s : State) : (next s (execNodeList c st start addr s)).queue = s.queue := by
  unfold execNodeList
  repeat' first
    | with_reducible rfl | intro _ | (rw [State.onBus_queue]) | (rw [State.onPriv_queue]) | (rw [State.onRead_queue])
    | refine pair_queue (by assumption) ?_ | refine tripR_queue (by assumption) ?_ | split | dsimp only
    | simp -implicitDefEqProofs [State.pending_eq]

@[simp] theorem execThkQuotaWrite_queue (r : Req) (h : Nat) (v : Nat) (s : State) : (next s (execThkQuotaWrite r h v s)).queue = s.queue := by
  unfold execThkQuotaWrite
  repeat' first
    | with_reducible rfl | intro _ | (rw [State.onBus_queue]) | (rw [State.onPriv_queue]) | (rw [State.onRead_queue]) | split
    | dsimp only | simp -implicitDefEqProofs [State.pending_eq]

@[simp] theorem State.skipCounters_queue (s : State) : (State.skipCounters s).queue = s.queue := by simp [State.skipCounters, State.pending_eq]
@[simp] theorem State.orphanCpl_queue (s : State) (x : Nat × Nat × Nat × Nat) : (State.orphanCpl s x).queue = s.queue := by simp [State.orphanCpl, State.pending_eq]
@[simp] theorem State.beActive_queue (s : State) : (State.beActive s).queue = s.queue := by simp [State.beActive, State.pending_eq]
@[simp] theorem State.takeover_queue (s : State) (cause : Nat) : (State.takeover s cause).queue = s.queue := by simp [State.takeover, State.pending_eq]
@[simp] theorem State.decide461_queue (s : State) : (State.decide461 s).queue = s.queue := by
  unfold State.decide461
  repeat' first
    | with_reducible rfl | intro _ | rw [State.when_queue] | (rw [State.onBus_queue]) | (rw [State.onPriv_queue])
    | (rw [State.onRead_queue]) | refine pair_queue (by assumption) ?_ | refine tripR_queue (by assumption) ?_ | split
    | dsimp only | simp -implicitDefEqProofs [State.pending_eq]

@[simp] theorem State.hbEdge_queue (s : State) (source : Nat) : (State.hbEdge s source).queue = s.queue := by simp [State.hbEdge, State.pending_eq]
@[simp] theorem State.setClock_queue (s : State) (t : Nat) : (State.setClock s t).queue = s.queue := by simp [State.setClock, State.pending_eq]
@[simp] theorem State.setSlew_queue (s : State) (adj : Int) (cnt : Nat) : (State.setSlew s adj cnt).queue = s.queue := by simp [State.setSlew, State.pending_eq]
@[simp] theorem State.nscCycle_queue (s : State) : (State.nscCycle s).queue = s.queue := by simp [State.nscCycle, State.pending_eq]
@[simp] theorem execSlewCountExpire_queue (s : State) : (next s (execSlewCountExpire s)).queue = s.queue := by simp [execSlewCountExpire, State.pending_eq]
@[simp] theorem execNscIncWrite_queue (r : Req) (v : Nat) (s : State) : (next s (execNscIncWrite r v s)).queue = s.queue := by simp [execNscIncWrite, State.pending_eq]
@[simp] theorem execNscNowNsRead_queue (r : Req) (s : State) : (next s (execNscNowNsRead r s)).queue = s.queue := by simp [execNscNowNsRead, State.pending_eq]
@[simp] theorem State.ptStep_queue (s : State) (old : Nat) (new : Nat) (n : Nat) : (State.ptStep s old new n).queue = s.queue := by
  unfold State.ptStep
  repeat' first
    | with_reducible rfl | intro _ | rw [State.when_queue] | (rw [State.onBus_queue]) | (rw [State.onPriv_queue])
    | (rw [State.onRead_queue]) | split | dsimp only | simp -implicitDefEqProofs [State.pending_eq]

@[simp] theorem State.fixStep_queue (s : State) (old : Nat) (new : Nat) : (State.fixStep s old new).queue = s.queue := by simp [State.fixStep, State.pending_eq]
@[simp] theorem State.stepClock_queue (s : State) (t : Nat) : (State.stepClock s t).queue = s.queue := by
  unfold State.stepClock
  dsimp only
  rw [State.fixStep_queue, State.putI_queue, State.putI_queue, State.each_queue _ _ _ fun _ _ => State.threadStep_queue ..,
    State.each_queue _ _ _ fun _ _ => State.ptStep_queue .., State.record_queue, State.set_queue, State.put_queue, State.put_queue,
    State.put_queue, State.setSlew_queue, State.setClock_queue]

@[simp] theorem State.stepRules_queue (s : State) (d : Int) : (State.stepRules s d).queue = s.queue := by simp [State.stepRules, State.pending_eq]
@[simp] theorem State.hostStep_queue (s : State) (d : Int) : (State.hostStep s d).queue = s.queue := by simp [State.hostStep, State.pending_eq]
@[simp] theorem execNscSet_queue (r : Req) (s : State) : (next s (execNscSet r s)).queue = s.queue := by simp [execNscSet, State.pending_eq]
@[simp] theorem execNscStep_queue (r : Req) (s : State) : (next s (execNscStep r s)).queue = s.queue := by simp [execNscStep, State.pending_eq]
@[simp] theorem execNscSlewCntWrite_queue (r : Req) (v : Nat) (s : State) : (next s (execNscSlewCntWrite r v s)).queue = s.queue := by simp [execNscSlewCntWrite, State.pending_eq]
@[simp] theorem State.srcSelect_queue (s : State) (k : Nat) : (State.srcSelect s k).queue = s.queue := by simp [State.srcSelect, State.pending_eq]
@[simp] theorem State.servoWrite_queue (s : State) : (State.servoWrite s).queue = s.queue := by simp [State.servoWrite, State.pending_eq]
@[simp] theorem State.enterHoldover_queue (s : State) : (State.enterHoldover s).queue = s.queue := by simp [State.enterHoldover, State.pending_eq]
@[simp] theorem State.servoSample_queue (s : State) (err : Int) : (State.servoSample s err).queue = s.queue := by
  unfold State.servoSample
  repeat' first
    | with_reducible rfl | intro _ | (rw [State.onBus_queue]) | (rw [State.onPriv_queue]) | (rw [State.onRead_queue])
    | refine pair_queue (by assumption) ?_ | refine tripR_queue (by assumption) ?_ | split | dsimp only
    | simp -implicitDefEqProofs [State.pending_eq]

@[simp] theorem State.srcLost_queue (s : State) (k : Nat) : (State.srcLost s k).queue = s.queue := by
  unfold State.srcLost
  repeat' first
    | with_reducible rfl | intro _ | (rw [State.onBus_queue]) | (rw [State.onPriv_queue]) | (rw [State.onRead_queue])
    | refine pair_queue (by assumption) ?_ | refine tripR_queue (by assumption) ?_ | split | dsimp only
    | simp -implicitDefEqProofs [State.pending_eq]

@[simp] theorem State.srcSeen_queue (s : State) (k : Nat) : (State.srcSeen s k).queue = s.queue := by simp [State.srcSeen, State.pending_eq]
@[simp] theorem State.srcReview_queue (s : State) : (State.srcReview s).queue = s.queue := by simp [State.srcReview, State.pending_eq]
@[simp] theorem State.ppsCfg_queue (s : State) (v : Nat) : (State.ppsCfg s v).queue = s.queue := by simp [State.ppsCfg, State.pending_eq]
@[simp] theorem execPpsEdge_queue (n : Nat) (s : State) : (next s (execPpsEdge n s)).queue = s.queue := by
  unfold execPpsEdge
  by_cases hc : s.on TIME.PPS_CFG_EN = true
  · rw [if_neg (by simp [hc])]
    extract_lets gap good run s1 s2 pol s3 s4
    rw [next_next]
    have h2 : s2.queue = s1.queue := by rw [State.when_queue]; rw [State.set_queue]
    have h1 : s1.queue = s.queue := by simp only [s1, State.set_queue, State.put_queue]
    have h3 : s3.queue = s2.queue := by
      rw [State.when_queue, State.put_queue]; rw [State.set_queue]
    have h4 : s4.queue = s3.queue := State.srcSeen_queue ..
    split
    · rw [State.servoSample_queue, h4, h3, h2, h1]
    · rw [h4, h3, h2, h1]
  · rw [if_pos (by simp [hc])]; rfl
@[simp] theorem execPpsLossTimeout_queue (s : State) : (next s (execPpsLossTimeout s)).queue = s.queue := by
  unfold execPpsLossTimeout
  repeat' first
    | with_reducible rfl | intro _ | (rw [State.onBus_queue]) | (rw [State.onPriv_queue]) | (rw [State.onRead_queue]) | split
    | dsimp only | simp -implicitDefEqProofs [State.pending_eq]

@[simp] theorem execPpsOpenCheck_queue (isOpen : Bool) (s : State) : (next s (execPpsOpenCheck isOpen s)).queue = s.queue := by
  unfold execPpsOpenCheck
  repeat' first
    | with_reducible rfl | intro _ | (rw [State.onBus_queue]) | (rw [State.onPriv_queue]) | (rw [State.onRead_queue]) | split
    | dsimp only | simp -implicitDefEqProofs [State.pending_eq]

@[simp] theorem State.ptpGone_queue (s : State) (p : Nat) : (State.ptpGone s p).queue = s.queue := by simp [State.ptpGone, State.pending_eq]
@[simp] theorem State.ptpClock_queue (s : State) (p : Nat) (m : PtpMsg) : (State.ptpClock s p m).queue = s.queue := by
  unfold State.ptpClock
  repeat' first
    | with_reducible rfl | intro _ | rw [State.when_queue] | (rw [State.onBus_queue]) | (rw [State.onPriv_queue])
    | (rw [State.onRead_queue]) | refine pair_queue (by assumption) ?_ | refine tripR_queue (by assumption) ?_ | split
    | dsimp only | simp -implicitDefEqProofs [State.pending_eq]

@[simp] theorem State.tcForward_queue (s : State) (p : Nat) (m : PtpMsg) : (State.tcForward s p m).queue = s.queue := by
  unfold State.tcForward
  repeat' first
    | with_reducible rfl | intro _ | (rw [State.onBus_queue]) | (rw [State.onPriv_queue]) | (rw [State.onRead_queue])
    | refine pair_queue (by assumption) ?_ | refine tripR_queue (by assumption) ?_ | split | dsimp only
    | simp -implicitDefEqProofs [State.pending_eq]

@[simp] theorem execPtpMsgRx_queue (p : Nat) (m : PtpMsg) (s : State) : (next s (execPtpMsgRx p m s)).queue = s.queue := by
  unfold execPtpMsgRx
  repeat' first
    | with_reducible rfl | intro _ | (rw [State.onBus_queue]) | (rw [State.onPriv_queue]) | (rw [State.onRead_queue])
    | refine pair_queue (by assumption) ?_ | refine tripR_queue (by assumption) ?_ | split | dsimp only
    | simp -implicitDefEqProofs [State.pending_eq]

@[simp] theorem execPtpSyncTimeout_queue (p : Nat) (s : State) : (next s (execPtpSyncTimeout p s)).queue = s.queue := by
  unfold execPtpSyncTimeout
  repeat' first
    | with_reducible rfl | intro _ | (rw [State.onBus_queue]) | (rw [State.onPriv_queue]) | (rw [State.onRead_queue]) | split
    | dsimp only | simp -implicitDefEqProofs [State.pending_eq]

@[simp] theorem State.cuShow_queue (s : State) (n : Nat) : (State.cuShow s n).queue = s.queue := by simp [State.cuShow, State.pending_eq]
@[simp] theorem State.cuCapture_queue (s : State) (n : Nat) : (State.cuCapture s n).queue = s.queue := by simp [State.cuCapture, State.pending_eq]
@[simp] theorem execCuEdge_queue (source : Nat) (rising : Bool) (s : State) : (next s (execCuEdge source rising s)).queue = s.queue := by simp [execCuEdge, State.pending_eq]
@[simp] theorem execCuPop_queue (r : Req) (n : Nat) (v : Nat) (s : State) : (next s (execCuPop r n v s)).queue = s.queue := by
  unfold execCuPop
  repeat' first
    | with_reducible rfl | intro _ | (rw [State.onBus_queue]) | (rw [State.onPriv_queue]) | (rw [State.onRead_queue])
    | refine pair_queue (by assumption) ?_ | refine tripR_queue (by assumption) ?_ | split | dsimp only
    | simp -implicitDefEqProofs [State.pending_eq]

@[simp] theorem State.sense_queue (s : State) (n : Nat) : (State.sense s n).queue = s.queue := by simp [State.sense, State.pending_eq]
@[simp] theorem State.pushReq_queue (s : State) (r : TxReq) : (State.pushReq s r).queue = s.queue := by simp [State.pushReq, State.pending_eq]
@[simp] theorem State.orFlag_queue (s : State) (c : Nat) (k : Nat) : (State.orFlag s c k).queue = s.queue := by simp [State.orFlag, State.pending_eq]
@[simp] theorem State.putFlag_queue (s : State) (c : Nat) (k : Nat) (v : Bool) : (State.putFlag s c k v).queue = s.queue := by simp [State.putFlag, State.pending_eq]
@[simp] theorem State.calNext_queue (s : State) (c : Nat) : (State.calNext s c).queue = s.queue := by simp [State.calNext, State.pending_eq]
@[simp] theorem State.startTune_queue (s : State) (c : Nat) (r : TxReq) : (State.startTune s c r).queue = s.queue := by simp [State.startTune, State.pending_eq]
@[simp] theorem State.tuneHead_queue (s : State) (c : Nat) : (State.tuneHead s c).queue = s.queue := by
  unfold State.tuneHead
  repeat' first
    | with_reducible rfl | intro _ | (rw [State.onBus_queue]) | (rw [State.onPriv_queue]) | (rw [State.onRead_queue])
    | (rw [State.applyPending_queue]) | refine pair_queue (by assumption) ?_ | refine tripR_queue (by assumption) ?_ | split
    | dsimp only | simp -implicitDefEqProofs [State.pending_eq]

@[simp] theorem State.setPower_queue (s : State) (c : Nat) (r : TxReq) : (State.setPower s c r).queue = s.queue := by simp [State.setPower, State.pending_eq]
@[simp] theorem State.limitPower_queue (s : State) (c : Nat) (r : TxReq) : (State.limitPower s c r).queue = s.queue := by simp [State.limitPower, State.pending_eq]
@[simp] theorem State.checkHead_queue (s : State) (c : Nat) (r : TxReq) : (State.checkHead s c r).queue = s.queue := by
  unfold State.checkHead
  repeat' first
    | with_reducible rfl | intro _ | rw [State.when_queue] | (rw [State.onBus_queue]) | (rw [State.onPriv_queue])
    | (rw [State.onRead_queue]) | (rw [State.applyPending_queue]) | refine pair_queue (by assumption) ?_
    | refine tripR_queue (by assumption) ?_ | split | dsimp only | simp -implicitDefEqProofs [State.pending_eq]

@[simp] theorem State.headIn_queue (s : State) (c : Nat) : (State.headIn s c).queue = s.queue := by
  unfold State.headIn
  repeat' first
    | with_reducible rfl | intro _ | (rw [State.onBus_queue]) | (rw [State.onPriv_queue]) | (rw [State.onRead_queue])
    | (rw [State.applyPending_queue]) | refine pair_queue (by assumption) ?_ | refine tripR_queue (by assumption) ?_ | split
    | dsimp only | simp -implicitDefEqProofs [State.pending_eq]

@[simp] theorem execTxRequestHead_queue (c : Nat) (s : State) : (next s (execTxRequestHead c s)).queue = s.queue := by
  unfold execTxRequestHead
  repeat' first
    | with_reducible rfl | intro _ | (rw [State.onBus_queue]) | (rw [State.onPriv_queue]) | (rw [State.onRead_queue])
    | (rw [State.applyPending_queue]) | dsimp only | simp -implicitDefEqProofs [State.pending_eq]

@[simp] theorem State.coexAssert_queue (s : State) (c : Nat) : (State.coexAssert s c).queue = s.queue := by simp [State.coexAssert, State.pending_eq]
@[simp] theorem State.ledgerSave_queue (s : State) (pick : LedgerSlot → Bool) : (State.ledgerSave s pick).queue = s.queue := by simp [State.ledgerSave, State.pending_eq]
@[simp] theorem State.ledgerEarly_queue (s : State) : (State.ledgerEarly s).queue = s.queue := by simp [State.ledgerEarly, State.pending_eq]
@[simp] theorem State.quietDrop_queue (s : State) (pick : Quiet → Bool) : (State.quietDrop s pick).queue = s.queue := by simp [State.quietDrop, State.pending_eq]
@[simp] theorem State.gatePost_queue (s : State) (r : GateRec) : (State.gatePost s r).queue = s.queue := by simp [State.gatePost, State.pending_eq]
@[simp] theorem State.ptEvent_queue (s : State) (n : Nat) : (State.ptEvent s n).queue = s.queue := by simp [State.ptEvent, State.pending_eq]
@[simp] theorem State.putReq_queue (s : State) (r : TxReq) (cmp : Nat) : (State.putReq s r cmp).queue = s.queue := by simp [State.putReq, State.pending_eq]
@[simp] theorem State.arm_queue (s : State) (n : Nat) : (State.arm s n).queue = s.queue := by
  unfold State.arm
  repeat' first
    | with_reducible rfl | intro _ | (rw [State.onBus_queue]) | (rw [State.onPriv_queue]) | (rw [State.onRead_queue])
    | (rw [State.applyPending_queue]) | refine pair_queue (by assumption) ?_ | refine tripR_queue (by assumption) ?_ | split
    | dsimp only | simp -implicitDefEqProofs [State.pending_eq]

@[simp] theorem State.ackDrop_queue (s : State) (n : Nat) : (State.ackDrop s n).queue = s.queue := by
  unfold State.ackDrop
  repeat' first
    | with_reducible rfl | intro _ | (rw [State.onBus_queue]) | (rw [State.onPriv_queue]) | (rw [State.onRead_queue])
    | (rw [State.applyPending_queue]) | refine pair_queue (by assumption) ?_ | refine tripR_queue (by assumption) ?_ | split
    | dsimp only | simp -implicitDefEqProofs [State.pending_eq]

@[simp] theorem execPtReadinessCheck_queue (n : Nat) (gnt : Bool) (s : State) : (next s (execPtReadinessCheck n gnt s)).queue = s.queue := by
  unfold execPtReadinessCheck
  repeat' first
    | with_reducible rfl | intro _ | rw [State.when_queue] | (rw [State.onBus_queue]) | (rw [State.onPriv_queue])
    | (rw [State.onRead_queue]) | (rw [State.applyPending_queue]) | split | dsimp only
    | simp -implicitDefEqProofs [State.pending_eq]

@[simp] theorem State.txBegin_queue (s : State) (c : Nat) (cmp : Nat) : (State.txBegin s c cmp).queue = s.queue := by
  unfold State.txBegin
  repeat' first
    | with_reducible rfl | intro _ | (rw [State.onBus_queue]) | (rw [State.onPriv_queue]) | (rw [State.onRead_queue])
    | (rw [State.applyPending_queue]) | refine pair_queue (by assumption) ?_ | refine tripR_queue (by assumption) ?_ | split
    | dsimp only | simp -implicitDefEqProofs [State.pending_eq]

@[simp] theorem State.ptAct_queue (s : State) (n : Nat) : (State.ptAct s n).queue = s.queue := by
  unfold State.ptAct
  repeat' first
    | with_reducible rfl | intro _ | (rw [State.onBus_queue]) | (rw [State.onPriv_queue]) | (rw [State.onRead_queue])
    | (rw [State.applyPending_queue]) | refine pair_queue (by assumption) ?_ | refine tripR_queue (by assumption) ?_ | split
    | dsimp only | simp -implicitDefEqProofs [State.pending_eq]

@[simp] theorem State.ptGo_queue (s : State) (n : Nat) : (State.ptGo s n).queue = s.queue := by
  unfold State.ptGo
  repeat' first
    | with_reducible rfl | intro _ | (rw [State.onBus_queue]) | (rw [State.onPriv_queue]) | (rw [State.onRead_queue])
    | (rw [State.applyPending_queue]) | refine pair_queue (by assumption) ?_ | refine tripR_queue (by assumption) ?_ | split
    | dsimp only | simp -implicitDefEqProofs [State.pending_eq]

@[simp] theorem State.ptNext_queue (s : State) (n : Nat) : (State.ptNext s n).queue = s.queue := by simp [State.ptNext, State.pending_eq]
@[simp] theorem State.ptFire_queue (s : State) : (State.ptFire s).queue = s.queue := by
  unfold State.ptFire
  repeat' first
    | with_reducible rfl | intro _ | rw [State.each_queue] | (rw [State.onBus_queue]) | (rw [State.onPriv_queue])
    | (rw [State.onRead_queue]) | (rw [State.applyPending_queue]) | split | dsimp only
    | simp -implicitDefEqProofs [State.pending_eq]

@[simp] theorem execPtFire_queue (s : State) : (next s (execPtFire s)).queue = s.queue := by simp [execPtFire, State.pending_eq]
@[simp] theorem execPtCmpLowWrite_queue (r : Req) (n : Nat) (v : Nat) (s : State) : (next s (execPtCmpLowWrite r n v s)).queue = s.queue := by
  unfold execPtCmpLowWrite
  repeat' first
    | with_reducible rfl | intro _ | rw [State.when_queue] | (rw [State.onBus_queue]) | (rw [State.onPriv_queue])
    | (rw [State.onRead_queue]) | (rw [State.applyPending_queue]) | split | dsimp only
    | simp -implicitDefEqProofs [State.pending_eq]

@[simp] theorem execPtCtlWrite_queue (r : Req) (n : Nat) (v : Nat) (s : State) : (next s (execPtCtlWrite r n v s)).queue = s.queue := by
  unfold execPtCtlWrite
  repeat' first
    | with_reducible rfl | intro _ | (rw [State.onBus_queue]) | (rw [State.onPriv_queue]) | (rw [State.onRead_queue])
    | (rw [State.applyPending_queue]) | split | dsimp only | simp -implicitDefEqProofs [State.pending_eq]

@[simp] theorem execPtPulseEnd_queue (n : Nat) (s : State) : (next s (execPtPulseEnd n s)).queue = s.queue := by
  unfold execPtPulseEnd
  repeat' first
    | with_reducible rfl | intro _ | (rw [State.onBus_queue]) | (rw [State.onPriv_queue]) | (rw [State.onRead_queue])
    | (rw [State.applyPending_queue]) | split | dsimp only | simp -implicitDefEqProofs [State.pending_eq]

@[simp] theorem execPtAlloc_queue (c : Cmd) (s : State) : (next s (execPtAlloc c s)).queue = s.queue := by
  unfold execPtAlloc
  repeat' first
    | with_reducible rfl | intro _ | (rw [State.onBus_queue]) | (rw [State.onPriv_queue]) | (rw [State.onRead_queue])
    | (rw [State.applyPending_queue]) | refine pair_queue (by assumption) ?_ | refine tripR_queue (by assumption) ?_ | split
    | dsimp only | simp -implicitDefEqProofs [State.pending_eq]

@[simp] theorem State.ptClear_queue (s : State) (n : Nat) : (State.ptClear s n).queue = s.queue := by simp [State.ptClear, State.pending_eq]
@[simp] theorem execPtFree_queue (c : Cmd) (n : Nat) (s : State) : (next s (execPtFree c n s)).queue = s.queue := by
  unfold execPtFree
  repeat' first
    | with_reducible rfl | intro _ | (rw [State.onBus_queue]) | (rw [State.onPriv_queue]) | (rw [State.onRead_queue])
    | (rw [State.applyPending_queue]) | split | dsimp only | simp -implicitDefEqProofs [State.pending_eq]

@[simp] theorem State.chainOn_queue (s : State) (c : Nat) : (State.chainOn s c).queue = s.queue := by simp [State.chainOn, State.pending_eq]
@[simp] theorem execTxcCtlWrite_queue (r : Req) (c : Nat) (v : Nat) (s : State) : (next s (execTxcCtlWrite r c v s)).queue = s.queue := by
  unfold execTxcCtlWrite
  repeat' first
    | with_reducible rfl | intro _ | (rw [State.onBus_queue]) | (rw [State.onPriv_queue]) | (rw [State.onRead_queue])
    | (rw [State.applyPending_queue]) | split | dsimp only | simp -implicitDefEqProofs [State.pending_eq]

@[simp] theorem State.goReady_queue (s : State) (c : Nat) : (State.goReady s c).queue = s.queue := by
  unfold State.goReady
  repeat' first
    | with_reducible rfl | intro _ | (rw [State.onBus_queue]) | (rw [State.onPriv_queue]) | (rw [State.onRead_queue])
    | (rw [State.applyPending_queue]) | refine pair_queue (by assumption) ?_ | refine tripR_queue (by assumption) ?_ | split
    | dsimp only | simp -implicitDefEqProofs [State.pending_eq]

@[simp] theorem State.toStandby_queue (s : State) (c : Nat) : (State.toStandby s c).queue = s.queue := by simp [State.toStandby, State.pending_eq]
@[simp] theorem execGoReady_queue (r : Req) (c : Nat) (s : State) : (next s (execGoReady r c s)).queue = s.queue := by
  unfold execGoReady
  repeat' first
    | with_reducible rfl | intro _ | (rw [State.onBus_queue]) | (rw [State.onPriv_queue]) | (rw [State.onRead_queue])
    | (rw [State.applyPending_queue]) | split | dsimp only | simp -implicitDefEqProofs [State.pending_eq]

@[simp] theorem execGoStandby_queue (r : Req) (c : Nat) (s : State) : (next s (execGoStandby r c s)).queue = s.queue := by
  unfold execGoStandby
  repeat' first
    | with_reducible rfl | intro _ | (rw [State.onBus_queue]) | (rw [State.onPriv_queue]) | (rw [State.onRead_queue])
    | (rw [State.applyPending_queue]) | split | dsimp only | simp -implicitDefEqProofs [State.pending_eq]

@[simp] theorem execCalFlush_queue (r : Req) (c : Nat) (s : State) : (next s (execCalFlush r c s)).queue = s.queue := by simp [execCalFlush, State.pending_eq]
@[simp] theorem State.applyPending_queue (s : State) (c : Nat) (otherwise : State → State) (hf : ∀ u, (otherwise u).queue = u.queue) : (State.applyPending s c otherwise).queue = s.queue := by
  unfold State.applyPending
  repeat' first
    | with_reducible rfl | intro _ | (rw [State.onBus_queue]) | (rw [State.onPriv_queue]) | (rw [State.onRead_queue]) | (rw [hf])
    | refine pair_queue (by assumption) ?_ | refine tripR_queue (by assumption) ?_ | split | dsimp only
    | simp -implicitDefEqProofs [State.pending_eq]

@[simp] theorem execChainEnableDone_queue (c : Nat) (s : State) : (next s (execChainEnableDone c s)).queue = s.queue := by
  unfold execChainEnableDone
  repeat' first
    | with_reducible rfl | intro _ | (rw [State.onBus_queue]) | (rw [State.onPriv_queue]) | (rw [State.onRead_queue])
    | (rw [State.applyPending_queue]) | split | dsimp only | simp -implicitDefEqProofs [State.pending_eq]

@[simp] theorem State.vcoPut_queue (s : State) (n : Nat) (band : Nat) (amp : Nat) (loop : Nat) (temp : Nat) : (State.vcoPut s n band amp loop temp).queue = s.queue := by simp [State.vcoPut, State.pending_eq]
@[simp] theorem State.calibrated_queue (s : State) (c : Nat) (n : Nat) : (State.calibrated s c n).queue = s.queue := by simp [State.calibrated, State.pending_eq]
@[simp] theorem execSynthTuneDone_queue (c : Nat) (s : State) : (next s (execSynthTuneDone c s)).queue = s.queue := by
  unfold execSynthTuneDone
  repeat' first
    | with_reducible rfl | intro _ | (rw [State.onBus_queue]) | (rw [State.onPriv_queue]) | (rw [State.onRead_queue])
    | (rw [State.applyPending_queue]) | split | dsimp only | simp -implicitDefEqProofs [State.pending_eq]

@[simp] theorem execSynthLockLost_queue (c : Nat) (s : State) : (next s (execSynthLockLost c s)).queue = s.queue := by
  unfold execSynthLockLost
  repeat' first
    | with_reducible rfl | intro _ | (rw [State.onBus_queue]) | (rw [State.onPriv_queue]) | (rw [State.onRead_queue])
    | (rw [State.applyPending_queue]) | split | dsimp only | simp -implicitDefEqProofs [State.pending_eq]

@[simp] theorem State.tunerTrial_queue (s : State) (p : Nat) : (State.tunerTrial s p).queue = s.queue := by simp [State.tunerTrial, State.pending_eq]
@[simp] theorem State.tunerStep_queue (s : State) (p : Nat) : (State.tunerStep s p).queue = s.queue := by simp [State.tunerStep, State.pending_eq]
@[simp] theorem State.txSend_queue (s : State) (c : Nat) (r : TxReq) : (State.txSend s c r).queue = s.queue := by simp [State.txSend, State.pending_eq]
@[simp] theorem execTxStateEnter_queue (c : Nat) (s : State) : (next s (execTxStateEnter c s)).queue = s.queue := by
  unfold execTxStateEnter
  repeat' first
    | with_reducible rfl | intro _ | (rw [State.onBus_queue]) | (rw [State.onPriv_queue]) | (rw [State.onRead_queue])
    | (rw [State.applyPending_queue]) | refine pair_queue (by assumption) ?_ | refine tripR_queue (by assumption) ?_ | split
    | dsimp only | simp -implicitDefEqProofs [State.pending_eq]

@[simp] theorem execPowerLoopStep_queue (c : Nat) (measured : Int) (s : State) : (next s (execPowerLoopStep c measured s)).queue = s.queue := by
  unfold execPowerLoopStep
  repeat' first
    | with_reducible rfl | intro _ | (rw [State.onBus_queue]) | (rw [State.onPriv_queue]) | (rw [State.onRead_queue])
    | (rw [State.applyPending_queue]) | split | dsimp only | simp -implicitDefEqProofs [State.pending_eq]

@[simp] theorem execTxLoopEnd_queue (c : Nat) (measured : Int) (s : State) : (next s (execTxLoopEnd c measured s)).queue = s.queue := by
  unfold execTxLoopEnd
  repeat' first
    | with_reducible rfl | intro _ | rw [State.when_queue] | (rw [State.onBus_queue]) | (rw [State.onPriv_queue])
    | (rw [State.onRead_queue]) | (rw [State.applyPending_queue]) | split | dsimp only
    | simp -implicitDefEqProofs [State.pending_eq]

@[simp] theorem State.aerialFault_queue (s : State) (c : Nat) (detail : List (Nat × List Nat)) : (State.aerialFault s c detail).queue = s.queue := by simp [State.aerialFault, State.pending_eq]
@[simp] theorem execFwdPowerCheck_queue (c : Nat) (fwd : Int) (s : State) : (next s (execFwdPowerCheck c fwd s)).queue = s.queue := by
  unfold execFwdPowerCheck
  repeat' first
    | with_reducible rfl | intro _ | (rw [State.onBus_queue]) | (rw [State.onPriv_queue]) | (rw [State.onRead_queue])
    | (rw [State.applyPending_queue]) | refine pair_queue (by assumption) ?_ | refine tripR_queue (by assumption) ?_ | split
    | dsimp only | simp -implicitDefEqProofs [State.pending_eq]

@[simp] theorem execAerialFaultDetect_queue (c : Nat) (rl : Nat) (s : State) : (next s (execAerialFaultDetect c rl s)).queue = s.queue := by
  unfold execAerialFaultDetect
  repeat' first
    | with_reducible rfl | intro _ | (rw [State.onBus_queue]) | (rw [State.onPriv_queue]) | (rw [State.onRead_queue])
    | (rw [State.applyPending_queue]) | split | dsimp only | simp -implicitDefEqProofs [State.pending_eq]

@[simp] theorem State.tunerJudge_queue (s : State) (p : Nat) (rl : Nat) (seg : Nat) : (State.tunerJudge s p rl seg).queue = s.queue := by simp [State.tunerJudge, State.pending_eq]
@[simp] theorem State.rlClassify_queue (s : State) (c : Nat) (rl : Nat) : (State.rlClassify s c rl).queue = s.queue := by simp [State.rlClassify, State.pending_eq]
@[simp] theorem execTxLastSample_queue (c : Nat) (rl : Nat) (pwr : Int) (s : State) : (next s (execTxLastSample c rl pwr s)).queue = s.queue := by
  unfold execTxLastSample
  repeat' first
    | with_reducible rfl | intro _ | (rw [State.onBus_queue]) | (rw [State.onPriv_queue]) | (rw [State.onRead_queue])
    | (rw [State.applyPending_queue]) | split | dsimp only | simp -implicitDefEqProofs [State.pending_eq]

@[simp] theorem State.airEnd_queue (s : State) (c : Nat) : (State.airEnd s c).queue = s.queue := by
  unfold State.airEnd
  repeat' first
    | with_reducible rfl | intro _ | (rw [State.onBus_queue]) | (rw [State.onPriv_queue]) | (rw [State.onRead_queue])
    | (rw [State.applyPending_queue]) | refine pair_queue (by assumption) ?_ | refine tripR_queue (by assumption) ?_ | split
    | dsimp only | simp -implicitDefEqProofs [State.pending_eq]

@[simp] theorem State.txToReady_queue (s : State) (c : Nat) : (s.txToReady c).queue = s.queue := by
  unfold State.txToReady
  extract_lets s1 s2 s3 s4
  have q1 : s1.queue = s.queue := by rw [State.coexRelease_queue, State.airEnd_queue]
  clear_value s1
  have q2 : s2.queue = s.queue := by
    rw [← q1]
    simp only [s2]
    split
    · rw [State.popReq_queue, State.pushRes_queue]
    · rfl
  clear_value s2
  have q4 : s4.queue = s.queue := by rw [State.portLines_queue, State.put_queue, State.clr_queue, State.clr_queue, q2]
  clear_value s4
  split
  · rw [State.chainStop_queue, State.clr_queue, State.clr_queue, q4]
  split
  · rw [State.chainStop_queue, State.clr_queue, q4]
  split
  · rw [State.toStandby_queue, State.clr_queue, State.clr_queue, q4]
  · rw [State.applyPending_queue, q4]
    intro u
    split
    · exact State.toStandby_queue ..
    · rfl
@[simp] theorem execTxToReadyDone_queue (c : Nat) (s : State) : (next s (execTxToReadyDone c s)).queue = s.queue := by
  unfold execTxToReadyDone
  conv => lhs; arg 1; dsimp only
  repeat' first
    | with_reducible rfl | intro _ | rw [State.each_queue] | rw [State.when_queue] | rw [foldl_queue] | rw [foldlL_queue]
    | rw [foldlR_queue] | rw [getD_queue] | refine pair_queue (by assumption) ?_ | refine pairL_queue (by assumption) ?_
    | refine tripR_queue (by assumption) ?_ | refine tripM_queue (by assumption) ?_ | refine quadR_queue (by assumption) ?_
    | split | (rw [State.onBus_queue]) | (rw [State.onPriv_queue]) | (rw [State.onRead_queue]) | (rw [State.applyPending_queue])
    | dsimp only | simp -implicitDefEqProofs [State.pending_eq]

@[simp] theorem execOutputReadbackMismatch_queue (k : Nat) (p : Nat) (s : State) : (next s (execOutputReadbackMismatch k p s)).queue = s.queue := by
  unfold execOutputReadbackMismatch
  repeat' first
    | with_reducible rfl | intro _ | rw [State.each_queue] | (rw [State.onBus_queue]) | (rw [State.onPriv_queue])
    | (rw [State.onRead_queue]) | (rw [State.applyPending_queue]) | refine pair_queue (by assumption) ?_
    | refine tripR_queue (by assumption) ?_ | split | dsimp only | simp -implicitDefEqProofs [State.pending_eq]

@[simp] theorem execTxcMuteWrite_queue (r : Req) (c : Nat) (v : Nat) (s : State) : (next s (execTxcMuteWrite r c v s)).queue = s.queue := by simp [execTxcMuteWrite, State.pending_eq]
@[simp] theorem execRunawayTimeout_queue (c : Nat) (s : State) : (next s (execRunawayTimeout c s)).queue = s.queue := by
  unfold execRunawayTimeout
  repeat' first
    | with_reducible rfl | intro _ | (rw [State.onBus_queue]) | (rw [State.onPriv_queue]) | (rw [State.onRead_queue])
    | (rw [State.applyPending_queue]) | refine pair_queue (by assumption) ?_ | refine tripR_queue (by assumption) ?_ | split
    | dsimp only | simp -implicitDefEqProofs [State.pending_eq]

@[simp] theorem execDetCheck_queue (p : Nat) (pa : Bool) (fwd : Bool) (rev : Bool) (s : State) : (next s (execDetCheck p pa fwd rev s)).queue = s.queue := by
  unfold execDetCheck
  repeat' first
    | with_reducible rfl | intro _ | rw [State.each_queue] | rw [State.when_queue] | (rw [State.onBus_queue])
    | (rw [State.onPriv_queue]) | (rw [State.onRead_queue]) | (rw [State.applyPending_queue]) | split | dsimp only
    | simp -implicitDefEqProofs [State.pending_eq]

@[simp] theorem execCoexReqAssert_queue (n : Nat) (s : State) : (next s (execCoexReqAssert n s)).queue = s.queue := by
  unfold execCoexReqAssert
  repeat' first
    | with_reducible rfl | intro _ | (rw [State.onBus_queue]) | (rw [State.onPriv_queue]) | (rw [State.onRead_queue])
    | (rw [State.applyPending_queue]) | split | dsimp only | simp -implicitDefEqProofs [State.pending_eq]

@[simp] theorem execCoexGntFall_queue (s : State) : (next s (execCoexGntFall s)).queue = s.queue := by simp [execCoexGntFall, State.pending_eq]
@[simp] theorem State.coexStart_queue (s : State) : (State.coexStart s).queue = s.queue := by simp [State.coexStart, State.pending_eq]
@[simp] theorem execCoexCheck_queue (r : Req) (s : State) : (next s (execCoexCheck r s)).queue = s.queue := by simp [execCoexCheck, State.pending_eq]
@[simp] theorem execCoexCheckStepEnd_queue (x : Bool) (s : State) : (next s (execCoexCheckStepEnd x s)).queue = s.queue := by
  unfold execCoexCheckStepEnd
  repeat' first
    | with_reducible rfl | intro _ | (rw [State.onBus_queue]) | (rw [State.onPriv_queue]) | (rw [State.onRead_queue])
    | (rw [State.applyPending_queue]) | refine pair_queue (by assumption) ?_ | refine tripR_queue (by assumption) ?_ | split
    | dsimp only | simp -implicitDefEqProofs [State.pending_eq]

@[simp] theorem execCoexLeadWrite_queue (r : Req) (v : Nat) (s : State) : (next s (execCoexLeadWrite r v s)).queue = s.queue := by simp [execCoexLeadWrite, State.pending_eq]
@[simp] theorem execChplanWrite_queue (r : Req) (h : Nat) (off : Nat) (v : Nat) (s : State) : (next s (execChplanWrite r h off v s)).queue = s.queue := by
  unfold execChplanWrite
  repeat' first
    | with_reducible rfl | intro _ | (rw [State.onBus_queue]) | (rw [State.onPriv_queue]) | (rw [State.onRead_queue])
    | (rw [State.applyPending_queue]) | refine pair_queue (by assumption) ?_ | refine tripR_queue (by assumption) ?_ | split
    | dsimp only | simp -implicitDefEqProofs [State.pending_eq]

@[simp] theorem execPanmapWrite_queue (r : Req) (i : Nat) (off : Nat) (v : Nat) (s : State) : (next s (execPanmapWrite r i off v s)).queue = s.queue := by
  unfold execPanmapWrite
  repeat' first
    | with_reducible rfl | intro _ | (rw [State.onBus_queue]) | (rw [State.onPriv_queue]) | (rw [State.onRead_queue])
    | (rw [State.applyPending_queue]) | split | dsimp only | simp -implicitDefEqProofs [State.pending_eq]

@[simp] theorem execAirEui64Write_queue (r : Req) (v : Nat) (s : State) : (next s (execAirEui64Write r v s)).queue = s.queue := by simp [execAirEui64Write, State.pending_eq]
@[simp] theorem execProfileSetRegion_queue (c : Cmd) (region : Nat) (s : State) : (next s (execProfileSetRegion c region s)).queue = s.queue := by
  unfold execProfileSetRegion
  repeat' first
    | with_reducible rfl | intro _ | (rw [State.onBus_queue]) | (rw [State.onPriv_queue]) | (rw [State.onRead_queue])
    | (rw [State.applyPending_queue]) | split | dsimp only | simp -implicitDefEqProofs [State.pending_eq]

@[simp] theorem State.lockProfile_queue (s : State) : (State.lockProfile s).queue = s.queue := by simp [State.lockProfile, State.pending_eq]
@[simp] theorem execRegprofLockSet_queue (r : Req) (s : State) : (next s (execRegprofLockSet r s)).queue = s.queue := by
  unfold execRegprofLockSet
  repeat' first
    | with_reducible rfl | intro _ | rw [State.each_queue] | (rw [State.onBus_queue]) | (rw [State.onPriv_queue])
    | (rw [State.onRead_queue]) | (rw [State.applyPending_queue]) | split | dsimp only
    | simp -implicitDefEqProofs [State.pending_eq]

@[simp] theorem execDutySlotEnd_queue (i : Nat) (s : State) : (next s (execDutySlotEnd i s)).queue = s.queue := by simp [execDutySlotEnd, State.pending_eq]
@[simp] theorem State.ledgerRestore_queue (s : State) : (State.ledgerRestore s).queue = s.queue := by simp [State.ledgerRestore, State.pending_eq]
@[simp] theorem State.quietReserve_queue (s : State) (g : GateCase) (port : Nat) (len : Nat) : ((State.quietReserve s g port len).2).queue = s.queue := by
  unfold State.quietReserve
  repeat' first
    | with_reducible rfl | intro _ | rw [foldl_queue] | rw [foldlL_queue] | rw [foldlR_queue] | (rw [State.onBus_queue])
    | (rw [State.onPriv_queue]) | (rw [State.onRead_queue]) | (rw [State.applyPending_queue])
    | refine pair_queue (by assumption) ?_ | refine tripR_queue (by assumption) ?_ | split | dsimp only
    | simp -implicitDefEqProofs [State.pending_eq]

@[simp] theorem State.gateCount_queue (s : State) (v : Nat) (b : Nat) : (State.gateCount s v b).queue = s.queue := by
  unfold State.gateCount
  repeat' first
    | with_reducible rfl | intro _ | (rw [State.onBus_queue]) | (rw [State.onPriv_queue]) | (rw [State.onRead_queue])
    | (rw [State.applyPending_queue]) | refine pair_queue (by assumption) ?_ | refine tripR_queue (by assumption) ?_ | split
    | dsimp only | simp -implicitDefEqProofs [State.pending_eq]

@[simp] theorem State.airPrune_queue (s : State) : (State.airPrune s).queue = s.queue := by simp [State.airPrune, State.pending_eq]
@[simp] theorem State.gateClear_queue (s : State) (g : GateCase) (port : Nat) (n : Nat) : (State.gateClear s g port n).queue = s.queue := by simp [State.gateClear, State.pending_eq]
@[simp] theorem State.gateDecide_queue (s : State) (n : Nat) : (s.gateDecide n).queue = s.queue := by
  unfold State.gateDecide
  extract_lets ch c
  split
  · rfl
  split
  · rfl
  split
  · rfl
  extract_lets s1 port f16 g lbtOn random
  have q1 : s1.queue = s.queue := State.limitPower_queue ..
  clear_value s1 port random g
  split
  · rw [State.endHead_queue, State.disarm_queue, q1]
  split
  rename_i x s2 h2
  have q2 : s2.queue = s.queue := by
    rw [← q1]
    refine pair_queue h2 ?_
    split
    · rw [State.draw_queue]
    · rfl
  extract_lets len
  clear_value len
  split
  extract_lets s3 s4
  have q3 : s3.queue = s.queue := by rw [State.gateCount_queue, q2]
  have q4 : s4.queue = s.queue := by
    simp only [s4]
    split
    · exact q3
    · rw [State.quietDrop_queue, q3]
  clear_value s3 s4
  split
  rename_i h5
  have q5 := pair_queue (s := s) h5 (by
    split
    · rw [State.quietReserve_queue, q4]
    · exact q4)
  split
  · extract_lets s6
    have q6 : s6.queue = s.queue := by rw [State.gateClear_queue, q5]
    clear_value s6
    split
    · exact q6
    · rw [State.gatePost_queue, q6]
  · split
    · rw [State.ackDrop_queue, State.disarm_queue, q5]
    · rw [State.disarm_queue, State.gatePost_queue, q5]
@[simp] theorem execGateDecision_queue (n : Nat) (s : State) : (next s (execGateDecision n s)).queue = s.queue := by simp [execGateDecision, State.pending_eq]
@[simp] theorem execQuietRelease_queue (s : State) : (next s (execQuietRelease s)).queue = s.queue := by simp [execQuietRelease, State.pending_eq]
@[simp] theorem State.slotWrite_queue (s : State) (n : Nat) (h : Nat) (parent : Nat) (use : Nat) (type : Nat) (mat : List Nat) : (State.slotWrite s n h parent use type mat).queue = s.queue := by simp [State.slotWrite, State.pending_eq]
@[simp] theorem State.slotErase_queue (s : State) (n : Nat) : (State.slotErase s n).queue = s.queue := by simp [State.slotErase, State.pending_eq]
@[simp] theorem State.cacheUse_queue (s : State) (t : KeyTag) : (State.cacheUse s t).queue = s.queue := by simp [State.cacheUse, State.pending_eq]
@[simp] theorem State.derive_queue (s : State) (kind : Nat) (h : Nat) (ident : Nat) (gen : Nat) : ((State.derive s kind h ident gen).2.2).queue = s.queue := by
  unfold State.derive
  repeat' first
    | with_reducible rfl | intro _ | (rw [State.onBus_queue]) | (rw [State.onPriv_queue]) | (rw [State.onRead_queue])
    | (rw [State.applyPending_queue]) | refine pair_queue (by assumption) ?_ | refine tripR_queue (by assumption) ?_ | split
    | dsimp only | simp -implicitDefEqProofs [State.pending_eq]

@[simp] theorem State.linkKey_queue (s : State) (e : Nat) (g : Nat) : ((State.linkKey s e g).2.2).queue = s.queue := by
  unfold State.linkKey
  repeat' first
    | with_reducible rfl | intro _ | (rw [State.onBus_queue]) | (rw [State.onPriv_queue]) | (rw [State.onRead_queue])
    | (rw [State.applyPending_queue]) | refine pair_queue (by assumption) ?_ | refine tripR_queue (by assumption) ?_ | split
    | dsimp only | simp -implicitDefEqProofs [State.pending_eq]

@[simp] theorem State.groupKey_queue (s : State) (h : Nat) (g : Nat) : ((State.groupKey s h g).2.2).queue = s.queue := by simp [State.groupKey, State.pending_eq]
@[simp] theorem State.installKey_queue (s : State) (h : Nat) (eui : Nat) : ((State.installKey s h eui).2.2).queue = s.queue := by simp [State.installKey, State.pending_eq]
@[simp] theorem State.postCommand_queue (s : State) (e : Nat) (sec : Secure) (payload : List Nat) : (State.postCommand s e sec payload).queue = s.queue := by simp [State.postCommand, State.pending_eq]
@[simp] theorem State.startRekey_queue (s : State) (e : Nat) : ((State.startRekey s e).2).queue = s.queue := by
  unfold State.startRekey
  repeat' first
    | with_reducible rfl | intro _ | (rw [State.onBus_queue]) | (rw [State.onPriv_queue]) | (rw [State.onRead_queue])
    | (rw [State.applyPending_queue]) | refine pair_queue (by assumption) ?_ | refine tripR_queue (by assumption) ?_ | split
    | dsimp only | simp -implicitDefEqProofs [State.pending_eq]

@[simp] theorem State.commitRekey_queue (s : State) (e : Nat) : (State.commitRekey s e).queue = s.queue := by simp [State.commitRekey, State.pending_eq]
@[simp] theorem State.startGroup_queue (s : State) (h : Nat) : ((State.startGroup s h).2).queue = s.queue := by
  unfold State.startGroup
  repeat' first
    | with_reducible rfl | intro _ | rw [State.each_queue] | (rw [State.onBus_queue]) | (rw [State.onPriv_queue])
    | (rw [State.onRead_queue]) | (rw [State.applyPending_queue]) | refine pair_queue (by assumption) ?_
    | refine tripR_queue (by assumption) ?_ | split | dsimp only | simp -implicitDefEqProofs [State.pending_eq]

@[simp] theorem State.counterWarn_queue (s : State) (h : Nat) (entry : Nat) (eui : Nat) (stream : Nat) (c : Nat) : (State.counterWarn s h entry eui stream c).queue = s.queue := by simp [State.counterWarn, State.pending_eq]
@[simp] theorem State.takeTx_queue (s : State) (e : Nat) : ((State.takeTx s e).2).queue = s.queue := by
  unfold State.takeTx
  repeat' first
    | with_reducible rfl | intro _ | (rw [State.onBus_queue]) | (rw [State.onPriv_queue]) | (rw [State.onRead_queue])
    | (rw [State.applyPending_queue]) | refine pair_queue (by assumption) ?_ | refine tripR_queue (by assumption) ?_ | split
    | dsimp only | simp -implicitDefEqProofs [State.pending_eq]

@[simp] theorem State.takeGroup_queue (s : State) (h : Nat) : ((State.takeGroup s h).2).queue = s.queue := by
  unfold State.takeGroup
  repeat' first
    | with_reducible rfl | intro _ | rw [State.when_queue] | (rw [State.onBus_queue]) | (rw [State.onPriv_queue])
    | (rw [State.onRead_queue]) | (rw [State.applyPending_queue]) | refine pair_queue (by assumption) ?_
    | refine tripR_queue (by assumption) ?_ | split | dsimp only | simp -implicitDefEqProofs [State.pending_eq]

@[simp] theorem State.groupResume_queue (s : State) : (State.groupResume s).queue = s.queue := by simp [State.groupResume, State.pending_eq]
@[simp] theorem State.secureDown_queue (s : State) (d : Down) (n : Nat) (pan : Nat) (stamp : Nat) (pend : Bool) : ((State.secureDown s d n pan stamp pend).2.2).queue = s.queue := by
  unfold State.secureDown
  repeat' first
    | with_reducible rfl | intro _ | (rw [State.onBus_queue]) | (rw [State.onPriv_queue]) | (rw [State.onRead_queue])
    | (rw [State.applyPending_queue]) | refine pair_queue (by assumption) ?_ | refine tripR_queue (by assumption) ?_ | split
    | dsimp only | simp -implicitDefEqProofs [State.pending_eq]

@[simp] theorem State.drbgFail_queue (s : State) : (State.drbgFail s).queue = s.queue := by simp [State.drbgFail, State.pending_eq]
@[simp] theorem execDrbgHealthFail_queue (s : State) : (next s (execDrbgHealthFail s)).queue = s.queue := by simp [execDrbgHealthFail, State.pending_eq]
@[simp] theorem execDrbgRestart_queue (pass : Bool) (s : State) : (next s (execDrbgRestart pass s)).queue = s.queue := by
  unfold execDrbgRestart
  repeat' first
    | with_reducible rfl | intro _ | (rw [State.onBus_queue]) | (rw [State.onPriv_queue]) | (rw [State.onRead_queue])
    | (rw [State.applyPending_queue]) | split | dsimp only | simp -implicitDefEqProofs [State.pending_eq]

@[simp] theorem State.slotDone_queue (s : State) (c : Cmd) (op : Nat) (n : Nat) : (State.slotDone s c op n).queue = s.queue := by simp [State.slotDone, State.pending_eq]
@[simp] theorem execKeyImport_queue (c : Cmd) (target : Nat) (parent : Nat) (use : Nat) (type : Nat) (len : Nat) (addr : Nat) (s : State) : (next s (execKeyImport c target parent use type len addr s)).queue = s.queue := by
  unfold execKeyImport
  repeat' first
    | with_reducible rfl | intro _ | rw [State.when_queue] | (rw [State.onBus_queue]) | (rw [State.onPriv_queue])
    | (rw [State.onRead_queue]) | (rw [State.applyPending_queue]) | refine pair_queue (by assumption) ?_
    | refine tripR_queue (by assumption) ?_ | split | dsimp only | simp -implicitDefEqProofs [State.pending_eq]

@[simp] theorem execKeyDerive_queue (c : Cmd) (target : Nat) (parent : Nat) (use : Nat) (type : Nat) (labelLen : Nat) (ctxLen : Nat) (addr : Nat) (s : State) : (next s (execKeyDerive c target parent use type labelLen ctxLen addr s)).queue = s.queue := by
  unfold execKeyDerive
  repeat' first
    | with_reducible rfl | intro _ | (rw [State.onBus_queue]) | (rw [State.onPriv_queue]) | (rw [State.onRead_queue])
    | (rw [State.applyPending_queue]) | refine pair_queue (by assumption) ?_ | refine tripR_queue (by assumption) ?_ | split
    | dsimp only | simp -implicitDefEqProofs [State.pending_eq]

@[simp] theorem execKeyErase_queue (c : Cmd) (slot : Nat) (s : State) : (next s (execKeyErase c slot s)).queue = s.queue := by
  unfold execKeyErase
  repeat' first
    | with_reducible rfl | intro _ | (rw [State.onBus_queue]) | (rw [State.onPriv_queue]) | (rw [State.onRead_queue])
    | (rw [State.applyPending_queue]) | split | dsimp only | simp -implicitDefEqProofs [State.pending_eq]

@[simp] theorem execKeyInfo_queue (c : Cmd) (slot : Nat) (s : State) : (next s (execKeyInfo c slot s)).queue = s.queue := by
  unfold execKeyInfo
  repeat' first
    | with_reducible rfl | intro _ | (rw [State.onBus_queue]) | (rw [State.onPriv_queue]) | (rw [State.onRead_queue])
    | (rw [State.applyPending_queue]) | refine pair_queue (by assumption) ?_ | refine tripR_queue (by assumption) ?_ | split
    | dsimp only | simp -implicitDefEqProofs [State.pending_eq]

@[simp] theorem State.newHedgeRoot_queue (s : State) (h : Nat) : (State.newHedgeRoot s h).queue = s.queue := by simp [State.newHedgeRoot, State.pending_eq]
@[simp] theorem execHedgeKeyWipe_queue (c : Cmd) (confirm : Nat) (s : State) : (next s (execHedgeKeyWipe c confirm s)).queue = s.queue := by
  unfold execHedgeKeyWipe
  repeat' first
    | with_reducible rfl | intro _ | rw [State.each_queue] | (rw [State.onBus_queue]) | (rw [State.onPriv_queue])
    | (rw [State.onRead_queue]) | (rw [State.applyPending_queue]) | split | dsimp only
    | simp -implicitDefEqProofs [State.pending_eq]

@[simp] theorem execTrustSet_queue (c : Cmd) (anchor : Nat) (lockAfter : Bool) (addr : Nat) (s : State) : (next s (execTrustSet c anchor lockAfter addr s)).queue = s.queue := by
  unfold execTrustSet
  repeat' first
    | with_reducible rfl | intro _ | rw [State.each_queue] | rw [State.when_queue] | (rw [State.onBus_queue])
    | (rw [State.onPriv_queue]) | (rw [State.onRead_queue]) | (rw [State.applyPending_queue]) | split | dsimp only
    | simp -implicitDefEqProofs [State.pending_eq]

@[simp] theorem execTrustLockSet_queue (r : Req) (h : Nat) (v : Nat) (s : State) : (next s (execTrustLockSet r h v s)).queue = s.queue := by simp [execTrustLockSet, State.pending_eq]
@[simp] theorem execAttest_queue (c : Cmd) (slot : Nat) (challenge : List Nat) (addr : Nat) (s : State) : (next s (execAttest c slot challenge addr s)).queue = s.queue := by
  unfold execAttest
  repeat' first
    | with_reducible rfl | intro _ | (rw [State.onBus_queue]) | (rw [State.onPriv_queue]) | (rw [State.onRead_queue])
    | (rw [State.applyPending_queue]) | split | dsimp only | simp -implicitDefEqProofs [State.pending_eq]

@[simp] theorem execNodeRekey_queue (c : Cmd) (e : Nat) (s : State) : (next s (execNodeRekey c e s)).queue = s.queue := by
  unfold execNodeRekey
  repeat' first
    | with_reducible rfl | intro _ | rw [State.when_queue] | (rw [State.onBus_queue]) | (rw [State.onPriv_queue])
    | (rw [State.onRead_queue]) | (rw [State.applyPending_queue]) | refine pair_queue (by assumption) ?_
    | refine tripR_queue (by assumption) ?_ | split | dsimp only | simp -implicitDefEqProofs [State.pending_eq]

@[simp] theorem execGroupRekey_queue (c : Cmd) (s : State) : (next s (execGroupRekey c s)).queue = s.queue := by
  unfold execGroupRekey
  repeat' first
    | with_reducible rfl | intro _ | (rw [State.onBus_queue]) | (rw [State.onPriv_queue]) | (rw [State.onRead_queue])
    | (rw [State.applyPending_queue]) | refine pair_queue (by assumption) ?_ | refine tripR_queue (by assumption) ?_ | split
    | dsimp only | simp -implicitDefEqProofs [State.pending_eq]

@[simp] theorem execRekeyRetryExpire_queue (e : Nat) (s : State) : (next s (execRekeyRetryExpire e s)).queue = s.queue := by simp [execRekeyRetryExpire, State.pending_eq]
@[simp] theorem execGroupSwitch_queue (h : Nat) (s : State) : (next s (execGroupSwitch h s)).queue = s.queue := by
  unfold execGroupSwitch
  repeat' first
    | with_reducible rfl | intro _ | (rw [State.onBus_queue]) | (rw [State.onPriv_queue]) | (rw [State.onRead_queue])
    | (rw [State.applyPending_queue]) | refine pair_queue (by assumption) ?_ | refine tripR_queue (by assumption) ?_ | split
    | dsimp only | simp -implicitDefEqProofs [State.pending_eq]

@[simp] theorem execGroupOverlapEnd_queue (h : Nat) (s : State) : (next s (execGroupOverlapEnd h s)).queue = s.queue := by simp [execGroupOverlapEnd, State.pending_eq]
@[simp] theorem execKeyDestroyAll_queue (c : Cmd) (confirm : Nat) (s : State) : (next s (execKeyDestroyAll c confirm s)).queue = s.queue := by
  unfold execKeyDestroyAll
  repeat' first
    | with_reducible rfl | intro _ | rw [State.each_queue] | (rw [State.onBus_queue]) | (rw [State.onPriv_queue])
    | (rw [State.onRead_queue]) | (rw [State.applyPending_queue]) | split | dsimp only
    | simp -implicitDefEqProofs [State.pending_eq]

@[simp] theorem execKeyOrphanSweep_queue (s : State) : (next s (execKeyOrphanSweep s)).queue = s.queue := by simp [execKeyOrphanSweep, State.pending_eq]
@[simp] theorem execKeyRetireZero_queue (s : State) : (next s (execKeyRetireZero s)).queue = s.queue := by simp [execKeyRetireZero, State.pending_eq]
@[simp] theorem execSlotQuotaWrite_queue (r : Req) (h : Nat) (v : Nat) (s : State) : (next s (execSlotQuotaWrite r h v s)).queue = s.queue := by
  unfold execSlotQuotaWrite
  repeat' first
    | with_reducible rfl | intro _ | (rw [State.onBus_queue]) | (rw [State.onPriv_queue]) | (rw [State.onRead_queue])
    | (rw [State.applyPending_queue]) | split | dsimp only | simp -implicitDefEqProofs [State.pending_eq]

@[simp] theorem State.ephemeral_queue (s : State) : ((State.ephemeral s).2).queue = s.queue := by simp [State.ephemeral, State.pending_eq]
@[simp] theorem State.joinOctets_queue (s : State) (e : Nat) (install : List Nat) (nonceN : List Nat) (ephN : List Nat) (authN : List Nat) : ((State.joinOctets s e install nonceN ephN authN).2).queue = s.queue := by
  unfold State.joinOctets
  repeat' first
    | with_reducible rfl | intro _ | (rw [State.onBus_queue]) | (rw [State.onPriv_queue]) | (rw [State.onRead_queue])
    | (rw [State.applyPending_queue]) | refine pair_queue (by assumption) ?_ | refine tripR_queue (by assumption) ?_ | split
    | dsimp only | simp -implicitDefEqProofs [State.pending_eq]

@[simp] theorem State.joinRespond_queue (s : State) (e : Nat) (install : List Nat) (nonceN : List Nat) (ephN : List Nat) (authN : List Nat) : (State.joinRespond s e install nonceN ephN authN).queue = s.queue := by
  unfold State.joinRespond
  repeat' first
    | with_reducible rfl | intro _ | (rw [State.onBus_queue]) | (rw [State.onPriv_queue]) | (rw [State.onRead_queue])
    | (rw [State.applyPending_queue]) | refine pair_queue (by assumption) ?_ | refine tripR_queue (by assumption) ?_ | split
    | dsimp only | simp -implicitDefEqProofs [State.pending_eq]

@[simp] theorem execJoinResponsePart2_queue (e : Nat) (s : State) : (next s (execJoinResponsePart2 e s)).queue = s.queue := by
  unfold execJoinResponsePart2
  repeat' first
    | with_reducible rfl | intro _ | (rw [State.onBus_queue]) | (rw [State.onPriv_queue]) | (rw [State.onRead_queue])
    | (rw [State.applyPending_queue]) | refine pair_queue (by assumption) ?_ | refine tripR_queue (by assumption) ?_ | split
    | dsimp only | simp -implicitDefEqProofs [State.pending_eq]

@[simp] theorem State.laneSync_queue (s : State) (l : Nat) (g : Nat) (metric : Nat) : (State.laneSync s l g metric).queue = s.queue := by
  unfold State.laneSync
  repeat' first
    | with_reducible rfl | intro _ | rw [foldl_queue] | rw [foldlL_queue] | rw [foldlR_queue] | (rw [State.onBus_queue])
    | (rw [State.onPriv_queue]) | (rw [State.onRead_queue]) | (rw [State.applyPending_queue])
    | refine pair_queue (by assumption) ?_ | refine tripR_queue (by assumption) ?_ | split | dsimp only
    | simp -implicitDefEqProofs [State.pending_eq]

@[simp] theorem execSyncDeclare_queue (l : Nat) (g : Nat) (metric : Nat) (s : State) : (next s (execSyncDeclare l g metric s)).queue = s.queue := by
  unfold execSyncDeclare
  repeat' first
    | with_reducible rfl | intro _ | (rw [State.onBus_queue]) | (rw [State.onPriv_queue]) | (rw [State.onRead_queue])
    | (rw [State.applyPending_queue]) | refine pair_queue (by assumption) ?_ | refine tripR_queue (by assumption) ?_ | split
    | dsimp only | simp -implicitDefEqProofs [State.pending_eq]

@[simp] theorem State.laneGiveUp_queue (s : State) (l : Nat) (why : Fld) : (State.laneGiveUp s l why).queue = s.queue := by simp [State.laneGiveUp, State.pending_eq]
@[simp] theorem State.laneHeader_queue (s : State) (f : LaneFrame) (mode : Nat) (len : Nat) (fec : Bool) (long : Bool) (fcs : Nat) (seed : Nat) (ref : Nat) : (State.laneHeader s f mode len fec long fcs seed ref).queue = s.queue := by simp [State.laneHeader, State.pending_eq]
@[simp] theorem execLaneHeaderEnd_queue (l : Nat) (h : Header) (age : Nat) (s : State) : (next s (execLaneHeaderEnd l h age s)).queue = s.queue := by
  unfold execLaneHeaderEnd
  repeat' first
    | with_reducible rfl | intro _ | (rw [State.onBus_queue]) | (rw [State.onPriv_queue]) | (rw [State.onRead_queue])
    | (rw [State.applyPending_queue]) | refine pair_queue (by assumption) ?_ | refine tripR_queue (by assumption) ?_ | split
    | dsimp only | simp -implicitDefEqProofs [State.pending_eq]

@[simp] theorem State.heardOut_queue (s : State) (x : Heard) : (State.heardOut s x).queue = s.queue := by simp [State.heardOut, State.pending_eq]
@[simp] theorem State.dupCount_queue (s : State) (l : Nat) : (State.dupCount s l).queue = s.queue := by simp [State.dupCount, State.pending_eq]
@[simp] theorem State.heardIn_queue (s : State) (x : Heard) : (State.heardIn s x).queue = s.queue := by
  unfold State.heardIn
  repeat' first
    | with_reducible rfl | intro _ | (rw [State.onBus_queue]) | (rw [State.onPriv_queue]) | (rw [State.onRead_queue])
    | (rw [State.applyPending_queue]) | refine pair_queue (by assumption) ?_ | refine tripR_queue (by assumption) ?_ | split
    | dsimp only | simp -implicitDefEqProofs [State.pending_eq]

@[simp] theorem State.handOne_queue (s : State) (f : LaneFrame) : (State.handOne s f).queue = s.queue := by simp [State.handOne, State.pending_eq]
@[simp] theorem State.handOff_queue (s : State) (l : Nat) : (State.handOff s l).queue = s.queue := by simp [State.handOff, State.pending_eq]
@[simp] theorem execDupWinExpire_queue (s : State) : (next s (execDupWinExpire s)).queue = s.queue := by simp [execDupWinExpire, State.pending_eq]
@[simp] theorem State.poolSync_queue (s : State) : (State.poolSync s).queue = s.queue := by simp [State.poolSync, State.pending_eq]
@[simp] theorem State.frameFail_queue (s : State) (uid : Nat) : (State.frameFail s uid).queue = s.queue := by
  unfold State.frameFail
  repeat' first
    | with_reducible rfl | intro _ | (rw [State.onBus_queue]) | (rw [State.onPriv_queue]) | (rw [State.onRead_queue])
    | (rw [State.applyPending_queue]) | refine pair_queue (by assumption) ?_ | refine tripR_queue (by assumption) ?_ | split
    | dsimp only | simp -implicitDefEqProofs [State.pending_eq]

@[simp] theorem State.cwDrop_queue (s : State) (uid : Nat) : (State.cwDrop s uid).queue = s.queue := by simp [State.cwDrop, State.pending_eq]
@[simp] theorem State.poolOrphans_queue (s : State) : (State.poolOrphans s).queue = s.queue := by simp [State.poolOrphans, State.pending_eq]
@[simp] theorem State.decLeave_queue (s : State) (k : Nat) : (State.decLeave s k).queue = s.queue := by simp [State.decLeave, State.pending_eq]
@[simp] theorem State.decFault_queue (s : State) (k : Nat) (iters : Nat) : (State.decFault s k iters).queue = s.queue := by simp [State.decFault, State.pending_eq]
@[simp] theorem execLdpcCwSubmit_queue (x : CwIn) (s : State) : (next s (execLdpcCwSubmit x s)).queue = s.queue := by
  unfold execLdpcCwSubmit
  repeat' first
    | with_reducible rfl | intro _ | rw [getD_queue] | (rw [State.onBus_queue]) | (rw [State.onPriv_queue])
    | (rw [State.onRead_queue]) | (rw [State.applyPending_queue]) | refine pair_queue (by assumption) ?_
    | refine tripR_queue (by assumption) ?_ | split | dsimp only | simp -implicitDefEqProofs [State.pending_eq]

@[simp] theorem execLdpcDecodeStart_queue (k : Nat) (s : State) : (next s (execLdpcDecodeStart k s)).queue = s.queue := by
  unfold execLdpcDecodeStart
  repeat' first
    | with_reducible rfl | intro _ | rw [State.when_queue] | (rw [State.onBus_queue]) | (rw [State.onPriv_queue])
    | (rw [State.onRead_queue]) | (rw [State.applyPending_queue]) | refine pair_queue (by assumption) ?_
    | refine tripR_queue (by assumption) ?_ | split | dsimp only | simp -implicitDefEqProofs [State.pending_eq]

@[simp] theorem State.wordIn_queue (s : State) (w : CodeWord) (iter : Nat) (v : Nat) : (State.wordIn s w iter v).queue = s.queue := by simp [State.wordIn, State.pending_eq]
@[simp] theorem execLdpcDecodeDone_queue (k : Nat) (iter : Nat) (word : Nat) (s : State) : (next s (execLdpcDecodeDone k iter word s)).queue = s.queue := by
  unfold execLdpcDecodeDone
  repeat' first
    | with_reducible rfl | intro _ | rw [State.when_queue] | (rw [State.onBus_queue]) | (rw [State.onPriv_queue])
    | (rw [State.onRead_queue]) | (rw [State.applyPending_queue]) | refine pair_queue (by assumption) ?_
    | refine tripR_queue (by assumption) ?_ | split | dsimp only | simp -implicitDefEqProofs [State.pending_eq]

@[simp] theorem execLdpcCfgWrite_queue (r : Req) (off : Nat) (v : Nat) (s : State) : (next s (execLdpcCfgWrite r off v s)).queue = s.queue := by
  unfold execLdpcCfgWrite
  repeat' first
    | with_reducible rfl | intro _ | (rw [State.onBus_queue]) | (rw [State.onPriv_queue]) | (rw [State.onRead_queue])
    | (rw [State.applyPending_queue]) | split | dsimp only | simp -implicitDefEqProofs [State.pending_eq]

@[simp] theorem execLdpcDecEnWrite_queue (r : Req) (v : Nat) (s : State) : (next s (execLdpcDecEnWrite r v s)).queue = s.queue := by
  unfold execLdpcDecEnWrite
  repeat' first
    | with_reducible rfl | intro _ | rw [State.each_queue] | (rw [State.onBus_queue]) | (rw [State.onPriv_queue])
    | (rw [State.onRead_queue]) | (rw [State.applyPending_queue]) | split | dsimp only
    | simp -implicitDefEqProofs [State.pending_eq]

@[simp] theorem execLaneFrameEnd_queue (l : Nat) (m : LaneMeasure) (s : State) : (next s (execLaneFrameEnd l m s)).queue = s.queue := by
  unfold execLaneFrameEnd
  repeat' first
    | with_reducible rfl | intro _ | (rw [State.onBus_queue]) | (rw [State.onPriv_queue]) | (rw [State.onRead_queue])
    | (rw [State.applyPending_queue]) | refine pair_queue (by assumption) ?_ | refine tripR_queue (by assumption) ?_ | split
    | dsimp only | simp -implicitDefEqProofs [State.pending_eq]

@[simp] theorem State.seenShow_queue (s : State) (h : Nat) : (State.seenShow s h).queue = s.queue := by simp [State.seenShow, State.pending_eq]
@[simp] theorem State.seenAdd_queue (s : State) (h : Nat) (o : Nat) (q : Nat) : (State.seenAdd s h o q).queue = s.queue := by
  unfold State.seenAdd
  repeat' first
    | with_reducible rfl | intro _ | (rw [State.onBus_queue]) | (rw [State.onPriv_queue]) | (rw [State.onRead_queue])
    | (rw [State.applyPending_queue]) | refine pair_queue (by assumption) ?_ | refine tripR_queue (by assumption) ?_ | split
    | dsimp only | simp -implicitDefEqProofs [State.pending_eq]

@[simp] theorem State.startFlood_queue (s : State) (d : Down) : ((State.startFlood s d).2).queue = s.queue := by
  unfold State.startFlood
  repeat' first
    | with_reducible rfl | intro _ | rw [State.each_queue] | (rw [State.onBus_queue]) | (rw [State.onPriv_queue])
    | (rw [State.onRead_queue]) | (rw [State.applyPending_queue]) | refine pair_queue (by assumption) ?_
    | refine tripR_queue (by assumption) ?_ | split | dsimp only | simp -implicitDefEqProofs [State.pending_eq]

@[simp] theorem State.beaconBody_queue (s : State) (phase : Nat) : ((State.beaconBody s phase).2).queue = s.queue := by simp [State.beaconBody, State.pending_eq]
@[simp] theorem State.secureNow_queue (s : State) (d : Down) : ((State.secureNow s d).2.2).queue = s.queue := by
  unfold State.secureNow
  repeat' first
    | with_reducible rfl | intro _ | (rw [State.onBus_queue]) | (rw [State.onPriv_queue]) | (rw [State.onRead_queue])
    | (rw [State.applyPending_queue]) | refine pair_queue (by assumption) ?_ | refine tripR_queue (by assumption) ?_ | split
    | dsimp only | simp -implicitDefEqProofs [State.pending_eq]

@[simp] theorem State.hopDeliver_queue (s : State) (gen : Nat) (f : RxFrame) : (State.hopDeliver s gen f).queue = s.queue := by
  unfold State.hopDeliver
  repeat' first
    | with_reducible rfl | intro _ | rw [State.when_queue] | (rw [State.onBus_queue]) | (rw [State.onPriv_queue])
    | (rw [State.onRead_queue]) | (rw [State.applyPending_queue]) | split | dsimp only
    | simp -implicitDefEqProofs [State.pending_eq]

@[simp] theorem State.relayEnd_queue (s : State) (d : Down) (status : Nat) : (State.relayEnd s d status).queue = s.queue := by
  unfold State.relayEnd
  repeat' first
    | with_reducible rfl | intro _ | (rw [State.onBus_queue]) | (rw [State.onPriv_queue]) | (rw [State.onRead_queue])
    | (rw [State.applyPending_queue]) | refine pair_queue (by assumption) ?_ | refine tripR_queue (by assumption) ?_ | split
    | dsimp only | simp -implicitDefEqProofs [State.pending_eq]

@[simp] theorem State.finishDown_queue (s : State) (d : Down) (status : Nat) : (State.finishDown s d status).queue = s.queue := by simp [State.finishDown, State.pending_eq]
@[simp] theorem State.placePlan_queue (s : State) (d : Down) : (State.placePlan s d).queue = s.queue := by simp [State.placePlan, State.pending_eq]
@[simp] theorem State.holdDown_queue (s : State) (d : Down) : (State.holdDown s d).queue = s.queue := by simp [State.holdDown, State.pending_eq]
@[simp] theorem State.replan_queue (s : State) (d : Down) (bound : Nat) (limit : Bool) : (State.replan s d bound limit).queue = s.queue := by
  unfold State.replan
  repeat' first
    | with_reducible rfl | intro _ | rw [State.when_queue] | (rw [State.onBus_queue]) | (rw [State.onPriv_queue])
    | (rw [State.onRead_queue]) | (rw [State.applyPending_queue]) | refine pair_queue (by assumption) ?_
    | refine tripR_queue (by assumption) ?_ | split | dsimp only | simp -implicitDefEqProofs [State.pending_eq]

@[simp] theorem State.again_queue (s : State) (d : Down) : (State.again s d).queue = s.queue := by simp [State.again, State.pending_eq]
@[simp] theorem State.placeChecked_queue (s : State) (d : Down) : (State.placeChecked s d).queue = s.queue := by
  unfold State.placeChecked
  repeat' first
    | with_reducible rfl | intro _ | (rw [State.onBus_queue]) | (rw [State.onPriv_queue]) | (rw [State.onRead_queue])
    | (rw [State.applyPending_queue]) | refine pair_queue (by assumption) ?_ | refine tripR_queue (by assumption) ?_ | split
    | dsimp only | simp -implicitDefEqProofs [State.pending_eq]

@[simp] theorem State.take_queue (s : State) (d : Down) : (State.take s d).queue = s.queue := by
  unfold State.take
  repeat' first
    | with_reducible rfl | intro _ | (rw [State.onBus_queue]) | (rw [State.onPriv_queue]) | (rw [State.onRead_queue])
    | (rw [State.applyPending_queue]) | refine pair_queue (by assumption) ?_ | refine tripR_queue (by assumption) ?_ | split
    | dsimp only | simp -implicitDefEqProofs [State.pending_eq]

@[simp] theorem execDownlinkRelease_queue (u : Nat) (s : State) : (next s (execDownlinkRelease u s)).queue = s.queue := by
  unfold execDownlinkRelease
  repeat' first
    | with_reducible rfl | intro _ | (rw [State.onBus_queue]) | (rw [State.onPriv_queue]) | (rw [State.onRead_queue])
    | (rw [State.applyPending_queue]) | refine pair_queue (by assumption) ?_ | refine tripR_queue (by assumption) ?_ | split
    | dsimp only | simp -implicitDefEqProofs [State.pending_eq]

@[simp] theorem State.armOn_queue (s : State) (d : Down) (c : Nat) : (State.armOn s d c).queue = s.queue := by simp [State.armOn, State.pending_eq]
@[simp] theorem State.armAttempt_queue (s : State) (d : Down) : (State.armAttempt s d).queue = s.queue := by
  unfold State.armAttempt
  repeat' first
    | with_reducible rfl | intro _ | (rw [State.onBus_queue]) | (rw [State.onPriv_queue]) | (rw [State.onRead_queue])
    | (rw [State.applyPending_queue]) | refine pair_queue (by assumption) ?_ | refine tripR_queue (by assumption) ?_ | split
    | dsimp only | simp -implicitDefEqProofs [State.pending_eq]

@[simp] theorem State.obsAnchor_queue (s : State) (e : Nat) (tw : Int) (tObs : Nat) (stamp : Nat) : (State.obsAnchor s e tw tObs stamp).queue = s.queue := by simp [State.obsAnchor, State.pending_eq]
@[simp] theorem State.breach_queue (s : State) (e : Nat) : (State.breach s e).queue = s.queue := by simp [State.breach, State.pending_eq]
@[simp] theorem State.setRate_queue (s : State) (e : Nat) (r : Int) : (State.setRate s e r).queue = s.queue := by simp [State.setRate, State.pending_eq]
@[simp] theorem State.modelGone_queue (s : State) (e : Nat) : (State.modelGone s e).queue = s.queue := by simp [State.modelGone, State.pending_eq]
@[simp] theorem State.observe_queue (s : State) (e : Nat) (tObs : Nat) (stamp : Nat) (fresh : Bool) : (State.observe s e tObs stamp fresh).queue = s.queue := by
  unfold State.observe
  repeat' first
    | with_reducible rfl | intro _ | (rw [State.onBus_queue]) | (rw [State.onPriv_queue]) | (rw [State.onRead_queue])
    | (rw [State.applyPending_queue]) | split | dsimp only | simp -implicitDefEqProofs [State.pending_eq]

@[simp] theorem State.observeOr_queue (s : State) (e : Nat) (tObs : Nat) (stamp : Nat) (fresh : Bool) : (State.observeOr s e tObs stamp fresh).queue = s.queue := by simp [State.observeOr, State.pending_eq]
@[simp] theorem State.fixTo_queue (s : State) (until_ : Nat) : (State.fixTo s until_).queue = s.queue := by simp [State.fixTo, State.pending_eq]
@[simp] theorem State.fixWalk_queue (s : State) : (State.fixWalk s).queue = s.queue := by simp [State.fixWalk, State.pending_eq]
@[simp] theorem execNscCycle_queue (s : State) : (next s (execNscCycle s)).queue = s.queue := by simp [execNscCycle, State.pending_eq]
@[simp] theorem execPhaseFixWalkDone_queue (s : State) : (next s (execPhaseFixWalkDone s)).queue = s.queue := by
  unfold execPhaseFixWalkDone
  repeat' first
    | with_reducible rfl | intro _ | (rw [State.onBus_queue]) | (rw [State.onPriv_queue]) | (rw [State.onRead_queue])
    | (rw [State.applyPending_queue]) | split | dsimp only | simp -implicitDefEqProofs [State.pending_eq]

@[simp] theorem State.backoff_queue (s : State) (lbt : Nat) : ((State.backoff s lbt).2).queue = s.queue := by simp [State.backoff, State.pending_eq]
@[simp] theorem State.heldUntil_queue (s : State) (d : Down) (bound : Nat) (limit : Bool) : (State.heldUntil s d bound limit).queue = s.queue := by simp [State.heldUntil, State.pending_eq]
@[simp] theorem State.verdict_queue (s : State) (d : Down) (v : Nat) (earliest : Nat) : (State.verdict s d v earliest).queue = s.queue := by
  unfold State.verdict
  repeat' first
    | with_reducible rfl | intro _ | (rw [State.onBus_queue]) | (rw [State.onPriv_queue]) | (rw [State.onRead_queue])
    | (rw [State.applyPending_queue]) | refine pair_queue (by assumption) ?_ | refine tripR_queue (by assumption) ?_ | split
    | dsimp only | simp -implicitDefEqProofs [State.pending_eq]

@[simp] theorem execAttemptArm_queue (u : Nat) (s : State) : (next s (execAttemptArm u s)).queue = s.queue := by
  unfold execAttemptArm
  repeat' first
    | with_reducible rfl | intro _ | rw [foldl_queue] | rw [foldlL_queue] | rw [foldlR_queue] | (rw [State.onBus_queue])
    | (rw [State.onPriv_queue]) | (rw [State.onRead_queue]) | (rw [State.applyPending_queue])
    | refine pair_queue (by assumption) ?_ | refine tripR_queue (by assumption) ?_ | split | dsimp only
    | simp -implicitDefEqProofs [State.pending_eq]

@[simp] theorem execGateRecordHandle_queue (c : Nat) (s : State) : (next s (execGateRecordHandle c s)).queue = s.queue := by
  unfold execGateRecordHandle
  repeat' first
    | with_reducible rfl | intro _ | (rw [State.onBus_queue]) | (rw [State.onPriv_queue]) | (rw [State.onRead_queue])
    | (rw [State.applyPending_queue]) | refine pair_queue (by assumption) ?_ | refine tripR_queue (by assumption) ?_ | split
    | dsimp only | simp -implicitDefEqProofs [State.pending_eq]

@[simp] theorem State.retry_queue (s : State) (d : Down) : (State.retry s d).queue = s.queue := by simp [State.retry, State.pending_eq]
@[simp] theorem State.countAir_queue (s : State) (d : Down) (start : Nat) : ((State.countAir s d start).2).queue = s.queue := by
  unfold State.countAir
  repeat' first
    | with_reducible rfl | intro _ | rw [State.when_queue] | (rw [State.onBus_queue]) | (rw [State.onPriv_queue])
    | (rw [State.onRead_queue]) | (rw [State.applyPending_queue]) | refine pair_queue (by assumption) ?_
    | refine tripR_queue (by assumption) ?_ | split | dsimp only | simp -implicitDefEqProofs [State.pending_eq]

@[simp] theorem State.floodNext_queue (s : State) (d : Down) : (State.floodNext s d).queue = s.queue := by simp [State.floodNext, State.pending_eq]
@[simp] theorem State.sent_queue (s : State) (d : Down) : (State.sent s d).queue = s.queue := by
  unfold State.sent
  repeat' first
    | with_reducible rfl | intro _ | rw [State.when_queue] | (rw [State.onBus_queue]) | (rw [State.onPriv_queue])
    | (rw [State.onRead_queue]) | (rw [State.applyPending_queue]) | split | dsimp only
    | simp -implicitDefEqProofs [State.pending_eq]

@[simp] theorem execTxResultHandle_queue (c : Nat) (s : State) : (next s (execTxResultHandle c s)).queue = s.queue := by
  unfold execTxResultHandle
  repeat' first
    | with_reducible rfl | intro _ | (rw [State.onBus_queue]) | (rw [State.onPriv_queue]) | (rw [State.onRead_queue])
    | (rw [State.applyPending_queue]) | refine pair_queue (by assumption) ?_ | refine tripR_queue (by assumption) ?_ | split
    | dsimp only | simp -implicitDefEqProofs [State.pending_eq]

@[simp] theorem execTrainCopyArm_queue (u : Nat) (s : State) : (next s (execTrainCopyArm u s)).queue = s.queue := by
  unfold execTrainCopyArm
  repeat' first
    | with_reducible rfl | intro _ | (rw [State.onBus_queue]) | (rw [State.onPriv_queue]) | (rw [State.onRead_queue])
    | (rw [State.applyPending_queue]) | refine pair_queue (by assumption) ?_ | refine tripR_queue (by assumption) ?_ | split
    | dsimp only | simp -implicitDefEqProofs [State.pending_eq]

@[simp] theorem State.miss_queue (s : State) (d : Down) : (State.miss s d).queue = s.queue := by
  unfold State.miss
  repeat' first
    | with_reducible rfl | intro _ | (rw [State.onBus_queue]) | (rw [State.onPriv_queue]) | (rw [State.onRead_queue])
    | (rw [State.applyPending_queue]) | refine pair_queue (by assumption) ?_ | refine tripR_queue (by assumption) ?_ | split
    | dsimp only | simp -implicitDefEqProofs [State.pending_eq]

@[simp] theorem execAckWindowExpire_queue (u : Nat) (s : State) : (next s (execAckWindowExpire u s)).queue = s.queue := by
  unfold execAckWindowExpire
  repeat' first
    | with_reducible rfl | intro _ | (rw [State.onBus_queue]) | (rw [State.onPriv_queue]) | (rw [State.onRead_queue])
    | (rw [State.applyPending_queue]) | refine pair_queue (by assumption) ?_ | refine tripR_queue (by assumption) ?_ | split
    | dsimp only | simp -implicitDefEqProofs [State.pending_eq]

@[simp] theorem State.ackHit_queue (s : State) (d : Down) (lqi : Nat) : (State.ackHit s d lqi).queue = s.queue := by simp [State.ackHit, State.pending_eq]
@[simp] theorem State.findAddr_queue (s : State) (h : Nat) (a : Addr) : ((State.findAddr s h a).2).queue = s.queue := by
  unfold State.findAddr
  repeat' first
    | with_reducible rfl | intro _ | (rw [State.onBus_queue]) | (rw [State.onPriv_queue]) | (rw [State.onRead_queue])
    | (rw [State.applyPending_queue]) | refine pair_queue (by assumption) ?_ | refine tripR_queue (by assumption) ?_ | split
    | dsimp only | simp -implicitDefEqProofs [State.pending_eq]

@[simp] theorem State.keepCounter_queue (s : State) (e : Nat) (cnt : Nat) (map : Nat) : (State.keepCounter s e cnt map).queue = s.queue := by simp [State.keepCounter, State.pending_eq]
@[simp] theorem State.recordCounter_queue (s : State) (e : Nat) (c : Nat) (cnt : Nat) (map : Nat) : (State.recordCounter s e c cnt map).queue = s.queue := by simp [State.recordCounter, State.pending_eq]
@[simp] theorem State.rxKey_queue (s : State) (e : Nat) (ix : Nat) : ((State.rxKey s e ix).2).queue = s.queue := by
  unfold State.rxKey
  repeat' first
    | with_reducible rfl | intro _ | (rw [State.onBus_queue]) | (rw [State.onPriv_queue]) | (rw [State.onRead_queue])
    | (rw [State.applyPending_queue]) | refine pair_queue (by assumption) ?_ | refine tripR_queue (by assumption) ?_ | split
    | dsimp only | simp -implicitDefEqProofs [State.pending_eq]

@[simp] theorem State.openFrame_queue (s : State) (e : Nat) (p : RxParsed) : ((State.openFrame s e p).2).queue = s.queue := by
  unfold State.openFrame
  repeat' first
    | with_reducible rfl | intro _ | (rw [State.onBus_queue]) | (rw [State.onPriv_queue]) | (rw [State.onRead_queue])
    | (rw [State.applyPending_queue]) | refine pair_queue (by assumption) ?_ | refine tripR_queue (by assumption) ?_ | split
    | dsimp only | simp -implicitDefEqProofs [State.pending_eq]

@[simp] theorem State.radioUpdate_queue (s : State) (e : Nat) (r : List Nat) : (State.radioUpdate s e r).queue = s.queue := by simp [State.radioUpdate, State.pending_eq]
@[simp] theorem State.heardOn_queue (s : State) (h : Nat) (e : Nat) (r : List Nat) : (State.heardOn s h e r).queue = s.queue := by
  unfold State.heardOn
  repeat' first
    | with_reducible rfl | intro _ | (rw [State.onBus_queue]) | (rw [State.onPriv_queue]) | (rw [State.onRead_queue])
    | (rw [State.applyPending_queue]) | refine pair_queue (by assumption) ?_ | refine tripR_queue (by assumption) ?_ | split
    | dsimp only | simp -implicitDefEqProofs [State.pending_eq]

@[simp] theorem State.sweepHeard_queue (s : State) (h : Nat) (e : Nat) (r : List Nat) : (State.sweepHeard s h e r).queue = s.queue := by simp [State.sweepHeard, State.pending_eq]
@[simp] theorem State.foundAgain_queue (s : State) (e : Nat) : (State.foundAgain s e).queue = s.queue := by simp [State.foundAgain, State.pending_eq]
@[simp] theorem State.joinComplete_queue (s : State) (e : Nat) : (State.joinComplete s e).queue = s.queue := by simp [State.joinComplete, State.pending_eq]
@[simp] theorem State.keyAccepted_queue (s : State) (e : Nat) (k : KeyKind) : (State.keyAccepted s e k).queue = s.queue := by
  unfold State.keyAccepted
  repeat' first
    | with_reducible rfl | intro _ | (rw [State.onBus_queue]) | (rw [State.onPriv_queue]) | (rw [State.onRead_queue])
    | (rw [State.applyPending_queue]) | refine pair_queue (by assumption) ?_ | refine tripR_queue (by assumption) ?_ | split
    | dsimp only | simp -implicitDefEqProofs [State.pending_eq]

@[simp] theorem State.ackPlace_queue (s : State) (e : Nat) (ch : Nat) (mode : Nat) (freq : Nat) (psdu : List Nat) (c : Nat) : (State.ackPlace s e ch mode freq psdu c).queue = s.queue := by simp [State.ackPlace, State.pending_eq]
@[simp] theorem State.sendAck_queue (s : State) (e : Nat) (r : List Nat) (seq : Option Nat) : (State.sendAck s e r seq).queue = s.queue := by
  unfold State.sendAck
  repeat' first
    | with_reducible rfl | intro _ | (rw [State.onBus_queue]) | (rw [State.onPriv_queue]) | (rw [State.onRead_queue])
    | (rw [State.applyPending_queue]) | refine pair_queue (by assumption) ?_ | refine tripR_queue (by assumption) ?_ | split
    | dsimp only | simp -implicitDefEqProofs [State.pending_eq]

@[simp] theorem State.ackSecure_queue (s : State) (d : Down) (p : RxParsed) : ((State.ackSecure s d p).2).queue = s.queue := by
  unfold State.ackSecure
  repeat' first
    | with_reducible rfl | intro _ | (rw [State.onBus_queue]) | (rw [State.onPriv_queue]) | (rw [State.onRead_queue])
    | (rw [State.applyPending_queue]) | refine pair_queue (by assumption) ?_ | refine tripR_queue (by assumption) ?_ | split
    | dsimp only | simp -implicitDefEqProofs [State.pending_eq]

@[simp] theorem State.ackEnds_queue (s : State) (d : Down) (r : List Nat) (secured : Bool) : (State.ackEnds s d r secured).queue = s.queue := by simp [State.ackEnds, State.pending_eq]
@[simp] theorem State.ackRx_queue (s : State) (r : List Nat) (p : RxParsed) : (State.ackRx s r p).queue = s.queue := by
  unfold State.ackRx
  repeat' first
    | with_reducible rfl | intro _ | (rw [State.onBus_queue]) | (rw [State.onPriv_queue]) | (rw [State.onRead_queue])
    | (rw [State.applyPending_queue]) | refine pair_queue (by assumption) ?_ | refine tripR_queue (by assumption) ?_ | split
    | dsimp only | simp -implicitDefEqProofs [State.pending_eq]

@[simp] theorem State.joinAuthentic_queue (s : State) (h : Nat) (eui : Nat) (l : List Nat) : ((State.joinAuthentic s h eui l).2.2).queue = s.queue := by
  unfold State.joinAuthentic
  repeat' first
    | with_reducible rfl | intro _ | rw [getD_queue] | (rw [State.onBus_queue]) | (rw [State.onPriv_queue])
    | (rw [State.onRead_queue]) | (rw [State.applyPending_queue]) | refine pair_queue (by assumption) ?_
    | refine tripR_queue (by assumption) ?_ | split | dsimp only | simp -implicitDefEqProofs [State.pending_eq]

@[simp] theorem State.joinAnswer_queue (s : State) (e : Nat) (install : List Nat) (l : List Nat) : (State.joinAnswer s e install l).queue = s.queue := by simp [State.joinAnswer, State.pending_eq]
@[simp] theorem State.joinedNew_queue (s : State) (h : Nat) (e : Nat) (r : List Nat) (install : List Nat) (l : List Nat) : (State.joinedNew s h e r install l).queue = s.queue := by simp [State.joinedNew, State.pending_eq]
@[simp] theorem State.joinNew_queue (s : State) (h : Nat) (eui : Nat) (r : List Nat) (l : List Nat) : (State.joinNew s h eui r l).queue = s.queue := by
  unfold State.joinNew
  repeat' first
    | with_reducible rfl | intro _ | rw [getD_queue] | (rw [State.onBus_queue]) | (rw [State.onPriv_queue])
    | (rw [State.onRead_queue]) | (rw [State.applyPending_queue]) | refine pair_queue (by assumption) ?_
    | refine tripR_queue (by assumption) ?_ | split | dsimp only | simp -implicitDefEqProofs [State.pending_eq]

@[simp] theorem State.joinAgain_queue (s : State) (e : Nat) (r : List Nat) (l : List Nat) : (State.joinAgain s e r l).queue = s.queue := by
  unfold State.joinAgain
  repeat' first
    | with_reducible rfl | intro _ | (rw [State.onBus_queue]) | (rw [State.onPriv_queue]) | (rw [State.onRead_queue])
    | (rw [State.applyPending_queue]) | refine pair_queue (by assumption) ?_ | refine tripR_queue (by assumption) ?_ | split
    | dsimp only | simp -implicitDefEqProofs [State.pending_eq]

@[simp] theorem State.rejoin_queue (s : State) (e : Nat) : (State.rejoin s e).queue = s.queue := by simp [State.rejoin, State.pending_eq]
@[simp] theorem State.wakeSchedule_queue (s : State) (h : Nat) (e : Nat) (phase : Nat) (secured : Bool) (l : List Nat) : (State.wakeSchedule s h e phase secured l).queue = s.queue := by
  unfold State.wakeSchedule
  repeat' first
    | with_reducible rfl | intro _ | rw [getD_queue] | (rw [State.onBus_queue]) | (rw [State.onPriv_queue])
    | (rw [State.onRead_queue]) | (rw [State.applyPending_queue]) | split | dsimp only
    | simp -implicitDefEqProofs [State.pending_eq]

@[simp] theorem State.originOf_queue (s : State) (h : Nat) (e : Nat) (hh : List Nat) : ((State.originOf s h e hh).2).queue = s.queue := by
  unfold State.originOf
  repeat' first
    | with_reducible rfl | intro _ | (rw [State.onBus_queue]) | (rw [State.onPriv_queue]) | (rw [State.onRead_queue])
    | (rw [State.applyPending_queue]) | refine pair_queue (by assumption) ?_ | refine tripR_queue (by assumption) ?_ | split
    | dsimp only | simp -implicitDefEqProofs [State.pending_eq]

@[simp] theorem State.routeRefresh_queue (s : State) (x : Nat) (hops : Nat) (lane : Nat) (metric : Nat) : (State.routeRefresh s x hops lane metric).queue = s.queue := by simp [State.routeRefresh, State.pending_eq]
theorem State.offerRoute_queue (s : State) (h lane x nx : Nat) (d : Bool) (hops m : Nat) :
    ∀ t, s.offerRoute h lane x nx d hops m = some t → t.queue = s.queue := by
  intro t ht
  unfold State.offerRoute at ht
  split at ht
  · cases ht; rfl
  · cases ht; simp
  · split at ht
    · rename_i h1
      simp only [Option.some.injEq] at ht
      rw [← ht]
      simp [pair_queue h1 (State.learn_queue _ _ _)]
    · rename_i h1
      have h3 := pair_queue h1 (State.learn_queue _ _ _)
      split at ht
      · simp only [Option.some.injEq] at ht
        rw [← ht]
        simp [h3]
      · cases ht
theorem State.learnRoutes_queue (s : State) (h e : Nat) (r hh : List Nat) (g : Origin) :
    ∀ t, s.learnRoutes h e r hh g = some t → t.queue = s.queue := by
  intro t ht
  unfold State.learnRoutes at ht
  dsimp only at ht
  split at ht
  · cases ht
  · rename_i h1
    have h2 := State.offerRoute_queue _ _ _ _ _ _ _ _ _ h1
    split at ht
    · split at ht
      · rw [State.offerRoute_queue _ _ _ _ _ _ _ _ _ ht, h2]
      · cases ht; exact h2
    · cases ht; exact h2
@[simp] theorem State.reportRx_queue (s : State) (h : Nat) (e : Nat) (l : List Nat) : (State.reportRx s h e l).queue = s.queue := by
  unfold State.reportRx
  repeat' first
    | with_reducible rfl | intro _ | rw [State.when_queue] | rw [getD_queue] | (rw [State.onBus_queue])
    | (rw [State.onPriv_queue]) | (rw [State.onRead_queue]) | (rw [State.applyPending_queue])
    | refine pair_queue (by assumption) ?_ | refine tripR_queue (by assumption) ?_ | split | dsimp only
    | simp -implicitDefEqProofs [State.pending_eq]

@[simp] theorem State.relayRx_queue (s : State) (x : Rx) (f : RxFrame) (final : Nat) (payload : List Nat) : (State.relayRx s x f final payload).queue = s.queue := by
  unfold State.relayRx
  repeat' first
    | with_reducible rfl | intro _ | (rw [State.onBus_queue]) | (rw [State.onPriv_queue]) | (rw [State.onRead_queue])
    | (rw [State.applyPending_queue]) | refine pair_queue (by assumption) ?_ | refine tripR_queue (by assumption) ?_ | split
    | dsimp only | simp -implicitDefEqProofs [State.pending_eq]

@[simp] theorem State.refloodRx_queue (s : State) (x : Rx) (final : Nat) (payload : List Nat) : (State.refloodRx s x final payload).queue = s.queue := by simp [State.refloodRx, State.pending_eq]
@[simp] theorem execRefloodSend_queue (u : Nat) (s : State) : (next s (execRefloodSend u s)).queue = s.queue := by
  unfold execRefloodSend
  repeat' first
    | with_reducible rfl | intro _ | rw [getD_queue] | (rw [State.onBus_queue]) | (rw [State.onPriv_queue])
    | (rw [State.onRead_queue]) | (rw [State.applyPending_queue]) | refine pair_queue (by assumption) ?_
    | refine tripR_queue (by assumption) ?_ | split | dsimp only | simp -implicitDefEqProofs [State.pending_eq]

@[simp] theorem State.step12_queue (s : State) (x : Rx) (g : Origin) (sf : Nat) (clear : List Nat) : (State.step12 s x g sf clear).queue = s.queue := by
  unfold State.step12
  repeat' first
    | with_reducible rfl | intro _ | rw [getD_queue] | (rw [State.onBus_queue]) | (rw [State.onPriv_queue])
    | (rw [State.onRead_queue]) | (rw [State.applyPending_queue]) | split | dsimp only
    | simp -implicitDefEqProofs [State.pending_eq]

@[simp] theorem State.accept_queue (s0 s : State) (x : Rx) (sec : Bool) (kind : KeyKind) (clear : List Nat) (h0 : s0.queue = s.queue) :
    (State.accept s0 s x sec kind clear).queue = s.queue := by
  unfold State.accept
  extract_lets h e f hop hh final bad
  clear_value hop
  split
  rename_i g s1 h1
  have q1 := pair_queue (s := s) h1 (by
    split
    · rw [State.originOf_queue]
    · rfl)
  extract_lets act learned
  have ql : ∀ t, learned = some t → t.queue = s.queue := by
    intro t ht
    rw [← q1]
    simp only [learned] at ht
    split at ht
    · exact State.learnRoutes_queue _ _ _ _ _ _ _ ht
    · cases ht; rfl
  clear_value learned act
  split
  · rw [State.bump_queue, State.bump_queue, h0]
  rename_i s2
  have q2 := ql s2 rfl
  extract_lets a1 a2 a3 a4 a5 a6 a7 a8 a9 b1 b2 b3
  have p2 : a2.queue = s.queue := by simp only [a2, a1]; rw [State.clr_queue, State.bumpSat_queue, q2]
  clear_value a2
  have p3 : a3.queue = s.queue := by
    simp only [a3]
    rw [State.when_queue, p2]
    rw [State.hit_queue]
  clear_value a3
  have p4 : a4.queue = s.queue := by
    simp only [a4]
    rw [State.when_queue, p3]
    rw [State.when_queue, State.radioUpdate_queue]
    rw [State.foundAgain_queue]
  clear_value a4
  have p5 : a5.queue = s.queue := by simp only [a5]; rw [State.when_queue, p4]; rw [State.heardOn_queue]
  clear_value a5
  have p6 : a6.queue = s.queue := by simp only [a6]; rw [State.when_queue, p5]; rw [State.wrE_queue]
  clear_value a6
  have p7 : a7.queue = s.queue := by simp only [a7]; rw [State.when_queue, p6]; rw [State.sweepHeard_queue]
  clear_value a7
  have p8 : a8.queue = s.queue := by simp only [a8]; rw [State.when_queue, p7]; rw [State.bump_queue]
  clear_value a8
  have p9 : a9.queue = s.queue := by simp only [a9]; rw [State.when_queue, p8]; rw [State.bump_queue]
  clear_value a9
  have o1 : b1.queue = s.queue := by
    simp only [b1]
    split
    · rw [State.observeOr_queue, p9]
    · exact p9
  clear_value b1
  have o2 : b2.queue = s.queue := by
    simp only [b2]
    split
    · rw [State.wakeSchedule_queue, o1]
    · exact o1
  clear_value b2
  have o3 : b3.queue = s.queue := by
    simp only [b3]
    split
    · rw [State.sendAck_queue, o2]
    · exact o2
  clear_value b3
  split
  · exact o3
  split
  · rw [State.step12_queue, o3]
  · rw [State.rxIn_queue, o3]
@[simp] theorem State.macReplay_queue (s0 s : State) (x : Rx) (sec : Bool) (kind : KeyKind) (clear : List Nat) (h0 : s0.queue = s.queue) :
    (State.macReplay s0 s x sec kind clear).queue = s.queue := by
  unfold State.macReplay
  repeat' first
    | assumption
    | (rw [State.accept_queue])
    | (simp [h0]; done)
    | with_reducible rfl | intro _ | rw [State.each_queue] | rw [State.when_queue] | rw [foldl_queue] | rw [foldlL_queue]
    | rw [foldlR_queue] | rw [getD_queue] | refine pair_queue (by assumption) ?_ | refine pairL_queue (by assumption) ?_
    | refine tripR_queue (by assumption) ?_ | refine tripM_queue (by assumption) ?_ | refine quadR_queue (by assumption) ?_
    | split | (rw [State.onBus_queue]) | (rw [State.onPriv_queue]) | (rw [State.onRead_queue]) | (rw [State.applyPending_queue])
    | (rw [State.issue_queue]) | exact State.moveShort_queue _ _ _ _ _ (by assumption)
    | exact State.offerRoute_queue _ _ _ _ _ _ _ _ _ (by assumption)
    | exact State.learnRoutes_queue _ _ _ _ _ _ _ (by assumption) | dsimp only | simp -implicitDefEqProofs [State.pending_eq]

@[simp] theorem State.retiredDuring_queue (s : State) (x : Rx) : ((State.retiredDuring s x).2).queue = s.queue := by
  unfold State.retiredDuring
  repeat' first
    | with_reducible rfl | intro _ | (rw [State.onBus_queue]) | (rw [State.onPriv_queue]) | (rw [State.onRead_queue])
    | (rw [State.applyPending_queue]) | refine pair_queue (by assumption) ?_ | refine tripR_queue (by assumption) ?_ | split
    | dsimp only | simp -implicitDefEqProofs [State.pending_eq]

@[simp] theorem State.macEntry_queue (s : State) (x : Rx) : (State.macEntry s x).queue = s.queue := by
  unfold State.macEntry
  repeat' first
    | with_reducible rfl | intro _ | (rw [State.onBus_queue]) | (rw [State.onPriv_queue]) | (rw [State.onRead_queue])
    | (rw [State.applyPending_queue]) | refine pair_queue (by assumption) ?_ | refine tripR_queue (by assumption) ?_ | split
    | dsimp only | simp -implicitDefEqProofs [State.pending_eq]

@[simp] theorem State.macFrom_queue (s : State) (r : List Nat) (p : RxParsed) (at_ : Nat) (i : Nat) : (State.macFrom s r p at_ i).queue = s.queue := by
  unfold State.macFrom
  repeat' first
    | with_reducible rfl | intro _ | (rw [State.onBus_queue]) | (rw [State.onPriv_queue]) | (rw [State.onRead_queue])
    | (rw [State.applyPending_queue]) | refine pair_queue (by assumption) ?_ | refine tripR_queue (by assumption) ?_ | split
    | dsimp only | simp -implicitDefEqProofs [State.pending_eq]

@[simp] theorem State.macRx_queue (s : State) (x : LaneIn) : (State.macRx s x).queue = s.queue := by
  unfold State.macRx
  repeat' first
    | with_reducible rfl | intro _ | (rw [State.onBus_queue]) | (rw [State.onPriv_queue]) | (rw [State.onRead_queue])
    | (rw [State.applyPending_queue]) | refine pair_queue (by assumption) ?_ | refine tripR_queue (by assumption) ?_ | split
    | dsimp only | simp -implicitDefEqProofs [State.pending_eq]

@[simp] theorem execMacRxFrame_queue (l : Nat) (s : State) : (next s (execMacRxFrame l s)).queue = s.queue := by
  unfold execMacRxFrame
  repeat' first
    | with_reducible rfl | intro _ | (rw [State.onBus_queue]) | (rw [State.onPriv_queue]) | (rw [State.onRead_queue])
    | (rw [State.applyPending_queue]) | refine pair_queue (by assumption) ?_ | refine tripR_queue (by assumption) ?_ | split
    | dsimp only | simp -implicitDefEqProofs [State.pending_eq]

@[simp] theorem State.setW_queue (s : State) (g : Nat) (r : Nat) (v : Nat) : (State.setW s g r v).queue = s.queue := by simp [State.setW, State.pending_eq]
@[simp] theorem State.setPair_queue (s : State) (g : Nat) (r : Nat) (v : Nat) : (State.setPair s g r v).queue = s.queue := by simp [State.setPair, State.pending_eq]
@[simp] theorem State.setZN_queue (s : State) (g : Nat) (v : Nat) : (State.setZN s g v).queue = s.queue := by simp [State.setZN, State.pending_eq]
@[simp] theorem State.setZ_queue (s : State) (g : Nat) (z : Bool) : (State.setZ s g z).queue = s.queue := by simp [State.setZ, State.pending_eq]
@[simp] theorem State.progHalted_queue (s : State) (h : Nat) (g : Nat) : (State.progHalted s h g).queue = s.queue := by simp [State.progHalted, State.pending_eq]
@[simp] theorem State.halt_queue (s : State) (g : Nat) (epc : Nat) (cause : Nat) (eval : Nat) : (State.halt s g epc cause eval).queue = s.queue := by
  unfold State.halt
  repeat' first
    | with_reducible rfl | intro _ | (rw [State.onBus_queue]) | (rw [State.onPriv_queue]) | (rw [State.onRead_queue])
    | (rw [State.applyPending_queue]) | (rw [State.issue_queue]) | refine pair_queue (by assumption) ?_
    | refine tripR_queue (by assumption) ?_ | split | dsimp only | simp -implicitDefEqProofs [State.pending_eq]

@[simp] theorem State.trap_queue (s : State) (g : Nat) (cause : Nat) (eval : Nat) : (State.trap s g cause eval).queue = s.queue := by simp [State.trap, State.pending_eq]
@[simp] theorem State.waitFor_queue (s : State) (g : Nat) (kind : Nat) (reg : Nat) (v : Nat) : (State.waitFor s g kind reg v).queue = s.queue := by simp [State.waitFor, State.pending_eq]
@[simp] theorem State.issue_queue (s : State) (g : Nat) (ok : Bool) (word : Nat) (f : State → State) (hf : ∀ u, (f u).queue = u.queue) : (State.issue s g ok word f).queue = s.queue := by
  unfold State.issue
  repeat' first
    | with_reducible rfl | intro _ | (rw [State.onBus_queue]) | (rw [State.onPriv_queue]) | (rw [State.onRead_queue])
    | (rw [State.applyPending_queue]) | (rw [hf]) | split | dsimp only | simp -implicitDefEqProofs [State.pending_eq]

@[simp] theorem State.dramPut_queue (s : State) (a : Nat) (b : Nat) : (State.dramPut s a b).queue = s.queue := by simp [State.dramPut, State.pending_eq]
@[simp] theorem State.dramWrite_queue (s : State) (a : Nat) (l : List Nat) : (s.dramWrite a l).queue = s.queue := by
  induction l generalizing s a with
  | nil => rfl
  | cons b t ih => unfold State.dramWrite; rw [ih]; simp
@[simp] theorem State.countEntry_queue (s : State) (e : Nat) (up : Bool) : (State.countEntry s e up).queue = s.queue := by
  unfold State.countEntry
  repeat' first
    | with_reducible rfl | intro _ | rw [State.when_queue] | (rw [State.onBus_queue]) | (rw [State.onPriv_queue])
    | (rw [State.onRead_queue]) | (rw [State.applyPending_queue]) | (rw [State.issue_queue]) | split | dsimp only
    | simp -implicitDefEqProofs [State.pending_eq]

@[simp] theorem State.entryStore_queue (s : State) (e : Nat) (off : Nat) (l : List Nat) : (State.entryStore s e off l).queue = s.queue := by
  unfold State.entryStore
  repeat' first
    | with_reducible rfl | intro _ | rw [State.each_queue] | (rw [State.onBus_queue]) | (rw [State.onPriv_queue])
    | (rw [State.onRead_queue]) | (rw [State.applyPending_queue]) | (rw [State.issue_queue])
    | refine pair_queue (by assumption) ?_ | refine tripR_queue (by assumption) ?_ | split | dsimp only
    | simp -implicitDefEqProofs [State.pending_eq]

@[simp] theorem State.placeWrite_queue (s : State) (p : Place) (l : List Nat) : (State.placeWrite s p l).queue = s.queue := by
  unfold State.placeWrite
  repeat' first
    | with_reducible rfl | intro _ | (rw [State.onBus_queue]) | (rw [State.onPriv_queue]) | (rw [State.onRead_queue])
    | (rw [State.applyPending_queue]) | (rw [State.issue_queue]) | refine pair_queue (by assumption) ?_
    | refine tripR_queue (by assumption) ?_ | split | dsimp only | simp -implicitDefEqProofs [State.pending_eq]

@[simp] theorem State.fifoTake_queue (s : State) (f : Nat) : (State.fifoTake s f).queue = s.queue := by
  unfold State.fifoTake
  repeat' first
    | with_reducible rfl | intro _ | (rw [State.onBus_queue]) | (rw [State.onPriv_queue]) | (rw [State.onRead_queue])
    | (rw [State.applyPending_queue]) | (rw [State.issue_queue]) | refine pair_queue (by assumption) ?_
    | refine tripR_queue (by assumption) ?_ | split | dsimp only | simp -implicitDefEqProofs [State.pending_eq]

@[simp] theorem State.fifoStore_queue (s : State) (g : Nat) (f : Nat) (l : List Nat) : (State.fifoStore s g f l).queue = s.queue := by
  unfold State.fifoStore
  repeat' first
    | with_reducible rfl | intro _ | (rw [State.onBus_queue]) | (rw [State.onPriv_queue]) | (rw [State.onRead_queue])
    | (rw [State.applyPending_queue]) | (rw [State.issue_queue]) | refine pair_queue (by assumption) ?_
    | refine tripR_queue (by assumption) ?_ | split | dsimp only | simp -implicitDefEqProofs [State.pending_eq]

@[simp] theorem State.evTake_queue (s : State) (g : Nat) (rd : Nat) (v : Nat) : (State.evTake s g rd v).queue = s.queue := by simp [State.evTake, State.pending_eq]
@[simp] theorem execThreadEventWake_queue (g : Nat) (s : State) : (next s (execThreadEventWake g s)).queue = s.queue := by simp [execThreadEventWake, State.pending_eq]
@[simp] theorem execTwaitExpire_queue (g : Nat) (s : State) : (next s (execTwaitExpire g s)).queue = s.queue := by simp [execTwaitExpire, State.pending_eq]
@[simp] theorem execThreadTimerFire_queue (g : Nat) (s : State) : (next s (execThreadTimerFire g s)).queue = s.queue := by simp [execThreadTimerFire, State.pending_eq]
@[simp] theorem execFifoStallResume_queue (g : Nat) (s : State) : (next s (execFifoStallResume g s)).queue = s.queue := by simp [execFifoStallResume, State.pending_eq]
@[simp] theorem execFifoStallTimeout_queue (g : Nat) (s : State) : (next s (execFifoStallTimeout g s)).queue = s.queue := by
  unfold execFifoStallTimeout
  repeat' first
    | with_reducible rfl | intro _ | (rw [State.onBus_queue]) | (rw [State.onPriv_queue]) | (rw [State.onRead_queue])
    | (rw [State.applyPending_queue]) | (rw [State.issue_queue]) | refine pair_queue (by assumption) ?_
    | refine tripR_queue (by assumption) ?_ | split | dsimp only | simp -implicitDefEqProofs [State.pending_eq]

@[simp] theorem State.openWin_queue (s : State) (g : Nat) (slot : Nat) (e : Nat) : (State.openWin s g slot e).queue = s.queue := by simp [State.openWin, State.pending_eq]
@[simp] theorem State.closeOwn_queue (s : State) (g : Nat) (e : Nat) : (State.closeOwn s g e).queue = s.queue := by simp [State.closeOwn, State.pending_eq]
@[simp] theorem execThicketWindowTimeout_queue (n : Nat) (s : State) : (next s (execThicketWindowTimeout n s)).queue = s.queue := by simp [execThicketWindowTimeout, State.pending_eq]
@[simp] theorem State.delDone_queue (s : State) (w : DelWait) : (State.delDone s w).queue = s.queue := by
  unfold State.delDone
  repeat' first
    | with_reducible rfl | intro _ | (rw [State.onBus_queue]) | (rw [State.onPriv_queue]) | (rw [State.onRead_queue])
    | (rw [State.applyPending_queue]) | (rw [State.issue_queue]) | refine pair_queue (by assumption) ?_
    | refine tripR_queue (by assumption) ?_ | split | dsimp only | simp -implicitDefEqProofs [State.pending_eq]

@[simp] theorem execEntryHoldEnd_queue (e : Nat) (s : State) : (next s (execEntryHoldEnd e s)).queue = s.queue := by
  unfold execEntryHoldEnd
  repeat' first
    | with_reducible rfl | intro _ | rw [State.each_queue] | (rw [State.onBus_queue]) | (rw [State.onPriv_queue])
    | (rw [State.onRead_queue]) | (rw [State.applyPending_queue]) | (rw [State.issue_queue]) | split | dsimp only
    | simp -implicitDefEqProofs [State.pending_eq]

@[simp] theorem execEngineWdogExpire_queue (e : Nat) (s : State) : (next s (execEngineWdogExpire e s)).queue = s.queue := by
  unfold execEngineWdogExpire
  repeat' first
    | with_reducible rfl | intro _ | (rw [State.onBus_queue]) | (rw [State.onPriv_queue]) | (rw [State.onRead_queue])
    | (rw [State.applyPending_queue]) | (rw [State.issue_queue]) | split | dsimp only
    | simp -implicitDefEqProofs [State.pending_eq]

@[simp] theorem State.alu_queue (s : State) (g : Nat) (rd : BitVec 5) (v : Nat) : (State.alu s g rd v).queue = s.queue := by simp [State.alu, State.pending_eq]
@[simp] theorem State.sum_queue (s : State) (g : Nat) (rd : BitVec 5) (a : Nat) (bb : Nat) (cin : Nat) : (State.sum s g rd a bb cin).queue = s.queue := by simp [State.sum, State.pending_eq]
@[simp] theorem State.move_queue (s : State) (g : Nat) (rd : BitVec 5) (v : Nat) : (State.move s g rd v).queue = s.queue := by simp [State.move, State.pending_eq]
@[simp] theorem State.regOp_queue (s : State) (g : Nat) (rd : BitVec 5) (ra : BitVec 5) (rb : BitVec 5) (func : Nat) (f : Nat → Nat → Nat) : (State.regOp s g rd ra rb func f).queue = s.queue := by simp [State.regOp, State.pending_eq]
@[simp] theorem State.immOp_queue (s : State) (g : Nat) (rd : BitVec 5) (ra : BitVec 5) (imm : BitVec 16) (op : Nat) (ok : Bool) (f : Nat → Nat) : (State.immOp s g rd ra imm op ok f).queue = s.queue := by simp [State.immOp, State.pending_eq]
@[simp] theorem execAdd_queue (g : Nat) (rd : BitVec 5) (ra : BitVec 5) (rb : BitVec 5) (s : State) : (next s (execAdd g rd ra rb s)).queue = s.queue := by simp [execAdd, State.pending_eq]
@[simp] theorem execSub_queue (g : Nat) (rd : BitVec 5) (ra : BitVec 5) (rb : BitVec 5) (s : State) : (next s (execSub g rd ra rb s)).queue = s.queue := by simp [execSub, State.pending_eq]
@[simp] theorem execAddc_queue (g : Nat) (rd : BitVec 5) (ra : BitVec 5) (rb : BitVec 5) (s : State) : (next s (execAddc g rd ra rb s)).queue = s.queue := by simp [execAddc, State.pending_eq]
@[simp] theorem execSubc_queue (g : Nat) (rd : BitVec 5) (ra : BitVec 5) (rb : BitVec 5) (s : State) : (next s (execSubc g rd ra rb s)).queue = s.queue := by simp [execSubc, State.pending_eq]
@[simp] theorem execAnd_queue (g : Nat) (rd : BitVec 5) (ra : BitVec 5) (rb : BitVec 5) (s : State) : (next s (execAnd g rd ra rb s)).queue = s.queue := by simp [execAnd, State.pending_eq]
@[simp] theorem execOr_queue (g : Nat) (rd : BitVec 5) (ra : BitVec 5) (rb : BitVec 5) (s : State) : (next s (execOr g rd ra rb s)).queue = s.queue := by simp [execOr, State.pending_eq]
@[simp] theorem execXor_queue (g : Nat) (rd : BitVec 5) (ra : BitVec 5) (rb : BitVec 5) (s : State) : (next s (execXor g rd ra rb s)).queue = s.queue := by simp [execXor, State.pending_eq]
@[simp] theorem execAndn_queue (g : Nat) (rd : BitVec 5) (ra : BitVec 5) (rb : BitVec 5) (s : State) : (next s (execAndn g rd ra rb s)).queue = s.queue := by simp [execAndn, State.pending_eq]
@[simp] theorem execShl_queue (g : Nat) (rd : BitVec 5) (ra : BitVec 5) (rb : BitVec 5) (s : State) : (next s (execShl g rd ra rb s)).queue = s.queue := by simp [execShl, State.pending_eq]
@[simp] theorem execShr_queue (g : Nat) (rd : BitVec 5) (ra : BitVec 5) (rb : BitVec 5) (s : State) : (next s (execShr g rd ra rb s)).queue = s.queue := by simp [execShr, State.pending_eq]
@[simp] theorem execSar_queue (g : Nat) (rd : BitVec 5) (ra : BitVec 5) (rb : BitVec 5) (s : State) : (next s (execSar g rd ra rb s)).queue = s.queue := by simp [execSar, State.pending_eq]
@[simp] theorem execRol_queue (g : Nat) (rd : BitVec 5) (ra : BitVec 5) (rb : BitVec 5) (s : State) : (next s (execRol g rd ra rb s)).queue = s.queue := by simp [execRol, State.pending_eq]
@[simp] theorem execMul_queue (g : Nat) (rd : BitVec 5) (ra : BitVec 5) (rb : BitVec 5) (s : State) : (next s (execMul g rd ra rb s)).queue = s.queue := by simp [execMul, State.pending_eq]
@[simp] theorem execMulhu_queue (g : Nat) (rd : BitVec 5) (ra : BitVec 5) (rb : BitVec 5) (s : State) : (next s (execMulhu g rd ra rb s)).queue = s.queue := by simp [execMulhu, State.pending_eq]
@[simp] theorem execMulhs_queue (g : Nat) (rd : BitVec 5) (ra : BitVec 5) (rb : BitVec 5) (s : State) : (next s (execMulhs g rd ra rb s)).queue = s.queue := by simp [execMulhs, State.pending_eq]
@[simp] theorem execClz_queue (g : Nat) (rd : BitVec 5) (ra : BitVec 5) (rb : BitVec 5) (s : State) : (next s (execClz g rd ra rb s)).queue = s.queue := by simp [execClz, State.pending_eq]
@[simp] theorem execPopc_queue (g : Nat) (rd : BitVec 5) (ra : BitVec 5) (rb : BitVec 5) (s : State) : (next s (execPopc g rd ra rb s)).queue = s.queue := by simp [execPopc, State.pending_eq]
@[simp] theorem execMin_queue (g : Nat) (rd : BitVec 5) (ra : BitVec 5) (rb : BitVec 5) (s : State) : (next s (execMin g rd ra rb s)).queue = s.queue := by simp [execMin, State.pending_eq]
@[simp] theorem execMax_queue (g : Nat) (rd : BitVec 5) (ra : BitVec 5) (rb : BitVec 5) (s : State) : (next s (execMax g rd ra rb s)).queue = s.queue := by simp [execMax, State.pending_eq]
@[simp] theorem execMinu_queue (g : Nat) (rd : BitVec 5) (ra : BitVec 5) (rb : BitVec 5) (s : State) : (next s (execMinu g rd ra rb s)).queue = s.queue := by simp [execMinu, State.pending_eq]
@[simp] theorem execMaxu_queue (g : Nat) (rd : BitVec 5) (ra : BitVec 5) (rb : BitVec 5) (s : State) : (next s (execMaxu g rd ra rb s)).queue = s.queue := by simp [execMaxu, State.pending_eq]
@[simp] theorem execSlt_queue (g : Nat) (rd : BitVec 5) (ra : BitVec 5) (rb : BitVec 5) (s : State) : (next s (execSlt g rd ra rb s)).queue = s.queue := by simp [execSlt, State.pending_eq]
@[simp] theorem execSltu_queue (g : Nat) (rd : BitVec 5) (ra : BitVec 5) (rb : BitVec 5) (s : State) : (next s (execSltu g rd ra rb s)).queue = s.queue := by simp [execSltu, State.pending_eq]
@[simp] theorem execAddi_queue (g : Nat) (rd : BitVec 5) (ra : BitVec 5) (imm : BitVec 16) (s : State) : (next s (execAddi g rd ra imm s)).queue = s.queue := by simp [execAddi, State.pending_eq]
@[simp] theorem execAndi_queue (g : Nat) (rd : BitVec 5) (ra : BitVec 5) (imm : BitVec 16) (s : State) : (next s (execAndi g rd ra imm s)).queue = s.queue := by simp [execAndi, State.pending_eq]
@[simp] theorem execOri_queue (g : Nat) (rd : BitVec 5) (ra : BitVec 5) (imm : BitVec 16) (s : State) : (next s (execOri g rd ra imm s)).queue = s.queue := by simp [execOri, State.pending_eq]
@[simp] theorem execXori_queue (g : Nat) (rd : BitVec 5) (ra : BitVec 5) (imm : BitVec 16) (s : State) : (next s (execXori g rd ra imm s)).queue = s.queue := by simp [execXori, State.pending_eq]
@[simp] theorem execShli_queue (g : Nat) (rd : BitVec 5) (ra : BitVec 5) (imm : BitVec 16) (s : State) : (next s (execShli g rd ra imm s)).queue = s.queue := by simp [execShli, State.pending_eq]
@[simp] theorem execShri_queue (g : Nat) (rd : BitVec 5) (ra : BitVec 5) (imm : BitVec 16) (s : State) : (next s (execShri g rd ra imm s)).queue = s.queue := by simp [execShri, State.pending_eq]
@[simp] theorem execSari_queue (g : Nat) (rd : BitVec 5) (ra : BitVec 5) (imm : BitVec 16) (s : State) : (next s (execSari g rd ra imm s)).queue = s.queue := by simp [execSari, State.pending_eq]
@[simp] theorem execSlti_queue (g : Nat) (rd : BitVec 5) (ra : BitVec 5) (imm : BitVec 16) (s : State) : (next s (execSlti g rd ra imm s)).queue = s.queue := by simp [execSlti, State.pending_eq]
@[simp] theorem execLui_queue (g : Nat) (rd : BitVec 5) (ra : BitVec 5) (imm : BitVec 16) (s : State) : (next s (execLui g rd ra imm s)).queue = s.queue := by simp [execLui, State.pending_eq]
@[simp] theorem execExt_queue (g : Nat) (rd : BitVec 5) (ra : BitVec 5) (pos : BitVec 5) (len : BitVec 5) (s : State) : (next s (execExt g rd ra pos len s)).queue = s.queue := by simp [execExt, State.pending_eq]
@[simp] theorem execExtu_queue (g : Nat) (rd : BitVec 5) (ra : BitVec 5) (pos : BitVec 5) (len : BitVec 5) (s : State) : (next s (execExtu g rd ra pos len s)).queue = s.queue := by simp [execExtu, State.pending_eq]
@[simp] theorem execIns_queue (g : Nat) (rd : BitVec 5) (ra : BitVec 5) (pos : BitVec 5) (len : BitVec 5) (s : State) : (next s (execIns g rd ra pos len s)).queue = s.queue := by simp [execIns, State.pending_eq]
@[simp] theorem execBswap_queue (g : Nat) (rd : BitVec 5) (ra : BitVec 5) (pos : BitVec 5) (len : BitVec 5) (s : State) : (next s (execBswap g rd ra pos len s)).queue = s.queue := by simp [execBswap, State.pending_eq]
@[simp] theorem execCrc32c_queue (g : Nat) (rd : BitVec 5) (ra : BitVec 5) (rb : BitVec 5) (n : BitVec 3) (s : State) : (next s (execCrc32c g rd ra rb n s)).queue = s.queue := by simp [execCrc32c, State.pending_eq]
@[simp] theorem execCrc16_queue (g : Nat) (rd : BitVec 5) (ra : BitVec 5) (rb : BitVec 5) (n : BitVec 3) (s : State) : (next s (execCrc16 g rd ra rb n s)).queue = s.queue := by simp [execCrc16, State.pending_eq]
@[simp] theorem execHash_queue (g : Nat) (rd : BitVec 5) (ra : BitVec 5) (rb : BitVec 5) (s : State) : (next s (execHash g rd ra rb s)).queue = s.queue := by simp [execHash, State.pending_eq]
@[simp] theorem State.branch_queue (s : State) (g : Nat) (op : Nat) (ra : BitVec 5) (rb : BitVec 5) (disp : BitVec 16) (cond : Nat → Nat → Bool) : (State.branch s g op ra rb disp cond).queue = s.queue := by simp [State.branch, State.pending_eq]
@[simp] theorem execBeq_queue (g : Nat) (ra : BitVec 5) (rb : BitVec 5) (disp : BitVec 16) (s : State) : (next s (execBeq g ra rb disp s)).queue = s.queue := by simp [execBeq, State.pending_eq]
@[simp] theorem execBne_queue (g : Nat) (ra : BitVec 5) (rb : BitVec 5) (disp : BitVec 16) (s : State) : (next s (execBne g ra rb disp s)).queue = s.queue := by simp [execBne, State.pending_eq]
@[simp] theorem execBlt_queue (g : Nat) (ra : BitVec 5) (rb : BitVec 5) (disp : BitVec 16) (s : State) : (next s (execBlt g ra rb disp s)).queue = s.queue := by simp [execBlt, State.pending_eq]
@[simp] theorem execBge_queue (g : Nat) (ra : BitVec 5) (rb : BitVec 5) (disp : BitVec 16) (s : State) : (next s (execBge g ra rb disp s)).queue = s.queue := by simp [execBge, State.pending_eq]
@[simp] theorem execBltu_queue (g : Nat) (ra : BitVec 5) (rb : BitVec 5) (disp : BitVec 16) (s : State) : (next s (execBltu g ra rb disp s)).queue = s.queue := by simp [execBltu, State.pending_eq]
@[simp] theorem execBgeu_queue (g : Nat) (ra : BitVec 5) (rb : BitVec 5) (disp : BitVec 16) (s : State) : (next s (execBgeu g ra rb disp s)).queue = s.queue := by simp [execBgeu, State.pending_eq]
@[simp] theorem execJ_queue (g : Nat) (disp : BitVec 25) (s : State) : (next s (execJ g disp s)).queue = s.queue := by simp [execJ, State.pending_eq]
@[simp] theorem execJal_queue (g : Nat) (disp : BitVec 25) (s : State) : (next s (execJal g disp s)).queue = s.queue := by simp [execJal, State.pending_eq]
@[simp] theorem execJalr_queue (g : Nat) (rd : BitVec 5) (ra : BitVec 5) (imm : BitVec 16) (s : State) : (next s (execJalr g rd ra imm s)).queue = s.queue := by simp [execJalr, State.pending_eq]
@[simp] theorem execTnow_queue (g : Nat) (rd : BitVec 5) (ra : BitVec 5) (cmd : BitVec 12) (s : State) : (next s (execTnow g rd ra cmd s)).queue = s.queue := by simp [execTnow, State.pending_eq]
@[simp] theorem execTwait_queue (g : Nat) (rd : BitVec 5) (ra : BitVec 5) (cmd : BitVec 12) (s : State) : (next s (execTwait g rd ra cmd s)).queue = s.queue := by simp [execTwait, State.pending_eq]
@[simp] theorem execTarm_queue (g : Nat) (rd : BitVec 5) (ra : BitVec 5) (cmd : BitVec 12) (s : State) : (next s (execTarm g rd ra cmd s)).queue = s.queue := by simp [execTarm, State.pending_eq]
@[simp] theorem execYield_queue (g : Nat) (rd : BitVec 5) (ra : BitVec 5) (cmd : BitVec 12) (s : State) : (next s (execYield g rd ra cmd s)).queue = s.queue := by simp [execYield, State.pending_eq]
@[simp] theorem execWaitev_queue (g : Nat) (rd : BitVec 5) (ra : BitVec 5) (cmd : BitVec 12) (s : State) : (next s (execWaitev g rd ra cmd s)).queue = s.queue := by simp [execWaitev, State.pending_eq]
@[simp] theorem execSignal_queue (g : Nat) (rd : BitVec 5) (ra : BitVec 5) (cmd : BitVec 12) (s : State) : (next s (execSignal g rd ra cmd s)).queue = s.queue := by simp [execSignal, State.pending_eq]
@[simp] theorem execFence_queue (g : Nat) (rd : BitVec 5) (ra : BitVec 5) (cmd : BitVec 12) (s : State) : (next s (execFence g rd ra cmd s)).queue = s.queue := by simp [execFence, State.pending_eq]
@[simp] theorem execHalt_queue (g : Nat) (rd : BitVec 5) (ra : BitVec 5) (cmd : BitVec 12) (s : State) : (next s (execHalt g rd ra cmd s)).queue = s.queue := by simp [execHalt, State.pending_eq]
@[simp] theorem State.special_queue (s : State) (g : Nat) (k : Nat) : ((State.special s g k).2).queue = s.queue := by
  unfold State.special
  repeat' first
    | with_reducible rfl | intro _ | (rw [State.onBus_queue]) | (rw [State.onPriv_queue]) | (rw [State.onRead_queue])
    | (rw [State.applyPending_queue]) | (rw [State.issue_queue]) | refine pair_queue (by assumption) ?_
    | refine tripR_queue (by assumption) ?_ | split | dsimp only | simp -implicitDefEqProofs [State.pending_eq]

@[simp] theorem State.putSpecial_queue (s : State) (g : Nat) (k : Nat) (v : Nat) : (State.putSpecial s g k v).queue = s.queue := by
  unfold State.putSpecial
  repeat' first
    | with_reducible rfl | intro _ | (rw [State.onBus_queue]) | (rw [State.onPriv_queue]) | (rw [State.onRead_queue])
    | (rw [State.applyPending_queue]) | (rw [State.issue_queue]) | refine pair_queue (by assumption) ?_
    | refine tripR_queue (by assumption) ?_ | split | dsimp only | simp -implicitDefEqProofs [State.pending_eq]

@[simp] theorem execMfs_queue (g : Nat) (rd : BitVec 5) (ra : BitVec 5) (cmd : BitVec 12) (s : State) : (next s (execMfs g rd ra cmd s)).queue = s.queue := by simp [execMfs, State.pending_eq]
@[simp] theorem execMts_queue (g : Nat) (rd : BitVec 5) (ra : BitVec 5) (cmd : BitVec 12) (s : State) : (next s (execMts g rd ra cmd s)).queue = s.queue := by simp [execMts, State.pending_eq]
@[simp] theorem execTrap_queue (g : Nat) (rd : BitVec 5) (ra : BitVec 5) (cmd : BitVec 12) (s : State) : (next s (execTrap g rd ra cmd s)).queue = s.queue := by simp [execTrap, State.pending_eq]
@[simp] theorem execTret_queue (g : Nat) (rd : BitVec 5) (ra : BitVec 5) (cmd : BitVec 12) (s : State) : (next s (execTret g rd ra cmd s)).queue = s.queue := by simp [execTret, State.pending_eq]
@[simp] theorem State.lkup_queue (s : State) (g : Nat) (key : Nat) (h : Nat) (ra : BitVec 5) : ((State.lkup s g key h ra).2).queue = s.queue := by
  unfold State.lkup
  repeat' first
    | with_reducible rfl | intro _ | (rw [State.onBus_queue]) | (rw [State.onPriv_queue]) | (rw [State.onRead_queue])
    | (rw [State.applyPending_queue]) | (rw [State.issue_queue]) | refine pair_queue (by assumption) ?_
    | refine tripR_queue (by assumption) ?_ | split | dsimp only | simp -implicitDefEqProofs [State.pending_eq]

@[simp] theorem execLkup_queue (g : Nat) (rd : BitVec 5) (ra : BitVec 5) (cmd : BitVec 12) (s : State) : (next s (execLkup g rd ra cmd s)).queue = s.queue := by
  unfold execLkup
  repeat' first
    | with_reducible rfl | intro _ | rw [State.when_queue] | (rw [State.onBus_queue]) | (rw [State.onPriv_queue])
    | (rw [State.onRead_queue]) | (rw [State.applyPending_queue]) | (rw [State.issue_queue])
    | refine pair_queue (by assumption) ?_ | refine tripR_queue (by assumption) ?_ | split | dsimp only
    | simp -implicitDefEqProofs [State.pending_eq]

@[simp] theorem State.tinsDenied_queue (s : State) (g : Nat) (rd : Nat) : (State.tinsDenied s g rd).queue = s.queue := by simp [State.tinsDenied, State.pending_eq]
@[simp] theorem State.tinsDone_queue (s : State) (g : Nat) (rd : Nat) (slot : Nat) (win : Bool) (r : Ins) : (State.tinsDone s g rd slot win r).queue = s.queue := by
  unfold State.tinsDone
  repeat' first
    | with_reducible rfl | intro _ | rw [State.when_queue] | (rw [State.onBus_queue]) | (rw [State.onPriv_queue])
    | (rw [State.onRead_queue]) | (rw [State.applyPending_queue]) | (rw [State.issue_queue])
    | refine pair_queue (by assumption) ?_ | refine tripR_queue (by assumption) ?_ | split | dsimp only
    | simp -implicitDefEqProofs [State.pending_eq]

@[simp] theorem execTins_queue (g : Nat) (rd : BitVec 5) (ra : BitVec 5) (cmd : BitVec 12) (s : State) : (next s (execTins g rd ra cmd s)).queue = s.queue := by
  unfold execTins
  repeat' first
    | with_reducible rfl | intro _ | (rw [State.onBus_queue]) | (rw [State.onPriv_queue]) | (rw [State.onRead_queue])
    | (rw [State.applyPending_queue]) | (rw [State.issue_queue]) | refine pair_queue (by assumption) ?_
    | refine tripR_queue (by assumption) ?_ | split | dsimp only | simp -implicitDefEqProofs [State.pending_eq]

@[simp] theorem execTdel_queue (g : Nat) (rd ra : BitVec 5) (cmd : BitVec 12) (s : State) : (next s (execTdel g rd ra cmd s)).queue = s.queue := by
  unfold execTdel
  extract_lets ok
  clear_value ok
  rw [next_next, State.issue_queue]
  intro u
  extract_lets e s1
  clear_value e
  have h1 : s1.queue = u.queue := State.opened_queue ..
  clear_value s1
  split
  · rw [State.pcNext_queue, State.setZ_queue, State.setW_queue, h1]
  · rename_i s2 _
    have h2 : s2.queue = u.queue := by rw [State.closeOwn_queue, h1]
    clear_value s2
    split
    · rw [State.waitFor_queue, State.queue_mk, State.pending_eq, h2]
    · rw [State.pcNext_queue, State.setZ_queue, State.setW_queue, State.freeEntry_queue, h2]
@[simp] theorem execTtouch_queue (g : Nat) (rd : BitVec 5) (ra : BitVec 5) (cmd : BitVec 12) (s : State) : (next s (execTtouch g rd ra cmd s)).queue = s.queue := by simp [execTtouch, State.pending_eq]
@[simp] theorem execQput_queue (g : Nat) (rd : BitVec 5) (ra : BitVec 5) (cmd : BitVec 12) (s : State) : (next s (execQput g rd ra cmd s)).queue = s.queue := by
  unfold execQput
  repeat' first
    | with_reducible rfl | intro _ | (rw [State.onBus_queue]) | (rw [State.onPriv_queue]) | (rw [State.onRead_queue])
    | (rw [State.applyPending_queue]) | (rw [State.issue_queue]) | split | dsimp only
    | simp -implicitDefEqProofs [State.pending_eq]

@[simp] theorem State.queueRead_queue (s : State) (g : Nat) (rd : BitVec 5) (ra : BitVec 5) (cmd : BitVec 12) (take : Bool) : (State.queueRead s g rd ra cmd take).queue = s.queue := by
  unfold State.queueRead
  repeat' first
    | with_reducible rfl | intro _ | rw [State.when_queue] | (rw [State.onBus_queue]) | (rw [State.onPriv_queue])
    | (rw [State.onRead_queue]) | (rw [State.applyPending_queue]) | (rw [State.issue_queue])
    | refine pair_queue (by assumption) ?_ | refine tripR_queue (by assumption) ?_ | split | dsimp only
    | simp -implicitDefEqProofs [State.pending_eq]

@[simp] theorem execQget_queue (g : Nat) (rd : BitVec 5) (ra : BitVec 5) (cmd : BitVec 12) (s : State) : (next s (execQget g rd ra cmd s)).queue = s.queue := by simp [execQget, State.pending_eq]
@[simp] theorem execQpeek_queue (g : Nat) (rd : BitVec 5) (ra : BitVec 5) (cmd : BitVec 12) (s : State) : (next s (execQpeek g rd ra cmd s)).queue = s.queue := by simp [execQpeek, State.pending_eq]
@[simp] theorem State.cryKey_queue (s : State) (g : Nat) (b : CryBlock) : ((State.cryKey s g b).2.2.2).queue = s.queue := by
  unfold State.cryKey
  repeat' first
    | with_reducible rfl | intro _ | (rw [State.onBus_queue]) | (rw [State.onPriv_queue]) | (rw [State.onRead_queue])
    | (rw [State.applyPending_queue]) | (rw [State.issue_queue]) | refine pair_queue (by assumption) ?_
    | refine tripR_queue (by assumption) ?_ | split | dsimp only | simp -implicitDefEqProofs [State.pending_eq]

@[simp] theorem State.drawOctets_queue (s : State) (n : Nat) : (s.drawOctets n).2.queue = s.queue := by
  induction n generalizing s with
  | zero => rfl
  | succ n ih => unfold State.drawOctets; simp [ih]
@[simp] theorem State.cryRun_queue (s : State) (b : CryBlock) (key : List Nat) (ad : List Nat) (inp : List Nat) (sig : List Nat) : ((State.cryRun s b key ad inp sig).2.2.2).queue = s.queue := by
  unfold State.cryRun
  repeat' first
    | with_reducible rfl | intro _ | (rw [State.onBus_queue]) | (rw [State.onPriv_queue]) | (rw [State.onRead_queue])
    | (rw [State.applyPending_queue]) | (rw [State.issue_queue]) | refine pair_queue (by assumption) ?_
    | refine tripR_queue (by assumption) ?_ | split | dsimp only | simp -implicitDefEqProofs [State.pending_eq]

@[simp] theorem execCry_queue (g : Nat) (rd : BitVec 5) (ra : BitVec 5) (cmd : BitVec 12) (s : State) : (next s (execCry g rd ra cmd s)).queue = s.queue := by
  unfold execCry
  repeat' first
    | with_reducible rfl | intro _ | rw [State.when_queue] | (rw [State.onBus_queue]) | (rw [State.onPriv_queue])
    | (rw [State.onRead_queue]) | (rw [State.applyPending_queue]) | (rw [State.issue_queue])
    | refine pair_queue (by assumption) ?_ | refine tripR_queue (by assumption) ?_ | split | dsimp only
    | simp -implicitDefEqProofs [State.pending_eq]

@[simp] theorem State.cwaitDone_queue (s : State) (g : Nat) (rd : Nat) (x : CryOp) : (State.cwaitDone s g rd x).queue = s.queue := by simp [State.cwaitDone, State.pending_eq]
@[simp] theorem execCwait_queue (g : Nat) (rd : BitVec 5) (ra : BitVec 5) (cmd : BitVec 12) (s : State) : (next s (execCwait g rd ra cmd s)).queue = s.queue := by
  unfold execCwait
  repeat' first
    | with_reducible rfl | intro _ | (rw [State.onBus_queue]) | (rw [State.onPriv_queue]) | (rw [State.onRead_queue])
    | (rw [State.applyPending_queue]) | (rw [State.issue_queue]) | refine pair_queue (by assumption) ?_
    | refine tripR_queue (by assumption) ?_ | split | dsimp only | simp -implicitDefEqProofs [State.pending_eq]

@[simp] theorem execCryComplete_queue (g : Nat) (t : Nat) (s : State) : (next s (execCryComplete g t s)).queue = s.queue := by
  unfold execCryComplete
  repeat' first
    | with_reducible rfl | intro _ | (rw [State.onBus_queue]) | (rw [State.onPriv_queue]) | (rw [State.onRead_queue])
    | (rw [State.applyPending_queue]) | (rw [State.issue_queue]) | refine pair_queue (by assumption) ?_
    | refine tripR_queue (by assumption) ?_ | split | dsimp only | simp -implicitDefEqProofs [State.pending_eq]

@[simp] theorem State.scpShow_queue (s : State) : (State.scpShow s).queue = s.queue := by simp [State.scpShow, State.pending_eq]
@[simp] theorem State.scpScan_queue (s : State) : (State.scpScan s).queue = s.queue := by simp [State.scpScan, State.pending_eq]
@[simp] theorem State.scpLost_queue (s : State) : (State.scpLost s).queue = s.queue := by simp [State.scpLost, State.pending_eq]
@[simp] theorem execScorepadCommit_queue (read : List Nat) (s : State) : (next s (execScorepadCommit read s)).queue = s.queue := by
  unfold execScorepadCommit
  repeat' first
    | with_reducible rfl | intro _ | (rw [State.onBus_queue]) | (rw [State.onPriv_queue]) | (rw [State.onRead_queue])
    | (rw [State.applyPending_queue]) | (rw [State.issue_queue]) | refine pair_queue (by assumption) ?_
    | refine tripR_queue (by assumption) ?_ | split | dsimp only | simp -implicitDefEqProofs [State.pending_eq]

@[simp] theorem execScorepadSuppressReport_queue (s : State) : (next s (execScorepadSuppressReport s)).queue = s.queue := by
  unfold execScorepadSuppressReport
  repeat' first
    | with_reducible rfl | intro _ | (rw [State.onBus_queue]) | (rw [State.onPriv_queue]) | (rw [State.onRead_queue])
    | (rw [State.applyPending_queue]) | (rw [State.issue_queue]) | split | dsimp only
    | simp -implicitDefEqProofs [State.pending_eq]

@[simp] theorem execScorepadRead_queue (c : Cmd) (addr : Nat) (seq : Nat) (era : Nat) (count : Nat) (oldest : Bool) (s : State) : (next s (execScorepadRead c addr seq era count oldest s)).queue = s.queue := by
  unfold execScorepadRead
  repeat' first
    | with_reducible rfl | intro _ | (rw [State.onBus_queue]) | (rw [State.onPriv_queue]) | (rw [State.onRead_queue])
    | (rw [State.applyPending_queue]) | (rw [State.issue_queue]) | refine pair_queue (by assumption) ?_
    | refine tripR_queue (by assumption) ?_ | split | dsimp only | simp -implicitDefEqProofs [State.pending_eq]

@[simp] theorem execBeaconInterval_queue (h : Nat) (s : State) : (next s (execBeaconInterval h s)).queue = s.queue := by
  unfold execBeaconInterval
  repeat' first
    | with_reducible rfl | intro _ | (rw [State.onBus_queue]) | (rw [State.onPriv_queue]) | (rw [State.onRead_queue])
    | (rw [State.applyPending_queue]) | (rw [State.issue_queue]) | split | dsimp only
    | simp -implicitDefEqProofs [State.pending_eq]

@[simp] theorem execGenBaseWrite_queue (r : Req) (h : Nat) (v : Nat) (s : State) : (next s (execGenBaseWrite r h v s)).queue = s.queue := by
  unfold execGenBaseWrite
  repeat' first
    | with_reducible rfl | intro _ | (rw [State.onBus_queue]) | (rw [State.onPriv_queue]) | (rw [State.onRead_queue])
    | (rw [State.applyPending_queue]) | (rw [State.issue_queue]) | split | dsimp only
    | simp -implicitDefEqProofs [State.pending_eq]

@[simp] theorem State.campEnd_queue (s : State) (h : Nat) (status : Nat) (aborted : Bool) : (State.campEnd s h status aborted).queue = s.queue := by simp [State.campEnd, State.pending_eq]
@[simp] theorem execCampaignStart_queue (c : Cmd) (num : Nat) (bsize : Nat) (bcount : Nat) (from_ : Nat) (list : Bool) (lcount : Nat) (mOff : Nat) (iOff : Nat) (lOff : Nat) (s : State) : (next s (execCampaignStart c num bsize bcount from_ list lcount mOff iOff lOff s)).queue = s.queue := by
  unfold execCampaignStart
  conv => lhs; arg 1; dsimp only
  repeat' first
    | with_reducible rfl | intro _ | rw [State.each_queue] | rw [State.when_queue] | (rw [State.onBus_queue])
    | (rw [State.onPriv_queue]) | (rw [State.onRead_queue]) | (rw [State.applyPending_queue]) | (rw [State.issue_queue])
    | refine pair_queue (by assumption) ?_ | refine tripR_queue (by assumption) ?_ | split | dsimp only
    | simp -implicitDefEqProofs [State.pending_eq]

@[simp] theorem State.campPause_queue (s : State) (h : Nat) (cause : Nat) : (State.campPause s h cause).queue = s.queue := by simp [State.campPause, State.pending_eq]
@[simp] theorem State.campSend_queue (s : State) (h : Nat) (dest : Option Nat) (b : Nat) : (State.campSend s h dest b).queue = s.queue := by
  unfold State.campSend
  repeat' first
    | with_reducible rfl | intro _ | (rw [State.onBus_queue]) | (rw [State.onPriv_queue]) | (rw [State.onRead_queue])
    | (rw [State.applyPending_queue]) | (rw [State.issue_queue]) | refine pair_queue (by assumption) ?_
    | refine tripR_queue (by assumption) ?_ | split | dsimp only | simp -implicitDefEqProofs [State.pending_eq]

@[simp] theorem State.campReporting_queue (s : State) (h : Nat) : (State.campReporting s h).queue = s.queue := by simp [State.campReporting, State.pending_eq]
@[simp] theorem State.campActivating_queue (s : State) (h : Nat) : (State.campActivating s h).queue = s.queue := by simp [State.campActivating, State.pending_eq]
@[simp] theorem State.campNext_queue (s : State) (h : Nat) : (State.campNext s h).queue = s.queue := by
  unfold State.campNext
  repeat' first
    | with_reducible rfl | intro _ | (rw [State.onBus_queue]) | (rw [State.onPriv_queue]) | (rw [State.onRead_queue])
    | (rw [State.applyPending_queue]) | (rw [State.issue_queue]) | refine pair_queue (by assumption) ?_
    | refine tripR_queue (by assumption) ?_ | split | dsimp only | simp -implicitDefEqProofs [State.pending_eq]

@[simp] theorem State.campRepair_queue (s : State) (h : Nat) : (State.campRepair s h).queue = s.queue := by
  unfold State.campRepair
  repeat' first
    | with_reducible rfl | intro _ | (rw [State.onBus_queue]) | (rw [State.onPriv_queue]) | (rw [State.onRead_queue])
    | (rw [State.applyPending_queue]) | (rw [State.issue_queue]) | refine pair_queue (by assumption) ?_
    | refine tripR_queue (by assumption) ?_ | split | dsimp only | simp -implicitDefEqProofs [State.pending_eq]

@[simp] theorem execCampaignBlockSend_queue (h : Nat) (s : State) : (next s (execCampaignBlockSend h s)).queue = s.queue := by
  unfold execCampaignBlockSend
  repeat' first
    | with_reducible rfl | intro _ | (rw [State.onBus_queue]) | (rw [State.onPriv_queue]) | (rw [State.onRead_queue])
    | (rw [State.applyPending_queue]) | (rw [State.issue_queue]) | refine pair_queue (by assumption) ?_
    | refine tripR_queue (by assumption) ?_ | split | dsimp only | simp -implicitDefEqProofs [State.pending_eq]

@[simp] theorem execCampaignReportWindowEnd_queue (h : Nat) (s : State) : (next s (execCampaignReportWindowEnd h s)).queue = s.queue := by
  unfold execCampaignReportWindowEnd
  repeat' first
    | with_reducible rfl | intro _ | (rw [State.onBus_queue]) | (rw [State.onPriv_queue]) | (rw [State.onRead_queue])
    | (rw [State.applyPending_queue]) | (rw [State.issue_queue]) | split | dsimp only
    | simp -implicitDefEqProofs [State.pending_eq]

@[simp] theorem execCampaignActivateSend_queue (h : Nat) (s : State) : (next s (execCampaignActivateSend h s)).queue = s.queue := by
  unfold execCampaignActivateSend
  repeat' first
    | with_reducible rfl | intro _ | (rw [State.onBus_queue]) | (rw [State.onPriv_queue]) | (rw [State.onRead_queue])
    | (rw [State.applyPending_queue]) | (rw [State.issue_queue]) | refine pair_queue (by assumption) ?_
    | refine tripR_queue (by assumption) ?_ | split | dsimp only | simp -implicitDefEqProofs [State.pending_eq]

@[simp] theorem execCampaignPause_queue (c : Cmd) (num : Nat) (s : State) : (next s (execCampaignPause c num s)).queue = s.queue := by
  unfold execCampaignPause
  repeat' first
    | with_reducible rfl | intro _ | (rw [State.onBus_queue]) | (rw [State.onPriv_queue]) | (rw [State.onRead_queue])
    | (rw [State.applyPending_queue]) | (rw [State.issue_queue]) | split | dsimp only
    | simp -implicitDefEqProofs [State.pending_eq]

@[simp] theorem execCampaignResume_queue (c : Cmd) (num : Nat) (s : State) : (next s (execCampaignResume c num s)).queue = s.queue := by
  unfold execCampaignResume
  repeat' first
    | with_reducible rfl | intro _ | rw [State.each_queue] | (rw [State.onBus_queue]) | (rw [State.onPriv_queue])
    | (rw [State.onRead_queue]) | (rw [State.applyPending_queue]) | (rw [State.issue_queue])
    | refine pair_queue (by assumption) ?_ | refine tripR_queue (by assumption) ?_ | split | dsimp only
    | simp -implicitDefEqProofs [State.pending_eq]

@[simp] theorem execCampaignAbort_queue (c : Cmd) (num : Nat) (s : State) : (next s (execCampaignAbort c num s)).queue = s.queue := by
  unfold execCampaignAbort
  repeat' first
    | with_reducible rfl | intro _ | (rw [State.onBus_queue]) | (rw [State.onPriv_queue]) | (rw [State.onRead_queue])
    | (rw [State.applyPending_queue]) | (rw [State.issue_queue]) | split | dsimp only
    | simp -implicitDefEqProofs [State.pending_eq]

@[simp] theorem execCampStatusRead_queue (r : Req) (h : Nat) (s : State) : (next s (execCampStatusRead r h s)).queue = s.queue := by simp [execCampStatusRead, State.pending_eq]
@[simp] theorem execSweepStart_queue (c : Cmd) (rounds : Nat) (roundS : Nat) (ttl : Nat) (silent : Bool) (s : State) : (next s (execSweepStart c rounds roundS ttl silent s)).queue = s.queue := by
  unfold execSweepStart
  repeat' first
    | with_reducible rfl | intro _ | rw [State.each_queue] | (rw [State.onBus_queue]) | (rw [State.onPriv_queue])
    | (rw [State.onRead_queue]) | (rw [State.applyPending_queue]) | (rw [State.issue_queue])
    | refine pair_queue (by assumption) ?_ | refine tripR_queue (by assumption) ?_ | split | dsimp only
    | simp -implicitDefEqProofs [State.pending_eq]

@[simp] theorem execSweepRoundStart_queue (h : Nat) (s : State) : (next s (execSweepRoundStart h s)).queue = s.queue := by
  unfold execSweepRoundStart
  repeat' first
    | with_reducible rfl | intro _ | (rw [State.onBus_queue]) | (rw [State.onPriv_queue]) | (rw [State.onRead_queue])
    | (rw [State.applyPending_queue]) | (rw [State.issue_queue]) | split | dsimp only
    | simp -implicitDefEqProofs [State.pending_eq]

@[simp] theorem State.sweepEnd_queue (s : State) (h : Nat) (status : Nat) : (State.sweepEnd s h status).queue = s.queue := by simp [State.sweepEnd, State.pending_eq]
@[simp] theorem execSweepEnd_queue (h : Nat) (s : State) : (next s (execSweepEnd h s)).queue = s.queue := by
  unfold execSweepEnd
  repeat' first
    | with_reducible rfl | intro _ | (rw [State.onBus_queue]) | (rw [State.onPriv_queue]) | (rw [State.onRead_queue])
    | (rw [State.applyPending_queue]) | (rw [State.issue_queue]) | split | dsimp only
    | simp -implicitDefEqProofs [State.pending_eq]

@[simp] theorem execSweepRead_queue (c : Cmd) (first : Nat) (count : Nat) (addr : Nat) (s : State) : (next s (execSweepRead c first count addr s)).queue = s.queue := by
  unfold execSweepRead
  repeat' first
    | with_reducible rfl | intro _ | (rw [State.onBus_queue]) | (rw [State.onPriv_queue]) | (rw [State.onRead_queue])
    | (rw [State.applyPending_queue]) | (rw [State.issue_queue]) | refine pair_queue (by assumption) ?_
    | refine tripR_queue (by assumption) ?_ | split | dsimp only | simp -implicitDefEqProofs [State.pending_eq]

@[simp] theorem State.startThread_queue (s : State) (g : Nat) (pc : Nat) : (State.startThread s g pc).queue = s.queue := by simp [State.startThread, State.pending_eq]
@[simp] theorem State.startProgram_queue (s : State) (h : Nat) (k : Nat) (pc : Nat) : (State.startProgram s h k pc).queue = s.queue := by simp [State.startProgram, State.pending_eq]
@[simp] theorem State.haltPrograms_queue (s : State) (h : Nat) (post : Bool) : (State.haltPrograms s h post).queue = s.queue := by
  unfold State.haltPrograms
  repeat' first
    | with_reducible rfl | intro _ | rw [State.each_queue] | rw [State.when_queue] | (rw [State.onBus_queue])
    | (rw [State.onPriv_queue]) | (rw [State.onRead_queue]) | (rw [State.applyPending_queue]) | (rw [State.issue_queue])
    | refine pair_queue (by assumption) ?_ | refine tripR_queue (by assumption) ?_ | split | dsimp only
    | simp -implicitDefEqProofs [State.pending_eq]

@[simp] theorem State.clearProgram_queue (s : State) (h : Nat) (lo : Nat) : (State.clearProgram s h lo).queue = s.queue := by simp [State.clearProgram, State.pending_eq]
@[simp] theorem State.unload_queue (s : State) (h : Nat) : (State.unload s h).queue = s.queue := by simp [State.unload, State.pending_eq]
@[simp] theorem State.runImage_queue (s : State) (h : Nat) (m : List Nat) (good : Bool) : (State.runImage s h m good).queue = s.queue := by
  unfold State.runImage
  repeat' first
    | with_reducible rfl | intro _ | rw [State.each_queue] | (rw [State.onBus_queue]) | (rw [State.onPriv_queue])
    | (rw [State.onRead_queue]) | (rw [State.applyPending_queue]) | (rw [State.issue_queue])
    | refine pair_queue (by assumption) ?_ | refine tripR_queue (by assumption) ?_ | split | dsimp only
    | simp -implicitDefEqProofs [State.pending_eq]

@[simp] theorem execProgLoad_queue (c : Cmd) (off : Nat) (len : Nat) (good : Bool) (s : State) : (next s (execProgLoad c off len good s)).queue = s.queue := by
  unfold execProgLoad
  repeat' first
    | with_reducible rfl | intro _ | rw [State.when_queue] | (rw [State.onBus_queue]) | (rw [State.onPriv_queue])
    | (rw [State.onRead_queue]) | (rw [State.applyPending_queue]) | (rw [State.issue_queue])
    | refine pair_queue (by assumption) ?_ | refine tripR_queue (by assumption) ?_ | split | dsimp only
    | simp -implicitDefEqProofs [State.pending_eq]

@[simp] theorem execProgStop_queue (c : Cmd) (s : State) : (next s (execProgStop c s)).queue = s.queue := by simp [execProgStop, State.pending_eq]
@[simp] theorem execProgSignal_queue (c : Cmd) (mask : Nat) (s : State) : (next s (execProgSignal c mask s)).queue = s.queue := by
  unfold execProgSignal
  repeat' first
    | with_reducible rfl | intro _ | rw [State.each_queue] | (rw [State.onBus_queue]) | (rw [State.onPriv_queue])
    | (rw [State.onRead_queue]) | (rw [State.applyPending_queue]) | (rw [State.issue_queue])
    | refine pair_queue (by assumption) ?_ | refine tripR_queue (by assumption) ?_ | split | dsimp only
    | simp -implicitDefEqProofs [State.pending_eq]

@[simp] theorem execEnghGrantWrite_queue (r : Req) (h : Nat) (off : Nat) (v : Nat) (s : State) : (next s (execEnghGrantWrite r h off v s)).queue = s.queue := by
  unfold execEnghGrantWrite
  repeat' first
    | with_reducible rfl | intro _ | (rw [State.onBus_queue]) | (rw [State.onPriv_queue]) | (rw [State.onRead_queue])
    | (rw [State.applyPending_queue]) | (rw [State.issue_queue]) | refine pair_queue (by assumption) ?_
    | refine tripR_queue (by assumption) ?_ | split | dsimp only | simp -implicitDefEqProofs [State.pending_eq]

theorem State.insertAgain_queue (s : State) (x : InsWait) : ∀ t, s.insertAgain x = some t → t.queue = s.queue := by
  intro t ht
  unfold State.insertAgain at ht
  split at ht
  · cases ht
  rename_i r s1 _ h1
  have q1 := pair_queue h1 (State.insertNode_queue _ _ _ _)
  revert ht
  extract_lets s2 s3
  have q2 : s2.queue = s.queue := by
    rw [← q1]
    simp only [s2]
    split
    · split
      · rw [State.complete_queue]
      · rw [State.complete_queue]
      · rw [State.finish_queue]
      · rw [State.finish_queue]
    · rfl
  clear_value s2
  have q3 : s3.queue = s.queue := by
    rw [← q2]
    simp only [s3]
    split
    · split
      · rw [State.resume_queue, State.tinsDone_queue]
      · rfl
    · rfl
  clear_value s3
  intro ht
  rw [← Option.some.inj ht]
  split
  · split
    rename_i h4
    have q4 := tripR_queue h4 (State.installKey_queue _ _ _)
    rw [State.joinedNew_queue, q4, q3]
  · exact q3
@[simp] theorem State.insertWaiting_queue (s : State) (l : List InsWait) : (s.insertWaiting l).queue = s.queue := by
  induction l generalizing s with
  | nil => rfl
  | cons x t ih =>
    unfold State.insertWaiting
    split
    · rfl
    · rename_i h
      rw [ih]
      exact State.insertAgain_queue _ _ _ h
@[simp] theorem execIncarnationWalkEnd_queue (e : Nat) (s : State) : (next s (execIncarnationWalkEnd e s)).queue = s.queue := by
  unfold execIncarnationWalkEnd
  repeat' first
    | with_reducible rfl | intro _ | rw [State.each_queue] | (rw [State.onBus_queue]) | (rw [State.onPriv_queue])
    | (rw [State.onRead_queue]) | (rw [State.applyPending_queue]) | (rw [State.issue_queue]) | split | dsimp only
    | simp -implicitDefEqProofs [State.pending_eq]

@[simp] theorem execMeterCommit_queue (r : Req) (m : Nat) (v : Nat) (s : State) : (next s (execMeterCommit r m v s)).queue = s.queue := by simp [execMeterCommit, State.pending_eq]
@[simp] theorem execShaperCommit_queue (r : Req) (n : Nat) (v : Nat) (s : State) : (next s (execShaperCommit r n v s)).queue = s.queue := by simp [execShaperCommit, State.pending_eq]
@[simp] theorem execShaperUnblock_queue (n : Nat) (s : State) : (next s (execShaperUnblock n s)).queue = s.queue := by simp [execShaperUnblock, State.pending_eq]
@[simp] theorem execOutputRequest_queue (o : Nat) (s : State) : (next s (execOutputRequest o s)).queue = s.queue := by
  unfold execOutputRequest
  extract_lets s1
  have q1 : s1.queue = s.queue := State.refreshAll_queue _
  clear_value s1
  split
  · exact q1
  split
  · exact q1
  split
  · exact q1
  rw [next_next]
  split
  · rw [State.downEnd_queue, q1]
  · rw [State.writeElig_queue, State.release_queue, q1]
@[simp] theorem execQueueEligible_queue (q : Nat) (s : State) : (next s (execQueueEligible q s)).queue = s.queue := by simp [execQueueEligible, State.pending_eq]
@[simp] theorem execExpirySweep_queue (s : State) : (next s (execExpirySweep s)).queue = s.queue := by simp [execExpirySweep, State.pending_eq]
@[simp] theorem execWatchSample_queue (w : Nat) (s : State) : (next s (execWatchSample w s)).queue = s.queue := by
  unfold execWatchSample
  repeat' first
    | with_reducible rfl | intro _ | (rw [State.onBus_queue]) | (rw [State.onPriv_queue]) | (rw [State.onRead_queue])
    | (rw [State.applyPending_queue]) | (rw [State.issue_queue]) | refine pair_queue (by assumption) ?_
    | refine tripR_queue (by assumption) ?_ | split | dsimp only | simp -implicitDefEqProofs [State.pending_eq]

@[simp] theorem execQprobeSelWrite_queue (r : Req) (i : Nat) (v : Nat) (s : State) : (next s (execQprobeSelWrite r i v s)).queue = s.queue := by
  unfold execQprobeSelWrite
  repeat' first
    | with_reducible rfl | intro _ | (rw [State.onBus_queue]) | (rw [State.onPriv_queue]) | (rw [State.onRead_queue])
    | (rw [State.applyPending_queue]) | (rw [State.issue_queue]) | split | dsimp only
    | simp -implicitDefEqProofs [State.pending_eq]

@[simp] theorem State.groupBind_queue (s : State) (q : Nat) (id : Nat) (en : Bool) : (State.groupBind s q id en).queue = s.queue := by simp [State.groupBind, State.pending_eq]
@[simp] theorem execQprobeGroupWrite_queue (r : Req) (i : Nat) (v : Nat) (s : State) : (next s (execQprobeGroupWrite r i v s)).queue = s.queue := by
  unfold execQprobeGroupWrite
  repeat' first
    | with_reducible rfl | intro _ | (rw [State.onBus_queue]) | (rw [State.onPriv_queue]) | (rw [State.onRead_queue])
    | (rw [State.applyPending_queue]) | (rw [State.issue_queue]) | split | dsimp only
    | simp -implicitDefEqProofs [State.pending_eq]

@[simp] theorem execQueueCfg_queue (c : Cmd) (e : Nat) (group : Nat) (s : State) : (next s (execQueueCfg c e group s)).queue = s.queue := by
  unfold execQueueCfg
  repeat' first
    | with_reducible rfl | intro _ | (rw [State.onBus_queue]) | (rw [State.onPriv_queue]) | (rw [State.onRead_queue])
    | (rw [State.applyPending_queue]) | (rw [State.issue_queue]) | split | dsimp only
    | simp -implicitDefEqProofs [State.pending_eq]

@[simp] theorem execTmhCtlWrite_queue (r : Req) (h : Nat) (v : Nat) (s : State) : (next s (execTmhCtlWrite r h v s)).queue = s.queue := by
  unfold execTmhCtlWrite
  repeat' first
    | with_reducible rfl | intro _ | (rw [State.onBus_queue]) | (rw [State.onPriv_queue]) | (rw [State.onRead_queue])
    | (rw [State.applyPending_queue]) | (rw [State.issue_queue]) | split | dsimp only
    | simp -implicitDefEqProofs [State.pending_eq]

@[simp] theorem execCellQuotaWrite_queue (r : Req) (h : Nat) (v : Nat) (s : State) : (next s (execCellQuotaWrite r h v s)).queue = s.queue := by
  unfold execCellQuotaWrite
  repeat' first
    | with_reducible rfl | intro _ | (rw [State.onBus_queue]) | (rw [State.onPriv_queue]) | (rw [State.onRead_queue])
    | (rw [State.applyPending_queue]) | (rw [State.issue_queue]) | split | dsimp only
    | simp -implicitDefEqProofs [State.pending_eq]

@[simp] theorem State.fifoClear_queue (s : State) (f : Nat) : (State.fifoClear s f).queue = s.queue := by simp [State.fifoClear, State.pending_eq]
@[simp] theorem execFifoCfgWrite_queue (r : Req) (f : Nat) (off : Nat) (v : Nat) (s : State) : (next s (execFifoCfgWrite r f off v s)).queue = s.queue := by
  unfold execFifoCfgWrite
  repeat' first
    | with_reducible rfl | intro _ | rw [State.when_queue] | (rw [State.onBus_queue]) | (rw [State.onPriv_queue])
    | (rw [State.onRead_queue]) | (rw [State.applyPending_queue]) | (rw [State.issue_queue])
    | refine pair_queue (by assumption) ?_ | refine tripR_queue (by assumption) ?_ | split | dsimp only
    | simp -implicitDefEqProofs [State.pending_eq]

@[simp] theorem execFifoPtrCheck_queue (f : Nat) (same : Bool) (s : State) : (next s (execFifoPtrCheck f same s)).queue = s.queue := by
  unfold execFifoPtrCheck
  repeat' first
    | with_reducible rfl | intro _ | (rw [State.onBus_queue]) | (rw [State.onPriv_queue]) | (rw [State.onRead_queue])
    | (rw [State.applyPending_queue]) | (rw [State.issue_queue]) | split | dsimp only
    | simp -implicitDefEqProofs [State.pending_eq]

@[simp] theorem State.bindWord_queue (s : State) (r : Req) (h : Nat) (off : Nat) (v : Nat) : (State.bindWord s r h off v).queue = s.queue := by
  unfold State.bindWord
  repeat' first
    | with_reducible rfl | intro _ | (rw [State.onBus_queue]) | (rw [State.onPriv_queue]) | (rw [State.onRead_queue])
    | (rw [State.applyPending_queue]) | (rw [State.issue_queue]) | refine pair_queue (by assumption) ?_
    | refine tripR_queue (by assumption) ?_ | split | dsimp only | simp -implicitDefEqProofs [State.pending_eq]

@[simp] theorem State.keepBinding_queue (s : State) (h : Nat) (t : State) : (s.keepBinding h t).queue = t.queue := by
  unfold State.keepBinding
  split
  · rfl
  · rw [State.put_queue, State.put_queue, State.put_queue, State.put_queue]
@[simp] theorem execHbindWrite_queue (r : Req) (h : Nat) (off : Nat) (v : Nat) (s : State) : (next s (execHbindWrite r h off v s)).queue = s.queue := by
  unfold execHbindWrite
  repeat' first
    | with_reducible rfl | intro _ | rw [State.when_queue] | (rw [State.onBus_queue]) | (rw [State.onPriv_queue])
    | (rw [State.onRead_queue]) | (rw [State.applyPending_queue]) | (rw [State.issue_queue]) | split | dsimp only
    | simp -implicitDefEqProofs [State.pending_eq]

@[simp] theorem execPcieFlr_queue (f : Nat) (s : State) : (next s (execPcieFlr f s)).queue = s.queue := by
  unfold execPcieFlr
  repeat' first
    | with_reducible rfl | intro _ | (rw [State.onBus_queue]) | (rw [State.onPriv_queue]) | (rw [State.onRead_queue])
    | (rw [State.applyPending_queue]) | (rw [State.issue_queue]) | refine pair_queue (by assumption) ?_
    | refine tripR_queue (by assumption) ?_ | split | dsimp only | simp -implicitDefEqProofs [State.pending_eq]

@[simp] theorem State.busMaster_queue (s : State) (f : Nat) (v : Nat) : (State.busMaster s f v).queue = s.queue := by
  unfold State.busMaster
  repeat' first
    | with_reducible rfl | intro _ | rw [State.when_queue] | (rw [State.onBus_queue]) | (rw [State.onPriv_queue])
    | (rw [State.onRead_queue]) | (rw [State.applyPending_queue]) | (rw [State.issue_queue])
    | refine pair_queue (by assumption) ?_ | refine tripR_queue (by assumption) ?_ | split | dsimp only
    | simp -implicitDefEqProofs [State.pending_eq]

@[simp] theorem execPciePerst_queue (p : Nat) (width : Nat) (speed : Nat) (pol : Nat) (s : State) : (next s (execPciePerst p width speed pol s)).queue = s.queue := by
  unfold execPciePerst
  repeat' first
    | with_reducible rfl | intro _ | rw [State.each_queue] | (rw [State.onBus_queue]) | (rw [State.onPriv_queue])
    | (rw [State.onRead_queue]) | (rw [State.applyPending_queue]) | (rw [State.issue_queue])
    | refine pair_queue (by assumption) ?_ | refine tripR_queue (by assumption) ?_ | split | dsimp only
    | simp -implicitDefEqProofs [State.pending_eq]

@[simp] theorem execBusMasterChange_queue (f : Nat) (on : Bool) (s : State) : (next s (execBusMasterChange f on s)).queue = s.queue := by
  unfold execBusMasterChange
  repeat' first
    | with_reducible rfl | intro _ | rw [State.when_queue] | (rw [State.onBus_queue]) | (rw [State.onPriv_queue])
    | (rw [State.onRead_queue]) | (rw [State.applyPending_queue]) | (rw [State.issue_queue])
    | refine pair_queue (by assumption) ?_ | refine tripR_queue (by assumption) ?_ | split | dsimp only
    | simp -implicitDefEqProofs [State.pending_eq]

@[simp] theorem State.cmdOff_queue (s : State) (i : Nat) : (State.cmdOff s i).queue = s.queue := by simp [State.cmdOff, State.pending_eq]
@[simp] theorem execDmaError_queue (i : Nat) (s : State) : (next s (execDmaError i s)).queue = s.queue := by
  unfold execDmaError
  repeat' first
    | with_reducible rfl | intro _ | rw [State.when_queue] | (rw [State.onBus_queue]) | (rw [State.onPriv_queue])
    | (rw [State.onRead_queue]) | (rw [State.applyPending_queue]) | (rw [State.issue_queue]) | split | dsimp only
    | simp -implicitDefEqProofs [State.pending_eq]

@[simp] theorem State.doorbellBad_queue (s : State) (i : Nat) : (State.doorbellBad s i).queue = s.queue := by simp [State.doorbellBad, State.pending_eq]
@[simp] theorem execCmdDoorbell_queue (r : Req) (i : Nat) (v : Nat) (s : State) : (next s (execCmdDoorbell r i v s)).queue = s.queue := by
  unfold execCmdDoorbell
  repeat' first
    | with_reducible rfl | intro _ | (rw [State.onBus_queue]) | (rw [State.onPriv_queue]) | (rw [State.onRead_queue])
    | (rw [State.applyPending_queue]) | (rw [State.issue_queue]) | refine pair_queue (by assumption) ?_
    | refine tripR_queue (by assumption) ?_ | split | dsimp only | simp -implicitDefEqProofs [State.pending_eq]

@[simp] theorem execRxDoorbell_queue (r : Req) (i : Nat) (v : Nat) (s : State) : (next s (execRxDoorbell r i v s)).queue = s.queue := by
  unfold execRxDoorbell
  repeat' first
    | with_reducible rfl | intro _ | (rw [State.onBus_queue]) | (rw [State.onPriv_queue]) | (rw [State.onRead_queue])
    | (rw [State.applyPending_queue]) | (rw [State.issue_queue]) | split | dsimp only
    | simp -implicitDefEqProofs [State.pending_eq]

@[simp] theorem execCplDoorbell_queue (r : Req) (i : Nat) (v : Nat) (s : State) : (next s (execCplDoorbell r i v s)).queue = s.queue := by
  unfold execCplDoorbell
  repeat' first
    | with_reducible rfl | intro _ | (rw [State.onBus_queue]) | (rw [State.onPriv_queue]) | (rw [State.onRead_queue])
    | (rw [State.applyPending_queue]) | (rw [State.issue_queue]) | split | dsimp only
    | simp -implicitDefEqProofs [State.pending_eq]

@[simp] theorem execEvDoorbell_queue (r : Req) (i : Nat) (v : Nat) (s : State) : (next s (execEvDoorbell r i v s)).queue = s.queue := by
  unfold execEvDoorbell
  repeat' first
    | with_reducible rfl | intro _ | (rw [State.onBus_queue]) | (rw [State.onPriv_queue]) | (rw [State.onRead_queue])
    | (rw [State.applyPending_queue]) | (rw [State.issue_queue]) | split | dsimp only
    | simp -implicitDefEqProofs [State.pending_eq]

@[simp] theorem State.ringEnable_queue (s : State) (i : Nat) (r : Nat) (on : Bool) : (State.ringEnable s i r on).queue = s.queue := by
  unfold State.ringEnable
  repeat' first
    | with_reducible rfl | intro _ | rw [State.when_queue] | (rw [State.onBus_queue]) | (rw [State.onPriv_queue])
    | (rw [State.onRead_queue]) | (rw [State.applyPending_queue]) | (rw [State.issue_queue]) | split | dsimp only
    | simp -implicitDefEqProofs [State.pending_eq]

@[simp] theorem State.hostCtl_queue (s : State) (i : Nat) (v : Nat) : (State.hostCtl s i v).queue = s.queue := by simp [State.hostCtl, State.pending_eq]
@[simp] theorem execRingCtlWrite_queue (r : Req) (i : Nat) (v : Nat) (s : State) : (next s (execRingCtlWrite r i v s)).queue = s.queue := by simp [execRingCtlWrite, State.pending_eq]
@[simp] theorem execCmdRingDrainDone_queue (i : Nat) (s : State) : (next s (execCmdRingDrainDone i s)).queue = s.queue := by simp [execCmdRingDrainDone, State.pending_eq]
@[simp] theorem execIrqCoalesceTimeout_queue (i : Nat) (v : Nat) (s : State) : (next s (execIrqCoalesceTimeout i v s)).queue = s.queue := by
  unfold execIrqCoalesceTimeout
  repeat' first
    | with_reducible rfl | intro _ | (rw [State.onBus_queue]) | (rw [State.onPriv_queue]) | (rw [State.onRead_queue])
    | (rw [State.applyPending_queue]) | (rw [State.issue_queue]) | split | dsimp only
    | simp -implicitDefEqProofs [State.pending_eq]

@[simp] theorem State.cmdTaken_queue (s : State) (src : Nat) : (State.cmdTaken s src).queue = s.queue := by
  unfold State.cmdTaken
  repeat' first
    | with_reducible rfl | intro _ | (rw [State.onBus_queue]) | (rw [State.onPriv_queue]) | (rw [State.onRead_queue])
    | (rw [State.applyPending_queue]) | (rw [State.issue_queue]) | refine pair_queue (by assumption) ?_
    | refine tripR_queue (by assumption) ?_ | split | dsimp only | simp -implicitDefEqProofs [State.pending_eq]

@[simp] theorem State.retryHint_queue (s : State) (i : Nat) : ((State.retryHint s i).2).queue = s.queue := by
  unfold State.retryHint
  repeat' first
    | with_reducible rfl | intro _ | (rw [State.onBus_queue]) | (rw [State.onPriv_queue]) | (rw [State.onRead_queue])
    | (rw [State.applyPending_queue]) | (rw [State.issue_queue]) | refine pair_queue (by assumption) ?_
    | refine tripR_queue (by assumption) ?_ | split | dsimp only | simp -implicitDefEqProofs [State.pending_eq]

@[simp] theorem execCommandFetch_queue (src : Nat) (s : State) : (next s (execCommandFetch src s)).queue = s.queue := by
  unfold execCommandFetch
  repeat' first
    | with_reducible rfl | intro _ | rw [State.when_queue] | rw [getD_queue] | (rw [State.onBus_queue])
    | (rw [State.onPriv_queue]) | (rw [State.onRead_queue]) | (rw [State.applyPending_queue]) | (rw [State.issue_queue])
    | refine pair_queue (by assumption) ?_ | refine tripR_queue (by assumption) ?_ | split | dsimp only
    | simp -implicitDefEqProofs [State.pending_eq]

@[simp] theorem execStewardServe_queue (s : State) : (next s (execStewardServe s)).queue = s.queue := by
  unfold execStewardServe
  repeat' first
    | with_reducible rfl | intro _ | rw [State.when_queue] | (rw [State.onBus_queue]) | (rw [State.onPriv_queue])
    | (rw [State.onRead_queue]) | (rw [State.applyPending_queue]) | (rw [State.issue_queue])
    | refine pair_queue (by assumption) ?_ | refine tripR_queue (by assumption) ?_ | split | dsimp only
    | simp -implicitDefEqProofs [State.pending_eq]

@[simp] theorem State.postDown_queue (s : State) (c : Cmd) (d : Down) : (State.postDown s c d).queue = s.queue := by
  unfold State.postDown
  repeat' first
    | with_reducible rfl | intro _ | (rw [State.onBus_queue]) | (rw [State.onPriv_queue]) | (rw [State.onRead_queue])
    | (rw [State.applyPending_queue]) | (rw [State.issue_queue]) | refine pair_queue (by assumption) ?_
    | refine tripR_queue (by assumption) ?_ | split | dsimp only | simp -implicitDefEqProofs [State.pending_eq]

@[simp] theorem execSend_queue (c : Cmd) (eui : Nat) (entry : Nat) (life : Nat) (len : Nat) (mode : Nat) (power : Nat) (cls : Nat) (flags : Nat) (addr : Nat) (inline : List Nat) (s : State) : (next s (execSend c eui entry life len mode power cls flags addr inline s)).queue = s.queue := by
  unfold execSend
  repeat' first
    | with_reducible rfl | intro _ | rw [getD_queue] | (rw [State.onBus_queue]) | (rw [State.onPriv_queue])
    | (rw [State.onRead_queue]) | (rw [State.applyPending_queue]) | (rw [State.issue_queue])
    | refine pair_queue (by assumption) ?_ | refine tripR_queue (by assumption) ?_ | split | dsimp only
    | simp -implicitDefEqProofs [State.pending_eq]

@[simp] theorem execFlood_queue (c : Cmd) (final : Nat) (life : Nat) (len : Nat) (cls : Nat) (flags : Nat) (addr : Nat) (inline : List Nat) (s : State) : (next s (execFlood c final life len cls flags addr inline s)).queue = s.queue := by
  unfold execFlood
  repeat' first
    | with_reducible rfl | intro _ | (rw [State.onBus_queue]) | (rw [State.onPriv_queue]) | (rw [State.onRead_queue])
    | (rw [State.applyPending_queue]) | (rw [State.issue_queue]) | split | dsimp only
    | simp -implicitDefEqProofs [State.pending_eq]

@[simp] theorem execNop_queue (c : Cmd) (s : State) : (next s (execNop c s)).queue = s.queue := by simp [execNop, State.pending_eq]
@[simp] theorem execMemWrite_queue (c : Cmd) (addr : Nat) (off : Nat) (len : Nat) (s : State) : (next s (execMemWrite c addr off len s)).queue = s.queue := by
  unfold execMemWrite
  repeat' first
    | with_reducible rfl | intro _ | (rw [State.onBus_queue]) | (rw [State.onPriv_queue]) | (rw [State.onRead_queue])
    | (rw [State.applyPending_queue]) | (rw [State.issue_queue]) | split | dsimp only
    | simp -implicitDefEqProofs [State.pending_eq]

@[simp] theorem execMemRead_queue (c : Cmd) (addr : Nat) (off : Nat) (len : Nat) (s : State) : (next s (execMemRead c addr off len s)).queue = s.queue := by
  unfold execMemRead
  repeat' first
    | with_reducible rfl | intro _ | (rw [State.onBus_queue]) | (rw [State.onPriv_queue]) | (rw [State.onRead_queue])
    | (rw [State.applyPending_queue]) | (rw [State.issue_queue]) | refine pair_queue (by assumption) ?_
    | refine tripR_queue (by assumption) ?_ | split | dsimp only | simp -implicitDefEqProofs [State.pending_eq]

@[simp] theorem execWatchRead_queue (c : Cmd) (w : Nat) (first : Nat) (count : Nat) (addr : Nat) (s : State) : (next s (execWatchRead c w first count addr s)).queue = s.queue := by
  unfold execWatchRead
  repeat' first
    | with_reducible rfl | intro _ | (rw [State.onBus_queue]) | (rw [State.onPriv_queue]) | (rw [State.onRead_queue])
    | (rw [State.applyPending_queue]) | (rw [State.issue_queue]) | split | dsimp only
    | simp -implicitDefEqProofs [State.pending_eq]

@[simp] theorem execHedgeReset_queue (c : Cmd) (h : Nat) (s : State) : (next s (execHedgeReset c h s)).queue = s.queue := by
  unfold execHedgeReset
  repeat' first
    | with_reducible rfl | intro _ | (rw [State.onBus_queue]) | (rw [State.onPriv_queue]) | (rw [State.onRead_queue])
    | (rw [State.applyPending_queue]) | (rw [State.issue_queue]) | refine pair_queue (by assumption) ?_
    | refine tripR_queue (by assumption) ?_ | split | dsimp only | simp -implicitDefEqProofs [State.pending_eq]

@[simp] theorem State.evDrain_queue (s : State) (h : Nat) : (State.evDrain s h).queue = s.queue := by simp [State.evDrain, State.pending_eq]
@[simp] theorem execEvBacklogDrain_queue (h : Nat) (s : State) : (next s (execEvBacklogDrain h s)).queue = s.queue := by simp [execEvBacklogDrain, State.pending_eq]
@[simp] theorem State.rxFill_queue (s : State) (h n : Nat) (d : List Nat) (acc : List (Nat × List Nat × Nat)) :
    (s.rxFill h n d acc).2.queue = s.queue := by
  induction n generalizing s d acc with
  | zero => rfl
  | succ n ih =>
    unfold State.rxFill
    repeat' first
      | (rw [ih])
      | with_reducible rfl | intro _ | rw [State.each_queue] | rw [State.when_queue] | rw [foldl_queue] | rw [foldlL_queue]
      | rw [foldlR_queue] | rw [getD_queue] | refine pair_queue (by assumption) ?_ | refine pairL_queue (by assumption) ?_
      | refine tripR_queue (by assumption) ?_ | refine tripM_queue (by assumption) ?_ | refine quadR_queue (by assumption) ?_
      | split | (rw [State.calField_queue]) | (rw [State.onBus_queue]) | (rw [State.onPriv_queue]) | (rw [State.onRead_queue])
      | (rw [State.applyPending_queue]) | (rw [State.issue_queue]) | exact State.moveShort_queue _ _ _ _ _ (by assumption)
      | exact State.offerRoute_queue _ _ _ _ _ _ _ _ _ (by assumption)
      | exact State.learnRoutes_queue _ _ _ _ _ _ _ (by assumption) | dsimp only | simp -implicitDefEqProofs [State.pending_eq]

@[simp] theorem State.rxNoBuf_queue (s : State) (h : Nat) : (State.rxNoBuf s h).queue = s.queue := by simp [State.rxNoBuf, State.pending_eq]
@[simp] theorem State.rxRing_queue (s : State) (x : RxFrame) : (State.rxRing s x).queue = s.queue := by
  unfold State.rxRing
  repeat' first
    | with_reducible rfl | intro _ | rw [State.each_queue] | (rw [State.onBus_queue]) | (rw [State.onPriv_queue])
    | (rw [State.onRead_queue]) | (rw [State.applyPending_queue]) | (rw [State.issue_queue])
    | refine pair_queue (by assumption) ?_ | refine tripR_queue (by assumption) ?_ | split | dsimp only
    | simp -implicitDefEqProofs [State.pending_eq]

@[simp] theorem State.rxTunnel_queue (s : State) (x : RxFrame) : (State.rxTunnel s x).queue = s.queue := by simp [State.rxTunnel, State.pending_eq]
@[simp] theorem execRxPlace_queue (h : Nat) (s : State) : (next s (execRxPlace h s)).queue = s.queue := by
  unfold execRxPlace
  repeat' first
    | with_reducible rfl | intro _ | (rw [State.onBus_queue]) | (rw [State.onPriv_queue]) | (rw [State.onRead_queue])
    | (rw [State.applyPending_queue]) | (rw [State.issue_queue]) | refine pair_queue (by assumption) ?_
    | refine tripR_queue (by assumption) ?_ | split | dsimp only | simp -implicitDefEqProofs [State.pending_eq]

@[simp] theorem execRxHoldExpire_queue (h : Nat) (s : State) : (next s (execRxHoldExpire h s)).queue = s.queue := by simp [execRxHoldExpire, State.pending_eq]
@[simp] theorem execRxLossReport_queue (h : Nat) (s : State) : (next s (execRxLossReport h s)).queue = s.queue := by
  unfold execRxLossReport
  repeat' first
    | with_reducible rfl | intro _ | (rw [State.onBus_queue]) | (rw [State.onPriv_queue]) | (rw [State.onRead_queue])
    | (rw [State.applyPending_queue]) | (rw [State.issue_queue]) | refine pair_queue (by assumption) ?_
    | refine tripR_queue (by assumption) ?_ | split | dsimp only | simp -implicitDefEqProofs [State.pending_eq]

@[simp] theorem execHosthHresetWrite_queue (r : Req) (h : Nat) (v : Nat) (s : State) : (next s (execHosthHresetWrite r h v s)).queue = s.queue := by simp [execHosthHresetWrite, State.pending_eq]
@[simp] theorem execHbindHresetWrite_queue (r : Req) (h : Nat) (s : State) : (next s (execHbindHresetWrite r h s)).queue = s.queue := by simp [execHbindHresetWrite, State.pending_eq]
@[simp] theorem execCntClrDiscard_queue (r : Req) (i : Nat) (v : Nat) (s : State) : (next s (execCntClrDiscard r i v s)).queue = s.queue := by simp [execCntClrDiscard, State.pending_eq]
@[simp] theorem State.tunDown_queue (s : State) (h : Nat) : (State.tunDown s h).queue = s.queue := by simp [State.tunDown, State.pending_eq]
@[simp] theorem State.tunRead_queue (s : State) (h : Nat) (kind : Nat) (port : Nat) (p : List Nat) : ((State.tunRead s h kind port p).2).queue = s.queue := by
  unfold State.tunRead
  repeat' first
    | with_reducible rfl | intro _ | rw [getD_queue] | (rw [State.onBus_queue]) | (rw [State.onPriv_queue])
    | (rw [State.onRead_queue]) | (rw [State.applyPending_queue]) | (rw [State.issue_queue])
    | refine pair_queue (by assumption) ?_ | refine tripR_queue (by assumption) ?_ | split | dsimp only
    | simp -implicitDefEqProofs [State.pending_eq]

@[simp] theorem State.tunAcked_queue (s : State) (h : Nat) (seq : Nat) : (State.tunAcked s h seq).queue = s.queue := by
  unfold State.tunAcked
  repeat' first
    | with_reducible rfl | intro _ | rw [State.each_queue] | rw [getD_queue] | (rw [State.onBus_queue])
    | (rw [State.onPriv_queue]) | (rw [State.onRead_queue]) | (rw [State.applyPending_queue]) | (rw [State.issue_queue]) | split
    | dsimp only | simp -implicitDefEqProofs [State.pending_eq]

@[simp] theorem State.tunHear_queue (s : State) (h : Nat) (kind : Nat) (port : Nat) (p : List Nat) : ((State.tunHear s h kind port p).2).queue = s.queue := by
  unfold State.tunHear
  repeat' first
    | with_reducible rfl | intro _ | (rw [State.onBus_queue]) | (rw [State.onPriv_queue]) | (rw [State.onRead_queue])
    | (rw [State.applyPending_queue]) | (rw [State.issue_queue]) | refine pair_queue (by assumption) ?_
    | refine tripR_queue (by assumption) ?_ | split | dsimp only | simp -implicitDefEqProofs [State.pending_eq]

@[simp] theorem State.tunAck_queue (s : State) (h : Nat) : (State.tunAck s h).queue = s.queue := by simp [State.tunAck, State.pending_eq]
@[simp] theorem State.tunOrder_queue (s : State) (h : Nat) (seq : Nat) : ((State.tunOrder s h seq).2).queue = s.queue := by
  unfold State.tunOrder
  repeat' first
    | with_reducible rfl | intro _ | (rw [State.onBus_queue]) | (rw [State.onPriv_queue]) | (rw [State.onRead_queue])
    | (rw [State.applyPending_queue]) | (rw [State.issue_queue]) | refine pair_queue (by assumption) ?_
    | refine tripR_queue (by assumption) ?_ | split | dsimp only | simp -implicitDefEqProofs [State.pending_eq]

@[simp] theorem execTunCmdMsg_queue (h : Nat) (port : Nat) (p : List Nat) (s : State) : (next s (execTunCmdMsg h port p s)).queue = s.queue := by
  unfold execTunCmdMsg
  repeat' first
    | with_reducible rfl | intro _ | rw [getD_queue] | (rw [State.onBus_queue]) | (rw [State.onPriv_queue])
    | (rw [State.onRead_queue]) | (rw [State.applyPending_queue]) | (rw [State.issue_queue])
    | refine pair_queue (by assumption) ?_ | refine tripR_queue (by assumption) ?_ | split | dsimp only
    | simp -implicitDefEqProofs [State.pending_eq]

@[simp] theorem execTunCreditMsg_queue (h : Nat) (port : Nat) (p : List Nat) (s : State) : (next s (execTunCreditMsg h port p s)).queue = s.queue := by
  unfold execTunCreditMsg
  repeat' first
    | with_reducible rfl | intro _ | (rw [State.onBus_queue]) | (rw [State.onPriv_queue]) | (rw [State.onRead_queue])
    | (rw [State.applyPending_queue]) | (rw [State.issue_queue]) | refine pair_queue (by assumption) ?_
    | refine tripR_queue (by assumption) ?_ | split | dsimp only | simp -implicitDefEqProofs [State.pending_eq]

@[simp] theorem execTunAckMsg_queue (h : Nat) (port : Nat) (p : List Nat) (s : State) : (next s (execTunAckMsg h port p s)).queue = s.queue := by simp [execTunAckMsg, State.pending_eq]
@[simp] theorem execTunKeepaliveMsg_queue (h : Nat) (port : Nat) (p : List Nat) (s : State) : (next s (execTunKeepaliveMsg h port p s)).queue = s.queue := by simp [execTunKeepaliveMsg, State.pending_eq]
@[simp] theorem execTunStartMsg_queue (h : Nat) (port : Nat) (p : List Nat) (s : State) : (next s (execTunStartMsg h port p s)).queue = s.queue := by
  unfold execTunStartMsg
  repeat' first
    | with_reducible rfl | intro _ | rw [State.each_queue] | (rw [State.onBus_queue]) | (rw [State.onPriv_queue])
    | (rw [State.onRead_queue]) | (rw [State.applyPending_queue]) | (rw [State.issue_queue])
    | refine pair_queue (by assumption) ?_ | refine tripR_queue (by assumption) ?_ | split | dsimp only
    | simp -implicitDefEqProofs [State.pending_eq]

@[simp] theorem execTunNeighborSolicit_queue (port : Nat) (ip6 : Nat) (s : State) : (next s (execTunNeighborSolicit port ip6 s)).queue = s.queue := by simp [execTunNeighborSolicit, State.pending_eq]
@[simp] theorem execTunResendTimeout_queue (h : Nat) (s : State) : (next s (execTunResendTimeout h s)).queue = s.queue := by
  unfold execTunResendTimeout
  repeat' first
    | with_reducible rfl | intro _ | rw [State.each_queue] | (rw [State.onBus_queue]) | (rw [State.onPriv_queue])
    | (rw [State.onRead_queue]) | (rw [State.applyPending_queue]) | (rw [State.issue_queue]) | split | dsimp only
    | simp -implicitDefEqProofs [State.pending_eq]

@[simp] theorem execTunSilenceTimeout_queue (h : Nat) (s : State) : (next s (execTunSilenceTimeout h s)).queue = s.queue := by simp [execTunSilenceTimeout, State.pending_eq]
@[simp] theorem execTunKeepaliveSend_queue (h : Nat) (s : State) : (next s (execTunKeepaliveSend h s)).queue = s.queue := by simp [execTunKeepaliveSend, State.pending_eq]
@[simp] theorem State.clearRc_queue (s : State) (Fs : List Fld) (n : Nat) : (State.clearRc s Fs n).queue = s.queue := by simp [State.clearRc, State.pending_eq]
@[simp] theorem State.thkReset_queue (s : State) (h : Nat) : ((State.thkReset s h).2).queue = s.queue := by
  unfold State.thkReset
  repeat' first
    | with_reducible rfl | intro _ | rw [State.each_queue] | (rw [State.onBus_queue]) | (rw [State.onPriv_queue])
    | (rw [State.onRead_queue]) | (rw [State.applyPending_queue]) | (rw [State.issue_queue]) | split | dsimp only
    | simp -implicitDefEqProofs [State.pending_eq]

@[simp] theorem State.fwdReset_queue (s : State) (h : Nat) : (State.fwdReset s h).queue = s.queue := by simp [State.fwdReset, State.pending_eq]
@[simp] theorem State.tmReset_queue (s : State) (h : Nat) : (State.tmReset s h).queue = s.queue := by simp [State.tmReset, State.pending_eq]
@[simp] theorem State.engReset_queue (s : State) (h : Nat) : (State.engReset s h).queue = s.queue := by
  unfold State.engReset
  repeat' first
    | with_reducible rfl | intro _ | rw [State.each_queue] | (rw [State.onBus_queue]) | (rw [State.onPriv_queue])
    | (rw [State.onRead_queue]) | (rw [State.applyPending_queue]) | (rw [State.issue_queue])
    | refine pair_queue (by assumption) ?_ | refine tripR_queue (by assumption) ?_ | split | dsimp only
    | simp -implicitDefEqProofs [State.pending_eq]

@[simp] theorem State.rebound_queue (s : State) (h : Nat) : (State.rebound s h).queue = s.queue := by simp [State.rebound, State.pending_eq]
@[simp] theorem State.hedgeResetEnd_queue (s : State) (h : Nat) : (State.hedgeResetEnd s h).queue = s.queue := by simp [State.hedgeResetEnd, State.pending_eq]
@[simp] theorem execHedgeResetEnd_queue (h : Nat) (s : State) : (next s (execHedgeResetEnd h s)).queue = s.queue := by simp [execHedgeResetEnd, State.pending_eq]
@[simp] theorem State.hello_queue (s : State) : (State.hello s).queue = s.queue := by simp [State.hello, State.pending_eq]
@[simp] theorem State.twinHeard_queue (s : State) : (State.twinHeard s).queue = s.queue := by simp [State.twinHeard, State.pending_eq]
@[simp] theorem State.hbStart_queue (s : State) : (State.hbStart s).queue = s.queue := by simp [State.hbStart, State.pending_eq]
@[simp] theorem State.takeBack_queue (s : State) (d : Down) : (State.takeBack s d).queue = s.queue := by simp [State.takeBack, State.pending_eq]
@[simp] theorem State.beStandby_queue (s : State) : (State.beStandby s).queue = s.queue := by simp [State.beStandby, State.pending_eq]
@[simp] theorem execTwinCfgEnWrite_queue (r : Req) (v : Nat) (lanes : Nat) (s : State) : (next s (execTwinCfgEnWrite r v lanes s)).queue = s.queue := by
  unfold execTwinCfgEnWrite
  repeat' first
    | with_reducible rfl | intro _ | rw [State.each_queue] | rw [State.when_queue] | (rw [State.onBus_queue])
    | (rw [State.onPriv_queue]) | (rw [State.onRead_queue]) | (rw [State.applyPending_queue]) | (rw [State.issue_queue]) | split
    | dsimp only | simp -implicitDefEqProofs [State.pending_eq]

@[simp] theorem execTwinHelloRx_queue (eui : Nat) (prefer : Nat) (role : Nat) (schema : Nat) (same : Bool) (s : State) : (next s (execTwinHelloRx eui prefer role schema same s)).queue = s.queue := by
  unfold execTwinHelloRx
  repeat' first
    | with_reducible rfl | intro _ | rw [State.when_queue] | (rw [State.onBus_queue]) | (rw [State.onPriv_queue])
    | (rw [State.onRead_queue]) | (rw [State.applyPending_queue]) | (rw [State.issue_queue]) | split | dsimp only
    | simp -implicitDefEqProofs [State.pending_eq]

@[simp] theorem execTwinHelloTimeout_queue (s : State) : (next s (execTwinHelloTimeout s)).queue = s.queue := by simp [execTwinHelloTimeout, State.pending_eq]
@[simp] theorem execTwinHeartbeatSend_queue (s : State) : (next s (execTwinHeartbeatSend s)).queue = s.queue := by simp [execTwinHeartbeatSend, State.pending_eq]
@[simp] theorem execTwinLinkSilent_queue (s : State) : (next s (execTwinLinkSilent s)).queue = s.queue := by simp [execTwinLinkSilent, State.pending_eq]
@[simp] theorem execTwinLinkUp_queue (s : State) : (next s (execTwinLinkUp s)).queue = s.queue := by simp [execTwinLinkUp, State.pending_eq]
@[simp] theorem execTwinHbSilent_queue (s : State) : (next s (execTwinHbSilent s)).queue = s.queue := by simp [execTwinHbSilent, State.pending_eq]
@[simp] theorem execPartnerFaultAssert_queue (s : State) : (next s (execPartnerFaultAssert s)).queue = s.queue := by simp [execPartnerFaultAssert, State.pending_eq]
@[simp] theorem execPartnerFaultRelease_queue (s : State) : (next s (execPartnerFaultRelease s)).queue = s.queue := by simp [execPartnerFaultRelease, State.pending_eq]
@[simp] theorem execTwinCmdTakeover_queue (r : Req) (s : State) : (next s (execTwinCmdTakeover r s)).queue = s.queue := by simp [execTwinCmdTakeover, State.pending_eq]
@[simp] theorem execTwinDemotionRx_queue (cause : Nat) (s : State) : (next s (execTwinDemotionRx cause s)).queue = s.queue := by
  unfold execTwinDemotionRx
  repeat' first
    | with_reducible rfl | intro _ | (rw [State.onBus_queue]) | (rw [State.onPriv_queue]) | (rw [State.onRead_queue])
    | (rw [State.applyPending_queue]) | (rw [State.issue_queue]) | split | dsimp only
    | simp -implicitDefEqProofs [State.pending_eq]

@[simp] theorem State.snapshot_queue (s : State) : ((State.snapshot s).2).queue = s.queue := by simp [State.snapshot, State.pending_eq]
@[simp] theorem State.phaseSplit_queue (s : State) (ofs : Int) : (State.phaseSplit s ofs).queue = s.queue := by simp [State.phaseSplit, State.pending_eq]
@[simp] theorem execSnapshotCapture_queue (late : Bool) (ofs : Int) (s : State) : (next s (execSnapshotCapture late ofs s)).queue = s.queue := by
  unfold execSnapshotCapture
  repeat' first
    | with_reducible rfl | intro _ | rw [State.when_queue] | (rw [State.onBus_queue]) | (rw [State.onPriv_queue])
    | (rw [State.onRead_queue]) | (rw [State.applyPending_queue]) | (rw [State.issue_queue]) | split | dsimp only
    | simp -implicitDefEqProofs [State.pending_eq]

@[simp] theorem State.twinEntry_queue (s : State) (e : Nat) (l : List Nat) : (s.twinEntry e l).queue = s.queue := by
  unfold State.twinEntry
  extract_lets head s1 s2 s3 s4 h k s5
  have h1 : s1.queue = s.queue := by rw [State.each_queue]; intro u a; rw [State.put_queue]
  have h2 : s2.queue = s1.queue := by rw [State.each_queue]; intro u a; rw [State.put_queue]
  have h3 : s3.queue = s2.queue := by rw [State.each_queue]; intro u a; rw [State.put_queue]
  have h4 : s4.queue = s3.queue := State.put_queue ..
  have h5 : s5.queue = s4.queue := by
    refine getD_queue _ _ fun t ht => ?_
    exact State.idxInsert_queue _ _ _ _ _ _ ht
  split
  · rw [h4, h3, h2, h1]
  · split
    · rw [h5, h4, h3, h2, h1]
    · rw [getD_queue, h5, h4, h3, h2, h1]
      exact State.idxInsert_queue _ _ _ _ _
@[simp] theorem State.tally_queue (s : State) (e : Nat) (gone : Bool) : (State.tally s e gone).queue = s.queue := by
  unfold State.tally
  repeat' first
    | with_reducible rfl | intro _ | rw [State.when_queue] | (rw [State.onBus_queue]) | (rw [State.onPriv_queue])
    | (rw [State.onRead_queue]) | (rw [State.applyPending_queue]) | (rw [State.issue_queue]) | split | dsimp only
    | simp -implicitDefEqProofs [State.pending_eq]

@[simp] theorem State.snapEntry_queue (s : State) (x : Nat × List Nat) : (State.snapEntry s x).queue = s.queue := by
  unfold State.snapEntry
  repeat' first
    | with_reducible rfl | intro _ | rw [State.each_queue] | rw [State.when_queue] | (rw [State.onBus_queue])
    | (rw [State.onPriv_queue]) | (rw [State.onRead_queue]) | (rw [State.applyPending_queue]) | (rw [State.issue_queue])
    | refine pair_queue (by assumption) ?_ | refine tripR_queue (by assumption) ?_ | split | dsimp only
    | simp -implicitDefEqProofs [State.pending_eq]

@[simp] theorem State.snapCells_queue (s : State) (l : List ((Nat × Nat) × Nat)) : (State.snapCells s l).queue = s.queue := by
  unfold State.snapCells
  repeat' first
    | with_reducible rfl | intro _ | rw [State.each_queue] | (rw [State.onBus_queue]) | (rw [State.onPriv_queue])
    | (rw [State.onRead_queue]) | (rw [State.applyPending_queue]) | (rw [State.issue_queue])
    | refine pair_queue (by assumption) ?_ | refine tripR_queue (by assumption) ?_ | split | dsimp only
    | simp -implicitDefEqProofs [State.pending_eq]

@[simp] theorem State.snapDuty_queue (s : State) (l : List (Nat × Nat × Nat × Nat)) : (State.snapDuty s l).queue = s.queue := by simp [State.snapDuty, State.pending_eq]
@[simp] theorem execSnapshotApply_queue (x : TwinSnap) (ofs : Int) (s : State) : (next s (execSnapshotApply x ofs s)).queue = s.queue := by
  unfold execSnapshotApply
  repeat' first
    | with_reducible rfl | intro _ | rw [State.each_queue] | rw [State.when_queue] | (rw [State.onBus_queue])
    | (rw [State.onPriv_queue]) | (rw [State.onRead_queue]) | (rw [State.applyPending_queue]) | (rw [State.issue_queue]) | split
    | dsimp only | simp -implicitDefEqProofs [State.pending_eq]

@[simp] theorem execTwinCounterRecordRx_queue (h : Nat) (e : Nat) (counter : Nat) (s : State) : (next s (execTwinCounterRecordRx h e counter s)).queue = s.queue := by
  unfold execTwinCounterRecordRx
  repeat' first
    | with_reducible rfl | intro _ | (rw [State.onBus_queue]) | (rw [State.onPriv_queue]) | (rw [State.onRead_queue])
    | (rw [State.applyPending_queue]) | (rw [State.issue_queue]) | refine pair_queue (by assumption) ?_
    | refine tripR_queue (by assumption) ?_ | split | dsimp only | simp -implicitDefEqProofs [State.pending_eq]

@[simp] theorem State.handOver_queue (s : State) : (State.handOver s).queue = s.queue := by simp [State.handOver, State.pending_eq]
@[simp] theorem execTwinCmdSwitch_queue (r : Req) (s : State) : (next s (execTwinCmdSwitch r s)).queue = s.queue := by
  unfold execTwinCmdSwitch
  repeat' first
    | with_reducible rfl | intro _ | (rw [State.onBus_queue]) | (rw [State.onPriv_queue]) | (rw [State.onRead_queue])
    | (rw [State.applyPending_queue]) | (rw [State.issue_queue]) | split | dsimp only
    | simp -implicitDefEqProofs [State.pending_eq]

@[simp] theorem execTwinDualActive_queue (at_ : Nat) (s : State) : (next s (execTwinDualActive at_ s)).queue = s.queue := by
  unfold execTwinDualActive
  repeat' first
    | with_reducible rfl | intro _ | (rw [State.onBus_queue]) | (rw [State.onPriv_queue]) | (rw [State.onRead_queue])
    | (rw [State.applyPending_queue]) | (rw [State.issue_queue]) | split | dsimp only
    | simp -implicitDefEqProofs [State.pending_eq]

@[simp] theorem State.loopTest_queue (s : State) (ok : List Bool) : (State.loopTest s ok).queue = s.queue := by simp [State.loopTest, State.pending_eq]
@[simp] theorem execTwinCmdLoop_queue (r : Req) (ok : List Bool) (s : State) : (next s (execTwinCmdLoop r ok s)).queue = s.queue := by simp [execTwinCmdLoop, State.pending_eq]
@[simp] theorem execTwinLoopTest_queue (ok : List Bool) (s : State) : (next s (execTwinLoopTest ok s)).queue = s.queue := by simp [execTwinLoopTest, State.pending_eq]
@[simp] theorem execPrpFrameRx_queue (port : Nat) (source : Nat) (seq : Nat) (lanB : Bool) (sup : Bool) (s : State) : (next s (execPrpFrameRx port source seq lanB sup s)).queue = s.queue := by
  unfold execPrpFrameRx
  repeat' first
    | with_reducible rfl | intro _ | rw [State.when_queue] | (rw [State.onBus_queue]) | (rw [State.onPriv_queue])
    | (rw [State.onRead_queue]) | (rw [State.applyPending_queue]) | (rw [State.issue_queue])
    | refine pair_queue (by assumption) ?_ | refine tripR_queue (by assumption) ?_ | split | dsimp only
    | simp -implicitDefEqProofs [State.pending_eq]

@[simp] theorem execPrpSupSend_queue (s : State) : (next s (execPrpSupSend s)).queue = s.queue := by
  unfold execPrpSupSend
  repeat' first
    | with_reducible rfl | intro _ | (rw [State.onBus_queue]) | (rw [State.onPriv_queue]) | (rw [State.onRead_queue])
    | (rw [State.applyPending_queue]) | (rw [State.issue_queue]) | split | dsimp only
    | simp -implicitDefEqProofs [State.pending_eq]

@[simp] theorem execPrpSupTimeout_queue (port : Nat) (s : State) : (next s (execPrpSupTimeout port s)).queue = s.queue := by
  unfold execPrpSupTimeout
  repeat' first
    | with_reducible rfl | intro _ | (rw [State.onBus_queue]) | (rw [State.onPriv_queue]) | (rw [State.onRead_queue])
    | (rw [State.applyPending_queue]) | (rw [State.issue_queue]) | split | dsimp only
    | simp -implicitDefEqProofs [State.pending_eq]

@[simp] theorem State.bootPut_queue (s : State) (ps : List (Nat × List Nat)) : (State.bootPut s ps).queue = s.queue := by
  unfold State.bootPut
  repeat' first
    | with_reducible rfl | intro _ | (rw [State.calField_queue]) | (rw [State.onBus_queue]) | (rw [State.onPriv_queue])
    | (rw [State.onRead_queue]) | (rw [State.applyPending_queue]) | (rw [State.issue_queue])
    | refine pair_queue (by assumption) ?_ | refine tripR_queue (by assumption) ?_ | split | dsimp only
    | simp -implicitDefEqProofs [State.pending_eq]

@[simp] theorem State.triesShow_queue (s : State) : (State.triesShow s).queue = s.queue := by simp [State.triesShow, State.pending_eq]
@[simp] theorem State.calWrite_queue (s : State) (o : Nat) (l : List Nat) : (State.calWrite s o l).queue = s.queue := by simp [State.calWrite, State.pending_eq]
@[simp] theorem State.calStore_queue (s : State) (id : Nat) (l : List Nat) (factory : Bool) : (State.calStore s id l factory).queue = s.queue := by simp [State.calStore, State.pending_eq]
@[simp] theorem State.calVco_queue (s : State) (l : List Nat) : (State.calVco s l).queue = s.queue := by simp [State.calVco, State.pending_eq]
@[simp] theorem State.calTuner_queue (s : State) (regs : Bool) (l : List Nat) : (State.calTuner s regs l).queue = s.queue := by simp [State.calTuner, State.pending_eq]
@[simp] theorem State.calPower_queue (s : State) (l : List Nat) : (State.calPower s l).queue = s.queue := by simp [State.calPower, State.pending_eq]
@[simp] theorem State.calBoard_queue (s : State) (regs : Bool) (l : List Nat) : (State.calBoard s regs l).queue = s.queue := by simp [State.calBoard, State.pending_eq]
@[simp] theorem State.calField_queue (s : State) (id : Nat) (f : State → List Nat → State) (hf : ∀ u a, (f u a).queue = u.queue) : (State.calField s id f).queue = s.queue := by
  unfold State.calField
  repeat' first
    | with_reducible rfl | intro _ | (rw [State.onBus_queue]) | (rw [State.onPriv_queue]) | (rw [State.onRead_queue])
    | (rw [State.applyPending_queue]) | (rw [State.issue_queue]) | (rw [hf]) | refine pair_queue (by assumption) ?_
    | refine tripR_queue (by assumption) ?_ | split | dsimp only | simp -implicitDefEqProofs [State.pending_eq]

@[simp] theorem State.calLoad_queue (s : State) (regs : Bool) : (State.calLoad s regs).queue = s.queue := by simp [State.calLoad, State.pending_eq]
@[simp] theorem State.calMute_queue (s : State) : (State.calMute s).queue = s.queue := by simp [State.calMute, State.pending_eq]
@[simp] theorem execCalSaveTuner_queue (r : Req) (ports : Nat) (s : State) : (next s (execCalSaveTuner r ports s)).queue = s.queue := by
  unfold execCalSaveTuner
  repeat' first
    | with_reducible rfl | intro _ | (rw [State.calField_queue]) | (rw [State.onBus_queue]) | (rw [State.onPriv_queue])
    | (rw [State.onRead_queue]) | (rw [State.applyPending_queue]) | (rw [State.issue_queue]) | split | dsimp only
    | simp -implicitDefEqProofs [State.pending_eq]

@[simp] theorem execCalExport_queue (c : Cmd) (addr : Nat) (s : State) : (next s (execCalExport c addr s)).queue = s.queue := by simp [execCalExport, State.pending_eq]
@[simp] theorem execCalRestore_queue (c : Cmd) (addr : Nat) (mask : Nat) (foreign : Bool) (s : State) : (next s (execCalRestore c addr mask foreign s)).queue = s.queue := by
  unfold execCalRestore
  repeat' first
    | with_reducible rfl | intro _ | rw [State.each_queue] | (rw [State.calField_queue]) | (rw [State.onBus_queue])
    | (rw [State.onPriv_queue]) | (rw [State.onRead_queue]) | (rw [State.applyPending_queue]) | (rw [State.issue_queue])
    | refine pair_queue (by assumption) ?_ | refine tripR_queue (by assumption) ?_ | split | dsimp only
    | simp -implicitDefEqProofs [State.pending_eq]

@[simp] theorem execBootImageWrite_queue (c : Cmd) (addr : Nat) (len : Nat) (activate : Bool) (slot : Nat) (s : State) : (next s (execBootImageWrite c addr len activate slot s)).queue = s.queue := by
  unfold execBootImageWrite
  repeat' first
    | with_reducible rfl | intro _ | (rw [State.calField_queue]) | (rw [State.onBus_queue]) | (rw [State.onPriv_queue])
    | (rw [State.onRead_queue]) | (rw [State.applyPending_queue]) | (rw [State.issue_queue])
    | refine pair_queue (by assumption) ?_ | refine tripR_queue (by assumption) ?_ | split | dsimp only
    | simp -implicitDefEqProofs [State.pending_eq]

@[simp] theorem execBootFlashWriteDone_queue (s : State) : (next s (execBootFlashWriteDone s)).queue = s.queue := by
  unfold execBootFlashWriteDone
  repeat' first
    | with_reducible rfl | intro _ | (rw [State.calField_queue]) | (rw [State.onBus_queue]) | (rw [State.onPriv_queue])
    | (rw [State.onRead_queue]) | (rw [State.applyPending_queue]) | (rw [State.issue_queue])
    | refine pair_queue (by assumption) ?_ | refine tripR_queue (by assumption) ?_ | split | dsimp only
    | simp -implicitDefEqProofs [State.pending_eq]

@[simp] theorem execPowerOn_queue (s : State) : (next s (execPowerOn s)).queue = s.queue := by simp [execPowerOn, State.pending_eq]
@[simp] theorem execPorNLow_queue (ns : Nat) (take : Bool) (s : State) : (next s (execPorNLow ns take s)).queue = s.queue := by simp [execPorNLow, State.pending_eq]
@[simp] theorem execResetNLow_queue (ns : Nat) (take : Bool) (s : State) : (next s (execResetNLow ns take s)).queue = s.queue := by simp [execResetNLow, State.pending_eq]
@[simp] theorem execSupplyLow_queue (s : State) : (next s (execSupplyLow s)).queue = s.queue := by simp [execSupplyLow, State.pending_eq]
@[simp] theorem execThermalTrip_queue (s : State) : (next s (execThermalTrip s)).queue = s.queue := by simp [execThermalTrip, State.pending_eq]
@[simp] theorem execThermalHoldEnd_queue (s : State) : (next s (execThermalHoldEnd s)).queue = s.queue := by simp [execThermalHoldEnd, State.pending_eq]
@[simp] theorem execStewardWdogExpire_queue (s : State) : (next s (execStewardWdogExpire s)).queue = s.queue := by simp [execStewardWdogExpire, State.pending_eq]
@[simp] theorem execRstCmdSystem_queue (r : Req) (s : State) : (next s (execRstCmdSystem r s)).queue = s.queue := by simp [execRstCmdSystem, State.pending_eq]
@[simp] theorem execRstCmdCore_queue (r : Req) (s : State) : (next s (execRstCmdCore r s)).queue = s.queue := by simp [execRstCmdCore, State.pending_eq]
@[simp] theorem State.hold_queue (s : State) (cause : Nat) : (State.hold s cause).queue = s.queue := by simp [State.hold, State.pending_eq]
@[simp] theorem State.otpRead_queue (s : State) (l : List Nat) : (s.otpRead l).queue = s.queue := by
  unfold State.otpRead
  extract_lets ws s1 s2 s3 s4 s5 s6 s7
  clear_value ws
  have q1 : s1.queue = s.queue := by rw [State.each_queue]; intro u a; rw [State.fault_queue]
  have q2 : s2.queue = s.queue := by simp only [s2, State.put_queue, q1]
  have q3 : s3.queue = s.queue := by rw [State.when_queue, q2]; rw [State.set_queue]
  have q4 : s4.queue = s.queue := by simp only [s4, State.put_queue, q3]
  have q5 : s5.queue = s.queue := by rw [State.each_queue, q4]; intro u a; rw [State.put_queue]
  have q6 : s6.queue = s.queue := by simp only [s6, State.put_queue, q5]
  have q7 : s7.queue = s.queue := by simp only [s7, State.put_queue, q6]
  clear_value s7
  split
  · exact q7
  · rw [State.hold_queue, State.put_queue, q7]
@[simp] theorem State.mramZero_queue (s : State) : (State.mramZero s).queue = s.queue := by simp [State.mramZero, State.pending_eq]
@[simp] theorem State.bootOrder_queue (s : State) (sel : Nat) : ((State.bootOrder s sel).2).queue = s.queue := by
  unfold State.bootOrder
  repeat' first
    | with_reducible rfl | intro _ | (rw [State.calField_queue]) | (rw [State.onBus_queue]) | (rw [State.onPriv_queue])
    | (rw [State.onRead_queue]) | (rw [State.applyPending_queue]) | (rw [State.issue_queue])
    | refine pair_queue (by assumption) ?_ | refine tripR_queue (by assumption) ?_ | split | dsimp only
    | simp -implicitDefEqProofs [State.pending_eq]

@[simp] theorem State.rootGenerate_queue (s : State) (ok : Bool) : (State.rootGenerate s ok).queue = s.queue := by
  unfold State.rootGenerate
  repeat' first
    | with_reducible rfl | intro _ | (rw [State.calField_queue]) | (rw [State.onBus_queue]) | (rw [State.onPriv_queue])
    | (rw [State.onRead_queue]) | (rw [State.applyPending_queue]) | (rw [State.issue_queue])
    | refine pair_queue (by assumption) ?_ | refine tripR_queue (by assumption) ?_ | split | dsimp only
    | simp -implicitDefEqProofs [State.pending_eq]

@[simp] theorem State.keysStart_queue (s : State) : (State.keysStart s).queue = s.queue := by
  unfold State.keysStart
  repeat' first
    | with_reducible rfl | intro _ | rw [State.each_queue] | rw [State.when_queue] | (rw [State.calField_queue])
    | (rw [State.onBus_queue]) | (rw [State.onPriv_queue]) | (rw [State.onRead_queue]) | (rw [State.applyPending_queue])
    | (rw [State.issue_queue]) | split | dsimp only | simp -implicitDefEqProofs [State.pending_eq]

@[simp] theorem State.clockSeed_queue (s : State) : (State.clockSeed s).queue = s.queue := by simp [State.clockSeed, State.pending_eq]
@[simp] theorem State.profileWord_queue (s : State) (x : Nat × Nat) : (State.profileWord s x).queue = s.queue := by
  unfold State.profileWord
  repeat' first
    | with_reducible rfl | intro _ | rw [State.each_queue] | (rw [State.calField_queue]) | (rw [State.onBus_queue])
    | (rw [State.onPriv_queue]) | (rw [State.onRead_queue]) | (rw [State.applyPending_queue]) | (rw [State.issue_queue]) | split
    | dsimp only | simp -implicitDefEqProofs [State.pending_eq]

@[simp] theorem State.profileStart_queue (s : State) (ws : List (Nat × Nat)) : (State.profileStart s ws).queue = s.queue := by simp [State.profileStart, State.pending_eq]
@[simp] theorem State.runtimeStart_queue (s : State) : (State.runtimeStart s).queue = s.queue := by simp [State.runtimeStart, State.pending_eq]
@[simp] theorem State.dramStart_queue (s : State) (trained : Nat) : (State.dramStart s trained).queue = s.queue := by
  unfold State.dramStart
  repeat' first
    | with_reducible rfl | intro _ | rw [State.each_queue] | (rw [State.calField_queue]) | (rw [State.onBus_queue])
    | (rw [State.onPriv_queue]) | (rw [State.onRead_queue]) | (rw [State.applyPending_queue]) | (rw [State.issue_queue])
    | refine pair_queue (by assumption) ?_ | refine tripR_queue (by assumption) ?_ | split | dsimp only
    | simp -implicitDefEqProofs [State.pending_eq]

@[simp] theorem State.fifoPools_queue (s : State) : (State.fifoPools s).queue = s.queue := by simp [State.fifoPools, State.pending_eq]
@[simp] theorem State.radioStart_queue (s : State) : (State.radioStart s).queue = s.queue := by simp [State.radioStart, State.pending_eq]
@[simp] theorem State.linksStart_queue (s : State) (ls : List (Nat × Nat × Nat)) : (State.linksStart s ls).queue = s.queue := by
  unfold State.linksStart
  repeat' first
    | with_reducible rfl | intro _ | rw [State.each_queue] | (rw [State.calField_queue]) | (rw [State.onBus_queue])
    | (rw [State.onPriv_queue]) | (rw [State.onRead_queue]) | (rw [State.applyPending_queue]) | (rw [State.issue_queue])
    | refine pair_queue (by assumption) ?_ | refine tripR_queue (by assumption) ?_ | split | dsimp only
    | simp -implicitDefEqProofs [State.pending_eq]

@[simp] theorem State.tamperRecord_queue (s : State) (n : Nat) : (State.tamperRecord s n).queue = s.queue := by simp [State.tamperRecord, State.pending_eq]
@[simp] theorem State.ready_queue (s : State) : (State.ready s).queue = s.queue := by simp [State.ready, State.pending_eq]
@[simp] theorem State.imageNote_queue (s : State) (m : List Nat) : (State.imageNote s m).queue = s.queue := by simp [State.imageNote, State.pending_eq]
@[simp] theorem State.tablePlace_queue (s : State) : (State.tablePlace s).queue = s.queue := by simp [State.tablePlace, State.pending_eq]
@[simp] theorem State.bootRun_queue (s : State) (x : BootIn) (m : List Nat) : (State.bootRun s x m).queue = s.queue := by
  unfold State.bootRun
  repeat' first
    | with_reducible rfl | intro _ | rw [State.each_queue] | rw [State.when_queue] | (rw [State.calField_queue])
    | (rw [State.onBus_queue]) | (rw [State.onPriv_queue]) | (rw [State.onRead_queue]) | (rw [State.applyPending_queue])
    | (rw [State.issue_queue]) | refine pair_queue (by assumption) ?_ | refine tripR_queue (by assumption) ?_ | split
    | dsimp only | simp -implicitDefEqProofs [State.pending_eq]

@[simp] theorem State.bootRecovery_queue (s : State) (links : List (Nat × Nat × Nat)) : (State.bootRecovery s links).queue = s.queue := by simp [State.bootRecovery, State.pending_eq]
@[simp] theorem State.bootFlash_queue (s : State) (x : BootIn) : (State.bootFlash s x).queue = s.queue := by
  unfold State.bootFlash
  repeat' first
    | with_reducible rfl | intro _ | (rw [State.calField_queue]) | (rw [State.onBus_queue]) | (rw [State.onPriv_queue])
    | (rw [State.onRead_queue]) | (rw [State.applyPending_queue]) | (rw [State.issue_queue])
    | refine pair_queue (by assumption) ?_ | refine tripR_queue (by assumption) ?_ | split | dsimp only
    | simp -implicitDefEqProofs [State.pending_eq]

@[simp] theorem execResetRelease_queue (x : BootIn) (s : State) : (next s (execResetRelease x s)).queue = s.queue := by
  unfold execResetRelease
  split
  · rfl
  extract_lets power s1 q s2 s3 s4 s5
  have q1 : s1.queue = s.queue := by rw [State.when_queue]; rw [State.mramZero_queue]
  clear_value s1
  have q2 : s2.queue = s.queue := by rw [State.scpScan_queue, State.queue_mk, State.pending_eq, q1]
  clear_value s2
  have q3 : s3.queue = s.queue := by rw [State.record_queue, q2]
  clear_value s3
  have q4 : s4.queue = s.queue := by rw [State.put_queue, State.queue_mk, State.pending_eq, q3]
  clear_value s4
  have q5 : s5.queue = s.queue := by rw [State.otpRead_queue, State.set_queue, State.put_queue, q4]
  clear_value s5
  rw [next_next]
  split
  · exact q5
  · rw [State.bootFlash_queue, q5]
@[simp] theorem State.bootDraw_queue (s : State) : ((State.bootDraw s).2).queue = s.queue := by simp [State.bootDraw, State.pending_eq]
@[simp] theorem execRecovGo_queue (r : Req) (x : BootIn) (s : State) : (next s (execRecovGo r x s)).queue = s.queue := by
  unfold execRecovGo
  repeat' first
    | with_reducible rfl | intro _ | (rw [State.calField_queue]) | (rw [State.onBus_queue]) | (rw [State.onPriv_queue])
    | (rw [State.onRead_queue]) | (rw [State.applyPending_queue]) | (rw [State.issue_queue]) | split | dsimp only
    | simp -implicitDefEqProofs [State.pending_eq]

@[simp] theorem execBootConfirm_queue (r : Req) (s : State) : (next s (execBootConfirm r s)).queue = s.queue := by
  unfold execBootConfirm
  repeat' first
    | with_reducible rfl | intro _ | rw [State.when_queue] | (rw [State.calField_queue]) | (rw [State.onBus_queue])
    | (rw [State.onPriv_queue]) | (rw [State.onRead_queue]) | (rw [State.applyPending_queue]) | (rw [State.issue_queue])
    | refine pair_queue (by assumption) ?_ | refine tripR_queue (by assumption) ?_ | split | dsimp only
    | simp -implicitDefEqProofs [State.pending_eq]

@[simp] theorem State.forget_queue (s : State) (Fs : List Fld) : (State.forget s Fs).queue = s.queue := by simp [State.forget, State.pending_eq]
@[simp] theorem State.unitsShow_queue (s : State) : (State.unitsShow s).queue = s.queue := by simp [State.unitsShow, State.pending_eq]
@[simp] theorem State.unitsReturn_queue (s : State) (lanesOk : Nat) (aesOk : Nat) (decOk : Nat) (portsOk : Nat) : (State.unitsReturn s lanesOk aesOk decOk portsOk).queue = s.queue := by simp [State.unitsReturn, State.pending_eq]
@[simp] theorem State.lanesCore_queue (s : State) : (State.lanesCore s).queue = s.queue := by simp [State.lanesCore, State.pending_eq]
@[simp] theorem State.chainsCore_queue (s : State) : (State.chainsCore s).queue = s.queue := by simp [State.chainsCore, State.pending_eq]
@[simp] theorem State.trafficCore_queue (s : State) : (State.trafficCore s).queue = s.queue := by simp [State.trafficCore, State.pending_eq]
@[simp] theorem State.fwdCore_queue (s : State) : (State.fwdCore s).queue = s.queue := by simp [State.fwdCore, State.pending_eq]
@[simp] theorem State.enginesCore_queue (s : State) : (State.enginesCore s).queue = s.queue := by simp [State.enginesCore, State.pending_eq]
@[simp] theorem State.programCore_queue (s : State) (progOk : Nat) (h : Nat) : (State.programCore s progOk h).queue = s.queue := by
  unfold State.programCore
  repeat' first
    | with_reducible rfl | intro _ | rw [State.when_queue] | (rw [State.calField_queue]) | (rw [State.onBus_queue])
    | (rw [State.onPriv_queue]) | (rw [State.onRead_queue]) | (rw [State.applyPending_queue]) | (rw [State.issue_queue])
    | refine pair_queue (by assumption) ?_ | refine tripR_queue (by assumption) ?_ | split | dsimp only
    | simp -implicitDefEqProofs [State.pending_eq]

@[simp] theorem State.hostCore_queue (s : State) (frames : Nat → Nat) (events : Nat → Nat) : (State.hostCore s frames events).queue = s.queue := by simp [State.hostCore, State.pending_eq]
@[simp] theorem State.backlogCore_queue (s : State) : (State.backlogCore s).queue = s.queue := by simp [State.backlogCore, State.pending_eq]
@[simp] theorem State.programsHalt_queue (s : State) (progOk : Nat) : (State.programsHalt s progOk).queue = s.queue := by simp [State.programsHalt, State.pending_eq]
@[simp] theorem State.coreReset_queue (s : State) (progOk : Nat) (lanesOk : Nat) (aesOk : Nat) (decOk : Nat) (portsOk : Nat) : (State.coreReset s progOk lanesOk aesOk decOk portsOk).queue = s.queue := by simp [State.coreReset, State.pending_eq]
@[simp] theorem execCoreReset_queue (stewardOk : Bool) (runtimeOk : Bool) (progOk : Nat) (lanesOk : Nat) (aesOk : Nat) (decOk : Nat) (portsOk : Nat) (s : State) : (next s (execCoreReset stewardOk runtimeOk progOk lanesOk aesOk decOk portsOk s)).queue = s.queue := by
  unfold execCoreReset
  repeat' first
    | with_reducible rfl | intro _ | (rw [State.calField_queue]) | (rw [State.onBus_queue]) | (rw [State.onPriv_queue])
    | (rw [State.onRead_queue]) | (rw [State.applyPending_queue]) | (rw [State.issue_queue]) | split | dsimp only
    | simp -implicitDefEqProofs [State.pending_eq]

@[simp] theorem State.calPut_queue (s : State) (l : List Nat) : (State.calPut s l).queue = s.queue := by simp [State.calPut, State.pending_eq]
@[simp] theorem State.trigNext_queue (s : State) (n : Nat) (t : Option Nat) : (State.trigNext s n t).queue = s.queue := by
  unfold State.trigNext
  repeat' first
    | with_reducible rfl | intro _ | (rw [State.calField_queue]) | (rw [State.onBus_queue]) | (rw [State.onPriv_queue])
    | (rw [State.onRead_queue]) | (rw [State.applyPending_queue]) | (rw [State.issue_queue])
    | refine pair_queue (by assumption) ?_ | refine tripR_queue (by assumption) ?_ | split | dsimp only
    | simp -implicitDefEqProofs [State.pending_eq]

@[simp] theorem State.trigFire_queue (s : State) (n : Nat) : (State.trigFire s n).queue = s.queue := by simp [State.trigFire, State.pending_eq]
@[simp] theorem State.trigSkip_queue (s : State) (n u k : Nat) : (s.trigSkip n u k).queue = s.queue := by
  induction k generalizing s with
  | zero =>
    unfold State.trigSkip
    dsimp only
    split <;> simp
  | succ k ih =>
    unfold State.trigSkip
    repeat' first
      | (rw [ih])
      | with_reducible rfl | intro _ | rw [State.each_queue] | rw [State.when_queue] | rw [foldl_queue] | rw [foldlL_queue]
      | rw [foldlR_queue] | rw [getD_queue] | refine pair_queue (by assumption) ?_ | refine pairL_queue (by assumption) ?_
      | refine tripR_queue (by assumption) ?_ | refine tripM_queue (by assumption) ?_ | refine quadR_queue (by assumption) ?_
      | split | (rw [State.calField_queue]) | (rw [State.onBus_queue]) | (rw [State.onPriv_queue]) | (rw [State.onRead_queue])
      | (rw [State.applyPending_queue]) | (rw [State.issue_queue]) | exact State.moveShort_queue _ _ _ _ _ (by assumption)
      | exact State.offerRoute_queue _ _ _ _ _ _ _ _ _ (by assumption)
      | exact State.learnRoutes_queue _ _ _ _ _ _ _ (by assumption) | dsimp only | simp -implicitDefEqProofs [State.pending_eq]

@[simp] theorem execCalTrigSet_queue (c : Cmd) (n : Nat) (rep : Nat) (due : List Nat) (s : State) : (next s (execCalTrigSet c n rep due s)).queue = s.queue := by
  unfold execCalTrigSet
  repeat' first
    | with_reducible rfl | intro _ | rw [getD_queue] | (rw [State.calField_queue]) | (rw [State.onBus_queue])
    | (rw [State.onPriv_queue]) | (rw [State.onRead_queue]) | (rw [State.applyPending_queue]) | (rw [State.issue_queue]) | split
    | dsimp only | simp -implicitDefEqProofs [State.pending_eq]

@[simp] theorem execCalTrigClr_queue (c : Cmd) (n : Nat) (s : State) : (next s (execCalTrigClr c n s)).queue = s.queue := by
  unfold execCalTrigClr
  repeat' first
    | with_reducible rfl | intro _ | rw [State.each_queue] | (rw [State.calField_queue]) | (rw [State.onBus_queue])
    | (rw [State.onPriv_queue]) | (rw [State.onRead_queue]) | (rw [State.applyPending_queue]) | (rw [State.issue_queue]) | split
    | dsimp only | simp -implicitDefEqProofs [State.pending_eq]

@[simp] theorem execTriggerEventPost_queue (n : Nat) (s : State) : (next s (execTriggerEventPost n s)).queue = s.queue := by
  unfold execTriggerEventPost
  repeat' first
    | with_reducible rfl | intro _ | (rw [State.calField_queue]) | (rw [State.onBus_queue]) | (rw [State.onPriv_queue])
    | (rw [State.onRead_queue]) | (rw [State.applyPending_queue]) | (rw [State.issue_queue])
    | refine pair_queue (by assumption) ?_ | refine tripR_queue (by assumption) ?_ | split | dsimp only
    | simp -implicitDefEqProofs [State.pending_eq]

@[simp] theorem State.missedEvent_queue (s : State) (h : Nat) (total : Nat) (from_ : Nat) (ns : List Nat) : (State.missedEvent s h total from_ ns).queue = s.queue := by simp [State.missedEvent, State.pending_eq]
@[simp] theorem execMissedTriggersPost_queue (h : Nat) (s : State) : (next s (execMissedTriggersPost h s)).queue = s.queue := by
  unfold execMissedTriggersPost
  repeat' first
    | with_reducible rfl | intro _ | rw [State.each_queue] | rw [State.when_queue] | (rw [State.calField_queue])
    | (rw [State.onBus_queue]) | (rw [State.onPriv_queue]) | (rw [State.onRead_queue]) | (rw [State.applyPending_queue])
    | (rw [State.issue_queue]) | split | dsimp only | simp -implicitDefEqProofs [State.pending_eq]

@[simp] theorem State.pwron_queue (s : State) (v : Nat) : (State.pwron s v).queue = s.queue := by simp [State.pwron, State.pending_eq]
@[simp] theorem execRtcSecond_queue (s : State) : (next s (execRtcSecond s)).queue = s.queue := by
  unfold execRtcSecond
  repeat' first
    | with_reducible rfl | intro _ | rw [State.each_queue] | rw [State.when_queue] | (rw [State.calField_queue])
    | (rw [State.onBus_queue]) | (rw [State.onPriv_queue]) | (rw [State.onRead_queue]) | (rw [State.applyPending_queue])
    | (rw [State.issue_queue]) | split | dsimp only | simp -implicitDefEqProofs [State.pending_eq]

@[simp] theorem execOscStopDetect_queue (s : State) : (next s (execOscStopDetect s)).queue = s.queue := by simp [execOscStopDetect, State.pending_eq]
@[simp] theorem execRtcTimeRead_queue (r : Req) (k : Nat) (s : State) : (next s (execRtcTimeRead r k s)).queue = s.queue := by
  unfold execRtcTimeRead
  repeat' first
    | with_reducible rfl | intro _ | rw [State.each_queue] | rw [State.when_queue] | rw [getD_queue]
    | (rw [State.calField_queue]) | (rw [State.onBus_queue]) | (rw [State.onPriv_queue]) | (rw [State.onRead_queue])
    | (rw [State.applyPending_queue]) | (rw [State.issue_queue]) | split | dsimp only
    | simp -implicitDefEqProofs [State.pending_eq]

@[simp] theorem execRtcThawTimeout_queue (r : Req) (s : State) : (next s (execRtcThawTimeout r s)).queue = s.queue := by simp [execRtcThawTimeout, State.pending_eq]
@[simp] theorem State.calSet_queue (s : State) : (State.calSet s).queue = s.queue := by
  unfold State.calSet
  repeat' first
    | with_reducible rfl | intro _ | rw [State.each_queue] | (rw [State.calField_queue]) | (rw [State.onBus_queue])
    | (rw [State.onPriv_queue]) | (rw [State.onRead_queue]) | (rw [State.applyPending_queue]) | (rw [State.issue_queue]) | split
    | dsimp only | simp -implicitDefEqProofs [State.pending_eq]

@[simp] theorem State.calHalt_queue (s : State) : (State.calHalt s).queue = s.queue := by simp [State.calHalt, State.pending_eq]
@[simp] theorem execRtcHaltWrite_queue (r : Req) (v : Nat) (s : State) : (next s (execRtcHaltWrite r v s)).queue = s.queue := by
  unfold execRtcHaltWrite
  repeat' first
    | with_reducible rfl | intro _ | (rw [State.calField_queue]) | (rw [State.onBus_queue]) | (rw [State.onPriv_queue])
    | (rw [State.onRead_queue]) | (rw [State.applyPending_queue]) | (rw [State.issue_queue]) | split | dsimp only
    | simp -implicitDefEqProofs [State.pending_eq]

@[simp] theorem execRtcTimeWrite_queue (r : Req) (k : Nat) (v : Nat) (s : State) : (next s (execRtcTimeWrite r k v s)).queue = s.queue := by
  unfold execRtcTimeWrite
  repeat' first
    | with_reducible rfl | intro _ | (rw [State.calField_queue]) | (rw [State.onBus_queue]) | (rw [State.onPriv_queue])
    | (rw [State.onRead_queue]) | (rw [State.applyPending_queue]) | (rw [State.issue_queue])
    | refine pair_queue (by assumption) ?_ | refine tripR_queue (by assumption) ?_ | split | dsimp only
    | simp -implicitDefEqProofs [State.pending_eq]

@[simp] theorem execRtcAutoSet_queue (s : State) : (next s (execRtcAutoSet s)).queue = s.queue := by
  unfold execRtcAutoSet
  repeat' first
    | with_reducible rfl | intro _ | (rw [State.calField_queue]) | (rw [State.onBus_queue]) | (rw [State.onPriv_queue])
    | (rw [State.onRead_queue]) | (rw [State.applyPending_queue]) | (rw [State.issue_queue])
    | refine pair_queue (by assumption) ?_ | refine tripR_queue (by assumption) ?_ | split | dsimp only
    | simp -implicitDefEqProofs [State.pending_eq]

@[simp] theorem execPwronLevelWrite_queue (r : Req) (v : Nat) (s : State) : (next s (execPwronLevelWrite r v s)).queue = s.queue := by simp [execPwronLevelWrite, State.pending_eq]
@[simp] theorem execBackupReset_queue (s : State) : (next s (execBackupReset s)).queue = s.queue := by simp [execBackupReset, State.pending_eq]
@[simp] theorem execBackupSupplySwitch_queue (vbat : Bool) (s : State) : (next s (execBackupSupplySwitch vbat s)).queue = s.queue := by simp [execBackupSupplySwitch, State.pending_eq]
@[simp] theorem execVbatLowDetect_queue (low : Bool) (s : State) : (next s (execVbatLowDetect low s)).queue = s.queue := by simp [execVbatLowDetect, State.pending_eq]
@[simp] theorem execRefclkLoss_queue (s : State) : (next s (execRefclkLoss s)).queue = s.queue := by simp [execRefclkLoss, State.pending_eq]
@[simp] theorem execPllUnlock_queue (s : State) : (next s (execPllUnlock s)).queue = s.queue := by simp [execPllUnlock, State.pending_eq]
@[simp] theorem execRefclkRestored_queue (s : State) : (next s (execRefclkRestored s)).queue = s.queue := by simp [execRefclkRestored, State.pending_eq]
@[simp] theorem execClockDupMismatch_queue (s : State) : (next s (execClockDupMismatch s)).queue = s.queue := by simp [execClockDupMismatch, State.pending_eq]
@[simp] theorem execStewardLockstepMismatch_queue (s : State) : (next s (execStewardLockstepMismatch s)).queue = s.queue := by simp [execStewardLockstepMismatch, State.pending_eq]
@[simp] theorem State.channelLost_queue (s : State) (c : Nat) (a : Nat) (count : Nat) (detail : Nat) (injected : Bool) : (State.channelLost s c a count detail injected).queue = s.queue := by simp [State.channelLost, State.pending_eq]
@[simp] theorem State.noteErr_queue (s : State) (c : Nat) : (State.noteErr s c).queue = s.queue := by simp [State.noteErr, State.pending_eq]
@[simp] theorem State.dramBad_queue (s : State) (a : Nat) (blocks : Nat) : (State.dramBad s a blocks).queue = s.queue := by
  unfold State.dramBad
  repeat' first
    | with_reducible rfl | intro _ | rw [State.each_queue] | (rw [State.calField_queue]) | (rw [State.onBus_queue])
    | (rw [State.onPriv_queue]) | (rw [State.onRead_queue]) | (rw [State.applyPending_queue]) | (rw [State.issue_queue])
    | refine pair_queue (by assumption) ?_ | refine tripR_queue (by assumption) ?_ | split | dsimp only
    | simp -implicitDefEqProofs [State.pending_eq]

@[simp] theorem State.sramBad_queue (s : State) (off : Nat) : (s.sramBad off).queue = s.queue := by
  unfold State.sramBad
  extract_lets size fifo
  clear_value size fifo
  split <;> simp
@[simp] theorem State.eccFixed_queue (s : State) (x : EccAt) : (State.eccFixed s x).queue = s.queue := by
  unfold State.eccFixed
  repeat' first
    | with_reducible rfl | intro _ | (rw [State.calField_queue]) | (rw [State.onBus_queue]) | (rw [State.onPriv_queue])
    | (rw [State.onRead_queue]) | (rw [State.applyPending_queue]) | (rw [State.issue_queue])
    | refine pair_queue (by assumption) ?_ | refine tripR_queue (by assumption) ?_ | split | dsimp only
    | simp -implicitDefEqProofs [State.pending_eq]

@[simp] theorem execMemoryEccError_queue (at_ : EccAt) (corrected : Bool) (s : State) : (next s (execMemoryEccError at_ corrected s)).queue = s.queue := by
  unfold execMemoryEccError
  repeat' first
    | with_reducible rfl | intro _ | (rw [State.calField_queue]) | (rw [State.onBus_queue]) | (rw [State.onPriv_queue])
    | (rw [State.onRead_queue]) | (rw [State.applyPending_queue]) | (rw [State.issue_queue])
    | refine pair_queue (by assumption) ?_ | refine tripR_queue (by assumption) ?_ | split | dsimp only
    | simp -implicitDefEqProofs [State.pending_eq]

@[simp] theorem execSramScrub_queue (errs : List (Nat × Bool)) (s : State) : (next s (execSramScrub errs s)).queue = s.queue := by simp [execSramScrub, State.pending_eq]
@[simp] theorem execDramScrub_queue (k : Nat) (errs : List (Nat × Bool)) (s : State) : (next s (execDramScrub k errs s)).queue = s.queue := by
  unfold execDramScrub
  repeat' first
    | with_reducible rfl | intro _ | rw [State.each_queue] | (rw [State.calField_queue]) | (rw [State.onBus_queue])
    | (rw [State.onPriv_queue]) | (rw [State.onRead_queue]) | (rw [State.applyPending_queue]) | (rw [State.issue_queue]) | split
    | dsimp only | simp -implicitDefEqProofs [State.pending_eq]

@[simp] theorem execDramProbe_queue (ok0 : Bool) (ok1 : Bool) (s : State) : (next s (execDramProbe ok0 ok1 s)).queue = s.queue := by
  unfold execDramProbe
  repeat' first
    | with_reducible rfl | intro _ | rw [State.each_queue] | (rw [State.calField_queue]) | (rw [State.onBus_queue])
    | (rw [State.onPriv_queue]) | (rw [State.onRead_queue]) | (rw [State.applyPending_queue]) | (rw [State.issue_queue])
    | refine pair_queue (by assumption) ?_ | refine tripR_queue (by assumption) ?_ | split | dsimp only
    | simp -implicitDefEqProofs [State.pending_eq]

@[simp] theorem execEngineBist_queue (e : Nat) (ok : Bool) (s : State) : (next s (execEngineBist e ok s)).queue = s.queue := by simp [execEngineBist, State.pending_eq]
@[simp] theorem State.portLeaves_queue (s : State) (p : Nat) : (State.portLeaves s p).queue = s.queue := by simp [State.portLeaves, State.pending_eq]
@[simp] theorem State.laneLeaves_queue (s : State) (l : Nat) : (State.laneLeaves s l).queue = s.queue := by simp [State.laneLeaves, State.pending_eq]
@[simp] theorem execAdcSubconvCheck_queue (p : Nat) (ok : Bool) (s : State) : (next s (execAdcSubconvCheck p ok s)).queue = s.queue := by simp [execAdcSubconvCheck, State.pending_eq]
@[simp] theorem execRxSynthLockLost_queue (n : Nat) (s : State) : (next s (execRxSynthLockLost n s)).queue = s.queue := by
  unfold execRxSynthLockLost
  repeat' first
    | with_reducible rfl | intro _ | rw [State.when_queue] | (rw [State.calField_queue]) | (rw [State.onBus_queue])
    | (rw [State.onPriv_queue]) | (rw [State.onRead_queue]) | (rw [State.applyPending_queue]) | (rw [State.issue_queue]) | split
    | dsimp only | simp -implicitDefEqProofs [State.pending_eq]

@[simp] theorem execLaneCheckerSlot_queue (l : Nat) (ok : Bool) (s : State) : (next s (execLaneCheckerSlot l ok s)).queue = s.queue := by simp [execLaneCheckerSlot, State.pending_eq]
@[simp] theorem execLdpcKnownTest_queue (k : Nat) (iters : Nat) (ok : Bool) (s : State) : (next s (execLdpcKnownTest k iters ok s)).queue = s.queue := by simp [execLdpcKnownTest, State.pending_eq]
@[simp] theorem State.aesLeaves_queue (s : State) (core : Nat) : (State.aesLeaves s core).queue = s.queue := by simp [State.aesLeaves, State.pending_eq]
@[simp] theorem execCryptoKat_queue (kind : CoreKind) (core : Nat) (ok : Bool) (last : Bool) (s : State) : (next s (execCryptoKat kind core ok last s)).queue = s.queue := by
  unfold execCryptoKat
  repeat' first
    | with_reducible rfl | intro _ | (rw [State.calField_queue]) | (rw [State.onBus_queue]) | (rw [State.onPriv_queue])
    | (rw [State.onRead_queue]) | (rw [State.applyPending_queue]) | (rw [State.issue_queue])
    | refine pair_queue (by assumption) ?_ | refine tripR_queue (by assumption) ?_ | split | dsimp only
    | simp -implicitDefEqProofs [State.pending_eq]

@[simp] theorem State.injectUnit_queue (s : State) (c u : Nat) : (s.injectUnit c u).queue = s.queue := by
  unfold State.injectUnit
  refine ite_q _ _ _ _ (fun _ => ?_) (fun _ => ?_)
  · exact ite_q _ _ _ _ (fun _ => rfl) (fun _ => State.freeEntry_queue ..)
  refine ite_q _ _ _ _ (fun _ => by simp) (fun _ => ?_)
  refine ite_q _ _ _ _ (fun _ => State.portLeaves_queue ..) (fun _ => ?_)
  refine ite_q _ _ _ _ (fun _ => State.portLeaves_queue ..) (fun _ => ?_)
  refine ite_q _ _ _ _ (fun _ => State.laneLeaves_queue ..) (fun _ => ?_)
  refine ite_q _ _ _ _ (fun _ => State.decFault_queue ..) (fun _ => ?_)
  refine ite_q _ _ _ _ (fun _ => State.aesLeaves_queue ..) (fun _ => ?_)
  refine ite_q _ _ _ _ (fun _ => by simp) (fun _ => ?_)
  refine ite_q _ _ _ _ (fun _ => by simp) (fun _ => ?_)
  refine ite_q _ _ _ _ (fun _ => by simp) (fun _ => ?_)
  exact ite_q _ _ _ _ (fun _ => State.muteSet_queue ..) (fun _ => rfl)
@[simp] theorem execFaultInject_queue (r : Req) (s : State) : (next s (execFaultInject r s)).queue = s.queue := by
  unfold execFaultInject
  repeat' first
    | with_reducible rfl | intro _ | (rw [State.calField_queue]) | (rw [State.onBus_queue]) | (rw [State.onPriv_queue])
    | (rw [State.onRead_queue]) | (rw [State.applyPending_queue]) | (rw [State.issue_queue])
    | refine pair_queue (by assumption) ?_ | refine tripR_queue (by assumption) ?_ | split | dsimp only
    | simp -implicitDefEqProofs [State.pending_eq]

@[simp] theorem execTamperSample_queue (n : Nat) (high : Bool) (s : State) : (next s (execTamperSample n high s)).queue = s.queue := by
  unfold execTamperSample
  repeat' first
    | with_reducible rfl | intro _ | (rw [State.calField_queue]) | (rw [State.onBus_queue]) | (rw [State.onPriv_queue])
    | (rw [State.onRead_queue]) | (rw [State.applyPending_queue]) | (rw [State.issue_queue]) | split | dsimp only
    | simp -implicitDefEqProofs [State.pending_eq]

@[simp] theorem State.dieSample_queue (s : State) : (State.dieSample s).queue = s.queue := by simp [State.dieSample, State.pending_eq]
@[simp] theorem State.freshen_queue (s : State) (off : Nat) : (s.freshen off).queue = s.queue := by
  unfold State.freshen
  extract_lets at_ drawn
  have hd (F : Fld) : (drawn F).queue = s.queue := by
    simp only [drawn]
    rw [State.put_queue, State.draw_queue]
  have hn := execNscNowNsRead_queue .steward s
  clear_value drawn at_
  split
  · split
    · rename_i h; rw [h] at hn; exact hn
    · rfl
  repeat' split
  all_goals first
    | exact hd _
    | (rename_i h; rw [State.put_queue, pair_queue h (State.draw_queue _)]; done)
    | (simp [State.pending_eq]; done)
@[simp] theorem State.readWord_queue (s : State) (r : Req) (off : Nat) : (State.readWord s r off).queue = s.queue := by
  unfold State.readWord
  repeat' first
    | with_reducible rfl | intro _ | rw [State.each_queue] | (rw [State.calField_queue]) | (rw [State.onBus_queue])
    | (rw [State.onPriv_queue]) | (rw [State.onRead_queue]) | (rw [State.applyPending_queue]) | (rw [State.issue_queue])
    | refine pair_queue (by assumption) ?_ | refine tripR_queue (by assumption) ?_ | split | dsimp only
    | simp -implicitDefEqProofs [State.pending_eq]

@[simp] theorem State.busRead_queue (s : State) (r : Req) (off : Nat) (len : Nat) : (State.busRead s r off len).queue = s.queue := by
  unfold State.busRead
  repeat' first
    | with_reducible rfl | intro _ | (rw [State.calField_queue]) | (rw [State.onBus_queue]) | (rw [State.onPriv_queue])
    | (rw [State.onRead_queue]) | (rw [State.applyPending_queue]) | (rw [State.issue_queue])
    | refine pair_queue (by assumption) ?_ | refine tripR_queue (by assumption) ?_ | split | dsimp only
    | simp -implicitDefEqProofs [State.pending_eq]

@[simp] theorem State.takeFld_queue (s : State) (r : Req) (F : Fld) (n : Nat) (x : Nat) : (State.takeFld s r F n x).queue = s.queue := by
  unfold State.takeFld
  repeat' first
    | with_reducible rfl | intro _ | (rw [State.calField_queue]) | (rw [State.onBus_queue]) | (rw [State.onPriv_queue])
    | (rw [State.onRead_queue]) | (rw [State.applyPending_queue]) | (rw [State.issue_queue])
    | refine pair_queue (by assumption) ?_ | refine tripR_queue (by assumption) ?_ | split | dsimp only
    | simp -implicitDefEqProofs [State.pending_eq]

@[simp] theorem State.writeFld_queue (s : State) (r : Req) (locked : Bool) (F : Fld) (n : Nat) (x : Nat) : (State.writeFld s r locked F n x).queue = s.queue := by
  unfold State.writeFld
  repeat' first
    | with_reducible rfl | intro _ | (rw [State.calField_queue]) | (rw [State.onBus_queue]) | (rw [State.onPriv_queue])
    | (rw [State.onRead_queue]) | (rw [State.applyPending_queue]) | (rw [State.issue_queue])
    | refine pair_queue (by assumption) ?_ | refine tripR_queue (by assumption) ?_ | split | dsimp only
    | simp -implicitDefEqProofs [State.pending_eq]

@[simp] theorem State.plainWrite_queue (s : State) (r : Req) (off : Nat) (v : Nat) : (State.plainWrite s r off v).queue = s.queue := by simp [State.plainWrite, State.pending_eq]
@[simp] theorem State.ownWrite_queue (s : State) (i : Nat) (v : Nat) : (State.ownWrite s i v).queue = s.queue := by simp [State.ownWrite, State.pending_eq]
theorem State.timeWord_queue (s : State) (r : Req) (off v : Nat) : ∀ t, s.timeWord r off v = some t → t.queue = s.queue := by
  show QO s (s.timeWord r off v)
  unfold State.timeWord
  repeat' first
    | exact QO.none _
    | refine QO.ite ?_ ?_
    | refine QO.some ?_
    | with_reducible rfl
    | (simp [State.pending_eq]; done)
    | (with_reducible intro _)
    | rw [State.when_queue]
    | rw [State.srcReview_queue]
    | (refine pair_queue (by assumption) ?_)
    | split
    | dsimp only
theorem State.rxWord_queue (s : State) (r : Req) (off v : Nat) : ∀ t, s.rxWord r off v = some t → t.queue = s.queue := by
  show QO s (s.rxWord r off v)
  unfold State.rxWord
  repeat' first
    | exact QO.none _
    | refine QO.ite ?_ ?_
    | refine QO.some ?_
    | with_reducible rfl
    | (simp [State.pending_eq]; done)
    | (with_reducible intro _)
    | rw [State.when_queue]
    | rw [State.srcReview_queue]
    | (refine pair_queue (by assumption) ?_)
    | split
    | dsimp only
theorem State.txWord_queue (s : State) (r : Req) (off v : Nat) : ∀ t, s.txWord r off v = some t → t.queue = s.queue := by
  show QO s (s.txWord r off v)
  unfold State.txWord
  repeat' first
    | exact QO.none _
    | refine QO.ite ?_ ?_
    | refine QO.some ?_
    | with_reducible rfl
    | (simp [State.pending_eq]; done)
    | (with_reducible intro _)
    | rw [State.when_queue]
    | rw [State.srcReview_queue]
    | (refine pair_queue (by assumption) ?_)
    | split
    | dsimp only
theorem State.trafficWord_queue (s : State) (r : Req) (off : Nat) (v : Nat) : ∀ t, (State.trafficWord s r off v) = some t → t.queue = s.queue := by
  intro t ht
  unfold State.trafficWord at ht
  dsimp only at ht
  repeat' split at ht
  all_goals first
    | cases ht
    | (injection ht with ht; subst ht)
    | (obtain ⟨u, hu, rfl⟩ := Option.map_eq_some_iff.1 ht)
  repeat' first
    | with_reducible rfl | intro _ | rw [State.when_queue] | (rw [State.calField_queue]) | (rw [State.onBus_queue])
    | (rw [State.onPriv_queue]) | (rw [State.onRead_queue]) | (rw [State.applyPending_queue]) | (rw [State.issue_queue]) | split
    | dsimp only | simp -implicitDefEqProofs [State.pending_eq]

@[simp] theorem State.ringWord_queue (s : State) (r : Req) (i : Nat) (k : Nat) (o : Nat) (off : Nat) (v : Nat) : (State.ringWord s r i k o off v).queue = s.queue := by
  unfold State.ringWord
  repeat' first
    | with_reducible rfl | intro _ | (rw [State.calField_queue]) | (rw [State.onBus_queue]) | (rw [State.onPriv_queue])
    | (rw [State.onRead_queue]) | (rw [State.applyPending_queue]) | (rw [State.issue_queue])
    | refine pair_queue (by assumption) ?_ | refine tripR_queue (by assumption) ?_ | split | dsimp only
    | simp -implicitDefEqProofs [State.pending_eq]

theorem State.hostWord_queue (s : State) (r : Req) (off : Nat) (v : Nat) : ∀ t, (State.hostWord s r off v) = some t → t.queue = s.queue := by
  intro t ht
  unfold State.hostWord at ht
  dsimp only at ht
  repeat' split at ht
  all_goals first
    | cases ht
    | (injection ht with ht; subst ht)
    | (obtain ⟨u, hu, rfl⟩ := Option.map_eq_some_iff.1 ht)
  repeat' first
    | with_reducible rfl | intro _ | rw [State.when_queue] | (rw [State.calField_queue]) | (rw [State.onBus_queue])
    | (rw [State.onPriv_queue]) | (rw [State.onRead_queue]) | (rw [State.applyPending_queue]) | (rw [State.issue_queue])
    | refine pair_queue (by assumption) ?_ | refine tripR_queue (by assumption) ?_ | split | dsimp only
    | simp -implicitDefEqProofs [State.pending_eq]

theorem State.systemWord_queue (s : State) (r : Req) (off v : Nat) : ∀ t, s.systemWord r off v = some t → t.queue = s.queue := by
  show QO s (s.systemWord r off v)
  unfold State.systemWord
  repeat' first
    | exact QO.none _
    | refine QO.ite ?_ ?_
    | refine QO.some ?_
    | with_reducible rfl
    | (simp [State.pending_eq]; done)
    | (with_reducible intro _)
    | rw [State.when_queue]
    | rw [State.srcReview_queue]
    | (refine pair_queue (by assumption) ?_)
    | split
    | dsimp only
@[simp] theorem State.writeWord_queue (s : State) (r : Req) (off v : Nat) : (s.writeWord r off v).queue = s.queue := by
  unfold State.writeWord
  extract_lets w own
  have q : QO s own := by
    refine QO.ite (State.timeWord_queue _ _ _ _) (QO.ite (State.rxWord_queue _ _ _ _) (QO.ite (State.txWord_queue _ _ _ _) (QO.ite (State.trafficWord_queue _ _ _ _)
      (QO.ite (QO.ite (QO.none _) (QO.some rfl)) (QO.ite (State.hostWord_queue _ _ _ _) (State.systemWord_queue _ _ _ _))))))
  clear_value own
  cases own with
  | none => simp
  | some t => exact q t rfl
@[simp] theorem State.busWrite_queue (s : State) (r : Req) (off : Nat) (len : Nat) (v : Nat) : (State.busWrite s r off len v).queue = s.queue := by
  unfold State.busWrite
  repeat' first
    | with_reducible rfl | intro _ | (rw [State.calField_queue]) | (rw [State.onBus_queue]) | (rw [State.onPriv_queue])
    | (rw [State.onRead_queue]) | (rw [State.applyPending_queue]) | (rw [State.issue_queue])
    | refine pair_queue (by assumption) ?_ | refine tripR_queue (by assumption) ?_ | split | dsimp only
    | simp -implicitDefEqProofs [State.pending_eq]

@[simp] theorem execRegWrite_queue (r : Req) (off : Nat) (len : Nat) (v : Nat) (s : State) : (next s (execRegWrite r off len v s)).queue = s.queue := by simp [execRegWrite, State.pending_eq]
@[simp] theorem execReg64LowRead_queue (r : Req) (off : Nat) (s : State) : (next s (execReg64LowRead r off s)).queue = s.queue := by simp [execReg64LowRead, State.pending_eq]
@[simp] theorem execRcFieldRead_queue (r : Req) (off : Nat) (s : State) : (next s (execRcFieldRead r off s)).queue = s.queue := by simp [execRcFieldRead, State.pending_eq]
@[simp] theorem execRegisterRead_queue (r : Req) (off : Nat) (len : Nat) (s : State) : (next s (execRegisterRead r off len s)).queue = s.queue := by simp [execRegisterRead, State.pending_eq]
@[simp] theorem execExpertGWrite_queue (r : Req) (v : Nat) (s : State) : (next s (execExpertGWrite r v s)).queue = s.queue := by simp [execExpertGWrite, State.pending_eq]
@[simp] theorem execExpertHWrite_queue (r : Req) (h : Nat) (v : Nat) (s : State) : (next s (execExpertHWrite r h v s)).queue = s.queue := by simp [execExpertHWrite, State.pending_eq]
@[simp] theorem State.reloadWord_queue (s : State) (rec_ : List ((Nat × Nat) × Nat)) (fs : List (Fld × (Nat → Bool))) (off : Nat) : (State.reloadWord s rec_ fs off).queue = s.queue := by simp [State.reloadWord, State.pending_eq]
@[simp] theorem execExpertTakeEffect_queue (i : Nat) (s : State) : (next s (execExpertTakeEffect i s)).queue = s.queue := by
  unfold execExpertTakeEffect
  repeat' first
    | with_reducible rfl | intro _ | rw [State.each_queue] | (rw [State.calField_queue]) | (rw [State.onBus_queue])
    | (rw [State.onPriv_queue]) | (rw [State.onRead_queue]) | (rw [State.applyPending_queue]) | (rw [State.issue_queue])
    | refine pair_queue (by assumption) ?_ | refine tripR_queue (by assumption) ?_ | split | dsimp only
    | simp -implicitDefEqProofs [State.pending_eq]

@[simp] theorem State.reload_queue (s : State) (b : Nat) : (State.reload s b).queue = s.queue := by
  unfold State.reload
  repeat' first
    | with_reducible rfl | intro _ | rw [State.each_queue] | (rw [State.calField_queue]) | (rw [State.onBus_queue])
    | (rw [State.onPriv_queue]) | (rw [State.onRead_queue]) | (rw [State.applyPending_queue]) | (rw [State.issue_queue])
    | refine pair_queue (by assumption) ?_ | refine tripR_queue (by assumption) ?_ | split | dsimp only
    | simp -implicitDefEqProofs [State.pending_eq]

@[simp] theorem execExpertReload_queue (i : Nat) (s : State) : (next s (execExpertReload i s)).queue = s.queue := by
  unfold execExpertReload
  repeat' first
    | with_reducible rfl | intro _ | rw [State.each_queue] | (rw [State.calField_queue]) | (rw [State.onBus_queue])
    | (rw [State.onPriv_queue]) | (rw [State.onRead_queue]) | (rw [State.applyPending_queue]) | (rw [State.issue_queue])
    | refine pair_queue (by assumption) ?_ | refine tripR_queue (by assumption) ?_ | split | dsimp only
    | simp -implicitDefEqProofs [State.pending_eq]

@[simp] theorem State.load_queue (s : State) (g : Nat) (ea : Nat) (n : Nat) (f : State → Nat → State) (hf : ∀ u a, (f u a).queue = u.queue) : (State.load s g ea n f).queue = s.queue := by
  unfold State.load
  repeat' first
    | with_reducible rfl | intro _ | (rw [State.calField_queue]) | (rw [State.onBus_queue]) | (rw [State.onPriv_queue])
    | (rw [State.onRead_queue]) | (rw [State.applyPending_queue]) | (rw [State.issue_queue]) | (rw [State.atomic_queue])
    | (rw [hf]) | refine pair_queue (by assumption) ?_ | refine tripR_queue (by assumption) ?_ | split | dsimp only
    | simp -implicitDefEqProofs [State.pending_eq]

@[simp] theorem State.store_queue (s : State) (g : Nat) (ea : Nat) (n : Nat) (v : Nat) : (State.store s g ea n v).queue = s.queue := by
  unfold State.store
  repeat' first
    | with_reducible rfl | intro _ | (rw [State.calField_queue]) | (rw [State.onBus_queue]) | (rw [State.onPriv_queue])
    | (rw [State.onRead_queue]) | (rw [State.applyPending_queue]) | (rw [State.issue_queue]) | (rw [State.load_queue])
    | (rw [State.atomic_queue]) | refine pair_queue (by assumption) ?_ | refine tripR_queue (by assumption) ?_ | split
    | dsimp only | simp -implicitDefEqProofs [State.pending_eq]

@[simp] theorem execLdb_queue (g : Nat) (rd : BitVec 5) (ra : BitVec 5) (imm : BitVec 16) (s : State) : (next s (execLdb g rd ra imm s)).queue = s.queue := by simp [execLdb, State.pending_eq]
@[simp] theorem execLdbu_queue (g : Nat) (rd : BitVec 5) (ra : BitVec 5) (imm : BitVec 16) (s : State) : (next s (execLdbu g rd ra imm s)).queue = s.queue := by simp [execLdbu, State.pending_eq]
@[simp] theorem execLdh_queue (g : Nat) (rd : BitVec 5) (ra : BitVec 5) (imm : BitVec 16) (s : State) : (next s (execLdh g rd ra imm s)).queue = s.queue := by simp [execLdh, State.pending_eq]
@[simp] theorem execLdhu_queue (g : Nat) (rd : BitVec 5) (ra : BitVec 5) (imm : BitVec 16) (s : State) : (next s (execLdhu g rd ra imm s)).queue = s.queue := by simp [execLdhu, State.pending_eq]
@[simp] theorem execLdw_queue (g : Nat) (rd : BitVec 5) (ra : BitVec 5) (imm : BitVec 14) (s : State) : (next s (execLdw g rd ra imm s)).queue = s.queue := by simp [execLdw, State.pending_eq]
@[simp] theorem execLdp_queue (g : Nat) (rd : BitVec 5) (ra : BitVec 5) (imm : BitVec 14) (s : State) : (next s (execLdp g rd ra imm s)).queue = s.queue := by simp [execLdp, State.pending_eq]
@[simp] theorem execStb_queue (g : Nat) (rd : BitVec 5) (ra : BitVec 5) (imm : BitVec 16) (s : State) : (next s (execStb g rd ra imm s)).queue = s.queue := by simp [execStb, State.pending_eq]
@[simp] theorem execSth_queue (g : Nat) (rd : BitVec 5) (ra : BitVec 5) (imm : BitVec 16) (s : State) : (next s (execSth g rd ra imm s)).queue = s.queue := by simp [execSth, State.pending_eq]
@[simp] theorem execStw_queue (g : Nat) (rd : BitVec 5) (ra : BitVec 5) (imm : BitVec 14) (s : State) : (next s (execStw g rd ra imm s)).queue = s.queue := by simp [execStw, State.pending_eq]
@[simp] theorem execStp_queue (g : Nat) (rd : BitVec 5) (ra : BitVec 5) (imm : BitVec 14) (s : State) : (next s (execStp g rd ra imm s)).queue = s.queue := by simp [execStp, State.pending_eq]
@[simp] theorem State.atomic_queue (s : State) (g : Nat) (rd : BitVec 5) (ra : BitVec 5) (rb : BitVec 5) (sz : BitVec 2) (op : Nat) (f : State → Nat → Option Nat × Option Bool) : (State.atomic s g rd ra rb sz op f).queue = s.queue := by
  unfold State.atomic
  repeat' first
    | with_reducible rfl | intro _ | (rw [State.calField_queue]) | (rw [State.onBus_queue]) | (rw [State.onPriv_queue])
    | (rw [State.onRead_queue]) | (rw [State.applyPending_queue]) | (rw [State.issue_queue]) | (rw [State.load_queue])
    | (rw [hf]) | refine pair_queue (by assumption) ?_ | refine tripR_queue (by assumption) ?_ | split | dsimp only
    | simp -implicitDefEqProofs [State.pending_eq]

@[simp] theorem execAadd_queue (g : Nat) (rd : BitVec 5) (ra : BitVec 5) (rb : BitVec 5) (sz : BitVec 2) (s : State) : (next s (execAadd g rd ra rb sz s)).queue = s.queue := by simp [execAadd, State.pending_eq]
@[simp] theorem execAswp_queue (g : Nat) (rd : BitVec 5) (ra : BitVec 5) (rb : BitVec 5) (sz : BitVec 2) (s : State) : (next s (execAswp g rd ra rb sz s)).queue = s.queue := by simp [execAswp, State.pending_eq]
@[simp] theorem execAcas_queue (g : Nat) (rd : BitVec 5) (ra : BitVec 5) (rb : BitVec 5) (sz : BitVec 2) (s : State) : (next s (execAcas g rd ra rb sz s)).queue = s.queue := by simp [execAcas, State.pending_eq]
end Sys2Proof.Machine
end

