-- ==== Sys2Proof/Laws/Canonical.lean ====
section
/-! SUPPORT. Every operation of the model keeps the memories in their canonical form: one lemma per
operation and per command. -/

namespace Sys2Proof.Machine
open Sys2Proof
set_option linter.all false

/-- The memories of s are in their canonical form. -/
def State.canon (s : State) : Prop := s.mem.ok = true
theorem State.canon_mk (x0 : List ((Nat × Nat) × Nat)) (x1 : Memories) (x2 : List Nat) (x3 : List Nat) (x4 : List SRec) (x5 : List ResetStamp) (x6 :
    List Started) (x7 : List (Nat × Nat × Nat)) (x8 : List TunCmd) (x9 : List (Cmd × Nat)) (x10 : List (Nat × Nat)) (x11 : List
    CplWait) (x12 : List EvWait) (x13 : List RxFrame) (x14 : List TunMsg) (x15 : List TxReq) (x16 : List TxRes) (x17 : List
    GateRec) (x18 : List OnAir) (x19 : List Quiet) (x20 : List LedgerSlot) (x21 : List LedgerSlot) (x22 : List CapEntry) (x23 :
    List SyncRec) (x24 : List (Nat × Nat)) (x25 : List Wire) (x26 : List Down) (x27 : List Down) (x28 : List IdxSlot) (x29 : List
    Nat) (x30 : List DelWait) (x31 : List InsWait) (x32 : List (Nat × List Nat)) (x33 : List (Nat × Nat × Nat)) (x34 : List (Nat
    × Option Nat × Nat)) (x35 : List Down) (x36 : List (Nat × Nat × Nat × Nat)) (x37 : List (Nat × Nat × Nat)) (x38 : List
    EnergyMap) (x39 : List Blanking) (x40 : List LaneFrame) (x41 : List CodeWord) (x42 : List Heard) (x43 : List LaneIn) (x44 :
    List KeyTag) (x45 : List Split) (x46 : List Down) (x47 : List ObsWait) (x48 : List CryOp) (x49 : List (Nat × List Nat)) (x50
    : List (Nat × List Nat)) (x51 : List (Nat × Nat)) (x52 : List (Nat × List Nat)) (x53 : List (Nat × Nat)) (x54 : List (Nat ×
    Nat × Nat × Nat)) (x55 : List (Nat × Nat × Nat)) (x56 : List (Nat × Nat × Nat)) (x57 : List (Nat × List ((Nat × Nat) × Nat)))
    (p : List Instr) :
    State.canon ⟨x0, x1, x2, x3, x4, x5, x6, x7, x8, x9, x10, x11, x12, x13, x14, x15, x16, x17, x18, x19, x20, x21, x22, x23, x24, x25, x26,
      x27, x28, x29, x30, x31, x32, x33, x34, x35, x36, x37, x38, x39, x40, x41, x42, x43, x44, x45, x46, x47, x48, x49, x50, x51,
      x52, x53, x54, x55, x56, x57, p⟩ ↔ x1.ok = true := by
  constructor <;> intro h <;> exact h
theorem State.mem_ok {s : State} (h : s.canon) : s.mem.ok = true := h
theorem Memories.ok_mk (m0 m1 m2 m3 m4 m5 m6 m7 : List Host.Cell) : Memories.ok ⟨m0, m1, m2, m3, m4, m5, m6, m7⟩ = true ↔
    memWf m0 = true ∧ memWf m1 = true ∧ memWf m2 = true ∧ memWf m3 = true ∧ memWf m4 = true ∧ memWf m5 = true ∧ memWf m6 = true
    ∧ memWf m7 = true := by simp [Memories.ok, and_assoc]
theorem State.sram_wf {s : State} (h : s.canon) : memWf s.mem.sram = true := by
  simp only [State.canon, Memories.ok, Bool.and_eq_true] at h; simp [h]
theorem State.localMem_wf {s : State} (h : s.canon) : memWf s.mem.localMem = true := by
  simp only [State.canon, Memories.ok, Bool.and_eq_true] at h; simp [h]
theorem State.sharedMem_wf {s : State} (h : s.canon) : memWf s.mem.sharedMem = true := by
  simp only [State.canon, Memories.ok, Bool.and_eq_true] at h; simp [h]
theorem State.instrMem_wf {s : State} (h : s.canon) : memWf s.mem.instrMem = true := by
  simp only [State.canon, Memories.ok, Bool.and_eq_true] at h; simp [h]
theorem State.dram_wf {s : State} (h : s.canon) : memWf s.mem.dram = true := by
  simp only [State.canon, Memories.ok, Bool.and_eq_true] at h; simp [h]
theorem State.mram_wf {s : State} (h : s.canon) : memWf s.mem.mram = true := by
  simp only [State.canon, Memories.ok, Bool.and_eq_true] at h; simp [h]
theorem State.host_wf {s : State} (h : s.canon) : memWf s.mem.host = true := by
  simp only [State.canon, Memories.ok, Bool.and_eq_true] at h; simp [h]
theorem State.flash_wf {s : State} (h : s.canon) : memWf s.mem.flash = true := by
  simp only [State.canon, Memories.ok, Bool.and_eq_true] at h; simp [h]
theorem next_canon {s t : State} (h : t.canon) : (next s (.next t)).canon := h
theorem State.put_canon {s : State} (F : Fld) (n v : Nat) (h : s.canon) : (s.put F n v).canon := h
theorem State.set_canon {s : State} (F : Fld) (n : Nat) (h : s.canon) : (s.set F n).canon := h
theorem State.clr_canon {s : State} (F : Fld) (n : Nat) (h : s.canon) : (s.clr F n).canon := h
theorem State.unput_canon {s : State} (F : Fld) (n : Nat) (h : s.canon) : (s.unput F n).canon := h
theorem State.bump_canon {s : State} (F : Fld) (n k : Nat) (h : s.canon) : (s.bump F n k).canon := h
theorem State.bumpSat_canon {s : State} (F : Fld) (n k : Nat) (h : s.canon) : (s.bumpSat F n k).canon := h
theorem State.drop_canon {s : State} (F : Fld) (n k : Nat) (h : s.canon) : (s.drop F n k).canon := h
theorem State.putI_canon {s : State} (F : Fld) (n : Nat) (i : Int) (h : s.canon) : (s.putI F n i).canon := h
theorem State.putIf_canon {s : State} (c : Bool) (F : Fld) (n v : Nat) (h : s.canon) : (s.putIf c F n v).canon := by
  cases c <;> exact h
theorem State.draw_canon {s : State} (h : s.canon) : s.draw.2.canon := h
theorem State.when_canon {s : State} (c : Bool) (f : State → State) (h : s.canon) (hf : ∀ t, t.canon → (f t).canon) :
    (s.when c f).canon := by
  cases c
  · exact h
  · exact hf s h
theorem State.each_canon {α : Type} {s : State} (l : List α) (f : State → α → State) (h : s.canon) (hf : ∀ u a, u.canon → (f u a).canon) :
    (s.each l f).canon := by
  unfold State.each
  induction l generalizing s with
  | nil => exact h
  | cons a t ih => rw [List.foldl_cons]; exact ih (hf s a h)
theorem pair_canon {α : Type} {p : α × State} {a : α} {t : State} (h : p = (a, t)) (hp : p.2.canon) : t.canon := by
  rw [h] at hp; exact hp
theorem pairL_canon {α : Type} {p : State × α} {a : α} {t : State} (h : p = (t, a)) (hp : p.1.canon) : t.canon := by
  rw [h] at hp; exact hp
theorem tripR_canon {α β : Type} {p : α × β × State} {a : α} {b : β} {t : State} (h : p = (a, b, t)) (hp : p.2.2.canon) : t.canon := by
  rw [h] at hp; exact hp
theorem tripM_canon {α β : Type} {p : α × State × β} {a : α} {b : β} {t : State} (h : p = (a, t, b)) (hp : p.2.1.canon) : t.canon := by
  rw [h] at hp; exact hp
theorem quadR_canon {α β γ : Type} {p : α × β × γ × State} {a : α} {b : β} {c : γ} {t : State} (h : p = (a, b, c, t)) (hp : p.2.2.2.canon) :
    t.canon := by rw [h] at hp; exact hp
theorem foldl_canon {α : Type} (l : List α) {s : State} (f : State → α → State) (h : s.canon) (hf : ∀ u a, u.canon → (f u a).canon) :
    (l.foldl f s).canon := by
  induction l generalizing s with
  | nil => exact h
  | cons a t ih => rw [List.foldl_cons]; exact ih (hf s a h)
theorem foldlL_canon {α β : Type} (l : List α) {s : State × β} (f : State × β → α → State × β) (h : s.1.canon)
    (hf : ∀ u a, u.1.canon → (f u a).1.canon) : (l.foldl f s).1.canon := by
  induction l generalizing s with
  | nil => exact h
  | cons a t ih => rw [List.foldl_cons]; exact ih (hf s a h)
theorem foldlR_canon {α β : Type} (l : List α) {s : β × State} (f : β × State → α → β × State) (h : s.2.canon)
    (hf : ∀ u a, u.2.canon → (f u a).2.canon) : (l.foldl f s).2.canon := by
  induction l generalizing s with
  | nil => exact h
  | cons a t ih => rw [List.foldl_cons]; exact ih (hf s a h)
theorem getD_canon (o : Option State) {s : State} (hs : s.canon) (h : ∀ t, o = some t → t.canon) : (o.getD s).canon := by
  cases o with
  | none => exact hs
  | some t => exact h t rfl
/-- Whatever state o holds has canonical memories. -/
def QC (o : Option State) : Prop := ∀ t, o = some t → t.canon
theorem QC.none : QC none := nofun
theorem QC.some {t : State} (h : t.canon) : QC (some t) := by intro u hu; cases hu; exact h
theorem QC.ite {c : Prop} [Decidable c] {a b : Option State} (ha : QC a) (hb : QC b) : QC (if c then a else b) := by
  split <;> assumption
theorem memWf_nil : memWf [] = true := rfl
theorem memFold_wf {α : Type} (l : List α) (f : List Host.Cell → α → List Host.Cell) {m : List Host.Cell} (h : memWf m = true)
    (hf : ∀ u a, memWf u = true → memWf (f u a) = true) : memWf (l.foldl f m) = true := by
  induction l generalizing m with
  | nil => exact h
  | cons a t ih => rw [List.foldl_cons]; exact ih (hf m a h)
theorem ite_c (c : Prop) [Decidable c] {s t : State} (hs : c → s.canon) (ht : ¬c → t.canon) : (if c then s else t).canon := by
  split
  · exact hs ‹_›
  · exact ht ‹_›
theorem State.sram_canon {s : State} (m : List Host.Cell) (h : s.canon) (hm : memWf m = true) : State.canon { s with mem.sram := m } := by
  simp only [State.canon, Memories.ok, Bool.and_eq_true] at *
  simp [h, hm]
theorem State.localMem_canon {s : State} (m : List Host.Cell) (h : s.canon) (hm : memWf m = true) : State.canon { s with mem.localMem := m } := by
  simp only [State.canon, Memories.ok, Bool.and_eq_true] at *
  simp [h, hm]
theorem State.sharedMem_canon {s : State} (m : List Host.Cell) (h : s.canon) (hm : memWf m = true) : State.canon { s with mem.sharedMem := m } := by
  simp only [State.canon, Memories.ok, Bool.and_eq_true] at *
  simp [h, hm]
theorem State.instrMem_canon {s : State} (m : List Host.Cell) (h : s.canon) (hm : memWf m = true) : State.canon { s with mem.instrMem := m } := by
  simp only [State.canon, Memories.ok, Bool.and_eq_true] at *
  simp [h, hm]
theorem State.dram_canon {s : State} (m : List Host.Cell) (h : s.canon) (hm : memWf m = true) : State.canon { s with mem.dram := m } := by
  simp only [State.canon, Memories.ok, Bool.and_eq_true] at *
  simp [h, hm]
theorem State.mram_canon {s : State} (m : List Host.Cell) (h : s.canon) (hm : memWf m = true) : State.canon { s with mem.mram := m } := by
  simp only [State.canon, Memories.ok, Bool.and_eq_true] at *
  simp [h, hm]
theorem State.host_canon {s : State} (m : List Host.Cell) (h : s.canon) (hm : memWf m = true) : State.canon { s with mem.host := m } := by
  simp only [State.canon, Memories.ok, Bool.and_eq_true] at *
  simp [h, hm]
theorem State.flash_canon {s : State} (m : List Host.Cell) (h : s.canon) (hm : memWf m = true) : State.canon { s with mem.flash := m } := by
  simp only [State.canon, Memories.ok, Bool.and_eq_true] at *
  simp [h, hm]
theorem State.scpRefill_canon (s : State) (hc : s.canon) : (State.scpRefill s).canon := by
  unfold State.scpRefill
  repeat' first
    | intro _
    | with_reducible first
        | assumption | exact memWf_nil | apply State.put_canon
    | dsimp only
    | split

theorem State.scpQueue_canon (s : State) (r : SRec) (hc : s.canon) : (State.scpQueue s r).canon := by
  unfold State.scpQueue
  repeat' first
    | intro _
    | with_reducible first
        | assumption | exact memWf_nil | apply State.put_canon | apply State.set_canon | apply State.bump_canon
        | apply State.drop_canon | apply State.take_canon | apply State.mem_ok | apply ite_c
    | dsimp only
    | split
    | simp only [State.canon_mk]

theorem State.scpRaise_canon (s : State) (r : SRec) (hc : s.canon) : (State.scpRaise s r).canon := by
  unfold State.scpRaise
  repeat' first
    | intro _
    | with_reducible first
        | assumption | exact memWf_nil | apply State.bump_canon | apply State.drop_canon | apply State.putIf_canon
        | apply State.scpRefill_canon | apply State.scpQueue_canon | apply ite_c
    | dsimp only
    | split

theorem State.record_canon (s : State) (kind : Nat) (code : Nat) (unit : Nat) (action : Nat) (hedge : Option Nat) (addr : Nat) (count : Nat) (detail : List (Nat × List Nat)) (injected : Bool) (hc : s.canon) : (State.record s kind code unit action hedge addr count detail injected).canon := by
  unfold State.record
  repeat' first
    | intro _
    | with_reducible first
        | assumption | exact memWf_nil | apply State.scpRaise_canon | apply State.mem_ok
    | dsimp only
    | simp only [State.canon_mk]

theorem State.hostWrite_canon (s : State) (i : Nat) (a : Nat) (l : List Nat) (hc : s.canon) : (State.hostWrite s i a l).canon := by
  unfold State.hostWrite
  repeat' first
    | intro _
    | with_reducible first
        | assumption | exact memWf_nil | apply State.mem_ok | apply And.intro | apply memFold_wf | apply memWriteL_wf
        | apply memWrite_wf | apply memZero_wf | apply memFilter_wf | apply State.sram_wf | apply State.localMem_wf
        | apply State.sharedMem_wf | apply State.instrMem_wf | apply State.dram_wf | apply State.mram_wf | apply State.host_wf
        | apply State.flash_wf
    | dsimp only
    | simp only [State.canon_mk]
    | simp only [Memories.ok_mk]

theorem State.irq_canon (s : State) (i : Nat) (v : Nat) (now : Bool) (hc : s.canon) : (State.irq s i v now).canon := by
  unfold State.irq
  repeat' first
    | intro _
    | with_reducible first
        | assumption | exact memWf_nil | apply State.clr_canon | apply State.bump_canon | apply State.putIf_canon | apply ite_c
    | dsimp only
    | split

theorem State.shadow_canon (s : State) (i : Nat) (r : Nat) (v : Nat) (hc : s.canon) : (State.shadow s i r v).canon := by
  unfold State.shadow
  repeat' first
    | intro _
    | with_reducible first
        | assumption | exact memWf_nil | apply State.hostWrite_canon | apply ite_c
    | dsimp only
    | split

theorem State.ringWrite_canon (s : State) (i : Nat) (r : Nat) (octets : List Nat) (now : Bool) (hc : s.canon) : (State.ringWrite s i r octets now).canon := by
  unfold State.ringWrite
  repeat' first
    | intro _
    | with_reducible first
        | assumption | exact memWf_nil | apply State.put_canon | apply State.hostWrite_canon | apply State.irq_canon
        | apply State.shadow_canon | apply getD_canon | apply ite_c
    | refine pair_canon (by assumption) ?_
    | refine tripR_canon (by assumption) ?_
    | dsimp only
    | split

theorem State.hwIn_canon (s : State) (f : Nat) (hc : s.canon) : ((State.hwIn s f).2).canon := by
  unfold State.hwIn
  repeat' first
    | intro _
    | with_reducible first
        | assumption | exact memWf_nil | apply State.put_canon | apply State.set_canon | apply State.bump_canon | apply ite_c
    | refine pair_canon (by assumption) ?_
    | refine tripR_canon (by assumption) ?_
    | dsimp only
    | split

theorem State.hwOut_canon (s : State) (f : Nat) (k : Nat) (hc : s.canon) : (State.hwOut s f k).canon := by
  unfold State.hwOut
  repeat' first
    | intro _
    | with_reducible first
        | assumption | exact memWf_nil | apply State.drop_canon
    | dsimp only

theorem State.fifoPush_canon (s : State) (f : Nat) (octets : List Nat) (hc : s.canon) : (State.fifoPush s f octets).canon := by
  unfold State.fifoPush
  refine ite_c _ (fun _ => hc) (fun _ => ?_)
  refine State.put_canon _ _ _ (State.put_canon _ _ _ (State.put_canon _ _ _ ?_))
  exact State.sram_canon _ hc (memWriteL_wf _ _ (State.sram_wf hc))
theorem State.fifoPop_canon (s : State) (f : Nat) (hc : s.canon) : (State.fifoPop s f).canon := by
  unfold State.fifoPop
  repeat' first
    | intro _
    | with_reducible first
        | assumption | exact memWf_nil | apply State.bump_canon | apply State.drop_canon
    | dsimp only

theorem State.tunWire_canon (s : State) (h : Nat) (l : List Nat) (hc : s.canon) : (State.tunWire s h l).canon := by
  unfold State.tunWire
  repeat' first
    | intro _
    | with_reducible first
        | assumption | exact memWf_nil | apply State.bump_canon | apply State.draw_canon | apply State.mem_ok | apply ite_c
    | refine pair_canon (by assumption) ?_
    | refine tripR_canon (by assumption) ?_
    | dsimp only
    | split
    | simp only [State.canon_mk]

theorem State.tunEmit_canon (s : State) (h : Nat) (kind : Nat) (seq : Nat) (entries : List Nat) (data : List Nat) (hc : s.canon) : (State.tunEmit s h kind seq entries data).canon := by
  unfold State.tunEmit
  repeat' first
    | intro _
    | with_reducible first
        | assumption | exact memWf_nil | apply State.put_canon | apply State.when_canon | apply State.tunWire_canon | apply ite_c
    | dsimp only
    | split

theorem State.tunSend_canon (s : State) (h : Nat) (kind : Nat) (entries : List Nat) (data : List Nat) (hc : s.canon) : (State.tunSend s h kind entries data).canon := by
  unfold State.tunSend
  repeat' first
    | intro _
    | with_reducible first
        | assumption | exact memWf_nil | apply State.put_canon | apply State.tunEmit_canon | apply State.mem_ok
    | refine pair_canon (by assumption) ?_
    | refine tripR_canon (by assumption) ?_
    | dsimp only
    | split
    | simp only [State.canon_mk]

theorem State.unstart_canon (s : State) (c : Cmd) (hc : s.canon) : (State.unstart s c).canon := by
  unfold State.unstart
  repeat' first
    | intro _
    | with_reducible first
        | assumption | exact memWf_nil | apply State.drop_canon | apply State.when_canon | apply State.mem_ok
    | refine pair_canon (by assumption) ?_
    | refine tripR_canon (by assumption) ?_
    | dsimp only
    | split
    | simp only [State.canon_mk]

theorem State.restart_canon (s : State) (c : Cmd) (f : Started → Started) (hc : s.canon) : (State.restart s c f).canon := by
  unfold State.restart
  repeat' first
    | intro _
    | with_reducible first
        | assumption | exact memWf_nil | apply State.mem_ok | apply ite_c
    | refine pair_canon (by assumption) ?_
    | refine tripR_canon (by assumption) ?_
    | dsimp only
    | split
    | simp only [State.canon_mk]

theorem State.served_canon (s : State) (c : Cmd) (hc : s.canon) : (State.served s c).canon := by
  unfold State.served
  repeat' first
    | intro _
    | with_reducible first
        | assumption | exact memWf_nil | apply State.clr_canon | apply State.drop_canon | apply State.mem_ok | apply ite_c
    | refine pair_canon (by assumption) ?_
    | refine tripR_canon (by assumption) ?_
    | dsimp only
    | split
    | simp only [State.canon_mk]

theorem State.toProg_canon (s : State) (h : Nat) (octets : List Nat) (hc : s.canon) : (State.toProg s h octets).canon := by
  unfold State.toProg
  repeat' first
    | intro _
    | with_reducible first
        | assumption | exact memWf_nil | apply State.put_canon | apply State.each_canon | apply State.fifoPush_canon
    | dsimp only
    | split

theorem State.cplOut_canon (s : State) (x : CplWait) (hc : s.canon) : (State.cplOut s x).canon := by
  unfold State.cplOut
  repeat' first
    | intro _
    | with_reducible first
        | assumption | exact memWf_nil | apply State.when_canon | apply State.hostWrite_canon | apply State.ringWrite_canon
        | apply State.tunSend_canon | apply State.unstart_canon | apply State.restart_canon | apply State.toProg_canon
        | apply State.sent_canon | apply getD_canon | apply State.mem_ok | apply ite_c
    | dsimp only
    | split
    | simp only [State.canon_mk]

theorem State.cplPost_canon (s : State) (x : CplWait) (hc : s.canon) : (State.cplPost s x).canon := by
  unfold State.cplPost
  repeat' first
    | intro _
    | with_reducible first
        | assumption | exact memWf_nil | apply State.cplOut_canon | apply State.mem_ok | apply ite_c
    | dsimp only
    | split
    | simp only [State.canon_mk]

theorem State.cplDrain_canon (s : State) (ring : Nat) (hc : s.canon) : (State.cplDrain s ring).canon := by
  unfold State.cplDrain
  repeat' first
    | intro _
    | with_reducible first
        | assumption | exact memWf_nil | apply State.each_canon | apply State.cplOut_canon | apply State.mem_ok | apply ite_c
    | dsimp only
    | split
    | simp only [State.canon_mk]

theorem State.complete_canon (s : State) (c : Cmd) (opcode : Nat) (status : Nat) (flags : Nat) (retry : Nat) (result : List (Nat × List Nat)) (trump : Bool) (addr : Nat) (data : List Nat) (hc : s.canon) : (State.complete s c opcode status flags retry result trump addr data).canon := by
  unfold State.complete
  repeat' first
    | intro _
    | with_reducible first
        | assumption | exact memWf_nil | apply State.put_canon | apply State.set_canon | apply State.unstart_canon
        | apply State.served_canon | apply State.cplPost_canon | apply State.retry_canon | apply State.mem_ok | apply ite_c
    | refine pair_canon (by assumption) ?_
    | refine tripR_canon (by assumption) ?_
    | dsimp only
    | split
    | simp only [State.canon_mk]

theorem State.finish_canon (s : State) (c : Cmd) (opcode : Nat) (status : Nat) (hc : s.canon) : (State.finish s c opcode status).canon := by
  unfold State.finish
  repeat' first
    | intro _
    | with_reducible first
        | assumption | exact memWf_nil | apply State.complete_canon
    | dsimp only

theorem State.accepted_canon (s : State) (c : Cmd) (opcode : Nat) (hc : s.canon) : (State.accepted s c opcode).canon := by
  unfold State.accepted
  repeat' first
    | intro _
    | with_reducible first
        | assumption | exact memWf_nil | apply State.finish_canon | apply ite_c
    | dsimp only
    | split

theorem State.answer_canon (s : State) (c : Cmd) (opcode : Nat) (addr : Nat) (l : List Nat) (result : List (Nat × List Nat)) (hc : s.canon) : (State.answer s c opcode addr l result).canon := by
  unfold State.answer
  repeat' first
    | intro _
    | with_reducible first
        | assumption | exact memWf_nil | apply State.complete_canon | apply State.finish_canon | apply ite_c
    | dsimp only
    | split

theorem State.calTold_canon (s : State) (l : List Nat) (hc : s.canon) : (State.calTold s l).canon := by
  unfold State.calTold
  repeat' first
    | intro _
    | with_reducible first
        | assumption | exact memWf_nil | apply State.clr_canon | apply State.each_canon | apply ite_c
    | dsimp only
    | split

theorem State.calAgain_canon (s : State) (h : Nat) (hc : s.canon) : (State.calAgain s h).canon := by
  unfold State.calAgain
  repeat' first
    | intro _
    | with_reducible first
        | assumption | exact memWf_nil | apply State.clr_canon | apply State.each_canon | apply ite_c
    | dsimp only
    | split

theorem State.evOut_canon (s : State) (e : EvWait) (hc : s.canon) : (State.evOut s e).canon := by
  unfold State.evOut
  repeat' first
    | intro _
    | with_reducible first
        | assumption | exact memWf_nil | apply State.ringWrite_canon | apply State.tunSend_canon | apply State.calTold_canon
        | apply ite_c
    | dsimp only
    | split

theorem State.event_canon (s : State) (h : Nat) (code : Nat) (body : List (Nat × List Nat)) (hc : s.canon) : (State.event s h code body).canon := by
  unfold State.event
  repeat' first
    | intro _
    | with_reducible first
        | assumption | exact memWf_nil | apply State.bump_canon | apply State.evOut_canon | apply State.mem_ok | apply ite_c
    | dsimp only
    | split
    | simp only [State.canon_mk]

theorem State.twinSend_canon (s : State) (m : TwinMsg) (hc : s.canon) : (State.twinSend s m).canon := by
  unfold State.twinSend
  repeat' first
    | intro _
    | with_reducible first
        | assumption | exact memWf_nil | apply State.mem_ok | apply ite_c
    | dsimp only
    | split
    | simp only [State.canon_mk]

theorem State.roleTold_canon (s : State) (cause : Nat) (hc : s.canon) : (State.roleTold s cause).canon := by
  unfold State.roleTold
  repeat' first
    | intro _
    | with_reducible first
        | assumption | exact memWf_nil | apply State.each_canon | apply State.event_canon
    | refine pair_canon (by assumption) ?_
    | refine tripR_canon (by assumption) ?_
    | dsimp only

theorem State.twinDemote_canon (s : State) (later : Bool) (hc : s.canon) : (State.twinDemote s later).canon := by
  unfold State.twinDemote
  repeat' first
    | intro _
    | with_reducible first
        | assumption | exact memWf_nil | apply State.put_canon | apply State.clr_canon | apply State.twinSend_canon
        | apply State.roleTold_canon | apply ite_c
    | dsimp only
    | split

theorem State.rxShow_canon (s : State) (h : Nat) (hc : s.canon) : (State.rxShow s h).canon := by
  unfold State.rxShow
  repeat' first
    | intro _
    | with_reducible first
        | assumption | exact memWf_nil | apply State.put_canon
    | dsimp only

theorem State.rxIn_canon (s : State) (x : RxFrame) (hc : s.canon) : (State.rxIn s x).canon := by
  unfold State.rxIn
  repeat' first
    | intro _
    | with_reducible first
        | assumption | exact memWf_nil | apply State.bump_canon | apply State.rxShow_canon | apply State.mem_ok | apply ite_c
    | dsimp only
    | split
    | simp only [State.canon_mk]

theorem State.reqLevel_canon (s : State) (c : Nat) (hc : s.canon) : (State.reqLevel s c).canon := by
  unfold State.reqLevel
  repeat' first
    | intro _
    | with_reducible first
        | assumption | exact memWf_nil | apply State.put_canon
    | dsimp only
    | split

theorem State.pushRes_canon (s : State) (r : TxRes) (hc : s.canon) : (State.pushRes s r).canon := by
  unfold State.pushRes
  repeat' first
    | intro _
    | with_reducible first
        | assumption | exact memWf_nil | apply State.hwIn_canon | apply State.mem_ok | apply ite_c
    | refine pair_canon (by assumption) ?_
    | refine tripR_canon (by assumption) ?_
    | dsimp only
    | split
    | simp only [State.canon_mk]

theorem State.ledgerAdd_canon (s : State) (sb : Nat) (cell : Nat) (slot : Nat) (d : Int) (hc : s.canon) : (State.ledgerAdd s sb cell slot d).canon := by
  unfold State.ledgerAdd
  repeat' first
    | intro _
    | with_reducible first
        | assumption | exact memWf_nil | apply State.mem_ok | apply ite_c
    | refine pair_canon (by assumption) ?_
    | refine tripR_canon (by assumption) ?_
    | dsimp only
    | split
    | simp only [State.canon_mk]

theorem State.ledgerCharge_canon (s : State) (x : OnAir) (d : Int) (hc : s.canon) : (State.ledgerCharge s x d).canon := by
  unfold State.ledgerCharge
  repeat' first
    | intro _
    | with_reducible first
        | assumption | exact memWf_nil | apply State.ledgerAdd_canon | apply ite_c
    | dsimp only
    | split

theorem State.airUndo_canon (s : State) (x : OnAir) (hc : s.canon) : (State.airUndo s x).canon := by
  unfold State.airUndo
  repeat' first
    | intro _
    | with_reducible first
        | assumption | exact memWf_nil | apply State.ledgerCharge_canon | apply State.mem_ok
    | dsimp only
    | simp only [State.canon_mk]

theorem State.unclear_canon (s : State) (n : Nat) (hc : s.canon) : (State.unclear s n).canon := by
  unfold State.unclear
  repeat' first
    | intro _
    | with_reducible first
        | assumption | exact memWf_nil | apply State.clr_canon | apply State.airUndo_canon | apply State.mem_ok | apply ite_c
    | refine pair_canon (by assumption) ?_
    | refine tripR_canon (by assumption) ?_
    | dsimp only
    | split
    | simp only [State.canon_mk]

theorem State.unclearChain_canon (s : State) (c : Nat) (hc : s.canon) : (State.unclearChain s c).canon := by
  unfold State.unclearChain
  repeat' first
    | intro _
    | with_reducible first
        | assumption | exact memWf_nil | apply State.each_canon | apply State.airUndo_canon | apply State.unclear_canon
        | apply State.mem_ok | apply ite_c
    | refine pair_canon (by assumption) ?_
    | refine tripR_canon (by assumption) ?_
    | dsimp only
    | split
    | simp only [State.canon_mk]

theorem State.popReq_canon (s : State) (c : Nat) (hc : s.canon) : (State.popReq s c).canon := by
  unfold State.popReq
  repeat' first
    | intro _
    | with_reducible first
        | assumption | exact memWf_nil | apply State.clr_canon | apply State.reqLevel_canon | apply State.mem_ok
    | refine pair_canon (by assumption) ?_
    | refine tripR_canon (by assumption) ?_
    | dsimp only
    | split
    | simp only [State.canon_mk]

theorem State.endHead_canon (s : State) (c : Nat) (status : Nat) (hc : s.canon) : (State.endHead s c status).canon := by
  unfold State.endHead
  repeat' first
    | intro _
    | with_reducible first
        | assumption | exact memWf_nil | apply State.bump_canon | apply State.when_canon | apply State.pushRes_canon
        | apply State.popReq_canon | apply State.mem_ok
    | refine pair_canon (by assumption) ?_
    | refine tripR_canon (by assumption) ?_
    | dsimp only
    | split
    | simp only [State.canon_mk]

theorem State.failReqs_canon (s : State) (c : Nat) (hc : s.canon) : (State.failReqs s c).canon := by
  unfold State.failReqs
  repeat' first
    | intro _
    | with_reducible first
        | assumption | exact memWf_nil | apply State.clr_canon | apply State.each_canon | apply State.reqLevel_canon
        | apply State.pushRes_canon | apply State.mem_ok
    | dsimp only
    | split
    | simp only [State.canon_mk]

theorem State.portLines_canon (s : State) (p : Nat) (hc : s.canon) : (State.portLines s p).canon := by
  unfold State.portLines
  repeat' first
    | intro _
    | with_reducible first
        | assumption | exact memWf_nil | apply State.put_canon | apply State.draw_canon | apply State.mem_ok | apply ite_c
    | refine pair_canon (by assumption) ?_
    | refine tripR_canon (by assumption) ?_
    | dsimp only
    | split
    | simp only [State.canon_mk]

theorem State.chainQuiet_canon (s : State) (c : Nat) (hc : s.canon) : (State.chainQuiet s c).canon := by
  unfold State.chainQuiet
  repeat' first
    | intro _
    | with_reducible first
        | assumption | exact memWf_nil | apply State.clr_canon | apply State.portLines_canon
    | dsimp only

theorem State.chainStop_canon (s : State) (c : Nat) (st : Nat) (hc : s.canon) : (State.chainStop s c st).canon := by
  unfold State.chainStop
  repeat' first
    | intro _
    | with_reducible first
        | assumption | exact memWf_nil | apply State.put_canon | apply State.set_canon | apply State.clr_canon
        | apply State.when_canon | apply State.unclearChain_canon | apply State.failReqs_canon | apply State.chainQuiet_canon
    | dsimp only
    | split

theorem State.txEnd_canon (s : State) (c : Nat) (status : Nat) (early : Bool) (hc : s.canon) : (State.txEnd s c status early).canon := by
  unfold State.txEnd
  repeat' first
    | intro _
    | with_reducible first
        | assumption | exact memWf_nil | apply State.put_canon | apply State.set_canon | apply State.bump_canon
        | apply State.when_canon | apply State.portLines_canon | apply ite_c
    | dsimp only
    | split

theorem State.muteSet_canon (s : State) (c : Nat) (bits : Nat) (hc : s.canon) : (State.muteSet s c bits).canon := by
  unfold State.muteSet
  repeat' first
    | intro _
    | with_reducible first
        | assumption | exact memWf_nil | apply State.put_canon | apply State.set_canon | apply State.chainStop_canon
        | apply State.txEnd_canon | apply ite_c
    | dsimp only
    | split

theorem State.muteClr_canon (s : State) (c : Nat) (bits : Nat) (hc : s.canon) : (State.muteClr s c bits).canon := by
  unfold State.muteClr
  repeat' first
    | intro _
    | with_reducible first
        | assumption | exact memWf_nil | apply State.put_canon | apply State.set_canon | apply ite_c
    | dsimp only
    | split

theorem State.wrE_canon (s : State) (F : Fld) (e : Nat) (v : Nat) (hc : s.canon) : (State.wrE s F e v).canon := by
  unfold State.wrE
  repeat' first
    | intro _
    | with_reducible first
        | assumption | exact memWf_nil | apply State.put_canon | apply State.clr_canon
    | dsimp only

theorem State.shiftModel_canon (s : State) (e : Nat) (d : Nat) (hc : s.canon) : (State.shiftModel s e d).canon := by
  unfold State.shiftModel
  repeat' first
    | intro _
    | with_reducible first
        | assumption | exact memWf_nil | apply State.wrE_canon | apply ite_c
    | dsimp only
    | split

theorem State.shSet_canon (s : State) (n : Nat) (t : Int) (hc : s.canon) : (State.shSet s n t).canon := by
  unfold State.shSet
  repeat' first
    | intro _
    | with_reducible first
        | assumption | exact memWf_nil | apply State.put_canon | apply State.bump_canon | apply State.putI_canon
        | apply State.when_canon | apply ite_c
    | dsimp only
    | split

theorem State.shCommit_canon (s : State) (n : Nat) (hc : s.canon) : (State.shCommit s n).canon := by
  unfold State.shCommit
  repeat' first
    | intro _
    | with_reducible first
        | assumption | exact memWf_nil | apply State.put_canon | apply State.bump_canon | apply State.shSet_canon | apply ite_c
    | dsimp only
    | split

theorem State.shCharge_canon (s : State) (n : Nat) (amount : Nat) (hc : s.canon) : (State.shCharge s n amount).canon := by
  unfold State.shCharge
  repeat' first
    | intro _
    | with_reducible first
        | assumption | exact memWf_nil | apply State.shSet_canon | apply ite_c
    | dsimp only
    | split

theorem State.shTrueUp_canon (s : State) (n : Nat) (epoch : Nat) (d : Int) (hc : s.canon) : (State.shTrueUp s n epoch d).canon := by
  unfold State.shTrueUp
  repeat' first
    | intro _
    | with_reducible first
        | assumption | exact memWf_nil | apply State.shSet_canon | apply ite_c
    | dsimp only
    | split

theorem State.meterDecide_canon (s : State) (m : Nat) (cIn : Nat) (mode : Nat) (len : Nat) (aware : Bool) (hc : s.canon) : ((State.meterDecide s m cIn mode len aware).2).canon := by
  unfold State.meterDecide
  repeat' first
    | intro _
    | with_reducible first
        | assumption | exact memWf_nil | apply State.put_canon | apply State.bump_canon | apply ite_c
    | refine pair_canon (by assumption) ?_
    | refine tripR_canon (by assumption) ?_
    | dsimp only
    | split

theorem State.meterFill_canon (s : State) (m : Nat) (hc : s.canon) : (State.meterFill s m).canon := by
  unfold State.meterFill
  repeat' first
    | intro _
    | with_reducible first
        | assumption | exact memWf_nil | apply State.put_canon
    | dsimp only

theorem State.meterCommit_canon (s : State) (m : Nat) (hc : s.canon) : (State.meterCommit s m).canon := by
  unfold State.meterCommit
  repeat' first
    | intro _
    | with_reducible first
        | assumption | exact memWf_nil | apply State.put_canon | apply State.set_canon | apply State.meterFill_canon
        | apply ite_c
    | dsimp only
    | split

theorem State.meterPass_canon (s : State) (h : Nat) (m : Nat) (aware : Bool) (mode : Nat) (len : Nat) (x : Metered) (hc : s.canon) : ((State.meterPass s h m aware mode len x).2).canon := by
  unfold State.meterPass
  repeat' first
    | intro _
    | with_reducible first
        | assumption | exact memWf_nil | apply State.bump_canon | apply State.meterDecide_canon | apply State.mem_ok
        | apply ite_c
    | refine pair_canon (by assumption) ?_
    | refine tripR_canon (by assumption) ?_
    | dsimp only
    | split
    | simp only [State.canon_mk]

theorem State.refreshQueue_canon (s : State) (h : Nat) (q : Nat) (hc : s.canon) : (State.refreshQueue s h q).canon := by
  unfold State.refreshQueue
  repeat' first
    | intro _
    | with_reducible first
        | assumption | exact memWf_nil | apply State.put_canon | apply State.set_canon | apply State.bump_canon
        | apply State.each_canon | apply ite_c
    | dsimp only
    | split

theorem State.refreshFlows_canon (s : State) (hc : s.canon) : (State.refreshFlows s).canon := by
  unfold State.refreshFlows
  repeat' first
    | intro _
    | with_reducible first
        | assumption | exact memWf_nil | apply State.put_canon | apply State.when_canon | apply State.each_canon | apply ite_c
    | dsimp only
    | split

theorem State.refreshAll_canon (s : State) (hc : s.canon) : (State.refreshAll s).canon := by
  unfold State.refreshAll
  repeat' first
    | intro _
    | with_reducible first
        | assumption | exact memWf_nil | apply State.each_canon | apply State.refreshQueue_canon | apply State.refreshFlows_canon
    | dsimp only

theorem State.refreshOne_canon (s : State) (h : Nat) (q : Nat) (hc : s.canon) : (State.refreshOne s h q).canon := by
  unfold State.refreshOne
  repeat' first
    | intro _
    | with_reducible first
        | assumption | exact memWf_nil | apply State.refreshQueue_canon | apply State.refreshFlows_canon
    | dsimp only

theorem State.cellsAdd_canon (s : State) (h : Nat) (k : Nat) (hc : s.canon) : (State.cellsAdd s h k).canon := by
  unfold State.cellsAdd
  repeat' first
    | intro _
    | with_reducible first
        | assumption | exact memWf_nil | apply State.bump_canon
    | dsimp only

theorem State.cellsDrop_canon (s : State) (h : Nat) (k : Nat) (hc : s.canon) : (State.cellsDrop s h k).canon := by
  unfold State.cellsDrop
  repeat' first
    | intro _
    | with_reducible first
        | assumption | exact memWf_nil | apply State.drop_canon
    | dsimp only

theorem State.enqueue_canon (s : State) (d : Down) (hc : s.canon) : ((State.enqueue s d).2).canon := by
  unfold State.enqueue
  repeat' first
    | intro _
    | with_reducible first
        | assumption | exact memWf_nil | apply State.put_canon | apply State.bump_canon | apply State.when_canon
        | apply State.refreshOne_canon | apply State.cellsAdd_canon | apply State.mem_ok | apply ite_c
    | refine pair_canon (by assumption) ?_
    | refine tripR_canon (by assumption) ?_
    | dsimp only
    | split
    | simp only [State.canon_mk]

theorem State.takeIn_canon (s : State) (d : Down) (hc : s.canon) : ((State.takeIn s d).2).canon := by
  unfold State.takeIn
  repeat' first
    | intro _
    | with_reducible first
        | assumption | exact memWf_nil | apply State.bump_canon | apply State.meterPass_canon | apply State.enqueue_canon
        | apply State.act_canon | apply State.mem_ok | apply ite_c
    | refine pair_canon (by assumption) ?_
    | refine tripR_canon (by assumption) ?_
    | dsimp only
    | split
    | simp only [State.canon_mk]

theorem State.setDown_canon (s : State) (d : Down) (hc : s.canon) : (State.setDown s d).canon := by
  unfold State.setDown
  repeat' first
    | intro _
    | with_reducible first
        | assumption | exact memWf_nil | apply State.mem_ok | apply ite_c
    | dsimp only
    | split
    | simp only [State.canon_mk]

theorem State.release_canon (s : State) (d : Down) (o : Nat) (hc : s.canon) : (State.release s d o).canon := by
  unfold State.release
  repeat' first
    | intro _
    | with_reducible first
        | assumption | exact memWf_nil | apply State.put_canon | apply State.bump_canon | apply State.when_canon
        | apply State.each_canon | apply State.shCharge_canon | apply State.refreshAll_canon | apply State.setDown_canon
        | apply State.mem_ok | apply ite_c
    | refine pair_canon (by assumption) ?_
    | refine tripR_canon (by assumption) ?_
    | dsimp only
    | split
    | simp only [State.canon_mk]

theorem State.unrelease_canon (s : State) (d : Down) (hc : s.canon) : (State.unrelease s d).canon := by
  unfold State.unrelease
  repeat' first
    | intro _
    | with_reducible first
        | assumption | exact memWf_nil | apply State.put_canon | apply State.drop_canon | apply State.putIf_canon
        | apply State.each_canon | apply State.shTrueUp_canon | apply ite_c
    | dsimp only
    | split

theorem State.giveBack_canon (s : State) (d : Down) (elig : Option Nat) (hc : s.canon) : (State.giveBack s d elig).canon := by
  unfold State.giveBack
  repeat' first
    | intro _
    | with_reducible first
        | assumption | exact memWf_nil | apply State.put_canon | apply State.when_canon | apply State.refreshOne_canon
        | apply State.unrelease_canon | apply State.mem_ok
    | refine pair_canon (by assumption) ?_
    | refine tripR_canon (by assumption) ?_
    | dsimp only
    | split
    | simp only [State.canon_mk]

theorem State.routeFail_canon (s : State) (h : Nat) (e : Nat) (hc : s.canon) : (State.routeFail s h e).canon := by
  unfold State.routeFail
  repeat' first
    | intro _
    | with_reducible first
        | assumption | exact memWf_nil | apply State.put_canon | apply State.bump_canon | apply State.wrE_canon | apply ite_c
    | dsimp only
    | split

theorem State.downCounts_canon (s : State) (d : Down) (status : Nat) (hc : s.canon) : (State.downCounts s d status).canon := by
  unfold State.downCounts
  repeat' first
    | intro _
    | with_reducible first
        | assumption | exact memWf_nil | apply State.put_canon | apply State.clr_canon | apply State.bump_canon
        | apply State.bumpSat_canon | apply State.routeFail_canon | apply State.mem_ok | apply ite_c
    | refine pair_canon (by assumption) ?_
    | refine tripR_canon (by assumption) ?_
    | dsimp only
    | split
    | simp only [State.canon_mk]

theorem State.rememberAck_canon (s : State) (d : Down) (hc : s.canon) : (State.rememberAck s d).canon := by
  unfold State.rememberAck
  repeat' first
    | intro _
    | with_reducible first
        | assumption | exact memWf_nil | apply State.mem_ok | apply ite_c
    | dsimp only
    | split
    | simp only [State.canon_mk]

theorem State.downOut_canon (s : State) (d : Down) (hc : s.canon) : (State.downOut s d).canon := by
  unfold State.downOut
  repeat' first
    | intro _
    | with_reducible first
        | assumption | exact memWf_nil | apply State.refreshOne_canon | apply State.cellsDrop_canon | apply State.unrelease_canon
        | apply State.rememberAck_canon | apply State.mem_ok
    | dsimp only
    | split
    | simp only [State.canon_mk]

theorem State.downEnd_canon (s : State) (d : Down) (status : Nat) (hc : s.canon) : (State.downEnd s d status).canon := by
  unfold State.downEnd
  repeat' first
    | intro _
    | with_reducible first
        | assumption | exact memWf_nil | apply State.complete_canon | apply State.downCounts_canon | apply State.downOut_canon
        | apply State.mem_ok | apply ite_c
    | refine pair_canon (by assumption) ?_
    | refine tripR_canon (by assumption) ?_
    | dsimp only
    | split
    | simp only [State.canon_mk]

theorem State.flushQueue_canon (s : State) (q : Nat) (status : Nat) (hc : s.canon) : (State.flushQueue s q status).canon := by
  unfold State.flushQueue
  repeat' first
    | intro _
    | with_reducible first
        | assumption | exact memWf_nil | apply State.each_canon | apply State.downEnd_canon | apply ite_c
    | dsimp only
    | split

theorem State.sweepExpired_canon (s : State) (hc : s.canon) : (State.sweepExpired s).canon := by
  unfold State.sweepExpired
  repeat' first
    | intro _
    | with_reducible first
        | assumption | exact memWf_nil | apply State.each_canon | apply State.downEnd_canon
    | dsimp only

theorem State.coexDrive_canon (s : State) (hc : s.canon) : (State.coexDrive s).canon := by
  unfold State.coexDrive
  repeat' first
    | intro _
    | with_reducible first
        | assumption | exact memWf_nil | apply State.put_canon | apply ite_c
    | dsimp only
    | split

theorem State.coexRelease_canon (s : State) (c : Nat) (hc : s.canon) : (State.coexRelease s c).canon := by
  unfold State.coexRelease
  repeat' first
    | intro _
    | with_reducible first
        | assumption | exact memWf_nil | apply State.put_canon | apply State.clr_canon | apply State.coexDrive_canon
    | dsimp only

theorem State.coexLater_canon (s : State) (c : Nat) (cmp : Nat) (hc : s.canon) : (State.coexLater s c cmp).canon := by
  unfold State.coexLater
  repeat' first
    | intro _
    | with_reducible first
        | assumption | exact memWf_nil | apply State.put_canon | apply State.coexRelease_canon | apply ite_c
    | dsimp only
    | split

theorem State.coexDue_canon (s : State) (hc : s.canon) : (State.coexDue s).canon := by
  unfold State.coexDue
  repeat' first
    | intro _
    | with_reducible first
        | assumption | exact memWf_nil | apply State.each_canon | apply State.coexRelease_canon | apply ite_c
    | dsimp only
    | split

theorem State.disarm_canon (s : State) (n : Nat) (hc : s.canon) : (State.disarm s n).canon := by
  unfold State.disarm
  repeat' first
    | intro _
    | with_reducible first
        | assumption | exact memWf_nil | apply State.clr_canon | apply State.unclear_canon | apply State.coexLater_canon
        | apply ite_c
    | dsimp only
    | split

theorem State.withdraw_canon (s : State) (d : Down) (hc : s.canon) : (State.withdraw s d).canon := by
  unfold State.withdraw
  repeat' first
    | intro _
    | with_reducible first
        | assumption | exact memWf_nil | apply State.reqLevel_canon | apply State.popReq_canon | apply State.disarm_canon
        | apply State.mem_ok | apply ite_c
    | refine pair_canon (by assumption) ?_
    | refine tripR_canon (by assumption) ?_
    | dsimp only
    | split
    | simp only [State.canon_mk]

theorem State.callBack_canon (s : State) (e : Nat) (hc : s.canon) : (State.callBack s e).canon := by
  unfold State.callBack
  repeat' first
    | intro _
    | with_reducible first
        | assumption | exact memWf_nil | apply State.each_canon | apply State.setDown_canon | apply State.withdraw_canon
        | apply State.mem_ok
    | dsimp only
    | split
    | simp only [State.canon_mk]

theorem State.putThread_canon (s : State) (g : Nat) (v : Nat) (hc : s.canon) : (State.putThread s g v).canon := by
  unfold State.putThread
  repeat' first
    | intro _
    | with_reducible first
        | assumption | exact memWf_nil | apply State.put_canon
    | dsimp only

theorem State.pcNext_canon (s : State) (g : Nat) (hc : s.canon) : (State.pcNext s g).canon := by
  unfold State.pcNext
  repeat' first
    | intro _
    | with_reducible first
        | assumption | exact memWf_nil | apply State.put_canon
    | dsimp only

theorem State.resume_canon (s : State) (g : Nat) (hc : s.canon) : (State.resume s g).canon := by
  unfold State.resume
  repeat' first
    | intro _
    | with_reducible first
        | assumption | exact memWf_nil | apply State.clr_canon | apply State.putThread_canon | apply State.pcNext_canon
    | dsimp only

theorem State.edge_canon (s : State) (g : Nat) (k : Nat) (hc : s.canon) : (State.edge s g k).canon := by
  unfold State.edge
  repeat' first
    | intro _
    | with_reducible first
        | assumption | exact memWf_nil | apply State.put_canon | apply ite_c
    | dsimp only
    | split

theorem State.threadStep_canon (s : State) (old : Nat) (new : Nat) (g : Nat) (hc : s.canon) : (State.threadStep s old new g).canon := by
  unfold State.threadStep
  repeat' first
    | intro _
    | with_reducible first
        | assumption | exact memWf_nil | apply State.put_canon | apply State.clr_canon | apply State.resume_canon
        | apply State.edge_canon | apply ite_c
    | dsimp only
    | split

theorem State.stopThread_canon (s : State) (g : Nat) (epc : Nat) (cause : Nat) (eval : Nat) (hc : s.canon) : (State.stopThread s g epc cause eval).canon := by
  unfold State.stopThread
  repeat' first
    | intro _
    | with_reducible first
        | assumption | exact memWf_nil | apply State.put_canon | apply State.clr_canon | apply State.each_canon
        | apply State.putThread_canon | apply State.mem_ok
    | dsimp only
    | split
    | simp only [State.canon_mk]

theorem State.idleThread_canon (s : State) (g : Nat) (hc : s.canon) : (State.idleThread s g).canon := by
  unfold State.idleThread
  repeat' first
    | intro _
    | with_reducible first
        | assumption | exact memWf_nil | apply State.clr_canon | apply State.each_canon | apply State.putThread_canon
        | apply State.mem_ok
    | dsimp only
    | split
    | simp only [State.canon_mk]

theorem State.downReset_canon (s : State) (d : Down) (hc : s.canon) : (State.downReset s d).canon := by
  unfold State.downReset
  repeat' first
    | intro _
    | with_reducible first
        | assumption | exact memWf_nil | apply State.setDown_canon | apply State.downOut_canon | apply State.withdraw_canon
        | apply State.mem_ok | apply ite_c
    | dsimp only
    | split
    | simp only [State.canon_mk]

theorem State.hedgeStop_canon (s : State) (h : Nat) (hc : s.canon) : (State.hedgeStop s h).canon := by
  unfold State.hedgeStop
  repeat' first
    | intro _
    | with_reducible first
        | assumption | exact memWf_nil | apply State.each_canon | apply State.idleThread_canon | apply State.downReset_canon
        | apply State.mem_ok
    | dsimp only
    | split
    | simp only [State.canon_mk]

theorem State.hedgeReset_canon (s : State) (h : Nat) (cause : Nat) (hc : s.canon) : (State.hedgeReset s h cause).canon := by
  unfold State.hedgeReset
  repeat' first
    | intro _
    | with_reducible first
        | assumption | exact memWf_nil | apply State.put_canon | apply State.set_canon | apply State.clr_canon
        | apply State.bump_canon | apply State.putIf_canon | apply State.when_canon | apply State.record_canon
        | apply State.hedgeStop_canon | apply State.sent_canon | apply State.mem_ok | apply ite_c
    | refine pair_canon (by assumption) ?_
    | refine tripR_canon (by assumption) ?_
    | dsimp only
    | split
    | simp only [State.canon_mk]

theorem State.resetTo_canon (s : State) (hc : s.canon) : s.resetTo.canon := by
  have hr : State.reset.canon := rfl
  unfold State.resetTo
  repeat' first
    | intro _
    | with_reducible first
        | assumption | exact memWf_nil | apply State.mem_ok | apply And.intro | apply memFold_wf | apply memWriteL_wf
        | apply memWrite_wf | apply memZero_wf | apply memFilter_wf | apply State.sram_wf | apply State.localMem_wf
        | apply State.sharedMem_wf | apply State.instrMem_wf | apply State.dram_wf | apply State.mram_wf | apply State.host_wf
        | apply State.flash_wf
    | dsimp only
    | simp only [State.canon_mk]
    | simp only [Memories.ok_mk]

theorem State.missAdd_canon (s : State) (n : Nat) (lo : Nat) (hi : Nat) (hc : s.canon) : (State.missAdd s n lo hi).canon := by
  unfold State.missAdd
  repeat' first
    | intro _
    | with_reducible first
        | assumption | exact memWf_nil | apply State.put_canon | apply State.bumpSat_canon | apply ite_c
    | dsimp only
    | split

theorem State.pendMissed_canon (s : State) (hc : s.canon) : (State.pendMissed s).canon := by
  unfold State.pendMissed
  repeat' first
    | intro _
    | with_reducible first
        | assumption | exact memWf_nil | apply State.clr_canon | apply State.each_canon | apply State.missAdd_canon | apply ite_c
    | dsimp only
    | split

theorem State.addCause_canon (s : State) (bit : Nat) (hc : s.canon) : (State.addCause s bit).canon := by
  unfold State.addCause
  repeat' first
    | intro _
    | with_reducible first
        | assumption | exact memWf_nil | apply State.put_canon
    | dsimp only

theorem State.takeCore_canon (s : State) (bit : Nat) (hc : s.canon) : (State.takeCore s bit).canon := by
  unfold State.takeCore
  repeat' first
    | intro _
    | with_reducible first
        | assumption | exact memWf_nil | apply State.put_canon | apply State.set_canon | apply State.clr_canon
        | apply State.bump_canon | apply State.record_canon | apply State.twinDemote_canon | apply State.pendMissed_canon
        | apply State.addCause_canon | apply ite_c
    | refine pair_canon (by assumption) ?_
    | refine tripR_canon (by assumption) ?_
    | dsimp only
    | split

theorem State.takeSys_canon (s : State) (level : Nat) (bit : Nat) (fault : Bool) (hc : s.canon) : (State.takeSys s level bit fault).canon := by
  unfold State.takeSys
  repeat' first
    | intro _
    | with_reducible first
        | assumption | exact memWf_nil | apply State.put_canon | apply State.set_canon | apply State.clr_canon
        | apply State.bump_canon | apply State.putIf_canon | apply State.resetTo_canon | apply State.pendMissed_canon
        | apply State.addCause_canon | apply State.fault_canon | apply State.hold_canon | apply ite_c
    | dsimp only
    | split

theorem State.stampReset_canon (s : State) (level : Nat) (hc : s.canon) : (State.stampReset s level).canon := by
  unfold State.stampReset
  repeat' first
    | intro _
    | with_reducible first
        | assumption | exact memWf_nil | apply State.mem_ok | apply ite_c
    | dsimp only
    | split
    | simp only [State.canon_mk]

theorem State.muteFault_canon (s : State) (hc : s.canon) : (State.muteFault s).canon := by
  unfold State.muteFault
  repeat' first
    | intro _
    | with_reducible first
        | assumption | exact memWf_nil | apply State.each_canon | apply State.muteSet_canon
    | dsimp only

theorem State.haltEngines_canon (s : State) (hc : s.canon) : (State.haltEngines s).canon := by
  unfold State.haltEngines
  repeat' first
    | intro _
    | with_reducible first
        | assumption | exact memWf_nil | apply State.mem_ok | apply ite_c
    | refine pair_canon (by assumption) ?_
    | refine tripR_canon (by assumption) ?_
    | dsimp only
    | split
    | simp only [State.canon_mk]

theorem State.safeState_canon (s : State) (hc : s.canon) : (State.safeState s).canon := by
  unfold State.safeState
  repeat' first
    | intro _
    | with_reducible first
        | assumption | exact memWf_nil | apply State.put_canon | apply State.set_canon | apply State.each_canon
        | apply State.hedgeReset_canon | apply State.muteFault_canon | apply State.haltEngines_canon
    | dsimp only
    | split

theorem State.act_canon (s : State) (action : Nat) (hedge : Option Nat) (injected : Bool) (hc : s.canon) : (State.act s action hedge injected).canon := by
  unfold State.act
  repeat' first
    | intro _
    | with_reducible first
        | assumption | exact memWf_nil | apply State.set_canon | apply State.bump_canon | apply State.putIf_canon
        | apply State.when_canon | apply State.twinDemote_canon | apply State.hedgeReset_canon | apply State.takeCore_canon
        | apply State.takeSys_canon | apply State.stampReset_canon | apply State.muteFault_canon | apply State.safeState_canon
        | apply State.mem_ok | apply ite_c
    | refine pair_canon (by assumption) ?_
    | refine tripR_canon (by assumption) ?_
    | dsimp only
    | split
    | simp only [State.canon_mk]

theorem State.fault_canon (s : State) (code : Nat) (unit : Nat) (action : Nat) (hedge : Option Nat) (addr : Nat) (count : Nat) (detail : List (Nat × List Nat)) (injected : Bool) (hc : s.canon) : (State.fault s code unit action hedge addr count detail injected).canon := by
  unfold State.fault
  repeat' first
    | intro _
    | with_reducible first
        | assumption | exact memWf_nil | apply State.put_canon | apply State.record_canon | apply State.act_canon
        | apply State.mem_ok | apply ite_c
    | dsimp only
    | split
    | simp only [State.canon_mk]

theorem State.sourceFault_canon (s : State) (code : Nat) (unit : Nat) (action : Nat) (bit : Nat) (injected : Bool) (hc : s.canon) : (State.sourceFault s code unit action bit injected).canon := by
  unfold State.sourceFault
  repeat' first
    | intro _
    | with_reducible first
        | assumption | exact memWf_nil | apply State.addCause_canon | apply State.fault_canon | apply ite_c
    | dsimp only
    | split

theorem State.busErr_canon (s : State) (r : Req) (off : Nat) (hc : s.canon) : (State.busErr s r off).canon := by
  unfold State.busErr
  repeat' first
    | intro _
    | with_reducible first
        | assumption | exact memWf_nil | apply State.put_canon | apply State.bump_canon | apply ite_c
    | refine pair_canon (by assumption) ?_
    | refine tripR_canon (by assumption) ?_
    | dsimp only
    | split

theorem State.onBus_canon (s : State) (r : Req) (off : Nat) (f : State → Host.Outcome State Fault Refusal) (hf : ∀ u, u.canon → (next u (f u)).canon) (hc : s.canon) : (next s (State.onBus s r off f)).canon := by
  unfold State.onBus
  repeat' first
    | intro _
    | with_reducible first
        | assumption | exact memWf_nil | apply State.put_canon | apply State.busErr_canon | apply next_canon | apply State.mem_ok
        | apply hf
    | refine pair_canon (by assumption) ?_
    | refine tripR_canon (by assumption) ?_
    | dsimp only
    | split
    | simp only [State.canon_mk]

theorem State.onPriv_canon (s : State) (r : Req) (off : Nat) (f : State → Host.Outcome State Fault Refusal) (hf : ∀ u, u.canon → (next u (f u)).canon) (hc : s.canon) : (next s (State.onPriv s r off f)).canon := by
  unfold State.onPriv
  repeat' first
    | intro _
    | with_reducible first
        | assumption | exact memWf_nil | apply State.onBus_canon | apply next_canon | apply hf | apply ite_c
    | dsimp only
    | split

theorem State.onRead_canon (s : State) (r : Req) (off : Nat) (f : State → Host.Outcome State Fault Refusal) (hf : ∀ u, u.canon → (next u (f u)).canon) (hc : s.canon) : (next s (State.onRead s r off f)).canon := by
  unfold State.onRead
  repeat' first
    | intro _
    | with_reducible first
        | assumption | exact memWf_nil | apply State.put_canon | apply State.busErr_canon | apply next_canon | apply State.mem_ok
        | apply hf
    | refine pair_canon (by assumption) ?_
    | refine tripR_canon (by assumption) ?_
    | dsimp only
    | split
    | simp only [State.canon_mk]

theorem State.inFlight_canon (s : State) (pick : LaneFrame → Bool) (f : LaneFrame → LaneFrame) (hc : s.canon) : (State.inFlight s pick f).canon := by
  unfold State.inFlight
  repeat' first
    | intro _
    | with_reducible first
        | assumption | exact memWf_nil | apply State.mem_ok | apply ite_c
    | dsimp only
    | split
    | simp only [State.canon_mk]

theorem State.laneIdle_canon (s : State) (l : Nat) (hc : s.canon) : (State.laneIdle s l).canon := by
  unfold State.laneIdle
  repeat' first
    | intro _
    | with_reducible first
        | assumption | exact memWf_nil | apply State.clr_canon
    | dsimp only

theorem State.laneDrop_canon (s : State) (l : Nat) (hc : s.canon) : (State.laneDrop s l).canon := by
  unfold State.laneDrop
  repeat' first
    | intro _
    | with_reducible first
        | assumption | exact memWf_nil | apply State.laneIdle_canon | apply State.mem_ok
    | dsimp only
    | simp only [State.canon_mk]

theorem State.branchOk_canon (s : State) (l : Nat) (p : Nat) (ok : Bool) (hc : s.canon) : (State.branchOk s l p ok).canon := by
  unfold State.branchOk
  repeat' first
    | intro _
    | with_reducible first
        | assumption | exact memWf_nil | apply State.putIf_canon | apply State.mem_ok | apply ite_c
    | refine pair_canon (by assumption) ?_
    | refine tripR_canon (by assumption) ?_
    | dsimp only
    | split
    | simp only [State.canon_mk]

theorem State.gainStep_canon (s : State) (p : Nat) (idx : Nat) (hc : s.canon) : (State.gainStep s p idx).canon := by
  unfold State.gainStep
  repeat' first
    | intro _
    | with_reducible first
        | assumption | exact memWf_nil | apply State.put_canon | apply State.bump_canon | apply State.each_canon
        | apply State.inFlight_canon | apply State.mem_ok | apply ite_c
    | refine pair_canon (by assumption) ?_
    | refine tripR_canon (by assumption) ?_
    | dsimp only
    | split
    | simp only [State.canon_mk]

theorem State.clipWindow_canon (s : State) (p : Nat) (hc : s.canon) : (State.clipWindow s p).canon := by
  unfold State.clipWindow
  repeat' first
    | intro _
    | with_reducible first
        | assumption | exact memWf_nil | apply State.bump_canon | apply State.each_canon | apply State.inFlight_canon
        | apply State.branchOk_canon | apply State.mem_ok
    | dsimp only
    | split
    | simp only [State.canon_mk]

theorem execAgcWindowEnd_canon (p : Nat) (peak : Int) (clipped : Bool) (s : State) (hc : s.canon) : (next s (execAgcWindowEnd p peak clipped s)).canon := by
  unfold execAgcWindowEnd
  repeat' first
    | intro _
    | with_reducible first
        | assumption | exact memWf_nil | apply State.clr_canon | apply State.bump_canon | apply State.each_canon
        | apply State.branchOk_canon | apply State.gainStep_canon | apply State.clipWindow_canon | apply next_canon | apply ite_c
    | dsimp only
    | split

theorem execAgcUpHoldExpire_canon (p : Nat) (s : State) (hc : s.canon) : (next s (execAgcUpHoldExpire p s)).canon := by
  unfold execAgcUpHoldExpire
  repeat' first
    | intro _
    | with_reducible first
        | assumption | exact memWf_nil | apply State.clr_canon | apply State.bump_canon | apply State.gainStep_canon
        | apply next_canon | apply ite_c
    | dsimp only
    | split

theorem execAgcThrWrite_canon (r : Req) (p : Nat) (v : Nat) (s : State) (hc : s.canon) : (next s (execAgcThrWrite r p v s)).canon := by
  unfold execAgcThrWrite
  repeat' first
    | intro _
    | with_reducible first
        | assumption | exact memWf_nil | apply State.put_canon | apply State.set_canon | apply State.onBus_canon
        | apply next_canon | apply ite_c
    | dsimp only
    | split

theorem State.loTune_canon (s : State) (p : Nat) (hc : s.canon) : (State.loTune s p).canon := by
  unfold State.loTune
  repeat' first
    | intro _
    | with_reducible first
        | assumption | exact memWf_nil | apply State.put_canon | apply ite_c
    | dsimp only
    | split

theorem State.loEnable_canon (s : State) (p : Nat) (en : Bool) (hc : s.canon) : (State.loEnable s p en).canon := by
  unfold State.loEnable
  repeat' first
    | intro _
    | with_reducible first
        | assumption | exact memWf_nil | apply State.set_canon | apply State.clr_canon | apply State.loTune_canon | apply ite_c
    | dsimp only
    | split

theorem State.portStart_canon (s : State) (p : Nat) (hc : s.canon) : (State.portStart s p).canon := by
  unfold State.portStart
  repeat' first
    | intro _
    | with_reducible first
        | assumption | exact memWf_nil | apply State.put_canon | apply State.set_canon | apply State.loEnable_canon
    | dsimp only

theorem execAprxCtlWrite_canon (r : Req) (p : Nat) (v : Nat) (s : State) (hc : s.canon) : (next s (execAprxCtlWrite r p v s)).canon := by
  unfold execAprxCtlWrite
  repeat' first
    | intro _
    | with_reducible first
        | assumption | exact memWf_nil | apply State.put_canon | apply State.putIf_canon | apply State.onBus_canon
        | apply State.loEnable_canon | apply next_canon | apply ite_c
    | dsimp only
    | split

theorem execLoMhzWrite_canon (r : Req) (p : Nat) (v : Nat) (s : State) (hc : s.canon) : (next s (execLoMhzWrite r p v s)).canon := by
  unfold execLoMhzWrite
  repeat' first
    | intro _
    | with_reducible first
        | assumption | exact memWf_nil | apply State.put_canon | apply State.set_canon | apply State.onBus_canon
        | apply State.loTune_canon | apply next_canon | apply ite_c
    | dsimp only
    | split

theorem execDdcWrite_canon (r : Req) (d : Nat) (off : Nat) (v : Nat) (s : State) (hc : s.canon) : (next s (execDdcWrite r d off v s)).canon := by
  unfold execDdcWrite
  repeat' first
    | intro _
    | with_reducible first
        | assumption | exact memWf_nil | apply State.put_canon | apply State.set_canon | apply State.onBus_canon
        | apply next_canon | apply ite_c
    | dsimp only
    | split

theorem State.laneCfgPut_canon (s : State) (l : Nat) (v : Nat) (hc : s.canon) : (State.laneCfgPut s l v).canon := by
  unfold State.laneCfgPut
  repeat' first
    | intro _
    | with_reducible first
        | assumption | exact memWf_nil | apply State.put_canon | apply State.putIf_canon | apply State.each_canon | apply ite_c
    | dsimp only
    | split

theorem State.lanePendBit_canon (s : State) (l : Nat) (hc : s.canon) : (State.lanePendBit s l).canon := by
  unfold State.lanePendBit
  repeat' first
    | intro _
    | with_reducible first
        | assumption | exact memWf_nil | apply State.put_canon | apply ite_c
    | dsimp only
    | split

theorem State.lanePending_canon (s : State) (l : Nat) (hc : s.canon) : (State.lanePending s l).canon := by
  unfold State.lanePending
  repeat' first
    | intro _
    | with_reducible first
        | assumption | exact memWf_nil | apply State.put_canon | apply State.set_canon | apply State.clr_canon
        | apply State.laneCfgPut_canon | apply State.lanePendBit_canon | apply ite_c
    | dsimp only
    | split

theorem execLaneCfgWrite_canon (r : Req) (l : Nat) (v : Nat) (s : State) (hc : s.canon) : (next s (execLaneCfgWrite r l v s)).canon := by
  unfold execLaneCfgWrite
  repeat' first
    | intro _
    | with_reducible first
        | assumption | exact memWf_nil | apply State.put_canon | apply State.set_canon | apply State.clr_canon
        | apply State.bump_canon | apply State.onBus_canon | apply State.laneDrop_canon | apply State.laneCfgPut_canon
        | apply State.lanePendBit_canon | apply State.lanePending_canon | apply next_canon | apply ite_c
    | dsimp only
    | split

theorem execLaneModesWrite_canon (r : Req) (l : Nat) (v : Nat) (s : State) (hc : s.canon) : (next s (execLaneModesWrite r l v s)).canon := by
  unfold execLaneModesWrite
  repeat' first
    | intro _
    | with_reducible first
        | assumption | exact memWf_nil | apply State.put_canon | apply State.set_canon | apply State.onBus_canon
        | apply State.lanePendBit_canon | apply next_canon | apply ite_c
    | dsimp only
    | split

theorem State.mapSet_canon (s : State) (m : EnergyMap) (hc : s.canon) : (State.mapSet s m).canon := by
  unfold State.mapSet
  repeat' first
    | intro _
    | with_reducible first
        | assumption | exact memWf_nil | apply State.put_canon | apply State.mem_ok
    | dsimp only
    | simp only [State.canon_mk]

theorem State.mapStart_canon (s : State) (n : Nat) (hc : s.canon) : (State.mapStart s n).canon := by
  unfold State.mapStart
  repeat' first
    | intro _
    | with_reducible first
        | assumption | exact memWf_nil | apply State.put_canon | apply State.clr_canon | apply State.mapSet_canon
        | apply State.mem_ok | apply ite_c
    | refine pair_canon (by assumption) ?_
    | refine tripR_canon (by assumption) ?_
    | dsimp only
    | split
    | simp only [State.canon_mk]

theorem execSliceFcWrite_canon (r : Req) (n : Nat) (v : Nat) (s : State) (hc : s.canon) : (next s (execSliceFcWrite r n v s)).canon := by
  unfold execSliceFcWrite
  repeat' first
    | intro _
    | with_reducible first
        | assumption | exact memWf_nil | apply State.put_canon | apply State.set_canon | apply State.onBus_canon
        | apply State.mapStart_canon | apply next_canon | apply State.mem_ok | apply ite_c
    | dsimp only
    | split
    | simp only [State.canon_mk]

theorem State.mapsRestart_canon (s : State) (hc : s.canon) : (State.mapsRestart s).canon := by
  unfold State.mapsRestart
  repeat' first
    | intro _
    | with_reducible first
        | assumption | exact memWf_nil | apply State.clr_canon | apply State.each_canon | apply State.mapStart_canon
        | apply State.mem_ok | apply ite_c
    | dsimp only
    | split
    | simp only [State.canon_mk]

theorem execSliceCtlWrite_canon (r : Req) (n : Nat) (v : Nat) (s : State) (hc : s.canon) : (next s (execSliceCtlWrite r n v s)).canon := by
  unfold execSliceCtlWrite
  repeat' first
    | intro _
    | with_reducible first
        | assumption | exact memWf_nil | apply State.put_canon | apply State.onBus_canon | apply State.mapStart_canon
        | apply next_canon | apply ite_c
    | dsimp only
    | split

theorem execMapPeriodEnd_canon (n : Nat) (levels : List Int) (clipped : Bool) (s : State) (hc : s.canon) : (next s (execMapPeriodEnd n levels clipped s)).canon := by
  unfold execMapPeriodEnd
  repeat' first
    | intro _
    | with_reducible first
        | assumption | exact memWf_nil | apply State.putIf_canon | apply State.mapSet_canon | apply next_canon
        | apply State.mem_ok | apply ite_c
    | refine pair_canon (by assumption) ?_
    | refine tripR_canon (by assumption) ?_
    | dsimp only
    | split
    | simp only [State.canon_mk]

theorem execMapStampRefresh_canon (n : Nat) (s : State) (hc : s.canon) : (next s (execMapStampRefresh n s)).canon := by
  unfold execMapStampRefresh
  repeat' first
    | intro _
    | with_reducible first
        | assumption | exact memWf_nil | apply State.mapSet_canon | apply next_canon | apply State.mem_ok | apply ite_c
    | refine pair_canon (by assumption) ?_
    | refine tripR_canon (by assumption) ?_
    | dsimp only
    | split
    | simp only [State.canon_mk]

theorem execSliceThrWrite_canon (r : Req) (n : Nat) (v : Nat) (s : State) (hc : s.canon) : (next s (execSliceThrWrite r n v s)).canon := by
  unfold execSliceThrWrite
  repeat' first
    | intro _
    | with_reducible first
        | assumption | exact memWf_nil | apply State.put_canon | apply State.set_canon | apply State.onBus_canon
        | apply next_canon | apply ite_c
    | dsimp only
    | split

theorem State.refreeze_canon (s : State) (hc : s.canon) : (State.refreeze s).canon := by
  unfold State.refreeze
  repeat' first
    | intro _
    | with_reducible first
        | assumption | exact memWf_nil | apply State.put_canon | apply State.each_canon | apply ite_c
    | dsimp only
    | split

theorem State.blankOpen_canon (s : State) (x : OnAir) (hc : s.canon) : (State.blankOpen s x).canon := by
  unfold State.blankOpen
  repeat' first
    | intro _
    | with_reducible first
        | assumption | exact memWf_nil | apply State.bump_canon | apply State.each_canon | apply State.inFlight_canon
        | apply State.laneDrop_canon | apply State.branchOk_canon | apply State.lanePending_canon | apply State.refreeze_canon
        | apply State.mem_ok | apply ite_c
    | refine pair_canon (by assumption) ?_
    | refine tripR_canon (by assumption) ?_
    | dsimp only
    | split
    | simp only [State.canon_mk]

theorem execSelfBlankStart_canon (c : Nat) (s : State) (hc : s.canon) : (next s (execSelfBlankStart c s)).canon := by
  unfold execSelfBlankStart
  repeat' first
    | intro _
    | with_reducible first
        | assumption | exact memWf_nil | apply State.blankOpen_canon | apply next_canon | apply State.mem_ok
    | refine pair_canon (by assumption) ?_
    | refine tripR_canon (by assumption) ?_
    | dsimp only
    | split
    | simp only [State.canon_mk]

theorem execSelfBlankEnd_canon (c : Nat) (s : State) (hc : s.canon) : (next s (execSelfBlankEnd c s)).canon := by
  unfold execSelfBlankEnd
  repeat' first
    | intro _
    | with_reducible first
        | assumption | exact memWf_nil | apply State.refreeze_canon | apply next_canon | apply State.mem_ok | apply ite_c
    | refine pair_canon (by assumption) ?_
    | refine tripR_canon (by assumption) ?_
    | dsimp only
    | split
    | simp only [State.canon_mk]

theorem State.queueUnknown_canon (s : State) (q : Nat) (hc : s.canon) : (State.queueUnknown s q).canon := by
  unfold State.queueUnknown
  repeat' first
    | intro _
    | with_reducible first
        | assumption | exact memWf_nil | apply State.set_canon | apply State.bump_canon | apply State.mem_ok | apply ite_c
    | dsimp only
    | split
    | simp only [State.canon_mk]

theorem State.writeElig_canon (s : State) (q : Nat) (hc : s.canon) : (State.writeElig s q).canon := by
  unfold State.writeElig
  repeat' first
    | intro _
    | with_reducible first
        | assumption | exact memWf_nil | apply State.put_canon | apply State.clr_canon | apply State.refreshOne_canon
        | apply State.queueUnknown_canon | apply ite_c
    | dsimp only
    | split

theorem State.writeEligs_canon (s : State) (h : Nat) (hc : s.canon) : (State.writeEligs s h).canon := by
  unfold State.writeEligs
  repeat' first
    | intro _
    | with_reducible first
        | assumption | exact memWf_nil | apply State.each_canon | apply State.writeElig_canon
    | dsimp only

theorem State.stashShow_canon (s : State) (hc : s.canon) : (State.stashShow s).canon := by
  unfold State.stashShow
  repeat' first
    | intro _
    | with_reducible first
        | assumption | exact memWf_nil | apply State.put_canon
    | dsimp only

theorem State.idxInsert_canon (s : State) (short : Bool) (h : Nat) (key : Nat) (e : Nat) (hc : s.canon) : ∀ t, (State.idxInsert s short h key e) = some t → t.canon := by
  intro t ht
  unfold State.idxInsert at ht
  dsimp only at ht
  repeat' split at ht
  all_goals first
    | cases ht
    | (injection ht with ht; subst ht)
    | (obtain ⟨u, hu, rfl⟩ := Option.map_eq_some_iff.1 ht)
  repeat' first
    | intro _
    | with_reducible first
        | assumption | exact memWf_nil | apply State.stashShow_canon | apply State.mem_ok | apply ite_c
    | refine pair_canon (by assumption) ?_
    | refine tripR_canon (by assumption) ?_
    | dsimp only
    | split
    | simp only [State.canon_mk]

theorem State.idxRemove_canon (s : State) (e : Nat) (hc : s.canon) : (State.idxRemove s e).canon := by
  unfold State.idxRemove
  repeat' first
    | intro _
    | with_reducible first
        | assumption | exact memWf_nil | apply State.stashShow_canon | apply State.mem_ok
    | dsimp only
    | simp only [State.canon_mk]

theorem State.touch_canon (s : State) (e : Nat) (hc : s.canon) : (State.touch s e).canon := by
  unfold State.touch
  repeat' first
    | intro _
    | with_reducible first
        | assumption | exact memWf_nil | apply State.bump_canon | apply State.when_canon | apply State.mem_ok | apply ite_c
    | dsimp only
    | split
    | simp only [State.canon_mk]

theorem State.sweepGone_canon (s : State) (h : Nat) (e : Nat) (hc : s.canon) : (State.sweepGone s h e).canon := by
  unfold State.sweepGone
  repeat' first
    | intro _
    | with_reducible first
        | assumption | exact memWf_nil | apply State.bump_canon | apply State.mem_ok | apply ite_c
    | refine pair_canon (by assumption) ?_
    | refine tripR_canon (by assumption) ?_
    | dsimp only
    | split
    | simp only [State.canon_mk]

theorem State.campGone_canon (s : State) (h : Nat) (e : Nat) (hc : s.canon) : (State.campGone s h e).canon := by
  unfold State.campGone
  repeat' first
    | intro _
    | with_reducible first
        | assumption | exact memWf_nil | apply State.bump_canon | apply State.drop_canon | apply State.when_canon
        | apply State.mem_ok | apply ite_c
    | dsimp only
    | split
    | simp only [State.canon_mk]

theorem State.zeroEntry_canon (s : State) (e : Nat) (hc : s.canon) : (State.zeroEntry s e).canon := by
  unfold State.zeroEntry
  repeat' first
    | intro _
    | with_reducible first
        | assumption | exact memWf_nil | apply State.put_canon | apply State.set_canon | apply State.unput_canon
        | apply State.drop_canon | apply State.when_canon | apply State.each_canon
    | dsimp only
    | split

theorem State.freeEntry_canon (s : State) (e : Nat) (cause : Nat) (quiet : Bool) (hc : s.canon) : (State.freeEntry s e cause quiet).canon := by
  unfold State.freeEntry
  repeat' first
    | intro _
    | with_reducible first
        | assumption | exact memWf_nil | apply State.clr_canon | apply State.each_canon | apply State.event_canon
        | apply State.flushQueue_canon | apply State.callBack_canon | apply State.idxRemove_canon | apply State.sweepGone_canon
        | apply State.campGone_canon | apply State.zeroEntry_canon | apply State.mem_ok | apply ite_c
    | refine pair_canon (by assumption) ?_
    | refine tripR_canon (by assumption) ?_
    | dsimp only
    | split
    | simp only [State.canon_mk]

theorem State.revalidate_canon (s : State) (e : Nat) (hc : s.canon) : (State.revalidate s e).canon := by
  unfold State.revalidate
  repeat' first
    | intro _
    | with_reducible first
        | assumption | exact memWf_nil | apply State.set_canon | apply State.unput_canon | apply State.bump_canon
        | apply State.record_canon | apply State.freeEntry_canon | apply ite_c
    | dsimp only
    | split

theorem State.lookup_canon (s : State) (short : Bool) (h : Nat) (key : Nat) (hc : s.canon) : ((State.lookup s short h key).2).canon := by
  unfold State.lookup
  repeat' first
    | intro _
    | with_reducible first
        | assumption | exact memWf_nil | apply State.bump_canon | apply State.touch_canon | apply State.revalidate_canon
        | apply State.mem_ok | apply ite_c
    | refine pair_canon (by assumption) ?_
    | refine tripR_canon (by assumption) ?_
    | dsimp only
    | split
    | simp only [State.canon_mk]

theorem State.opened_canon (s : State) (h : Nat) (e : Nat) (hc : s.canon) : (State.opened s h e).canon := by
  unfold State.opened
  repeat' first
    | intro _
    | with_reducible first
        | assumption | exact memWf_nil | apply State.touch_canon | apply State.revalidate_canon | apply ite_c
    | dsimp only
    | split

theorem State.takeIndex_canon (s : State) (hc : s.canon) : ((State.takeIndex s).2).canon := by
  unfold State.takeIndex
  repeat' first
    | intro _
    | with_reducible first
        | assumption | exact memWf_nil | apply State.draw_canon
    | refine pair_canon (by assumption) ?_
    | refine tripR_canon (by assumption) ?_
    | dsimp only
    | split

theorem State.evictRandom_canon (s : State) (h n : Nat) (hc : s.canon) : (s.evictRandom h n).2.canon := by
  induction n generalizing s with
  | zero => exact hc
  | succ n ih =>
    unfold State.evictRandom
    repeat' first
      | with_reducible apply ih
      | intro _
      | with_reducible first
          | assumption | exact memWf_nil | apply State.draw_canon | apply State.mem_ok | apply ite_c
      | refine pair_canon (by assumption) ?_
      | refine tripR_canon (by assumption) ?_
      | dsimp only
      | split
      | simp only [State.canon_mk]

theorem State.evictChoice_canon (s : State) (h : Nat) (hc : s.canon) : ((State.evictChoice s h).2).canon := by
  unfold State.evictChoice
  repeat' first
    | intro _
    | with_reducible first
        | assumption | exact memWf_nil | apply State.evictRandom_canon | apply State.mem_ok
    | refine pair_canon (by assumption) ?_
    | refine tripR_canon (by assumption) ?_
    | dsimp only
    | split
    | simp only [State.canon_mk]

theorem State.writeEntry_canon (s : State) (h : Nat) (e : Nat) (g : Nat) (b : NodeBlock) (hc : s.canon) : (State.writeEntry s h e g b).canon := by
  unfold State.writeEntry
  repeat' first
    | intro _
    | with_reducible first
        | assumption | exact memWf_nil | apply State.put_canon | apply State.set_canon | apply State.clr_canon
        | apply State.bump_canon | apply State.when_canon | apply getD_canon | apply ite_c
    | dsimp only
    | split

theorem State.insertNew_canon (s : State) (h : Nat) (b : NodeBlock) (room : Bool) (hc : s.canon) : (s.insertNew h b room).2.canon := by
  unfold State.insertNew
  extract_lets full fail
  have hf (u : State) (hu : u.canon) : (fail u).2.canon := State.bump_canon _ _ _ hu
  clear_value fail
  split
  · exact hf _ (State.set_canon _ _ hc)
  · split
    · exact hf _ (State.set_canon _ _ hc)
    · split
      rename_i v s1 h1
      have q1 : s1.canon := by
        refine pair_canon h1 ?_
        split
        · exact State.evictChoice_canon _ _ hc
        · exact hc
      split
      · exact hf _ q1
      · extract_lets s2
        have q2 : s2.canon := by
          simp only [s2]
          split
          · exact State.bump_canon _ _ _ (State.freeEntry_canon _ _ _ _ q1)
          · exact q1
        clear_value s2
        split
        · rename_i h2
          have q3 := pair_canon h2 (State.takeIndex_canon _ q2)
          split
          · exact hf _ q3
          · exact q3
        · rename_i h2
          have q3 := pair_canon h2 (State.takeIndex_canon _ q2)
          extract_lets g s3 s4 s5
          have q5 : s3.canon := State.put_canon _ _ _ q3
          have q6 : s4.canon := getD_canon _ q5 fun t ht => State.idxInsert_canon _ _ _ _ _ q5 _ ht
          have q7 : s5.canon := by
            simp only [s5]
            split
            · exact q6
            · exact getD_canon _ q6 fun t ht => State.idxInsert_canon _ _ _ _ _ q6 _ ht
          exact State.writeElig_canon _ _ (State.touch_canon _ _ (State.writeEntry_canon _ _ _ _ _ q7))
theorem State.insertNode_canon (s : State) (h : Nat) (b : NodeBlock) (room : Bool) (hc : s.canon) : ((State.insertNode s h b room).2).canon := by
  unfold State.insertNode
  repeat' first
    | intro _
    | with_reducible first
        | assumption | exact memWf_nil | apply State.bump_canon | apply State.lookup_canon | apply State.insertNew_canon
        | apply State.mem_ok | apply ite_c
    | refine pair_canon (by assumption) ?_
    | refine tripR_canon (by assumption) ?_
    | dsimp only
    | split
    | simp only [State.canon_mk]

theorem State.hit_canon (s : State) (e : Nat) (hc : s.canon) : (State.hit s e).canon := by
  unfold State.hit
  repeat' first
    | intro _
    | with_reducible first
        | assumption | exact memWf_nil | apply State.wrE_canon
    | dsimp only

theorem State.setNodeState_canon (s : State) (e : Nat) (st : Nat) (hc : s.canon) : (State.setNodeState s e st).canon := by
  unfold State.setNodeState
  repeat' first
    | intro _
    | with_reducible first
        | assumption | exact memWf_nil | apply State.wrE_canon | apply State.writeEligs_canon
    | dsimp only

theorem State.lose_canon (s : State) (e : Nat) (hc : s.canon) : (State.lose s e).canon := by
  unfold State.lose
  repeat' first
    | intro _
    | with_reducible first
        | assumption | exact memWf_nil | apply State.event_canon | apply State.callBack_canon | apply State.setNodeState_canon
    | refine pair_canon (by assumption) ?_
    | refine tripR_canon (by assumption) ?_
    | dsimp only

theorem State.setFlags_canon (s : State) (e : Nat) (flags : Nat) (hc : s.canon) : (State.setFlags s e flags).canon := by
  unfold State.setFlags
  repeat' first
    | intro _
    | with_reducible first
        | assumption | exact memWf_nil | apply State.wrE_canon | apply State.setNodeState_canon | apply ite_c
    | dsimp only
    | split

theorem State.settleLane_canon (s : State) (l : Nat) (hc : s.canon) : (State.settleLane s l).canon := by
  unfold State.settleLane
  repeat' first
    | intro _
    | with_reducible first
        | assumption | exact memWf_nil | apply State.put_canon
    | dsimp only

theorem State.settleHedge_canon (s : State) (h : Nat) (hc : s.canon) : (State.settleHedge s h).canon := by
  unfold State.settleHedge
  repeat' first
    | intro _
    | with_reducible first
        | assumption | exact memWf_nil | apply State.put_canon
    | dsimp only

theorem State.learn_canon (s : State) (lane : Nat) (h : Nat) (hc : s.canon) : ((State.learn s lane h).2).canon := by
  unfold State.learn
  repeat' first
    | intro _
    | with_reducible first
        | assumption | exact memWf_nil | apply State.put_canon | apply State.bump_canon | apply State.settleLane_canon
        | apply State.settleHedge_canon | apply ite_c
    | refine pair_canon (by assumption) ?_
    | refine tripR_canon (by assumption) ?_
    | dsimp only
    | split

theorem execJoinTimeout_canon (e : Nat) (s : State) (hc : s.canon) : (next s (execJoinTimeout e s)).canon := by
  unfold execJoinTimeout
  repeat' first
    | intro _
    | with_reducible first
        | assumption | exact memWf_nil | apply State.freeEntry_canon | apply next_canon | apply ite_c
    | dsimp only
    | split

theorem execAgingVisit_canon (e : Nat) (s : State) (hc : s.canon) : (next s (execAgingVisit e s)).canon := by
  unfold execAgingVisit
  repeat' first
    | intro _
    | with_reducible first
        | assumption | exact memWf_nil | apply State.put_canon | apply State.set_canon | apply State.bump_canon
        | apply State.putIf_canon | apply State.when_canon | apply State.freeEntry_canon | apply State.lose_canon
        | apply next_canon | apply ite_c
    | dsimp only
    | split

theorem State.passStart_canon (s : State) (hc : s.canon) : (State.passStart s).canon := by
  unfold State.passStart
  repeat' first
    | intro _
    | with_reducible first
        | assumption | exact memWf_nil | apply State.put_canon | apply State.clr_canon
    | dsimp only

theorem execAgingPassEnd_canon (s : State) (hc : s.canon) : (next s (execAgingPassEnd s)).canon := by
  unfold execAgingPassEnd
  repeat' first
    | intro _
    | with_reducible first
        | assumption | exact memWf_nil | apply State.set_canon | apply State.unput_canon | apply State.when_canon
        | apply State.each_canon | apply State.passStart_canon | apply next_canon | apply State.mem_ok | apply ite_c
    | dsimp only
    | split
    | simp only [State.canon_mk]

theorem execRevalDone_canon (s : State) (hc : s.canon) : (next s (execRevalDone s)).canon := by
  unfold execRevalDone
  repeat' first
    | intro _
    | with_reducible first
        | assumption | exact memWf_nil | apply State.set_canon | apply State.clr_canon | apply State.each_canon
        | apply State.revalidate_canon | apply next_canon | apply ite_c
    | dsimp only
    | split

theorem execNodeInsert_canon (c : Cmd) (b : NodeBlock) (s : State) (hc : s.canon) : (next s (execNodeInsert c b s)).canon := by
  unfold execNodeInsert
  repeat' first
    | intro _
    | with_reducible first
        | assumption | exact memWf_nil | apply State.complete_canon | apply State.finish_canon | apply State.insertNode_canon
        | apply next_canon | apply State.mem_ok | apply ite_c
    | refine pair_canon (by assumption) ?_
    | refine tripR_canon (by assumption) ?_
    | dsimp only
    | split
    | simp only [State.canon_mk]

theorem execNodeDelete_canon (c : Cmd) (e : Nat) (s : State) (hc : s.canon) : (next s (execNodeDelete c e s)).canon := by
  unfold execNodeDelete
  extract_lets u
  have q : u.canon := State.opened_canon _ _ _ hc
  clear_value u
  split
  · with_reducible exact next_canon (State.finish_canon _ _ _ _ q)
  split
  · with_reducible exact next_canon (State.finish_canon _ _ _ _ q)
  split
  · with_reducible apply next_canon
    simp only [State.canon_mk]
    exact q
  · with_reducible exact next_canon (State.finish_canon _ _ _ _ (State.freeEntry_canon _ _ _ _ q))
theorem execNodeRead_canon (c : Cmd) (e : Nat) (priv : Bool) (addr : Nat) (s : State) (hc : s.canon) : (next s (execNodeRead c e priv addr s)).canon := by
  unfold execNodeRead
  repeat' first
    | intro _
    | with_reducible first
        | assumption | exact memWf_nil | apply State.finish_canon | apply State.answer_canon | apply State.opened_canon
        | apply next_canon | apply ite_c
    | dsimp only
    | split

theorem State.moveShort_canon (s : State) (h : Nat) (e : Nat) (v : Nat) (hc : s.canon) : ∀ t, (State.moveShort s h e v) = some t → t.canon := by
  intro t ht
  unfold State.moveShort at ht
  dsimp only at ht
  repeat' split at ht
  all_goals first
    | cases ht
    | (injection ht with ht; subst ht)
    | (obtain ⟨u, hu, rfl⟩ := Option.map_eq_some_iff.1 ht)
  repeat' first
    | intro _
    | with_reducible first
        | assumption | exact memWf_nil | apply State.drop_canon | apply State.wrE_canon | apply State.stashShow_canon
        | apply State.mem_ok | apply ite_c
    | exact State.idxInsert_canon _ _ _ _ _ (by assumption) _ (by assumption)
    | dsimp only
    | split
    | simp only [State.canon_mk]

theorem State.updateFields_canon (s : State) (e : Nat) (mask : Nat) (flags : Nat) (drift : Nat) (ap : Nat) (power : Nat) (meter : Nat) (rp : List Nat) (pp : List Nat) (hc : s.canon) : (State.updateFields s e mask flags drift ap power meter rp pp).canon := by
  unfold State.updateFields
  repeat' first
    | intro _
    | with_reducible first
        | assumption | exact memWf_nil | apply State.put_canon | apply State.when_canon | apply State.each_canon
        | apply State.wrE_canon | apply State.lose_canon | apply State.setFlags_canon | apply getD_canon
    | dsimp only
    | split

theorem execNodeUpdate_canon (c : Cmd) (e mask short flags drift ap power meter addr : Nat) (s : State) (hc : s.canon) :
    (next s (execNodeUpdate c e mask short flags drift ap power meter addr s)).canon := by
  unfold execNodeUpdate
  extract_lets u h
  have q0 : u.canon := State.opened_canon _ _ _ hc
  clear_value u h
  split
  ·
    repeat' first
      | intro _
      | with_reducible first
          | assumption | exact memWf_nil | apply State.set_canon | apply State.finish_canon | apply State.writeEligs_canon
          | apply State.opened_canon | apply State.updateFields_canon | apply next_canon | apply State.mem_ok | apply ite_c
      | exact State.moveShort_canon _ _ _ _ (by assumption) _ (by assumption)
      | refine pair_canon (by assumption) ?_
      | refine tripR_canon (by assumption) ?_
      | dsimp only
      | split
      | simp only [State.canon_mk]

  split
  ·
    repeat' first
      | intro _
      | with_reducible first
          | assumption | exact memWf_nil | apply State.set_canon | apply State.finish_canon | apply State.writeEligs_canon
          | apply State.opened_canon | apply State.updateFields_canon | apply next_canon | apply State.mem_ok | apply ite_c
      | exact State.moveShort_canon _ _ _ _ (by assumption) _ (by assumption)
      | refine pair_canon (by assumption) ?_
      | refine tripR_canon (by assumption) ?_
      | dsimp only
      | split
      | simp only [State.canon_mk]

  split
  ·
    repeat' first
      | intro _
      | with_reducible first
          | assumption | exact memWf_nil | apply State.set_canon | apply State.finish_canon | apply State.writeEligs_canon
          | apply State.opened_canon | apply State.updateFields_canon | apply next_canon | apply State.mem_ok | apply ite_c
      | exact State.moveShort_canon _ _ _ _ (by assumption) _ (by assumption)
      | refine pair_canon (by assumption) ?_
      | refine tripR_canon (by assumption) ?_
      | dsimp only
      | split
      | simp only [State.canon_mk]

  split
  ·
    repeat' first
      | intro _
      | with_reducible first
          | assumption | exact memWf_nil | apply State.set_canon | apply State.finish_canon | apply State.writeEligs_canon
          | apply State.opened_canon | apply State.updateFields_canon | apply next_canon | apply State.mem_ok | apply ite_c
      | exact State.moveShort_canon _ _ _ _ (by assumption) _ (by assumption)
      | refine pair_canon (by assumption) ?_
      | refine tripR_canon (by assumption) ?_
      | dsimp only
      | split
      | simp only [State.canon_mk]

  split
  ·
    repeat' first
      | intro _
      | with_reducible first
          | assumption | exact memWf_nil | apply State.set_canon | apply State.finish_canon | apply State.writeEligs_canon
          | apply State.opened_canon | apply State.updateFields_canon | apply next_canon | apply State.mem_ok | apply ite_c
      | exact State.moveShort_canon _ _ _ _ (by assumption) _ (by assumption)
      | refine pair_canon (by assumption) ?_
      | refine tripR_canon (by assumption) ?_
      | dsimp only
      | split
      | simp only [State.canon_mk]

  rename_i h1
  have q : ∀ t, (if bit mask 0 = true then u.moveShort h e short else some u) = some t → t.canon := by
    intro t ht
    split at ht
    · exact State.moveShort_canon _ _ _ _ q0 _ ht
    · cases ht; exact q0
  have q1 := q _ h1
  extract_lets rp pp
  clear_value rp pp
  repeat' first
    | intro _
    | with_reducible first
        | assumption | exact memWf_nil | apply State.set_canon | apply State.finish_canon | apply State.writeEligs_canon
        | apply State.opened_canon | apply State.updateFields_canon | apply next_canon | apply State.mem_ok | apply ite_c
    | exact State.moveShort_canon _ _ _ _ (by assumption) _ (by assumption)
    | refine pair_canon (by assumption) ?_
    | refine tripR_canon (by assumption) ?_
    | dsimp only
    | split
    | simp only [State.canon_mk]

theorem execNodePin_canon (c : Cmd) (e : Nat) (s : State) (hc : s.canon) : (next s (execNodePin c e s)).canon := by
  unfold execNodePin
  repeat' first
    | intro _
    | with_reducible first
        | assumption | exact memWf_nil | apply State.bump_canon | apply State.finish_canon | apply State.wrE_canon
        | apply State.opened_canon | apply next_canon | apply ite_c
    | dsimp only
    | split

theorem execNodeUnpin_canon (c : Cmd) (e : Nat) (s : State) (hc : s.canon) : (next s (execNodeUnpin c e s)).canon := by
  unfold execNodeUnpin
  repeat' first
    | intro _
    | with_reducible first
        | assumption | exact memWf_nil | apply State.drop_canon | apply State.finish_canon | apply State.wrE_canon
        | apply State.opened_canon | apply next_canon | apply ite_c
    | dsimp only
    | split

theorem execNodeTouch_canon (c : Cmd) (e : Nat) (s : State) (hc : s.canon) : (next s (execNodeTouch c e s)).canon := by
  unfold execNodeTouch
  repeat' first
    | intro _
    | with_reducible first
        | assumption | exact memWf_nil | apply State.finish_canon | apply State.opened_canon | apply State.hit_canon
        | apply next_canon | apply ite_c
    | dsimp only
    | split

theorem execNodeList_canon (c : Cmd) (st : Nat) (start : Nat) (addr : Nat) (s : State) (hc : s.canon) : (next s (execNodeList c st start addr s)).canon := by
  unfold execNodeList
  repeat' first
    | intro _
    | with_reducible first
        | assumption | exact memWf_nil | apply State.finish_canon | apply State.answer_canon | apply State.take_canon
        | apply next_canon | apply ite_c
    | refine pair_canon (by assumption) ?_
    | refine tripR_canon (by assumption) ?_
    | dsimp only
    | split

theorem execThkQuotaWrite_canon (r : Req) (h : Nat) (v : Nat) (s : State) (hc : s.canon) : (next s (execThkQuotaWrite r h v s)).canon := by
  unfold execThkQuotaWrite
  repeat' first
    | intro _
    | with_reducible first
        | assumption | exact memWf_nil | apply State.put_canon | apply State.set_canon | apply State.onPriv_canon
        | apply State.sum_canon | apply next_canon | apply ite_c
    | dsimp only
    | split

theorem State.skipCounters_canon (s : State) (hc : s.canon) : (State.skipCounters s).canon := by
  unfold State.skipCounters
  repeat' first
    | intro _
    | with_reducible first
        | assumption | exact memWf_nil | apply State.put_canon | apply State.each_canon | apply State.wrE_canon
    | dsimp only
    | split

theorem State.orphanCpl_canon (s : State) (x : Nat × Nat × Nat × Nat) (hc : s.canon) : (State.orphanCpl s x).canon := by
  unfold State.orphanCpl
  repeat' first
    | intro _
    | with_reducible first
        | assumption | exact memWf_nil | apply State.cplPost_canon | apply State.mem_ok | apply ite_c
    | refine pair_canon (by assumption) ?_
    | refine tripR_canon (by assumption) ?_
    | dsimp only
    | split
    | simp only [State.canon_mk]

theorem State.beActive_canon (s : State) (hc : s.canon) : (State.beActive s).canon := by
  unfold State.beActive
  repeat' first
    | intro _
    | with_reducible first
        | assumption | exact memWf_nil | apply State.put_canon | apply State.set_canon | apply State.refreshAll_canon
    | dsimp only

theorem State.takeover_canon (s : State) (cause : Nat) (hc : s.canon) : (State.takeover s cause).canon := by
  unfold State.takeover
  repeat' first
    | intro _
    | with_reducible first
        | assumption | exact memWf_nil | apply State.put_canon | apply State.set_canon | apply State.clr_canon
        | apply State.bump_canon | apply State.each_canon | apply State.roleTold_canon | apply State.skipCounters_canon
        | apply State.orphanCpl_canon | apply State.beActive_canon | apply State.mem_ok
    | dsimp only
    | split
    | simp only [State.canon_mk]

theorem State.decide461_canon (s : State) (hc : s.canon) : (State.decide461 s).canon := by
  unfold State.decide461
  repeat' first
    | intro _
    | with_reducible first
        | assumption | exact memWf_nil | apply State.set_canon | apply State.when_canon | apply State.takeover_canon
        | apply State.mem_ok | apply ite_c
    | refine pair_canon (by assumption) ?_
    | refine tripR_canon (by assumption) ?_
    | dsimp only
    | split
    | simp only [State.canon_mk]

theorem State.hbEdge_canon (s : State) (source : Nat) (hc : s.canon) : (State.hbEdge s source).canon := by
  unfold State.hbEdge
  repeat' first
    | intro _
    | with_reducible first
        | assumption | exact memWf_nil | apply State.put_canon | apply State.set_canon | apply State.decide461_canon
        | apply ite_c
    | dsimp only
    | split

theorem State.setClock_canon (s : State) (t : Nat) (hc : s.canon) : (State.setClock s t).canon := by
  unfold State.setClock
  repeat' first
    | intro _
    | with_reducible first
        | assumption | exact memWf_nil | apply State.put_canon
    | dsimp only

theorem State.setSlew_canon (s : State) (adj : Int) (cnt : Nat) (hc : s.canon) : (State.setSlew s adj cnt).canon := by
  unfold State.setSlew
  repeat' first
    | intro _
    | with_reducible first
        | assumption | exact memWf_nil | apply State.put_canon | apply State.putI_canon
    | dsimp only

theorem State.nscCycle_canon (s : State) (hc : s.canon) : (State.nscCycle s).canon := by
  unfold State.nscCycle
  repeat' first
    | intro _
    | with_reducible first
        | assumption | exact memWf_nil | apply State.put_canon | apply State.bump_canon | apply State.setSlew_canon | apply ite_c
    | dsimp only
    | split

theorem execSlewCountExpire_canon (s : State) (hc : s.canon) : (next s (execSlewCountExpire s)).canon := by
  unfold execSlewCountExpire
  repeat' first
    | intro _
    | with_reducible first
        | assumption | exact memWf_nil | apply State.setSlew_canon | apply next_canon | apply ite_c
    | dsimp only
    | split

theorem execNscIncWrite_canon (r : Req) (v : Nat) (s : State) (hc : s.canon) : (next s (execNscIncWrite r v s)).canon := by
  unfold execNscIncWrite
  repeat' first
    | intro _
    | with_reducible first
        | assumption | exact memWf_nil | apply State.put_canon | apply State.set_canon | apply State.onBus_canon
        | apply next_canon | apply ite_c
    | dsimp only
    | split

theorem execNscNowNsRead_canon (r : Req) (s : State) (hc : s.canon) : (next s (execNscNowNsRead r s)).canon := by
  unfold execNscNowNsRead
  repeat' first
    | intro _
    | with_reducible first
        | assumption | exact memWf_nil | apply State.put_canon | apply State.onRead_canon | apply next_canon
    | dsimp only
    | split

theorem State.ptStep_canon (s : State) (old : Nat) (new : Nat) (n : Nat) (hc : s.canon) : (State.ptStep s old new n).canon := by
  unfold State.ptStep
  repeat' first
    | intro _
    | with_reducible first
        | assumption | exact memWf_nil | apply State.put_canon | apply State.set_canon | apply State.clr_canon
        | apply State.when_canon | apply State.unclear_canon | apply ite_c
    | dsimp only
    | split

theorem State.fixStep_canon (s : State) (old : Nat) (new : Nat) (hc : s.canon) : (State.fixStep s old new).canon := by
  unfold State.fixStep
  repeat' first
    | intro _
    | with_reducible first
        | assumption | exact memWf_nil | apply State.put_canon | apply State.set_canon | apply State.each_canon
        | apply State.shiftModel_canon
    | dsimp only
    | split

theorem State.stepClock_canon (s : State) (t : Nat) (hc : s.canon) : (State.stepClock s t).canon := by
  unfold State.stepClock
  repeat' first
    | intro _
    | with_reducible first
        | assumption | exact memWf_nil | apply State.put_canon | apply State.set_canon | apply State.putI_canon
        | apply State.each_canon | apply State.record_canon | apply State.threadStep_canon | apply State.setClock_canon
        | apply State.setSlew_canon | apply State.ptStep_canon | apply State.fixStep_canon
    | refine pair_canon (by assumption) ?_
    | refine tripR_canon (by assumption) ?_
    | dsimp only
    | split

theorem State.stepRules_canon (s : State) (d : Int) (hc : s.canon) : (State.stepRules s d).canon := by
  unfold State.stepRules
  repeat' first
    | intro _
    | with_reducible first
        | assumption | exact memWf_nil | apply State.set_canon | apply State.setSlew_canon | apply State.stepClock_canon
        | apply ite_c
    | refine pair_canon (by assumption) ?_
    | refine tripR_canon (by assumption) ?_
    | dsimp only
    | split

theorem State.hostStep_canon (s : State) (d : Int) (hc : s.canon) : (State.hostStep s d).canon := by
  unfold State.hostStep
  repeat' first
    | intro _
    | with_reducible first
        | assumption | exact memWf_nil | apply State.put_canon | apply State.stepRules_canon | apply ite_c
    | dsimp only
    | split

theorem execNscSet_canon (r : Req) (s : State) (hc : s.canon) : (next s (execNscSet r s)).canon := by
  unfold execNscSet
  repeat' first
    | intro _
    | with_reducible first
        | assumption | exact memWf_nil | apply State.onBus_canon | apply State.hostStep_canon | apply next_canon
    | dsimp only
    | split

theorem execNscStep_canon (r : Req) (s : State) (hc : s.canon) : (next s (execNscStep r s)).canon := by
  unfold execNscStep
  repeat' first
    | intro _
    | with_reducible first
        | assumption | exact memWf_nil | apply State.onBus_canon | apply State.hostStep_canon | apply next_canon
    | dsimp only

theorem execNscSlewCntWrite_canon (r : Req) (v : Nat) (s : State) (hc : s.canon) : (next s (execNscSlewCntWrite r v s)).canon := by
  unfold execNscSlewCntWrite
  repeat' first
    | intro _
    | with_reducible first
        | assumption | exact memWf_nil | apply State.onBus_canon | apply State.setSlew_canon | apply next_canon
    | dsimp only

theorem State.srcSelect_canon (s : State) (k : Nat) (hc : s.canon) : (State.srcSelect s k).canon := by
  unfold State.srcSelect
  repeat' first
    | intro _
    | with_reducible first
        | assumption | exact memWf_nil | apply State.put_canon | apply State.set_canon | apply State.clr_canon
        | apply State.when_canon
    | dsimp only
    | split

theorem State.servoWrite_canon (s : State) (hc : s.canon) : (State.servoWrite s).canon := by
  unfold State.servoWrite
  repeat' first
    | intro _
    | with_reducible first
        | assumption | exact memWf_nil | apply State.put_canon | apply State.draw_canon | apply ite_c
    | refine pair_canon (by assumption) ?_
    | refine tripR_canon (by assumption) ?_
    | dsimp only
    | split

theorem State.enterHoldover_canon (s : State) (hc : s.canon) : (State.enterHoldover s).canon := by
  unfold State.enterHoldover
  repeat' first
    | intro _
    | with_reducible first
        | assumption | exact memWf_nil | apply State.put_canon | apply State.set_canon | apply State.clr_canon
        | apply State.sum_canon | apply ite_c
    | dsimp only
    | split

theorem State.servoSample_canon (s : State) (err : Int) (hc : s.canon) : (State.servoSample s err).canon := by
  unfold State.servoSample
  repeat' first
    | intro _
    | with_reducible first
        | assumption | exact memWf_nil | apply State.put_canon | apply State.set_canon | apply State.clr_canon
        | apply State.bump_canon | apply State.putI_canon | apply State.stepRules_canon | apply State.servoWrite_canon
        | apply State.enterHoldover_canon | apply State.mem_ok | apply ite_c
    | refine pair_canon (by assumption) ?_
    | refine tripR_canon (by assumption) ?_
    | dsimp only
    | split
    | simp only [State.canon_mk]

theorem State.srcLost_canon (s : State) (k : Nat) (hc : s.canon) : (State.srcLost s k).canon := by
  unfold State.srcLost
  repeat' first
    | intro _
    | with_reducible first
        | assumption | exact memWf_nil | apply State.put_canon | apply State.clr_canon | apply State.srcSelect_canon
        | apply State.enterHoldover_canon | apply State.mem_ok | apply ite_c
    | refine pair_canon (by assumption) ?_
    | refine tripR_canon (by assumption) ?_
    | dsimp only
    | split
    | simp only [State.canon_mk]

theorem State.srcSeen_canon (s : State) (k : Nat) (hc : s.canon) : (State.srcSeen s k).canon := by
  unfold State.srcSeen
  repeat' first
    | intro _
    | with_reducible first
        | assumption | exact memWf_nil | apply State.set_canon | apply State.when_canon | apply State.srcSelect_canon
        | apply ite_c
    | dsimp only
    | split

theorem State.srcReview_canon (s : State) (hc : s.canon) : (State.srcReview s).canon := by
  unfold State.srcReview
  repeat' first
    | intro _
    | with_reducible first
        | assumption | exact memWf_nil | apply State.srcLost_canon | apply State.srcSeen_canon | apply ite_c
    | dsimp only
    | split

theorem State.ppsCfg_canon (s : State) (v : Nat) (hc : s.canon) : (State.ppsCfg s v).canon := by
  unfold State.ppsCfg
  repeat' first
    | intro _
    | with_reducible first
        | assumption | exact memWf_nil | apply State.clr_canon | apply ite_c
    | dsimp only
    | split

theorem execPpsEdge_canon (n : Nat) (s : State) (hc : s.canon) : (next s (execPpsEdge n s)).canon := by
  unfold execPpsEdge
  by_cases hk : s.on TIME.PPS_CFG_EN = true
  · rw [if_neg (by simp [hk])]
    extract_lets gap good run s1 s2 pol s3 s4
    rw [next_next]
    have h1 : s1.canon := hc
    have h2 : s2.canon := State.when_canon _ _ h1 fun t ht => State.set_canon _ _ ht
    have h3 : s3.canon := State.when_canon _ _ (State.put_canon _ _ _ h2) fun t ht => State.set_canon _ _ ht
    have h4 : s4.canon := State.srcSeen_canon _ _ h3
    split
    · exact State.servoSample_canon _ _ h4
    · exact h4
  · rw [if_pos (by simp [hk])]; exact hc
theorem execPpsLossTimeout_canon (s : State) (hc : s.canon) : (next s (execPpsLossTimeout s)).canon := by
  unfold execPpsLossTimeout
  repeat' first
    | intro _
    | with_reducible first
        | assumption | exact memWf_nil | apply State.set_canon | apply State.clr_canon | apply State.srcLost_canon
        | apply next_canon | apply ite_c
    | dsimp only
    | split

theorem execPpsOpenCheck_canon (isOpen : Bool) (s : State) (hc : s.canon) : (next s (execPpsOpenCheck isOpen s)).canon := by
  unfold execPpsOpenCheck
  repeat' first
    | intro _
    | with_reducible first
        | assumption | exact memWf_nil | apply State.set_canon | apply State.clr_canon | apply State.srcLost_canon
        | apply next_canon | apply ite_c
    | dsimp only
    | split

theorem State.ptpGone_canon (s : State) (p : Nat) (hc : s.canon) : (State.ptpGone s p).canon := by
  unfold State.ptpGone
  repeat' first
    | intro _
    | with_reducible first
        | assumption | exact memWf_nil | apply State.clr_canon | apply State.srcLost_canon | apply ite_c
    | dsimp only
    | split

theorem State.ptpClock_canon (s : State) (p : Nat) (m : PtpMsg) (hc : s.canon) : (State.ptpClock s p m).canon := by
  unfold State.ptpClock
  repeat' first
    | intro _
    | with_reducible first
        | assumption | exact memWf_nil | apply State.put_canon | apply State.set_canon | apply State.when_canon
        | apply State.servoSample_canon | apply State.srcSeen_canon | apply State.ptpGone_canon | apply State.mem_ok
        | apply ite_c
    | refine pair_canon (by assumption) ?_
    | refine tripR_canon (by assumption) ?_
    | dsimp only
    | split
    | simp only [State.canon_mk]

theorem State.tcForward_canon (s : State) (p : Nat) (m : PtpMsg) (hc : s.canon) : (State.tcForward s p m).canon := by
  unfold State.tcForward
  repeat' first
    | intro _
    | with_reducible first
        | assumption | exact memWf_nil | apply State.bump_canon | apply State.drop_canon | apply State.mem_ok | apply ite_c
    | refine pair_canon (by assumption) ?_
    | refine tripR_canon (by assumption) ?_
    | dsimp only
    | split
    | simp only [State.canon_mk]

theorem execPtpMsgRx_canon (p : Nat) (m : PtpMsg) (s : State) (hc : s.canon) : (next s (execPtpMsgRx p m s)).canon := by
  unfold execPtpMsgRx
  repeat' first
    | intro _
    | with_reducible first
        | assumption | exact memWf_nil | apply State.ptpClock_canon | apply State.tcForward_canon | apply next_canon
        | apply State.mem_ok | apply ite_c
    | refine pair_canon (by assumption) ?_
    | refine tripR_canon (by assumption) ?_
    | dsimp only
    | split
    | simp only [State.canon_mk]

theorem execPtpSyncTimeout_canon (p : Nat) (s : State) (hc : s.canon) : (next s (execPtpSyncTimeout p s)).canon := by
  unfold execPtpSyncTimeout
  repeat' first
    | intro _
    | with_reducible first
        | assumption | exact memWf_nil | apply State.put_canon | apply State.clr_canon | apply State.srcLost_canon
        | apply next_canon | apply ite_c
    | dsimp only
    | split

theorem State.cuShow_canon (s : State) (n : Nat) (hc : s.canon) : (State.cuShow s n).canon := by
  unfold State.cuShow
  repeat' first
    | intro _
    | with_reducible first
        | assumption | exact memWf_nil | apply State.put_canon
    | dsimp only
    | split

theorem State.cuCapture_canon (s : State) (n : Nat) (hc : s.canon) : (State.cuCapture s n).canon := by
  unfold State.cuCapture
  repeat' first
    | intro _
    | with_reducible first
        | assumption | exact memWf_nil | apply State.put_canon | apply State.set_canon | apply State.setClock_canon
        | apply State.cuShow_canon | apply State.mem_ok | apply ite_c
    | refine pair_canon (by assumption) ?_
    | refine tripR_canon (by assumption) ?_
    | dsimp only
    | split
    | simp only [State.canon_mk]

theorem execCuEdge_canon (source : Nat) (rising : Bool) (s : State) (hc : s.canon) : (next s (execCuEdge source rising s)).canon := by
  unfold execCuEdge
  repeat' first
    | intro _
    | with_reducible first
        | assumption | exact memWf_nil | apply State.each_canon | apply State.hbEdge_canon | apply State.cuCapture_canon
        | apply next_canon | apply ite_c
    | dsimp only
    | split

theorem execCuPop_canon (r : Req) (n : Nat) (v : Nat) (s : State) (hc : s.canon) : (next s (execCuPop r n v s)).canon := by
  unfold execCuPop
  repeat' first
    | intro _
    | with_reducible first
        | assumption | exact memWf_nil | apply State.onBus_canon | apply State.cuShow_canon | apply next_canon
        | apply State.mem_ok | apply ite_c
    | refine pair_canon (by assumption) ?_
    | refine tripR_canon (by assumption) ?_
    | dsimp only
    | split
    | simp only [State.canon_mk]

theorem State.sense_canon (s : State) (n : Nat) (hc : s.canon) : (State.sense s n).canon := by
  unfold State.sense
  repeat' first
    | intro _
    | with_reducible first
        | assumption | exact memWf_nil | apply State.put_canon | apply State.draw_canon
    | refine pair_canon (by assumption) ?_
    | refine tripR_canon (by assumption) ?_
    | dsimp only
    | split

theorem State.pushReq_canon (s : State) (r : TxReq) (hc : s.canon) : (State.pushReq s r).canon := by
  unfold State.pushReq
  repeat' first
    | intro _
    | with_reducible first
        | assumption | exact memWf_nil | apply State.reqLevel_canon | apply State.pushRes_canon | apply State.mem_ok
        | apply ite_c
    | dsimp only
    | split
    | simp only [State.canon_mk]

theorem State.orFlag_canon (s : State) (c : Nat) (k : Nat) (hc : s.canon) : (State.orFlag s c k).canon := by
  unfold State.orFlag
  repeat' first
    | intro _
    | with_reducible first
        | assumption | exact memWf_nil | apply State.put_canon
    | dsimp only

theorem State.putFlag_canon (s : State) (c : Nat) (k : Nat) (v : Bool) (hc : s.canon) : (State.putFlag s c k v).canon := by
  unfold State.putFlag
  repeat' first
    | intro _
    | with_reducible first
        | assumption | exact memWf_nil | apply State.put_canon | apply State.orFlag_canon | apply ite_c
    | dsimp only
    | split

theorem State.calNext_canon (s : State) (c : Nat) (hc : s.canon) : (State.calNext s c).canon := by
  unfold State.calNext
  repeat' first
    | intro _
    | with_reducible first
        | assumption | exact memWf_nil | apply State.put_canon | apply State.mem_ok | apply ite_c
    | refine pair_canon (by assumption) ?_
    | refine tripR_canon (by assumption) ?_
    | dsimp only
    | split
    | simp only [State.canon_mk]

theorem State.startTune_canon (s : State) (c : Nat) (r : TxReq) (hc : s.canon) : (State.startTune s c r).canon := by
  unfold State.startTune
  repeat' first
    | intro _
    | with_reducible first
        | assumption | exact memWf_nil | apply State.put_canon | apply State.set_canon | apply State.clr_canon
        | apply State.bump_canon | apply State.when_canon | apply State.endHead_canon | apply State.sense_canon
        | apply State.orFlag_canon | apply getD_canon | apply ite_c
    | dsimp only
    | split

theorem State.tuneHead_canon (s : State) (c : Nat) (hc : s.canon) : (State.tuneHead s c).canon := by
  unfold State.tuneHead
  repeat' first
    | intro _
    | with_reducible first
        | assumption | exact memWf_nil | apply State.putFlag_canon | apply State.startTune_canon | apply State.mem_ok
        | apply ite_c
    | refine pair_canon (by assumption) ?_
    | refine tripR_canon (by assumption) ?_
    | dsimp only
    | split
    | simp only [State.canon_mk]

theorem State.setPower_canon (s : State) (c : Nat) (r : TxReq) (hc : s.canon) : (State.setPower s c r).canon := by
  unfold State.setPower
  repeat' first
    | intro _
    | with_reducible first
        | assumption | exact memWf_nil | apply State.bump_canon | apply State.putI_canon | apply State.when_canon
        | apply State.sense_canon | apply State.putFlag_canon | apply ite_c
    | dsimp only
    | split

theorem State.limitPower_canon (s : State) (c : Nat) (r : TxReq) (hc : s.canon) : (State.limitPower s c r).canon := by
  unfold State.limitPower
  repeat' first
    | intro _
    | with_reducible first
        | assumption | exact memWf_nil | apply State.putI_canon | apply State.setPower_canon
    | dsimp only

theorem State.checkHead_canon (s : State) (c : Nat) (r : TxReq) (hc : s.canon) : (State.checkHead s c r).canon := by
  unfold State.checkHead
  repeat' first
    | intro _
    | with_reducible first
        | assumption | exact memWf_nil | apply State.put_canon | apply State.set_canon | apply State.clr_canon
        | apply State.bump_canon | apply State.putI_canon | apply State.when_canon | apply State.endHead_canon
        | apply State.orFlag_canon | apply State.limitPower_canon | apply ite_c
    | refine pair_canon (by assumption) ?_
    | refine tripR_canon (by assumption) ?_
    | dsimp only
    | split

theorem State.headIn_canon (s : State) (c : Nat) (hc : s.canon) : (State.headIn s c).canon := by
  unfold State.headIn
  repeat' first
    | intro _
    | with_reducible first
        | assumption | exact memWf_nil | apply State.calNext_canon | apply State.tuneHead_canon | apply State.checkHead_canon
        | apply State.mem_ok | apply ite_c
    | refine pair_canon (by assumption) ?_
    | refine tripR_canon (by assumption) ?_
    | dsimp only
    | split
    | simp only [State.canon_mk]

theorem execTxRequestHead_canon (c : Nat) (s : State) (hc : s.canon) : (next s (execTxRequestHead c s)).canon := by
  unfold execTxRequestHead
  repeat' first
    | intro _
    | with_reducible first
        | assumption | exact memWf_nil | apply State.headIn_canon | apply next_canon
    | dsimp only

theorem State.coexAssert_canon (s : State) (c : Nat) (hc : s.canon) : (State.coexAssert s c).canon := by
  unfold State.coexAssert
  repeat' first
    | intro _
    | with_reducible first
        | assumption | exact memWf_nil | apply State.put_canon | apply State.clr_canon | apply State.coexDrive_canon
        | apply State.mem_ok | apply ite_c
    | refine pair_canon (by assumption) ?_
    | refine tripR_canon (by assumption) ?_
    | dsimp only
    | split
    | simp only [State.canon_mk]

theorem State.ledgerSave_canon (s : State) (pick : LedgerSlot → Bool) (hc : s.canon) : (State.ledgerSave s pick).canon := by
  unfold State.ledgerSave
  repeat' first
    | intro _
    | with_reducible first
        | assumption | exact memWf_nil | apply State.put_canon | apply State.set_canon | apply State.mem_ok | apply ite_c
    | dsimp only
    | split
    | simp only [State.canon_mk]

theorem State.ledgerEarly_canon (s : State) (hc : s.canon) : (State.ledgerEarly s).canon := by
  unfold State.ledgerEarly
  repeat' first
    | intro _
    | with_reducible first
        | assumption | exact memWf_nil | apply State.ledgerSave_canon
    | dsimp only

theorem State.quietDrop_canon (s : State) (pick : Quiet → Bool) (hc : s.canon) : (State.quietDrop s pick).canon := by
  unfold State.quietDrop
  repeat' first
    | intro _
    | with_reducible first
        | assumption | exact memWf_nil | apply State.put_canon | apply State.mem_ok
    | dsimp only
    | split
    | simp only [State.canon_mk]

theorem State.gatePost_canon (s : State) (r : GateRec) (hc : s.canon) : (State.gatePost s r).canon := by
  unfold State.gatePost
  repeat' first
    | intro _
    | with_reducible first
        | assumption | exact memWf_nil | apply State.hwIn_canon | apply State.mem_ok | apply ite_c
    | refine pair_canon (by assumption) ?_
    | refine tripR_canon (by assumption) ?_
    | dsimp only
    | split
    | simp only [State.canon_mk]

theorem State.ptEvent_canon (s : State) (n : Nat) (hc : s.canon) : (State.ptEvent s n).canon := by
  unfold State.ptEvent
  repeat' first
    | intro _
    | with_reducible first
        | assumption | exact memWf_nil | apply State.event_canon | apply ite_c
    | refine pair_canon (by assumption) ?_
    | refine tripR_canon (by assumption) ?_
    | dsimp only
    | split

theorem State.putReq_canon (s : State) (r : TxReq) (cmp : Nat) (hc : s.canon) : (State.putReq s r cmp).canon := by
  unfold State.putReq
  repeat' first
    | intro _
    | with_reducible first
        | assumption | exact memWf_nil | apply State.clr_canon | apply State.drop_canon | apply State.reqLevel_canon
        | apply State.unclearChain_canon | apply State.take_canon | apply State.mem_ok | apply ite_c
    | dsimp only
    | split
    | simp only [State.canon_mk]

theorem State.arm_canon (s : State) (n : Nat) (hc : s.canon) : (State.arm s n).canon := by
  unfold State.arm
  repeat' first
    | intro _
    | with_reducible first
        | assumption | exact memWf_nil | apply State.put_canon | apply State.set_canon | apply State.clr_canon
        | apply State.bump_canon | apply State.endHead_canon | apply State.disarm_canon | apply State.act_canon
        | apply State.coexAssert_canon | apply State.quietDrop_canon | apply State.gatePost_canon | apply State.ptEvent_canon
        | apply State.mem_ok | apply ite_c
    | refine pair_canon (by assumption) ?_
    | refine tripR_canon (by assumption) ?_
    | dsimp only
    | split
    | simp only [State.canon_mk]

theorem State.ackDrop_canon (s : State) (n : Nat) (hc : s.canon) : (State.ackDrop s n).canon := by
  unfold State.ackDrop
  repeat' first
    | intro _
    | with_reducible first
        | assumption | exact memWf_nil | apply State.bump_canon | apply State.reqLevel_canon | apply State.popReq_canon
        | apply State.mem_ok | apply ite_c
    | refine pair_canon (by assumption) ?_
    | refine tripR_canon (by assumption) ?_
    | dsimp only
    | split
    | simp only [State.canon_mk]

theorem execPtReadinessCheck_canon (n : Nat) (gnt : Bool) (s : State) (hc : s.canon) : (next s (execPtReadinessCheck n gnt s)).canon := by
  unfold execPtReadinessCheck
  repeat' first
    | intro _
    | with_reducible first
        | assumption | exact memWf_nil | apply State.put_canon | apply State.set_canon | apply State.bump_canon
        | apply State.when_canon | apply State.disarm_canon | apply State.ackDrop_canon | apply next_canon | apply ite_c
    | dsimp only
    | split

theorem State.txBegin_canon (s : State) (c : Nat) (cmp : Nat) (hc : s.canon) : (State.txBegin s c cmp).canon := by
  unfold State.txBegin
  repeat' first
    | intro _
    | with_reducible first
        | assumption | exact memWf_nil | apply State.put_canon | apply State.set_canon | apply State.portLines_canon
        | apply State.setPower_canon | apply State.mem_ok
    | refine pair_canon (by assumption) ?_
    | refine tripR_canon (by assumption) ?_
    | dsimp only
    | split
    | simp only [State.canon_mk]

theorem State.ptAct_canon (s : State) (n : Nat) (hc : s.canon) : (State.ptAct s n).canon := by
  unfold State.ptAct
  repeat' first
    | intro _
    | with_reducible first
        | assumption | exact memWf_nil | apply State.put_canon | apply State.set_canon | apply State.clr_canon
        | apply State.mem_ok | apply ite_c
    | refine pair_canon (by assumption) ?_
    | refine tripR_canon (by assumption) ?_
    | dsimp only
    | split
    | simp only [State.canon_mk]

theorem State.ptGo_canon (s : State) (n : Nat) (hc : s.canon) : (State.ptGo s n).canon := by
  unfold State.ptGo
  repeat' first
    | intro _
    | with_reducible first
        | assumption | exact memWf_nil | apply State.set_canon | apply State.blankOpen_canon | apply State.txBegin_canon
        | apply State.mem_ok | apply ite_c
    | refine pair_canon (by assumption) ?_
    | refine tripR_canon (by assumption) ?_
    | dsimp only
    | split
    | simp only [State.canon_mk]

theorem State.ptNext_canon (s : State) (n : Nat) (hc : s.canon) : (State.ptNext s n).canon := by
  unfold State.ptNext
  repeat' first
    | intro _
    | with_reducible first
        | assumption | exact memWf_nil | apply State.put_canon | apply State.clr_canon | apply ite_c
    | dsimp only
    | split

theorem State.ptFire_canon (s : State) (hc : s.canon) : (State.ptFire s).canon := by
  unfold State.ptFire
  repeat' first
    | intro _
    | with_reducible first
        | assumption | exact memWf_nil | apply State.set_canon | apply State.bump_canon | apply State.each_canon
        | apply State.unclear_canon | apply State.coexDue_canon | apply State.disarm_canon | apply State.ackDrop_canon
        | apply State.ptAct_canon | apply State.ptGo_canon | apply State.ptNext_canon | apply ite_c
    | dsimp only
    | split

theorem execPtFire_canon (s : State) (hc : s.canon) : (next s (execPtFire s)).canon := by
  unfold execPtFire
  repeat' first
    | intro _
    | with_reducible first
        | assumption | exact memWf_nil | apply State.ptFire_canon | apply next_canon
    | dsimp only

theorem execPtCmpLowWrite_canon (r : Req) (n : Nat) (v : Nat) (s : State) (hc : s.canon) : (next s (execPtCmpLowWrite r n v s)).canon := by
  unfold execPtCmpLowWrite
  repeat' first
    | intro _
    | with_reducible first
        | assumption | exact memWf_nil | apply State.put_canon | apply State.when_canon | apply State.onBus_canon
        | apply State.arm_canon | apply State.ptFire_canon | apply next_canon | apply ite_c
    | dsimp only
    | split

theorem execPtCtlWrite_canon (r : Req) (n : Nat) (v : Nat) (s : State) (hc : s.canon) : (next s (execPtCtlWrite r n v s)).canon := by
  unfold execPtCtlWrite
  repeat' first
    | intro _
    | with_reducible first
        | assumption | exact memWf_nil | apply State.put_canon | apply State.putIf_canon | apply State.unclear_canon
        | apply State.disarm_canon | apply State.onBus_canon | apply next_canon | apply ite_c
    | dsimp only
    | split

theorem execPtPulseEnd_canon (n : Nat) (s : State) (hc : s.canon) : (next s (execPtPulseEnd n s)).canon := by
  unfold execPtPulseEnd
  repeat' first
    | intro _
    | with_reducible first
        | assumption | exact memWf_nil | apply State.clr_canon | apply next_canon | apply ite_c
    | dsimp only
    | split

theorem execPtAlloc_canon (c : Cmd) (s : State) (hc : s.canon) : (next s (execPtAlloc c s)).canon := by
  unfold execPtAlloc
  repeat' first
    | intro _
    | with_reducible first
        | assumption | exact memWf_nil | apply State.put_canon | apply State.complete_canon | apply State.finish_canon
        | apply next_canon | apply State.mem_ok | apply ite_c
    | refine pair_canon (by assumption) ?_
    | refine tripR_canon (by assumption) ?_
    | dsimp only
    | split
    | simp only [State.canon_mk]

theorem State.ptClear_canon (s : State) (n : Nat) (hc : s.canon) : (State.ptClear s n).canon := by
  unfold State.ptClear
  repeat' first
    | intro _
    | with_reducible first
        | assumption | exact memWf_nil | apply State.clr_canon | apply State.each_canon
    | dsimp only

theorem execPtFree_canon (c : Cmd) (n : Nat) (s : State) (hc : s.canon) : (next s (execPtFree c n s)).canon := by
  unfold execPtFree
  repeat' first
    | intro _
    | with_reducible first
        | assumption | exact memWf_nil | apply State.put_canon | apply State.finish_canon | apply State.disarm_canon
        | apply State.ptClear_canon | apply next_canon | apply ite_c
    | dsimp only
    | split

theorem State.chainOn_canon (s : State) (c : Nat) (hc : s.canon) : (State.chainOn s c).canon := by
  unfold State.chainOn
  repeat' first
    | intro _
    | with_reducible first
        | assumption | exact memWf_nil | apply State.put_canon | apply State.set_canon | apply State.chainStop_canon
        | apply ite_c
    | dsimp only
    | split

theorem execTxcCtlWrite_canon (r : Req) (c : Nat) (v : Nat) (s : State) (hc : s.canon) : (next s (execTxcCtlWrite r c v s)).canon := by
  unfold execTxcCtlWrite
  repeat' first
    | intro _
    | with_reducible first
        | assumption | exact memWf_nil | apply State.put_canon | apply State.set_canon | apply State.clr_canon
        | apply State.chainStop_canon | apply State.txEnd_canon | apply State.muteSet_canon | apply State.muteClr_canon
        | apply State.refreshAll_canon | apply State.onBus_canon | apply State.tuneHead_canon | apply State.chainOn_canon
        | apply next_canon | apply ite_c
    | dsimp only
    | split

theorem State.goReady_canon (s : State) (c : Nat) (hc : s.canon) : (State.goReady s c).canon := by
  unfold State.goReady
  repeat' first
    | intro _
    | with_reducible first
        | assumption | exact memWf_nil | apply State.set_canon | apply State.calNext_canon | apply State.tuneHead_canon
        | apply State.checkHead_canon | apply State.mem_ok | apply ite_c
    | refine pair_canon (by assumption) ?_
    | refine tripR_canon (by assumption) ?_
    | dsimp only
    | split
    | simp only [State.canon_mk]

theorem State.toStandby_canon (s : State) (c : Nat) (hc : s.canon) : (State.toStandby s c).canon := by
  unfold State.toStandby
  repeat' first
    | intro _
    | with_reducible first
        | assumption | exact memWf_nil | apply State.put_canon | apply State.clr_canon | apply State.unclearChain_canon
        | apply State.chainQuiet_canon | apply ite_c
    | dsimp only
    | split

theorem execGoReady_canon (r : Req) (c : Nat) (s : State) (hc : s.canon) : (next s (execGoReady r c s)).canon := by
  unfold execGoReady
  repeat' first
    | intro _
    | with_reducible first
        | assumption | exact memWf_nil | apply State.put_canon | apply State.set_canon | apply State.onBus_canon
        | apply State.goReady_canon | apply next_canon | apply ite_c
    | dsimp only
    | split

theorem execGoStandby_canon (r : Req) (c : Nat) (s : State) (hc : s.canon) : (next s (execGoStandby r c s)).canon := by
  unfold execGoStandby
  repeat' first
    | intro _
    | with_reducible first
        | assumption | exact memWf_nil | apply State.put_canon | apply State.set_canon | apply State.onBus_canon
        | apply State.toStandby_canon | apply next_canon | apply ite_c
    | dsimp only
    | split

theorem execCalFlush_canon (r : Req) (c : Nat) (s : State) (hc : s.canon) : (next s (execCalFlush r c s)).canon := by
  unfold execCalFlush
  repeat' first
    | intro _
    | with_reducible first
        | assumption | exact memWf_nil | apply State.bump_canon | apply State.onBus_canon | apply State.calNext_canon
        | apply next_canon
    | dsimp only

theorem State.applyPending_canon (s : State) (c : Nat) (otherwise : State → State) (hf : ∀ u, u.canon → (otherwise u).canon) (hc : s.canon) : (State.applyPending s c otherwise).canon := by
  unfold State.applyPending
  repeat' first
    | intro _
    | with_reducible first
        | assumption | exact memWf_nil | apply State.clr_canon | apply State.goReady_canon | apply State.toStandby_canon
        | apply State.mem_ok | apply hf
    | refine pair_canon (by assumption) ?_
    | refine tripR_canon (by assumption) ?_
    | dsimp only
    | split
    | simp only [State.canon_mk]

theorem execChainEnableDone_canon (c : Nat) (s : State) (hc : s.canon) : (next s (execChainEnableDone c s)).canon := by
  unfold execChainEnableDone
  repeat' first
    | intro _
    | with_reducible first
        | assumption | exact memWf_nil | apply State.put_canon | apply State.clr_canon | apply State.applyPending_canon
        | apply next_canon | apply ite_c
    | dsimp only
    | split

theorem State.vcoPut_canon (s : State) (n : Nat) (band : Nat) (amp : Nat) (loop : Nat) (temp : Nat) (hc : s.canon) : (State.vcoPut s n band amp loop temp).canon := by
  unfold State.vcoPut
  repeat' first
    | intro _
    | with_reducible first
        | assumption | exact memWf_nil | apply State.put_canon
    | dsimp only

theorem State.calibrated_canon (s : State) (c : Nat) (n : Nat) (hc : s.canon) : (State.calibrated s c n).canon := by
  unfold State.calibrated
  repeat' first
    | intro _
    | with_reducible first
        | assumption | exact memWf_nil | apply State.put_canon | apply State.clr_canon | apply State.draw_canon
        | apply State.vcoPut_canon
    | refine pair_canon (by assumption) ?_
    | refine tripR_canon (by assumption) ?_
    | dsimp only
    | split

theorem execSynthTuneDone_canon (c : Nat) (s : State) (hc : s.canon) : (next s (execSynthTuneDone c s)).canon := by
  unfold execSynthTuneDone
  repeat' first
    | intro _
    | with_reducible first
        | assumption | exact memWf_nil | apply State.put_canon | apply State.set_canon | apply State.clr_canon
        | apply State.calNext_canon | apply State.applyPending_canon | apply State.calibrated_canon | apply next_canon
        | apply ite_c
    | dsimp only
    | split

theorem execSynthLockLost_canon (c : Nat) (s : State) (hc : s.canon) : (next s (execSynthLockLost c s)).canon := by
  unfold execSynthLockLost
  repeat' first
    | intro _
    | with_reducible first
        | assumption | exact memWf_nil | apply State.set_canon | apply State.clr_canon | apply State.bump_canon
        | apply State.txEnd_canon | apply State.fault_canon | apply State.calNext_canon | apply State.toStandby_canon
        | apply next_canon | apply ite_c
    | dsimp only
    | split

theorem State.tunerTrial_canon (s : State) (p : Nat) (hc : s.canon) : (State.tunerTrial s p).canon := by
  unfold State.tunerTrial
  repeat' first
    | intro _
    | with_reducible first
        | assumption | exact memWf_nil | apply State.put_canon | apply State.set_canon | apply getD_canon | apply ite_c
    | dsimp only
    | split

theorem State.tunerStep_canon (s : State) (p : Nat) (hc : s.canon) : (State.tunerStep s p).canon := by
  unfold State.tunerStep
  repeat' first
    | intro _
    | with_reducible first
        | assumption | exact memWf_nil | apply State.put_canon | apply State.clr_canon | apply State.tunerTrial_canon
        | apply ite_c
    | dsimp only
    | split

theorem State.txSend_canon (s : State) (c : Nat) (r : TxReq) (hc : s.canon) : (State.txSend s c r).canon := by
  unfold State.txSend
  repeat' first
    | intro _
    | with_reducible first
        | assumption | exact memWf_nil | apply State.bump_canon | apply State.draw_canon | apply State.when_canon
        | apply State.mem_ok
    | refine pair_canon (by assumption) ?_
    | refine tripR_canon (by assumption) ?_
    | refine pairL_canon (by assumption) ?_
    | dsimp only
    | split
    | simp only [State.canon_mk]

theorem execTxStateEnter_canon (c : Nat) (s : State) (hc : s.canon) : (next s (execTxStateEnter c s)).canon := by
  unfold execTxStateEnter
  repeat' first
    | intro _
    | with_reducible first
        | assumption | exact memWf_nil | apply State.put_canon | apply State.clr_canon | apply State.bump_canon
        | apply State.portLines_canon | apply State.tunerStep_canon | apply State.txSend_canon | apply next_canon
        | apply State.mem_ok | apply ite_c
    | refine pair_canon (by assumption) ?_
    | refine tripR_canon (by assumption) ?_
    | dsimp only
    | split
    | simp only [State.canon_mk]

theorem execPowerLoopStep_canon (c : Nat) (measured : Int) (s : State) (hc : s.canon) : (next s (execPowerLoopStep c measured s)).canon := by
  unfold execPowerLoopStep
  repeat' first
    | intro _
    | with_reducible first
        | assumption | exact memWf_nil | apply State.putI_canon | apply next_canon | apply ite_c
    | dsimp only
    | split

theorem execTxLoopEnd_canon (c : Nat) (measured : Int) (s : State) (hc : s.canon) : (next s (execTxLoopEnd c measured s)).canon := by
  unfold execTxLoopEnd
  repeat' first
    | intro _
    | with_reducible first
        | assumption | exact memWf_nil | apply State.set_canon | apply State.putI_canon | apply State.when_canon
        | apply State.txEnd_canon | apply State.muteSet_canon | apply State.fault_canon | apply next_canon | apply ite_c
    | dsimp only
    | split

theorem State.aerialFault_canon (s : State) (c : Nat) (detail : List (Nat × List Nat)) (hc : s.canon) : (State.aerialFault s c detail).canon := by
  unfold State.aerialFault
  repeat' first
    | intro _
    | with_reducible first
        | assumption | exact memWf_nil | apply State.set_canon | apply State.txEnd_canon | apply State.muteSet_canon
        | apply State.fault_canon
    | dsimp only
    | split

theorem execFwdPowerCheck_canon (c : Nat) (fwd : Int) (s : State) (hc : s.canon) : (next s (execFwdPowerCheck c fwd s)).canon := by
  unfold execFwdPowerCheck
  repeat' first
    | intro _
    | with_reducible first
        | assumption | exact memWf_nil | apply State.aerialFault_canon | apply next_canon | apply ite_c
    | refine pair_canon (by assumption) ?_
    | refine tripR_canon (by assumption) ?_
    | dsimp only
    | split

theorem execAerialFaultDetect_canon (c : Nat) (rl : Nat) (s : State) (hc : s.canon) : (next s (execAerialFaultDetect c rl s)).canon := by
  unfold execAerialFaultDetect
  repeat' first
    | intro _
    | with_reducible first
        | assumption | exact memWf_nil | apply State.put_canon | apply State.aerialFault_canon | apply next_canon | apply ite_c
    | dsimp only
    | split

theorem State.tunerJudge_canon (s : State) (p : Nat) (rl : Nat) (seg : Nat) (hc : s.canon) : (State.tunerJudge s p rl seg).canon := by
  unfold State.tunerJudge
  repeat' first
    | intro _
    | with_reducible first
        | assumption | exact memWf_nil | apply State.put_canon | apply State.set_canon | apply State.clr_canon
        | apply State.bump_canon | apply ite_c
    | dsimp only
    | split

theorem State.rlClassify_canon (s : State) (c : Nat) (rl : Nat) (hc : s.canon) : (State.rlClassify s c rl).canon := by
  unfold State.rlClassify
  repeat' first
    | intro _
    | with_reducible first
        | assumption | exact memWf_nil | apply State.put_canon | apply State.set_canon | apply State.clr_canon
        | apply State.bump_canon | apply State.tunerJudge_canon | apply ite_c
    | dsimp only
    | split

theorem execTxLastSample_canon (c : Nat) (rl : Nat) (pwr : Int) (s : State) (hc : s.canon) : (next s (execTxLastSample c rl pwr s)).canon := by
  unfold execTxLastSample
  repeat' first
    | intro _
    | with_reducible first
        | assumption | exact memWf_nil | apply State.put_canon | apply State.putI_canon | apply State.txEnd_canon
        | apply State.rlClassify_canon | apply next_canon | apply ite_c
    | dsimp only
    | split

theorem State.airEnd_canon (s : State) (c : Nat) (hc : s.canon) : (State.airEnd s c).canon := by
  unfold State.airEnd
  repeat' first
    | intro _
    | with_reducible first
        | assumption | exact memWf_nil | apply State.ledgerCharge_canon | apply State.ledgerEarly_canon | apply State.mem_ok
        | apply ite_c
    | refine pair_canon (by assumption) ?_
    | refine tripR_canon (by assumption) ?_
    | dsimp only
    | split
    | simp only [State.canon_mk]

theorem State.txToReady_canon (s : State) (c : Nat) (hc : s.canon) : (State.txToReady s c).canon := by
  unfold State.txToReady
  repeat' first
    | intro _
    | with_reducible first
        | assumption | exact memWf_nil | apply State.put_canon | apply State.clr_canon | apply State.pushRes_canon
        | apply State.popReq_canon | apply State.portLines_canon | apply State.chainStop_canon | apply State.coexRelease_canon
        | apply State.toStandby_canon | apply State.applyPending_canon | apply State.airEnd_canon | apply State.mem_ok
        | apply ite_c
    | refine pair_canon (by assumption) ?_
    | refine tripR_canon (by assumption) ?_
    | dsimp only
    | split
    | simp only [State.canon_mk]

theorem execTxToReadyDone_canon (c : Nat) (s : State) (hc : s.canon) : (next s (execTxToReadyDone c s)).canon := by
  unfold execTxToReadyDone
  repeat' first
    | intro _
    | with_reducible first
        | assumption | exact memWf_nil | apply State.txToReady_canon | apply next_canon | apply ite_c
    | dsimp only
    | split

theorem execOutputReadbackMismatch_canon (k : Nat) (p : Nat) (s : State) (hc : s.canon) : (next s (execOutputReadbackMismatch k p s)).canon := by
  unfold execOutputReadbackMismatch
  repeat' first
    | intro _
    | with_reducible first
        | assumption | exact memWf_nil | apply State.put_canon | apply State.set_canon | apply State.each_canon
        | apply State.muteSet_canon | apply State.fault_canon | apply next_canon | apply ite_c
    | refine pair_canon (by assumption) ?_
    | refine tripR_canon (by assumption) ?_
    | dsimp only
    | split

theorem execTxcMuteWrite_canon (r : Req) (c : Nat) (v : Nat) (s : State) (hc : s.canon) : (next s (execTxcMuteWrite r c v s)).canon := by
  unfold execTxcMuteWrite
  repeat' first
    | intro _
    | with_reducible first
        | assumption | exact memWf_nil | apply State.muteClr_canon | apply State.onBus_canon | apply next_canon | apply State.draw_canon
        | apply ite_c
    | dsimp only
    | split

theorem execRunawayTimeout_canon (c : Nat) (s : State) (hc : s.canon) : (next s (execRunawayTimeout c s)).canon := by
  unfold execRunawayTimeout
  repeat' first
    | intro _
    | with_reducible first
        | assumption | exact memWf_nil | apply State.muteSet_canon | apply State.fault_canon | apply next_canon
        | apply State.mem_ok | apply ite_c
    | refine pair_canon (by assumption) ?_
    | refine tripR_canon (by assumption) ?_
    | dsimp only
    | split
    | simp only [State.canon_mk]

theorem execDetCheck_canon (p : Nat) (pa : Bool) (fwd : Bool) (rev : Bool) (s : State) (hc : s.canon) : (next s (execDetCheck p pa fwd rev s)).canon := by
  unfold execDetCheck
  repeat' first
    | intro _
    | with_reducible first
        | assumption | exact memWf_nil | apply State.put_canon | apply State.set_canon | apply State.when_canon
        | apply State.each_canon | apply State.muteSet_canon | apply State.muteClr_canon | apply State.fault_canon
        | apply next_canon | apply ite_c
    | dsimp only
    | split

theorem execCoexReqAssert_canon (n : Nat) (s : State) (hc : s.canon) : (next s (execCoexReqAssert n s)).canon := by
  unfold execCoexReqAssert
  repeat' first
    | intro _
    | with_reducible first
        | assumption | exact memWf_nil | apply State.coexAssert_canon | apply next_canon | apply ite_c
    | dsimp only
    | split

theorem execCoexGntFall_canon (s : State) (hc : s.canon) : (next s (execCoexGntFall s)).canon := by
  unfold execCoexGntFall
  repeat' first
    | intro _
    | with_reducible first
        | assumption | exact memWf_nil | apply State.clr_canon | apply State.bump_canon | apply State.each_canon
        | apply State.txEnd_canon | apply State.orFlag_canon | apply next_canon | apply ite_c
    | dsimp only
    | split

theorem State.coexStart_canon (s : State) (hc : s.canon) : (State.coexStart s).canon := by
  unfold State.coexStart
  repeat' first
    | intro _
    | with_reducible first
        | assumption | exact memWf_nil | apply State.put_canon | apply State.set_canon | apply State.clr_canon
    | dsimp only

theorem execCoexCheck_canon (r : Req) (s : State) (hc : s.canon) : (next s (execCoexCheck r s)).canon := by
  unfold execCoexCheck
  repeat' first
    | intro _
    | with_reducible first
        | assumption | exact memWf_nil | apply State.onBus_canon | apply State.coexStart_canon | apply next_canon
    | dsimp only

theorem execCoexCheckStepEnd_canon (x : Bool) (s : State) (hc : s.canon) : (next s (execCoexCheckStepEnd x s)).canon := by
  unfold execCoexCheckStepEnd
  repeat' first
    | intro _
    | with_reducible first
        | assumption | exact memWf_nil | apply State.put_canon | apply State.clr_canon | apply State.coexDrive_canon
        | apply next_canon | apply State.mem_ok | apply ite_c
    | refine pair_canon (by assumption) ?_
    | refine tripR_canon (by assumption) ?_
    | dsimp only
    | split
    | simp only [State.canon_mk]

theorem execCoexLeadWrite_canon (r : Req) (v : Nat) (s : State) (hc : s.canon) : (next s (execCoexLeadWrite r v s)).canon := by
  unfold execCoexLeadWrite
  repeat' first
    | intro _
    | with_reducible first
        | assumption | exact memWf_nil | apply State.put_canon | apply State.set_canon | apply State.onBus_canon
        | apply next_canon | apply ite_c
    | dsimp only
    | split

theorem execChplanWrite_canon (r : Req) (h : Nat) (off : Nat) (v : Nat) (s : State) (hc : s.canon) : (next s (execChplanWrite r h off v s)).canon := by
  unfold execChplanWrite
  repeat' first
    | intro _
    | with_reducible first
        | assumption | exact memWf_nil | apply State.put_canon | apply State.set_canon | apply State.onBus_canon
        | apply next_canon | apply State.mem_ok | apply ite_c
    | refine pair_canon (by assumption) ?_
    | refine tripR_canon (by assumption) ?_
    | dsimp only
    | split
    | simp only [State.canon_mk]

theorem execPanmapWrite_canon (r : Req) (i : Nat) (off : Nat) (v : Nat) (s : State) (hc : s.canon) : (next s (execPanmapWrite r i off v s)).canon := by
  unfold execPanmapWrite
  repeat' first
    | intro _
    | with_reducible first
        | assumption | exact memWf_nil | apply State.put_canon | apply State.set_canon | apply State.onBus_canon
        | apply next_canon | apply ite_c
    | dsimp only
    | split

theorem execAirEui64Write_canon (r : Req) (v : Nat) (s : State) (hc : s.canon) : (next s (execAirEui64Write r v s)).canon := by
  unfold execAirEui64Write
  repeat' first
    | intro _
    | with_reducible first
        | assumption | exact memWf_nil | apply State.put_canon | apply State.set_canon | apply State.onBus_canon
        | apply next_canon | apply ite_c
    | dsimp only
    | split

theorem execProfileSetRegion_canon (c : Cmd) (region : Nat) (s : State) (hc : s.canon) : (next s (execProfileSetRegion c region s)).canon := by
  unfold execProfileSetRegion
  repeat' first
    | intro _
    | with_reducible first
        | assumption | exact memWf_nil | apply State.put_canon | apply State.finish_canon | apply next_canon | apply ite_c
    | dsimp only
    | split

theorem State.lockProfile_canon (s : State) (hc : s.canon) : (State.lockProfile s).canon := by
  unfold State.lockProfile
  repeat' first
    | intro _
    | with_reducible first
        | assumption | exact memWf_nil | apply State.put_canon | apply State.set_canon | apply State.each_canon
        | apply State.muteClr_canon
    | dsimp only
    | split

theorem execRegprofLockSet_canon (r : Req) (s : State) (hc : s.canon) : (next s (execRegprofLockSet r s)).canon := by
  unfold execRegprofLockSet
  repeat' first
    | intro _
    | with_reducible first
        | assumption | exact memWf_nil | apply State.set_canon | apply State.each_canon | apply State.muteClr_canon
        | apply State.onBus_canon | apply State.lockProfile_canon | apply next_canon | apply ite_c
    | dsimp only
    | split

theorem execDutySlotEnd_canon (i : Nat) (s : State) (hc : s.canon) : (next s (execDutySlotEnd i s)).canon := by
  unfold execDutySlotEnd
  repeat' first
    | intro _
    | with_reducible first
        | assumption | exact memWf_nil | apply State.ledgerSave_canon | apply next_canon | apply State.mem_ok | apply ite_c
    | dsimp only
    | split
    | simp only [State.canon_mk]

theorem State.ledgerRestore_canon (s : State) (hc : s.canon) : (State.ledgerRestore s).canon := by
  unfold State.ledgerRestore
  repeat' first
    | intro _
    | with_reducible first
        | assumption | exact memWf_nil | apply State.set_canon | apply foldl_canon | apply foldlL_canon | apply foldlR_canon
        | apply State.mem_ok | apply ite_c
    | refine pair_canon (by assumption) ?_
    | refine tripR_canon (by assumption) ?_
    | dsimp only
    | split
    | simp only [State.canon_mk]

theorem State.quietReserve_canon (s : State) (g : GateCase) (port : Nat) (len : Nat) (hc : s.canon) : ((State.quietReserve s g port len).2).canon := by
  unfold State.quietReserve
  repeat' first
    | intro _
    | with_reducible first
        | assumption | exact memWf_nil | apply State.put_canon | apply foldl_canon | apply foldlL_canon | apply foldlR_canon
        | apply State.mem_ok | apply ite_c
    | refine pair_canon (by assumption) ?_
    | refine tripR_canon (by assumption) ?_
    | dsimp only
    | split
    | simp only [State.canon_mk]

theorem State.gateCount_canon (s : State) (v : Nat) (b : Nat) (hc : s.canon) : (State.gateCount s v b).canon := by
  unfold State.gateCount
  repeat' first
    | intro _
    | with_reducible first
        | assumption | exact memWf_nil | apply State.bump_canon | apply State.mem_ok | apply ite_c
    | refine pair_canon (by assumption) ?_
    | refine tripR_canon (by assumption) ?_
    | dsimp only
    | split
    | simp only [State.canon_mk]

theorem State.airPrune_canon (s : State) (hc : s.canon) : (State.airPrune s).canon := by
  unfold State.airPrune
  repeat' first
    | intro _
    | with_reducible first
        | assumption | exact memWf_nil | apply State.mem_ok
    | dsimp only
    | simp only [State.canon_mk]

theorem State.gateClear_canon (s : State) (g : GateCase) (port : Nat) (n : Nat) (hc : s.canon) : (State.gateClear s g port n).canon := by
  unfold State.gateClear
  repeat' first
    | intro _
    | with_reducible first
        | assumption | exact memWf_nil | apply State.set_canon | apply State.ledgerCharge_canon | apply State.ledgerEarly_canon
        | apply State.airPrune_canon | apply State.mem_ok
    | dsimp only
    | split
    | simp only [State.canon_mk]

theorem State.gateDecide_canon (s : State) (n : Nat) (hc : s.canon) : (s.gateDecide n).canon := by
  unfold State.gateDecide
  extract_lets ch c
  split
  · exact hc
  split
  · exact hc
  split
  · exact hc
  extract_lets s1 port f16 g lbtOn random
  have q1 : s1.canon := State.limitPower_canon _ _ _ hc
  clear_value s1 port random g
  split
  ·
    repeat' first
      | intro _
      | with_reducible first
          | assumption | exact memWf_nil | apply State.draw_canon | apply State.endHead_canon | apply State.disarm_canon
          | apply State.limitPower_canon | apply State.quietDrop_canon | apply State.gatePost_canon | apply State.ackDrop_canon
          | apply State.quietReserve_canon | apply State.gateCount_canon | apply State.gateClear_canon | apply State.mem_ok
          | apply ite_c
      | refine pair_canon (by assumption) ?_
      | refine tripR_canon (by assumption) ?_
      | dsimp only
      | split
      | simp only [State.canon_mk]

  split
  rename_i x s2 h2
  have q2 : s2.canon := by
    refine pair_canon h2 ?_
    split
    · exact State.draw_canon q1
    · exact q1
  extract_lets len
  clear_value len
  split
  extract_lets s3 s4
  have q3 : s3.canon := State.gateCount_canon _ _ _ q2
  have q4 : s4.canon := by
    simp only [s4]
    split
    · exact q3
    · exact State.quietDrop_canon _ _ q3
  clear_value s3 s4
  split
  rename_i h5
  have q5 := pair_canon h5 (by
    split
    · exact State.quietReserve_canon _ _ _ _ q4
    · exact q4)
  split
  · extract_lets s6
    have q6 : s6.canon := State.gateClear_canon _ _ _ _ q5
    clear_value s6
    repeat' first
      | intro _
      | with_reducible first
          | assumption | exact memWf_nil | apply State.draw_canon | apply State.endHead_canon | apply State.disarm_canon
          | apply State.limitPower_canon | apply State.quietDrop_canon | apply State.gatePost_canon | apply State.ackDrop_canon
          | apply State.quietReserve_canon | apply State.gateCount_canon | apply State.gateClear_canon | apply State.mem_ok
          | apply ite_c
      | refine pair_canon (by assumption) ?_
      | refine tripR_canon (by assumption) ?_
      | dsimp only
      | split
      | simp only [State.canon_mk]

  · split
    ·
      repeat' first
        | intro _
        | with_reducible first
            | assumption | exact memWf_nil | apply State.draw_canon | apply State.endHead_canon | apply State.disarm_canon
            | apply State.limitPower_canon | apply State.quietDrop_canon | apply State.gatePost_canon | apply State.ackDrop_canon
            | apply State.quietReserve_canon | apply State.gateCount_canon | apply State.gateClear_canon | apply State.mem_ok
            | apply ite_c
        | refine pair_canon (by assumption) ?_
        | refine tripR_canon (by assumption) ?_
        | dsimp only
        | split
        | simp only [State.canon_mk]

    ·
      repeat' first
        | intro _
        | with_reducible first
            | assumption | exact memWf_nil | apply State.draw_canon | apply State.endHead_canon | apply State.disarm_canon
            | apply State.limitPower_canon | apply State.quietDrop_canon | apply State.gatePost_canon | apply State.ackDrop_canon
            | apply State.quietReserve_canon | apply State.gateCount_canon | apply State.gateClear_canon | apply State.mem_ok
            | apply ite_c
        | refine pair_canon (by assumption) ?_
        | refine tripR_canon (by assumption) ?_
        | dsimp only
        | split
        | simp only [State.canon_mk]

theorem execGateDecision_canon (n : Nat) (s : State) (hc : s.canon) : (next s (execGateDecision n s)).canon := by
  unfold execGateDecision
  repeat' first
    | intro _
    | with_reducible first
        | assumption | exact memWf_nil | apply State.each_canon | apply State.gateDecide_canon | apply next_canon | apply ite_c
    | dsimp only
    | split

theorem execQuietRelease_canon (s : State) (hc : s.canon) : (next s (execQuietRelease s)).canon := by
  unfold execQuietRelease
  repeat' first
    | intro _
    | with_reducible first
        | assumption | exact memWf_nil | apply State.quietDrop_canon | apply next_canon
    | dsimp only

theorem State.slotWrite_canon (s : State) (n : Nat) (h : Nat) (parent : Nat) (use : Nat) (type : Nat) (mat : List Nat) (hc : s.canon) : (State.slotWrite s n h parent use type mat).canon := by
  unfold State.slotWrite
  repeat' first
    | intro _
    | with_reducible first
        | assumption | exact memWf_nil | apply State.put_canon | apply State.bump_canon | apply State.drop_canon
        | apply State.putIf_canon | apply State.when_canon
    | dsimp only
    | split

theorem State.slotErase_canon (s : State) (n : Nat) (hc : s.canon) : (State.slotErase s n).canon := by
  unfold State.slotErase
  repeat' first
    | intro _
    | with_reducible first
        | assumption | exact memWf_nil | apply State.put_canon | apply State.clr_canon | apply State.bump_canon
        | apply State.drop_canon | apply State.each_canon
    | dsimp only
    | split

theorem State.cacheUse_canon (s : State) (t : KeyTag) (hc : s.canon) : (State.cacheUse s t).canon := by
  unfold State.cacheUse
  repeat' first
    | intro _
    | with_reducible first
        | assumption | exact memWf_nil | apply State.set_canon | apply State.bump_canon | apply State.drop_canon
        | apply State.mem_ok | apply ite_c
    | refine pair_canon (by assumption) ?_
    | refine tripR_canon (by assumption) ?_
    | dsimp only
    | split
    | simp only [State.canon_mk]

theorem State.derive_canon (s : State) (kind : Nat) (h : Nat) (ident : Nat) (gen : Nat) (hc : s.canon) : ((State.derive s kind h ident gen).2.2).canon := by
  unfold State.derive
  repeat' first
    | intro _
    | with_reducible first
        | assumption | exact memWf_nil | apply State.cacheUse_canon | apply ite_c
    | refine pair_canon (by assumption) ?_
    | refine tripR_canon (by assumption) ?_
    | dsimp only
    | split

theorem State.linkKey_canon (s : State) (e : Nat) (g : Nat) (hc : s.canon) : ((State.linkKey s e g).2.2).canon := by
  unfold State.linkKey
  repeat' first
    | intro _
    | with_reducible first
        | assumption | exact memWf_nil | apply State.derive_canon | apply ite_c
    | refine pair_canon (by assumption) ?_
    | refine tripR_canon (by assumption) ?_
    | dsimp only
    | split

theorem State.groupKey_canon (s : State) (h : Nat) (g : Nat) (hc : s.canon) : ((State.groupKey s h g).2.2).canon := by
  unfold State.groupKey
  repeat' first
    | intro _
    | with_reducible first
        | assumption | exact memWf_nil | apply State.derive_canon
    | dsimp only

theorem State.installKey_canon (s : State) (h : Nat) (eui : Nat) (hc : s.canon) : ((State.installKey s h eui).2.2).canon := by
  unfold State.installKey
  repeat' first
    | intro _
    | with_reducible first
        | assumption | exact memWf_nil | apply State.derive_canon
    | dsimp only

theorem State.postCommand_canon (s : State) (e : Nat) (sec : Secure) (payload : List Nat) (hc : s.canon) : (State.postCommand s e sec payload).canon := by
  unfold State.postCommand
  repeat' first
    | intro _
    | with_reducible first
        | assumption | exact memWf_nil | apply State.takeIn_canon | apply getD_canon | apply State.mem_ok
    | dsimp only
    | split
    | simp only [State.canon_mk]

theorem State.startRekey_canon (s : State) (e : Nat) (hc : s.canon) : ((State.startRekey s e).2).canon := by
  unfold State.startRekey
  repeat' first
    | intro _
    | with_reducible first
        | assumption | exact memWf_nil | apply State.put_canon | apply State.set_canon | apply State.linkKey_canon
        | apply State.postCommand_canon | apply ite_c
    | refine pair_canon (by assumption) ?_
    | refine tripR_canon (by assumption) ?_
    | dsimp only
    | split

theorem State.commitRekey_canon (s : State) (e : Nat) (hc : s.canon) : (State.commitRekey s e).canon := by
  unfold State.commitRekey
  repeat' first
    | intro _
    | with_reducible first
        | assumption | exact memWf_nil | apply State.clr_canon | apply State.event_canon | apply State.wrE_canon
    | refine pair_canon (by assumption) ?_
    | refine tripR_canon (by assumption) ?_
    | dsimp only
    | split

theorem State.startGroup_canon (s : State) (h : Nat) (hc : s.canon) : ((State.startGroup s h).2).canon := by
  unfold State.startGroup
  repeat' first
    | intro _
    | with_reducible first
        | assumption | exact memWf_nil | apply State.put_canon | apply State.set_canon | apply State.each_canon
        | apply State.groupKey_canon | apply State.postCommand_canon | apply ite_c
    | refine pair_canon (by assumption) ?_
    | refine tripR_canon (by assumption) ?_
    | dsimp only
    | split

theorem State.counterWarn_canon (s : State) (h : Nat) (entry : Nat) (eui : Nat) (stream : Nat) (c : Nat) (hc : s.canon) : (State.counterWarn s h entry eui stream c).canon := by
  unfold State.counterWarn
  repeat' first
    | intro _
    | with_reducible first
        | assumption | exact memWf_nil | apply State.set_canon | apply State.event_canon
    | refine pair_canon (by assumption) ?_
    | refine tripR_canon (by assumption) ?_
    | dsimp only

theorem State.takeTx_canon (s : State) (e : Nat) (hc : s.canon) : ((State.takeTx s e).2).canon := by
  unfold State.takeTx
  repeat' first
    | intro _
    | with_reducible first
        | assumption | exact memWf_nil | apply State.set_canon | apply State.wrE_canon | apply State.startRekey_canon
        | apply State.counterWarn_canon | apply ite_c
    | refine pair_canon (by assumption) ?_
    | refine tripR_canon (by assumption) ?_
    | dsimp only
    | split

theorem State.takeGroup_canon (s : State) (h : Nat) (hc : s.canon) : ((State.takeGroup s h).2).canon := by
  unfold State.takeGroup
  repeat' first
    | intro _
    | with_reducible first
        | assumption | exact memWf_nil | apply State.put_canon | apply State.set_canon | apply State.when_canon
        | apply State.startGroup_canon | apply State.counterWarn_canon | apply ite_c
    | refine pair_canon (by assumption) ?_
    | refine tripR_canon (by assumption) ?_
    | dsimp only
    | split

theorem State.groupResume_canon (s : State) (hc : s.canon) : (State.groupResume s).canon := by
  unfold State.groupResume
  repeat' first
    | intro _
    | with_reducible first
        | assumption | exact memWf_nil | apply State.put_canon | apply State.each_canon
    | dsimp only

theorem State.secureDown_canon (s : State) (d : Down) (n : Nat) (pan : Nat) (stamp : Nat) (pend : Bool) (hc : s.canon) : ((State.secureDown s d n pan stamp pend).2.2).canon := by
  unfold State.secureDown
  repeat' first
    | intro _
    | with_reducible first
        | assumption | exact memWf_nil | apply State.bump_canon | apply State.linkKey_canon | apply State.groupKey_canon
        | apply State.takeTx_canon | apply State.takeGroup_canon | apply State.mem_ok | apply ite_c
    | refine pair_canon (by assumption) ?_
    | refine tripR_canon (by assumption) ?_
    | dsimp only
    | split
    | simp only [State.canon_mk]

theorem State.drbgFail_canon (s : State) (hc : s.canon) : (State.drbgFail s).canon := by
  unfold State.drbgFail
  repeat' first
    | intro _
    | with_reducible first
        | assumption | exact memWf_nil | apply State.put_canon | apply State.set_canon | apply State.clr_canon
        | apply State.fault_canon | apply ite_c
    | dsimp only
    | split

theorem execDrbgHealthFail_canon (s : State) (hc : s.canon) : (next s (execDrbgHealthFail s)).canon := by
  unfold execDrbgHealthFail
  repeat' first
    | intro _
    | with_reducible first
        | assumption | exact memWf_nil | apply State.drbgFail_canon | apply next_canon
    | dsimp only

theorem execDrbgRestart_canon (pass : Bool) (s : State) (hc : s.canon) : (next s (execDrbgRestart pass s)).canon := by
  unfold execDrbgRestart
  repeat' first
    | intro _
    | with_reducible first
        | assumption | exact memWf_nil | apply State.set_canon | apply State.drbgFail_canon | apply next_canon | apply ite_c
    | dsimp only
    | split

theorem State.slotDone_canon (s : State) (c : Cmd) (op : Nat) (n : Nat) (hc : s.canon) : (State.slotDone s c op n).canon := by
  unfold State.slotDone
  repeat' first
    | intro _
    | with_reducible first
        | assumption | exact memWf_nil | apply State.complete_canon
    | refine pair_canon (by assumption) ?_
    | refine tripR_canon (by assumption) ?_
    | dsimp only

theorem execKeyImport_canon (c : Cmd) (target : Nat) (parent : Nat) (use : Nat) (type : Nat) (len : Nat) (addr : Nat) (s : State) (hc : s.canon) : (next s (execKeyImport c target parent use type len addr s)).canon := by
  unfold execKeyImport
  repeat' first
    | intro _
    | with_reducible first
        | assumption | exact memWf_nil | apply State.bump_canon | apply State.when_canon | apply State.finish_canon
        | apply State.slotWrite_canon | apply State.slotDone_canon | apply next_canon | apply State.mem_ok | apply ite_c
    | refine pair_canon (by assumption) ?_
    | refine tripR_canon (by assumption) ?_
    | dsimp only
    | split
    | simp only [State.canon_mk]

theorem execKeyDerive_canon (c : Cmd) (target : Nat) (parent : Nat) (use : Nat) (type : Nat) (labelLen : Nat) (ctxLen : Nat) (addr : Nat) (s : State) (hc : s.canon) : (next s (execKeyDerive c target parent use type labelLen ctxLen addr s)).canon := by
  unfold execKeyDerive
  repeat' first
    | intro _
    | with_reducible first
        | assumption | exact memWf_nil | apply State.bump_canon | apply State.drop_canon | apply State.finish_canon
        | apply State.slotWrite_canon | apply State.slotDone_canon | apply State.take_canon | apply next_canon | apply ite_c
    | refine pair_canon (by assumption) ?_
    | refine tripR_canon (by assumption) ?_
    | dsimp only
    | split

theorem execKeyErase_canon (c : Cmd) (slot : Nat) (s : State) (hc : s.canon) : (next s (execKeyErase c slot s)).canon := by
  unfold execKeyErase
  repeat' first
    | intro _
    | with_reducible first
        | assumption | exact memWf_nil | apply State.finish_canon | apply State.slotErase_canon | apply next_canon | apply ite_c
    | dsimp only
    | split

theorem execKeyInfo_canon (c : Cmd) (slot : Nat) (s : State) (hc : s.canon) : (next s (execKeyInfo c slot s)).canon := by
  unfold execKeyInfo
  repeat' first
    | intro _
    | with_reducible first
        | assumption | exact memWf_nil | apply State.complete_canon | apply State.finish_canon | apply next_canon | apply ite_c
    | refine pair_canon (by assumption) ?_
    | refine tripR_canon (by assumption) ?_
    | dsimp only
    | split

theorem State.newHedgeRoot_canon (s : State) (h : Nat) (hc : s.canon) : (State.newHedgeRoot s h).canon := by
  unfold State.newHedgeRoot
  repeat' first
    | intro _
    | with_reducible first
        | assumption | exact memWf_nil | apply State.put_canon | apply State.bump_canon
    | dsimp only
    | split

theorem execHedgeKeyWipe_canon (c : Cmd) (confirm : Nat) (s : State) (hc : s.canon) : (next s (execHedgeKeyWipe c confirm s)).canon := by
  unfold execHedgeKeyWipe
  repeat' first
    | intro _
    | with_reducible first
        | assumption | exact memWf_nil | apply State.clr_canon | apply State.bump_canon | apply State.each_canon
        | apply State.finish_canon | apply State.newHedgeRoot_canon | apply next_canon | apply State.mem_ok | apply ite_c
    | dsimp only
    | split
    | simp only [State.canon_mk]

theorem execTrustSet_canon (c : Cmd) (anchor : Nat) (lockAfter : Bool) (addr : Nat) (s : State) (hc : s.canon) : (next s (execTrustSet c anchor lockAfter addr s)).canon := by
  unfold execTrustSet
  repeat' first
    | intro _
    | with_reducible first
        | assumption | exact memWf_nil | apply State.put_canon | apply State.set_canon | apply State.when_canon
        | apply State.each_canon | apply State.finish_canon | apply next_canon | apply ite_c
    | dsimp only
    | split

theorem execTrustLockSet_canon (r : Req) (h : Nat) (v : Nat) (s : State) (hc : s.canon) : (next s (execTrustLockSet r h v s)).canon := by
  unfold execTrustLockSet
  repeat' first
    | intro _
    | with_reducible first
        | assumption | exact memWf_nil | apply State.set_canon | apply State.onBus_canon | apply next_canon | apply ite_c
    | dsimp only
    | split

theorem execAttest_canon (c : Cmd) (slot : Nat) (challenge : List Nat) (addr : Nat) (s : State) (hc : s.canon) : (next s (execAttest c slot challenge addr s)).canon := by
  unfold execAttest
  repeat' first
    | intro _
    | with_reducible first
        | assumption | exact memWf_nil | apply State.bump_canon | apply State.finish_canon | apply State.answer_canon
        | apply next_canon | apply ite_c
    | dsimp only
    | split

theorem execNodeRekey_canon (c : Cmd) (e : Nat) (s : State) (hc : s.canon) : (next s (execNodeRekey c e s)).canon := by
  unfold execNodeRekey
  repeat' first
    | intro _
    | with_reducible first
        | assumption | exact memWf_nil | apply State.bump_canon | apply State.when_canon | apply State.finish_canon
        | apply State.startRekey_canon | apply next_canon | apply ite_c
    | refine pair_canon (by assumption) ?_
    | refine tripR_canon (by assumption) ?_
    | dsimp only
    | split

theorem execGroupRekey_canon (c : Cmd) (s : State) (hc : s.canon) : (next s (execGroupRekey c s)).canon := by
  unfold execGroupRekey
  repeat' first
    | intro _
    | with_reducible first
        | assumption | exact memWf_nil | apply State.draw_canon | apply State.complete_canon | apply State.finish_canon
        | apply State.accepted_canon | apply State.startGroup_canon | apply next_canon | apply ite_c
    | refine pair_canon (by assumption) ?_
    | refine tripR_canon (by assumption) ?_
    | dsimp only
    | split

theorem execRekeyRetryExpire_canon (e : Nat) (s : State) (hc : s.canon) : (next s (execRekeyRetryExpire e s)).canon := by
  unfold execRekeyRetryExpire
  repeat' first
    | intro _
    | with_reducible first
        | assumption | exact memWf_nil | apply State.startRekey_canon | apply next_canon | apply ite_c
    | dsimp only
    | split

theorem execGroupSwitch_canon (h : Nat) (s : State) (hc : s.canon) : (next s (execGroupSwitch h s)).canon := by
  unfold execGroupSwitch
  repeat' first
    | intro _
    | with_reducible first
        | assumption | exact memWf_nil | apply State.put_canon | apply State.set_canon | apply State.clr_canon
        | apply State.event_canon | apply next_canon | apply ite_c
    | refine pair_canon (by assumption) ?_
    | refine tripR_canon (by assumption) ?_
    | dsimp only
    | split

theorem execGroupOverlapEnd_canon (h : Nat) (s : State) (hc : s.canon) : (next s (execGroupOverlapEnd h s)).canon := by
  unfold execGroupOverlapEnd
  repeat' first
    | intro _
    | with_reducible first
        | assumption | exact memWf_nil | apply State.clr_canon | apply next_canon | apply ite_c
    | dsimp only
    | split

theorem execKeyDestroyAll_canon (c : Cmd) (confirm : Nat) (s : State) (hc : s.canon) : (next s (execKeyDestroyAll c confirm s)).canon := by
  unfold execKeyDestroyAll
  repeat' first
    | intro _
    | with_reducible first
        | assumption | exact memWf_nil | apply State.put_canon | apply State.clr_canon | apply State.each_canon
        | apply State.finish_canon | apply next_canon | apply State.mem_ok | apply ite_c
    | dsimp only
    | split
    | simp only [State.canon_mk]

theorem execKeyOrphanSweep_canon (s : State) (hc : s.canon) : (next s (execKeyOrphanSweep s)).canon := by
  unfold execKeyOrphanSweep
  repeat' first
    | intro _
    | with_reducible first
        | assumption | exact memWf_nil | apply State.put_canon | apply State.each_canon | apply next_canon
    | dsimp only

theorem execKeyRetireZero_canon (s : State) (hc : s.canon) : (next s (execKeyRetireZero s)).canon := by
  unfold execKeyRetireZero
  repeat' first
    | intro _
    | with_reducible first
        | assumption | exact memWf_nil | apply next_canon | apply State.mem_ok
    | dsimp only
    | simp only [State.canon_mk]

theorem execSlotQuotaWrite_canon (r : Req) (h : Nat) (v : Nat) (s : State) (hc : s.canon) : (next s (execSlotQuotaWrite r h v s)).canon := by
  unfold execSlotQuotaWrite
  repeat' first
    | intro _
    | with_reducible first
        | assumption | exact memWf_nil | apply State.put_canon | apply State.set_canon | apply State.onPriv_canon
        | apply State.sum_canon | apply next_canon | apply ite_c
    | dsimp only
    | split

theorem State.ephemeral_canon (s : State) (hc : s.canon) : ((State.ephemeral s).2).canon := by
  unfold State.ephemeral
  repeat' first
    | intro _
    | with_reducible first
        | assumption | exact memWf_nil | apply State.put_canon | apply State.bump_canon | apply State.draw_canon
        | apply State.when_canon
    | refine pair_canon (by assumption) ?_
    | refine tripR_canon (by assumption) ?_
    | dsimp only
    | split

theorem State.joinOctets_canon (s : State) (e : Nat) (install : List Nat) (nonceN : List Nat) (ephN : List Nat) (authN : List Nat) (hc : s.canon) : ((State.joinOctets s e install nonceN ephN authN).2).canon := by
  unfold State.joinOctets
  repeat' first
    | intro _
    | with_reducible first
        | assumption | exact memWf_nil | apply State.bump_canon | apply State.draw_canon | apply State.linkKey_canon
        | apply State.groupKey_canon | apply State.ephemeral_canon | apply State.take_canon | apply State.mem_ok | apply ite_c
    | refine pair_canon (by assumption) ?_
    | refine tripR_canon (by assumption) ?_
    | dsimp only
    | split
    | simp only [State.canon_mk]

theorem State.joinRespond_canon (s : State) (e : Nat) (install : List Nat) (nonceN : List Nat) (ephN : List Nat) (authN : List Nat) (hc : s.canon) : (State.joinRespond s e install nonceN ephN authN).canon := by
  unfold State.joinRespond
  repeat' first
    | intro _
    | with_reducible first
        | assumption | exact memWf_nil | apply State.put_canon | apply State.bump_canon | apply State.drop_canon
        | apply State.postCommand_canon | apply State.joinOctets_canon | apply State.take_canon | apply State.mem_ok
        | apply ite_c
    | refine pair_canon (by assumption) ?_
    | refine tripR_canon (by assumption) ?_
    | dsimp only
    | split
    | simp only [State.canon_mk]

theorem execJoinResponsePart2_canon (e : Nat) (s : State) (hc : s.canon) : (next s (execJoinResponsePart2 e s)).canon := by
  unfold execJoinResponsePart2
  repeat' first
    | intro _
    | with_reducible first
        | assumption | exact memWf_nil | apply State.postCommand_canon | apply next_canon | apply State.mem_ok | apply ite_c
    | refine pair_canon (by assumption) ?_
    | refine tripR_canon (by assumption) ?_
    | dsimp only
    | split
    | simp only [State.canon_mk]

theorem State.laneSync_canon (s : State) (l : Nat) (g : Nat) (metric : Nat) (hc : s.canon) : (State.laneSync s l g metric).canon := by
  unfold State.laneSync
  repeat' first
    | intro _
    | with_reducible first
        | assumption | exact memWf_nil | apply State.set_canon | apply State.bump_canon | apply State.branchOk_canon
        | apply foldl_canon | apply foldlL_canon | apply foldlR_canon | apply State.mem_ok
    | refine pair_canon (by assumption) ?_
    | refine tripR_canon (by assumption) ?_
    | dsimp only
    | split
    | simp only [State.canon_mk]

theorem execSyncDeclare_canon (l : Nat) (g : Nat) (metric : Nat) (s : State) (hc : s.canon) : (next s (execSyncDeclare l g metric s)).canon := by
  unfold execSyncDeclare
  repeat' first
    | intro _
    | with_reducible first
        | assumption | exact memWf_nil | apply State.bump_canon | apply State.inFlight_canon | apply State.laneSync_canon
        | apply next_canon | apply State.mem_ok | apply ite_c
    | refine pair_canon (by assumption) ?_
    | refine tripR_canon (by assumption) ?_
    | dsimp only
    | split
    | simp only [State.canon_mk]

theorem State.laneGiveUp_canon (s : State) (l : Nat) (why : Fld) (hc : s.canon) : (State.laneGiveUp s l why).canon := by
  unfold State.laneGiveUp
  repeat' first
    | intro _
    | with_reducible first
        | assumption | exact memWf_nil | apply State.bump_canon | apply State.laneDrop_canon | apply State.lanePending_canon
    | dsimp only

theorem State.laneHeader_canon (s : State) (f : LaneFrame) (mode : Nat) (len : Nat) (fec : Bool) (long : Bool) (fcs : Nat) (seed : Nat) (ref : Nat) (hc : s.canon) : (State.laneHeader s f mode len fec long fcs seed ref).canon := by
  unfold State.laneHeader
  repeat' first
    | intro _
    | with_reducible first
        | assumption | exact memWf_nil | apply State.inFlight_canon | apply State.mem_ok
    | dsimp only
    | simp only [State.canon_mk]

theorem execLaneHeaderEnd_canon (l : Nat) (h : Header) (age : Nat) (s : State) (hc : s.canon) : (next s (execLaneHeaderEnd l h age s)).canon := by
  unfold execLaneHeaderEnd
  repeat' first
    | intro _
    | with_reducible first
        | assumption | exact memWf_nil | apply State.bump_canon | apply State.inFlight_canon | apply State.laneGiveUp_canon
        | apply State.laneHeader_canon | apply State.take_canon | apply next_canon | apply State.mem_ok | apply ite_c
    | refine pair_canon (by assumption) ?_
    | refine tripR_canon (by assumption) ?_
    | dsimp only
    | split
    | simp only [State.canon_mk]

theorem State.heardOut_canon (s : State) (x : Heard) (hc : s.canon) : (State.heardOut s x).canon := by
  unfold State.heardOut
  repeat' first
    | intro _
    | with_reducible first
        | assumption | exact memWf_nil | apply State.hwIn_canon | apply State.mem_ok | apply ite_c
    | refine pair_canon (by assumption) ?_
    | refine tripR_canon (by assumption) ?_
    | dsimp only
    | split
    | simp only [State.canon_mk]

theorem State.dupCount_canon (s : State) (l : Nat) (hc : s.canon) : (State.dupCount s l).canon := by
  unfold State.dupCount
  repeat' first
    | intro _
    | with_reducible first
        | assumption | exact memWf_nil | apply State.bump_canon
    | dsimp only

theorem State.heardIn_canon (s : State) (x : Heard) (hc : s.canon) : (State.heardIn s x).canon := by
  unfold State.heardIn
  repeat' first
    | intro _
    | with_reducible first
        | assumption | exact memWf_nil | apply State.heardOut_canon | apply State.dupCount_canon | apply State.mem_ok
        | apply ite_c
    | refine pair_canon (by assumption) ?_
    | refine tripR_canon (by assumption) ?_
    | dsimp only
    | split
    | simp only [State.canon_mk]

theorem State.handOne_canon (s : State) (f : LaneFrame) (hc : s.canon) : (State.handOne s f).canon := by
  unfold State.handOne
  repeat' first
    | intro _
    | with_reducible first
        | assumption | exact memWf_nil | apply State.put_canon | apply State.bump_canon | apply State.heardIn_canon
        | apply State.mem_ok | apply ite_c
    | refine pair_canon (by assumption) ?_
    | refine tripR_canon (by assumption) ?_
    | dsimp only
    | split
    | simp only [State.canon_mk]

theorem State.handOff_canon (s : State) (l : Nat) (hc : s.canon) : (State.handOff s l).canon := by
  unfold State.handOff
  repeat' first
    | intro _
    | with_reducible first
        | assumption | exact memWf_nil | apply State.each_canon | apply State.handOne_canon | apply State.ready_canon
    | dsimp only

theorem execDupWinExpire_canon (s : State) (hc : s.canon) : (next s (execDupWinExpire s)).canon := by
  unfold execDupWinExpire
  repeat' first
    | intro _
    | with_reducible first
        | assumption | exact memWf_nil | apply State.each_canon | apply State.heardOut_canon | apply next_canon
        | apply State.mem_ok | apply ite_c
    | dsimp only
    | split
    | simp only [State.canon_mk]

theorem State.poolSync_canon (s : State) (hc : s.canon) : (State.poolSync s).canon := by
  unfold State.poolSync
  repeat' first
    | intro _
    | with_reducible first
        | assumption | exact memWf_nil | apply State.put_canon | apply State.set_canon | apply State.clr_canon | apply ite_c
    | dsimp only
    | split

theorem State.frameFail_canon (s : State) (uid : Nat) (hc : s.canon) : (State.frameFail s uid).canon := by
  unfold State.frameFail
  repeat' first
    | intro _
    | with_reducible first
        | assumption | exact memWf_nil | apply State.bump_canon | apply State.handOff_canon | apply State.mem_ok | apply ite_c
    | refine pair_canon (by assumption) ?_
    | refine tripR_canon (by assumption) ?_
    | dsimp only
    | split
    | simp only [State.canon_mk]

theorem State.cwDrop_canon (s : State) (uid : Nat) (hc : s.canon) : (State.cwDrop s uid).canon := by
  unfold State.cwDrop
  repeat' first
    | intro _
    | with_reducible first
        | assumption | exact memWf_nil | apply State.set_canon | apply State.bump_canon | apply State.frameFail_canon
    | dsimp only

theorem State.poolOrphans_canon (s : State) (hc : s.canon) : (State.poolOrphans s).canon := by
  unfold State.poolOrphans
  repeat' first
    | intro _
    | with_reducible first
        | assumption | exact memWf_nil | apply State.each_canon | apply State.poolSync_canon | apply State.cwDrop_canon
        | apply State.mem_ok | apply ite_c
    | dsimp only
    | split
    | simp only [State.canon_mk]

theorem State.decLeave_canon (s : State) (k : Nat) (hc : s.canon) : (State.decLeave s k).canon := by
  unfold State.decLeave
  repeat' first
    | intro _
    | with_reducible first
        | assumption | exact memWf_nil | apply State.put_canon | apply State.set_canon | apply State.poolOrphans_canon
        | apply ite_c
    | dsimp only
    | split

theorem State.decFault_canon (s : State) (k : Nat) (iters : Nat) (hc : s.canon) : (State.decFault s k iters).canon := by
  unfold State.decFault
  repeat' first
    | intro _
    | with_reducible first
        | assumption | exact memWf_nil | apply State.put_canon | apply State.bump_canon | apply State.poolSync_canon
        | apply State.decLeave_canon | apply State.mem_ok | apply ite_c
    | dsimp only
    | split
    | simp only [State.canon_mk]

theorem execLdpcCwSubmit_canon (x : CwIn) (s : State) (hc : s.canon) : (next s (execLdpcCwSubmit x s)).canon := by
  unfold execLdpcCwSubmit
  repeat' first
    | intro _
    | with_reducible first
        | assumption | exact memWf_nil | apply State.poolSync_canon | apply State.cwDrop_canon | apply getD_canon
        | apply next_canon | apply State.mem_ok | apply ite_c
    | refine pair_canon (by assumption) ?_
    | refine tripR_canon (by assumption) ?_
    | dsimp only
    | split
    | simp only [State.canon_mk]

theorem execLdpcDecodeStart_canon (k : Nat) (s : State) (hc : s.canon) : (next s (execLdpcDecodeStart k s)).canon := by
  unfold execLdpcDecodeStart
  repeat' first
    | intro _
    | with_reducible first
        | assumption | exact memWf_nil | apply State.bump_canon | apply State.when_canon | apply State.poolSync_canon
        | apply next_canon | apply State.mem_ok | apply ite_c
    | refine pair_canon (by assumption) ?_
    | refine tripR_canon (by assumption) ?_
    | dsimp only
    | split
    | simp only [State.canon_mk]

theorem State.wordIn_canon (s : State) (w : CodeWord) (iter : Nat) (v : Nat) (hc : s.canon) : (State.wordIn s w iter v).canon := by
  unfold State.wordIn
  repeat' first
    | intro _
    | with_reducible first
        | assumption | exact memWf_nil | apply State.handOff_canon | apply State.mem_ok | apply ite_c
    | refine pair_canon (by assumption) ?_
    | refine tripR_canon (by assumption) ?_
    | dsimp only
    | split
    | simp only [State.canon_mk]

theorem execLdpcDecodeDone_canon (k : Nat) (iter : Nat) (word : Nat) (s : State) (hc : s.canon) : (next s (execLdpcDecodeDone k iter word s)).canon := by
  unfold execLdpcDecodeDone
  repeat' first
    | intro _
    | with_reducible first
        | assumption | exact memWf_nil | apply State.bump_canon | apply State.when_canon | apply State.frameFail_canon
        | apply State.decLeave_canon | apply State.wordIn_canon | apply next_canon | apply State.mem_ok | apply ite_c
    | refine pair_canon (by assumption) ?_
    | refine tripR_canon (by assumption) ?_
    | dsimp only
    | split
    | simp only [State.canon_mk]

theorem execLdpcCfgWrite_canon (r : Req) (off : Nat) (v : Nat) (s : State) (hc : s.canon) : (next s (execLdpcCfgWrite r off v s)).canon := by
  unfold execLdpcCfgWrite
  repeat' first
    | intro _
    | with_reducible first
        | assumption | exact memWf_nil | apply State.put_canon | apply State.set_canon | apply State.onBus_canon
        | apply State.poolSync_canon | apply next_canon | apply ite_c
    | dsimp only
    | split

theorem execLdpcDecEnWrite_canon (r : Req) (v : Nat) (s : State) (hc : s.canon) : (next s (execLdpcDecEnWrite r v s)).canon := by
  unfold execLdpcDecEnWrite
  repeat' first
    | intro _
    | with_reducible first
        | assumption | exact memWf_nil | apply State.put_canon | apply State.each_canon | apply State.onBus_canon
        | apply State.decLeave_canon | apply next_canon | apply ite_c
    | dsimp only
    | split

theorem execLaneFrameEnd_canon (l : Nat) (m : LaneMeasure) (s : State) (hc : s.canon) : (next s (execLaneFrameEnd l m s)).canon := by
  unfold execLaneFrameEnd
  repeat' first
    | intro _
    | with_reducible first
        | assumption | exact memWf_nil | apply State.inFlight_canon | apply State.laneIdle_canon | apply State.laneDrop_canon
        | apply State.lanePending_canon | apply State.handOff_canon | apply State.take_canon | apply next_canon
        | apply State.mem_ok | apply ite_c
    | refine pair_canon (by assumption) ?_
    | refine tripR_canon (by assumption) ?_
    | dsimp only
    | split
    | simp only [State.canon_mk]

theorem State.seenShow_canon (s : State) (h : Nat) (hc : s.canon) : (State.seenShow s h).canon := by
  unfold State.seenShow
  repeat' first
    | intro _
    | with_reducible first
        | assumption | exact memWf_nil | apply State.put_canon
    | dsimp only

theorem State.seenAdd_canon (s : State) (h : Nat) (o : Nat) (q : Nat) (hc : s.canon) : (State.seenAdd s h o q).canon := by
  unfold State.seenAdd
  repeat' first
    | intro _
    | with_reducible first
        | assumption | exact memWf_nil | apply State.bump_canon | apply State.seenShow_canon | apply State.mem_ok | apply ite_c
    | refine pair_canon (by assumption) ?_
    | refine tripR_canon (by assumption) ?_
    | dsimp only
    | split
    | simp only [State.canon_mk]

theorem State.startFlood_canon (s : State) (d : Down) (hc : s.canon) : ((State.startFlood s d).2).canon := by
  unfold State.startFlood
  repeat' first
    | intro _
    | with_reducible first
        | assumption | exact memWf_nil | apply State.bump_canon | apply State.each_canon | apply State.seenAdd_canon
        | apply State.mem_ok | apply ite_c
    | refine pair_canon (by assumption) ?_
    | refine tripR_canon (by assumption) ?_
    | dsimp only
    | split
    | simp only [State.canon_mk]

theorem State.beaconBody_canon (s : State) (phase : Nat) (hc : s.canon) : ((State.beaconBody s phase).2).canon := by
  unfold State.beaconBody
  repeat' first
    | intro _
    | with_reducible first
        | assumption | exact memWf_nil | apply State.draw_canon | apply ite_c
    | refine pair_canon (by assumption) ?_
    | refine tripR_canon (by assumption) ?_
    | dsimp only
    | split

theorem State.secureNow_canon (s : State) (d : Down) (hc : s.canon) : ((State.secureNow s d).2.2).canon := by
  unfold State.secureNow
  repeat' first
    | intro _
    | with_reducible first
        | assumption | exact memWf_nil | apply State.secureDown_canon | apply State.beaconBody_canon | apply State.mem_ok
        | apply ite_c
    | refine pair_canon (by assumption) ?_
    | refine tripR_canon (by assumption) ?_
    | dsimp only
    | split
    | simp only [State.canon_mk]

theorem State.hopDeliver_canon (s : State) (gen : Nat) (f : RxFrame) (hc : s.canon) : (State.hopDeliver s gen f).canon := by
  unfold State.hopDeliver
  repeat' first
    | intro _
    | with_reducible first
        | assumption | exact memWf_nil | apply State.bump_canon | apply State.when_canon | apply State.rxIn_canon
        | apply State.wrE_canon | apply State.hit_canon | apply ite_c
    | dsimp only
    | split

theorem State.relayEnd_canon (s : State) (d : Down) (status : Nat) (hc : s.canon) : (State.relayEnd s d status).canon := by
  unfold State.relayEnd
  repeat' first
    | intro _
    | with_reducible first
        | assumption | exact memWf_nil | apply State.bump_canon | apply State.hopDeliver_canon | apply State.mem_ok | apply ite_c
    | refine pair_canon (by assumption) ?_
    | refine tripR_canon (by assumption) ?_
    | dsimp only
    | split
    | simp only [State.canon_mk]

theorem State.finishDown_canon (s : State) (d : Down) (status : Nat) (hc : s.canon) : (State.finishDown s d status).canon := by
  unfold State.finishDown
  repeat' first
    | intro _
    | with_reducible first
        | assumption | exact memWf_nil | apply State.bump_canon | apply State.drop_canon | apply State.when_canon
        | apply State.setDown_canon | apply State.downEnd_canon | apply State.relayEnd_canon | apply State.mem_ok | apply ite_c
    | dsimp only
    | split
    | simp only [State.canon_mk]

theorem State.placePlan_canon (s : State) (d : Down) (hc : s.canon) : (State.placePlan s d).canon := by
  unfold State.placePlan
  repeat' first
    | intro _
    | with_reducible first
        | assumption | exact memWf_nil | apply State.setDown_canon | apply State.giveBack_canon | apply State.mem_ok
        | apply ite_c
    | dsimp only
    | split
    | simp only [State.canon_mk]

theorem State.holdDown_canon (s : State) (d : Down) (hc : s.canon) : (State.holdDown s d).canon := by
  unfold State.holdDown
  repeat' first
    | intro _
    | with_reducible first
        | assumption | exact memWf_nil | apply State.setDown_canon | apply State.giveBack_canon | apply State.mem_ok
        | apply ite_c
    | dsimp only
    | split
    | simp only [State.canon_mk]

theorem State.replan_canon (s : State) (d : Down) (bound : Nat) (limit : Bool) (hc : s.canon) : (State.replan s d bound limit).canon := by
  unfold State.replan
  repeat' first
    | intro _
    | with_reducible first
        | assumption | exact memWf_nil | apply State.bump_canon | apply State.when_canon | apply State.setDown_canon
        | apply State.queueUnknown_canon | apply State.finishDown_canon | apply State.placePlan_canon
        | apply State.holdDown_canon | apply State.hold_canon | apply State.mem_ok | apply ite_c
    | refine pair_canon (by assumption) ?_
    | refine tripR_canon (by assumption) ?_
    | dsimp only
    | split
    | simp only [State.canon_mk]

theorem State.again_canon (s : State) (d : Down) (hc : s.canon) : (State.again s d).canon := by
  unfold State.again
  repeat' first
    | intro _
    | with_reducible first
        | assumption | exact memWf_nil | apply State.replan_canon | apply ite_c
    | dsimp only
    | split

theorem State.placeChecked_canon (s : State) (d : Down) (hc : s.canon) : (State.placeChecked s d).canon := by
  unfold State.placeChecked
  repeat' first
    | intro _
    | with_reducible first
        | assumption | exact memWf_nil | apply State.secureNow_canon | apply State.finishDown_canon | apply State.placePlan_canon
        | apply State.mem_ok | apply ite_c
    | refine pair_canon (by assumption) ?_
    | refine tripR_canon (by assumption) ?_
    | dsimp only
    | split
    | simp only [State.canon_mk]

theorem State.take_canon (s : State) (d : Down) (hc : s.canon) : (State.take s d).canon := by
  unfold State.take
  repeat' first
    | intro _
    | with_reducible first
        | assumption | exact memWf_nil | apply State.replan_canon | apply State.placeChecked_canon | apply State.mem_ok
        | apply ite_c
    | refine pair_canon (by assumption) ?_
    | refine tripR_canon (by assumption) ?_
    | dsimp only
    | split
    | simp only [State.canon_mk]

theorem execDownlinkRelease_canon (u : Nat) (s : State) (hc : s.canon) : (next s (execDownlinkRelease u s)).canon := by
  unfold execDownlinkRelease
  repeat' first
    | intro _
    | with_reducible first
        | assumption | exact memWf_nil | apply State.startFlood_canon | apply State.finishDown_canon | apply State.holdDown_canon
        | apply State.take_canon | apply next_canon | apply State.mem_ok | apply ite_c
    | refine pair_canon (by assumption) ?_
    | refine tripR_canon (by assumption) ?_
    | dsimp only
    | split
    | simp only [State.canon_mk]

theorem State.armOn_canon (s : State) (d : Down) (c : Nat) (hc : s.canon) : (State.armOn s d c).canon := by
  unfold State.armOn
  repeat' first
    | intro _
    | with_reducible first
        | assumption | exact memWf_nil | apply State.put_canon | apply State.clr_canon | apply State.each_canon
        | apply State.setDown_canon | apply State.putReq_canon | apply State.arm_canon | apply State.mem_ok | apply ite_c
    | dsimp only
    | split
    | simp only [State.canon_mk]

theorem State.armAttempt_canon (s : State) (d : Down) (hc : s.canon) : (State.armAttempt s d).canon := by
  unfold State.armAttempt
  repeat' first
    | intro _
    | with_reducible first
        | assumption | exact memWf_nil | apply State.bump_canon | apply State.giveBack_canon | apply State.withdraw_canon
        | apply State.writeElig_canon | apply State.finishDown_canon | apply State.replan_canon | apply State.armOn_canon
        | apply State.mem_ok | apply ite_c
    | refine pair_canon (by assumption) ?_
    | refine tripR_canon (by assumption) ?_
    | dsimp only
    | split
    | simp only [State.canon_mk]

theorem State.obsAnchor_canon (s : State) (e : Nat) (tw : Int) (tObs : Nat) (stamp : Nat) (hc : s.canon) : (State.obsAnchor s e tw tObs stamp).canon := by
  unfold State.obsAnchor
  repeat' first
    | intro _
    | with_reducible first
        | assumption | exact memWf_nil | apply State.bump_canon | apply State.wrE_canon | apply ite_c
    | dsimp only
    | split

theorem State.breach_canon (s : State) (e : Nat) (hc : s.canon) : (State.breach s e).canon := by
  unfold State.breach
  repeat' first
    | intro _
    | with_reducible first
        | assumption | exact memWf_nil | apply State.bump_canon | apply State.event_canon | apply State.wrE_canon | apply ite_c
    | refine pair_canon (by assumption) ?_
    | refine tripR_canon (by assumption) ?_
    | dsimp only
    | split

theorem State.setRate_canon (s : State) (e : Nat) (r : Int) (hc : s.canon) : (State.setRate s e r).canon := by
  unfold State.setRate
  repeat' first
    | intro _
    | with_reducible first
        | assumption | exact memWf_nil | apply State.wrE_canon
    | dsimp only

theorem State.modelGone_canon (s : State) (e : Nat) (hc : s.canon) : (State.modelGone s e).canon := by
  unfold State.modelGone
  repeat' first
    | intro _
    | with_reducible first
        | assumption | exact memWf_nil | apply State.mem_ok | apply ite_c
    | dsimp only
    | split
    | simp only [State.canon_mk]

theorem State.observe_canon (s : State) (e : Nat) (tObs : Nat) (stamp : Nat) (fresh : Bool) (hc : s.canon) : (State.observe s e tObs stamp fresh).canon := by
  unfold State.observe
  repeat' first
    | intro _
    | with_reducible first
        | assumption | exact memWf_nil | apply State.wrE_canon | apply State.writeElig_canon | apply State.writeEligs_canon
        | apply State.obsAnchor_canon | apply State.breach_canon | apply State.setRate_canon | apply State.modelGone_canon
        | apply ite_c
    | dsimp only
    | split

theorem State.observeOr_canon (s : State) (e : Nat) (tObs : Nat) (stamp : Nat) (fresh : Bool) (hc : s.canon) : (State.observeOr s e tObs stamp fresh).canon := by
  unfold State.observeOr
  repeat' first
    | intro _
    | with_reducible first
        | assumption | exact memWf_nil | apply State.observe_canon | apply State.mem_ok | apply ite_c
    | refine pair_canon (by assumption) ?_
    | refine tripR_canon (by assumption) ?_
    | dsimp only
    | split
    | simp only [State.canon_mk]

theorem State.fixTo_canon (s : State) (until_ : Nat) (hc : s.canon) : (State.fixTo s until_).canon := by
  unfold State.fixTo
  repeat' first
    | intro _
    | with_reducible first
        | assumption | exact memWf_nil | apply State.put_canon | apply State.each_canon | apply State.shiftModel_canon
        | apply State.observe_canon | apply State.mem_ok | apply ite_c
    | dsimp only
    | split
    | simp only [State.canon_mk]

theorem State.fixWalk_canon (s : State) (hc : s.canon) : (State.fixWalk s).canon := by
  unfold State.fixWalk
  repeat' first
    | intro _
    | with_reducible first
        | assumption | exact memWf_nil | apply State.draw_canon | apply State.fixTo_canon | apply ite_c
    | refine pair_canon (by assumption) ?_
    | refine tripR_canon (by assumption) ?_
    | dsimp only
    | split

theorem execNscCycle_canon (s : State) (hc : s.canon) : (next s (execNscCycle s)).canon := by
  unfold execNscCycle
  repeat' first
    | intro _
    | with_reducible first
        | assumption | exact memWf_nil | apply State.nscCycle_canon | apply State.fixWalk_canon | apply next_canon
    | dsimp only

theorem execPhaseFixWalkDone_canon (s : State) (hc : s.canon) : (next s (execPhaseFixWalkDone s)).canon := by
  unfold execPhaseFixWalkDone
  repeat' first
    | intro _
    | with_reducible first
        | assumption | exact memWf_nil | apply State.clr_canon | apply State.fixTo_canon | apply next_canon | apply ite_c
    | dsimp only
    | split

theorem State.backoff_canon (s : State) (lbt : Nat) (hc : s.canon) : ((State.backoff s lbt).2).canon := by
  unfold State.backoff
  repeat' first
    | intro _
    | with_reducible first
        | assumption | exact memWf_nil | apply State.draw_canon
    | refine pair_canon (by assumption) ?_
    | refine tripR_canon (by assumption) ?_
    | dsimp only
    | split

theorem State.heldUntil_canon (s : State) (d : Down) (bound : Nat) (limit : Bool) (hc : s.canon) : (State.heldUntil s d bound limit).canon := by
  unfold State.heldUntil
  repeat' first
    | intro _
    | with_reducible first
        | assumption | exact memWf_nil | apply State.setDown_canon | apply State.finishDown_canon | apply State.replan_canon
        | apply State.mem_ok | apply ite_c
    | dsimp only
    | split
    | simp only [State.canon_mk]

theorem State.verdict_canon (s : State) (d : Down) (v : Nat) (earliest : Nat) (hc : s.canon) : (State.verdict s d v earliest).canon := by
  unfold State.verdict
  repeat' first
    | intro _
    | with_reducible first
        | assumption | exact memWf_nil | apply State.finishDown_canon | apply State.again_canon | apply State.backoff_canon
        | apply State.heldUntil_canon | apply State.mem_ok | apply ite_c
    | refine pair_canon (by assumption) ?_
    | refine tripR_canon (by assumption) ?_
    | dsimp only
    | split
    | simp only [State.canon_mk]

theorem execAttemptArm_canon (u : Nat) (s : State) (hc : s.canon) : (next s (execAttemptArm u s)).canon := by
  unfold execAttemptArm
  repeat' first
    | intro _
    | with_reducible first
        | assumption | exact memWf_nil | apply State.setDown_canon | apply State.withdraw_canon | apply State.secureNow_canon
        | apply State.finishDown_canon | apply State.again_canon | apply State.armAttempt_canon | apply State.verdict_canon
        | apply foldl_canon | apply foldlL_canon | apply foldlR_canon | apply next_canon | apply State.mem_ok | apply ite_c
    | refine pair_canon (by assumption) ?_
    | refine tripR_canon (by assumption) ?_
    | dsimp only
    | split
    | simp only [State.canon_mk]

theorem execGateRecordHandle_canon (c : Nat) (s : State) (hc : s.canon) : (next s (execGateRecordHandle c s)).canon := by
  unfold execGateRecordHandle
  repeat' first
    | intro _
    | with_reducible first
        | assumption | exact memWf_nil | apply State.hwOut_canon | apply State.withdraw_canon | apply State.verdict_canon
        | apply next_canon | apply State.mem_ok | apply ite_c
    | refine pair_canon (by assumption) ?_
    | refine tripR_canon (by assumption) ?_
    | dsimp only
    | split
    | simp only [State.canon_mk]

theorem State.retry_canon (s : State) (d : Down) (hc : s.canon) : (State.retry s d).canon := by
  unfold State.retry
  repeat' first
    | intro _
    | with_reducible first
        | assumption | exact memWf_nil | apply State.finishDown_canon | apply State.again_canon | apply State.mem_ok
        | apply ite_c
    | dsimp only
    | split
    | simp only [State.canon_mk]

theorem State.countAir_canon (s : State) (d : Down) (start : Nat) (hc : s.canon) : ((State.countAir s d start).2).canon := by
  unfold State.countAir
  repeat' first
    | intro _
    | with_reducible first
        | assumption | exact memWf_nil | apply State.bump_canon | apply State.when_canon | apply State.mem_ok | apply ite_c
    | refine pair_canon (by assumption) ?_
    | refine tripR_canon (by assumption) ?_
    | dsimp only
    | split
    | simp only [State.canon_mk]

theorem State.floodNext_canon (s : State) (d : Down) (hc : s.canon) : (State.floodNext s d).canon := by
  unfold State.floodNext
  repeat' first
    | intro _
    | with_reducible first
        | assumption | exact memWf_nil | apply State.drop_canon | apply State.finishDown_canon | apply State.take_canon
        | apply State.mem_ok | apply ite_c
    | dsimp only
    | split
    | simp only [State.canon_mk]

theorem State.sent_canon (s : State) (d : Down) (hc : s.canon) : (State.sent s d).canon := by
  unfold State.sent
  repeat' first
    | intro _
    | with_reducible first
        | assumption | exact memWf_nil | apply State.bump_canon | apply State.when_canon | apply State.setDown_canon
        | apply State.finishDown_canon | apply State.floodNext_canon | apply State.mem_ok | apply ite_c
    | dsimp only
    | split
    | simp only [State.canon_mk]

theorem execTxResultHandle_canon (c : Nat) (s : State) (hc : s.canon) : (next s (execTxResultHandle c s)).canon := by
  unfold execTxResultHandle
  repeat' first
    | intro _
    | with_reducible first
        | assumption | exact memWf_nil | apply State.bump_canon | apply State.hwOut_canon | apply State.finishDown_canon
        | apply State.countAir_canon | apply State.sent_canon | apply next_canon | apply State.mem_ok | apply ite_c
    | refine pair_canon (by assumption) ?_
    | refine tripR_canon (by assumption) ?_
    | dsimp only
    | split
    | simp only [State.canon_mk]

theorem execTrainCopyArm_canon (u : Nat) (s : State) (hc : s.canon) : (next s (execTrainCopyArm u s)).canon := by
  unfold execTrainCopyArm
  repeat' first
    | intro _
    | with_reducible first
        | assumption | exact memWf_nil | apply State.setDown_canon | apply State.finishDown_canon | apply State.again_canon
        | apply State.armAttempt_canon | apply next_canon | apply State.mem_ok | apply ite_c
    | refine pair_canon (by assumption) ?_
    | refine tripR_canon (by assumption) ?_
    | dsimp only
    | split
    | simp only [State.canon_mk]

theorem State.miss_canon (s : State) (d : Down) (hc : s.canon) : (State.miss s d).canon := by
  unfold State.miss
  repeat' first
    | intro _
    | with_reducible first
        | assumption | exact memWf_nil | apply State.clr_canon | apply State.bump_canon | apply State.bumpSat_canon
        | apply State.draw_canon | apply State.toProg_canon | apply State.event_canon | apply State.wrE_canon | apply ite_c
    | refine pair_canon (by assumption) ?_
    | refine tripR_canon (by assumption) ?_
    | dsimp only
    | split

theorem execAckWindowExpire_canon (u : Nat) (s : State) (hc : s.canon) : (next s (execAckWindowExpire u s)).canon := by
  unfold execAckWindowExpire
  repeat' first
    | intro _
    | with_reducible first
        | assumption | exact memWf_nil | apply State.retry_canon | apply State.miss_canon | apply next_canon | apply State.mem_ok
        | apply ite_c
    | refine pair_canon (by assumption) ?_
    | refine tripR_canon (by assumption) ?_
    | dsimp only
    | split
    | simp only [State.canon_mk]

theorem State.ackHit_canon (s : State) (d : Down) (lqi : Nat) (hc : s.canon) : (State.ackHit s d lqi).canon := by
  unfold State.ackHit
  repeat' first
    | intro _
    | with_reducible first
        | assumption | exact memWf_nil | apply State.clr_canon | apply State.bumpSat_canon | apply State.wrE_canon
        | apply State.hit_canon | apply State.finishDown_canon | apply State.mem_ok | apply ite_c
    | dsimp only
    | split
    | simp only [State.canon_mk]

theorem State.findAddr_canon (s : State) (h : Nat) (a : Addr) (hc : s.canon) : ((State.findAddr s h a).2).canon := by
  unfold State.findAddr
  repeat' first
    | intro _
    | with_reducible first
        | assumption | exact memWf_nil | apply State.lookup_canon | apply State.mem_ok
    | refine pair_canon (by assumption) ?_
    | refine tripR_canon (by assumption) ?_
    | dsimp only
    | split
    | simp only [State.canon_mk]

theorem State.keepCounter_canon (s : State) (e : Nat) (cnt : Nat) (map : Nat) (hc : s.canon) : (State.keepCounter s e cnt map).canon := by
  unfold State.keepCounter
  repeat' first
    | intro _
    | with_reducible first
        | assumption | exact memWf_nil | apply State.set_canon | apply State.wrE_canon | apply State.counterWarn_canon
        | apply ite_c
    | dsimp only
    | split

theorem State.recordCounter_canon (s : State) (e : Nat) (c : Nat) (cnt : Nat) (map : Nat) (hc : s.canon) : (State.recordCounter s e c cnt map).canon := by
  unfold State.recordCounter
  repeat' first
    | intro _
    | with_reducible first
        | assumption | exact memWf_nil | apply State.record_canon | apply State.twinSend_canon | apply State.keepCounter_canon
    | dsimp only

theorem State.rxKey_canon (s : State) (e : Nat) (ix : Nat) (hc : s.canon) : ((State.rxKey s e ix).2).canon := by
  unfold State.rxKey
  repeat' first
    | intro _
    | with_reducible first
        | assumption | exact memWf_nil | apply State.linkKey_canon | apply State.groupKey_canon | apply next_canon | apply ite_c
    | refine pair_canon (by assumption) ?_
    | refine tripR_canon (by assumption) ?_
    | dsimp only
    | split

theorem State.openFrame_canon (s : State) (e : Nat) (p : RxParsed) (hc : s.canon) : ((State.openFrame s e p).2).canon := by
  unfold State.openFrame
  repeat' first
    | intro _
    | with_reducible first
        | assumption | exact memWf_nil | apply State.bump_canon | apply State.rxKey_canon | apply State.mem_ok
    | refine pair_canon (by assumption) ?_
    | refine tripR_canon (by assumption) ?_
    | dsimp only
    | split
    | simp only [State.canon_mk]

theorem State.radioUpdate_canon (s : State) (e : Nat) (r : List Nat) (hc : s.canon) : (State.radioUpdate s e r).canon := by
  unfold State.radioUpdate
  repeat' first
    | intro _
    | with_reducible first
        | assumption | exact memWf_nil | apply State.wrE_canon | apply getD_canon | apply ite_c
    | dsimp only
    | split

theorem State.heardOn_canon (s : State) (h : Nat) (e : Nat) (r : List Nat) (hc : s.canon) : (State.heardOn s h e r).canon := by
  unfold State.heardOn
  repeat' first
    | intro _
    | with_reducible first
        | assumption | exact memWf_nil | apply State.wrE_canon | apply State.mem_ok
    | refine pair_canon (by assumption) ?_
    | refine tripR_canon (by assumption) ?_
    | dsimp only
    | split
    | simp only [State.canon_mk]

theorem State.sweepHeard_canon (s : State) (h : Nat) (e : Nat) (r : List Nat) (hc : s.canon) : (State.sweepHeard s h e r).canon := by
  unfold State.sweepHeard
  repeat' first
    | intro _
    | with_reducible first
        | assumption | exact memWf_nil | apply State.put_canon | apply ite_c
    | dsimp only
    | split

theorem State.foundAgain_canon (s : State) (e : Nat) (hc : s.canon) : (State.foundAgain s e).canon := by
  unfold State.foundAgain
  repeat' first
    | intro _
    | with_reducible first
        | assumption | exact memWf_nil | apply State.event_canon | apply State.setNodeState_canon | apply ite_c
    | refine pair_canon (by assumption) ?_
    | refine tripR_canon (by assumption) ?_
    | dsimp only
    | split

theorem State.joinComplete_canon (s : State) (e : Nat) (hc : s.canon) : (State.joinComplete s e).canon := by
  unfold State.joinComplete
  repeat' first
    | intro _
    | with_reducible first
        | assumption | exact memWf_nil | apply State.clr_canon | apply State.bump_canon | apply State.event_canon
        | apply State.wrE_canon | apply State.setNodeState_canon | apply ite_c
    | refine pair_canon (by assumption) ?_
    | refine tripR_canon (by assumption) ?_
    | dsimp only
    | split

theorem State.keyAccepted_canon (s : State) (e : Nat) (k : KeyKind) (hc : s.canon) : (State.keyAccepted s e k).canon := by
  unfold State.keyAccepted
  repeat' first
    | intro _
    | with_reducible first
        | assumption | exact memWf_nil | apply State.commitRekey_canon | apply State.joinComplete_canon | apply next_canon
        | apply State.mem_ok | apply ite_c
    | refine pair_canon (by assumption) ?_
    | refine tripR_canon (by assumption) ?_
    | dsimp only
    | split
    | simp only [State.canon_mk]

theorem State.ackPlace_canon (s : State) (e : Nat) (ch : Nat) (mode : Nat) (freq : Nat) (psdu : List Nat) (c : Nat) (hc : s.canon) : (State.ackPlace s e ch mode freq psdu c).canon := by
  unfold State.ackPlace
  repeat' first
    | intro _
    | with_reducible first
        | assumption | exact memWf_nil | apply State.put_canon | apply State.clr_canon | apply State.putReq_canon
        | apply State.arm_canon | apply State.ptClear_canon | apply State.mem_ok
    | dsimp only
    | split
    | simp only [State.canon_mk]

theorem State.sendAck_canon (s : State) (e : Nat) (r : List Nat) (seq : Option Nat) (hc : s.canon) : (State.sendAck s e r seq).canon := by
  unfold State.sendAck
  repeat' first
    | intro _
    | with_reducible first
        | assumption | exact memWf_nil | apply State.bump_canon | apply State.ackDrop_canon | apply State.linkKey_canon
        | apply State.takeTx_canon | apply State.ackPlace_canon | apply State.mem_ok | apply ite_c
    | refine pair_canon (by assumption) ?_
    | refine tripR_canon (by assumption) ?_
    | dsimp only
    | split
    | simp only [State.canon_mk]

theorem State.ackSecure_canon (s : State) (d : Down) (p : RxParsed) (hc : s.canon) : ((State.ackSecure s d p).2).canon := by
  unfold State.ackSecure
  repeat' first
    | intro _
    | with_reducible first
        | assumption | exact memWf_nil | apply State.recordCounter_canon | apply State.openFrame_canon
        | apply State.keyAccepted_canon | apply State.mem_ok | apply ite_c
    | refine pair_canon (by assumption) ?_
    | refine tripR_canon (by assumption) ?_
    | dsimp only
    | split
    | simp only [State.canon_mk]

theorem State.ackEnds_canon (s : State) (d : Down) (r : List Nat) (secured : Bool) (hc : s.canon) : (State.ackEnds s d r secured).canon := by
  unfold State.ackEnds
  repeat' first
    | intro _
    | with_reducible first
        | assumption | exact memWf_nil | apply State.withdraw_canon | apply State.ackHit_canon | apply State.radioUpdate_canon
        | apply State.foundAgain_canon | apply ite_c
    | dsimp only
    | split

theorem State.ackRx_canon (s : State) (r : List Nat) (p : RxParsed) (hc : s.canon) : (State.ackRx s r p).canon := by
  unfold State.ackRx
  repeat' first
    | intro _
    | with_reducible first
        | assumption | exact memWf_nil | apply State.bump_canon | apply State.ackSecure_canon | apply State.ackEnds_canon
        | apply State.mem_ok
    | refine pair_canon (by assumption) ?_
    | refine tripR_canon (by assumption) ?_
    | dsimp only
    | split
    | simp only [State.canon_mk]

theorem State.joinAuthentic_canon (s : State) (h : Nat) (eui : Nat) (l : List Nat) (hc : s.canon) : ((State.joinAuthentic s h eui l).2.2).canon := by
  unfold State.joinAuthentic
  repeat' first
    | intro _
    | with_reducible first
        | assumption | exact memWf_nil | apply State.drop_canon | apply State.installKey_canon | apply State.take_canon
        | apply getD_canon | apply State.mem_ok
    | refine pair_canon (by assumption) ?_
    | refine tripR_canon (by assumption) ?_
    | dsimp only
    | split
    | simp only [State.canon_mk]

theorem State.joinAnswer_canon (s : State) (e : Nat) (install : List Nat) (l : List Nat) (hc : s.canon) : (State.joinAnswer s e install l).canon := by
  unfold State.joinAnswer
  repeat' first
    | intro _
    | with_reducible first
        | assumption | exact memWf_nil | apply State.drop_canon | apply State.joinRespond_canon | apply State.take_canon
    | dsimp only

theorem State.joinedNew_canon (s : State) (h : Nat) (e : Nat) (r : List Nat) (install : List Nat) (l : List Nat) (hc : s.canon) : (State.joinedNew s h e r install l).canon := by
  unfold State.joinedNew
  repeat' first
    | intro _
    | with_reducible first
        | assumption | exact memWf_nil | apply State.heardOn_canon | apply State.joinAnswer_canon | apply ite_c
    | dsimp only
    | split

theorem State.joinNew_canon (s : State) (h eui : Nat) (r l : List Nat) (hc : s.canon) : (s.joinNew h eui r l).canon := by
  unfold State.joinNew
  split
  rename_i ok install s1 h1
  have q1 := tripR_canon h1 (State.joinAuthentic_canon _ _ _ _ hc)
  refine ite_c _ (fun _ => State.bump_canon _ _ _ q1) (fun _ => ?_)
  split
  · rename_i h2
    have q2 := pair_canon h2 (State.learn_canon _ _ _ q1)
    exact ite_c _ (fun _ => State.rxIn_canon _ _ q2) (fun _ => q2)
  · rename_i h2
    have q2 := pair_canon h2 (State.learn_canon _ _ _ q1)
    split
    · rename_i h3
      have q3 := pair_canon h3 (State.insertNode_canon _ _ _ _ q2)
      exact State.joinedNew_canon _ _ _ _ _ _ q3
    · rename_i h3
      have q3 := pair_canon h3 (State.insertNode_canon _ _ _ _ q2)
      simp only [State.canon_mk]
      exact q3
    · rename_i h3
      exact pair_canon h3 (State.insertNode_canon _ _ _ _ q2)
theorem State.joinAgain_canon (s : State) (e : Nat) (r : List Nat) (l : List Nat) (hc : s.canon) : (State.joinAgain s e r l).canon := by
  unfold State.joinAgain
  repeat' first
    | intro _
    | with_reducible first
        | assumption | exact memWf_nil | apply State.bump_canon | apply State.heardOn_canon | apply State.joinAuthentic_canon
        | apply State.joinAnswer_canon | apply ite_c
    | refine pair_canon (by assumption) ?_
    | refine tripR_canon (by assumption) ?_
    | dsimp only
    | split

theorem State.rejoin_canon (s : State) (e : Nat) (hc : s.canon) : (State.rejoin s e).canon := by
  unfold State.rejoin
  repeat' first
    | intro _
    | with_reducible first
        | assumption | exact memWf_nil | apply State.put_canon | apply State.set_canon | apply State.bump_canon
        | apply State.event_canon | apply ite_c
    | refine pair_canon (by assumption) ?_
    | refine tripR_canon (by assumption) ?_
    | dsimp only
    | split

theorem State.wakeSchedule_canon (s : State) (h : Nat) (e : Nat) (phase : Nat) (secured : Bool) (l : List Nat) (hc : s.canon) : (State.wakeSchedule s h e phase secured l).canon := by
  unfold State.wakeSchedule
  repeat' first
    | intro _
    | with_reducible first
        | assumption | exact memWf_nil | apply State.put_canon | apply State.bump_canon | apply State.wrE_canon
        | apply State.writeEligs_canon | apply State.setFlags_canon | apply State.modelGone_canon | apply State.observeOr_canon
        | apply getD_canon | apply ite_c
    | dsimp only
    | split

theorem State.originOf_canon (s : State) (h : Nat) (e : Nat) (hh : List Nat) (hc : s.canon) : ((State.originOf s h e hh).2).canon := by
  unfold State.originOf
  repeat' first
    | intro _
    | with_reducible first
        | assumption | exact memWf_nil | apply State.findAddr_canon | apply State.mem_ok | apply ite_c
    | refine pair_canon (by assumption) ?_
    | refine tripR_canon (by assumption) ?_
    | dsimp only
    | split
    | simp only [State.canon_mk]

theorem State.routeRefresh_canon (s : State) (x : Nat) (hops : Nat) (lane : Nat) (metric : Nat) (hc : s.canon) : (State.routeRefresh s x hops lane metric).canon := by
  unfold State.routeRefresh
  repeat' first
    | intro _
    | with_reducible first
        | assumption | exact memWf_nil | apply State.wrE_canon
    | dsimp only

theorem State.offerRoute_canon (s : State) (h lane x nx : Nat) (d : Bool) (hops m : Nat) (hc : s.canon) :
    ∀ t, s.offerRoute h lane x nx d hops m = some t → t.canon := by
  intro t ht
  unfold State.offerRoute at ht
  split at ht
  · cases ht; exact hc
  · cases ht
    exact State.routeRefresh_canon _ _ _ _ _ hc
  · split at ht
    · rename_i h1
      have h3 := pair_canon h1 (State.learn_canon _ _ _ hc)
      simp only [Option.some.injEq] at ht
      rw [← ht]
      repeat' first
        | intro _
        | with_reducible first
            | assumption | exact memWf_nil | apply State.put_canon | apply State.bump_canon | apply State.wrE_canon
            | apply State.writeElig_canon | apply State.learn_canon | apply State.routeRefresh_canon | apply next_canon
            | apply State.mem_ok | apply ite_c
        | refine pair_canon (by assumption) ?_
        | refine tripR_canon (by assumption) ?_
        | dsimp only
        | split
        | simp only [State.canon_mk]

    · rename_i h1
      have h3 := pair_canon h1 (State.learn_canon _ _ _ hc)
      split at ht
      · simp only [Option.some.injEq] at ht
        rw [← ht]
        repeat' first
          | intro _
          | with_reducible first
              | assumption | exact memWf_nil | apply State.put_canon | apply State.bump_canon | apply State.wrE_canon
              | apply State.writeElig_canon | apply State.learn_canon | apply State.routeRefresh_canon | apply next_canon
              | apply State.mem_ok | apply ite_c
          | refine pair_canon (by assumption) ?_
          | refine tripR_canon (by assumption) ?_
          | dsimp only
          | split
          | simp only [State.canon_mk]

      · cases ht
theorem State.learnRoutes_canon (s : State) (h e : Nat) (r hh : List Nat) (g : Origin) (hc : s.canon) :
    ∀ t, s.learnRoutes h e r hh g = some t → t.canon := by
  intro t ht
  unfold State.learnRoutes at ht
  dsimp only at ht
  split at ht
  · cases ht
  · rename_i h1
    have h2 := State.offerRoute_canon _ _ _ _ _ _ _ _ hc _ h1
    split at ht
    · split at ht
      · exact State.offerRoute_canon _ _ _ _ _ _ _ _ h2 _ ht
      · cases ht; exact h2
    · cases ht; exact h2
theorem State.reportRx_canon (s : State) (h : Nat) (e : Nat) (l : List Nat) (hc : s.canon) : (State.reportRx s h e l).canon := by
  unfold State.reportRx
  repeat' first
    | intro _
    | with_reducible first
        | assumption | exact memWf_nil | apply State.put_canon | apply State.bump_canon | apply State.drop_canon
        | apply State.when_canon | apply getD_canon | apply State.mem_ok | apply ite_c
    | refine pair_canon (by assumption) ?_
    | refine tripR_canon (by assumption) ?_
    | dsimp only
    | split
    | simp only [State.canon_mk]

theorem State.relayRx_canon (s : State) (x : Rx) (f : RxFrame) (final : Nat) (payload : List Nat) (hc : s.canon) : (State.relayRx s x f final payload).canon := by
  unfold State.relayRx
  repeat' first
    | intro _
    | with_reducible first
        | assumption | exact memWf_nil | apply State.bump_canon | apply State.takeIn_canon | apply State.hopDeliver_canon
        | apply State.findAddr_canon | apply State.mem_ok | apply ite_c
    | refine pair_canon (by assumption) ?_
    | refine tripR_canon (by assumption) ?_
    | dsimp only
    | split
    | simp only [State.canon_mk]

theorem State.refloodRx_canon (s : State) (x : Rx) (final : Nat) (payload : List Nat) (hc : s.canon) : (State.refloodRx s x final payload).canon := by
  unfold State.refloodRx
  repeat' first
    | intro _
    | with_reducible first
        | assumption | exact memWf_nil | apply State.bump_canon | apply State.draw_canon | apply State.mem_ok | apply ite_c
    | refine pair_canon (by assumption) ?_
    | refine tripR_canon (by assumption) ?_
    | dsimp only
    | split
    | simp only [State.canon_mk]

theorem execRefloodSend_canon (u : Nat) (s : State) (hc : s.canon) : (next s (execRefloodSend u s)).canon := by
  unfold execRefloodSend
  repeat' first
    | intro _
    | with_reducible first
        | assumption | exact memWf_nil | apply State.takeIn_canon | apply getD_canon | apply next_canon | apply State.mem_ok
        | apply ite_c
    | refine pair_canon (by assumption) ?_
    | refine tripR_canon (by assumption) ?_
    | dsimp only
    | split
    | simp only [State.canon_mk]

theorem State.step12_canon (s : State) (x : Rx) (g : Origin) (sf : Nat) (clear : List Nat) (hc : s.canon) : (State.step12 s x g sf clear).canon := by
  unfold State.step12
  repeat' first
    | intro _
    | with_reducible first
        | assumption | exact memWf_nil | apply State.bump_canon | apply State.drop_canon | apply State.seenAdd_canon
        | apply State.hopDeliver_canon | apply State.reportRx_canon | apply State.relayRx_canon | apply State.refloodRx_canon
        | apply getD_canon | apply ite_c
    | dsimp only
    | split

theorem State.accept_canon (s0 s : State) (x : Rx) (sec : Bool) (kind : KeyKind) (clear : List Nat) (h0 : s0.canon) (hc : s.canon) :
    (State.accept s0 s x sec kind clear).canon := by
  unfold State.accept
  extract_lets h e f hop hh final bad
  clear_value hop
  split
  rename_i g s1 h1
  have q1 := pair_canon h1 (by
    split
    · exact State.originOf_canon _ _ _ _ hc
    · exact hc)
  extract_lets act learned
  have ql : ∀ t, learned = some t → t.canon := by
    intro t ht
    simp only [learned] at ht
    split at ht
    · exact State.learnRoutes_canon _ _ _ _ _ _ q1 _ ht
    · cases ht; exact q1
  clear_value learned act
  split
  · exact State.bump_canon _ _ _ (State.bump_canon _ _ _ h0)
  rename_i s2
  have q2 := ql s2 rfl
  clear hc h0 q1 ql
  extract_lets a1 a2 a3 a4 a5 a6 a7 a8 a9 b1 b2 b3
  have p2 : a2.canon := State.clr_canon _ _ (State.bumpSat_canon _ _ _ q2)
  clear_value a2
  have p3 : a3.canon := by
    simp only [a3]
    repeat' first
      | intro _
      | with_reducible first
          | assumption | exact memWf_nil | apply State.clr_canon | apply State.bump_canon | apply State.bumpSat_canon
          | apply State.when_canon | apply State.rxIn_canon | apply State.wrE_canon | apply State.act_canon | apply State.hit_canon
          | apply State.observeOr_canon | apply State.radioUpdate_canon | apply State.heardOn_canon | apply State.sweepHeard_canon
          | apply State.foundAgain_canon | apply State.sendAck_canon | apply State.wakeSchedule_canon | apply State.originOf_canon
          | apply State.step12_canon | apply getD_canon | apply State.mem_ok | apply ite_c
      | exact State.learnRoutes_canon _ _ _ _ _ _ (by assumption) _ (by assumption)
      | refine pair_canon (by assumption) ?_
      | refine tripR_canon (by assumption) ?_
      | dsimp only
      | split
      | simp only [State.canon_mk]

  clear_value a3
  have p4 : a4.canon := by
    simp only [a4]
    repeat' first
      | intro _
      | with_reducible first
          | assumption | exact memWf_nil | apply State.clr_canon | apply State.bump_canon | apply State.bumpSat_canon
          | apply State.when_canon | apply State.rxIn_canon | apply State.wrE_canon | apply State.act_canon | apply State.hit_canon
          | apply State.observeOr_canon | apply State.radioUpdate_canon | apply State.heardOn_canon | apply State.sweepHeard_canon
          | apply State.foundAgain_canon | apply State.sendAck_canon | apply State.wakeSchedule_canon | apply State.originOf_canon
          | apply State.step12_canon | apply getD_canon | apply State.mem_ok | apply ite_c
      | exact State.learnRoutes_canon _ _ _ _ _ _ (by assumption) _ (by assumption)
      | refine pair_canon (by assumption) ?_
      | refine tripR_canon (by assumption) ?_
      | dsimp only
      | split
      | simp only [State.canon_mk]

  clear_value a4
  have p5 : a5.canon := by
    simp only [a5]
    repeat' first
      | intro _
      | with_reducible first
          | assumption | exact memWf_nil | apply State.clr_canon | apply State.bump_canon | apply State.bumpSat_canon
          | apply State.when_canon | apply State.rxIn_canon | apply State.wrE_canon | apply State.act_canon | apply State.hit_canon
          | apply State.observeOr_canon | apply State.radioUpdate_canon | apply State.heardOn_canon | apply State.sweepHeard_canon
          | apply State.foundAgain_canon | apply State.sendAck_canon | apply State.wakeSchedule_canon | apply State.originOf_canon
          | apply State.step12_canon | apply getD_canon | apply State.mem_ok | apply ite_c
      | exact State.learnRoutes_canon _ _ _ _ _ _ (by assumption) _ (by assumption)
      | refine pair_canon (by assumption) ?_
      | refine tripR_canon (by assumption) ?_
      | dsimp only
      | split
      | simp only [State.canon_mk]

  clear_value a5
  have p6 : a6.canon := by
    simp only [a6]
    repeat' first
      | intro _
      | with_reducible first
          | assumption | exact memWf_nil | apply State.clr_canon | apply State.bump_canon | apply State.bumpSat_canon
          | apply State.when_canon | apply State.rxIn_canon | apply State.wrE_canon | apply State.act_canon | apply State.hit_canon
          | apply State.observeOr_canon | apply State.radioUpdate_canon | apply State.heardOn_canon | apply State.sweepHeard_canon
          | apply State.foundAgain_canon | apply State.sendAck_canon | apply State.wakeSchedule_canon | apply State.originOf_canon
          | apply State.step12_canon | apply getD_canon | apply State.mem_ok | apply ite_c
      | exact State.learnRoutes_canon _ _ _ _ _ _ (by assumption) _ (by assumption)
      | refine pair_canon (by assumption) ?_
      | refine tripR_canon (by assumption) ?_
      | dsimp only
      | split
      | simp only [State.canon_mk]

  clear_value a6
  have p7 : a7.canon := by
    simp only [a7]
    repeat' first
      | intro _
      | with_reducible first
          | assumption | exact memWf_nil | apply State.clr_canon | apply State.bump_canon | apply State.bumpSat_canon
          | apply State.when_canon | apply State.rxIn_canon | apply State.wrE_canon | apply State.act_canon | apply State.hit_canon
          | apply State.observeOr_canon | apply State.radioUpdate_canon | apply State.heardOn_canon | apply State.sweepHeard_canon
          | apply State.foundAgain_canon | apply State.sendAck_canon | apply State.wakeSchedule_canon | apply State.originOf_canon
          | apply State.step12_canon | apply getD_canon | apply State.mem_ok | apply ite_c
      | exact State.learnRoutes_canon _ _ _ _ _ _ (by assumption) _ (by assumption)
      | refine pair_canon (by assumption) ?_
      | refine tripR_canon (by assumption) ?_
      | dsimp only
      | split
      | simp only [State.canon_mk]

  clear_value a7
  have p8 : a8.canon := by
    simp only [a8]
    repeat' first
      | intro _
      | with_reducible first
          | assumption | exact memWf_nil | apply State.clr_canon | apply State.bump_canon | apply State.bumpSat_canon
          | apply State.when_canon | apply State.rxIn_canon | apply State.wrE_canon | apply State.act_canon | apply State.hit_canon
          | apply State.observeOr_canon | apply State.radioUpdate_canon | apply State.heardOn_canon | apply State.sweepHeard_canon
          | apply State.foundAgain_canon | apply State.sendAck_canon | apply State.wakeSchedule_canon | apply State.originOf_canon
          | apply State.step12_canon | apply getD_canon | apply State.mem_ok | apply ite_c
      | exact State.learnRoutes_canon _ _ _ _ _ _ (by assumption) _ (by assumption)
      | refine pair_canon (by assumption) ?_
      | refine tripR_canon (by assumption) ?_
      | dsimp only
      | split
      | simp only [State.canon_mk]

  clear_value a8
  have p9 : a9.canon := by
    simp only [a9]
    repeat' first
      | intro _
      | with_reducible first
          | assumption | exact memWf_nil | apply State.clr_canon | apply State.bump_canon | apply State.bumpSat_canon
          | apply State.when_canon | apply State.rxIn_canon | apply State.wrE_canon | apply State.act_canon | apply State.hit_canon
          | apply State.observeOr_canon | apply State.radioUpdate_canon | apply State.heardOn_canon | apply State.sweepHeard_canon
          | apply State.foundAgain_canon | apply State.sendAck_canon | apply State.wakeSchedule_canon | apply State.originOf_canon
          | apply State.step12_canon | apply getD_canon | apply State.mem_ok | apply ite_c
      | exact State.learnRoutes_canon _ _ _ _ _ _ (by assumption) _ (by assumption)
      | refine pair_canon (by assumption) ?_
      | refine tripR_canon (by assumption) ?_
      | dsimp only
      | split
      | simp only [State.canon_mk]

  clear_value a9
  have o1 : b1.canon := by
    simp only [b1]
    repeat' first
      | intro _
      | with_reducible first
          | assumption | exact memWf_nil | apply State.clr_canon | apply State.bump_canon | apply State.bumpSat_canon
          | apply State.when_canon | apply State.rxIn_canon | apply State.wrE_canon | apply State.act_canon | apply State.hit_canon
          | apply State.observeOr_canon | apply State.radioUpdate_canon | apply State.heardOn_canon | apply State.sweepHeard_canon
          | apply State.foundAgain_canon | apply State.sendAck_canon | apply State.wakeSchedule_canon | apply State.originOf_canon
          | apply State.step12_canon | apply getD_canon | apply State.mem_ok | apply ite_c
      | exact State.learnRoutes_canon _ _ _ _ _ _ (by assumption) _ (by assumption)
      | refine pair_canon (by assumption) ?_
      | refine tripR_canon (by assumption) ?_
      | dsimp only
      | split
      | simp only [State.canon_mk]

  clear_value b1
  have o2 : b2.canon := by
    simp only [b2]
    repeat' first
      | intro _
      | with_reducible first
          | assumption | exact memWf_nil | apply State.clr_canon | apply State.bump_canon | apply State.bumpSat_canon
          | apply State.when_canon | apply State.rxIn_canon | apply State.wrE_canon | apply State.act_canon | apply State.hit_canon
          | apply State.observeOr_canon | apply State.radioUpdate_canon | apply State.heardOn_canon | apply State.sweepHeard_canon
          | apply State.foundAgain_canon | apply State.sendAck_canon | apply State.wakeSchedule_canon | apply State.originOf_canon
          | apply State.step12_canon | apply getD_canon | apply State.mem_ok | apply ite_c
      | exact State.learnRoutes_canon _ _ _ _ _ _ (by assumption) _ (by assumption)
      | refine pair_canon (by assumption) ?_
      | refine tripR_canon (by assumption) ?_
      | dsimp only
      | split
      | simp only [State.canon_mk]

  clear_value b2
  have o3 : b3.canon := by
    simp only [b3]
    repeat' first
      | intro _
      | with_reducible first
          | assumption | exact memWf_nil | apply State.clr_canon | apply State.bump_canon | apply State.bumpSat_canon
          | apply State.when_canon | apply State.rxIn_canon | apply State.wrE_canon | apply State.act_canon | apply State.hit_canon
          | apply State.observeOr_canon | apply State.radioUpdate_canon | apply State.heardOn_canon | apply State.sweepHeard_canon
          | apply State.foundAgain_canon | apply State.sendAck_canon | apply State.wakeSchedule_canon | apply State.originOf_canon
          | apply State.step12_canon | apply getD_canon | apply State.mem_ok | apply ite_c
      | exact State.learnRoutes_canon _ _ _ _ _ _ (by assumption) _ (by assumption)
      | refine pair_canon (by assumption) ?_
      | refine tripR_canon (by assumption) ?_
      | dsimp only
      | split
      | simp only [State.canon_mk]

  clear_value b3
  repeat' first
    | intro _
    | with_reducible first
        | assumption | exact memWf_nil | apply State.clr_canon | apply State.bump_canon | apply State.bumpSat_canon
        | apply State.when_canon | apply State.rxIn_canon | apply State.wrE_canon | apply State.act_canon | apply State.hit_canon
        | apply State.observeOr_canon | apply State.radioUpdate_canon | apply State.heardOn_canon | apply State.sweepHeard_canon
        | apply State.foundAgain_canon | apply State.sendAck_canon | apply State.wakeSchedule_canon | apply State.originOf_canon
        | apply State.step12_canon | apply getD_canon | apply State.mem_ok | apply ite_c
    | exact State.learnRoutes_canon _ _ _ _ _ _ (by assumption) _ (by assumption)
    | refine pair_canon (by assumption) ?_
    | refine tripR_canon (by assumption) ?_
    | dsimp only
    | split
    | simp only [State.canon_mk]

theorem State.macReplay_canon (s0 s : State) (x : Rx) (sec : Bool) (kind : KeyKind) (clear : List Nat) (h0 : s0.canon) (hc : s.canon) :
    (State.macReplay s0 s x sec kind clear).canon := by
  unfold State.macReplay
  repeat' first
    | intro _
    | with_reducible first
        | assumption | exact memWf_nil | apply State.clr_canon | apply State.bump_canon | apply State.bumpSat_canon
        | apply State.when_canon | apply State.wrE_canon | apply State.again_canon | apply State.recordCounter_canon
        | apply State.sendAck_canon | apply State.accept_canon | apply getD_canon | apply State.mem_ok | apply ite_c
    | refine pair_canon (by assumption) ?_
    | refine tripR_canon (by assumption) ?_
    | dsimp only
    | split
    | simp only [State.canon_mk]

theorem State.retiredDuring_canon (s : State) (x : Rx) (hc : s.canon) : ((State.retiredDuring s x).2).canon := by
  unfold State.retiredDuring
  repeat' first
    | intro _
    | with_reducible first
        | assumption | exact memWf_nil | apply State.draw_canon | apply ite_c
    | refine pair_canon (by assumption) ?_
    | refine tripR_canon (by assumption) ?_
    | dsimp only
    | split

theorem State.macEntry_canon (s : State) (x : Rx) (hc : s.canon) : (State.macEntry s x).canon := by
  unfold State.macEntry
  repeat' first
    | intro _
    | with_reducible first
        | assumption | exact memWf_nil | apply State.bump_canon | apply State.openFrame_canon | apply State.keyAccepted_canon
        | apply State.joinAgain_canon | apply State.rejoin_canon | apply State.macReplay_canon | apply State.retiredDuring_canon
        | apply State.mem_ok | apply ite_c
    | refine pair_canon (by assumption) ?_
    | refine tripR_canon (by assumption) ?_
    | dsimp only
    | split
    | simp only [State.canon_mk]

theorem State.macFrom_canon (s : State) (r : List Nat) (p : RxParsed) (at_ : Nat) (i : Nat) (hc : s.canon) : (State.macFrom s r p at_ i).canon := by
  unfold State.macFrom
  repeat' first
    | intro _
    | with_reducible first
        | assumption | exact memWf_nil | apply State.bump_canon | apply State.findAddr_canon | apply State.joinNew_canon
        | apply State.macEntry_canon | apply State.mem_ok | apply ite_c
    | refine pair_canon (by assumption) ?_
    | refine tripR_canon (by assumption) ?_
    | dsimp only
    | split
    | simp only [State.canon_mk]

theorem State.macRx_canon (s : State) (x : LaneIn) (hc : s.canon) : (State.macRx s x).canon := by
  unfold State.macRx
  repeat' first
    | intro _
    | with_reducible first
        | assumption | exact memWf_nil | apply State.bump_canon | apply State.drop_canon | apply State.take_canon
        | apply State.ackRx_canon | apply State.macFrom_canon | apply State.mem_ok | apply ite_c
    | refine pair_canon (by assumption) ?_
    | refine tripR_canon (by assumption) ?_
    | dsimp only
    | split
    | simp only [State.canon_mk]

theorem execMacRxFrame_canon (l : Nat) (s : State) (hc : s.canon) : (next s (execMacRxFrame l s)).canon := by
  unfold execMacRxFrame
  repeat' first
    | intro _
    | with_reducible first
        | assumption | exact memWf_nil | apply State.hwOut_canon | apply State.macRx_canon | apply next_canon
        | apply State.mem_ok | apply ite_c
    | refine pair_canon (by assumption) ?_
    | refine tripR_canon (by assumption) ?_
    | dsimp only
    | split
    | simp only [State.canon_mk]

theorem State.setW_canon (s : State) (g : Nat) (r : Nat) (v : Nat) (hc : s.canon) : (State.setW s g r v).canon := by
  unfold State.setW
  repeat' first
    | intro _
    | with_reducible first
        | assumption | exact memWf_nil | apply State.put_canon | apply ite_c
    | dsimp only
    | split

theorem State.setPair_canon (s : State) (g : Nat) (r : Nat) (v : Nat) (hc : s.canon) : (State.setPair s g r v).canon := by
  unfold State.setPair
  repeat' first
    | intro _
    | with_reducible first
        | assumption | exact memWf_nil | apply State.setW_canon
    | dsimp only

theorem State.setZN_canon (s : State) (g : Nat) (v : Nat) (hc : s.canon) : (State.setZN s g v).canon := by
  unfold State.setZN
  repeat' first
    | intro _
    | with_reducible first
        | assumption | exact memWf_nil | apply State.put_canon | apply ite_c
    | dsimp only
    | split

theorem State.setZ_canon (s : State) (g : Nat) (z : Bool) (hc : s.canon) : (State.setZ s g z).canon := by
  unfold State.setZ
  repeat' first
    | intro _
    | with_reducible first
        | assumption | exact memWf_nil | apply State.put_canon | apply ite_c
    | dsimp only
    | split

theorem State.progHalted_canon (s : State) (h : Nat) (g : Nat) (hc : s.canon) : (State.progHalted s h g).canon := by
  unfold State.progHalted
  repeat' first
    | intro _
    | with_reducible first
        | assumption | exact memWf_nil | apply State.put_canon | apply State.bump_canon
    | dsimp only

theorem State.halt_canon (s : State) (g : Nat) (epc : Nat) (cause : Nat) (eval : Nat) (hc : s.canon) : (State.halt s g epc cause eval).canon := by
  unfold State.halt
  repeat' first
    | intro _
    | with_reducible first
        | assumption | exact memWf_nil | apply State.bump_canon | apply State.event_canon | apply State.stopThread_canon
        | apply State.fault_canon | apply State.progHalted_canon | apply State.mem_ok
    | refine pair_canon (by assumption) ?_
    | refine tripR_canon (by assumption) ?_
    | dsimp only
    | split
    | simp only [State.canon_mk]

theorem State.trap_canon (s : State) (g : Nat) (cause : Nat) (eval : Nat) (hc : s.canon) : (State.trap s g cause eval).canon := by
  unfold State.trap
  repeat' first
    | intro _
    | with_reducible first
        | assumption | exact memWf_nil | apply State.put_canon | apply State.set_canon | apply State.bump_canon
        | apply State.halt_canon | apply ite_c
    | dsimp only
    | split

theorem State.waitFor_canon (s : State) (g : Nat) (kind : Nat) (reg : Nat) (v : Nat) (hc : s.canon) : (State.waitFor s g kind reg v).canon := by
  unfold State.waitFor
  repeat' first
    | intro _
    | with_reducible first
        | assumption | exact memWf_nil | apply State.put_canon | apply State.putThread_canon
    | dsimp only

theorem State.issue_canon (s : State) (g : Nat) (ok : Bool) (word : Nat) (f : State → State) (hf : ∀ u, u.canon → (f u).canon) (hc : s.canon) : (State.issue s g ok word f).canon := by
  unfold State.issue
  repeat' first
    | intro _
    | with_reducible first
        | assumption | exact memWf_nil | apply State.bump_canon | apply State.trap_canon | apply hf | apply ite_c
    | dsimp only
    | split

theorem State.dramPut_canon (s : State) (a : Nat) (b : Nat) (hc : s.canon) : (State.dramPut s a b).canon := by
  unfold State.dramPut
  repeat' first
    | intro _
    | with_reducible first
        | assumption | exact memWf_nil | apply State.set_canon | apply State.bump_canon | apply State.when_canon
        | apply State.mem_ok | apply And.intro | apply memFold_wf | apply memWriteL_wf | apply memWrite_wf | apply memZero_wf
        | apply memFilter_wf | apply State.sram_wf | apply State.localMem_wf | apply State.sharedMem_wf | apply State.instrMem_wf
        | apply State.dram_wf | apply State.mram_wf | apply State.host_wf | apply State.flash_wf
    | dsimp only
    | split
    | simp only [State.canon_mk]
    | simp only [Memories.ok_mk]

theorem State.dramWrite_canon (s : State) (a : Nat) (l : List Nat) (hc : s.canon) : (s.dramWrite a l).canon := by
  induction l generalizing s a with
  | nil => exact hc
  | cons b t ih => unfold State.dramWrite; exact ih _ _ (State.dramPut_canon _ _ _ hc)
theorem State.countEntry_canon (s : State) (e : Nat) (up : Bool) (hc : s.canon) : (State.countEntry s e up).canon := by
  unfold State.countEntry
  repeat' first
    | intro _
    | with_reducible first
        | assumption | exact memWf_nil | apply State.bump_canon | apply State.drop_canon | apply State.when_canon | apply ite_c
    | dsimp only
    | split

theorem State.entryStore_canon (s : State) (e : Nat) (off : Nat) (l : List Nat) (hc : s.canon) : (State.entryStore s e off l).canon := by
  unfold State.entryStore
  repeat' first
    | intro _
    | with_reducible first
        | assumption | exact memWf_nil | apply State.put_canon | apply State.clr_canon | apply State.each_canon
        | apply State.take_canon | apply State.countEntry_canon | apply ite_c
    | refine pair_canon (by assumption) ?_
    | refine tripR_canon (by assumption) ?_
    | dsimp only
    | split

theorem State.placeWrite_canon (s : State) (p : Place) (l : List Nat) (hc : s.canon) : (s.placeWrite p l).canon := by
  unfold State.placeWrite
  split
  · exact State.localMem_canon _ hc (memWriteL_wf _ _ (State.localMem_wf hc))
  · exact State.sharedMem_canon _ hc (memWriteL_wf _ _ (State.sharedMem_wf hc))
  · exact State.entryStore_canon _ _ _ _ hc
  · exact State.sram_canon _ hc (memWriteL_wf _ _ (State.sram_wf hc))
  · exact State.dramWrite_canon _ _ _ hc
  · exact hc
theorem State.fifoTake_canon (s : State) (f : Nat) (hc : s.canon) : (State.fifoTake s f).canon := by
  unfold State.fifoTake
  repeat' first
    | intro _
    | with_reducible first
        | assumption | exact memWf_nil | apply State.hwOut_canon | apply State.fifoPop_canon | apply State.cplDrain_canon
        | apply State.popReq_canon | apply State.mem_ok | apply ite_c
    | refine pair_canon (by assumption) ?_
    | refine tripR_canon (by assumption) ?_
    | dsimp only
    | split
    | simp only [State.canon_mk]

theorem State.fifoStore_canon (s : State) (g : Nat) (f : Nat) (l : List Nat) (hc : s.canon) : (State.fifoStore s g f l).canon := by
  unfold State.fifoStore
  repeat' first
    | intro _
    | with_reducible first
        | assumption | exact memWf_nil | apply State.fifoPush_canon | apply State.toProg_canon | apply State.pushReq_canon
        | apply State.mem_ok | apply ite_c
    | refine pair_canon (by assumption) ?_
    | refine tripR_canon (by assumption) ?_
    | dsimp only
    | split
    | simp only [State.canon_mk]

theorem State.evTake_canon (s : State) (g : Nat) (rd : Nat) (v : Nat) (hc : s.canon) : (State.evTake s g rd v).canon := by
  unfold State.evTake
  repeat' first
    | intro _
    | with_reducible first
        | assumption | exact memWf_nil | apply State.put_canon | apply State.setW_canon
    | dsimp only
    | split

theorem execThreadEventWake_canon (g : Nat) (s : State) (hc : s.canon) : (next s (execThreadEventWake g s)).canon := by
  unfold execThreadEventWake
  repeat' first
    | intro _
    | with_reducible first
        | assumption | exact memWf_nil | apply State.resume_canon | apply State.evTake_canon | apply next_canon | apply ite_c
    | dsimp only
    | split

theorem execTwaitExpire_canon (g : Nat) (s : State) (hc : s.canon) : (next s (execTwaitExpire g s)).canon := by
  unfold execTwaitExpire
  repeat' first
    | intro _
    | with_reducible first
        | assumption | exact memWf_nil | apply State.resume_canon | apply next_canon | apply ite_c
    | dsimp only
    | split

theorem execThreadTimerFire_canon (g : Nat) (s : State) (hc : s.canon) : (next s (execThreadTimerFire g s)).canon := by
  unfold execThreadTimerFire
  repeat' first
    | intro _
    | with_reducible first
        | assumption | exact memWf_nil | apply State.clr_canon | apply State.edge_canon | apply next_canon | apply ite_c
    | dsimp only
    | split

theorem execFifoStallResume_canon (g : Nat) (s : State) (hc : s.canon) : (next s (execFifoStallResume g s)).canon := by
  unfold execFifoStallResume
  repeat' first
    | intro _
    | with_reducible first
        | assumption | exact memWf_nil | apply State.resume_canon | apply State.fifoStore_canon | apply next_canon | apply ite_c
    | dsimp only
    | split

theorem execFifoStallTimeout_canon (g : Nat) (s : State) (hc : s.canon) : (next s (execFifoStallTimeout g s)).canon := by
  unfold execFifoStallTimeout
  repeat' first
    | intro _
    | with_reducible first
        | assumption | exact memWf_nil | apply State.clr_canon | apply State.bump_canon | apply State.event_canon
        | apply State.putThread_canon | apply State.trap_canon | apply next_canon | apply ite_c
    | refine pair_canon (by assumption) ?_
    | refine tripR_canon (by assumption) ?_
    | dsimp only
    | split

theorem State.openWin_canon (s : State) (g : Nat) (slot : Nat) (e : Nat) (hc : s.canon) : (State.openWin s g slot e).canon := by
  unfold State.openWin
  repeat' first
    | intro _
    | with_reducible first
        | assumption | exact memWf_nil | apply State.put_canon | apply State.set_canon
    | dsimp only

theorem State.closeOwn_canon (s : State) (g : Nat) (e : Nat) (hc : s.canon) : (State.closeOwn s g e).canon := by
  unfold State.closeOwn
  repeat' first
    | intro _
    | with_reducible first
        | assumption | exact memWf_nil | apply State.clr_canon | apply State.each_canon | apply ite_c
    | dsimp only
    | split

theorem execThicketWindowTimeout_canon (n : Nat) (s : State) (hc : s.canon) : (next s (execThicketWindowTimeout n s)).canon := by
  unfold execThicketWindowTimeout
  repeat' first
    | intro _
    | with_reducible first
        | assumption | exact memWf_nil | apply State.clr_canon | apply next_canon | apply ite_c
    | dsimp only
    | split

theorem State.delDone_canon (s : State) (w : DelWait) (hc : s.canon) : (State.delDone s w).canon := by
  unfold State.delDone
  repeat' first
    | intro _
    | with_reducible first
        | assumption | exact memWf_nil | apply State.finish_canon | apply State.resume_canon | apply State.setW_canon
        | apply State.setZ_canon | apply State.mem_ok | apply ite_c
    | refine pair_canon (by assumption) ?_
    | refine tripR_canon (by assumption) ?_
    | dsimp only
    | split
    | simp only [State.canon_mk]

theorem execEntryHoldEnd_canon (e : Nat) (s : State) (hc : s.canon) : (next s (execEntryHoldEnd e s)).canon := by
  unfold execEntryHoldEnd
  repeat' first
    | intro _
    | with_reducible first
        | assumption | exact memWf_nil | apply State.each_canon | apply State.freeEntry_canon | apply State.delDone_canon
        | apply next_canon | apply State.mem_ok | apply ite_c
    | dsimp only
    | split
    | simp only [State.canon_mk]

theorem execEngineWdogExpire_canon (e : Nat) (s : State) (hc : s.canon) : (next s (execEngineWdogExpire e s)).canon := by
  unfold execEngineWdogExpire
  repeat' first
    | intro _
    | with_reducible first
        | assumption | exact memWf_nil | apply State.put_canon | apply State.hedgeReset_canon | apply State.fault_canon
        | apply State.sourceFault_canon | apply next_canon | apply ite_c
    | dsimp only
    | split

theorem State.alu_canon (s : State) (g : Nat) (rd : BitVec 5) (v : Nat) (hc : s.canon) : (State.alu s g rd v).canon := by
  unfold State.alu
  repeat' first
    | intro _
    | with_reducible first
        | assumption | exact memWf_nil | apply State.pcNext_canon | apply State.setW_canon | apply State.setZN_canon
    | dsimp only
    | split

theorem State.sum_canon (s : State) (g : Nat) (rd : BitVec 5) (a : Nat) (bb : Nat) (cin : Nat) (hc : s.canon) : (State.sum s g rd a bb cin).canon := by
  unfold State.sum
  repeat' first
    | intro _
    | with_reducible first
        | assumption | exact memWf_nil | apply State.put_canon | apply State.pcNext_canon | apply State.setW_canon | apply ite_c
    | dsimp only
    | split

theorem State.move_canon (s : State) (g : Nat) (rd : BitVec 5) (v : Nat) (hc : s.canon) : (State.move s g rd v).canon := by
  unfold State.move
  repeat' first
    | intro _
    | with_reducible first
        | assumption | exact memWf_nil | apply State.pcNext_canon | apply State.setW_canon
    | dsimp only

theorem State.regOp_canon (s : State) (g : Nat) (rd : BitVec 5) (ra : BitVec 5) (rb : BitVec 5) (func : Nat) (f : Nat → Nat → Nat) (hc : s.canon) : (State.regOp s g rd ra rb func f).canon := by
  unfold State.regOp
  repeat' first
    | intro _
    | with_reducible first
        | assumption | exact memWf_nil | apply State.issue_canon | apply State.alu_canon
    | dsimp only

theorem State.immOp_canon (s : State) (g : Nat) (rd : BitVec 5) (ra : BitVec 5) (imm : BitVec 16) (op : Nat) (ok : Bool) (f : Nat → Nat) (hc : s.canon) : (State.immOp s g rd ra imm op ok f).canon := by
  unfold State.immOp
  repeat' first
    | intro _
    | with_reducible first
        | assumption | exact memWf_nil | apply State.issue_canon | apply State.alu_canon
    | dsimp only

theorem execAdd_canon (g : Nat) (rd : BitVec 5) (ra : BitVec 5) (rb : BitVec 5) (s : State) (hc : s.canon) : (next s (execAdd g rd ra rb s)).canon := by
  unfold execAdd
  repeat' first
    | intro _
    | with_reducible first
        | assumption | exact memWf_nil | apply State.issue_canon | apply State.sum_canon | apply next_canon
    | dsimp only

theorem execSub_canon (g : Nat) (rd : BitVec 5) (ra : BitVec 5) (rb : BitVec 5) (s : State) (hc : s.canon) : (next s (execSub g rd ra rb s)).canon := by
  unfold execSub
  repeat' first
    | intro _
    | with_reducible first
        | assumption | exact memWf_nil | apply State.issue_canon | apply State.sum_canon | apply next_canon
    | dsimp only

theorem execAddc_canon (g : Nat) (rd : BitVec 5) (ra : BitVec 5) (rb : BitVec 5) (s : State) (hc : s.canon) : (next s (execAddc g rd ra rb s)).canon := by
  unfold execAddc
  repeat' first
    | intro _
    | with_reducible first
        | assumption | exact memWf_nil | apply State.issue_canon | apply State.sum_canon | apply next_canon
    | dsimp only

theorem execSubc_canon (g : Nat) (rd : BitVec 5) (ra : BitVec 5) (rb : BitVec 5) (s : State) (hc : s.canon) : (next s (execSubc g rd ra rb s)).canon := by
  unfold execSubc
  repeat' first
    | intro _
    | with_reducible first
        | assumption | exact memWf_nil | apply State.issue_canon | apply State.sum_canon | apply next_canon
    | dsimp only

theorem execAnd_canon (g : Nat) (rd : BitVec 5) (ra : BitVec 5) (rb : BitVec 5) (s : State) (hc : s.canon) : (next s (execAnd g rd ra rb s)).canon := by
  unfold execAnd
  repeat' first
    | intro _
    | with_reducible first
        | assumption | exact memWf_nil | apply State.regOp_canon | apply next_canon
    | dsimp only

theorem execOr_canon (g : Nat) (rd : BitVec 5) (ra : BitVec 5) (rb : BitVec 5) (s : State) (hc : s.canon) : (next s (execOr g rd ra rb s)).canon := by
  unfold execOr
  repeat' first
    | intro _
    | with_reducible first
        | assumption | exact memWf_nil | apply State.regOp_canon | apply next_canon
    | dsimp only

theorem execXor_canon (g : Nat) (rd : BitVec 5) (ra : BitVec 5) (rb : BitVec 5) (s : State) (hc : s.canon) : (next s (execXor g rd ra rb s)).canon := by
  unfold execXor
  repeat' first
    | intro _
    | with_reducible first
        | assumption | exact memWf_nil | apply State.regOp_canon | apply next_canon
    | dsimp only

theorem execAndn_canon (g : Nat) (rd : BitVec 5) (ra : BitVec 5) (rb : BitVec 5) (s : State) (hc : s.canon) : (next s (execAndn g rd ra rb s)).canon := by
  unfold execAndn
  repeat' first
    | intro _
    | with_reducible first
        | assumption | exact memWf_nil | apply State.regOp_canon | apply next_canon
    | dsimp only

theorem execShl_canon (g : Nat) (rd : BitVec 5) (ra : BitVec 5) (rb : BitVec 5) (s : State) (hc : s.canon) : (next s (execShl g rd ra rb s)).canon := by
  unfold execShl
  repeat' first
    | intro _
    | with_reducible first
        | assumption | exact memWf_nil | apply State.regOp_canon | apply next_canon
    | dsimp only

theorem execShr_canon (g : Nat) (rd : BitVec 5) (ra : BitVec 5) (rb : BitVec 5) (s : State) (hc : s.canon) : (next s (execShr g rd ra rb s)).canon := by
  unfold execShr
  repeat' first
    | intro _
    | with_reducible first
        | assumption | exact memWf_nil | apply State.regOp_canon | apply next_canon
    | dsimp only

theorem execSar_canon (g : Nat) (rd : BitVec 5) (ra : BitVec 5) (rb : BitVec 5) (s : State) (hc : s.canon) : (next s (execSar g rd ra rb s)).canon := by
  unfold execSar
  repeat' first
    | intro _
    | with_reducible first
        | assumption | exact memWf_nil | apply State.regOp_canon | apply next_canon
    | dsimp only

theorem execRol_canon (g : Nat) (rd : BitVec 5) (ra : BitVec 5) (rb : BitVec 5) (s : State) (hc : s.canon) : (next s (execRol g rd ra rb s)).canon := by
  unfold execRol
  repeat' first
    | intro _
    | with_reducible first
        | assumption | exact memWf_nil | apply State.regOp_canon | apply next_canon
    | dsimp only

theorem execMul_canon (g : Nat) (rd : BitVec 5) (ra : BitVec 5) (rb : BitVec 5) (s : State) (hc : s.canon) : (next s (execMul g rd ra rb s)).canon := by
  unfold execMul
  repeat' first
    | intro _
    | with_reducible first
        | assumption | exact memWf_nil | apply State.regOp_canon | apply next_canon
    | dsimp only

theorem execMulhu_canon (g : Nat) (rd : BitVec 5) (ra : BitVec 5) (rb : BitVec 5) (s : State) (hc : s.canon) : (next s (execMulhu g rd ra rb s)).canon := by
  unfold execMulhu
  repeat' first
    | intro _
    | with_reducible first
        | assumption | exact memWf_nil | apply State.regOp_canon | apply next_canon
    | dsimp only

theorem execMulhs_canon (g : Nat) (rd : BitVec 5) (ra : BitVec 5) (rb : BitVec 5) (s : State) (hc : s.canon) : (next s (execMulhs g rd ra rb s)).canon := by
  unfold execMulhs
  repeat' first
    | intro _
    | with_reducible first
        | assumption | exact memWf_nil | apply State.regOp_canon | apply next_canon
    | dsimp only

theorem execClz_canon (g : Nat) (rd : BitVec 5) (ra : BitVec 5) (rb : BitVec 5) (s : State) (hc : s.canon) : (next s (execClz g rd ra rb s)).canon := by
  unfold execClz
  repeat' first
    | intro _
    | with_reducible first
        | assumption | exact memWf_nil | apply State.issue_canon | apply State.alu_canon | apply next_canon
    | dsimp only

theorem execPopc_canon (g : Nat) (rd : BitVec 5) (ra : BitVec 5) (rb : BitVec 5) (s : State) (hc : s.canon) : (next s (execPopc g rd ra rb s)).canon := by
  unfold execPopc
  repeat' first
    | intro _
    | with_reducible first
        | assumption | exact memWf_nil | apply State.issue_canon | apply State.alu_canon | apply next_canon
    | dsimp only

theorem execMin_canon (g : Nat) (rd : BitVec 5) (ra : BitVec 5) (rb : BitVec 5) (s : State) (hc : s.canon) : (next s (execMin g rd ra rb s)).canon := by
  unfold execMin
  repeat' first
    | intro _
    | with_reducible first
        | assumption | exact memWf_nil | apply State.regOp_canon | apply next_canon | apply ite_c
    | dsimp only
    | split

theorem execMax_canon (g : Nat) (rd : BitVec 5) (ra : BitVec 5) (rb : BitVec 5) (s : State) (hc : s.canon) : (next s (execMax g rd ra rb s)).canon := by
  unfold execMax
  repeat' first
    | intro _
    | with_reducible first
        | assumption | exact memWf_nil | apply State.regOp_canon | apply next_canon | apply ite_c
    | dsimp only
    | split

theorem execMinu_canon (g : Nat) (rd : BitVec 5) (ra : BitVec 5) (rb : BitVec 5) (s : State) (hc : s.canon) : (next s (execMinu g rd ra rb s)).canon := by
  unfold execMinu
  repeat' first
    | intro _
    | with_reducible first
        | assumption | exact memWf_nil | apply State.regOp_canon | apply next_canon | apply ite_c
    | dsimp only
    | split

theorem execMaxu_canon (g : Nat) (rd : BitVec 5) (ra : BitVec 5) (rb : BitVec 5) (s : State) (hc : s.canon) : (next s (execMaxu g rd ra rb s)).canon := by
  unfold execMaxu
  repeat' first
    | intro _
    | with_reducible first
        | assumption | exact memWf_nil | apply State.regOp_canon | apply next_canon | apply ite_c
    | dsimp only
    | split

theorem execSlt_canon (g : Nat) (rd : BitVec 5) (ra : BitVec 5) (rb : BitVec 5) (s : State) (hc : s.canon) : (next s (execSlt g rd ra rb s)).canon := by
  unfold execSlt
  repeat' first
    | intro _
    | with_reducible first
        | assumption | exact memWf_nil | apply State.regOp_canon | apply next_canon | apply ite_c
    | dsimp only
    | split

theorem execSltu_canon (g : Nat) (rd : BitVec 5) (ra : BitVec 5) (rb : BitVec 5) (s : State) (hc : s.canon) : (next s (execSltu g rd ra rb s)).canon := by
  unfold execSltu
  repeat' first
    | intro _
    | with_reducible first
        | assumption | exact memWf_nil | apply State.regOp_canon | apply next_canon | apply ite_c
    | dsimp only
    | split

theorem execAddi_canon (g : Nat) (rd : BitVec 5) (ra : BitVec 5) (imm : BitVec 16) (s : State) (hc : s.canon) : (next s (execAddi g rd ra imm s)).canon := by
  unfold execAddi
  repeat' first
    | intro _
    | with_reducible first
        | assumption | exact memWf_nil | apply State.issue_canon | apply State.sum_canon | apply next_canon
    | dsimp only

theorem execAndi_canon (g : Nat) (rd : BitVec 5) (ra : BitVec 5) (imm : BitVec 16) (s : State) (hc : s.canon) : (next s (execAndi g rd ra imm s)).canon := by
  unfold execAndi
  repeat' first
    | intro _
    | with_reducible first
        | assumption | exact memWf_nil | apply State.immOp_canon | apply next_canon
    | dsimp only

theorem execOri_canon (g : Nat) (rd : BitVec 5) (ra : BitVec 5) (imm : BitVec 16) (s : State) (hc : s.canon) : (next s (execOri g rd ra imm s)).canon := by
  unfold execOri
  repeat' first
    | intro _
    | with_reducible first
        | assumption | exact memWf_nil | apply State.immOp_canon | apply next_canon
    | dsimp only

theorem execXori_canon (g : Nat) (rd : BitVec 5) (ra : BitVec 5) (imm : BitVec 16) (s : State) (hc : s.canon) : (next s (execXori g rd ra imm s)).canon := by
  unfold execXori
  repeat' first
    | intro _
    | with_reducible first
        | assumption | exact memWf_nil | apply State.immOp_canon | apply next_canon
    | dsimp only

theorem execShli_canon (g : Nat) (rd : BitVec 5) (ra : BitVec 5) (imm : BitVec 16) (s : State) (hc : s.canon) : (next s (execShli g rd ra imm s)).canon := by
  unfold execShli
  repeat' first
    | intro _
    | with_reducible first
        | assumption | exact memWf_nil | apply State.immOp_canon | apply next_canon
    | dsimp only

theorem execShri_canon (g : Nat) (rd : BitVec 5) (ra : BitVec 5) (imm : BitVec 16) (s : State) (hc : s.canon) : (next s (execShri g rd ra imm s)).canon := by
  unfold execShri
  repeat' first
    | intro _
    | with_reducible first
        | assumption | exact memWf_nil | apply State.immOp_canon | apply next_canon
    | dsimp only

theorem execSari_canon (g : Nat) (rd : BitVec 5) (ra : BitVec 5) (imm : BitVec 16) (s : State) (hc : s.canon) : (next s (execSari g rd ra imm s)).canon := by
  unfold execSari
  repeat' first
    | intro _
    | with_reducible first
        | assumption | exact memWf_nil | apply State.immOp_canon | apply next_canon
    | dsimp only

theorem execSlti_canon (g : Nat) (rd : BitVec 5) (ra : BitVec 5) (imm : BitVec 16) (s : State) (hc : s.canon) : (next s (execSlti g rd ra imm s)).canon := by
  unfold execSlti
  repeat' first
    | intro _
    | with_reducible first
        | assumption | exact memWf_nil | apply State.immOp_canon | apply next_canon | apply ite_c
    | dsimp only
    | split

theorem execLui_canon (g : Nat) (rd : BitVec 5) (ra : BitVec 5) (imm : BitVec 16) (s : State) (hc : s.canon) : (next s (execLui g rd ra imm s)).canon := by
  unfold execLui
  repeat' first
    | intro _
    | with_reducible first
        | assumption | exact memWf_nil | apply State.issue_canon | apply State.move_canon | apply next_canon
    | dsimp only

theorem execExt_canon (g : Nat) (rd : BitVec 5) (ra : BitVec 5) (pos : BitVec 5) (len : BitVec 5) (s : State) (hc : s.canon) : (next s (execExt g rd ra pos len s)).canon := by
  unfold execExt
  repeat' first
    | intro _
    | with_reducible first
        | assumption | exact memWf_nil | apply State.issue_canon | apply State.move_canon | apply next_canon
    | dsimp only

theorem execExtu_canon (g : Nat) (rd : BitVec 5) (ra : BitVec 5) (pos : BitVec 5) (len : BitVec 5) (s : State) (hc : s.canon) : (next s (execExtu g rd ra pos len s)).canon := by
  unfold execExtu
  repeat' first
    | intro _
    | with_reducible first
        | assumption | exact memWf_nil | apply State.issue_canon | apply State.move_canon | apply next_canon
    | dsimp only

theorem execIns_canon (g : Nat) (rd : BitVec 5) (ra : BitVec 5) (pos : BitVec 5) (len : BitVec 5) (s : State) (hc : s.canon) : (next s (execIns g rd ra pos len s)).canon := by
  unfold execIns
  repeat' first
    | intro _
    | with_reducible first
        | assumption | exact memWf_nil | apply State.issue_canon | apply State.move_canon | apply next_canon
    | dsimp only
    | split

theorem execBswap_canon (g : Nat) (rd : BitVec 5) (ra : BitVec 5) (pos : BitVec 5) (len : BitVec 5) (s : State) (hc : s.canon) : (next s (execBswap g rd ra pos len s)).canon := by
  unfold execBswap
  repeat' first
    | intro _
    | with_reducible first
        | assumption | exact memWf_nil | apply State.issue_canon | apply State.move_canon | apply next_canon
    | dsimp only

theorem execCrc32c_canon (g : Nat) (rd : BitVec 5) (ra : BitVec 5) (rb : BitVec 5) (n : BitVec 3) (s : State) (hc : s.canon) : (next s (execCrc32c g rd ra rb n s)).canon := by
  unfold execCrc32c
  repeat' first
    | intro _
    | with_reducible first
        | assumption | exact memWf_nil | apply State.issue_canon | apply State.move_canon | apply next_canon
    | dsimp only

theorem execCrc16_canon (g : Nat) (rd : BitVec 5) (ra : BitVec 5) (rb : BitVec 5) (n : BitVec 3) (s : State) (hc : s.canon) : (next s (execCrc16 g rd ra rb n s)).canon := by
  unfold execCrc16
  repeat' first
    | intro _
    | with_reducible first
        | assumption | exact memWf_nil | apply State.issue_canon | apply State.move_canon | apply next_canon
    | dsimp only

theorem execHash_canon (g : Nat) (rd : BitVec 5) (ra : BitVec 5) (rb : BitVec 5) (s : State) (hc : s.canon) : (next s (execHash g rd ra rb s)).canon := by
  unfold execHash
  repeat' first
    | intro _
    | with_reducible first
        | assumption | exact memWf_nil | apply State.issue_canon | apply State.move_canon | apply next_canon
    | dsimp only

theorem State.branch_canon (s : State) (g : Nat) (op : Nat) (ra : BitVec 5) (rb : BitVec 5) (disp : BitVec 16) (cond : Nat → Nat → Bool) (hc : s.canon) : (State.branch s g op ra rb disp cond).canon := by
  unfold State.branch
  repeat' first
    | intro _
    | with_reducible first
        | assumption | exact memWf_nil | apply State.put_canon | apply State.pcNext_canon | apply State.issue_canon | apply ite_c
    | dsimp only
    | split

theorem execBeq_canon (g : Nat) (ra : BitVec 5) (rb : BitVec 5) (disp : BitVec 16) (s : State) (hc : s.canon) : (next s (execBeq g ra rb disp s)).canon := by
  unfold execBeq
  repeat' first
    | intro _
    | with_reducible first
        | assumption | exact memWf_nil | apply State.branch_canon | apply next_canon
    | dsimp only

theorem execBne_canon (g : Nat) (ra : BitVec 5) (rb : BitVec 5) (disp : BitVec 16) (s : State) (hc : s.canon) : (next s (execBne g ra rb disp s)).canon := by
  unfold execBne
  repeat' first
    | intro _
    | with_reducible first
        | assumption | exact memWf_nil | apply State.branch_canon | apply next_canon
    | dsimp only

theorem execBlt_canon (g : Nat) (ra : BitVec 5) (rb : BitVec 5) (disp : BitVec 16) (s : State) (hc : s.canon) : (next s (execBlt g ra rb disp s)).canon := by
  unfold execBlt
  repeat' first
    | intro _
    | with_reducible first
        | assumption | exact memWf_nil | apply State.branch_canon | apply next_canon
    | dsimp only

theorem execBge_canon (g : Nat) (ra : BitVec 5) (rb : BitVec 5) (disp : BitVec 16) (s : State) (hc : s.canon) : (next s (execBge g ra rb disp s)).canon := by
  unfold execBge
  repeat' first
    | intro _
    | with_reducible first
        | assumption | exact memWf_nil | apply State.branch_canon | apply next_canon
    | dsimp only

theorem execBltu_canon (g : Nat) (ra : BitVec 5) (rb : BitVec 5) (disp : BitVec 16) (s : State) (hc : s.canon) : (next s (execBltu g ra rb disp s)).canon := by
  unfold execBltu
  repeat' first
    | intro _
    | with_reducible first
        | assumption | exact memWf_nil | apply State.branch_canon | apply next_canon
    | dsimp only

theorem execBgeu_canon (g : Nat) (ra : BitVec 5) (rb : BitVec 5) (disp : BitVec 16) (s : State) (hc : s.canon) : (next s (execBgeu g ra rb disp s)).canon := by
  unfold execBgeu
  repeat' first
    | intro _
    | with_reducible first
        | assumption | exact memWf_nil | apply State.branch_canon | apply next_canon
    | dsimp only

theorem execJ_canon (g : Nat) (disp : BitVec 25) (s : State) (hc : s.canon) : (next s (execJ g disp s)).canon := by
  unfold execJ
  repeat' first
    | intro _
    | with_reducible first
        | assumption | exact memWf_nil | apply State.put_canon | apply State.issue_canon | apply next_canon
    | dsimp only

theorem execJal_canon (g : Nat) (disp : BitVec 25) (s : State) (hc : s.canon) : (next s (execJal g disp s)).canon := by
  unfold execJal
  repeat' first
    | intro _
    | with_reducible first
        | assumption | exact memWf_nil | apply State.put_canon | apply State.setW_canon | apply State.issue_canon
        | apply next_canon
    | dsimp only

theorem execJalr_canon (g : Nat) (rd : BitVec 5) (ra : BitVec 5) (imm : BitVec 16) (s : State) (hc : s.canon) : (next s (execJalr g rd ra imm s)).canon := by
  unfold execJalr
  repeat' first
    | intro _
    | with_reducible first
        | assumption | exact memWf_nil | apply State.put_canon | apply State.setW_canon | apply State.issue_canon
        | apply next_canon
    | dsimp only
    | split

theorem execTnow_canon (g : Nat) (rd : BitVec 5) (ra : BitVec 5) (cmd : BitVec 12) (s : State) (hc : s.canon) : (next s (execTnow g rd ra cmd s)).canon := by
  unfold execTnow
  repeat' first
    | intro _
    | with_reducible first
        | assumption | exact memWf_nil | apply State.pcNext_canon | apply State.setPair_canon | apply State.issue_canon
        | apply next_canon
    | dsimp only

theorem execTwait_canon (g : Nat) (rd : BitVec 5) (ra : BitVec 5) (cmd : BitVec 12) (s : State) (hc : s.canon) : (next s (execTwait g rd ra cmd s)).canon := by
  unfold execTwait
  repeat' first
    | intro _
    | with_reducible first
        | assumption | exact memWf_nil | apply State.pcNext_canon | apply State.waitFor_canon | apply State.issue_canon
        | apply next_canon | apply ite_c
    | dsimp only
    | split

theorem execTarm_canon (g : Nat) (rd : BitVec 5) (ra : BitVec 5) (cmd : BitVec 12) (s : State) (hc : s.canon) : (next s (execTarm g rd ra cmd s)).canon := by
  unfold execTarm
  repeat' first
    | intro _
    | with_reducible first
        | assumption | exact memWf_nil | apply State.put_canon | apply State.set_canon | apply State.clr_canon
        | apply State.pcNext_canon | apply State.issue_canon | apply next_canon | apply ite_c
    | dsimp only
    | split

theorem execYield_canon (g : Nat) (rd : BitVec 5) (ra : BitVec 5) (cmd : BitVec 12) (s : State) (hc : s.canon) : (next s (execYield g rd ra cmd s)).canon := by
  unfold execYield
  repeat' first
    | intro _
    | with_reducible first
        | assumption | exact memWf_nil | apply State.pcNext_canon | apply State.issue_canon | apply next_canon
    | dsimp only

theorem execWaitev_canon (g : Nat) (rd : BitVec 5) (ra : BitVec 5) (cmd : BitVec 12) (s : State) (hc : s.canon) : (next s (execWaitev g rd ra cmd s)).canon := by
  unfold execWaitev
  repeat' first
    | intro _
    | with_reducible first
        | assumption | exact memWf_nil | apply State.pcNext_canon | apply State.waitFor_canon | apply State.issue_canon
        | apply State.evTake_canon | apply next_canon | apply ite_c
    | dsimp only
    | split

theorem execSignal_canon (g : Nat) (rd : BitVec 5) (ra : BitVec 5) (cmd : BitVec 12) (s : State) (hc : s.canon) : (next s (execSignal g rd ra cmd s)).canon := by
  unfold execSignal
  repeat' first
    | intro _
    | with_reducible first
        | assumption | exact memWf_nil | apply State.pcNext_canon | apply State.edge_canon | apply State.trap_canon
        | apply State.issue_canon | apply next_canon | apply ite_c
    | dsimp only
    | split

theorem execFence_canon (g : Nat) (rd : BitVec 5) (ra : BitVec 5) (cmd : BitVec 12) (s : State) (hc : s.canon) : (next s (execFence g rd ra cmd s)).canon := by
  unfold execFence
  repeat' first
    | intro _
    | with_reducible first
        | assumption | exact memWf_nil | apply State.pcNext_canon | apply State.issue_canon | apply next_canon
    | dsimp only

theorem execHalt_canon (g : Nat) (rd : BitVec 5) (ra : BitVec 5) (cmd : BitVec 12) (s : State) (hc : s.canon) : (next s (execHalt g rd ra cmd s)).canon := by
  unfold execHalt
  repeat' first
    | intro _
    | with_reducible first
        | assumption | exact memWf_nil | apply State.draw_canon | apply State.halt_canon | apply State.issue_canon
        | apply next_canon
    | refine pair_canon (by assumption) ?_
    | refine tripR_canon (by assumption) ?_
    | dsimp only
    | split

theorem State.special_canon (s : State) (g : Nat) (k : Nat) (hc : s.canon) : ((State.special s g k).2).canon := by
  unfold State.special
  repeat' first
    | intro _
    | with_reducible first
        | assumption | exact memWf_nil | apply State.put_canon | apply State.set_canon | apply State.clr_canon
        | apply State.mem_ok | apply ite_c
    | refine pair_canon (by assumption) ?_
    | refine tripR_canon (by assumption) ?_
    | dsimp only
    | split
    | simp only [State.canon_mk]

theorem State.putSpecial_canon (s : State) (g : Nat) (k : Nat) (v : Nat) (hc : s.canon) : (State.putSpecial s g k v).canon := by
  unfold State.putSpecial
  repeat' first
    | intro _
    | with_reducible first
        | assumption | exact memWf_nil | apply State.put_canon | apply State.pcNext_canon | apply State.trap_canon
        | apply State.mem_ok | apply ite_c
    | refine pair_canon (by assumption) ?_
    | refine tripR_canon (by assumption) ?_
    | dsimp only
    | split
    | simp only [State.canon_mk]

theorem execMfs_canon (g : Nat) (rd : BitVec 5) (ra : BitVec 5) (cmd : BitVec 12) (s : State) (hc : s.canon) : (next s (execMfs g rd ra cmd s)).canon := by
  unfold execMfs
  repeat' first
    | intro _
    | with_reducible first
        | assumption | exact memWf_nil | apply State.issue_canon | apply State.move_canon | apply State.special_canon
        | apply next_canon
    | dsimp only
    | split

theorem execMts_canon (g : Nat) (rd : BitVec 5) (ra : BitVec 5) (cmd : BitVec 12) (s : State) (hc : s.canon) : (next s (execMts g rd ra cmd s)).canon := by
  unfold execMts
  repeat' first
    | intro _
    | with_reducible first
        | assumption | exact memWf_nil | apply State.issue_canon | apply State.putSpecial_canon | apply next_canon
    | dsimp only

theorem execTrap_canon (g : Nat) (rd : BitVec 5) (ra : BitVec 5) (cmd : BitVec 12) (s : State) (hc : s.canon) : (next s (execTrap g rd ra cmd s)).canon := by
  unfold execTrap
  repeat' first
    | intro _
    | with_reducible first
        | assumption | exact memWf_nil | apply State.trap_canon | apply State.issue_canon | apply next_canon
    | dsimp only

theorem execTret_canon (g : Nat) (rd : BitVec 5) (ra : BitVec 5) (cmd : BitVec 12) (s : State) (hc : s.canon) : (next s (execTret g rd ra cmd s)).canon := by
  unfold execTret
  repeat' first
    | intro _
    | with_reducible first
        | assumption | exact memWf_nil | apply State.put_canon | apply State.clr_canon | apply State.issue_canon
        | apply next_canon
    | dsimp only

theorem State.lkup_canon (s : State) (g : Nat) (key : Nat) (h : Nat) (ra : BitVec 5) (hc : s.canon) : ((State.lkup s g key h ra).2).canon := by
  unfold State.lkup
  repeat' first
    | intro _
    | with_reducible first
        | assumption | exact memWf_nil | apply State.bump_canon | apply State.lookup_canon | apply State.opened_canon
        | apply State.mem_ok | apply ite_c
    | refine pair_canon (by assumption) ?_
    | refine tripR_canon (by assumption) ?_
    | dsimp only
    | split
    | simp only [State.canon_mk]

theorem execLkup_canon (g : Nat) (rd : BitVec 5) (ra : BitVec 5) (cmd : BitVec 12) (s : State) (hc : s.canon) : (next s (execLkup g rd ra cmd s)).canon := by
  unfold execLkup
  repeat' first
    | intro _
    | with_reducible first
        | assumption | exact memWf_nil | apply State.clr_canon | apply State.when_canon | apply State.pcNext_canon
        | apply State.setW_canon | apply State.setZ_canon | apply State.issue_canon | apply State.openWin_canon
        | apply State.lkup_canon | apply next_canon | apply State.mem_ok
    | refine pair_canon (by assumption) ?_
    | refine tripR_canon (by assumption) ?_
    | dsimp only
    | split
    | simp only [State.canon_mk]

theorem State.tinsDenied_canon (s : State) (g : Nat) (rd : Nat) (hc : s.canon) : (State.tinsDenied s g rd).canon := by
  unfold State.tinsDenied
  repeat' first
    | intro _
    | with_reducible first
        | assumption | exact memWf_nil | apply State.draw_canon | apply State.setW_canon | apply State.setZ_canon
    | refine pair_canon (by assumption) ?_
    | refine tripR_canon (by assumption) ?_
    | dsimp only
    | split

theorem State.tinsDone_canon (s : State) (g : Nat) (rd : Nat) (slot : Nat) (win : Bool) (r : Ins) (hc : s.canon) : (State.tinsDone s g rd slot win r).canon := by
  unfold State.tinsDone
  repeat' first
    | intro _
    | with_reducible first
        | assumption | exact memWf_nil | apply State.draw_canon | apply State.when_canon | apply State.setW_canon
        | apply State.setZ_canon | apply State.openWin_canon | apply State.mem_ok
    | refine pair_canon (by assumption) ?_
    | refine tripR_canon (by assumption) ?_
    | dsimp only
    | split
    | simp only [State.canon_mk]

theorem execTins_canon (g : Nat) (rd : BitVec 5) (ra : BitVec 5) (cmd : BitVec 12) (s : State) (hc : s.canon) : (next s (execTins g rd ra cmd s)).canon := by
  unfold execTins
  repeat' first
    | intro _
    | with_reducible first
        | assumption | exact memWf_nil | apply State.pcNext_canon | apply State.insertNode_canon | apply State.trap_canon
        | apply State.waitFor_canon | apply State.issue_canon | apply State.tinsDenied_canon | apply State.tinsDone_canon
        | apply next_canon | apply State.mem_ok | apply ite_c
    | refine pair_canon (by assumption) ?_
    | refine tripR_canon (by assumption) ?_
    | dsimp only
    | split
    | simp only [State.canon_mk]

theorem execTdel_canon (g : Nat) (rd ra : BitVec 5) (cmd : BitVec 12) (s : State) (hc : s.canon) : (next s (execTdel g rd ra cmd s)).canon := by
  unfold execTdel
  extract_lets ok
  clear_value ok
  with_reducible refine next_canon (State.issue_canon _ _ _ _ _ ?_ hc)
  intro u hu
  extract_lets e s1
  clear_value e
  have h1 : s1.canon := State.opened_canon _ _ _ hu
  clear_value s1
  split
  · with_reducible exact State.pcNext_canon _ _ (State.setZ_canon _ _ _ (State.setW_canon _ _ _ _ h1))
  · rename_i s2 _
    have h2 : s2.canon := State.closeOwn_canon _ _ _ h1
    clear_value s2
    split
    · with_reducible apply State.waitFor_canon
      simp only [State.canon_mk]
      exact h2
    · with_reducible exact State.pcNext_canon _ _ (State.setZ_canon _ _ _ (State.setW_canon _ _ _ _ (State.freeEntry_canon _ _ _ _ h2)))
theorem execTtouch_canon (g : Nat) (rd : BitVec 5) (ra : BitVec 5) (cmd : BitVec 12) (s : State) (hc : s.canon) : (next s (execTtouch g rd ra cmd s)).canon := by
  unfold execTtouch
  repeat' first
    | intro _
    | with_reducible first
        | assumption | exact memWf_nil | apply State.pcNext_canon | apply State.opened_canon | apply State.hit_canon
        | apply State.setW_canon | apply State.setZ_canon | apply State.issue_canon | apply next_canon | apply ite_c
    | dsimp only
    | split

theorem execQput_canon (g : Nat) (rd : BitVec 5) (ra : BitVec 5) (cmd : BitVec 12) (s : State) (hc : s.canon) : (next s (execQput g rd ra cmd s)).canon := by
  unfold execQput
  repeat' first
    | intro _
    | with_reducible first
        | assumption | exact memWf_nil | apply State.put_canon | apply State.bump_canon | apply State.pcNext_canon
        | apply State.trap_canon | apply State.waitFor_canon | apply State.issue_canon | apply State.fifoStore_canon
        | apply next_canon | apply ite_c
    | dsimp only
    | split

theorem State.queueRead_canon (s : State) (g : Nat) (rd : BitVec 5) (ra : BitVec 5) (cmd : BitVec 12) (take : Bool) (hc : s.canon) : (State.queueRead s g rd ra cmd take).canon := by
  unfold State.queueRead
  repeat' first
    | intro _
    | with_reducible first
        | assumption | exact memWf_nil | apply State.when_canon | apply State.pcNext_canon | apply State.take_canon
        | apply State.setW_canon | apply State.setZ_canon | apply State.trap_canon | apply State.placeWrite_canon
        | apply State.fifoTake_canon | apply State.mem_ok | apply ite_c
    | refine pair_canon (by assumption) ?_
    | refine tripR_canon (by assumption) ?_
    | dsimp only
    | split
    | simp only [State.canon_mk]

theorem execQget_canon (g : Nat) (rd : BitVec 5) (ra : BitVec 5) (cmd : BitVec 12) (s : State) (hc : s.canon) : (next s (execQget g rd ra cmd s)).canon := by
  unfold execQget
  repeat' first
    | intro _
    | with_reducible first
        | assumption | exact memWf_nil | apply State.issue_canon | apply State.queueRead_canon | apply next_canon
    | dsimp only

theorem execQpeek_canon (g : Nat) (rd : BitVec 5) (ra : BitVec 5) (cmd : BitVec 12) (s : State) (hc : s.canon) : (next s (execQpeek g rd ra cmd s)).canon := by
  unfold execQpeek
  repeat' first
    | intro _
    | with_reducible first
        | assumption | exact memWf_nil | apply State.issue_canon | apply State.queueRead_canon | apply next_canon
    | dsimp only

theorem State.cryKey_canon (s : State) (g : Nat) (b : CryBlock) (hc : s.canon) : ((State.cryKey s g b).2.2.2).canon := by
  unfold State.cryKey
  repeat' first
    | intro _
    | with_reducible first
        | assumption | exact memWf_nil | apply State.bump_canon | apply State.derive_canon | apply State.mem_ok | apply ite_c
    | refine pair_canon (by assumption) ?_
    | refine tripR_canon (by assumption) ?_
    | dsimp only
    | split
    | simp only [State.canon_mk]

theorem State.drawOctets_canon (s : State) (n : Nat) (hc : s.canon) : (s.drawOctets n).2.canon := by
  induction n generalizing s with
  | zero => exact hc
  | succ n ih => unfold State.drawOctets; exact ih _ (State.draw_canon hc)
theorem State.cryRun_canon (s : State) (b : CryBlock) (key : List Nat) (ad : List Nat) (inp : List Nat) (sig : List Nat) (hc : s.canon) : ((State.cryRun s b key ad inp sig).2.2.2).canon := by
  unfold State.cryRun
  repeat' first
    | intro _
    | with_reducible first
        | assumption | exact memWf_nil | apply State.drawOctets_canon | apply State.mem_ok | apply ite_c
    | refine pair_canon (by assumption) ?_
    | refine tripR_canon (by assumption) ?_
    | dsimp only
    | split
    | simp only [State.canon_mk]

theorem execCry_canon (g : Nat) (rd : BitVec 5) (ra : BitVec 5) (cmd : BitVec 12) (s : State) (hc : s.canon) : (next s (execCry g rd ra cmd s)).canon := by
  unfold execCry
  repeat' first
    | intro _
    | with_reducible first
        | assumption | exact memWf_nil | apply State.bump_canon | apply State.when_canon | apply State.pcNext_canon
        | apply State.setW_canon | apply State.trap_canon | apply State.issue_canon | apply State.cryKey_canon
        | apply State.cryRun_canon | apply next_canon | apply State.mem_ok | apply ite_c
    | refine pair_canon (by assumption) ?_
    | refine tripR_canon (by assumption) ?_
    | dsimp only
    | split
    | simp only [State.canon_mk]

theorem State.cwaitDone_canon (s : State) (g : Nat) (rd : Nat) (x : CryOp) (hc : s.canon) : (State.cwaitDone s g rd x).canon := by
  unfold State.cwaitDone
  repeat' first
    | intro _
    | with_reducible first
        | assumption | exact memWf_nil | apply State.setW_canon | apply State.setZ_canon | apply State.mem_ok
    | dsimp only
    | split
    | simp only [State.canon_mk]

theorem execCwait_canon (g : Nat) (rd : BitVec 5) (ra : BitVec 5) (cmd : BitVec 12) (s : State) (hc : s.canon) : (next s (execCwait g rd ra cmd s)).canon := by
  unfold execCwait
  repeat' first
    | intro _
    | with_reducible first
        | assumption | exact memWf_nil | apply State.pcNext_canon | apply State.setW_canon | apply State.setZ_canon
        | apply State.waitFor_canon | apply State.issue_canon | apply State.cwaitDone_canon | apply next_canon
        | apply State.mem_ok | apply ite_c
    | refine pair_canon (by assumption) ?_
    | refine tripR_canon (by assumption) ?_
    | dsimp only
    | split
    | simp only [State.canon_mk]

theorem execCryComplete_canon (g : Nat) (t : Nat) (s : State) (hc : s.canon) : (next s (execCryComplete g t s)).canon := by
  unfold execCryComplete
  repeat' first
    | intro _
    | with_reducible first
        | assumption | exact memWf_nil | apply State.resume_canon | apply State.edge_canon | apply State.placeWrite_canon
        | apply State.cwaitDone_canon | apply next_canon | apply State.mem_ok | apply ite_c
    | refine pair_canon (by assumption) ?_
    | refine tripR_canon (by assumption) ?_
    | dsimp only
    | split
    | simp only [State.canon_mk]

theorem State.scpShow_canon (s : State) (hc : s.canon) : (State.scpShow s).canon := by
  unfold State.scpShow
  repeat' first
    | intro _
    | with_reducible first
        | assumption | exact memWf_nil | apply State.put_canon | apply getD_canon
    | dsimp only
    | split

theorem State.scpScan_canon (s : State) (hc : s.canon) : (State.scpScan s).canon := by
  unfold State.scpScan
  repeat' first
    | intro _
    | with_reducible first
        | assumption | exact memWf_nil | apply State.put_canon | apply State.set_canon | apply State.scpShow_canon
        | apply next_canon | apply State.mem_ok | apply ite_c
    | refine pair_canon (by assumption) ?_
    | refine tripR_canon (by assumption) ?_
    | dsimp only
    | split
    | simp only [State.canon_mk]

theorem State.scpLost_canon (s : State) (hc : s.canon) : (State.scpLost s).canon := by
  unfold State.scpLost
  repeat' first
    | intro _
    | with_reducible first
        | assumption | exact memWf_nil | apply State.clr_canon | apply State.scpQueue_canon | apply State.mem_ok | apply ite_c
    | dsimp only
    | split
    | simp only [State.canon_mk]

theorem execScorepadCommit_canon (read : List Nat) (s : State) (hc : s.canon) : (next s (execScorepadCommit read s)).canon := by
  unfold execScorepadCommit
  split
  · exact hc
  rename_i r q heq
  split
  · exact hc
  extract_lets key l src s1
  have q1 : s1.canon := State.scpShow_canon _ (State.put_canon _ _ _ (State.mram_canon _ hc (memWriteL_wf _ _ (State.mram_wf hc))))
  clear_value s1
  split
  · rw [next_next]
    refine State.scpLost_canon _ (State.clr_canon _ _ (State.put_canon _ _ _ ?_))
    exact q1
  split
  ·
    repeat' first
      | intro _
      | with_reducible first
          | assumption | exact memWf_nil | apply State.put_canon | apply State.set_canon | apply State.clr_canon
          | apply State.fault_canon | apply State.scpShow_canon | apply State.scpLost_canon | apply next_canon | apply State.mem_ok
          | apply And.intro | apply memFold_wf | apply memWriteL_wf | apply memWrite_wf | apply memZero_wf | apply memFilter_wf
          | apply State.sram_wf | apply State.localMem_wf | apply State.sharedMem_wf | apply State.instrMem_wf
          | apply State.dram_wf | apply State.mram_wf | apply State.host_wf | apply State.flash_wf | apply ite_c
      | refine pair_canon (by assumption) ?_
      | refine tripR_canon (by assumption) ?_
      | dsimp only
      | split
      | simp only [State.canon_mk]
      | simp only [Memories.ok_mk]

  ·
    repeat' first
      | intro _
      | with_reducible first
          | assumption | exact memWf_nil | apply State.put_canon | apply State.set_canon | apply State.clr_canon
          | apply State.fault_canon | apply State.scpShow_canon | apply State.scpLost_canon | apply next_canon | apply State.mem_ok
          | apply And.intro | apply memFold_wf | apply memWriteL_wf | apply memWrite_wf | apply memZero_wf | apply memFilter_wf
          | apply State.sram_wf | apply State.localMem_wf | apply State.sharedMem_wf | apply State.instrMem_wf
          | apply State.dram_wf | apply State.mram_wf | apply State.host_wf | apply State.flash_wf | apply ite_c
      | refine pair_canon (by assumption) ?_
      | refine tripR_canon (by assumption) ?_
      | dsimp only
      | split
      | simp only [State.canon_mk]
      | simp only [Memories.ok_mk]

theorem execScorepadSuppressReport_canon (s : State) (hc : s.canon) : (next s (execScorepadSuppressReport s)).canon := by
  unfold execScorepadSuppressReport
  repeat' first
    | intro _
    | with_reducible first
        | assumption | exact memWf_nil | apply State.put_canon | apply State.clr_canon | apply State.scpQueue_canon
        | apply next_canon | apply State.mem_ok | apply ite_c
    | dsimp only
    | split
    | simp only [State.canon_mk]

theorem execScorepadRead_canon (c : Cmd) (addr : Nat) (seq : Nat) (era : Nat) (count : Nat) (oldest : Bool) (s : State) (hc : s.canon) : (next s (execScorepadRead c addr seq era count oldest s)).canon := by
  unfold execScorepadRead
  repeat' first
    | intro _
    | with_reducible first
        | assumption | exact memWf_nil | apply State.finish_canon | apply State.answer_canon | apply State.take_canon
        | apply next_canon | apply State.mem_ok | apply ite_c
    | refine pair_canon (by assumption) ?_
    | refine tripR_canon (by assumption) ?_
    | dsimp only
    | split
    | simp only [State.canon_mk]

theorem execBeaconInterval_canon (h : Nat) (s : State) (hc : s.canon) : (next s (execBeaconInterval h s)).canon := by
  unfold execBeaconInterval
  repeat' first
    | intro _
    | with_reducible first
        | assumption | exact memWf_nil | apply State.put_canon | apply State.set_canon | apply State.clr_canon
        | apply State.takeIn_canon | apply next_canon | apply State.mem_ok | apply ite_c
    | dsimp only
    | split
    | simp only [State.canon_mk]

theorem execGenBaseWrite_canon (r : Req) (h : Nat) (v : Nat) (s : State) (hc : s.canon) : (next s (execGenBaseWrite r h v s)).canon := by
  unfold execGenBaseWrite
  repeat' first
    | intro _
    | with_reducible first
        | assumption | exact memWf_nil | apply State.put_canon | apply State.set_canon | apply State.onBus_canon
        | apply next_canon | apply ite_c
    | dsimp only
    | split

theorem State.campEnd_canon (s : State) (h : Nat) (status : Nat) (aborted : Bool) (hc : s.canon) : (State.campEnd s h status aborted).canon := by
  unfold State.campEnd
  repeat' first
    | intro _
    | with_reducible first
        | assumption | exact memWf_nil | apply State.put_canon | apply State.clr_canon | apply State.complete_canon
        | apply State.mem_ok | apply ite_c
    | refine pair_canon (by assumption) ?_
    | refine tripR_canon (by assumption) ?_
    | dsimp only
    | split
    | simp only [State.canon_mk]

theorem execCampaignStart_canon (c : Cmd) (num : Nat) (bsize : Nat) (bcount : Nat) (from_ : Nat) (list : Bool) (lcount : Nat) (mOff : Nat) (iOff : Nat) (lOff : Nat) (s : State) (hc : s.canon) : (next s (execCampaignStart c num bsize bcount from_ list lcount mOff iOff lOff s)).canon := by
  unfold execCampaignStart
  repeat' first
    | intro _
    | with_reducible first
        | assumption | exact memWf_nil | apply State.put_canon | apply State.set_canon | apply State.clr_canon
        | apply State.bump_canon | apply State.draw_canon | apply State.when_canon | apply State.each_canon
        | apply State.served_canon | apply State.complete_canon | apply State.finish_canon | apply State.accepted_canon
        | apply State.sum_canon | apply next_canon | apply State.mem_ok | apply ite_c
    | refine pair_canon (by assumption) ?_
    | refine tripR_canon (by assumption) ?_
    | dsimp only
    | split
    | simp only [State.canon_mk]

theorem State.campPause_canon (s : State) (h : Nat) (cause : Nat) (hc : s.canon) : (State.campPause s h cause).canon := by
  unfold State.campPause
  repeat' first
    | intro _
    | with_reducible first
        | assumption | exact memWf_nil | apply State.put_canon | apply State.each_canon | apply State.downOut_canon
        | apply State.mem_ok
    | dsimp only
    | split
    | simp only [State.canon_mk]

theorem State.campSend_canon (s : State) (h : Nat) (dest : Option Nat) (b : Nat) (hc : s.canon) : (State.campSend s h dest b).canon := by
  unfold State.campSend
  repeat' first
    | intro _
    | with_reducible first
        | assumption | exact memWf_nil | apply State.set_canon | apply State.bump_canon | apply State.event_canon
        | apply State.takeIn_canon | apply State.campPause_canon | apply State.mem_ok | apply ite_c
    | refine pair_canon (by assumption) ?_
    | refine tripR_canon (by assumption) ?_
    | dsimp only
    | split
    | simp only [State.canon_mk]

theorem State.campReporting_canon (s : State) (h : Nat) (hc : s.canon) : (State.campReporting s h).canon := by
  unfold State.campReporting
  repeat' first
    | intro _
    | with_reducible first
        | assumption | exact memWf_nil | apply State.put_canon | apply State.each_canon | apply State.takeIn_canon
        | apply State.mem_ok | apply ite_c
    | dsimp only
    | split
    | simp only [State.canon_mk]

theorem State.campActivating_canon (s : State) (h : Nat) (hc : s.canon) : (State.campActivating s h).canon := by
  unfold State.campActivating
  repeat' first
    | intro _
    | with_reducible first
        | assumption | exact memWf_nil | apply State.put_canon | apply State.clr_canon | apply State.draw_canon
    | refine pair_canon (by assumption) ?_
    | refine tripR_canon (by assumption) ?_
    | dsimp only
    | split

theorem State.campNext_canon (s : State) (h : Nat) (hc : s.canon) : (State.campNext s h).canon := by
  unfold State.campNext
  repeat' first
    | intro _
    | with_reducible first
        | assumption | exact memWf_nil | apply State.put_canon | apply State.clr_canon | apply State.bump_canon
        | apply State.campReporting_canon | apply State.mem_ok | apply ite_c
    | refine pair_canon (by assumption) ?_
    | refine tripR_canon (by assumption) ?_
    | dsimp only
    | split
    | simp only [State.canon_mk]

theorem State.campRepair_canon (s : State) (h : Nat) (hc : s.canon) : (State.campRepair s h).canon := by
  unfold State.campRepair
  repeat' first
    | intro _
    | with_reducible first
        | assumption | exact memWf_nil | apply State.put_canon | apply State.campSend_canon | apply State.campReporting_canon
        | apply State.campActivating_canon | apply State.mem_ok | apply ite_c
    | refine pair_canon (by assumption) ?_
    | refine tripR_canon (by assumption) ?_
    | dsimp only
    | split
    | simp only [State.canon_mk]

theorem execCampaignBlockSend_canon (h : Nat) (s : State) (hc : s.canon) : (next s (execCampaignBlockSend h s)).canon := by
  unfold execCampaignBlockSend
  repeat' first
    | intro _
    | with_reducible first
        | assumption | exact memWf_nil | apply State.campSend_canon | apply State.campNext_canon | apply State.campRepair_canon
        | apply next_canon | apply State.mem_ok | apply ite_c
    | refine pair_canon (by assumption) ?_
    | refine tripR_canon (by assumption) ?_
    | dsimp only
    | split
    | simp only [State.canon_mk]

theorem execCampaignReportWindowEnd_canon (h : Nat) (s : State) (hc : s.canon) : (next s (execCampaignReportWindowEnd h s)).canon := by
  unfold execCampaignReportWindowEnd
  repeat' first
    | intro _
    | with_reducible first
        | assumption | exact memWf_nil | apply State.put_canon | apply State.clr_canon | apply State.bump_canon
        | apply State.campActivating_canon | apply next_canon | apply State.mem_ok | apply ite_c
    | dsimp only
    | split
    | simp only [State.canon_mk]

theorem execCampaignActivateSend_canon (h : Nat) (s : State) (hc : s.canon) : (next s (execCampaignActivateSend h s)).canon := by
  unfold execCampaignActivateSend
  repeat' first
    | intro _
    | with_reducible first
        | assumption | exact memWf_nil | apply State.put_canon | apply State.bump_canon | apply State.takeIn_canon
        | apply State.campEnd_canon | apply next_canon | apply State.mem_ok | apply ite_c
    | refine pair_canon (by assumption) ?_
    | refine tripR_canon (by assumption) ?_
    | dsimp only
    | split
    | simp only [State.canon_mk]

theorem execCampaignPause_canon (c : Cmd) (num : Nat) (s : State) (hc : s.canon) : (next s (execCampaignPause c num s)).canon := by
  unfold execCampaignPause
  repeat' first
    | intro _
    | with_reducible first
        | assumption | exact memWf_nil | apply State.finish_canon | apply State.campPause_canon | apply next_canon | apply ite_c
    | dsimp only
    | split

theorem execCampaignResume_canon (c : Cmd) (num : Nat) (s : State) (hc : s.canon) : (next s (execCampaignResume c num s)).canon := by
  unfold execCampaignResume
  repeat' first
    | intro _
    | with_reducible first
        | assumption | exact memWf_nil | apply State.put_canon | apply State.clr_canon | apply State.each_canon
        | apply State.finish_canon | apply State.takeIn_canon | apply next_canon | apply State.mem_ok | apply ite_c
    | refine pair_canon (by assumption) ?_
    | refine tripR_canon (by assumption) ?_
    | dsimp only
    | split
    | simp only [State.canon_mk]

theorem execCampaignAbort_canon (c : Cmd) (num : Nat) (s : State) (hc : s.canon) : (next s (execCampaignAbort c num s)).canon := by
  unfold execCampaignAbort
  repeat' first
    | intro _
    | with_reducible first
        | assumption | exact memWf_nil | apply State.clr_canon | apply State.finish_canon | apply State.campEnd_canon
        | apply State.campPause_canon | apply next_canon | apply ite_c
    | dsimp only
    | split

theorem execCampStatusRead_canon (r : Req) (h : Nat) (s : State) (hc : s.canon) : (next s (execCampStatusRead r h s)).canon := by
  unfold execCampStatusRead
  repeat' first
    | intro _
    | with_reducible first
        | assumption | exact memWf_nil | apply State.put_canon | apply State.clr_canon | apply State.onRead_canon
        | apply next_canon | apply ite_c
    | dsimp only
    | split

theorem execSweepStart_canon (c : Cmd) (rounds : Nat) (roundS : Nat) (ttl : Nat) (silent : Bool) (s : State) (hc : s.canon) : (next s (execSweepStart c rounds roundS ttl silent s)).canon := by
  unfold execSweepStart
  repeat' first
    | intro _
    | with_reducible first
        | assumption | exact memWf_nil | apply State.put_canon | apply State.set_canon | apply State.clr_canon
        | apply State.bump_canon | apply State.draw_canon | apply State.each_canon | apply State.complete_canon
        | apply State.finish_canon | apply State.accepted_canon | apply next_canon | apply State.mem_ok | apply ite_c
    | refine pair_canon (by assumption) ?_
    | refine tripR_canon (by assumption) ?_
    | dsimp only
    | split
    | simp only [State.canon_mk]

theorem execSweepRoundStart_canon (h : Nat) (s : State) (hc : s.canon) : (next s (execSweepRoundStart h s)).canon := by
  unfold execSweepRoundStart
  repeat' first
    | intro _
    | with_reducible first
        | assumption | exact memWf_nil | apply State.put_canon | apply State.takeIn_canon | apply next_canon | apply State.mem_ok
        | apply ite_c
    | dsimp only
    | split
    | simp only [State.canon_mk]

theorem State.sweepEnd_canon (s : State) (h : Nat) (status : Nat) (hc : s.canon) : (State.sweepEnd s h status).canon := by
  unfold State.sweepEnd
  repeat' first
    | intro _
    | with_reducible first
        | assumption | exact memWf_nil | apply State.put_canon | apply State.clr_canon | apply State.complete_canon
        | apply State.mem_ok | apply ite_c
    | refine pair_canon (by assumption) ?_
    | refine tripR_canon (by assumption) ?_
    | dsimp only
    | split
    | simp only [State.canon_mk]

theorem execSweepEnd_canon (h : Nat) (s : State) (hc : s.canon) : (next s (execSweepEnd h s)).canon := by
  unfold execSweepEnd
  repeat' first
    | intro _
    | with_reducible first
        | assumption | exact memWf_nil | apply State.sweepEnd_canon | apply next_canon | apply ite_c
    | dsimp only
    | split

theorem execSweepRead_canon (c : Cmd) (first : Nat) (count : Nat) (addr : Nat) (s : State) (hc : s.canon) : (next s (execSweepRead c first count addr s)).canon := by
  unfold execSweepRead
  repeat' first
    | intro _
    | with_reducible first
        | assumption | exact memWf_nil | apply State.drop_canon | apply State.finish_canon | apply State.answer_canon
        | apply State.take_canon | apply next_canon | apply ite_c
    | refine pair_canon (by assumption) ?_
    | refine tripR_canon (by assumption) ?_
    | dsimp only
    | split

theorem State.startThread_canon (s : State) (g : Nat) (pc : Nat) (hc : s.canon) : (State.startThread s g pc).canon := by
  unfold State.startThread
  repeat' first
    | intro _
    | with_reducible first
        | assumption | exact memWf_nil | apply State.put_canon | apply State.clr_canon | apply State.each_canon
        | apply State.putThread_canon
    | dsimp only
    | split

theorem State.startProgram_canon (s : State) (h : Nat) (k : Nat) (pc : Nat) (hc : s.canon) : (State.startProgram s h k pc).canon := by
  unfold State.startProgram
  repeat' first
    | intro _
    | with_reducible first
        | assumption | exact memWf_nil | apply State.setW_canon | apply State.startThread_canon
    | dsimp only
    | split

theorem State.haltPrograms_canon (s : State) (h : Nat) (post : Bool) (hc : s.canon) : (State.haltPrograms s h post).canon := by
  unfold State.haltPrograms
  repeat' first
    | intro _
    | with_reducible first
        | assumption | exact memWf_nil | apply State.draw_canon | apply State.when_canon | apply State.each_canon
        | apply State.event_canon | apply State.stopThread_canon | apply State.progHalted_canon | apply ite_c
    | refine pair_canon (by assumption) ?_
    | refine tripR_canon (by assumption) ?_
    | dsimp only
    | split

theorem State.clearProgram_canon (s : State) (h lo : Nat) (hc : s.canon) : (s.clearProgram h lo).canon := by
  unfold State.clearProgram
  have h1 := State.instrMem_canon _ hc (memZero_wf (codeAt h) (codeAt h + 0x10000) (State.instrMem_wf hc))
  have h2 := State.sharedMem_canon _ h1 (memZero_wf (sharedAt h) (sharedAt h + 0x40000) (State.sharedMem_wf hc))
  exact State.localMem_canon _ h2 (memZero_wf _ _ (memZero_wf _ _ (State.localMem_wf hc)))
theorem State.unload_canon (s : State) (h : Nat) (hc : s.canon) : (State.unload s h).canon := by
  unfold State.unload
  repeat' first
    | intro _
    | with_reducible first
        | assumption | exact memWf_nil | apply State.put_canon | apply State.mem_ok
    | dsimp only
    | simp only [State.canon_mk]

theorem State.runImage_canon (s : State) (h : Nat) (m : List Nat) (good : Bool) (hc : s.canon) : (s.runImage h m good).canon := by
  unfold State.runImage
  extract_lets s1 code data e src s2 s3
  have q1 : s1.canon := State.clearProgram_canon _ _ _ hc
  clear_value s1
  have q2 : s2.canon := State.sharedMem_canon _ (State.localMem_canon _ (State.instrMem_canon _ q1 (memWriteL_wf _ _ (State.instrMem_wf q1)))
    (memWriteL_wf _ _ (memWriteL_wf _ _ (State.localMem_wf q1)))) (memWriteL_wf _ _ (State.sharedMem_wf q1))
  clear_value s2
  have q3 : s3.canon := State.unload_canon _ _ q2
  clear_value s3
  split
  · exact q3
  rename_i s4 s5 hh
  have q4 : s4.canon := q3
  clear_value s4
  have q5 : s5.canon := State.bump_canon _ _ _ (State.clr_canon _ _ (State.put_canon _ _ _ q4))
  clear_value s5
  repeat' first
    | intro _
    | with_reducible first
        | assumption | exact memWf_nil | apply State.put_canon | apply State.clr_canon | apply State.bump_canon
        | apply State.drop_canon | apply State.each_canon | apply State.putThread_canon | apply State.take_canon
        | apply State.startProgram_canon | apply State.clearProgram_canon | apply State.unload_canon | apply State.mem_ok
        | apply And.intro | apply memFold_wf | apply memWriteL_wf | apply memWrite_wf | apply memZero_wf | apply memFilter_wf
        | apply State.sram_wf | apply State.localMem_wf | apply State.sharedMem_wf | apply State.instrMem_wf
        | apply State.dram_wf | apply State.mram_wf | apply State.host_wf | apply State.flash_wf | apply ite_c
    | refine pair_canon (by assumption) ?_
    | refine tripR_canon (by assumption) ?_
    | dsimp only
    | split
    | simp only [State.canon_mk]
    | simp only [Memories.ok_mk]

theorem execProgLoad_canon (c : Cmd) (off : Nat) (len : Nat) (good : Bool) (s : State) (hc : s.canon) : (next s (execProgLoad c off len good s)).canon := by
  unfold execProgLoad
  repeat' first
    | intro _
    | with_reducible first
        | assumption | exact memWf_nil | apply State.bump_canon | apply State.when_canon | apply State.finish_canon
        | apply State.haltPrograms_canon | apply State.runImage_canon | apply next_canon | apply State.mem_ok | apply ite_c
    | refine pair_canon (by assumption) ?_
    | refine tripR_canon (by assumption) ?_
    | dsimp only
    | split
    | simp only [State.canon_mk]

theorem execProgStop_canon (c : Cmd) (s : State) (hc : s.canon) : (next s (execProgStop c s)).canon := by
  unfold execProgStop
  repeat' first
    | intro _
    | with_reducible first
        | assumption | exact memWf_nil | apply State.finish_canon | apply State.haltPrograms_canon | apply State.unload_canon
        | apply next_canon
    | dsimp only

theorem execProgSignal_canon (c : Cmd) (mask : Nat) (s : State) (hc : s.canon) : (next s (execProgSignal c mask s)).canon := by
  unfold execProgSignal
  repeat' first
    | intro _
    | with_reducible first
        | assumption | exact memWf_nil | apply State.each_canon | apply State.finish_canon | apply State.edge_canon
        | apply next_canon | apply ite_c
    | refine pair_canon (by assumption) ?_
    | refine tripR_canon (by assumption) ?_
    | dsimp only
    | split

theorem execEnghGrantWrite_canon (r : Req) (h : Nat) (off : Nat) (v : Nat) (s : State) (hc : s.canon) : (next s (execEnghGrantWrite r h off v s)).canon := by
  unfold execEnghGrantWrite
  repeat' first
    | intro _
    | with_reducible first
        | assumption | exact memWf_nil | apply State.put_canon | apply State.set_canon | apply State.onPriv_canon
        | apply next_canon | apply State.mem_ok | apply ite_c
    | refine pair_canon (by assumption) ?_
    | refine tripR_canon (by assumption) ?_
    | dsimp only
    | split
    | simp only [State.canon_mk]

theorem State.insertAgain_canon (s : State) (x : InsWait) (hc : s.canon) : ∀ t, s.insertAgain x = some t → t.canon := by
  intro t ht
  unfold State.insertAgain at ht
  split at ht
  · cases ht
  rename_i r s1 _ h1
  have q1 := pair_canon h1 (State.insertNode_canon _ _ _ _ hc)
  revert ht
  extract_lets s2 s3
  have q2 : s2.canon := by
    simp only [s2]
    split
    · split
      · exact State.complete_canon _ _ _ _ _ _ _ _ _ _ q1
      · exact State.complete_canon _ _ _ _ _ _ _ _ _ _ q1
      · exact State.finish_canon _ _ _ _ q1
      · exact State.finish_canon _ _ _ _ q1
    · exact q1
  clear_value s2
  have q3 : s3.canon := by
    simp only [s3]
    split
    · split
      · exact State.resume_canon _ _ (State.tinsDone_canon _ _ _ _ _ _ q2)
      · exact q2
    · exact q2
  clear_value s3
  intro ht
  rw [← Option.some.inj ht]
  split
  · split
    rename_i h4
    have q4 := tripR_canon h4 (State.installKey_canon _ _ _ q3)
    exact State.joinedNew_canon _ _ _ _ _ _ q4
  · exact q3
theorem State.insertWaiting_canon (s : State) (l : List InsWait) (hc : s.canon) : (s.insertWaiting l).canon := by
  induction l generalizing s with
  | nil => exact hc
  | cons x t ih =>
    unfold State.insertWaiting
    split
    · simp only [State.canon_mk]
      exact hc
    · rename_i h
      exact ih _ (State.insertAgain_canon _ _ hc _ h)
theorem execIncarnationWalkEnd_canon (e : Nat) (s : State) (hc : s.canon) : (next s (execIncarnationWalkEnd e s)).canon := by
  unfold execIncarnationWalkEnd
  repeat' first
    | intro _
    | with_reducible first
        | assumption | exact memWf_nil | apply State.clr_canon | apply State.each_canon | apply State.wrE_canon
        | apply State.writeElig_canon | apply State.insertWaiting_canon | apply next_canon | apply ite_c
    | dsimp only
    | split

theorem execMeterCommit_canon (r : Req) (m : Nat) (v : Nat) (s : State) (hc : s.canon) : (next s (execMeterCommit r m v s)).canon := by
  unfold execMeterCommit
  repeat' first
    | intro _
    | with_reducible first
        | assumption | exact memWf_nil | apply State.meterCommit_canon | apply State.onBus_canon | apply next_canon | apply ite_c
    | dsimp only
    | split

theorem execShaperCommit_canon (r : Req) (n : Nat) (v : Nat) (s : State) (hc : s.canon) : (next s (execShaperCommit r n v s)).canon := by
  unfold execShaperCommit
  repeat' first
    | intro _
    | with_reducible first
        | assumption | exact memWf_nil | apply State.shCommit_canon | apply State.refreshAll_canon | apply State.onBus_canon
        | apply next_canon | apply ite_c
    | dsimp only
    | split

theorem execShaperUnblock_canon (n : Nat) (s : State) (hc : s.canon) : (next s (execShaperUnblock n s)).canon := by
  unfold execShaperUnblock
  repeat' first
    | intro _
    | with_reducible first
        | assumption | exact memWf_nil | apply State.shSet_canon | apply State.refreshAll_canon | apply next_canon | apply ite_c
    | dsimp only
    | split

theorem execOutputRequest_canon (o : Nat) (s : State) (hc : s.canon) : (next s (execOutputRequest o s)).canon := by
  unfold execOutputRequest
  extract_lets s1
  have q1 : s1.canon := State.refreshAll_canon _ hc
  clear_value s1
  split
  · exact q1
  split
  · exact q1
  split
  · exact q1
  rw [next_next]
  split
  · exact State.downEnd_canon _ _ _ q1
  · exact State.writeElig_canon _ _ (State.release_canon _ _ _ q1)
theorem execQueueEligible_canon (q : Nat) (s : State) (hc : s.canon) : (next s (execQueueEligible q s)).canon := by
  unfold execQueueEligible
  repeat' first
    | intro _
    | with_reducible first
        | assumption | exact memWf_nil | apply State.refreshOne_canon | apply next_canon
    | dsimp only

theorem execExpirySweep_canon (s : State) (hc : s.canon) : (next s (execExpirySweep s)).canon := by
  unfold execExpirySweep
  repeat' first
    | intro _
    | with_reducible first
        | assumption | exact memWf_nil | apply State.sweepExpired_canon | apply next_canon
    | dsimp only

theorem execWatchSample_canon (w : Nat) (s : State) (hc : s.canon) : (next s (execWatchSample w s)).canon := by
  unfold execWatchSample
  split
  · exact hc
  extract_lets n
  clear_value n
  split
  rw [next_next]
  exact State.put_canon _ _ _ (State.sram_canon _ hc (memWriteL_wf _ _ (State.sram_wf hc)))
theorem execQprobeSelWrite_canon (r : Req) (i : Nat) (v : Nat) (s : State) (hc : s.canon) : (next s (execQprobeSelWrite r i v s)).canon := by
  unfold execQprobeSelWrite
  repeat' first
    | intro _
    | with_reducible first
        | assumption | exact memWf_nil | apply State.put_canon | apply State.set_canon | apply State.clr_canon
        | apply State.onBus_canon | apply next_canon | apply ite_c
    | dsimp only
    | split

theorem State.groupBind_canon (s : State) (q : Nat) (id : Nat) (en : Bool) (hc : s.canon) : (State.groupBind s q id en).canon := by
  unfold State.groupBind
  repeat' first
    | intro _
    | with_reducible first
        | assumption | exact memWf_nil | apply State.put_canon | apply State.refreshOne_canon | apply ite_c
    | dsimp only
    | split

theorem execQprobeGroupWrite_canon (r : Req) (i : Nat) (v : Nat) (s : State) (hc : s.canon) : (next s (execQprobeGroupWrite r i v s)).canon := by
  unfold execQprobeGroupWrite
  repeat' first
    | intro _
    | with_reducible first
        | assumption | exact memWf_nil | apply State.put_canon | apply State.busErr_canon | apply State.onBus_canon
        | apply State.groupBind_canon | apply next_canon | apply ite_c
    | dsimp only
    | split

theorem execQueueCfg_canon (c : Cmd) (e : Nat) (group : Nat) (s : State) (hc : s.canon) : (next s (execQueueCfg c e group s)).canon := by
  unfold execQueueCfg
  repeat' first
    | intro _
    | with_reducible first
        | assumption | exact memWf_nil | apply State.finish_canon | apply State.groupBind_canon | apply next_canon | apply ite_c
    | dsimp only
    | split

theorem execTmhCtlWrite_canon (r : Req) (h : Nat) (v : Nat) (s : State) (hc : s.canon) : (next s (execTmhCtlWrite r h v s)).canon := by
  unfold execTmhCtlWrite
  repeat' first
    | intro _
    | with_reducible first
        | assumption | exact memWf_nil | apply State.put_canon | apply State.set_canon | apply State.refreshAll_canon
        | apply State.onBus_canon | apply next_canon | apply ite_c
    | dsimp only
    | split

theorem execCellQuotaWrite_canon (r : Req) (h : Nat) (v : Nat) (s : State) (hc : s.canon) : (next s (execCellQuotaWrite r h v s)).canon := by
  unfold execCellQuotaWrite
  repeat' first
    | intro _
    | with_reducible first
        | assumption | exact memWf_nil | apply State.put_canon | apply State.set_canon | apply State.onPriv_canon
        | apply State.sum_canon | apply next_canon | apply ite_c
    | dsimp only
    | split

theorem State.fifoClear_canon (s : State) (f : Nat) (hc : s.canon) : (State.fifoClear s f).canon := by
  unfold State.fifoClear
  repeat' first
    | intro _
    | with_reducible first
        | assumption | exact memWf_nil | apply State.clr_canon | apply State.mem_ok
    | dsimp only
    | split
    | simp only [State.canon_mk]

theorem execFifoCfgWrite_canon (r : Req) (f : Nat) (off : Nat) (v : Nat) (s : State) (hc : s.canon) : (next s (execFifoCfgWrite r f off v s)).canon := by
  unfold execFifoCfgWrite
  repeat' first
    | intro _
    | with_reducible first
        | assumption | exact memWf_nil | apply State.put_canon | apply State.set_canon | apply State.putIf_canon
        | apply State.when_canon | apply State.onBus_canon | apply State.fifoClear_canon | apply next_canon | apply State.mem_ok
        | apply ite_c
    | refine pair_canon (by assumption) ?_
    | refine tripR_canon (by assumption) ?_
    | dsimp only
    | split
    | simp only [State.canon_mk]

theorem execFifoPtrCheck_canon (f : Nat) (same : Bool) (s : State) (hc : s.canon) : (next s (execFifoPtrCheck f same s)).canon := by
  unfold execFifoPtrCheck
  repeat' first
    | intro _
    | with_reducible first
        | assumption | exact memWf_nil | apply State.set_canon | apply State.fault_canon | apply next_canon | apply ite_c
    | dsimp only
    | split

theorem State.bindWord_canon (s : State) (r : Req) (h : Nat) (off : Nat) (v : Nat) (hc : s.canon) : (State.bindWord s r h off v).canon := by
  unfold State.bindWord
  repeat' first
    | intro _
    | with_reducible first
        | assumption | exact memWf_nil | apply State.put_canon | apply State.mem_ok
    | refine pair_canon (by assumption) ?_
    | refine tripR_canon (by assumption) ?_
    | dsimp only
    | split
    | simp only [State.canon_mk]

theorem State.keepBinding_canon (s : State) (h : Nat) (t : State) (hc : t.canon) : (s.keepBinding h t).canon := by
  unfold State.keepBinding
  split
  · exact hc
  · exact State.put_canon _ _ _ (State.put_canon _ _ _ (State.put_canon _ _ _ (State.put_canon _ _ _ hc)))
theorem execHbindWrite_canon (r : Req) (h : Nat) (off : Nat) (v : Nat) (s : State) (hc : s.canon) : (next s (execHbindWrite r h off v s)).canon := by
  unfold execHbindWrite
  repeat' first
    | intro _
    | with_reducible first
        | assumption | exact memWf_nil | apply State.set_canon | apply State.when_canon | apply State.hedgeReset_canon
        | apply State.onBus_canon | apply State.bindWord_canon | apply State.keepBinding_canon | apply next_canon | apply ite_c
    | dsimp only
    | split

theorem execPcieFlr_canon (f : Nat) (s : State) (hc : s.canon) : (next s (execPcieFlr f s)).canon := by
  unfold execPcieFlr
  repeat' first
    | intro _
    | with_reducible first
        | assumption | exact memWf_nil | apply State.hedgeReset_canon | apply next_canon | apply State.mem_ok
    | refine pair_canon (by assumption) ?_
    | refine tripR_canon (by assumption) ?_
    | dsimp only
    | split
    | simp only [State.canon_mk]

theorem State.busMaster_canon (s : State) (f : Nat) (v : Nat) (hc : s.canon) : (State.busMaster s f v).canon := by
  unfold State.busMaster
  repeat' first
    | intro _
    | with_reducible first
        | assumption | exact memWf_nil | apply State.put_canon | apply State.when_canon | apply State.mem_ok
    | refine pair_canon (by assumption) ?_
    | refine tripR_canon (by assumption) ?_
    | dsimp only
    | split
    | simp only [State.canon_mk]

theorem execPciePerst_canon (p : Nat) (width : Nat) (speed : Nat) (pol : Nat) (s : State) (hc : s.canon) : (next s (execPciePerst p width speed pol s)).canon := by
  unfold execPciePerst
  repeat' first
    | intro _
    | with_reducible first
        | assumption | exact memWf_nil | apply State.put_canon | apply State.bump_canon | apply State.each_canon
        | apply State.hedgeReset_canon | apply State.addCause_canon | apply State.busMaster_canon | apply next_canon
        | apply State.mem_ok | apply ite_c
    | refine pair_canon (by assumption) ?_
    | refine tripR_canon (by assumption) ?_
    | dsimp only
    | split
    | simp only [State.canon_mk]

theorem execBusMasterChange_canon (f : Nat) (on : Bool) (s : State) (hc : s.canon) : (next s (execBusMasterChange f on s)).canon := by
  unfold execBusMasterChange
  repeat' first
    | intro _
    | with_reducible first
        | assumption | exact memWf_nil | apply State.when_canon | apply State.cplDrain_canon | apply State.busMaster_canon
        | apply next_canon | apply State.mem_ok | apply ite_c
    | refine pair_canon (by assumption) ?_
    | refine tripR_canon (by assumption) ?_
    | dsimp only
    | split
    | simp only [State.canon_mk]

theorem State.cmdOff_canon (s : State) (i : Nat) (hc : s.canon) : (State.cmdOff s i).canon := by
  unfold State.cmdOff
  repeat' first
    | intro _
    | with_reducible first
        | assumption | exact memWf_nil | apply State.set_canon | apply State.clr_canon | apply ite_c
    | dsimp only
    | split

theorem execDmaError_canon (i : Nat) (s : State) (hc : s.canon) : (next s (execDmaError i s)).canon := by
  unfold execDmaError
  repeat' first
    | intro _
    | with_reducible first
        | assumption | exact memWf_nil | apply State.set_canon | apply State.clr_canon | apply State.when_canon
        | apply State.irq_canon | apply State.cmdOff_canon | apply next_canon | apply ite_c
    | dsimp only
    | split

theorem State.doorbellBad_canon (s : State) (i : Nat) (hc : s.canon) : (State.doorbellBad s i).canon := by
  unfold State.doorbellBad
  repeat' first
    | intro _
    | with_reducible first
        | assumption | exact memWf_nil | apply State.set_canon | apply State.irq_canon
    | dsimp only

theorem execCmdDoorbell_canon (r : Req) (i : Nat) (v : Nat) (s : State) (hc : s.canon) : (next s (execCmdDoorbell r i v s)).canon := by
  unfold execCmdDoorbell
  repeat' first
    | intro _
    | with_reducible first
        | assumption | exact memWf_nil | apply State.put_canon | apply State.onBus_canon | apply State.doorbellBad_canon
        | apply next_canon | apply State.mem_ok | apply ite_c
    | refine pair_canon (by assumption) ?_
    | refine tripR_canon (by assumption) ?_
    | dsimp only
    | split
    | simp only [State.canon_mk]

theorem execRxDoorbell_canon (r : Req) (i : Nat) (v : Nat) (s : State) (hc : s.canon) : (next s (execRxDoorbell r i v s)).canon := by
  unfold execRxDoorbell
  repeat' first
    | intro _
    | with_reducible first
        | assumption | exact memWf_nil | apply State.put_canon | apply State.onBus_canon | apply State.doorbellBad_canon
        | apply next_canon | apply ite_c
    | dsimp only
    | split

theorem execCplDoorbell_canon (r : Req) (i : Nat) (v : Nat) (s : State) (hc : s.canon) : (next s (execCplDoorbell r i v s)).canon := by
  unfold execCplDoorbell
  repeat' first
    | intro _
    | with_reducible first
        | assumption | exact memWf_nil | apply State.put_canon | apply State.cplDrain_canon | apply State.onBus_canon
        | apply State.doorbellBad_canon | apply next_canon | apply ite_c
    | dsimp only
    | split

theorem execEvDoorbell_canon (r : Req) (i : Nat) (v : Nat) (s : State) (hc : s.canon) : (next s (execEvDoorbell r i v s)).canon := by
  unfold execEvDoorbell
  repeat' first
    | intro _
    | with_reducible first
        | assumption | exact memWf_nil | apply State.put_canon | apply State.onBus_canon | apply State.doorbellBad_canon
        | apply next_canon | apply ite_c
    | dsimp only
    | split

theorem State.ringEnable_canon (s : State) (i : Nat) (r : Nat) (on : Bool) (hc : s.canon) : (State.ringEnable s i r on).canon := by
  unfold State.ringEnable
  repeat' first
    | intro _
    | with_reducible first
        | assumption | exact memWf_nil | apply State.set_canon | apply State.clr_canon | apply State.when_canon
        | apply State.cmdOff_canon | apply State.mem_ok | apply ite_c
    | dsimp only
    | split
    | simp only [State.canon_mk]

theorem State.hostCtl_canon (s : State) (i : Nat) (v : Nat) (hc : s.canon) : (State.hostCtl s i v).canon := by
  unfold State.hostCtl
  repeat' first
    | intro _
    | with_reducible first
        | assumption | exact memWf_nil | apply State.put_canon | apply State.when_canon | apply State.each_canon
        | apply State.cplDrain_canon | apply State.hedgeReset_canon | apply State.ringEnable_canon | apply ite_c
    | dsimp only
    | split

theorem execRingCtlWrite_canon (r : Req) (i : Nat) (v : Nat) (s : State) (hc : s.canon) : (next s (execRingCtlWrite r i v s)).canon := by
  unfold execRingCtlWrite
  repeat' first
    | intro _
    | with_reducible first
        | assumption | exact memWf_nil | apply State.onBus_canon | apply State.hostCtl_canon | apply next_canon | apply ite_c
    | dsimp only
    | split

theorem execCmdRingDrainDone_canon (i : Nat) (s : State) (hc : s.canon) : (next s (execCmdRingDrainDone i s)).canon := by
  unfold execCmdRingDrainDone
  repeat' first
    | intro _
    | with_reducible first
        | assumption | exact memWf_nil | apply State.cmdOff_canon | apply next_canon | apply ite_c
    | dsimp only
    | split

theorem execIrqCoalesceTimeout_canon (i : Nat) (v : Nat) (s : State) (hc : s.canon) : (next s (execIrqCoalesceTimeout i v s)).canon := by
  unfold execIrqCoalesceTimeout
  repeat' first
    | intro _
    | with_reducible first
        | assumption | exact memWf_nil | apply State.clr_canon | apply State.bump_canon | apply next_canon | apply ite_c
    | dsimp only
    | split

theorem State.cmdTaken_canon (s : State) (src : Nat) (hc : s.canon) : (State.cmdTaken s src).canon := by
  unfold State.cmdTaken
  repeat' first
    | intro _
    | with_reducible first
        | assumption | exact memWf_nil | apply State.put_canon | apply State.shadow_canon | apply State.fifoPop_canon
        | apply State.mem_ok | apply ite_c
    | refine pair_canon (by assumption) ?_
    | refine tripR_canon (by assumption) ?_
    | dsimp only
    | split
    | simp only [State.canon_mk]

theorem State.retryHint_canon (s : State) (i : Nat) (hc : s.canon) : ((State.retryHint s i).2).canon := by
  unfold State.retryHint
  repeat' first
    | intro _
    | with_reducible first
        | assumption | exact memWf_nil | apply State.draw_canon | apply State.sum_canon | apply ite_c
    | refine pair_canon (by assumption) ?_
    | refine tripR_canon (by assumption) ?_
    | dsimp only
    | split

theorem execCommandFetch_canon (src : Nat) (s : State) (hc : s.canon) : (next s (execCommandFetch src s)).canon := by
  unfold execCommandFetch
  repeat' first
    | intro _
    | with_reducible first
        | assumption | exact memWf_nil | apply State.bump_canon | apply State.when_canon | apply State.complete_canon
        | apply State.finish_canon | apply State.shCharge_canon | apply State.cmdTaken_canon | apply State.retryHint_canon
        | apply getD_canon | apply next_canon | apply State.mem_ok | apply ite_c
    | refine pair_canon (by assumption) ?_
    | refine tripR_canon (by assumption) ?_
    | dsimp only
    | split
    | simp only [State.canon_mk]

theorem execStewardServe_canon (s : State) (hc : s.canon) : (next s (execStewardServe s)).canon := by
  unfold execStewardServe
  repeat' first
    | intro _
    | with_reducible first
        | assumption | exact memWf_nil | apply State.put_canon | apply State.when_canon | apply next_canon | apply State.mem_ok
        | apply ite_c
    | refine pair_canon (by assumption) ?_
    | refine tripR_canon (by assumption) ?_
    | dsimp only
    | split
    | simp only [State.canon_mk]

theorem State.postDown_canon (s : State) (c : Cmd) (d : Down) (hc : s.canon) : (State.postDown s c d).canon := by
  unfold State.postDown
  repeat' first
    | intro _
    | with_reducible first
        | assumption | exact memWf_nil | apply State.complete_canon | apply State.finish_canon | apply State.takeIn_canon
        | apply State.mem_ok | apply ite_c
    | refine pair_canon (by assumption) ?_
    | refine tripR_canon (by assumption) ?_
    | dsimp only
    | split
    | simp only [State.canon_mk]

theorem execSend_canon (c : Cmd) (eui : Nat) (entry : Nat) (life : Nat) (len : Nat) (mode : Nat) (power : Nat) (cls : Nat) (flags : Nat) (addr : Nat) (inline : List Nat) (s : State) (hc : s.canon) : (next s (execSend c eui entry life len mode power cls flags addr inline s)).canon := by
  unfold execSend
  repeat' first
    | intro _
    | with_reducible first
        | assumption | exact memWf_nil | apply State.finish_canon | apply State.findAddr_canon | apply State.postDown_canon
        | apply getD_canon | apply next_canon | apply State.mem_ok | apply ite_c
    | refine pair_canon (by assumption) ?_
    | refine tripR_canon (by assumption) ?_
    | dsimp only
    | split
    | simp only [State.canon_mk]

theorem execFlood_canon (c : Cmd) (final : Nat) (life : Nat) (len : Nat) (cls : Nat) (flags : Nat) (addr : Nat) (inline : List Nat) (s : State) (hc : s.canon) : (next s (execFlood c final life len cls flags addr inline s)).canon := by
  unfold execFlood
  repeat' first
    | intro _
    | with_reducible first
        | assumption | exact memWf_nil | apply State.finish_canon | apply State.postDown_canon | apply next_canon
        | apply State.mem_ok | apply ite_c
    | dsimp only
    | split
    | simp only [State.canon_mk]

theorem execNop_canon (c : Cmd) (s : State) (hc : s.canon) : (next s (execNop c s)).canon := by
  unfold execNop
  repeat' first
    | intro _
    | with_reducible first
        | assumption | exact memWf_nil | apply State.finish_canon | apply next_canon
    | dsimp only

theorem execMemWrite_canon (c : Cmd) (addr : Nat) (off : Nat) (len : Nat) (s : State) (hc : s.canon) : (next s (execMemWrite c addr off len s)).canon := by
  unfold execMemWrite
  repeat' first
    | intro _
    | with_reducible first
        | assumption | exact memWf_nil | apply State.finish_canon | apply State.dramWrite_canon | apply next_canon | apply ite_c
    | dsimp only
    | split

theorem execMemRead_canon (c : Cmd) (addr : Nat) (off : Nat) (len : Nat) (s : State) (hc : s.canon) : (next s (execMemRead c addr off len s)).canon := by
  unfold execMemRead
  repeat' first
    | intro _
    | with_reducible first
        | assumption | exact memWf_nil | apply State.finish_canon | apply State.answer_canon | apply next_canon
        | apply State.mem_ok | apply ite_c
    | refine pair_canon (by assumption) ?_
    | refine tripR_canon (by assumption) ?_
    | dsimp only
    | split
    | simp only [State.canon_mk]

theorem execWatchRead_canon (c : Cmd) (w : Nat) (first : Nat) (count : Nat) (addr : Nat) (s : State) (hc : s.canon) : (next s (execWatchRead c w first count addr s)).canon := by
  unfold execWatchRead
  repeat' first
    | intro _
    | with_reducible first
        | assumption | exact memWf_nil | apply State.finish_canon | apply State.answer_canon | apply next_canon | apply And.intro
        | apply memFold_wf | apply memWriteL_wf | apply memWrite_wf | apply memZero_wf | apply memFilter_wf | apply State.sram_wf
        | apply State.localMem_wf | apply State.sharedMem_wf | apply State.instrMem_wf | apply State.dram_wf
        | apply State.mram_wf | apply State.host_wf | apply State.flash_wf | apply ite_c
    | dsimp only
    | split
    | simp only [Memories.ok_mk]

theorem execHedgeReset_canon (c : Cmd) (h : Nat) (s : State) (hc : s.canon) : (next s (execHedgeReset c h s)).canon := by
  unfold execHedgeReset
  repeat' first
    | intro _
    | with_reducible first
        | assumption | exact memWf_nil | apply State.served_canon | apply State.finish_canon | apply State.hedgeReset_canon
        | apply next_canon | apply State.mem_ok | apply ite_c
    | refine pair_canon (by assumption) ?_
    | refine tripR_canon (by assumption) ?_
    | dsimp only
    | split
    | simp only [State.canon_mk]

theorem State.evDrain_canon (s : State) (h : Nat) (hc : s.canon) : (State.evDrain s h).canon := by
  unfold State.evDrain
  repeat' first
    | intro _
    | with_reducible first
        | assumption | exact memWf_nil | apply State.clr_canon | apply State.each_canon | apply State.evOut_canon
        | apply State.event_canon | apply State.mem_ok | apply ite_c
    | refine pair_canon (by assumption) ?_
    | refine tripR_canon (by assumption) ?_
    | dsimp only
    | split
    | simp only [State.canon_mk]

theorem execEvBacklogDrain_canon (h : Nat) (s : State) (hc : s.canon) : (next s (execEvBacklogDrain h s)).canon := by
  unfold execEvBacklogDrain
  repeat' first
    | intro _
    | with_reducible first
        | assumption | exact memWf_nil | apply State.evDrain_canon | apply next_canon | apply ite_c
    | dsimp only
    | split

theorem State.rxFill_canon (s : State) (h n : Nat) (d : List Nat) (acc : List (Nat × List Nat × Nat)) (hc : s.canon) :
    (s.rxFill h n d acc).2.canon := by
  induction n generalizing s d acc with
  | zero => exact hc
  | succ n ih =>
    unfold State.rxFill
    repeat' first
      | with_reducible apply ih
      | intro _
      | with_reducible first
          | assumption | exact memWf_nil | apply State.put_canon | apply State.drop_canon | apply State.hostWrite_canon
          | apply State.take_canon | apply ite_c
      | refine pair_canon (by assumption) ?_
      | refine tripR_canon (by assumption) ?_
      | dsimp only
      | split

theorem State.rxNoBuf_canon (s : State) (h : Nat) (hc : s.canon) : (State.rxNoBuf s h).canon := by
  unfold State.rxNoBuf
  repeat' first
    | intro _
    | with_reducible first
        | assumption | exact memWf_nil | apply State.bump_canon
    | dsimp only

theorem State.rxRing_canon (s : State) (x : RxFrame) (hc : s.canon) : (State.rxRing s x).canon := by
  unfold State.rxRing
  repeat' first
    | intro _
    | with_reducible first
        | assumption | exact memWf_nil | apply State.put_canon | apply State.bump_canon | apply State.drop_canon
        | apply State.each_canon | apply State.hostWrite_canon | apply State.irq_canon | apply State.shadow_canon
        | apply State.shCharge_canon | apply State.take_canon | apply State.sum_canon | apply State.rxFill_canon
        | apply State.rxNoBuf_canon | apply State.mem_ok
    | refine pair_canon (by assumption) ?_
    | refine tripR_canon (by assumption) ?_
    | dsimp only
    | split
    | simp only [State.canon_mk]

theorem State.rxTunnel_canon (s : State) (x : RxFrame) (hc : s.canon) : (State.rxTunnel s x).canon := by
  unfold State.rxTunnel
  repeat' first
    | intro _
    | with_reducible first
        | assumption | exact memWf_nil | apply State.bump_canon | apply State.drop_canon | apply State.tunSend_canon
        | apply State.shCharge_canon | apply State.rxNoBuf_canon | apply ite_c
    | dsimp only
    | split

theorem execRxPlace_canon (h : Nat) (s : State) (hc : s.canon) : (next s (execRxPlace h s)).canon := by
  unfold execRxPlace
  repeat' first
    | intro _
    | with_reducible first
        | assumption | exact memWf_nil | apply State.rxShow_canon | apply State.rxRing_canon | apply State.rxTunnel_canon
        | apply next_canon | apply State.mem_ok | apply ite_c
    | refine pair_canon (by assumption) ?_
    | refine tripR_canon (by assumption) ?_
    | dsimp only
    | split
    | simp only [State.canon_mk]

theorem execRxHoldExpire_canon (h : Nat) (s : State) (hc : s.canon) : (next s (execRxHoldExpire h s)).canon := by
  unfold execRxHoldExpire
  repeat' first
    | intro _
    | with_reducible first
        | assumption | exact memWf_nil | apply State.bump_canon | apply State.rxShow_canon | apply next_canon
        | apply State.mem_ok | apply ite_c
    | dsimp only
    | split
    | simp only [State.canon_mk]

theorem execRxLossReport_canon (h : Nat) (s : State) (hc : s.canon) : (next s (execRxLossReport h s)).canon := by
  unfold execRxLossReport
  repeat' first
    | intro _
    | with_reducible first
        | assumption | exact memWf_nil | apply State.put_canon | apply State.set_canon | apply State.clr_canon
        | apply State.event_canon | apply next_canon | apply ite_c
    | refine pair_canon (by assumption) ?_
    | refine tripR_canon (by assumption) ?_
    | dsimp only
    | split

theorem execHosthHresetWrite_canon (r : Req) (h : Nat) (v : Nat) (s : State) (hc : s.canon) : (next s (execHosthHresetWrite r h v s)).canon := by
  unfold execHosthHresetWrite
  repeat' first
    | intro _
    | with_reducible first
        | assumption | exact memWf_nil | apply State.onBus_canon | apply State.hostCtl_canon | apply next_canon | apply ite_c
    | dsimp only
    | split

theorem execHbindHresetWrite_canon (r : Req) (h : Nat) (s : State) (hc : s.canon) : (next s (execHbindHresetWrite r h s)).canon := by
  unfold execHbindHresetWrite
  repeat' first
    | intro _
    | with_reducible first
        | assumption | exact memWf_nil | apply State.hedgeReset_canon | apply State.onBus_canon | apply next_canon | apply ite_c
    | dsimp only
    | split

theorem execCntClrDiscard_canon (r : Req) (i : Nat) (v : Nat) (s : State) (hc : s.canon) : (next s (execCntClrDiscard r i v s)).canon := by
  unfold execCntClrDiscard
  repeat' first
    | intro _
    | with_reducible first
        | assumption | exact memWf_nil | apply State.clr_canon | apply State.onBus_canon | apply next_canon | apply ite_c
    | dsimp only
    | split

theorem State.tunDown_canon (s : State) (h : Nat) (hc : s.canon) : (State.tunDown s h).canon := by
  unfold State.tunDown
  repeat' first
    | intro _
    | with_reducible first
        | assumption | exact memWf_nil | apply State.clr_canon
    | dsimp only

theorem State.tunRead_canon (s : State) (h : Nat) (kind : Nat) (port : Nat) (p : List Nat) (hc : s.canon) : ((State.tunRead s h kind port p).2).canon := by
  unfold State.tunRead
  repeat' first
    | intro _
    | with_reducible first
        | assumption | exact memWf_nil | apply State.put_canon | apply State.bump_canon | apply State.drop_canon
        | apply State.take_canon | apply getD_canon | apply State.mem_ok | apply ite_c
    | refine pair_canon (by assumption) ?_
    | refine tripR_canon (by assumption) ?_
    | dsimp only
    | split
    | simp only [State.canon_mk]

theorem State.tunAcked_canon (s : State) (h : Nat) (seq : Nat) (hc : s.canon) : (State.tunAcked s h seq).canon := by
  unfold State.tunAcked
  repeat' first
    | intro _
    | with_reducible first
        | assumption | exact memWf_nil | apply State.each_canon | apply State.unstart_canon | apply State.cplDrain_canon
        | apply State.calTold_canon | apply State.sent_canon | apply getD_canon | apply State.mem_ok | apply ite_c
    | dsimp only
    | split
    | simp only [State.canon_mk]

theorem State.tunHear_canon (s : State) (h : Nat) (kind : Nat) (port : Nat) (p : List Nat) (hc : s.canon) : ((State.tunHear s h kind port p).2).canon := by
  unfold State.tunHear
  repeat' first
    | intro _
    | with_reducible first
        | assumption | exact memWf_nil | apply State.put_canon | apply State.tunRead_canon | apply State.tunAcked_canon
        | apply State.mem_ok | apply ite_c
    | refine pair_canon (by assumption) ?_
    | refine tripR_canon (by assumption) ?_
    | dsimp only
    | split
    | simp only [State.canon_mk]

theorem State.tunAck_canon (s : State) (h : Nat) (hc : s.canon) : (State.tunAck s h).canon := by
  unfold State.tunAck
  repeat' first
    | intro _
    | with_reducible first
        | assumption | exact memWf_nil | apply State.tunEmit_canon
    | dsimp only

theorem State.tunOrder_canon (s : State) (h : Nat) (seq : Nat) (hc : s.canon) : ((State.tunOrder s h seq).2).canon := by
  unfold State.tunOrder
  repeat' first
    | intro _
    | with_reducible first
        | assumption | exact memWf_nil | apply State.put_canon | apply State.tunAck_canon | apply ite_c
    | refine pair_canon (by assumption) ?_
    | refine tripR_canon (by assumption) ?_
    | dsimp only
    | split

theorem execTunCmdMsg_canon (h : Nat) (port : Nat) (p : List Nat) (s : State) (hc : s.canon) : (next s (execTunCmdMsg h port p s)).canon := by
  unfold execTunCmdMsg
  repeat' first
    | intro _
    | with_reducible first
        | assumption | exact memWf_nil | apply State.bump_canon | apply State.drop_canon | apply State.take_canon
        | apply State.tunHear_canon | apply State.tunAck_canon | apply State.tunOrder_canon | apply getD_canon | apply next_canon
        | apply State.mem_ok | apply ite_c
    | refine pair_canon (by assumption) ?_
    | refine tripR_canon (by assumption) ?_
    | dsimp only
    | split
    | simp only [State.canon_mk]

theorem execTunCreditMsg_canon (h : Nat) (port : Nat) (p : List Nat) (s : State) (hc : s.canon) : (next s (execTunCreditMsg h port p s)).canon := by
  unfold execTunCreditMsg
  repeat' first
    | intro _
    | with_reducible first
        | assumption | exact memWf_nil | apply State.bumpSat_canon | apply State.tunHear_canon | apply State.tunAck_canon
        | apply State.tunOrder_canon | apply next_canon | apply State.mem_ok | apply ite_c
    | refine pair_canon (by assumption) ?_
    | refine tripR_canon (by assumption) ?_
    | dsimp only
    | split
    | simp only [State.canon_mk]

theorem execTunAckMsg_canon (h : Nat) (port : Nat) (p : List Nat) (s : State) (hc : s.canon) : (next s (execTunAckMsg h port p s)).canon := by
  unfold execTunAckMsg
  repeat' first
    | intro _
    | with_reducible first
        | assumption | exact memWf_nil | apply State.tunHear_canon | apply next_canon
    | dsimp only

theorem execTunKeepaliveMsg_canon (h : Nat) (port : Nat) (p : List Nat) (s : State) (hc : s.canon) : (next s (execTunKeepaliveMsg h port p s)).canon := by
  unfold execTunKeepaliveMsg
  repeat' first
    | intro _
    | with_reducible first
        | assumption | exact memWf_nil | apply State.tunHear_canon | apply next_canon
    | dsimp only

theorem execTunStartMsg_canon (h : Nat) (port : Nat) (p : List Nat) (s : State) (hc : s.canon) : (next s (execTunStartMsg h port p s)).canon := by
  unfold execTunStartMsg
  repeat' first
    | intro _
    | with_reducible first
        | assumption | exact memWf_nil | apply State.put_canon | apply State.set_canon | apply State.clr_canon
        | apply State.each_canon | apply State.tunSend_canon | apply State.cplDrain_canon | apply State.calAgain_canon
        | apply State.tunRead_canon | apply State.tunAck_canon | apply next_canon | apply State.mem_ok | apply ite_c
    | refine pair_canon (by assumption) ?_
    | refine tripR_canon (by assumption) ?_
    | dsimp only
    | split
    | simp only [State.canon_mk]

theorem execTunNeighborSolicit_canon (port : Nat) (ip6 : Nat) (s : State) (hc : s.canon) : (next s (execTunNeighborSolicit port ip6 s)).canon := by
  unfold execTunNeighborSolicit
  repeat' first
    | intro _
    | with_reducible first
        | assumption | exact memWf_nil | apply State.bump_canon | apply next_canon | apply State.mem_ok | apply ite_c
    | dsimp only
    | split
    | simp only [State.canon_mk]

theorem execTunResendTimeout_canon (h : Nat) (s : State) (hc : s.canon) : (next s (execTunResendTimeout h s)).canon := by
  unfold execTunResendTimeout
  repeat' first
    | intro _
    | with_reducible first
        | assumption | exact memWf_nil | apply State.each_canon | apply State.tunEmit_canon | apply State.tunDown_canon
        | apply next_canon | apply State.mem_ok | apply ite_c
    | dsimp only
    | split
    | simp only [State.canon_mk]

theorem execTunSilenceTimeout_canon (h : Nat) (s : State) (hc : s.canon) : (next s (execTunSilenceTimeout h s)).canon := by
  unfold execTunSilenceTimeout
  repeat' first
    | intro _
    | with_reducible first
        | assumption | exact memWf_nil | apply State.tunDown_canon | apply next_canon | apply ite_c
    | dsimp only
    | split

theorem execTunKeepaliveSend_canon (h : Nat) (s : State) (hc : s.canon) : (next s (execTunKeepaliveSend h s)).canon := by
  unfold execTunKeepaliveSend
  repeat' first
    | intro _
    | with_reducible first
        | assumption | exact memWf_nil | apply State.tunEmit_canon | apply next_canon | apply ite_c
    | dsimp only
    | split

theorem State.clearRc_canon (s : State) (Fs : List Fld) (n : Nat) (hc : s.canon) : (State.clearRc s Fs n).canon := by
  unfold State.clearRc
  repeat' first
    | intro _
    | with_reducible first
        | assumption | exact memWf_nil | apply State.clr_canon | apply State.each_canon
    | dsimp only

theorem State.thkReset_canon (s : State) (h : Nat) (hc : s.canon) : ((State.thkReset s h).2).canon := by
  unfold State.thkReset
  repeat' first
    | intro _
    | with_reducible first
        | assumption | exact memWf_nil | apply State.put_canon | apply State.clr_canon | apply State.each_canon
        | apply State.freeEntry_canon | apply State.mem_ok | apply ite_c
    | dsimp only
    | split
    | simp only [State.canon_mk]

theorem State.fwdReset_canon (s : State) (h : Nat) (hc : s.canon) : (State.fwdReset s h).canon := by
  unfold State.fwdReset
  repeat' first
    | intro _
    | with_reducible first
        | assumption | exact memWf_nil | apply State.clr_canon | apply State.each_canon | apply State.seenShow_canon
        | apply State.clearRc_canon | apply State.mem_ok
    | dsimp only
    | split
    | simp only [State.canon_mk]

theorem State.tmReset_canon (s : State) (h : Nat) (hc : s.canon) : (State.tmReset s h).canon := by
  unfold State.tmReset
  repeat' first
    | intro _
    | with_reducible first
        | assumption | exact memWf_nil | apply State.put_canon | apply State.clr_canon | apply State.each_canon
        | apply State.shSet_canon | apply State.meterFill_canon | apply State.refreshAll_canon | apply State.fifoClear_canon
        | apply State.clearRc_canon | apply ite_c
    | dsimp only
    | split

theorem State.engReset_canon (s : State) (h : Nat) (hc : s.canon) : (State.engReset s h).canon := by
  unfold State.engReset
  repeat' first
    | intro _
    | with_reducible first
        | assumption | exact memWf_nil | apply State.each_canon | apply State.event_canon | apply State.startThread_canon
        | apply State.clearProgram_canon | apply State.unload_canon | apply State.runImage_canon | apply State.mem_ok
    | refine pair_canon (by assumption) ?_
    | refine tripR_canon (by assumption) ?_
    | dsimp only
    | split
    | simp only [State.canon_mk]

theorem State.rebound_canon (s : State) (h : Nat) (hc : s.canon) : (State.rebound s h).canon := by
  unfold State.rebound
  repeat' first
    | intro _
    | with_reducible first
        | assumption | exact memWf_nil | apply State.put_canon | apply State.clr_canon | apply State.calAgain_canon
        | apply State.tunDown_canon | apply State.mem_ok | apply ite_c
    | dsimp only
    | split
    | simp only [State.canon_mk]

theorem State.hedgeResetEnd_canon (s : State) (h : Nat) (hc : s.canon) : (State.hedgeResetEnd s h).canon := by
  unfold State.hedgeResetEnd
  repeat' first
    | intro _
    | with_reducible first
        | assumption | exact memWf_nil | apply State.clr_canon | apply State.putIf_canon | apply State.each_canon
        | apply State.finish_canon | apply State.event_canon | apply State.disarm_canon | apply State.ptClear_canon
        | apply State.clearRc_canon | apply State.thkReset_canon | apply State.fwdReset_canon | apply State.tmReset_canon
        | apply State.engReset_canon | apply State.rebound_canon | apply State.mem_ok
    | refine pair_canon (by assumption) ?_
    | refine tripR_canon (by assumption) ?_
    | dsimp only
    | split
    | simp only [State.canon_mk]

theorem execHedgeResetEnd_canon (h : Nat) (s : State) (hc : s.canon) : (next s (execHedgeResetEnd h s)).canon := by
  unfold execHedgeResetEnd
  repeat' first
    | intro _
    | with_reducible first
        | assumption | exact memWf_nil | apply State.hedgeResetEnd_canon | apply next_canon | apply ite_c
    | dsimp only
    | split

theorem State.hello_canon (s : State) (hc : s.canon) : (State.hello s).canon := by
  unfold State.hello
  repeat' first
    | intro _
    | with_reducible first
        | assumption | exact memWf_nil | apply State.twinSend_canon
    | dsimp only

theorem State.twinHeard_canon (s : State) (hc : s.canon) : (State.twinHeard s).canon := by
  unfold State.twinHeard
  repeat' first
    | intro _
    | with_reducible first
        | assumption | exact memWf_nil | apply State.put_canon | apply State.set_canon | apply State.decide461_canon
        | apply ite_c
    | dsimp only
    | split

theorem State.hbStart_canon (s : State) (hc : s.canon) : (State.hbStart s).canon := by
  unfold State.hbStart
  repeat' first
    | intro _
    | with_reducible first
        | assumption | exact memWf_nil | apply State.put_canon | apply State.set_canon | apply State.disarm_canon
    | dsimp only
    | split

theorem State.takeBack_canon (s : State) (d : Down) (hc : s.canon) : (State.takeBack s d).canon := by
  unfold State.takeBack
  repeat' first
    | intro _
    | with_reducible first
        | assumption | exact memWf_nil | apply State.giveBack_canon | apply State.withdraw_canon | apply ite_c
    | dsimp only
    | split

theorem State.beStandby_canon (s : State) (hc : s.canon) : (State.beStandby s).canon := by
  unfold State.beStandby
  repeat' first
    | intro _
    | with_reducible first
        | assumption | exact memWf_nil | apply State.put_canon | apply State.set_canon | apply State.clr_canon
        | apply State.each_canon | apply State.refreshAll_canon | apply State.disarm_canon | apply State.ackDrop_canon
        | apply State.toStandby_canon | apply State.takeBack_canon | apply ite_c
    | dsimp only
    | split

theorem execTwinCfgEnWrite_canon (r : Req) (v : Nat) (lanes : Nat) (s : State) (hc : s.canon) : (next s (execTwinCfgEnWrite r v lanes s)).canon := by
  unfold execTwinCfgEnWrite
  repeat' first
    | intro _
    | with_reducible first
        | assumption | exact memWf_nil | apply State.put_canon | apply State.set_canon | apply State.clr_canon
        | apply State.when_canon | apply State.each_canon | apply State.roleTold_canon | apply State.refreshAll_canon
        | apply State.disarm_canon | apply State.onBus_canon | apply State.hello_canon | apply State.hbStart_canon
        | apply next_canon | apply State.mem_ok | apply ite_c
    | dsimp only
    | split
    | simp only [State.canon_mk]

theorem execTwinHelloRx_canon (eui : Nat) (prefer : Nat) (role : Nat) (schema : Nat) (same : Bool) (s : State) (hc : s.canon) : (next s (execTwinHelloRx eui prefer role schema same s)).canon := by
  unfold execTwinHelloRx
  repeat' first
    | intro _
    | with_reducible first
        | assumption | exact memWf_nil | apply State.put_canon | apply State.set_canon | apply State.clr_canon
        | apply State.when_canon | apply State.roleTold_canon | apply State.beActive_canon | apply State.hello_canon
        | apply State.twinHeard_canon | apply State.beStandby_canon | apply next_canon | apply ite_c
    | dsimp only
    | split

theorem execTwinHelloTimeout_canon (s : State) (hc : s.canon) : (next s (execTwinHelloTimeout s)).canon := by
  unfold execTwinHelloTimeout
  repeat' first
    | intro _
    | with_reducible first
        | assumption | exact memWf_nil | apply State.clr_canon | apply State.roleTold_canon | apply State.beActive_canon
        | apply next_canon | apply ite_c
    | dsimp only
    | split

theorem execTwinHeartbeatSend_canon (s : State) (hc : s.canon) : (next s (execTwinHeartbeatSend s)).canon := by
  unfold execTwinHeartbeatSend
  repeat' first
    | intro _
    | with_reducible first
        | assumption | exact memWf_nil | apply State.put_canon | apply State.twinSend_canon | apply next_canon | apply ite_c
    | dsimp only
    | split

theorem execTwinLinkSilent_canon (s : State) (hc : s.canon) : (next s (execTwinLinkSilent s)).canon := by
  unfold execTwinLinkSilent
  repeat' first
    | intro _
    | with_reducible first
        | assumption | exact memWf_nil | apply State.set_canon | apply State.clr_canon | apply State.decide461_canon
        | apply next_canon | apply ite_c
    | dsimp only
    | split

theorem execTwinLinkUp_canon (s : State) (hc : s.canon) : (next s (execTwinLinkUp s)).canon := by
  unfold execTwinLinkUp
  repeat' first
    | intro _
    | with_reducible first
        | assumption | exact memWf_nil | apply State.twinHeard_canon | apply next_canon | apply ite_c
    | dsimp only
    | split

theorem execTwinHbSilent_canon (s : State) (hc : s.canon) : (next s (execTwinHbSilent s)).canon := by
  unfold execTwinHbSilent
  repeat' first
    | intro _
    | with_reducible first
        | assumption | exact memWf_nil | apply State.clr_canon | apply State.decide461_canon | apply next_canon | apply ite_c
    | dsimp only
    | split

theorem execPartnerFaultAssert_canon (s : State) (hc : s.canon) : (next s (execPartnerFaultAssert s)).canon := by
  unfold execPartnerFaultAssert
  repeat' first
    | intro _
    | with_reducible first
        | assumption | exact memWf_nil | apply State.set_canon | apply State.decide461_canon | apply next_canon | apply ite_c
    | dsimp only
    | split

theorem execPartnerFaultRelease_canon (s : State) (hc : s.canon) : (next s (execPartnerFaultRelease s)).canon := by
  unfold execPartnerFaultRelease
  repeat' first
    | intro _
    | with_reducible first
        | assumption | exact memWf_nil | apply State.clr_canon | apply State.decide461_canon | apply next_canon | apply ite_c
    | dsimp only
    | split

theorem execTwinCmdTakeover_canon (r : Req) (s : State) (hc : s.canon) : (next s (execTwinCmdTakeover r s)).canon := by
  unfold execTwinCmdTakeover
  repeat' first
    | intro _
    | with_reducible first
        | assumption | exact memWf_nil | apply State.onBus_canon | apply State.takeover_canon | apply getD_canon
        | apply next_canon | apply ite_c
    | dsimp only
    | split

theorem execTwinDemotionRx_canon (cause : Nat) (s : State) (hc : s.canon) : (next s (execTwinDemotionRx cause s)).canon := by
  unfold execTwinDemotionRx
  repeat' first
    | intro _
    | with_reducible first
        | assumption | exact memWf_nil | apply State.takeover_canon | apply State.twinHeard_canon | apply next_canon
        | apply ite_c
    | dsimp only
    | split

theorem State.snapshot_canon (s : State) (hc : s.canon) : ((State.snapshot s).2).canon := by
  unfold State.snapshot
  repeat' first
    | intro _
    | with_reducible first
        | assumption | exact memWf_nil | apply State.put_canon | apply State.clr_canon | apply State.twinSend_canon
        | apply State.sent_canon | apply State.mem_ok | apply ite_c
    | refine pair_canon (by assumption) ?_
    | refine tripR_canon (by assumption) ?_
    | dsimp only
    | split
    | simp only [State.canon_mk]

theorem State.phaseSplit_canon (s : State) (ofs : Int) (hc : s.canon) : (State.phaseSplit s ofs).canon := by
  unfold State.phaseSplit
  repeat' first
    | intro _
    | with_reducible first
        | assumption | exact memWf_nil | apply State.set_canon | apply State.putI_canon | apply State.when_canon
    | dsimp only

theorem execSnapshotCapture_canon (late : Bool) (ofs : Int) (s : State) (hc : s.canon) : (next s (execSnapshotCapture late ofs s)).canon := by
  unfold execSnapshotCapture
  repeat' first
    | intro _
    | with_reducible first
        | assumption | exact memWf_nil | apply State.put_canon | apply State.set_canon | apply State.when_canon
        | apply State.snapshot_canon | apply State.phaseSplit_canon | apply next_canon | apply ite_c
    | dsimp only
    | split

theorem State.twinEntry_canon (s : State) (e : Nat) (l : List Nat) (hc : s.canon) : (s.twinEntry e l).canon := by
  unfold State.twinEntry
  extract_lets head s1 s2 s3 s4 h k s5
  have h1 : s1.canon := State.each_canon _ _ hc fun u a hu => State.put_canon _ _ _ hu
  have h2 : s2.canon := State.each_canon _ _ h1 fun u a hu => State.put_canon _ _ _ hu
  have h3 : s3.canon := State.each_canon _ _ h2 fun u a hu => State.put_canon _ _ _ hu
  have h4 : s4.canon := State.put_canon _ _ _ h3
  have h5 : s5.canon := getD_canon _ h4 fun t ht => State.idxInsert_canon _ _ _ _ _ h4 _ ht
  split
  · exact h4
  · split
    · exact h5
    · exact getD_canon _ h5 fun t ht => State.idxInsert_canon _ _ _ _ _ h5 _ ht
theorem State.tally_canon (s : State) (e : Nat) (gone : Bool) (hc : s.canon) : (State.tally s e gone).canon := by
  unfold State.tally
  repeat' first
    | intro _
    | with_reducible first
        | assumption | exact memWf_nil | apply State.bump_canon | apply State.drop_canon | apply State.when_canon | apply ite_c
    | dsimp only
    | split

theorem State.snapEntry_canon (s : State) (x : Nat × List Nat) (hc : s.canon) : (State.snapEntry s x).canon := by
  unfold State.snapEntry
  repeat' first
    | intro _
    | with_reducible first
        | assumption | exact memWf_nil | apply State.clr_canon | apply State.putIf_canon | apply State.when_canon
        | apply State.each_canon | apply State.wrE_canon | apply State.writeElig_canon | apply State.idxRemove_canon
        | apply State.twinEntry_canon | apply State.tally_canon | apply ite_c
    | refine pair_canon (by assumption) ?_
    | refine tripR_canon (by assumption) ?_
    | dsimp only
    | split

theorem State.snapCells_canon (s : State) (l : List ((Nat × Nat) × Nat)) (hc : s.canon) : (State.snapCells s l).canon := by
  unfold State.snapCells
  repeat' first
    | intro _
    | with_reducible first
        | assumption | exact memWf_nil | apply State.put_canon | apply State.each_canon | apply State.groupResume_canon
        | apply State.mem_ok
    | refine pair_canon (by assumption) ?_
    | refine tripR_canon (by assumption) ?_
    | dsimp only
    | split
    | simp only [State.canon_mk]

theorem State.snapDuty_canon (s : State) (l : List (Nat × Nat × Nat × Nat)) (hc : s.canon) : (State.snapDuty s l).canon := by
  unfold State.snapDuty
  repeat' first
    | intro _
    | with_reducible first
        | assumption | exact memWf_nil | apply State.mem_ok
    | refine pair_canon (by assumption) ?_
    | refine tripR_canon (by assumption) ?_
    | dsimp only
    | split
    | simp only [State.canon_mk]

theorem execSnapshotApply_canon (x : TwinSnap) (ofs : Int) (s : State) (hc : s.canon) : (next s (execSnapshotApply x ofs s)).canon := by
  unfold execSnapshotApply
  repeat' first
    | intro _
    | with_reducible first
        | assumption | exact memWf_nil | apply State.put_canon | apply State.set_canon | apply State.clr_canon
        | apply State.when_canon | apply State.each_canon | apply State.refreshAll_canon | apply State.twinHeard_canon
        | apply State.phaseSplit_canon | apply State.snapEntry_canon | apply State.snapCells_canon | apply State.snapDuty_canon
        | apply next_canon | apply State.mem_ok | apply ite_c
    | dsimp only
    | split
    | simp only [State.canon_mk]

theorem execTwinCounterRecordRx_canon (h : Nat) (e : Nat) (counter : Nat) (s : State) (hc : s.canon) : (next s (execTwinCounterRecordRx h e counter s)).canon := by
  unfold execTwinCounterRecordRx
  repeat' first
    | intro _
    | with_reducible first
        | assumption | exact memWf_nil | apply State.bump_canon | apply State.keepCounter_canon | apply State.twinHeard_canon
        | apply next_canon | apply State.mem_ok | apply ite_c
    | refine pair_canon (by assumption) ?_
    | refine tripR_canon (by assumption) ?_
    | dsimp only
    | split
    | simp only [State.canon_mk]

theorem State.handOver_canon (s : State) (hc : s.canon) : (State.handOver s).canon := by
  unfold State.handOver
  repeat' first
    | intro _
    | with_reducible first
        | assumption | exact memWf_nil | apply State.clr_canon | apply State.each_canon | apply State.unstart_canon
        | apply State.downReset_canon | apply State.mem_ok
    | refine pair_canon (by assumption) ?_
    | refine tripR_canon (by assumption) ?_
    | dsimp only
    | split
    | simp only [State.canon_mk]

theorem execTwinCmdSwitch_canon (r : Req) (s : State) (hc : s.canon) : (next s (execTwinCmdSwitch r s)).canon := by
  unfold execTwinCmdSwitch
  repeat' first
    | intro _
    | with_reducible first
        | assumption | exact memWf_nil | apply State.twinSend_canon | apply State.roleTold_canon | apply State.onBus_canon
        | apply State.beStandby_canon | apply State.snapshot_canon | apply State.handOver_canon | apply next_canon | apply ite_c
    | dsimp only
    | split

theorem execTwinDualActive_canon (at_ : Nat) (s : State) (hc : s.canon) : (next s (execTwinDualActive at_ s)).canon := by
  unfold execTwinDualActive
  repeat' first
    | intro _
    | with_reducible first
        | assumption | exact memWf_nil | apply State.put_canon | apply State.clr_canon | apply State.takeCore_canon
        | apply next_canon | apply ite_c
    | dsimp only
    | split

theorem State.loopTest_canon (s : State) (ok : List Bool) (hc : s.canon) : (State.loopTest s ok).canon := by
  unfold State.loopTest
  repeat' first
    | intro _
    | with_reducible first
        | assumption | exact memWf_nil | apply State.put_canon | apply State.set_canon | apply State.when_canon
        | apply getD_canon
    | refine pair_canon (by assumption) ?_
    | refine tripR_canon (by assumption) ?_
    | dsimp only

theorem execTwinCmdLoop_canon (r : Req) (ok : List Bool) (s : State) (hc : s.canon) : (next s (execTwinCmdLoop r ok s)).canon := by
  unfold execTwinCmdLoop
  repeat' first
    | intro _
    | with_reducible first
        | assumption | exact memWf_nil | apply State.onBus_canon | apply State.loopTest_canon | apply next_canon | apply ite_c
    | dsimp only
    | split

theorem execTwinLoopTest_canon (ok : List Bool) (s : State) (hc : s.canon) : (next s (execTwinLoopTest ok s)).canon := by
  unfold execTwinLoopTest
  repeat' first
    | intro _
    | with_reducible first
        | assumption | exact memWf_nil | apply State.loopTest_canon | apply next_canon | apply ite_c
    | dsimp only
    | split

theorem execPrpFrameRx_canon (port : Nat) (source : Nat) (seq : Nat) (lanB : Bool) (sup : Bool) (s : State) (hc : s.canon) : (next s (execPrpFrameRx port source seq lanB sup s)).canon := by
  unfold execPrpFrameRx
  repeat' first
    | intro _
    | with_reducible first
        | assumption | exact memWf_nil | apply State.put_canon | apply State.bump_canon | apply State.when_canon
        | apply next_canon | apply State.mem_ok | apply ite_c
    | refine pair_canon (by assumption) ?_
    | refine tripR_canon (by assumption) ?_
    | dsimp only
    | split
    | simp only [State.canon_mk]

theorem execPrpSupSend_canon (s : State) (hc : s.canon) : (next s (execPrpSupSend s)).canon := by
  unfold execPrpSupSend
  repeat' first
    | intro _
    | with_reducible first
        | assumption | exact memWf_nil | apply State.put_canon | apply State.bump_canon | apply next_canon | apply State.mem_ok
        | apply ite_c
    | dsimp only
    | split
    | simp only [State.canon_mk]

theorem execPrpSupTimeout_canon (port : Nat) (s : State) (hc : s.canon) : (next s (execPrpSupTimeout port s)).canon := by
  unfold execPrpSupTimeout
  repeat' first
    | intro _
    | with_reducible first
        | assumption | exact memWf_nil | apply State.set_canon | apply next_canon | apply ite_c
    | dsimp only
    | split

theorem State.bootPut_canon (s : State) (ps : List (Nat × List Nat)) (hc : s.canon) : (s.bootPut ps).canon := by
  unfold State.bootPut
  split
  · exact State.flash_canon _ hc (memWriteL_wf _ _ (State.flash_wf hc))
  · exact State.flash_canon _ hc (memWriteL_wf _ _ (memWriteL_wf _ _ (State.flash_wf hc)))
theorem State.triesShow_canon (s : State) (hc : s.canon) : (State.triesShow s).canon := by
  unfold State.triesShow
  repeat' first
    | intro _
    | with_reducible first
        | assumption | exact memWf_nil | apply State.put_canon
    | dsimp only

theorem State.calWrite_canon (s : State) (o : Nat) (l : List Nat) (hc : s.canon) : (State.calWrite s o l).canon := by
  unfold State.calWrite
  repeat' first
    | intro _
    | with_reducible first
        | assumption | exact memWf_nil | apply State.mem_ok | apply And.intro | apply memFold_wf | apply memWriteL_wf
        | apply memWrite_wf | apply memZero_wf | apply memFilter_wf | apply State.sram_wf | apply State.localMem_wf
        | apply State.sharedMem_wf | apply State.instrMem_wf | apply State.dram_wf | apply State.mram_wf | apply State.host_wf
        | apply State.flash_wf
    | dsimp only
    | simp only [State.canon_mk]
    | simp only [Memories.ok_mk]

theorem State.calStore_canon (s : State) (id : Nat) (l : List Nat) (factory : Bool) (hc : s.canon) : (State.calStore s id l factory).canon := by
  unfold State.calStore
  repeat' first
    | intro _
    | with_reducible first
        | assumption | exact memWf_nil | apply State.bump_canon | apply State.calWrite_canon | apply State.calField_canon
        | apply getD_canon | apply ite_c
    | refine pair_canon (by assumption) ?_
    | refine tripR_canon (by assumption) ?_
    | dsimp only
    | split

theorem State.calVco_canon (s : State) (l : List Nat) (hc : s.canon) : (State.calVco s l).canon := by
  unfold State.calVco
  repeat' first
    | intro _
    | with_reducible first
        | assumption | exact memWf_nil | apply State.put_canon | apply State.clr_canon | apply State.drop_canon
        | apply State.each_canon | apply State.vcoPut_canon | apply State.take_canon
    | dsimp only
    | split

theorem State.calTuner_canon (s : State) (regs : Bool) (l : List Nat) (hc : s.canon) : (State.calTuner s regs l).canon := by
  unfold State.calTuner
  repeat' first
    | intro _
    | with_reducible first
        | assumption | exact memWf_nil | apply State.put_canon | apply State.each_canon | apply ite_c
    | dsimp only
    | split

theorem State.calPower_canon (s : State) (l : List Nat) (hc : s.canon) : (State.calPower s l).canon := by
  unfold State.calPower
  repeat' first
    | intro _
    | with_reducible first
        | assumption | exact memWf_nil | apply State.put_canon | apply State.each_canon
    | dsimp only

theorem State.calBoard_canon (s : State) (regs : Bool) (l : List Nat) (hc : s.canon) : (State.calBoard s regs l).canon := by
  unfold State.calBoard
  repeat' first
    | intro _
    | with_reducible first
        | assumption | exact memWf_nil | apply State.put_canon | apply State.each_canon | apply ite_c
    | dsimp only
    | split

theorem State.calField_canon (s : State) (id : Nat) (f : State → List Nat → State) (hf : ∀ u a, u.canon → (f u a).canon) (hc : s.canon) : (State.calField s id f).canon := by
  unfold State.calField
  repeat' first
    | intro _
    | with_reducible first
        | assumption | exact memWf_nil | apply State.mem_ok | apply hf
    | refine pair_canon (by assumption) ?_
    | refine tripR_canon (by assumption) ?_
    | dsimp only
    | split
    | simp only [State.canon_mk]

theorem State.calLoad_canon (s : State) (regs : Bool) (hc : s.canon) : (State.calLoad s regs).canon := by
  unfold State.calLoad
  repeat' first
    | intro _
    | with_reducible first
        | assumption | exact memWf_nil | apply State.put_canon | apply State.set_canon | apply State.each_canon
        | apply State.fault_canon | apply State.sum_canon | apply State.calVco_canon | apply State.calTuner_canon
        | apply State.calPower_canon | apply State.calBoard_canon | apply State.calField_canon | apply State.mem_ok
    | refine pair_canon (by assumption) ?_
    | refine tripR_canon (by assumption) ?_
    | dsimp only
    | split
    | simp only [State.canon_mk]

theorem State.calMute_canon (s : State) (hc : s.canon) : (State.calMute s).canon := by
  unfold State.calMute
  repeat' first
    | intro _
    | with_reducible first
        | assumption | exact memWf_nil | apply State.each_canon | apply State.muteSet_canon | apply State.muteClr_canon
        | apply ite_c
    | dsimp only
    | split

theorem execCalSaveTuner_canon (r : Req) (ports : Nat) (s : State) (hc : s.canon) : (next s (execCalSaveTuner r ports s)).canon := by
  unfold execCalSaveTuner
  repeat' first
    | intro _
    | with_reducible first
        | assumption | exact memWf_nil | apply State.put_canon | apply State.set_canon | apply State.drop_canon
        | apply State.onBus_canon | apply State.take_canon | apply State.calStore_canon | apply next_canon | apply ite_c
    | dsimp only
    | split

theorem execCalExport_canon (c : Cmd) (addr : Nat) (s : State) (hc : s.canon) : (next s (execCalExport c addr s)).canon := by
  unfold execCalExport
  repeat' first
    | intro _
    | with_reducible first
        | assumption | exact memWf_nil | apply State.answer_canon | apply next_canon
    | dsimp only

theorem execCalRestore_canon (c : Cmd) (addr : Nat) (mask : Nat) (foreign : Bool) (s : State) (hc : s.canon) : (next s (execCalRestore c addr mask foreign s)).canon := by
  unfold execCalRestore
  repeat' first
    | intro _
    | with_reducible first
        | assumption | exact memWf_nil | apply State.each_canon | apply State.finish_canon | apply State.calStore_canon
        | apply State.calLoad_canon | apply State.calMute_canon | apply next_canon | apply State.mem_ok | apply ite_c
    | refine pair_canon (by assumption) ?_
    | refine tripR_canon (by assumption) ?_
    | dsimp only
    | split
    | simp only [State.canon_mk]

theorem execBootImageWrite_canon (c : Cmd) (addr len : Nat) (activate : Bool) (slot : Nat) (s : State) (hc : s.canon) :
    (next s (execBootImageWrite c addr len activate slot s)).canon := by
  unfold execBootImageWrite
  extract_lets recov n
  clear_value n recov
  split
  ·
    repeat' first
      | intro _
      | with_reducible first
          | assumption | exact memWf_nil | apply State.put_canon | apply State.set_canon | apply State.served_canon
          | apply State.finish_canon | apply State.bootPut_canon | apply State.triesShow_canon | apply next_canon
          | apply State.mem_ok | apply And.intro | apply memFold_wf | apply memWriteL_wf | apply memWrite_wf | apply memZero_wf
          | apply memFilter_wf | apply State.sram_wf | apply State.localMem_wf | apply State.sharedMem_wf | apply State.instrMem_wf
          | apply State.dram_wf | apply State.mram_wf | apply State.host_wf | apply State.flash_wf | apply ite_c
      | refine pair_canon (by assumption) ?_
      | refine tripR_canon (by assumption) ?_
      | dsimp only
      | split
      | simp only [State.canon_mk]
      | simp only [Memories.ok_mk]

  split
  ·
    repeat' first
      | intro _
      | with_reducible first
          | assumption | exact memWf_nil | apply State.put_canon | apply State.set_canon | apply State.served_canon
          | apply State.finish_canon | apply State.bootPut_canon | apply State.triesShow_canon | apply next_canon
          | apply State.mem_ok | apply And.intro | apply memFold_wf | apply memWriteL_wf | apply memWrite_wf | apply memZero_wf
          | apply memFilter_wf | apply State.sram_wf | apply State.localMem_wf | apply State.sharedMem_wf | apply State.instrMem_wf
          | apply State.dram_wf | apply State.mram_wf | apply State.host_wf | apply State.flash_wf | apply ite_c
      | refine pair_canon (by assumption) ?_
      | refine tripR_canon (by assumption) ?_
      | dsimp only
      | split
      | simp only [State.canon_mk]
      | simp only [Memories.ok_mk]

  rename_i m s1 src s2 s3 h1 h2
  have q1 : s1.canon := by
    simp only [s1]
    split
    · exact ite_c _ (fun _ => State.bootPut_canon _ _ hc) (fun _ => hc)
    · exact hc
  clear_value s1
  have q2 : s2.canon := State.flash_canon _ q1 (memZero_wf _ _ (State.flash_wf q1))
  clear_value s2
  have q3 : s3.canon := State.put_canon _ _ _ (State.put_canon _ _ _ (State.put_canon _ _ _ (State.set_canon _ _ q2)))
  clear_value s3
  exact State.served_canon _ _ (State.put_canon _ _ _ q3)
theorem execBootFlashWriteDone_canon (s : State) (hc : s.canon) : (next s (execBootFlashWriteDone s)).canon := by
  unfold execBootFlashWriteDone
  split
  · exact hc
  extract_lets n c src s1
  have q1 : s1.canon := State.clr_canon _ _ (State.flash_canon _ hc (memWriteL_wf _ _ (State.flash_wf hc)))
  clear_value s1
  split
  · exact State.finish_canon _ _ _ _ q1
  rename_i s2 s3 hh
  have q2 : s2.canon := ite_c _ (fun _ => State.bootPut_canon _ _ q1) (fun _ => q1)
  clear_value s2
  have q3 : s3.canon := ite_c _ (fun _ => State.bootPut_canon _ _ q2) (fun _ => q2)
  exact State.finish_canon _ _ _ _ q3
theorem execPowerOn_canon (s : State) (hc : s.canon) : (next s (execPowerOn s)).canon := by
  unfold execPowerOn
  repeat' first
    | intro _
    | with_reducible first
        | assumption | exact memWf_nil | apply State.takeSys_canon | apply next_canon
    | dsimp only

theorem execPorNLow_canon (ns : Nat) (take : Bool) (s : State) (hc : s.canon) : (next s (execPorNLow ns take s)).canon := by
  unfold execPorNLow
  repeat' first
    | intro _
    | with_reducible first
        | assumption | exact memWf_nil | apply State.takeSys_canon | apply State.take_canon | apply next_canon | apply ite_c
    | dsimp only
    | split

theorem execResetNLow_canon (ns : Nat) (take : Bool) (s : State) (hc : s.canon) : (next s (execResetNLow ns take s)).canon := by
  unfold execResetNLow
  repeat' first
    | intro _
    | with_reducible first
        | assumption | exact memWf_nil | apply State.takeSys_canon | apply State.take_canon | apply next_canon | apply ite_c
    | dsimp only
    | split

theorem execSupplyLow_canon (s : State) (hc : s.canon) : (next s (execSupplyLow s)).canon := by
  unfold execSupplyLow
  repeat' first
    | intro _
    | with_reducible first
        | assumption | exact memWf_nil | apply State.sourceFault_canon | apply next_canon
    | dsimp only

theorem execThermalTrip_canon (s : State) (hc : s.canon) : (next s (execThermalTrip s)).canon := by
  unfold execThermalTrip
  repeat' first
    | intro _
    | with_reducible first
        | assumption | exact memWf_nil | apply State.put_canon | apply State.set_canon | apply State.sourceFault_canon
        | apply next_canon | apply ite_c
    | dsimp only
    | split

theorem execThermalHoldEnd_canon (s : State) (hc : s.canon) : (next s (execThermalHoldEnd s)).canon := by
  unfold execThermalHoldEnd
  repeat' first
    | intro _
    | with_reducible first
        | assumption | exact memWf_nil | apply State.clr_canon | apply next_canon | apply ite_c
    | dsimp only
    | split

theorem execStewardWdogExpire_canon (s : State) (hc : s.canon) : (next s (execStewardWdogExpire s)).canon := by
  unfold execStewardWdogExpire
  repeat' first
    | intro _
    | with_reducible first
        | assumption | exact memWf_nil | apply State.sourceFault_canon | apply next_canon
    | dsimp only

theorem execRstCmdSystem_canon (r : Req) (s : State) (hc : s.canon) : (next s (execRstCmdSystem r s)).canon := by
  unfold execRstCmdSystem
  repeat' first
    | intro _
    | with_reducible first
        | assumption | exact memWf_nil | apply State.takeSys_canon | apply State.onBus_canon | apply next_canon
    | dsimp only

theorem execRstCmdCore_canon (r : Req) (s : State) (hc : s.canon) : (next s (execRstCmdCore r s)).canon := by
  unfold execRstCmdCore
  repeat' first
    | intro _
    | with_reducible first
        | assumption | exact memWf_nil | apply State.takeCore_canon | apply State.onBus_canon | apply next_canon | apply ite_c
    | dsimp only
    | split

theorem State.hold_canon (s : State) (cause : Nat) (hc : s.canon) : (State.hold s cause).canon := by
  unfold State.hold
  repeat' first
    | intro _
    | with_reducible first
        | assumption | exact memWf_nil | apply State.put_canon | apply State.set_canon
    | dsimp only

theorem State.otpRead_canon (s : State) (l : List Nat) (hc : s.canon) : (s.otpRead l).canon := by
  unfold State.otpRead
  extract_lets ws s1 s2 s3 s4 s5 s6 s7
  clear_value ws
  have q1 : s1.canon := State.each_canon _ _ hc fun u a hu => State.fault_canon _ _ _ _ _ _ _ _ _ hu
  have q2 : s2.canon := q1
  have q3 : s3.canon := State.when_canon _ _ q2 fun u hu => State.set_canon _ _ hu
  have q4 : s4.canon := q3
  have q5 : s5.canon := State.each_canon _ _ q4 fun u a hu => State.put_canon _ _ _ hu
  have q6 : s6.canon := q5
  have q7 : s7.canon := q6
  clear_value s7
  split
  · exact q7
  · exact State.hold_canon _ _ (State.put_canon _ _ _ q7)
theorem State.mramZero_canon (s : State) (hc : s.canon) : (State.mramZero s).canon := by
  unfold State.mramZero
  repeat' first
    | intro _
    | with_reducible first
        | assumption | exact memWf_nil | apply State.mem_ok | apply And.intro | apply memFold_wf | apply memWriteL_wf
        | apply memWrite_wf | apply memZero_wf | apply memFilter_wf | apply State.sram_wf | apply State.localMem_wf
        | apply State.sharedMem_wf | apply State.instrMem_wf | apply State.dram_wf | apply State.mram_wf | apply State.host_wf
        | apply State.flash_wf
    | dsimp only
    | simp only [State.canon_mk]
    | simp only [Memories.ok_mk]

theorem State.bootOrder_canon (s : State) (sel : Nat) (hc : s.canon) : ((State.bootOrder s sel).2).canon := by
  unfold State.bootOrder
  repeat' first
    | intro _
    | with_reducible first
        | assumption | exact memWf_nil | apply State.set_canon | apply State.bootPut_canon | apply State.mem_ok | apply ite_c
    | refine pair_canon (by assumption) ?_
    | refine tripR_canon (by assumption) ?_
    | dsimp only
    | split
    | simp only [State.canon_mk]

theorem State.rootGenerate_canon (s : State) (ok : Bool) (hc : s.canon) : (State.rootGenerate s ok).canon := by
  unfold State.rootGenerate
  repeat' first
    | intro _
    | with_reducible first
        | assumption | exact memWf_nil | apply State.put_canon | apply State.set_canon | apply State.bump_canon
        | apply State.draw_canon | apply State.hold_canon | apply ite_c
    | refine pair_canon (by assumption) ?_
    | refine tripR_canon (by assumption) ?_
    | dsimp only
    | split

theorem State.keysStart_canon (s : State) (hc : s.canon) : (State.keysStart s).canon := by
  unfold State.keysStart
  repeat' first
    | intro _
    | with_reducible first
        | assumption | exact memWf_nil | apply State.put_canon | apply State.set_canon | apply State.when_canon
        | apply State.each_canon | apply State.groupResume_canon | apply State.newHedgeRoot_canon | apply ite_c
    | dsimp only
    | split

theorem State.clockSeed_canon (s : State) (hc : s.canon) : (State.clockSeed s).canon := by
  unfold State.clockSeed
  repeat' first
    | intro _
    | with_reducible first
        | assumption | exact memWf_nil | apply State.hostStep_canon | apply ite_c
    | dsimp only
    | split

theorem State.profileWord_canon (s : State) (x : Nat × Nat) (hc : s.canon) : (State.profileWord s x).canon := by
  unfold State.profileWord
  repeat' first
    | intro _
    | with_reducible first
        | assumption | exact memWf_nil | apply State.put_canon | apply State.each_canon | apply ite_c
    | dsimp only
    | split

theorem State.profileStart_canon (s : State) (ws : List (Nat × Nat)) (hc : s.canon) : (State.profileStart s ws).canon := by
  unfold State.profileStart
  repeat' first
    | intro _
    | with_reducible first
        | assumption | exact memWf_nil | apply State.put_canon | apply State.each_canon | apply State.lockProfile_canon
        | apply State.profileWord_canon | apply getD_canon | apply ite_c
    | dsimp only
    | split

theorem State.runtimeStart_canon (s : State) (hc : s.canon) : (State.runtimeStart s).canon := by
  unfold State.runtimeStart
  repeat' first
    | intro _
    | with_reducible first
        | assumption | exact memWf_nil | apply State.each_canon | apply State.startThread_canon | apply foldl_canon
        | apply foldlL_canon | apply foldlR_canon | apply State.mem_ok | apply And.intro | apply memFold_wf | apply memWriteL_wf
        | apply memWrite_wf | apply memZero_wf | apply memFilter_wf | apply State.sram_wf | apply State.localMem_wf
        | apply State.sharedMem_wf | apply State.instrMem_wf | apply State.dram_wf | apply State.mram_wf | apply State.host_wf
        | apply State.flash_wf
    | dsimp only
    | split
    | simp only [State.canon_mk]
    | simp only [Memories.ok_mk]

theorem State.dramStart_canon (s : State) (trained : Nat) (hc : s.canon) : (State.dramStart s trained).canon := by
  unfold State.dramStart
  repeat' first
    | intro _
    | with_reducible first
        | assumption | exact memWf_nil | apply State.put_canon | apply State.set_canon | apply State.each_canon
        | apply State.mem_ok | apply ite_c
    | refine pair_canon (by assumption) ?_
    | refine tripR_canon (by assumption) ?_
    | dsimp only
    | split
    | simp only [State.canon_mk]

theorem State.fifoPools_canon (s : State) (hc : s.canon) : (State.fifoPools s).canon := by
  unfold State.fifoPools
  repeat' first
    | intro _
    | with_reducible first
        | assumption | exact memWf_nil | apply State.put_canon | apply State.each_canon
    | dsimp only

theorem State.radioStart_canon (s : State) (hc : s.canon) : (State.radioStart s).canon := by
  unfold State.radioStart
  repeat' first
    | intro _
    | with_reducible first
        | assumption | exact memWf_nil | apply State.set_canon | apply State.clr_canon | apply State.each_canon
        | apply State.portLines_canon | apply State.coexDrive_canon | apply State.portStart_canon | apply State.calLoad_canon
        | apply State.calMute_canon | apply ite_c
    | dsimp only
    | split

theorem State.linksStart_canon (s : State) (ls : List (Nat × Nat × Nat)) (hc : s.canon) : (State.linksStart s ls).canon := by
  unfold State.linksStart
  repeat' first
    | intro _
    | with_reducible first
        | assumption | exact memWf_nil | apply State.put_canon | apply State.each_canon | apply State.mem_ok
    | refine pair_canon (by assumption) ?_
    | refine tripR_canon (by assumption) ?_
    | dsimp only
    | split
    | simp only [State.canon_mk]

theorem State.tamperRecord_canon (s : State) (n : Nat) (hc : s.canon) : (State.tamperRecord s n).canon := by
  unfold State.tamperRecord
  repeat' first
    | intro _
    | with_reducible first
        | assumption | exact memWf_nil | apply State.clr_canon | apply State.scpRaise_canon | apply State.mem_ok
    | dsimp only
    | split
    | simp only [State.canon_mk]

theorem State.ready_canon (s : State) (hc : s.canon) : (State.ready s).canon := by
  unfold State.ready
  repeat' first
    | intro _
    | with_reducible first
        | assumption | exact memWf_nil | apply State.set_canon | apply State.clr_canon | apply State.when_canon
        | apply State.each_canon | apply State.tamperRecord_canon | apply ite_c
    | dsimp only
    | split

theorem State.imageNote_canon (s : State) (m : List Nat) (hc : s.canon) : (State.imageNote s m).canon := by
  unfold State.imageNote
  repeat' first
    | intro _
    | with_reducible first
        | assumption | exact memWf_nil | apply State.put_canon | apply State.drop_canon | apply State.each_canon
        | apply State.take_canon | apply State.mem_ok
    | dsimp only
    | split
    | simp only [State.canon_mk]

theorem State.tablePlace_canon (s : State) (hc : s.canon) : (State.tablePlace s).canon := by
  unfold State.tablePlace
  repeat' first
    | intro _
    | with_reducible first
        | assumption | exact memWf_nil | apply State.put_canon | apply State.set_canon
    | dsimp only
    | split

theorem State.bootRun_canon (s : State) (x : BootIn) (m : List Nat) (hc : s.canon) : (s.bootRun x m).canon := by
  unfold State.bootRun
  extract_lets s1 s2 src0 src s3
  have q1 : s1.canon := State.imageNote_canon _ _ hc
  clear_value s1
  have q2 : s2.canon := State.when_canon _ _ q1 fun t ht => State.rootGenerate_canon _ _ ht
  clear_value s2
  refine ite_c _ (fun _ => q2) (fun _ => ?_)
  have q3 : s3.canon := State.sram_canon _ (State.keysStart_canon _ (State.dramStart_canon _ _ q2)) rfl
  clear_value s3
  split
  rename_i a s4 h4
  have q4 := pair_canon h4 (State.draw_canon q3)
  split
  rename_i b s5 h5
  have q5 := pair_canon h5 (State.draw_canon q4)
  extract_lets s6 s7 s8 s9
  have q6 : s6.canon := State.clockSeed_canon _ (State.fifoPools_canon _ (State.put_canon _ _ _ (State.put_canon _ _ _ q5)))
  clear_value s6
  have q7 : s7.canon := q6
  clear_value s7
  have q8 : s8.canon := by
    simp only [s8]
    repeat' first
      | intro _
      | with_reducible first
          | assumption | exact memWf_nil | apply State.put_canon | apply State.draw_canon | apply State.when_canon
          | apply State.each_canon | apply State.fault_canon | apply State.passStart_canon | apply State.ledgerRestore_canon
          | apply State.rootGenerate_canon | apply State.keysStart_canon | apply State.clockSeed_canon
          | apply State.profileStart_canon | apply State.runtimeStart_canon | apply State.dramStart_canon
          | apply State.fifoPools_canon | apply State.radioStart_canon | apply State.linksStart_canon | apply State.ready_canon
          | apply State.imageNote_canon | apply State.tablePlace_canon | apply State.mem_ok | apply And.intro | apply memFold_wf
          | apply memWriteL_wf | apply memWrite_wf | apply memZero_wf | apply memFilter_wf | apply State.sram_wf
          | apply State.localMem_wf | apply State.sharedMem_wf | apply State.instrMem_wf | apply State.dram_wf
          | apply State.mram_wf | apply State.host_wf | apply State.flash_wf | apply ite_c
      | refine pair_canon (by assumption) ?_
      | refine tripR_canon (by assumption) ?_
      | dsimp only
      | split
      | simp only [State.canon_mk]
      | simp only [Memories.ok_mk]

  clear_value s8
  have q9 : s9.canon := State.ready_canon _ (State.put_canon _ _ _ q8)
  clear_value s9
  repeat' first
    | intro _
    | with_reducible first
        | assumption | exact memWf_nil | apply State.put_canon | apply State.draw_canon | apply State.when_canon
        | apply State.each_canon | apply State.fault_canon | apply State.passStart_canon | apply State.ledgerRestore_canon
        | apply State.rootGenerate_canon | apply State.keysStart_canon | apply State.clockSeed_canon
        | apply State.profileStart_canon | apply State.runtimeStart_canon | apply State.dramStart_canon
        | apply State.fifoPools_canon | apply State.radioStart_canon | apply State.linksStart_canon | apply State.ready_canon
        | apply State.imageNote_canon | apply State.tablePlace_canon | apply State.mem_ok | apply And.intro | apply memFold_wf
        | apply memWriteL_wf | apply memWrite_wf | apply memZero_wf | apply memFilter_wf | apply State.sram_wf
        | apply State.localMem_wf | apply State.sharedMem_wf | apply State.instrMem_wf | apply State.dram_wf
        | apply State.mram_wf | apply State.host_wf | apply State.flash_wf | apply ite_c
    | refine pair_canon (by assumption) ?_
    | refine tripR_canon (by assumption) ?_
    | dsimp only
    | split
    | simp only [State.canon_mk]
    | simp only [Memories.ok_mk]

theorem State.bootRecovery_canon (s : State) (links : List (Nat × Nat × Nat)) (hc : s.canon) : (State.bootRecovery s links).canon := by
  unfold State.bootRecovery
  repeat' first
    | intro _
    | with_reducible first
        | assumption | exact memWf_nil | apply State.put_canon | apply State.set_canon | apply State.take_canon
        | apply State.linksStart_canon
    | dsimp only

theorem State.bootFlash_canon (s : State) (x : BootIn) (hc : s.canon) : (State.bootFlash s x).canon := by
  unfold State.bootFlash
  repeat' first
    | intro _
    | with_reducible first
        | assumption | exact memWf_nil | apply State.put_canon | apply State.triesShow_canon | apply State.bootOrder_canon
        | apply State.bootRun_canon | apply State.bootRecovery_canon | apply State.mem_ok | apply And.intro | apply memFold_wf
        | apply memWriteL_wf | apply memWrite_wf | apply memZero_wf | apply memFilter_wf | apply State.sram_wf
        | apply State.localMem_wf | apply State.sharedMem_wf | apply State.instrMem_wf | apply State.dram_wf
        | apply State.mram_wf | apply State.host_wf | apply State.flash_wf | apply ite_c
    | refine pair_canon (by assumption) ?_
    | refine tripR_canon (by assumption) ?_
    | dsimp only
    | split
    | simp only [State.canon_mk]
    | simp only [Memories.ok_mk]

theorem execResetRelease_canon (x : BootIn) (s : State) (hc : s.canon) : (next s (execResetRelease x s)).canon := by
  unfold execResetRelease
  split
  · exact hc
  extract_lets power s1 q s2 s3 s4 s5
  have q1 : s1.canon := State.when_canon _ _ hc fun u hu => State.mramZero_canon _ hu
  clear_value s1
  have q2 : s2.canon := by
    refine State.scpScan_canon _ ?_
    simp only [State.canon_mk]
    exact q1
  clear_value s2
  have q3 : s3.canon := State.record_canon _ _ _ _ _ _ _ _ _ _ q2
  clear_value s3
  have q4 : s4.canon := by
    refine State.put_canon _ _ _ ?_
    simp only [State.canon_mk]
    exact q3
  clear_value s4
  have q5 : s5.canon := State.otpRead_canon _ _ (State.set_canon _ _ (State.put_canon _ _ _ q4))
  clear_value s5
  rw [next_next]
  split
  · exact q5
  · exact State.bootFlash_canon _ _ q5
theorem State.bootDraw_canon (s : State) (hc : s.canon) : ((State.bootDraw s).2).canon := by
  unfold State.bootDraw
  repeat' first
    | intro _
    | with_reducible first
        | assumption | exact memWf_nil | apply State.draw_canon | apply State.mem_ok
    | refine pair_canon (by assumption) ?_
    | refine tripR_canon (by assumption) ?_
    | refine pairL_canon (by assumption) ?_
    | dsimp only
    | split
    | simp only [State.canon_mk]

theorem execRecovGo_canon (r : Req) (x : BootIn) (s : State) (hc : s.canon) : (next s (execRecovGo r x s)).canon := by
  unfold execRecovGo
  repeat' first
    | intro _
    | with_reducible first
        | assumption | exact memWf_nil | apply State.put_canon | apply State.set_canon | apply State.clr_canon
        | apply State.onBus_canon | apply State.bootRun_canon | apply next_canon | apply And.intro | apply memFold_wf
        | apply memWriteL_wf | apply memWrite_wf | apply memZero_wf | apply memFilter_wf | apply State.sram_wf
        | apply State.localMem_wf | apply State.sharedMem_wf | apply State.instrMem_wf | apply State.dram_wf
        | apply State.mram_wf | apply State.host_wf | apply State.flash_wf | apply ite_c
    | dsimp only
    | split
    | simp only [Memories.ok_mk]

theorem execBootConfirm_canon (r : Req) (s : State) (hc : s.canon) : (next s (execBootConfirm r s)).canon := by
  unfold execBootConfirm
  repeat' first
    | intro _
    | with_reducible first
        | assumption | exact memWf_nil | apply State.put_canon | apply State.clr_canon | apply State.when_canon
        | apply State.onBus_canon | apply State.bootPut_canon | apply State.triesShow_canon | apply next_canon | apply ite_c
    | refine pair_canon (by assumption) ?_
    | refine tripR_canon (by assumption) ?_
    | dsimp only
    | split

theorem State.forget_canon (s : State) (Fs : List Fld) (hc : s.canon) : (State.forget s Fs).canon := by
  unfold State.forget
  repeat' first
    | intro _
    | with_reducible first
        | assumption | exact memWf_nil | apply State.mem_ok
    | dsimp only
    | simp only [State.canon_mk]

theorem State.unitsShow_canon (s : State) (hc : s.canon) : (State.unitsShow s).canon := by
  unfold State.unitsShow
  repeat' first
    | intro _
    | with_reducible first
        | assumption | exact memWf_nil | apply State.put_canon | apply ite_c
    | dsimp only
    | split

theorem State.unitsReturn_canon (s : State) (lanesOk : Nat) (aesOk : Nat) (decOk : Nat) (portsOk : Nat) (hc : s.canon) : (State.unitsReturn s lanesOk aesOk decOk portsOk).canon := by
  unfold State.unitsReturn
  repeat' first
    | intro _
    | with_reducible first
        | assumption | exact memWf_nil | apply State.put_canon | apply State.clr_canon | apply State.when_canon
        | apply State.each_canon | apply State.unitsShow_canon
    | dsimp only
    | split

theorem State.lanesCore_canon (s : State) (hc : s.canon) : (State.lanesCore s).canon := by
  unfold State.lanesCore
  repeat' first
    | intro _
    | with_reducible first
        | assumption | exact memWf_nil | apply State.each_canon | apply State.laneDrop_canon | apply State.lanePending_canon
        | apply State.poolSync_canon | apply State.mem_ok
    | dsimp only
    | split
    | simp only [State.canon_mk]

theorem State.chainsCore_canon (s : State) (hc : s.canon) : (State.chainsCore s).canon := by
  unfold State.chainsCore
  repeat' first
    | intro _
    | with_reducible first
        | assumption | exact memWf_nil | apply State.put_canon | apply State.clr_canon | apply State.when_canon
        | apply State.each_canon | apply State.reqLevel_canon | apply State.txEnd_canon | apply State.muteClr_canon
        | apply State.disarm_canon | apply State.quietDrop_canon | apply State.txToReady_canon | apply State.mem_ok
    | dsimp only
    | split
    | simp only [State.canon_mk]

theorem State.trafficCore_canon (s : State) (hc : s.canon) : (State.trafficCore s).canon := by
  unfold State.trafficCore
  repeat' first
    | intro _
    | with_reducible first
        | assumption | exact memWf_nil | apply State.each_canon | apply State.shCommit_canon | apply State.meterCommit_canon
        | apply State.refreshAll_canon | apply State.forget_canon | apply State.mem_ok
    | dsimp only
    | split
    | simp only [State.canon_mk]

theorem State.fwdCore_canon (s : State) (hc : s.canon) : (State.fwdCore s).canon := by
  unfold State.fwdCore
  repeat' first
    | intro _
    | with_reducible first
        | assumption | exact memWf_nil | apply State.clr_canon | apply State.each_canon | apply State.event_canon
        | apply State.seenShow_canon | apply State.campPause_canon | apply State.forget_canon | apply State.mem_ok | apply ite_c
    | refine pair_canon (by assumption) ?_
    | refine tripR_canon (by assumption) ?_
    | dsimp only
    | split
    | simp only [State.canon_mk]

theorem State.enginesCore_canon (s : State) (hc : s.canon) : (State.enginesCore s).canon := by
  unfold State.enginesCore
  repeat' first
    | intro _
    | with_reducible first
        | assumption | exact memWf_nil | apply State.forget_canon | apply State.mem_ok | apply And.intro | apply memFold_wf
        | apply memWriteL_wf | apply memWrite_wf | apply memZero_wf | apply memFilter_wf | apply State.sram_wf
        | apply State.localMem_wf | apply State.sharedMem_wf | apply State.instrMem_wf | apply State.dram_wf
        | apply State.mram_wf | apply State.host_wf | apply State.flash_wf
    | dsimp only
    | split
    | simp only [State.canon_mk]
    | simp only [Memories.ok_mk]

theorem State.programCore_canon (s : State) (progOk : Nat) (h : Nat) (hc : s.canon) : (State.programCore s progOk h).canon := by
  unfold State.programCore
  repeat' first
    | intro _
    | with_reducible first
        | assumption | exact memWf_nil | apply State.when_canon | apply State.event_canon | apply State.unload_canon
        | apply State.runImage_canon | apply State.mem_ok | apply ite_c
    | refine pair_canon (by assumption) ?_
    | refine tripR_canon (by assumption) ?_
    | dsimp only
    | split
    | simp only [State.canon_mk]

theorem State.hostCore_canon (s : State) (frames : Nat → Nat) (events : Nat → Nat) (hc : s.canon) : (State.hostCore s frames events).canon := by
  unfold State.hostCore
  repeat' first
    | intro _
    | with_reducible first
        | assumption | exact memWf_nil | apply State.each_canon | apply State.complete_canon | apply State.event_canon
        | apply State.mem_ok | apply ite_c
    | refine pair_canon (by assumption) ?_
    | refine tripR_canon (by assumption) ?_
    | dsimp only
    | split
    | simp only [State.canon_mk]

theorem State.backlogCore_canon (s : State) (hc : s.canon) : (State.backlogCore s).canon := by
  unfold State.backlogCore
  repeat' first
    | intro _
    | with_reducible first
        | assumption | exact memWf_nil | apply State.clr_canon | apply State.each_canon | apply State.rxShow_canon
        | apply State.mem_ok
    | dsimp only
    | split
    | simp only [State.canon_mk]

theorem State.programsHalt_canon (s : State) (progOk : Nat) (hc : s.canon) : (State.programsHalt s progOk).canon := by
  unfold State.programsHalt
  repeat' first
    | intro _
    | with_reducible first
        | assumption | exact memWf_nil | apply State.when_canon | apply State.each_canon | apply State.again_canon
        | apply State.haltPrograms_canon
    | dsimp only
    | split

theorem State.coreReset_canon (s : State) (progOk : Nat) (lanesOk : Nat) (aesOk : Nat) (decOk : Nat) (portsOk : Nat) (hc : s.canon) : (State.coreReset s progOk lanesOk aesOk decOk portsOk).canon := by
  unfold State.coreReset
  repeat' first
    | intro _
    | with_reducible first
        | assumption | exact memWf_nil | apply State.put_canon | apply State.set_canon | apply State.clr_canon
        | apply State.when_canon | apply State.each_canon | apply State.roleTold_canon | apply State.mapsRestart_canon
        | apply State.groupResume_canon | apply State.hello_canon | apply State.calLoad_canon | apply State.runtimeStart_canon
        | apply State.ready_canon | apply State.unitsReturn_canon | apply State.lanesCore_canon | apply State.chainsCore_canon
        | apply State.trafficCore_canon | apply State.fwdCore_canon | apply State.enginesCore_canon
        | apply State.programCore_canon | apply State.hostCore_canon | apply State.backlogCore_canon
        | apply State.programsHalt_canon
    | dsimp only
    | split

theorem execCoreReset_canon (stewardOk : Bool) (runtimeOk : Bool) (progOk : Nat) (lanesOk : Nat) (aesOk : Nat) (decOk : Nat) (portsOk : Nat) (s : State) (hc : s.canon) : (next s (execCoreReset stewardOk runtimeOk progOk lanesOk aesOk decOk portsOk s)).canon := by
  unfold execCoreReset
  repeat' first
    | intro _
    | with_reducible first
        | assumption | exact memWf_nil | apply State.act_canon | apply State.ready_canon | apply State.coreReset_canon
        | apply next_canon | apply ite_c
    | dsimp only
    | split

theorem State.calPut_canon (s : State) (l : List Nat) (hc : s.canon) : (State.calPut s l).canon := by
  unfold State.calPut
  repeat' first
    | intro _
    | with_reducible first
        | assumption | exact memWf_nil | apply State.put_canon | apply getD_canon
    | dsimp only
    | split

theorem State.trigNext_canon (s : State) (n : Nat) (t : Option Nat) (hc : s.canon) : (State.trigNext s n t).canon := by
  unfold State.trigNext
  repeat' first
    | intro _
    | with_reducible first
        | assumption | exact memWf_nil | apply State.put_canon | apply State.clr_canon | apply State.mem_ok
    | refine pair_canon (by assumption) ?_
    | refine tripR_canon (by assumption) ?_
    | dsimp only
    | split
    | simp only [State.canon_mk]

theorem State.trigFire_canon (s : State) (n : Nat) (hc : s.canon) : (State.trigFire s n).canon := by
  unfold State.trigFire
  repeat' first
    | intro _
    | with_reducible first
        | assumption | exact memWf_nil | apply State.put_canon | apply State.set_canon | apply State.clr_canon
        | apply State.bump_canon | apply State.missAdd_canon | apply State.trigNext_canon | apply ite_c
    | dsimp only
    | split

theorem State.trigSkip_canon (s : State) (n u k : Nat) (hc : s.canon) : (s.trigSkip n u k).canon := by
  induction k generalizing s with
  | zero =>
    unfold State.trigSkip
    repeat' first
      | intro _
      | with_reducible first
          | assumption | exact memWf_nil | apply State.missAdd_canon | apply State.trigNext_canon | apply ite_c
      | dsimp only
      | split

  | succ k ih =>
    unfold State.trigSkip
    repeat' first
      | with_reducible apply ih
      | intro _
      | with_reducible first
          | assumption | exact memWf_nil | apply State.missAdd_canon | apply State.trigNext_canon | apply ite_c
      | dsimp only
      | split

theorem execCalTrigSet_canon (c : Cmd) (n : Nat) (rep : Nat) (due : List Nat) (s : State) (hc : s.canon) : (next s (execCalTrigSet c n rep due s)).canon := by
  unfold execCalTrigSet
  repeat' first
    | intro _
    | with_reducible first
        | assumption | exact memWf_nil | apply State.put_canon | apply State.set_canon | apply State.finish_canon
        | apply State.trigNext_canon | apply getD_canon | apply next_canon | apply ite_c
    | dsimp only
    | split

theorem execCalTrigClr_canon (c : Cmd) (n : Nat) (s : State) (hc : s.canon) : (next s (execCalTrigClr c n s)).canon := by
  unfold execCalTrigClr
  repeat' first
    | intro _
    | with_reducible first
        | assumption | exact memWf_nil | apply State.put_canon | apply State.clr_canon | apply State.each_canon
        | apply State.finish_canon | apply next_canon | apply ite_c
    | dsimp only
    | split

theorem execTriggerEventPost_canon (n : Nat) (s : State) (hc : s.canon) : (next s (execTriggerEventPost n s)).canon := by
  unfold execTriggerEventPost
  repeat' first
    | intro _
    | with_reducible first
        | assumption | exact memWf_nil | apply State.put_canon | apply State.set_canon | apply State.event_canon
        | apply next_canon | apply ite_c
    | refine pair_canon (by assumption) ?_
    | refine tripR_canon (by assumption) ?_
    | dsimp only
    | split

theorem State.missedEvent_canon (s : State) (h : Nat) (total : Nat) (from_ : Nat) (ns : List Nat) (hc : s.canon) : (State.missedEvent s h total from_ ns).canon := by
  unfold State.missedEvent
  repeat' first
    | intro _
    | with_reducible first
        | assumption | exact memWf_nil | apply State.put_canon | apply State.set_canon | apply State.each_canon
        | apply State.event_canon
    | refine pair_canon (by assumption) ?_
    | refine tripR_canon (by assumption) ?_
    | dsimp only
    | split

theorem execMissedTriggersPost_canon (h : Nat) (s : State) (hc : s.canon) : (next s (execMissedTriggersPost h s)).canon := by
  unfold execMissedTriggersPost
  repeat' first
    | intro _
    | with_reducible first
        | assumption | exact memWf_nil | apply State.drop_canon | apply State.when_canon | apply State.each_canon
        | apply State.take_canon | apply State.missedEvent_canon | apply next_canon | apply ite_c
    | dsimp only
    | split

theorem State.pwron_canon (s : State) (v : Nat) (hc : s.canon) : (State.pwron s v).canon := by
  unfold State.pwron
  repeat' first
    | intro _
    | with_reducible first
        | assumption | exact memWf_nil | apply State.put_canon
    | dsimp only

theorem execRtcSecond_canon (s : State) (hc : s.canon) : (next s (execRtcSecond s)).canon := by
  unfold execRtcSecond
  repeat' first
    | intro _
    | with_reducible first
        | assumption | exact memWf_nil | apply State.set_canon | apply State.when_canon | apply State.each_canon
        | apply State.calPut_canon | apply State.trigFire_canon | apply State.pwron_canon | apply next_canon | apply ite_c
    | dsimp only
    | split

theorem execOscStopDetect_canon (s : State) (hc : s.canon) : (next s (execOscStopDetect s)).canon := by
  unfold execOscStopDetect
  repeat' first
    | intro _
    | with_reducible first
        | assumption | exact memWf_nil | apply State.set_canon | apply next_canon
    | dsimp only

theorem execRtcTimeRead_canon (r : Req) (k : Nat) (s : State) (hc : s.canon) : (next s (execRtcTimeRead r k s)).canon := by
  unfold execRtcTimeRead
  repeat' first
    | intro _
    | with_reducible first
        | assumption | exact memWf_nil | apply State.put_canon | apply State.set_canon | apply State.clr_canon
        | apply State.when_canon | apply State.each_canon | apply State.onRead_canon | apply getD_canon | apply next_canon
        | apply ite_c
    | dsimp only
    | split

theorem execRtcThawTimeout_canon (r : Req) (s : State) (hc : s.canon) : (next s (execRtcThawTimeout r s)).canon := by
  unfold execRtcThawTimeout
  repeat' first
    | intro _
    | with_reducible first
        | assumption | exact memWf_nil | apply State.clr_canon | apply next_canon
    | dsimp only

theorem State.calSet_canon (s : State) (hc : s.canon) : (State.calSet s).canon := by
  unfold State.calSet
  repeat' first
    | intro _
    | with_reducible first
        | assumption | exact memWf_nil | apply State.set_canon | apply State.clr_canon | apply State.each_canon
        | apply State.calPut_canon | apply State.trigSkip_canon | apply ite_c
    | dsimp only
    | split

theorem State.calHalt_canon (s : State) (hc : s.canon) : (State.calHalt s).canon := by
  unfold State.calHalt
  repeat' first
    | intro _
    | with_reducible first
        | assumption | exact memWf_nil | apply State.put_canon | apply State.set_canon
    | dsimp only

theorem execRtcHaltWrite_canon (r : Req) (v : Nat) (s : State) (hc : s.canon) : (next s (execRtcHaltWrite r v s)).canon := by
  unfold execRtcHaltWrite
  repeat' first
    | intro _
    | with_reducible first
        | assumption | exact memWf_nil | apply State.put_canon | apply State.onBus_canon | apply State.calSet_canon
        | apply State.calHalt_canon | apply next_canon | apply ite_c
    | dsimp only
    | split

theorem execRtcTimeWrite_canon (r : Req) (k : Nat) (v : Nat) (s : State) (hc : s.canon) : (next s (execRtcTimeWrite r k v s)).canon := by
  unfold execRtcTimeWrite
  repeat' first
    | intro _
    | with_reducible first
        | assumption | exact memWf_nil | apply State.put_canon | apply State.set_canon | apply State.onPriv_canon
        | apply next_canon | apply State.mem_ok | apply ite_c
    | refine pair_canon (by assumption) ?_
    | refine tripR_canon (by assumption) ?_
    | dsimp only
    | split
    | simp only [State.canon_mk]

theorem execRtcAutoSet_canon (s : State) (hc : s.canon) : (next s (execRtcAutoSet s)).canon := by
  unfold execRtcAutoSet
  repeat' first
    | intro _
    | with_reducible first
        | assumption | exact memWf_nil | apply State.record_canon | apply State.calPut_canon | apply State.calSet_canon
        | apply State.calHalt_canon | apply next_canon | apply ite_c
    | refine pair_canon (by assumption) ?_
    | refine tripR_canon (by assumption) ?_
    | dsimp only
    | split

theorem execPwronLevelWrite_canon (r : Req) (v : Nat) (s : State) (hc : s.canon) : (next s (execPwronLevelWrite r v s)).canon := by
  unfold execPwronLevelWrite
  repeat' first
    | intro _
    | with_reducible first
        | assumption | exact memWf_nil | apply State.onBus_canon | apply State.pwron_canon | apply next_canon
    | dsimp only

theorem execBackupReset_canon (s : State) (hc : s.canon) : (next s (execBackupReset s)).canon := by
  unfold execBackupReset
  repeat' first
    | intro _
    | with_reducible first
        | assumption | exact memWf_nil | apply next_canon | apply State.mem_ok
    | dsimp only
    | split
    | simp only [State.canon_mk]

theorem execBackupSupplySwitch_canon (vbat : Bool) (s : State) (hc : s.canon) : (next s (execBackupSupplySwitch vbat s)).canon := by
  unfold execBackupSupplySwitch
  repeat' first
    | intro _
    | with_reducible first
        | assumption | exact memWf_nil | apply State.set_canon | apply State.clr_canon | apply State.pendMissed_canon
        | apply next_canon | apply ite_c
    | dsimp only
    | split

theorem execVbatLowDetect_canon (low : Bool) (s : State) (hc : s.canon) : (next s (execVbatLowDetect low s)).canon := by
  unfold execVbatLowDetect
  repeat' first
    | intro _
    | with_reducible first
        | assumption | exact memWf_nil | apply State.put_canon | apply State.set_canon | apply State.when_canon
        | apply next_canon | apply ite_c
    | dsimp only
    | split

theorem execRefclkLoss_canon (s : State) (hc : s.canon) : (next s (execRefclkLoss s)).canon := by
  unfold execRefclkLoss
  repeat' first
    | intro _
    | with_reducible first
        | assumption | exact memWf_nil | apply State.fault_canon | apply next_canon
    | dsimp only

theorem execPllUnlock_canon (s : State) (hc : s.canon) : (next s (execPllUnlock s)).canon := by
  unfold execPllUnlock
  repeat' first
    | intro _
    | with_reducible first
        | assumption | exact memWf_nil | apply State.fault_canon | apply next_canon
    | dsimp only

theorem execRefclkRestored_canon (s : State) (hc : s.canon) : (next s (execRefclkRestored s)).canon := by
  unfold execRefclkRestored
  repeat' first
    | intro _
    | with_reducible first
        | assumption | exact memWf_nil | apply State.clr_canon | apply next_canon
    | dsimp only

theorem execClockDupMismatch_canon (s : State) (hc : s.canon) : (next s (execClockDupMismatch s)).canon := by
  unfold execClockDupMismatch
  repeat' first
    | intro _
    | with_reducible first
        | assumption | exact memWf_nil | apply State.fault_canon | apply next_canon
    | dsimp only

theorem execStewardLockstepMismatch_canon (s : State) (hc : s.canon) : (next s (execStewardLockstepMismatch s)).canon := by
  unfold execStewardLockstepMismatch
  repeat' first
    | intro _
    | with_reducible first
        | assumption | exact memWf_nil | apply State.fault_canon | apply next_canon
    | dsimp only

theorem State.channelLost_canon (s : State) (c : Nat) (a : Nat) (count : Nat) (detail : Nat) (injected : Bool) (hc : s.canon) : (State.channelLost s c a count detail injected).canon := by
  unfold State.channelLost
  repeat' first
    | intro _
    | with_reducible first
        | assumption | exact memWf_nil | apply State.set_canon | apply State.clr_canon | apply State.fault_canon
    | refine pair_canon (by assumption) ?_
    | refine tripR_canon (by assumption) ?_
    | dsimp only

theorem State.noteErr_canon (s : State) (c : Nat) (hc : s.canon) : (State.noteErr s c).canon := by
  unfold State.noteErr
  repeat' first
    | intro _
    | with_reducible first
        | assumption | exact memWf_nil | apply State.put_canon
    | dsimp only
    | split

theorem State.dramBad_canon (s : State) (a : Nat) (blocks : Nat) (hc : s.canon) : (State.dramBad s a blocks).canon := by
  unfold State.dramBad
  repeat' first
    | intro _
    | with_reducible first
        | assumption | exact memWf_nil | apply State.bump_canon | apply State.each_canon | apply State.fault_canon
        | apply State.freeEntry_canon | apply State.channelLost_canon | apply State.noteErr_canon | apply State.mem_ok
        | apply And.intro | apply memFold_wf | apply memWriteL_wf | apply memWrite_wf | apply memZero_wf | apply memFilter_wf
        | apply State.sram_wf | apply State.localMem_wf | apply State.sharedMem_wf | apply State.instrMem_wf
        | apply State.dram_wf | apply State.mram_wf | apply State.host_wf | apply State.flash_wf | apply ite_c
    | refine pair_canon (by assumption) ?_
    | refine tripR_canon (by assumption) ?_
    | dsimp only
    | split
    | simp only [State.canon_mk]
    | simp only [Memories.ok_mk]

theorem State.sramBad_canon (s : State) (off : Nat) (hc : s.canon) : (State.sramBad s off).canon := by
  unfold State.sramBad
  repeat' first
    | intro _
    | with_reducible first
        | assumption | exact memWf_nil | apply State.fault_canon | apply State.mem_ok
    | refine pair_canon (by assumption) ?_
    | refine tripR_canon (by assumption) ?_
    | dsimp only
    | split
    | simp only [State.canon_mk]

theorem State.eccFixed_canon (s : State) (x : EccAt) (hc : s.canon) : (State.eccFixed s x).canon := by
  unfold State.eccFixed
  repeat' first
    | intro _
    | with_reducible first
        | assumption | exact memWf_nil | apply State.bump_canon | apply State.fault_canon | apply State.mem_ok
    | refine pair_canon (by assumption) ?_
    | refine tripR_canon (by assumption) ?_
    | dsimp only
    | split
    | simp only [State.canon_mk]

theorem execMemoryEccError_canon (at_ : EccAt) (corrected : Bool) (s : State) (hc : s.canon) : (next s (execMemoryEccError at_ corrected s)).canon := by
  unfold execMemoryEccError
  repeat' first
    | intro _
    | with_reducible first
        | assumption | exact memWf_nil | apply State.fault_canon | apply State.trap_canon | apply State.dramBad_canon
        | apply State.sramBad_canon | apply State.eccFixed_canon | apply next_canon | apply State.mem_ok | apply ite_c
    | refine pair_canon (by assumption) ?_
    | refine tripR_canon (by assumption) ?_
    | dsimp only
    | split
    | simp only [State.canon_mk]

theorem execSramScrub_canon (errs : List (Nat × Bool)) (s : State) (hc : s.canon) : (next s (execSramScrub errs s)).canon := by
  unfold execSramScrub
  repeat' first
    | intro _
    | with_reducible first
        | assumption | exact memWf_nil | apply State.each_canon | apply State.sramBad_canon | apply State.eccFixed_canon
        | apply next_canon | apply ite_c
    | dsimp only
    | split

theorem execDramScrub_canon (k : Nat) (errs : List (Nat × Bool)) (s : State) (hc : s.canon) : (next s (execDramScrub k errs s)).canon := by
  unfold execDramScrub
  repeat' first
    | intro _
    | with_reducible first
        | assumption | exact memWf_nil | apply State.each_canon | apply State.dramBad_canon | apply State.eccFixed_canon
        | apply next_canon | apply ite_c
    | dsimp only
    | split

theorem execDramProbe_canon (ok0 : Bool) (ok1 : Bool) (s : State) (hc : s.canon) : (next s (execDramProbe ok0 ok1 s)).canon := by
  unfold execDramProbe
  repeat' first
    | intro _
    | with_reducible first
        | assumption | exact memWf_nil | apply State.set_canon | apply State.clr_canon | apply State.each_canon
        | apply State.channelLost_canon | apply next_canon | apply ite_c
    | refine pair_canon (by assumption) ?_
    | refine tripR_canon (by assumption) ?_
    | dsimp only
    | split

theorem execEngineBist_canon (e : Nat) (ok : Bool) (s : State) (hc : s.canon) : (next s (execEngineBist e ok s)).canon := by
  unfold execEngineBist
  repeat' first
    | intro _
    | with_reducible first
        | assumption | exact memWf_nil | apply State.fault_canon | apply next_canon | apply ite_c
    | dsimp only
    | split

theorem State.portLeaves_canon (s : State) (p : Nat) (hc : s.canon) : (State.portLeaves s p).canon := by
  unfold State.portLeaves
  repeat' first
    | intro _
    | with_reducible first
        | assumption | exact memWf_nil | apply State.set_canon
    | dsimp only

theorem State.laneLeaves_canon (s : State) (l : Nat) (hc : s.canon) : (State.laneLeaves s l).canon := by
  unfold State.laneLeaves
  repeat' first
    | intro _
    | with_reducible first
        | assumption | exact memWf_nil | apply State.put_canon | apply State.laneDrop_canon | apply State.lanePending_canon
    | dsimp only

theorem execAdcSubconvCheck_canon (p : Nat) (ok : Bool) (s : State) (hc : s.canon) : (next s (execAdcSubconvCheck p ok s)).canon := by
  unfold execAdcSubconvCheck
  repeat' first
    | intro _
    | with_reducible first
        | assumption | exact memWf_nil | apply State.fault_canon | apply State.portLeaves_canon | apply next_canon | apply ite_c
    | dsimp only
    | split

theorem execRxSynthLockLost_canon (n : Nat) (s : State) (hc : s.canon) : (next s (execRxSynthLockLost n s)).canon := by
  unfold execRxSynthLockLost
  repeat' first
    | intro _
    | with_reducible first
        | assumption | exact memWf_nil | apply State.clr_canon | apply State.bump_canon | apply State.when_canon
        | apply State.fault_canon | apply State.portLeaves_canon | apply next_canon | apply ite_c
    | dsimp only
    | split

theorem execLaneCheckerSlot_canon (l : Nat) (ok : Bool) (s : State) (hc : s.canon) : (next s (execLaneCheckerSlot l ok s)).canon := by
  unfold execLaneCheckerSlot
  repeat' first
    | intro _
    | with_reducible first
        | assumption | exact memWf_nil | apply State.fault_canon | apply State.laneLeaves_canon | apply next_canon | apply ite_c
    | dsimp only
    | split

theorem execLdpcKnownTest_canon (k : Nat) (iters : Nat) (ok : Bool) (s : State) (hc : s.canon) : (next s (execLdpcKnownTest k iters ok s)).canon := by
  unfold execLdpcKnownTest
  repeat' first
    | intro _
    | with_reducible first
        | assumption | exact memWf_nil | apply State.fault_canon | apply State.decFault_canon | apply next_canon | apply ite_c
    | dsimp only
    | split

theorem State.aesLeaves_canon (s : State) (core : Nat) (hc : s.canon) : (State.aesLeaves s core).canon := by
  unfold State.aesLeaves
  repeat' first
    | intro _
    | with_reducible first
        | assumption | exact memWf_nil | apply State.put_canon
    | dsimp only

theorem execCryptoKat_canon (kind : CoreKind) (core : Nat) (ok : Bool) (last : Bool) (s : State) (hc : s.canon) : (next s (execCryptoKat kind core ok last s)).canon := by
  unfold execCryptoKat
  repeat' first
    | intro _
    | with_reducible first
        | assumption | exact memWf_nil | apply State.fault_canon | apply State.aesLeaves_canon | apply next_canon
        | apply State.mem_ok | apply ite_c
    | refine pair_canon (by assumption) ?_
    | refine tripR_canon (by assumption) ?_
    | dsimp only
    | split
    | simp only [State.canon_mk]

theorem State.injectUnit_canon (s : State) (c u : Nat) (hc : s.canon) : (s.injectUnit c u).canon := by
  unfold State.injectUnit
  refine ite_c _ (fun _ => ?_) (fun _ => ?_)
  · exact ite_c _ (fun _ => hc) (fun _ => State.freeEntry_canon _ _ _ _ hc)
  refine ite_c _ (fun _ => State.clr_canon _ _ (State.set_canon _ _ hc)) (fun _ => ?_)
  refine ite_c _ (fun _ => State.portLeaves_canon _ _ hc) (fun _ => ?_)
  refine ite_c _ (fun _ => State.portLeaves_canon _ _ hc) (fun _ => ?_)
  refine ite_c _ (fun _ => State.laneLeaves_canon _ _ hc) (fun _ => ?_)
  refine ite_c _ (fun _ => State.decFault_canon _ _ _ hc) (fun _ => ?_)
  refine ite_c _ (fun _ => State.aesLeaves_canon _ _ hc) (fun _ => ?_)
  refine ite_c _ (fun _ => State.set_canon _ _ (State.bump_canon _ _ _ (State.put_canon _ _ _ hc))) (fun _ => ?_)
  refine ite_c _ (fun _ => State.set_canon _ _ (State.set_canon _ _ hc)) (fun _ => ?_)
  refine ite_c _ (fun _ => State.set_canon _ _ (State.set_canon _ _ hc)) (fun _ => ?_)
  exact ite_c _ (fun _ => State.muteSet_canon _ _ _ hc) (fun _ => hc)
theorem execFaultInject_canon (r : Req) (s : State) (hc : s.canon) : (next s (execFaultInject r s)).canon := by
  unfold execFaultInject
  repeat' first
    | intro _
    | with_reducible first
        | assumption | exact memWf_nil | apply State.set_canon | apply State.fault_canon | apply State.sourceFault_canon
        | apply State.onBus_canon | apply State.injectUnit_canon | apply next_canon | apply State.mem_ok
    | refine pair_canon (by assumption) ?_
    | refine tripR_canon (by assumption) ?_
    | dsimp only
    | split
    | simp only [State.canon_mk]

theorem execTamperSample_canon (n : Nat) (high : Bool) (s : State) (hc : s.canon) : (next s (execTamperSample n high s)).canon := by
  unfold execTamperSample
  repeat' first
    | intro _
    | with_reducible first
        | assumption | exact memWf_nil | apply State.put_canon | apply State.set_canon | apply State.tamperRecord_canon
        | apply next_canon | apply ite_c
    | dsimp only
    | split

theorem State.dieSample_canon (s : State) (hc : s.canon) : (State.dieSample s).canon := by
  unfold State.dieSample
  repeat' first
    | intro _
    | with_reducible first
        | assumption | exact memWf_nil | apply State.put_canon | apply State.draw_canon | apply ite_c
    | refine pair_canon (by assumption) ?_
    | refine tripR_canon (by assumption) ?_
    | dsimp only
    | split

theorem State.freshen_canon (s : State) (off : Nat) (hc : s.canon) : (s.freshen off).canon := by
  unfold State.freshen
  extract_lets at_ drawn
  have hd (F : Fld) : (drawn F).canon := State.put_canon _ _ _ (State.draw_canon hc)
  have hn := execNscNowNsRead_canon .steward s hc
  clear_value drawn at_
  split
  · split
    · rename_i h; rw [h] at hn; exact hn
    · exact hc
  clear hn
  repeat' split
  all_goals try with_reducible first
    | exact hd _
    | assumption
    | exact State.put_canon _ _ _ hc
    | exact State.putI_canon _ _ _ hc
    | exact State.put_canon _ _ _ (State.put_canon _ _ _ hc)
    | exact State.calNext_canon _ _ hc
    | exact State.sense_canon _ _ hc
    | exact State.set_canon _ _ (State.dieSample_canon _ hc)
    | exact State.clr_canon _ _ (State.dieSample_canon _ hc)
    | exact State.put_canon _ _ _ (pair_canon (by assumption) (State.draw_canon hc))
  with_reducible apply State.seenShow_canon
  simp only [State.canon_mk]
  exact hc
theorem State.readWord_canon (s : State) (r : Req) (off : Nat) (hc : s.canon) : (State.readWord s r off).canon := by
  unfold State.readWord
  dsimp only
  repeat' first
    | intro _
    | with_reducible first
        | assumption | exact memWf_nil | apply State.put_canon | apply State.set_canon | apply State.clr_canon
        | apply State.unput_canon | apply State.bump_canon | apply State.bumpSat_canon | apply State.drop_canon
        | apply State.putI_canon | apply State.putIf_canon | apply State.draw_canon | apply State.when_canon
        | apply State.each_canon | apply State.sum_canon | apply State.freshen_canon | apply foldl_canon | apply foldlL_canon
        | apply foldlR_canon | apply getD_canon | apply next_canon | apply State.mem_ok | apply And.intro | apply memFold_wf
        | apply memWriteL_wf | apply memWrite_wf | apply memZero_wf | apply memFilter_wf | apply State.sram_wf
        | apply State.localMem_wf | apply State.sharedMem_wf | apply State.instrMem_wf | apply State.dram_wf
        | apply State.mram_wf | apply State.host_wf | apply State.flash_wf | apply ite_c
    | refine pair_canon (by assumption) ?_
    | refine pairL_canon (by assumption) ?_
    | refine tripR_canon (by assumption) ?_
    | refine tripM_canon (by assumption) ?_
    | refine quadR_canon (by assumption) ?_
    | dsimp only
    | split
    | simp only [State.canon_mk]
    | simp only [Memories.ok_mk]

theorem State.busRead_canon (s : State) (r : Req) (off : Nat) (len : Nat) (hc : s.canon) : (State.busRead s r off len).canon := by
  unfold State.busRead
  repeat' first
    | intro _
    | with_reducible first
        | assumption | exact memWf_nil | apply State.put_canon | apply State.busErr_canon | apply State.hit_canon
        | apply execCampStatusRead_canon | apply execRtcTimeRead_canon | apply State.readWord_canon | apply next_canon
        | apply State.mem_ok | apply And.intro | apply memFold_wf | apply memWriteL_wf | apply memWrite_wf | apply memZero_wf
        | apply memFilter_wf | apply State.sram_wf | apply State.localMem_wf | apply State.sharedMem_wf | apply State.instrMem_wf
        | apply State.dram_wf | apply State.mram_wf | apply State.host_wf | apply State.flash_wf | apply ite_c
    | refine pair_canon (by assumption) ?_
    | refine tripR_canon (by assumption) ?_
    | dsimp only
    | split
    | simp only [State.canon_mk]
    | simp only [Memories.ok_mk]

theorem State.takeFld_canon (s : State) (r : Req) (F : Fld) (n : Nat) (x : Nat) (hc : s.canon) : (State.takeFld s r F n x).canon := by
  unfold State.takeFld
  repeat' first
    | intro _
    | with_reducible first
        | assumption | exact memWf_nil | apply State.put_canon | apply State.set_canon | apply State.mem_ok | apply ite_c
    | refine pair_canon (by assumption) ?_
    | refine tripR_canon (by assumption) ?_
    | dsimp only
    | split
    | simp only [State.canon_mk]

theorem State.writeFld_canon (s : State) (r : Req) (locked : Bool) (F : Fld) (n : Nat) (x : Nat) (hc : s.canon) : (State.writeFld s r locked F n x).canon := by
  unfold State.writeFld
  repeat' first
    | intro _
    | with_reducible first
        | assumption | exact memWf_nil | apply State.put_canon | apply State.takeFld_canon | apply State.mem_ok | apply ite_c
    | refine pair_canon (by assumption) ?_
    | refine tripR_canon (by assumption) ?_
    | dsimp only
    | split
    | simp only [State.canon_mk]

theorem State.plainWrite_canon (s : State) (r : Req) (off : Nat) (v : Nat) (hc : s.canon) : (State.plainWrite s r off v).canon := by
  unfold State.plainWrite
  repeat' first
    | intro _
    | with_reducible first
        | assumption | exact memWf_nil | apply State.put_canon | apply State.each_canon | apply State.writeFld_canon
        | apply ite_c
    | refine pair_canon (by assumption) ?_
    | refine tripR_canon (by assumption) ?_
    | dsimp only
    | split

theorem State.ownWrite_canon (s : State) (i : Nat) (v : Nat) (hc : s.canon) : (State.ownWrite s i v).canon := by
  unfold State.ownWrite
  repeat' first
    | intro _
    | with_reducible first
        | assumption | exact memWf_nil | apply State.put_canon | apply State.bump_canon | apply State.each_canon | apply ite_c
    | dsimp only
    | split

theorem State.timeWord_canon (s : State) (r : Req) (off v : Nat) (hc : s.canon) : ∀ t, s.timeWord r off v = some t → t.canon := by
  show QC (s.timeWord r off v)
  unfold State.timeWord
  repeat' first
    | with_reducible exact QC.none
    | with_reducible refine QC.ite ?_ ?_
    | with_reducible refine QC.some ?_
    | with_reducible exact hc
    | split
    | (with_reducible show QC _; dsimp only)
  all_goals
    repeat' first
      | exact State.bump_canon _ _ _ (by assumption)
      | intro _
      | with_reducible first
          | assumption | exact memWf_nil | apply State.put_canon | apply State.when_canon | apply execNscIncWrite_canon
          | apply execNscSet_canon | apply execNscStep_canon | apply execNscSlewCntWrite_canon | apply State.srcReview_canon
          | apply State.ppsCfg_canon | apply State.ptpGone_canon | apply execCuPop_canon | apply execPtCmpLowWrite_canon
          | apply execPtCtlWrite_canon | apply State.plainWrite_canon | apply State.ownWrite_canon | apply next_canon | apply ite_c
      | dsimp only
      | split

theorem State.rxWord_canon (s : State) (r : Req) (off v : Nat) (hc : s.canon) : ∀ t, s.rxWord r off v = some t → t.canon := by
  show QC (s.rxWord r off v)
  unfold State.rxWord
  repeat' first
    | with_reducible exact QC.none
    | with_reducible refine QC.ite ?_ ?_
    | with_reducible refine QC.some ?_
    | with_reducible exact hc
    | split
    | (with_reducible show QC _; dsimp only)
  all_goals with_reducible first
    | exact State.plainWrite_canon _ _ _ _ hc
    | exact State.passStart_canon _ (State.plainWrite_canon _ _ _ _ hc)
    | exact State.refreeze_canon _ (State.plainWrite_canon _ _ _ _ hc)
    | exact State.plainWrite_canon _ _ _ _ (State.settleLane_canon _ _ hc)
    | exact State.plainWrite_canon _ _ _ _ (State.settleHedge_canon _ _ hc)
    | exact execThkQuotaWrite_canon _ _ _ _ hc
    | exact execAprxCtlWrite_canon _ _ _ _ hc
    | exact execAgcThrWrite_canon _ _ _ _ hc
    | exact execLoMhzWrite_canon _ _ _ _ hc
    | exact execSliceCtlWrite_canon _ _ _ _ hc
    | exact execSliceFcWrite_canon _ _ _ _ hc
    | exact execSliceThrWrite_canon _ _ _ _ hc
    | exact execDdcWrite_canon _ _ _ _ _ hc
    | exact execLaneCfgWrite_canon _ _ _ _ hc
    | exact execLaneModesWrite_canon _ _ _ _ hc
    | exact execLdpcCfgWrite_canon _ _ _ _ hc
    | exact execLdpcDecEnWrite_canon _ _ _ hc
theorem State.txWord_canon (s : State) (r : Req) (off v : Nat) (hc : s.canon) : ∀ t, s.txWord r off v = some t → t.canon := by
  show QC (s.txWord r off v)
  unfold State.txWord
  repeat' first
    | with_reducible exact QC.none
    | with_reducible refine QC.ite ?_ ?_
    | with_reducible refine QC.some ?_
    | with_reducible exact hc
    | split
    | (with_reducible show QC _; dsimp only)
  all_goals
    repeat' first
      | exact State.bump_canon _ _ _ (by assumption)
      | intro _
      | with_reducible first
          | assumption | exact memWf_nil | apply State.set_canon | apply State.draw_canon | apply State.when_canon
          | apply State.portLines_canon | apply State.coexDrive_canon | apply State.hit_canon | apply execTxcCtlWrite_canon
          | apply execGoReady_canon | apply execGoStandby_canon | apply execCalFlush_canon | apply execTxcMuteWrite_canon
          | apply execCoexCheck_canon | apply execCoexLeadWrite_canon | apply execChplanWrite_canon | apply execPanmapWrite_canon
          | apply execAirEui64Write_canon | apply execRegprofLockSet_canon | apply State.plainWrite_canon | apply next_canon
          | apply State.mem_ok | apply ite_c
      | refine pair_canon (by assumption) ?_
      | refine tripR_canon (by assumption) ?_
      | dsimp only
      | split
      | simp only [State.canon_mk]

theorem State.trafficWord_canon (s : State) (r : Req) (off : Nat) (v : Nat) (hc : s.canon) : ∀ t, (State.trafficWord s r off v) = some t → t.canon := by
  intro t ht
  unfold State.trafficWord at ht
  dsimp only at ht
  repeat' split at ht
  all_goals first
    | cases ht
    | (injection ht with ht; subst ht)
    | (obtain ⟨u, hu, rfl⟩ := Option.map_eq_some_iff.1 ht)
  repeat' first
    | intro _
    | with_reducible first
        | assumption | exact memWf_nil | apply State.put_canon | apply State.set_canon | apply State.clr_canon
        | apply State.putIf_canon | apply State.when_canon | apply State.refreshAll_canon | apply State.sum_canon
        | apply execGenBaseWrite_canon | apply execMeterCommit_canon | apply execShaperCommit_canon
        | apply execQprobeSelWrite_canon | apply execQprobeGroupWrite_canon | apply execTmhCtlWrite_canon
        | apply execCellQuotaWrite_canon | apply execFifoCfgWrite_canon | apply next_canon | apply ite_c
    | dsimp only
    | split

theorem State.ringWord_canon (s : State) (r : Req) (i : Nat) (k : Nat) (o : Nat) (off : Nat) (v : Nat) (hc : s.canon) : (State.ringWord s r i k o off v).canon := by
  unfold State.ringWord
  repeat' first
    | intro _
    | with_reducible first
        | assumption | exact memWf_nil | apply State.put_canon | apply State.set_canon | apply State.irq_canon
        | apply execCmdDoorbell_canon | apply execRxDoorbell_canon | apply execCplDoorbell_canon | apply execEvDoorbell_canon
        | apply State.plainWrite_canon | apply next_canon | apply State.mem_ok | apply ite_c
    | refine pair_canon (by assumption) ?_
    | refine tripR_canon (by assumption) ?_
    | dsimp only
    | split
    | simp only [State.canon_mk]

theorem State.hostWord_canon (s : State) (r : Req) (off : Nat) (v : Nat) (hc : s.canon) : ∀ t, (State.hostWord s r off v) = some t → t.canon := by
  intro t ht
  unfold State.hostWord at ht
  dsimp only at ht
  repeat' split at ht
  all_goals first
    | cases ht
    | (injection ht with ht; subst ht)
    | (obtain ⟨u, hu, rfl⟩ := Option.map_eq_some_iff.1 ht)
  repeat' first
    | intro _
    | with_reducible first
        | assumption | exact memWf_nil | apply State.put_canon | apply State.draw_canon | apply State.when_canon
        | apply execTrustLockSet_canon | apply execSlotQuotaWrite_canon | apply execEnghGrantWrite_canon
        | apply execHbindWrite_canon | apply execRingCtlWrite_canon | apply execCntClrDiscard_canon
        | apply execTwinCfgEnWrite_canon | apply execTwinCmdTakeover_canon | apply execTwinCmdSwitch_canon
        | apply execTwinCmdLoop_canon | apply State.plainWrite_canon | apply State.ringWord_canon | apply next_canon
        | apply ite_c
    | refine pair_canon (by assumption) ?_
    | refine tripR_canon (by assumption) ?_
    | dsimp only
    | split

theorem State.systemWord_canon (s : State) (r : Req) (off v : Nat) (hc : s.canon) : ∀ t, s.systemWord r off v = some t → t.canon := by
  show QC (s.systemWord r off v)
  unfold State.systemWord
  repeat' first
    | with_reducible exact QC.none
    | with_reducible refine QC.ite ?_ ?_
    | with_reducible refine QC.some ?_
    | with_reducible exact hc
    | split
    | (with_reducible show QC _; dsimp only)
  all_goals
    repeat' first
      | exact State.bump_canon _ _ _ (by assumption)
      | intro _
      | with_reducible first
          | assumption | exact memWf_nil | apply State.put_canon | apply State.when_canon | apply execCalSaveTuner_canon
          | apply execRstCmdSystem_canon | apply execRstCmdCore_canon | apply State.bootDraw_canon | apply execRecovGo_canon
          | apply execBootConfirm_canon | apply execRtcHaltWrite_canon | apply execRtcTimeWrite_canon
          | apply execPwronLevelWrite_canon | apply execFaultInject_canon | apply State.plainWrite_canon | apply next_canon
          | apply ite_c
      | refine pair_canon (by assumption) ?_
      | refine tripR_canon (by assumption) ?_
      | dsimp only
      | split

theorem State.writeWord_canon (s : State) (r : Req) (off v : Nat) (hc : s.canon) : (s.writeWord r off v).canon := by
  unfold State.writeWord
  extract_lets w own
  have q : QC own := by
    refine QC.ite (State.timeWord_canon _ _ _ _ hc) (QC.ite (State.rxWord_canon _ _ _ _ hc) (QC.ite (State.txWord_canon _ _ _ _ hc)
      (QC.ite (State.trafficWord_canon _ _ _ _ hc) (QC.ite (QC.ite QC.none (QC.some hc)) (QC.ite (State.hostWord_canon _ _ _ _ hc)
        (State.systemWord_canon _ _ _ _ hc))))))
  clear_value own
  cases own with
  | none => exact State.plainWrite_canon _ _ _ _ hc
  | some t => exact q t rfl
theorem State.busWrite_canon (s : State) (r : Req) (off len v : Nat) (hc : s.canon) : (s.busWrite r off len v).canon := by
  unfold State.busWrite
  split
  · exact State.writeWord_canon _ _ _ _ (State.put_canon _ _ _ hc)
  · exact State.put_canon _ _ _ hc
  · exact State.put_canon _ _ _ hc
  · exact State.put_canon _ _ _ (State.sram_canon _ hc (memWriteL_wf _ _ (State.sram_wf hc)))
  · exact State.busErr_canon _ _ _ hc
theorem execRegWrite_canon (r : Req) (off : Nat) (len : Nat) (v : Nat) (s : State) (hc : s.canon) : (next s (execRegWrite r off len v s)).canon := by
  unfold execRegWrite
  repeat' first
    | intro _
    | with_reducible first
        | assumption | exact memWf_nil | apply State.busWrite_canon | apply next_canon
    | dsimp only

theorem execReg64LowRead_canon (r : Req) (off : Nat) (s : State) (hc : s.canon) : (next s (execReg64LowRead r off s)).canon := by
  unfold execReg64LowRead
  repeat' first
    | intro _
    | with_reducible first
        | assumption | exact memWf_nil | apply State.busRead_canon | apply next_canon
    | dsimp only

theorem execRcFieldRead_canon (r : Req) (off : Nat) (s : State) (hc : s.canon) : (next s (execRcFieldRead r off s)).canon := by
  unfold execRcFieldRead
  repeat' first
    | intro _
    | with_reducible first
        | assumption | exact memWf_nil | apply State.busRead_canon | apply next_canon
    | dsimp only

theorem execRegisterRead_canon (r : Req) (off : Nat) (len : Nat) (s : State) (hc : s.canon) : (next s (execRegisterRead r off len s)).canon := by
  unfold execRegisterRead
  repeat' first
    | intro _
    | with_reducible first
        | assumption | exact memWf_nil | apply State.busRead_canon | apply next_canon
    | dsimp only

theorem execExpertGWrite_canon (r : Req) (v : Nat) (s : State) (hc : s.canon) : (next s (execExpertGWrite r v s)).canon := by
  unfold execExpertGWrite
  repeat' first
    | intro _
    | with_reducible first
        | assumption | exact memWf_nil | apply State.busWrite_canon | apply next_canon
    | dsimp only

theorem execExpertHWrite_canon (r : Req) (h : Nat) (v : Nat) (s : State) (hc : s.canon) : (next s (execExpertHWrite r h v s)).canon := by
  unfold execExpertHWrite
  repeat' first
    | intro _
    | with_reducible first
        | assumption | exact memWf_nil | apply State.busWrite_canon | apply next_canon | apply ite_c
    | dsimp only
    | split

theorem State.reloadWord_canon (s : State) (rec_ : List ((Nat × Nat) × Nat)) (fs : List (Fld × (Nat → Bool))) (off : Nat) (hc : s.canon) : (State.reloadWord s rec_ fs off).canon := by
  unfold State.reloadWord
  repeat' first
    | intro _
    | with_reducible first
        | assumption | exact memWf_nil | apply State.sum_canon | apply State.writeWord_canon | apply getD_canon | apply ite_c
    | refine pair_canon (by assumption) ?_
    | refine tripR_canon (by assumption) ?_
    | dsimp only
    | split

theorem execExpertTakeEffect_canon (i : Nat) (s : State) (hc : s.canon) : (next s (execExpertTakeEffect i s)).canon := by
  unfold execExpertTakeEffect
  repeat' first
    | intro _
    | with_reducible first
        | assumption | exact memWf_nil | apply State.put_canon | apply State.drop_canon | apply State.each_canon
        | apply State.sum_canon | apply next_canon | apply State.mem_ok | apply ite_c
    | refine pair_canon (by assumption) ?_
    | refine tripR_canon (by assumption) ?_
    | dsimp only
    | split
    | simp only [State.canon_mk]

theorem State.reload_canon (s : State) (b : Nat) (hc : s.canon) : (State.reload s b).canon := by
  unfold State.reload
  repeat' first
    | intro _
    | with_reducible first
        | assumption | exact memWf_nil | apply State.each_canon | apply State.reloadWord_canon | apply State.mem_ok
    | refine pair_canon (by assumption) ?_
    | refine tripR_canon (by assumption) ?_
    | dsimp only
    | split
    | simp only [State.canon_mk]

theorem execExpertReload_canon (i : Nat) (s : State) (hc : s.canon) : (next s (execExpertReload i s)).canon := by
  unfold execExpertReload
  repeat' first
    | intro _
    | with_reducible first
        | assumption | exact memWf_nil | apply State.put_canon | apply State.drop_canon | apply State.each_canon
        | apply State.sum_canon | apply State.reload_canon | apply next_canon | apply ite_c
    | refine pair_canon (by assumption) ?_
    | refine tripR_canon (by assumption) ?_
    | dsimp only
    | split

theorem State.load_canon (s : State) (g : Nat) (ea : Nat) (n : Nat) (f : State → Nat → State) (hf : ∀ u a, u.canon → (f u a).canon) (hc : s.canon) : (State.load s g ea n f).canon := by
  unfold State.load
  repeat' first
    | intro _
    | with_reducible first
        | assumption | exact memWf_nil | apply State.trap_canon | apply State.busRead_canon | apply State.mem_ok | apply hf
        | apply ite_c
    | refine pair_canon (by assumption) ?_
    | refine tripR_canon (by assumption) ?_
    | dsimp only
    | split
    | simp only [State.canon_mk]

theorem State.store_canon (s : State) (g : Nat) (ea : Nat) (n : Nat) (v : Nat) (hc : s.canon) : (State.store s g ea n v).canon := by
  unfold State.store
  repeat' first
    | intro _
    | with_reducible first
        | assumption | exact memWf_nil | apply State.pcNext_canon | apply State.trap_canon | apply State.placeWrite_canon
        | apply State.busWrite_canon | apply State.mem_ok | apply ite_c
    | refine pair_canon (by assumption) ?_
    | refine tripR_canon (by assumption) ?_
    | dsimp only
    | split
    | simp only [State.canon_mk]

theorem execLdb_canon (g : Nat) (rd : BitVec 5) (ra : BitVec 5) (imm : BitVec 16) (s : State) (hc : s.canon) : (next s (execLdb g rd ra imm s)).canon := by
  unfold execLdb
  repeat' first
    | intro _
    | with_reducible first
        | assumption | exact memWf_nil | apply State.issue_canon | apply State.move_canon | apply State.load_canon
        | apply next_canon
    | dsimp only

theorem execLdbu_canon (g : Nat) (rd : BitVec 5) (ra : BitVec 5) (imm : BitVec 16) (s : State) (hc : s.canon) : (next s (execLdbu g rd ra imm s)).canon := by
  unfold execLdbu
  repeat' first
    | intro _
    | with_reducible first
        | assumption | exact memWf_nil | apply State.issue_canon | apply State.move_canon | apply State.load_canon
        | apply next_canon
    | dsimp only

theorem execLdh_canon (g : Nat) (rd : BitVec 5) (ra : BitVec 5) (imm : BitVec 16) (s : State) (hc : s.canon) : (next s (execLdh g rd ra imm s)).canon := by
  unfold execLdh
  repeat' first
    | intro _
    | with_reducible first
        | assumption | exact memWf_nil | apply State.issue_canon | apply State.move_canon | apply State.load_canon
        | apply next_canon
    | dsimp only

theorem execLdhu_canon (g : Nat) (rd : BitVec 5) (ra : BitVec 5) (imm : BitVec 16) (s : State) (hc : s.canon) : (next s (execLdhu g rd ra imm s)).canon := by
  unfold execLdhu
  repeat' first
    | intro _
    | with_reducible first
        | assumption | exact memWf_nil | apply State.issue_canon | apply State.move_canon | apply State.load_canon
        | apply next_canon
    | dsimp only

theorem execLdw_canon (g : Nat) (rd : BitVec 5) (ra : BitVec 5) (imm : BitVec 14) (s : State) (hc : s.canon) : (next s (execLdw g rd ra imm s)).canon := by
  unfold execLdw
  repeat' first
    | intro _
    | with_reducible first
        | assumption | exact memWf_nil | apply State.issue_canon | apply State.move_canon | apply State.load_canon
        | apply next_canon
    | dsimp only

theorem execLdp_canon (g : Nat) (rd : BitVec 5) (ra : BitVec 5) (imm : BitVec 14) (s : State) (hc : s.canon) : (next s (execLdp g rd ra imm s)).canon := by
  unfold execLdp
  repeat' first
    | intro _
    | with_reducible first
        | assumption | exact memWf_nil | apply State.pcNext_canon | apply State.setPair_canon | apply State.issue_canon
        | apply State.load_canon | apply next_canon
    | dsimp only

theorem execStb_canon (g : Nat) (rd : BitVec 5) (ra : BitVec 5) (imm : BitVec 16) (s : State) (hc : s.canon) : (next s (execStb g rd ra imm s)).canon := by
  unfold execStb
  repeat' first
    | intro _
    | with_reducible first
        | assumption | exact memWf_nil | apply State.issue_canon | apply State.store_canon | apply next_canon
    | dsimp only

theorem execSth_canon (g : Nat) (rd : BitVec 5) (ra : BitVec 5) (imm : BitVec 16) (s : State) (hc : s.canon) : (next s (execSth g rd ra imm s)).canon := by
  unfold execSth
  repeat' first
    | intro _
    | with_reducible first
        | assumption | exact memWf_nil | apply State.issue_canon | apply State.store_canon | apply next_canon
    | dsimp only

theorem execStw_canon (g : Nat) (rd : BitVec 5) (ra : BitVec 5) (imm : BitVec 14) (s : State) (hc : s.canon) : (next s (execStw g rd ra imm s)).canon := by
  unfold execStw
  repeat' first
    | intro _
    | with_reducible first
        | assumption | exact memWf_nil | apply State.issue_canon | apply State.store_canon | apply next_canon
    | dsimp only

theorem execStp_canon (g : Nat) (rd : BitVec 5) (ra : BitVec 5) (imm : BitVec 14) (s : State) (hc : s.canon) : (next s (execStp g rd ra imm s)).canon := by
  unfold execStp
  repeat' first
    | intro _
    | with_reducible first
        | assumption | exact memWf_nil | apply State.issue_canon | apply State.store_canon | apply next_canon
    | dsimp only

theorem State.atomic_canon (s : State) (g : Nat) (rd : BitVec 5) (ra : BitVec 5) (rb : BitVec 5) (sz : BitVec 2) (op : Nat) (f : State → Nat → Option Nat × Option Bool) (hc : s.canon) : (State.atomic s g rd ra rb sz op f).canon := by
  unfold State.atomic
  repeat' first
    | intro _
    | with_reducible first
        | assumption | exact memWf_nil | apply State.pcNext_canon | apply State.setW_canon | apply State.setPair_canon
        | apply State.setZ_canon | apply State.trap_canon | apply State.issue_canon | apply State.placeWrite_canon
        | apply State.mem_ok | apply hf | apply ite_c
    | refine pair_canon (by assumption) ?_
    | refine tripR_canon (by assumption) ?_
    | dsimp only
    | split
    | simp only [State.canon_mk]

theorem execAadd_canon (g : Nat) (rd : BitVec 5) (ra : BitVec 5) (rb : BitVec 5) (sz : BitVec 2) (s : State) (hc : s.canon) : (next s (execAadd g rd ra rb sz s)).canon := by
  unfold execAadd
  repeat' first
    | intro _
    | with_reducible first
        | assumption | exact memWf_nil | apply State.atomic_canon | apply next_canon
    | dsimp only

theorem execAswp_canon (g : Nat) (rd : BitVec 5) (ra : BitVec 5) (rb : BitVec 5) (sz : BitVec 2) (s : State) (hc : s.canon) : (next s (execAswp g rd ra rb sz s)).canon := by
  unfold execAswp
  repeat' first
    | intro _
    | with_reducible first
        | assumption | exact memWf_nil | apply State.atomic_canon | apply next_canon
    | dsimp only

theorem execAcas_canon (g : Nat) (rd : BitVec 5) (ra : BitVec 5) (rb : BitVec 5) (sz : BitVec 2) (s : State) (hc : s.canon) : (next s (execAcas g rd ra rb sz s)).canon := by
  unfold execAcas
  repeat' first
    | intro _
    | with_reducible first
        | assumption | exact memWf_nil | apply State.atomic_canon | apply next_canon | apply ite_c
    | refine pair_canon (by assumption) ?_
    | refine tripR_canon (by assumption) ?_
    | dsimp only
    | split

end Sys2Proof.Machine
end

