-- ==== Sys2Proof/Laws/Completes.lean ====
section
/-!
SUPPORT. Every meaning answers a next state: no command stops the block.
-/

namespace Sys2Proof.Machine

open Sys2Proof
set_option linter.all false

/-- A register access answers a next state when the effect behind it does (R13, R576). -/
theorem State.onBus_next (s : State) (r : Req) (off : Nat) (f : State → Host.Outcome State Fault Refusal) (hf : ∃ nx, f s = .next nx) :
    ∃ nx, s.onBus r off f = .next nx := by
  unfold State.onBus
  split
  · exact hf
  · exact ⟨_, rfl⟩
  · exact ⟨_, rfl⟩

theorem State.onPriv_next (s : State) (r : Req) (off : Nat) (f : State → Host.Outcome State Fault Refusal) (hf : ∃ nx, f s = .next nx) :
    ∃ nx, s.onPriv r off f = .next nx := by
  unfold State.onPriv
  refine State.onBus_next _ _ _ _ ?_
  try dsimp only
  split
  · exact hf
  · exact ⟨_, rfl⟩

theorem State.onRead_next (s : State) (r : Req) (off : Nat) (f : State → Host.Outcome State Fault Refusal) (hf : ∃ nx, f s = .next nx) :
    ∃ nx, s.onRead r off f = .next nx := by
  unfold State.onRead
  split
  · exact hf
  · exact ⟨_, rfl⟩
  · exact ⟨_, rfl⟩

theorem execAgcWindowEnd_next (p : Nat) (peak : Int) (clipped : Bool) (s : State) : ∃ nx, execAgcWindowEnd p peak clipped s = .next nx := by
  unfold execAgcWindowEnd
  repeat' first | exact ⟨_, by with_reducible rfl⟩ | dsimp only | split
theorem execAgcUpHoldExpire_next (p : Nat) (s : State) : ∃ nx, execAgcUpHoldExpire p s = .next nx := by
  unfold execAgcUpHoldExpire
  repeat' first | exact ⟨_, by with_reducible rfl⟩ | dsimp only | split
theorem execAgcThrWrite_next (r : Req) (p : Nat) (v : Nat) (s : State) : ∃ nx, execAgcThrWrite r p v s = .next nx := by
  unfold execAgcThrWrite
  repeat' first
    | exact ⟨_, by with_reducible rfl⟩
    | with_reducible apply State.onBus_next
    | with_reducible apply State.onPriv_next
    | with_reducible apply State.onRead_next
    | dsimp only
    | split
theorem execAprxCtlWrite_next (r : Req) (p : Nat) (v : Nat) (s : State) : ∃ nx, execAprxCtlWrite r p v s = .next nx := by
  unfold execAprxCtlWrite
  repeat' first
    | exact ⟨_, by with_reducible rfl⟩
    | with_reducible apply State.onBus_next
    | with_reducible apply State.onPriv_next
    | with_reducible apply State.onRead_next
    | dsimp only
    | split
theorem execLoMhzWrite_next (r : Req) (p : Nat) (v : Nat) (s : State) : ∃ nx, execLoMhzWrite r p v s = .next nx := by
  unfold execLoMhzWrite
  repeat' first
    | exact ⟨_, by with_reducible rfl⟩
    | with_reducible apply State.onBus_next
    | with_reducible apply State.onPriv_next
    | with_reducible apply State.onRead_next
    | dsimp only
    | split
theorem execDdcWrite_next (r : Req) (d : Nat) (off : Nat) (v : Nat) (s : State) : ∃ nx, execDdcWrite r d off v s = .next nx := by
  unfold execDdcWrite
  repeat' first
    | exact ⟨_, by with_reducible rfl⟩
    | with_reducible apply State.onBus_next
    | with_reducible apply State.onPriv_next
    | with_reducible apply State.onRead_next
    | dsimp only
    | split
theorem execLaneCfgWrite_next (r : Req) (l : Nat) (v : Nat) (s : State) : ∃ nx, execLaneCfgWrite r l v s = .next nx := by
  unfold execLaneCfgWrite
  repeat' first
    | exact ⟨_, by with_reducible rfl⟩
    | with_reducible apply State.onBus_next
    | with_reducible apply State.onPriv_next
    | with_reducible apply State.onRead_next
    | dsimp only
    | split
theorem execLaneModesWrite_next (r : Req) (l : Nat) (v : Nat) (s : State) : ∃ nx, execLaneModesWrite r l v s = .next nx := by
  unfold execLaneModesWrite
  repeat' first
    | exact ⟨_, by with_reducible rfl⟩
    | with_reducible apply State.onBus_next
    | with_reducible apply State.onPriv_next
    | with_reducible apply State.onRead_next
    | dsimp only
    | split
theorem execSliceFcWrite_next (r : Req) (n : Nat) (v : Nat) (s : State) : ∃ nx, execSliceFcWrite r n v s = .next nx := by
  unfold execSliceFcWrite
  repeat' first
    | exact ⟨_, by with_reducible rfl⟩
    | with_reducible apply State.onBus_next
    | with_reducible apply State.onPriv_next
    | with_reducible apply State.onRead_next
    | dsimp only
    | split
theorem execSliceCtlWrite_next (r : Req) (n : Nat) (v : Nat) (s : State) : ∃ nx, execSliceCtlWrite r n v s = .next nx := by
  unfold execSliceCtlWrite
  repeat' first
    | exact ⟨_, by with_reducible rfl⟩
    | with_reducible apply State.onBus_next
    | with_reducible apply State.onPriv_next
    | with_reducible apply State.onRead_next
    | dsimp only
    | split
theorem execMapPeriodEnd_next (n : Nat) (levels : List Int) (clipped : Bool) (s : State) : ∃ nx, execMapPeriodEnd n levels clipped s = .next nx := by
  unfold execMapPeriodEnd
  repeat' first | exact ⟨_, by with_reducible rfl⟩ | dsimp only | split
theorem execMapStampRefresh_next (n : Nat) (s : State) : ∃ nx, execMapStampRefresh n s = .next nx := by
  unfold execMapStampRefresh
  repeat' first | exact ⟨_, by with_reducible rfl⟩ | dsimp only | split
theorem execSliceThrWrite_next (r : Req) (n : Nat) (v : Nat) (s : State) : ∃ nx, execSliceThrWrite r n v s = .next nx := by
  unfold execSliceThrWrite
  repeat' first
    | exact ⟨_, by with_reducible rfl⟩
    | with_reducible apply State.onBus_next
    | with_reducible apply State.onPriv_next
    | with_reducible apply State.onRead_next
    | dsimp only
    | split
theorem execSelfBlankStart_next (c : Nat) (s : State) : ∃ nx, execSelfBlankStart c s = .next nx := by
  unfold execSelfBlankStart
  repeat' first | exact ⟨_, by with_reducible rfl⟩ | dsimp only | split
theorem execSelfBlankEnd_next (c : Nat) (s : State) : ∃ nx, execSelfBlankEnd c s = .next nx := by
  unfold execSelfBlankEnd
  repeat' first | exact ⟨_, by with_reducible rfl⟩ | dsimp only | split
theorem execJoinTimeout_next (e : Nat) (s : State) : ∃ nx, execJoinTimeout e s = .next nx := by
  unfold execJoinTimeout
  repeat' first | exact ⟨_, by with_reducible rfl⟩ | dsimp only | split
theorem execAgingVisit_next (e : Nat) (s : State) : ∃ nx, execAgingVisit e s = .next nx := by
  unfold execAgingVisit
  repeat' first | exact ⟨_, by with_reducible rfl⟩ | dsimp only | split
theorem execAgingPassEnd_next (s : State) : ∃ nx, execAgingPassEnd s = .next nx := by
  unfold execAgingPassEnd
  repeat' first | exact ⟨_, by with_reducible rfl⟩ | dsimp only | split
theorem execRevalDone_next (s : State) : ∃ nx, execRevalDone s = .next nx := by
  unfold execRevalDone
  repeat' first | exact ⟨_, by with_reducible rfl⟩ | dsimp only | split
theorem execNodeInsert_next (c : Cmd) (b : NodeBlock) (s : State) : ∃ nx, execNodeInsert c b s = .next nx := by
  unfold execNodeInsert
  repeat' first | exact ⟨_, by with_reducible rfl⟩ | dsimp only | split
theorem execNodeDelete_next (c : Cmd) (e : Nat) (s : State) : ∃ nx, execNodeDelete c e s = .next nx := by
  unfold execNodeDelete
  repeat' first | exact ⟨_, by with_reducible rfl⟩ | dsimp only | split
theorem execNodeRead_next (c : Cmd) (e : Nat) (priv : Bool) (addr : Nat) (s : State) : ∃ nx, execNodeRead c e priv addr s = .next nx := by
  unfold execNodeRead
  repeat' first | exact ⟨_, by with_reducible rfl⟩ | dsimp only | split
theorem execNodeUpdate_next (c : Cmd) (e : Nat) (mask : Nat) (short : Nat) (flags : Nat) (drift : Nat) (ap : Nat) (power : Nat) (meter : Nat) (addr : Nat) (s : State) :
    ∃ nx, execNodeUpdate c e mask short flags drift ap power meter addr s = .next nx := by
  unfold execNodeUpdate
  repeat' first | exact ⟨_, by with_reducible rfl⟩ | dsimp only | split
theorem execNodePin_next (c : Cmd) (e : Nat) (s : State) : ∃ nx, execNodePin c e s = .next nx := by
  unfold execNodePin
  repeat' first | exact ⟨_, by with_reducible rfl⟩ | dsimp only | split
theorem execNodeUnpin_next (c : Cmd) (e : Nat) (s : State) : ∃ nx, execNodeUnpin c e s = .next nx := by
  unfold execNodeUnpin
  repeat' first | exact ⟨_, by with_reducible rfl⟩ | dsimp only | split
theorem execNodeTouch_next (c : Cmd) (e : Nat) (s : State) : ∃ nx, execNodeTouch c e s = .next nx := by
  unfold execNodeTouch
  repeat' first | exact ⟨_, by with_reducible rfl⟩ | dsimp only | split
theorem execNodeList_next (c : Cmd) (st : Nat) (start : Nat) (addr : Nat) (s : State) : ∃ nx, execNodeList c st start addr s = .next nx := by
  unfold execNodeList
  repeat' first | exact ⟨_, by with_reducible rfl⟩ | dsimp only | split
theorem execThkQuotaWrite_next (r : Req) (h : Nat) (v : Nat) (s : State) : ∃ nx, execThkQuotaWrite r h v s = .next nx := by
  unfold execThkQuotaWrite
  repeat' first
    | exact ⟨_, by with_reducible rfl⟩
    | with_reducible apply State.onBus_next
    | with_reducible apply State.onPriv_next
    | with_reducible apply State.onRead_next
    | dsimp only
    | split
theorem execSlewCountExpire_next (s : State) : ∃ nx, execSlewCountExpire s = .next nx := ⟨_, rfl⟩
theorem execNscIncWrite_next (r : Req) (v : Nat) (s : State) : ∃ nx, execNscIncWrite r v s = .next nx := by
  unfold execNscIncWrite
  repeat' first
    | exact ⟨_, by with_reducible rfl⟩
    | with_reducible apply State.onBus_next
    | with_reducible apply State.onPriv_next
    | with_reducible apply State.onRead_next
    | dsimp only
    | split
theorem execNscNowNsRead_next (r : Req) (s : State) : ∃ nx, execNscNowNsRead r s = .next nx := by
  unfold execNscNowNsRead
  repeat' first
    | exact ⟨_, by with_reducible rfl⟩
    | with_reducible apply State.onBus_next
    | with_reducible apply State.onPriv_next
    | with_reducible apply State.onRead_next
    | dsimp only
    | split
theorem execNscSet_next (r : Req) (s : State) : ∃ nx, execNscSet r s = .next nx := by
  unfold execNscSet
  repeat' first
    | exact ⟨_, by with_reducible rfl⟩
    | with_reducible apply State.onBus_next
    | with_reducible apply State.onPriv_next
    | with_reducible apply State.onRead_next
    | dsimp only
    | split
theorem execNscStep_next (r : Req) (s : State) : ∃ nx, execNscStep r s = .next nx := by
  unfold execNscStep
  repeat' first
    | exact ⟨_, by with_reducible rfl⟩
    | with_reducible apply State.onBus_next
    | with_reducible apply State.onPriv_next
    | with_reducible apply State.onRead_next
    | dsimp only
    | split
theorem execNscSlewCntWrite_next (r : Req) (v : Nat) (s : State) : ∃ nx, execNscSlewCntWrite r v s = .next nx := by
  unfold execNscSlewCntWrite
  repeat' first
    | exact ⟨_, by with_reducible rfl⟩
    | with_reducible apply State.onBus_next
    | with_reducible apply State.onPriv_next
    | with_reducible apply State.onRead_next
    | dsimp only
    | split
theorem execPpsEdge_next (levelUs : Nat) (s : State) : ∃ nx, execPpsEdge levelUs s = .next nx := by
  unfold execPpsEdge
  repeat' first | exact ⟨_, by with_reducible rfl⟩ | dsimp only | split
theorem execPpsLossTimeout_next (s : State) : ∃ nx, execPpsLossTimeout s = .next nx := by
  unfold execPpsLossTimeout
  repeat' first | exact ⟨_, by with_reducible rfl⟩ | dsimp only | split
theorem execPpsOpenCheck_next (isOpen : Bool) (s : State) : ∃ nx, execPpsOpenCheck isOpen s = .next nx := by
  unfold execPpsOpenCheck
  repeat' first | exact ⟨_, by with_reducible rfl⟩ | dsimp only | split
theorem execPtpMsgRx_next (p : Nat) (m : PtpMsg) (s : State) : ∃ nx, execPtpMsgRx p m s = .next nx := by
  unfold execPtpMsgRx
  repeat' first | exact ⟨_, by with_reducible rfl⟩ | dsimp only | split
theorem execPtpSyncTimeout_next (p : Nat) (s : State) : ∃ nx, execPtpSyncTimeout p s = .next nx := by
  unfold execPtpSyncTimeout
  repeat' first | exact ⟨_, by with_reducible rfl⟩ | dsimp only | split
theorem execCuEdge_next (source : Nat) (rising : Bool) (s : State) : ∃ nx, execCuEdge source rising s = .next nx := ⟨_, rfl⟩
theorem execCuPop_next (r : Req) (n : Nat) (v : Nat) (s : State) : ∃ nx, execCuPop r n v s = .next nx := by
  unfold execCuPop
  repeat' first
    | exact ⟨_, by with_reducible rfl⟩
    | with_reducible apply State.onBus_next
    | with_reducible apply State.onPriv_next
    | with_reducible apply State.onRead_next
    | dsimp only
    | split
theorem execTxRequestHead_next (c : Nat) (s : State) : ∃ nx, execTxRequestHead c s = .next nx := ⟨_, rfl⟩
theorem execPtReadinessCheck_next (n : Nat) (gnt : Bool) (s : State) : ∃ nx, execPtReadinessCheck n gnt s = .next nx := by
  unfold execPtReadinessCheck
  repeat' first | exact ⟨_, by with_reducible rfl⟩ | dsimp only | split
theorem execPtFire_next (s : State) : ∃ nx, execPtFire s = .next nx := ⟨_, rfl⟩
theorem execPtCmpLowWrite_next (r : Req) (n : Nat) (v : Nat) (s : State) : ∃ nx, execPtCmpLowWrite r n v s = .next nx := by
  unfold execPtCmpLowWrite
  repeat' first
    | exact ⟨_, by with_reducible rfl⟩
    | with_reducible apply State.onBus_next
    | with_reducible apply State.onPriv_next
    | with_reducible apply State.onRead_next
    | dsimp only
    | split
theorem execPtCtlWrite_next (r : Req) (n : Nat) (v : Nat) (s : State) : ∃ nx, execPtCtlWrite r n v s = .next nx := by
  unfold execPtCtlWrite
  repeat' first
    | exact ⟨_, by with_reducible rfl⟩
    | with_reducible apply State.onBus_next
    | with_reducible apply State.onPriv_next
    | with_reducible apply State.onRead_next
    | dsimp only
    | split
theorem execPtPulseEnd_next (n : Nat) (s : State) : ∃ nx, execPtPulseEnd n s = .next nx := by
  unfold execPtPulseEnd
  repeat' first | exact ⟨_, by with_reducible rfl⟩ | dsimp only | split
theorem execPtAlloc_next (c : Cmd) (s : State) : ∃ nx, execPtAlloc c s = .next nx := by
  unfold execPtAlloc
  repeat' first | exact ⟨_, by with_reducible rfl⟩ | dsimp only | split
theorem execPtFree_next (c : Cmd) (n : Nat) (s : State) : ∃ nx, execPtFree c n s = .next nx := by
  unfold execPtFree
  repeat' first | exact ⟨_, by with_reducible rfl⟩ | dsimp only | split
theorem execTxcCtlWrite_next (r : Req) (c : Nat) (v : Nat) (s : State) : ∃ nx, execTxcCtlWrite r c v s = .next nx := by
  unfold execTxcCtlWrite
  repeat' first
    | exact ⟨_, by with_reducible rfl⟩
    | with_reducible apply State.onBus_next
    | with_reducible apply State.onPriv_next
    | with_reducible apply State.onRead_next
    | dsimp only
    | split
theorem execGoReady_next (r : Req) (c : Nat) (s : State) : ∃ nx, execGoReady r c s = .next nx := by
  unfold execGoReady
  repeat' first
    | exact ⟨_, by with_reducible rfl⟩
    | with_reducible apply State.onBus_next
    | with_reducible apply State.onPriv_next
    | with_reducible apply State.onRead_next
    | dsimp only
    | split
theorem execGoStandby_next (r : Req) (c : Nat) (s : State) : ∃ nx, execGoStandby r c s = .next nx := by
  unfold execGoStandby
  repeat' first
    | exact ⟨_, by with_reducible rfl⟩
    | with_reducible apply State.onBus_next
    | with_reducible apply State.onPriv_next
    | with_reducible apply State.onRead_next
    | dsimp only
    | split
theorem execCalFlush_next (r : Req) (c : Nat) (s : State) : ∃ nx, execCalFlush r c s = .next nx := by
  unfold execCalFlush
  repeat' first
    | exact ⟨_, by with_reducible rfl⟩
    | with_reducible apply State.onBus_next
    | with_reducible apply State.onPriv_next
    | with_reducible apply State.onRead_next
    | dsimp only
    | split
theorem execChainEnableDone_next (c : Nat) (s : State) : ∃ nx, execChainEnableDone c s = .next nx := by
  unfold execChainEnableDone
  repeat' first | exact ⟨_, by with_reducible rfl⟩ | dsimp only | split
theorem execSynthTuneDone_next (c : Nat) (s : State) : ∃ nx, execSynthTuneDone c s = .next nx := by
  unfold execSynthTuneDone
  repeat' first | exact ⟨_, by with_reducible rfl⟩ | dsimp only | split
theorem execSynthLockLost_next (c : Nat) (s : State) : ∃ nx, execSynthLockLost c s = .next nx := by
  unfold execSynthLockLost
  repeat' first | exact ⟨_, by with_reducible rfl⟩ | dsimp only | split
theorem execTxStateEnter_next (c : Nat) (s : State) : ∃ nx, execTxStateEnter c s = .next nx := by
  unfold execTxStateEnter
  repeat' first | exact ⟨_, by with_reducible rfl⟩ | dsimp only | split
theorem execPowerLoopStep_next (c : Nat) (measured : Int) (s : State) : ∃ nx, execPowerLoopStep c measured s = .next nx := by
  unfold execPowerLoopStep
  repeat' first | exact ⟨_, by with_reducible rfl⟩ | dsimp only | split
theorem execTxLoopEnd_next (c : Nat) (measured : Int) (s : State) : ∃ nx, execTxLoopEnd c measured s = .next nx := by
  unfold execTxLoopEnd
  repeat' first | exact ⟨_, by with_reducible rfl⟩ | dsimp only | split
theorem execFwdPowerCheck_next (c : Nat) (fwd : Int) (s : State) : ∃ nx, execFwdPowerCheck c fwd s = .next nx := by
  unfold execFwdPowerCheck
  repeat' first | exact ⟨_, by with_reducible rfl⟩ | dsimp only | split
theorem execAerialFaultDetect_next (c : Nat) (rl : Nat) (s : State) : ∃ nx, execAerialFaultDetect c rl s = .next nx := by
  unfold execAerialFaultDetect
  repeat' first | exact ⟨_, by with_reducible rfl⟩ | dsimp only | split
theorem execTxLastSample_next (c : Nat) (rl : Nat) (pwr : Int) (s : State) : ∃ nx, execTxLastSample c rl pwr s = .next nx := by
  unfold execTxLastSample
  repeat' first | exact ⟨_, by with_reducible rfl⟩ | dsimp only | split
theorem execTxToReadyDone_next (c : Nat) (s : State) : ∃ nx, execTxToReadyDone c s = .next nx := ⟨_, rfl⟩
theorem execOutputReadbackMismatch_next (k : Nat) (p : Nat) (s : State) : ∃ nx, execOutputReadbackMismatch k p s = .next nx := by
  unfold execOutputReadbackMismatch
  repeat' first | exact ⟨_, by with_reducible rfl⟩ | dsimp only | split
theorem execTxcMuteWrite_next (r : Req) (c : Nat) (v : Nat) (s : State) : ∃ nx, execTxcMuteWrite r c v s = .next nx := by
  unfold execTxcMuteWrite
  repeat' first
    | exact ⟨_, by with_reducible rfl⟩
    | with_reducible apply State.onBus_next
    | with_reducible apply State.onPriv_next
    | with_reducible apply State.onRead_next
    | dsimp only
    | split
theorem execRunawayTimeout_next (c : Nat) (s : State) : ∃ nx, execRunawayTimeout c s = .next nx := by
  unfold execRunawayTimeout
  repeat' first | exact ⟨_, by with_reducible rfl⟩ | dsimp only | split
theorem execDetCheck_next (p : Nat) (pa : Bool) (fwd : Bool) (rev : Bool) (s : State) : ∃ nx, execDetCheck p pa fwd rev s = .next nx := by
  unfold execDetCheck
  repeat' first | exact ⟨_, by with_reducible rfl⟩ | dsimp only | split
theorem execCoexReqAssert_next (n : Nat) (s : State) : ∃ nx, execCoexReqAssert n s = .next nx := by
  unfold execCoexReqAssert
  repeat' first | exact ⟨_, by with_reducible rfl⟩ | dsimp only | split
theorem execCoexGntFall_next (s : State) : ∃ nx, execCoexGntFall s = .next nx := by
  unfold execCoexGntFall
  repeat' first | exact ⟨_, by with_reducible rfl⟩ | dsimp only | split
theorem execCoexCheck_next (r : Req) (s : State) : ∃ nx, execCoexCheck r s = .next nx := by
  unfold execCoexCheck
  repeat' first
    | exact ⟨_, by with_reducible rfl⟩
    | with_reducible apply State.onBus_next
    | with_reducible apply State.onPriv_next
    | with_reducible apply State.onRead_next
    | dsimp only
    | split
theorem execCoexCheckStepEnd_next (x : Bool) (s : State) : ∃ nx, execCoexCheckStepEnd x s = .next nx := by
  unfold execCoexCheckStepEnd
  repeat' first | exact ⟨_, by with_reducible rfl⟩ | dsimp only | split
theorem execCoexLeadWrite_next (r : Req) (v : Nat) (s : State) : ∃ nx, execCoexLeadWrite r v s = .next nx := by
  unfold execCoexLeadWrite
  repeat' first
    | exact ⟨_, by with_reducible rfl⟩
    | with_reducible apply State.onBus_next
    | with_reducible apply State.onPriv_next
    | with_reducible apply State.onRead_next
    | dsimp only
    | split
theorem execChplanWrite_next (r : Req) (h : Nat) (off : Nat) (v : Nat) (s : State) : ∃ nx, execChplanWrite r h off v s = .next nx := by
  unfold execChplanWrite
  repeat' first
    | exact ⟨_, by with_reducible rfl⟩
    | with_reducible apply State.onBus_next
    | with_reducible apply State.onPriv_next
    | with_reducible apply State.onRead_next
    | dsimp only
    | split
theorem execPanmapWrite_next (r : Req) (i : Nat) (off : Nat) (v : Nat) (s : State) : ∃ nx, execPanmapWrite r i off v s = .next nx := by
  unfold execPanmapWrite
  repeat' first
    | exact ⟨_, by with_reducible rfl⟩
    | with_reducible apply State.onBus_next
    | with_reducible apply State.onPriv_next
    | with_reducible apply State.onRead_next
    | dsimp only
    | split
theorem execAirEui64Write_next (r : Req) (v : Nat) (s : State) : ∃ nx, execAirEui64Write r v s = .next nx := by
  unfold execAirEui64Write
  repeat' first
    | exact ⟨_, by with_reducible rfl⟩
    | with_reducible apply State.onBus_next
    | with_reducible apply State.onPriv_next
    | with_reducible apply State.onRead_next
    | dsimp only
    | split
theorem execProfileSetRegion_next (c : Cmd) (region : Nat) (s : State) : ∃ nx, execProfileSetRegion c region s = .next nx := by
  unfold execProfileSetRegion
  repeat' first | exact ⟨_, by with_reducible rfl⟩ | dsimp only | split
theorem execRegprofLockSet_next (r : Req) (s : State) : ∃ nx, execRegprofLockSet r s = .next nx := by
  unfold execRegprofLockSet
  repeat' first
    | exact ⟨_, by with_reducible rfl⟩
    | with_reducible apply State.onBus_next
    | with_reducible apply State.onPriv_next
    | with_reducible apply State.onRead_next
    | dsimp only
    | split
theorem execDutySlotEnd_next (i : Nat) (s : State) : ∃ nx, execDutySlotEnd i s = .next nx := by
  unfold execDutySlotEnd
  repeat' first | exact ⟨_, by with_reducible rfl⟩ | dsimp only | split
theorem execGateDecision_next (n : Nat) (s : State) : ∃ nx, execGateDecision n s = .next nx := by
  unfold execGateDecision
  repeat' first | exact ⟨_, by with_reducible rfl⟩ | dsimp only | split
theorem execQuietRelease_next (s : State) : ∃ nx, execQuietRelease s = .next nx := ⟨_, rfl⟩
theorem execDrbgHealthFail_next (s : State) : ∃ nx, execDrbgHealthFail s = .next nx := ⟨_, rfl⟩
theorem execDrbgRestart_next (pass : Bool) (s : State) : ∃ nx, execDrbgRestart pass s = .next nx := by
  unfold execDrbgRestart
  repeat' first | exact ⟨_, by with_reducible rfl⟩ | dsimp only | split
theorem execKeyImport_next (c : Cmd) (target : Nat) (parent : Nat) (use : Nat) (type : Nat) (len : Nat) (addr : Nat) (s : State) :
    ∃ nx, execKeyImport c target parent use type len addr s = .next nx := by
  unfold execKeyImport
  repeat' first | exact ⟨_, by with_reducible rfl⟩ | dsimp only | split
theorem execKeyDerive_next (c : Cmd) (target : Nat) (parent : Nat) (use : Nat) (type : Nat) (labelLen : Nat) (ctxLen : Nat) (addr : Nat) (s : State) :
    ∃ nx, execKeyDerive c target parent use type labelLen ctxLen addr s = .next nx := by
  unfold execKeyDerive
  repeat' first | exact ⟨_, by with_reducible rfl⟩ | dsimp only | split
theorem execKeyErase_next (c : Cmd) (slot : Nat) (s : State) : ∃ nx, execKeyErase c slot s = .next nx := by
  unfold execKeyErase
  repeat' first | exact ⟨_, by with_reducible rfl⟩ | dsimp only | split
theorem execKeyInfo_next (c : Cmd) (slot : Nat) (s : State) : ∃ nx, execKeyInfo c slot s = .next nx := by
  unfold execKeyInfo
  repeat' first | exact ⟨_, by with_reducible rfl⟩ | dsimp only | split
theorem execHedgeKeyWipe_next (c : Cmd) (confirm : Nat) (s : State) : ∃ nx, execHedgeKeyWipe c confirm s = .next nx := by
  unfold execHedgeKeyWipe
  repeat' first | exact ⟨_, by with_reducible rfl⟩ | dsimp only | split
theorem execTrustSet_next (c : Cmd) (anchor : Nat) (lockAfter : Bool) (addr : Nat) (s : State) :
    ∃ nx, execTrustSet c anchor lockAfter addr s = .next nx := by
  unfold execTrustSet
  repeat' first | exact ⟨_, by with_reducible rfl⟩ | dsimp only | split
theorem execTrustLockSet_next (r : Req) (h : Nat) (v : Nat) (s : State) : ∃ nx, execTrustLockSet r h v s = .next nx := by
  unfold execTrustLockSet
  repeat' first
    | exact ⟨_, by with_reducible rfl⟩
    | with_reducible apply State.onBus_next
    | with_reducible apply State.onPriv_next
    | with_reducible apply State.onRead_next
    | dsimp only
    | split
theorem execAttest_next (c : Cmd) (slot : Nat) (challenge : List Nat) (addr : Nat) (s : State) :
    ∃ nx, execAttest c slot challenge addr s = .next nx := by
  unfold execAttest
  repeat' first | exact ⟨_, by with_reducible rfl⟩ | dsimp only | split
theorem execNodeRekey_next (c : Cmd) (e : Nat) (s : State) : ∃ nx, execNodeRekey c e s = .next nx := by
  unfold execNodeRekey
  repeat' first | exact ⟨_, by with_reducible rfl⟩ | dsimp only | split
theorem execGroupRekey_next (c : Cmd) (s : State) : ∃ nx, execGroupRekey c s = .next nx := by
  unfold execGroupRekey
  repeat' first | exact ⟨_, by with_reducible rfl⟩ | dsimp only | split
theorem execRekeyRetryExpire_next (e : Nat) (s : State) : ∃ nx, execRekeyRetryExpire e s = .next nx := by
  unfold execRekeyRetryExpire
  repeat' first | exact ⟨_, by with_reducible rfl⟩ | dsimp only | split
theorem execGroupSwitch_next (h : Nat) (s : State) : ∃ nx, execGroupSwitch h s = .next nx := by
  unfold execGroupSwitch
  repeat' first | exact ⟨_, by with_reducible rfl⟩ | dsimp only | split
theorem execGroupOverlapEnd_next (h : Nat) (s : State) : ∃ nx, execGroupOverlapEnd h s = .next nx := ⟨_, rfl⟩
theorem execKeyDestroyAll_next (c : Cmd) (confirm : Nat) (s : State) : ∃ nx, execKeyDestroyAll c confirm s = .next nx := by
  unfold execKeyDestroyAll
  repeat' first | exact ⟨_, by with_reducible rfl⟩ | dsimp only | split
theorem execKeyOrphanSweep_next (s : State) : ∃ nx, execKeyOrphanSweep s = .next nx := ⟨_, rfl⟩
theorem execKeyRetireZero_next (s : State) : ∃ nx, execKeyRetireZero s = .next nx := ⟨_, rfl⟩
theorem execSlotQuotaWrite_next (r : Req) (h : Nat) (v : Nat) (s : State) : ∃ nx, execSlotQuotaWrite r h v s = .next nx := by
  unfold execSlotQuotaWrite
  repeat' first
    | exact ⟨_, by with_reducible rfl⟩
    | with_reducible apply State.onBus_next
    | with_reducible apply State.onPriv_next
    | with_reducible apply State.onRead_next
    | dsimp only
    | split
theorem execJoinResponsePart2_next (e : Nat) (s : State) : ∃ nx, execJoinResponsePart2 e s = .next nx := by
  unfold execJoinResponsePart2
  repeat' first | exact ⟨_, by with_reducible rfl⟩ | dsimp only | split
theorem execSyncDeclare_next (l : Nat) (g : Nat) (metric : Nat) (s : State) : ∃ nx, execSyncDeclare l g metric s = .next nx := by
  unfold execSyncDeclare
  repeat' first | exact ⟨_, by with_reducible rfl⟩ | dsimp only | split
theorem execLaneHeaderEnd_next (l : Nat) (h : Header) (age : Nat) (s : State) : ∃ nx, execLaneHeaderEnd l h age s = .next nx := by
  unfold execLaneHeaderEnd
  repeat' first | exact ⟨_, by with_reducible rfl⟩ | dsimp only | split
theorem execDupWinExpire_next (s : State) : ∃ nx, execDupWinExpire s = .next nx := by
  unfold execDupWinExpire
  repeat' first | exact ⟨_, by with_reducible rfl⟩ | dsimp only | split
theorem execLdpcCwSubmit_next (x : CwIn) (s : State) : ∃ nx, execLdpcCwSubmit x s = .next nx := by
  unfold execLdpcCwSubmit
  repeat' first | exact ⟨_, by with_reducible rfl⟩ | dsimp only | split
theorem execLdpcDecodeStart_next (k : Nat) (s : State) : ∃ nx, execLdpcDecodeStart k s = .next nx := by
  unfold execLdpcDecodeStart
  repeat' first | exact ⟨_, by with_reducible rfl⟩ | dsimp only | split
theorem execLdpcDecodeDone_next (k : Nat) (iter : Nat) (word : Nat) (s : State) : ∃ nx, execLdpcDecodeDone k iter word s = .next nx := by
  unfold execLdpcDecodeDone
  repeat' first | exact ⟨_, by with_reducible rfl⟩ | dsimp only | split
theorem execLdpcCfgWrite_next (r : Req) (off : Nat) (v : Nat) (s : State) : ∃ nx, execLdpcCfgWrite r off v s = .next nx := by
  unfold execLdpcCfgWrite
  repeat' first
    | exact ⟨_, by with_reducible rfl⟩
    | with_reducible apply State.onBus_next
    | with_reducible apply State.onPriv_next
    | with_reducible apply State.onRead_next
    | dsimp only
    | split
theorem execLdpcDecEnWrite_next (r : Req) (v : Nat) (s : State) : ∃ nx, execLdpcDecEnWrite r v s = .next nx := by
  unfold execLdpcDecEnWrite
  repeat' first
    | exact ⟨_, by with_reducible rfl⟩
    | with_reducible apply State.onBus_next
    | with_reducible apply State.onPriv_next
    | with_reducible apply State.onRead_next
    | dsimp only
    | split
theorem execLaneFrameEnd_next (l : Nat) (m : LaneMeasure) (s : State) : ∃ nx, execLaneFrameEnd l m s = .next nx := by
  unfold execLaneFrameEnd
  repeat' first | exact ⟨_, by with_reducible rfl⟩ | dsimp only | split
theorem execDownlinkRelease_next (u : Nat) (s : State) : ∃ nx, execDownlinkRelease u s = .next nx := by
  unfold execDownlinkRelease
  repeat' first | exact ⟨_, by with_reducible rfl⟩ | dsimp only | split
theorem execNscCycle_next (s : State) : ∃ nx, execNscCycle s = .next nx := ⟨_, rfl⟩
theorem execPhaseFixWalkDone_next (s : State) : ∃ nx, execPhaseFixWalkDone s = .next nx := by
  unfold execPhaseFixWalkDone
  repeat' first | exact ⟨_, by with_reducible rfl⟩ | dsimp only | split
theorem execAttemptArm_next (u : Nat) (s : State) : ∃ nx, execAttemptArm u s = .next nx := by
  unfold execAttemptArm
  repeat' first | exact ⟨_, by with_reducible rfl⟩ | dsimp only | split
theorem execGateRecordHandle_next (c : Nat) (s : State) : ∃ nx, execGateRecordHandle c s = .next nx := by
  unfold execGateRecordHandle
  repeat' first | exact ⟨_, by with_reducible rfl⟩ | dsimp only | split
theorem execTxResultHandle_next (c : Nat) (s : State) : ∃ nx, execTxResultHandle c s = .next nx := by
  unfold execTxResultHandle
  repeat' first | exact ⟨_, by with_reducible rfl⟩ | dsimp only | split
theorem execTrainCopyArm_next (u : Nat) (s : State) : ∃ nx, execTrainCopyArm u s = .next nx := by
  unfold execTrainCopyArm
  repeat' first | exact ⟨_, by with_reducible rfl⟩ | dsimp only | split
theorem execAckWindowExpire_next (u : Nat) (s : State) : ∃ nx, execAckWindowExpire u s = .next nx := by
  unfold execAckWindowExpire
  repeat' first | exact ⟨_, by with_reducible rfl⟩ | dsimp only | split
theorem execRefloodSend_next (u : Nat) (s : State) : ∃ nx, execRefloodSend u s = .next nx := by
  unfold execRefloodSend
  repeat' first | exact ⟨_, by with_reducible rfl⟩ | dsimp only | split
theorem execMacRxFrame_next (l : Nat) (s : State) : ∃ nx, execMacRxFrame l s = .next nx := by
  unfold execMacRxFrame
  repeat' first | exact ⟨_, by with_reducible rfl⟩ | dsimp only | split
theorem execThreadEventWake_next (g : Nat) (s : State) : ∃ nx, execThreadEventWake g s = .next nx := by
  unfold execThreadEventWake
  repeat' first | exact ⟨_, by with_reducible rfl⟩ | dsimp only | split
theorem execTwaitExpire_next (g : Nat) (s : State) : ∃ nx, execTwaitExpire g s = .next nx := ⟨_, rfl⟩
theorem execThreadTimerFire_next (g : Nat) (s : State) : ∃ nx, execThreadTimerFire g s = .next nx := ⟨_, rfl⟩
theorem execFifoStallResume_next (g : Nat) (s : State) : ∃ nx, execFifoStallResume g s = .next nx := by
  unfold execFifoStallResume
  repeat' first | exact ⟨_, by with_reducible rfl⟩ | dsimp only | split
theorem execFifoStallTimeout_next (g : Nat) (s : State) : ∃ nx, execFifoStallTimeout g s = .next nx := by
  unfold execFifoStallTimeout
  repeat' first | exact ⟨_, by with_reducible rfl⟩ | dsimp only | split
theorem execThicketWindowTimeout_next (n : Nat) (s : State) : ∃ nx, execThicketWindowTimeout n s = .next nx := ⟨_, rfl⟩
theorem execEntryHoldEnd_next (e : Nat) (s : State) : ∃ nx, execEntryHoldEnd e s = .next nx := by
  unfold execEntryHoldEnd
  repeat' first | exact ⟨_, by with_reducible rfl⟩ | dsimp only | split
theorem execEngineWdogExpire_next (e : Nat) (s : State) : ∃ nx, execEngineWdogExpire e s = .next nx := by
  unfold execEngineWdogExpire
  repeat' first | exact ⟨_, by with_reducible rfl⟩ | dsimp only | split
theorem execAdd_next (g : Nat) (rd : BitVec 5) (ra : BitVec 5) (rb : BitVec 5) (s : State) : ∃ nx, execAdd g rd ra rb s = .next nx := ⟨_, rfl⟩
theorem execSub_next (g : Nat) (rd : BitVec 5) (ra : BitVec 5) (rb : BitVec 5) (s : State) : ∃ nx, execSub g rd ra rb s = .next nx := ⟨_, rfl⟩
theorem execAddc_next (g : Nat) (rd : BitVec 5) (ra : BitVec 5) (rb : BitVec 5) (s : State) : ∃ nx, execAddc g rd ra rb s = .next nx := ⟨_, rfl⟩
theorem execSubc_next (g : Nat) (rd : BitVec 5) (ra : BitVec 5) (rb : BitVec 5) (s : State) : ∃ nx, execSubc g rd ra rb s = .next nx := ⟨_, rfl⟩
theorem execAnd_next (g : Nat) (rd : BitVec 5) (ra : BitVec 5) (rb : BitVec 5) (s : State) : ∃ nx, execAnd g rd ra rb s = .next nx := ⟨_, rfl⟩
theorem execOr_next (g : Nat) (rd : BitVec 5) (ra : BitVec 5) (rb : BitVec 5) (s : State) : ∃ nx, execOr g rd ra rb s = .next nx := ⟨_, rfl⟩
theorem execXor_next (g : Nat) (rd : BitVec 5) (ra : BitVec 5) (rb : BitVec 5) (s : State) : ∃ nx, execXor g rd ra rb s = .next nx := ⟨_, rfl⟩
theorem execAndn_next (g : Nat) (rd : BitVec 5) (ra : BitVec 5) (rb : BitVec 5) (s : State) : ∃ nx, execAndn g rd ra rb s = .next nx := ⟨_, rfl⟩
theorem execShl_next (g : Nat) (rd : BitVec 5) (ra : BitVec 5) (rb : BitVec 5) (s : State) : ∃ nx, execShl g rd ra rb s = .next nx := ⟨_, rfl⟩
theorem execShr_next (g : Nat) (rd : BitVec 5) (ra : BitVec 5) (rb : BitVec 5) (s : State) : ∃ nx, execShr g rd ra rb s = .next nx := ⟨_, rfl⟩
theorem execSar_next (g : Nat) (rd : BitVec 5) (ra : BitVec 5) (rb : BitVec 5) (s : State) : ∃ nx, execSar g rd ra rb s = .next nx := ⟨_, rfl⟩
theorem execRol_next (g : Nat) (rd : BitVec 5) (ra : BitVec 5) (rb : BitVec 5) (s : State) : ∃ nx, execRol g rd ra rb s = .next nx := ⟨_, rfl⟩
theorem execMul_next (g : Nat) (rd : BitVec 5) (ra : BitVec 5) (rb : BitVec 5) (s : State) : ∃ nx, execMul g rd ra rb s = .next nx := ⟨_, rfl⟩
theorem execMulhu_next (g : Nat) (rd : BitVec 5) (ra : BitVec 5) (rb : BitVec 5) (s : State) : ∃ nx, execMulhu g rd ra rb s = .next nx := ⟨_, rfl⟩
theorem execMulhs_next (g : Nat) (rd : BitVec 5) (ra : BitVec 5) (rb : BitVec 5) (s : State) : ∃ nx, execMulhs g rd ra rb s = .next nx := ⟨_, rfl⟩
theorem execClz_next (g : Nat) (rd : BitVec 5) (ra : BitVec 5) (rb : BitVec 5) (s : State) : ∃ nx, execClz g rd ra rb s = .next nx := ⟨_, rfl⟩
theorem execPopc_next (g : Nat) (rd : BitVec 5) (ra : BitVec 5) (rb : BitVec 5) (s : State) : ∃ nx, execPopc g rd ra rb s = .next nx := ⟨_, rfl⟩
theorem execMin_next (g : Nat) (rd : BitVec 5) (ra : BitVec 5) (rb : BitVec 5) (s : State) : ∃ nx, execMin g rd ra rb s = .next nx := ⟨_, rfl⟩
theorem execMax_next (g : Nat) (rd : BitVec 5) (ra : BitVec 5) (rb : BitVec 5) (s : State) : ∃ nx, execMax g rd ra rb s = .next nx := ⟨_, rfl⟩
theorem execMinu_next (g : Nat) (rd : BitVec 5) (ra : BitVec 5) (rb : BitVec 5) (s : State) : ∃ nx, execMinu g rd ra rb s = .next nx := ⟨_, rfl⟩
theorem execMaxu_next (g : Nat) (rd : BitVec 5) (ra : BitVec 5) (rb : BitVec 5) (s : State) : ∃ nx, execMaxu g rd ra rb s = .next nx := ⟨_, rfl⟩
theorem execSlt_next (g : Nat) (rd : BitVec 5) (ra : BitVec 5) (rb : BitVec 5) (s : State) : ∃ nx, execSlt g rd ra rb s = .next nx := ⟨_, rfl⟩
theorem execSltu_next (g : Nat) (rd : BitVec 5) (ra : BitVec 5) (rb : BitVec 5) (s : State) : ∃ nx, execSltu g rd ra rb s = .next nx := ⟨_, rfl⟩
theorem execAddi_next (g : Nat) (rd : BitVec 5) (ra : BitVec 5) (imm : BitVec 16) (s : State) : ∃ nx, execAddi g rd ra imm s = .next nx := ⟨_, rfl⟩
theorem execAndi_next (g : Nat) (rd : BitVec 5) (ra : BitVec 5) (imm : BitVec 16) (s : State) : ∃ nx, execAndi g rd ra imm s = .next nx := ⟨_, rfl⟩
theorem execOri_next (g : Nat) (rd : BitVec 5) (ra : BitVec 5) (imm : BitVec 16) (s : State) : ∃ nx, execOri g rd ra imm s = .next nx := ⟨_, rfl⟩
theorem execXori_next (g : Nat) (rd : BitVec 5) (ra : BitVec 5) (imm : BitVec 16) (s : State) : ∃ nx, execXori g rd ra imm s = .next nx := ⟨_, rfl⟩
theorem execShli_next (g : Nat) (rd : BitVec 5) (ra : BitVec 5) (imm : BitVec 16) (s : State) : ∃ nx, execShli g rd ra imm s = .next nx := ⟨_, rfl⟩
theorem execShri_next (g : Nat) (rd : BitVec 5) (ra : BitVec 5) (imm : BitVec 16) (s : State) : ∃ nx, execShri g rd ra imm s = .next nx := ⟨_, rfl⟩
theorem execSari_next (g : Nat) (rd : BitVec 5) (ra : BitVec 5) (imm : BitVec 16) (s : State) : ∃ nx, execSari g rd ra imm s = .next nx := ⟨_, rfl⟩
theorem execSlti_next (g : Nat) (rd : BitVec 5) (ra : BitVec 5) (imm : BitVec 16) (s : State) : ∃ nx, execSlti g rd ra imm s = .next nx := ⟨_, rfl⟩
theorem execLui_next (g : Nat) (rd : BitVec 5) (ra : BitVec 5) (imm : BitVec 16) (s : State) : ∃ nx, execLui g rd ra imm s = .next nx := ⟨_, rfl⟩
theorem execExt_next (g : Nat) (rd : BitVec 5) (ra : BitVec 5) (pos : BitVec 5) (len : BitVec 5) (s : State) :
    ∃ nx, execExt g rd ra pos len s = .next nx := ⟨_, rfl⟩
theorem execExtu_next (g : Nat) (rd : BitVec 5) (ra : BitVec 5) (pos : BitVec 5) (len : BitVec 5) (s : State) :
    ∃ nx, execExtu g rd ra pos len s = .next nx := ⟨_, rfl⟩
theorem execIns_next (g : Nat) (rd : BitVec 5) (ra : BitVec 5) (pos : BitVec 5) (len : BitVec 5) (s : State) :
    ∃ nx, execIns g rd ra pos len s = .next nx := ⟨_, rfl⟩
theorem execBswap_next (g : Nat) (rd : BitVec 5) (ra : BitVec 5) (pos : BitVec 5) (len : BitVec 5) (s : State) :
    ∃ nx, execBswap g rd ra pos len s = .next nx := ⟨_, rfl⟩
theorem execCrc32c_next (g : Nat) (rd : BitVec 5) (ra : BitVec 5) (rb : BitVec 5) (n : BitVec 3) (s : State) :
    ∃ nx, execCrc32c g rd ra rb n s = .next nx := ⟨_, rfl⟩
theorem execCrc16_next (g : Nat) (rd : BitVec 5) (ra : BitVec 5) (rb : BitVec 5) (n : BitVec 3) (s : State) :
    ∃ nx, execCrc16 g rd ra rb n s = .next nx := ⟨_, rfl⟩
theorem execHash_next (g : Nat) (rd : BitVec 5) (ra : BitVec 5) (rb : BitVec 5) (s : State) : ∃ nx, execHash g rd ra rb s = .next nx := ⟨_, rfl⟩
theorem execBeq_next (g : Nat) (ra : BitVec 5) (rb : BitVec 5) (disp : BitVec 16) (s : State) : ∃ nx, execBeq g ra rb disp s = .next nx := ⟨_, rfl⟩
theorem execBne_next (g : Nat) (ra : BitVec 5) (rb : BitVec 5) (disp : BitVec 16) (s : State) : ∃ nx, execBne g ra rb disp s = .next nx := ⟨_, rfl⟩
theorem execBlt_next (g : Nat) (ra : BitVec 5) (rb : BitVec 5) (disp : BitVec 16) (s : State) : ∃ nx, execBlt g ra rb disp s = .next nx := ⟨_, rfl⟩
theorem execBge_next (g : Nat) (ra : BitVec 5) (rb : BitVec 5) (disp : BitVec 16) (s : State) : ∃ nx, execBge g ra rb disp s = .next nx := ⟨_, rfl⟩
theorem execBltu_next (g : Nat) (ra : BitVec 5) (rb : BitVec 5) (disp : BitVec 16) (s : State) : ∃ nx, execBltu g ra rb disp s = .next nx := ⟨_, rfl⟩
theorem execBgeu_next (g : Nat) (ra : BitVec 5) (rb : BitVec 5) (disp : BitVec 16) (s : State) : ∃ nx, execBgeu g ra rb disp s = .next nx := ⟨_, rfl⟩
theorem execJ_next (g : Nat) (disp : BitVec 25) (s : State) : ∃ nx, execJ g disp s = .next nx := ⟨_, rfl⟩
theorem execJal_next (g : Nat) (disp : BitVec 25) (s : State) : ∃ nx, execJal g disp s = .next nx := ⟨_, rfl⟩
theorem execJalr_next (g : Nat) (rd : BitVec 5) (ra : BitVec 5) (imm : BitVec 16) (s : State) : ∃ nx, execJalr g rd ra imm s = .next nx := ⟨_, rfl⟩
theorem execTnow_next (g : Nat) (rd : BitVec 5) (ra : BitVec 5) (cmd : BitVec 12) (s : State) : ∃ nx, execTnow g rd ra cmd s = .next nx := ⟨_, rfl⟩
theorem execTwait_next (g : Nat) (rd : BitVec 5) (ra : BitVec 5) (cmd : BitVec 12) (s : State) : ∃ nx, execTwait g rd ra cmd s = .next nx := ⟨_, rfl⟩
theorem execTarm_next (g : Nat) (rd : BitVec 5) (ra : BitVec 5) (cmd : BitVec 12) (s : State) : ∃ nx, execTarm g rd ra cmd s = .next nx := ⟨_, rfl⟩
theorem execYield_next (g : Nat) (rd : BitVec 5) (ra : BitVec 5) (cmd : BitVec 12) (s : State) : ∃ nx, execYield g rd ra cmd s = .next nx := ⟨_, rfl⟩
theorem execWaitev_next (g : Nat) (rd : BitVec 5) (ra : BitVec 5) (cmd : BitVec 12) (s : State) : ∃ nx, execWaitev g rd ra cmd s = .next nx := ⟨_, rfl⟩
theorem execSignal_next (g : Nat) (rd : BitVec 5) (ra : BitVec 5) (cmd : BitVec 12) (s : State) : ∃ nx, execSignal g rd ra cmd s = .next nx := ⟨_, rfl⟩
theorem execFence_next (g : Nat) (rd : BitVec 5) (ra : BitVec 5) (cmd : BitVec 12) (s : State) : ∃ nx, execFence g rd ra cmd s = .next nx := ⟨_, rfl⟩
theorem execHalt_next (g : Nat) (rd : BitVec 5) (ra : BitVec 5) (cmd : BitVec 12) (s : State) : ∃ nx, execHalt g rd ra cmd s = .next nx := ⟨_, rfl⟩
theorem execMfs_next (g : Nat) (rd : BitVec 5) (ra : BitVec 5) (cmd : BitVec 12) (s : State) : ∃ nx, execMfs g rd ra cmd s = .next nx := ⟨_, rfl⟩
theorem execMts_next (g : Nat) (rd : BitVec 5) (ra : BitVec 5) (cmd : BitVec 12) (s : State) : ∃ nx, execMts g rd ra cmd s = .next nx := ⟨_, rfl⟩
theorem execTrap_next (g : Nat) (rd : BitVec 5) (ra : BitVec 5) (cmd : BitVec 12) (s : State) : ∃ nx, execTrap g rd ra cmd s = .next nx := ⟨_, rfl⟩
theorem execTret_next (g : Nat) (rd : BitVec 5) (ra : BitVec 5) (cmd : BitVec 12) (s : State) : ∃ nx, execTret g rd ra cmd s = .next nx := ⟨_, rfl⟩
theorem execLkup_next (g : Nat) (rd : BitVec 5) (ra : BitVec 5) (cmd : BitVec 12) (s : State) : ∃ nx, execLkup g rd ra cmd s = .next nx := by
  unfold execLkup
  repeat' first | exact ⟨_, by with_reducible rfl⟩ | dsimp only | split
theorem execTins_next (g : Nat) (rd : BitVec 5) (ra : BitVec 5) (cmd : BitVec 12) (s : State) : ∃ nx, execTins g rd ra cmd s = .next nx := by
  unfold execTins
  repeat' first | exact ⟨_, by with_reducible rfl⟩ | dsimp only | split
theorem execTdel_next (g : Nat) (rd : BitVec 5) (ra : BitVec 5) (cmd : BitVec 12) (s : State) : ∃ nx, execTdel g rd ra cmd s = .next nx := by
  unfold execTdel
  repeat' first | exact ⟨_, by with_reducible rfl⟩ | dsimp only | split
theorem execTtouch_next (g : Nat) (rd : BitVec 5) (ra : BitVec 5) (cmd : BitVec 12) (s : State) : ∃ nx, execTtouch g rd ra cmd s = .next nx := by
  unfold execTtouch
  repeat' first | exact ⟨_, by with_reducible rfl⟩ | dsimp only | split
theorem execQput_next (g : Nat) (rd : BitVec 5) (ra : BitVec 5) (cmd : BitVec 12) (s : State) : ∃ nx, execQput g rd ra cmd s = .next nx := ⟨_, rfl⟩
theorem execQget_next (g : Nat) (rd : BitVec 5) (ra : BitVec 5) (cmd : BitVec 12) (s : State) : ∃ nx, execQget g rd ra cmd s = .next nx := ⟨_, rfl⟩
theorem execQpeek_next (g : Nat) (rd : BitVec 5) (ra : BitVec 5) (cmd : BitVec 12) (s : State) : ∃ nx, execQpeek g rd ra cmd s = .next nx := ⟨_, rfl⟩
theorem execCry_next (g : Nat) (rd : BitVec 5) (ra : BitVec 5) (cmd : BitVec 12) (s : State) : ∃ nx, execCry g rd ra cmd s = .next nx := ⟨_, rfl⟩
theorem execCwait_next (g : Nat) (rd : BitVec 5) (ra : BitVec 5) (cmd : BitVec 12) (s : State) : ∃ nx, execCwait g rd ra cmd s = .next nx := ⟨_, rfl⟩
theorem execCryComplete_next (g : Nat) (t : Nat) (s : State) : ∃ nx, execCryComplete g t s = .next nx := by
  unfold execCryComplete
  repeat' first | exact ⟨_, by with_reducible rfl⟩ | dsimp only | split
theorem execScorepadCommit_next (read : List Nat) (s : State) : ∃ nx, execScorepadCommit read s = .next nx := by
  unfold execScorepadCommit
  repeat' first | exact ⟨_, by with_reducible rfl⟩ | dsimp only | split
theorem execScorepadSuppressReport_next (s : State) : ∃ nx, execScorepadSuppressReport s = .next nx := by
  unfold execScorepadSuppressReport
  repeat' first | exact ⟨_, by with_reducible rfl⟩ | dsimp only | split
theorem execScorepadRead_next (c : Cmd) (addr : Nat) (seq : Nat) (era : Nat) (count : Nat) (oldest : Bool) (s : State) :
    ∃ nx, execScorepadRead c addr seq era count oldest s = .next nx := by
  unfold execScorepadRead
  repeat' first | exact ⟨_, by with_reducible rfl⟩ | dsimp only | split
theorem execBeaconInterval_next (h : Nat) (s : State) : ∃ nx, execBeaconInterval h s = .next nx := by
  unfold execBeaconInterval
  repeat' first | exact ⟨_, by with_reducible rfl⟩ | dsimp only | split
theorem execGenBaseWrite_next (r : Req) (h : Nat) (v : Nat) (s : State) : ∃ nx, execGenBaseWrite r h v s = .next nx := by
  unfold execGenBaseWrite
  repeat' first
    | exact ⟨_, by with_reducible rfl⟩
    | with_reducible apply State.onBus_next
    | with_reducible apply State.onPriv_next
    | with_reducible apply State.onRead_next
    | dsimp only
    | split
theorem execCampaignStart_next (c : Cmd) (num : Nat) (bsize : Nat) (bcount : Nat) (from_ : Nat) (list : Bool) (lcount : Nat) (mOff : Nat) (iOff : Nat) (lOff : Nat) (s : State) :
    ∃ nx, execCampaignStart c num bsize bcount from_ list lcount mOff iOff lOff s = .next nx := by
  unfold execCampaignStart
  repeat' first | exact ⟨_, by with_reducible rfl⟩ | dsimp only | split
theorem execCampaignBlockSend_next (h : Nat) (s : State) : ∃ nx, execCampaignBlockSend h s = .next nx := by
  unfold execCampaignBlockSend
  repeat' first | exact ⟨_, by with_reducible rfl⟩ | dsimp only | split
theorem execCampaignReportWindowEnd_next (h : Nat) (s : State) : ∃ nx, execCampaignReportWindowEnd h s = .next nx := by
  unfold execCampaignReportWindowEnd
  repeat' first | exact ⟨_, by with_reducible rfl⟩ | dsimp only | split
theorem execCampaignActivateSend_next (h : Nat) (s : State) : ∃ nx, execCampaignActivateSend h s = .next nx := by
  unfold execCampaignActivateSend
  repeat' first | exact ⟨_, by with_reducible rfl⟩ | dsimp only | split
theorem execCampaignPause_next (c : Cmd) (num : Nat) (s : State) : ∃ nx, execCampaignPause c num s = .next nx := by
  unfold execCampaignPause
  repeat' first | exact ⟨_, by with_reducible rfl⟩ | dsimp only | split
theorem execCampaignResume_next (c : Cmd) (num : Nat) (s : State) : ∃ nx, execCampaignResume c num s = .next nx := by
  unfold execCampaignResume
  repeat' first | exact ⟨_, by with_reducible rfl⟩ | dsimp only | split
theorem execCampaignAbort_next (c : Cmd) (num : Nat) (s : State) : ∃ nx, execCampaignAbort c num s = .next nx := by
  unfold execCampaignAbort
  repeat' first | exact ⟨_, by with_reducible rfl⟩ | dsimp only | split
theorem execCampStatusRead_next (r : Req) (h : Nat) (s : State) : ∃ nx, execCampStatusRead r h s = .next nx := by
  unfold execCampStatusRead
  repeat' first
    | exact ⟨_, by with_reducible rfl⟩
    | with_reducible apply State.onBus_next
    | with_reducible apply State.onPriv_next
    | with_reducible apply State.onRead_next
    | dsimp only
    | split
theorem execSweepStart_next (c : Cmd) (rounds : Nat) (roundS : Nat) (ttl : Nat) (silent : Bool) (s : State) :
    ∃ nx, execSweepStart c rounds roundS ttl silent s = .next nx := by
  unfold execSweepStart
  repeat' first | exact ⟨_, by with_reducible rfl⟩ | dsimp only | split
theorem execSweepRoundStart_next (h : Nat) (s : State) : ∃ nx, execSweepRoundStart h s = .next nx := by
  unfold execSweepRoundStart
  repeat' first | exact ⟨_, by with_reducible rfl⟩ | dsimp only | split
theorem execSweepEnd_next (h : Nat) (s : State) : ∃ nx, execSweepEnd h s = .next nx := by
  unfold execSweepEnd
  repeat' first | exact ⟨_, by with_reducible rfl⟩ | dsimp only | split
theorem execSweepRead_next (c : Cmd) (first : Nat) (count : Nat) (addr : Nat) (s : State) : ∃ nx, execSweepRead c first count addr s = .next nx := by
  unfold execSweepRead
  repeat' first | exact ⟨_, by with_reducible rfl⟩ | dsimp only | split
theorem execProgLoad_next (c : Cmd) (off : Nat) (len : Nat) (good : Bool) (s : State) : ∃ nx, execProgLoad c off len good s = .next nx := by
  unfold execProgLoad
  repeat' first | exact ⟨_, by with_reducible rfl⟩ | dsimp only | split
theorem execProgStop_next (c : Cmd) (s : State) : ∃ nx, execProgStop c s = .next nx := ⟨_, rfl⟩
theorem execProgSignal_next (c : Cmd) (mask : Nat) (s : State) : ∃ nx, execProgSignal c mask s = .next nx := by
  unfold execProgSignal
  repeat' first | exact ⟨_, by with_reducible rfl⟩ | dsimp only | split
theorem execEnghGrantWrite_next (r : Req) (h : Nat) (off : Nat) (v : Nat) (s : State) : ∃ nx, execEnghGrantWrite r h off v s = .next nx := by
  unfold execEnghGrantWrite
  repeat' first
    | exact ⟨_, by with_reducible rfl⟩
    | with_reducible apply State.onBus_next
    | with_reducible apply State.onPriv_next
    | with_reducible apply State.onRead_next
    | dsimp only
    | split
theorem execIncarnationWalkEnd_next (e : Nat) (s : State) : ∃ nx, execIncarnationWalkEnd e s = .next nx := by
  unfold execIncarnationWalkEnd
  repeat' first | exact ⟨_, by with_reducible rfl⟩ | dsimp only | split
theorem execMeterCommit_next (r : Req) (m : Nat) (v : Nat) (s : State) : ∃ nx, execMeterCommit r m v s = .next nx := by
  unfold execMeterCommit
  repeat' first
    | exact ⟨_, by with_reducible rfl⟩
    | with_reducible apply State.onBus_next
    | with_reducible apply State.onPriv_next
    | with_reducible apply State.onRead_next
    | dsimp only
    | split
theorem execShaperCommit_next (r : Req) (n : Nat) (v : Nat) (s : State) : ∃ nx, execShaperCommit r n v s = .next nx := by
  unfold execShaperCommit
  repeat' first
    | exact ⟨_, by with_reducible rfl⟩
    | with_reducible apply State.onBus_next
    | with_reducible apply State.onPriv_next
    | with_reducible apply State.onRead_next
    | dsimp only
    | split
theorem execShaperUnblock_next (n : Nat) (s : State) : ∃ nx, execShaperUnblock n s = .next nx := ⟨_, rfl⟩
theorem execOutputRequest_next (o : Nat) (s : State) : ∃ nx, execOutputRequest o s = .next nx := by
  unfold execOutputRequest
  repeat' first | exact ⟨_, by with_reducible rfl⟩ | dsimp only | split
theorem execQueueEligible_next (q : Nat) (s : State) : ∃ nx, execQueueEligible q s = .next nx := ⟨_, rfl⟩
theorem execExpirySweep_next (s : State) : ∃ nx, execExpirySweep s = .next nx := ⟨_, rfl⟩
theorem execWatchSample_next (w : Nat) (s : State) : ∃ nx, execWatchSample w s = .next nx := by
  unfold execWatchSample
  repeat' first | exact ⟨_, by with_reducible rfl⟩ | dsimp only | split
theorem execQprobeSelWrite_next (r : Req) (i : Nat) (v : Nat) (s : State) : ∃ nx, execQprobeSelWrite r i v s = .next nx := by
  unfold execQprobeSelWrite
  repeat' first
    | exact ⟨_, by with_reducible rfl⟩
    | with_reducible apply State.onBus_next
    | with_reducible apply State.onPriv_next
    | with_reducible apply State.onRead_next
    | dsimp only
    | split
theorem execQprobeGroupWrite_next (r : Req) (i : Nat) (v : Nat) (s : State) : ∃ nx, execQprobeGroupWrite r i v s = .next nx := by
  unfold execQprobeGroupWrite
  repeat' first
    | exact ⟨_, by with_reducible rfl⟩
    | with_reducible apply State.onBus_next
    | with_reducible apply State.onPriv_next
    | with_reducible apply State.onRead_next
    | dsimp only
    | split
theorem execQueueCfg_next (c : Cmd) (e : Nat) (group : Nat) (s : State) : ∃ nx, execQueueCfg c e group s = .next nx := by
  unfold execQueueCfg
  repeat' first | exact ⟨_, by with_reducible rfl⟩ | dsimp only | split
theorem execTmhCtlWrite_next (r : Req) (h : Nat) (v : Nat) (s : State) : ∃ nx, execTmhCtlWrite r h v s = .next nx := by
  unfold execTmhCtlWrite
  repeat' first
    | exact ⟨_, by with_reducible rfl⟩
    | with_reducible apply State.onBus_next
    | with_reducible apply State.onPriv_next
    | with_reducible apply State.onRead_next
    | dsimp only
    | split
theorem execCellQuotaWrite_next (r : Req) (h : Nat) (v : Nat) (s : State) : ∃ nx, execCellQuotaWrite r h v s = .next nx := by
  unfold execCellQuotaWrite
  repeat' first
    | exact ⟨_, by with_reducible rfl⟩
    | with_reducible apply State.onBus_next
    | with_reducible apply State.onPriv_next
    | with_reducible apply State.onRead_next
    | dsimp only
    | split
theorem execFifoCfgWrite_next (r : Req) (f : Nat) (off : Nat) (v : Nat) (s : State) : ∃ nx, execFifoCfgWrite r f off v s = .next nx := by
  unfold execFifoCfgWrite
  repeat' first
    | exact ⟨_, by with_reducible rfl⟩
    | with_reducible apply State.onBus_next
    | with_reducible apply State.onPriv_next
    | with_reducible apply State.onRead_next
    | dsimp only
    | split
theorem execFifoPtrCheck_next (f : Nat) (same : Bool) (s : State) : ∃ nx, execFifoPtrCheck f same s = .next nx := by
  unfold execFifoPtrCheck
  repeat' first | exact ⟨_, by with_reducible rfl⟩ | dsimp only | split
theorem execHbindWrite_next (r : Req) (h : Nat) (off : Nat) (v : Nat) (s : State) : ∃ nx, execHbindWrite r h off v s = .next nx := by
  unfold execHbindWrite
  repeat' first
    | exact ⟨_, by with_reducible rfl⟩
    | with_reducible apply State.onBus_next
    | with_reducible apply State.onPriv_next
    | with_reducible apply State.onRead_next
    | dsimp only
    | split
theorem execPcieFlr_next (f : Nat) (s : State) : ∃ nx, execPcieFlr f s = .next nx := by
  unfold execPcieFlr
  repeat' first | exact ⟨_, by with_reducible rfl⟩ | dsimp only | split
theorem execPciePerst_next (p : Nat) (width : Nat) (speed : Nat) (pol : Nat) (s : State) : ∃ nx, execPciePerst p width speed pol s = .next nx := by
  unfold execPciePerst
  repeat' first | exact ⟨_, by with_reducible rfl⟩ | dsimp only | split
theorem execBusMasterChange_next (f : Nat) (on : Bool) (s : State) : ∃ nx, execBusMasterChange f on s = .next nx := by
  unfold execBusMasterChange
  repeat' first | exact ⟨_, by with_reducible rfl⟩ | dsimp only | split
theorem execDmaError_next (i : Nat) (s : State) : ∃ nx, execDmaError i s = .next nx := by
  unfold execDmaError
  repeat' first | exact ⟨_, by with_reducible rfl⟩ | dsimp only | split
theorem execCmdDoorbell_next (r : Req) (i : Nat) (v : Nat) (s : State) : ∃ nx, execCmdDoorbell r i v s = .next nx := by
  unfold execCmdDoorbell
  repeat' first
    | exact ⟨_, by with_reducible rfl⟩
    | with_reducible apply State.onBus_next
    | with_reducible apply State.onPriv_next
    | with_reducible apply State.onRead_next
    | dsimp only
    | split
theorem execRxDoorbell_next (r : Req) (i : Nat) (v : Nat) (s : State) : ∃ nx, execRxDoorbell r i v s = .next nx := by
  unfold execRxDoorbell
  repeat' first
    | exact ⟨_, by with_reducible rfl⟩
    | with_reducible apply State.onBus_next
    | with_reducible apply State.onPriv_next
    | with_reducible apply State.onRead_next
    | dsimp only
    | split
theorem execCplDoorbell_next (r : Req) (i : Nat) (v : Nat) (s : State) : ∃ nx, execCplDoorbell r i v s = .next nx := by
  unfold execCplDoorbell
  repeat' first
    | exact ⟨_, by with_reducible rfl⟩
    | with_reducible apply State.onBus_next
    | with_reducible apply State.onPriv_next
    | with_reducible apply State.onRead_next
    | dsimp only
    | split
theorem execEvDoorbell_next (r : Req) (i : Nat) (v : Nat) (s : State) : ∃ nx, execEvDoorbell r i v s = .next nx := by
  unfold execEvDoorbell
  repeat' first
    | exact ⟨_, by with_reducible rfl⟩
    | with_reducible apply State.onBus_next
    | with_reducible apply State.onPriv_next
    | with_reducible apply State.onRead_next
    | dsimp only
    | split
theorem execRingCtlWrite_next (r : Req) (i : Nat) (v : Nat) (s : State) : ∃ nx, execRingCtlWrite r i v s = .next nx := by
  unfold execRingCtlWrite
  repeat' first
    | exact ⟨_, by with_reducible rfl⟩
    | with_reducible apply State.onBus_next
    | with_reducible apply State.onPriv_next
    | with_reducible apply State.onRead_next
    | dsimp only
    | split
theorem execCmdRingDrainDone_next (i : Nat) (s : State) : ∃ nx, execCmdRingDrainDone i s = .next nx := ⟨_, rfl⟩
theorem execIrqCoalesceTimeout_next (i : Nat) (v : Nat) (s : State) : ∃ nx, execIrqCoalesceTimeout i v s = .next nx := by
  unfold execIrqCoalesceTimeout
  repeat' first | exact ⟨_, by with_reducible rfl⟩ | dsimp only | split
theorem execCommandFetch_next (src : Nat) (s : State) : ∃ nx, execCommandFetch src s = .next nx := by
  unfold execCommandFetch
  repeat' first | exact ⟨_, by with_reducible rfl⟩ | dsimp only | split
theorem execStewardServe_next (s : State) : ∃ nx, execStewardServe s = .next nx := by
  unfold execStewardServe
  repeat' first | exact ⟨_, by with_reducible rfl⟩ | dsimp only | split
theorem execSend_next (c : Cmd) (eui : Nat) (entry : Nat) (life : Nat) (len : Nat) (mode : Nat) (power : Nat) (cls : Nat) (flags : Nat) (addr : Nat) (inline : List Nat) (s : State) :
    ∃ nx, execSend c eui entry life len mode power cls flags addr inline s = .next nx := by
  unfold execSend
  repeat' first | exact ⟨_, by with_reducible rfl⟩ | dsimp only | split
theorem execFlood_next (c : Cmd) (final : Nat) (life : Nat) (len : Nat) (cls : Nat) (flags : Nat) (addr : Nat) (inline : List Nat) (s : State) :
    ∃ nx, execFlood c final life len cls flags addr inline s = .next nx := by
  unfold execFlood
  repeat' first | exact ⟨_, by with_reducible rfl⟩ | dsimp only | split
theorem execNop_next (c : Cmd) (s : State) : ∃ nx, execNop c s = .next nx := ⟨_, rfl⟩
theorem execMemWrite_next (c : Cmd) (addr : Nat) (off : Nat) (len : Nat) (s : State) : ∃ nx, execMemWrite c addr off len s = .next nx := by
  unfold execMemWrite
  repeat' first | exact ⟨_, by with_reducible rfl⟩ | dsimp only | split
theorem execMemRead_next (c : Cmd) (addr : Nat) (off : Nat) (len : Nat) (s : State) : ∃ nx, execMemRead c addr off len s = .next nx := by
  unfold execMemRead
  repeat' first | exact ⟨_, by with_reducible rfl⟩ | dsimp only | split
theorem execWatchRead_next (c : Cmd) (w : Nat) (first : Nat) (count : Nat) (addr : Nat) (s : State) :
    ∃ nx, execWatchRead c w first count addr s = .next nx := by
  unfold execWatchRead
  repeat' first | exact ⟨_, by with_reducible rfl⟩ | dsimp only | split
theorem execHedgeReset_next (c : Cmd) (h : Nat) (s : State) : ∃ nx, execHedgeReset c h s = .next nx := by
  unfold execHedgeReset
  repeat' first | exact ⟨_, by with_reducible rfl⟩ | dsimp only | split
theorem execEvBacklogDrain_next (h : Nat) (s : State) : ∃ nx, execEvBacklogDrain h s = .next nx := ⟨_, rfl⟩
theorem execRxPlace_next (h : Nat) (s : State) : ∃ nx, execRxPlace h s = .next nx := by
  unfold execRxPlace
  repeat' first | exact ⟨_, by with_reducible rfl⟩ | dsimp only | split
theorem execRxHoldExpire_next (h : Nat) (s : State) : ∃ nx, execRxHoldExpire h s = .next nx := by
  unfold execRxHoldExpire
  repeat' first | exact ⟨_, by with_reducible rfl⟩ | dsimp only | split
theorem execRxLossReport_next (h : Nat) (s : State) : ∃ nx, execRxLossReport h s = .next nx := by
  unfold execRxLossReport
  repeat' first | exact ⟨_, by with_reducible rfl⟩ | dsimp only | split
theorem execHosthHresetWrite_next (r : Req) (h : Nat) (v : Nat) (s : State) : ∃ nx, execHosthHresetWrite r h v s = .next nx := by
  unfold execHosthHresetWrite
  repeat' first
    | exact ⟨_, by with_reducible rfl⟩
    | with_reducible apply State.onBus_next
    | with_reducible apply State.onPriv_next
    | with_reducible apply State.onRead_next
    | dsimp only
    | split
theorem execHbindHresetWrite_next (r : Req) (h : Nat) (s : State) : ∃ nx, execHbindHresetWrite r h s = .next nx := by
  unfold execHbindHresetWrite
  repeat' first
    | exact ⟨_, by with_reducible rfl⟩
    | with_reducible apply State.onBus_next
    | with_reducible apply State.onPriv_next
    | with_reducible apply State.onRead_next
    | dsimp only
    | split
theorem execCntClrDiscard_next (r : Req) (i : Nat) (v : Nat) (s : State) : ∃ nx, execCntClrDiscard r i v s = .next nx := by
  unfold execCntClrDiscard
  repeat' first
    | exact ⟨_, by with_reducible rfl⟩
    | with_reducible apply State.onBus_next
    | with_reducible apply State.onPriv_next
    | with_reducible apply State.onRead_next
    | dsimp only
    | split
theorem execTunCmdMsg_next (h : Nat) (port : Nat) (p : List Nat) (s : State) : ∃ nx, execTunCmdMsg h port p s = .next nx := by
  unfold execTunCmdMsg
  repeat' first | exact ⟨_, by with_reducible rfl⟩ | dsimp only | split
theorem execTunCreditMsg_next (h : Nat) (port : Nat) (p : List Nat) (s : State) : ∃ nx, execTunCreditMsg h port p s = .next nx := by
  unfold execTunCreditMsg
  repeat' first | exact ⟨_, by with_reducible rfl⟩ | dsimp only | split
theorem execTunAckMsg_next (h : Nat) (port : Nat) (p : List Nat) (s : State) : ∃ nx, execTunAckMsg h port p s = .next nx := ⟨_, rfl⟩
theorem execTunKeepaliveMsg_next (h : Nat) (port : Nat) (p : List Nat) (s : State) : ∃ nx, execTunKeepaliveMsg h port p s = .next nx := ⟨_, rfl⟩
theorem execTunStartMsg_next (h : Nat) (port : Nat) (p : List Nat) (s : State) : ∃ nx, execTunStartMsg h port p s = .next nx := by
  unfold execTunStartMsg
  repeat' first | exact ⟨_, by with_reducible rfl⟩ | dsimp only | split
theorem execTunNeighborSolicit_next (port : Nat) (ip6 : Nat) (s : State) : ∃ nx, execTunNeighborSolicit port ip6 s = .next nx := by
  unfold execTunNeighborSolicit
  repeat' first | exact ⟨_, by with_reducible rfl⟩ | dsimp only | split
theorem execTunResendTimeout_next (h : Nat) (s : State) : ∃ nx, execTunResendTimeout h s = .next nx := by
  unfold execTunResendTimeout
  repeat' first | exact ⟨_, by with_reducible rfl⟩ | dsimp only | split
theorem execTunSilenceTimeout_next (h : Nat) (s : State) : ∃ nx, execTunSilenceTimeout h s = .next nx := ⟨_, rfl⟩
theorem execTunKeepaliveSend_next (h : Nat) (s : State) : ∃ nx, execTunKeepaliveSend h s = .next nx := ⟨_, rfl⟩
theorem execHedgeResetEnd_next (h : Nat) (s : State) : ∃ nx, execHedgeResetEnd h s = .next nx := ⟨_, rfl⟩
theorem execTwinCfgEnWrite_next (r : Req) (v : Nat) (lanes : Nat) (s : State) : ∃ nx, execTwinCfgEnWrite r v lanes s = .next nx := by
  unfold execTwinCfgEnWrite
  repeat' first
    | exact ⟨_, by with_reducible rfl⟩
    | with_reducible apply State.onBus_next
    | with_reducible apply State.onPriv_next
    | with_reducible apply State.onRead_next
    | dsimp only
    | split
theorem execTwinHelloRx_next (eui : Nat) (prefer : Nat) (role : Nat) (schema : Nat) (same : Bool) (s : State) :
    ∃ nx, execTwinHelloRx eui prefer role schema same s = .next nx := by
  unfold execTwinHelloRx
  repeat' first | exact ⟨_, by with_reducible rfl⟩ | dsimp only | split
theorem execTwinHelloTimeout_next (s : State) : ∃ nx, execTwinHelloTimeout s = .next nx := ⟨_, rfl⟩
theorem execTwinHeartbeatSend_next (s : State) : ∃ nx, execTwinHeartbeatSend s = .next nx := ⟨_, rfl⟩
theorem execTwinLinkSilent_next (s : State) : ∃ nx, execTwinLinkSilent s = .next nx := ⟨_, rfl⟩
theorem execTwinLinkUp_next (s : State) : ∃ nx, execTwinLinkUp s = .next nx := ⟨_, rfl⟩
theorem execTwinHbSilent_next (s : State) : ∃ nx, execTwinHbSilent s = .next nx := ⟨_, rfl⟩
theorem execPartnerFaultAssert_next (s : State) : ∃ nx, execPartnerFaultAssert s = .next nx := ⟨_, rfl⟩
theorem execPartnerFaultRelease_next (s : State) : ∃ nx, execPartnerFaultRelease s = .next nx := ⟨_, rfl⟩
theorem execTwinCmdTakeover_next (r : Req) (s : State) : ∃ nx, execTwinCmdTakeover r s = .next nx := by
  unfold execTwinCmdTakeover
  repeat' first
    | exact ⟨_, by with_reducible rfl⟩
    | with_reducible apply State.onBus_next
    | with_reducible apply State.onPriv_next
    | with_reducible apply State.onRead_next
    | dsimp only
    | split
theorem execTwinDemotionRx_next (cause : Nat) (s : State) : ∃ nx, execTwinDemotionRx cause s = .next nx := by
  unfold execTwinDemotionRx
  repeat' first | exact ⟨_, by with_reducible rfl⟩ | dsimp only | split
theorem execSnapshotCapture_next (late : Bool) (ofs : Int) (s : State) : ∃ nx, execSnapshotCapture late ofs s = .next nx := by
  unfold execSnapshotCapture
  repeat' first | exact ⟨_, by with_reducible rfl⟩ | dsimp only | split
theorem execSnapshotApply_next (x : TwinSnap) (ofs : Int) (s : State) : ∃ nx, execSnapshotApply x ofs s = .next nx := by
  unfold execSnapshotApply
  repeat' first | exact ⟨_, by with_reducible rfl⟩ | dsimp only | split
theorem execTwinCounterRecordRx_next (h : Nat) (e : Nat) (counter : Nat) (s : State) : ∃ nx, execTwinCounterRecordRx h e counter s = .next nx := by
  unfold execTwinCounterRecordRx
  repeat' first | exact ⟨_, by with_reducible rfl⟩ | dsimp only | split
theorem execTwinCmdSwitch_next (r : Req) (s : State) : ∃ nx, execTwinCmdSwitch r s = .next nx := by
  unfold execTwinCmdSwitch
  repeat' first
    | exact ⟨_, by with_reducible rfl⟩
    | with_reducible apply State.onBus_next
    | with_reducible apply State.onPriv_next
    | with_reducible apply State.onRead_next
    | dsimp only
    | split
theorem execTwinDualActive_next (at_ : Nat) (s : State) : ∃ nx, execTwinDualActive at_ s = .next nx := by
  unfold execTwinDualActive
  repeat' first | exact ⟨_, by with_reducible rfl⟩ | dsimp only | split
theorem execTwinCmdLoop_next (r : Req) (ok : List Bool) (s : State) : ∃ nx, execTwinCmdLoop r ok s = .next nx := by
  unfold execTwinCmdLoop
  repeat' first
    | exact ⟨_, by with_reducible rfl⟩
    | with_reducible apply State.onBus_next
    | with_reducible apply State.onPriv_next
    | with_reducible apply State.onRead_next
    | dsimp only
    | split
theorem execTwinLoopTest_next (ok : List Bool) (s : State) : ∃ nx, execTwinLoopTest ok s = .next nx := ⟨_, rfl⟩
theorem execPrpFrameRx_next (port : Nat) (source : Nat) (seq : Nat) (lanB : Bool) (sup : Bool) (s : State) :
    ∃ nx, execPrpFrameRx port source seq lanB sup s = .next nx := by
  unfold execPrpFrameRx
  repeat' first | exact ⟨_, by with_reducible rfl⟩ | dsimp only | split
theorem execPrpSupSend_next (s : State) : ∃ nx, execPrpSupSend s = .next nx := by
  unfold execPrpSupSend
  repeat' first | exact ⟨_, by with_reducible rfl⟩ | dsimp only | split
theorem execPrpSupTimeout_next (port : Nat) (s : State) : ∃ nx, execPrpSupTimeout port s = .next nx := by
  unfold execPrpSupTimeout
  repeat' first | exact ⟨_, by with_reducible rfl⟩ | dsimp only | split
theorem execCalSaveTuner_next (r : Req) (ports : Nat) (s : State) : ∃ nx, execCalSaveTuner r ports s = .next nx := by
  unfold execCalSaveTuner
  repeat' first
    | exact ⟨_, by with_reducible rfl⟩
    | with_reducible apply State.onBus_next
    | with_reducible apply State.onPriv_next
    | with_reducible apply State.onRead_next
    | dsimp only
    | split
theorem execCalExport_next (c : Cmd) (addr : Nat) (s : State) : ∃ nx, execCalExport c addr s = .next nx := ⟨_, rfl⟩
theorem execCalRestore_next (c : Cmd) (addr : Nat) (mask : Nat) (foreign : Bool) (s : State) :
    ∃ nx, execCalRestore c addr mask foreign s = .next nx := by
  unfold execCalRestore
  repeat' first | exact ⟨_, by with_reducible rfl⟩ | dsimp only | split
theorem execBootImageWrite_next (c : Cmd) (addr : Nat) (len : Nat) (activate : Bool) (slot : Nat) (s : State) :
    ∃ nx, execBootImageWrite c addr len activate slot s = .next nx := by
  unfold execBootImageWrite
  repeat' first | exact ⟨_, by with_reducible rfl⟩ | dsimp only | split
theorem execBootFlashWriteDone_next (s : State) : ∃ nx, execBootFlashWriteDone s = .next nx := by
  unfold execBootFlashWriteDone
  repeat' first | exact ⟨_, by with_reducible rfl⟩ | dsimp only | split
theorem execPowerOn_next (s : State) : ∃ nx, execPowerOn s = .next nx := ⟨_, rfl⟩
theorem execPorNLow_next (ns : Nat) (take : Bool) (s : State) : ∃ nx, execPorNLow ns take s = .next nx := ⟨_, rfl⟩
theorem execResetNLow_next (ns : Nat) (take : Bool) (s : State) : ∃ nx, execResetNLow ns take s = .next nx := ⟨_, rfl⟩
theorem execSupplyLow_next (s : State) : ∃ nx, execSupplyLow s = .next nx := ⟨_, rfl⟩
theorem execThermalTrip_next (s : State) : ∃ nx, execThermalTrip s = .next nx := by
  unfold execThermalTrip
  repeat' first | exact ⟨_, by with_reducible rfl⟩ | dsimp only | split
theorem execThermalHoldEnd_next (s : State) : ∃ nx, execThermalHoldEnd s = .next nx := ⟨_, rfl⟩
theorem execStewardWdogExpire_next (s : State) : ∃ nx, execStewardWdogExpire s = .next nx := ⟨_, rfl⟩
theorem execRstCmdSystem_next (r : Req) (s : State) : ∃ nx, execRstCmdSystem r s = .next nx := by
  unfold execRstCmdSystem
  repeat' first
    | exact ⟨_, by with_reducible rfl⟩
    | with_reducible apply State.onBus_next
    | with_reducible apply State.onPriv_next
    | with_reducible apply State.onRead_next
    | dsimp only
    | split
theorem execRstCmdCore_next (r : Req) (s : State) : ∃ nx, execRstCmdCore r s = .next nx := by
  unfold execRstCmdCore
  repeat' first
    | exact ⟨_, by with_reducible rfl⟩
    | with_reducible apply State.onBus_next
    | with_reducible apply State.onPriv_next
    | with_reducible apply State.onRead_next
    | dsimp only
    | split
theorem execResetRelease_next (x : BootIn) (s : State) : ∃ nx, execResetRelease x s = .next nx := by
  unfold execResetRelease
  repeat' first | exact ⟨_, by with_reducible rfl⟩ | dsimp only | split
theorem execRecovGo_next (r : Req) (x : BootIn) (s : State) : ∃ nx, execRecovGo r x s = .next nx := by
  unfold execRecovGo
  repeat' first
    | exact ⟨_, by with_reducible rfl⟩
    | with_reducible apply State.onBus_next
    | with_reducible apply State.onPriv_next
    | with_reducible apply State.onRead_next
    | dsimp only
    | split
theorem execBootConfirm_next (r : Req) (s : State) : ∃ nx, execBootConfirm r s = .next nx := by
  unfold execBootConfirm
  repeat' first
    | exact ⟨_, by with_reducible rfl⟩
    | with_reducible apply State.onBus_next
    | with_reducible apply State.onPriv_next
    | with_reducible apply State.onRead_next
    | dsimp only
    | split
theorem execCoreReset_next (stewardOk : Bool) (runtimeOk : Bool) (progOk : Nat) (lanesOk : Nat) (aesOk : Nat) (decOk : Nat) (portsOk : Nat) (s : State) :
    ∃ nx, execCoreReset stewardOk runtimeOk progOk lanesOk aesOk decOk portsOk s = .next nx := by
  unfold execCoreReset
  repeat' first | exact ⟨_, by with_reducible rfl⟩ | dsimp only | split
theorem execCalTrigSet_next (c : Cmd) (n : Nat) (rep : Nat) (due : List Nat) (s : State) : ∃ nx, execCalTrigSet c n rep due s = .next nx := by
  unfold execCalTrigSet
  repeat' first | exact ⟨_, by with_reducible rfl⟩ | dsimp only | split
theorem execCalTrigClr_next (c : Cmd) (n : Nat) (s : State) : ∃ nx, execCalTrigClr c n s = .next nx := by
  unfold execCalTrigClr
  repeat' first | exact ⟨_, by with_reducible rfl⟩ | dsimp only | split
theorem execTriggerEventPost_next (n : Nat) (s : State) : ∃ nx, execTriggerEventPost n s = .next nx := by
  unfold execTriggerEventPost
  repeat' first | exact ⟨_, by with_reducible rfl⟩ | dsimp only | split
theorem execMissedTriggersPost_next (h : Nat) (s : State) : ∃ nx, execMissedTriggersPost h s = .next nx := by
  unfold execMissedTriggersPost
  repeat' first | exact ⟨_, by with_reducible rfl⟩ | dsimp only | split
theorem execRtcSecond_next (s : State) : ∃ nx, execRtcSecond s = .next nx := by
  unfold execRtcSecond
  repeat' first | exact ⟨_, by with_reducible rfl⟩ | dsimp only | split
theorem execOscStopDetect_next (s : State) : ∃ nx, execOscStopDetect s = .next nx := ⟨_, rfl⟩
theorem execRtcTimeRead_next (r : Req) (k : Nat) (s : State) : ∃ nx, execRtcTimeRead r k s = .next nx := by
  unfold execRtcTimeRead
  repeat' first
    | exact ⟨_, by with_reducible rfl⟩
    | with_reducible apply State.onBus_next
    | with_reducible apply State.onPriv_next
    | with_reducible apply State.onRead_next
    | dsimp only
    | split
theorem execRtcThawTimeout_next (r : Req) (s : State) : ∃ nx, execRtcThawTimeout r s = .next nx := ⟨_, rfl⟩
theorem execRtcHaltWrite_next (r : Req) (v : Nat) (s : State) : ∃ nx, execRtcHaltWrite r v s = .next nx := by
  unfold execRtcHaltWrite
  repeat' first
    | exact ⟨_, by with_reducible rfl⟩
    | with_reducible apply State.onBus_next
    | with_reducible apply State.onPriv_next
    | with_reducible apply State.onRead_next
    | dsimp only
    | split
theorem execRtcTimeWrite_next (r : Req) (k : Nat) (v : Nat) (s : State) : ∃ nx, execRtcTimeWrite r k v s = .next nx := by
  unfold execRtcTimeWrite
  repeat' first
    | exact ⟨_, by with_reducible rfl⟩
    | with_reducible apply State.onBus_next
    | with_reducible apply State.onPriv_next
    | with_reducible apply State.onRead_next
    | dsimp only
    | split
theorem execRtcAutoSet_next (s : State) : ∃ nx, execRtcAutoSet s = .next nx := by
  unfold execRtcAutoSet
  repeat' first | exact ⟨_, by with_reducible rfl⟩ | dsimp only | split
theorem execPwronLevelWrite_next (r : Req) (v : Nat) (s : State) : ∃ nx, execPwronLevelWrite r v s = .next nx := by
  unfold execPwronLevelWrite
  repeat' first
    | exact ⟨_, by with_reducible rfl⟩
    | with_reducible apply State.onBus_next
    | with_reducible apply State.onPriv_next
    | with_reducible apply State.onRead_next
    | dsimp only
    | split
theorem execBackupReset_next (s : State) : ∃ nx, execBackupReset s = .next nx := by
  unfold execBackupReset
  repeat' first | exact ⟨_, by with_reducible rfl⟩ | dsimp only | split
theorem execBackupSupplySwitch_next (vbat : Bool) (s : State) : ∃ nx, execBackupSupplySwitch vbat s = .next nx := ⟨_, rfl⟩
theorem execVbatLowDetect_next (low : Bool) (s : State) : ∃ nx, execVbatLowDetect low s = .next nx := ⟨_, rfl⟩
theorem execRefclkLoss_next (s : State) : ∃ nx, execRefclkLoss s = .next nx := ⟨_, rfl⟩
theorem execPllUnlock_next (s : State) : ∃ nx, execPllUnlock s = .next nx := ⟨_, rfl⟩
theorem execRefclkRestored_next (s : State) : ∃ nx, execRefclkRestored s = .next nx := ⟨_, rfl⟩
theorem execClockDupMismatch_next (s : State) : ∃ nx, execClockDupMismatch s = .next nx := ⟨_, rfl⟩
theorem execStewardLockstepMismatch_next (s : State) : ∃ nx, execStewardLockstepMismatch s = .next nx := ⟨_, rfl⟩
theorem execMemoryEccError_next (at_ : EccAt) (corrected : Bool) (s : State) : ∃ nx, execMemoryEccError at_ corrected s = .next nx := by
  unfold execMemoryEccError
  repeat' first | exact ⟨_, by with_reducible rfl⟩ | dsimp only | split
theorem execSramScrub_next (errs : List (Nat × Bool)) (s : State) : ∃ nx, execSramScrub errs s = .next nx := ⟨_, rfl⟩
theorem execDramScrub_next (k : Nat) (errs : List (Nat × Bool)) (s : State) : ∃ nx, execDramScrub k errs s = .next nx := by
  unfold execDramScrub
  repeat' first | exact ⟨_, by with_reducible rfl⟩ | dsimp only | split
theorem execDramProbe_next (ok0 : Bool) (ok1 : Bool) (s : State) : ∃ nx, execDramProbe ok0 ok1 s = .next nx := ⟨_, rfl⟩
theorem execEngineBist_next (e : Nat) (ok : Bool) (s : State) : ∃ nx, execEngineBist e ok s = .next nx := ⟨_, rfl⟩
theorem execAdcSubconvCheck_next (p : Nat) (ok : Bool) (s : State) : ∃ nx, execAdcSubconvCheck p ok s = .next nx := ⟨_, rfl⟩
theorem execRxSynthLockLost_next (n : Nat) (s : State) : ∃ nx, execRxSynthLockLost n s = .next nx := by
  unfold execRxSynthLockLost
  repeat' first | exact ⟨_, by with_reducible rfl⟩ | dsimp only | split
theorem execLaneCheckerSlot_next (l : Nat) (ok : Bool) (s : State) : ∃ nx, execLaneCheckerSlot l ok s = .next nx := ⟨_, rfl⟩
theorem execLdpcKnownTest_next (k : Nat) (iters : Nat) (ok : Bool) (s : State) : ∃ nx, execLdpcKnownTest k iters ok s = .next nx := ⟨_, rfl⟩
theorem execCryptoKat_next (kind : CoreKind) (core : Nat) (ok : Bool) (last : Bool) (s : State) :
    ∃ nx, execCryptoKat kind core ok last s = .next nx := by
  unfold execCryptoKat
  repeat' first | exact ⟨_, by with_reducible rfl⟩ | dsimp only | split
theorem execFaultInject_next (r : Req) (s : State) : ∃ nx, execFaultInject r s = .next nx := by
  unfold execFaultInject
  repeat' first
    | exact ⟨_, by with_reducible rfl⟩
    | with_reducible apply State.onBus_next
    | with_reducible apply State.onPriv_next
    | with_reducible apply State.onRead_next
    | dsimp only
    | split
theorem execTamperSample_next (n : Nat) (high : Bool) (s : State) : ∃ nx, execTamperSample n high s = .next nx := by
  unfold execTamperSample
  repeat' first | exact ⟨_, by with_reducible rfl⟩ | dsimp only | split
theorem execRegWrite_next (r : Req) (off : Nat) (len : Nat) (v : Nat) (s : State) : ∃ nx, execRegWrite r off len v s = .next nx := ⟨_, rfl⟩
theorem execReg64LowRead_next (r : Req) (off : Nat) (s : State) : ∃ nx, execReg64LowRead r off s = .next nx := ⟨_, rfl⟩
theorem execRcFieldRead_next (r : Req) (off : Nat) (s : State) : ∃ nx, execRcFieldRead r off s = .next nx := ⟨_, rfl⟩
theorem execRegisterRead_next (r : Req) (off : Nat) (len : Nat) (s : State) : ∃ nx, execRegisterRead r off len s = .next nx := ⟨_, rfl⟩
theorem execExpertGWrite_next (r : Req) (v : Nat) (s : State) : ∃ nx, execExpertGWrite r v s = .next nx := ⟨_, rfl⟩
theorem execExpertHWrite_next (r : Req) (h : Nat) (v : Nat) (s : State) : ∃ nx, execExpertHWrite r h v s = .next nx := ⟨_, rfl⟩
theorem execExpertTakeEffect_next (i : Nat) (s : State) : ∃ nx, execExpertTakeEffect i s = .next nx := by
  unfold execExpertTakeEffect
  repeat' first | exact ⟨_, by with_reducible rfl⟩ | dsimp only | split
theorem execExpertReload_next (i : Nat) (s : State) : ∃ nx, execExpertReload i s = .next nx := by
  unfold execExpertReload
  repeat' first | exact ⟨_, by with_reducible rfl⟩ | dsimp only | split
theorem execLdb_next (g : Nat) (rd : BitVec 5) (ra : BitVec 5) (imm : BitVec 16) (s : State) : ∃ nx, execLdb g rd ra imm s = .next nx := ⟨_, rfl⟩
theorem execLdbu_next (g : Nat) (rd : BitVec 5) (ra : BitVec 5) (imm : BitVec 16) (s : State) : ∃ nx, execLdbu g rd ra imm s = .next nx := ⟨_, rfl⟩
theorem execLdh_next (g : Nat) (rd : BitVec 5) (ra : BitVec 5) (imm : BitVec 16) (s : State) : ∃ nx, execLdh g rd ra imm s = .next nx := ⟨_, rfl⟩
theorem execLdhu_next (g : Nat) (rd : BitVec 5) (ra : BitVec 5) (imm : BitVec 16) (s : State) : ∃ nx, execLdhu g rd ra imm s = .next nx := ⟨_, rfl⟩
theorem execLdw_next (g : Nat) (rd : BitVec 5) (ra : BitVec 5) (imm : BitVec 14) (s : State) : ∃ nx, execLdw g rd ra imm s = .next nx := ⟨_, rfl⟩
theorem execLdp_next (g : Nat) (rd : BitVec 5) (ra : BitVec 5) (imm : BitVec 14) (s : State) : ∃ nx, execLdp g rd ra imm s = .next nx := ⟨_, rfl⟩
theorem execStb_next (g : Nat) (rd : BitVec 5) (ra : BitVec 5) (imm : BitVec 16) (s : State) : ∃ nx, execStb g rd ra imm s = .next nx := ⟨_, rfl⟩
theorem execSth_next (g : Nat) (rd : BitVec 5) (ra : BitVec 5) (imm : BitVec 16) (s : State) : ∃ nx, execSth g rd ra imm s = .next nx := ⟨_, rfl⟩
theorem execStw_next (g : Nat) (rd : BitVec 5) (ra : BitVec 5) (imm : BitVec 14) (s : State) : ∃ nx, execStw g rd ra imm s = .next nx := ⟨_, rfl⟩
theorem execStp_next (g : Nat) (rd : BitVec 5) (ra : BitVec 5) (imm : BitVec 14) (s : State) : ∃ nx, execStp g rd ra imm s = .next nx := ⟨_, rfl⟩
theorem execAadd_next (g : Nat) (rd : BitVec 5) (ra : BitVec 5) (rb : BitVec 5) (sz : BitVec 2) (s : State) :
    ∃ nx, execAadd g rd ra rb sz s = .next nx := ⟨_, rfl⟩
theorem execAswp_next (g : Nat) (rd : BitVec 5) (ra : BitVec 5) (rb : BitVec 5) (sz : BitVec 2) (s : State) :
    ∃ nx, execAswp g rd ra rb sz s = .next nx := ⟨_, rfl⟩
theorem execAcas_next (g : Nat) (rd : BitVec 5) (ra : BitVec 5) (rb : BitVec 5) (sz : BitVec 2) (s : State) :
    ∃ nx, execAcas g rd ra rb sz s = .next nx := ⟨_, rfl⟩

end Sys2Proof.Machine
end

