-- ==== Sys2Proof/Laws/Dispatch.lean ====
section
/-!
SUPPORT. The dispatch, command by command: what exec calls, so that no proof unfolds exec itself.
-/

namespace Sys2Proof.Machine

open Sys2Proof

@[simp] theorem exec_regWrite (r : Req) (off len v : Nat) (s : State) : exec (.regWrite r off len v) s = execRegWrite r off len v s := rfl
@[simp] theorem exec_reg64LowRead (r : Req) (off : Nat) (s : State) : exec (.reg64LowRead r off) s = execReg64LowRead r off s := rfl
@[simp] theorem exec_rcFieldRead (r : Req) (off : Nat) (s : State) : exec (.rcFieldRead r off) s = execRcFieldRead r off s := rfl
@[simp] theorem exec_expertGWrite (r : Req) (v : Nat) (s : State) : exec (.expertGWrite r v) s = execExpertGWrite r v s := rfl
@[simp] theorem exec_expertHWrite (r : Req) (h v : Nat) (s : State) : exec (.expertHWrite r h v) s = execExpertHWrite r h v s := rfl
@[simp] theorem exec_expertTakeEffect (i : Nat) (s : State) : exec (.expertTakeEffect i) s = execExpertTakeEffect i s := rfl
@[simp] theorem exec_expertReload (i : Nat) (s : State) : exec (.expertReload i) s = execExpertReload i s := rfl
@[simp] theorem exec_nscCycle (s : State) : exec (.nscCycle) s = execNscCycle s := rfl
@[simp] theorem exec_slewCountExpire (s : State) : exec (.slewCountExpire) s = execSlewCountExpire s := rfl
@[simp] theorem exec_nscIncWrite (r : Req) (v : Nat) (s : State) : exec (.nscIncWrite r v) s = execNscIncWrite r v s := rfl
@[simp] theorem exec_nscNowNsRead (r : Req) (s : State) : exec (.nscNowNsRead r) s = execNscNowNsRead r s := rfl
@[simp] theorem exec_nscSet (r : Req) (s : State) : exec (.nscSet r) s = execNscSet r s := rfl
@[simp] theorem exec_nscStep (r : Req) (s : State) : exec (.nscStep r) s = execNscStep r s := rfl
@[simp] theorem exec_nscSlewCntWrite (r : Req) (v : Nat) (s : State) : exec (.nscSlewCntWrite r v) s = execNscSlewCntWrite r v s := rfl
@[simp] theorem exec_ppsEdge (levelUs : Nat) (s : State) : exec (.ppsEdge levelUs) s = execPpsEdge levelUs s := rfl
@[simp] theorem exec_ppsLossTimeout (s : State) : exec (.ppsLossTimeout) s = execPpsLossTimeout s := rfl
@[simp] theorem exec_ptpMsgRx (p : Nat) (m : PtpMsg) (s : State) : exec (.ptpMsgRx p m) s = execPtpMsgRx p m s := rfl
@[simp] theorem exec_ptpSyncTimeout (p : Nat) (s : State) : exec (.ptpSyncTimeout p) s = execPtpSyncTimeout p s := rfl
@[simp] theorem exec_ptCmpLowWrite (r : Req) (n v : Nat) (s : State) : exec (.ptCmpLowWrite r n v) s = execPtCmpLowWrite r n v s := rfl
@[simp] theorem exec_ptCtlWrite (r : Req) (n v : Nat) (s : State) : exec (.ptCtlWrite r n v) s = execPtCtlWrite r n v s := rfl
@[simp] theorem exec_ptReadinessCheck (n : Nat) (gnt : Bool) (s : State) : exec (.ptReadinessCheck n gnt) s = execPtReadinessCheck n gnt s := rfl
@[simp] theorem exec_ptFire (s : State) : exec (.ptFire) s = execPtFire s := rfl
@[simp] theorem exec_ptAlloc (c : Cmd) (s : State) : exec (.ptAlloc c) s = execPtAlloc c s := rfl
@[simp] theorem exec_ptFree (c : Cmd) (n : Nat) (s : State) : exec (.ptFree c n) s = execPtFree c n s := rfl
@[simp] theorem exec_cuEdge (source : Nat) (rising : Bool) (s : State) : exec (.cuEdge source rising) s = execCuEdge source rising s := rfl
@[simp] theorem exec_cuPop (r : Req) (n : Nat) (v : Nat) (s : State) : exec (.cuPop r n v) s = execCuPop r n v s := rfl
@[simp] theorem exec_beaconInterval (h : Nat) (s : State) : exec (.beaconInterval h) s = execBeaconInterval h s := rfl
@[simp] theorem exec_incarnationWalkEnd (e : Nat) (s : State) : exec (.incarnationWalkEnd e) s = execIncarnationWalkEnd e s := rfl
@[simp] theorem exec_joinTimeout (e : Nat) (s : State) : exec (.joinTimeout e) s = execJoinTimeout e s := rfl
@[simp] theorem exec_agingVisit (e : Nat) (s : State) : exec (.agingVisit e) s = execAgingVisit e s := rfl
@[simp] theorem exec_agingPassEnd (s : State) : exec (.agingPassEnd) s = execAgingPassEnd s := rfl
@[simp] theorem exec_revalDone (s : State) : exec (.revalDone) s = execRevalDone s := rfl
@[simp] theorem exec_entryHoldEnd (e : Nat) (s : State) : exec (.entryHoldEnd e) s = execEntryHoldEnd e s := rfl
@[simp] theorem exec_nodeInsert (c : Cmd) (b : NodeBlock) (s : State) : exec (.nodeInsert c b) s = execNodeInsert c b s := rfl
@[simp] theorem exec_nodeDelete (c : Cmd) (e : Nat) (s : State) : exec (.nodeDelete c e) s = execNodeDelete c e s := rfl
@[simp] theorem exec_nodeRead (c : Cmd) (e : Nat) (priv : Bool) (addr : Nat) (s : State) : exec (.nodeRead c e priv addr) s = execNodeRead c e priv addr s := rfl
@[simp] theorem exec_nodeUpdate (c : Cmd) (e mask short flags drift ap power meter addr : Nat) (s : State) : exec (.nodeUpdate c e mask short flags drift ap power meter addr) s = execNodeUpdate c e mask short flags drift ap power meter addr s := rfl
@[simp] theorem exec_nodePin (c : Cmd) (e : Nat) (s : State) : exec (.nodePin c e) s = execNodePin c e s := rfl
@[simp] theorem exec_nodeUnpin (c : Cmd) (e : Nat) (s : State) : exec (.nodeUnpin c e) s = execNodeUnpin c e s := rfl
@[simp] theorem exec_nodeTouch (c : Cmd) (e : Nat) (s : State) : exec (.nodeTouch c e) s = execNodeTouch c e s := rfl
@[simp] theorem exec_nodeList (c : Cmd) (st start addr : Nat) (s : State) : exec (.nodeList c st start addr) s = execNodeList c st start addr s := rfl
@[simp] theorem exec_thkQuotaWrite (r : Req) (h v : Nat) (s : State) : exec (.thkQuotaWrite r h v) s = execThkQuotaWrite r h v s := rfl
@[simp] theorem exec_agcWindowEnd (p : Nat) (peak : Int) (clipped : Bool) (s : State) : exec (.agcWindowEnd p peak clipped) s = execAgcWindowEnd p peak clipped s := rfl
@[simp] theorem exec_agcUpHoldExpire (p : Nat) (s : State) : exec (.agcUpHoldExpire p) s = execAgcUpHoldExpire p s := rfl
@[simp] theorem exec_agcThrWrite (r : Req) (p v : Nat) (s : State) : exec (.agcThrWrite r p v) s = execAgcThrWrite r p v s := rfl
@[simp] theorem exec_aprxCtlWrite (r : Req) (p v : Nat) (s : State) : exec (.aprxCtlWrite r p v) s = execAprxCtlWrite r p v s := rfl
@[simp] theorem exec_sliceFcWrite (r : Req) (n v : Nat) (s : State) : exec (.sliceFcWrite r n v) s = execSliceFcWrite r n v s := rfl
@[simp] theorem exec_loMhzWrite (r : Req) (p v : Nat) (s : State) : exec (.loMhzWrite r p v) s = execLoMhzWrite r p v s := rfl
@[simp] theorem exec_ddcWrite (r : Req) (d off v : Nat) (s : State) : exec (.ddcWrite r d off v) s = execDdcWrite r d off v s := rfl
@[simp] theorem exec_laneCfgWrite (r : Req) (l v : Nat) (s : State) : exec (.laneCfgWrite r l v) s = execLaneCfgWrite r l v s := rfl
@[simp] theorem exec_laneModesWrite (r : Req) (l v : Nat) (s : State) : exec (.laneModesWrite r l v) s = execLaneModesWrite r l v s := rfl
@[simp] theorem exec_sliceCtlWrite (r : Req) (n v : Nat) (s : State) : exec (.sliceCtlWrite r n v) s = execSliceCtlWrite r n v s := rfl
@[simp] theorem exec_mapPeriodEnd (n : Nat) (levels : List Int) (clipped : Bool) (s : State) : exec (.mapPeriodEnd n levels clipped) s = execMapPeriodEnd n levels clipped s := rfl
@[simp] theorem exec_mapStampRefresh (n : Nat) (s : State) : exec (.mapStampRefresh n) s = execMapStampRefresh n s := rfl
@[simp] theorem exec_sliceThrWrite (r : Req) (n v : Nat) (s : State) : exec (.sliceThrWrite r n v) s = execSliceThrWrite r n v s := rfl
@[simp] theorem exec_selfBlankStart (c : Nat) (s : State) : exec (.selfBlankStart c) s = execSelfBlankStart c s := rfl
@[simp] theorem exec_selfBlankEnd (c : Nat) (s : State) : exec (.selfBlankEnd c) s = execSelfBlankEnd c s := rfl
@[simp] theorem exec_syncDeclare (l g metric : Nat) (s : State) : exec (.syncDeclare l g metric) s = execSyncDeclare l g metric s := rfl
@[simp] theorem exec_laneHeaderEnd (l : Nat) (h : Header) (age : Nat) (s : State) : exec (.laneHeaderEnd l h age) s = execLaneHeaderEnd l h age s := rfl
@[simp] theorem exec_ldpcCwSubmit (x : CwIn) (s : State) : exec (.ldpcCwSubmit x) s = execLdpcCwSubmit x s := rfl
@[simp] theorem exec_ldpcDecodeStart (k : Nat) (s : State) : exec (.ldpcDecodeStart k) s = execLdpcDecodeStart k s := rfl
@[simp] theorem exec_ldpcDecodeDone (k iter word : Nat) (s : State) : exec (.ldpcDecodeDone k iter word) s = execLdpcDecodeDone k iter word s := rfl
@[simp] theorem exec_laneFrameEnd (l : Nat) (m : LaneMeasure) (s : State) : exec (.laneFrameEnd l m) s = execLaneFrameEnd l m s := rfl
@[simp] theorem exec_dupWinExpire (s : State) : exec (.dupWinExpire) s = execDupWinExpire s := rfl
@[simp] theorem exec_ldpcCfgWrite (r : Req) (off v : Nat) (s : State) : exec (.ldpcCfgWrite r off v) s = execLdpcCfgWrite r off v s := rfl
@[simp] theorem exec_ldpcDecEnWrite (r : Req) (v : Nat) (s : State) : exec (.ldpcDecEnWrite r v) s = execLdpcDecEnWrite r v s := rfl
@[simp] theorem exec_txcCtlWrite (r : Req) (c v : Nat) (s : State) : exec (.txcCtlWrite r c v) s = execTxcCtlWrite r c v s := rfl
@[simp] theorem exec_goReady (r : Req) (c : Nat) (s : State) : exec (.goReady r c) s = execGoReady r c s := rfl
@[simp] theorem exec_goStandby (r : Req) (c : Nat) (s : State) : exec (.goStandby r c) s = execGoStandby r c s := rfl
@[simp] theorem exec_calFlush (r : Req) (c : Nat) (s : State) : exec (.calFlush r c) s = execCalFlush r c s := rfl
@[simp] theorem exec_chainEnableDone (c : Nat) (s : State) : exec (.chainEnableDone c) s = execChainEnableDone c s := rfl
@[simp] theorem exec_txRequestHead (c : Nat) (s : State) : exec (.txRequestHead c) s = execTxRequestHead c s := rfl
@[simp] theorem exec_synthTuneDone (c : Nat) (s : State) : exec (.synthTuneDone c) s = execSynthTuneDone c s := rfl
@[simp] theorem exec_synthLockLost (c : Nat) (s : State) : exec (.synthLockLost c) s = execSynthLockLost c s := rfl
@[simp] theorem exec_txStateEnter (c : Nat) (s : State) : exec (.txStateEnter c) s = execTxStateEnter c s := rfl
@[simp] theorem exec_powerLoopStep (c : Nat) (measured : Int) (s : State) : exec (.powerLoopStep c measured) s = execPowerLoopStep c measured s := rfl
@[simp] theorem exec_txLoopEnd (c : Nat) (measured : Int) (s : State) : exec (.txLoopEnd c measured) s = execTxLoopEnd c measured s := rfl
@[simp] theorem exec_fwdPowerCheck (c : Nat) (fwd : Int) (s : State) : exec (.fwdPowerCheck c fwd) s = execFwdPowerCheck c fwd s := rfl
@[simp] theorem exec_aerialFaultDetect (c rl : Nat) (s : State) : exec (.aerialFaultDetect c rl) s = execAerialFaultDetect c rl s := rfl
@[simp] theorem exec_txLastSample (c rl : Nat) (pwr : Int) (s : State) : exec (.txLastSample c rl pwr) s = execTxLastSample c rl pwr s := rfl
@[simp] theorem exec_txToReadyDone (c : Nat) (s : State) : exec (.txToReadyDone c) s = execTxToReadyDone c s := rfl
@[simp] theorem exec_outputReadbackMismatch (k p : Nat) (s : State) : exec (.outputReadbackMismatch k p) s = execOutputReadbackMismatch k p s := rfl
@[simp] theorem exec_txcMuteWrite (r : Req) (c v : Nat) (s : State) : exec (.txcMuteWrite r c v) s = execTxcMuteWrite r c v s := rfl
@[simp] theorem exec_runawayTimeout (c : Nat) (s : State) : exec (.runawayTimeout c) s = execRunawayTimeout c s := rfl
@[simp] theorem exec_detCheck (p : Nat) (pa fwd rev : Bool) (s : State) : exec (.detCheck p pa fwd rev) s = execDetCheck p pa fwd rev s := rfl
@[simp] theorem exec_coexReqAssert (n : Nat) (s : State) : exec (.coexReqAssert n) s = execCoexReqAssert n s := rfl
@[simp] theorem exec_coexGntFall (s : State) : exec (.coexGntFall) s = execCoexGntFall s := rfl
@[simp] theorem exec_coexCheck (r : Req) (s : State) : exec (.coexCheck r) s = execCoexCheck r s := rfl
@[simp] theorem exec_coexCheckStepEnd (x : Bool) (s : State) : exec (.coexCheckStepEnd x) s = execCoexCheckStepEnd x s := rfl
@[simp] theorem exec_coexLeadWrite (r : Req) (v : Nat) (s : State) : exec (.coexLeadWrite r v) s = execCoexLeadWrite r v s := rfl
@[simp] theorem exec_chplanWrite (r : Req) (h off v : Nat) (s : State) : exec (.chplanWrite r h off v) s = execChplanWrite r h off v s := rfl
@[simp] theorem exec_panmapWrite (r : Req) (i off v : Nat) (s : State) : exec (.panmapWrite r i off v) s = execPanmapWrite r i off v s := rfl
@[simp] theorem exec_airEui64Write (r : Req) (v : Nat) (s : State) : exec (.airEui64Write r v) s = execAirEui64Write r v s := rfl
@[simp] theorem exec_profileSetRegion (c : Cmd) (region : Nat) (s : State) : exec (.profileSetRegion c region) s = execProfileSetRegion c region s := rfl
@[simp] theorem exec_regprofLockSet (r : Req) (s : State) : exec (.regprofLockSet r) s = execRegprofLockSet r s := rfl
@[simp] theorem exec_gateDecision (n : Nat) (s : State) : exec (.gateDecision n) s = execGateDecision n s := rfl
@[simp] theorem exec_quietRelease (s : State) : exec (.quietRelease) s = execQuietRelease s := rfl
@[simp] theorem exec_gateRecordHandle (c : Nat) (s : State) : exec (.gateRecordHandle c) s = execGateRecordHandle c s := rfl
@[simp] theorem exec_dutySlotEnd (i : Nat) (s : State) : exec (.dutySlotEnd i) s = execDutySlotEnd i s := rfl
@[simp] theorem exec_macRxFrame (l : Nat) (s : State) : exec (.macRxFrame l) s = execMacRxFrame l s := rfl
@[simp] theorem exec_ackWindowExpire (u : Nat) (s : State) : exec (.ackWindowExpire u) s = execAckWindowExpire u s := rfl
@[simp] theorem exec_phaseFixWalkDone (s : State) : exec (.phaseFixWalkDone) s = execPhaseFixWalkDone s := rfl
@[simp] theorem exec_downlinkRelease (u : Nat) (s : State) : exec (.downlinkRelease u) s = execDownlinkRelease u s := rfl
@[simp] theorem exec_attemptArm (u : Nat) (s : State) : exec (.attemptArm u) s = execAttemptArm u s := rfl
@[simp] theorem exec_trainCopyArm (u : Nat) (s : State) : exec (.trainCopyArm u) s = execTrainCopyArm u s := rfl
@[simp] theorem exec_txResultHandle (c : Nat) (s : State) : exec (.txResultHandle c) s = execTxResultHandle c s := rfl
@[simp] theorem exec_refloodSend (u : Nat) (s : State) : exec (.refloodSend u) s = execRefloodSend u s := rfl
@[simp] theorem exec_genBaseWrite (r : Req) (h v : Nat) (s : State) : exec (.genBaseWrite r h v) s = execGenBaseWrite r h v s := rfl
@[simp] theorem exec_campaignStart (c : Cmd) (num bsize bcount from_ : Nat) (list : Bool) (lcount mOff iOff lOff : Nat) (s : State) : exec (.campaignStart c num bsize bcount from_ list lcount mOff iOff lOff) s = execCampaignStart c num bsize bcount from_ list lcount mOff iOff lOff s := rfl
@[simp] theorem exec_campaignBlockSend (h : Nat) (s : State) : exec (.campaignBlockSend h) s = execCampaignBlockSend h s := rfl
@[simp] theorem exec_campaignReportWindowEnd (h : Nat) (s : State) : exec (.campaignReportWindowEnd h) s = execCampaignReportWindowEnd h s := rfl
@[simp] theorem exec_campaignActivateSend (h : Nat) (s : State) : exec (.campaignActivateSend h) s = execCampaignActivateSend h s := rfl
@[simp] theorem exec_campaignPause (c : Cmd) (num : Nat) (s : State) : exec (.campaignPause c num) s = execCampaignPause c num s := rfl
@[simp] theorem exec_campaignResume (c : Cmd) (num : Nat) (s : State) : exec (.campaignResume c num) s = execCampaignResume c num s := rfl
@[simp] theorem exec_campaignAbort (c : Cmd) (num : Nat) (s : State) : exec (.campaignAbort c num) s = execCampaignAbort c num s := rfl
@[simp] theorem exec_campStatusRead (r : Req) (h : Nat) (s : State) : exec (.campStatusRead r h) s = execCampStatusRead r h s := rfl
@[simp] theorem exec_sweepStart (c : Cmd) (rounds roundS ttl : Nat) (silent : Bool) (s : State) : exec (.sweepStart c rounds roundS ttl silent) s = execSweepStart c rounds roundS ttl silent s := rfl
@[simp] theorem exec_sweepRoundStart (h : Nat) (s : State) : exec (.sweepRoundStart h) s = execSweepRoundStart h s := rfl
@[simp] theorem exec_sweepEnd (h : Nat) (s : State) : exec (.sweepEnd h) s = execSweepEnd h s := rfl
@[simp] theorem exec_sweepRead (c : Cmd) (first count addr : Nat) (s : State) : exec (.sweepRead c first count addr) s = execSweepRead c first count addr s := rfl
@[simp] theorem exec_meterCommit (r : Req) (m v : Nat) (s : State) : exec (.meterCommit r m v) s = execMeterCommit r m v s := rfl
@[simp] theorem exec_shaperCommit (r : Req) (n v : Nat) (s : State) : exec (.shaperCommit r n v) s = execShaperCommit r n v s := rfl
@[simp] theorem exec_outputRequest (o : Nat) (s : State) : exec (.outputRequest o) s = execOutputRequest o s := rfl
@[simp] theorem exec_queueEligible (q : Nat) (s : State) : exec (.queueEligible q) s = execQueueEligible q s := rfl
@[simp] theorem exec_expirySweep (s : State) : exec (.expirySweep) s = execExpirySweep s := rfl
@[simp] theorem exec_watchSample (w : Nat) (s : State) : exec (.watchSample w) s = execWatchSample w s := rfl
@[simp] theorem exec_qprobeSelWrite (r : Req) (i v : Nat) (s : State) : exec (.qprobeSelWrite r i v) s = execQprobeSelWrite r i v s := rfl
@[simp] theorem exec_qprobeGroupWrite (r : Req) (i v : Nat) (s : State) : exec (.qprobeGroupWrite r i v) s = execQprobeGroupWrite r i v s := rfl
@[simp] theorem exec_queueCfg (c : Cmd) (e group : Nat) (s : State) : exec (.queueCfg c e group) s = execQueueCfg c e group s := rfl
@[simp] theorem exec_tmhCtlWrite (r : Req) (h v : Nat) (s : State) : exec (.tmhCtlWrite r h v) s = execTmhCtlWrite r h v s := rfl
@[simp] theorem exec_cellQuotaWrite (r : Req) (h v : Nat) (s : State) : exec (.cellQuotaWrite r h v) s = execCellQuotaWrite r h v s := rfl
@[simp] theorem exec_fifoCfgWrite (r : Req) (f off v : Nat) (s : State) : exec (.fifoCfgWrite r f off v) s = execFifoCfgWrite r f off v s := rfl
@[simp] theorem exec_fifoPtrCheck (f : Nat) (same : Bool) (s : State) : exec (.fifoPtrCheck f same) s = execFifoPtrCheck f same s := rfl
@[simp] theorem exec_fifoStallResume (g : Nat) (s : State) : exec (.fifoStallResume g) s = execFifoStallResume g s := rfl
@[simp] theorem exec_fifoStallTimeout (g : Nat) (s : State) : exec (.fifoStallTimeout g) s = execFifoStallTimeout g s := rfl
@[simp] theorem exec_drbgHealthFail (s : State) : exec (.drbgHealthFail) s = execDrbgHealthFail s := rfl
@[simp] theorem exec_drbgRestart (pass : Bool) (s : State) : exec (.drbgRestart pass) s = execDrbgRestart pass s := rfl
@[simp] theorem exec_keyImport (c : Cmd) (target parent use type len addr : Nat) (s : State) : exec (.keyImport c target parent use type len addr) s = execKeyImport c target parent use type len addr s := rfl
@[simp] theorem exec_keyDerive (c : Cmd) (target parent use type labelLen ctxLen addr : Nat) (s : State) : exec (.keyDerive c target parent use type labelLen ctxLen addr) s = execKeyDerive c target parent use type labelLen ctxLen addr s := rfl
@[simp] theorem exec_keyErase (c : Cmd) (slot : Nat) (s : State) : exec (.keyErase c slot) s = execKeyErase c slot s := rfl
@[simp] theorem exec_keyInfo (c : Cmd) (slot : Nat) (s : State) : exec (.keyInfo c slot) s = execKeyInfo c slot s := rfl
@[simp] theorem exec_hedgeKeyWipe (c : Cmd) (confirm : Nat) (s : State) : exec (.hedgeKeyWipe c confirm) s = execHedgeKeyWipe c confirm s := rfl
@[simp] theorem exec_trustSet (c : Cmd) (anchor : Nat) (lockAfter : Bool) (addr : Nat) (s : State) : exec (.trustSet c anchor lockAfter addr) s = execTrustSet c anchor lockAfter addr s := rfl
@[simp] theorem exec_trustLockSet (r : Req) (h v : Nat) (s : State) : exec (.trustLockSet r h v) s = execTrustLockSet r h v s := rfl
@[simp] theorem exec_attest (c : Cmd) (slot : Nat) (challenge : List Nat) (addr : Nat) (s : State) : exec (.attest c slot challenge addr) s = execAttest c slot challenge addr s := rfl
@[simp] theorem exec_nodeRekey (c : Cmd) (e : Nat) (s : State) : exec (.nodeRekey c e) s = execNodeRekey c e s := rfl
@[simp] theorem exec_groupRekey (c : Cmd) (s : State) : exec (.groupRekey c) s = execGroupRekey c s := rfl
@[simp] theorem exec_keyDestroyAll (c : Cmd) (confirm : Nat) (s : State) : exec (.keyDestroyAll c confirm) s = execKeyDestroyAll c confirm s := rfl
@[simp] theorem exec_keyOrphanSweep (s : State) : exec (.keyOrphanSweep) s = execKeyOrphanSweep s := rfl
@[simp] theorem exec_keyRetireZero (s : State) : exec (.keyRetireZero) s = execKeyRetireZero s := rfl
@[simp] theorem exec_slotQuotaWrite (r : Req) (h v : Nat) (s : State) : exec (.slotQuotaWrite r h v) s = execSlotQuotaWrite r h v s := rfl
@[simp] theorem exec_joinResponsePart2 (e : Nat) (s : State) : exec (.joinResponsePart2 e) s = execJoinResponsePart2 e s := rfl
@[simp] theorem exec_rekeyRetryExpire (e : Nat) (s : State) : exec (.rekeyRetryExpire e) s = execRekeyRetryExpire e s := rfl
@[simp] theorem exec_groupSwitch (h : Nat) (s : State) : exec (.groupSwitch h) s = execGroupSwitch h s := rfl
@[simp] theorem exec_groupOverlapEnd (h : Nat) (s : State) : exec (.groupOverlapEnd h) s = execGroupOverlapEnd h s := rfl
@[simp] theorem exec_add (g : Nat) (rd ra rb : BitVec 5) (s : State) : exec (.add g rd ra rb) s = execAdd g rd ra rb s := rfl
@[simp] theorem exec_sub (g : Nat) (rd ra rb : BitVec 5) (s : State) : exec (.sub g rd ra rb) s = execSub g rd ra rb s := rfl
@[simp] theorem exec_addc (g : Nat) (rd ra rb : BitVec 5) (s : State) : exec (.addc g rd ra rb) s = execAddc g rd ra rb s := rfl
@[simp] theorem exec_subc (g : Nat) (rd ra rb : BitVec 5) (s : State) : exec (.subc g rd ra rb) s = execSubc g rd ra rb s := rfl
@[simp] theorem exec_and (g : Nat) (rd ra rb : BitVec 5) (s : State) : exec (.and g rd ra rb) s = execAnd g rd ra rb s := rfl
@[simp] theorem exec_or (g : Nat) (rd ra rb : BitVec 5) (s : State) : exec (.or g rd ra rb) s = execOr g rd ra rb s := rfl
@[simp] theorem exec_xor (g : Nat) (rd ra rb : BitVec 5) (s : State) : exec (.xor g rd ra rb) s = execXor g rd ra rb s := rfl
@[simp] theorem exec_andn (g : Nat) (rd ra rb : BitVec 5) (s : State) : exec (.andn g rd ra rb) s = execAndn g rd ra rb s := rfl
@[simp] theorem exec_shl (g : Nat) (rd ra rb : BitVec 5) (s : State) : exec (.shl g rd ra rb) s = execShl g rd ra rb s := rfl
@[simp] theorem exec_shr (g : Nat) (rd ra rb : BitVec 5) (s : State) : exec (.shr g rd ra rb) s = execShr g rd ra rb s := rfl
@[simp] theorem exec_sar (g : Nat) (rd ra rb : BitVec 5) (s : State) : exec (.sar g rd ra rb) s = execSar g rd ra rb s := rfl
@[simp] theorem exec_rol (g : Nat) (rd ra rb : BitVec 5) (s : State) : exec (.rol g rd ra rb) s = execRol g rd ra rb s := rfl
@[simp] theorem exec_mul (g : Nat) (rd ra rb : BitVec 5) (s : State) : exec (.mul g rd ra rb) s = execMul g rd ra rb s := rfl
@[simp] theorem exec_mulhu (g : Nat) (rd ra rb : BitVec 5) (s : State) : exec (.mulhu g rd ra rb) s = execMulhu g rd ra rb s := rfl
@[simp] theorem exec_mulhs (g : Nat) (rd ra rb : BitVec 5) (s : State) : exec (.mulhs g rd ra rb) s = execMulhs g rd ra rb s := rfl
@[simp] theorem exec_clz (g : Nat) (rd ra rb : BitVec 5) (s : State) : exec (.clz g rd ra rb) s = execClz g rd ra rb s := rfl
@[simp] theorem exec_popc (g : Nat) (rd ra rb : BitVec 5) (s : State) : exec (.popc g rd ra rb) s = execPopc g rd ra rb s := rfl
@[simp] theorem exec_min (g : Nat) (rd ra rb : BitVec 5) (s : State) : exec (.min g rd ra rb) s = execMin g rd ra rb s := rfl
@[simp] theorem exec_max (g : Nat) (rd ra rb : BitVec 5) (s : State) : exec (.max g rd ra rb) s = execMax g rd ra rb s := rfl
@[simp] theorem exec_minu (g : Nat) (rd ra rb : BitVec 5) (s : State) : exec (.minu g rd ra rb) s = execMinu g rd ra rb s := rfl
@[simp] theorem exec_maxu (g : Nat) (rd ra rb : BitVec 5) (s : State) : exec (.maxu g rd ra rb) s = execMaxu g rd ra rb s := rfl
@[simp] theorem exec_slt (g : Nat) (rd ra rb : BitVec 5) (s : State) : exec (.slt g rd ra rb) s = execSlt g rd ra rb s := rfl
@[simp] theorem exec_sltu (g : Nat) (rd ra rb : BitVec 5) (s : State) : exec (.sltu g rd ra rb) s = execSltu g rd ra rb s := rfl
@[simp] theorem exec_addi (g : Nat) (rd ra : BitVec 5) (imm : BitVec 16) (s : State) : exec (.addi g rd ra imm) s = execAddi g rd ra imm s := rfl
@[simp] theorem exec_andi (g : Nat) (rd ra : BitVec 5) (imm : BitVec 16) (s : State) : exec (.andi g rd ra imm) s = execAndi g rd ra imm s := rfl
@[simp] theorem exec_ori (g : Nat) (rd ra : BitVec 5) (imm : BitVec 16) (s : State) : exec (.ori g rd ra imm) s = execOri g rd ra imm s := rfl
@[simp] theorem exec_xori (g : Nat) (rd ra : BitVec 5) (imm : BitVec 16) (s : State) : exec (.xori g rd ra imm) s = execXori g rd ra imm s := rfl
@[simp] theorem exec_shli (g : Nat) (rd ra : BitVec 5) (imm : BitVec 16) (s : State) : exec (.shli g rd ra imm) s = execShli g rd ra imm s := rfl
@[simp] theorem exec_shri (g : Nat) (rd ra : BitVec 5) (imm : BitVec 16) (s : State) : exec (.shri g rd ra imm) s = execShri g rd ra imm s := rfl
@[simp] theorem exec_sari (g : Nat) (rd ra : BitVec 5) (imm : BitVec 16) (s : State) : exec (.sari g rd ra imm) s = execSari g rd ra imm s := rfl
@[simp] theorem exec_slti (g : Nat) (rd ra : BitVec 5) (imm : BitVec 16) (s : State) : exec (.slti g rd ra imm) s = execSlti g rd ra imm s := rfl
@[simp] theorem exec_lui (g : Nat) (rd ra : BitVec 5) (imm : BitVec 16) (s : State) : exec (.lui g rd ra imm) s = execLui g rd ra imm s := rfl
@[simp] theorem exec_ldb (g : Nat) (rd ra : BitVec 5) (imm : BitVec 16) (s : State) : exec (.ldb g rd ra imm) s = execLdb g rd ra imm s := rfl
@[simp] theorem exec_ldbu (g : Nat) (rd ra : BitVec 5) (imm : BitVec 16) (s : State) : exec (.ldbu g rd ra imm) s = execLdbu g rd ra imm s := rfl
@[simp] theorem exec_ldh (g : Nat) (rd ra : BitVec 5) (imm : BitVec 16) (s : State) : exec (.ldh g rd ra imm) s = execLdh g rd ra imm s := rfl
@[simp] theorem exec_ldhu (g : Nat) (rd ra : BitVec 5) (imm : BitVec 16) (s : State) : exec (.ldhu g rd ra imm) s = execLdhu g rd ra imm s := rfl
@[simp] theorem exec_ldw (g : Nat) (rd ra : BitVec 5) (imm : BitVec 14) (s : State) : exec (.ldw g rd ra imm) s = execLdw g rd ra imm s := rfl
@[simp] theorem exec_ldp (g : Nat) (rd ra : BitVec 5) (imm : BitVec 14) (s : State) : exec (.ldp g rd ra imm) s = execLdp g rd ra imm s := rfl
@[simp] theorem exec_stb (g : Nat) (rd ra : BitVec 5) (imm : BitVec 16) (s : State) : exec (.stb g rd ra imm) s = execStb g rd ra imm s := rfl
@[simp] theorem exec_sth (g : Nat) (rd ra : BitVec 5) (imm : BitVec 16) (s : State) : exec (.sth g rd ra imm) s = execSth g rd ra imm s := rfl
@[simp] theorem exec_stw (g : Nat) (rd ra : BitVec 5) (imm : BitVec 14) (s : State) : exec (.stw g rd ra imm) s = execStw g rd ra imm s := rfl
@[simp] theorem exec_stp (g : Nat) (rd ra : BitVec 5) (imm : BitVec 14) (s : State) : exec (.stp g rd ra imm) s = execStp g rd ra imm s := rfl
@[simp] theorem exec_ext (g : Nat) (rd ra pos len : BitVec 5) (s : State) : exec (.ext g rd ra pos len) s = execExt g rd ra pos len s := rfl
@[simp] theorem exec_extu (g : Nat) (rd ra pos len : BitVec 5) (s : State) : exec (.extu g rd ra pos len) s = execExtu g rd ra pos len s := rfl
@[simp] theorem exec_ins (g : Nat) (rd ra pos len : BitVec 5) (s : State) : exec (.ins g rd ra pos len) s = execIns g rd ra pos len s := rfl
@[simp] theorem exec_bswap (g : Nat) (rd ra pos len : BitVec 5) (s : State) : exec (.bswap g rd ra pos len) s = execBswap g rd ra pos len s := rfl
@[simp] theorem exec_crc32c (g : Nat) (rd ra rb : BitVec 5) (n : BitVec 3) (s : State) : exec (.crc32c g rd ra rb n) s = execCrc32c g rd ra rb n s := rfl
@[simp] theorem exec_crc16 (g : Nat) (rd ra rb : BitVec 5) (n : BitVec 3) (s : State) : exec (.crc16 g rd ra rb n) s = execCrc16 g rd ra rb n s := rfl
@[simp] theorem exec_hash (g : Nat) (rd ra rb : BitVec 5) (s : State) : exec (.hash g rd ra rb) s = execHash g rd ra rb s := rfl
@[simp] theorem exec_aadd (g : Nat) (rd ra rb : BitVec 5) (sz : BitVec 2) (s : State) : exec (.aadd g rd ra rb sz) s = execAadd g rd ra rb sz s := rfl
@[simp] theorem exec_aswp (g : Nat) (rd ra rb : BitVec 5) (sz : BitVec 2) (s : State) : exec (.aswp g rd ra rb sz) s = execAswp g rd ra rb sz s := rfl
@[simp] theorem exec_acas (g : Nat) (rd ra rb : BitVec 5) (sz : BitVec 2) (s : State) : exec (.acas g rd ra rb sz) s = execAcas g rd ra rb sz s := rfl
@[simp] theorem exec_beq (g : Nat) (ra rb : BitVec 5) (disp : BitVec 16) (s : State) : exec (.beq g ra rb disp) s = execBeq g ra rb disp s := rfl
@[simp] theorem exec_bne (g : Nat) (ra rb : BitVec 5) (disp : BitVec 16) (s : State) : exec (.bne g ra rb disp) s = execBne g ra rb disp s := rfl
@[simp] theorem exec_blt (g : Nat) (ra rb : BitVec 5) (disp : BitVec 16) (s : State) : exec (.blt g ra rb disp) s = execBlt g ra rb disp s := rfl
@[simp] theorem exec_bge (g : Nat) (ra rb : BitVec 5) (disp : BitVec 16) (s : State) : exec (.bge g ra rb disp) s = execBge g ra rb disp s := rfl
@[simp] theorem exec_bltu (g : Nat) (ra rb : BitVec 5) (disp : BitVec 16) (s : State) : exec (.bltu g ra rb disp) s = execBltu g ra rb disp s := rfl
@[simp] theorem exec_bgeu (g : Nat) (ra rb : BitVec 5) (disp : BitVec 16) (s : State) : exec (.bgeu g ra rb disp) s = execBgeu g ra rb disp s := rfl
@[simp] theorem exec_j (g : Nat) (disp : BitVec 25) (s : State) : exec (.j g disp) s = execJ g disp s := rfl
@[simp] theorem exec_jal (g : Nat) (disp : BitVec 25) (s : State) : exec (.jal g disp) s = execJal g disp s := rfl
@[simp] theorem exec_jalr (g : Nat) (rd ra : BitVec 5) (imm : BitVec 16) (s : State) : exec (.jalr g rd ra imm) s = execJalr g rd ra imm s := rfl
@[simp] theorem exec_lkup (g : Nat) (rd ra : BitVec 5) (cmd : BitVec 12) (s : State) : exec (.lkup g rd ra cmd) s = execLkup g rd ra cmd s := rfl
@[simp] theorem exec_tins (g : Nat) (rd ra : BitVec 5) (cmd : BitVec 12) (s : State) : exec (.tins g rd ra cmd) s = execTins g rd ra cmd s := rfl
@[simp] theorem exec_tdel (g : Nat) (rd ra : BitVec 5) (cmd : BitVec 12) (s : State) : exec (.tdel g rd ra cmd) s = execTdel g rd ra cmd s := rfl
@[simp] theorem exec_ttouch (g : Nat) (rd ra : BitVec 5) (cmd : BitVec 12) (s : State) : exec (.ttouch g rd ra cmd) s = execTtouch g rd ra cmd s := rfl
@[simp] theorem exec_qput (g : Nat) (rd ra : BitVec 5) (cmd : BitVec 12) (s : State) : exec (.qput g rd ra cmd) s = execQput g rd ra cmd s := rfl
@[simp] theorem exec_qget (g : Nat) (rd ra : BitVec 5) (cmd : BitVec 12) (s : State) : exec (.qget g rd ra cmd) s = execQget g rd ra cmd s := rfl
@[simp] theorem exec_qpeek (g : Nat) (rd ra : BitVec 5) (cmd : BitVec 12) (s : State) : exec (.qpeek g rd ra cmd) s = execQpeek g rd ra cmd s := rfl
@[simp] theorem exec_cry (g : Nat) (rd ra : BitVec 5) (cmd : BitVec 12) (s : State) : exec (.cry g rd ra cmd) s = execCry g rd ra cmd s := rfl
@[simp] theorem exec_cwait (g : Nat) (rd ra : BitVec 5) (cmd : BitVec 12) (s : State) : exec (.cwait g rd ra cmd) s = execCwait g rd ra cmd s := rfl
@[simp] theorem exec_tnow (g : Nat) (rd ra : BitVec 5) (cmd : BitVec 12) (s : State) : exec (.tnow g rd ra cmd) s = execTnow g rd ra cmd s := rfl
@[simp] theorem exec_twait (g : Nat) (rd ra : BitVec 5) (cmd : BitVec 12) (s : State) : exec (.twait g rd ra cmd) s = execTwait g rd ra cmd s := rfl
@[simp] theorem exec_tarm (g : Nat) (rd ra : BitVec 5) (cmd : BitVec 12) (s : State) : exec (.tarm g rd ra cmd) s = execTarm g rd ra cmd s := rfl
@[simp] theorem exec_yield (g : Nat) (rd ra : BitVec 5) (cmd : BitVec 12) (s : State) : exec (.yield g rd ra cmd) s = execYield g rd ra cmd s := rfl
@[simp] theorem exec_waitev (g : Nat) (rd ra : BitVec 5) (cmd : BitVec 12) (s : State) : exec (.waitev g rd ra cmd) s = execWaitev g rd ra cmd s := rfl
@[simp] theorem exec_signal (g : Nat) (rd ra : BitVec 5) (cmd : BitVec 12) (s : State) : exec (.signal g rd ra cmd) s = execSignal g rd ra cmd s := rfl
@[simp] theorem exec_fence (g : Nat) (rd ra : BitVec 5) (cmd : BitVec 12) (s : State) : exec (.fence g rd ra cmd) s = execFence g rd ra cmd s := rfl
@[simp] theorem exec_halt (g : Nat) (rd ra : BitVec 5) (cmd : BitVec 12) (s : State) : exec (.halt g rd ra cmd) s = execHalt g rd ra cmd s := rfl
@[simp] theorem exec_mfs (g : Nat) (rd ra : BitVec 5) (cmd : BitVec 12) (s : State) : exec (.mfs g rd ra cmd) s = execMfs g rd ra cmd s := rfl
@[simp] theorem exec_mts (g : Nat) (rd ra : BitVec 5) (cmd : BitVec 12) (s : State) : exec (.mts g rd ra cmd) s = execMts g rd ra cmd s := rfl
@[simp] theorem exec_trap (g : Nat) (rd ra : BitVec 5) (cmd : BitVec 12) (s : State) : exec (.trap g rd ra cmd) s = execTrap g rd ra cmd s := rfl
@[simp] theorem exec_tret (g : Nat) (rd ra : BitVec 5) (cmd : BitVec 12) (s : State) : exec (.tret g rd ra cmd) s = execTret g rd ra cmd s := rfl
@[simp] theorem exec_threadEventWake (g : Nat) (s : State) : exec (.threadEventWake g) s = execThreadEventWake g s := rfl
@[simp] theorem exec_twaitExpire (g : Nat) (s : State) : exec (.twaitExpire g) s = execTwaitExpire g s := rfl
@[simp] theorem exec_threadTimerFire (g : Nat) (s : State) : exec (.threadTimerFire g) s = execThreadTimerFire g s := rfl
@[simp] theorem exec_cryComplete (g t : Nat) (s : State) : exec (.cryComplete g t) s = execCryComplete g t s := rfl
@[simp] theorem exec_thicketWindowTimeout (n : Nat) (s : State) : exec (.thicketWindowTimeout n) s = execThicketWindowTimeout n s := rfl
@[simp] theorem exec_engineWdogExpire (e : Nat) (s : State) : exec (.engineWdogExpire e) s = execEngineWdogExpire e s := rfl
@[simp] theorem exec_enghGrantWrite (r : Req) (h off v : Nat) (s : State) : exec (.enghGrantWrite r h off v) s = execEnghGrantWrite r h off v s := rfl
@[simp] theorem exec_progLoad (c : Cmd) (off len : Nat) (good : Bool) (s : State) : exec (.progLoad c off len good) s = execProgLoad c off len good s := rfl
@[simp] theorem exec_progStop (c : Cmd) (s : State) : exec (.progStop c) s = execProgStop c s := rfl
@[simp] theorem exec_progSignal (c : Cmd) (mask : Nat) (s : State) : exec (.progSignal c mask) s = execProgSignal c mask s := rfl
@[simp] theorem exec_hbindWrite (r : Req) (h off v : Nat) (s : State) : exec (.hbindWrite r h off v) s = execHbindWrite r h off v s := rfl
@[simp] theorem exec_pcieFlr (f : Nat) (s : State) : exec (.pcieFlr f) s = execPcieFlr f s := rfl
@[simp] theorem exec_pciePerst (p width speed pol : Nat) (s : State) : exec (.pciePerst p width speed pol) s = execPciePerst p width speed pol s := rfl
@[simp] theorem exec_busMasterChange (f : Nat) (on : Bool) (s : State) : exec (.busMasterChange f on) s = execBusMasterChange f on s := rfl
@[simp] theorem exec_dmaError (i : Nat) (s : State) : exec (.dmaError i) s = execDmaError i s := rfl
@[simp] theorem exec_cmdDoorbell (r : Req) (i v : Nat) (s : State) : exec (.cmdDoorbell r i v) s = execCmdDoorbell r i v s := rfl
@[simp] theorem exec_rxDoorbell (r : Req) (i v : Nat) (s : State) : exec (.rxDoorbell r i v) s = execRxDoorbell r i v s := rfl
@[simp] theorem exec_cplDoorbell (r : Req) (i v : Nat) (s : State) : exec (.cplDoorbell r i v) s = execCplDoorbell r i v s := rfl
@[simp] theorem exec_evDoorbell (r : Req) (i v : Nat) (s : State) : exec (.evDoorbell r i v) s = execEvDoorbell r i v s := rfl
@[simp] theorem exec_ringCtlWrite (r : Req) (i v : Nat) (s : State) : exec (.ringCtlWrite r i v) s = execRingCtlWrite r i v s := rfl
@[simp] theorem exec_cmdRingDrainDone (i : Nat) (s : State) : exec (.cmdRingDrainDone i) s = execCmdRingDrainDone i s := rfl
@[simp] theorem exec_commandFetch (src : Nat) (s : State) : exec (.commandFetch src) s = execCommandFetch src s := rfl
@[simp] theorem exec_send (c : Cmd) (eui entry life len mode power cls flags addr : Nat) (inline : List Nat) (s : State) : exec (.send c eui entry life len mode power cls flags addr inline) s = execSend c eui entry life len mode power cls flags addr inline s := rfl
@[simp] theorem exec_flood (c : Cmd) (final life len cls flags addr : Nat) (inline : List Nat) (s : State) : exec (.flood c final life len cls flags addr inline) s = execFlood c final life len cls flags addr inline s := rfl
@[simp] theorem exec_nop (c : Cmd) (s : State) : exec (.nop c) s = execNop c s := rfl
@[simp] theorem exec_memWrite (c : Cmd) (addr off len : Nat) (s : State) : exec (.memWrite c addr off len) s = execMemWrite c addr off len s := rfl
@[simp] theorem exec_memRead (c : Cmd) (addr off len : Nat) (s : State) : exec (.memRead c addr off len) s = execMemRead c addr off len s := rfl
@[simp] theorem exec_watchRead (c : Cmd) (w first count addr : Nat) (s : State) : exec (.watchRead c w first count addr) s = execWatchRead c w first count addr s := rfl
@[simp] theorem exec_calTrigSet (c : Cmd) (n rep : Nat) (due : List Nat) (s : State) : exec (.calTrigSet c n rep due) s = execCalTrigSet c n rep due s := rfl
@[simp] theorem exec_calTrigClr (c : Cmd) (n : Nat) (s : State) : exec (.calTrigClr c n) s = execCalTrigClr c n s := rfl
@[simp] theorem exec_hedgeReset (c : Cmd) (h : Nat) (s : State) : exec (.hedgeReset c h) s = execHedgeReset c h s := rfl
@[simp] theorem exec_calExport (c : Cmd) (addr : Nat) (s : State) : exec (.calExport c addr) s = execCalExport c addr s := rfl
@[simp] theorem exec_calRestore (c : Cmd) (addr mask : Nat) (foreign : Bool) (s : State) : exec (.calRestore c addr mask foreign) s = execCalRestore c addr mask foreign s := rfl
@[simp] theorem exec_bootImageWrite (c : Cmd) (addr len : Nat) (activate : Bool) (slot : Nat) (s : State) : exec (.bootImageWrite c addr len activate slot) s = execBootImageWrite c addr len activate slot s := rfl
@[simp] theorem exec_scorepadRead (c : Cmd) (addr seq era count : Nat) (oldest : Bool) (s : State) : exec (.scorepadRead c addr seq era count oldest) s = execScorepadRead c addr seq era count oldest s := rfl
@[simp] theorem exec_stewardServe (s : State) : exec (.stewardServe) s = execStewardServe s := rfl
@[simp] theorem exec_irqCoalesceTimeout (i v : Nat) (s : State) : exec (.irqCoalesceTimeout i v) s = execIrqCoalesceTimeout i v s := rfl
@[simp] theorem exec_evBacklogDrain (h : Nat) (s : State) : exec (.evBacklogDrain h) s = execEvBacklogDrain h s := rfl
@[simp] theorem exec_rxPlace (h : Nat) (s : State) : exec (.rxPlace h) s = execRxPlace h s := rfl
@[simp] theorem exec_rxHoldExpire (h : Nat) (s : State) : exec (.rxHoldExpire h) s = execRxHoldExpire h s := rfl
@[simp] theorem exec_rxLossReport (h : Nat) (s : State) : exec (.rxLossReport h) s = execRxLossReport h s := rfl
@[simp] theorem exec_tunCmdMsg (h port : Nat) (p : List Nat) (s : State) : exec (.tunCmdMsg h port p) s = execTunCmdMsg h port p s := rfl
@[simp] theorem exec_tunCreditMsg (h port : Nat) (p : List Nat) (s : State) : exec (.tunCreditMsg h port p) s = execTunCreditMsg h port p s := rfl
@[simp] theorem exec_tunAckMsg (h port : Nat) (p : List Nat) (s : State) : exec (.tunAckMsg h port p) s = execTunAckMsg h port p s := rfl
@[simp] theorem exec_tunStartMsg (h port : Nat) (p : List Nat) (s : State) : exec (.tunStartMsg h port p) s = execTunStartMsg h port p s := rfl
@[simp] theorem exec_tunKeepaliveMsg (h port : Nat) (p : List Nat) (s : State) : exec (.tunKeepaliveMsg h port p) s = execTunKeepaliveMsg h port p s := rfl
@[simp] theorem exec_tunNeighborSolicit (port ip6 : Nat) (s : State) : exec (.tunNeighborSolicit port ip6) s = execTunNeighborSolicit port ip6 s := rfl
@[simp] theorem exec_tunResendTimeout (h : Nat) (s : State) : exec (.tunResendTimeout h) s = execTunResendTimeout h s := rfl
@[simp] theorem exec_tunSilenceTimeout (h : Nat) (s : State) : exec (.tunSilenceTimeout h) s = execTunSilenceTimeout h s := rfl
@[simp] theorem exec_tunKeepaliveSend (h : Nat) (s : State) : exec (.tunKeepaliveSend h) s = execTunKeepaliveSend h s := rfl
@[simp] theorem exec_hosthHresetWrite (r : Req) (h v : Nat) (s : State) : exec (.hosthHresetWrite r h v) s = execHosthHresetWrite r h v s := rfl
@[simp] theorem exec_hbindHresetWrite (r : Req) (h : Nat) (s : State) : exec (.hbindHresetWrite r h) s = execHbindHresetWrite r h s := rfl
@[simp] theorem exec_hedgeResetEnd (h : Nat) (s : State) : exec (.hedgeResetEnd h) s = execHedgeResetEnd h s := rfl
@[simp] theorem exec_cntClrDiscard (r : Req) (i v : Nat) (s : State) : exec (.cntClrDiscard r i v) s = execCntClrDiscard r i v s := rfl
@[simp] theorem exec_twinCfgEnWrite (r : Req) (v lanes : Nat) (s : State) : exec (.twinCfgEnWrite r v lanes) s = execTwinCfgEnWrite r v lanes s := rfl
@[simp] theorem exec_twinHelloRx (eui prefer role schema : Nat) (same : Bool) (s : State) : exec (.twinHelloRx eui prefer role schema same) s = execTwinHelloRx eui prefer role schema same s := rfl
@[simp] theorem exec_twinHelloTimeout (s : State) : exec (.twinHelloTimeout) s = execTwinHelloTimeout s := rfl
@[simp] theorem exec_twinHeartbeatSend (s : State) : exec (.twinHeartbeatSend) s = execTwinHeartbeatSend s := rfl
@[simp] theorem exec_twinLinkSilent (s : State) : exec (.twinLinkSilent) s = execTwinLinkSilent s := rfl
@[simp] theorem exec_twinHbSilent (s : State) : exec (.twinHbSilent) s = execTwinHbSilent s := rfl
@[simp] theorem exec_partnerFaultAssert (s : State) : exec (.partnerFaultAssert) s = execPartnerFaultAssert s := rfl
@[simp] theorem exec_twinCmdTakeover (r : Req) (s : State) : exec (.twinCmdTakeover r) s = execTwinCmdTakeover r s := rfl
@[simp] theorem exec_twinCmdSwitch (r : Req) (s : State) : exec (.twinCmdSwitch r) s = execTwinCmdSwitch r s := rfl
@[simp] theorem exec_twinCmdLoop (r : Req) (ok : List Bool) (s : State) : exec (.twinCmdLoop r ok) s = execTwinCmdLoop r ok s := rfl
@[simp] theorem exec_twinDemotionRx (cause : Nat) (s : State) : exec (.twinDemotionRx cause) s = execTwinDemotionRx cause s := rfl
@[simp] theorem exec_snapshotCapture (late : Bool) (ofs : Int) (s : State) : exec (.snapshotCapture late ofs) s = execSnapshotCapture late ofs s := rfl
@[simp] theorem exec_snapshotApply (x : TwinSnap) (ofs : Int) (s : State) : exec (.snapshotApply x ofs) s = execSnapshotApply x ofs s := rfl
@[simp] theorem exec_twinCounterRecordRx (h e counter : Nat) (s : State) : exec (.twinCounterRecordRx h e counter) s = execTwinCounterRecordRx h e counter s := rfl
@[simp] theorem exec_twinLoopTest (ok : List Bool) (s : State) : exec (.twinLoopTest ok) s = execTwinLoopTest ok s := rfl
@[simp] theorem exec_twinDualActive (at_ : Nat) (s : State) : exec (.twinDualActive at_) s = execTwinDualActive at_ s := rfl
@[simp] theorem exec_prpFrameRx (port source seq : Nat) (lanB sup : Bool) (s : State) : exec (.prpFrameRx port source seq lanB sup) s = execPrpFrameRx port source seq lanB sup s := rfl
@[simp] theorem exec_prpSupSend (s : State) : exec (.prpSupSend) s = execPrpSupSend s := rfl
@[simp] theorem exec_prpSupTimeout (port : Nat) (s : State) : exec (.prpSupTimeout port) s = execPrpSupTimeout port s := rfl
@[simp] theorem exec_powerOn (s : State) : exec (.powerOn) s = execPowerOn s := rfl
@[simp] theorem exec_porNLow (ns : Nat) (take : Bool) (s : State) : exec (.porNLow ns take) s = execPorNLow ns take s := rfl
@[simp] theorem exec_resetNLow (ns : Nat) (take : Bool) (s : State) : exec (.resetNLow ns take) s = execResetNLow ns take s := rfl
@[simp] theorem exec_supplyLow (s : State) : exec (.supplyLow) s = execSupplyLow s := rfl
@[simp] theorem exec_thermalTrip (s : State) : exec (.thermalTrip) s = execThermalTrip s := rfl
@[simp] theorem exec_thermalHoldEnd (s : State) : exec (.thermalHoldEnd) s = execThermalHoldEnd s := rfl
@[simp] theorem exec_stewardWdogExpire (s : State) : exec (.stewardWdogExpire) s = execStewardWdogExpire s := rfl
@[simp] theorem exec_rstCmdSystem (r : Req) (s : State) : exec (.rstCmdSystem r) s = execRstCmdSystem r s := rfl
@[simp] theorem exec_rstCmdCore (r : Req) (s : State) : exec (.rstCmdCore r) s = execRstCmdCore r s := rfl
@[simp] theorem exec_resetRelease (x : BootIn) (s : State) : exec (.resetRelease x) s = execResetRelease x s := rfl
@[simp] theorem exec_coreReset (stewardOk runtimeOk : Bool) (progOk lanesOk aesOk decOk portsOk : Nat) (s : State) : exec (.coreReset stewardOk runtimeOk progOk lanesOk aesOk decOk portsOk) s = execCoreReset stewardOk runtimeOk progOk lanesOk aesOk decOk portsOk s := rfl
@[simp] theorem exec_bootConfirm (r : Req) (s : State) : exec (.bootConfirm r) s = execBootConfirm r s := rfl
@[simp] theorem exec_recovGo (r : Req) (x : BootIn) (s : State) : exec (.recovGo r x) s = execRecovGo r x s := rfl
@[simp] theorem exec_dramScrub (k : Nat) (errs : List (Nat × Bool)) (s : State) : exec (.dramScrub k errs) s = execDramScrub k errs s := rfl
@[simp] theorem exec_calSaveTuner (r : Req) (ports : Nat) (s : State) : exec (.calSaveTuner r ports) s = execCalSaveTuner r ports s := rfl
@[simp] theorem exec_rtcSecond (s : State) : exec (.rtcSecond) s = execRtcSecond s := rfl
@[simp] theorem exec_oscStopDetect (s : State) : exec (.oscStopDetect) s = execOscStopDetect s := rfl
@[simp] theorem exec_rtcTimeRead (r : Req) (k : Nat) (s : State) : exec (.rtcTimeRead r k) s = execRtcTimeRead r k s := rfl
@[simp] theorem exec_rtcThawTimeout (r : Req) (s : State) : exec (.rtcThawTimeout r) s = execRtcThawTimeout r s := rfl
@[simp] theorem exec_rtcHaltWrite (r : Req) (v : Nat) (s : State) : exec (.rtcHaltWrite r v) s = execRtcHaltWrite r v s := rfl
@[simp] theorem exec_rtcTimeWrite (r : Req) (k v : Nat) (s : State) : exec (.rtcTimeWrite r k v) s = execRtcTimeWrite r k v s := rfl
@[simp] theorem exec_rtcAutoSet (s : State) : exec (.rtcAutoSet) s = execRtcAutoSet s := rfl
@[simp] theorem exec_pwronLevelWrite (r : Req) (v : Nat) (s : State) : exec (.pwronLevelWrite r v) s = execPwronLevelWrite r v s := rfl
@[simp] theorem exec_triggerEventPost (n : Nat) (s : State) : exec (.triggerEventPost n) s = execTriggerEventPost n s := rfl
@[simp] theorem exec_missedTriggersPost (h : Nat) (s : State) : exec (.missedTriggersPost h) s = execMissedTriggersPost h s := rfl
@[simp] theorem exec_backupReset (s : State) : exec (.backupReset) s = execBackupReset s := rfl
@[simp] theorem exec_backupSupplySwitch (vbat : Bool) (s : State) : exec (.backupSupplySwitch vbat) s = execBackupSupplySwitch vbat s := rfl
@[simp] theorem exec_refclkLoss (s : State) : exec (.refclkLoss) s = execRefclkLoss s := rfl
@[simp] theorem exec_pllUnlock (s : State) : exec (.pllUnlock) s = execPllUnlock s := rfl
@[simp] theorem exec_refclkRestored (s : State) : exec (.refclkRestored) s = execRefclkRestored s := rfl
@[simp] theorem exec_clockDupMismatch (s : State) : exec (.clockDupMismatch) s = execClockDupMismatch s := rfl
@[simp] theorem exec_stewardLockstepMismatch (s : State) : exec (.stewardLockstepMismatch) s = execStewardLockstepMismatch s := rfl
@[simp] theorem exec_memoryEccError (at_ : EccAt) (corrected : Bool) (s : State) : exec (.memoryEccError at_ corrected) s = execMemoryEccError at_ corrected s := rfl
@[simp] theorem exec_sramScrub (errs : List (Nat × Bool)) (s : State) : exec (.sramScrub errs) s = execSramScrub errs s := rfl
@[simp] theorem exec_engineBist (e : Nat) (ok : Bool) (s : State) : exec (.engineBist e ok) s = execEngineBist e ok s := rfl
@[simp] theorem exec_dramProbe (ok0 ok1 : Bool) (s : State) : exec (.dramProbe ok0 ok1) s = execDramProbe ok0 ok1 s := rfl
@[simp] theorem exec_adcSubconvCheck (p : Nat) (ok : Bool) (s : State) : exec (.adcSubconvCheck p ok) s = execAdcSubconvCheck p ok s := rfl
@[simp] theorem exec_laneCheckerSlot (l : Nat) (ok : Bool) (s : State) : exec (.laneCheckerSlot l ok) s = execLaneCheckerSlot l ok s := rfl
@[simp] theorem exec_ldpcKnownTest (k iters : Nat) (ok : Bool) (s : State) : exec (.ldpcKnownTest k iters ok) s = execLdpcKnownTest k iters ok s := rfl
@[simp] theorem exec_cryptoKat (kind : CoreKind) (core : Nat) (ok last : Bool) (s : State) : exec (.cryptoKat kind core ok last) s = execCryptoKat kind core ok last s := rfl
@[simp] theorem exec_scorepadCommit (read : List Nat) (s : State) : exec (.scorepadCommit read) s = execScorepadCommit read s := rfl
@[simp] theorem exec_scorepadSuppressReport (s : State) : exec (.scorepadSuppressReport) s = execScorepadSuppressReport s := rfl
@[simp] theorem exec_faultInject (r : Req) (s : State) : exec (.faultInject r) s = execFaultInject r s := rfl
@[simp] theorem exec_tamperSample (n : Nat) (high : Bool) (s : State) : exec (.tamperSample n high) s = execTamperSample n high s := rfl
@[simp] theorem exec_rxSynthLockLost (n : Nat) (s : State) : exec (.rxSynthLockLost n) s = execRxSynthLockLost n s := rfl
@[simp] theorem exec_ppsOpenCheck (isOpen : Bool) (s : State) : exec (.ppsOpenCheck isOpen) s = execPpsOpenCheck isOpen s := rfl
@[simp] theorem exec_vbatLowDetect (low : Bool) (s : State) : exec (.vbatLowDetect low) s = execVbatLowDetect low s := rfl
@[simp] theorem exec_shaperUnblock (n : Nat) (s : State) : exec (.shaperUnblock n) s = execShaperUnblock n s := rfl
@[simp] theorem exec_ptPulseEnd (n : Nat) (s : State) : exec (.ptPulseEnd n) s = execPtPulseEnd n s := rfl
@[simp] theorem exec_registerRead (r : Req) (off len : Nat) (s : State) : exec (.registerRead r off len) s = execRegisterRead r off len s := rfl
@[simp] theorem exec_twinLinkUp (s : State) : exec (.twinLinkUp) s = execTwinLinkUp s := rfl
@[simp] theorem exec_partnerFaultRelease (s : State) : exec (.partnerFaultRelease) s = execPartnerFaultRelease s := rfl
@[simp] theorem exec_bootFlashWriteDone (s : State) : exec (.bootFlashWriteDone) s = execBootFlashWriteDone s := rfl

end Sys2Proof.Machine
end

