-- ==== Sys2Proof/Laws/State.lean ====
section
/-!
SUPPORT. Laws of the store of fields: what `get` reads after each of the named writes, and that those writes touch nothing but the store.
-/

namespace Sys2Proof.Machine

/-! ### The list of cells -/

theorem cellFind_cellSet_same (k : Nat × Nat) (v : Nat) (l : List ((Nat × Nat) × Nat)) : cellFind k (cellSet k v l) = some v := by
  induction l with
  | nil => simp [cellSet, cellFind]
  | cons c t ih =>
    obtain ⟨k', v'⟩ := c
    by_cases h : k' = k
    · simp [cellSet, cellFind, h]
    · by_cases hl : keyLt k k' <;> simp [cellSet, cellFind, h, hl, ih]

theorem cellFind_cellSet_ne {k k0 : Nat × Nat} (hk : k0 ≠ k) (v : Nat) (l : List ((Nat × Nat) × Nat)) :
    cellFind k0 (cellSet k v l) = cellFind k0 l := by
  induction l with
  | nil => simp [cellSet, cellFind, hk.symm]
  | cons c t ih =>
    obtain ⟨k', v'⟩ := c
    by_cases h : k' = k
    · subst h; simp [cellSet, cellFind, hk.symm]
    · by_cases hl : keyLt k k' <;> simp [cellSet, cellFind, h, hl, ih, hk.symm]

theorem cellFind_cellDel_same (k : Nat × Nat) (l : List ((Nat × Nat) × Nat)) : cellFind k (cellDel k l) = none := by
  induction l with
  | nil => rfl
  | cons c t ih =>
    obtain ⟨k', v'⟩ := c
    by_cases h : k' = k <;> simp [cellDel, cellFind, h, ih]

theorem cellFind_cellDel_ne {k k0 : Nat × Nat} (hk : k0 ≠ k) (l : List ((Nat × Nat) × Nat)) :
    cellFind k0 (cellDel k l) = cellFind k0 l := by
  induction l with
  | nil => rfl
  | cons c t ih =>
    obtain ⟨k', v'⟩ := c
    by_cases h : k' = k
    · subst h; simp [cellDel, cellFind, hk.symm, ih]
    · simp [cellDel, cellFind, h, ih]

/-! ### Reading after a write -/

theorem cellPut_eq (F : Fld) (n v : Nat) (l : List ((Nat × Nat) × Nat)) :
    cellPut F n v l = if v % 2 ^ F.w = F.rst n then cellDel (F.id, n) l else cellSet (F.id, n) (v % 2 ^ F.w) l := by
  cases l <;> rfl

theorem cellFind_cellPut_same (F : Fld) (n v : Nat) (l : List ((Nat × Nat) × Nat)) :
    (cellFind (F.id, n) (cellPut F n v l)).getD (F.rst n) = v % 2 ^ F.w := by
  rw [cellPut_eq]
  by_cases h : v % 2 ^ F.w = F.rst n
  · simp [h, cellFind_cellDel_same]
  · simp [h, cellFind_cellSet_same]

theorem cellFind_cellPut_ne {F : Fld} {n v : Nat} {k : Nat × Nat} (h : k ≠ (F.id, n)) (l : List ((Nat × Nat) × Nat)) :
    cellFind k (cellPut F n v l) = cellFind k l := by
  rw [cellPut_eq]
  split
  · exact cellFind_cellDel_ne h l
  · exact cellFind_cellSet_ne h _ l

theorem State.get_put (s : State) (F : Fld) (n v : Nat) : (s.put F n v).get F n = v % 2 ^ F.w := cellFind_cellPut_same F n v s.cells

theorem State.get_put_ne {s : State} {F G : Fld} {n m v : Nat} (h : (G.id, m) ≠ (F.id, n)) :
    (s.put F n v).get G m = s.get G m := by
  unfold State.put State.get; rw [cellFind_cellPut_ne h]

theorem State.get_put_id {s : State} {F G : Fld} {n m v : Nat} (h : G.id ≠ F.id) : (s.put F n v).get G m = s.get G m :=
  State.get_put_ne fun e => h (Prod.mk.inj e).1

theorem State.get_put_inst {s : State} {F G : Fld} {n m v : Nat} (h : m ≠ n) : (s.put F n v).get G m = s.get G m :=
  State.get_put_ne fun e => h (Prod.mk.inj e).2

/-- A read of the field written, at any instance. -/
theorem State.get_put_self (s : State) (F : Fld) (n m v : Nat) : (s.put F n v).get F m = if m = n then v % 2 ^ F.w else s.get F m := by
  by_cases h : m = n
  · subst h; simp [State.get_put]
  · simp [h, State.get_put_inst h]

theorem State.get_set (s : State) (F : Fld) (n : Nat) (h : 1 ≤ F.w) : (s.set F n).get F n = 1 := by
  rw [State.set, State.get_put, Nat.mod_eq_of_lt (Nat.one_lt_two_pow (by omega))]

theorem State.get_clr (s : State) (F : Fld) (n : Nat) : (s.clr F n).get F n = 0 := by simp [State.clr, State.get_put]

theorem State.get_bump (s : State) (F : Fld) (n k : Nat) : (s.bump F n k).get F n = (s.get F n + k) % 2 ^ F.w := by
  simp [State.bump, State.get_put]

@[simp] theorem State.get_reset (F : Fld) (n : Nat) : State.reset.get F n = F.rst n := rfl

/-- Anything that is not a cell is as before after a write. -/
theorem State.put_cells (s : State) (F : Fld) (n v : Nat) : { s.put F n v with cells := s.cells } = s := by
  rfl

end Sys2Proof.Machine
end

