-- ==== Sys2Proof/Laws/Frame.lean ====
section
/-!
SUPPORT. What a write leaves as it was: `sameBut` of each of the named writes, and the completion of a command from the
equation its meaning gives.
-/

namespace Sys2Proof.Machine

open Sys2Proof

/-- A command completes with whatever holds of the state its meaning answers. -/
theorem completes_of {c : Instr} {s t : State} {P : State → Prop} (h : exec c s = .next t) (hp : P t) : completes c s P := ⟨t, h, hp⟩

@[simp] theorem sameBut_refl (s : State) (l : List (Fld × Nat)) : sameBut s s l := ⟨rfl, fun _ _ _ => rfl⟩

/-- A write of a listed field keeps the frame. -/
theorem sameBut_put {s t : State} {l : List (Fld × Nat)} {F : Fld} {n : Nat} (v : Nat) (h : sameBut s t l)
    (hm : (l.any fun p => p.1.id == F.id && p.2 == n) = true) : sameBut s (t.put F n v) l := by
  refine ⟨h.1, fun G m hg => ?_⟩
  rw [State.get_put_ne, h.2 G m hg]
  intro e
  obtain ⟨h1, h2⟩ := Prod.mk.inj e
  rw [h1, h2, hm] at hg
  cases hg

theorem sameBut_set {s t : State} {l : List (Fld × Nat)} {F : Fld} {n : Nat} (h : sameBut s t l)
    (hm : (l.any fun p => p.1.id == F.id && p.2 == n) = true) : sameBut s (t.set F n) l := sameBut_put 1 h hm

theorem sameBut_clr {s t : State} {l : List (Fld × Nat)} {F : Fld} {n : Nat} (h : sameBut s t l)
    (hm : (l.any fun p => p.1.id == F.id && p.2 == n) = true) : sameBut s (t.clr F n) l := sameBut_put 0 h hm

theorem sameBut_bump {s t : State} {l : List (Fld × Nat)} {F : Fld} {n : Nat} (k : Nat) (h : sameBut s t l)
    (hm : (l.any fun p => p.1.id == F.id && p.2 == n) = true) : sameBut s (t.bump F n k) l := sameBut_put _ h hm

theorem sameBut_drop {s t : State} {l : List (Fld × Nat)} {F : Fld} {n : Nat} (k : Nat) (h : sameBut s t l)
    (hm : (l.any fun p => p.1.id == F.id && p.2 == n) = true) : sameBut s (t.drop F n k) l := sameBut_put _ h hm

theorem sameBut_putI {s t : State} {l : List (Fld × Nat)} {F : Fld} {n : Nat} (i : Int) (h : sameBut s t l)
    (hm : (l.any fun p => p.1.id == F.id && p.2 == n) = true) : sameBut s (t.putI F n i) l := sameBut_put _ h hm

/-- A frame may name more fields than change. -/
theorem sameBut_mono {s t : State} {l m : List (Fld × Nat)} (h : sameBut s t l)
    (hm : ∀ (F : Fld) (n : Nat), (m.any fun p => p.1.id == F.id && p.2 == n) = false → (l.any fun p => p.1.id == F.id && p.2 == n) = false) :
    sameBut s t m := ⟨h.1, fun F n hf => h.2 F n (hm F n hf)⟩

end Sys2Proof.Machine
end

