-- ==== Sys2Proof/Laws/Gate.lean ====
section
/-!
SUPPORT. What taking the limit in force at a gate decision (R205) leaves as it was: every field but the set points and the
measured temperature, and so the checks of the gate.
-/

namespace Sys2Proof.Machine

open Sys2Proof

/-- Taking the limit writes the set points of the request, its flags, CLAMP_CNT and the measured temperature, no other field. -/
theorem State.get_limitPower (s : State) (c : Nat) (r : TxReq) (F : Fld) (m : Nat)
    (h : F.id ∉ [ MODEL.FRESH.id, SY.TEMP.id, TXC.CLAMP_CNT.id, CHN.RFLAGS.id, CHN.LIMIT.id, CHN.TARGET.id, CHN.SET0.id, CHN.SETP.id]) :
    (s.limitPower c r).get F m = s.get F m := by
  simp only [List.mem_cons, List.not_mem_nil, or_false, not_or] at h
  obtain ⟨h0, h1, h2, h3, h4, h5, h6, h7⟩ := h
  have flag (t : State) (k : Nat) (b : Bool) : (t.putFlag c k b).get F m = t.get F m := by
    cases b <;> simp [State.putFlag, State.orFlag, State.get_put_id, h3]
  have bump (t : State) (b : Bool) : (t.when b (·.bump TXC.CLAMP_CNT c)).get F m = t.get F m := by
    cases b <;> simp [State.when, State.bump, State.get_put_id, h2]
  simp only [State.limitPower, State.setPower, State.sense, State.draw, State.putI, State.get_put_id h5, State.get_put_id h6,
    State.get_put_id h7, flag, bump, State.get_put_id h1]
  rw [State.bump, State.get_put_id h0, State.get_put_id h4]

/-- It writes fields only. -/
theorem State.limitPower_cells (s : State) (c : Nat) (r : TxReq) : { s.limitPower c r with cells := s.cells } = s := by
  have flag (t : State) (k : Nat) (b : Bool) : { t.putFlag c k b with cells := s.cells } = { t with cells := s.cells } := by
    cases b <;> rfl
  have bump (t : State) (b : Bool) : { t.when b (·.bump TXC.CLAMP_CNT c) with cells := s.cells } = { t with cells := s.cells } := by
    cases b <;> rfl
  simp only [State.limitPower, State.setPower, State.sense, State.draw, State.putI]
  refine (flag _ _ _).trans ?_
  refine (flag _ _ _).trans ?_
  refine (flag _ _ _).trans ?_
  exact bump _ _

@[simp] theorem State.limitPower_air (s : State) (c : Nat) (r : TxReq) : (s.limitPower c r).air = s.air :=
  (congrArg State.air (s.limitPower_cells c r) : _)

@[simp] theorem State.limitPower_quiet (s : State) (c : Nat) (r : TxReq) : (s.limitPower c r).quiet = s.quiet :=
  (congrArg State.quiet (s.limitPower_cells c r) : _)

@[simp] theorem State.limitPower_ledger (s : State) (c : Nat) (r : TxReq) : (s.limitPower c r).ledger = s.ledger :=
  (congrArg State.ledger (s.limitPower_cells c r) : _)

/-- The checks of the gate do not look at what it writes. -/
theorem State.gateChecks_limitPower (s : State) (c : Nat) (r : TxReq) (g : GateCase) (port : Nat) :
    (s.limitPower c r).gateChecks g port = s.gateChecks g port := by
  have k (F : Fld) (m : Nat) (h : F.id ∉ [ MODEL.FRESH.id, SY.TEMP.id, TXC.CLAMP_CNT.id, CHN.RFLAGS.id, CHN.LIMIT.id, CHN.TARGET.id,
      CHN.SET0.id, CHN.SETP.id]) := s.get_limitPower c r F m h
  have stop : (s.limitPower c r).airStop = s.airStop := by
    funext x; simp (discharger := decide) only [State.airStop, State.mp, k]
  simp (discharger := decide) only [stop, State.gateChecks, State.cellOf, State.blankSpan, State.wouldBlank, State.binsIn, State.binBlanked,
    State.sbOk, State.obw, State.dutyBudget, State.ledgerSum, State.ledgerFree, State.dutyUsed, State.dutySlot,
    State.dwellSlot, State.on, k, State.limitPower_air, State.limitPower_quiet, State.limitPower_ledger]
  rfl

end Sys2Proof.Machine
end

