-- ==== Sys2Proof/WellFormed.lean ====
section
/-!
DEFINITION. The operands a command can carry: instance numbers within the block (00 R1 and the blocks' tables), values no wider
than the register, descriptor field, memory or message that holds them, octets below 256. Signed measurements are not bounded.
-/

namespace Sys2Proof

/-- A requester that exists: one of 512 engine threads, one of eight Hedges (R3, R367). -/
def Req.wf : Req → Bool
  | .thread g => decide (g < 512)
  | .hedge h => decide (h < 8)
  | .steward => true
  | .priv => true

/-- A descriptor of one of the nine command rings, with its 32-bit TAG and index (R432). -/
def Cmd.wf (c : Cmd) : Bool := decide (c.ring < 9) && decide (c.tag < 2 ^ 32) && decide (c.index < 2 ^ 32)

/-- A PTP message's frame is octets. -/
def PtpMsg.wf (m : PtpMsg) : Bool := m.frame.all (· < 256)

/-- A parameter block's fields within the octets they are read from (R414). -/
def NodeBlock.wf (b : NodeBlock) : Bool :=
  decide (b.eui < 2 ^ 64) && decide (b.short < 2 ^ 16) && decide (b.state < 2 ^ 8) && decide (b.flags < 2 ^ 16) &&
  b.drift.all (· < 4) && decide (b.meter < 2 ^ 16) && decide (b.secLevel < 8) && decide (b.keyGen < 2 ^ 8)

/-- A header as its form can carry it (R119 to R121): an 11-bit length for SUN-FSK and SUN-OFDM, the length octet of
O-QPSK, 32 bits and at most two branches for XL-OFDM. -/
def Header.wf : Header → Bool
  | .fsk mode _ _ _ len => decide (0x10 ≤ mode) && decide (mode < 0x18) && decide (len < 2048)
  | .ofdm mcs len _ => decide (mcs < 32) && decide (len < 2048)
  | .oqpsk len => decide (len < 256)
  | .xl w air => decide (w < 2 ^ 32) && decide (air.length ≤ 2)

/-- A lane of the part, with what at most two branches receive. -/
def CwIn.wf (x : CwIn) : Bool := decide (x.lane < 48) && decide (x.rx.length ≤ 2)

/-- A decoded PSDU is octets. -/
def LaneMeasure.wf (m : LaneMeasure) : Bool := m.psdu.all (· < 256)

/-- A snapshot names entries of the Thicket and carries 512 octets of each (R462). -/
def TwinSnap.wf (x : TwinSnap) : Bool :=
  x.entries.all fun p => decide (p.1 < 262144) && decide (p.2.length = 512) && p.2.all (· < 256)

/-- BOOT_SEL has two bits; the threads are the engines' (R484). -/
def BootIn.wf (x : BootIn) : Bool := decide (x.sel < 4) && x.threads.all fun p => decide (p.1 < 512) && decide (p.2 < 2 ^ 32)

/-- A place in an engine's space, chip SRAM or DRAM. -/
def EccAt.wf : EccAt → Bool
  | .steward => true
  | .engine g ea => decide (g < 512) && decide (ea < 2 ^ 32)
  | .sram off => decide (off < 2 ^ 27)
  | .dram a _ => decide (a < 2 ^ 36)

/-- The operands of a command are ones it can carry. -/
def Instr.wf : Instr → Bool
  | .regWrite r off len v => r.wf && decide (off < 2 ^ 32) && decide (len < 2 ^ 32) && decide (v < 2 ^ 64)
  | .reg64LowRead r off => r.wf && decide (off < 2 ^ 32)
  | .rcFieldRead r off => r.wf && decide (off < 2 ^ 32)
  | .expertGWrite r v => r.wf && decide (v < 2 ^ 32)
  | .expertHWrite r h v => r.wf && decide (h < 8) && decide (v < 2 ^ 32)
  | .expertTakeEffect i => decide (i < 9)
  | .expertReload i => decide (i < 9)
  | .nscCycle => true
  | .slewCountExpire => true
  | .nscIncWrite r v => r.wf && decide (v < 2 ^ 32)
  | .nscNowNsRead r => r.wf
  | .nscSet r => r.wf
  | .nscStep r => r.wf
  | .nscSlewCntWrite r v => r.wf && decide (v < 2 ^ 32)
  | .ppsEdge levelUs => decide (levelUs < 2 ^ 32)
  | .ppsLossTimeout => true
  | .ptpMsgRx p m => decide (p < 2) && m.wf
  | .ptpSyncTimeout p => decide (p < 2)
  | .ptCmpLowWrite r n v => r.wf && decide (n < 64) && decide (v < 2 ^ 32)
  | .ptCtlWrite r n v => r.wf && decide (n < 64) && decide (v < 2 ^ 32)
  | .ptReadinessCheck n _ => decide (n < 64)
  | .ptFire => true
  | .ptAlloc c => c.wf
  | .ptFree c n => c.wf && decide (n < 2 ^ 32)
  | .cuEdge source _ => decide (source < 8)
  | .cuPop r n v => r.wf && decide (n < 16) && decide (v < 2 ^ 32)
  | .beaconInterval h => decide (h < 8)
  | .incarnationWalkEnd e => decide (e < 262144)
  | .joinTimeout e => decide (e < 262144)
  | .agingVisit e => decide (e < 262144)
  | .agingPassEnd => true
  | .revalDone => true
  | .entryHoldEnd e => decide (e < 262144)
  | .nodeInsert c b => c.wf && b.wf
  | .nodeDelete c e => c.wf && decide (e < 2 ^ 32)
  | .nodeRead c e _ addr => c.wf && decide (e < 2 ^ 32) && decide (addr < 2 ^ 64)
  | .nodeUpdate c e mask short flags drift ap power meter addr => c.wf && decide (e < 2 ^ 32) && decide (mask < 2 ^ 32) && decide (short < 2 ^ 32) && decide (flags < 2 ^ 32) && decide (drift < 2 ^ 32) && decide (ap < 2 ^ 32) && decide (power < 2 ^ 32) && decide (meter < 2 ^ 32) && decide (addr < 2 ^ 64)
  | .nodePin c e => c.wf && decide (e < 2 ^ 32)
  | .nodeUnpin c e => c.wf && decide (e < 2 ^ 32)
  | .nodeTouch c e => c.wf && decide (e < 2 ^ 32)
  | .nodeList c st start addr => c.wf && decide (st < 2 ^ 32) && decide (start < 2 ^ 32) && decide (addr < 2 ^ 64)
  | .thkQuotaWrite r h v => r.wf && decide (h < 8) && decide (v < 2 ^ 32)
  | .agcWindowEnd p _ _ => decide (p < 4)
  | .agcUpHoldExpire p => decide (p < 4)
  | .agcThrWrite r p v => r.wf && decide (p < 4) && decide (v < 2 ^ 32)
  | .aprxCtlWrite r p v => r.wf && decide (p < 4) && decide (v < 2 ^ 32)
  | .sliceFcWrite r n v => r.wf && decide (n < 6) && decide (v < 2 ^ 32)
  | .loMhzWrite r p v => r.wf && decide (p < 4) && decide (v < 2 ^ 32)
  | .ddcWrite r d off v => r.wf && decide (d < 64) && decide (off < 2 ^ 32) && decide (v < 2 ^ 32)
  | .laneCfgWrite r l v => r.wf && decide (l < 48) && decide (v < 2 ^ 32)
  | .laneModesWrite r l v => r.wf && decide (l < 48) && decide (v < 2 ^ 32)
  | .sliceCtlWrite r n v => r.wf && decide (n < 6) && decide (v < 2 ^ 32)
  | .mapPeriodEnd n _ _ => decide (n < 6)
  | .mapStampRefresh n => decide (n < 6)
  | .sliceThrWrite r n v => r.wf && decide (n < 6) && decide (v < 2 ^ 32)
  | .selfBlankStart c => decide (c < 4)
  | .selfBlankEnd c => decide (c < 4)
  | .syncDeclare l g metric => decide (l < 48) && decide (g < 12) && decide (metric < 2 ^ 32)
  | .laneHeaderEnd l h age => decide (l < 48) && h.wf && decide (age < 2 ^ 64)
  | .ldpcCwSubmit x => x.wf
  | .ldpcDecodeStart k => decide (k < 4)
  | .ldpcDecodeDone k iter _ => decide (k < 4) && decide (iter < 256)
  | .laneFrameEnd l m => decide (l < 48) && m.wf
  | .dupWinExpire => true
  | .ldpcCfgWrite r off v => r.wf && decide (off < 2 ^ 32) && decide (v < 2 ^ 32)
  | .ldpcDecEnWrite r v => r.wf && decide (v < 2 ^ 32)
  | .txcCtlWrite r c v => r.wf && decide (c < 4) && decide (v < 2 ^ 32)
  | .goReady r c => r.wf && decide (c < 4)
  | .goStandby r c => r.wf && decide (c < 4)
  | .calFlush r c => r.wf && decide (c < 4)
  | .chainEnableDone c => decide (c < 4)
  | .txRequestHead c => decide (c < 4)
  | .synthTuneDone c => decide (c < 6)
  | .synthLockLost c => decide (c < 4)
  | .txStateEnter c => decide (c < 4)
  | .powerLoopStep c _ => decide (c < 4)
  | .txLoopEnd c _ => decide (c < 4)
  | .fwdPowerCheck c _ => decide (c < 4)
  | .aerialFaultDetect c rl => decide (c < 4) && decide (rl < 2 ^ 32)
  | .txLastSample c rl _ => decide (c < 4) && decide (rl < 2 ^ 32)
  | .txToReadyDone c => decide (c < 4)
  | .outputReadbackMismatch k p => decide (k < 8) && decide (p < 8)
  | .txcMuteWrite r c v => r.wf && decide (c < 4) && decide (v < 2 ^ 32)
  | .runawayTimeout c => decide (c < 4)
  | .detCheck p _ _ _ => decide (p < 4)
  | .coexReqAssert n => decide (n < 64)
  | .coexGntFall => true
  | .coexCheck r => r.wf
  | .coexCheckStepEnd _ => true
  | .coexLeadWrite r v => r.wf && decide (v < 2 ^ 32)
  | .chplanWrite r h off v => r.wf && decide (h < 8) && decide (off < 2 ^ 32) && decide (v < 2 ^ 32)
  | .panmapWrite r i off v => r.wf && decide (i < 32) && decide (off < 2 ^ 32) && decide (v < 2 ^ 32)
  | .airEui64Write r v => r.wf && decide (v < 2 ^ 32)
  | .profileSetRegion c region => c.wf && decide (region < 2 ^ 32)
  | .regprofLockSet r => r.wf
  | .gateDecision n => decide (n < 64)
  | .quietRelease => true
  | .gateRecordHandle c => decide (c < 4)
  | .dutySlotEnd i => decide (i < 16)
  | .macRxFrame l => decide (l < 48)
  | .ackWindowExpire u => decide (u < 2 ^ 32)
  | .phaseFixWalkDone => true
  | .downlinkRelease u => decide (u < 2 ^ 32)
  | .attemptArm u => decide (u < 2 ^ 32)
  | .trainCopyArm u => decide (u < 2 ^ 32)
  | .txResultHandle c => decide (c < 4)
  | .refloodSend u => decide (u < 2 ^ 32)
  | .genBaseWrite r h v => r.wf && decide (h < 8) && decide (v < 2 ^ 32)
  | .campaignStart c num bsize bcount from_ _ lcount mOff iOff lOff => c.wf && decide (num < 2 ^ 32) && decide (bsize < 2 ^ 32) && decide (bcount < 2 ^ 32) && decide (from_ < 2 ^ 32) && decide (lcount < 2 ^ 32) && decide (mOff < 2 ^ 32) && decide (iOff < 2 ^ 32) && decide (lOff < 2 ^ 32)
  | .campaignBlockSend h => decide (h < 8)
  | .campaignReportWindowEnd h => decide (h < 8)
  | .campaignActivateSend h => decide (h < 8)
  | .campaignPause c num => c.wf && decide (num < 2 ^ 32)
  | .campaignResume c num => c.wf && decide (num < 2 ^ 32)
  | .campaignAbort c num => c.wf && decide (num < 2 ^ 32)
  | .campStatusRead r h => r.wf && decide (h < 8)
  | .sweepStart c rounds roundS ttl _ => c.wf && decide (rounds < 2 ^ 32) && decide (roundS < 2 ^ 32) && decide (ttl < 2 ^ 32)
  | .sweepRoundStart h => decide (h < 8)
  | .sweepEnd h => decide (h < 8)
  | .sweepRead c first count addr => c.wf && decide (first < 2 ^ 32) && decide (count < 2 ^ 32) && decide (addr < 2 ^ 64)
  | .meterCommit r m v => r.wf && decide (m < 16384) && decide (v < 2 ^ 32)
  | .shaperCommit r n v => r.wf && decide (n < 1024) && decide (v < 2 ^ 32)
  | .outputRequest o => decide (o < 4)
  | .queueEligible q => decide (q < 262144)
  | .expirySweep => true
  | .watchSample w => decide (w < 64)
  | .qprobeSelWrite r i v => r.wf && decide (i < 9) && decide (v < 2 ^ 32)
  | .qprobeGroupWrite r i v => r.wf && decide (i < 9) && decide (v < 2 ^ 32)
  | .queueCfg c e group => c.wf && decide (e < 2 ^ 32) && decide (group < 2 ^ 32)
  | .tmhCtlWrite r h v => r.wf && decide (h < 8) && decide (v < 2 ^ 32)
  | .cellQuotaWrite r h v => r.wf && decide (h < 8) && decide (v < 2 ^ 32)
  | .fifoCfgWrite r f off v => r.wf && decide (f < 2048) && decide (off < 2 ^ 32) && decide (v < 2 ^ 32)
  | .fifoPtrCheck f _ => decide (f < 2048)
  | .fifoStallResume g => decide (g < 512)
  | .fifoStallTimeout g => decide (g < 512)
  | .drbgHealthFail => true
  | .drbgRestart _ => true
  | .keyImport c target parent use type len addr => c.wf && decide (target < 2 ^ 32) && decide (parent < 2 ^ 32) && decide (use < 2 ^ 32) && decide (type < 2 ^ 32) && decide (len < 2 ^ 32) && decide (addr < 2 ^ 64)
  | .keyDerive c target parent use type labelLen ctxLen addr => c.wf && decide (target < 2 ^ 32) && decide (parent < 2 ^ 32) && decide (use < 2 ^ 32) && decide (type < 2 ^ 32) && decide (labelLen < 2 ^ 32) && decide (ctxLen < 2 ^ 32) && decide (addr < 2 ^ 64)
  | .keyErase c slot => c.wf && decide (slot < 2 ^ 32)
  | .keyInfo c slot => c.wf && decide (slot < 2 ^ 32)
  | .hedgeKeyWipe c confirm => c.wf && decide (confirm < 2 ^ 32)
  | .trustSet c anchor _ addr => c.wf && decide (anchor < 2 ^ 32) && decide (addr < 2 ^ 64)
  | .trustLockSet r h v => r.wf && decide (h < 8) && decide (v < 2 ^ 32)
  | .attest c slot challenge addr => c.wf && decide (slot < 2 ^ 32) && challenge.all (· < 256) && decide (addr < 2 ^ 64)
  | .nodeRekey c e => c.wf && decide (e < 2 ^ 32)
  | .groupRekey c => c.wf
  | .keyDestroyAll c confirm => c.wf && decide (confirm < 2 ^ 32)
  | .keyOrphanSweep => true
  | .keyRetireZero => true
  | .slotQuotaWrite r h v => r.wf && decide (h < 8) && decide (v < 2 ^ 32)
  | .joinResponsePart2 e => decide (e < 262144)
  | .rekeyRetryExpire e => decide (e < 262144)
  | .groupSwitch h => decide (h < 8)
  | .groupOverlapEnd h => decide (h < 8)
  | .add g _ _ _ => decide (g < 512)
  | .sub g _ _ _ => decide (g < 512)
  | .addc g _ _ _ => decide (g < 512)
  | .subc g _ _ _ => decide (g < 512)
  | .and g _ _ _ => decide (g < 512)
  | .or g _ _ _ => decide (g < 512)
  | .xor g _ _ _ => decide (g < 512)
  | .andn g _ _ _ => decide (g < 512)
  | .shl g _ _ _ => decide (g < 512)
  | .shr g _ _ _ => decide (g < 512)
  | .sar g _ _ _ => decide (g < 512)
  | .rol g _ _ _ => decide (g < 512)
  | .mul g _ _ _ => decide (g < 512)
  | .mulhu g _ _ _ => decide (g < 512)
  | .mulhs g _ _ _ => decide (g < 512)
  | .clz g _ _ _ => decide (g < 512)
  | .popc g _ _ _ => decide (g < 512)
  | .min g _ _ _ => decide (g < 512)
  | .max g _ _ _ => decide (g < 512)
  | .minu g _ _ _ => decide (g < 512)
  | .maxu g _ _ _ => decide (g < 512)
  | .slt g _ _ _ => decide (g < 512)
  | .sltu g _ _ _ => decide (g < 512)
  | .addi g _ _ _ => decide (g < 512)
  | .andi g _ _ _ => decide (g < 512)
  | .ori g _ _ _ => decide (g < 512)
  | .xori g _ _ _ => decide (g < 512)
  | .shli g _ _ _ => decide (g < 512)
  | .shri g _ _ _ => decide (g < 512)
  | .sari g _ _ _ => decide (g < 512)
  | .slti g _ _ _ => decide (g < 512)
  | .lui g _ _ _ => decide (g < 512)
  | .ldb g _ _ _ => decide (g < 512)
  | .ldbu g _ _ _ => decide (g < 512)
  | .ldh g _ _ _ => decide (g < 512)
  | .ldhu g _ _ _ => decide (g < 512)
  | .ldw g _ _ _ => decide (g < 512)
  | .ldp g _ _ _ => decide (g < 512)
  | .stb g _ _ _ => decide (g < 512)
  | .sth g _ _ _ => decide (g < 512)
  | .stw g _ _ _ => decide (g < 512)
  | .stp g _ _ _ => decide (g < 512)
  | .ext g _ _ _ _ => decide (g < 512)
  | .extu g _ _ _ _ => decide (g < 512)
  | .ins g _ _ _ _ => decide (g < 512)
  | .bswap g _ _ _ _ => decide (g < 512)
  | .crc32c g _ _ _ _ => decide (g < 512)
  | .crc16 g _ _ _ _ => decide (g < 512)
  | .hash g _ _ _ => decide (g < 512)
  | .aadd g _ _ _ _ => decide (g < 512)
  | .aswp g _ _ _ _ => decide (g < 512)
  | .acas g _ _ _ _ => decide (g < 512)
  | .beq g _ _ _ => decide (g < 512)
  | .bne g _ _ _ => decide (g < 512)
  | .blt g _ _ _ => decide (g < 512)
  | .bge g _ _ _ => decide (g < 512)
  | .bltu g _ _ _ => decide (g < 512)
  | .bgeu g _ _ _ => decide (g < 512)
  | .j g _ => decide (g < 512)
  | .jal g _ => decide (g < 512)
  | .jalr g _ _ _ => decide (g < 512)
  | .lkup g _ _ _ => decide (g < 512)
  | .tins g _ _ _ => decide (g < 512)
  | .tdel g _ _ _ => decide (g < 512)
  | .ttouch g _ _ _ => decide (g < 512)
  | .qput g _ _ _ => decide (g < 512)
  | .qget g _ _ _ => decide (g < 512)
  | .qpeek g _ _ _ => decide (g < 512)
  | .cry g _ _ _ => decide (g < 512)
  | .cwait g _ _ _ => decide (g < 512)
  | .tnow g _ _ _ => decide (g < 512)
  | .twait g _ _ _ => decide (g < 512)
  | .tarm g _ _ _ => decide (g < 512)
  | .yield g _ _ _ => decide (g < 512)
  | .waitev g _ _ _ => decide (g < 512)
  | .signal g _ _ _ => decide (g < 512)
  | .fence g _ _ _ => decide (g < 512)
  | .halt g _ _ _ => decide (g < 512)
  | .mfs g _ _ _ => decide (g < 512)
  | .mts g _ _ _ => decide (g < 512)
  | .trap g _ _ _ => decide (g < 512)
  | .tret g _ _ _ => decide (g < 512)
  | .threadEventWake g => decide (g < 512)
  | .twaitExpire g => decide (g < 512)
  | .threadTimerFire g => decide (g < 512)
  | .cryComplete g t => decide (g < 512) && decide (t < 2 ^ 8)
  | .thicketWindowTimeout n => decide (n < 2048)
  | .engineWdogExpire e => decide (e < 128)
  | .enghGrantWrite r h off v => r.wf && decide (h < 8) && decide (off < 2 ^ 32) && decide (v < 2 ^ 32)
  | .progLoad c off len _ => c.wf && decide (off < 2 ^ 32) && decide (len < 2 ^ 32)
  | .progStop c => c.wf
  | .progSignal c mask => c.wf && decide (mask < 2 ^ 32)
  | .hbindWrite r h off v => r.wf && decide (h < 8) && decide (off < 2 ^ 32) && decide (v < 2 ^ 32)
  | .pcieFlr f => decide (f < 2 ^ 8)
  | .pciePerst p width speed pol => decide (p < 2) && decide (width < 64) && decide (speed < 16) && decide (pol < 65536)
  | .busMasterChange f _ => decide (f < 2 ^ 8)
  | .dmaError i => decide (i < 9)
  | .cmdDoorbell r i v => r.wf && decide (i < 9) && decide (v < 2 ^ 32)
  | .rxDoorbell r i v => r.wf && decide (i < 9) && decide (v < 2 ^ 32)
  | .cplDoorbell r i v => r.wf && decide (i < 9) && decide (v < 2 ^ 32)
  | .evDoorbell r i v => r.wf && decide (i < 9) && decide (v < 2 ^ 32)
  | .ringCtlWrite r i v => r.wf && decide (i < 9) && decide (v < 2 ^ 32)
  | .cmdRingDrainDone i => decide (i < 9)
  | .commandFetch src => decide (src < 24)
  | .send c eui entry life len mode power cls flags addr inline => c.wf && decide (eui < 2 ^ 64) && decide (entry < 2 ^ 32) && decide (life < 2 ^ 32) && decide (len < 2 ^ 32) && decide (mode < 2 ^ 32) && decide (power < 2 ^ 32) && decide (cls < 2 ^ 32) && decide (flags < 2 ^ 32) && decide (addr < 2 ^ 64) && inline.all (· < 256)
  | .flood c final life len cls flags addr inline => c.wf && decide (final < 2 ^ 32) && decide (life < 2 ^ 32) && decide (len < 2 ^ 32) && decide (cls < 2 ^ 32) && decide (flags < 2 ^ 32) && decide (addr < 2 ^ 64) && inline.all (· < 256)
  | .nop c => c.wf
  | .memWrite c addr off len => c.wf && decide (addr < 2 ^ 64) && decide (off < 2 ^ 32) && decide (len < 2 ^ 32)
  | .memRead c addr off len => c.wf && decide (addr < 2 ^ 64) && decide (off < 2 ^ 32) && decide (len < 2 ^ 32)
  | .watchRead c w first count addr => c.wf && decide (w < 2 ^ 32) && decide (first < 2 ^ 32) && decide (count < 2 ^ 32) && decide (addr < 2 ^ 64)
  | .calTrigSet c n rep due => c.wf && decide (n < 2 ^ 32) && decide (rep < 2 ^ 32) && due.all (· < 256)
  | .calTrigClr c n => c.wf && decide (n < 2 ^ 32)
  | .hedgeReset c h => c.wf && decide (h < 2 ^ 32)
  | .calExport c addr => c.wf && decide (addr < 2 ^ 64)
  | .calRestore c addr mask _ => c.wf && decide (addr < 2 ^ 64) && decide (mask < 2 ^ 32)
  | .bootImageWrite c addr len _ slot => c.wf && decide (addr < 2 ^ 64) && decide (len < 2 ^ 32) && decide (slot < 2 ^ 32)
  | .scorepadRead c addr seq era count _ => c.wf && decide (addr < 2 ^ 64) && decide (seq < 2 ^ 64) && decide (era < 2 ^ 32) && decide (count < 2 ^ 32)
  | .stewardServe => true
  | .irqCoalesceTimeout i v => decide (i < 9) && decide (v < 4)
  | .evBacklogDrain h => decide (h < 9)
  | .rxPlace h => decide (h < 8)
  | .rxHoldExpire h => decide (h < 8)
  | .rxLossReport h => decide (h < 8)
  | .tunCmdMsg h port p => decide (h < 8) && decide (port < 3) && p.all (· < 256)
  | .tunCreditMsg h port p => decide (h < 8) && decide (port < 3) && p.all (· < 256)
  | .tunAckMsg h port p => decide (h < 8) && decide (port < 3) && p.all (· < 256)
  | .tunStartMsg h port p => decide (h < 8) && decide (port < 3) && p.all (· < 256)
  | .tunKeepaliveMsg h port p => decide (h < 8) && decide (port < 3) && p.all (· < 256)
  | .tunNeighborSolicit port ip6 => decide (port < 2) && decide (ip6 < 2 ^ 128)
  | .tunResendTimeout h => decide (h < 8)
  | .tunSilenceTimeout h => decide (h < 8)
  | .tunKeepaliveSend h => decide (h < 8)
  | .hosthHresetWrite r h v => r.wf && decide (h < 8) && decide (v < 2 ^ 32)
  | .hbindHresetWrite r h => r.wf && decide (h < 8)
  | .hedgeResetEnd h => decide (h < 8)
  | .cntClrDiscard r i v => r.wf && decide (i < 9) && decide (v < 2 ^ 32)
  | .twinCfgEnWrite r v lanes => r.wf && decide (v < 2 ^ 32) && decide (lanes < 5)
  | .twinHelloRx eui prefer role schema _ => decide (eui < 2 ^ 64) && decide (prefer < 4) && decide (role < 4) && decide (schema < 2 ^ 32)
  | .twinHelloTimeout => true
  | .twinHeartbeatSend => true
  | .twinLinkSilent => true
  | .twinHbSilent => true
  | .partnerFaultAssert => true
  | .twinCmdTakeover r => r.wf
  | .twinCmdSwitch r => r.wf
  | .twinCmdLoop r _ => r.wf
  | .twinDemotionRx cause => decide (cause < 16)
  | .snapshotCapture _ _ => true
  | .snapshotApply x _ => x.wf
  | .twinCounterRecordRx h e counter => decide (h < 8) && decide (e < 262144) && decide (counter < 2 ^ 32)
  | .twinLoopTest _ => true
  | .twinDualActive at_ => decide (at_ < 2 ^ 64)
  | .prpFrameRx port source seq _ _ => decide (port < 2) && decide (source < 2 ^ 48) && decide (seq < 65536)
  | .prpSupSend => true
  | .prpSupTimeout port => decide (port < 2)
  | .powerOn => true
  | .porNLow ns _ => decide (ns < 2 ^ 64)
  | .resetNLow ns _ => decide (ns < 2 ^ 64)
  | .supplyLow => true
  | .thermalTrip => true
  | .thermalHoldEnd => true
  | .stewardWdogExpire => true
  | .rstCmdSystem r => r.wf
  | .rstCmdCore r => r.wf
  | .resetRelease x => x.wf
  | .coreReset _ _ progOk lanesOk aesOk decOk portsOk => decide (progOk < 256) && decide (lanesOk < 2 ^ 48) && decide (aesOk < 2 ^ 32) && decide (decOk < 16) && decide (portsOk < 16)
  | .bootConfirm r => r.wf
  | .recovGo r x => r.wf && x.wf
  | .dramScrub k errs => decide (k < 2 ^ 23) && errs.all (·.1 < 2 ^ 32)
  | .calSaveTuner r ports => r.wf && decide (ports < 2 ^ 32)
  | .rtcSecond => true
  | .oscStopDetect => true
  | .rtcTimeRead r k => r.wf && decide (k < 8)
  | .rtcThawTimeout r => r.wf
  | .rtcHaltWrite r v => r.wf && decide (v < 2 ^ 32)
  | .rtcTimeWrite r k v => r.wf && decide (k < 8) && decide (v < 2 ^ 32)
  | .rtcAutoSet => true
  | .pwronLevelWrite r v => r.wf && decide (v < 2 ^ 32)
  | .triggerEventPost n => decide (n < 16)
  | .missedTriggersPost h => decide (h < 8)
  | .backupReset => true
  | .backupSupplySwitch _ => true
  | .refclkLoss => true
  | .pllUnlock => true
  | .refclkRestored => true
  | .clockDupMismatch => true
  | .stewardLockstepMismatch => true
  | .memoryEccError at_ _ => at_.wf
  | .sramScrub errs => errs.all (·.1 < 2 ^ 32)
  | .engineBist e _ => decide (e < 128)
  | .dramProbe _ _ => true
  | .adcSubconvCheck p _ => decide (p < 2)
  | .laneCheckerSlot l _ => decide (l < 48)
  | .ldpcKnownTest k iters _ => decide (k < 4) && decide (iters < 256)
  | .cryptoKat _ core _ _ => decide (core < 256)
  | .scorepadCommit read => read.all (· < 256)
  | .scorepadSuppressReport => true
  | .faultInject r => r.wf
  | .tamperSample n _ => decide (n < 2)
  | .rxSynthLockLost n => decide (n < 6)
  | .ppsOpenCheck _ => true
  | .vbatLowDetect _ => true
  | .shaperUnblock n => decide (n < 1024)
  | .ptPulseEnd n => decide (n < 64)
  | .registerRead r off len => r.wf && decide (off < 2 ^ 32) && decide (len < 2 ^ 32)
  | .twinLinkUp => true
  | .partnerFaultRelease => true
  | .bootFlashWriteDone => true

end Sys2Proof
end

