-- ==== Sys2Proof/Tests/Slice0.lean ====
section
/-!
SUPPORT. Tests of the checks on operands, of a few commands with the spec's own figures, and the states that
meet the hypotheses of the statements.
-/

open Sys2Proof Sys2Proof.Machine

namespace Sys2Proof.Tests

set_option linter.all false
set_option maxRecDepth 20000

/-! ### WellFormed: an operand out of range is refused, check by check -/

def cmd0 : Cmd := ⟨0, 0, 0, false⟩
def nb0 : NodeBlock := ⟨0, 0, 0, false, 0, none, 0, false, 0, 0, false⟩
def pm0 : PtpMsg := ⟨[], 0, false, none, none⟩
def lm0 : LaneMeasure := ⟨[], 0, 0, 0, 0, 0⟩
def sn0 : TwinSnap := ⟨0, 0, 0, 0, false, [], [], [], [], [], [], []⟩
def bi0 : BootIn := ⟨0, [], true, 0, [], [], [], 0⟩

theorem test_wf_refuses_0 : (
    [.regWrite (.thread 512) 0 0 0, .regWrite .steward (2 ^ 32) 0 0, .regWrite .steward 0 (2 ^ 32) 0, .regWrite .steward 0 0 (2 ^ 64),
     .reg64LowRead (.thread 512) 0, .reg64LowRead .steward (2 ^ 32), .rcFieldRead (.thread 512) 0, .rcFieldRead .steward (2 ^ 32),
     .expertGWrite (.thread 512) 0, .expertGWrite .steward (2 ^ 32), .expertHWrite (.thread 512) 0 0, .expertHWrite .steward 8 0,
     .expertHWrite .steward 0 (2 ^ 32), .expertTakeEffect 9, .expertReload 9, .nscIncWrite (.thread 512) 0, .nscIncWrite .steward (2 ^ 32),
     .nscNowNsRead (.thread 512), .nscSet (.thread 512), .nscStep (.thread 512), .nscSlewCntWrite (.thread 512) 0,
     .nscSlewCntWrite .steward (2 ^ 32), .ppsEdge (2 ^ 32), .ptpMsgRx 2 pm0, .ptpMsgRx 0 { pm0 with frame := [256] }, .ptpSyncTimeout 2,
     .ptCmpLowWrite (.thread 512) 0 0, .ptCmpLowWrite .steward 64 0, .ptCmpLowWrite .steward 0 (2 ^ 32), .ptCtlWrite (.thread 512) 0 0,
     .ptCtlWrite .steward 64 0, .ptCtlWrite .steward 0 (2 ^ 32), .ptReadinessCheck 64 false, .ptAlloc { cmd0 with ring := 9 },
     .ptFree { cmd0 with ring := 9 } 0, .ptFree cmd0 (2 ^ 32), .cuEdge 8 false, .cuPop (.thread 512) 0 0, .cuPop .steward 16 0,
     .cuPop .steward 0 (2 ^ 32), .beaconInterval 8, .incarnationWalkEnd 262144, .joinTimeout 262144, .agingVisit 262144, .entryHoldEnd 262144] : List Instr).all (!·.wf) = true := by decide

theorem test_wf_refuses_1 : (
    [.nodeInsert { cmd0 with ring := 9 } nb0, .nodeInsert cmd0 { nb0 with short := 2 ^ 16 }, .nodeDelete { cmd0 with ring := 9 } 0,
     .nodeDelete cmd0 (2 ^ 32), .nodeRead { cmd0 with ring := 9 } 0 false 0, .nodeRead cmd0 (2 ^ 32) false 0, .nodeRead cmd0 0 false (2 ^ 64),
     .nodeUpdate { cmd0 with ring := 9 } 0 0 0 0 0 0 0 0 0, .nodeUpdate cmd0 (2 ^ 32) 0 0 0 0 0 0 0 0, .nodeUpdate cmd0 0 (2 ^ 32) 0 0 0 0 0 0 0,
     .nodeUpdate cmd0 0 0 (2 ^ 32) 0 0 0 0 0 0, .nodeUpdate cmd0 0 0 0 (2 ^ 32) 0 0 0 0 0, .nodeUpdate cmd0 0 0 0 0 (2 ^ 32) 0 0 0 0,
     .nodeUpdate cmd0 0 0 0 0 0 (2 ^ 32) 0 0 0, .nodeUpdate cmd0 0 0 0 0 0 0 (2 ^ 32) 0 0, .nodeUpdate cmd0 0 0 0 0 0 0 0 (2 ^ 32) 0,
     .nodeUpdate cmd0 0 0 0 0 0 0 0 0 (2 ^ 64), .nodePin { cmd0 with ring := 9 } 0, .nodePin cmd0 (2 ^ 32), .nodeUnpin { cmd0 with ring := 9 } 0,
     .nodeUnpin cmd0 (2 ^ 32), .nodeTouch { cmd0 with ring := 9 } 0, .nodeTouch cmd0 (2 ^ 32), .nodeList { cmd0 with ring := 9 } 0 0 0,
     .nodeList cmd0 (2 ^ 32) 0 0, .nodeList cmd0 0 (2 ^ 32) 0, .nodeList cmd0 0 0 (2 ^ 64), .thkQuotaWrite (.thread 512) 0 0,
     .thkQuotaWrite .steward 8 0, .thkQuotaWrite .steward 0 (2 ^ 32), .agcWindowEnd 4 0 false, .agcUpHoldExpire 4, .agcThrWrite (.thread 512) 0 0,
     .agcThrWrite .steward 4 0, .agcThrWrite .steward 0 (2 ^ 32), .aprxCtlWrite (.thread 512) 0 0, .aprxCtlWrite .steward 4 0,
     .aprxCtlWrite .steward 0 (2 ^ 32), .sliceFcWrite (.thread 512) 0 0, .sliceFcWrite .steward 6 0, .sliceFcWrite .steward 0 (2 ^ 32),
     .loMhzWrite (.thread 512) 0 0, .loMhzWrite .steward 4 0, .loMhzWrite .steward 0 (2 ^ 32), .ddcWrite (.thread 512) 0 0 0] : List Instr).all (!·.wf) = true := by decide

theorem test_wf_refuses_2 : (
    [.ddcWrite .steward 64 0 0, .ddcWrite .steward 0 (2 ^ 32) 0, .ddcWrite .steward 0 0 (2 ^ 32), .laneCfgWrite (.thread 512) 0 0,
     .laneCfgWrite .steward 48 0, .laneCfgWrite .steward 0 (2 ^ 32), .laneModesWrite (.thread 512) 0 0, .laneModesWrite .steward 48 0,
     .laneModesWrite .steward 0 (2 ^ 32), .sliceCtlWrite (.thread 512) 0 0, .sliceCtlWrite .steward 6 0, .sliceCtlWrite .steward 0 (2 ^ 32),
     .mapPeriodEnd 6 [] false, .mapStampRefresh 6, .sliceThrWrite (.thread 512) 0 0, .sliceThrWrite .steward 6 0, .sliceThrWrite .steward 0 (2 ^ 32),
     .selfBlankStart 4, .selfBlankEnd 4, .syncDeclare 48 0 0, .syncDeclare 0 12 0, .syncDeclare 0 0 (2 ^ 32), .laneHeaderEnd 48 (.oqpsk 0) 0,
     .laneHeaderEnd 0 (.oqpsk 256) 0, .laneHeaderEnd 0 (.oqpsk 0) (2 ^ 64), .ldpcCwSubmit ⟨48, []⟩, .ldpcCwSubmit ⟨0, [[], [], []]⟩,
     .ldpcDecodeStart 4, .ldpcDecodeDone 4 0 0, .ldpcDecodeDone 0 256 0, .laneFrameEnd 48 lm0, .laneFrameEnd 0 { lm0 with psdu := [256] },
     .ldpcCfgWrite (.thread 512) 0 0, .ldpcCfgWrite .steward (2 ^ 32) 0, .ldpcCfgWrite .steward 0 (2 ^ 32), .ldpcDecEnWrite (.thread 512) 0,
     .ldpcDecEnWrite .steward (2 ^ 32), .txcCtlWrite (.thread 512) 0 0, .txcCtlWrite .steward 4 0, .txcCtlWrite .steward 0 (2 ^ 32),
     .goReady (.thread 512) 0, .goReady .steward 4, .goStandby (.thread 512) 0, .goStandby .steward 4, .calFlush (.thread 512) 0] : List Instr).all (!·.wf) = true := by decide

theorem test_wf_refuses_3 : (
    [.calFlush .steward 4, .chainEnableDone 4, .txRequestHead 4, .synthTuneDone 6, .synthLockLost 4, .txStateEnter 4, .powerLoopStep 4 0,
     .txLoopEnd 4 0, .fwdPowerCheck 4 0, .aerialFaultDetect 4 0, .aerialFaultDetect 0 (2 ^ 32), .txLastSample 4 0 0, .txLastSample 0 (2 ^ 32) 0,
     .txToReadyDone 4, .outputReadbackMismatch 8 0, .outputReadbackMismatch 0 8, .txcMuteWrite (.thread 512) 0 0, .txcMuteWrite .steward 4 0,
     .txcMuteWrite .steward 0 (2 ^ 32), .runawayTimeout 4, .detCheck 4 false false false, .coexReqAssert 64, .coexCheck (.thread 512),
     .coexLeadWrite (.thread 512) 0, .coexLeadWrite .steward (2 ^ 32), .chplanWrite (.thread 512) 0 0 0, .chplanWrite .steward 8 0 0,
     .chplanWrite .steward 0 (2 ^ 32) 0, .chplanWrite .steward 0 0 (2 ^ 32), .panmapWrite (.thread 512) 0 0 0, .panmapWrite .steward 32 0 0,
     .panmapWrite .steward 0 (2 ^ 32) 0, .panmapWrite .steward 0 0 (2 ^ 32), .airEui64Write (.thread 512) 0, .airEui64Write .steward (2 ^ 32),
     .profileSetRegion { cmd0 with ring := 9 } 0, .profileSetRegion cmd0 (2 ^ 32), .regprofLockSet (.thread 512), .gateDecision 64,
     .gateRecordHandle 4, .dutySlotEnd 16, .macRxFrame 48, .ackWindowExpire (2 ^ 32), .downlinkRelease (2 ^ 32), .attemptArm (2 ^ 32)] : List Instr).all (!·.wf) = true := by decide

theorem test_wf_refuses_4 : (
    [.trainCopyArm (2 ^ 32), .txResultHandle 4, .refloodSend (2 ^ 32), .genBaseWrite (.thread 512) 0 0, .genBaseWrite .steward 8 0,
     .genBaseWrite .steward 0 (2 ^ 32), .campaignStart { cmd0 with ring := 9 } 0 0 0 0 false 0 0 0 0,
     .campaignStart cmd0 (2 ^ 32) 0 0 0 false 0 0 0 0, .campaignStart cmd0 0 (2 ^ 32) 0 0 false 0 0 0 0,
     .campaignStart cmd0 0 0 (2 ^ 32) 0 false 0 0 0 0, .campaignStart cmd0 0 0 0 (2 ^ 32) false 0 0 0 0,
     .campaignStart cmd0 0 0 0 0 false (2 ^ 32) 0 0 0, .campaignStart cmd0 0 0 0 0 false 0 (2 ^ 32) 0 0,
     .campaignStart cmd0 0 0 0 0 false 0 0 (2 ^ 32) 0, .campaignStart cmd0 0 0 0 0 false 0 0 0 (2 ^ 32), .campaignBlockSend 8,
     .campaignReportWindowEnd 8, .campaignActivateSend 8, .campaignPause { cmd0 with ring := 9 } 0, .campaignPause cmd0 (2 ^ 32),
     .campaignResume { cmd0 with ring := 9 } 0, .campaignResume cmd0 (2 ^ 32), .campaignAbort { cmd0 with ring := 9 } 0,
     .campaignAbort cmd0 (2 ^ 32), .campStatusRead (.thread 512) 0, .campStatusRead .steward 8, .sweepStart { cmd0 with ring := 9 } 0 0 0 false,
     .sweepStart cmd0 (2 ^ 32) 0 0 false, .sweepStart cmd0 0 (2 ^ 32) 0 false, .sweepStart cmd0 0 0 (2 ^ 32) false, .sweepRoundStart 8, .sweepEnd 8,
     .sweepRead { cmd0 with ring := 9 } 0 0 0, .sweepRead cmd0 (2 ^ 32) 0 0, .sweepRead cmd0 0 (2 ^ 32) 0, .sweepRead cmd0 0 0 (2 ^ 64),
     .meterCommit (.thread 512) 0 0, .meterCommit .steward 16384 0, .meterCommit .steward 0 (2 ^ 32), .shaperCommit (.thread 512) 0 0,
     .shaperCommit .steward 1024 0, .shaperCommit .steward 0 (2 ^ 32), .outputRequest 4, .queueEligible 262144, .watchSample 64] : List Instr).all (!·.wf) = true := by decide

theorem test_wf_refuses_5 : (
    [.qprobeSelWrite (.thread 512) 0 0, .qprobeSelWrite .steward 9 0, .qprobeSelWrite .steward 0 (2 ^ 32), .qprobeGroupWrite (.thread 512) 0 0,
     .qprobeGroupWrite .steward 9 0, .qprobeGroupWrite .steward 0 (2 ^ 32), .queueCfg { cmd0 with ring := 9 } 0 0, .queueCfg cmd0 (2 ^ 32) 0,
     .queueCfg cmd0 0 (2 ^ 32), .tmhCtlWrite (.thread 512) 0 0, .tmhCtlWrite .steward 8 0, .tmhCtlWrite .steward 0 (2 ^ 32),
     .cellQuotaWrite (.thread 512) 0 0, .cellQuotaWrite .steward 8 0, .cellQuotaWrite .steward 0 (2 ^ 32), .fifoCfgWrite (.thread 512) 0 0 0,
     .fifoCfgWrite .steward 2048 0 0, .fifoCfgWrite .steward 0 (2 ^ 32) 0, .fifoCfgWrite .steward 0 0 (2 ^ 32), .fifoPtrCheck 2048 false,
     .fifoStallResume 512, .fifoStallTimeout 512, .keyImport { cmd0 with ring := 9 } 0 0 0 0 0 0, .keyImport cmd0 (2 ^ 32) 0 0 0 0 0,
     .keyImport cmd0 0 (2 ^ 32) 0 0 0 0, .keyImport cmd0 0 0 (2 ^ 32) 0 0 0, .keyImport cmd0 0 0 0 (2 ^ 32) 0 0, .keyImport cmd0 0 0 0 0 (2 ^ 32) 0,
     .keyImport cmd0 0 0 0 0 0 (2 ^ 64), .keyDerive { cmd0 with ring := 9 } 0 0 0 0 0 0 0, .keyDerive cmd0 (2 ^ 32) 0 0 0 0 0 0,
     .keyDerive cmd0 0 (2 ^ 32) 0 0 0 0 0, .keyDerive cmd0 0 0 (2 ^ 32) 0 0 0 0, .keyDerive cmd0 0 0 0 (2 ^ 32) 0 0 0,
     .keyDerive cmd0 0 0 0 0 (2 ^ 32) 0 0, .keyDerive cmd0 0 0 0 0 0 (2 ^ 32) 0, .keyDerive cmd0 0 0 0 0 0 0 (2 ^ 64),
     .keyErase { cmd0 with ring := 9 } 0, .keyErase cmd0 (2 ^ 32), .keyInfo { cmd0 with ring := 9 } 0, .keyInfo cmd0 (2 ^ 32),
     .hedgeKeyWipe { cmd0 with ring := 9 } 0, .hedgeKeyWipe cmd0 (2 ^ 32), .trustSet { cmd0 with ring := 9 } 0 false 0,
     .trustSet cmd0 (2 ^ 32) false 0] : List Instr).all (!·.wf) = true := by decide

theorem test_wf_refuses_6 : (
    [.trustSet cmd0 0 false (2 ^ 64), .trustLockSet (.thread 512) 0 0, .trustLockSet .steward 8 0, .trustLockSet .steward 0 (2 ^ 32),
     .attest { cmd0 with ring := 9 } 0 [] 0, .attest cmd0 (2 ^ 32) [] 0, .attest cmd0 0 [256] 0, .attest cmd0 0 [] (2 ^ 64),
     .nodeRekey { cmd0 with ring := 9 } 0, .nodeRekey cmd0 (2 ^ 32), .groupRekey { cmd0 with ring := 9 }, .keyDestroyAll { cmd0 with ring := 9 } 0,
     .keyDestroyAll cmd0 (2 ^ 32), .slotQuotaWrite (.thread 512) 0 0, .slotQuotaWrite .steward 8 0, .slotQuotaWrite .steward 0 (2 ^ 32),
     .joinResponsePart2 262144, .rekeyRetryExpire 262144, .groupSwitch 8, .groupOverlapEnd 8, .add 512 0 0 0, .sub 512 0 0 0, .addc 512 0 0 0,
     .subc 512 0 0 0, .and 512 0 0 0, .or 512 0 0 0, .xor 512 0 0 0, .andn 512 0 0 0, .shl 512 0 0 0, .shr 512 0 0 0, .sar 512 0 0 0, .rol 512 0 0 0,
     .mul 512 0 0 0, .mulhu 512 0 0 0, .mulhs 512 0 0 0, .clz 512 0 0 0, .popc 512 0 0 0, .min 512 0 0 0, .max 512 0 0 0, .minu 512 0 0 0,
     .maxu 512 0 0 0, .slt 512 0 0 0, .sltu 512 0 0 0, .addi 512 0 0 0, .andi 512 0 0 0] : List Instr).all (!·.wf) = true := by decide

theorem test_wf_refuses_7 : (
    [.ori 512 0 0 0, .xori 512 0 0 0, .shli 512 0 0 0, .shri 512 0 0 0, .sari 512 0 0 0, .slti 512 0 0 0, .lui 512 0 0 0, .ldb 512 0 0 0,
     .ldbu 512 0 0 0, .ldh 512 0 0 0, .ldhu 512 0 0 0, .ldw 512 0 0 0, .ldp 512 0 0 0, .stb 512 0 0 0, .sth 512 0 0 0, .stw 512 0 0 0,
     .stp 512 0 0 0, .ext 512 0 0 0 0, .extu 512 0 0 0 0, .ins 512 0 0 0 0, .bswap 512 0 0 0 0, .crc32c 512 0 0 0 0, .crc16 512 0 0 0 0,
     .hash 512 0 0 0, .aadd 512 0 0 0 0, .aswp 512 0 0 0 0, .acas 512 0 0 0 0, .beq 512 0 0 0, .bne 512 0 0 0, .blt 512 0 0 0, .bge 512 0 0 0,
     .bltu 512 0 0 0, .bgeu 512 0 0 0, .j 512 0, .jal 512 0, .jalr 512 0 0 0, .lkup 512 0 0 0, .tins 512 0 0 0, .tdel 512 0 0 0, .ttouch 512 0 0 0,
     .qput 512 0 0 0, .qget 512 0 0 0, .qpeek 512 0 0 0, .cry 512 0 0 0, .cwait 512 0 0 0] : List Instr).all (!·.wf) = true := by decide

theorem test_wf_refuses_8 : (
    [.tnow 512 0 0 0, .twait 512 0 0 0, .tarm 512 0 0 0, .yield 512 0 0 0, .waitev 512 0 0 0, .signal 512 0 0 0, .fence 512 0 0 0, .halt 512 0 0 0,
     .mfs 512 0 0 0, .mts 512 0 0 0, .trap 512 0 0 0, .tret 512 0 0 0, .threadEventWake 512, .twaitExpire 512, .threadTimerFire 512,
     .cryComplete 512 0, .cryComplete 0 (2 ^ 8), .thicketWindowTimeout 2048, .engineWdogExpire 128, .enghGrantWrite (.thread 512) 0 0 0,
     .enghGrantWrite .steward 8 0 0, .enghGrantWrite .steward 0 (2 ^ 32) 0, .enghGrantWrite .steward 0 0 (2 ^ 32),
     .progLoad { cmd0 with ring := 9 } 0 0 false, .progLoad cmd0 (2 ^ 32) 0 false, .progLoad cmd0 0 (2 ^ 32) false,
     .progStop { cmd0 with ring := 9 }, .progSignal { cmd0 with ring := 9 } 0, .progSignal cmd0 (2 ^ 32), .hbindWrite (.thread 512) 0 0 0,
     .hbindWrite .steward 8 0 0, .hbindWrite .steward 0 (2 ^ 32) 0, .hbindWrite .steward 0 0 (2 ^ 32), .pcieFlr (2 ^ 8), .pciePerst 2 0 0 0,
     .pciePerst 0 64 0 0, .pciePerst 0 0 16 0, .pciePerst 0 0 0 65536, .busMasterChange (2 ^ 8) false, .dmaError 9, .cmdDoorbell (.thread 512) 0 0,
     .cmdDoorbell .steward 9 0, .cmdDoorbell .steward 0 (2 ^ 32), .rxDoorbell (.thread 512) 0 0, .rxDoorbell .steward 9 0] : List Instr).all (!·.wf) = true := by decide

theorem test_wf_refuses_9 : (
    [.rxDoorbell .steward 0 (2 ^ 32), .cplDoorbell (.thread 512) 0 0, .cplDoorbell .steward 9 0, .cplDoorbell .steward 0 (2 ^ 32),
     .evDoorbell (.thread 512) 0 0, .evDoorbell .steward 9 0, .evDoorbell .steward 0 (2 ^ 32), .ringCtlWrite (.thread 512) 0 0,
     .ringCtlWrite .steward 9 0, .ringCtlWrite .steward 0 (2 ^ 32), .cmdRingDrainDone 9, .commandFetch 24,
     .send { cmd0 with ring := 9 } 0 0 0 0 0 0 0 0 0 [], .send cmd0 (2 ^ 64) 0 0 0 0 0 0 0 0 [], .send cmd0 0 (2 ^ 32) 0 0 0 0 0 0 0 [],
     .send cmd0 0 0 (2 ^ 32) 0 0 0 0 0 0 [], .send cmd0 0 0 0 (2 ^ 32) 0 0 0 0 0 [], .send cmd0 0 0 0 0 (2 ^ 32) 0 0 0 0 [],
     .send cmd0 0 0 0 0 0 (2 ^ 32) 0 0 0 [], .send cmd0 0 0 0 0 0 0 (2 ^ 32) 0 0 [], .send cmd0 0 0 0 0 0 0 0 (2 ^ 32) 0 [],
     .send cmd0 0 0 0 0 0 0 0 0 (2 ^ 64) [], .send cmd0 0 0 0 0 0 0 0 0 0 [256], .flood { cmd0 with ring := 9 } 0 0 0 0 0 0 [],
     .flood cmd0 (2 ^ 32) 0 0 0 0 0 [], .flood cmd0 0 (2 ^ 32) 0 0 0 0 [], .flood cmd0 0 0 (2 ^ 32) 0 0 0 [], .flood cmd0 0 0 0 (2 ^ 32) 0 0 [],
     .flood cmd0 0 0 0 0 (2 ^ 32) 0 [], .flood cmd0 0 0 0 0 0 (2 ^ 64) [], .flood cmd0 0 0 0 0 0 0 [256], .nop { cmd0 with ring := 9 },
     .memWrite { cmd0 with ring := 9 } 0 0 0, .memWrite cmd0 (2 ^ 64) 0 0, .memWrite cmd0 0 (2 ^ 32) 0, .memWrite cmd0 0 0 (2 ^ 32),
     .memRead { cmd0 with ring := 9 } 0 0 0, .memRead cmd0 (2 ^ 64) 0 0, .memRead cmd0 0 (2 ^ 32) 0, .memRead cmd0 0 0 (2 ^ 32),
     .watchRead { cmd0 with ring := 9 } 0 0 0 0, .watchRead cmd0 (2 ^ 32) 0 0 0, .watchRead cmd0 0 (2 ^ 32) 0 0, .watchRead cmd0 0 0 (2 ^ 32) 0,
     .watchRead cmd0 0 0 0 (2 ^ 64)] : List Instr).all (!·.wf) = true := by decide

theorem test_wf_refuses_10 : (
    [.calTrigSet { cmd0 with ring := 9 } 0 0 [], .calTrigSet cmd0 (2 ^ 32) 0 [], .calTrigSet cmd0 0 (2 ^ 32) [], .calTrigSet cmd0 0 0 [256],
     .calTrigClr { cmd0 with ring := 9 } 0, .calTrigClr cmd0 (2 ^ 32), .hedgeReset { cmd0 with ring := 9 } 0, .hedgeReset cmd0 (2 ^ 32),
     .calExport { cmd0 with ring := 9 } 0, .calExport cmd0 (2 ^ 64), .calRestore { cmd0 with ring := 9 } 0 0 false,
     .calRestore cmd0 (2 ^ 64) 0 false, .calRestore cmd0 0 (2 ^ 32) false, .bootImageWrite { cmd0 with ring := 9 } 0 0 false 0,
     .bootImageWrite cmd0 (2 ^ 64) 0 false 0, .bootImageWrite cmd0 0 (2 ^ 32) false 0, .bootImageWrite cmd0 0 0 false (2 ^ 32),
     .scorepadRead { cmd0 with ring := 9 } 0 0 0 0 false, .scorepadRead cmd0 (2 ^ 64) 0 0 0 false, .scorepadRead cmd0 0 (2 ^ 64) 0 0 false,
     .scorepadRead cmd0 0 0 (2 ^ 32) 0 false, .scorepadRead cmd0 0 0 0 (2 ^ 32) false, .irqCoalesceTimeout 9 0, .irqCoalesceTimeout 0 4,
     .evBacklogDrain 9, .rxPlace 8, .rxHoldExpire 8, .rxLossReport 8, .tunCmdMsg 8 0 [], .tunCmdMsg 0 3 [], .tunCmdMsg 0 0 [256],
     .tunCreditMsg 8 0 [], .tunCreditMsg 0 3 [], .tunCreditMsg 0 0 [256], .tunAckMsg 8 0 [], .tunAckMsg 0 3 [], .tunAckMsg 0 0 [256],
     .tunStartMsg 8 0 [], .tunStartMsg 0 3 [], .tunStartMsg 0 0 [256], .tunKeepaliveMsg 8 0 [], .tunKeepaliveMsg 0 3 [], .tunKeepaliveMsg 0 0 [256],
     .tunNeighborSolicit 2 0, .tunNeighborSolicit 0 (2 ^ 128)] : List Instr).all (!·.wf) = true := by decide

theorem test_wf_refuses_11 : (
    [.tunResendTimeout 8, .tunSilenceTimeout 8, .tunKeepaliveSend 8, .hosthHresetWrite (.thread 512) 0 0, .hosthHresetWrite .steward 8 0,
     .hosthHresetWrite .steward 0 (2 ^ 32), .hbindHresetWrite (.thread 512) 0, .hbindHresetWrite .steward 8, .hedgeResetEnd 8,
     .cntClrDiscard (.thread 512) 0 0, .cntClrDiscard .steward 9 0, .cntClrDiscard .steward 0 (2 ^ 32), .twinCfgEnWrite (.thread 512) 0 0,
     .twinCfgEnWrite .steward (2 ^ 32) 0, .twinCfgEnWrite .steward 0 5, .twinHelloRx (2 ^ 64) 0 0 0 false, .twinHelloRx 0 4 0 0 false,
     .twinHelloRx 0 0 4 0 false, .twinHelloRx 0 0 0 (2 ^ 32) false, .twinCmdTakeover (.thread 512), .twinCmdSwitch (.thread 512),
     .twinCmdLoop (.thread 512) [], .twinDemotionRx 16, .snapshotApply { sn0 with entries := [(262144, [])] } 0, .twinCounterRecordRx 8 0 0,
     .twinCounterRecordRx 0 262144 0, .twinCounterRecordRx 0 0 (2 ^ 32), .twinDualActive (2 ^ 64), .prpFrameRx 2 0 0 false false,
     .prpFrameRx 0 (2 ^ 48) 0 false false, .prpFrameRx 0 0 65536 false false, .prpSupTimeout 2, .porNLow (2 ^ 64) false, .resetNLow (2 ^ 64) false,
     .rstCmdSystem (.thread 512), .rstCmdCore (.thread 512), .resetRelease { bi0 with sel := 4 }, .coreReset false false 256 0 0 0 0,
     .coreReset false false 0 (2 ^ 48) 0 0 0, .coreReset false false 0 0 (2 ^ 32) 0 0, .coreReset false false 0 0 0 16 0,
     .coreReset false false 0 0 0 0 16, .bootConfirm (.thread 512), .recovGo (.thread 512) bi0, .recovGo .steward { bi0 with sel := 4 }] : List Instr).all (!·.wf) = true := by decide

theorem test_wf_refuses_12 : (
    [.dramScrub (2 ^ 23) [], .dramScrub 0 [(2 ^ 32, true)], .calSaveTuner (.thread 512) 0, .calSaveTuner .steward (2 ^ 32),
     .rtcTimeRead (.thread 512) 0, .rtcTimeRead .steward 8, .rtcThawTimeout (.thread 512), .rtcHaltWrite (.thread 512) 0,
     .rtcHaltWrite .steward (2 ^ 32), .rtcTimeWrite (.thread 512) 0 0, .rtcTimeWrite .steward 8 0, .rtcTimeWrite .steward 0 (2 ^ 32),
     .pwronLevelWrite (.thread 512) 0, .pwronLevelWrite .steward (2 ^ 32), .triggerEventPost 16, .missedTriggersPost 8,
     .memoryEccError (.sram (2 ^ 27)) false, .sramScrub [(2 ^ 32, true)], .engineBist 128 false, .adcSubconvCheck 2 false, .laneCheckerSlot 48 false,
     .ldpcKnownTest 4 0 false, .ldpcKnownTest 0 256 false, .cryptoKat .aes 256 false false, .scorepadCommit [256], .faultInject (.thread 512),
     .tamperSample 2 false, .rxSynthLockLost 6, .shaperUnblock 1024, .ptPulseEnd 64, .registerRead (.thread 512) 0 0,
     .registerRead .steward (2 ^ 32) 0, .registerRead .steward 0 (2 ^ 32), .nop { cmd0 with tag := 2 ^ 32 }, .nop { cmd0 with index := 2 ^ 32 },
     .reg64LowRead (.hedge 8) 0, .nodeInsert cmd0 { nb0 with eui := 2 ^ 64 }, .nodeInsert cmd0 { nb0 with state := 2 ^ 8 },
     .nodeInsert cmd0 { nb0 with flags := 2 ^ 16 }, .nodeInsert cmd0 { nb0 with drift := some 4 }, .nodeInsert cmd0 { nb0 with meter := 2 ^ 16 },
     .nodeInsert cmd0 { nb0 with secLevel := 8 }, .nodeInsert cmd0 { nb0 with keyGen := 2 ^ 8 }, .laneHeaderEnd 0 (.fsk 15 false false false 0) 0,
     .laneHeaderEnd 0 (.fsk 24 false false false 0) 0] : List Instr).all (!·.wf) = true := by decide

theorem test_wf_refuses_13 : (
    [.laneHeaderEnd 0 (.fsk 16 false false false 2048) 0, .laneHeaderEnd 0 (.ofdm 32 0 true) 0, .laneHeaderEnd 0 (.ofdm 0 2048 true) 0,
     .laneHeaderEnd 0 (.xl (2 ^ 32) []) 0, .laneHeaderEnd 0 (.xl 0 [⟨[], [], []⟩, ⟨[], [], []⟩, ⟨[], [], []⟩]) 0,
     .snapshotApply { sn0 with entries := [(0, [])] } 0, .resetRelease { bi0 with threads := [(512, 0)] },
     .resetRelease { bi0 with threads := [(0, 2 ^ 32)] }, .memoryEccError (.engine 512 0) false, .memoryEccError (.engine 0 (2 ^ 32)) false,
     .memoryEccError (.dram (2 ^ 36) 0) false] : List Instr).all (!·.wf) = true := by decide

theorem test_wf_refuses_octets : TwinSnap.wf { sn0 with entries := [(0, List.replicate 512 256)] } = false := by
  simp [TwinSnap.wf, -List.reduceReplicate]

theorem test_wf_accepts_0 : (
    [.regWrite .steward 0 0 0, .reg64LowRead .steward 0, .rcFieldRead .steward 0, .expertGWrite .steward 0, .expertHWrite .steward 0 0,
     .expertTakeEffect 0, .expertReload 0, .nscCycle, .slewCountExpire, .nscIncWrite .steward 0, .nscNowNsRead .steward, .nscSet .steward,
     .nscStep .steward, .nscSlewCntWrite .steward 0, .ppsEdge 0, .ppsLossTimeout, .ptpMsgRx 0 pm0, .ptpSyncTimeout 0, .ptCmpLowWrite .steward 0 0,
     .ptCtlWrite .steward 0 0, .ptReadinessCheck 0 false, .ptFire, .ptAlloc cmd0, .ptFree cmd0 0, .cuEdge 0 false, .cuPop .steward 0 0,
     .beaconInterval 0, .incarnationWalkEnd 0, .joinTimeout 0, .agingVisit 0, .agingPassEnd, .revalDone, .entryHoldEnd 0, .nodeInsert cmd0 nb0,
     .nodeDelete cmd0 0, .nodeRead cmd0 0 false 0, .nodeUpdate cmd0 0 0 0 0 0 0 0 0 0, .nodePin cmd0 0, .nodeUnpin cmd0 0, .nodeTouch cmd0 0,
     .nodeList cmd0 0 0 0, .thkQuotaWrite .steward 0 0, .agcWindowEnd 0 0 false, .agcUpHoldExpire 0, .agcThrWrite .steward 0 0,
     .aprxCtlWrite .steward 0 0] : List Instr).all (·.wf) = true := by decide

theorem test_wf_accepts_1 : (
    [.sliceFcWrite .steward 0 0, .loMhzWrite .steward 0 0, .ddcWrite .steward 0 0 0, .laneCfgWrite .steward 0 0, .laneModesWrite .steward 0 0,
     .sliceCtlWrite .steward 0 0, .mapPeriodEnd 0 [] false, .mapStampRefresh 0, .sliceThrWrite .steward 0 0, .selfBlankStart 0, .selfBlankEnd 0,
     .syncDeclare 0 0 0, .laneHeaderEnd 0 (.oqpsk 0) 0, .ldpcCwSubmit ⟨0, []⟩, .ldpcDecodeStart 0, .ldpcDecodeDone 0 0 0, .laneFrameEnd 0 lm0,
     .dupWinExpire, .ldpcCfgWrite .steward 0 0, .ldpcDecEnWrite .steward 0, .txcCtlWrite .steward 0 0, .goReady .steward 0, .goStandby .steward 0,
     .calFlush .steward 0, .chainEnableDone 0, .txRequestHead 0, .synthTuneDone 0, .synthLockLost 0, .txStateEnter 0, .powerLoopStep 0 0,
     .txLoopEnd 0 0, .fwdPowerCheck 0 0, .aerialFaultDetect 0 0, .txLastSample 0 0 0, .txToReadyDone 0, .outputReadbackMismatch 0 0,
     .txcMuteWrite .steward 0 0, .runawayTimeout 0, .detCheck 0 false false false, .coexReqAssert 0, .coexGntFall, .coexCheck .steward,
     .coexCheckStepEnd false, .coexLeadWrite .steward 0, .chplanWrite .steward 0 0 0, .panmapWrite .steward 0 0 0] : List Instr).all (·.wf) = true := by decide

theorem test_wf_accepts_2 : (
    [.airEui64Write .steward 0, .profileSetRegion cmd0 0, .regprofLockSet .steward, .gateDecision 0, .quietRelease, .gateRecordHandle 0,
     .dutySlotEnd 0, .macRxFrame 0, .ackWindowExpire 0, .phaseFixWalkDone, .downlinkRelease 0, .attemptArm 0, .trainCopyArm 0, .txResultHandle 0,
     .refloodSend 0, .genBaseWrite .steward 0 0, .campaignStart cmd0 0 0 0 0 false 0 0 0 0, .campaignBlockSend 0, .campaignReportWindowEnd 0,
     .campaignActivateSend 0, .campaignPause cmd0 0, .campaignResume cmd0 0, .campaignAbort cmd0 0, .campStatusRead .steward 0,
     .sweepStart cmd0 0 0 0 false, .sweepRoundStart 0, .sweepEnd 0, .sweepRead cmd0 0 0 0, .meterCommit .steward 0 0, .shaperCommit .steward 0 0,
     .outputRequest 0, .queueEligible 0, .expirySweep, .watchSample 0, .qprobeSelWrite .steward 0 0, .qprobeGroupWrite .steward 0 0,
     .queueCfg cmd0 0 0, .tmhCtlWrite .steward 0 0, .cellQuotaWrite .steward 0 0, .fifoCfgWrite .steward 0 0 0, .fifoPtrCheck 0 false,
     .fifoStallResume 0, .fifoStallTimeout 0, .drbgHealthFail, .drbgRestart false, .keyImport cmd0 0 0 0 0 0 0] : List Instr).all (·.wf) = true := by decide

theorem test_wf_accepts_3 : (
    [.keyDerive cmd0 0 0 0 0 0 0 0, .keyErase cmd0 0, .keyInfo cmd0 0, .hedgeKeyWipe cmd0 0, .trustSet cmd0 0 false 0, .trustLockSet .steward 0 0,
     .attest cmd0 0 [] 0, .nodeRekey cmd0 0, .groupRekey cmd0, .keyDestroyAll cmd0 0, .keyOrphanSweep, .keyRetireZero, .slotQuotaWrite .steward 0 0,
     .joinResponsePart2 0, .rekeyRetryExpire 0, .groupSwitch 0, .groupOverlapEnd 0, .add 0 0 0 0, .sub 0 0 0 0, .addc 0 0 0 0, .subc 0 0 0 0,
     .and 0 0 0 0, .or 0 0 0 0, .xor 0 0 0 0, .andn 0 0 0 0, .shl 0 0 0 0, .shr 0 0 0 0, .sar 0 0 0 0, .rol 0 0 0 0, .mul 0 0 0 0, .mulhu 0 0 0 0,
     .mulhs 0 0 0 0, .clz 0 0 0 0, .popc 0 0 0 0, .min 0 0 0 0, .max 0 0 0 0, .minu 0 0 0 0, .maxu 0 0 0 0, .slt 0 0 0 0, .sltu 0 0 0 0,
     .addi 0 0 0 0, .andi 0 0 0 0, .ori 0 0 0 0, .xori 0 0 0 0, .shli 0 0 0 0, .shri 0 0 0 0] : List Instr).all (·.wf) = true := by decide

theorem test_wf_accepts_4 : (
    [.sari 0 0 0 0, .slti 0 0 0 0, .lui 0 0 0 0, .ldb 0 0 0 0, .ldbu 0 0 0 0, .ldh 0 0 0 0, .ldhu 0 0 0 0, .ldw 0 0 0 0, .ldp 0 0 0 0, .stb 0 0 0 0,
     .sth 0 0 0 0, .stw 0 0 0 0, .stp 0 0 0 0, .ext 0 0 0 0 0, .extu 0 0 0 0 0, .ins 0 0 0 0 0, .bswap 0 0 0 0 0, .crc32c 0 0 0 0 0,
     .crc16 0 0 0 0 0, .hash 0 0 0 0, .aadd 0 0 0 0 0, .aswp 0 0 0 0 0, .acas 0 0 0 0 0, .beq 0 0 0 0, .bne 0 0 0 0, .blt 0 0 0 0, .bge 0 0 0 0,
     .bltu 0 0 0 0, .bgeu 0 0 0 0, .j 0 0, .jal 0 0, .jalr 0 0 0 0, .lkup 0 0 0 0, .tins 0 0 0 0, .tdel 0 0 0 0, .ttouch 0 0 0 0, .qput 0 0 0 0,
     .qget 0 0 0 0, .qpeek 0 0 0 0, .cry 0 0 0 0, .cwait 0 0 0 0, .tnow 0 0 0 0, .twait 0 0 0 0, .tarm 0 0 0 0, .yield 0 0 0 0, .waitev 0 0 0 0] : List Instr).all (·.wf) = true := by decide

theorem test_wf_accepts_5 : (
    [.signal 0 0 0 0, .fence 0 0 0 0, .halt 0 0 0 0, .mfs 0 0 0 0, .mts 0 0 0 0, .trap 0 0 0 0, .tret 0 0 0 0, .threadEventWake 0, .twaitExpire 0,
     .threadTimerFire 0, .cryComplete 0 0, .thicketWindowTimeout 0, .engineWdogExpire 0, .enghGrantWrite .steward 0 0 0, .progLoad cmd0 0 0 false,
     .progStop cmd0, .progSignal cmd0 0, .hbindWrite .steward 0 0 0, .pcieFlr 0, .pciePerst 0 0 0 0, .busMasterChange 0 false, .dmaError 0,
     .cmdDoorbell .steward 0 0, .rxDoorbell .steward 0 0, .cplDoorbell .steward 0 0, .evDoorbell .steward 0 0, .ringCtlWrite .steward 0 0,
     .cmdRingDrainDone 0, .commandFetch 0, .send cmd0 0 0 0 0 0 0 0 0 0 [], .flood cmd0 0 0 0 0 0 0 [], .nop cmd0, .memWrite cmd0 0 0 0,
     .memRead cmd0 0 0 0, .watchRead cmd0 0 0 0 0, .calTrigSet cmd0 0 0 [], .calTrigClr cmd0 0, .hedgeReset cmd0 0, .calExport cmd0 0,
     .calRestore cmd0 0 0 false, .bootImageWrite cmd0 0 0 false 0, .scorepadRead cmd0 0 0 0 0 false, .stewardServe, .irqCoalesceTimeout 0 0,
     .evBacklogDrain 0, .rxPlace 0] : List Instr).all (·.wf) = true := by decide

theorem test_wf_accepts_6 : (
    [.rxHoldExpire 0, .rxLossReport 0, .tunCmdMsg 0 0 [], .tunCreditMsg 0 0 [], .tunAckMsg 0 0 [], .tunStartMsg 0 0 [], .tunKeepaliveMsg 0 0 [],
     .tunNeighborSolicit 0 0, .tunResendTimeout 0, .tunSilenceTimeout 0, .tunKeepaliveSend 0, .hosthHresetWrite .steward 0 0,
     .hbindHresetWrite .steward 0, .hedgeResetEnd 0, .cntClrDiscard .steward 0 0, .twinCfgEnWrite .steward 0 0, .twinHelloRx 0 0 0 0 false,
     .twinHelloTimeout, .twinHeartbeatSend, .twinLinkSilent, .twinHbSilent, .partnerFaultAssert, .twinCmdTakeover .steward, .twinCmdSwitch .steward,
     .twinCmdLoop .steward [], .twinDemotionRx 0, .snapshotCapture false 0, .snapshotApply sn0 0, .twinCounterRecordRx 0 0 0, .twinLoopTest [],
     .twinDualActive 0, .prpFrameRx 0 0 0 false false, .prpSupSend, .prpSupTimeout 0, .powerOn, .porNLow 0 false, .resetNLow 0 false, .supplyLow,
     .thermalTrip, .thermalHoldEnd, .stewardWdogExpire, .rstCmdSystem .steward, .rstCmdCore .steward, .resetRelease bi0,
     .coreReset false false 0 0 0 0 0, .bootConfirm .steward] : List Instr).all (·.wf) = true := by decide

theorem test_wf_accepts_7 : (
    [.recovGo .steward bi0, .dramScrub 0 [], .calSaveTuner .steward 0, .rtcSecond, .oscStopDetect, .rtcTimeRead .steward 0, .rtcThawTimeout .steward,
     .rtcHaltWrite .steward 0, .rtcTimeWrite .steward 0 0, .rtcAutoSet, .pwronLevelWrite .steward 0, .triggerEventPost 0, .missedTriggersPost 0,
     .backupReset, .backupSupplySwitch false, .refclkLoss, .pllUnlock, .refclkRestored, .clockDupMismatch, .stewardLockstepMismatch,
     .memoryEccError .steward false, .sramScrub [], .engineBist 0 false, .dramProbe false false, .adcSubconvCheck 0 false, .laneCheckerSlot 0 false,
     .ldpcKnownTest 0 0 false, .cryptoKat .aes 0 false false, .scorepadCommit [], .scorepadSuppressReport, .faultInject .steward,
     .tamperSample 0 false, .rxSynthLockLost 0, .ppsOpenCheck false, .vbatLowDetect false, .shaperUnblock 0, .ptPulseEnd 0,
     .registerRead .steward 0 0, .twinLinkUp, .partnerFaultRelease, .bootFlashWriteDone, .laneHeaderEnd 0 (.fsk 16 false false false 2047) 0,
     .laneHeaderEnd 0 (.fsk 23 true true true 0) 0, .laneHeaderEnd 0 (.ofdm 31 2047 false) 0, .laneHeaderEnd 0 (.oqpsk 255) 0,
     .laneHeaderEnd 0 (.xl 0 [⟨[], [], []⟩, ⟨[], [], []⟩]) 0] : List Instr).all (·.wf) = true := by decide

/-- A state that lists a few fields apart from reset. -/
def st (l : List (Fld × Nat × Nat)) : State := l.foldl (fun s x => s.put x.1 x.2.1 x.2.2) State.reset
/-- A command descriptor of Hedge 1's ring. -/
def cmd1 : Cmd := ⟨1, 7, 3, false⟩
/-- A frame in lane 0, in group 9, its header not yet decoded. -/
def frame0 : LaneFrame := ⟨0, 0, 9, 40, 0, false, 0, 0, false, 0, false, 0, 0, 0, 0, 0, false, false, false, 0, [], 0, false, false, [], [], 0, []⟩
/-- A downlink of Hedge 1. -/
def down1 : Down := { uid := 5, hedge := 1, dest := 6, destInc := 0, freight := .send, sec := .link, cls := 0, cmd := none, opcode := 0x20, ackReq := true, noFlood := false, calFull := false, beacon := false, mode := 1, power := 0, psduLen := 20, final := 6, ttl := 0, origin := 0, floodSeq := 0, gen := 0, pans := [], payload := [], expiry := 0, enq := 0, colour := 0, demoted := false, cells := 1, stage := .queued, out := 0, cost := 0, charged := [], retries := 0, lbt := 0, bound := 0, hop := 6, hopInc := 0, aim := .plain, chain := 0, pt := 0, c := 0, pre := 0, freq := 0, lo := 0, hi := 0, prev := 0, late := false, model := false, held := false, frame := [], tag := none, seqNo := 0, ackEnd := 0, airs := 0, airUse := 0, airs0 := 0, use0 := 0, start := 0, lqi := 0, preUsed := 0, rx := none, autoMode := false, autoPower := false }
/-- A transmit request at chain 0's head. -/
def req0 : TxReq := ⟨0, 1, 0, 20, 868100000, 56, 0, none, 0, 9, 0, 1, false, false, []⟩

/-- The hypotheses of StepRuns can be met, clause by clause. -/
theorem witness_StepRuns :
    (∃ (c : Instr) (rest : List Instr) (s : State), s.pending = c :: rest)
    ∧ (∃ (s : State), s.pending = []) :=
  ⟨⟨.nscCycle, [], { State.reset with pending := [.nscCycle] }, by decide⟩,
   ⟨State.reset, by decide⟩⟩

/-- The hypotheses of MemoriesStayCanonical can be met. -/
theorem witness_MemoriesStayCanonical :
    (∃ (t : State) (s : State), s.mem.ok = true ∧ step s = .next t) :=
  ⟨State.reset, State.reset, by decide, rfl⟩

/-- The hypotheses of BusAccess can be met, clause by clause. -/
theorem witness_BusAccess :
    (∃ (r : Req) (off len : Nat) (s : State), (off % 4 ≠ 0 ∨ len ≠ 4))
    ∧ (∃ (r : Req) (off len v : Nat) (s : State), (off % 4 ≠ 0 ∨ len ≠ 4))
    ∧ (∃ (r : Req) (s : State), s.reachWord r 8 4 = 0)
    ∧ (∃ (r : Req) (s : State), s.reachWord r 0x204 4 = 0)
    ∧ (∃ (r : Req) (s : State), s.reachWord r 0x20 4 = 0)
    ∧ (∃ (r : Req) (v : Nat) (s : State), s.reachWord r 0x20 4 = 0 ∧ viewOf r = 0)
    ∧ (∃ (r : Req) (v : Nat) (s : State), s.reachWord r 0 4 = 0 ∧ viewOf r = 0) :=
  ⟨⟨.priv, 2, 4, State.reset, by decide⟩,
   ⟨.hedge 3, 4, 2, 0, State.reset, by decide⟩,
   ⟨.steward, st [(SYS.EUI64, 0, 0x123456789ABCDEF0)], by decide⟩,
   ⟨.steward, st [(SYS.ERR_CNT, 0, 5)], by decide⟩,
   ⟨.priv, st [(BOOT.STATUS_READY, 0, 1), (SYS.SCRATCH, 0, 7)], by decide⟩,
   ⟨.steward, 0x12345, State.reset, by decide⟩,
   ⟨.steward, 9, State.reset, by decide⟩⟩

/-- The hypotheses of ExpertOwnership can be met, clause by clause. -/
theorem witness_ExpertOwnership :
    (∃ (r : Req) (v : Nat) (s : State), s.reachWord r 0x40 4 = 0 ∧ viewOf r = 0 ∧ s.get BOOT.STATUS_READY = 1)
    ∧ (∃ (r : Req) (v : Nat) (s : State), s.reachWord r 0x84 4 = 0 ∧ viewOf r = 0 ∧ s.get BOOT.STATUS_READY = 1)
    ∧ (∃ (h : Nat) (s : State), h < 8)
    ∧ (∃ (h : Nat) (s : State), h < 8) :=
  ⟨⟨.priv, 5, st [(BOOT.STATUS_READY, 0, 1)], by decide⟩,
   ⟨.priv, 5, st [(BOOT.STATUS_READY, 0, 1)], by decide⟩,
   ⟨7, st [(SYS.EXPERT_H_OWN, 7, 33), (EXPX.CHG, 42, 1)], by decide⟩,
   ⟨0, st [(SYS.EXPERT_H_ACK, 0, 3), (SYS.EXPERT_H_OWN, 0, 1), (EXPX.CHG, 1, 1)], by decide⟩⟩

/-- The hypotheses of ClockCycle can be met, clause by clause. -/
theorem witness_ClockCycle :
    (∃ (s : State), s.get CLK.NS < 10 ^ 9 ∧ s.get CLK.SLEW_CNT = 0 ∧ s.get CLK.SEC < 2 ^ 48 - 1 ∧ s.get CLK.FRAC < 2 ^ 32 ∧ s.get WAKE.STATUS_FIX_ACTIVE = 0)
    ∧ (∃ (s : State), s.get CLK.SLEW_CNT ≠ 0 ∧ s.get WAKE.STATUS_FIX_ACTIVE = 0)
    ∧ (∃ (s : State), s.get CLK.SLEW_CNT = 0) :=
  ⟨⟨st [(CLK.NS, 0, 999999999)], by decide⟩,
   ⟨st [(CLK.SLEW_CNT, 0, 1)], by decide⟩,
   ⟨State.reset, by decide⟩⟩

/-- The hypotheses of IncrementWrite can be met, clause by clause. -/
theorem witness_IncrementWrite :
    (∃ (r : Req) (v : Nat) (s : State), s.reachWord r (TIME.NSC_INC.addr 0) 4 = 0 ∧ s.get TIME.NSC_CTL_SERVO_EN = 0 ∧ 0x154FDF3B6 ≤ s.join64 r 0x400008 v % 2 ^ 40 ∧ s.join64 r 0x400008 v % 2 ^ 40 ≤ 0x155ACB6F4)
    ∧ (∃ (r : Req) (v : Nat) (s : State), s.reachWord r (TIME.NSC_INC.addr 0) 4 = 0 ∧ (s.get TIME.NSC_CTL_SERVO_EN ≠ 0 ∨ s.join64 r 0x400008 v % 2 ^ 40 < 0x154FDF3B6 ∨ 0x155ACB6F4 < s.join64 r 0x400008 v % 2 ^ 40)) :=
  ⟨⟨.steward, 0x55ACB6F4, st [(TIME.NSC_CTL_SERVO_EN, 0, 0), (X64.PEND, x64 .steward 0x400008, 1)], by decide⟩,
   ⟨.steward, 0, State.reset, by decide⟩⟩

/-- The hypotheses of ClockRegisters can be met, clause by clause. -/
theorem witness_ClockRegisters :
    (∃ (r : Req) (s : State), s.reachWord r (TIME.NSC_NOW_NS_NS.addr 0) 4 = 0)
    ∧ (∃ (r : Req) (v : Nat) (s : State), s.reachWord r (TIME.NSC_SLEW_CNT.addr 0) 4 = 0)
    ∧ (∃ (r : Req) (s : State), s.reachWord r (TIME.NSC_CTL_SET.addr 0) 4 = 0)
    ∧ (∃ (r : Req) (s : State), s.reachWord r (TIME.NSC_CTL_STEP.addr 0) 4 = 0)
    ∧ (∃ (d : Int) (s : State), (s.clock : Int) + d < (s.get TIME.MP_EPOCH_SEC * 10 ^ 9 * 2 ^ 32 : Nat)) :=
  ⟨⟨.steward, State.reset, by decide⟩,
   ⟨.steward, 7, State.reset, by decide⟩,
   ⟨.steward, State.reset, by decide⟩,
   ⟨.steward, State.reset, by decide⟩,
   ⟨-1, State.reset, by decide⟩⟩

/-- The hypotheses of ClockSources can be met, clause by clause. -/
theorem witness_ClockSources :
    (∃ (us : Nat) (s : State), s.get TIME.PPS_CFG_EN = 0)
    ∧ (∃ (us : Nat) (s : State), s.get TIME.PPS_CFG_EN = 1 ∧ s.get DISC.PPS_SEEN = 1 ∧ s.get CLK.CYC - s.get DISC.PPS_LAST = 750000000 ∧ s.get DISC.PPS_RUN = 2 ∧ s.get TIME.PPS_STATUS_OPEN = 0 ∧ us ≤ 500000 ∧ s.get TIME.SRC_STATUS_ACTIVE ≠ 1 ∧ s.get TIME.SRC_CTL_PRI0 = 0 ∧ s.get TIME.SRC_CTL_AUTO = 0)
    ∧ (∃ (s : State), s.get DISC.PPS_SEEN = 1 ∧ s.get DISC.PPS_LAST + 1125000000 ≤ s.get CLK.CYC ∧ s.get TIME.SRC_STATUS_ACTIVE ≠ 1)
    ∧ (∃ (s : State), s.get TIME.SRC_STATUS_PPS_PRESENT = 0)
    ∧ (∃ (s : State), s.get TIME.SRC_STATUS_PPS_PRESENT ≠ 0)
    ∧ (∃ (p : Nat) (m : PtpMsg) (s : State), p < 2 ∧ s.get PTP_PORT.CTL_ROLE p = 2 ∧ s.get PTP_PORT.CTL_ROLE (1 - p) = 2 ∧ s.get PRP.CTL_EN = 0)
    ∧ (∃ (p : Nat) (m : PtpMsg) (s : State), p < 2 ∧ s.get PTP_PORT.CTL_ROLE p = 1 ∧ s.get PRP.CTL_EN = 0 ∧ s.ptpMine p m = true)
    ∧ (∃ (p : Nat) (m : PtpMsg) (s : State), p < 2 ∧ s.get PTP_PORT.CTL_ROLE p = 2 ∧ s.get PTP_PORT.CTL_ROLE (1 - p) ≠ 2)
    ∧ (∃ (p : Nat) (s : State), p < 2 ∧ s.get (ptpPresent p) ≠ 0 ∧ s.get TIME.SRC_STATUS_ACTIVE = 0)
    ∧ (∃ (n : Nat) (s : State), (s.cuHeld n).length < 4 ∧ s.get CU.CTL_SOURCE n ≠ 8)
    ∧ (∃ (n : Nat) (s : State), 4 ≤ (s.cuHeld n).length)
    ∧ (∃ (r : Req) (n : Nat) (e : CapEntry) (s : State), s.reachWord r (CU.POP.addr n) 4 = 0 ∧ s.capQ.find? (·.unit == n) = some e) :=
  ⟨⟨0, State.reset, by decide⟩,
   ⟨1, st [(TIME.PPS_CFG_EN, 0, 1), (DISC.PPS_SEEN, 0, 1), (DISC.PPS_RUN, 0, 2), (CLK.CYC, 0, 750000000), (TIME.SRC_CTL_PRI0, 0, 0), (TIME.SRC_CTL_AUTO, 0, 0)], by decide⟩,
   ⟨st [(DISC.PPS_SEEN, 0, 1), (CLK.CYC, 0, 1125000000)], by decide⟩,
   ⟨State.reset, by decide⟩,
   ⟨st [(TIME.SRC_STATUS_PPS_PRESENT, 0, 1)], by decide⟩,
   ⟨1, ⟨[], 5, true, none, none⟩, st [(PTP_PORT.CTL_ROLE, 1, 2), (PTP_PORT.CTL_ROLE, 0, 2)], by decide⟩,
   ⟨1, ⟨[1, 0x1B, 0x19, 0, 0, 0] ++ [0, 0, 0, 0, 0, 0] ++ [0x88, 0xF7] ++ List.replicate 50 0, 5, true, some 0, none⟩, st [(PTP_PORT.CTL_ROLE, 1, 1), (PTP_PORT.CTL_TRANSPORT, 1, 1)], by decide⟩,
   ⟨0, ⟨[], 5, true, none, none⟩, st [(PTP_PORT.CTL_ROLE, 0, 2)], by decide⟩,
   ⟨1, st [(TIME.SRC_STATUS_PTP1_PRESENT, 0, 1)], by decide⟩,
   ⟨15, State.reset, by decide⟩,
   ⟨2, { State.reset with capQ := List.replicate 4 ⟨2, 0, 0, 0, 0⟩ }, by decide⟩,
   ⟨.steward, 3, ⟨3, 0, 0, 0, 0⟩, { State.reset with capQ := [⟨3, 0, 0, 0, 0⟩] }, by decide⟩⟩

/-- The hypotheses of EntryLife can be met, clause by clause. -/
theorem witness_EntryLife :
    (∃ (e : Nat) (s : State), s.get E.STATE e = stJoining ∧ after32 ((s.get NODE.INS_AT e + s.get THK_HEDGE.JOIN_TIMEOUT (s.get E.HEDGE e)) % 2 ^ 32) s.mpSec = false ∧ s.heldEntry e = false)
    ∧ (∃ (e : Nat) (s : State), e < entryCount ∧ s.get THK.CTL_AGING_EN ≠ 0 ∧ s.get AGING.CURSOR = e ∧ s.get E.PINNED e = 0 ∧ s.get THK_HEDGE.CFG_AGING_EN (s.get E.HEDGE e) ≠ 0 ∧ s.heldEntry e = false ∧ ((s.mpSec + 2 ^ 32 - s.get E.LAST_HIT e) % 2 ^ 32) < 2 ^ 31 ∧ (s.get E.STATE e = stActive ∨ s.get E.STATE e = stSleepy) ∧ s.get THK_HEDGE.AGE_LOST (s.get E.HEDGE e) ≤ ((s.mpSec + 2 ^ 32 - s.get E.LAST_HIT e) % 2 ^ 32))
    ∧ (∃ (e : Nat) (s : State), e < entryCount ∧ s.get THK.CTL_AGING_EN ≠ 0 ∧ s.get AGING.CURSOR = e ∧ s.get E.PINNED e = 0 ∧ s.get THK_HEDGE.CFG_AGING_EN (s.get E.HEDGE e) ≠ 0 ∧ s.heldEntry e = false ∧ ((s.mpSec + 2 ^ 32 - s.get E.LAST_HIT e) % 2 ^ 32) < 2 ^ 31 ∧ s.get E.STATE e = stLost ∧ s.get THK_HEDGE.AGE_FREE (s.get E.HEDGE e) ≤ ((s.mpSec + 2 ^ 32 - s.get E.LAST_HIT e) % 2 ^ 32))
    ∧ (∃ (e : Nat) (s : State), e < entryCount ∧ s.get THK.CTL_AGING_EN ≠ 0 ∧ s.get AGING.CURSOR = e ∧ s.get E.PINNED e ≠ 0)
    ∧ (∃ (s : State), s.get THK.CTL_AGING_EN ≠ 0 ∧ s.get AGING.CURSOR = entryCount ∧ s.get AGING.START + s.passTicks ≤ s.mp)
    ∧ (∃ (s : State), s.get THK.STATUS_REVAL_ACTIVE ≠ 0)
    ∧ (∃ (r : Req) (h v : Nat) (s : State), s.reachWord r (THK_HEDGE.QUOTA.addr h) 4 = 0 ∧ viewOf r = 0 ∧ h < 8 ∧ s.get THK.QUOTA_SUM - s.get THK_HEDGE.QUOTA h + v % 2 ^ 19 ≤ entryCount)
    ∧ (∃ (r : Req) (h v : Nat) (s : State), s.reachWord r (THK_HEDGE.QUOTA.addr h) 4 = 0 ∧ viewOf r = 0 ∧ h < 8 ∧ entryCount < s.get THK.QUOTA_SUM - s.get THK_HEDGE.QUOTA h + v % 2 ^ 19) :=
  ⟨⟨5, st [(E.STATE, 5, 1), (E.HEDGE, 5, 0), (THK_HEDGE.JOIN_TIMEOUT, 0, 0)], by decide⟩,
   ⟨0, st [(THK.CTL_AGING_EN, 0, 1), (THK_HEDGE.CFG_AGING_EN, 0, 1), (E.STATE, 0, 2), (THK_HEDGE.AGE_LOST, 0, 0)], by decide⟩,
   ⟨0, st [(THK.CTL_AGING_EN, 0, 1), (THK_HEDGE.CFG_AGING_EN, 0, 1), (E.STATE, 0, 4), (THK_HEDGE.AGE_FREE, 0, 0)], by decide⟩,
   ⟨0, st [(THK.CTL_AGING_EN, 0, 1), (E.PINNED, 0, 1)], by decide⟩,
   ⟨st [(THK.CTL_AGING_EN, 0, 1), (AGING.CURSOR, 0, 262144), (THK.CTL_AGE_SCAN, 0, 0)], by decide⟩,
   ⟨st [(THK.STATUS_REVAL_ACTIVE, 0, 1)], by decide⟩,
   ⟨.steward, 7, 0, State.reset, by decide⟩,
   ⟨.steward, 7, 300000, State.reset, by decide⟩⟩

/-- The hypotheses of NodeCommands can be met, clause by clause. -/
theorem witness_NodeCommands :
    (∃ (c : Cmd) (b : NodeBlock) (s : State), s.standby = false ∧ s.expH c.ring 0 = false)
    ∧ (∃ (c : Cmd) (e : Nat) (s : State), (s.opened c.ring e).standby = false ∧ (s.opened c.ring e).named c.ring e = true ∧ (s.opened c.ring e).heldEntry e = false)
    ∧ (∃ (c : Cmd) (e : Nat) (s : State), (s.opened c.ring e).standby = false ∧ (s.opened c.ring e).named c.ring e = true ∧ (s.opened c.ring e).heldEntry e = true)
    ∧ (∃ (c : Cmd) (e addr : Nat) (s : State), (s.opened c.ring e).named c.ring e = true)
    ∧ (∃ (c : Cmd) (e addr : Nat) (s : State), (s.opened c.ring e).named c.ring e = true)
    ∧ (∃ (c : Cmd) (e mask short flags drift ap power meter addr : Nat) (w : State) (s : State), (s.opened c.ring e).standby = false ∧ (s.opened c.ring e).named c.ring e = true ∧ (¬ (1024 ≤ mask ∨ (bit mask 0 ∧ (short = 0xFFFF ∨ ((s.opened c.ring e).keyHeld true c.ring short).any (· != e))) ∨ (bit mask 1 ∧ 4 ≤ flags) ∨ (bit mask 2 ∧ 16 ≤ drift) ∨ (bit mask 3 ∧ 4 ≤ ap) ∨ (bit mask 5 ∧ bit meter 14) ∨ (bit mask 9 ∧ (s.opened c.ring e).get E.STATE e = stJoining))) ∧ ((s.opened c.ring e).expH c.ring 0 && maskOwned mask) = false ∧ (if bit mask 0 then (s.opened c.ring e).moveShort c.ring e short else some (s.opened c.ring e)) = some w)
    ∧ (∃ (c : Cmd) (e : Nat) (s : State), (s.opened c.ring e).standby = false ∧ (s.opened c.ring e).named c.ring e = true ∧ (s.opened c.ring e).get E.PINNED e = 0 ∧ (s.opened c.ring e).get THK_HEDGE.PINNED c.ring < min ((s.opened c.ring e).get THK_HEDGE.PIN_MAX c.ring) ((s.opened c.ring e).get THK_HEDGE.QUOTA c.ring))
    ∧ (∃ (c : Cmd) (e : Nat) (s : State), (s.opened c.ring e).standby = false ∧ (s.opened c.ring e).named c.ring e = true ∧ (s.opened c.ring e).get E.PINNED e = 0 ∧ min ((s.opened c.ring e).get THK_HEDGE.PIN_MAX c.ring) ((s.opened c.ring e).get THK_HEDGE.QUOTA c.ring) ≤ (s.opened c.ring e).get THK_HEDGE.PINNED c.ring)
    ∧ (∃ (c : Cmd) (e : Nat) (s : State), (s.opened c.ring e).standby = false ∧ (s.opened c.ring e).named c.ring e = true ∧ (s.opened c.ring e).get E.PINNED e ≠ 0)
    ∧ (∃ (c : Cmd) (e : Nat) (s : State), (s.opened c.ring e).standby = false ∧ (s.opened c.ring e).named c.ring e = true ∧ (s.opened c.ring e).get E.PINNED e ≠ 0)
    ∧ (∃ (c : Cmd) (e : Nat) (s : State), (s.opened c.ring e).standby = false ∧ (s.opened c.ring e).named c.ring e = true)
    ∧ (∃ (c : Cmd) (e : Nat) (s : State), (s.opened c.ring e).standby = false ∧ (s.opened c.ring e).named c.ring e = false)
    ∧ (∃ (c : Cmd) (q start addr : Nat) (s : State), 1 ≤ q ∧ q ≤ 4) :=
  ⟨⟨⟨1, 7, 3, false⟩, ⟨0x1234, 7, 2, false, 0, none, 0, false, 0, 1, false⟩, st [(THK_HEDGE.QUOTA, 1, 9)], by decide⟩,
   ⟨⟨1, 7, 3, false⟩, 6, st [(E.STATE, 6, 2), (E.HEDGE, 6, 1)], by decide⟩,
   ⟨⟨1, 7, 3, false⟩, 6, st [(E.STATE, 6, 2), (E.HEDGE, 6, 1), (WIN.OPEN, 9, 1), (WIN.ENTRY, 9, 6)], by decide⟩,
   ⟨⟨1, 7, 3, false⟩, 6, 0, st [(E.STATE, 6, 2), (E.HEDGE, 6, 1)], by decide⟩,
   ⟨⟨1, 7, 3, false⟩, 6, 0, st [(E.STATE, 6, 2), (E.HEDGE, 6, 1)], by decide⟩,
   ⟨⟨1, 7, 3, false⟩, 6, 2, 0, 3, 0, 0, 0, 0, 0, (st [(E.STATE, 6, 2), (E.HEDGE, 6, 1)]).opened 1 6, st [(E.STATE, 6, 2), (E.HEDGE, 6, 1)], by decide⟩,
   ⟨⟨1, 7, 3, false⟩, 6, st [(E.STATE, 6, 2), (E.HEDGE, 6, 1), (THK_HEDGE.PIN_MAX, 1, 4), (THK_HEDGE.QUOTA, 1, 4)], by decide⟩,
   ⟨⟨1, 7, 3, false⟩, 6, st [(E.STATE, 6, 2), (E.HEDGE, 6, 1), (THK_HEDGE.PIN_MAX, 1, 0)], by decide⟩,
   ⟨⟨1, 7, 3, false⟩, 6, st [(E.STATE, 6, 2), (E.HEDGE, 6, 1), (E.PINNED, 6, 1)], by decide⟩,
   ⟨⟨1, 7, 3, false⟩, 6, st [(E.STATE, 6, 2), (E.HEDGE, 6, 1), (E.PINNED, 6, 1)], by decide⟩,
   ⟨⟨1, 7, 3, false⟩, 6, st [(E.STATE, 6, 2), (E.HEDGE, 6, 1)], by decide⟩,
   ⟨⟨1, 7, 3, false⟩, 6, State.reset, by decide⟩,
   ⟨⟨1, 7, 3, false⟩, 4, 0xFFFFFFFF, 0, State.reset, by decide⟩⟩

/-- The hypotheses of GainControl can be met, clause by clause. -/
theorem witness_GainControl :
    (∃ (p : Nat) (peak : Int) (clip : Bool) (s : State), p < 4 ∧ s.portOn p = true ∧ ((if clip then s.clipWindow p else if !s.hears p then s else s.each (allLanes.filter fun l => s.on LANE.STATUS_RECEIVING l && s.laneOn l p) fun u l => u.branchOk l p true).get APRX.CTL_AGC_EN p ≠ 0) ∧ s.get APRX.STATUS_FROZEN p = 0 ∧ (16 * (if clip then s.clipWindow p else if !s.hears p then s else s.each (allLanes.filter fun l => s.on LANE.STATUS_RECEIVING l && s.laneOn l p) fun u l => u.branchOk l p true).getI APRX.AGC_THR_HIGH_THR p ≤ peak) ∧ ((if clip then s.clipWindow p else if !s.hears p then s else s.each (allLanes.filter fun l => s.on LANE.STATUS_RECEIVING l && s.laneOn l p) fun u l => u.branchOk l p true).get APRX.STATUS_GAIN_IDX p < 7))
    ∧ (∃ (p : Nat) (peak : Int) (clip : Bool) (s : State), p < 4 ∧ s.portOn p = true ∧ ((if clip then s.clipWindow p else if !s.hears p then s else s.each (allLanes.filter fun l => s.on LANE.STATUS_RECEIVING l && s.laneOn l p) fun u l => u.branchOk l p true).get APRX.CTL_AGC_EN p ≠ 0) ∧ s.get APRX.STATUS_FROZEN p = 0 ∧ (peak < 16 * (if clip then s.clipWindow p else if !s.hears p then s else s.each (allLanes.filter fun l => s.on LANE.STATUS_RECEIVING l && s.laneOn l p) fun u l => u.branchOk l p true).getI APRX.AGC_THR_HIGH_THR p) ∧ (peak < 16 * (if clip then s.clipWindow p else if !s.hears p then s else s.each (allLanes.filter fun l => s.on LANE.STATUS_RECEIVING l && s.laneOn l p) fun u l => u.branchOk l p true).getI APRX.AGC_THR_LOW_THR p))
    ∧ (∃ (p : Nat) (peak : Int) (clip : Bool) (s : State), p < 4 ∧ s.portOn p = true ∧ ((if clip then s.clipWindow p else if !s.hears p then s else s.each (allLanes.filter fun l => s.on LANE.STATUS_RECEIVING l && s.laneOn l p) fun u l => u.branchOk l p true).get APRX.CTL_AGC_EN p ≠ 0) ∧ s.get APRX.STATUS_FROZEN p = 0 ∧ (peak < 16 * (if clip then s.clipWindow p else if !s.hears p then s else s.each (allLanes.filter fun l => s.on LANE.STATUS_RECEIVING l && s.laneOn l p) fun u l => u.branchOk l p true).getI APRX.AGC_THR_HIGH_THR p) ∧ (16 * (if clip then s.clipWindow p else if !s.hears p then s else s.each (allLanes.filter fun l => s.on LANE.STATUS_RECEIVING l && s.laneOn l p) fun u l => u.branchOk l p true).getI APRX.AGC_THR_LOW_THR p ≤ peak))
    ∧ (∃ (p : Nat) (peak : Int) (clip : Bool) (s : State), p < 4 ∧ s.portOn p = true ∧ ((if clip then s.clipWindow p else if !s.hears p then s else s.each (allLanes.filter fun l => s.on LANE.STATUS_RECEIVING l && s.laneOn l p) fun u l => u.branchOk l p true).get APRX.CTL_AGC_EN p = 0))
    ∧ (∃ (p : Nat) (peak : Int) (clip : Bool) (s : State), p < 4 ∧ s.portOn p = false ∧ s.get APRX.CTL_AGC_EN p = 0)
    ∧ (∃ (p : Nat) (peak : Int) (clip : Bool) (s : State), p < 4 ∧ s.portOn p = true ∧ ((if clip then s.clipWindow p else if !s.hears p then s else s.each (allLanes.filter fun l => s.on LANE.STATUS_RECEIVING l && s.laneOn l p) fun u l => u.branchOk l p true).get APRX.CTL_AGC_EN p ≠ 0) ∧ s.get APRX.STATUS_FROZEN p ≠ 0)
    ∧ (∃ (p : Nat) (s : State), p < 4 ∧ s.portOn p = true ∧ s.get APRX.CTL_AGC_EN p ≠ 0 ∧ s.get APRX.STATUS_FROZEN p = 0 ∧ 4 * s.get APRX.UP_HOLD p ≤ s.get RXX.QUIET p ∧ 0 < s.get APRX.STATUS_GAIN_IDX p)
    ∧ (∃ (p : Nat) (s : State), p < 4 ∧ s.portOn p = true ∧ s.get APRX.CTL_AGC_EN p ≠ 0 ∧ s.get APRX.STATUS_FROZEN p = 0 ∧ 4 * s.get APRX.UP_HOLD p ≤ s.get RXX.QUIET p ∧ s.get APRX.STATUS_GAIN_IDX p = 0)
    ∧ (∃ (r : Req) (p v : Nat) (s : State), s.reachWord r (APRX.AGC_THR_HIGH_THR.addr p) 4 = 0 ∧ p < 4 ∧ toInt 8 (bits v 8 8) + 9 ≤ toInt 8 v)
    ∧ (∃ (r : Req) (p v : Nat) (s : State), s.reachWord r (APRX.AGC_THR_HIGH_THR.addr p) 4 = 0 ∧ p < 4 ∧ toInt 8 v < toInt 8 (bits v 8 8) + 9)
    ∧ (∃ (r : Req) (p v : Nat) (s : State), s.reachWord r (APRX.CTL_EN.addr p) 4 = 0 ∧ p < 4 ∧ s.get APRX.CTL_EN p = 0 ∧ v % 2 = 0 ∧ bits v 1 1 = 0)
    ∧ (∃ (r : Req) (p v : Nat) (s : State), s.reachWord r (APRX.CTL_EN.addr p) 4 = 0 ∧ p < 4) :=
  ⟨⟨1, 1600, false, st [(APRX.CTL_EN, 1, 1), (APRX.CTL_AGC_EN, 1, 1), (APRX.STATUS_GAIN_IDX, 1, 3)], by decide⟩,
   ⟨1, -1600, true, st [(APRX.CTL_EN, 1, 1), (APRX.CTL_AGC_EN, 1, 1)], by decide⟩,
   ⟨1, -1, false, st [(APRX.CTL_EN, 1, 1), (APRX.CTL_AGC_EN, 1, 1), (APRX.AGC_THR_HIGH_THR, 1, 0), (APRX.AGC_THR_LOW_THR, 1, 200)], by decide⟩,
   ⟨1, 0, false, st [(APRX.CTL_EN, 1, 1), (APRX.CTL_AGC_EN, 1, 0)], by decide⟩,
   ⟨1, 0, false, st [(APRX.CTL_AGC_EN, 1, 0)], by decide⟩,
   ⟨1, 0, false, st [(APRX.CTL_EN, 1, 1), (APRX.STATUS_FROZEN, 1, 1), (APRX.CTL_AGC_EN, 1, 1)], by decide⟩,
   ⟨0, st [(APRX.CTL_EN, 0, 1), (APRX.CTL_AGC_EN, 0, 1), (APRX.UP_HOLD, 0, 0), (APRX.STATUS_GAIN_IDX, 0, 3)], by decide⟩,
   ⟨0, st [(APRX.CTL_EN, 0, 1), (APRX.CTL_AGC_EN, 0, 1), (APRX.UP_HOLD, 0, 0), (APRX.STATUS_GAIN_IDX, 0, 0)], by decide⟩,
   ⟨.steward, 3, 9, State.reset, by decide⟩,
   ⟨.steward, 3, 8, State.reset, by decide⟩,
   ⟨.steward, 2, 0x50, State.reset, by decide⟩,
   ⟨.steward, 2, 3, State.reset, by decide⟩⟩

/-- The hypotheses of SlicesAndLanes can be met, clause by clause. -/
theorem witness_SlicesAndLanes :
    (∃ (r : Req) (n v : Nat) (s : State), s.reachWord r (SLICE.FC.addr n) 4 = 0 ∧ n < 4 ∧ 420000 ≤ v ∧ v ≤ 940000 ∧ s.sliceUsed n = false)
    ∧ (∃ (r : Req) (n v : Nat) (s : State), s.reachWord r (SLICE.FC.addr n) 4 = 0 ∧ n < 4 ∧ s.sliceUsed n = true)
    ∧ (∃ (r : Req) (p v : Nat) (s : State), s.reachWord r (APRX.LO_MHZ.addr p) 4 = 0 ∧ 2 ≤ p ∧ p < 4 ∧ 2422 ≤ v ∧ v ≤ 2462 ∧ s.get SLICE.CTL_EN (p + 2) = 0 ∧ s.sliceUsed (p + 2) = false)
    ∧ (∃ (r : Req) (d v : Nat) (s : State), s.reachWord r (DDC.CTL_EN.addr d + 0) 4 = 0 ∧ d < 64 ∧ s.get DDC.CTL_LANE d = 0xFF ∧ bits v 1 3 < 6 ∧ ¬ (v % 2 = 1 ∧ ¬ s.ddcOk (bits v 1 3) (s.get DDC.FREQ d)))
    ∧ (∃ (r : Req) (d v : Nat) (s : State), s.reachWord r (DDC.CTL_EN.addr d + 4) 4 = 0 ∧ d < 64 ∧ s.get DDC.CTL_LANE d = 0xFF ∧ s.get DDC.CTL_SLICE d < 6 ∧ ¬ (s.get DDC.CTL_EN d = 1 ∧ ¬ s.ddcOk (s.get DDC.CTL_SLICE d) (v % 2 ^ 32)))
    ∧ (∃ (r : Req) (d off v : Nat) (s : State), s.reachWord r (DDC.CTL_EN.addr d + off) 4 = 0 ∧ d < 64 ∧ s.get DDC.CTL_LANE d ≠ 0xFF)
    ∧ (∃ (r : Req) (l v : Nat) (s : State), s.reachWord r (LANE.CFG_EN.addr l) 4 = 0 ∧ l < 48 ∧ s.laneCfgOk l v = true ∧ s.get LANE.STATUS_RECEIVING l = 0)
    ∧ (∃ (r : Req) (l v : Nat) (s : State), s.reachWord r (LANE.CFG_EN.addr l) 4 = 0 ∧ l < 48 ∧ s.laneCfgOk l v = true ∧ s.get LANE.STATUS_RECEIVING l ≠ 0 ∧ bit v 2 = true)
    ∧ (∃ (r : Req) (l v : Nat) (s : State), s.reachWord r (LANE.CFG_EN.addr l) 4 = 0 ∧ l < 48 ∧ s.laneCfgOk l v = true ∧ s.get LANE.STATUS_RECEIVING l ≠ 0 ∧ bit v 2 = false)
    ∧ (∃ (r : Req) (l v : Nat) (s : State), s.reachWord r (LANE.MODES.addr l) 4 = 0 ∧ l < 48 ∧ s.modesOk l (v % 2 ^ 12) = true ∧ s.get LANE.STATUS_RECEIVING l = 0)
    ∧ (∃ (r : Req) (l v : Nat) (s : State), s.reachWord r (LANE.MODES.addr l) 4 = 0 ∧ l < 48 ∧ s.modesOk l (v % 2 ^ 12) = true ∧ s.get LANE.STATUS_RECEIVING l ≠ 0)
    ∧ (∃ (r : Req) (n v : Nat) (s : State), s.reachWord r (SLICE.CTL_EN.addr n) 4 = 0 ∧ n < 6)
    ∧ (∃ (r : Req) (n v : Nat) (s : State), s.reachWord r (SLICE.THR_THR_A.addr n) 4 = 0 ∧ n < 6 ∧ s.get REGPROF.CTL_LOCK = 0)
    ∧ (∃ (r : Req) (n v : Nat) (s : State), s.reachWord r (SLICE.THR_THR_A.addr n) 4 = 0 ∧ n < 6 ∧ s.get REGPROF.CTL_LOCK ≠ 0 ∧ v % 2 ^ 16 ≠ s.get SLICE.THR_THR_A n) :=
  ⟨⟨.steward, 3, 940000, State.reset, by decide⟩,
   ⟨.steward, 1, 868000, st [(DDC.CTL_EN, 5, 1), (DDC.CTL_SLICE, 5, 1)], by decide⟩,
   ⟨.steward, 2, 2462, State.reset, by decide⟩,
   ⟨.steward, 63, 10, State.reset, by decide⟩,
   ⟨.steward, 63, 10, State.reset, by decide⟩,
   ⟨.steward, 63, 4, 10, st [(DDC.CTL_LANE, 63, 1)], by decide⟩,
   ⟨.steward, 47, 0, State.reset, by decide⟩,
   ⟨.steward, 47, 4, st [(LANE.STATUS_RECEIVING, 47, 1)], by decide⟩,
   ⟨.steward, 47, 0, st [(LANE.STATUS_RECEIVING, 47, 1)], by decide⟩,
   ⟨.steward, 0, 15, State.reset, by decide⟩,
   ⟨.steward, 0, 15, st [(LANE.STATUS_RECEIVING, 0, 1)], by decide⟩,
   ⟨.steward, 5, 3, State.reset, by decide⟩,
   ⟨.steward, 5, 7, State.reset, by decide⟩,
   ⟨.steward, 5, 7, st [(REGPROF.CTL_LOCK, 0, 1)], by decide⟩⟩

/-- The hypotheses of MapsAndBlanking can be met, clause by clause. -/
theorem witness_MapsAndBlanking :
    (∃ (n : Nat) (levels : List Int) (clip : Bool) (m : EnergyMap) (s : State), s.mapOf n = some m ∧ s.mapRuns n = true ∧ m.head < (s.period - 1))
    ∧ (∃ (n : Nat) (m : EnergyMap) (s : State), s.mapOf n = some m)
    ∧ (∃ (c : Nat) (x : OnAir) (s : State), (s.air.find? (fun x => x.chain == c && !x.ended && decide (s.blankFrom x ≤ s.mp)) = some x))
    ∧ (∃ (c : Nat) (s : State), (s.air.find? (fun x => x.chain == c && (!x.ended || decide (s.mp < x.until_))) = none) ∧ (s.blanks.any (fun b => b.chain == c && !b.closed) = true)) :=
  ⟨⟨2, [], true, ⟨2, 0, 0, 0, 0, [], [], [], []⟩, { st [(SLICE.CTL_EN, 2, 1), (SLICE.CTL_MAP_EN, 2, 1), (CLK.SEC, 0, 1577836801)] with maps := [⟨2, 0, 0, 0, 0, [], [], [], []⟩] }, by decide⟩,
   ⟨2, ⟨2, 0, 0, 0, 0, [], [], [], []⟩, { State.reset with maps := [⟨2, 0, 0, 0, 0, [], [], [], []⟩] }, by decide⟩,
   ⟨1, ⟨1, 0, 0, 868000000, 256, 5, 100, false, 0, 3⟩, { State.reset with air := [⟨1, 0, 0, 868000000, 256, 5, 100, false, 0, 3⟩] }, by decide⟩,
   ⟨1, { State.reset with blanks := [⟨1, 0, 868000000, 5, 0, false⟩] }, by decide⟩⟩

/-- The hypotheses of LaneFrames can be met, clause by clause. -/
theorem witness_LaneFrames :
    (∃ (l g metric : Nat) (s : State), l < 48 ∧ g < 12 ∧ s.get LANE.CFG_EN l ≠ 0 ∧ bit (s.get LANE.MODES l) g = true ∧ s.get DET.CFG_THR g < metric ∧ s.laneHears l = true ∧ s.frameOf l = none)
    ∧ (∃ (l g metric : Nat) (f : LaneFrame) (s : State), l < 48 ∧ g < 12 ∧ s.get LANE.CFG_EN l ≠ 0 ∧ bit (s.get LANE.MODES l) g = true ∧ s.get DET.CFG_THR g < metric ∧ s.laneHears l = true ∧ s.frameOf l = some f ∧ f.hdr = false ∧ f.group ≠ g ∧ (s.mp - f.sync) * 10 ^ 6 ≤ 8 * 2 ^ 24 ∧ (f.metric < metric ∨ (f.metric = metric ∧ g < f.group)))
    ∧ (∃ (l g metric : Nat) (f : LaneFrame) (s : State), l < 48 ∧ g < 12 ∧ s.get LANE.CFG_EN l ≠ 0 ∧ bit (s.get LANE.MODES l) g = true ∧ s.get DET.CFG_THR g < metric ∧ s.laneHears l = true ∧ s.frameOf l = some f ∧ f.hdr = false ∧ f.group ≠ g ∧ (s.mp - f.sync) * 10 ^ 6 ≤ 8 * 2 ^ 24 ∧ (¬ (f.metric < metric ∨ (f.metric = metric ∧ g < f.group))))
    ∧ (∃ (l mode len age : Nat) (fec fcs2 : Bool) (f : LaneFrame) (s : State), s.frameOf l = some f ∧ f.hdr = false ∧ famOf mode = some .fsk ∧ groupOf mode = f.group ∧ len % 2048 ≠ 0)
    ∧ (∃ (l mode len age : Nat) (fec fcs2 : Bool) (f : LaneFrame) (s : State), s.frameOf l = some f ∧ f.hdr = false ∧ famOf mode = some .fsk ∧ groupOf mode = f.group)
    ∧ (∃ (l mcs len age : Nat) (f : LaneFrame) (s : State), s.frameOf l = some f ∧ f.hdr = false ∧ 5 ≤ f.group ∧ f.group < 9 ∧ mcs < 8 ∧ (famOf (0x20 + 8 * (f.group - 5) + mcs)).isSome = true ∧ len % 2048 ≠ 0)
    ∧ (∃ (l mcs len age : Nat) (f : LaneFrame) (s : State), s.frameOf l = some f ∧ f.hdr = false ∧ 5 ≤ f.group ∧ f.group < 9)
    ∧ (∃ (l len age : Nat) (f : LaneFrame) (s : State), s.frameOf l = some f ∧ f.hdr = false ∧ f.group = 9 ∧ 0 < len ∧ len ≤ 127)
    ∧ (∃ (l len age : Nat) (f : LaneFrame) (s : State), s.frameOf l = some f ∧ f.hdr = false ∧ f.group = 9 ∧ (len = 0 ∨ 127 < len))
    ∧ (∃ (l w age : Nat) (air : List RxBranch) (f : LaneFrame) (s : State), s.frameOf l = some f ∧ f.hdr = false ∧ 10 ≤ f.group ∧ xlCrcOk w = true ∧ xlUnsup w = false)
    ∧ (∃ (l w age : Nat) (air : List RxBranch) (f : LaneFrame) (s : State), s.frameOf l = some f ∧ f.hdr = false ∧ 10 ≤ f.group ∧ xlCrcOk w = false)
    ∧ (∃ (l : Nat) (m : LaneMeasure) (f : LaneFrame) (s : State), s.frameOf l = some f ∧ f.hdr = true ∧ f.failed = true)
    ∧ (∃ (l : Nat) (m : LaneMeasure) (f : LaneFrame) (s : State), s.frameOf l = some f ∧ f.hdr = true ∧ f.failed = false)
    ∧ (∃ (x : CwIn) (f : LaneFrame) (s : State), s.submitting x.lane = some f ∧ (({ s with frames := s.frames.map fun (y : LaneFrame) => if y.uid == f.uid then { y with sub := y.sub + 1, air := (f.air.mapIdx fun i b => { b with syms := b.syms ++ x.rx.getD i [] }) } else y } : State).poolLevel < 256) ∧ (({ s with frames := s.frames.map fun (y : LaneFrame) => if y.uid == f.uid then { y with sub := y.sub + 1, air := (f.air.mapIdx fun i b => { b with syms := b.syms ++ x.rx.getD i [] }) } else y } : State).get LDPC.STATUS_IN_SERVICE ≠ 0))
    ∧ (∃ (x : CwIn) (f : LaneFrame) (s : State), s.submitting x.lane = some f ∧ (256 ≤ ({ s with frames := s.frames.map fun (y : LaneFrame) => if y.uid == f.uid then { y with sub := y.sub + 1, air := (f.air.mapIdx fun i b => { b with syms := b.syms ++ x.rx.getD i [] }) } else y } : State).poolLevel ∨ ({ s with frames := s.frames.map fun (y : LaneFrame) => if y.uid == f.uid then { y with sub := y.sub + 1, air := (f.air.mapIdx fun i b => { b with syms := b.syms ++ x.rx.getD i [] }) } else y } : State).get LDPC.STATUS_IN_SERVICE = 0))
    ∧ (∃ (k : Nat) (w : CodeWord) (s : State), k < 4 ∧ bit (s.get LDPC.STATUS_IN_SERVICE) k = true ∧ bit (s.get LDPC.DEC_EN) k = true ∧ s.words.any (·.run == k) = false ∧ s.words.find? (·.run == 4) = some w)
    ∧ (∃ (k : Nat) (w : CodeWord) (s : State), (s.words.find? (fun w => w.run == k && k < 4) = some w))
    ∧ (∃ (r : Req) (v : Nat) (s : State), s.reachWord r (LDPC.CFG_MAX_ITER.addr 0 + 0) 4 = 0 ∧ 1 ≤ bits v 0 6 ∧ bits v 0 6 ≤ 32 ∧ 1 ≤ bits v 8 6 ∧ bits v 8 6 ≤ 32 ∧ 8 ≤ bits v 16 4 ∧ bits v 16 4 ≤ 16)
    ∧ (∃ (r : Req) (v : Nat) (s : State), s.reachWord r (LDPC.CFG_MAX_ITER.addr 0 + 4) 4 = 0 ∧ bits v 0 9 ≤ bits v 16 9)
    ∧ (∃ (r : Req) (v : Nat) (s : State), s.reachWord r (LDPC.CFG_MAX_ITER.addr 0 + 4) 4 = 0 ∧ bits v 16 9 < bits v 0 9)
    ∧ (∃ (r : Req) (v : Nat) (s : State), s.reachWord r (LDPC.DEC_EN.addr 0) 4 = 0) :=
  ⟨⟨0, 9, 200, st [(LANE.CFG_EN, 0, 1), (LANE.MODES, 0, 0x200), (APRX.CTL_EN, 0, 1)], by decide⟩,
   ⟨0, 8, 200, frame0, { st [(LANE.CFG_EN, 0, 1), (LANE.MODES, 0, 0x300), (APRX.CTL_EN, 0, 1)] with frames := [frame0] }, by decide⟩,
   ⟨0, 8, 200, { frame0 with metric := 201 }, { st [(LANE.CFG_EN, 0, 1), (LANE.MODES, 0, 0x300), (APRX.CTL_EN, 0, 1)] with frames := [{ frame0 with metric := 201 }] }, by decide⟩,
   ⟨0, 0x10, 9, 5, true, true, { frame0 with group := groupOf 0x10 }, { State.reset with frames := [{ frame0 with group := groupOf 0x10 }] }, by decide⟩,
   ⟨0, 0x10, 9, 5, true, true, { frame0 with group := groupOf 0x10 }, { State.reset with frames := [{ frame0 with group := groupOf 0x10 }] }, by decide⟩,
   ⟨0, 3, 9, 5, { frame0 with group := 5 }, { State.reset with frames := [{ frame0 with group := 5 }] }, by decide⟩,
   ⟨0, 3, 9, 5, { frame0 with group := 5 }, { State.reset with frames := [{ frame0 with group := 5 }] }, by decide⟩,
   ⟨0, 127, 5, frame0, { State.reset with frames := [frame0] }, by decide⟩,
   ⟨0, 128, 5, frame0, { State.reset with frames := [frame0] }, by decide⟩,
   ⟨0, 16 + 2 ^ 24 * crc8 16 24, 5, [], { frame0 with group := 10 }, { State.reset with frames := [{ frame0 with group := 10 }] }, by decide⟩,
   ⟨0, 16 + 2 ^ 24 * ((crc8 16 24 + 1) % 256), 5, [], { frame0 with group := 10 }, { State.reset with frames := [{ frame0 with group := 10 }] }, by decide⟩,
   ⟨0, ⟨[], 0, 0, 0, 0, 0⟩, { frame0 with hdr := true, failed := true }, { State.reset with frames := [{ frame0 with hdr := true, failed := true }] }, by decide⟩,
   ⟨0, ⟨[], 0, 0, 0, 0, 0⟩, { frame0 with hdr := true }, { State.reset with frames := [{ frame0 with hdr := true }] }, by decide⟩,
   ⟨⟨0, []⟩, { frame0 with hdr := true, mode := 0x50, len := 100 }, { st [(LDPC.STATUS_IN_SERVICE, 0, 15)] with frames := [{ frame0 with hdr := true, mode := 0x50, len := 100 }] }, by decide⟩,
   ⟨⟨0, []⟩, { frame0 with hdr := true, mode := 0x50, len := 100 }, { st [(LDPC.STATUS_IN_SERVICE, 0, 0)] with frames := [{ frame0 with hdr := true, mode := 0x50, len := 100 }] }, by decide⟩,
   ⟨3, ⟨0, 0, 0, 4, false, 0, [], 0, false⟩, { st [(LDPC.STATUS_IN_SERVICE, 0, 15), (LDPC.DEC_EN, 0, 15)] with words := [⟨0, 0, 0, 4, false, 0, [], 0, false⟩] }, by decide⟩,
   ⟨3, ⟨0, 0, 0, 3, false, 0, [], 0, false⟩, { st [(LDPC.DEC_EN, 0, 15)] with words := [⟨0, 0, 0, 3, false, 0, [], 0, false⟩] }, by decide⟩,
   ⟨.steward, 0x82020, State.reset, by decide⟩,
   ⟨.steward, 0, State.reset, by decide⟩,
   ⟨.steward, 1, State.reset, by decide⟩,
   ⟨.steward, 15, State.reset, by decide⟩⟩

/-- The hypotheses of Triggers can be met, clause by clause. -/
theorem witness_Triggers :
    (∃ (r : Req) (n v : Nat) (s : State), s.reachWord r (PT.CMP.addr n) 4 = 0 ∧ n < 64)
    ∧ (∃ (r : Req) (n v : Nat) (s : State), s.reachWord r (PT.CTL_EN.addr n) 4 = 0 ∧ n < 64)
    ∧ (∃ (n : Nat) (gnt : Bool) (s : State), n < 16 ∧ s.get PT.STATUS_ARMED n ≠ 0 ∧ s.get PT.CTL_ACTION n = 1 ∧ ticksGeUs (s.get PT.CMP n - s.mp) 13 = false ∧ s.get PTX.RDY n = 0 ∧ ((s.put COEX.STATUS_GNT 0 (if gnt != s.on COEX.CFG_GNT_POL then 1 else 0)).radioReady (s.get PT.CTL_TARGET n) && (s.put COEX.STATUS_GNT 0 (if gnt != s.on COEX.CFG_GNT_POL then 1 else 0)).granted (s.get TXC.CTL_PORT (s.get PT.CTL_TARGET n)) && (s.put COEX.STATUS_GNT 0 (if gnt != s.on COEX.CFG_GNT_POL then 1 else 0)).on PTX.CLEARED n) = true)
    ∧ (∃ (n : Nat) (gnt : Bool) (s : State), n < 16 ∧ s.get PT.STATUS_ARMED n ≠ 0 ∧ s.get PT.CTL_ACTION n = 1 ∧ ticksGeUs (s.get PT.CMP n - s.mp) 13 = false ∧ s.get PTX.RDY n = 0 ∧ ((s.put COEX.STATUS_GNT 0 (if gnt != s.on COEX.CFG_GNT_POL then 1 else 0)).radioReady (s.get PT.CTL_TARGET n) && (s.put COEX.STATUS_GNT 0 (if gnt != s.on COEX.CFG_GNT_POL then 1 else 0)).granted (s.get TXC.CTL_PORT (s.get PT.CTL_TARGET n)) && (s.put COEX.STATUS_GNT 0 (if gnt != s.on COEX.CFG_GNT_POL then 1 else 0)).on PTX.CLEARED n) = false)
    ∧ (∃ (n : Nat) (s : State), ((List.range 64).filter (s.coexDue.each (List.range 16) State.ptGo).ptDue) = [n] ∧ (s.coexDue.each (List.range 16) State.ptGo).ptActs n = true)
    ∧ (∃ (n : Nat) (s : State), s.get PTX.END n ≠ 0 ∧ s.get PTX.END n ≤ s.mp ∧ ((List.range 64).any (fun m => m != n && s.get PTX.PIN m == s.get PTX.PIN n && decide (s.mp < s.get PTX.END m)) = false))
    ∧ (∃ (n : Nat) (s : State), s.get PTX.END n ≠ 0 ∧ s.get PTX.END n ≤ s.mp ∧ ((List.range 64).any (fun m => m != n && s.get PTX.PIN m == s.get PTX.PIN n && decide (s.mp < s.get PTX.END m)) = true))
    ∧ (∃ (c : Cmd) (n : Nat) (s : State), s.expG 2 = false ∧ (((List.range 64).filter fun n => s.get PT.CTL_OWNER n == c.ring).length < s.get HOSTH.PT_MAX c.ring) ∧ ((((List.range 40).map (· + 24)).find? fun n => s.get PT.CTL_OWNER n == 0xF) = some n))
    ∧ (∃ (c : Cmd) (n : Nat) (s : State), n < 64 ∧ s.get PT.CTL_OWNER n = c.ring ∧ s.expH c.ring 5 = false)
    ∧ (∃ (c : Cmd) (n : Nat) (s : State), n < 64 ∧ s.get PT.CTL_OWNER n ≠ c.ring)
    ∧ (∃ (c : Cmd) (n : Nat) (s : State), 64 ≤ n)
    ∧ (∃ (n : Nat) (s : State), n < 16 ∧ s.get PT.STATUS_ARMED n ≠ 0 ∧ s.get PT.CTL_ACTION n = 1 ∧ s.governed (s.get TXC.CTL_PORT (s.get PT.CTL_TARGET n)) = true ∧ ticksGeUs (s.get PT.CMP n - s.mp) (s.get COEX.LEAD + 1) = false) :=
  ⟨⟨.steward, 63, 5, State.reset, by decide⟩,
   ⟨.steward, 0, 0, State.reset, by decide⟩,
   ⟨2, true, { st [(PT.STATUS_ARMED, 2, 1), (PT.CTL_ACTION, 2, 1), (TXC.STATUS_STATE, 0, 3), (SY.STATUS_LOCK, 0, 1), (CHN.CHECKED, 0, 1), (CHN.FREQ, 0, 868100000), (CHN.CAR16, 0, 13889600000), (PTX.CLEARED, 2, 1)] with txReq := [req0] }, by decide⟩,
   ⟨2, true, st [(PT.STATUS_ARMED, 2, 1), (PT.CTL_ACTION, 2, 1)], by decide⟩,
   ⟨9, st [(PT.STATUS_ARMED, 9, 1), (PT.CTL_EN, 9, 1)], by decide⟩,
   ⟨23, st [(PTX.END, 23, 1), (PTX.PIN, 23, 8), (CLK.SEC, 0, 1577836801)], by decide⟩,
   ⟨23, st [(PTX.END, 23, 1), (PTX.PIN, 23, 8), (PTX.END, 24, 99999999999999), (PTX.PIN, 24, 8), (CLK.SEC, 0, 1577836801)], by decide⟩,
   ⟨cmd1, 24, st [(HOSTH.PT_MAX, 1, 4)], by decide⟩,
   ⟨cmd1, 63, st [(PT.CTL_OWNER, 63, 1)], by decide⟩,
   ⟨cmd1, 23, State.reset, by decide⟩,
   ⟨cmd1, 64, State.reset, by decide⟩,
   ⟨3, st [(PT.STATUS_ARMED, 3, 1), (PT.CTL_ACTION, 3, 1), (COEX.CFG_EN, 0, 1), (COEX.CFG_PORTS, 0, 15)], by decide⟩⟩

/-- The hypotheses of ChainStates can be met, clause by clause. -/
theorem witness_ChainStates :
    (∃ (r : Req) (c v : Nat) (s : State), s.reachWord r (TXC.CTL_EN.addr c) 4 = 0 ∧ c < 4 ∧ (((bits v 1 2 != s.get TXC.CTL_PORT c && (s.get TXC.STATUS_STATE c != chOff || s.on TXC.CTL_EN c)) || ((bits v 1 2 != s.get TXC.CTL_PORT c || (v % 2 == 1 && !s.on TXC.CTL_EN c)) && s.portTaken c (bits v 1 2))) : Bool) = true)
    ∧ (∃ (r : Req) (c v : Nat) (s : State), s.reachWord r (TXC.CTL_EN.addr c) 4 = 0 ∧ c < 4 ∧ (((bits v 1 2 != s.get TXC.CTL_PORT c && (s.get TXC.STATUS_STATE c != chOff || s.on TXC.CTL_EN c)) || ((bits v 1 2 != s.get TXC.CTL_PORT c || (v % 2 == 1 && !s.on TXC.CTL_EN c)) && s.portTaken c (bits v 1 2))) : Bool) = false ∧ v % 2 = 1 ∧ s.get TXC.CTL_EN c = 0)
    ∧ (∃ (r : Req) (c v : Nat) (s : State), s.reachWord r (TXC.CTL_EN.addr c) 4 = 0 ∧ c < 4 ∧ (((bits v 1 2 != s.get TXC.CTL_PORT c && (s.get TXC.STATUS_STATE c != chOff || s.on TXC.CTL_EN c)) || ((bits v 1 2 != s.get TXC.CTL_PORT c || (v % 2 == 1 && !s.on TXC.CTL_EN c)) && s.portTaken c (bits v 1 2))) : Bool) = false ∧ v % 2 = 0 ∧ s.get TXC.CTL_EN c ≠ 0)
    ∧ (∃ (r : Req) (c v : Nat) (s : State), s.reachWord r (TXC.CTL_EN.addr c) 4 = 0 ∧ c < 4 ∧ (((bits v 1 2 != s.get TXC.CTL_PORT c && (s.get TXC.STATUS_STATE c != chOff || s.on TXC.CTL_EN c)) || ((bits v 1 2 != s.get TXC.CTL_PORT c || (v % 2 == 1 && !s.on TXC.CTL_EN c)) && s.portTaken c (bits v 1 2))) : Bool) = false ∧ (v % 2 = 1 ↔ s.get TXC.CTL_EN c ≠ 0))
    ∧ (∃ (c : Nat) (s : State), s.get CHN.TRANS c = 1)
    ∧ (∃ (r : Req) (c : Nat) (s : State), s.reachWord r (TXC.CMD_GO_READY.addr c) 4 = 0 ∧ s.standby = false ∧ s.reqs c ≠ [] ∧ s.get CHN.TRANS c = 0 ∧ s.get TXC.STATUS_STATE c ≠ chTx)
    ∧ (∃ (r : Req) (c : Nat) (s : State), s.reachWord r (TXC.CMD_GO_READY.addr c) 4 = 0 ∧ s.standby = false ∧ s.reqs c ≠ [] ∧ (s.get CHN.TRANS c ≠ 0 ∨ s.get TXC.STATUS_STATE c = chTx))
    ∧ (∃ (r : Req) (c : Nat) (s : State), s.reachWord r (TXC.CMD_GO_READY.addr c) 4 = 0 ∧ s.standby = false ∧ s.reqs c = [])
    ∧ (∃ (r : Req) (c : Nat) (s : State), s.reachWord r (TXC.CMD_GO_STANDBY.addr c) 4 = 0 ∧ s.get CHN.TRANS c = 0 ∧ s.get TXC.STATUS_STATE c ≠ chTx)
    ∧ (∃ (r : Req) (c : Nat) (s : State), s.reachWord r (TXC.CMD_GO_STANDBY.addr c) 4 = 0 ∧ (s.get CHN.TRANS c ≠ 0 ∨ s.get TXC.STATUS_STATE c = chTx))
    ∧ (∃ (r : Req) (c : Nat) (s : State), s.reachWord r (TXC.CMD_CAL_FLUSH.addr c) 4 = 0)
    ∧ (∃ (c : Nat) (q : TxReq) (s : State), s.headReq c = some q ∧ s.get CHN.CHECKED c = 0 ∧ s.get TXC.STATUS_STATE c = chStandby ∧ s.get CHN.TRANS c = 0)
    ∧ (∃ (c : Nat) (s : State), c ≠ 4 ∧ c ≠ 5 ∧ s.get CHN.TRANS c = 2)
    ∧ (∃ (c : Nat) (s : State), (c = 4 ∨ c = 5) ∧ s.get SY.STATUS_CAL_RUNNING c ≠ 0)
    ∧ (∃ (c : Nat) (s : State), s.get CHN.TRANS c = 3)
    ∧ (∃ (c : Nat) (m : Int) (s : State), s.get TXC.STATUS_STATE c = chTx ∧ s.get CHN.TRANS c = 0 ∧ bit (s.get CHN.RFLAGS c) 5 = false ∧ s.ballPast c 16 = true ∧ s.ballPast c 48 = false ∧ s.get CHN.FROZEN c = 0)
    ∧ (∃ (c rl : Nat) (w : Int) (s : State), s.get TXC.STATUS_STATE c = chTx ∧ s.get CHN.TRANS c ≠ 4)
    ∧ (∃ (c : Nat) (s : State), s.get CHN.TRANS c = 4) :=
  ⟨⟨.steward, 0, 2, st [(TXC.CTL_EN, 0, 1), (TXC.CTL_PORT, 0, 0)], by decide⟩,
   ⟨.steward, 0, 9, State.reset, by decide⟩,
   ⟨.steward, 0, 8, st [(TXC.CTL_EN, 0, 1)], by decide⟩,
   ⟨.steward, 0, 8, State.reset, by decide⟩,
   ⟨2, st [(CHN.TRANS, 2, 1)], by decide⟩,
   ⟨.steward, 0, { State.reset with txReq := [req0] }, by decide⟩,
   ⟨.steward, 0, { st [(CHN.TRANS, 0, 2)] with txReq := [req0] }, by decide⟩,
   ⟨.steward, 0, State.reset, by decide⟩,
   ⟨.steward, 0, State.reset, by decide⟩,
   ⟨.steward, 0, st [(CHN.TRANS, 0, 2)], by decide⟩,
   ⟨.steward, 0, State.reset, by decide⟩,
   ⟨0, { req0 with freq := 0 }, { st [(TXC.STATUS_STATE, 0, 2)] with txReq := [{ req0 with freq := 0 }] }, by decide⟩,
   ⟨1, st [(CHN.TRANS, 1, 2)], by decide⟩,
   ⟨4, st [(SY.STATUS_CAL_RUNNING, 4, 1)], by decide⟩,
   ⟨3, st [(CHN.TRANS, 3, 3)], by decide⟩,
   ⟨0, 20, st [(TXC.STATUS_STATE, 0, 4), (CLK.SEC, 0, 1577836800), (CLK.NS, 0, 30000)], by decide⟩,
   ⟨0, 60, 100, st [(TXC.STATUS_STATE, 0, 4), (TXPORT.DET_STATUS_REV_OPEN, 0, 1)], by decide⟩,
   ⟨0, st [(CHN.TRANS, 0, 4)], by decide⟩⟩

/-- The hypotheses of ChainGuards can be met, clause by clause. -/
theorem witness_ChainGuards :
    (∃ (c : Nat) (s : State), c < 4 ∧ s.get SY.STATUS_LOCK c ≠ 0)
    ∧ (∃ (c : Nat) (m : Int) (s : State), s.get TXC.STATUS_STATE c = chTx ∧ s.get CHN.TRANS c = 0 ∧ s.get CHN.FROZEN c = 0 ∧ s.ballPast c 48 = true)
    ∧ (∃ (c : Nat) (fwd : Int) (s : State), s.get TXC.STATUS_STATE c = chTx ∧ s.get TXPORT.DET_STATUS_FWD_OPEN (s.get TXC.CTL_PORT c) = 0 ∧ fwd < s.getI CHN.TARGET c - 40)
    ∧ (∃ (c rl : Nat) (s : State), s.get TXC.STATUS_STATE c = chTx ∧ s.vswr (s.get TXC.CTL_PORT c) = true ∧ rl < s.get TXPORT.RL_THR_RL_OPEN (s.get TXC.CTL_PORT c))
    ∧ (∃ (k p : Nat) (s : State), k < 4 ∧ p < 4)
    ∧ (∃ (p : Nat) (s : State), p < 8)
    ∧ (∃ (r : Req) (c v : Nat) (s : State), s.reachWord r (TXC.MUTE.addr c) 4 = 0 ∧ c < 4)
    ∧ (∃ (c : Nat) (q : TxReq) (s : State), s.headReq c = some q ∧ s.get TXC.STATUS_STATE c = chTx ∧ ticksGeUs (s.mp - s.get CHN.START c) ((if s.get SB.MAX_TX_US q.subband = 0 then airT q.mode (s.preOf q) q.psduLen else s.get SB.MAX_TX_US q.subband) + 100) = true)
    ∧ (∃ (p : Nat) (pa fwd rev : Bool) (s : State), p < 4 ∧ (([0, 1, 2, 3].filter fun c => s.get TXC.CTL_PORT c == p).any (fun c => s.get TXC.STATUS_STATE c == chTx) = false))
    ∧ (∃ (s : State), s.get COEX.CFG_ABORT = 0)
    ∧ (∃ (r : Req) (s : State), s.reachWord r (COEX.CMD_CHECK.addr 0) 4 = 0)
    ∧ (∃ (s : State), s.get COEXX.STEP = 1)
    ∧ (∃ (s : State), s.get COEXX.STEP = 1)
    ∧ (∃ (x : Bool) (s : State), s.get COEXX.STEP = 2)
    ∧ (∃ (r : Req) (v : Nat) (s : State), s.reachWord r (COEX.LEAD.addr 0) 4 = 0 ∧ 12 ≤ v ∧ v ≤ 1000)
    ∧ (∃ (r : Req) (v : Nat) (s : State), s.reachWord r (COEX.LEAD.addr 0) 4 = 0 ∧ 1000 < v ∧ v < 2 ^ 16) :=
  ⟨⟨0, st [(SY.STATUS_LOCK, 0, 1), (TXC.STATUS_STATE, 0, 4)], by decide⟩,
   ⟨1, -100, st [(TXC.STATUS_STATE, 1, 4), (CHN.RFLAGS, 1, 32), (CLK.SEC, 0, 1577836801)], by decide⟩,
   ⟨0, -100, st [(TXC.STATUS_STATE, 0, 4)], by decide⟩,
   ⟨0, 0, st [(TXC.STATUS_STATE, 0, 4)], by decide⟩,
   ⟨3, 3, State.reset, by decide⟩,
   ⟨7, State.reset, by decide⟩,
   ⟨.steward, 3, 255, State.reset, by decide⟩,
   ⟨0, req0, { st [(TXC.STATUS_STATE, 0, 4), (SB.MAX_TX_US, 0, 1000), (CLK.SEC, 0, 1577836801)] with txReq := [req0] }, by decide⟩,
   ⟨3, true, false, false, State.reset, by decide⟩,
   ⟨st [(COEX.CFG_ABORT, 0, 0)], by decide⟩,
   ⟨.steward, State.reset, by decide⟩,
   ⟨st [(COEXX.STEP, 0, 1)], by decide⟩,
   ⟨st [(COEXX.STEP, 0, 1)], by decide⟩,
   ⟨true, st [(COEXX.STEP, 0, 2)], by decide⟩,
   ⟨.steward, 12, State.reset, by decide⟩,
   ⟨.steward, 1001, State.reset, by decide⟩⟩

/-- The hypotheses of GateAndProfile can be met, clause by clause. -/
theorem witness_GateAndProfile :
    (∃ (r : Req) (h off v : Nat) (s : State), s.reachWord r (CHPLAN.CTL_EN.addr h + off) 4 = 0 ∧ h < 8 ∧ ((let t := match off with | 0 => s.put CHPLAN.CTL_EN h v | 4 => s.put CHPLAN.F0_HZ h v | 8 => s.put CHPLAN.SPACING_HZ h v | 0xC => s.put CHPLAN.COUNT h v | 0x10 => (s.put CHPLAN.WAKE_WAKE_N h v).put CHPLAN.WAKE_WAKE_P h (bits v 16 10) | _ => s; t).get CHPLAN.CTL_EN h = 0 ∨ planOk ((let t := match off with | 0 => s.put CHPLAN.CTL_EN h v | 4 => s.put CHPLAN.F0_HZ h v | 8 => s.put CHPLAN.SPACING_HZ h v | 0xC => s.put CHPLAN.COUNT h v | 0x10 => (s.put CHPLAN.WAKE_WAKE_N h v).put CHPLAN.WAKE_WAKE_P h (bits v 16 10) | _ => s; t).get CHPLAN.F0_HZ h) ((let t := match off with | 0 => s.put CHPLAN.CTL_EN h v | 4 => s.put CHPLAN.F0_HZ h v | 8 => s.put CHPLAN.SPACING_HZ h v | 0xC => s.put CHPLAN.COUNT h v | 0x10 => (s.put CHPLAN.WAKE_WAKE_N h v).put CHPLAN.WAKE_WAKE_P h (bits v 16 10) | _ => s; t).get CHPLAN.SPACING_HZ h) ((let t := match off with | 0 => s.put CHPLAN.CTL_EN h v | 4 => s.put CHPLAN.F0_HZ h v | 8 => s.put CHPLAN.SPACING_HZ h v | 0xC => s.put CHPLAN.COUNT h v | 0x10 => (s.put CHPLAN.WAKE_WAKE_N h v).put CHPLAN.WAKE_WAKE_P h (bits v 16 10) | _ => s; t).get CHPLAN.COUNT h) ((let t := match off with | 0 => s.put CHPLAN.CTL_EN h v | 4 => s.put CHPLAN.F0_HZ h v | 8 => s.put CHPLAN.SPACING_HZ h v | 0xC => s.put CHPLAN.COUNT h v | 0x10 => (s.put CHPLAN.WAKE_WAKE_N h v).put CHPLAN.WAKE_WAKE_P h (bits v 16 10) | _ => s; t).get CHPLAN.WAKE_WAKE_N h) ((let t := match off with | 0 => s.put CHPLAN.CTL_EN h v | 4 => s.put CHPLAN.F0_HZ h v | 8 => s.put CHPLAN.SPACING_HZ h v | 0xC => s.put CHPLAN.COUNT h v | 0x10 => (s.put CHPLAN.WAKE_WAKE_N h v).put CHPLAN.WAKE_WAKE_P h (bits v 16 10) | _ => s; t).get CHPLAN.WAKE_WAKE_P h) = true))
    ∧ (∃ (r : Req) (h off v : Nat) (s : State), s.reachWord r (CHPLAN.CTL_EN.addr h + off) 4 = 0 ∧ h < 8 ∧ (let t := match off with | 0 => s.put CHPLAN.CTL_EN h v | 4 => s.put CHPLAN.F0_HZ h v | 8 => s.put CHPLAN.SPACING_HZ h v | 0xC => s.put CHPLAN.COUNT h v | 0x10 => (s.put CHPLAN.WAKE_WAKE_N h v).put CHPLAN.WAKE_WAKE_P h (bits v 16 10) | _ => s; t).get CHPLAN.CTL_EN h ≠ 0 ∧ planOk ((let t := match off with | 0 => s.put CHPLAN.CTL_EN h v | 4 => s.put CHPLAN.F0_HZ h v | 8 => s.put CHPLAN.SPACING_HZ h v | 0xC => s.put CHPLAN.COUNT h v | 0x10 => (s.put CHPLAN.WAKE_WAKE_N h v).put CHPLAN.WAKE_WAKE_P h (bits v 16 10) | _ => s; t).get CHPLAN.F0_HZ h) ((let t := match off with | 0 => s.put CHPLAN.CTL_EN h v | 4 => s.put CHPLAN.F0_HZ h v | 8 => s.put CHPLAN.SPACING_HZ h v | 0xC => s.put CHPLAN.COUNT h v | 0x10 => (s.put CHPLAN.WAKE_WAKE_N h v).put CHPLAN.WAKE_WAKE_P h (bits v 16 10) | _ => s; t).get CHPLAN.SPACING_HZ h) ((let t := match off with | 0 => s.put CHPLAN.CTL_EN h v | 4 => s.put CHPLAN.F0_HZ h v | 8 => s.put CHPLAN.SPACING_HZ h v | 0xC => s.put CHPLAN.COUNT h v | 0x10 => (s.put CHPLAN.WAKE_WAKE_N h v).put CHPLAN.WAKE_WAKE_P h (bits v 16 10) | _ => s; t).get CHPLAN.COUNT h) ((let t := match off with | 0 => s.put CHPLAN.CTL_EN h v | 4 => s.put CHPLAN.F0_HZ h v | 8 => s.put CHPLAN.SPACING_HZ h v | 0xC => s.put CHPLAN.COUNT h v | 0x10 => (s.put CHPLAN.WAKE_WAKE_N h v).put CHPLAN.WAKE_WAKE_P h (bits v 16 10) | _ => s; t).get CHPLAN.WAKE_WAKE_N h) ((let t := match off with | 0 => s.put CHPLAN.CTL_EN h v | 4 => s.put CHPLAN.F0_HZ h v | 8 => s.put CHPLAN.SPACING_HZ h v | 0xC => s.put CHPLAN.COUNT h v | 0x10 => (s.put CHPLAN.WAKE_WAKE_N h v).put CHPLAN.WAKE_WAKE_P h (bits v 16 10) | _ => s; t).get CHPLAN.WAKE_WAKE_P h) = false)
    ∧ (∃ (r : Req) (i v : Nat) (s : State), s.reachWord r (PANMAP.CFG_EN.addr i + 4) 4 = 0 ∧ i < 32)
    ∧ (∃ (r : Req) (i off v : Nat) (s : State), s.reachWord r (PANMAP.CFG_EN.addr i + off) 4 = 0 ∧ i < 32 ∧ off ≠ 4 ∧ v % 2 ^ 16 ≠ 0xFFFF ∧ ((bit v 24 && (List.range 32).any fun j => j != i && s.on PANMAP.CFG_EN j && s.get PANMAP.CFG_PAN_ID j == v % 2 ^ 16) = false))
    ∧ (∃ (r : Req) (i off v : Nat) (s : State), s.reachWord r (PANMAP.CFG_EN.addr i + off) 4 = 0 ∧ i < 32 ∧ off ≠ 4 ∧ (v % 2 ^ 16 = 0xFFFF ∨ (bit v 24 && (List.range 32).any fun j => j != i && s.on PANMAP.CFG_EN j && s.get PANMAP.CFG_PAN_ID j == v % 2 ^ 16) = true))
    ∧ (∃ (r : Req) (v : Nat) (s : State), s.reachWord r (MAC.AIR_EUI64.addr 0) 4 = 0 ∧ s.get TXC.CTL_EN 0 = 0 ∧ s.get TXC.CTL_EN 1 = 0 ∧ s.get TXC.CTL_EN 2 = 0 ∧ s.get TXC.CTL_EN 3 = 0)
    ∧ (∃ (r : Req) (v : Nat) (s : State), s.reachWord r (MAC.AIR_EUI64.addr 0) 4 = 0 ∧ ([0, 1, 2, 3].any (fun c => s.on TXC.CTL_EN c) = true))
    ∧ (∃ (c : Cmd) (region : Nat) (s : State), s.get OTP.REGION = 0)
    ∧ (∃ (c : Cmd) (region : Nat) (s : State), s.get OTP.REGION ≠ 0)
    ∧ (∃ (s : State), s.reachWord .steward (REGPROF.CTL_LOCK.addr 0) 4 = 0 ∧ s.get REGPROF.HDR_FRAMEWORK ≠ 0 ∧ s.get REGPROF.CTL_LOCK = 0)
    ∧ (∃ (r : Req) (s : State), s.reachWord r (REGPROF.CTL_LOCK.addr 0) 4 = 0 ∧ s.get REGPROF.HDR_FRAMEWORK ≠ 0 ∧ s.get REGPROF.CTL_LOCK = 0 ∧ r ≠ .steward)
    ∧ (∃ (n : Nat) (s : State), s.gateDue n = true)
    ∧ (∃ (n : Nat) (q : TxReq) (s : State), s.gateDue n = true ∧ ((((List.range (s.get PT.CTL_TARGET n)).flatMap fun c => (s.startsOn c).filter fun m => s.gateDue m && s.get PT.CMP m == s.get PT.CMP n) : List Nat) = []) ∧ s.headReq (s.get PT.CTL_TARGET n) = some q ∧ s.get CHN.CHECKED (s.get PT.CTL_TARGET n) ≠ 0 ∧ q.ack = false ∧ (s.limitPower (s.get PT.CTL_TARGET n) q).gateChecks (⟨q, (((16 * q.freq : Nat) : Int) + (s.limitPower (s.get PT.CTL_TARGET n) q).getI CHN.DFN (s.get PT.CTL_TARGET n)).toNat, s.get PT.CMP n, airT q.mode ((s.limitPower (s.get PT.CTL_TARGET n) q).preOf q) q.psduLen⟩ : GateCase) ((s.limitPower (s.get PT.CTL_TARGET n) q).get TXC.CTL_PORT (s.get PT.CTL_TARGET n)) = none ∧ (s.limitPower (s.get PT.CTL_TARGET n) q).get SB.CFG_LBT_EN q.subband = 0)
    ∧ (∃ (n v e : Nat) (q : TxReq) (s : State), s.gateDue n = true ∧ ((((List.range (s.get PT.CTL_TARGET n)).flatMap fun c => (s.startsOn c).filter fun m => s.gateDue m && s.get PT.CMP m == s.get PT.CMP n) : List Nat) = []) ∧ s.headReq (s.get PT.CTL_TARGET n) = some q ∧ s.get CHN.CHECKED (s.get PT.CTL_TARGET n) ≠ 0 ∧ q.ack = false ∧ (s.limitPower (s.get PT.CTL_TARGET n) q).gateChecks (⟨q, (((16 * q.freq : Nat) : Int) + (s.limitPower (s.get PT.CTL_TARGET n) q).getI CHN.DFN (s.get PT.CTL_TARGET n)).toNat, s.get PT.CMP n, airT q.mode ((s.limitPower (s.get PT.CTL_TARGET n) q).preOf q) q.psduLen⟩ : GateCase) ((s.limitPower (s.get PT.CTL_TARGET n) q).get TXC.CTL_PORT (s.get PT.CTL_TARGET n)) = some (v, e) ∧ v ≠ 0 ∧ v ≠ 2 ∧ v ≠ 6) :=
  ⟨⟨.steward, 7, 4, 868100000, State.reset, by decide⟩,
   ⟨.steward, 7, 0xC, 0, st [(CHPLAN.CTL_EN, 7, 1)], by decide⟩,
   ⟨.steward, 31, 5, State.reset, by decide⟩,
   ⟨.steward, 31, 0, 0x1000005, State.reset, by decide⟩,
   ⟨.steward, 31, 0, 65535, State.reset, by decide⟩,
   ⟨.steward, 5, State.reset, by decide⟩,
   ⟨.steward, 5, st [(TXC.CTL_EN, 0, 1)], by decide⟩,
   ⟨cmd1, 2, State.reset, by decide⟩,
   ⟨cmd1, 2, st [(OTP.REGION, 0, 1)], by decide⟩,
   ⟨st [(REGPROF.HDR_FRAMEWORK, 0, 1)], by decide⟩,
   ⟨.priv, st [(REGPROF.HDR_FRAMEWORK, 0, 1), (BOOT.STATUS_READY, 0, 1)], by decide⟩,
   ⟨2, st [(PT.STATUS_ARMED, 2, 1), (PT.CTL_ACTION, 2, 1), (CHN.CHECKED, 0, 1)], by decide⟩,
   ⟨2, { req0 with subband := 3 }, { st ([(REGPROF.HDR_SB_COUNT, 0, 8), (SB.CFG_EN, 3, 1)] ++ [(PT.STATUS_ARMED, 2, 1), (PT.CTL_ACTION, 2, 1), (CHN.CHECKED, 0, 1)]) with txReq := [{ req0 with subband := 3 }] }, by
    simp (discharger := decide) only [State.gateChecks_limitPower, State.getI, State.preOf, State.get_limitPower]; decide⟩,
   ⟨2, 7, 0, req0, { st [(PT.STATUS_ARMED, 2, 1), (PT.CTL_ACTION, 2, 1), (CHN.CHECKED, 0, 1)] with txReq := [req0] }, by
    simp (discharger := decide) only [State.gateChecks_limitPower, State.getI, State.preOf, State.get_limitPower]; decide⟩⟩

/-- The hypotheses of Attempts can be met, clause by clause. -/
theorem witness_Attempts :
    (∃ (u : Nat) (d : Down) (s : State), s.down u = some d ∧ (d.stage = .released ∨ d.stage = .held) ∧ d.isFlood = false ∧ ¬ (d.opcode = 0x02 ∧ d.freight ≠ .reflood ∧ s.expH d.hedge 3 = true) ∧ (s.get E.INCARNATION d.dest ≠ d.destInc ∨ s.get E.STATE d.dest = stFree))
    ∧ (∃ (u n : Nat) (direct : Bool) (d : Down) (s : State), s.down u = some d ∧ (d.stage = .released ∨ d.stage = .held) ∧ d.isFlood = false ∧ ¬ (d.opcode = 0x02 ∧ d.freight ≠ .reflood ∧ s.expH d.hedge 3 = true) ∧ s.get E.INCARNATION d.dest = d.destInc ∧ s.get E.STATE d.dest ≠ stFree ∧ s.resolve d.dest (s.hopPans d.hedge != []) (d.noFlood || d.freight == .relay) (d.freight == .command) = .hop n direct)
    ∧ (∃ (u : Nat) (d : Down) (s : State), s.down u = some d ∧ (d.stage = .released ∨ d.stage = .held) ∧ d.isFlood = false ∧ ¬ (d.opcode = 0x02 ∧ d.freight ≠ .reflood ∧ s.expH d.hedge 3 = true) ∧ s.get E.INCARNATION d.dest = d.destInc ∧ s.get E.STATE d.dest ≠ stFree ∧ s.resolve d.dest (s.hopPans d.hedge != []) (d.noFlood || d.freight == .relay) (d.freight == .command) = .lost)
    ∧ (∃ (u : Nat) (d : Down) (s : State), s.down u = some d ∧ (d.stage = .released ∨ d.stage = .held) ∧ d.isFlood = false ∧ ¬ (d.opcode = 0x02 ∧ d.freight ≠ .reflood ∧ s.expH d.hedge 3 = true) ∧ s.get E.INCARNATION d.dest = d.destInc ∧ s.get E.STATE d.dest ≠ stFree ∧ s.resolve d.dest (s.hopPans d.hedge != []) (d.noFlood || d.freight == .relay) (d.freight == .command) = .none)
    ∧ (∃ (u : Nat) (d : Down) (s : State), s.down u = some d ∧ (d.stage = .released ∨ d.stage = .held) ∧ d.isFlood = false ∧ ¬ (d.opcode = 0x02 ∧ d.freight ≠ .reflood ∧ s.expH d.hedge 3 = true) ∧ s.get E.INCARNATION d.dest = d.destInc ∧ s.get E.STATE d.dest ≠ stFree ∧ s.resolve d.dest (s.hopPans d.hedge != []) (d.noFlood || d.freight == .relay) (d.freight == .command) = .flood ∧ s.expH d.hedge 3 = false)
    ∧ (∃ (u : Nat) (d : Down) (s : State), s.down u = some d ∧ (d.stage = .released ∨ d.stage = .held) ∧ d.isFlood = true ∧ (d.freight = .reflood ∨ s.expH d.hedge 3 = false))
    ∧ (∃ (u : Nat) (d : Down) (s : State), s.down u = some d ∧ d.stage = .planned ∧ s.standby = false ∧ s.mustWait d = false ∧ s.hopStands d = true ∧ s.uncovered d = false ∧ d.c ≤ s.mp + usTicks (match (s.chainsFor d).find? (s.chainFree d) with | some c => s.armLead c | none => ((s.chainsFor d).map s.armLead).foldl max (s.get WAKE.ARM_LEAD_US)))
    ∧ (∃ (c : Nat) (g : GateRec) (d : Down) (s : State), s.get FIFO.STATUS_FROZEN (56 + c) = 0 ∧ s.gateRecs.find? (·.chain == c) = some g ∧ (({ s with gateRecs := s.gateRecs.erase g } : State).hwOut (56 + c)).down g.tag = some d ∧ d.stage = .armed ∧ d.chain = c ∧ g.verdict ≠ 0)
    ∧ (∃ (c : Nat) (x : TxRes) (d : Down) (s : State), s.get FIFO.STATUS_FROZEN (52 + c) = 0 ∧ s.txRes.find? (·.chain == c) = some x ∧ (({ s with txRes := s.txRes.erase x } : State).hwOut (52 + c)).down x.tag = some d ∧ d.stage = .armed ∧ d.chain = c)
    ∧ (∃ (u : Nat) (d : Down) (s : State), s.down u = some d ∧ d.stage = .ackWait ∧ d.aim = .train ∧ d.hi ≤ d.c ∧ d.ackReq = false)
    ∧ (∃ (u : Nat) (d : Down) (s : State), s.down u = some d ∧ d.stage = .ackWait ∧ d.aim = .train ∧ d.c < d.hi ∧ d.late = false ∧ (d.c + usTicks (d.air + s.get WAKEH.TRAIN_GAP_US d.hedge)) ≤ s.mp + usTicks (s.armLead d.chain) ∧ s.keyCurrent ({ d with prev := d.c, c := (d.c + usTicks (d.air + s.get WAKEH.TRAIN_GAP_US d.hedge)), late := false, stage := .planned } : Down) d.hop = true)
    ∧ (∃ (u : Nat) (d : Down) (s : State), s.down u = some d ∧ d.stage = .ackWait ∧ d.ackReq = true ∧ d.ackEnd ≤ s.mp ∧ (d.aim ≠ .train ∨ d.hi ≤ d.c))
    ∧ (∃ (s : State), s.get WAKE.STATUS_FIX_ACTIVE ≠ 0) :=
  ⟨⟨5, { down1 with stage := .released, destInc := 1 }, { State.reset with downs := [{ down1 with stage := .released, destInc := 1 }] }, by decide⟩,
   ⟨5, 6, true, { down1 with stage := .released }, { st [(E.STATE, 6, 2)] with downs := [{ down1 with stage := .released }] }, by decide⟩,
   ⟨5, { down1 with stage := .released }, { st [(E.STATE, 6, 4)] with downs := [{ down1 with stage := .released }] }, by decide⟩,
   ⟨5, { down1 with stage := .released, freight := .relay }, { st [(E.STATE, 6, 2), (PANMAP.CFG_EN, 0, 1), (PANMAP.CFG_HEDGE, 0, 1), (PANMAP.CFG_HOP, 0, 1)] with downs := [{ down1 with stage := .released, freight := .relay }] }, by decide⟩,
   ⟨5, { down1 with stage := .released }, { st [(E.STATE, 6, 2), (E.SHORT_ADDR, 6, 9), (FWDH.CFG_NOROUTE_ACT, 1, 1), (PANMAP.CFG_EN, 0, 1), (PANMAP.CFG_HEDGE, 0, 1), (PANMAP.CFG_HOP, 0, 1)] with downs := [{ down1 with stage := .released }] }, by decide⟩,
   ⟨5, { down1 with stage := .released, freight := .flood }, { State.reset with downs := [{ down1 with stage := .released, freight := .flood }] }, by decide⟩,
   ⟨5, { down1 with stage := .planned, ackReq := false }, { st [(E.STATE, 6, 2)] with downs := [{ down1 with stage := .planned, ackReq := false }] }, by decide⟩,
   ⟨0, ⟨0, 5, 3, 0⟩, { down1 with stage := .armed }, { State.reset with gateRecs := [⟨0, 5, 3, 0⟩], downs := [{ down1 with stage := .armed }] }, by decide⟩,
   ⟨0, ⟨0, 5, 0, 0, 0, 0, 0⟩, { down1 with stage := .armed }, { State.reset with txRes := [⟨0, 5, 0, 0, 0, 0, 0⟩], downs := [{ down1 with stage := .armed }] }, by decide⟩,
   ⟨5, { down1 with stage := .ackWait, aim := .train, ackReq := false }, { State.reset with downs := [{ down1 with stage := .ackWait, aim := .train, ackReq := false }] }, by decide⟩,
   ⟨5, { down1 with stage := .ackWait, aim := .train, hi := 9 }, { st [(CLK.SEC, 0, 1577836801)] with downs := [{ down1 with stage := .ackWait, aim := .train, hi := 9 }] }, by decide⟩,
   ⟨5, { down1 with stage := .ackWait }, { State.reset with downs := [{ down1 with stage := .ackWait }] }, by decide⟩,
   ⟨st [(WAKE.STATUS_FIX_ACTIVE, 0, 1)], by decide⟩⟩

/-- The hypotheses of FramesAndFloods can be met, clause by clause. -/
theorem witness_FramesAndFloods :
    (∃ (l : Nat) (x : LaneIn) (s : State), s.get FIFO.STATUS_FROZEN l = 0 ∧ s.laneQ.find? (·.lane == l) = some x)
    ∧ (∃ (u : Nat) (d : Down) (s : State), s.reflQ.find? (·.uid == u) = some d ∧ s.standby = false ∧ d.bound ≤ s.mp)
    ∧ (∃ (h : Nat) (s : State), s.standby = false ∧ s.get BEACON.CTL_EN h = 0)
    ∧ (∃ (h : Nat) (s : State), s.standby = false ∧ s.get BEACON.CTL_EN h ≠ 0 ∧ (s.get BEACX.SENT h = 0 ∨ s.get BEACON.INTERVAL h ≤ ((s.mpSec + 2 ^ 32 - s.get BEACX.AT h) % 2 ^ 32)) ∧ (s.refGood = true ∨ s.get BEACON.CTL_SEND_UNLOCKED h ≠ 0))
    ∧ (∃ (h : Nat) (s : State), s.standby = false ∧ s.get BEACON.CTL_EN h ≠ 0 ∧ (s.get BEACX.SENT h = 0 ∨ s.get BEACON.INTERVAL h ≤ ((s.mpSec + 2 ^ 32 - s.get BEACX.AT h) % 2 ^ 32)) ∧ s.refGood = false ∧ s.get BEACON.CTL_SEND_UNLOCKED h = 0)
    ∧ (∃ (r : Req) (h v : Nat) (s : State), s.reachWord r (FWDH.GEN_BASE.addr h) 4 = 0 ∧ h < 8 ∧ v % 8 ≠ s.get FWDH.GEN_BASE h ∧ v % 8 = (s.get FWDH.GEN_BASE h + 1) % 8 ∧ (bit v 8 = true ∨ s.genCount h (s.get FWDH.GEN_BASE h) = 0))
    ∧ (∃ (r : Req) (h v : Nat) (s : State), s.reachWord r (FWDH.GEN_BASE.addr h) 4 = 0 ∧ h < 8 ∧ v % 8 ≠ s.get FWDH.GEN_BASE h ∧ (v % 8 ≠ (s.get FWDH.GEN_BASE h + 1) % 8 ∨ (bit v 8 = false ∧ s.genCount h (s.get FWDH.GEN_BASE h) ≠ 0))) :=
  ⟨⟨2, ⟨2, 2, [], [1, 2, 3], 0⟩, { State.reset with laneQ := [⟨2, 2, [], [1, 2, 3], 0⟩] }, by decide⟩,
   ⟨5, down1, { State.reset with reflQ := [down1] }, by decide⟩,
   ⟨3, State.reset, by decide⟩,
   ⟨3, st [(BEACON.CTL_EN, 3, 1), (BEACON.CTL_SEND_UNLOCKED, 3, 1)], by decide⟩,
   ⟨3, st [(BEACON.CTL_EN, 3, 1)], by decide⟩,
   ⟨.steward, 1, 0x101, State.reset, by decide⟩,
   ⟨.steward, 1, 0x102, State.reset, by decide⟩⟩

/-- The hypotheses of Campaigns can be met, clause by clause. -/
theorem witness_Campaigns :
    (∃ (c : Cmd) (num bsize bcount from_ lcount mOff iOff lOff : Nat) (list : Bool) (m l : List Nat) (s : State), s.standby = false ∧ s.expH c.ring 3 = false ∧ s.campRuns c.ring = false ∧ 64 ≤ bsize ∧ bsize ≤ 1024 ∧ bsize % 16 = 0 ∧ 1 ≤ bcount ∧ bcount ≤ 65535 ∧ from_ ≤ 7 ∧ (s.accepted c 0x40).grantRead c.ring mOff (160 + 32 * bcount) = some m ∧ (if list then (s.accepted c 0x40).grantRead c.ring lOff (4 * lcount) else some []) = some l)
    ∧ (∃ (c : Cmd) (num bsize bcount from_ lcount mOff iOff lOff : Nat) (list : Bool) (s : State), s.standby = false ∧ s.expH c.ring 3 = false ∧ s.campRuns c.ring = true)
    ∧ (∃ (h : Nat) (s : State), (s.get CAMP.STATUS_STATE h = 2 ∨ s.get CAMP.STATUS_STATE h = 4) ∧ s.standby = false ∧ s.campBusy h = false)
    ∧ (∃ (h : Nat) (s : State), s.standby = false ∧ s.get CAMP.STATUS_STATE h = 3 ∧ after32 (s.get CAMPX.WIN_AT h) s.mpSec = false)
    ∧ (∃ (h : Nat) (s : State), s.standby = false ∧ s.get CAMP.STATUS_STATE h = 5 ∧ after32 (s.get CAMPX.WIN_AT h) s.mpSec = false)
    ∧ (∃ (c : Cmd) (num : Nat) (s : State), s.standby = false ∧ s.expH c.ring 3 = false ∧ s.campNamed c.ring num = true ∧ s.campRuns c.ring = true ∧ s.get CAMP.STATUS_STATE c.ring ≠ 6)
    ∧ (∃ (c : Cmd) (num : Nat) (s : State), s.standby = false ∧ s.expH c.ring 3 = false ∧ s.campNamed c.ring num = true ∧ s.campRuns c.ring = true ∧ s.get CAMP.STATUS_STATE c.ring = 6)
    ∧ (∃ (c : Cmd) (num : Nat) (s : State), s.standby = false ∧ s.expH c.ring 3 = false ∧ s.campNamed c.ring num = true)
    ∧ (∃ (r : Req) (h : Nat) (s : State), s.reachWord r (CAMP.STATUS_STATE.addr h) 4 = 0 ∧ s.get CAMP.STATUS_STATE h = 7)
    ∧ (∃ (r : Req) (h : Nat) (s : State), s.reachWord r (CAMP.STATUS_STATE.addr h) 4 = 0 ∧ s.get CAMP.STATUS_STATE h ≠ 7) :=
  ⟨⟨cmd1, 1, 64, 1, 0, 0, 0, 0, 0, false, List.replicate 192 0, [], st [(ENGH.DRAM_SIZE, 1, 4096)], by decide⟩,
   ⟨cmd1, 1, 64, 1, 0, 0, 0, 0, 0, false, st [(CAMP.STATUS_STATE, 1, 2)], by decide⟩,
   ⟨1, st [(CAMP.STATUS_STATE, 1, 2)], by decide⟩,
   ⟨1, st [(CAMP.STATUS_STATE, 1, 3)], by decide⟩,
   ⟨1, st [(CAMP.STATUS_STATE, 1, 5), (CAMPX.ACTS, 1, 2)], by decide⟩,
   ⟨cmd1, 0, st [(CAMP.STATUS_STATE, 1, 2)], by decide⟩,
   ⟨cmd1, 0, st [(CAMP.STATUS_STATE, 1, 6)], by decide⟩,
   ⟨cmd1, 0, st [(CAMP.STATUS_STATE, 1, 2)], by decide⟩,
   ⟨.steward, 1, st [(CAMP.STATUS_STATE, 1, 7), (CAMP.STATUS_ABORTED, 1, 1)], by decide⟩,
   ⟨.steward, 1, st [(CAMP.STATUS_STATE, 1, 2)], by decide⟩⟩

/-- The hypotheses of Sweeps can be met, clause by clause. -/
theorem witness_Sweeps :
    (∃ (c : Cmd) (rounds roundS ttl : Nat) (silent : Bool) (s : State), s.standby = false ∧ s.get SWEEP.RUN c.ring = 0 ∧ 1 ≤ rounds ∧ rounds ≤ 16 ∧ 10 ≤ roundS ∧ roundS ≤ 3600 ∧ 1 ≤ ttl ∧ ttl ≤ 63)
    ∧ (∃ (c : Cmd) (rounds roundS ttl : Nat) (silent : Bool) (s : State), s.standby = false ∧ s.get SWEEP.RUN c.ring = 0 ∧ (rounds = 0 ∨ 16 < rounds ∨ roundS < 10 ∨ 3600 < roundS ∨ ttl = 0 ∨ 63 < ttl))
    ∧ (∃ (c : Cmd) (rounds roundS ttl : Nat) (silent : Bool) (s : State), s.standby = false ∧ s.get SWEEP.RUN c.ring ≠ 0)
    ∧ (∃ (h : Nat) (s : State), s.get SWEEP.RUN h ≠ 0 ∧ s.standby = false ∧ s.get SWEEP.ROUND h < s.get SWEEP.ROUNDS h ∧ after32 ((s.get SWEEP.T0 h + s.get SWEEP.ROUND h * s.get SWEEP.ROUND_S h) % 2 ^ 32) s.mpSec = false)
    ∧ (∃ (h : Nat) (s : State), s.get SWEEP.RUN h ≠ 0 ∧ s.standby = false ∧ after32 ((s.get SWEEP.T0 h + s.get SWEEP.ROUNDS h * s.get SWEEP.ROUND_S h) % 2 ^ 32) s.mpSec = false)
    ∧ (∃ (c : Cmd) (first count addr : Nat) (s : State), 1 ≤ count ∧ count ≤ 1024 ∧ s.get SWEEP.HAVE c.ring = 0)
    ∧ (∃ (c : Cmd) (first count addr : Nat) (s : State), 1 ≤ count ∧ count ≤ 1024 ∧ s.get SWEEP.HAVE c.ring ≠ 0) :=
  ⟨⟨cmd1, 16, 3600, 63, true, State.reset, by decide⟩,
   ⟨cmd1, 17, 3600, 63, true, State.reset, by decide⟩,
   ⟨cmd1, 16, 3600, 63, true, st [(SWEEP.RUN, 1, 1)], by decide⟩,
   ⟨1, st [(SWEEP.RUN, 1, 1), (SWEEP.ROUNDS, 1, 2), (SWEEP.ROUND_S, 1, 10)], by decide⟩,
   ⟨1, st [(SWEEP.RUN, 1, 1)], by decide⟩,
   ⟨cmd1, 0, 1024, 0, State.reset, by decide⟩,
   ⟨cmd1, 0, 1, 0, st [(SWEEP.HAVE, 1, 1)], by decide⟩⟩

/-- The hypotheses of TrafficMeters can be met, clause by clause. -/
theorem witness_TrafficMeters :
    (∃ (r : Req) (m v : Nat) (s : State), s.reachWord r (METER.CMD_COMMIT.addr m) 4 = 0 ∧ m < 16384 ∧ v % 2 = 1)
    ∧ (∃ (r : Req) (n v : Nat) (s : State), s.reachWord r (SHAPER.CMD_COMMIT.addr n) 4 = 0 ∧ n < 1024 ∧ v % 2 = 1)
    ∧ (∃ (n : Nat) (s : State), s.get SHAPER.CFG_EN n ≠ 0 ∧ s.get SHAPER.STATUS_BLOCKED n ≠ 0 ∧ 0 ≤ s.shTokens n)
    ∧ (∃ (w : Nat) (s : State), w < 64 ∧ s.get WATCH.CFG_EN w ≠ 0 ∧ s.watchMay w = true)
    ∧ (∃ (r : Req) (i v : Nat) (s : State), s.reachWord r (QPROBE.SEL_Q.addr i) 4 = 0 ∧ i < 9 ∧ s.probeMay i (v % 2 ^ 18) = false)
    ∧ (∃ (r : Req) (i v : Nat) (s : State), s.reachWord r (QPROBE.SEL_Q.addr i) 4 = 0 ∧ i < 9 ∧ s.probeMay i (v % 2 ^ 18) = true)
    ∧ (∃ (r : Req) (i v : Nat) (s : State), s.reachWord r (QPROBE.GROUP_ID.addr i) 4 = 0 ∧ i < 9 ∧ s.probeMay i (s.get QPROBE.SEL_Q i) = true ∧ s.groupCode (s.get QPROBE.SEL_Q i) (v % 2 ^ 10) (bit v 15) = 0)
    ∧ (∃ (r : Req) (i v : Nat) (s : State), s.reachWord r (QPROBE.GROUP_ID.addr i) 4 = 0 ∧ i < 9 ∧ s.probeMay i (s.get QPROBE.SEL_Q i) = false) :=
  ⟨⟨.steward, 16383, 1, State.reset, by decide⟩,
   ⟨.steward, 1023, 1, State.reset, by decide⟩,
   ⟨40, st [(SHAPER.CFG_EN, 40, 1), (SHAPER.STATUS_BLOCKED, 40, 1)], by decide⟩,
   ⟨63, st [(WATCH.CFG_EN, 63, 1), (WATCH.CFG_OWNER, 63, 15)], by decide⟩,
   ⟨.steward, 1, 6, State.reset, by decide⟩,
   ⟨.steward, 8, 6, st [(E.STATE, 6, 2), (E.HEDGE, 6, 1)], by decide⟩,
   ⟨.steward, 8, 0, st [(QPROBE.SEL_Q, 8, 6), (E.STATE, 6, 2), (E.HEDGE, 6, 1)], by decide⟩,
   ⟨.steward, 1, 0, State.reset, by decide⟩⟩

/-- The hypotheses of TrafficQueues can be met, clause by clause. -/
theorem witness_TrafficQueues :
    (∃ (o : Nat) (s : State), o < 4 ∧ s.refreshAll.requesting o = true)
    ∧ (∃ (o : Nat) (s : State), o < 4 ∧ s.refreshAll.requesting o = false)
    ∧ (∃ (c : Cmd) (e group : Nat) (s : State), s.standby = false ∧ s.expH c.ring 4 = false ∧ s.named c.ring e = true ∧ s.groupCode e (group % 2 ^ 10) (bit group 15) = 0)
    ∧ (∃ (r : Req) (h v : Nat) (s : State), s.reachWord r (TMH.CTL_EN.addr h) 4 = 0 ∧ h < 8 ∧ ¬ (v % 2 = 1 ∧ bandOf (s.planFreq h (s.get CHPLAN.COUNT h - 1)) ≠ s.hedgeBand h))
    ∧ (∃ (r : Req) (h v : Nat) (s : State), s.reachWord r (TMH.CTL_EN.addr h) 4 = 0 ∧ h < 8 ∧ v % 2 = 1 ∧ bandOf (s.planFreq h (s.get CHPLAN.COUNT h - 1)) ≠ s.hedgeBand h)
    ∧ (∃ (r : Req) (h v : Nat) (s : State), s.reachWord r (TMH.CELL_QUOTA.addr h) 4 = 0 ∧ viewOf r = 0 ∧ h < 8 ∧ s.get TMG.CELL_SUM - s.get TMH.CELL_QUOTA h + v % 2 ^ 17 ≤ 65536)
    ∧ (∃ (r : Req) (h v : Nat) (s : State), s.reachWord r (TMH.CELL_QUOTA.addr h) 4 = 0 ∧ viewOf r = 0 ∧ h < 8 ∧ 65536 < s.get TMG.CELL_SUM - s.get TMH.CELL_QUOTA h + v % 2 ^ 17)
    ∧ (∃ (r : Req) (f v : Nat) (s : State), s.reachWord r (FIFO.CFG_EN.addr f + 0) 4 = 0 ∧ f < 2048)
    ∧ (∃ (r : Req) (f v : Nat) (s : State), s.reachWord r (FIFO.CFG_EN.addr f + 4) 4 = 0 ∧ f < 2048 ∧ s.get FIFO.CFG_EN f = 0 ∧ v % 64 = 0)
    ∧ (∃ (r : Req) (f v : Nat) (s : State), s.reachWord r (FIFO.CFG_EN.addr f + 4) 4 = 0 ∧ f < 2048 ∧ (s.get FIFO.CFG_EN f ≠ 0 ∨ v % 64 ≠ 0))
    ∧ (∃ (r : Req) (f v : Nat) (s : State), s.reachWord r (FIFO.CFG_EN.addr f + 8) 4 = 0 ∧ f < 2048 ∧ s.get FIFO.CFG_EN f = 0 ∧ ((List.range 14).any (fun k => v % 2 ^ 16 == 4 * 2 ^ k) = true))
    ∧ (∃ (r : Req) (f v : Nat) (s : State), s.reachWord r (FIFO.CFG_EN.addr f + 8) 4 = 0 ∧ f < 2048 ∧ (s.get FIFO.CFG_EN f ≠ 0 ∨ (List.range 14).any (fun k => v % 2 ^ 16 == 4 * 2 ^ k) = false))
    ∧ (∃ (r : Req) (f v : Nat) (s : State), s.reachWord r (FIFO.CFG_EN.addr f + 0xC) 4 = 0 ∧ f < 2048)
    ∧ (∃ (f : Nat) (s : State), f < 2048) :=
  ⟨⟨3, st [(TXC.CTL_EN, 3, 1), (TXC.MUTE, 3, 0)], by decide⟩,
   ⟨2, State.reset, by decide⟩,
   ⟨cmd1, 6, 0, st [(E.STATE, 6, 2), (E.HEDGE, 6, 1)], by decide⟩,
   ⟨.steward, 7, 0, State.reset, by decide⟩,
   ⟨.steward, 7, 1, st [(CHPLAN.F0_HZ, 7, 900000000), (CHPLAN.SPACING_HZ, 7, 1000000), (CHPLAN.COUNT, 7, 200)], by decide⟩,
   ⟨.steward, 7, 0, State.reset, by decide⟩,
   ⟨.steward, 7, 100000, State.reset, by decide⟩,
   ⟨.steward, 2047, 1, State.reset, by decide⟩,
   ⟨.steward, 2047, 64, State.reset, by decide⟩,
   ⟨.steward, 2047, 64, st [(FIFO.CFG_EN, 2047, 1)], by decide⟩,
   ⟨.steward, 2047, 64, State.reset, by decide⟩,
   ⟨.steward, 2047, 65, State.reset, by decide⟩,
   ⟨.steward, 0, 64, State.reset, by decide⟩,
   ⟨2047, State.reset, by decide⟩⟩

/-- The hypotheses of KeyCommands can be met, clause by clause. -/
theorem witness_KeyCommands :
    (∃ (c : Cmd) (target parent use type len addr n : Nat) (s : State), (¬ (3 < use ∨ 3 < type ∨ 128 < len ∨ 1024 ≤ target ∨ 1024 ≤ parent)) ∧ s.foreignSlot c.ring parent = false ∧ s.targetSlot c.ring target = (0, n) ∧ s.slotCode parent = 0 ∧ s.get KSLOT.META_USE parent = 2 ∧ (parent = 8 ∨ s.get KSLOT.META_TYPE parent = 1) ∧ s.slotCode (if parent = 8 then c.ring else parent) = 0 ∧ s.get KSLOT.META_LEVEL (if parent = 8 then c.ring else parent) < 6)
    ∧ (∃ (c : Cmd) (target parent use type labelLen ctxLen addr n : Nat) (s : State), (¬ (3 < use ∨ 2 < type ∨ 32 < labelLen ∨ 64 < ctxLen ∨ 1024 ≤ target ∨ 1024 ≤ parent ∨ ((s.cmdData c addr (labelLen + ctxLen)).take labelLen).take 4 = asc "XTH ")) ∧ s.foreignSlot c.ring parent = false ∧ s.targetSlot c.ring target = (0, n) ∧ s.slotCode parent = 0 ∧ s.get KSLOT.META_USE parent = 3 ∧ s.get KSLOT.META_LEVEL parent < 6)
    ∧ (∃ (c : Cmd) (slot : Nat) (s : State), 16 ≤ slot ∧ slot < 1024 ∧ s.ownSlot c.ring slot = true)
    ∧ (∃ (c : Cmd) (slot : Nat) (s : State), slot < 16)
    ∧ (∃ (c : Cmd) (slot : Nat) (s : State), slot < 1024 ∧ (slot = c.ring ∨ slot = 8 ∨ (16 ≤ slot ∧ s.ownSlot c.ring slot = true)))
    ∧ (∃ (c : Cmd) (s : State), s.rooted = true)
    ∧ (∃ (c : Cmd) (anchor addr : Nat) (k : Bool) (s : State), anchor ≤ 1 ∧ s.get TRUST.CTL_LOCK c.ring = 0)
    ∧ (∃ (c : Cmd) (addr : Nat) (k : Bool) (s : State), s.get TRUST.CTL_LOCK c.ring ≠ 0)
    ∧ (∃ (r : Req) (h v : Nat) (s : State), s.reachWord r (TRUST.CTL_LOCK.addr h) 4 = 0 ∧ h < 8 ∧ bit v 2 = true)
    ∧ (∃ (c : Cmd) (slot addr : Nat) (challenge : List Nat) (s : State), slot < 1024 ∧ (fix 32 challenge).all (· == 0) = false ∧ (s.get KSLOT.META_STATE slot = 0 ∨ s.get KSLOT.META_OWNER slot = c.ring) ∧ s.slotCode slot = 0 ∧ s.get KSLOT.META_USE slot = 0 ∧ s.get KSLOT.META_TYPE slot = 2)
    ∧ (∃ (c : Cmd) (e : Nat) (s : State), s.standby = false ∧ s.named c.ring e = true)
    ∧ (∃ (c : Cmd) (s : State), s.standby = false ∧ s.get GRPX.RUN c.ring = 0)
    ∧ (∃ (c : Cmd) (s : State), s.standby = false ∧ s.get GRPX.RUN c.ring ≠ 0)
    ∧ (∃ (c : Cmd) (k : Nat) (s : State), k ≠ 0x4C4C4144) :=
  ⟨⟨cmd1, 20, 8, 0, 0, 16, 0, 20, st [(OTP.LIFE, 0, 1), (SEC.STATUS_LIFE, 0, 1), (KSLOT.META_STATE, 8, 1), (KSLOT.META_USE, 8, 2), (KSLOT.META_PARENT, 8, 1023), (KSLOT.META_PARENT, 1, 1023), (KSLOT.META_STATE, 1, 1), (KSLOT.META_OWNER, 1, 1), (SECH.SLOT_QUOTA, 1, 4)], by decide⟩,
   ⟨cmd1, 20, 21, 0, 0, 0, 0, 0, 20, st [(OTP.LIFE, 0, 1), (SEC.STATUS_LIFE, 0, 1), (KSLOT.META_STATE, 21, 1), (KSLOT.META_USE, 21, 3), (KSLOT.META_PARENT, 21, 1023), (KSLOT.META_OWNER, 21, 1), (SECH.SLOT_QUOTA, 1, 4)], by decide⟩,
   ⟨cmd1, 1023, st [(KSLOT.META_STATE, 1023, 1), (KSLOT.META_OWNER, 1023, 1)], by decide⟩,
   ⟨cmd1, 15, State.reset, by decide⟩,
   ⟨cmd1, 8, State.reset, by decide⟩,
   ⟨cmd1, st [(OTP.LIFE, 0, 1), (SEC.STATUS_LIFE, 0, 1)], by decide⟩,
   ⟨cmd1, 1, 0, true, State.reset, by decide⟩,
   ⟨cmd1, 0, true, st [(TRUST.CTL_LOCK, 1, 1)], by decide⟩,
   ⟨.steward, 7, 4, State.reset, by decide⟩,
   ⟨cmd1, 21, 0, [1], st [(OTP.LIFE, 0, 1), (SEC.STATUS_LIFE, 0, 1), (KSLOT.META_STATE, 21, 1), (KSLOT.META_OWNER, 21, 1), (KSLOT.META_TYPE, 21, 2), (KSLOT.META_PARENT, 21, 1023)], by decide⟩,
   ⟨cmd1, 6, st [(E.STATE, 6, 2), (E.HEDGE, 6, 1)], by decide⟩,
   ⟨cmd1, State.reset, by decide⟩,
   ⟨cmd1, st [(GRPX.RUN, 1, 1)], by decide⟩,
   ⟨cmd1, 0, State.reset, by decide⟩⟩

/-- The hypotheses of KeyEvents can be met, clause by clause. -/
theorem witness_KeyEvents :
    (∃ (s : State), s.get SEC.STATUS_DRBG_OK = 0)
    ∧ (∃ (s : State), s.get SEC.STATUS_DRBG_OK = 0)
    ∧ (∃ (r : Req) (h v : Nat) (s : State), s.reachWord r (SECH.SLOT_QUOTA.addr h) 4 = 0 ∧ viewOf r = 0 ∧ h < 8 ∧ s.get SEC.QUOTA_SUM - s.get SECH.SLOT_QUOTA h + v % 2 ^ 10 ≤ 1008)
    ∧ (∃ (r : Req) (h v : Nat) (s : State), s.reachWord r (SECH.SLOT_QUOTA.addr h) 4 = 0 ∧ viewOf r = 0 ∧ h < 8 ∧ 1008 < s.get SEC.QUOTA_SUM - s.get SECH.SLOT_QUOTA h + v % 2 ^ 10)
    ∧ (∃ (e : Nat) (x : Split) (s : State), s.splits.find? (·.entry == e) = some x ∧ s.down x.uid = none ∧ s.get E.STATE e = stJoining)
    ∧ (∃ (e : Nat) (s : State), s.get NODE.REKEY_ON e ≠ 0 ∧ s.standby = false ∧ after32 ((s.get NODE.REKEY_AT e + s.get SECH.REKEY_RETRY_S (s.get E.HEDGE e)) % 2 ^ 32) s.mpSec = false)
    ∧ (∃ (h : Nat) (s : State), s.get GRPX.RUN h ≠ 0 ∧ after32 (s.get GRPX.SWITCH_AT h) s.mpSec = false)
    ∧ (∃ (h : Nat) (s : State), s.get GRPX.PREV h ≠ 0 ∧ after32 (s.get GRPX.PREV_AT h) s.mpSec = false) :=
  ⟨⟨st [(SEC.STATUS_DRBG_OK, 0, 0)], by decide⟩,
   ⟨st [(SEC.STATUS_DRBG_OK, 0, 0)], by decide⟩,
   ⟨.steward, 7, 1, State.reset, by decide⟩,
   ⟨.steward, 7, 1009, State.reset, by decide⟩,
   ⟨6, ⟨5, 6, [1]⟩, { st [(E.STATE, 6, 1)] with splits := [⟨5, 6, [1]⟩] }, by decide⟩,
   ⟨6, st [(NODE.REKEY_ON, 6, 1), (E.HEDGE, 6, 1), (SECH.REKEY_RETRY_S, 1, 0)], by decide⟩,
   ⟨1, st [(GRPX.RUN, 1, 1)], by decide⟩,
   ⟨1, st [(GRPX.PREV, 1, 1)], by decide⟩⟩

/-- The hypotheses of ThreadSums can be met, clause by clause. -/
theorem witness_ThreadSums :
    (∃ (g : Nat) (rd ra rb : BitVec 5) (s : State), s.issues g = true)
    ∧ (∃ (g : Nat) (rd ra rb : BitVec 5) (s : State), s.issues g = true)
    ∧ (∃ (g : Nat) (rd ra rb : BitVec 5) (s : State), s.issues g = true)
    ∧ (∃ (g : Nat) (rd ra rb : BitVec 5) (s : State), s.issues g = true)
    ∧ (∃ (g : Nat) (rd ra : BitVec 5) (imm : BitVec 16) (s : State), s.issues g = true)
    ∧ (∃ (g v f : Nat) (rd : BitVec 5) (s : State), f < 16) :=
  ⟨⟨0, 1, 2, 3, State.reset.putThread 0 1, by decide⟩,
   ⟨0, 1, 2, 3, State.reset.putThread 0 1, by decide⟩,
   ⟨0, 1, 2, 3, State.reset.putThread 0 1, by decide⟩,
   ⟨0, 1, 2, 3, State.reset.putThread 0 1, by decide⟩,
   ⟨0, 0, 31, 65535, State.reset.putThread 0 1, by decide⟩,
   ⟨0, 5, 3, 1, State.reset, by decide⟩⟩

/-- The hypotheses of ThreadLogicAndShifts can be met, clause by clause. -/
theorem witness_ThreadLogicAndShifts :
    (∃ (g : Nat) (rd ra rb : BitVec 5) (s : State), s.issues g = true)
    ∧ (∃ (g : Nat) (rd ra rb : BitVec 5) (s : State), s.issues g = true)
    ∧ (∃ (g : Nat) (rd ra rb : BitVec 5) (s : State), s.issues g = true)
    ∧ (∃ (g : Nat) (rd ra rb : BitVec 5) (s : State), s.issues g = true)
    ∧ (∃ (g : Nat) (rd ra rb : BitVec 5) (s : State), s.issues g = true)
    ∧ (∃ (g : Nat) (rd ra rb : BitVec 5) (s : State), s.issues g = true)
    ∧ (∃ (g : Nat) (rd ra rb : BitVec 5) (s : State), s.issues g = true)
    ∧ (∃ (g : Nat) (rd ra rb : BitVec 5) (s : State), s.issues g = true)
    ∧ (∃ (g : Nat) (rd ra : BitVec 5) (imm : BitVec 16) (s : State), s.issues g = true)
    ∧ (∃ (g : Nat) (rd ra : BitVec 5) (imm : BitVec 16) (s : State), s.issues g = true)
    ∧ (∃ (g : Nat) (rd ra : BitVec 5) (imm : BitVec 16) (s : State), s.issues g = true)
    ∧ (∃ (g : Nat) (rd ra : BitVec 5) (imm : BitVec 16) (s : State), s.issues g = true ∧ imm.toNat < 32)
    ∧ (∃ (g : Nat) (rd ra : BitVec 5) (imm : BitVec 16) (s : State), s.issues g = true ∧ imm.toNat < 32)
    ∧ (∃ (g : Nat) (rd ra : BitVec 5) (imm : BitVec 16) (s : State), s.issues g = true ∧ imm.toNat < 32)
    ∧ (∃ (g : Nat) (rd ra : BitVec 5) (imm : BitVec 16) (s : State), s.issues g = true ∧ ra = 0)
    ∧ (∃ (g : Nat) (rd ra : BitVec 5) (imm : BitVec 16) (s : State), s.issues g = true ∧ 32 ≤ imm.toNat)
    ∧ (∃ (g : Nat) (rd ra : BitVec 5) (imm : BitVec 16) (s : State), s.issues g = true ∧ 32 ≤ imm.toNat)
    ∧ (∃ (g : Nat) (rd ra : BitVec 5) (imm : BitVec 16) (s : State), s.issues g = true ∧ 32 ≤ imm.toNat)
    ∧ (∃ (g : Nat) (rd ra : BitVec 5) (imm : BitVec 16) (s : State), s.issues g = true ∧ ra ≠ 0) :=
  ⟨⟨0, 1, 2, 3, State.reset.putThread 0 1, by decide⟩,
   ⟨0, 1, 2, 3, State.reset.putThread 0 1, by decide⟩,
   ⟨0, 1, 2, 3, State.reset.putThread 0 1, by decide⟩,
   ⟨0, 1, 2, 3, State.reset.putThread 0 1, by decide⟩,
   ⟨0, 1, 2, 3, State.reset.putThread 0 1, by decide⟩,
   ⟨0, 1, 2, 3, State.reset.putThread 0 1, by decide⟩,
   ⟨0, 1, 2, 3, State.reset.putThread 0 1, by decide⟩,
   ⟨0, 1, 2, 3, State.reset.putThread 0 1, by decide⟩,
   ⟨447, 0, 31, 65535, (State.reset.putThread 447 1).put THR.PC 447 0x3FFFC, by decide⟩,
   ⟨447, 0, 31, 65535, (State.reset.putThread 447 1).put THR.PC 447 0x3FFFC, by decide⟩,
   ⟨447, 0, 31, 65535, (State.reset.putThread 447 1).put THR.PC 447 0x3FFFC, by decide⟩,
   ⟨447, 0, 31, 31, (State.reset.putThread 447 1).put THR.PC 447 0x3FFFC, by decide⟩,
   ⟨447, 0, 31, 31, (State.reset.putThread 447 1).put THR.PC 447 0x3FFFC, by decide⟩,
   ⟨447, 0, 31, 31, (State.reset.putThread 447 1).put THR.PC 447 0x3FFFC, by decide⟩,
   ⟨511, 31, 0, 65535, (State.reset.putThread 511 1).put THR.PC 511 0xFFFC, by decide⟩,
   ⟨0, 1, 2, 32, State.reset.putThread 0 1, by decide⟩,
   ⟨0, 1, 2, 32, State.reset.putThread 0 1, by decide⟩,
   ⟨0, 1, 2, 32, State.reset.putThread 0 1, by decide⟩,
   ⟨0, 1, 2, 32, State.reset.putThread 0 1, by decide⟩⟩

/-- The hypotheses of ThreadProductsAndCompares can be met, clause by clause. -/
theorem witness_ThreadProductsAndCompares :
    (∃ (g : Nat) (rd ra rb : BitVec 5) (s : State), s.issues g = true)
    ∧ (∃ (g : Nat) (rd ra rb : BitVec 5) (s : State), s.issues g = true)
    ∧ (∃ (g : Nat) (rd ra rb : BitVec 5) (s : State), s.issues g = true)
    ∧ (∃ (g : Nat) (rd ra rb : BitVec 5) (s : State), s.issues g = true ∧ rb = 0)
    ∧ (∃ (g : Nat) (rd ra rb : BitVec 5) (s : State), s.issues g = true ∧ rb = 0)
    ∧ (∃ (g : Nat) (rd ra rb : BitVec 5) (s : State), s.issues g = true)
    ∧ (∃ (g : Nat) (rd ra rb : BitVec 5) (s : State), s.issues g = true)
    ∧ (∃ (g : Nat) (rd ra rb : BitVec 5) (s : State), s.issues g = true)
    ∧ (∃ (g : Nat) (rd ra rb : BitVec 5) (s : State), s.issues g = true)
    ∧ (∃ (g : Nat) (rd ra rb : BitVec 5) (s : State), s.issues g = true)
    ∧ (∃ (g : Nat) (rd ra rb : BitVec 5) (s : State), s.issues g = true)
    ∧ (∃ (g : Nat) (rd ra : BitVec 5) (imm : BitVec 16) (s : State), s.issues g = true)
    ∧ (∃ (g : Nat) (rd ra rb : BitVec 5) (s : State), s.issues g = true ∧ rb ≠ 0)
    ∧ (∃ (g : Nat) (rd ra rb : BitVec 5) (s : State), s.issues g = true ∧ rb ≠ 0) :=
  ⟨⟨0, 1, 2, 3, State.reset.putThread 0 1, by decide⟩,
   ⟨0, 1, 2, 3, State.reset.putThread 0 1, by decide⟩,
   ⟨0, 1, 2, 3, State.reset.putThread 0 1, by decide⟩,
   ⟨0, 1, 2, 0, State.reset.putThread 0 1, by decide⟩,
   ⟨0, 1, 2, 0, State.reset.putThread 0 1, by decide⟩,
   ⟨0, 1, 2, 3, State.reset.putThread 0 1, by decide⟩,
   ⟨0, 1, 2, 3, State.reset.putThread 0 1, by decide⟩,
   ⟨0, 1, 2, 3, State.reset.putThread 0 1, by decide⟩,
   ⟨0, 1, 2, 3, State.reset.putThread 0 1, by decide⟩,
   ⟨0, 1, 2, 3, State.reset.putThread 0 1, by decide⟩,
   ⟨0, 1, 2, 3, State.reset.putThread 0 1, by decide⟩,
   ⟨447, 0, 31, 65535, (State.reset.putThread 447 1).put THR.PC 447 0x3FFFC, by decide⟩,
   ⟨0, 1, 2, 3, State.reset.putThread 0 1, by decide⟩,
   ⟨0, 1, 2, 3, State.reset.putThread 0 1, by decide⟩⟩

/-- The hypotheses of ThreadFieldsAndHashes can be met, clause by clause. -/
theorem witness_ThreadFieldsAndHashes :
    (∃ (g : Nat) (rd ra pos len : BitVec 5) (s : State), s.issues g = true ∧ pos.toNat + len.toNat < 32)
    ∧ (∃ (g : Nat) (rd ra pos len : BitVec 5) (s : State), s.issues g = true ∧ pos.toNat + len.toNat < 32)
    ∧ (∃ (g : Nat) (rd ra pos len : BitVec 5) (s : State), s.issues g = true ∧ pos.toNat + len.toNat < 32)
    ∧ (∃ (g : Nat) (rd ra : BitVec 5) (s : State), s.issues g = true)
    ∧ (∃ (g : Nat) (rd ra rb : BitVec 5) (n : BitVec 3) (s : State), s.issues g = true ∧ (n = 1 ∨ n = 2 ∨ n = 4))
    ∧ (∃ (g : Nat) (rd ra rb : BitVec 5) (n : BitVec 3) (s : State), s.issues g = true ∧ (n = 1 ∨ n = 2 ∨ n = 4))
    ∧ (∃ (g : Nat) (rd ra rb : BitVec 5) (s : State), s.issues g = true)
    ∧ (∃ (g : Nat) (rd ra pos len : BitVec 5) (s : State), s.issues g = true ∧ 32 ≤ pos.toNat + len.toNat)
    ∧ (∃ (g : Nat) (rd ra rb : BitVec 5) (n : BitVec 3) (s : State), s.issues g = true ∧ n ≠ 1 ∧ n ≠ 2 ∧ n ≠ 4)
    ∧ (∃ (g : Nat) (rd ra pos len : BitVec 5) (s : State), s.issues g = true ∧ 32 ≤ pos.toNat + len.toNat)
    ∧ (∃ (g : Nat) (rd ra pos len : BitVec 5) (s : State), s.issues g = true ∧ 32 ≤ pos.toNat + len.toNat)
    ∧ (∃ (g : Nat) (rd ra pos len : BitVec 5) (s : State), s.issues g = true ∧ (pos ≠ 0 ∨ len ≠ 0))
    ∧ (∃ (g : Nat) (rd ra rb : BitVec 5) (n : BitVec 3) (s : State), s.issues g = true ∧ n ≠ 1 ∧ n ≠ 2 ∧ n ≠ 4) :=
  ⟨⟨0, 1, 2, 31, 0, State.reset.putThread 0 1, by decide⟩,
   ⟨0, 1, 2, 31, 0, State.reset.putThread 0 1, by decide⟩,
   ⟨0, 1, 2, 31, 0, State.reset.putThread 0 1, by decide⟩,
   ⟨0, 1, 2, State.reset.putThread 0 1, by decide⟩,
   ⟨0, 1, 2, 3, 4, State.reset.putThread 0 1, by decide⟩,
   ⟨0, 1, 2, 3, 4, State.reset.putThread 0 1, by decide⟩,
   ⟨0, 1, 2, 3, State.reset.putThread 0 1, by decide⟩,
   ⟨0, 1, 2, 31, 1, State.reset.putThread 0 1, by decide⟩,
   ⟨0, 1, 2, 3, 3, State.reset.putThread 0 1, by decide⟩,
   ⟨0, 1, 2, 31, 1, State.reset.putThread 0 1, by decide⟩,
   ⟨0, 1, 2, 31, 1, State.reset.putThread 0 1, by decide⟩,
   ⟨0, 1, 2, 0, 1, State.reset.putThread 0 1, by decide⟩,
   ⟨0, 1, 2, 3, 3, State.reset.putThread 0 1, by decide⟩⟩

/-- The hypotheses of ThreadBranches can be met, clause by clause. -/
theorem witness_ThreadBranches :
    (∃ (g : Nat) (ra rb : BitVec 5) (disp : BitVec 16) (s : State), s.issues g = true)
    ∧ (∃ (g : Nat) (ra rb : BitVec 5) (disp : BitVec 16) (s : State), s.issues g = true)
    ∧ (∃ (g : Nat) (ra rb : BitVec 5) (disp : BitVec 16) (s : State), s.issues g = true)
    ∧ (∃ (g : Nat) (ra rb : BitVec 5) (disp : BitVec 16) (s : State), s.issues g = true)
    ∧ (∃ (g : Nat) (ra rb : BitVec 5) (disp : BitVec 16) (s : State), s.issues g = true)
    ∧ (∃ (g : Nat) (ra rb : BitVec 5) (disp : BitVec 16) (s : State), s.issues g = true)
    ∧ (∃ (g : Nat) (disp : BitVec 25) (s : State), s.issues g = true)
    ∧ (∃ (g : Nat) (disp : BitVec 25) (s : State), s.issues g = true)
    ∧ (∃ (g : Nat) (rd ra : BitVec 5) (imm : BitVec 16) (s : State), s.issues g = true)
    ∧ (∃ (g : Nat) (rd ra rb : BitVec 5) (s : State), g < 512 ∧ s.threadState g = 1 ∧ pcOk g (s.get THR.PC g) = false)
    ∧ (∃ (g : Nat) (rd ra rb : BitVec 5) (s : State), s.threadState g ≠ 1) :=
  ⟨⟨0, 1, 2, 0x8000, State.reset.putThread 0 1, by decide⟩,
   ⟨0, 1, 2, 0x8000, State.reset.putThread 0 1, by decide⟩,
   ⟨0, 1, 2, 0x8000, State.reset.putThread 0 1, by decide⟩,
   ⟨0, 1, 2, 0x8000, State.reset.putThread 0 1, by decide⟩,
   ⟨0, 1, 2, 0x8000, State.reset.putThread 0 1, by decide⟩,
   ⟨0, 1, 2, 0x8000, State.reset.putThread 0 1, by decide⟩,
   ⟨0, 0x1000000, State.reset.putThread 0 1, by decide⟩,
   ⟨0, 0x1000000, State.reset.putThread 0 1, by decide⟩,
   ⟨0, 5, 5, 0x8000, State.reset.putThread 0 1, by decide⟩,
   ⟨448, 0, 0, 0, (State.reset.putThread 448 1).put THR.PC 448 0x10000, by decide⟩,
   ⟨511, 0, 0, 0, State.reset, by decide⟩⟩

/-- The hypotheses of ThreadLoads can be met, clause by clause. -/
theorem witness_ThreadLoads :
    (∃ (g : Nat) (rd ra : BitVec 5) (imm : BitVec 16) (ea : Nat) (p : Place) (s : State), s.issues g = true ∧ ea = (((s.r g ra : Int) + imm.toInt) % 2 ^ 32).toNat ∧ s.place g ea = p ∧ p.memory = true ∧ ea % 1 = 0 ∧ (s.issued g).reachAll g ea 1 false = 0)
    ∧ (∃ (g : Nat) (rd ra : BitVec 5) (imm : BitVec 16) (ea : Nat) (p : Place) (s : State), s.issues g = true ∧ ea = (((s.r g ra : Int) + imm.toInt) % 2 ^ 32).toNat ∧ s.place g ea = p ∧ p.memory = true ∧ ea % 1 = 0 ∧ (s.issued g).reachAll g ea 1 false = 0)
    ∧ (∃ (g : Nat) (rd ra : BitVec 5) (imm : BitVec 16) (ea : Nat) (p : Place) (s : State), s.issues g = true ∧ ea = (((s.r g ra : Int) + imm.toInt) % 2 ^ 32).toNat ∧ s.place g ea = p ∧ p.memory = true ∧ ea % 2 = 0 ∧ (s.issued g).reachAll g ea 2 false = 0)
    ∧ (∃ (g : Nat) (rd ra : BitVec 5) (imm : BitVec 16) (ea : Nat) (p : Place) (s : State), s.issues g = true ∧ ea = (((s.r g ra : Int) + imm.toInt) % 2 ^ 32).toNat ∧ s.place g ea = p ∧ p.memory = true ∧ ea % 2 = 0 ∧ (s.issued g).reachAll g ea 2 false = 0)
    ∧ (∃ (g : Nat) (rd ra : BitVec 5) (imm : BitVec 14) (ea : Nat) (p : Place) (s : State), s.issues g = true ∧ ea = (((s.r g ra : Int) + 4 * imm.toInt) % 2 ^ 32).toNat ∧ s.place g ea = p ∧ p.memory = true ∧ ea % 4 = 0 ∧ (s.issued g).reachAll g ea 4 false = 0)
    ∧ (∃ (g : Nat) (rd ra : BitVec 5) (imm : BitVec 14) (ea : Nat) (p : Place) (s : State), s.issues g = true ∧ ea = (((s.r g ra : Int) + 4 * imm.toInt) % 2 ^ 32).toNat ∧ rd.toNat % 2 = 0 ∧ s.place g ea = p ∧ p.memory = true ∧ ea % 8 = 0 ∧ (s.issued g).reachAll g ea 8 false = 0)
    ∧ (∃ (g : Nat) (rd ra : BitVec 5) (imm : BitVec 14) (off : Nat) (s : State), s.issues g = true ∧ s.place g (s.ea g ra (wordDisp imm)) = .regs off ∧ s.ea g ra (wordDisp imm) % 4 = 0 ∧ (s.issued g).reach g (s.ea g ra (wordDisp imm)) false = 0 ∧ ((s.issued g).busRead (.thread g) off 4).get MODEL.RESP ≠ 1)
    ∧ (∃ (g : Nat) (rd ra : BitVec 5) (imm : BitVec 14) (ea : Nat) (s : State), s.issues g = true ∧ ea = (((s.r g ra : Int) + 4 * imm.toInt) % 2 ^ 32).toNat ∧ ea % 4 ≠ 0)
    ∧ (∃ (g : Nat) (rd ra : BitVec 5) (imm : BitVec 16) (ea : Nat) (p : Place) (s : State), s.issues g = true ∧ ea = (((s.r g ra : Int) + imm.toInt) % 2 ^ 32).toNat ∧ p = .none ∧ s.place g ea = p)
    ∧ (∃ (g : Nat) (rd ra : BitVec 5) (imm : BitVec 16) (ea n off : Nat) (s : State), s.issues g = true ∧ ea = (((s.r g ra : Int) + imm.toInt) % 2 ^ 32).toNat ∧ s.place g ea = .window n off ∧ s.get WIN.OPEN n = 0)
    ∧ (∃ (g : Nat) (rd ra : BitVec 5) (imm : BitVec 16) (ea off : Nat) (s : State), s.issues g = true ∧ ea = (((s.r g ra : Int) + imm.toInt) % 2 ^ 32).toNat ∧ s.place g ea = .regs off ∧ ea % 2 = 0) :=
  ⟨⟨0, 1, 0, 0x40, 0x40, .local_ 0x40, { (State.reset.putThread 0 1) with mem.localMem := [(0x40, 0x81), (0x41, 0xFF)] }, by decide⟩,
   ⟨0, 1, 0, 0x40, 0x40, .local_ 0x40, { (State.reset.putThread 0 1) with mem.localMem := [(0x40, 0x81), (0x41, 0xFF)] }, by decide⟩,
   ⟨0, 1, 0, 0x40, 0x40, .local_ 0x40, { (State.reset.putThread 0 1) with mem.localMem := [(0x40, 0x81), (0x41, 0xFF)] }, by decide⟩,
   ⟨0, 1, 0, 0x40, 0x40, .local_ 0x40, { (State.reset.putThread 0 1) with mem.localMem := [(0x40, 0x81), (0x41, 0xFF)] }, by decide⟩,
   ⟨0, 1, 0, 0x3FFF, 0xFFFFFFFC, .dram 0x7FFFFFFC, (State.reset.putThread 0 1).put DDR.USABLE 0 (2 ^ 35), by decide⟩,
   ⟨0, 2, 0, 16, 0x40, .local_ 0x40, { (State.reset.putThread 0 1) with mem.localMem := [(0x40, 0x81), (0x41, 0xFF)] }, by decide⟩,
   ⟨0, 1, 5, 8, 0x20, (State.reset.putThread 0 1).put THR.W 5 0x20000000, by decide⟩,
   ⟨0, 1, 5, 1, 6, (State.reset.putThread 0 1).put THR.W 5 2, by decide⟩,
   ⟨0, 1, 5, 0, 0x20000, .none, (State.reset.putThread 0 1).put THR.W 5 0x20000, by decide⟩,
   ⟨0, 1, 5, 0, 0x2007FF, 3, 511, (State.reset.putThread 0 1).put THR.W 5 0x2007FF, by decide⟩,
   ⟨0, 1, 5, 0, 0x20000000, 0, (State.reset.putThread 0 1).put THR.W 5 0x20000000, by decide⟩⟩

/-- The hypotheses of ThreadStores can be met, clause by clause. -/
theorem witness_ThreadStores :
    (∃ (g : Nat) (rd ra : BitVec 5) (imm : BitVec 16) (ea : Nat) (p : Place) (s : State), s.issues g = true ∧ ea = (((s.r g ra : Int) + imm.toInt) % 2 ^ 32).toNat ∧ s.place g ea = p ∧ p.memory = true ∧ ea % 1 = 0 ∧ (s.issued g).reachAll g ea 1 true = 0)
    ∧ (∃ (g : Nat) (rd ra : BitVec 5) (imm : BitVec 16) (ea : Nat) (p : Place) (s : State), s.issues g = true ∧ ea = (((s.r g ra : Int) + imm.toInt) % 2 ^ 32).toNat ∧ s.place g ea = p ∧ p.memory = true ∧ ea % 2 = 0 ∧ (s.issued g).reachAll g ea 2 true = 0)
    ∧ (∃ (g : Nat) (rd ra : BitVec 5) (imm : BitVec 14) (ea : Nat) (p : Place) (s : State), s.issues g = true ∧ ea = (((s.r g ra : Int) + 4 * imm.toInt) % 2 ^ 32).toNat ∧ s.place g ea = p ∧ p.memory = true ∧ ea % 4 = 0 ∧ (s.issued g).reachAll g ea 4 true = 0)
    ∧ (∃ (g : Nat) (rd ra : BitVec 5) (imm : BitVec 14) (ea : Nat) (p : Place) (s : State), s.issues g = true ∧ ea = (((s.r g ra : Int) + 4 * imm.toInt) % 2 ^ 32).toNat ∧ rd.toNat % 2 = 0 ∧ s.place g ea = p ∧ p.memory = true ∧ ea % 8 = 0 ∧ (s.issued g).reachAll g ea 8 true = 0)
    ∧ (∃ (g : Nat) (rd ra : BitVec 5) (imm : BitVec 14) (off : Nat) (s : State), s.issues g = true ∧ s.place g (s.ea g ra (wordDisp imm)) = .regs off ∧ s.ea g ra (wordDisp imm) % 4 = 0 ∧ (s.issued g).reach g (s.ea g ra (wordDisp imm)) true = 0 ∧ ((s.issued g).busWrite (.thread g) off 4 (s.r g rd)).get MODEL.RESP ≠ 1)
    ∧ (∃ (g : Nat) (rd ra : BitVec 5) (imm : BitVec 14) (ea : Nat) (s : State), s.issues g = true ∧ ea = (((s.r g ra : Int) + 4 * imm.toInt) % 2 ^ 32).toNat ∧ rd.toNat % 2 = 0 ∧ ea % 8 ≠ 0)
    ∧ (∃ (g : Nat) (rd ra : BitVec 5) (imm : BitVec 16) (ea : Nat) (p : Place) (s : State), s.issues g = true ∧ ea = (((s.r g ra : Int) + imm.toInt) % 2 ^ 32).toNat ∧ (kindOf g).hedge = some 0 ∧ s.place g ea = p ∧ g % 4 ≠ 0 ∧ ea < 0x4000) :=
  ⟨⟨0, 1, 0, 0x40, 0x40, .local_ 0x40, { (State.reset.putThread 0 1) with mem.localMem := [(0x40, 0x81), (0x41, 0xFF)] }, by decide⟩,
   ⟨0, 1, 0, 0x40, 0x40, .local_ 0x40, { (State.reset.putThread 0 1) with mem.localMem := [(0x40, 0x81), (0x41, 0xFF)] }, by decide⟩,
   ⟨0, 1, 0, 16, 0x40, .local_ 0x40, { (State.reset.putThread 0 1) with mem.localMem := [(0x40, 0x81), (0x41, 0xFF)] }, by decide⟩,
   ⟨449, 2, 5, 16, 0x4040, .local_ 0x704040, (State.reset.putThread 449 1).put THR.W (32 * 449 + 5) 0x4000, by decide⟩,
   ⟨0, 1, 5, 8, 0x20, (State.reset.putThread 0 1).put THR.W 5 0x20000000, by decide⟩,
   ⟨0, 2, 5, 1, 4, State.reset.putThread 0 1, by decide⟩,
   ⟨449, 2, 5, 1, 1, .local_ 0x700001, State.reset.putThread 449 1, by decide⟩⟩

/-- The hypotheses of StoreThenLoad can be met. -/
theorem witness_StoreThenLoad :
    (∃ (g : Nat) (rd ra rx : BitVec 5) (imm : BitVec 14) (k : Nat) (s : State), s.issues g = true ∧ g < 448 ∧ memWf s.mem.localMem = true ∧ s.place g (s.ea g ra (wordDisp imm)) = .local_ k ∧ s.ea g ra (wordDisp imm) % 4 = 0 ∧ pcOk g (s.get THR.PC g + 4) = true ∧ rx ≠ 0) :=
  ⟨447, 31, 0, 1, 0x3FF, 0x6F0FFC, State.reset.putThread 447 1, by decide⟩

/-- The hypotheses of ThreadAtomics can be met, clause by clause. -/
theorem witness_ThreadAtomics :
    (∃ (g : Nat) (rd ra rb : BitVec 5) (sz : BitVec 2) (p : Place) (s : State), s.issues g = true ∧ sz ≠ 3 ∧ s.place g (s.r g ra) = p ∧ p.atomic = true ∧ s.r g ra % 2 ^ sz.toNat = 0 ∧ (s.issued g).reachAll g (s.r g ra) (2 ^ sz.toNat) false = 0 ∧ (s.issued g).reachAll g (s.r g ra) (2 ^ sz.toNat) true = 0)
    ∧ (∃ (g : Nat) (rd ra rb : BitVec 5) (sz : BitVec 2) (p : Place) (s : State), s.issues g = true ∧ sz ≠ 3 ∧ s.place g (s.r g ra) = p ∧ p.atomic = true ∧ s.r g ra % 2 ^ sz.toNat = 0 ∧ (s.issued g).reachAll g (s.r g ra) (2 ^ sz.toNat) false = 0 ∧ (s.issued g).reachAll g (s.r g ra) (2 ^ sz.toNat) true = 0)
    ∧ (∃ (g : Nat) (rd ra rb : BitVec 5) (p : Place) (s : State), s.issues g = true ∧ rd.toNat % 2 = 0 ∧ rb.toNat % 2 = 0 ∧ s.place g (s.r g ra) = p ∧ p.atomic = true ∧ s.r g ra % 8 = 0 ∧ (s.issued g).reachAll g (s.r g ra) (8) false = 0 ∧ (s.issued g).reachAll g (s.r g ra) (8) true = 0)
    ∧ (∃ (g : Nat) (rd ra rb : BitVec 5) (p : Place) (s : State), s.issues g = true ∧ rd.toNat % 2 = 0 ∧ rb.toNat % 2 = 0 ∧ s.place g (s.r g ra) = p ∧ p.atomic = true ∧ s.r g ra % 8 = 0 ∧ (s.issued g).reachAll g (s.r g ra) (8) false = 0 ∧ (s.issued g).reachAll g (s.r g ra) (8) true = 0)
    ∧ (∃ (g : Nat) (rd ra rb : BitVec 5) (sz : BitVec 2) (p : Place) (s : State), s.issues g = true ∧ sz ≠ 3 ∧ s.place g (s.r g ra) = p ∧ p.atomic = true ∧ s.r g ra % 2 ^ sz.toNat = 0 ∧ (s.issued g).reachAll g (s.r g ra) (2 ^ sz.toNat) false = 0 ∧ (s.issued g).reachAll g (s.r g ra) (2 ^ sz.toNat) true = 0 ∧ leVal ((s.issued g).placeRead p (2 ^ sz.toNat)) = s.r g rd % 2 ^ (8 * 2 ^ sz.toNat))
    ∧ (∃ (g : Nat) (rd ra rb : BitVec 5) (sz : BitVec 2) (p : Place) (s : State), s.issues g = true ∧ sz ≠ 3 ∧ s.place g (s.r g ra) = p ∧ p.atomic = true ∧ s.r g ra % 2 ^ sz.toNat = 0 ∧ (s.issued g).reachAll g (s.r g ra) (2 ^ sz.toNat) false = 0 ∧ (s.issued g).reachAll g (s.r g ra) (2 ^ sz.toNat) true = 0 ∧ leVal ((s.issued g).placeRead p (2 ^ sz.toNat)) ≠ s.r g rd % 2 ^ (8 * 2 ^ sz.toNat))
    ∧ (∃ (g : Nat) (rd ra rb : BitVec 5) (p : Place) (s : State), s.issues g = true ∧ rd.toNat % 2 = 0 ∧ rb.toNat % 2 = 0 ∧ s.place g (s.r g ra) = p ∧ p.atomic = true ∧ s.r g ra % 8 = 0 ∧ (s.issued g).reachAll g (s.r g ra) 8 false = 0 ∧ (s.issued g).reachAll g (s.r g ra) 8 true = 0 ∧ leVal ((s.issued g).placeRead p 8) = s.pair g rd.toNat)
    ∧ (∃ (g : Nat) (rd ra rb : BitVec 5) (p : Place) (s : State), s.issues g = true ∧ rd.toNat % 2 = 0 ∧ rb.toNat % 2 = 0 ∧ s.place g (s.r g ra) = p ∧ p.atomic = true ∧ s.r g ra % 8 = 0 ∧ (s.issued g).reachAll g (s.r g ra) 8 false = 0 ∧ (s.issued g).reachAll g (s.r g ra) 8 true = 0 ∧ leVal ((s.issued g).placeRead p 8) ≠ s.pair g rd.toNat)
    ∧ (∃ (g : Nat) (rd ra rb : BitVec 5) (sz : BitVec 2) (s : State), s.issues g = true ∧ sz ≠ 3 ∧ s.r g ra % 2 ^ sz.toNat ≠ 0)
    ∧ (∃ (g : Nat) (rd ra rb : BitVec 5) (sz : BitVec 2) (p : Place) (s : State), s.issues g = true ∧ sz ≠ 3 ∧ s.r g ra % 2 ^ sz.toNat = 0 ∧ s.place g (s.r g ra) = p ∧ p.atomic = false) :=
  ⟨⟨0, 1, 5, 3, 1, .local_ 0x40, ({ (State.reset.putThread 0 1) with mem.localMem := [(0x40, 0x81), (0x41, 0xFF)] }).put THR.W 5 0x40, by decide⟩,
   ⟨0, 1, 5, 3, 1, .local_ 0x40, ({ (State.reset.putThread 0 1) with mem.localMem := [(0x40, 0x81), (0x41, 0xFF)] }).put THR.W 5 0x40, by decide⟩,
   ⟨0, 2, 5, 4, .local_ 0x40, ({ (State.reset.putThread 0 1) with mem.localMem := [(0x40, 0x81), (0x41, 0xFF)] }).put THR.W 5 0x40, by decide⟩,
   ⟨0, 2, 5, 4, .local_ 0x40, ({ (State.reset.putThread 0 1) with mem.localMem := [(0x40, 0x81), (0x41, 0xFF)] }).put THR.W 5 0x40, by decide⟩,
   ⟨0, 3, 5, 4, 1, .local_ 0x40, (({ (State.reset.putThread 0 1) with mem.localMem := [(0x40, 0x81), (0x41, 0xFF)] }).put THR.W 5 0x40).put THR.W 3 0x1234FF81, by decide⟩,
   ⟨0, 1, 5, 3, 1, .local_ 0x40, ({ (State.reset.putThread 0 1) with mem.localMem := [(0x40, 0x81), (0x41, 0xFF)] }).put THR.W 5 0x40, by decide⟩,
   ⟨0, 2, 5, 4, .local_ 0x40, ({ (State.reset.putThread 0 1) with mem.localMem := [(0x80, 0x81)] }).put THR.W 5 0x40, by decide⟩,
   ⟨0, 2, 5, 4, .local_ 0x40, ({ (State.reset.putThread 0 1) with mem.localMem := [(0x40, 0x81)] }).put THR.W 5 0x40, by decide⟩,
   ⟨0, 1, 5, 3, 2, ({ (State.reset.putThread 0 1) with mem.localMem := [(0x40, 0x81), (0x41, 0xFF)] }).put THR.W 5 2, by decide⟩,
   ⟨0, 1, 5, 3, 2, .regs 0, ({ (State.reset.putThread 0 1) with mem.localMem := [(0x40, 0x81), (0x41, 0xFF)] }).put THR.W 5 0x20000000, by decide⟩⟩

/-- The hypotheses of ThreadTable can be met, clause by clause. -/
theorem witness_ThreadTable :
    (∃ (g e : Nat) (rd ra : BitVec 5) (cmd : BitVec 12) (s : State), s.issues g = true ∧ bits cmd.toNat 2 2 ≠ 3 ∧ (bits cmd.toNat 2 2 ≠ 0 ∨ ra.toNat % 2 = 0) ∧ hedgeOk g cmd = true ∧ bits cmd.toNat 9 3 = 0 ∧ ((s.issued g).lkup g (bits cmd.toNat 2 2) (actFor g cmd) ra).1 = some e)
    ∧ (∃ (g : Nat) (rd ra : BitVec 5) (cmd : BitVec 12) (s : State), s.issues g = true ∧ bits cmd.toNat 2 2 ≠ 3 ∧ (bits cmd.toNat 2 2 ≠ 0 ∨ ra.toNat % 2 = 0) ∧ hedgeOk g cmd = true ∧ bits cmd.toNat 9 3 = 0 ∧ ((s.issued g).lkup g (bits cmd.toNat 2 2) (actFor g cmd) ra).1 = none)
    ∧ (∃ (g : Nat) (rd ra : BitVec 5) (cmd : BitVec 12) (s : State), s.issues g = true ∧ bits cmd.toNat 2 2 = 0 ∧ hedgeOk g cmd = true ∧ bits cmd.toNat 9 3 = 0 ∧ (s.issued g).bufCheck g (s.r g ra) 8 24 false = 0 ∧ s.standby = false)
    ∧ (∃ (g : Nat) (rd ra : BitVec 5) (cmd : BitVec 12) (s : State), s.issues g = true ∧ bits cmd.toNat 2 2 = 0 ∧ hedgeOk g cmd = true ∧ bits cmd.toNat 9 3 = 0 ∧ (s.issued g).bufCheck g (s.r g ra) 8 24 false = 0 ∧ s.standby = true)
    ∧ (∃ (g : Nat) (rd ra : BitVec 5) (cmd : BitVec 12) (s : State), s.issues g = true ∧ bits cmd.toNat 0 4 = 0 ∧ hedgeOk g cmd = true ∧ bits cmd.toNat 8 4 = 0 ∧ ((s.issued g).opened (actFor g cmd) (s.r g ra % 2 ^ 18)).named (actFor g cmd) (s.r g ra % 2 ^ 18) = true ∧ (((s.issued g).opened (actFor g cmd) (s.r g ra % 2 ^ 18)).closeOwn g (s.r g ra % 2 ^ 18)).heldEntry (s.r g ra % 2 ^ 18) = false)
    ∧ (∃ (g : Nat) (rd ra : BitVec 5) (cmd : BitVec 12) (s : State), s.issues g = true ∧ bits cmd.toNat 0 4 = 0 ∧ hedgeOk g cmd = true ∧ bits cmd.toNat 8 4 = 0 ∧ ((s.issued g).opened (actFor g cmd) (s.r g ra % 2 ^ 18)).named (actFor g cmd) (s.r g ra % 2 ^ 18) = true ∧ (((s.issued g).opened (actFor g cmd) (s.r g ra % 2 ^ 18)).closeOwn g (s.r g ra % 2 ^ 18)).heldEntry (s.r g ra % 2 ^ 18) = true)
    ∧ (∃ (g : Nat) (rd ra : BitVec 5) (cmd : BitVec 12) (s : State), s.issues g = true ∧ bits cmd.toNat 0 4 = 0 ∧ hedgeOk g cmd = true ∧ bits cmd.toNat 8 4 = 0 ∧ ((s.issued g).opened (actFor g cmd) (s.r g ra % 2 ^ 18)).named (actFor g cmd) (s.r g ra % 2 ^ 18) = false)
    ∧ (∃ (g : Nat) (rd ra : BitVec 5) (cmd : BitVec 12) (s : State), s.issues g = true ∧ bits cmd.toNat 0 4 = 0 ∧ hedgeOk g cmd = true ∧ bits cmd.toNat 8 4 = 0 ∧ ((s.issued g).opened (actFor g cmd) (s.r g ra % 2 ^ 18)).named (actFor g cmd) (s.r g ra % 2 ^ 18) = true)
    ∧ (∃ (g : Nat) (rd ra : BitVec 5) (cmd : BitVec 12) (s : State), s.issues g = true ∧ bits cmd.toNat 0 4 = 0 ∧ hedgeOk g cmd = true ∧ bits cmd.toNat 8 4 = 0 ∧ ((s.issued g).opened (actFor g cmd) (s.r g ra % 2 ^ 18)).named (actFor g cmd) (s.r g ra % 2 ^ 18) = false) :=
  ⟨⟨449, 6, 1, 2, 0x108, ((State.reset.putThread 449 1).put THR.W (32 * 449 + 2) 6).put E.STATE 6 2, by decide⟩,
   ⟨449, 1, 2, 0x108, (State.reset.putThread 449 1).put THR.W (32 * 449 + 2) 6, by decide⟩,
   ⟨449, 1, 2, 0x100, ((State.reset.putThread 449 1).put THR.W (32 * 449 + 2) 0x8000).put ENGH.SRAM_SIZE 0 0x10000, by decide⟩,
   ⟨449, 1, 2, 0x100, ((((State.reset.putThread 449 1).put THR.W (32 * 449 + 2) 0x8000).put ENGH.SRAM_SIZE 0 0x10000)).put TWIN.STATUS_ROLE 0 2, by decide⟩,
   ⟨449, 1, 2, 0, ((State.reset.putThread 449 1).put THR.W (32 * 449 + 2) 6).put E.STATE 6 2, by decide⟩,
   ⟨449, 1, 2, 0, (((State.reset.putThread 449 1).put THR.W (32 * 449 + 2) 6).put E.STATE 6 2).openWin 3 0 6, by decide⟩,
   ⟨449, 1, 2, 0, (State.reset.putThread 449 1).put THR.W (32 * 449 + 2) 6, by decide⟩,
   ⟨449, 1, 2, 0, ((State.reset.putThread 449 1).put THR.W (32 * 449 + 2) 6).put E.STATE 6 2, by decide⟩,
   ⟨449, 1, 2, 0, (State.reset.putThread 449 1).put THR.W (32 * 449 + 2) 6, by decide⟩⟩

/-- The hypotheses of WindowsAndHolds can be met, clause by clause. -/
theorem witness_WindowsAndHolds :
    (∃ (n : Nat) (s : State), n < 2048 ∧ s.get WIN.OPEN n ≠ 0 ∧ s.get WIN.AT n + 75000 ≤ s.get CLK.CYC)
    ∧ (∃ (n : Nat) (s : State), s.get CLK.CYC < s.get WIN.AT n + 75000)
    ∧ (∃ (e : Nat) (s : State), s.heldEntry e = true)
    ∧ (∃ (e : Nat) (s : State), s.heldEntry e = false ∧ s.delWait.any (·.entry == e) = true)
    ∧ (∃ (e : Nat) (s : State), s.get THKX.WALK e ≠ 0) :=
  ⟨⟨2047, st [(WIN.OPEN, 2047, 1), (CLK.CYC, 0, 75000)], by decide⟩,
   ⟨2047, st [(WIN.OPEN, 2047, 1), (CLK.CYC, 0, 74999)], by decide⟩,
   ⟨6, State.reset.openWin 3 0 6, by decide⟩,
   ⟨6, { st [(E.STATE, 6, 2), (E.HEDGE, 6, 1)] with delWait := [⟨6, some cmd1, none⟩] }, by decide⟩,
   ⟨6, st [(THKX.WALK, 6, 1), (E.STATE, 7, 2), (E.NEXT_HOP, 7, 6), (E.NH_VALID, 7, 1)], by decide⟩⟩

/-- The hypotheses of ThreadQueues can be met, clause by clause. -/
theorem witness_ThreadQueues :
    (∃ (g : Nat) (rd ra : BitVec 5) (cmd : BitVec 12) (s : State), s.issues g = true ∧ (s.issued g).fifoMay g ((s.issued g).fifoNamed g rd cmd) = true ∧ ¬ (((s.issued g).fifoNamed g rd cmd) < 76 ∧ ¬ (48 ≤ ((s.issued g).fifoNamed g rd cmd) ∧ ((s.issued g).fifoNamed g rd cmd) < 52)) ∧ (s.issued g).bufCheck g (s.r g ra) 16 ((s.issued g).fifoEsize ((s.issued g).fifoNamed g rd cmd)) false = 0 ∧ (s.issued g).fifoTakes ((s.issued g).fifoNamed g rd cmd) = true)
    ∧ (∃ (g : Nat) (rd ra : BitVec 5) (cmd : BitVec 12) (s : State), s.issues g = true ∧ (s.issued g).fifoMay g ((s.issued g).fifoNamed g rd cmd) = true ∧ ¬ (((s.issued g).fifoNamed g rd cmd) < 76 ∧ ¬ (48 ≤ ((s.issued g).fifoNamed g rd cmd) ∧ ((s.issued g).fifoNamed g rd cmd) < 52)) ∧ (s.issued g).bufCheck g (s.r g ra) 16 ((s.issued g).fifoEsize ((s.issued g).fifoNamed g rd cmd)) false = 0 ∧ (s.issued g).fifoTakes ((s.issued g).fifoNamed g rd cmd) = false)
    ∧ (∃ (g : Nat) (rd ra : BitVec 5) (cmd : BitVec 12) (s : State), s.issues g = true ∧ (s.issued g).fifoMay g ((s.issued g).fifoNamed g rd cmd) = false)
    ∧ (∃ (g : Nat) (rd ra : BitVec 5) (cmd : BitVec 12) (s : State), s.issues g = true ∧ (s.issued g).fifoMay g ((s.issued g).fifoNamed g rd cmd) = true ∧ (s.issued g).bufCheck g (s.r g ra) 16 ((s.issued g).fifoEsize ((s.issued g).fifoNamed g rd cmd)) true = 0 ∧ (s.issued g).fifoFront ((s.issued g).fifoNamed g rd cmd) = none)
    ∧ (∃ (g : Nat) (rd ra : BitVec 5) (cmd : BitVec 12) (l : List Nat) (s : State), s.issues g = true ∧ (s.issued g).fifoMay g ((s.issued g).fifoNamed g rd cmd) = true ∧ (s.issued g).bufCheck g (s.r g ra) 16 ((s.issued g).fifoEsize ((s.issued g).fifoNamed g rd cmd)) true = 0 ∧ (s.issued g).fifoFront ((s.issued g).fifoNamed g rd cmd) = some l)
    ∧ (∃ (g : Nat) (rd ra : BitVec 5) (cmd : BitVec 12) (l : List Nat) (s : State), s.issues g = true ∧ (s.issued g).fifoMay g ((s.issued g).fifoNamed g rd cmd) = true ∧ (s.issued g).bufCheck g (s.r g ra) 16 ((s.issued g).fifoEsize ((s.issued g).fifoNamed g rd cmd)) true = 0 ∧ (s.issued g).fifoFront ((s.issued g).fifoNamed g rd cmd) = some l)
    ∧ (∃ (g : Nat) (rd ra : BitVec 5) (cmd : BitVec 12) (s : State), s.issues g = true ∧ (s.issued g).fifoMay g ((s.issued g).fifoNamed g rd cmd) = true ∧ (s.issued g).bufCheck g (s.r g ra) 16 ((s.issued g).fifoEsize ((s.issued g).fifoNamed g rd cmd)) true = 0 ∧ (s.issued g).fifoFront ((s.issued g).fifoNamed g rd cmd) = none)
    ∧ (∃ (g : Nat) (rd ra : BitVec 5) (cmd : BitVec 12) (s : State), s.issues g = true ∧ (s.issued g).fifoMay g ((s.issued g).fifoNamed g rd cmd) = false)
    ∧ (∃ (g f : Nat) (s : State), g < 512 ∧ s.threadState g = 2 ∧ s.get THR.WAIT g = 4 ∧ f = s.get THR.WVAL g ∧ s.fifoTakes f = true)
    ∧ (∃ (g : Nat) (s : State), s.fifoTakes (s.get THR.WVAL g) = false)
    ∧ (∃ (g : Nat) (s : State), g < 512 ∧ s.threadState g = 2 ∧ s.get THR.WAIT g = 4 ∧ s.get THR.WAT g + 48000 ≤ s.get CLK.CYC) :=
  ⟨⟨0, 0, 2, 76, (((State.reset.putThread 0 1).put THR.W 2 0x40).put FIFO.CFG_EN 76 1).put FIFO.DEPTH 76 64, by decide⟩,
   ⟨0, 0, 2, 76, (((State.reset.putThread 0 1).put THR.W 2 0x40).put FIFO.CFG_EN 76 1).put FIFO.STATUS_LEVEL 76 4, by decide⟩,
   ⟨449, 0, 2, 76, State.reset.putThread 449 1, by decide⟩,
   ⟨0, 0, 2, 76, ((State.reset.putThread 0 1).put THR.W 2 0x40), by decide⟩,
   ⟨0, 0, 2, 53, [7, 0, 0, 0, 1, 0, 0, 0, 0, 0, 0, 0, 0, 0, 0, 0], { (State.reset.putThread 0 1).put THR.W 2 0x40 with txRes := [⟨1, 7, 1, 0, 0, 0, 0⟩] }, by decide⟩,
   ⟨0, 0, 2, 53, [7, 0, 0, 0, 1, 0, 0, 0, 0, 0, 0, 0, 0, 0, 0, 0], { (State.reset.putThread 0 1).put THR.W 2 0x40 with txRes := [⟨1, 7, 1, 0, 0, 0, 0⟩] }, by decide⟩,
   ⟨0, 0, 2, 76, ((State.reset.putThread 0 1).put THR.W 2 0x40), by decide⟩,
   ⟨449, 0, 2, 76, State.reset.putThread 449 1, by decide⟩,
   ⟨0, 76, ((((State.reset.putThread 0 2).put THR.WAIT 0 4).put THR.WVAL 0 76).put FIFO.CFG_EN 76 1).put FIFO.DEPTH 76 64, by decide⟩,
   ⟨0, (State.reset.putThread 0 2).put THR.WAIT 0 4 |>.put THR.WVAL 0 76, by decide⟩,
   ⟨0, (((State.reset.putThread 0 2).put THR.WAIT 0 4).put THR.WVAL 0 76).put CLK.CYC 0 48000, by decide⟩⟩

/-- The hypotheses of ThreadCrypto can be met, clause by clause. -/
theorem witness_ThreadCrypto :
    (∃ (g : Nat) (rd ra : BitVec 5) (s : State), s.issues g = true ∧ (s.issued g).bufCheck g (s.r g ra) 16 48 false = 0 ∧ s.freeTicket g = none)
    ∧ (∃ (g t : Nat) (rd ra : BitVec 5) (s : State), s.issues g = true ∧ (s.issued g).bufCheck g (s.r g ra) 16 48 false = 0 ∧ s.freeTicket g = some t ∧ (cryBlock ((s.issued g).placeRead (s.place g (s.r g ra)) 48)).ok g = false)
    ∧ (∃ (g t : Nat) (rd ra : BitVec 5) (x : Nat × Nat × Bool) (s : State), s.issues g = true ∧ (s.issued g).bufCheck g (s.r g ra) 16 48 false = 0 ∧ s.freeTicket g = some t ∧ (cryBlock ((s.issued g).placeRead (s.place g (s.r g ra)) 48)).ok g = true ∧ (([((cryBlock ((s.issued g).placeRead (s.place g (s.r g ra)) 48)).ad, (cryBlock ((s.issued g).placeRead (s.place g (s.r g ra)) 48)).spans.1, false), ((cryBlock ((s.issued g).placeRead (s.place g (s.r g ra)) 48)).inp, (cryBlock ((s.issued g).placeRead (s.place g (s.r g ra)) 48)).spans.2.1, false), ((cryBlock ((s.issued g).placeRead (s.place g (s.r g ra)) 48)).out, (cryBlock ((s.issued g).placeRead (s.place g (s.r g ra)) 48)).spans.2.2.1, false), ((cryBlock ((s.issued g).placeRead (s.place g (s.r g ra)) 48)).out, (cryBlock ((s.issued g).placeRead (s.place g (s.r g ra)) 48)).spans.2.2.2, true)].find? fun x => (s.issued g).reachAll g x.1 x.2.1 x.2.2 != 0 || (x.2.1 != 0 && (match (s.issued g).place g x.1 with | .regs _ => true | _ => false))) = some x))
    ∧ (∃ (g t : Nat) (rd ra : BitVec 5) (s : State), s.issues g = true ∧ (s.issued g).bufCheck g (s.r g ra) 16 48 false = 0 ∧ s.freeTicket g = some t ∧ (cryBlock ((s.issued g).placeRead (s.place g (s.r g ra)) 48)).ok g = true ∧ (([((cryBlock ((s.issued g).placeRead (s.place g (s.r g ra)) 48)).ad, (cryBlock ((s.issued g).placeRead (s.place g (s.r g ra)) 48)).spans.1, false), ((cryBlock ((s.issued g).placeRead (s.place g (s.r g ra)) 48)).inp, (cryBlock ((s.issued g).placeRead (s.place g (s.r g ra)) 48)).spans.2.1, false), ((cryBlock ((s.issued g).placeRead (s.place g (s.r g ra)) 48)).out, (cryBlock ((s.issued g).placeRead (s.place g (s.r g ra)) 48)).spans.2.2.1, false), ((cryBlock ((s.issued g).placeRead (s.place g (s.r g ra)) 48)).out, (cryBlock ((s.issued g).placeRead (s.place g (s.r g ra)) 48)).spans.2.2.2, true)].find? fun x => (s.issued g).reachAll g x.1 x.2.1 x.2.2 != 0 || (x.2.1 != 0 && (match (s.issued g).place g x.1 with | .regs _ => true | _ => false))) = none) ∧ ((s.issued g).cryKey g (cryBlock ((s.issued g).placeRead (s.place g (s.r g ra)) 48))).1 ≠ 0)
    ∧ (∃ (g t : Nat) (rd ra : BitVec 5) (s : State), s.issues g = true ∧ (s.issued g).bufCheck g (s.r g ra) 16 48 false = 0 ∧ s.freeTicket g = some t ∧ (cryBlock ((s.issued g).placeRead (s.place g (s.r g ra)) 48)).ok g = true ∧ (([((cryBlock ((s.issued g).placeRead (s.place g (s.r g ra)) 48)).ad, (cryBlock ((s.issued g).placeRead (s.place g (s.r g ra)) 48)).spans.1, false), ((cryBlock ((s.issued g).placeRead (s.place g (s.r g ra)) 48)).inp, (cryBlock ((s.issued g).placeRead (s.place g (s.r g ra)) 48)).spans.2.1, false), ((cryBlock ((s.issued g).placeRead (s.place g (s.r g ra)) 48)).out, (cryBlock ((s.issued g).placeRead (s.place g (s.r g ra)) 48)).spans.2.2.1, false), ((cryBlock ((s.issued g).placeRead (s.place g (s.r g ra)) 48)).out, (cryBlock ((s.issued g).placeRead (s.place g (s.r g ra)) 48)).spans.2.2.2, true)].find? fun x => (s.issued g).reachAll g x.1 x.2.1 x.2.2 != 0 || (x.2.1 != 0 && (match (s.issued g).place g x.1 with | .regs _ => true | _ => false))) = none) ∧ ((s.issued g).cryKey g (cryBlock ((s.issued g).placeRead (s.place g (s.r g ra)) 48))).1 = 0)
    ∧ (∃ (g : Nat) (rd ra : BitVec 5) (cmd : BitVec 12) (s : State), s.issues g = true ∧ cmd.toNat < 2 ∧ ((s.cry.find? fun x => x.thread == g && x.ticket == s.r g ra % 8) = none))
    ∧ (∃ (g : Nat) (rd ra : BitVec 5) (cmd : BitVec 12) (x : CryOp) (s : State), s.issues g = true ∧ cmd.toNat < 2 ∧ ((s.cry.find? fun x => x.thread == g && x.ticket == s.r g ra % 8) = some x) ∧ x.done = true)
    ∧ (∃ (g : Nat) (rd ra : BitVec 5) (x : CryOp) (s : State), s.issues g = true ∧ ((s.cry.find? fun x => x.thread == g && x.ticket == s.r g ra % 8) = some x) ∧ x.done = false)
    ∧ (∃ (g : Nat) (rd ra : BitVec 5) (x : CryOp) (s : State), s.issues g = true ∧ ((s.cry.find? fun x => x.thread == g && x.ticket == s.r g ra % 8) = some x) ∧ x.done = false)
    ∧ (∃ (g t : Nat) (x : CryOp) (s : State), (s.cry.find? (fun x => x.thread == g && x.ticket == t && !x.done) = some x)) :=
  ⟨⟨0, 1, 0, { State.reset.putThread 0 1 with cry := (List.range 8).map fun i => (⟨0, i, 0, false, none, 0, [], false⟩ : CryOp) }, by decide⟩,
   ⟨0, 1, 1, 0, { State.reset.putThread 0 1 with cry := [⟨0, 0, 0, false, none, 0, [], false⟩] }, by decide⟩,
   ⟨0, 0, 0, 1, (0x20000000, 4, false), { ((State.reset.putThread 0 1).put THR.W 1 0x80) with mem.localMem := [(0x80, 5), (0x96, 4), (0x9F, 0x20)] }, by decide⟩,
   ⟨0, 0, 0, 1, { ((State.reset.putThread 0 1).put THR.W 1 0x80) with mem.localMem := [(0x80, 3), (0x81, 1), (0x84, 20)] }, by decide⟩,
   ⟨0, 0, 0, 1, { ((State.reset.putThread 0 1).put THR.W 1 0x80) with mem.localMem := [(0x80, 5), (0x96, 4)] }, by decide⟩,
   ⟨0, 1, 0, 1, State.reset.putThread 0 1, by decide⟩,
   ⟨0, 1, 0, 1, ⟨0, 0, 0, true, none, 0, [], true⟩, { State.reset.putThread 0 1 with cry := [⟨0, 0, 0, true, none, 0, [], true⟩] }, by decide⟩,
   ⟨0, 1, 0, ⟨0, 0, 0, true, none, 0, [], false⟩, { State.reset.putThread 0 1 with cry := [⟨0, 0, 0, true, none, 0, [], false⟩] }, by decide⟩,
   ⟨0, 1, 0, ⟨0, 0, 0, true, none, 0, [], false⟩, { State.reset.putThread 0 1 with cry := [⟨0, 0, 0, true, none, 0, [], false⟩] }, by decide⟩,
   ⟨0, 0, ⟨0, 0, 0x12, false, none, 0, [], false⟩, { State.reset.putThread 0 1 with cry := [⟨0, 0, 0x12, false, none, 0, [], false⟩] }, by decide⟩⟩

/-- The hypotheses of ThreadTimeAndEvents can be met, clause by clause. -/
theorem witness_ThreadTimeAndEvents :
    (∃ (g : Nat) (rd : BitVec 5) (s : State), s.issues g = true ∧ rd.toNat % 2 = 0)
    ∧ (∃ (g : Nat) (ra : BitVec 5) (cmd : BitVec 12) (s : State), s.issues g = true ∧ ra.toNat % 2 = 0 ∧ cmd.toNat < 2 ∧ ((s.pair g ra.toNat + if bit cmd.toNat 0 then s.mp else 0) % 2 ^ 64) ≤ s.mp)
    ∧ (∃ (g : Nat) (ra : BitVec 5) (cmd : BitVec 12) (s : State), s.issues g = true ∧ ra.toNat % 2 = 0 ∧ cmd.toNat < 2 ∧ s.mp < ((s.pair g ra.toNat + if bit cmd.toNat 0 then s.mp else 0) % 2 ^ 64))
    ∧ (∃ (g : Nat) (ra : BitVec 5) (cmd : BitVec 12) (s : State), s.issues g = true ∧ ra.toNat % 2 = 0 ∧ cmd.toNat < 2)
    ∧ (∃ (g : Nat) (cmd : BitVec 12) (s : State), s.issues g = true ∧ (cmd.toNat = 2 ∨ cmd.toNat = 3))
    ∧ (∃ (g : Nat) (s : State), s.issues g = true)
    ∧ (∃ (g : Nat) (s : State), s.issues g = true)
    ∧ (∃ (g : Nat) (rd ra : BitVec 5) (s : State), s.issues g = true ∧ Nat.land (s.r g ra) (s.get THR.EVMASK g) ≠ 0 ∧ (s.evHit g (s.r g ra)) ≠ 0)
    ∧ (∃ (g : Nat) (rd ra : BitVec 5) (s : State), s.issues g = true ∧ Nat.land (s.r g ra) (s.get THR.EVMASK g) ≠ 0 ∧ (s.evHit g (s.r g ra)) = 0)
    ∧ (∃ (g : Nat) (rd ra : BitVec 5) (s : State), s.issues g = true ∧ Nat.land (s.r g ra) (s.get THR.EVMASK g) = 0)
    ∧ (∃ (g : Nat) (ra : BitVec 5) (cmd : BitVec 12) (s : State), s.issues g = true ∧ cmd.toNat < 8 ∧ threadOwner (s.r g ra % 512) = threadOwner g ∧ (s.threadState (s.r g ra % 512) = 1 ∨ s.threadState (s.r g ra % 512) = 2))
    ∧ (∃ (g : Nat) (ra : BitVec 5) (cmd : BitVec 12) (s : State), s.issues g = true ∧ cmd.toNat < 8 ∧ threadOwner (s.r g ra % 512) = threadOwner g ∧ s.threadState (s.r g ra % 512) ≠ 1 ∧ s.threadState (s.r g ra % 512) ≠ 2)
    ∧ (∃ (g : Nat) (ra : BitVec 5) (cmd : BitVec 12) (s : State), s.issues g = true ∧ cmd.toNat < 8 ∧ threadOwner (s.r g ra % 512) ≠ threadOwner g)
    ∧ (∃ (g : Nat) (s : State), g < 512 ∧ s.threadState g = 2 ∧ s.get THR.WAIT g = 1 ∧ s.evHit g (s.get THR.WVAL g) ≠ 0)
    ∧ (∃ (g : Nat) (s : State), s.evHit g (s.get THR.WVAL g) = 0)
    ∧ (∃ (g : Nat) (s : State), g < 512 ∧ s.threadState g = 2 ∧ s.get THR.WAIT g = 2 ∧ s.get THR.WVAL g ≤ s.mp)
    ∧ (∃ (g : Nat) (s : State), s.mp < s.get THR.WVAL g)
    ∧ (∃ (g : Nat) (s : State), g < 512 ∧ s.get THR.TIMER_ON g ≠ 0 ∧ s.get THR.TIMER g ≤ s.mp ∧ (s.threadState g = 1 ∨ s.threadState g = 2))
    ∧ (∃ (g : Nat) (s : State), (s.get THR.TIMER_ON g = 0 ∨ s.mp < s.get THR.TIMER g)) :=
  ⟨⟨0, 2, (State.reset.putThread 0 1).put CLK.SEC 0 0x123456789, by decide⟩,
   ⟨0, 2, 0, State.reset.putThread 0 1, by decide⟩,
   ⟨0, 2, 1, (State.reset.putThread 0 1).put THR.W 3 0xFFFF, by decide⟩,
   ⟨0, 2, 1, (State.reset.putThread 0 1).put THR.W 3 0xFFFF, by decide⟩,
   ⟨0, 2, (State.reset.putThread 0 1).put THR.TIMER_ON 0 1, by decide⟩,
   ⟨511, State.reset.putThread 511 1, by decide⟩,
   ⟨511, State.reset.putThread 511 1, by decide⟩,
   ⟨0, 1, 2, (((State.reset.putThread 0 1).put THR.W 2 0x10000).put THR.EVMASK 0 0x10000).put THR.EVPEND 0 0x30000, by decide⟩,
   ⟨0, 1, 2, ((State.reset.putThread 0 1).put THR.W 2 0x10000).put THR.EVMASK 0 0x10000, by decide⟩,
   ⟨0, 1, 2, State.reset.putThread 0 1, by decide⟩,
   ⟨449, 2, 7, ((State.reset.putThread 449 1).putThread 450 1).put THR.W (32 * 449 + 2) 450, by decide⟩,
   ⟨449, 2, 7, (State.reset.putThread 449 1).put THR.W (32 * 449 + 2) 450, by decide⟩,
   ⟨449, 2, 7, (State.reset.putThread 449 1).put THR.W (32 * 449 + 2) 456, by decide⟩,
   ⟨0, ((((State.reset.putThread 0 2).put THR.WAIT 0 1).put THR.WVAL 0 0x10000).put THR.EVMASK 0 0x10000).put THR.EVPEND 0 0x30000, by decide⟩,
   ⟨0, (State.reset.putThread 0 2).put THR.WAIT 0 1, by decide⟩,
   ⟨0, (State.reset.putThread 0 2).put THR.WAIT 0 2, by decide⟩,
   ⟨0, (State.reset.putThread 0 2).put THR.WAIT 0 2 |>.put THR.WVAL 0 1, by decide⟩,
   ⟨0, (State.reset.putThread 0 1).put THR.TIMER_ON 0 1, by decide⟩,
   ⟨0, State.reset.putThread 0 1, by decide⟩⟩

/-- The hypotheses of ThreadSystem can be met, clause by clause. -/
theorem witness_ThreadSystem :
    (∃ (g : Nat) (rd : BitVec 5) (s : State), s.issues g = true)
    ∧ (∃ (g : Nat) (rd : BitVec 5) (s : State), s.issues g = true)
    ∧ (∃ (g : Nat) (rd : BitVec 5) (s : State), s.issues g = true)
    ∧ (∃ (g : Nat) (rd : BitVec 5) (s : State), s.issues g = true)
    ∧ (∃ (g : Nat) (rd : BitVec 5) (s : State), s.issues g = true)
    ∧ (∃ (g : Nat) (rd : BitVec 5) (s : State), s.issues g = true)
    ∧ (∃ (g : Nat) (rd : BitVec 5) (s : State), s.issues g = true)
    ∧ (∃ (g : Nat) (rd : BitVec 5) (s : State), s.issues g = true)
    ∧ (∃ (g : Nat) (rd : BitVec 5) (s : State), s.issues g = true)
    ∧ (∃ (g : Nat) (rd : BitVec 5) (s : State), s.issues g = true)
    ∧ (∃ (g : Nat) (rd : BitVec 5) (s : State), s.issues g = true)
    ∧ (∃ (g : Nat) (rd : BitVec 5) (s : State), s.issues g = true)
    ∧ (∃ (g : Nat) (rd : BitVec 5) (s : State), s.issues g = true)
    ∧ (∃ (g : Nat) (rd : BitVec 5) (s : State), s.issues g = true)
    ∧ (∃ (g : Nat) (rd : BitVec 5) (s : State), s.issues g = true)
    ∧ (∃ (g k : Nat) (rd : BitVec 5) (s : State), s.issues g = true ∧ k < 16)
    ∧ (∃ (g k : Nat) (rd : BitVec 5) (s : State), s.issues g = true ∧ (k = 14 ∨ 32 ≤ k) ∧ k < 64)
    ∧ (∃ (g : Nat) (ra : BitVec 5) (s : State), s.issues g = true)
    ∧ (∃ (g : Nat) (ra : BitVec 5) (s : State), s.issues g = true)
    ∧ (∃ (g : Nat) (ra : BitVec 5) (s : State), s.issues g = true)
    ∧ (∃ (g : Nat) (ra : BitVec 5) (s : State), s.issues g = true)
    ∧ (∃ (g : Nat) (ra : BitVec 5) (s : State), s.issues g = true)
    ∧ (∃ (g : Nat) (ra : BitVec 5) (s : State), s.issues g = true ∧ s.segOk g (s.r g ra) = true)
    ∧ (∃ (g : Nat) (ra : BitVec 5) (s : State), s.issues g = true ∧ s.segOk g (s.r g ra) = false)
    ∧ (∃ (g k : Nat) (ra : BitVec 5) (s : State), s.issues g = true ∧ k < 16 ∧ (s.issued g).fifoMay g (s.r g ra % 2048) = true)
    ∧ (∃ (g k : Nat) (ra : BitVec 5) (s : State), s.issues g = true ∧ k < 16 ∧ (s.issued g).fifoMay g (s.r g ra % 2048) = false)
    ∧ (∃ (g : Nat) (ra : BitVec 5) (s : State), s.issues g = true ∧ (g < 448 ∨ g % 4 = 0))
    ∧ (∃ (g : Nat) (ra : BitVec 5) (s : State), s.issues g = true ∧ 448 ≤ g ∧ g % 4 ≠ 0)
    ∧ (∃ (g k : Nat) (ra : BitVec 5) (s : State), s.issues g = true ∧ k < 64 ∧ (k = 0 ∨ k = 1 ∨ k = 5 ∨ (8 ≤ k ∧ k < 14) ∨ 32 ≤ k))
    ∧ (∃ (g : Nat) (cmd : BitVec 12) (s : State), s.issues g = true ∧ s.get THR.TVEC g ≠ 0 ∧ s.get THR.T g = 0)
    ∧ (∃ (g : Nat) (cmd : BitVec 12) (s : State), s.issues g = true ∧ (s.get THR.TVEC g = 0 ∨ s.get THR.T g ≠ 0))
    ∧ (∃ (g : Nat) (s : State), s.issues g = true ∧ s.get THR.T g ≠ 0)
    ∧ (∃ (g : Nat) (s : State), s.issues g = true ∧ s.get THR.T g = 0)
    ∧ (∃ (g : Nat) (s : State), s.issues g = true)
    ∧ (∃ (e : Nat) (s : State), e < 112 ∧ s.get ENGE.CTL_WDOG_EN e ≠ 0 ∧ s.get ENGX.KICK e + 750 * s.get ENGE.WDOG_TIMEOUT e ≤ s.get CLK.CYC)
    ∧ (∃ (e : Nat) (s : State), 112 ≤ e ∧ e < 128 ∧ s.get ENGE.CTL_WDOG_EN e ≠ 0 ∧ s.get ENGX.KICK e + 750 * s.get ENGE.WDOG_TIMEOUT e ≤ s.get CLK.CYC)
    ∧ (∃ (e : Nat) (s : State), (s.get ENGE.CTL_WDOG_EN e = 0 ∨ s.get CLK.CYC < s.get ENGX.KICK e + 750 * s.get ENGE.WDOG_TIMEOUT e)) :=
  ⟨⟨0, 1, State.reset.putThread 0 1, by decide⟩,
   ⟨449, 1, State.reset.putThread 449 1, by decide⟩,
   ⟨0, 1, State.reset.putThread 0 1, by decide⟩,
   ⟨0, 1, State.reset.putThread 0 1, by decide⟩,
   ⟨0, 1, State.reset.putThread 0 1, by decide⟩,
   ⟨0, 1, (State.reset.putThread 0 1).put THR.EVPEND 0 0x30000, by decide⟩,
   ⟨0, 1, State.reset.putThread 0 1, by decide⟩,
   ⟨0, 1, State.reset.putThread 0 1, by decide⟩,
   ⟨0, 1, State.reset.putThread 0 1, by decide⟩,
   ⟨0, 1, State.reset.putThread 0 1, by decide⟩,
   ⟨0, 1, State.reset.putThread 0 1, by decide⟩,
   ⟨0, 1, State.reset.putThread 0 1, by decide⟩,
   ⟨0, 1, (State.reset.putThread 0 1).put CLK.CYC 0 0x1200000000, by decide⟩,
   ⟨0, 1, (State.reset.putThread 0 1).put CLK.CYC 0 0x1200000000, by decide⟩,
   ⟨0, 1, State.reset.putThread 0 1, by decide⟩,
   ⟨0, 15, 1, State.reset.putThread 0 1, by decide⟩,
   ⟨0, 63, 1, State.reset.putThread 0 1, by decide⟩,
   ⟨0, 1, State.reset.putThread 0 1, by decide⟩,
   ⟨0, 1, State.reset.putThread 0 1, by decide⟩,
   ⟨0, 1, State.reset.putThread 0 1, by decide⟩,
   ⟨0, 1, State.reset.putThread 0 1, by decide⟩,
   ⟨0, 1, State.reset.putThread 0 1, by decide⟩,
   ⟨0, 1, State.reset.putThread 0 1, by decide⟩,
   ⟨449, 1, State.reset.putThread 449 1, by decide⟩,
   ⟨0, 15, 2, (State.reset.putThread 0 1).put THR.W 2 76, by decide⟩,
   ⟨449, 15, 2, (State.reset.putThread 449 1).put THR.W (32 * 449 + 2) 76, by decide⟩,
   ⟨447, 1, State.reset.putThread 447 1, by decide⟩,
   ⟨449, 1, State.reset.putThread 449 1, by decide⟩,
   ⟨449, 63, 1, State.reset.putThread 449 1, by decide⟩,
   ⟨0, 0xFFF, (State.reset.putThread 0 1).put THR.TVEC 0 64, by decide⟩,
   ⟨0, 0xFFF, State.reset.putThread 0 1, by decide⟩,
   ⟨0, ((State.reset.putThread 0 1).put THR.T 0 1).put THR.EPC 0 8, by decide⟩,
   ⟨0, State.reset.putThread 0 1, by decide⟩,
   ⟨0, State.reset.putThread 0 1, by decide⟩,
   ⟨111, st [(ENGE.CTL_WDOG_EN, 111, 1), (CLK.CYC, 0, 750 * 2 ^ 32)], by decide⟩,
   ⟨127, st [(ENGE.CTL_WDOG_EN, 127, 1), (CLK.CYC, 0, 750 * 2 ^ 32)], by decide⟩,
   ⟨111, State.reset.put ENGE.CTL_WDOG_EN 111 0, by decide⟩⟩

/-- The hypotheses of ProgramsAndGrants can be met, clause by clause. -/
theorem witness_ProgramsAndGrants :
    (∃ (c : Cmd) (off len : Nat) (good : Bool) (s : State), s.get ENGH.DRAM_SIZE c.ring < off + len)
    ∧ (∃ (c : Cmd) (off len : Nat) (good : Bool) (s : State), off + len ≤ s.get ENGH.DRAM_SIZE c.ring)
    ∧ (∃ (c : Cmd) (mask : Nat) (s : State), 64 ≤ mask)
    ∧ (∃ (c : Cmd) (mask : Nat) (s : State), mask < 64)
    ∧ (∃ (r : Req) (h v : Nat) (s : State), h < 8 ∧ s.get ENGH.PROG_STATE h = 0 ∧ viewOf r = 0 ∧ s.reachWord r (ENGH.SRAM_BASE.addr h) 4 = 0 ∧ s.sramGrantOk h (v % 2 ^ 26) (s.get ENGH.SRAM_SIZE h) = true)
    ∧ (∃ (r : Req) (h v : Nat) (s : State), h < 8 ∧ s.get ENGH.PROG_STATE h = 0 ∧ viewOf r = 0 ∧ s.reachWord r (ENGH.SRAM_BASE.addr h + 0x04) 4 = 0 ∧ s.sramGrantOk h (s.get ENGH.SRAM_BASE h) (v % 2 ^ 26) = true)
    ∧ (∃ (r : Req) (h v : Nat) (s : State), h < 8 ∧ s.get ENGH.PROG_STATE h = 0 ∧ viewOf r = 0 ∧ s.reachWord r (ENGH.SRAM_BASE.addr h + 0x08) 4 = 0 ∧ s.dramGrantOk h (s.join64 r (0xA08008 + 0x40 * h) v) (s.get ENGH.DRAM_SIZE h) = true)
    ∧ (∃ (r : Req) (h v : Nat) (s : State), h < 8 ∧ s.get ENGH.PROG_STATE h = 0 ∧ viewOf r = 0 ∧ s.reachWord r (ENGH.SRAM_BASE.addr h + 0x10) 4 = 0 ∧ s.dramGrantOk h (s.get ENGH.DRAM_BASE h) (s.join64 r (0xA08010 + 0x40 * h) v) = true)
    ∧ (∃ (r : Req) (h off v : Nat) (s : State), h < 8 ∧ viewOf r = 0 ∧ (off = 0x0C ∨ off = 0x14) ∧ s.reachWord r (ENGH.SRAM_BASE.addr h + off) 4 = 0)
    ∧ (∃ (r : Req) (h off v : Nat) (s : State), h < 8 ∧ viewOf r = 0 ∧ (off = 0x00 ∨ off = 0x04 ∨ off = 0x08 ∨ off = 0x10) ∧ s.reachWord r (ENGH.SRAM_BASE.addr h + off) 4 = 0 ∧ s.get ENGH.PROG_STATE h ≠ 0)
    ∧ (∃ (r : Req) (h v : Nat) (s : State), h < 8 ∧ viewOf r = 0 ∧ s.reachWord r (ENGH.SRAM_BASE.addr h) 4 = 0 ∧ s.sramGrantOk h (v % 2 ^ 26) (s.get ENGH.SRAM_SIZE h) = false)
    ∧ (∃ (r : Req) (h v : Nat) (s : State), h < 8 ∧ viewOf r = 0 ∧ s.reachWord r (ENGH.SRAM_BASE.addr h + 0x04) 4 = 0 ∧ s.sramGrantOk h (s.get ENGH.SRAM_BASE h) (v % 2 ^ 26) = false)
    ∧ (∃ (r : Req) (h v : Nat) (s : State), h < 8 ∧ viewOf r = 0 ∧ s.reachWord r (ENGH.SRAM_BASE.addr h + 0x08) 4 = 0 ∧ s.dramGrantOk h (s.join64 r (0xA08008 + 0x40 * h) v) (s.get ENGH.DRAM_SIZE h) = false)
    ∧ (∃ (r : Req) (h v : Nat) (s : State), h < 8 ∧ viewOf r = 0 ∧ s.reachWord r (ENGH.SRAM_BASE.addr h + 0x10) 4 = 0 ∧ s.dramGrantOk h (s.get ENGH.DRAM_BASE h) (s.join64 r (0xA08010 + 0x40 * h) v) = false) :=
  ⟨⟨cmd1, 0, 1, true, State.reset, by decide⟩,
   ⟨cmd1, 0, 2, true, st [(ENGH.DRAM_SIZE, 1, 2 ^ 24)], by decide⟩,
   ⟨cmd1, 64, State.reset, by decide⟩,
   ⟨cmd1, 33, State.reset.putThread (progThread 1 5) 2, by decide⟩,
   ⟨.steward, 7, 4096, State.reset, by decide⟩,
   ⟨.steward, 7, 4096, State.reset, by decide⟩,
   ⟨.steward, 7, 0, State.reset, by decide⟩,
   ⟨.steward, 7, 0, State.reset, by decide⟩,
   ⟨.steward, 7, 0x0C, 5, State.reset, by decide⟩,
   ⟨.steward, 7, 0x10, 0, st [(ENGH.PROG_STATE, 7, 2)], by decide⟩,
   ⟨.steward, 7, 1, State.reset, by decide⟩,
   ⟨.steward, 7, 1, State.reset, by decide⟩,
   ⟨.steward, 7, 1, State.reset, by decide⟩,
   ⟨.steward, 7, 1, State.reset, by decide⟩⟩

/-- The hypotheses of Attachments can be met, clause by clause. -/
theorem witness_Attachments :
    (∃ (r : Req) (h off v : Nat) (s : State), h < 8 ∧ s.reachWord r (HBIND.CTL_ATTACH.addr h + off) 4 = 0 ∧ (s.bindWord r h off v).binding h = s.binding h)
    ∧ (∃ (r : Req) (h off v : Nat) (s : State), h < 8 ∧ s.reachWord r (HBIND.CTL_ATTACH.addr h + off) 4 = 0 ∧ (s.bindWord r h off v).binding h ≠ s.binding h ∧ (s.bindWord r h off v).bindBad h = false)
    ∧ (∃ (r : Req) (h off v : Nat) (s : State), h < 8 ∧ s.reachWord r (HBIND.CTL_ATTACH.addr h + off) 4 = 0 ∧ (s.bindWord r h off v).binding h ≠ s.binding h ∧ (s.bindWord r h off v).bindBad h = true)
    ∧ (∃ (r : Req) (h v : Nat) (s : State), h < 8 ∧ s.reachWord r (HBIND.CTL_ATTACH.addr h + 8) 4 = 0)
    ∧ (∃ (f h : Nat) (s : State), s.fnHedge f = some h)
    ∧ (∃ (f : Nat) (s : State), s.fnHedge f = none)
    ∧ (∃ (p width speed pol : Nat) (s : State), p < 2)
    ∧ (∃ (f : Nat) (on : Bool) (s : State), f < 8 ∧ s.fnHedge f = none ∧ s.get HOSTG.CFG_PRIV_FN ≠ f)
    ∧ (∃ (f h : Nat) (on : Bool) (s : State), f < 8 ∧ s.fnHedge f = some h ∧ s.get HOSTG.CFG_PRIV_FN ≠ f)
    ∧ (∃ (f : Nat) (on : Bool) (s : State), f < 8 ∧ s.fnHedge f = none ∧ s.get HOSTG.CFG_PRIV_FN = f)
    ∧ (∃ (f h : Nat) (on : Bool) (s : State), f < 8 ∧ s.fnHedge f = some h ∧ s.get HOSTG.CFG_PRIV_FN = f)
    ∧ (∃ (i : Nat) (s : State), i < 9 ∧ s.get HOSTH.CTL_CMD_EN i = 0)
    ∧ (∃ (i : Nat) (s : State), i < 9 ∧ s.get HOSTH.CTL_CMD_EN i ≠ 0) :=
  ⟨⟨.steward, 7, 0, 0x10000, State.reset, by decide⟩,
   ⟨.steward, 7, 0x30, 5, State.reset, by decide⟩,
   ⟨.steward, 7, 0, 3, State.reset, by decide⟩,
   ⟨.steward, 7, 0x140015, State.reset, by decide⟩,
   ⟨3, 5, st [(HBIND.CTL_ATTACH, 5, 1), (HBIND.CTL_FN, 5, 3)], by decide⟩,
   ⟨3, State.reset, by decide⟩,
   ⟨0, 8, 4, 0, st [(HBIND.CTL_ATTACH, 5, 1), (HBIND.CTL_FN, 5, 3)], by decide⟩,
   ⟨3, true, State.reset, by decide⟩,
   ⟨3, 5, true, st [(HBIND.CTL_ATTACH, 5, 1), (HBIND.CTL_FN, 5, 3)], by decide⟩,
   ⟨0, true, State.reset, by decide⟩,
   ⟨0, 5, true, st [(HBIND.CTL_ATTACH, 5, 1)], by decide⟩,
   ⟨8, State.reset, by decide⟩,
   ⟨8, st [(HOSTH.CTL_CMD_EN, 8, 1), (HOSTH.RING_PROD, 1024, 1)], by decide⟩⟩

/-- The hypotheses of RingsAndDoorbells can be met, clause by clause. -/
theorem witness_RingsAndDoorbells :
    (∃ (r : Req) (i v : Nat) (s : State), i < 9 ∧ s.get HOSTH.STATUS_IN_RESET i = 0 ∧ s.reachWord r (HOSTH.RING_PROD.addr (128 * i)) 4 = 0 ∧ s.prodOk i 0 (v % 2 ^ 32) = true)
    ∧ (∃ (r : Req) (i v : Nat) (s : State), i < 9 ∧ s.get HOSTH.STATUS_IN_RESET i = 0 ∧ s.reachWord r (HOSTH.RING_PROD.addr (128 * i)) 4 = 0 ∧ s.prodOk i 0 (v % 2 ^ 32) = false)
    ∧ (∃ (r : Req) (i v : Nat) (s : State), s.get HOSTH.STATUS_IN_RESET i ≠ 0 ∧ s.reachWord r (HOSTH.RING_PROD.addr (128 * i)) 4 = 0)
    ∧ (∃ (r : Req) (i v : Nat) (s : State), i < 9 ∧ s.get HOSTH.STATUS_IN_RESET i = 0 ∧ s.reachWord r (HOSTH.RING_PROD.addr (128 * i + 3)) 4 = 0 ∧ s.prodOk i 3 (v % 2 ^ 32) = true)
    ∧ (∃ (r : Req) (i v : Nat) (s : State), i < 9 ∧ s.get HOSTH.STATUS_IN_RESET i = 0 ∧ s.reachWord r (HOSTH.RING_PROD.addr (128 * i + 3)) 4 = 0 ∧ s.prodOk i 3 (v % 2 ^ 32) = false)
    ∧ (∃ (r : Req) (i v : Nat) (s : State), s.get HOSTH.STATUS_IN_RESET i ≠ 0 ∧ s.reachWord r (HOSTH.RING_PROD.addr (128 * i + 3)) 4 = 0)
    ∧ (∃ (r : Req) (i v : Nat) (s : State), i < 9 ∧ s.get HOSTH.STATUS_IN_RESET i = 0 ∧ s.reachWord r (HOSTH.RING_CONS.addr (128 * i + 1)) 4 = 0 ∧ s.consOk i 1 (v % 2 ^ 32) = true)
    ∧ (∃ (r : Req) (i v : Nat) (s : State), i < 9 ∧ s.get HOSTH.STATUS_IN_RESET i = 0 ∧ s.reachWord r (HOSTH.RING_CONS.addr (128 * i + 1)) 4 = 0 ∧ s.consOk i 1 (v % 2 ^ 32) = false)
    ∧ (∃ (r : Req) (i v : Nat) (s : State), s.get HOSTH.STATUS_IN_RESET i ≠ 0 ∧ s.reachWord r (HOSTH.RING_CONS.addr (128 * i + 1)) 4 = 0)
    ∧ (∃ (r : Req) (i v : Nat) (s : State), i < 9 ∧ s.get HOSTH.STATUS_IN_RESET i = 0 ∧ s.reachWord r (HOSTH.RING_CONS.addr (128 * i + 2)) 4 = 0 ∧ s.consOk i 2 (v % 2 ^ 32) = true)
    ∧ (∃ (r : Req) (i v : Nat) (s : State), i < 9 ∧ s.get HOSTH.STATUS_IN_RESET i = 0 ∧ s.reachWord r (HOSTH.RING_CONS.addr (128 * i + 2)) 4 = 0 ∧ s.consOk i 2 (v % 2 ^ 32) = false)
    ∧ (∃ (r : Req) (i v : Nat) (s : State), s.get HOSTH.STATUS_IN_RESET i ≠ 0 ∧ s.reachWord r (HOSTH.RING_CONS.addr (128 * i + 2)) 4 = 0)
    ∧ (∃ (r : Req) (i v : Nat) (s : State), i < 9 ∧ s.get HOSTH.STATUS_IN_RESET i = 0 ∧ s.reachWord r (HOSTH.CTL_CMD_EN.addr i) 4 = 0)
    ∧ (∃ (r : Req) (i v : Nat) (s : State), i < 9 ∧ s.get HOSTH.STATUS_IN_RESET i ≠ 0 ∧ s.reachWord r (HOSTH.CTL_CMD_EN.addr i) 4 = 0)
    ∧ (∃ (r : Req) (h : Nat) (s : State), h < 8 ∧ s.reachWord r (HOSTH.CTL_CMD_EN.addr h) 4 = 0 ∧ s.get HOSTH.STATUS_IN_RESET h = 0 ∧ s.get HOSTH.CTL_EV_EN h = 0 ∧ s.get HOSTH.CTL_CMD_EN h = 0)
    ∧ (∃ (i : Nat) (s : State), s.get HST.DRAIN i ≠ 0 ∧ s.ringHeld i 0 = 0)
    ∧ (∃ (i : Nat) (s : State), s.ringHeld i 0 ≠ 0)
    ∧ (∃ (i v : Nat) (s : State), i < 9 ∧ v < 4 ∧ s.get HST.IRQ_PEND (4 * i + v) ≠ 0 ∧ ticksGeUs (s.mp - s.get HST.IRQ_AT (4 * i + v)) (s.get HOSTH.IRQ_TIME i) = true)
    ∧ (∃ (i v : Nat) (s : State), (s.get HST.IRQ_PEND (4 * i + v) = 0 ∨ ticksGeUs (s.mp - s.get HST.IRQ_AT (4 * i + v)) (s.get HOSTH.IRQ_TIME i) = false)) :=
  ⟨⟨.hedge 1, 1, 64, st [(HOSTH.RING_SIZE, 128, 6), (HOSTH.RING_SIZE, 131, 6), (BOOT.STATUS_READY, 0, 1)], by decide⟩,
   ⟨.hedge 1, 1, 65, st [(HOSTH.RING_SIZE, 128, 6), (HOSTH.RING_SIZE, 131, 6), (BOOT.STATUS_READY, 0, 1)], by decide⟩,
   ⟨.hedge 1, 1, 0, st [(HOSTH.STATUS_IN_RESET, 1, 1), (BOOT.STATUS_READY, 0, 1)], by decide⟩,
   ⟨.hedge 1, 1, 64, st [(HOSTH.RING_SIZE, 128, 6), (HOSTH.RING_SIZE, 131, 6), (BOOT.STATUS_READY, 0, 1)], by decide⟩,
   ⟨.hedge 1, 1, 65, st [(HOSTH.RING_SIZE, 128, 6), (HOSTH.RING_SIZE, 131, 6), (BOOT.STATUS_READY, 0, 1)], by decide⟩,
   ⟨.hedge 1, 1, 0, st [(HOSTH.STATUS_IN_RESET, 1, 1), (BOOT.STATUS_READY, 0, 1)], by decide⟩,
   ⟨.hedge 1, 1, 5, st [(HOSTH.RING_PROD, 129, 5), (HOSTH.RING_PROD, 130, 5), (BOOT.STATUS_READY, 0, 1)], by decide⟩,
   ⟨.hedge 1, 1, 6, st [(HOSTH.RING_PROD, 129, 5), (HOSTH.RING_PROD, 130, 5), (BOOT.STATUS_READY, 0, 1)], by decide⟩,
   ⟨.hedge 1, 1, 0, st [(HOSTH.STATUS_IN_RESET, 1, 1), (BOOT.STATUS_READY, 0, 1)], by decide⟩,
   ⟨.hedge 1, 1, 5, st [(HOSTH.RING_PROD, 129, 5), (HOSTH.RING_PROD, 130, 5), (BOOT.STATUS_READY, 0, 1)], by decide⟩,
   ⟨.hedge 1, 1, 6, st [(HOSTH.RING_PROD, 129, 5), (HOSTH.RING_PROD, 130, 5), (BOOT.STATUS_READY, 0, 1)], by decide⟩,
   ⟨.hedge 1, 1, 0, st [(HOSTH.STATUS_IN_RESET, 1, 1), (BOOT.STATUS_READY, 0, 1)], by decide⟩,
   ⟨.hedge 1, 1, 0x30F, st [(HOSTH.CTL_CPL_EN, 1, 1), (HOSTH.RING_PROD, 130, 4), (BOOT.STATUS_READY, 0, 1)], by decide⟩,
   ⟨.hedge 1, 1, 0x30F, st [(HOSTH.STATUS_IN_RESET, 1, 1), (BOOT.STATUS_READY, 0, 1)], by decide⟩,
   ⟨.hedge 1, 1, st [(HOSTH.CTL_CPL_EN, 1, 1), (HOSTH.RING_PROD, 130, 4), (BOOT.STATUS_READY, 0, 1)], by decide⟩,
   ⟨8, st [(HST.DRAIN, 8, 1)], by decide⟩,
   ⟨8, st [(HST.DRAIN, 8, 1), (HOSTH.RING_PROD, 1024, 1)], by decide⟩,
   ⟨8, 3, st [(HST.IRQ_PEND, 35, 1), (HOSTH.IRQ_TIME, 8, 0)], by decide⟩,
   ⟨8, 3, State.reset, by decide⟩⟩

/-- The hypotheses of CommandAdmission can be met, clause by clause. -/
theorem witness_CommandAdmission :
    (∃ (src : Nat) (s : State), (s.get HOSTH.STATUS_IN_RESET (src % 16) ≠ 0 ∨ s.get BOOT.STATUS_READY = 0 ∨ s.get HOSTH.OUTSTANDING_MAX (src % 16) ≤ s.get HOSTH.OUTSTANDING_NOW (src % 16)))
    ∧ (∃ (src : Nat) (s : State), s.nextCmd src = none)
    ∧ (∃ (src at_ : Nat) (l data : List Nat) (s : State), (src < 9 ∨ (16 ≤ src ∧ src < 24)) ∧ s.get HOSTH.STATUS_IN_RESET (src % 16) = 0 ∧ s.get BOOT.STATUS_READY ≠ 0 ∧ s.get HOSTH.OUTSTANDING_NOW (src % 16) < s.get HOSTH.OUTSTANDING_MAX (src % 16) ∧ (8 ≤ src ∨ s.shPermits (44 + (src % 16)) = true) ∧ s.nextCmd src = some (l, data, at_) ∧ (((if src < 8 then (s.cmdTaken src).shCharge (44 + (src % 16)) ((s.cmdTaken src).shCost (44 + (src % 16)) 0 (64 + descPayload l)) else s.cmdTaken src).bump HOSTH.CMD_CNT (src % 16)).bump HOSTH.OUTSTANDING_NOW (src % 16)).descCode (src % 16) l ≠ 0)
    ∧ (∃ (src at_ : Nat) (l data : List Nat) (s : State), (src < 9 ∨ (16 ≤ src ∧ src < 24)) ∧ s.get HOSTH.STATUS_IN_RESET (src % 16) = 0 ∧ s.get BOOT.STATUS_READY ≠ 0 ∧ s.get HOSTH.OUTSTANDING_NOW (src % 16) < s.get HOSTH.OUTSTANDING_MAX (src % 16) ∧ (8 ≤ src ∨ s.shPermits (44 + (src % 16)) = true) ∧ s.nextCmd src = some (l, data, at_) ∧ (((if src < 8 then (s.cmdTaken src).shCharge (44 + (src % 16)) ((s.cmdTaken src).shCost (44 + (src % 16)) 0 (64 + descPayload l)) else s.cmdTaken src).bump HOSTH.CMD_CNT (src % 16)).bump HOSTH.OUTSTANDING_NOW (src % 16)).descCode (src % 16) l = 0 ∧ (match descOf (l.headD 0) with | some (.front, _) => true | none => true | _ => false) = false ∧ 64 ≤ s.get HOSTH.ADMIN_LEVEL (src % 16))
    ∧ (∃ (src at_ : Nat) (l data : List Nat) (s : State), (src < 9 ∨ (16 ≤ src ∧ src < 24)) ∧ s.get HOSTH.STATUS_IN_RESET (src % 16) = 0 ∧ s.get BOOT.STATUS_READY ≠ 0 ∧ s.get HOSTH.OUTSTANDING_NOW (src % 16) < s.get HOSTH.OUTSTANDING_MAX (src % 16) ∧ (8 ≤ src ∨ s.shPermits (44 + (src % 16)) = true) ∧ s.nextCmd src = some (l, data, at_) ∧ (((if src < 8 then (s.cmdTaken src).shCharge (44 + (src % 16)) ((s.cmdTaken src).shCost (44 + (src % 16)) 0 (64 + descPayload l)) else s.cmdTaken src).bump HOSTH.CMD_CNT (src % 16)).bump HOSTH.OUTSTANDING_NOW (src % 16)).descCode (src % 16) l = 0 ∧ (match descOf (l.headD 0) with | some (.front, _) => true | none => true | _ => false) = false ∧ s.get HOSTH.ADMIN_LEVEL (src % 16) < 64)
    ∧ (∃ (src at_ : Nat) (l data : List Nat) (s : State), (src < 9 ∨ (16 ≤ src ∧ src < 24)) ∧ s.get HOSTH.STATUS_IN_RESET (src % 16) = 0 ∧ s.get BOOT.STATUS_READY ≠ 0 ∧ s.get HOSTH.OUTSTANDING_NOW (src % 16) < s.get HOSTH.OUTSTANDING_MAX (src % 16) ∧ (8 ≤ src ∨ s.shPermits (44 + (src % 16)) = true) ∧ s.nextCmd src = some (l, data, at_) ∧ (((if src < 8 then (s.cmdTaken src).shCharge (44 + (src % 16)) ((s.cmdTaken src).shCost (44 + (src % 16)) 0 (64 + descPayload l)) else s.cmdTaken src).bump HOSTH.CMD_CNT (src % 16)).bump HOSTH.OUTSTANDING_NOW (src % 16)).descCode (src % 16) l = 0 ∧ (match descOf (l.headD 0) with | some (.front, _) => true | none => true | _ => false) = true)
    ∧ (∃ (s : State), (s.get BOOT.STATUS_READY = 0 ∨ ((List.range 9).any fun i => s.get HST.RUN_OP i != 0) = true))
    ∧ (∃ (s : State), (((8 :: (List.range 8).map fun k => (s.get HST.RR + k) % 8).findSome? s.adminWait) = none))
    ∧ (∃ (x : Started) (s : State), s.get BOOT.STATUS_READY ≠ 0 ∧ (((List.range 9).any fun i => s.get HST.RUN_OP i != 0) = false) ∧ (((8 :: (List.range 8).map fun k => (s.get HST.RR + k) % 8).findSome? s.adminWait) = some x)) :=
  ⟨⟨1, State.reset, by decide⟩,
   ⟨1, State.reset, by decide⟩,
   ⟨8, 0, List.replicate 64 0, [], st [(BOOT.STATUS_READY, 0, 1), (HOSTH.OUTSTANDING_MAX, 8, 4), (HOSTH.CTL_CMD_EN, 8, 1), (HOSTH.RING_PROD, 1024, 1), (HOSTH.STATUS_BM, 8, 1), (HOSTH.RING_SIZE, 1024, 6)], by decide⟩,
   ⟨1, 0, 0x49 :: List.replicate 63 0, [], { st [(BOOT.STATUS_READY, 0, 1), (HOSTH.OUTSTANDING_MAX, 1, 4), (HOSTH.ADMIN_LEVEL, 1, 64), (HBIND.CTL_ATTACH, 1, 2)] with tunCmds := [⟨1, 0x49 :: List.replicate 63 0, [], 0⟩] }, by decide⟩,
   ⟨1, 0, 0x4B :: 1 :: List.replicate 62 0, [], { st [(BOOT.STATUS_READY, 0, 1), (HOSTH.OUTSTANDING_MAX, 1, 4), (HBIND.CTL_ATTACH, 1, 2)] with tunCmds := [⟨1, 0x4B :: 1 :: List.replicate 62 0, [], 0⟩] }, by decide⟩,
   ⟨1, 0, 3 :: 1 :: List.replicate 62 0, [], { st [(BOOT.STATUS_READY, 0, 1), (HOSTH.OUTSTANDING_MAX, 1, 4), (HBIND.CTL_ATTACH, 1, 2)] with tunCmds := [⟨1, 3 :: 1 :: List.replicate 62 0, [], 0⟩] }, by decide⟩,
   ⟨State.reset, by decide⟩,
   ⟨State.reset, by decide⟩,
   ⟨⟨5, 0, 7, 0x40, true, false, false, 0, []⟩, { st [(BOOT.STATUS_READY, 0, 1)] with started := [⟨5, 0, 7, 0x40, true, false, false, 0, []⟩] }, by decide⟩⟩

/-- The hypotheses of DataPathCommands can be met, clause by clause. -/
theorem witness_DataPathCommands :
    (∃ (c : Cmd) (addr off len : Nat) (s : State), s.standby = false ∧ c.ring < 8 ∧ 64 ≤ len ∧ len ≤ 16777216 ∧ len % 64 = 0 ∧ off + len ≤ s.get ENGH.DRAM_SIZE c.ring)
    ∧ (∃ (c : Cmd) (addr off len : Nat) (s : State), s.standby = false ∧ (8 ≤ c.ring ∨ len < 64 ∨ 16777216 < len ∨ len % 64 ≠ 0))
    ∧ (∃ (c : Cmd) (addr off len : Nat) (s : State), s.standby = false ∧ c.ring < 8 ∧ 64 ≤ len ∧ len ≤ 16777216 ∧ len % 64 = 0 ∧ s.get ENGH.DRAM_SIZE c.ring < off + len)
    ∧ (∃ (c : Cmd) (addr off len : Nat) (s : State), s.standby = true)
    ∧ (∃ (c : Cmd) (addr off len : Nat) (s : State), c.ring < 8 ∧ 64 ≤ len ∧ len ≤ 16777216 ∧ len % 64 = 0 ∧ off + len ≤ s.get ENGH.DRAM_SIZE c.ring)
    ∧ (∃ (c : Cmd) (addr off len : Nat) (s : State), c.ring < 8 ∧ 64 ≤ len ∧ len ≤ 16777216 ∧ len % 64 = 0 ∧ s.get ENGH.DRAM_SIZE c.ring < off + len)
    ∧ (∃ (c : Cmd) (addr off len : Nat) (s : State), (8 ≤ c.ring ∨ len < 64 ∨ 16777216 < len ∨ len % 64 ≠ 0))
    ∧ (∃ (c : Cmd) (k first count addr : Nat) (s : State), k < 64 ∧ 1 ≤ count ∧ count ≤ 256 ∧ s.get WATCH.CFG_OWNER k = c.ring)
    ∧ (∃ (c : Cmd) (k first count addr : Nat) (s : State), k < 64 ∧ 1 ≤ count ∧ count ≤ 256 ∧ s.get WATCH.CFG_OWNER k ≠ c.ring)
    ∧ (∃ (c : Cmd) (k first count addr : Nat) (s : State), (64 ≤ k ∨ count = 0 ∨ 256 < count))
    ∧ (∃ (c : Cmd) (eui entry life len mode power cls flags addr e : Nat) (inline : List Nat) (s : State), s.standby = false ∧ sendBad c flags life len cls = false ∧ (if eui ≠ 0 then s.findAddr c.ring (.ext eui) else (if s.named c.ring entry then some entry else none, s)).1 = some e ∧ ((famOf ({ ({ (((if eui ≠ 0 then s.findAddr c.ring (.ext eui) else (if s.named c.ring entry then some entry else none, s)).2).newDown c.ring e cls .send .link (if bit flags 4 then fix len inline else ((if eui ≠ 0 then s.findAddr c.ring (.ext eui) else (if s.named c.ring entry then some entry else none, s)).2).cmdData c addr len)) with cmd := some c, opcode := 0x01, ackReq := bit flags 1, noFlood := bit flags 2, calFull := bit flags 3, autoMode := mode == 0, autoPower := power == 0x80, mode := if mode = 0 then ((if eui ≠ 0 then s.findAddr c.ring (.ext eui) else (if s.named c.ring entry then some entry else none, s)).2).get E.PHY_MODE e else mode, power := if power = 0x80 then ((if eui ≠ 0 then s.findAddr c.ring (.ext eui) else (if s.named c.ring entry then some entry else none, s)).2).get E.TX_POWER e else power, expiry := ((if eui ≠ 0 then s.findAddr c.ring (.ext eui) else (if s.named c.ring entry then some entry else none, s)).2).cmdAt c + life * 2 ^ 24 / 1000 } : Down) with psduLen := ((if eui ≠ 0 then s.findAddr c.ring (.ext eui) else (if s.named c.ring entry then some entry else none, s)).2).downLen ({ (((if eui ≠ 0 then s.findAddr c.ring (.ext eui) else (if s.named c.ring entry then some entry else none, s)).2).newDown c.ring e cls .send .link (if bit flags 4 then fix len inline else ((if eui ≠ 0 then s.findAddr c.ring (.ext eui) else (if s.named c.ring entry then some entry else none, s)).2).cmdData c addr len)) with cmd := some c, opcode := 0x01, ackReq := bit flags 1, noFlood := bit flags 2, calFull := bit flags 3, autoMode := mode == 0, autoPower := power == 0x80, mode := if mode = 0 then ((if eui ≠ 0 then s.findAddr c.ring (.ext eui) else (if s.named c.ring entry then some entry else none, s)).2).get E.PHY_MODE e else mode, power := if power = 0x80 then ((if eui ≠ 0 then s.findAddr c.ring (.ext eui) else (if s.named c.ring entry then some entry else none, s)).2).get E.TX_POWER e else power, expiry := ((if eui ≠ 0 then s.findAddr c.ring (.ext eui) else (if s.named c.ring entry then some entry else none, s)).2).cmdAt c + life * 2 ^ 24 / 1000 } : Down) e ((((if eui ≠ 0 then s.findAddr c.ring (.ext eui) else (if s.named c.ring entry then some entry else none, s)).2).panOf c.ring).getD 0) } : Down).mode).isNone = true ∨ psduMax ({ ({ (((if eui ≠ 0 then s.findAddr c.ring (.ext eui) else (if s.named c.ring entry then some entry else none, s)).2).newDown c.ring e cls .send .link (if bit flags 4 then fix len inline else ((if eui ≠ 0 then s.findAddr c.ring (.ext eui) else (if s.named c.ring entry then some entry else none, s)).2).cmdData c addr len)) with cmd := some c, opcode := 0x01, ackReq := bit flags 1, noFlood := bit flags 2, calFull := bit flags 3, autoMode := mode == 0, autoPower := power == 0x80, mode := if mode = 0 then ((if eui ≠ 0 then s.findAddr c.ring (.ext eui) else (if s.named c.ring entry then some entry else none, s)).2).get E.PHY_MODE e else mode, power := if power = 0x80 then ((if eui ≠ 0 then s.findAddr c.ring (.ext eui) else (if s.named c.ring entry then some entry else none, s)).2).get E.TX_POWER e else power, expiry := ((if eui ≠ 0 then s.findAddr c.ring (.ext eui) else (if s.named c.ring entry then some entry else none, s)).2).cmdAt c + life * 2 ^ 24 / 1000 } : Down) with psduLen := ((if eui ≠ 0 then s.findAddr c.ring (.ext eui) else (if s.named c.ring entry then some entry else none, s)).2).downLen ({ (((if eui ≠ 0 then s.findAddr c.ring (.ext eui) else (if s.named c.ring entry then some entry else none, s)).2).newDown c.ring e cls .send .link (if bit flags 4 then fix len inline else ((if eui ≠ 0 then s.findAddr c.ring (.ext eui) else (if s.named c.ring entry then some entry else none, s)).2).cmdData c addr len)) with cmd := some c, opcode := 0x01, ackReq := bit flags 1, noFlood := bit flags 2, calFull := bit flags 3, autoMode := mode == 0, autoPower := power == 0x80, mode := if mode = 0 then ((if eui ≠ 0 then s.findAddr c.ring (.ext eui) else (if s.named c.ring entry then some entry else none, s)).2).get E.PHY_MODE e else mode, power := if power = 0x80 then ((if eui ≠ 0 then s.findAddr c.ring (.ext eui) else (if s.named c.ring entry then some entry else none, s)).2).get E.TX_POWER e else power, expiry := ((if eui ≠ 0 then s.findAddr c.ring (.ext eui) else (if s.named c.ring entry then some entry else none, s)).2).cmdAt c + life * 2 ^ 24 / 1000 } : Down) e ((((if eui ≠ 0 then s.findAddr c.ring (.ext eui) else (if s.named c.ring entry then some entry else none, s)).2).panOf c.ring).getD 0) } : Down).mode < ({ ({ (((if eui ≠ 0 then s.findAddr c.ring (.ext eui) else (if s.named c.ring entry then some entry else none, s)).2).newDown c.ring e cls .send .link (if bit flags 4 then fix len inline else ((if eui ≠ 0 then s.findAddr c.ring (.ext eui) else (if s.named c.ring entry then some entry else none, s)).2).cmdData c addr len)) with cmd := some c, opcode := 0x01, ackReq := bit flags 1, noFlood := bit flags 2, calFull := bit flags 3, autoMode := mode == 0, autoPower := power == 0x80, mode := if mode = 0 then ((if eui ≠ 0 then s.findAddr c.ring (.ext eui) else (if s.named c.ring entry then some entry else none, s)).2).get E.PHY_MODE e else mode, power := if power = 0x80 then ((if eui ≠ 0 then s.findAddr c.ring (.ext eui) else (if s.named c.ring entry then some entry else none, s)).2).get E.TX_POWER e else power, expiry := ((if eui ≠ 0 then s.findAddr c.ring (.ext eui) else (if s.named c.ring entry then some entry else none, s)).2).cmdAt c + life * 2 ^ 24 / 1000 } : Down) with psduLen := ((if eui ≠ 0 then s.findAddr c.ring (.ext eui) else (if s.named c.ring entry then some entry else none, s)).2).downLen ({ (((if eui ≠ 0 then s.findAddr c.ring (.ext eui) else (if s.named c.ring entry then some entry else none, s)).2).newDown c.ring e cls .send .link (if bit flags 4 then fix len inline else ((if eui ≠ 0 then s.findAddr c.ring (.ext eui) else (if s.named c.ring entry then some entry else none, s)).2).cmdData c addr len)) with cmd := some c, opcode := 0x01, ackReq := bit flags 1, noFlood := bit flags 2, calFull := bit flags 3, autoMode := mode == 0, autoPower := power == 0x80, mode := if mode = 0 then ((if eui ≠ 0 then s.findAddr c.ring (.ext eui) else (if s.named c.ring entry then some entry else none, s)).2).get E.PHY_MODE e else mode, power := if power = 0x80 then ((if eui ≠ 0 then s.findAddr c.ring (.ext eui) else (if s.named c.ring entry then some entry else none, s)).2).get E.TX_POWER e else power, expiry := ((if eui ≠ 0 then s.findAddr c.ring (.ext eui) else (if s.named c.ring entry then some entry else none, s)).2).cmdAt c + life * 2 ^ 24 / 1000 } : Down) e ((((if eui ≠ 0 then s.findAddr c.ring (.ext eui) else (if s.named c.ring entry then some entry else none, s)).2).panOf c.ring).getD 0) } : Down).psduLen))
    ∧ (∃ (c : Cmd) (eui entry life len mode power cls flags addr e : Nat) (inline : List Nat) (s : State), s.standby = false ∧ sendBad c flags life len cls = false ∧ (if eui ≠ 0 then s.findAddr c.ring (.ext eui) else (if s.named c.ring entry then some entry else none, s)).1 = some e ∧ (famOf ({ ({ (((if eui ≠ 0 then s.findAddr c.ring (.ext eui) else (if s.named c.ring entry then some entry else none, s)).2).newDown c.ring e cls .send .link (if bit flags 4 then fix len inline else ((if eui ≠ 0 then s.findAddr c.ring (.ext eui) else (if s.named c.ring entry then some entry else none, s)).2).cmdData c addr len)) with cmd := some c, opcode := 0x01, ackReq := bit flags 1, noFlood := bit flags 2, calFull := bit flags 3, autoMode := mode == 0, autoPower := power == 0x80, mode := if mode = 0 then ((if eui ≠ 0 then s.findAddr c.ring (.ext eui) else (if s.named c.ring entry then some entry else none, s)).2).get E.PHY_MODE e else mode, power := if power = 0x80 then ((if eui ≠ 0 then s.findAddr c.ring (.ext eui) else (if s.named c.ring entry then some entry else none, s)).2).get E.TX_POWER e else power, expiry := ((if eui ≠ 0 then s.findAddr c.ring (.ext eui) else (if s.named c.ring entry then some entry else none, s)).2).cmdAt c + life * 2 ^ 24 / 1000 } : Down) with psduLen := ((if eui ≠ 0 then s.findAddr c.ring (.ext eui) else (if s.named c.ring entry then some entry else none, s)).2).downLen ({ (((if eui ≠ 0 then s.findAddr c.ring (.ext eui) else (if s.named c.ring entry then some entry else none, s)).2).newDown c.ring e cls .send .link (if bit flags 4 then fix len inline else ((if eui ≠ 0 then s.findAddr c.ring (.ext eui) else (if s.named c.ring entry then some entry else none, s)).2).cmdData c addr len)) with cmd := some c, opcode := 0x01, ackReq := bit flags 1, noFlood := bit flags 2, calFull := bit flags 3, autoMode := mode == 0, autoPower := power == 0x80, mode := if mode = 0 then ((if eui ≠ 0 then s.findAddr c.ring (.ext eui) else (if s.named c.ring entry then some entry else none, s)).2).get E.PHY_MODE e else mode, power := if power = 0x80 then ((if eui ≠ 0 then s.findAddr c.ring (.ext eui) else (if s.named c.ring entry then some entry else none, s)).2).get E.TX_POWER e else power, expiry := ((if eui ≠ 0 then s.findAddr c.ring (.ext eui) else (if s.named c.ring entry then some entry else none, s)).2).cmdAt c + life * 2 ^ 24 / 1000 } : Down) e ((((if eui ≠ 0 then s.findAddr c.ring (.ext eui) else (if s.named c.ring entry then some entry else none, s)).2).panOf c.ring).getD 0) } : Down).mode).isNone = false ∧ ({ ({ (((if eui ≠ 0 then s.findAddr c.ring (.ext eui) else (if s.named c.ring entry then some entry else none, s)).2).newDown c.ring e cls .send .link (if bit flags 4 then fix len inline else ((if eui ≠ 0 then s.findAddr c.ring (.ext eui) else (if s.named c.ring entry then some entry else none, s)).2).cmdData c addr len)) with cmd := some c, opcode := 0x01, ackReq := bit flags 1, noFlood := bit flags 2, calFull := bit flags 3, autoMode := mode == 0, autoPower := power == 0x80, mode := if mode = 0 then ((if eui ≠ 0 then s.findAddr c.ring (.ext eui) else (if s.named c.ring entry then some entry else none, s)).2).get E.PHY_MODE e else mode, power := if power = 0x80 then ((if eui ≠ 0 then s.findAddr c.ring (.ext eui) else (if s.named c.ring entry then some entry else none, s)).2).get E.TX_POWER e else power, expiry := ((if eui ≠ 0 then s.findAddr c.ring (.ext eui) else (if s.named c.ring entry then some entry else none, s)).2).cmdAt c + life * 2 ^ 24 / 1000 } : Down) with psduLen := ((if eui ≠ 0 then s.findAddr c.ring (.ext eui) else (if s.named c.ring entry then some entry else none, s)).2).downLen ({ (((if eui ≠ 0 then s.findAddr c.ring (.ext eui) else (if s.named c.ring entry then some entry else none, s)).2).newDown c.ring e cls .send .link (if bit flags 4 then fix len inline else ((if eui ≠ 0 then s.findAddr c.ring (.ext eui) else (if s.named c.ring entry then some entry else none, s)).2).cmdData c addr len)) with cmd := some c, opcode := 0x01, ackReq := bit flags 1, noFlood := bit flags 2, calFull := bit flags 3, autoMode := mode == 0, autoPower := power == 0x80, mode := if mode = 0 then ((if eui ≠ 0 then s.findAddr c.ring (.ext eui) else (if s.named c.ring entry then some entry else none, s)).2).get E.PHY_MODE e else mode, power := if power = 0x80 then ((if eui ≠ 0 then s.findAddr c.ring (.ext eui) else (if s.named c.ring entry then some entry else none, s)).2).get E.TX_POWER e else power, expiry := ((if eui ≠ 0 then s.findAddr c.ring (.ext eui) else (if s.named c.ring entry then some entry else none, s)).2).cmdAt c + life * 2 ^ 24 / 1000 } : Down) e ((((if eui ≠ 0 then s.findAddr c.ring (.ext eui) else (if s.named c.ring entry then some entry else none, s)).2).panOf c.ring).getD 0) } : Down).psduLen ≤ psduMax ({ ({ (((if eui ≠ 0 then s.findAddr c.ring (.ext eui) else (if s.named c.ring entry then some entry else none, s)).2).newDown c.ring e cls .send .link (if bit flags 4 then fix len inline else ((if eui ≠ 0 then s.findAddr c.ring (.ext eui) else (if s.named c.ring entry then some entry else none, s)).2).cmdData c addr len)) with cmd := some c, opcode := 0x01, ackReq := bit flags 1, noFlood := bit flags 2, calFull := bit flags 3, autoMode := mode == 0, autoPower := power == 0x80, mode := if mode = 0 then ((if eui ≠ 0 then s.findAddr c.ring (.ext eui) else (if s.named c.ring entry then some entry else none, s)).2).get E.PHY_MODE e else mode, power := if power = 0x80 then ((if eui ≠ 0 then s.findAddr c.ring (.ext eui) else (if s.named c.ring entry then some entry else none, s)).2).get E.TX_POWER e else power, expiry := ((if eui ≠ 0 then s.findAddr c.ring (.ext eui) else (if s.named c.ring entry then some entry else none, s)).2).cmdAt c + life * 2 ^ 24 / 1000 } : Down) with psduLen := ((if eui ≠ 0 then s.findAddr c.ring (.ext eui) else (if s.named c.ring entry then some entry else none, s)).2).downLen ({ (((if eui ≠ 0 then s.findAddr c.ring (.ext eui) else (if s.named c.ring entry then some entry else none, s)).2).newDown c.ring e cls .send .link (if bit flags 4 then fix len inline else ((if eui ≠ 0 then s.findAddr c.ring (.ext eui) else (if s.named c.ring entry then some entry else none, s)).2).cmdData c addr len)) with cmd := some c, opcode := 0x01, ackReq := bit flags 1, noFlood := bit flags 2, calFull := bit flags 3, autoMode := mode == 0, autoPower := power == 0x80, mode := if mode = 0 then ((if eui ≠ 0 then s.findAddr c.ring (.ext eui) else (if s.named c.ring entry then some entry else none, s)).2).get E.PHY_MODE e else mode, power := if power = 0x80 then ((if eui ≠ 0 then s.findAddr c.ring (.ext eui) else (if s.named c.ring entry then some entry else none, s)).2).get E.TX_POWER e else power, expiry := ((if eui ≠ 0 then s.findAddr c.ring (.ext eui) else (if s.named c.ring entry then some entry else none, s)).2).cmdAt c + life * 2 ^ 24 / 1000 } : Down) e ((((if eui ≠ 0 then s.findAddr c.ring (.ext eui) else (if s.named c.ring entry then some entry else none, s)).2).panOf c.ring).getD 0) } : Down).mode)
    ∧ (∃ (c : Cmd) (eui entry life len mode power cls flags addr : Nat) (inline : List Nat) (s : State), s.standby = false ∧ sendBad c flags life len cls = false ∧ (if eui ≠ 0 then s.findAddr c.ring (.ext eui) else (if s.named c.ring entry then some entry else none, s)).1 = none)
    ∧ (∃ (c : Cmd) (eui entry life len mode power cls flags addr : Nat) (inline : List Nat) (s : State), s.standby = false ∧ (8 ≤ c.ring ∨ life = 0 ∨ 3600000 < life ∨ 3 < cls ∨ (bit flags 4 = true ∧ 24 < len)))
    ∧ (∃ (c : Cmd) (eui entry life len mode power cls flags addr : Nat) (inline : List Nat) (s : State), s.standby = true)
    ∧ (∃ (c : Cmd) (final life len cls flags addr : Nat) (inline : List Nat) (s : State), s.standby = false ∧ sendBad c flags life len cls = false ∧ final ≠ 0xFFFE ∧ (famOf ({ s.ownFlood c.ring cls final (if bit flags 4 then fix len inline else s.cmdData c addr len) with cmd := some c, opcode := 0x02, expiry := s.cmdAt c + life * 2 ^ 24 / 1000 } : Down).mode).isNone = false ∧ ({ s.ownFlood c.ring cls final (if bit flags 4 then fix len inline else s.cmdData c addr len) with cmd := some c, opcode := 0x02, expiry := s.cmdAt c + life * 2 ^ 24 / 1000 } : Down).psduLen ≤ psduMax ({ s.ownFlood c.ring cls final (if bit flags 4 then fix len inline else s.cmdData c addr len) with cmd := some c, opcode := 0x02, expiry := s.cmdAt c + life * 2 ^ 24 / 1000 } : Down).mode)
    ∧ (∃ (c : Cmd) (final life len cls flags addr : Nat) (inline : List Nat) (s : State), s.standby = false ∧ sendBad c flags life len cls = false ∧ final ≠ 0xFFFE ∧ ((famOf ({ s.ownFlood c.ring cls final (if bit flags 4 then fix len inline else s.cmdData c addr len) with cmd := some c, opcode := 0x02, expiry := s.cmdAt c + life * 2 ^ 24 / 1000 } : Down).mode).isNone = true ∨ psduMax ({ s.ownFlood c.ring cls final (if bit flags 4 then fix len inline else s.cmdData c addr len) with cmd := some c, opcode := 0x02, expiry := s.cmdAt c + life * 2 ^ 24 / 1000 } : Down).mode < ({ s.ownFlood c.ring cls final (if bit flags 4 then fix len inline else s.cmdData c addr len) with cmd := some c, opcode := 0x02, expiry := s.cmdAt c + life * 2 ^ 24 / 1000 } : Down).psduLen))
    ∧ (∃ (c : Cmd) (final life len cls flags addr : Nat) (inline : List Nat) (s : State), s.standby = false ∧ (final = 0xFFFE ∨ 8 ≤ c.ring ∨ life = 0 ∨ 3600000 < life ∨ 3 < cls ∨ (bit flags 4 = true ∧ 24 < len)))
    ∧ (∃ (c : Cmd) (final life len cls flags addr : Nat) (inline : List Nat) (s : State), s.standby = true)
    ∧ (∃ (c : Cmd) (h : Nat) (s : State), h < 8)
    ∧ (∃ (c : Cmd) (h : Nat) (s : State), 8 ≤ h) :=
  ⟨⟨cmd1, 0, 64, 64, st [(ENGH.DRAM_SIZE, 1, 2 ^ 24)], by decide⟩,
   ⟨cmd1, 0, 64, 16777280, State.reset, by decide⟩,
   ⟨cmd1, 0, 64, 64, State.reset, by decide⟩,
   ⟨cmd1, 0, 64, 64, st [(TWIN.STATUS_ROLE, 0, 2)], by decide⟩,
   ⟨cmd1, 0, 64, 64, st [(ENGH.DRAM_SIZE, 1, 2 ^ 24)], by decide⟩,
   ⟨cmd1, 0, 64, 64, State.reset, by decide⟩,
   ⟨cmd1, 0, 64, 63, State.reset, by decide⟩,
   ⟨cmd1, 63, 255, 2, 0, st [(WATCH.CFG_OWNER, 63, 1)], by decide⟩,
   ⟨cmd1, 63, 255, 2, 0, st [(WATCH.CFG_OWNER, 63, 2)], by decide⟩,
   ⟨cmd1, 63, 255, 257, 0, State.reset, by decide⟩,
   ⟨cmd1, 0, 6, 1000, 2100, 0, 0, 1, 2, 0, 6, [], st [(E.STATE, 6, 2), (E.HEDGE, 6, 1)], by decide⟩,
   ⟨cmd1, 0, 6, 1000, 4, 0x10, 0, 1, 2, 0, 6, [], st [(E.STATE, 6, 2), (E.HEDGE, 6, 1)], by decide⟩,
   ⟨cmd1, 0, 6, 3600000, 20, 0, 0x80, 3, 0, 0, [], State.reset, by decide⟩,
   ⟨cmd1, 0, 6, 3600001, 20, 0, 0x80, 3, 0, 0, [], State.reset, by decide⟩,
   ⟨cmd1, 0, 6, 1, 20, 0, 0x80, 3, 0, 0, [], st [(TWIN.STATUS_ROLE, 0, 2)], by decide⟩,
   ⟨cmd1, 0xFFFF, 1, 4, 3, 0, 0, [], State.reset, by decide⟩,
   ⟨cmd1, 0xFFFF, 1, 2100, 3, 0, 0, [], State.reset, by decide⟩,
   ⟨cmd1, 0xFFFE, 1, 4, 3, 0, 0, [], State.reset, by decide⟩,
   ⟨cmd1, 0xFFFF, 1, 4, 3, 0, 0, [], st [(TWIN.STATUS_ROLE, 0, 2)], by decide⟩,
   ⟨cmd1, 7, State.reset, by decide⟩,
   ⟨cmd1, 8, State.reset, by decide⟩⟩

/-- The hypotheses of EventsAndUplinks can be met, clause by clause. -/
theorem witness_EventsAndUplinks :
    (∃ (h : Nat) (s : State), h < 9 ∧ ((s.each (s.evQ.filter (·.hedge == h)) fun u x => if u.evOpen h then ({ u with evQ := u.evQ.erase x } : State).evOut x else u).get HST.EV_UNREP h = 0 ∨ 1024 ≤ (s.each (s.evQ.filter (·.hedge == h)) fun u x => if u.evOpen h then ({ u with evQ := u.evQ.erase x } : State).evOut x else u).evHeld h))
    ∧ (∃ (h : Nat) (s : State), h < 9 ∧ ((s.each (s.evQ.filter (·.hedge == h)) fun u x => if u.evOpen h then ({ u with evQ := u.evQ.erase x } : State).evOut x else u).get HST.EV_UNREP h ≠ 0) ∧ ((s.each (s.evQ.filter (·.hedge == h)) fun u x => if u.evOpen h then ({ u with evQ := u.evQ.erase x } : State).evOut x else u).evHeld h < 1024))
    ∧ (∃ (h : Nat) (x : RxFrame) (l : List (Nat × List Nat × Nat)) (s : State), s.rxQ.find? (·.hedge == h) = some x ∧ h < 8 ∧ s.rxOpen h = true ∧ s.get HBIND.CTL_ATTACH h ≠ 2 ∧ ((({ s with rxQ := s.rxQ.erase x } : State).put HOSTH.BACKLOG_NOW h (({ s with rxQ := s.rxQ.erase x } : State).rxHeld h)).rxFill h 65537 x.payload []).1 = some l)
    ∧ (∃ (h : Nat) (x : RxFrame) (s : State), s.rxQ.find? (·.hedge == h) = some x ∧ h < 8 ∧ s.rxOpen h = true ∧ s.get HBIND.CTL_ATTACH h ≠ 2 ∧ ((({ s with rxQ := s.rxQ.erase x } : State).put HOSTH.BACKLOG_NOW h (({ s with rxQ := s.rxQ.erase x } : State).rxHeld h)).rxFill h 65537 x.payload []).1 = none)
    ∧ (∃ (h : Nat) (x : RxFrame) (s : State), s.rxQ.find? (·.hedge == h) = some x ∧ h < 8 ∧ s.rxOpen h = true ∧ s.get HBIND.CTL_ATTACH h = 2 ∧ (({ s with rxQ := s.rxQ.erase x } : State).put HOSTH.BACKLOG_NOW h (({ s with rxQ := s.rxQ.erase x } : State).rxHeld h)).get TUN.CREDIT h ≠ 0 ∧ (({ s with rxQ := s.rxQ.erase x } : State).put HOSTH.BACKLOG_NOW h (({ s with rxQ := s.rxQ.erase x } : State).rxHeld h)).tunPacket h (64 + x.payload.length) ≤ s.get HOSTG.TUN_MTU)
    ∧ (∃ (h : Nat) (x : RxFrame) (s : State), s.rxQ.find? (·.hedge == h) = some x ∧ h < 8 ∧ s.rxOpen h = true ∧ s.get HBIND.CTL_ATTACH h = 2 ∧ ((({ s with rxQ := s.rxQ.erase x } : State).put HOSTH.BACKLOG_NOW h (({ s with rxQ := s.rxQ.erase x } : State).rxHeld h)).get TUN.CREDIT h = 0 ∨ s.get HOSTG.TUN_MTU < (({ s with rxQ := s.rxQ.erase x } : State).put HOSTH.BACKLOG_NOW h (({ s with rxQ := s.rxQ.erase x } : State).rxHeld h)).tunPacket h (64 + x.payload.length)))
    ∧ (∃ (h : Nat) (s : State), s.rxQ.find? (·.hedge == h) = none)
    ∧ (∃ (h : Nat) (s : State), (s.rxQ.filter (fun x : RxFrame => x.hedge == h && ticksGeUs (s.mp - x.tIn) (1000 * s.get HOSTH.UPLINK_HOLD h)) ≠ []))
    ∧ (∃ (h : Nat) (s : State), (s.rxQ.filter (fun x : RxFrame => x.hedge == h && ticksGeUs (s.mp - x.tIn) (1000 * s.get HOSTH.UPLINK_HOLD h)) = []))
    ∧ (∃ (h : Nat) (s : State), h < 8 ∧ s.get HST.RX_NOBUF_REP h + s.get HST.RX_HOLD_REP h + s.get HST.RX_BACK_REP h ≠ 0 ∧ (s.get HST.LOSS_ON h = 0 ∨ s.get HST.LOSS_AT h + 2 ^ 24 ≤ s.mp))
    ∧ (∃ (h : Nat) (s : State), s.get HST.LOSS_ON h ≠ 0 ∧ s.mp < s.get HST.LOSS_AT h + 2 ^ 24) :=
  ⟨⟨1, { st [(HOSTH.CTL_EV_EN, 1, 1), (HOSTH.STATUS_BM, 1, 1), (HOSTH.RING_SIZE, 130, 6), (HBIND.CTL_ATTACH, 1, 1)] with evQ := [⟨1, 0x11, 0, 0, []⟩] }, by decide⟩,
   ⟨1, { st [(HST.EV_UNREP, 1, 5), (HOSTH.CTL_EV_EN, 1, 1), (HOSTH.STATUS_BM, 1, 1), (HOSTH.RING_SIZE, 130, 6), (HBIND.CTL_ATTACH, 1, 1)] with evQ := [⟨1, 0x11, 0, 0, []⟩] }, by decide⟩,
   ⟨1, (⟨1, 0, 0, 0, 0, 0, [], [1, 2]⟩ : RxFrame), [(0, [0, 0, 0, 0, 0, 0, 0, 0, 64] ++ List.replicate 55 0, 2)], { st ([(HOSTH.CTL_RX_EN, 1, 1), (HOSTH.STATUS_BM, 1, 1), (HOSTH.RING_SIZE, 131, 6), (HBIND.CTL_ATTACH, 1, 1)] ++ [(HOSTH.RING_PROD, 131, 1)]) with rxQ := [(⟨1, 0, 0, 0, 0, 0, [], [1, 2]⟩ : RxFrame)], mem.host := [(hostKey 1 8, 64)] }, by decide⟩,
   ⟨1, (⟨1, 0, 0, 0, 0, 0, [], [1, 2]⟩ : RxFrame), { st [(HOSTH.CTL_RX_EN, 1, 1), (HOSTH.STATUS_BM, 1, 1), (HOSTH.RING_SIZE, 131, 6), (HBIND.CTL_ATTACH, 1, 1)] with rxQ := [(⟨1, 0, 0, 0, 0, 0, [], [1, 2]⟩ : RxFrame)] }, by decide⟩,
   ⟨1, (⟨1, 0, 0, 0, 0, 0, [], [1, 2]⟩ : RxFrame), { st [(HBIND.CTL_ATTACH, 1, 2), (HBIND.STATUS_UP, 1, 1), (HBIND.STATUS_SESSION, 1, 9), (BOOT.STATUS_READY, 0, 1), (HBIND.CTL_TUN_SEC, 1, 0), (TUN.CREDIT, 1, 2)] with rxQ := [(⟨1, 0, 0, 0, 0, 0, [], [1, 2]⟩ : RxFrame)] }, by decide⟩,
   ⟨1, (⟨1, 0, 0, 0, 0, 0, [], [1, 2]⟩ : RxFrame), { st [(HBIND.CTL_ATTACH, 1, 2), (HBIND.STATUS_UP, 1, 1), (HBIND.STATUS_SESSION, 1, 9), (BOOT.STATUS_READY, 0, 1), (HBIND.CTL_TUN_SEC, 1, 0)] with rxQ := [(⟨1, 0, 0, 0, 0, 0, [], [1, 2]⟩ : RxFrame)] }, by decide⟩,
   ⟨1, State.reset, by decide⟩,
   ⟨1, { st [(HOSTH.UPLINK_HOLD, 1, 0)] with rxQ := [(⟨1, 0, 0, 0, 0, 0, [], [1, 2]⟩ : RxFrame)] }, by decide⟩,
   ⟨1, State.reset, by decide⟩,
   ⟨7, st [(HST.RX_NOBUF_REP, 7, 1)], by decide⟩,
   ⟨7, st [(HST.LOSS_ON, 7, 1)], by decide⟩⟩

/-- The hypotheses of TunnelMessages can be met, clause by clause. -/
theorem witness_TunnelMessages :
    (∃ (h port : Nat) (p l : List Nat) (s : State), h < 8 ∧ s.get HBIND.CTL_ATTACH h = 2 ∧ s.get HOSTH.STATUS_IN_RESET h = 0 ∧ s.get BOOT.STATUS_READY ≠ 0 ∧ s.get HBIND.CTL_TUN_SEC h = 0 ∧ ((port = s.get HBIND.CTL_ETH_PORT h ∨ (s.get PRP.CTL_EN ≠ 0 ∧ port < 2 ∧ s.get HBIND.CTL_ETH_PORT h < 2))) ∧ ip6Read p = some ((s.peerIp h, s.ownIp h), (s.get HBIND.PORTS_PEER_PORT h, s.get HBIND.PORTS_LOCAL_PORT h), l) ∧ l.length = 20 + oct l 12 2 ∧ 48 + l.length ≤ s.get HOSTG.TUN_MTU ∧ l.take 3 = [1, 8, h] ∧ s.get HBIND.STATUS_UP h ≠ 0 ∧ s.get HBIND.STATUS_SESSION h = oct l 14 2)
    ∧ (∃ (h port : Nat) (p head body : List Nat) (s : State), (s.tunRead h 8 port p).1 = some (head, body) ∧ (s.tunRead h 8 port p).2.get HBIND.STATUS_UP h ≠ 0 ∧ (s.tunRead h 8 port p).2.get HBIND.STATUS_SESSION h = oct head 14 2)
    ∧ (∃ (h port : Nat) (p head body : List Nat) (s : State), (s.tunRead h 6 port p).1 = some (head, body) ∧ (s.tunRead h 6 port p).2.get HBIND.STATUS_UP h ≠ 0 ∧ (s.tunRead h 6 port p).2.get HBIND.STATUS_SESSION h = oct head 14 2)
    ∧ (∃ (h port : Nat) (p head body : List Nat) (s : State), (s.tunRead h 1 port p).1 = some (head, body) ∧ (s.tunRead h 1 port p).2.get HBIND.STATUS_UP h ≠ 0 ∧ (s.tunRead h 1 port p).2.get HBIND.STATUS_SESSION h = oct head 14 2 ∧ oct head 4 4 = (((s.tunRead h 1 port p).2.put TUN.HEARD_AT h s.mp).tunAcked h (oct head 8 4)).get TUN.RX_SEQ h + 1 ∧ 64 * head.getD 3 0 ≤ body.length)
    ∧ (∃ (h port : Nat) (p head body : List Nat) (s : State), (s.tunRead h 1 port p).1 = some (head, body) ∧ (s.tunRead h 1 port p).2.get HBIND.STATUS_UP h ≠ 0 ∧ (s.tunRead h 1 port p).2.get HBIND.STATUS_SESSION h = oct head 14 2 ∧ 1 ≤ oct head 4 4 ∧ oct head 4 4 ≤ (((s.tunRead h 1 port p).2.put TUN.HEARD_AT h s.mp).tunAcked h (oct head 8 4)).get TUN.RX_SEQ h ∧ 64 * head.getD 3 0 ≤ body.length)
    ∧ (∃ (h port : Nat) (p head body : List Nat) (s : State), (s.tunRead h 1 port p).1 = some (head, body) ∧ (s.tunRead h 1 port p).2.get HBIND.STATUS_UP h ≠ 0 ∧ (s.tunRead h 1 port p).2.get HBIND.STATUS_SESSION h = oct head 14 2 ∧ (oct head 4 4 = 0 ∨ (((s.tunRead h 1 port p).2.put TUN.HEARD_AT h s.mp).tunAcked h (oct head 8 4)).get TUN.RX_SEQ h + 1 < oct head 4 4))
    ∧ (∃ (h port : Nat) (p head body : List Nat) (s : State), (s.tunRead h 2 port p).1 = some (head, body) ∧ (s.tunRead h 2 port p).2.get HBIND.STATUS_UP h ≠ 0 ∧ (s.tunRead h 2 port p).2.get HBIND.STATUS_SESSION h = oct head 14 2 ∧ oct head 4 4 = (((s.tunRead h 2 port p).2.put TUN.HEARD_AT h s.mp).tunAcked h (oct head 8 4)).get TUN.RX_SEQ h + 1 ∧ 4 ≤ body.length)
    ∧ (∃ (h port : Nat) (p head body : List Nat) (s : State), (s.tunRead h 2 port p).1 = some (head, body) ∧ (s.tunRead h 2 port p).2.get HBIND.STATUS_UP h ≠ 0 ∧ (s.tunRead h 2 port p).2.get HBIND.STATUS_SESSION h = oct head 14 2 ∧ 1 ≤ oct head 4 4 ∧ oct head 4 4 ≤ (((s.tunRead h 2 port p).2.put TUN.HEARD_AT h s.mp).tunAcked h (oct head 8 4)).get TUN.RX_SEQ h ∧ 4 ≤ body.length)
    ∧ (∃ (h port : Nat) (p head body : List Nat) (s : State), (s.tunRead h 2 port p).1 = some (head, body) ∧ (s.tunRead h 2 port p).2.get HBIND.STATUS_UP h ≠ 0 ∧ (s.tunRead h 2 port p).2.get HBIND.STATUS_SESSION h = oct head 14 2 ∧ (oct head 4 4 = 0 ∨ (((s.tunRead h 2 port p).2.put TUN.HEARD_AT h s.mp).tunAcked h (oct head 8 4)).get TUN.RX_SEQ h + 1 < oct head 4 4))
    ∧ (∃ (h port : Nat) (p : List Nat) (s : State), ((s.tunRead h 1 port p).1 = none ∨ (s.tunRead h 1 port p).2.get HBIND.STATUS_UP h = 0))
    ∧ (∃ (h port : Nat) (p : List Nat) (s : State), ((s.tunRead h 2 port p).1 = none ∨ (s.tunRead h 2 port p).2.get HBIND.STATUS_UP h = 0))
    ∧ (∃ (h port : Nat) (p : List Nat) (s : State), ((s.tunRead h 6 port p).1 = none ∨ (s.tunRead h 6 port p).2.get HBIND.STATUS_UP h = 0))
    ∧ (∃ (h port : Nat) (p : List Nat) (s : State), ((s.tunRead h 8 port p).1 = none ∨ (s.tunRead h 8 port p).2.get HBIND.STATUS_UP h = 0))
    ∧ (∃ (h port : Nat) (p head body : List Nat) (s : State), (s.tunRead h 7 port p).1 = some (head, body) ∧ oct head 14 2 ≠ 0 ∧ oct head 4 4 = 1 ∧ (s.tunRead h 7 port p).2.tunCan h = true ∧ ((s.tunRead h 7 port p).2.get HBIND.STATUS_UP h = 0 ∨ (s.tunRead h 7 port p).2.get HBIND.STATUS_SESSION h ≠ oct head 14 2))
    ∧ (∃ (h port : Nat) (p head body : List Nat) (s : State), (s.tunRead h 7 port p).1 = some (head, body) ∧ oct head 14 2 ≠ 0 ∧ oct head 4 4 = 1 ∧ (s.tunRead h 7 port p).2.tunCan h = true ∧ (s.tunRead h 7 port p).2.get HBIND.STATUS_UP h ≠ 0 ∧ (s.tunRead h 7 port p).2.get HBIND.STATUS_SESSION h = oct head 14 2)
    ∧ (∃ (port ip6 : Nat) (s : State), (s.get PRP.CTL_EN = 0 ∨ 2 ≤ port) ∧ ((let at_ := fun k : Nat => k == port; (List.range 8).any (fun h : Nat => s.attach h == 2 && (if s.get HST.REBIND h ≠ 0 then at_ (s.get HST.OLD_ETH h) && s.get HST.OLD_IP h == ip6 else at_ (s.get HBIND.CTL_ETH_PORT h) && s.ownIp h == ip6))) = true))
    ∧ (∃ (port ip6 : Nat) (s : State), s.get PRP.CTL_EN ≠ 0 ∧ port < 2 ∧ ((let at_ := fun k : Nat => decide (k < 2); (List.range 8).any (fun h : Nat => s.attach h == 2 && (if s.get HST.REBIND h ≠ 0 then at_ (s.get HST.OLD_ETH h) && s.get HST.OLD_IP h == ip6 else at_ (s.get HBIND.CTL_ETH_PORT h) && s.ownIp h == ip6))) = true))
    ∧ (∃ (port ip6 : Nat) (s : State), (((List.range 8).any fun h => s.attach h == 2) = false))
    ∧ (∃ (h : Nat) (s : State), s.tunUp h = true ∧ (((s.tunQ.filter (fun x : TunMsg => x.hedge == h && ticksGeUs (s.mp - x.at_) (1000 * s.get HOSTG.TUN_RTO))).any fun x => decide (8 ≤ x.resends)) = false))
    ∧ (∃ (h : Nat) (s : State), s.tunUp h = true ∧ (((s.tunQ.filter (fun x : TunMsg => x.hedge == h && ticksGeUs (s.mp - x.at_) (1000 * s.get HOSTG.TUN_RTO))).any fun x => decide (8 ≤ x.resends)) = true))
    ∧ (∃ (h : Nat) (s : State), s.tunUp h = false)
    ∧ (∃ (h : Nat) (s : State), s.tunUp h = true ∧ s.get TUN.HEARD_AT h + 3 * 2 ^ 24 ≤ s.mp)
    ∧ (∃ (h : Nat) (s : State), s.mp < s.get TUN.HEARD_AT h + 3 * 2 ^ 24)
    ∧ (∃ (h : Nat) (s : State), s.tunUp h = false)
    ∧ (∃ (h : Nat) (s : State), s.tunUp h = true ∧ s.get TUN.SENT_AT h + 2 ^ 24 ≤ s.mp)
    ∧ (∃ (h : Nat) (s : State), (s.tunUp h = false ∨ s.mp < s.get TUN.SENT_AT h + 2 ^ 24)) :=
  ⟨⟨1, 0, ip6Packet 0 64 0 0 48000 48000 ([1, 8, 1, 0] ++ le 4 0 ++ le 4 0 ++ le 2 0 ++ le 2 9 ++ le 4 0), [1, 8, 1, 0] ++ le 4 0 ++ le 4 0 ++ le 2 0 ++ le 2 9 ++ le 4 0, st [(HBIND.CTL_ATTACH, 1, 2), (HBIND.STATUS_UP, 1, 1), (HBIND.STATUS_SESSION, 1, 9), (BOOT.STATUS_READY, 0, 1), (HBIND.CTL_TUN_SEC, 1, 0)], by decide⟩,
   ⟨1, 0, ip6Packet 0 64 0 0 48000 48000 ([1, 8, 1, 0] ++ le 4 0 ++ le 4 0 ++ le 2 0 ++ le 2 9 ++ le 4 0), [1, 8, 1, 0] ++ le 4 0 ++ le 4 0 ++ le 2 0 ++ le 2 9 ++ le 4 0, [], st [(HBIND.CTL_ATTACH, 1, 2), (HBIND.STATUS_UP, 1, 1), (HBIND.STATUS_SESSION, 1, 9), (BOOT.STATUS_READY, 0, 1), (HBIND.CTL_TUN_SEC, 1, 0)], by decide⟩,
   ⟨1, 0, ip6Packet 0 64 0 0 48000 48000 ([1, 6, 1, 0] ++ le 4 0 ++ le 4 0 ++ le 2 0 ++ le 2 9 ++ le 4 0), [1, 6, 1, 0] ++ le 4 0 ++ le 4 0 ++ le 2 0 ++ le 2 9 ++ le 4 0, [], st [(HBIND.CTL_ATTACH, 1, 2), (HBIND.STATUS_UP, 1, 1), (HBIND.STATUS_SESSION, 1, 9), (BOOT.STATUS_READY, 0, 1), (HBIND.CTL_TUN_SEC, 1, 0)], by decide⟩,
   ⟨1, 0, ip6Packet 0 64 0 0 48000 48000 ([1, 1, 1, 0] ++ le 4 1 ++ le 4 0 ++ le 2 0 ++ le 2 9 ++ le 4 0), [1, 1, 1, 0] ++ le 4 1 ++ le 4 0 ++ le 2 0 ++ le 2 9 ++ le 4 0, [], st [(HBIND.CTL_ATTACH, 1, 2), (HBIND.STATUS_UP, 1, 1), (HBIND.STATUS_SESSION, 1, 9), (BOOT.STATUS_READY, 0, 1), (HBIND.CTL_TUN_SEC, 1, 0)], by decide⟩,
   ⟨1, 0, ip6Packet 0 64 0 0 48000 48000 ([1, 1, 1, 0] ++ le 4 1 ++ le 4 0 ++ le 2 0 ++ le 2 9 ++ le 4 0), [1, 1, 1, 0] ++ le 4 1 ++ le 4 0 ++ le 2 0 ++ le 2 9 ++ le 4 0, [], st ([(HBIND.CTL_ATTACH, 1, 2), (HBIND.STATUS_UP, 1, 1), (HBIND.STATUS_SESSION, 1, 9), (BOOT.STATUS_READY, 0, 1), (HBIND.CTL_TUN_SEC, 1, 0)] ++ [(TUN.RX_SEQ, 1, 1)]), by decide⟩,
   ⟨1, 0, ip6Packet 0 64 0 0 48000 48000 ([1, 1, 1, 0] ++ le 4 2 ++ le 4 0 ++ le 2 0 ++ le 2 9 ++ le 4 0), [1, 1, 1, 0] ++ le 4 2 ++ le 4 0 ++ le 2 0 ++ le 2 9 ++ le 4 0, [], st [(HBIND.CTL_ATTACH, 1, 2), (HBIND.STATUS_UP, 1, 1), (HBIND.STATUS_SESSION, 1, 9), (BOOT.STATUS_READY, 0, 1), (HBIND.CTL_TUN_SEC, 1, 0)], by decide⟩,
   ⟨1, 0, ip6Packet 0 64 0 0 48000 48000 ([1, 2, 1, 0] ++ le 4 1 ++ le 4 0 ++ le 2 4 ++ le 2 9 ++ le 4 0 ++ [5, 0, 0, 0]), [1, 2, 1, 0] ++ le 4 1 ++ le 4 0 ++ le 2 4 ++ le 2 9 ++ le 4 0, [5, 0, 0, 0], st [(HBIND.CTL_ATTACH, 1, 2), (HBIND.STATUS_UP, 1, 1), (HBIND.STATUS_SESSION, 1, 9), (BOOT.STATUS_READY, 0, 1), (HBIND.CTL_TUN_SEC, 1, 0)], by decide⟩,
   ⟨1, 0, ip6Packet 0 64 0 0 48000 48000 ([1, 2, 1, 0] ++ le 4 1 ++ le 4 0 ++ le 2 4 ++ le 2 9 ++ le 4 0 ++ [5, 0, 0, 0]), [1, 2, 1, 0] ++ le 4 1 ++ le 4 0 ++ le 2 4 ++ le 2 9 ++ le 4 0, [5, 0, 0, 0], st ([(HBIND.CTL_ATTACH, 1, 2), (HBIND.STATUS_UP, 1, 1), (HBIND.STATUS_SESSION, 1, 9), (BOOT.STATUS_READY, 0, 1), (HBIND.CTL_TUN_SEC, 1, 0)] ++ [(TUN.RX_SEQ, 1, 1)]), by decide⟩,
   ⟨1, 0, ip6Packet 0 64 0 0 48000 48000 ([1, 2, 1, 0] ++ le 4 2 ++ le 4 0 ++ le 2 4 ++ le 2 9 ++ le 4 0 ++ [5, 0, 0, 0]), [1, 2, 1, 0] ++ le 4 2 ++ le 4 0 ++ le 2 4 ++ le 2 9 ++ le 4 0, [5, 0, 0, 0], st [(HBIND.CTL_ATTACH, 1, 2), (HBIND.STATUS_UP, 1, 1), (HBIND.STATUS_SESSION, 1, 9), (BOOT.STATUS_READY, 0, 1), (HBIND.CTL_TUN_SEC, 1, 0)], by decide⟩,
   ⟨1, 0, [], State.reset, by decide⟩,
   ⟨1, 0, [], State.reset, by decide⟩,
   ⟨1, 0, [], State.reset, by decide⟩,
   ⟨1, 0, [], State.reset, by decide⟩,
   ⟨1, 0, ip6Packet 0 64 0 0 48000 48000 ([1, 7, 1, 0] ++ le 4 1 ++ le 4 0 ++ le 2 0 ++ le 2 5 ++ le 4 0), [1, 7, 1, 0] ++ le 4 1 ++ le 4 0 ++ le 2 0 ++ le 2 5 ++ le 4 0, [], { st [(HBIND.CTL_ATTACH, 1, 2), (HBIND.STATUS_UP, 1, 1), (HBIND.STATUS_SESSION, 1, 9), (BOOT.STATUS_READY, 0, 1), (HBIND.CTL_TUN_SEC, 1, 0)] with tunQ := [⟨1, 4, 3, List.replicate 64 0, [], 7, 0⟩] }, by decide⟩,
   ⟨1, 0, ip6Packet 0 64 0 0 48000 48000 ([1, 7, 1, 0] ++ le 4 1 ++ le 4 0 ++ le 2 0 ++ le 2 9 ++ le 4 0), [1, 7, 1, 0] ++ le 4 1 ++ le 4 0 ++ le 2 0 ++ le 2 9 ++ le 4 0, [], st [(HBIND.CTL_ATTACH, 1, 2), (HBIND.STATUS_UP, 1, 1), (HBIND.STATUS_SESSION, 1, 9), (BOOT.STATUS_READY, 0, 1), (HBIND.CTL_TUN_SEC, 1, 0)], by decide⟩,
   ⟨1, 2 ^ 64, st [(HBIND.CTL_ATTACH, 7, 2), (HBIND.CTL_ETH_PORT, 7, 1), (HBIND.OWN_IP6_W1, 7, 1)], by decide⟩,
   ⟨1, 2 ^ 64, st [(PRP.CTL_EN, 0, 1), (HBIND.CTL_ATTACH, 7, 2), (HBIND.CTL_ETH_PORT, 7, 1), (HBIND.OWN_IP6_W1, 7, 1)], by decide⟩,
   ⟨1, 2 ^ 64, State.reset, by decide⟩,
   ⟨1, { (st [(HBIND.CTL_ATTACH, 1, 2), (HBIND.STATUS_UP, 1, 1), (HBIND.STATUS_SESSION, 1, 9), (BOOT.STATUS_READY, 0, 1), (HBIND.CTL_TUN_SEC, 1, 0)]).put HOSTG.TUN_RTO 0 0 with tunQ := [⟨1, 3, 1, [], [], 7, 0⟩] }, by decide⟩,
   ⟨1, { (st [(HBIND.CTL_ATTACH, 1, 2), (HBIND.STATUS_UP, 1, 1), (HBIND.STATUS_SESSION, 1, 9), (BOOT.STATUS_READY, 0, 1), (HBIND.CTL_TUN_SEC, 1, 0)]).put HOSTG.TUN_RTO 0 0 with tunQ := [⟨1, 3, 1, [], [], 8, 0⟩] }, by decide⟩,
   ⟨1, State.reset, by decide⟩,
   ⟨1, (st [(HBIND.CTL_ATTACH, 1, 2), (HBIND.STATUS_UP, 1, 1), (HBIND.STATUS_SESSION, 1, 9), (BOOT.STATUS_READY, 0, 1), (HBIND.CTL_TUN_SEC, 1, 0)]).put CLK.SEC 0 3, by decide⟩,
   ⟨1, st [(HBIND.CTL_ATTACH, 1, 2), (HBIND.STATUS_UP, 1, 1), (HBIND.STATUS_SESSION, 1, 9), (BOOT.STATUS_READY, 0, 1), (HBIND.CTL_TUN_SEC, 1, 0)], by decide⟩,
   ⟨1, State.reset, by decide⟩,
   ⟨1, (st [(HBIND.CTL_ATTACH, 1, 2), (HBIND.STATUS_UP, 1, 1), (HBIND.STATUS_SESSION, 1, 9), (BOOT.STATUS_READY, 0, 1), (HBIND.CTL_TUN_SEC, 1, 0)]).put CLK.SEC 0 1, by decide⟩,
   ⟨1, State.reset, by decide⟩⟩

/-- The hypotheses of HedgeResets can be met, clause by clause. -/
theorem witness_HedgeResets :
    (∃ (r : Req) (i v : Nat) (s : State), i < 9 ∧ s.get HOSTH.STATUS_IN_RESET i ≠ 0 ∧ s.reachWord r (HOSTH.CTL_HRESET.addr i) 4 = 0)
    ∧ (∃ (r : Req) (i v : Nat) (s : State), i < 9 ∧ s.get HOSTH.STATUS_IN_RESET i = 0 ∧ s.reachWord r (HOSTH.CTL_HRESET.addr i) 4 = 0)
    ∧ (∃ (r : Req) (h : Nat) (s : State), h < 8 ∧ s.reachWord r (HBIND.CTL_HRESET.addr h) 4 = 0)
    ∧ (∃ (h : Nat) (s : State), h < 8 ∧ s.get HOSTH.STATUS_IN_RESET h ≠ 0 ∧ s.get HST.RUN_END h ≠ 0 ∧ s.get FLT.STATUS_STATE ≠ 2 ∧ s.get BOOT.STATUS_READY ≠ 0)
    ∧ (∃ (h : Nat) (s : State), (s.get HST.RUN_END h = 0 ∨ s.get FLT.STATUS_STATE = 2 ∨ s.get BOOT.STATUS_READY = 0))
    ∧ (∃ (r : Req) (i v : Nat) (s : State), i < 9 ∧ v % 2 = 1 ∧ s.reachWord r (HOSTH.CNT_CLR_DISCARD.addr i) 4 = 0)
    ∧ (∃ (r : Req) (i v : Nat) (s : State), v % 2 = 0 ∧ s.reachWord r (HOSTH.CNT_CLR_DISCARD.addr i) 4 = 0) :=
  ⟨⟨.hedge 7, 7, 0x100, st [(HOSTH.STATUS_IN_RESET, 7, 1), (BOOT.STATUS_READY, 0, 1)], by decide⟩,
   ⟨.steward, 8, 0x100, State.reset, by decide⟩,
   ⟨.steward, 7, State.reset, by decide⟩,
   ⟨7, st [(HOSTH.STATUS_IN_RESET, 7, 1), (HST.RUN_END, 7, 1), (BOOT.STATUS_READY, 0, 1)], by decide⟩,
   ⟨7, State.reset, by decide⟩,
   ⟨.hedge 7, 7, 1, st [(BOOT.STATUS_READY, 0, 1), (HOSTH.HEDGE_DISCARD_CNT, 7, 5)], by decide⟩,
   ⟨.hedge 7, 7, 2, st [(BOOT.STATUS_READY, 0, 1)], by decide⟩⟩

/-- The hypotheses of TwinLinkAndWires can be met, clause by clause. -/
theorem witness_TwinLinkAndWires :
    (∃ (r : Req) (v lanes : Nat) (s : State), s.reachWord r (TWIN.CFG_EN.addr 0) 4 = 0 ∧ ((v % 2 = 1 ∧ s.get TWIN.CFG_EN ≠ 0) ∨ (v % 2 = 0 ∧ s.get TWIN.CFG_EN = 0)))
    ∧ (∃ (r : Req) (v lanes : Nat) (s : State), s.reachWord r (TWIN.CFG_EN.addr 0) 4 = 0 ∧ v % 2 = 1 ∧ s.get TWIN.CFG_EN = 0)
    ∧ (∃ (r : Req) (v lanes : Nat) (s : State), s.reachWord r (TWIN.CFG_EN.addr 0) 4 = 0 ∧ v % 2 = 0 ∧ s.get TWIN.CFG_EN ≠ 0)
    ∧ (∃ (eui prefer role schema : Nat) (same : Bool) (s : State), s.get TWIN.CFG_EN = 0)
    ∧ (∃ (eui prefer role schema : Nat) (same : Bool) (s : State), s.get TWIN.CFG_EN ≠ 0 ∧ s.get TWINX.WAIT = 0)
    ∧ (∃ (eui prefer role schema : Nat) (same : Bool) (s : State), s.get TWIN.CFG_EN ≠ 0 ∧ s.get TWINX.WAIT ≠ 0)
    ∧ (∃ (s : State), s.get TWINX.WAIT ≠ 0 ∧ ticksGeUs (s.mp - s.get TWINX.EN_AT) 10000000 = true)
    ∧ (∃ (s : State), (s.get TWINX.WAIT = 0 ∨ ticksGeUs (s.mp - s.get TWINX.EN_AT) 10000000 = false))
    ∧ (∃ (s : State), s.get TWIN.CFG_EN ≠ 0 ∧ ticksGeUs (s.mp - s.get TWINX.SENT) 100 = true)
    ∧ (∃ (s : State), (s.get TWIN.CFG_EN = 0 ∨ ticksGeUs (s.mp - s.get TWINX.SENT) 100 = false))
    ∧ (∃ (s : State), s.get TWIN.STATUS_LINK_UP ≠ 0 ∧ ticksGeUs (s.mp - s.get TWINX.HEARD) (s.get TWIN.LOSS_US) = true)
    ∧ (∃ (s : State), (s.get TWIN.STATUS_LINK_UP = 0 ∨ ticksGeUs (s.mp - s.get TWINX.HEARD) (s.get TWIN.LOSS_US) = false))
    ∧ (∃ (s : State), s.get TWIN.CFG_EN ≠ 0 ∧ s.get TWIN.STATUS_LANES ≠ 0)
    ∧ (∃ (s : State), (s.get TWIN.CFG_EN = 0 ∨ s.get TWIN.STATUS_LANES = 0))
    ∧ (∃ (s : State), s.get TWIN.STATUS_PARTNER_HB ≠ 0 ∧ ticksGeUs (s.mp - s.get TWINX.HB_EDGE) (s.get TWIN.LOSS_US) = true)
    ∧ (∃ (s : State), (s.get TWIN.STATUS_PARTNER_HB = 0 ∨ ticksGeUs (s.mp - s.get TWINX.HB_EDGE) (s.get TWIN.LOSS_US) = false))
    ∧ (∃ (s : State), s.get TWIN.CFG_EN ≠ 0 ∧ s.get TWIN.STATUS_PARTNER_FAULT = 0)
    ∧ (∃ (s : State), s.get TWIN.STATUS_PARTNER_FAULT ≠ 0)
    ∧ (∃ (port source seq : Nat) (lanB sup : Bool) (s : State), s.get PRP.CTL_EN ≠ 0 ∧ port < 2 ∧ (((s.prpTab.filter fun x => decide ((s.mp - x.2.2) * 1000 < s.get PRP.FORGET_MS * 2 ^ 24)).any fun x => x.1 == source && x.2.1 == seq) = false))
    ∧ (∃ (port source seq : Nat) (lanB sup : Bool) (s : State), s.get PRP.CTL_EN ≠ 0 ∧ port < 2 ∧ (((s.prpTab.filter fun x => decide ((s.mp - x.2.2) * 1000 < s.get PRP.FORGET_MS * 2 ^ 24)).any fun x => x.1 == source && x.2.1 == seq) = true))
    ∧ (∃ (port source seq : Nat) (lanB sup : Bool) (s : State), s.get PRP.CTL_EN = 0)
    ∧ (∃ (s : State), s.get PRP.CTL_EN ≠ 0 ∧ s.get PRP.SUP_INT_MS * 2 ^ 24 ≤ (s.mp - s.get PRPX.SUP_AT) * 1000)
    ∧ (∃ (s : State), (s.get PRP.CTL_EN = 0 ∨ (s.mp - s.get PRPX.SUP_AT) * 1000 < s.get PRP.SUP_INT_MS * 2 ^ 24))
    ∧ (∃ (port : Nat) (s : State), s.get PRP.CTL_EN ≠ 0 ∧ port < 2 ∧ 3 * s.get PRP.SUP_INT_MS * 2 ^ 24 ≤ (s.mp - s.get PRPX.HEARD port) * 1000)
    ∧ (∃ (port : Nat) (s : State), (s.get PRP.CTL_EN = 0 ∨ (s.mp - s.get PRPX.HEARD port) * 1000 < 3 * s.get PRP.SUP_INT_MS * 2 ^ 24)) :=
  ⟨⟨.steward, 6, 2, State.reset, by decide⟩,
   ⟨.steward, 7, 1, State.reset, by decide⟩,
   ⟨.steward, 0, 2, st [(TWIN.CFG_EN, 0, 1), (TWIN.STATUS_ROLE, 0, 1)], by decide⟩,
   ⟨5, 0, 0, 1, true, State.reset, by decide⟩,
   ⟨5, 0, 0, 1, false, st [(TWIN.CFG_EN, 0, 1), (TWIN.STATUS_LANES, 0, 2), (TWINX.PARTNER, 0, 5), (TWIN.STATUS_ROLE, 0, 2)], by decide⟩,
   ⟨5, 0, 0, 1, true, st [(TWIN.CFG_EN, 0, 1), (TWINX.WAIT, 0, 1), (TWIN.STATUS_LANES, 0, 2)], by decide⟩,
   ⟨st [(TWINX.WAIT, 0, 1), (CLK.SEC, 0, 1577836900)], by decide⟩,
   ⟨State.reset, by decide⟩,
   ⟨st [(TWIN.CFG_EN, 0, 1), (CLK.SEC, 0, 1577836900)], by decide⟩,
   ⟨State.reset, by decide⟩,
   ⟨st [(TWIN.STATUS_LINK_UP, 0, 1), (CLK.SEC, 0, 1577836900)], by decide⟩,
   ⟨State.reset, by decide⟩,
   ⟨st [(TWIN.CFG_EN, 0, 1), (TWIN.STATUS_LANES, 0, 2)], by decide⟩,
   ⟨State.reset, by decide⟩,
   ⟨st [(TWIN.STATUS_PARTNER_HB, 0, 1), (CLK.SEC, 0, 1577836900), (TWIN.STATUS_ROLE, 0, 2), (TWIN.CFG_AUTO_TAKEOVER, 0, 1), (TWIN.STATUS_SYNCED, 0, 1)], by decide⟩,
   ⟨State.reset, by decide⟩,
   ⟨st [(TWIN.CFG_EN, 0, 1), (TWIN.STATUS_ROLE, 0, 2), (TWIN.CFG_AUTO_TAKEOVER, 0, 1), (TWIN.STATUS_SYNCED, 0, 1)], by decide⟩,
   ⟨st [(TWIN.STATUS_PARTNER_FAULT, 0, 1), (TWIN.STATUS_ROLE, 0, 2)], by decide⟩,
   ⟨0, 5, 6, true, true, st [(PRP.CTL_EN, 0, 1)], by decide⟩,
   ⟨1, 5, 6, true, false, { st [(PRP.CTL_EN, 0, 1), (PRP.FORGET_MS, 0, 400)] with prpTab := [(5, 6, 0)] }, by decide⟩,
   ⟨1, 5, 6, true, true, State.reset, by decide⟩,
   ⟨st [(PRP.CTL_EN, 0, 1), (CLK.SEC, 0, 1577836900)], by decide⟩,
   ⟨State.reset, by decide⟩,
   ⟨1, st [(PRP.CTL_EN, 0, 1), (CLK.SEC, 0, 1577836900)], by decide⟩,
   ⟨1, State.reset, by decide⟩⟩

/-- The hypotheses of TwinRolesAndSnapshots can be met, clause by clause. -/
theorem witness_TwinRolesAndSnapshots :
    (∃ (r : Req) (s : State), s.reachWord r (TWIN.CMD_TAKEOVER.addr 0) 4 = 0 ∧ s.standby = true ∧ s.get TWIN.STATUS_SYNCED ≠ 0)
    ∧ (∃ (r : Req) (s : State), s.reachWord r (TWIN.CMD_TAKEOVER.addr 0) 4 = 0 ∧ (s.standby = false ∨ s.get TWIN.STATUS_SYNCED = 0))
    ∧ (∃ (r : Req) (s : State), s.reachWord r (TWIN.CMD_SWITCH.addr 0) 4 = 0 ∧ s.get TWIN.STATUS_ROLE = 1 ∧ s.get TWIN.STATUS_LINK_UP ≠ 0)
    ∧ (∃ (r : Req) (s : State), s.reachWord r (TWIN.CMD_SWITCH.addr 0) 4 = 0 ∧ (s.get TWIN.STATUS_ROLE ≠ 1 ∨ s.get TWIN.STATUS_LINK_UP = 0))
    ∧ (∃ (cause : Nat) (s : State), s.get TWIN.CFG_EN ≠ 0 ∧ (let u := s; (let p := u.get TWIN.STATUS_LINK_UP; let u := (u.put TWIN.STATUS_LINK_UP 0 1).put TWINX.HEARD 0 u.mp; if p ≠ 0 then u else (if u.standby = false then u else match u.takeCause with | some k => (if u.get TWIN.CFG_AUTO_TAKEOVER ≠ 0 ∧ u.get TWIN.STATUS_SYNCED ≠ 0 then u.takeover k else u) | none => (if u.get TWIN.STATUS_LINK_UP = 0 then u.put TWIN.EVENT_LINK_DOWN 0 1 else u)))).standby = true ∧ (let u := s; (let p := u.get TWIN.STATUS_LINK_UP; let u := (u.put TWIN.STATUS_LINK_UP 0 1).put TWINX.HEARD 0 u.mp; if p ≠ 0 then u else (if u.standby = false then u else match u.takeCause with | some k => (if u.get TWIN.CFG_AUTO_TAKEOVER ≠ 0 ∧ u.get TWIN.STATUS_SYNCED ≠ 0 then u.takeover k else u) | none => (if u.get TWIN.STATUS_LINK_UP = 0 then u.put TWIN.EVENT_LINK_DOWN 0 1 else u)))).get TWIN.STATUS_SYNCED ≠ 0)
    ∧ (∃ (cause : Nat) (s : State), s.get TWIN.CFG_EN ≠ 0 ∧ ((let u := s; (let p := u.get TWIN.STATUS_LINK_UP; let u := (u.put TWIN.STATUS_LINK_UP 0 1).put TWINX.HEARD 0 u.mp; if p ≠ 0 then u else (if u.standby = false then u else match u.takeCause with | some k => (if u.get TWIN.CFG_AUTO_TAKEOVER ≠ 0 ∧ u.get TWIN.STATUS_SYNCED ≠ 0 then u.takeover k else u) | none => (if u.get TWIN.STATUS_LINK_UP = 0 then u.put TWIN.EVENT_LINK_DOWN 0 1 else u)))).standby = false ∨ (let u := s; (let p := u.get TWIN.STATUS_LINK_UP; let u := (u.put TWIN.STATUS_LINK_UP 0 1).put TWINX.HEARD 0 u.mp; if p ≠ 0 then u else (if u.standby = false then u else match u.takeCause with | some k => (if u.get TWIN.CFG_AUTO_TAKEOVER ≠ 0 ∧ u.get TWIN.STATUS_SYNCED ≠ 0 then u.takeover k else u) | none => (if u.get TWIN.STATUS_LINK_UP = 0 then u.put TWIN.EVENT_LINK_DOWN 0 1 else u)))).get TWIN.STATUS_SYNCED = 0))
    ∧ (∃ (late : Bool) (ofs : Int) (s : State), s.get TWIN.STATUS_ROLE = 1 ∧ s.get TWIN.STATUS_LINK_UP ≠ 0 ∧ s.get TWINX.CYCLE ≤ s.twinCycle)
    ∧ (∃ (late : Bool) (ofs : Int) (s : State), (s.get TWIN.STATUS_ROLE ≠ 1 ∨ s.get TWIN.STATUS_LINK_UP = 0 ∨ s.twinCycle < s.get TWINX.CYCLE))
    ∧ (∃ (x : TwinSnap) (ofs : Int) (s : State), s.standby = true ∧ (let u := (let u := s; (let p := u.get TWIN.STATUS_LINK_UP; let u := (u.put TWIN.STATUS_LINK_UP 0 1).put TWINX.HEARD 0 u.mp; if p ≠ 0 then u else (if u.standby = false then u else match u.takeCause with | some k => (if u.get TWIN.CFG_AUTO_TAKEOVER ≠ 0 ∧ u.get TWIN.STATUS_SYNCED ≠ 0 then u.takeover k else u) | none => (if u.get TWIN.STATUS_LINK_UP = 0 then u.put TWIN.EVENT_LINK_DOWN 0 1 else u)))); (let u := u.putI TWIN.PHASE_OFS 0 ofs; if 20000 < ofs.natAbs then u.put TWIN.EVENT_PHASE_SPLIT 0 1 else u)).standby = true ∧ x.schema ≠ s.get TWIN.SCHEMA_OWN ∧ x.schema + 1 ≠ s.get TWIN.SCHEMA_OWN)
    ∧ (∃ (x : TwinSnap) (ofs : Int) (s : State), s.standby = true ∧ (let u := (let u := s; (let p := u.get TWIN.STATUS_LINK_UP; let u := (u.put TWIN.STATUS_LINK_UP 0 1).put TWINX.HEARD 0 u.mp; if p ≠ 0 then u else (if u.standby = false then u else match u.takeCause with | some k => (if u.get TWIN.CFG_AUTO_TAKEOVER ≠ 0 ∧ u.get TWIN.STATUS_SYNCED ≠ 0 then u.takeover k else u) | none => (if u.get TWIN.STATUS_LINK_UP = 0 then u.put TWIN.EVENT_LINK_DOWN 0 1 else u)))); (let u := u.putI TWIN.PHASE_OFS 0 ofs; if 20000 < ofs.natAbs then u.put TWIN.EVENT_PHASE_SPLIT 0 1 else u)).standby = true ∧ (x.schema = s.get TWIN.SCHEMA_OWN ∨ x.schema + 1 = s.get TWIN.SCHEMA_OWN))
    ∧ (∃ (x : TwinSnap) (ofs : Int) (s : State), s.standby = true ∧ (let u := (let u := s; (let p := u.get TWIN.STATUS_LINK_UP; let u := (u.put TWIN.STATUS_LINK_UP 0 1).put TWINX.HEARD 0 u.mp; if p ≠ 0 then u else (if u.standby = false then u else match u.takeCause with | some k => (if u.get TWIN.CFG_AUTO_TAKEOVER ≠ 0 ∧ u.get TWIN.STATUS_SYNCED ≠ 0 then u.takeover k else u) | none => (if u.get TWIN.STATUS_LINK_UP = 0 then u.put TWIN.EVENT_LINK_DOWN 0 1 else u)))); (let u := u.putI TWIN.PHASE_OFS 0 ofs; if 20000 < ofs.natAbs then u.put TWIN.EVENT_PHASE_SPLIT 0 1 else u)).standby = false)
    ∧ (∃ (x : TwinSnap) (ofs : Int) (s : State), s.standby = false)
    ∧ (∃ (h e counter : Nat) (s : State), s.get TWIN.CFG_EN ≠ 0 ∧ ((let u := s; (let p := u.get TWIN.STATUS_LINK_UP; let u := (u.put TWIN.STATUS_LINK_UP 0 1).put TWINX.HEARD 0 u.mp; if p ≠ 0 then u else (if u.standby = false then u else match u.takeCause with | some k => (if u.get TWIN.CFG_AUTO_TAKEOVER ≠ 0 ∧ u.get TWIN.STATUS_SYNCED ≠ 0 then u.takeover k else u) | none => (if u.get TWIN.STATUS_LINK_UP = 0 then u.put TWIN.EVENT_LINK_DOWN 0 1 else u)))).bump TWIN.MIRROR_CNT).named h e = true)
    ∧ (∃ (h e counter : Nat) (s : State), s.get TWIN.CFG_EN ≠ 0 ∧ ((let u := s; (let p := u.get TWIN.STATUS_LINK_UP; let u := (u.put TWIN.STATUS_LINK_UP 0 1).put TWINX.HEARD 0 u.mp; if p ≠ 0 then u else (if u.standby = false then u else match u.takeCause with | some k => (if u.get TWIN.CFG_AUTO_TAKEOVER ≠ 0 ∧ u.get TWIN.STATUS_SYNCED ≠ 0 then u.takeover k else u) | none => (if u.get TWIN.STATUS_LINK_UP = 0 then u.put TWIN.EVENT_LINK_DOWN 0 1 else u)))).bump TWIN.MIRROR_CNT).named h e = false)
    ∧ (∃ (h e counter : Nat) (s : State), s.get TWIN.CFG_EN = 0)
    ∧ (∃ (r : Req) (ok : List Bool) (s : State), s.standby = true ∧ s.reachWord r (TWIN.CMD_LOOP.addr 0) 4 = 0)
    ∧ (∃ (r : Req) (ok : List Bool) (s : State), s.standby = false ∧ s.reachWord r (TWIN.CMD_LOOP.addr 0) 4 = 0)
    ∧ (∃ (ok : List Bool) (s : State), s.standby = true ∧ s.get TWIN.LOOP_S * 2 ^ 24 ≤ s.mp - s.get TWINX.LOOP_AT)
    ∧ (∃ (ok : List Bool) (s : State), (s.standby = false ∨ s.mp - s.get TWINX.LOOP_AT < s.get TWIN.LOOP_S * 2 ^ 24))
    ∧ (∃ (at_ : Nat) (s : State), s.get TWIN.STATUS_ROLE = 1 ∧ s.get TWINX.ACTIVE_AT < at_)
    ∧ (∃ (at_ : Nat) (s : State), (s.get TWIN.STATUS_ROLE ≠ 1 ∨ at_ ≤ s.get TWINX.ACTIVE_AT)) :=
  ⟨⟨.steward, st [(TWIN.STATUS_ROLE, 0, 2), (TWIN.STATUS_SYNCED, 0, 1)], by decide⟩,
   ⟨.steward, State.reset, by decide⟩,
   ⟨.steward, st [(TWIN.STATUS_ROLE, 0, 1), (TWIN.STATUS_LINK_UP, 0, 1)], by decide⟩,
   ⟨.steward, State.reset, by decide⟩,
   ⟨3, st [(TWIN.CFG_EN, 0, 1), (TWIN.STATUS_ROLE, 0, 2), (TWIN.STATUS_SYNCED, 0, 1), (TWIN.STATUS_LINK_UP, 0, 1)], by decide⟩,
   ⟨3, st [(TWIN.CFG_EN, 0, 1)], by decide⟩,
   ⟨true, 20001, st [(TWIN.STATUS_ROLE, 0, 1), (TWIN.STATUS_LINK_UP, 0, 1)], by decide⟩,
   ⟨true, 0, State.reset, by decide⟩,
   ⟨(⟨9, 0, 0, 0, true, [], [], [], [], [], [], []⟩ : TwinSnap), 0, st [(TWIN.STATUS_ROLE, 0, 2), (TWIN.STATUS_LINK_UP, 0, 1)], by decide⟩,
   ⟨(⟨State.reset.get TWIN.SCHEMA_OWN, 4, 0, 2, true, [], [], [], [], [], [], []⟩ : TwinSnap), 0, st [(TWIN.STATUS_ROLE, 0, 2), (TWIN.STATUS_LINK_UP, 0, 1)], by decide⟩,
   ⟨(⟨State.reset.get TWIN.SCHEMA_OWN, 4, 0, 2, true, [], [], [], [], [], [], []⟩ : TwinSnap), 0, st [(TWIN.STATUS_ROLE, 0, 2), (TWIN.STATUS_PARTNER_FAULT, 0, 1), (TWIN.CFG_AUTO_TAKEOVER, 0, 1), (TWIN.STATUS_SYNCED, 0, 1)], by decide⟩,
   ⟨(⟨9, 0, 0, 0, true, [], [], [], [], [], [], []⟩ : TwinSnap), 0, State.reset, by decide⟩,
   ⟨1, 6, 9, st [(TWIN.CFG_EN, 0, 1), (TWIN.STATUS_LINK_UP, 0, 1), (E.STATE, 6, 2), (E.HEDGE, 6, 1)], by decide⟩,
   ⟨1, 6, 9, st [(TWIN.CFG_EN, 0, 1)], by decide⟩,
   ⟨1, 6, 9, State.reset, by decide⟩,
   ⟨.steward, [true, true, false, true], st [(TWIN.STATUS_ROLE, 0, 2)], by decide⟩,
   ⟨.steward, [true, true, false, true], State.reset, by decide⟩,
   ⟨[true, true, true, true], st [(TWIN.STATUS_ROLE, 0, 2), (TWIN.LOOP_S, 0, 0)], by decide⟩,
   ⟨[], State.reset, by decide⟩,
   ⟨1, st [(TWIN.STATUS_ROLE, 0, 1)], by decide⟩,
   ⟨0, st [(TWIN.STATUS_ROLE, 0, 1)], by decide⟩⟩

/-- The hypotheses of ResetSources can be met, clause by clause. -/
theorem witness_ResetSources :
    (∃ (ns : Nat) (take : Bool) (s : State), (1000 ≤ ns ∨ (200 ≤ ns ∧ take = true)))
    ∧ (∃ (ns : Nat) (take : Bool) (s : State), (ns < 200 ∨ (ns < 1000 ∧ take = false)))
    ∧ (∃ (ns : Nat) (take : Bool) (s : State), (1000 ≤ ns ∨ (200 ≤ ns ∧ take = true)))
    ∧ (∃ (ns : Nat) (take : Bool) (s : State), (ns < 200 ∨ (ns < 1000 ∧ take = false)))
    ∧ (∃ (s : State), (s.sourceFault 0x0202 0 5 4).get RSTX.LEVEL = 0)
    ∧ (∃ (s : State), (s.sourceFault 0x0202 0 5 4).get RSTX.LEVEL ≠ 0)
    ∧ (∃ (s : State), s.get BOOT.STATUS_HOLD = 4)
    ∧ (∃ (s : State), s.get BOOT.STATUS_HOLD ≠ 4)
    ∧ (∃ (r : Req) (s : State), s.reachWord r (RST.CMD.addr 0) 4 = 0)
    ∧ (∃ (r : Req) (s : State), s.reachWord r (RST.CMD.addr 0) 4 = 0 ∧ s.get FLT.STATUS_STATE ≠ 2)
    ∧ (∃ (r : Req) (s : State), s.reachWord r (RST.CMD.addr 0) 4 = 0 ∧ s.get FLT.STATUS_STATE = 2)
    ∧ (∃ (x : BootIn) (s : State), (s.get RSTX.LEVEL < 2 ∨ s.get RSTX.HELD ≠ 0 ∨ s.get RSTX.STOPPED ≠ 0 ∨ s.get BOOTX.RECOV ≠ 0))
    ∧ (∃ (x : BootIn) (s : State), 2 ≤ s.get RSTX.LEVEL ∧ s.get RSTX.HELD = 0 ∧ s.get RSTX.STOPPED = 0 ∧ s.get BOOTX.RECOV = 0)
    ∧ (∃ (p l a d q : Nat) (s : State), s.get RSTX.LEVEL = 1)
    ∧ (∃ (x y : Bool) (p l a d q : Nat) (s : State), s.get RSTX.LEVEL = 1 ∧ (x = false ∨ y = false))
    ∧ (∃ (x y : Bool) (p l a d q : Nat) (s : State), s.get RSTX.LEVEL ≠ 1) :=
  ⟨⟨200, true, State.reset, by decide⟩,
   ⟨199, true, State.reset, by decide⟩,
   ⟨1000, false, State.reset, by decide⟩,
   ⟨999, false, State.reset, by decide⟩,
   ⟨st [(FLT.STATUS_STATE, 0, 2), (RSTX.LEVEL, 0, 0)], by decide⟩,
   ⟨State.reset, by decide⟩,
   ⟨st [(BOOT.STATUS_HOLD, 0, 4)], by decide⟩,
   ⟨State.reset, by decide⟩,
   ⟨.steward, State.reset, by decide⟩,
   ⟨.steward, State.reset, by decide⟩,
   ⟨.steward, st [(FLT.STATUS_STATE, 0, 2)], by decide⟩,
   ⟨(⟨0, [], true, 3, [], [], [], 0⟩ : BootIn), st [(RSTX.HELD, 0, 1)], by decide⟩,
   ⟨(⟨0, [], true, 3, [], [], [], 0⟩ : BootIn), st [(RSTX.LEVEL, 0, 2)], by decide⟩,
   ⟨0, 0, 0, 0, 0, st [(RSTX.LEVEL, 0, 1)], by decide⟩,
   ⟨true, false, 0, 0, 0, 0, 0, st [(RSTX.LEVEL, 0, 1)], by decide⟩,
   ⟨true, true, 0, 0, 0, 0, 0, st [(RSTX.LEVEL, 0, 2)], by decide⟩⟩

/-- The hypotheses of BootAndImages can be met, clause by clause. -/
theorem witness_BootAndImages :
    (∃ (r : Req) (s : State), s.reachWord r (BOOT.CTL_CONFIRM.addr 0) 4 = 0 ∧ s.get BOOT.STATUS_TRIAL = 0)
    ∧ (∃ (r : Req) (s : State), s.reachWord r (BOOT.CTL_CONFIRM.addr 0) 4 = 0 ∧ s.get BOOT.STATUS_TRIAL ≠ 0)
    ∧ (∃ (r : Req) (x : BootIn) (s : State), s.reachWord r (BOOT.RECOV_GO.addr 0) 4 = 0 ∧ s.get BOOTX.RECOV = 0)
    ∧ (∃ (r : Req) (x : BootIn) (s : State), s.reachWord r (BOOT.RECOV_GO.addr 0) 4 = 0 ∧ s.get BOOTX.RECOV ≠ 0)
    ∧ (∃ (c : Cmd) (addr len : Nat) (act : Bool) (slot : Nat) (s : State), s.get BOOT.STATUS_TRIAL ≠ 0)
    ∧ (∃ (c : Cmd) (addr len : Nat) (act : Bool) (slot : Nat) (s : State), s.get BOOT.STATUS_TRIAL = 0 ∧ (1 < slot ∨ (s.get BOOT.STATUS_RECOVERY = 0 ∧ slot ≠ 0) ∨ len = 0 ∨ 0x1000000 < len))
    ∧ (∃ (c : Cmd) (addr len : Nat) (act : Bool) (slot : Nat) (s : State), s.get BOOT.STATUS_TRIAL = 0 ∧ (slot = 0 ∨ (slot = 1 ∧ s.get BOOT.STATUS_RECOVERY ≠ 0)) ∧ 1 ≤ len ∧ len ≤ 0x1000000)
    ∧ (∃ (s : State), s.get BOOTX.WON = 0)
    ∧ (∃ (s : State), s.get BOOTX.WON ≠ 0)
    ∧ (∃ (c : Cmd) (addr mask : Nat) (foreign : Bool) (s : State), s.calRest = false)
    ∧ (∃ (c : Cmd) (addr mask : Nat) (foreign : Bool) (s : State), s.calRest = true ∧ (256 ≤ mask ∨ calHeadOk (fun o n : Nat => s.hostRead c.ring (addr + o) n) = false ∨ (((List.range 8).filter (bit mask)).any fun id => (calGood (fun o n : Nat => s.hostRead c.ring (addr + o) n) id).isNone) = true ∨ (foreign = false ∧ oct (s.hostRead c.ring (addr + 8) 8) 0 8 ≠ s.get SYS.EUI64)))
    ∧ (∃ (c : Cmd) (addr mask : Nat) (foreign : Bool) (s : State), s.calRest = true ∧ mask < 256 ∧ (calHeadOk (fun o n : Nat => s.hostRead c.ring (addr + o) n) = true) ∧ ((((List.range 8).filter (bit mask)).any fun id => (calGood (fun o n : Nat => s.hostRead c.ring (addr + o) n) id).isNone) = false) ∧ (foreign = true ∨ oct (s.hostRead c.ring (addr + 8) 8) 0 8 = s.get SYS.EUI64))
    ∧ (∃ (r : Req) (ports : Nat) (s : State), s.reachWord r (CAL.CMD_SAVE_TUNER.addr 0) 4 = 0 ∧ ports % 16 = 0)
    ∧ (∃ (r : Req) (ports : Nat) (s : State), s.reachWord r (CAL.CMD_SAVE_TUNER.addr 0) 4 = 0 ∧ ports % 16 ≠ 0) :=
  ⟨⟨.steward, State.reset, by decide⟩,
   ⟨.steward, st [(BOOT.STATUS_TRIAL, 0, 1), (BOOTX.LOCK, 0, 1), (BOOT.SVN_RUNNING, 0, 2)], by decide⟩,
   ⟨.steward, (⟨0, [], true, 3, [], [], [], 0⟩ : BootIn), State.reset, by decide⟩,
   ⟨.steward, (⟨0, [], true, 3, [], [], [], 0⟩ : BootIn), st [(BOOTX.RECOV, 0, 1), (BOOT.RECOV_LEN, 0, 0x1000001)], by decide⟩,
   ⟨cmd1, 0, 64, true, 0, st [(BOOT.STATUS_TRIAL, 0, 1)], by decide⟩,
   ⟨cmd1, 0, 0x1000001, true, 0, State.reset, by decide⟩,
   ⟨cmd1, 0, 0x10, true, 0, State.reset, by decide⟩,
   ⟨State.reset, by decide⟩,
   ⟨st [(BOOTX.WON, 0, 1)], by decide⟩,
   ⟨cmd1, 0, 1, true, st [(TXC.STATUS_STATE, 3, 3)], by decide⟩,
   ⟨cmd1, 0, 256, true, State.reset, by decide⟩,
   ⟨⟨8, 7, 3, false⟩, 0, 0, true, State.reset.hostWrite 8 0 [0x58, 0x54, 0x43, 0x4C, 1], by decide⟩,
   ⟨.steward, 16, State.reset, by decide⟩,
   ⟨.steward, 5, State.reset, by decide⟩⟩

/-- The hypotheses of CalendarAndTriggers can be met, clause by clause. -/
theorem witness_CalendarAndTriggers :
    (∃ (s : State), s.get RTC.CTL_HALT ≠ 0)
    ∧ (∃ (s : State), s.get RTC.CTL_HALT = 0)
    ∧ (∃ (r : Req) (k : Nat) (s : State), k < 8 ∧ s.reachWord r (RTC.SEC.addr 0 + 4 * k) 4 = 0)
    ∧ (∃ (r : Req) (v : Nat) (s : State), s.reachWord r (RTC.CTL_HALT.addr 0) 4 = 0 ∧ bit v 0 = true)
    ∧ (∃ (r : Req) (v : Nat) (s : State), s.reachWord r (RTC.CTL_HALT.addr 0) 4 = 0 ∧ bit v 0 = false ∧ s.get RTC.CTL_HALT ≠ 0)
    ∧ (∃ (r : Req) (v : Nat) (s : State), s.reachWord r (RTC.CTL_HALT.addr 0) 4 = 0 ∧ bit v 0 = false ∧ s.get RTC.CTL_HALT = 0)
    ∧ (∃ (r : Req) (k v : Nat) (s : State), s.reachWord r (RTC.SEC.addr 0 + 4 * k) 4 = 0 ∧ viewOf r = 0 ∧ s.get RTC.CTL_HALT = 0 ∧ k < 8)
    ∧ (∃ (r : Req) (k v : Nat) (s : State), s.reachWord r (RTC.SEC.addr 0 + 4 * k) 4 = 0 ∧ viewOf r = 0 ∧ s.get RTC.CTL_HALT ≠ 0 ∧ k < 8 ∧ k ≠ 3)
    ∧ (∃ (r : Req) (v : Nat) (s : State), s.reachWord r (RTC.SEC.addr 0 + 4 * 3) 4 = 0 ∧ viewOf r = 0 ∧ s.get RTC.CTL_HALT ≠ 0)
    ∧ (∃ (s : State), (s.get RTC.CTL_AUTO_SET = 0 ∨ s.get TIME.SRC_STATUS_STATE ≠ 3 ∨ s.get RTC.CTL_HALT ≠ 0 ∨ (s.calSeconds = (((s.get CLK.SEC : Int) - s.getI TIME.UTC_OFFSET).toNat + dayNumber 1970 1 1 * 86400) ∧ s.get RTC.STATUS_OSC_STOPPED = 0)))
    ∧ (∃ (s : State), s.get RTC.CTL_AUTO_SET ≠ 0 ∧ s.get TIME.SRC_STATUS_STATE = 3 ∧ s.get RTC.CTL_HALT = 0 ∧ (s.calSeconds ≠ (((s.get CLK.SEC : Int) - s.getI TIME.UTC_OFFSET).toNat + dayNumber 1970 1 1 * 86400) ∨ s.get RTC.STATUS_OSC_STOPPED ≠ 0))
    ∧ (∃ (r : Req) (v : Nat) (s : State), s.reachWord r (RTC.PWRON_LEVEL.addr 0) 4 = 0)
    ∧ (∃ (c : Cmd) (n rep : Nat) (due : List Nat) (s : State), n < 16 ∧ (s.get RTC.CTRIG_CTL_OWNER n = 15 ∨ s.get RTC.CTRIG_CTL_OWNER n = c.ring) ∧ s.get RTC.STATUS_OSC_STOPPED = 0 ∧ (calValid due = true ∧ due.getD 3 0 = 0 ∧ (rep ≤ 4 ∨ (0x81 ≤ rep ∧ rep ≤ 0xBC))) ∧ (if s.calSeconds < calSecondsOf due then some (calSecondsOf due) else nextDue rep (calSecondsOf due) s.calSeconds).isSome = true)
    ∧ (∃ (c : Cmd) (n rep : Nat) (due : List Nat) (s : State), n < 16 ∧ ((s.get RTC.CTRIG_CTL_OWNER n ≠ 15 ∧ s.get RTC.CTRIG_CTL_OWNER n ≠ c.ring) ∨ s.get RTC.STATUS_OSC_STOPPED ≠ 0))
    ∧ (∃ (c : Cmd) (n rep : Nat) (due : List Nat) (s : State), n < 16 ∧ (s.get RTC.CTRIG_CTL_OWNER n = 15 ∨ s.get RTC.CTRIG_CTL_OWNER n = c.ring) ∧ s.get RTC.STATUS_OSC_STOPPED = 0 ∧ (¬ (calValid due = true ∧ due.getD 3 0 = 0 ∧ (rep ≤ 4 ∨ (0x81 ≤ rep ∧ rep ≤ 0xBC))) ∨ (if s.calSeconds < calSecondsOf due then some (calSecondsOf due) else nextDue rep (calSecondsOf due) s.calSeconds) = none))
    ∧ (∃ (c : Cmd) (n rep : Nat) (due : List Nat) (s : State), 16 ≤ n)
    ∧ (∃ (c : Cmd) (n : Nat) (s : State), n < 16 ∧ (s.get RTC.CTRIG_CTL_OWNER n = 15 ∨ s.get RTC.CTRIG_CTL_OWNER n = c.ring))
    ∧ (∃ (c : Cmd) (n : Nat) (s : State), n < 16 ∧ s.get RTC.CTRIG_CTL_OWNER n ≠ c.ring ∧ s.get RTC.CTRIG_CTL_OWNER n ≠ 15)
    ∧ (∃ (c : Cmd) (n : Nat) (s : State), 16 ≤ n)
    ∧ (∃ (n : Nat) (s : State), n < 16 ∧ s.get RTC.CTRIG_CTL_PENDING n ≠ 0 ∧ s.get CTX.POSTED n = 0 ∧ s.get BOOT.STATUS_READY ≠ 0 ∧ s.evHeld (s.get RTC.CTRIG_CTL_OWNER n) < 1024)
    ∧ (∃ (n : Nat) (s : State), (s.get CTX.POSTED n ≠ 0 ∨ s.get RTC.CTRIG_CTL_PENDING n = 0 ∨ s.get BOOT.STATUS_READY = 0 ∨ 1024 ≤ s.evHeld (s.get RTC.CTRIG_CTL_OWNER n)))
    ∧ (∃ (h : Nat) (s : State), (s.missedOf h = [] ∨ s.get BOOT.STATUS_READY = 0 ∨ 1020 < s.evHeld h))
    ∧ (∃ (h : Nat) (s : State), h < 8 ∧ s.missedOf h ≠ [] ∧ s.get BOOT.STATUS_READY ≠ 0 ∧ s.evHeld h ≤ 1020)
    ∧ (∃ (s : State), s.get RTC.STATUS_VBAT_LOW = 0)
    ∧ (∃ (s : State), s.get RTC.STATUS_VBAT_LOW ≠ 0)
    ∧ (∃ (low : Bool) (s : State), (if s.get RTC.STATUS_VBAT_LOW ≠ 0 then true else false) = low) :=
  ⟨⟨st [(RTC.CTL_HALT, 0, 1)], by decide⟩,
   ⟨st [(RTC.CTL_HALT, 0, 0), (RTC.ALM_CTL_EN, 0, 1), (RTC.ALM_CTL_MASK, 0, 15)], by decide⟩,
   ⟨.steward, 0, st [(RTC.SEC, 0, 0x59)], by decide⟩,
   ⟨.steward, 3, State.reset, by decide⟩,
   ⟨.steward, 0, st [(RTC.CTL_HALT, 0, 1), (RTC.SEC, 0, 0x60)], by decide⟩,
   ⟨.steward, 2, st [(RTC.CTL_HALT, 0, 0)], by decide⟩,
   ⟨.steward, 7, 0x20, State.reset, by decide⟩,
   ⟨.steward, 4, 0x31, st [(RTC.CTL_HALT, 0, 1)], by decide⟩,
   ⟨.steward, 4, st [(RTC.CTL_HALT, 0, 1)], by decide⟩,
   ⟨State.reset, by decide⟩,
   ⟨st [(RTC.CTL_AUTO_SET, 0, 1), (TIME.SRC_STATUS_STATE, 0, 3), (CLK.SEC, 0, 1577836800), (TIME.UTC_OFFSET, 0, 37)], by decide⟩,
   ⟨.steward, 1, State.reset, by decide⟩,
   ⟨cmd1, 15, 4, [0, 0, 0, 0, 1, 1, 0x99, 0x23], st [(RTC.STATUS_OSC_STOPPED, 0, 0), (RTC.CTRIG_CTL_OWNER, 15, 15)], by decide⟩,
   ⟨cmd1, 15, 0, [], st [(RTC.STATUS_OSC_STOPPED, 0, 1)], by decide⟩,
   ⟨cmd1, 15, 5, [], st [(RTC.STATUS_OSC_STOPPED, 0, 0), (RTC.CTRIG_CTL_OWNER, 15, 15)], by decide⟩,
   ⟨cmd1, 16, 0, [], State.reset, by decide⟩,
   ⟨cmd1, 15, st [(RTC.CTRIG_CTL_OWNER, 15, 1)], by decide⟩,
   ⟨cmd1, 15, st [(RTC.CTRIG_CTL_OWNER, 15, 2)], by decide⟩,
   ⟨cmd1, 16, State.reset, by decide⟩,
   ⟨15, st [(RTC.CTRIG_CTL_OWNER, 15, 1), (RTC.CTRIG_CTL_PENDING, 15, 1), (BOOT.STATUS_READY, 0, 1)], by decide⟩,
   ⟨15, State.reset, by decide⟩,
   ⟨7, State.reset, by decide⟩,
   ⟨7, st [(RTC.CTRIG_CTL_OWNER, 3, 7), (RTC.CTRIG_MISS_CNT, 3, 1), (BOOT.STATUS_READY, 0, 1)], by decide⟩,
   ⟨State.reset, by decide⟩,
   ⟨st [(RTC.STATUS_VBAT_LOW, 0, 1)], by decide⟩,
   ⟨false, State.reset, by decide⟩⟩

/-- The hypotheses of FaultDetection can be met, clause by clause. -/
theorem witness_FaultDetection :
    (∃ (g ea : Nat) (s : State), g < 512 ∧ s.threadState g = 1)
    ∧ (∃ (g ea : Nat) (s : State), s.threadState g ≠ 1)
    ∧ (∃ (k : Nat) (l : List (Nat × Bool)) (s : State), s.get DRX.WRITTEN k = 0)
    ∧ (∃ (k : Nat) (l : List (Nat × Bool)) (s : State), s.get DRX.WRITTEN k ≠ 0)
    ∧ (∃ (e : Nat) (s : State), e < 128)
    ∧ (∃ (p : Nat) (s : State), p < 2 ∧ s.get RXX.PORT_OUT p = 0)
    ∧ (∃ (p : Nat) (ok : Bool) (s : State), (ok = true ∨ s.get RXX.PORT_OUT p ≠ 0))
    ∧ (∃ (n : Nat) (s : State), (n = 4 ∨ n = 5) ∧ (let u := if s.get SY.STATUS_LOCK n ≠ 0 then s.bump SY.LOCK_LOST_CNT n else s; u.put SY.STATUS_LOCK n 0).portOn (n - 2) = true)
    ∧ (∃ (n : Nat) (s : State), (n = 4 ∨ n = 5) ∧ (let u := if s.get SY.STATUS_LOCK n ≠ 0 then s.bump SY.LOCK_LOST_CNT n else s; u.put SY.STATUS_LOCK n 0).portOn (n - 2) = false)
    ∧ (∃ (l : Nat) (s : State), l < 48 ∧ s.get LANE.CFG_EN l ≠ 0 ∧ bit (s.get FLT.LANE_OUT) l = false)
    ∧ (∃ (l : Nat) (ok : Bool) (s : State), (ok = true ∨ s.get LANE.CFG_EN l = 0 ∨ bit (s.get FLT.LANE_OUT) l = true))
    ∧ (∃ (k iters : Nat) (s : State), k < 4 ∧ bit (s.get LDX.OUT) k = false)
    ∧ (∃ (k iters : Nat) (ok : Bool) (s : State), (ok = true ∨ bit (s.get LDX.OUT) k = true))
    ∧ (∃ (core : Nat) (last : Bool) (s : State), core < 4 ∧ bit (s.get FLT.AES_OUT) core = false)
    ∧ (∃ (core : Nat) (last : Bool) (s : State), bit (s.get FLT.AES_OUT) core = true)
    ∧ (∃ (kind : CoreKind) (core : Nat) (last : Bool) (s : State), kind ≠ .aes) :=
  ⟨⟨511, 0, State.reset.putThread 511 1, by decide⟩,
   ⟨511, 0, State.reset, by decide⟩,
   ⟨5, [(0, true)], State.reset, by decide⟩,
   ⟨5, [(4064, true), (0, false)], st [(DRX.WRITTEN, 5, 1)], by decide⟩,
   ⟨127, State.reset, by decide⟩,
   ⟨1, State.reset, by decide⟩,
   ⟨1, false, st [(RXX.PORT_OUT, 1, 1)], by decide⟩,
   ⟨5, st [(APRX.CTL_EN, 3, 1), (SY.STATUS_LOCK, 5, 1)], by decide⟩,
   ⟨4, State.reset, by decide⟩,
   ⟨47, st [(LANE.CFG_EN, 47, 1)], by decide⟩,
   ⟨47, false, State.reset, by decide⟩,
   ⟨3, 8, State.reset, by decide⟩,
   ⟨3, 8, true, State.reset, by decide⟩,
   ⟨3, false, State.reset, by decide⟩,
   ⟨3, false, st [(FLT.AES_OUT, 0, 8)], by decide⟩,
   ⟨.ecc, 0, false, State.reset, by decide⟩⟩

/-- The hypotheses of ScorepadAndInjection can be met, clause by clause. -/
theorem witness_ScorepadAndInjection :
    (∃ (read : List Nat) (s : State), (s.scpQ = [] ∨ s.get FLT.STATUS_SCP_OUT ≠ 0))
    ∧ (∃ (r : SRec) (q : List SRec) (read : List Nat) (s : State), s.scpQ = r :: q ∧ s.get FLT.STATUS_SCP_OUT = 0 ∧ fix 64 read = r.octets (s.get SCPX.NEXT))
    ∧ (∃ (r : SRec) (q : List SRec) (read : List Nat) (s : State), s.scpQ = r :: q ∧ s.get FLT.STATUS_SCP_OUT = 0 ∧ fix 64 read ≠ r.octets (s.get SCPX.NEXT) ∧ s.get SCPX.FAIL_RUN = 0)
    ∧ (∃ (r : SRec) (q : List SRec) (read : List Nat) (s : State), s.scpQ = r :: q ∧ s.get FLT.STATUS_SCP_OUT = 0 ∧ fix 64 read ≠ r.octets (s.get SCPX.NEXT) ∧ s.get SCPX.FAIL_RUN ≠ 0)
    ∧ (∃ (s : State), (s.get SCPX.SUP_UNREP = 0 ∨ s.get FLT.STATUS_SCP_OUT ≠ 0 ∨ (s.get SCPX.SUP_AT ≠ 0 ∧ s.mp < s.get SCPX.SUP_AT + 2 ^ 24)))
    ∧ (∃ (s : State), s.get SCPX.SUP_UNREP ≠ 0 ∧ s.get FLT.STATUS_SCP_OUT = 0 ∧ (s.get SCPX.SUP_AT = 0 ∨ s.get SCPX.SUP_AT + 2 ^ 24 ≤ s.mp))
    ∧ (∃ (c : Cmd) (addr seq era count : Nat) (oldest : Bool) (s : State), (count = 0 ∨ 1024 < count))
    ∧ (∃ (c : Cmd) (addr seq era count : Nat) (oldest : Bool) (s : State), 1 ≤ count ∧ count ≤ 1024 ∧ s.scpKeys = [])
    ∧ (∃ (c : Cmd) (addr seq era count new old : Nat) (oldest : Bool) (s : State), 1 ≤ count ∧ count ≤ 1024 ∧ newestKey s.scpKeys = some new ∧ oldestKey s.scpKeys = some old)
    ∧ (∃ (r : Req) (s : State), s.reachWord r (FLT.INJ_GO.addr 0) 4 = 0 ∧ (s.get BOOT.STATUS_READY = 0 ∨ s.injectClass (s.get FLT.INJECT_CODE) (s.get FLT.INJECT_UNIT) = none))
    ∧ (∃ (r : Req) (a : Nat) (h : Option Nat) (s : State), s.reachWord r (FLT.INJ_GO.addr 0) 4 = 0 ∧ s.get BOOT.STATUS_READY ≠ 0 ∧ s.injectClass (s.get FLT.INJECT_CODE) (s.get FLT.INJECT_UNIT) = some (a, h) ∧ (h.isSome = true ∨ ¬ (s.get FLT.INJECT_CODE = 0x0201 ∨ s.get FLT.INJECT_CODE = 0x0202 ∨ s.get FLT.INJECT_CODE = 0x0302 ∨ s.get FLT.INJECT_CODE = 0x0403)))
    ∧ (∃ (r : Req) (a : Nat) (s : State), s.reachWord r (FLT.INJ_GO.addr 0) 4 = 0 ∧ s.get BOOT.STATUS_READY ≠ 0 ∧ s.injectClass (s.get FLT.INJECT_CODE) (s.get FLT.INJECT_UNIT) = some (a, none) ∧ (s.get FLT.INJECT_CODE = 0x0201 ∨ s.get FLT.INJECT_CODE = 0x0202 ∨ s.get FLT.INJECT_CODE = 0x0302 ∨ s.get FLT.INJECT_CODE = 0x0403))
    ∧ (∃ (n : Nat) (high : Bool) (s : State), bit (s.get PADS.CTL_TAMPER_EN) n = false)
    ∧ (∃ (n : Nat) (high : Bool) (s : State), n < 2 ∧ bit (s.get PADS.CTL_TAMPER_EN) n = true ∧ (high = false ∨ bit (s.get PADS.TAMPER_EVENT) n = true))
    ∧ (∃ (n : Nat) (high : Bool) (s : State), n < 2 ∧ bit (s.get PADS.CTL_TAMPER_EN) n = true ∧ high = true ∧ bit (s.get PADS.TAMPER_EVENT) n = false) :=
  ⟨⟨[], State.reset, by decide⟩,
   ⟨(⟨4, 3, 0, [0, 0, 0, 0, 0, 0, 0, 0], 0, 0, 0, 0, 0, []⟩ : SRec), [], (⟨4, 3, 0, [0, 0, 0, 0, 0, 0, 0, 0], 0, 0, 0, 0, 0, []⟩ : SRec).octets 0, { State.reset with scpQ := [(⟨4, 3, 0, [0, 0, 0, 0, 0, 0, 0, 0], 0, 0, 0, 0, 0, []⟩ : SRec)] }, by decide⟩,
   ⟨(⟨4, 3, 0, [0, 0, 0, 0, 0, 0, 0, 0], 0, 0, 0, 0, 0, []⟩ : SRec), [], [], { State.reset with scpQ := [(⟨4, 3, 0, [0, 0, 0, 0, 0, 0, 0, 0], 0, 0, 0, 0, 0, []⟩ : SRec)] }, by decide⟩,
   ⟨(⟨4, 3, 0, [0, 0, 0, 0, 0, 0, 0, 0], 0, 0, 0, 0, 0, []⟩ : SRec), [], [], { st [(SCPX.FAIL_RUN, 0, 1)] with scpQ := [(⟨4, 3, 0, [0, 0, 0, 0, 0, 0, 0, 0], 0, 0, 0, 0, 0, []⟩ : SRec)] }, by decide⟩,
   ⟨State.reset, by decide⟩,
   ⟨st [(SCPX.SUP_UNREP, 0, 7)], by decide⟩,
   ⟨cmd1, 0, 0, 0, 1025, true, State.reset, by decide⟩,
   ⟨cmd1, 0, 0, 0, 1024, true, State.reset, by decide⟩,
   ⟨cmd1, 0, 0, 0, 1, 6, 5, true, { State.reset with mem.mram := memWriteL [] 320 ((⟨4, 3, 0, [0, 0, 0, 0, 0, 0, 0, 0], 0, 0, 0, 0, 0, []⟩ : SRec).octets 5 ++ (⟨4, 3, 0, [0, 0, 0, 0, 0, 0, 0, 0], 0, 0, 0, 0, 0, []⟩ : SRec).octets 6) }, by decide⟩,
   ⟨.steward, State.reset, by decide⟩,
   ⟨.steward, 5, none, st [(FLT.INJECT_CODE, 0, 0x103), (BOOT.STATUS_READY, 0, 1)], by decide⟩,
   ⟨.steward, 5, st [(FLT.INJECT_CODE, 0, 0x201), (BOOT.STATUS_READY, 0, 1)], by decide⟩,
   ⟨1, true, State.reset.put PADS.CTL_TAMPER_EN 0 0, by decide⟩,
   ⟨0, false, st [(PADS.CTL_TAMPER_EN, 0, 1), (PADS.TAMPER_STATE, 0, 1)], by decide⟩,
   ⟨1, true, st [(PADS.CTL_TAMPER_EN, 0, 2), (BOOT.STATUS_READY, 0, 1)], by decide⟩⟩

/-- The hypotheses of SegmentWindow can be met, clause by clause. -/
theorem witness_SegmentWindow :
    (∃ (g x : Nat) (s : State), x < 2 ^ 31)
    ∧ (∃ (g h a : Nat) (ra : BitVec 5) (s : State), s.issues g = true ∧ (kindOf g).hedge = some h ∧ s.get ENGH.DRAM_BASE h ≤ a ∧ a < s.get ENGH.DRAM_BASE h + s.get ENGH.DRAM_SIZE h ∧ s.r g ra * 2 ^ 24 ≤ a ∧ a < s.r g ra * 2 ^ 24 + 2 ^ 31)
    ∧ (∃ (g h : Nat) (ra : BitVec 5) (s : State), s.issues g = true ∧ (kindOf g).hedge = some h ∧ (s.get ENGH.DRAM_SIZE h = 0 ∨ s.get ENGH.DRAM_BASE h + s.get ENGH.DRAM_SIZE h ≤ s.r g ra * 2 ^ 24 ∨ s.r g ra * 2 ^ 24 + 2 ^ 31 ≤ s.get ENGH.DRAM_BASE h))
    ∧ (∃ (g h : Nat) (ra : BitVec 5) (s : State), s.issues g = true ∧ (kindOf g).hedge = some h ∧ (s.get ENGH.DRAM_SIZE h = 0 ∨ s.get ENGH.DRAM_BASE h + s.get ENGH.DRAM_SIZE h ≤ s.r g ra * 2 ^ 24 ∨ s.r g ra * 2 ^ 24 + 2 ^ 31 ≤ s.get ENGH.DRAM_BASE h) ∧ (kindOf g = .program h ∨ (s.get THR.TVEC g ≠ 0 ∧ s.get THR.T g = 0)))
    ∧ (∃ (g h x : Nat) (wr : Bool) (s : State), (kindOf g).hedge = some h ∧ x < 2 ^ 31)
    ∧ (∃ (g h x : Nat) (rd ra : BitVec 5) (s : State), s.issues g = true ∧ (kindOf g).hedge = some h ∧ x < 2 ^ 31 ∧ s.r g ra = 0x80000000 + x ∧ s.get ENGH.DRAM_BASE h ≤ s.get THR.SEG g * 2 ^ 24 + x ∧ s.get THR.SEG g * 2 ^ 24 + x < s.get ENGH.DRAM_BASE h + s.get ENGH.DRAM_SIZE h)
    ∧ (∃ (g h x : Nat) (rd ra : BitVec 5) (s : State), s.issues g = true ∧ (kindOf g).hedge = some h ∧ x < 2 ^ 31 ∧ s.r g ra = 0x80000000 + x ∧ (s.get THR.SEG g * 2 ^ 24 + x < s.get ENGH.DRAM_BASE h ∨ s.get ENGH.DRAM_BASE h + s.get ENGH.DRAM_SIZE h ≤ s.get THR.SEG g * 2 ^ 24 + x)) :=
  ⟨⟨511, 2147483647, State.reset, by decide⟩,
   ⟨449, 0, 0x81000000, 1, (((State.reset.putThread 449 1).put ENGH.DRAM_BASE 0 0x80000000).put ENGH.DRAM_SIZE 0 0x1000001).put THR.W (32 * 449 + 1) 2, by decide⟩,
   ⟨449, 0, 1, (((State.reset.putThread 449 1).put ENGH.DRAM_BASE 0 0x80000000).put ENGH.DRAM_SIZE 0 0x1000000).put THR.W (32 * 449 + 1) 0x81, by decide⟩,
   ⟨449, 0, 1, (((State.reset.putThread 449 1).put ENGH.DRAM_BASE 0 0x80000000).put ENGH.DRAM_SIZE 0 0x1000000).put THR.SEG 449 0x80, by decide⟩,
   ⟨451, 0, 5, true, State.reset, by decide⟩,
   ⟨449, 0, 0x7FFFFFFF, 2, 1, ({ (((State.reset.putThread 449 1).put ENGH.DRAM_BASE 0 0x80000000).put ENGH.DRAM_SIZE 0 0x1000000).put THR.W (32 * 449 + 1) 0xFFFFFFFF with mem.dram := [(0x80FFFFFF, 7)] } : State).put THR.SEG 449 1, by decide⟩,
   ⟨449, 0, 0x7FFFFFFF, 2, 1, ((((State.reset.putThread 449 1).put ENGH.DRAM_BASE 0 0x80000000).put ENGH.DRAM_SIZE 0 0xFFFFFF).put THR.W (32 * 449 + 1) 0xFFFFFFFF).put THR.SEG 449 1, by decide⟩⟩

/-- The hypotheses of ResetCommand can be met, clause by clause. -/
theorem witness_ResetCommand :
    (∃ (r : Req) (s : State), viewOf r = 0 ∧ s.reachWord r 0xD00004 4 = 0)
    ∧ (∃ (r : Req) (s : State), viewOf r = 0 ∧ s.reachWord r 0xD00004 4 = 0 ∧ s.get FLT.STATUS_STATE ≠ 2)
    ∧ (∃ (r : Req) (s : State), viewOf r = 0 ∧ s.reachWord r 0xD00004 4 = 0 ∧ s.get FLT.STATUS_STATE = 2)
    ∧ (∃ (r : Req) (v : Nat) (s : State), viewOf r = 0 ∧ s.reachWord r 0xD00004 4 = 0 ∧ v ≠ 0x53595354 ∧ v ≠ 0x434F5245)
    ∧ (∃ (h v : Nat) (s : State), h < 8 ∧ s.get BOOT.STATUS_READY ≠ 0) :=
  ⟨⟨.priv, State.reset, by decide⟩,
   ⟨.steward, State.reset, by decide⟩,
   ⟨.steward, st [(FLT.STATUS_STATE, 0, 2)], by decide⟩,
   ⟨.steward, 0x53595355, State.reset, by decide⟩,
   ⟨7, 0x53595354, st [(BOOT.STATUS_READY, 0, 1)], by decide⟩⟩



/-! ### The spec's own figures -/

/-- Thread 0, ready, with the registers of the worked example of chapter 12. -/
def wakeThread : State := (((State.reset.putThread 0 1).put THR.W 4 0x00011F3C).put THR.W 5 0x02A44E00).put THR.W 7 0x12344000

/-- HASH w6, w5, w4 gives 0x7396 (chapter 12, worked example). -/
theorem test_hash_wake_channel : (next wakeThread (execHash 0 6 5 4 wakeThread)).get THR.W 6 = 0x7396 := by decide

/-- SHRI w8, w7, 14 gives 0x48D1 (chapter 12, worked example). -/
theorem test_shri_wake_channel : (next wakeThread (execShri 0 8 7 14 wakeThread)).get THR.W 8 = 0x48D1 := by decide

/-- 18,641 times 5 is 93,205 (chapter 12, worked example). -/
theorem test_mul_wake_channel :
    (fun s : State => (next s (execMul 0 8 8 9 s)).get THR.W 8) ((wakeThread.put THR.W 8 0x48D1).put THR.W 9 5) = 0x16C15 := by decide

/-- 93,205 plus 0x7396 is 0x1DFAB, with C and V at 0 (chapter 12, worked example). -/
theorem test_add_wake_channel :
    (fun t : State => (t.get THR.W 8, t.get THR.FLAGS)) (next wakeThread (execAdd 0 8 8 6 ((wakeThread.put THR.W 8 0x16C15).put THR.W 6 0x7396)))
      = (0x1DFAB, 0) := by decide

/-- The channel is 11 (chapter 12, worked example). -/
theorem test_andi_wake_channel : (fun s : State => (next s (execAndi 0 8 8 15 s)).get THR.W 8) (wakeThread.put THR.W 8 0x1DFAB) = 11 := by decide

/-- The part's own hash of the same EUI-64 (chapter 6, worked example). -/
theorem test_wake_hash : wakeHash 0x02A44E0000011F3C = 29590 := by decide

/-- SUN-FSK mode 0x12 with a 40-octet PSDU lasts 4,160 µs (chapter 6, worked example). -/
theorem test_airtime_fsk : airtime 0x12 false false 0 40 = 4160 := by decide

/-- A correction of 1 ms at the default rate: the adjustment and the cycles of the worked figures of R21. -/
theorem test_slew_of_a_millisecond : slewFor 50 (1000000 * 2 ^ 32) = (2863311, 1500000278) := by decide

/-- The compare value of the worked example of chapter 1 in Mesh Phase. -/
theorem test_mesh_phase_of_start :
    (((State.reset.put CLK.SEC 0 1773563400).put CLK.NS 0 250000000).put TIME.MP_EPOCH_SEC 0 1577836800).mp = 0x000BAA8D08400000 := by decide

/-- 2026-04-01 00:00:00, a Wednesday, as the octets of chapter 16's worked example. -/
theorem test_calendar_octets : calOf (secondsOf 2026 4 1 0) = [0, 0, 0, 3, 1, 4, 0x26, 0x20] := by decide

/-- A step on an empty queue idles. -/
theorem test_idle : step State.reset = .next State.reset := by rfl

end Sys2Proof.Tests
end

section
/-!
PROOF. Every command answers a next state, leaves the queue of commands alone and keeps the memories canonical: the laws of
the single commands put together over the constructors of Instr, and what follows for a step.
-/

namespace Sys2Proof.Machine

open Sys2Proof

/-- The outcome is a next state with the queue of s, its memories canonical where those of s are. -/
def Keeps (s : State) (o : Host.Outcome State Fault Refusal) : Prop := ∃ t, o = .next t ∧ t.queue = s.queue ∧ (s.canon → t.canon)

theorem Keeps.intro {s : State} {o : Host.Outcome State Fault Refusal} (hn : ∃ t, o = .next t) (hq : (next s o).queue = s.queue)
    (hc : s.canon → (next s o).canon) : Keeps s o := by
  obtain ⟨t, rfl⟩ := hn
  exact ⟨t, rfl, hq, hc⟩

/-- The laws of the commands, one for each constructor. -/
theorem exec_keeps (c : Instr) (s : State) : Keeps s (exec c s) := by
  cases c with
  | regWrite => exact .intro (execRegWrite_next ..) (execRegWrite_queue ..) (execRegWrite_canon (hc := ·) ..)
  | reg64LowRead => exact .intro (execReg64LowRead_next ..) (execReg64LowRead_queue ..) (execReg64LowRead_canon (hc := ·) ..)
  | rcFieldRead => exact .intro (execRcFieldRead_next ..) (execRcFieldRead_queue ..) (execRcFieldRead_canon (hc := ·) ..)
  | expertGWrite => exact .intro (execExpertGWrite_next ..) (execExpertGWrite_queue ..) (execExpertGWrite_canon (hc := ·) ..)
  | expertHWrite => exact .intro (execExpertHWrite_next ..) (execExpertHWrite_queue ..) (execExpertHWrite_canon (hc := ·) ..)
  | expertTakeEffect => exact .intro (execExpertTakeEffect_next ..) (execExpertTakeEffect_queue ..) (execExpertTakeEffect_canon (hc := ·) ..)
  | expertReload => exact .intro (execExpertReload_next ..) (execExpertReload_queue ..) (execExpertReload_canon (hc := ·) ..)
  | nscCycle => exact .intro (execNscCycle_next ..) (execNscCycle_queue ..) (execNscCycle_canon (hc := ·) ..)
  | slewCountExpire => exact .intro (execSlewCountExpire_next ..) (execSlewCountExpire_queue ..) (execSlewCountExpire_canon (hc := ·) ..)
  | nscIncWrite => exact .intro (execNscIncWrite_next ..) (execNscIncWrite_queue ..) (execNscIncWrite_canon (hc := ·) ..)
  | nscNowNsRead => exact .intro (execNscNowNsRead_next ..) (execNscNowNsRead_queue ..) (execNscNowNsRead_canon (hc := ·) ..)
  | nscSet => exact .intro (execNscSet_next ..) (execNscSet_queue ..) (execNscSet_canon (hc := ·) ..)
  | nscStep => exact .intro (execNscStep_next ..) (execNscStep_queue ..) (execNscStep_canon (hc := ·) ..)
  | nscSlewCntWrite => exact .intro (execNscSlewCntWrite_next ..) (execNscSlewCntWrite_queue ..) (execNscSlewCntWrite_canon (hc := ·) ..)
  | ppsEdge => exact .intro (execPpsEdge_next ..) (execPpsEdge_queue ..) (execPpsEdge_canon (hc := ·) ..)
  | ppsLossTimeout => exact .intro (execPpsLossTimeout_next ..) (execPpsLossTimeout_queue ..) (execPpsLossTimeout_canon (hc := ·) ..)
  | ptpMsgRx => exact .intro (execPtpMsgRx_next ..) (execPtpMsgRx_queue ..) (execPtpMsgRx_canon (hc := ·) ..)
  | ptpSyncTimeout => exact .intro (execPtpSyncTimeout_next ..) (execPtpSyncTimeout_queue ..) (execPtpSyncTimeout_canon (hc := ·) ..)
  | ptCmpLowWrite => exact .intro (execPtCmpLowWrite_next ..) (execPtCmpLowWrite_queue ..) (execPtCmpLowWrite_canon (hc := ·) ..)
  | ptCtlWrite => exact .intro (execPtCtlWrite_next ..) (execPtCtlWrite_queue ..) (execPtCtlWrite_canon (hc := ·) ..)
  | ptReadinessCheck => exact .intro (execPtReadinessCheck_next ..) (execPtReadinessCheck_queue ..) (execPtReadinessCheck_canon (hc := ·) ..)
  | ptFire => exact .intro (execPtFire_next ..) (execPtFire_queue ..) (execPtFire_canon (hc := ·) ..)
  | ptAlloc => exact .intro (execPtAlloc_next ..) (execPtAlloc_queue ..) (execPtAlloc_canon (hc := ·) ..)
  | ptFree => exact .intro (execPtFree_next ..) (execPtFree_queue ..) (execPtFree_canon (hc := ·) ..)
  | cuEdge => exact .intro (execCuEdge_next ..) (execCuEdge_queue ..) (execCuEdge_canon (hc := ·) ..)
  | cuPop => exact .intro (execCuPop_next ..) (execCuPop_queue ..) (execCuPop_canon (hc := ·) ..)
  | beaconInterval => exact .intro (execBeaconInterval_next ..) (execBeaconInterval_queue ..) (execBeaconInterval_canon (hc := ·) ..)
  | incarnationWalkEnd => exact .intro (execIncarnationWalkEnd_next ..) (execIncarnationWalkEnd_queue ..) (execIncarnationWalkEnd_canon (hc := ·) ..)
  | joinTimeout => exact .intro (execJoinTimeout_next ..) (execJoinTimeout_queue ..) (execJoinTimeout_canon (hc := ·) ..)
  | agingVisit => exact .intro (execAgingVisit_next ..) (execAgingVisit_queue ..) (execAgingVisit_canon (hc := ·) ..)
  | agingPassEnd => exact .intro (execAgingPassEnd_next ..) (execAgingPassEnd_queue ..) (execAgingPassEnd_canon (hc := ·) ..)
  | revalDone => exact .intro (execRevalDone_next ..) (execRevalDone_queue ..) (execRevalDone_canon (hc := ·) ..)
  | entryHoldEnd => exact .intro (execEntryHoldEnd_next ..) (execEntryHoldEnd_queue ..) (execEntryHoldEnd_canon (hc := ·) ..)
  | nodeInsert => exact .intro (execNodeInsert_next ..) (execNodeInsert_queue ..) (execNodeInsert_canon (hc := ·) ..)
  | nodeDelete => exact .intro (execNodeDelete_next ..) (execNodeDelete_queue ..) (execNodeDelete_canon (hc := ·) ..)
  | nodeRead => exact .intro (execNodeRead_next ..) (execNodeRead_queue ..) (execNodeRead_canon (hc := ·) ..)
  | nodeUpdate => exact .intro (execNodeUpdate_next ..) (execNodeUpdate_queue ..) (execNodeUpdate_canon (hc := ·) ..)
  | nodePin => exact .intro (execNodePin_next ..) (execNodePin_queue ..) (execNodePin_canon (hc := ·) ..)
  | nodeUnpin => exact .intro (execNodeUnpin_next ..) (execNodeUnpin_queue ..) (execNodeUnpin_canon (hc := ·) ..)
  | nodeTouch => exact .intro (execNodeTouch_next ..) (execNodeTouch_queue ..) (execNodeTouch_canon (hc := ·) ..)
  | nodeList => exact .intro (execNodeList_next ..) (execNodeList_queue ..) (execNodeList_canon (hc := ·) ..)
  | thkQuotaWrite => exact .intro (execThkQuotaWrite_next ..) (execThkQuotaWrite_queue ..) (execThkQuotaWrite_canon (hc := ·) ..)
  | agcWindowEnd => exact .intro (execAgcWindowEnd_next ..) (execAgcWindowEnd_queue ..) (execAgcWindowEnd_canon (hc := ·) ..)
  | agcUpHoldExpire => exact .intro (execAgcUpHoldExpire_next ..) (execAgcUpHoldExpire_queue ..) (execAgcUpHoldExpire_canon (hc := ·) ..)
  | agcThrWrite => exact .intro (execAgcThrWrite_next ..) (execAgcThrWrite_queue ..) (execAgcThrWrite_canon (hc := ·) ..)
  | aprxCtlWrite => exact .intro (execAprxCtlWrite_next ..) (execAprxCtlWrite_queue ..) (execAprxCtlWrite_canon (hc := ·) ..)
  | sliceFcWrite => exact .intro (execSliceFcWrite_next ..) (execSliceFcWrite_queue ..) (execSliceFcWrite_canon (hc := ·) ..)
  | loMhzWrite => exact .intro (execLoMhzWrite_next ..) (execLoMhzWrite_queue ..) (execLoMhzWrite_canon (hc := ·) ..)
  | ddcWrite => exact .intro (execDdcWrite_next ..) (execDdcWrite_queue ..) (execDdcWrite_canon (hc := ·) ..)
  | laneCfgWrite => exact .intro (execLaneCfgWrite_next ..) (execLaneCfgWrite_queue ..) (execLaneCfgWrite_canon (hc := ·) ..)
  | laneModesWrite => exact .intro (execLaneModesWrite_next ..) (execLaneModesWrite_queue ..) (execLaneModesWrite_canon (hc := ·) ..)
  | sliceCtlWrite => exact .intro (execSliceCtlWrite_next ..) (execSliceCtlWrite_queue ..) (execSliceCtlWrite_canon (hc := ·) ..)
  | mapPeriodEnd => exact .intro (execMapPeriodEnd_next ..) (execMapPeriodEnd_queue ..) (execMapPeriodEnd_canon (hc := ·) ..)
  | mapStampRefresh => exact .intro (execMapStampRefresh_next ..) (execMapStampRefresh_queue ..) (execMapStampRefresh_canon (hc := ·) ..)
  | sliceThrWrite => exact .intro (execSliceThrWrite_next ..) (execSliceThrWrite_queue ..) (execSliceThrWrite_canon (hc := ·) ..)
  | selfBlankStart => exact .intro (execSelfBlankStart_next ..) (execSelfBlankStart_queue ..) (execSelfBlankStart_canon (hc := ·) ..)
  | selfBlankEnd => exact .intro (execSelfBlankEnd_next ..) (execSelfBlankEnd_queue ..) (execSelfBlankEnd_canon (hc := ·) ..)
  | syncDeclare => exact .intro (execSyncDeclare_next ..) (execSyncDeclare_queue ..) (execSyncDeclare_canon (hc := ·) ..)
  | laneHeaderEnd => exact .intro (execLaneHeaderEnd_next ..) (execLaneHeaderEnd_queue ..) (execLaneHeaderEnd_canon (hc := ·) ..)
  | ldpcCwSubmit => exact .intro (execLdpcCwSubmit_next ..) (execLdpcCwSubmit_queue ..) (execLdpcCwSubmit_canon (hc := ·) ..)
  | ldpcDecodeStart => exact .intro (execLdpcDecodeStart_next ..) (execLdpcDecodeStart_queue ..) (execLdpcDecodeStart_canon (hc := ·) ..)
  | ldpcDecodeDone => exact .intro (execLdpcDecodeDone_next ..) (execLdpcDecodeDone_queue ..) (execLdpcDecodeDone_canon (hc := ·) ..)
  | laneFrameEnd => exact .intro (execLaneFrameEnd_next ..) (execLaneFrameEnd_queue ..) (execLaneFrameEnd_canon (hc := ·) ..)
  | dupWinExpire => exact .intro (execDupWinExpire_next ..) (execDupWinExpire_queue ..) (execDupWinExpire_canon (hc := ·) ..)
  | ldpcCfgWrite => exact .intro (execLdpcCfgWrite_next ..) (execLdpcCfgWrite_queue ..) (execLdpcCfgWrite_canon (hc := ·) ..)
  | ldpcDecEnWrite => exact .intro (execLdpcDecEnWrite_next ..) (execLdpcDecEnWrite_queue ..) (execLdpcDecEnWrite_canon (hc := ·) ..)
  | txcCtlWrite => exact .intro (execTxcCtlWrite_next ..) (execTxcCtlWrite_queue ..) (execTxcCtlWrite_canon (hc := ·) ..)
  | goReady => exact .intro (execGoReady_next ..) (execGoReady_queue ..) (execGoReady_canon (hc := ·) ..)
  | goStandby => exact .intro (execGoStandby_next ..) (execGoStandby_queue ..) (execGoStandby_canon (hc := ·) ..)
  | calFlush => exact .intro (execCalFlush_next ..) (execCalFlush_queue ..) (execCalFlush_canon (hc := ·) ..)
  | chainEnableDone => exact .intro (execChainEnableDone_next ..) (execChainEnableDone_queue ..) (execChainEnableDone_canon (hc := ·) ..)
  | txRequestHead => exact .intro (execTxRequestHead_next ..) (execTxRequestHead_queue ..) (execTxRequestHead_canon (hc := ·) ..)
  | synthTuneDone => exact .intro (execSynthTuneDone_next ..) (execSynthTuneDone_queue ..) (execSynthTuneDone_canon (hc := ·) ..)
  | synthLockLost => exact .intro (execSynthLockLost_next ..) (execSynthLockLost_queue ..) (execSynthLockLost_canon (hc := ·) ..)
  | txStateEnter => exact .intro (execTxStateEnter_next ..) (execTxStateEnter_queue ..) (execTxStateEnter_canon (hc := ·) ..)
  | powerLoopStep => exact .intro (execPowerLoopStep_next ..) (execPowerLoopStep_queue ..) (execPowerLoopStep_canon (hc := ·) ..)
  | txLoopEnd => exact .intro (execTxLoopEnd_next ..) (execTxLoopEnd_queue ..) (execTxLoopEnd_canon (hc := ·) ..)
  | fwdPowerCheck => exact .intro (execFwdPowerCheck_next ..) (execFwdPowerCheck_queue ..) (execFwdPowerCheck_canon (hc := ·) ..)
  | aerialFaultDetect => exact .intro (execAerialFaultDetect_next ..) (execAerialFaultDetect_queue ..) (execAerialFaultDetect_canon (hc := ·) ..)
  | txLastSample => exact .intro (execTxLastSample_next ..) (execTxLastSample_queue ..) (execTxLastSample_canon (hc := ·) ..)
  | txToReadyDone => exact .intro (execTxToReadyDone_next ..) (execTxToReadyDone_queue ..) (execTxToReadyDone_canon (hc := ·) ..)
  | outputReadbackMismatch => exact .intro (execOutputReadbackMismatch_next ..) (execOutputReadbackMismatch_queue ..) (execOutputReadbackMismatch_canon (hc := ·) ..)
  | txcMuteWrite => exact .intro (execTxcMuteWrite_next ..) (execTxcMuteWrite_queue ..) (execTxcMuteWrite_canon (hc := ·) ..)
  | runawayTimeout => exact .intro (execRunawayTimeout_next ..) (execRunawayTimeout_queue ..) (execRunawayTimeout_canon (hc := ·) ..)
  | detCheck => exact .intro (execDetCheck_next ..) (execDetCheck_queue ..) (execDetCheck_canon (hc := ·) ..)
  | coexReqAssert => exact .intro (execCoexReqAssert_next ..) (execCoexReqAssert_queue ..) (execCoexReqAssert_canon (hc := ·) ..)
  | coexGntFall => exact .intro (execCoexGntFall_next ..) (execCoexGntFall_queue ..) (execCoexGntFall_canon (hc := ·) ..)
  | coexCheck => exact .intro (execCoexCheck_next ..) (execCoexCheck_queue ..) (execCoexCheck_canon (hc := ·) ..)
  | coexCheckStepEnd => exact .intro (execCoexCheckStepEnd_next ..) (execCoexCheckStepEnd_queue ..) (execCoexCheckStepEnd_canon (hc := ·) ..)
  | coexLeadWrite => exact .intro (execCoexLeadWrite_next ..) (execCoexLeadWrite_queue ..) (execCoexLeadWrite_canon (hc := ·) ..)
  | chplanWrite => exact .intro (execChplanWrite_next ..) (execChplanWrite_queue ..) (execChplanWrite_canon (hc := ·) ..)
  | panmapWrite => exact .intro (execPanmapWrite_next ..) (execPanmapWrite_queue ..) (execPanmapWrite_canon (hc := ·) ..)
  | airEui64Write => exact .intro (execAirEui64Write_next ..) (execAirEui64Write_queue ..) (execAirEui64Write_canon (hc := ·) ..)
  | profileSetRegion => exact .intro (execProfileSetRegion_next ..) (execProfileSetRegion_queue ..) (execProfileSetRegion_canon (hc := ·) ..)
  | regprofLockSet => exact .intro (execRegprofLockSet_next ..) (execRegprofLockSet_queue ..) (execRegprofLockSet_canon (hc := ·) ..)
  | gateDecision => exact .intro (execGateDecision_next ..) (execGateDecision_queue ..) (execGateDecision_canon (hc := ·) ..)
  | quietRelease => exact .intro (execQuietRelease_next ..) (execQuietRelease_queue ..) (execQuietRelease_canon (hc := ·) ..)
  | gateRecordHandle => exact .intro (execGateRecordHandle_next ..) (execGateRecordHandle_queue ..) (execGateRecordHandle_canon (hc := ·) ..)
  | dutySlotEnd => exact .intro (execDutySlotEnd_next ..) (execDutySlotEnd_queue ..) (execDutySlotEnd_canon (hc := ·) ..)
  | macRxFrame => exact .intro (execMacRxFrame_next ..) (execMacRxFrame_queue ..) (execMacRxFrame_canon (hc := ·) ..)
  | ackWindowExpire => exact .intro (execAckWindowExpire_next ..) (execAckWindowExpire_queue ..) (execAckWindowExpire_canon (hc := ·) ..)
  | phaseFixWalkDone => exact .intro (execPhaseFixWalkDone_next ..) (execPhaseFixWalkDone_queue ..) (execPhaseFixWalkDone_canon (hc := ·) ..)
  | downlinkRelease => exact .intro (execDownlinkRelease_next ..) (execDownlinkRelease_queue ..) (execDownlinkRelease_canon (hc := ·) ..)
  | attemptArm => exact .intro (execAttemptArm_next ..) (execAttemptArm_queue ..) (execAttemptArm_canon (hc := ·) ..)
  | trainCopyArm => exact .intro (execTrainCopyArm_next ..) (execTrainCopyArm_queue ..) (execTrainCopyArm_canon (hc := ·) ..)
  | txResultHandle => exact .intro (execTxResultHandle_next ..) (execTxResultHandle_queue ..) (execTxResultHandle_canon (hc := ·) ..)
  | refloodSend => exact .intro (execRefloodSend_next ..) (execRefloodSend_queue ..) (execRefloodSend_canon (hc := ·) ..)
  | genBaseWrite => exact .intro (execGenBaseWrite_next ..) (execGenBaseWrite_queue ..) (execGenBaseWrite_canon (hc := ·) ..)
  | campaignStart => exact .intro (execCampaignStart_next ..) (execCampaignStart_queue ..) (execCampaignStart_canon (hc := ·) ..)
  | campaignBlockSend => exact .intro (execCampaignBlockSend_next ..) (execCampaignBlockSend_queue ..) (execCampaignBlockSend_canon (hc := ·) ..)
  | campaignReportWindowEnd => exact .intro (execCampaignReportWindowEnd_next ..) (execCampaignReportWindowEnd_queue ..) (execCampaignReportWindowEnd_canon (hc := ·) ..)
  | campaignActivateSend => exact .intro (execCampaignActivateSend_next ..) (execCampaignActivateSend_queue ..) (execCampaignActivateSend_canon (hc := ·) ..)
  | campaignPause => exact .intro (execCampaignPause_next ..) (execCampaignPause_queue ..) (execCampaignPause_canon (hc := ·) ..)
  | campaignResume => exact .intro (execCampaignResume_next ..) (execCampaignResume_queue ..) (execCampaignResume_canon (hc := ·) ..)
  | campaignAbort => exact .intro (execCampaignAbort_next ..) (execCampaignAbort_queue ..) (execCampaignAbort_canon (hc := ·) ..)
  | campStatusRead => exact .intro (execCampStatusRead_next ..) (execCampStatusRead_queue ..) (execCampStatusRead_canon (hc := ·) ..)
  | sweepStart => exact .intro (execSweepStart_next ..) (execSweepStart_queue ..) (execSweepStart_canon (hc := ·) ..)
  | sweepRoundStart => exact .intro (execSweepRoundStart_next ..) (execSweepRoundStart_queue ..) (execSweepRoundStart_canon (hc := ·) ..)
  | sweepEnd => exact .intro (execSweepEnd_next ..) (execSweepEnd_queue ..) (execSweepEnd_canon (hc := ·) ..)
  | sweepRead => exact .intro (execSweepRead_next ..) (execSweepRead_queue ..) (execSweepRead_canon (hc := ·) ..)
  | meterCommit => exact .intro (execMeterCommit_next ..) (execMeterCommit_queue ..) (execMeterCommit_canon (hc := ·) ..)
  | shaperCommit => exact .intro (execShaperCommit_next ..) (execShaperCommit_queue ..) (execShaperCommit_canon (hc := ·) ..)
  | outputRequest n => exact .intro (execOutputRequest_next n s) (execOutputRequest_queue n s) (execOutputRequest_canon n s)
  | queueEligible => exact .intro (execQueueEligible_next ..) (execQueueEligible_queue ..) (execQueueEligible_canon (hc := ·) ..)
  | expirySweep => exact .intro (execExpirySweep_next ..) (execExpirySweep_queue ..) (execExpirySweep_canon (hc := ·) ..)
  | watchSample => exact .intro (execWatchSample_next ..) (execWatchSample_queue ..) (execWatchSample_canon (hc := ·) ..)
  | qprobeSelWrite => exact .intro (execQprobeSelWrite_next ..) (execQprobeSelWrite_queue ..) (execQprobeSelWrite_canon (hc := ·) ..)
  | qprobeGroupWrite => exact .intro (execQprobeGroupWrite_next ..) (execQprobeGroupWrite_queue ..) (execQprobeGroupWrite_canon (hc := ·) ..)
  | queueCfg => exact .intro (execQueueCfg_next ..) (execQueueCfg_queue ..) (execQueueCfg_canon (hc := ·) ..)
  | tmhCtlWrite => exact .intro (execTmhCtlWrite_next ..) (execTmhCtlWrite_queue ..) (execTmhCtlWrite_canon (hc := ·) ..)
  | cellQuotaWrite => exact .intro (execCellQuotaWrite_next ..) (execCellQuotaWrite_queue ..) (execCellQuotaWrite_canon (hc := ·) ..)
  | fifoCfgWrite => exact .intro (execFifoCfgWrite_next ..) (execFifoCfgWrite_queue ..) (execFifoCfgWrite_canon (hc := ·) ..)
  | fifoPtrCheck => exact .intro (execFifoPtrCheck_next ..) (execFifoPtrCheck_queue ..) (execFifoPtrCheck_canon (hc := ·) ..)
  | fifoStallResume => exact .intro (execFifoStallResume_next ..) (execFifoStallResume_queue ..) (execFifoStallResume_canon (hc := ·) ..)
  | fifoStallTimeout => exact .intro (execFifoStallTimeout_next ..) (execFifoStallTimeout_queue ..) (execFifoStallTimeout_canon (hc := ·) ..)
  | drbgHealthFail => exact .intro (execDrbgHealthFail_next ..) (execDrbgHealthFail_queue ..) (execDrbgHealthFail_canon (hc := ·) ..)
  | drbgRestart => exact .intro (execDrbgRestart_next ..) (execDrbgRestart_queue ..) (execDrbgRestart_canon (hc := ·) ..)
  | keyImport => exact .intro (execKeyImport_next ..) (execKeyImport_queue ..) (execKeyImport_canon (hc := ·) ..)
  | keyDerive => exact .intro (execKeyDerive_next ..) (execKeyDerive_queue ..) (execKeyDerive_canon (hc := ·) ..)
  | keyErase => exact .intro (execKeyErase_next ..) (execKeyErase_queue ..) (execKeyErase_canon (hc := ·) ..)
  | keyInfo => exact .intro (execKeyInfo_next ..) (execKeyInfo_queue ..) (execKeyInfo_canon (hc := ·) ..)
  | hedgeKeyWipe => exact .intro (execHedgeKeyWipe_next ..) (execHedgeKeyWipe_queue ..) (execHedgeKeyWipe_canon (hc := ·) ..)
  | trustSet => exact .intro (execTrustSet_next ..) (execTrustSet_queue ..) (execTrustSet_canon (hc := ·) ..)
  | trustLockSet => exact .intro (execTrustLockSet_next ..) (execTrustLockSet_queue ..) (execTrustLockSet_canon (hc := ·) ..)
  | attest => exact .intro (execAttest_next ..) (execAttest_queue ..) (execAttest_canon (hc := ·) ..)
  | nodeRekey => exact .intro (execNodeRekey_next ..) (execNodeRekey_queue ..) (execNodeRekey_canon (hc := ·) ..)
  | groupRekey => exact .intro (execGroupRekey_next ..) (execGroupRekey_queue ..) (execGroupRekey_canon (hc := ·) ..)
  | keyDestroyAll => exact .intro (execKeyDestroyAll_next ..) (execKeyDestroyAll_queue ..) (execKeyDestroyAll_canon (hc := ·) ..)
  | keyOrphanSweep => exact .intro (execKeyOrphanSweep_next ..) (execKeyOrphanSweep_queue ..) (execKeyOrphanSweep_canon (hc := ·) ..)
  | keyRetireZero => exact .intro (execKeyRetireZero_next ..) (execKeyRetireZero_queue ..) (execKeyRetireZero_canon (hc := ·) ..)
  | slotQuotaWrite => exact .intro (execSlotQuotaWrite_next ..) (execSlotQuotaWrite_queue ..) (execSlotQuotaWrite_canon (hc := ·) ..)
  | joinResponsePart2 => exact .intro (execJoinResponsePart2_next ..) (execJoinResponsePart2_queue ..) (execJoinResponsePart2_canon (hc := ·) ..)
  | rekeyRetryExpire => exact .intro (execRekeyRetryExpire_next ..) (execRekeyRetryExpire_queue ..) (execRekeyRetryExpire_canon (hc := ·) ..)
  | groupSwitch => exact .intro (execGroupSwitch_next ..) (execGroupSwitch_queue ..) (execGroupSwitch_canon (hc := ·) ..)
  | groupOverlapEnd => exact .intro (execGroupOverlapEnd_next ..) (execGroupOverlapEnd_queue ..) (execGroupOverlapEnd_canon (hc := ·) ..)
  | add => exact .intro (execAdd_next ..) (execAdd_queue ..) (execAdd_canon (hc := ·) ..)
  | sub => exact .intro (execSub_next ..) (execSub_queue ..) (execSub_canon (hc := ·) ..)
  | addc => exact .intro (execAddc_next ..) (execAddc_queue ..) (execAddc_canon (hc := ·) ..)
  | subc => exact .intro (execSubc_next ..) (execSubc_queue ..) (execSubc_canon (hc := ·) ..)
  | and => exact .intro (execAnd_next ..) (execAnd_queue ..) (execAnd_canon (hc := ·) ..)
  | or => exact .intro (execOr_next ..) (execOr_queue ..) (execOr_canon (hc := ·) ..)
  | xor => exact .intro (execXor_next ..) (execXor_queue ..) (execXor_canon (hc := ·) ..)
  | andn => exact .intro (execAndn_next ..) (execAndn_queue ..) (execAndn_canon (hc := ·) ..)
  | shl => exact .intro (execShl_next ..) (execShl_queue ..) (execShl_canon (hc := ·) ..)
  | shr => exact .intro (execShr_next ..) (execShr_queue ..) (execShr_canon (hc := ·) ..)
  | sar => exact .intro (execSar_next ..) (execSar_queue ..) (execSar_canon (hc := ·) ..)
  | rol => exact .intro (execRol_next ..) (execRol_queue ..) (execRol_canon (hc := ·) ..)
  | mul => exact .intro (execMul_next ..) (execMul_queue ..) (execMul_canon (hc := ·) ..)
  | mulhu => exact .intro (execMulhu_next ..) (execMulhu_queue ..) (execMulhu_canon (hc := ·) ..)
  | mulhs => exact .intro (execMulhs_next ..) (execMulhs_queue ..) (execMulhs_canon (hc := ·) ..)
  | clz => exact .intro (execClz_next ..) (execClz_queue ..) (execClz_canon (hc := ·) ..)
  | popc => exact .intro (execPopc_next ..) (execPopc_queue ..) (execPopc_canon (hc := ·) ..)
  | min => exact .intro (execMin_next ..) (execMin_queue ..) (execMin_canon (hc := ·) ..)
  | max => exact .intro (execMax_next ..) (execMax_queue ..) (execMax_canon (hc := ·) ..)
  | minu => exact .intro (execMinu_next ..) (execMinu_queue ..) (execMinu_canon (hc := ·) ..)
  | maxu => exact .intro (execMaxu_next ..) (execMaxu_queue ..) (execMaxu_canon (hc := ·) ..)
  | slt => exact .intro (execSlt_next ..) (execSlt_queue ..) (execSlt_canon (hc := ·) ..)
  | sltu => exact .intro (execSltu_next ..) (execSltu_queue ..) (execSltu_canon (hc := ·) ..)
  | addi => exact .intro (execAddi_next ..) (execAddi_queue ..) (execAddi_canon (hc := ·) ..)
  | andi => exact .intro (execAndi_next ..) (execAndi_queue ..) (execAndi_canon (hc := ·) ..)
  | ori => exact .intro (execOri_next ..) (execOri_queue ..) (execOri_canon (hc := ·) ..)
  | xori => exact .intro (execXori_next ..) (execXori_queue ..) (execXori_canon (hc := ·) ..)
  | shli => exact .intro (execShli_next ..) (execShli_queue ..) (execShli_canon (hc := ·) ..)
  | shri => exact .intro (execShri_next ..) (execShri_queue ..) (execShri_canon (hc := ·) ..)
  | sari => exact .intro (execSari_next ..) (execSari_queue ..) (execSari_canon (hc := ·) ..)
  | slti => exact .intro (execSlti_next ..) (execSlti_queue ..) (execSlti_canon (hc := ·) ..)
  | lui => exact .intro (execLui_next ..) (execLui_queue ..) (execLui_canon (hc := ·) ..)
  | ldb => exact .intro (execLdb_next ..) (execLdb_queue ..) (execLdb_canon (hc := ·) ..)
  | ldbu => exact .intro (execLdbu_next ..) (execLdbu_queue ..) (execLdbu_canon (hc := ·) ..)
  | ldh => exact .intro (execLdh_next ..) (execLdh_queue ..) (execLdh_canon (hc := ·) ..)
  | ldhu => exact .intro (execLdhu_next ..) (execLdhu_queue ..) (execLdhu_canon (hc := ·) ..)
  | ldw => exact .intro (execLdw_next ..) (execLdw_queue ..) (execLdw_canon (hc := ·) ..)
  | ldp => exact .intro (execLdp_next ..) (execLdp_queue ..) (execLdp_canon (hc := ·) ..)
  | stb => exact .intro (execStb_next ..) (execStb_queue ..) (execStb_canon (hc := ·) ..)
  | sth => exact .intro (execSth_next ..) (execSth_queue ..) (execSth_canon (hc := ·) ..)
  | stw => exact .intro (execStw_next ..) (execStw_queue ..) (execStw_canon (hc := ·) ..)
  | stp => exact .intro (execStp_next ..) (execStp_queue ..) (execStp_canon (hc := ·) ..)
  | ext => exact .intro (execExt_next ..) (execExt_queue ..) (execExt_canon (hc := ·) ..)
  | extu => exact .intro (execExtu_next ..) (execExtu_queue ..) (execExtu_canon (hc := ·) ..)
  | ins => exact .intro (execIns_next ..) (execIns_queue ..) (execIns_canon (hc := ·) ..)
  | bswap => exact .intro (execBswap_next ..) (execBswap_queue ..) (execBswap_canon (hc := ·) ..)
  | crc32c => exact .intro (execCrc32c_next ..) (execCrc32c_queue ..) (execCrc32c_canon (hc := ·) ..)
  | crc16 => exact .intro (execCrc16_next ..) (execCrc16_queue ..) (execCrc16_canon (hc := ·) ..)
  | hash => exact .intro (execHash_next ..) (execHash_queue ..) (execHash_canon (hc := ·) ..)
  | aadd => exact .intro (execAadd_next ..) (execAadd_queue ..) (execAadd_canon (hc := ·) ..)
  | aswp => exact .intro (execAswp_next ..) (execAswp_queue ..) (execAswp_canon (hc := ·) ..)
  | acas => exact .intro (execAcas_next ..) (execAcas_queue ..) (execAcas_canon (hc := ·) ..)
  | beq => exact .intro (execBeq_next ..) (execBeq_queue ..) (execBeq_canon (hc := ·) ..)
  | bne => exact .intro (execBne_next ..) (execBne_queue ..) (execBne_canon (hc := ·) ..)
  | blt => exact .intro (execBlt_next ..) (execBlt_queue ..) (execBlt_canon (hc := ·) ..)
  | bge => exact .intro (execBge_next ..) (execBge_queue ..) (execBge_canon (hc := ·) ..)
  | bltu => exact .intro (execBltu_next ..) (execBltu_queue ..) (execBltu_canon (hc := ·) ..)
  | bgeu => exact .intro (execBgeu_next ..) (execBgeu_queue ..) (execBgeu_canon (hc := ·) ..)
  | j => exact .intro (execJ_next ..) (execJ_queue ..) (execJ_canon (hc := ·) ..)
  | jal => exact .intro (execJal_next ..) (execJal_queue ..) (execJal_canon (hc := ·) ..)
  | jalr => exact .intro (execJalr_next ..) (execJalr_queue ..) (execJalr_canon (hc := ·) ..)
  | lkup => exact .intro (execLkup_next ..) (execLkup_queue ..) (execLkup_canon (hc := ·) ..)
  | tins => exact .intro (execTins_next ..) (execTins_queue ..) (execTins_canon (hc := ·) ..)
  | tdel => exact .intro (execTdel_next ..) (execTdel_queue ..) (execTdel_canon (hc := ·) ..)
  | ttouch => exact .intro (execTtouch_next ..) (execTtouch_queue ..) (execTtouch_canon (hc := ·) ..)
  | qput => exact .intro (execQput_next ..) (execQput_queue ..) (execQput_canon (hc := ·) ..)
  | qget => exact .intro (execQget_next ..) (execQget_queue ..) (execQget_canon (hc := ·) ..)
  | qpeek => exact .intro (execQpeek_next ..) (execQpeek_queue ..) (execQpeek_canon (hc := ·) ..)
  | cry => exact .intro (execCry_next ..) (execCry_queue ..) (execCry_canon (hc := ·) ..)
  | cwait => exact .intro (execCwait_next ..) (execCwait_queue ..) (execCwait_canon (hc := ·) ..)
  | tnow => exact .intro (execTnow_next ..) (execTnow_queue ..) (execTnow_canon (hc := ·) ..)
  | twait => exact .intro (execTwait_next ..) (execTwait_queue ..) (execTwait_canon (hc := ·) ..)
  | tarm => exact .intro (execTarm_next ..) (execTarm_queue ..) (execTarm_canon (hc := ·) ..)
  | yield => exact .intro (execYield_next ..) (execYield_queue ..) (execYield_canon (hc := ·) ..)
  | waitev => exact .intro (execWaitev_next ..) (execWaitev_queue ..) (execWaitev_canon (hc := ·) ..)
  | signal => exact .intro (execSignal_next ..) (execSignal_queue ..) (execSignal_canon (hc := ·) ..)
  | fence => exact .intro (execFence_next ..) (execFence_queue ..) (execFence_canon (hc := ·) ..)
  | halt => exact .intro (execHalt_next ..) (execHalt_queue ..) (execHalt_canon (hc := ·) ..)
  | mfs => exact .intro (execMfs_next ..) (execMfs_queue ..) (execMfs_canon (hc := ·) ..)
  | mts => exact .intro (execMts_next ..) (execMts_queue ..) (execMts_canon (hc := ·) ..)
  | trap => exact .intro (execTrap_next ..) (execTrap_queue ..) (execTrap_canon (hc := ·) ..)
  | tret => exact .intro (execTret_next ..) (execTret_queue ..) (execTret_canon (hc := ·) ..)
  | threadEventWake => exact .intro (execThreadEventWake_next ..) (execThreadEventWake_queue ..) (execThreadEventWake_canon (hc := ·) ..)
  | twaitExpire => exact .intro (execTwaitExpire_next ..) (execTwaitExpire_queue ..) (execTwaitExpire_canon (hc := ·) ..)
  | threadTimerFire => exact .intro (execThreadTimerFire_next ..) (execThreadTimerFire_queue ..) (execThreadTimerFire_canon (hc := ·) ..)
  | cryComplete => exact .intro (execCryComplete_next ..) (execCryComplete_queue ..) (execCryComplete_canon (hc := ·) ..)
  | thicketWindowTimeout => exact .intro (execThicketWindowTimeout_next ..) (execThicketWindowTimeout_queue ..) (execThicketWindowTimeout_canon (hc := ·) ..)
  | engineWdogExpire => exact .intro (execEngineWdogExpire_next ..) (execEngineWdogExpire_queue ..) (execEngineWdogExpire_canon (hc := ·) ..)
  | enghGrantWrite => exact .intro (execEnghGrantWrite_next ..) (execEnghGrantWrite_queue ..) (execEnghGrantWrite_canon (hc := ·) ..)
  | progLoad => exact .intro (execProgLoad_next ..) (execProgLoad_queue ..) (execProgLoad_canon (hc := ·) ..)
  | progStop => exact .intro (execProgStop_next ..) (execProgStop_queue ..) (execProgStop_canon (hc := ·) ..)
  | progSignal => exact .intro (execProgSignal_next ..) (execProgSignal_queue ..) (execProgSignal_canon (hc := ·) ..)
  | hbindWrite => exact .intro (execHbindWrite_next ..) (execHbindWrite_queue ..) (execHbindWrite_canon (hc := ·) ..)
  | pcieFlr => exact .intro (execPcieFlr_next ..) (execPcieFlr_queue ..) (execPcieFlr_canon (hc := ·) ..)
  | pciePerst => exact .intro (execPciePerst_next ..) (execPciePerst_queue ..) (execPciePerst_canon (hc := ·) ..)
  | busMasterChange => exact .intro (execBusMasterChange_next ..) (execBusMasterChange_queue ..) (execBusMasterChange_canon (hc := ·) ..)
  | dmaError => exact .intro (execDmaError_next ..) (execDmaError_queue ..) (execDmaError_canon (hc := ·) ..)
  | cmdDoorbell => exact .intro (execCmdDoorbell_next ..) (execCmdDoorbell_queue ..) (execCmdDoorbell_canon (hc := ·) ..)
  | rxDoorbell => exact .intro (execRxDoorbell_next ..) (execRxDoorbell_queue ..) (execRxDoorbell_canon (hc := ·) ..)
  | cplDoorbell => exact .intro (execCplDoorbell_next ..) (execCplDoorbell_queue ..) (execCplDoorbell_canon (hc := ·) ..)
  | evDoorbell => exact .intro (execEvDoorbell_next ..) (execEvDoorbell_queue ..) (execEvDoorbell_canon (hc := ·) ..)
  | ringCtlWrite => exact .intro (execRingCtlWrite_next ..) (execRingCtlWrite_queue ..) (execRingCtlWrite_canon (hc := ·) ..)
  | cmdRingDrainDone => exact .intro (execCmdRingDrainDone_next ..) (execCmdRingDrainDone_queue ..) (execCmdRingDrainDone_canon (hc := ·) ..)
  | commandFetch => exact .intro (execCommandFetch_next ..) (execCommandFetch_queue ..) (execCommandFetch_canon (hc := ·) ..)
  | send => exact .intro (execSend_next ..) (execSend_queue ..) (execSend_canon (hc := ·) ..)
  | flood => exact .intro (execFlood_next ..) (execFlood_queue ..) (execFlood_canon (hc := ·) ..)
  | nop => exact .intro (execNop_next ..) (execNop_queue ..) (execNop_canon (hc := ·) ..)
  | memWrite => exact .intro (execMemWrite_next ..) (execMemWrite_queue ..) (execMemWrite_canon (hc := ·) ..)
  | memRead => exact .intro (execMemRead_next ..) (execMemRead_queue ..) (execMemRead_canon (hc := ·) ..)
  | watchRead => exact .intro (execWatchRead_next ..) (execWatchRead_queue ..) (execWatchRead_canon (hc := ·) ..)
  | calTrigSet => exact .intro (execCalTrigSet_next ..) (execCalTrigSet_queue ..) (execCalTrigSet_canon (hc := ·) ..)
  | calTrigClr => exact .intro (execCalTrigClr_next ..) (execCalTrigClr_queue ..) (execCalTrigClr_canon (hc := ·) ..)
  | hedgeReset => exact .intro (execHedgeReset_next ..) (execHedgeReset_queue ..) (execHedgeReset_canon (hc := ·) ..)
  | calExport => exact .intro (execCalExport_next ..) (execCalExport_queue ..) (execCalExport_canon (hc := ·) ..)
  | calRestore => exact .intro (execCalRestore_next ..) (execCalRestore_queue ..) (execCalRestore_canon (hc := ·) ..)
  | bootImageWrite => exact .intro (execBootImageWrite_next ..) (execBootImageWrite_queue ..) (execBootImageWrite_canon (hc := ·) ..)
  | scorepadRead => exact .intro (execScorepadRead_next ..) (execScorepadRead_queue ..) (execScorepadRead_canon (hc := ·) ..)
  | stewardServe => exact .intro (execStewardServe_next ..) (execStewardServe_queue ..) (execStewardServe_canon (hc := ·) ..)
  | irqCoalesceTimeout => exact .intro (execIrqCoalesceTimeout_next ..) (execIrqCoalesceTimeout_queue ..) (execIrqCoalesceTimeout_canon (hc := ·) ..)
  | evBacklogDrain => exact .intro (execEvBacklogDrain_next ..) (execEvBacklogDrain_queue ..) (execEvBacklogDrain_canon (hc := ·) ..)
  | rxPlace => exact .intro (execRxPlace_next ..) (execRxPlace_queue ..) (execRxPlace_canon (hc := ·) ..)
  | rxHoldExpire => exact .intro (execRxHoldExpire_next ..) (execRxHoldExpire_queue ..) (execRxHoldExpire_canon (hc := ·) ..)
  | rxLossReport => exact .intro (execRxLossReport_next ..) (execRxLossReport_queue ..) (execRxLossReport_canon (hc := ·) ..)
  | tunCmdMsg => exact .intro (execTunCmdMsg_next ..) (execTunCmdMsg_queue ..) (execTunCmdMsg_canon (hc := ·) ..)
  | tunCreditMsg => exact .intro (execTunCreditMsg_next ..) (execTunCreditMsg_queue ..) (execTunCreditMsg_canon (hc := ·) ..)
  | tunAckMsg => exact .intro (execTunAckMsg_next ..) (execTunAckMsg_queue ..) (execTunAckMsg_canon (hc := ·) ..)
  | tunStartMsg => exact .intro (execTunStartMsg_next ..) (execTunStartMsg_queue ..) (execTunStartMsg_canon (hc := ·) ..)
  | tunKeepaliveMsg => exact .intro (execTunKeepaliveMsg_next ..) (execTunKeepaliveMsg_queue ..) (execTunKeepaliveMsg_canon (hc := ·) ..)
  | tunNeighborSolicit => exact .intro (execTunNeighborSolicit_next ..) (execTunNeighborSolicit_queue ..) (execTunNeighborSolicit_canon (hc := ·) ..)
  | tunResendTimeout => exact .intro (execTunResendTimeout_next ..) (execTunResendTimeout_queue ..) (execTunResendTimeout_canon (hc := ·) ..)
  | tunSilenceTimeout => exact .intro (execTunSilenceTimeout_next ..) (execTunSilenceTimeout_queue ..) (execTunSilenceTimeout_canon (hc := ·) ..)
  | tunKeepaliveSend => exact .intro (execTunKeepaliveSend_next ..) (execTunKeepaliveSend_queue ..) (execTunKeepaliveSend_canon (hc := ·) ..)
  | hosthHresetWrite => exact .intro (execHosthHresetWrite_next ..) (execHosthHresetWrite_queue ..) (execHosthHresetWrite_canon (hc := ·) ..)
  | hbindHresetWrite => exact .intro (execHbindHresetWrite_next ..) (execHbindHresetWrite_queue ..) (execHbindHresetWrite_canon (hc := ·) ..)
  | hedgeResetEnd => exact .intro (execHedgeResetEnd_next ..) (execHedgeResetEnd_queue ..) (execHedgeResetEnd_canon (hc := ·) ..)
  | cntClrDiscard => exact .intro (execCntClrDiscard_next ..) (execCntClrDiscard_queue ..) (execCntClrDiscard_canon (hc := ·) ..)
  | twinCfgEnWrite => exact .intro (execTwinCfgEnWrite_next ..) (execTwinCfgEnWrite_queue ..) (execTwinCfgEnWrite_canon (hc := ·) ..)
  | twinHelloRx => exact .intro (execTwinHelloRx_next ..) (execTwinHelloRx_queue ..) (execTwinHelloRx_canon (hc := ·) ..)
  | twinHelloTimeout => exact .intro (execTwinHelloTimeout_next ..) (execTwinHelloTimeout_queue ..) (execTwinHelloTimeout_canon (hc := ·) ..)
  | twinHeartbeatSend => exact .intro (execTwinHeartbeatSend_next ..) (execTwinHeartbeatSend_queue ..) (execTwinHeartbeatSend_canon (hc := ·) ..)
  | twinLinkSilent => exact .intro (execTwinLinkSilent_next ..) (execTwinLinkSilent_queue ..) (execTwinLinkSilent_canon (hc := ·) ..)
  | twinHbSilent => exact .intro (execTwinHbSilent_next ..) (execTwinHbSilent_queue ..) (execTwinHbSilent_canon (hc := ·) ..)
  | partnerFaultAssert => exact .intro (execPartnerFaultAssert_next ..) (execPartnerFaultAssert_queue ..) (execPartnerFaultAssert_canon (hc := ·) ..)
  | twinCmdTakeover => exact .intro (execTwinCmdTakeover_next ..) (execTwinCmdTakeover_queue ..) (execTwinCmdTakeover_canon (hc := ·) ..)
  | twinCmdSwitch => exact .intro (execTwinCmdSwitch_next ..) (execTwinCmdSwitch_queue ..) (execTwinCmdSwitch_canon (hc := ·) ..)
  | twinCmdLoop => exact .intro (execTwinCmdLoop_next ..) (execTwinCmdLoop_queue ..) (execTwinCmdLoop_canon (hc := ·) ..)
  | twinDemotionRx => exact .intro (execTwinDemotionRx_next ..) (execTwinDemotionRx_queue ..) (execTwinDemotionRx_canon (hc := ·) ..)
  | snapshotCapture => exact .intro (execSnapshotCapture_next ..) (execSnapshotCapture_queue ..) (execSnapshotCapture_canon (hc := ·) ..)
  | snapshotApply => exact .intro (execSnapshotApply_next ..) (execSnapshotApply_queue ..) (execSnapshotApply_canon (hc := ·) ..)
  | twinCounterRecordRx => exact .intro (execTwinCounterRecordRx_next ..) (execTwinCounterRecordRx_queue ..) (execTwinCounterRecordRx_canon (hc := ·) ..)
  | twinLoopTest => exact .intro (execTwinLoopTest_next ..) (execTwinLoopTest_queue ..) (execTwinLoopTest_canon (hc := ·) ..)
  | twinDualActive => exact .intro (execTwinDualActive_next ..) (execTwinDualActive_queue ..) (execTwinDualActive_canon (hc := ·) ..)
  | prpFrameRx => exact .intro (execPrpFrameRx_next ..) (execPrpFrameRx_queue ..) (execPrpFrameRx_canon (hc := ·) ..)
  | prpSupSend => exact .intro (execPrpSupSend_next ..) (execPrpSupSend_queue ..) (execPrpSupSend_canon (hc := ·) ..)
  | prpSupTimeout => exact .intro (execPrpSupTimeout_next ..) (execPrpSupTimeout_queue ..) (execPrpSupTimeout_canon (hc := ·) ..)
  | powerOn => exact .intro (execPowerOn_next ..) (execPowerOn_queue ..) (execPowerOn_canon (hc := ·) ..)
  | porNLow => exact .intro (execPorNLow_next ..) (execPorNLow_queue ..) (execPorNLow_canon (hc := ·) ..)
  | resetNLow => exact .intro (execResetNLow_next ..) (execResetNLow_queue ..) (execResetNLow_canon (hc := ·) ..)
  | supplyLow => exact .intro (execSupplyLow_next ..) (execSupplyLow_queue ..) (execSupplyLow_canon (hc := ·) ..)
  | thermalTrip => exact .intro (execThermalTrip_next ..) (execThermalTrip_queue ..) (execThermalTrip_canon (hc := ·) ..)
  | thermalHoldEnd => exact .intro (execThermalHoldEnd_next ..) (execThermalHoldEnd_queue ..) (execThermalHoldEnd_canon (hc := ·) ..)
  | stewardWdogExpire => exact .intro (execStewardWdogExpire_next ..) (execStewardWdogExpire_queue ..) (execStewardWdogExpire_canon (hc := ·) ..)
  | rstCmdSystem => exact .intro (execRstCmdSystem_next ..) (execRstCmdSystem_queue ..) (execRstCmdSystem_canon (hc := ·) ..)
  | rstCmdCore => exact .intro (execRstCmdCore_next ..) (execRstCmdCore_queue ..) (execRstCmdCore_canon (hc := ·) ..)
  | resetRelease => exact .intro (execResetRelease_next ..) (execResetRelease_queue ..) (execResetRelease_canon (hc := ·) ..)
  | coreReset => exact .intro (execCoreReset_next ..) (execCoreReset_queue ..) (execCoreReset_canon (hc := ·) ..)
  | bootConfirm => exact .intro (execBootConfirm_next ..) (execBootConfirm_queue ..) (execBootConfirm_canon (hc := ·) ..)
  | recovGo => exact .intro (execRecovGo_next ..) (execRecovGo_queue ..) (execRecovGo_canon (hc := ·) ..)
  | dramScrub => exact .intro (execDramScrub_next ..) (execDramScrub_queue ..) (execDramScrub_canon (hc := ·) ..)
  | calSaveTuner => exact .intro (execCalSaveTuner_next ..) (execCalSaveTuner_queue ..) (execCalSaveTuner_canon (hc := ·) ..)
  | rtcSecond => exact .intro (execRtcSecond_next ..) (execRtcSecond_queue ..) (execRtcSecond_canon (hc := ·) ..)
  | oscStopDetect => exact .intro (execOscStopDetect_next ..) (execOscStopDetect_queue ..) (execOscStopDetect_canon (hc := ·) ..)
  | rtcTimeRead => exact .intro (execRtcTimeRead_next ..) (execRtcTimeRead_queue ..) (execRtcTimeRead_canon (hc := ·) ..)
  | rtcThawTimeout => exact .intro (execRtcThawTimeout_next ..) (execRtcThawTimeout_queue ..) (execRtcThawTimeout_canon (hc := ·) ..)
  | rtcHaltWrite => exact .intro (execRtcHaltWrite_next ..) (execRtcHaltWrite_queue ..) (execRtcHaltWrite_canon (hc := ·) ..)
  | rtcTimeWrite => exact .intro (execRtcTimeWrite_next ..) (execRtcTimeWrite_queue ..) (execRtcTimeWrite_canon (hc := ·) ..)
  | rtcAutoSet => exact .intro (execRtcAutoSet_next ..) (execRtcAutoSet_queue ..) (execRtcAutoSet_canon (hc := ·) ..)
  | pwronLevelWrite => exact .intro (execPwronLevelWrite_next ..) (execPwronLevelWrite_queue ..) (execPwronLevelWrite_canon (hc := ·) ..)
  | triggerEventPost => exact .intro (execTriggerEventPost_next ..) (execTriggerEventPost_queue ..) (execTriggerEventPost_canon (hc := ·) ..)
  | missedTriggersPost => exact .intro (execMissedTriggersPost_next ..) (execMissedTriggersPost_queue ..) (execMissedTriggersPost_canon (hc := ·) ..)
  | backupReset => exact .intro (execBackupReset_next ..) (execBackupReset_queue ..) (execBackupReset_canon (hc := ·) ..)
  | backupSupplySwitch => exact .intro (execBackupSupplySwitch_next ..) (execBackupSupplySwitch_queue ..) (execBackupSupplySwitch_canon (hc := ·) ..)
  | refclkLoss => exact .intro (execRefclkLoss_next ..) (execRefclkLoss_queue ..) (execRefclkLoss_canon (hc := ·) ..)
  | pllUnlock => exact .intro (execPllUnlock_next ..) (execPllUnlock_queue ..) (execPllUnlock_canon (hc := ·) ..)
  | refclkRestored => exact .intro (execRefclkRestored_next ..) (execRefclkRestored_queue ..) (execRefclkRestored_canon (hc := ·) ..)
  | clockDupMismatch => exact .intro (execClockDupMismatch_next ..) (execClockDupMismatch_queue ..) (execClockDupMismatch_canon (hc := ·) ..)
  | stewardLockstepMismatch => exact .intro (execStewardLockstepMismatch_next ..) (execStewardLockstepMismatch_queue ..) (execStewardLockstepMismatch_canon (hc := ·) ..)
  | memoryEccError => exact .intro (execMemoryEccError_next ..) (execMemoryEccError_queue ..) (execMemoryEccError_canon (hc := ·) ..)
  | sramScrub => exact .intro (execSramScrub_next ..) (execSramScrub_queue ..) (execSramScrub_canon (hc := ·) ..)
  | engineBist => exact .intro (execEngineBist_next ..) (execEngineBist_queue ..) (execEngineBist_canon (hc := ·) ..)
  | dramProbe => exact .intro (execDramProbe_next ..) (execDramProbe_queue ..) (execDramProbe_canon (hc := ·) ..)
  | adcSubconvCheck => exact .intro (execAdcSubconvCheck_next ..) (execAdcSubconvCheck_queue ..) (execAdcSubconvCheck_canon (hc := ·) ..)
  | laneCheckerSlot => exact .intro (execLaneCheckerSlot_next ..) (execLaneCheckerSlot_queue ..) (execLaneCheckerSlot_canon (hc := ·) ..)
  | ldpcKnownTest => exact .intro (execLdpcKnownTest_next ..) (execLdpcKnownTest_queue ..) (execLdpcKnownTest_canon (hc := ·) ..)
  | cryptoKat => exact .intro (execCryptoKat_next ..) (execCryptoKat_queue ..) (execCryptoKat_canon (hc := ·) ..)
  | scorepadCommit => exact .intro (execScorepadCommit_next ..) (execScorepadCommit_queue ..) (execScorepadCommit_canon (hc := ·) ..)
  | scorepadSuppressReport => exact .intro (execScorepadSuppressReport_next ..) (execScorepadSuppressReport_queue ..) (execScorepadSuppressReport_canon (hc := ·) ..)
  | faultInject => exact .intro (execFaultInject_next ..) (execFaultInject_queue ..) (execFaultInject_canon (hc := ·) ..)
  | tamperSample => exact .intro (execTamperSample_next ..) (execTamperSample_queue ..) (execTamperSample_canon (hc := ·) ..)
  | rxSynthLockLost => exact .intro (execRxSynthLockLost_next ..) (execRxSynthLockLost_queue ..) (execRxSynthLockLost_canon (hc := ·) ..)
  | ppsOpenCheck => exact .intro (execPpsOpenCheck_next ..) (execPpsOpenCheck_queue ..) (execPpsOpenCheck_canon (hc := ·) ..)
  | vbatLowDetect => exact .intro (execVbatLowDetect_next ..) (execVbatLowDetect_queue ..) (execVbatLowDetect_canon (hc := ·) ..)
  | shaperUnblock => exact .intro (execShaperUnblock_next ..) (execShaperUnblock_queue ..) (execShaperUnblock_canon (hc := ·) ..)
  | ptPulseEnd => exact .intro (execPtPulseEnd_next ..) (execPtPulseEnd_queue ..) (execPtPulseEnd_canon (hc := ·) ..)
  | registerRead => exact .intro (execRegisterRead_next ..) (execRegisterRead_queue ..) (execRegisterRead_canon (hc := ·) ..)
  | twinLinkUp => exact .intro (execTwinLinkUp_next ..) (execTwinLinkUp_queue ..) (execTwinLinkUp_canon (hc := ·) ..)
  | partnerFaultRelease => exact .intro (execPartnerFaultRelease_next ..) (execPartnerFaultRelease_queue ..) (execPartnerFaultRelease_canon (hc := ·) ..)
  | bootFlashWriteDone => exact .intro (execBootFlashWriteDone_next ..) (execBootFlashWriteDone_queue ..) (execBootFlashWriteDone_canon (hc := ·) ..)

/-- Settles O1: the front of the queue decides between the two equations of step. -/
theorem stepRuns : Obligations.StepRuns := by
  unfold Obligations.StepRuns
  constructor
  · intro c rest s h
    rw [step, h]
  · intro s h
    rw [step, h]

/-- Settles O2: with an empty queue by idling, and else by the laws of the commands. -/
theorem stepTakesOne : Obligations.StepTakesOne := by
  unfold Obligations.StepTakesOne
  intro s
  cases h : s.pending with
  | nil => exact ⟨s, stepRuns.2 s h, by rw [h, List.tail_nil]⟩
  | cons c rest =>
    obtain ⟨t, ht, hq, -⟩ := exec_keeps c { s with pending := rest }
    exact ⟨t, (stepRuns.1 c rest s h).trans ht, hq⟩

/-- Settles O3: with an empty queue by idling, and else by the laws of the commands. -/
theorem memoriesStayCanonical : Obligations.MemoriesStayCanonical := by
  unfold Obligations.MemoriesStayCanonical
  intro t s hs ht
  cases h : s.pending with
  | nil =>
    rw [stepRuns.2 s h] at ht
    cases ht
    exact hs
  | cons c rest =>
    obtain ⟨u, hu, -, hc⟩ := exec_keeps c { s with pending := rest }
    rw [stepRuns.1 c rest s h, hu] at ht
    cases ht
    exact hc hs

/-- Settles O4: reset lists nothing. -/
theorem resetState : Obligations.ResetState := by
  unfold Obligations.ResetState
  refine ⟨rfl, rfl, rfl, fun n _ => State.get_reset _ n, rfl, State.get_reset⟩

end Sys2Proof.Machine
end

section
/-!
PROOF. What a register access that reaches its register does, and the clock: O6, O7 and O8.
-/

namespace Sys2Proof.Machine

open Sys2Proof

/-! ### Accesses that reach their register -/

theorem State.onBus_reached {s : State} {r : Req} {off : Nat} (f : State → Host.Outcome State Fault Refusal)
    (h : s.reachWord r off 4 = 0) : s.onBus r off f = f s := by
  simp only [State.onBus, h]

theorem State.onPriv_reached {s : State} {r : Req} {off : Nat} (f : State → Host.Outcome State Fault Refusal)
    (h : s.reachWord r off 4 = 0) (hv : viewOf r = 0) : s.onPriv r off f = f s := by
  rw [State.onPriv, State.onBus_reached _ h, if_pos hv]

theorem State.onRead_reached {s : State} {r : Req} {off : Nat} (f : State → Host.Outcome State Fault Refusal)
    (h : s.reachWord r off 4 = 0) : s.onRead r off f = f s := by
  simp only [State.onRead, h]

/-! ### One-bit fields and conditional changes -/

theorem State.on_of_ne {s : State} {F : Fld} {n : Nat} (h : s.get F n ≠ 0) : s.on F n = true := by
  simpa [State.on] using h

theorem State.on_of_eq {s : State} {F : Fld} {n : Nat} (h : s.get F n = 0) : s.on F n = false := by
  simp [State.on, h]

@[simp] theorem State.when_true (s : State) (f : State → State) : s.when true f = f s := rfl

@[simp] theorem State.when_false (s : State) (f : State → State) : s.when false f = s := rfl

theorem State.bump_def (s : State) (F : Fld) (n k : Nat) : s.bump F n k = s.put F n (s.get F n + k) := rfl

/-! ### The clock (R14 to R16) -/

theorem ofInt_natCast (w v : Nat) : ofInt w (v : Int) = v % 2 ^ w := by
  simp only [ofInt]; omega

/-- The nanoseconds after a cycle that adds `step`, before the carry into the seconds. -/
def State.nsAfter (s : State) (step : Nat) : Nat := s.get CLK.NS + step / 2 ^ 32 + (s.get CLK.FRAC + step % 2 ^ 32) / 2 ^ 32

/-- A cycle without a slew, by whether the nanoseconds carry. -/
theorem State.nscCycle_noSlew {s : State} (h : s.get CLK.SLEW_CNT = 0) :
    s.nscCycle = (fun step : Nat => (fun u : State => if 10 ^ 9 ≤ s.nsAfter step then (u.put CLK.NS 0 (s.nsAfter step - 10 ^ 9)).bump CLK.SEC
      else u.put CLK.NS 0 (s.nsAfter step)) ((s.put CLK.FRAC 0 (s.get CLK.FRAC + step % 2 ^ 32)).bump CLK.CYC)) (s.get TIME.NSC_INC % 2 ^ 40) := by
  simp [State.nscCycle, h, ofInt_natCast, State.nsAfter]

theorem State.fixWalk_idle {s : State} (h : s.get WAKE.STATUS_FIX_ACTIVE = 0) : s.fixWalk = s := by
  simp [State.fixWalk, State.on_of_eq h]

/-- What a cycle without a slew leaves in each of the clock's fields (R15). -/
theorem State.nscCycle_fields {s : State} (h0 : s.get CLK.SLEW_CNT = 0) (hns : s.get CLK.NS < 10 ^ 9) (hsec : s.get CLK.SEC < 2 ^ 48 - 1)
    (hfrac : s.get CLK.FRAC < 2 ^ 32) :
    ∃ c ≤ 1, s.nscCycle.get CLK.SEC = s.get CLK.SEC + c ∧ s.nscCycle.get CLK.NS + 10 ^ 9 * c = s.nsAfter (s.get TIME.NSC_INC % 2 ^ 40)
      ∧ s.nscCycle.get CLK.NS < 10 ^ 9
      ∧ s.nscCycle.get CLK.FRAC = (s.get CLK.FRAC + s.get TIME.NSC_INC % 2 ^ 40 % 2 ^ 32) % 2 ^ 32
      ∧ s.nscCycle.get CLK.CYC = (s.get CLK.CYC + 1) % 2 ^ 64
      ∧ sameBut s s.nscCycle [(CLK.SEC, 0), (CLK.NS, 0), (CLK.FRAC, 0), (CLK.CYC, 0)] := by
  have bound : s.nsAfter (s.get TIME.NSC_INC % 2 ^ 40) < 10 ^ 9 + 257 := by
    simp only [State.nsAfter]; omega
  have width : CLK.NS.w = 30 ∧ CLK.SEC.w = 48 ∧ CLK.FRAC.w = 32 ∧ CLK.CYC.w = 64 := ⟨rfl, rfl, rfl, rfl⟩
  obtain ⟨wns, wsec, wfrac, wcyc⟩ := width
  rw [State.nscCycle_noSlew h0]
  by_cases hc : 10 ^ 9 ≤ s.nsAfter (s.get TIME.NSC_INC % 2 ^ 40)
  · refine ⟨1, Nat.le_refl _, ?_⟩
    simp only [if_pos hc]
    refine ⟨?_, ?_, ?_, ?_, ?_, ?_⟩
    case refine_6 => exact sameBut_bump 1 (sameBut_put _ (sameBut_bump 1 (sameBut_put _ (sameBut_refl ..) (by decide)) (by decide)) (by decide)) (by decide)
    all_goals simp (discharger := decide) only [State.bump_def, State.get_put, State.get_put_id, wns, wsec, wfrac, wcyc] <;> omega
  · refine ⟨0, Nat.zero_le _, ?_⟩
    simp only [if_neg hc]
    refine ⟨?_, ?_, ?_, ?_, ?_, ?_⟩
    case refine_6 => exact sameBut_put _ (sameBut_bump 1 (sameBut_put _ (sameBut_refl ..) (by decide)) (by decide)) (by decide)
    all_goals simp (discharger := decide) only [State.bump_def, State.get_put, State.get_put_id, wns, wfrac, wcyc] <;> omega

theorem State.setSlew_counts (s : State) (adj : Int) (cnt : Nat) :
    (s.setSlew adj cnt).get CLK.SLEW_CNT = cnt % 2 ^ 64 ∧ (s.setSlew adj cnt).get TIME.NSC_SLEW_CNT = cnt % 2 ^ 32 := by
  constructor
  · exact (State.get_put_id (by decide)).trans (State.get_put ..)
  · exact State.get_put ..

theorem State.setSlew_fix (s : State) (adj : Int) (cnt : Nat) :
    (s.setSlew adj cnt).get WAKE.STATUS_FIX_ACTIVE = s.get WAKE.STATUS_FIX_ACTIVE := by
  simp (discharger := decide) only [State.setSlew, State.putI, State.get_put_id]

/-- A cycle of a running slew ends with the slew's count less one (R14, R15). -/
theorem State.nscCycle_slew {s : State} (h : s.get CLK.SLEW_CNT ≠ 0) :
    ∃ (u : State) (i : Int), u.get WAKE.STATUS_FIX_ACTIVE = s.get WAKE.STATUS_FIX_ACTIVE ∧ s.nscCycle = u.setSlew i (s.get CLK.SLEW_CNT - 1) := by
  have hrun : (s.get CLK.SLEW_CNT != 0) = true := by simpa using h
  simp only [State.nscCycle, hrun, if_true]
  split
  all_goals
    refine ⟨_, _, ?_, congrArg (State.setSlew _ _ <| · - 1) ?_⟩ <;>
      simp (discharger := decide) only [State.bump_def, State.get_put_id]

/-- Settles O7: the cycle's own case split on the carry, and its slew and its walk. -/
theorem clockCycle : Obligations.ClockCycle := by
  unfold Obligations.ClockCycle
  refine ⟨?_, ?_, fun s => rfl, ?_⟩
  · intro s hns h0 hsec hfrac hfix
    obtain ⟨c, hc, esec, ens, hlt, efrac, ecyc, hsame⟩ := s.nscCycle_fields h0 hns hsec hfrac
    refine completes_of rfl ?_
    rw [State.fixWalk_idle ((hsame.2 WAKE.STATUS_FIX_ACTIVE 0 (by decide)).trans hfix)]
    refine ⟨?_, hlt, ecyc, hsame⟩
    simp only [State.nsAfter] at ens
    rw [esec, efrac]
    omega
  · intro s h0 hfix
    obtain ⟨u, i, hu, hcyc⟩ := s.nscCycle_slew h0
    refine completes_of rfl ?_
    rw [State.fixWalk_idle, hcyc]
    · exact State.setSlew_counts ..
    · rw [hcyc, State.setSlew_fix, hu, hfix]
  · intro s h0
    rw [exec_slewCountExpire, execSlewCountExpire, if_pos h0]
    rfl

/-- Settles O8: the write's own test of its range. -/
theorem incrementWrite : Obligations.IncrementWrite := by
  unfold Obligations.IncrementWrite
  constructor
  · intro r v s hr hs hlo hhi
    refine completes_of (t := s.put TIME.NSC_INC 0 (s.join64 r 0x400008 v % 2 ^ 40)) ?_ ⟨?_, sameBut_put _ (sameBut_refl ..) (by decide)⟩
    · rw [exec_nscIncWrite, execNscIncWrite, State.onBus_reached _ hr]
      simp [State.on_of_eq hs, hlo, hhi, -Nat.reducePow]
    · rw [State.get_put]
      exact Nat.mod_mod _ _
  · intro r v s hr hs
    refine completes_of (t := s.set TIME.TIME_EVENT_INC_REFUSED) ?_ ⟨State.get_set _ _ _ (by decide), sameBut_set (sameBut_refl ..) (by decide)⟩
    rw [exec_nscIncWrite, execNscIncWrite, State.onBus_reached _ hr]
    have hout : (!s.on TIME.NSC_CTL_SERVO_EN && decide (0x154FDF3B6 ≤ s.join64 r 0x400008 v % 2 ^ 40)
        && decide (s.join64 r 0x400008 v % 2 ^ 40 ≤ 0x155ACB6F4)) = false := by
      rcases hs with h | h | h
      · simp [State.on_of_ne h]
      · simp [Nat.not_le.2 h, -Nat.reducePow]
      · simp [Nat.not_le.2 h, -Nat.reducePow]
    simp only [hout, Bool.false_eq_true, if_false]

/-! ### Expert ownership (R11, R12, R580) -/

theorem State.busWrite_reached {s : State} {r : Req} {off : Nat} (v : Nat) (h : s.reachWord r off 4 = 0) :
    s.busWrite r off 4 v = (s.put MODEL.RESP 0 0).writeWord r off v := by
  simp only [State.busWrite, h]

theorem State.ownWrite_global (s : State) (v : Nat) : (s.ownWrite 8 v).get SYS.EXPERT_G_OWN = v % 64 := State.get_put ..

theorem State.ownWrite_hedge (s : State) {h : Nat} (v : Nat) (hh : h < 8) : (s.ownWrite h v).get SYS.EXPERT_H_OWN h = v % 64 := by
  simp only [State.ownWrite, if_neg (Nat.ne_of_lt hh)]
  exact State.get_put ..

/-- Settles O6: the two writes by the field that holds OWN, the others as the model's own effect. -/
theorem expertOwnership : Obligations.ExpertOwnership := by
  unfold Obligations.ExpertOwnership
  refine ⟨?_, ?_, ?_, ?_, ?_, ?_⟩
  · intro r v s hr _ _
    refine completes_of rfl ?_
    rw [State.busWrite_reached v hr]
    refine (State.ownWrite_global (s.put MODEL.RESP 0 0) (v % 2 ^ 32)).trans ?_
    omega
  · intro r v s hr _ _
    refine completes_of rfl ?_
    rw [if_pos (by decide), State.busWrite_reached v hr]
    refine (State.ownWrite_hedge (s.put MODEL.RESP 0 0) (v % 2 ^ 32) (by decide)).trans ?_
    omega
  · exact fun s => rfl
  · intro h s hh
    rw [exec_expertTakeEffect, execExpertTakeEffect, if_neg (by omega)]
    simp only [if_neg (Nat.ne_of_lt hh)]
  · exact fun s => rfl
  · intro h s hh
    rw [exec_expertReload, execExpertReload, if_neg (by omega)]
    simp only [if_neg (Nat.ne_of_lt hh)]

end Sys2Proof.Machine
end

section
/-!
PROOF. The instructions of a thread that work on its own registers: what an issue does, the two write-backs, and O29 to O32.
-/

namespace Sys2Proof.Machine

open Sys2Proof

/-! ### The issue of an instruction (R368, R398, R411) -/

theorem State.issues_iff {s : State} {g : Nat} : s.issues g = true ↔ g < 512 ∧ s.threadState g = 1 ∧ pcOk g (s.get THR.PC g) = true := by
  simp [State.issues, and_assoc]

theorem State.issue_issues {s : State} {g : Nat} (h : s.issues g = true) (ok : Bool) (word : Nat) (f : State → State) :
    s.issue g ok word f = if ok then f (s.issued g) else (s.issued g).trap g 0x01 word := by
  obtain ⟨hg, hr, hpc⟩ := State.issues_iff.1 h
  have hg' : ¬ 512 ≤ g := by omega
  simp [State.issue, hg', hr, hpc, State.issued]

theorem State.issue_ok {s : State} {g : Nat} (h : s.issues g = true) (word : Nat) (f : State → State) :
    s.issue g true word f = f (s.issued g) := by
  rw [State.issue_issues h, if_pos rfl]

/-- A form that R398 forbids. -/
theorem State.issue_forbidden {s : State} {g : Nat} (h : s.issues g = true) (word : Nat) (f : State → State) :
    s.issue g false word f = (s.issued g).trap g 0x01 word := by
  rw [State.issue_issues h, if_neg (by decide)]

/-- Counting an issue leaves every other field as it was. -/
theorem State.get_issued {s : State} {g : Nat} {F : Fld} (n : Nat) (h : F.id ≠ ENGE.ISSUE_CNT.id) : (s.issued g).get F n = s.get F n :=
  State.get_put_id h

@[simp] theorem State.w_issued (s : State) (g k r : Nat) : (s.issued g).w k r = s.w k r := by
  simp only [State.w, State.get_issued _ (show THR.W.id ≠ ENGE.ISSUE_CNT.id by decide)]

@[simp] theorem State.r_issued (s : State) (g k : Nat) (x : BitVec 5) : (s.issued g).r k x = s.r k x := State.w_issued ..

@[simp] theorem State.pair_issued (s : State) (g k r : Nat) : (s.issued g).pair k r = s.pair k r := by
  simp only [State.pair, State.w_issued]

theorem State.w_lt (s : State) (g r : Nat) : s.w g r < 2 ^ 32 := by
  unfold State.w
  split <;> omega

theorem State.r_lt (s : State) (g : Nat) (x : BitVec 5) : s.r g x < 2 ^ 32 := s.w_lt ..

/-! ### The write-backs -/

theorem State.setW_zero (s : State) (g v : Nat) : s.setW g 0 v = s := rfl

theorem State.setW_pos (s : State) {g r : Nat} (v : Nat) (h : r ≠ 0) : s.setW g r v = s.put THR.W (32 * g + r) v := if_neg h

theorem State.get_setW {s : State} {F : Fld} (g r v n : Nat) (h : F.id ≠ THR.W.id) : (s.setW g r v).get F n = s.get F n := by
  unfold State.setW
  split
  · rfl
  · exact State.get_put_id h

/-- The flags before the write-back, whatever the register written. -/
theorem State.flags_setW (s : State) (g r v : Nat) : ((s.issued g).setW g r v).get THR.FLAGS g = s.get THR.FLAGS g := by
  rw [State.get_setW _ _ _ _ (by decide), State.get_issued _ (by decide)]

theorem sameBut_setW {s t : State} {l : List (Fld × Nat)} {g r : Nat} (v : Nat) (h : sameBut s t l)
    (hm : r ≠ 0 → (l.any fun p => p.1.id == THR.W.id && p.2 == 32 * g + r) = true) : sameBut s (t.setW g r v) l := by
  unfold State.setW
  split
  · exact h
  · next hr => exact sameBut_put v h (hm hr)

/-- The write-back with flags: what it writes (R371, R399). -/
theorem State.result_effect (s : State) {g f : Nat} (v : Nat) (rd : BitVec 5) (hf : f < 16) :
    (s.result g rd v f).get THR.PC g = (s.get THR.PC g + 4) % 2 ^ 32 ∧ (s.result g rd v f).get THR.FLAGS g = f
      ∧ (rd ≠ 0 → (s.result g rd v f).get THR.W (32 * g + rd.toNat) = v % 2 ^ 32) := by
  refine ⟨?_, ?_, fun hrd => ?_⟩
  · rw [State.result, State.pcNext, State.get_put, State.get_put_id (by decide), State.get_setW _ _ _ _ (by decide), State.get_issued _ (by decide)]
    rfl
  · rw [State.result, State.pcNext, State.get_put_id (by decide), State.get_put]
    exact Nat.mod_eq_of_lt hf
  · have h0 : rd.toNat ≠ 0 := fun e => hrd (BitVec.eq_of_toNat_eq e)
    rw [State.result, State.pcNext, State.get_put_id (by decide), State.get_put_id (by decide), State.setW_pos _ _ h0, State.get_put]
    rfl

/-- The write-back with flags leaves everything as it was that a list with the issue count, the PC, the flags and the register omits. -/
theorem State.result_same (s : State) (g f v : Nat) (rd : BitVec 5) {l : List (Fld × Nat)}
    (h : ∀ p ∈ [(ENGE.ISSUE_CNT, g / 4), (THR.PC, g), (THR.FLAGS, g)], p ∈ l) (hw : rd.toNat ≠ 0 → (THR.W, 32 * g + rd.toNat) ∈ l) :
    sameBut s (s.result g rd v f) l := by
  have mem {F : Fld} {n : Nat} (hp : (F, n) ∈ l) : (l.any fun p => p.1.id == F.id && p.2 == n) = true :=
    List.any_eq_true.2 ⟨_, hp, by simp⟩
  refine sameBut_put _ (sameBut_put f (sameBut_setW v (sameBut_bump 1 (sameBut_refl s l) ?_) fun hr => ?_) ?_) ?_
  · exact mem (h _ (by simp))
  · exact mem (hw hr)
  · exact mem (h _ (by simp))
  · exact mem (h _ (by simp))

/-- The write-back without flags: what it writes. -/
theorem State.moved_effect (s : State) (g v : Nat) (rd : BitVec 5) :
    (s.moved g rd v).get THR.PC g = (s.get THR.PC g + 4) % 2 ^ 32 ∧ (rd ≠ 0 → (s.moved g rd v).get THR.W (32 * g + rd.toNat) = v % 2 ^ 32)
      ∧ sameBut s (s.moved g rd v) [(ENGE.ISSUE_CNT, g / 4), (THR.PC, g), (THR.W, 32 * g + rd.toNat)] := by
  refine ⟨?_, fun hrd => ?_, ?_⟩
  · rw [State.moved, State.pcNext, State.get_put, State.get_setW _ _ _ _ (by decide), State.get_issued _ (by decide)]
    rfl
  · have h0 : rd.toNat ≠ 0 := fun e => hrd (BitVec.eq_of_toNat_eq e)
    rw [State.moved, State.pcNext, State.get_put_id (by decide), State.setW_pos _ _ h0, State.get_put]
    rfl
  · exact sameBut_put _ (sameBut_setW v (sameBut_bump 1 (sameBut_refl ..) (by simp)) fun _ => by simp) (by simp)

/-! ### Words as numbers -/

theorem bit31 {a : Nat} (h : a < 2 ^ 32) : bit a 31 = decide (2 ^ 31 ≤ a) := by
  rw [bit, Nat.testBit_eq_decide_div_mod_eq, decide_eq_decide]
  omega

theorem toInt32 {a : Nat} (h : a < 2 ^ 32) : toInt 32 a = if a < 2 ^ 31 then (a : Int) else a - 2 ^ 32 := by
  simp only [toInt, Nat.mod_eq_of_lt h]
  rfl

theorem toInt32_notW {b : Nat} (h : b < 2 ^ 32) : toInt 32 (notW b) = -toInt 32 b - 1 := by
  have hn : notW b = 2 ^ 32 - 1 - b := by rw [notW, Nat.mod_eq_of_lt h]
  rw [hn, toInt32 (by omega), toInt32 h]
  split <;> split <;> omega

theorem ofInt32_mod (i : Int) : ofInt 32 i % 2 ^ 32 = ofInt 32 i := by
  simp only [ofInt]; omega

theorem zeroFlag (v : Nat) : (if v = 0 then 8 else 0) = 8 * (v == 0).toNat := by
  cases v <;> rfl

theorem bitFlag (k : Nat) (b : Bool) : (if b = true then k else 0) = k * b.toNat := by
  cases b <;> simp

/-! ### Sums (R402, R403) -/

/-- The flags of the model's sum are those of the sum as a number without and with sign. -/
theorem State.sum_result (s : State) (g : Nat) (rd : BitVec 5) {a b c : Nat} (ha : a < 2 ^ 32) (hb : b < 2 ^ 32) (hc : c ≤ 1) :
    (s.issued g).sum g rd a b c = s.result g rd ((a + b + c) % 2 ^ 32) (sumFlags (a + b + c) (toInt 32 a + toInt 32 b + c)) := by
  have hv : (bit a 31 == bit b 31 && bit ((a + b + c) % 2 ^ 32) 31 != bit a 31)
      = decide (toInt 32 a + toInt 32 b + c < -2 ^ 31 ∨ 2 ^ 31 ≤ toInt 32 a + toInt 32 b + (c : Int)) := by
    rw [bit31 ha, bit31 hb, bit31 (Nat.mod_lt _ (by decide)), toInt32 ha, toInt32 hb, Bool.eq_iff_iff]
    simp only [Bool.and_eq_true, beq_iff_eq, decide_eq_decide, bne_iff_ne, ne_eq, decide_eq_true_eq]
    split <;> split <;> omega
  have hn : bit ((a + b + c) % 2 ^ 32) 31 = decide (2 ^ 31 ≤ (a + b + c) % 2 ^ 32) := bit31 (Nat.mod_lt _ (by decide))
  simp only [State.sum, State.result, addFlags, sumFlags, flagWord, ← hv, hn]
  congr 2
  rw [zeroFlag, bitFlag, bitFlag, bitFlag, Nat.one_mul]

/-! ### Results with Z and N (R402) -/

theorem State.alu_result (s : State) (g : Nat) (rd : BitVec 5) (v : Nat) :
    (s.issued g).alu g rd v = s.result g rd (v % 2 ^ 32) (s.get THR.FLAGS g % 4 + resultFlags (v % 2 ^ 32)) := by
  simp only [State.alu, State.setZN, State.result, State.flags_setW, Nat.mod_mod, resultFlags, flagWord,
    bit31 (Nat.mod_lt v (show 0 < 2 ^ 32 by decide)), zeroFlag, bitFlag, Bool.toNat_false, Nat.mul_zero, Nat.add_zero, Nat.add_assoc]

/-- A register instruction that sets Z and N. -/
theorem State.regOp_result {s : State} {g : Nat} (h : s.issues g = true) (rd ra rb : BitVec 5) (func : Nat) {f : Nat → Nat → Nat} {v : Nat}
    (hv : f (s.r g ra) (s.r g rb) % 2 ^ 32 = v) :
    s.regOp g rd ra rb func f = s.result g rd v (s.get THR.FLAGS g % 4 + resultFlags v) := by
  rw [State.regOp, State.issue_ok h, State.r_issued, State.r_issued, State.alu_result, hv]

/-- An immediate instruction in form that sets Z and N. -/
theorem State.immOp_result {s : State} {g : Nat} (h : s.issues g = true) (rd ra : BitVec 5) (imm : BitVec 16) (op : Nat) {ok : Bool}
    (hok : ok = true) {f : Nat → Nat} {v : Nat} (hv : f (s.r g ra) % 2 ^ 32 = v) :
    s.immOp g rd ra imm op ok f = s.result g rd v (s.get THR.FLAGS g % 4 + resultFlags v) := by
  rw [State.immOp, hok, State.issue_ok h, State.r_issued, State.alu_result, hv]

theorem State.immOp_forbidden {s : State} {g : Nat} (h : s.issues g = true) (rd ra : BitVec 5) (imm : BitVec 16) (op : Nat) {ok : Bool}
    (hok : ok = false) (f : Nat → Nat) : s.immOp g rd ra imm op ok f = (s.issued g).trap g 0x01 (wordI op rd ra imm.toNat) := by
  rw [State.immOp, hok, State.issue_forbidden h]

/-- A result cut to 32 bits that is one already. -/
theorem State.regOp_result_lt {s : State} {g : Nat} (h : s.issues g = true) (rd ra rb : BitVec 5) (func : Nat) {f : Nat → Nat → Nat}
    (hv : f (s.r g ra) (s.r g rb) < 2 ^ 32) : s.regOp g rd ra rb func f
      = s.result g rd (f (s.r g ra) (s.r g rb)) (s.get THR.FLAGS g % 4 + resultFlags (f (s.r g ra) (s.r g rb))) :=
  State.regOp_result h rd ra rb func (Nat.mod_eq_of_lt hv)

theorem State.immOp_result_lt {s : State} {g : Nat} (h : s.issues g = true) (rd ra : BitVec 5) (imm : BitVec 16) (op : Nat) {f : Nat → Nat}
    (hv : f (s.r g ra) < 2 ^ 32) :
    s.immOp g rd ra imm op true f = s.result g rd (f (s.r g ra)) (s.get THR.FLAGS g % 4 + resultFlags (f (s.r g ra))) :=
  State.immOp_result h rd ra imm op rfl (Nat.mod_eq_of_lt hv)

theorem sext_eq (imm : BitVec 16) : sext imm = (imm.toInt % 2 ^ 32).toNat := rfl

theorem toInt32_sext (imm : BitVec 16) : toInt 32 (sext imm) = imm.toInt := by
  have hlo := BitVec.le_toInt imm
  have hhi := BitVec.toInt_lt (x := imm)
  rw [sext_eq, toInt32 (by omega)]
  split <;> omega

/-- Settles O29: the model's one sum on the complement of b where it subtracts, and the frame of the write-back. -/
theorem threadSums : Obligations.ThreadSums := by
  unfold Obligations.ThreadSums
  have hnot (s : State) (g : Nat) (x : BitVec 5) : notW (s.r g x) = 2 ^ 32 - 1 - s.r g x := by rw [notW, Nat.mod_eq_of_lt (s.r_lt g x)]
  have carry (s : State) (g : Nat) : (s.issued g).flagC g = s.get THR.FLAGS g / 2 % 2 := by
    rw [State.flagC, State.get_issued _ (by decide)]
  refine ⟨?_, ?_, ?_, ?_, ?_, ?_⟩
  · intro g rd ra rb s h
    rw [exec_add, execAdd, State.issue_ok h, State.r_issued, State.r_issued, State.sum_result s g rd (s.r_lt g ra) (s.r_lt g rb) (by decide)]
    simp
  · intro g rd ra rb s h
    have hb := s.r_lt g rb
    have e : s.r g ra + notW (s.r g rb) + 1 = 2 ^ 32 + s.r g ra - s.r g rb := by rw [hnot]; omega
    rw [exec_sub, execSub, State.issue_ok h, State.r_issued, State.r_issued,
      State.sum_result s g rd (s.r_lt g ra) (by rw [hnot]; omega) (Nat.le_refl _), e, toInt32_notW hb]
    congr 3; omega
  · intro g rd ra rb s h
    rw [exec_addc, execAddc, State.issue_ok h, State.r_issued, State.r_issued, carry,
      State.sum_result s g rd (s.r_lt g ra) (s.r_lt g rb) (by omega)]
  · intro g rd ra rb s h
    have hb := s.r_lt g rb
    have e : s.r g ra + notW (s.r g rb) + s.get THR.FLAGS g / 2 % 2 = 2 ^ 32 + s.r g ra - s.r g rb - 1 + s.get THR.FLAGS g / 2 % 2 := by
      rw [hnot]; omega
    rw [exec_subc, execSubc, State.issue_ok h, State.r_issued, State.r_issued, carry,
      State.sum_result s g rd (s.r_lt g ra) (by rw [hnot]; omega) (by omega), e, toInt32_notW hb]
    congr 3; omega
  · intro g rd ra imm s h
    rw [exec_addi, execAddi, State.issue_ok h, State.r_issued,
      State.sum_result s g rd (s.r_lt g ra) (by rw [sext_eq]; omega) (by decide), toInt32_sext, sext_eq]
    simp
  · intro g v f rd s hf
    obtain ⟨hpc, hflags, hw⟩ := s.result_effect v rd hf (g := g)
    refine ⟨hpc, hflags, hw, s.result_same g f v rd (by simp) (by simp), fun h0 => s.result_same g f v rd (by simp) (by simp [h0])⟩

/-! ### Logic and shifts (R403, R404) -/

/-- The bits of a that b has not are those of a less those of both. -/
theorem and_notW {a b : Nat} (ha : a < 2 ^ 32) (hb : b < 2 ^ 32) : Nat.land a (notW b) = a - Nat.land a b := by
  obtain ⟨x, rfl⟩ : ∃ x : BitVec 32, x.toNat = a := ⟨BitVec.ofNat 32 a, Nat.mod_eq_of_lt ha⟩
  obtain ⟨y, rfl⟩ : ∃ y : BitVec 32, y.toNat = b := ⟨BitVec.ofNat 32 b, Nat.mod_eq_of_lt hb⟩
  have apart : (x &&& ~~~y) &&& (x &&& y) = 0#32 := by
    ext i; simp; grind
  have whole : (x &&& ~~~y) ||| (x &&& y) = x := by
    ext i; simp; grind
  have sum := BitVec.toNat_add_of_and_eq_zero apart
  rw [BitVec.add_eq_or_of_and_eq_zero _ _ apart, whole, BitVec.toNat_and, BitVec.toNat_and, BitVec.toNat_not] at sum
  rw [notW, Nat.mod_eq_of_lt hb]
  exact Nat.eq_sub_of_add_eq sum.symm

theorem sar_eq (a k : Nat) : sar a k = (toInt 32 a / 2 ^ k % 2 ^ 32).toNat := by
  simp [sar, ofInt]

theorem sar_mod (a k : Nat) : sar a k % 2 ^ 32 = (toInt 32 a / 2 ^ k % 2 ^ 32).toNat := by
  rw [sar, ofInt32_mod, ← sar, sar_eq]

/-- Settles O30: each operation on the operands is one word, or is cut to one. -/
theorem threadLogicAndShifts : Obligations.ThreadLogicAndShifts := by
  unfold Obligations.ThreadLogicAndShifts
  have word (imm : BitVec 16) : imm.toNat < 2 ^ 32 := by omega
  have shift (a k : Nat) (h : a < 2 ^ 32) : a / 2 ^ k < 2 ^ 32 := Nat.lt_of_le_of_lt (Nat.div_le_self ..) h
  have andn (s : State) (g : Nat) (ra rb : BitVec 5) :
      Nat.land (s.r g ra) (notW (s.r g rb)) % 2 ^ 32 = s.r g ra - Nat.land (s.r g ra) (s.r g rb) := by
    rw [and_notW (s.r_lt g ra) (s.r_lt g rb), Nat.mod_eq_of_lt (Nat.lt_of_le_of_lt (Nat.sub_le ..) (s.r_lt g ra))]
  refine ⟨?_, ?_, ?_, ?_, ?_, ?_, ?_, ?_, ?_, ?_, ?_, ?_, ?_, ?_, ?_, ?_, ?_, ?_, ?_⟩
  · intro g rd ra rb s h
    rw [exec_and, execAnd, State.regOp_result_lt h]
    exact Nat.and_lt_two_pow _ (s.r_lt g rb)
  · intro g rd ra rb s h
    rw [exec_or, execOr, State.regOp_result_lt h]
    exact Nat.or_lt_two_pow (s.r_lt g ra) (s.r_lt g rb)
  · intro g rd ra rb s h
    rw [exec_xor, execXor, State.regOp_result_lt h]
    exact Nat.xor_lt_two_pow (s.r_lt g ra) (s.r_lt g rb)
  · intro g rd ra rb s h
    rw [exec_andn, execAndn, State.regOp_result h]
    exact andn s g ra rb
  · intro g rd ra rb s h
    rw [exec_shl, execShl, State.regOp_result h]
    exact rfl
  · intro g rd ra rb s h
    rw [exec_shr, execShr, State.regOp_result_lt h]
    exact shift _ _ (s.r_lt g ra)
  · intro g rd ra rb s h
    rw [exec_sar, execSar, State.regOp_result h]
    exact sar_mod ..
  · intro g rd ra rb s h
    rw [exec_rol, execRol, State.regOp_result h]
    exact Nat.mod_add_mod ..
  · intro g rd ra imm s h
    rw [exec_andi, execAndi, State.immOp_result_lt h]
    exact Nat.and_lt_two_pow _ (word imm)
  · intro g rd ra imm s h
    rw [exec_ori, execOri, State.immOp_result_lt h]
    exact Nat.or_lt_two_pow (s.r_lt g ra) (word imm)
  · intro g rd ra imm s h
    rw [exec_xori, execXori, State.immOp_result_lt h]
    exact Nat.xor_lt_two_pow (s.r_lt g ra) (word imm)
  · intro g rd ra imm s h hi
    rw [exec_shli, execShli, State.immOp_result h _ _ _ _ (decide_eq_true hi)]
    exact by rw [Nat.mod_eq_of_lt hi]
  · intro g rd ra imm s h hi
    rw [exec_shri, execShri, State.immOp_result h _ _ _ _ (decide_eq_true hi)]
    exact by rw [Nat.mod_eq_of_lt hi, Nat.mod_eq_of_lt (shift _ _ (s.r_lt g ra))]
  · intro g rd ra imm s h hi
    rw [exec_sari, execSari, State.immOp_result h _ _ _ _ (decide_eq_true hi)]
    exact by rw [Nat.mod_eq_of_lt hi, sar_mod]
  · rintro g rd ra imm s h rfl
    rw [exec_lui, execLui, beq_self_eq_true, State.issue_ok h]
    rfl
  · intro g rd ra imm s h hi
    rw [exec_shli, execShli, State.immOp_forbidden h _ _ _ _ (decide_eq_false (Nat.not_lt.2 hi))]
  · intro g rd ra imm s h hi
    rw [exec_shri, execShri, State.immOp_forbidden h _ _ _ _ (decide_eq_false (Nat.not_lt.2 hi))]
  · intro g rd ra imm s h hi
    rw [exec_sari, execSari, State.immOp_forbidden h _ _ _ _ (decide_eq_false (Nat.not_lt.2 hi))]
  · intro g rd ra imm s h hra
    rw [exec_lui, execLui, beq_eq_false_iff_ne.2 hra, State.issue_forbidden h]

end Sys2Proof.Machine
end

section
/-!
PROOF. Products, counts, comparisons, bit fields, checks and hashes of a thread: O31 and O32.
-/

namespace Sys2Proof.Machine

open Sys2Proof

/-! ### Counts (R403) -/

theorem length_takeWhile_range {p : Nat → Bool} {n m : Nat} (hm : m < n) (hp : ∀ i < m, p i = true) (hn : p m = false) :
    ((List.range n).takeWhile p).length = m := by
  obtain ⟨k, rfl⟩ : ∃ k, n = m + (k + 1) := ⟨n - m - 1, by omega⟩
  rw [List.range_add, List.takeWhile_append_of_pos fun i hi => hp i (List.mem_range.1 hi), List.range_succ_eq_map, List.map_cons,
    List.takeWhile_cons_of_neg (by simpa using hn)]
  simp

theorem clz_zero : clz 0 = 32 := by decide

theorem clz_pos {a : Nat} (h0 : a ≠ 0) (ha : a < 2 ^ 32) : clz a = 31 - a.log2 := by
  have hlog : a.log2 < 32 := (Nat.log2_lt h0).2 ha
  refine length_takeWhile_range (by omega) (fun i hi => ?_) ?_
  · rw [bit, Nat.testBit_lt_two_pow, Bool.not_false]
    exact (Nat.log2_lt h0).1 (by omega)
  · rw [bit, show 31 - (31 - a.log2) = a.log2 by omega, Nat.testBit_log2 h0, Bool.not_true]

theorem clz_eq {a : Nat} (ha : a < 2 ^ 32) : clz a = if a = 0 then 32 else 31 - a.log2 := by
  split
  · next h => rw [h, clz_zero]
  · next h => exact clz_pos h ha

theorem ones_eq (a : Nat) : ones a = ((List.range 32).filter fun i => a / 2 ^ i % 2 == 1).length := by
  refine congrArg _ (List.filter_congr fun i _ => ?_)
  rw [bit, Nat.testBit_eq_decide_div_mod_eq]
  rfl

theorem ones_le (a : Nat) : ones a ≤ 32 := Nat.le_trans (List.length_filter_le ..) (by simp)

/-- Settles O31: each result on the operands is one word, or is cut to one. -/
theorem threadProductsAndCompares : Obligations.ThreadProductsAndCompares := by
  unfold Obligations.ThreadProductsAndCompares
  have ite_lt {c : Prop} [Decidable c] {a b : Nat} (ha : a < 2 ^ 32) (hb : b < 2 ^ 32) : (if c then a else b) < 2 ^ 32 := by split <;> assumption
  have signed (a b x y : Nat) : (if ltS a b then x else y) = if toInt 32 a < toInt 32 b then x else y := by simp [ltS]
  refine ⟨?_, ?_, ?_, ?_, ?_, ?_, ?_, ?_, ?_, ?_, ?_, ?_, ?_, ?_⟩
  · intro g rd ra rb s h
    rw [exec_mul, execMul, State.regOp_result h]
    rfl
  · intro g rd ra rb s h
    rw [exec_mulhu, execMulhu, State.regOp_result_lt h]
    exact Nat.div_lt_of_lt_mul (Nat.mul_lt_mul'' (s.r_lt g ra) (s.r_lt g rb))
  · intro g rd ra rb s h
    rw [exec_mulhs, execMulhs, State.regOp_result h]
    exact ofInt32_mod _
  · rintro g rd ra rb s h rfl
    have hv : clz (s.r g ra) < 2 ^ 32 := by rw [clz_eq (s.r_lt g ra)]; split <;> omega
    rw [exec_clz, execClz, beq_self_eq_true, State.issue_ok h, State.r_issued, State.alu_result, Nat.mod_eq_of_lt hv, clz_eq (s.r_lt g ra)]
  · rintro g rd ra rb s h rfl
    have hv : ones (s.r g ra) < 2 ^ 32 := Nat.lt_of_le_of_lt (ones_le _) (by decide)
    rw [exec_popc, execPopc, beq_self_eq_true, State.issue_ok h, State.r_issued, State.alu_result, Nat.mod_eq_of_lt hv, ones_eq]
  · intro g rd ra rb s h
    rw [exec_min, execMin, State.regOp_result h]
    rw [signed, Nat.mod_eq_of_lt (ite_lt (s.r_lt g ra) (s.r_lt g rb))]
  · intro g rd ra rb s h
    rw [exec_max, execMax, State.regOp_result h]
    rw [signed, Nat.mod_eq_of_lt (ite_lt (s.r_lt g ra) (s.r_lt g rb))]
  · intro g rd ra rb s h
    rw [exec_minu, execMinu, State.regOp_result h]
    rw [Nat.mod_eq_of_lt (ite_lt (s.r_lt g ra) (s.r_lt g rb))]
    show _ = min _ _
    split <;> omega
  · intro g rd ra rb s h
    rw [exec_maxu, execMaxu, State.regOp_result h]
    rw [Nat.mod_eq_of_lt (ite_lt (s.r_lt g ra) (s.r_lt g rb))]
    show _ = max _ _
    split <;> omega
  · intro g rd ra rb s h
    rw [exec_slt, execSlt, State.regOp_result h]
    rw [signed, Nat.mod_eq_of_lt (ite_lt (by decide) (by decide))]
  · intro g rd ra rb s h
    rw [exec_sltu, execSltu, State.regOp_result_lt h]
    exact ite_lt (by decide) (by decide)
  · intro g rd ra imm s h
    rw [exec_slti, execSlti, State.immOp_result h _ _ _ _ rfl]
    rw [signed, toInt32_sext, Nat.mod_eq_of_lt (ite_lt (by decide) (by decide))]
  · intro g rd ra rb s h hrb
    rw [exec_clz, execClz, beq_eq_false_iff_ne.2 hrb, State.issue_forbidden h]
  · intro g rd ra rb s h hrb
    rw [exec_popc, execPopc, beq_eq_false_iff_ne.2 hrb, State.issue_forbidden h]

/-! ### Bit fields, checks and hashes (R407, R408) -/

theorem fieldOk_eq (pos len : BitVec 5) : fieldOk pos len = decide (pos.toNat + len.toNat < 32) := by
  rw [fieldOk, decide_eq_decide]; omega

theorem countOk_eq (n : BitVec 3) : countOk n = decide (n = 1 ∨ n = 2 ∨ n = 4) := by
  revert n; decide

/-- n octets of a value, from the least significant one. -/
theorem le_eq_map (n v : Nat) : le n v = (List.range n).map fun i => v / 2 ^ (8 * i) % 256 := by
  induction n generalizing v with
  | zero => rfl
  | succ n ih =>
    rw [le, ih, List.range_succ_eq_map, List.map_cons, List.map_map]
    refine congr (congrArg _ (by simp)) (List.map_congr_left fun i _ => ?_)
    rw [Function.comp, Nat.div_div_eq_div_mul, ← show 2 ^ (8 * (i + 1)) = 256 * 2 ^ (8 * i) by rw [Nat.mul_add, Nat.pow_add, Nat.mul_comm]]

/-- A field of n + 1 bits with its sign, as a word. -/
theorem ofInt_toInt_field {f n : Nat} (hn : n < 32) (hf : f < 2 ^ (n + 1)) :
    ofInt 32 (toInt (n + 1) f) = if f < 2 ^ n then f else f + 2 ^ 32 - 2 ^ (n + 1) := by
  have hp : 2 ^ (n + 1) ≤ 2 ^ 32 := Nat.pow_le_pow_right (by decide) hn
  simp only [toInt, Nat.mod_eq_of_lt hf, Nat.add_sub_cancel]
  split
  · rw [ofInt_natCast, Nat.mod_eq_of_lt (by omega)]
  · next h =>
    rw [ofInt]
    omega

/-- A word is its bits under a field, the field and its bits over the field; another value may stand in the field's place. -/
theorem ins_eq (old v p n : Nat) :
    old - bits old p n * 2 ^ p + v * 2 ^ p = old % 2 ^ p + v * 2 ^ p + old / 2 ^ (p + n) * 2 ^ (p + n) := by
  have upper : old / 2 ^ p = old / 2 ^ (p + n) * 2 ^ n + bits old p n := by
    rw [bits, Nat.pow_add, ← Nat.div_div_eq_div_mul, Nat.div_add_mod']
  have whole : old = old / 2 ^ (p + n) * 2 ^ (p + n) + bits old p n * 2 ^ p + old % 2 ^ p := by
    rw [Nat.pow_add, Nat.mul_comm (2 ^ p), ← Nat.mul_assoc, ← Nat.add_mul, Nat.mul_comm (2 ^ n), ← Nat.pow_add, ← upper, Nat.div_add_mod']
  omega

theorem bswap_eq {v : Nat} (hv : v < 2 ^ 32) :
    leVal (be 4 v) = v % 256 * 2 ^ 24 + v / 2 ^ 8 % 256 * 2 ^ 16 + v / 2 ^ 16 % 256 * 2 ^ 8 + v / 2 ^ 24 := by
  simp only [be, le, List.reverse_cons, List.reverse_nil, List.nil_append, List.cons_append, leVal, Nat.div_div_eq_div_mul, Nat.reduceMul, Nat.reducePow]
  omega

/-- Settles O32: the model's field and octet arithmetic in the words of the statement, and the frame of the write-back. -/
theorem threadFieldsAndHashes : Obligations.ThreadFieldsAndHashes := by
  unfold Obligations.ThreadFieldsAndHashes
  have moved {s : State} {g : Nat} (h : s.issues g = true) (rd : BitVec 5) (word : Nat) {ok : Bool} (hok : ok = true) {f : State → Nat} {v : Nat}
      (hv : f (s.issued g) = v) : s.issue g ok word (fun u => u.move g rd (f u)) = s.moved g rd v := by
    rw [hok, State.issue_ok h, hv]
    rfl
  have trapped {s : State} {g : Nat} (h : s.issues g = true) (word : Nat) {ok : Bool} (hok : ok = false) (f : State → State) :
      s.issue g ok word f = (s.issued g).trap g 0x01 word := by
    rw [hok, State.issue_forbidden h]
  have fits {pos len : BitVec 5} (h : pos.toNat + len.toNat < 32) : fieldOk pos len = true := by simpa [fieldOk_eq] using h
  have misfits {pos len : BitVec 5} (h : 32 ≤ pos.toNat + len.toNat) : fieldOk pos len = false := by simpa [fieldOk_eq] using h
  have counts {n : BitVec 3} (h : n = 1 ∨ n = 2 ∨ n = 4) : countOk n = true := by simpa [countOk_eq] using h
  have miscounts {n : BitVec 3} (h1 : n ≠ 1) (h2 : n ≠ 2) (h4 : n ≠ 4) : countOk n = false := by simpa [countOk_eq] using ⟨h1, h2, h4⟩
  refine ⟨?_, ?_, ?_, ?_, ?_, ?_, ?_, ?_, ?_, ?_, ?_, ?_, ?_, ?_⟩
  · intro g rd ra pos len s h hf
    refine congrArg _ (moved h rd _ (fits hf) ?_)
    rw [State.r_issued, bits, ofInt_toInt_field (by omega) (Nat.mod_lt _ (Nat.two_pow_pos _))]
  · intro g rd ra pos len s h hf
    refine congrArg _ (moved h rd _ (fits hf) ?_)
    rw [State.r_issued, bits]
  · intro g rd ra pos len s h hf
    refine congrArg _ (moved h rd _ (fits hf) ?_)
    rw [State.r_issued, State.r_issued, ins_eq]
    rfl
  · intro g rd ra s h
    refine congrArg _ (moved h rd _ rfl ?_)
    rw [State.r_issued, bswap_eq (s.r_lt g ra)]
  · intro g rd ra rb n s h hn
    refine congrArg _ (moved h rd _ (counts hn) ?_)
    rw [State.r_issued, State.r_issued, le_eq_map]
  · intro g rd ra rb n s h hn
    refine congrArg _ (moved h rd _ (counts hn) ?_)
    rw [State.r_issued, State.r_issued, le_eq_map]
  · intro g rd ra rb s h
    refine congrArg _ (moved h rd _ rfl ?_)
    rw [State.r_issued, State.r_issued]
  · exact fun g rd ra pos len s h hf => congrArg _ (trapped h _ (misfits hf) _)
  · exact fun g rd ra rb n s h h1 h2 h4 => congrArg _ (trapped h _ (miscounts h1 h2 h4) _)
  · exact fun g rd ra pos len s h hf => congrArg _ (trapped h _ (misfits hf) _)
  · exact fun g rd ra pos len s h hf => congrArg _ (trapped h _ (misfits hf) _)
  · intro g rd ra pos len s h hf
    refine congrArg _ (trapped h _ ?_ _)
    rcases hf with hf | hf
    · rw [beq_eq_false_iff_ne.2 hf, Bool.false_and]
    · rw [beq_eq_false_iff_ne.2 hf, Bool.and_false]
  · exact fun g rd ra rb n s h h1 h2 h4 => congrArg _ (trapped h _ (miscounts h1 h2 h4) _)
  · exact fun g v rd s => s.moved_effect g v rd

end Sys2Proof.Machine
end

section
/-!
PROOF. Branches, loads, stores and atomics of a thread: O33 to O37.
-/

namespace Sys2Proof.Machine

open Sys2Proof

/-! ### Branches and jumps (R410, R411) -/

theorem State.target_issued (s : State) (g k : Nat) (disp : Int) :
    (s.issued g).target k disp = (((s.get THR.PC k : Int) + 4 * disp) % 2 ^ 32).toNat := by
  rw [State.target, State.get_issued _ (by decide), Int.mul_comm]
  rfl

theorem State.branch_issues {s : State} {g : Nat} (h : s.issues g = true) (op : Nat) (ra rb : BitVec 5) (disp : BitVec 16)
    {cond : Nat → Nat → Bool} {P : Prop} [Decidable P] (hP : cond (s.r g ra) (s.r g rb) = true ↔ P) :
    s.branch g op ra rb disp cond
      = if P then (s.issued g).put THR.PC g (((s.get THR.PC g : Int) + 4 * disp.toInt) % 2 ^ 32).toNat else (s.issued g).pcNext g := by
  rw [State.branch, State.issue_ok h, State.r_issued, State.r_issued, State.target_issued]
  exact ite_congr (propext hP) (fun _ => rfl) fun _ => rfl

/-- Settles O33: the comparison of each branch, and the ways of an issue for ADD. -/
theorem threadBranches : Obligations.ThreadBranches := by
  unfold Obligations.ThreadBranches
  refine ⟨?_, ?_, ?_, ?_, ?_, ?_, ?_, ?_, ?_, ?_, ?_⟩
  · intro g ra rb disp s h
    rw [exec_beq, execBeq, State.branch_issues h _ _ _ _ beq_iff_eq]
  · intro g ra rb disp s h
    rw [exec_bne, execBne, State.branch_issues h _ _ _ _ bne_iff_ne]
  · intro g ra rb disp s h
    rw [exec_blt, execBlt, State.branch_issues h _ _ _ _ decide_eq_true_iff]
  · intro g ra rb disp s h
    rw [exec_bge, execBge, State.branch_issues h _ _ _ _ (by rw [ltS, Bool.not_eq_true', decide_eq_false_iff_not, Int.not_lt])]
  · intro g ra rb disp s h
    rw [exec_bltu, execBltu, State.branch_issues h _ _ _ _ decide_eq_true_iff]
  · intro g ra rb disp s h
    rw [exec_bgeu, execBgeu, State.branch_issues h _ _ _ _ decide_eq_true_iff]
  · intro g disp s h
    rw [exec_j, execJ, State.issue_ok h, State.target_issued]
  · intro g disp s h
    rw [exec_jal, execJal, State.issue_ok h, State.target_issued, State.get_issued _ (by decide), State.setW_pos _ _ (by decide)]
  · intro g rd ra imm s h
    rw [exec_jalr, execJalr, State.issue_ok h, State.get_issued _ (by decide), State.r_issued, sext_eq]
    refine congrArg (fun t => Host.Outcome.next (State.put _ THR.PC g t)) ?_
    omega
  · intro g rd ra rb s hg hr hpc
    have hg' : ¬ 512 ≤ g := by omega
    simp [execAdd, State.issue, hg', hr, hpc]
  · intro g rd ra rb s hr
    simp [execAdd, State.issue, hr]

/-! ### Addresses (R373, R377, R405) -/

theorem State.place_issued (s : State) (g k ea : Nat) : (s.issued g).place k ea = s.place k ea := by
  rw [State.place, State.place, State.get_issued _ (by decide)]

theorem State.ea_issued (s : State) (g k : Nat) (ra : BitVec 5) (disp : Nat) : (s.issued g).ea k ra disp = s.ea k ra disp := by
  rw [State.ea, State.ea, State.r_issued]

theorem State.ea_octets (s : State) (g : Nat) (ra : BitVec 5) (imm : BitVec 16) :
    s.ea g ra (sext imm) = (((s.r g ra : Int) + imm.toInt) % 2 ^ 32).toNat := by
  rw [State.ea, sext_eq]; omega

theorem State.ea_words (s : State) (g : Nat) (ra : BitVec 5) (imm : BitVec 14) :
    s.ea g ra (wordDisp imm) = (((s.r g ra : Int) + 4 * imm.toInt) % 2 ^ 32).toNat := by
  rw [State.ea, wordDisp, show sext imm = (imm.toInt % 2 ^ 32).toNat from rfl]; omega

theorem State.reachAll_one (s : State) (g ea : Nat) (wr : Bool) : s.reachAll g ea 1 wr = s.reach g ea wr := by
  by_cases h : s.reach g ea wr = 0 <;> simp [State.reachAll, h]

/-! ### Accesses (R405, R406) -/

theorem State.accessCause_memory {s : State} {g ea n : Nat} {p : Place} {wr : Bool} (hp : s.place g ea = p) (hm : p.memory = true)
    (ha : ea % n = 0) : s.accessCause g ea n wr = s.reachAll g ea n wr := by
  rw [State.accessCause, if_neg (Classical.not_not.2 ha), hp]
  cases p with
  | regs => cases hm
  | none => cases hm
  | _ => rfl

theorem State.load_memory {s : State} {g ea n : Nat} {p : Place} (f : State → Nat → State) (hp : s.place g ea = p) (hm : p.memory = true)
    (ha : ea % n = 0) (hr : s.reachAll g ea n false = 0) : s.load g ea n f = f s (leVal (s.placeRead p n)) := by
  rw [State.load, (State.accessCause_memory hp hm ha).trans hr, if_neg (Classical.not_not.2 rfl)]
  simp only [hp]
  cases p with
  | regs => cases hm
  | none => cases hm
  | _ => rfl

theorem State.store_memory {s : State} {g ea n : Nat} {p : Place} (v : Nat) (hp : s.place g ea = p) (hm : p.memory = true)
    (ha : ea % n = 0) (hr : s.reachAll g ea n true = 0) : s.store g ea n v = (s.placeWrite p (le n v)).pcNext g := by
  rw [State.store, (State.accessCause_memory hp hm ha).trans hr, if_neg (Classical.not_not.2 rfl)]
  simp only [hp]
  cases p with
  | regs => cases hm
  | none => cases hm
  | _ => rfl

theorem State.load_trap {s : State} {g ea n c : Nat} (f : State → Nat → State) (h : s.accessCause g ea n false = c) (hc : c ≠ 0) :
    s.load g ea n f = s.trap g c ea := by
  rw [State.load, h, if_pos hc]

theorem State.store_trap {s : State} {g ea n c : Nat} (v : Nat) (h : s.accessCause g ea n true = c) (hc : c ≠ 0) :
    s.store g ea n v = s.trap g c ea := by
  rw [State.store, h, if_pos hc]

theorem State.accessCause_unaligned {s : State} {g ea n : Nat} (wr : Bool) (h : ea % n ≠ 0) : s.accessCause g ea n wr = 0x03 := by
  rw [State.accessCause, if_pos h]

/-- An access of a word in the register window that the thread reaches. -/
theorem State.accessCause_regs {s : State} {g ea off : Nat} {wr : Bool} (hp : s.place g ea = .regs off) (ha : ea % 4 = 0) :
    s.accessCause g ea 4 wr = s.reach g ea wr := by
  rw [State.accessCause, if_neg (Classical.not_not.2 ha), hp]
  rfl

/-- The octets of a value as a number, with its sign, as a word (R405). -/
theorem sext_ofNat {n : Nat} (hn : n < 32) (v : Nat) :
    sext (BitVec.ofNat (n + 1) v) = if v % 2 ^ (n + 1) < 2 ^ n then v % 2 ^ (n + 1) else v % 2 ^ (n + 1) + 2 ^ 32 - 2 ^ (n + 1) := by
  rw [← ofInt_toInt_field hn (Nat.mod_lt v (Nat.two_pow_pos _)), sext, BitVec.toInt_eq_toNat_cond, BitVec.toNat_ofNat]
  have hpow : 2 ^ (n + 1) = 2 * 2 ^ n := Nat.pow_succ'
  simp only [toInt, Nat.mod_mod, Nat.add_sub_cancel]
  exact congrArg _ (ite_congr (propext (by omega)) (fun _ => rfl) fun _ => rfl)

/-- Settles O34: the one load behind the instructions, by where its address lies. -/
theorem threadLoads : Obligations.ThreadLoads := by
  unfold Obligations.ThreadLoads
  refine ⟨?_, ?_, ?_, ?_, ?_, ?_, ?_, ?_, ?_, ?_, ?_⟩
  · rintro g rd ra imm ea p s h rfl hp hm ha hr
    rw [← State.place_issued s g] at hp
    rw [exec_ldb, execLdb, State.issue_ok h, State.ea_issued, State.ea_octets, State.load_memory _ hp hm ha hr, sext_ofNat (by decide)]
    rfl
  · rintro g rd ra imm ea p s h rfl hp hm ha hr
    rw [← State.place_issued s g] at hp
    rw [exec_ldbu, execLdbu, State.issue_ok h, State.ea_issued, State.ea_octets, State.load_memory _ hp hm ha hr]
    rfl
  · rintro g rd ra imm ea p s h rfl hp hm ha hr
    rw [← State.place_issued s g] at hp
    rw [exec_ldh, execLdh, State.issue_ok h, State.ea_issued, State.ea_octets, State.load_memory _ hp hm ha hr, sext_ofNat (by decide)]
    rfl
  · rintro g rd ra imm ea p s h rfl hp hm ha hr
    rw [← State.place_issued s g] at hp
    rw [exec_ldhu, execLdhu, State.issue_ok h, State.ea_issued, State.ea_octets, State.load_memory _ hp hm ha hr]
    rfl
  · rintro g rd ra imm ea p s h rfl hp hm ha hr
    rw [← State.place_issued s g] at hp
    rw [exec_ldw, execLdw, State.issue_ok h, State.ea_issued, State.ea_words, State.load_memory _ hp hm ha hr]
    rfl
  · rintro g rd ra imm ea p s h rfl heven hp hm ha hr
    rw [← State.place_issued s g] at hp
    rw [exec_ldp, execLdp, evenReg, heven, beq_self_eq_true, State.issue_ok h, State.ea_issued, State.ea_words, State.load_memory _ hp hm ha hr]
    rfl
  · intro g rd ra imm off s h hp ha hr hb
    rw [← State.place_issued s g] at hp
    rw [exec_ldw, execLdw, State.issue_ok h, State.ea_issued, State.load, (State.accessCause_regs hp ha).trans hr, if_neg (Classical.not_not.2 rfl)]
    simp only [hp, if_neg hb]
    rfl
  · rintro g rd ra imm ea s h rfl ha
    rw [exec_ldw, execLdw, State.issue_ok h, State.ea_issued, State.ea_words, State.load_trap _ (State.accessCause_unaligned _ ha) (by decide)]
  · rintro g rd ra imm ea p s h rfl rfl hp
    rw [← State.place_issued s g] at hp
    rw [exec_ldbu, execLdbu, State.issue_ok h, State.ea_issued, State.ea_octets, State.load_trap (c := 0x04) _ ?_ (by decide)]
    rw [State.accessCause, if_neg (by omega), hp]
    simp only [State.reachAll_one, State.reach, hp]
  · rintro g rd ra imm ea n off s h rfl hp ho
    rw [← State.place_issued s g] at hp
    rw [exec_ldbu, execLdbu, State.issue_ok h, State.ea_issued, State.ea_octets, State.load_trap (c := 0x05) _ ?_ (by decide)]
    have closed : (s.issued g).on WIN.OPEN n = false := State.on_of_eq ((State.get_issued n (by decide)).trans ho)
    rw [State.accessCause, if_neg (by omega), hp]
    simp only [State.reachAll_one, State.reach, hp, closed]
    rfl
  · rintro g rd ra imm ea off s h rfl hp ha
    rw [← State.place_issued s g] at hp
    rw [exec_ldhu, execLdhu, State.issue_ok h, State.ea_issued, State.ea_octets, State.load_trap (c := 0x04) _ ?_ (by decide)]
    rw [State.accessCause, if_neg (Classical.not_not.2 ha), hp]
    rfl

/-- Settles O35: the one store behind the instructions, by where its address lies. -/
theorem threadStores : Obligations.ThreadStores := by
  unfold Obligations.ThreadStores
  refine ⟨?_, ?_, ?_, ?_, ?_, ?_, ?_⟩
  · rintro g rd ra imm ea p s h rfl hp hm ha hr
    rw [← State.place_issued s g] at hp
    rw [exec_stb, execStb, State.issue_ok h, State.ea_issued, State.ea_octets, State.store_memory _ hp hm ha hr, State.r_issued]
  · rintro g rd ra imm ea p s h rfl hp hm ha hr
    rw [← State.place_issued s g] at hp
    rw [exec_sth, execSth, State.issue_ok h, State.ea_issued, State.ea_octets, State.store_memory _ hp hm ha hr, State.r_issued]
  · rintro g rd ra imm ea p s h rfl hp hm ha hr
    rw [← State.place_issued s g] at hp
    rw [exec_stw, execStw, State.issue_ok h, State.ea_issued, State.ea_words, State.store_memory _ hp hm ha hr, State.r_issued]
  · rintro g rd ra imm ea p s h rfl heven hp hm ha hr
    rw [← State.place_issued s g] at hp
    rw [exec_stp, execStp, evenReg, heven, beq_self_eq_true, State.issue_ok h, State.ea_issued, State.ea_words,
      State.store_memory _ hp hm ha hr, State.pair_issued]
    rfl
  · intro g rd ra imm off s h hp ha hr hb
    rw [← State.place_issued s g] at hp
    rw [exec_stw, execStw, State.issue_ok h, State.ea_issued, State.r_issued, State.store, (State.accessCause_regs hp ha).trans hr,
      if_neg (Classical.not_not.2 rfl)]
    simp only [hp, if_neg hb]
  · rintro g rd ra imm ea s h rfl heven ha
    rw [exec_stp, execStp, evenReg, heven, beq_self_eq_true, State.issue_ok h, State.ea_issued, State.ea_words,
      State.store_trap _ (State.accessCause_unaligned _ ha) (by decide)]
  · rintro g rd ra imm ea p s h rfl hk hp hg hlow
    rw [← State.place_issued s g] at hp
    have hprog : kindOf g = .program 0 := by
      revert hk
      simp only [kindOf, if_neg hg]
      split
      · intro hk; cases hk
      · intro hk; simpa [Kind.hedge] using hk
    have hloc : (s.issued g).place g (((s.r g ra : Int) + imm.toInt) % 2 ^ 32).toNat
        = .local_ (0x10000 * (g / 4) + (((s.r g ra : Int) + imm.toInt) % 2 ^ 32).toNat) := if_pos (by omega)
    rw [exec_stb, execStb, State.issue_ok h, State.ea_issued, State.ea_octets, State.store_trap (c := 0x04) _ ?_ (by decide)]
    rw [State.accessCause, if_neg (by omega), hloc]
    simp only [State.reachAll_one, State.reach, hloc, hprog, decide_eq_true hlow]
    rfl

/-! ### A store and a load of local memory -/

theorem length_le (n v : Nat) : (le n v).length = n := by
  induction n generalizing v with
  | zero => rfl
  | succ n ih => rw [le, List.length_cons, ih]

theorem leVal_le (n v : Nat) : leVal (le n v) = v % 256 ^ n := by
  induction n generalizing v with
  | zero => rw [Nat.pow_zero, Nat.mod_one]; rfl
  | succ n ih => rw [le, leVal, ih, Nat.pow_succ', Nat.mod_mul]

theorem memReadL_eq_map (m : List Host.Cell) (a n : Nat) : memReadL m a n = (List.range n).map fun i => (memRead (a + i) m).toNat := by
  induction n generalizing a with
  | zero => rfl
  | succ n ih =>
    rw [memReadL, ih, List.range_succ_eq_map, List.map_cons, List.map_map]
    refine congrArg _ (List.map_congr_left fun i _ => ?_)
    rw [Function.comp, Nat.succ_eq_add_one, Nat.add_assoc, Nat.add_comm 1 i]

theorem lt_of_mem_le {n v b : Nat} (h : b ∈ le n v) : b < 256 := by
  rw [le_eq_map] at h
  obtain ⟨i, -, rfl⟩ := List.mem_map.1 h
  exact Nat.mod_lt _ (by decide)

/-- Octets written are the octets read back. -/
theorem memReadL_memWriteL {m : List Host.Cell} (hm : memWf m = true) (k n v : Nat) : memReadL (memWriteL m k (le n v)) k n = le n v := by
  rw [memReadL_eq_map]
  refine List.ext_getElem (by simp [length_le]) fun i hi hi' => ?_
  rw [List.getElem_map, List.getElem_range, memRead_memWriteL hm hi', BitVec.toNat_ofNat, List.getD_eq_getElem?_getD,
    List.getElem?_eq_getElem hi', Option.getD_some]
  exact Nat.mod_eq_of_lt (lt_of_mem_le (List.getElem_mem hi'))

theorem State.place_local {s : State} {g ea k : Nat} (h : s.place g ea = .local_ k) : ea < 0x10000 := by
  unfold State.place at h
  split at h
  · assumption
  all_goals exfalso; revert h; repeat' split
  all_goals exact nofun

/-- A thread of the runtime reaches all of its local memory. -/
theorem State.reachAll_local (s : State) {g ea n : Nat} (wr : Bool) (hg : g < 448) (hea : ea + n ≤ 0x10000) : s.reachAll g ea n wr = 0 := by
  have hk : kindOf g = .runtime := if_pos (by omega)
  have none : ((List.range n).map fun i => s.reach g (ea + i) wr).find? (· != 0) = none := by
    simp only [List.find?_eq_none, List.mem_map, List.mem_range]
    rintro c ⟨i, hi, rfl⟩
    have hp : s.place g (ea + i) = .local_ (0x10000 * (g / 4) + (ea + i)) := if_pos (by omega)
    simp [State.reach, hp, hk]
  rw [State.reachAll, none]
  rfl

theorem State.placeRead_local (s : State) (g k n : Nat) : (s.issued g).placeRead (.local_ k) n = memReadL s.mem.localMem k n := rfl

/-- The state after a store to local memory. -/
def State.stored (s : State) (g k v : Nat) : State := ((s.issued g).placeWrite (.local_ k) (le 4 v)).pcNext g

/-- A store of a word in local memory. -/
theorem State.stw_local {s : State} {g k : Nat} {ra : BitVec 5} {imm : BitVec 14} (rd : BitVec 5) (h : s.issues g = true) (hg : g < 448)
    (hp : s.place g (s.ea g ra (wordDisp imm)) = .local_ k) (ha : s.ea g ra (wordDisp imm) % 4 = 0) :
    exec (.stw g rd ra imm) s = .next (s.stored g k (s.r g rd)) := by
  have hlt := State.place_local hp
  rw [State.ea_words] at hp ha hlt
  exact threadStores.2.2.1 g rd ra imm _ _ s h rfl hp rfl ha (State.reachAll_local _ _ hg (by omega))

/-- A load of a word of local memory. -/
theorem State.ldw_local {s : State} {g k : Nat} {ra : BitVec 5} {imm : BitVec 14} (rd : BitVec 5) (h : s.issues g = true) (hg : g < 448)
    (hp : s.place g (s.ea g ra (wordDisp imm)) = .local_ k) (ha : s.ea g ra (wordDisp imm) % 4 = 0) :
    exec (.ldw g rd ra imm) s = .next (s.moved g rd (leVal (memReadL s.mem.localMem k 4))) := by
  have hlt := State.place_local hp
  rw [State.ea_words] at hp ha hlt
  rw [threadLoads.2.2.2.2.1 g rd ra imm _ _ s h rfl hp rfl ha (State.reachAll_local _ _ hg (by omega)), State.placeRead_local]

theorem State.w_moved (s : State) {g : Nat} {rd : BitVec 5} (v : Nat) (h : rd ≠ 0) : (s.moved g rd v).w g rd.toNat = v % 2 ^ 32 := by
  obtain ⟨-, hw, -⟩ := s.moved_effect g v rd
  rw [State.w, if_neg (show rd.toNat ≠ 0 from fun e => h (BitVec.eq_of_toNat_eq e)), hw h, Nat.mod_mod]

theorem State.moved_mem (s : State) (g v : Nat) (rd : BitVec 5) : (s.moved g rd v).mem = s.mem := by
  obtain ⟨-, -, hsame, -⟩ := s.moved_effect g v rd
  exact (congrArg State.mem hsame : _)

theorem State.get_stored {s : State} {F : Fld} (g k v n : Nat) (hc : F.id ≠ ENGE.ISSUE_CNT.id) (hp : F.id ≠ THR.PC.id) :
    (s.stored g k v).get F n = s.get F n :=
  (State.get_put_id hp).trans (State.get_issued n hc)

theorem State.pc_stored (s : State) (g k v : Nat) : (s.stored g k v).get THR.PC g = (s.get THR.PC g + 4) % 2 ^ 32 := by
  refine (State.get_put ..).trans ?_
  exact congrArg (fun pc => (pc + 4) % 2 ^ 32) (State.get_issued g (by decide))

theorem State.issues_stored {s : State} {g : Nat} (k v : Nat) (h : s.issues g = true) (hpc : pcOk g (s.get THR.PC g + 4) = true) :
    (s.stored g k v).issues g = true := by
  obtain ⟨hg, hr, -⟩ := State.issues_iff.1 h
  have hlt : s.get THR.PC g + 4 < 2 ^ 32 := by
    rw [pcOk, decide_eq_true_iff] at hpc
    split at hpc <;> omega
  refine State.issues_iff.2 ⟨hg, ?_, ?_⟩
  · rwa [State.threadState, State.get_stored _ _ _ _ (by decide) (by decide)]
  · rwa [State.pc_stored, Nat.mod_eq_of_lt hlt]

/-- Settles O36: the store leaves the thread ready at the next word, and its octets are read back. -/
theorem storeThenLoad : Obligations.StoreThenLoad := by
  unfold Obligations.StoreThenLoad
  intro g rd ra rx imm k s h hg hm hp ha hpc hrx
  have hea : (s.stored g k (s.r g rd)).ea g ra (wordDisp imm) = s.ea g ra (wordDisp imm) := by
    simp only [State.ea, State.r, State.w, State.get_stored g k _ _ (show THR.W.id ≠ _ by decide) (show THR.W.id ≠ _ by decide)]
  have hpl : (s.stored g k (s.r g rd)).place g (s.ea g ra (wordDisp imm)) = .local_ k := by
    rwa [State.place, State.get_stored g k _ _ (by decide) (by decide)]
  refine completes_of (State.stw_local rd h hg hp ha) (completes_of (State.ldw_local (k := k) rx (State.issues_stored k _ h hpc) hg ?_ ?_) ?_)
  · rwa [hea]
  · rwa [hea]
  · refine ⟨?_, fun a ha => ?_, ?_⟩
    · rw [State.w_moved _ _ hrx]
      show leVal (memReadL (memWriteL s.mem.localMem k _) k 4) % 2 ^ 32 = _
      rw [memReadL_memWriteL hm, leVal_le, show 256 ^ 4 = 2 ^ 32 by decide, Nat.mod_mod, Nat.mod_eq_of_lt (s.r_lt g rd)]
    · rw [State.moved_mem]
      exact memRead_memWriteL_outside hm (by rwa [length_le])
    · rw [State.moved_mem]
      rfl

/-! ### Atomics (R409) -/

theorem le_congr {n a b : Nat} (h : a % 2 ^ (8 * n) = b % 2 ^ (8 * n)) : le n a = le n b := by
  induction n generalizing a b with
  | zero => rfl
  | succ n ih =>
    have hpow : 2 ^ (8 * (n + 1)) = 256 * 2 ^ (8 * n) := by rw [Nat.mul_add, Nat.pow_add, Nat.mul_comm]
    rw [hpow] at h
    rw [le, le]
    congr 1
    · have := congrArg (· % 256) h
      simpa only [Nat.mod_mul_right_mod] using this
    · refine ih ?_
      have := congrArg (· / 256) h
      simpa only [Nat.mod_mul_right_div_self] using this

theorem State.pair_lt (s : State) (g r : Nat) : s.pair g r < 2 ^ 64 := by
  have h0 := s.w_lt g r
  have h1 := s.w_lt g (r + 1)
  rw [State.pair]; omega

theorem size_word (sz : BitVec 2) (h : sz ≠ 3) : 32 = 8 * 2 ^ sz.toNat + (32 - 8 * 2 ^ sz.toNat) := by
  revert sz; decide

/-- An operand of up to four octets is the register's. -/
theorem State.sized_word (s : State) (g : Nat) (x : BitVec 5) {sz : BitVec 2} (h : sz ≠ 3) : s.sized g x sz = s.r g x % 2 ^ (8 * 2 ^ sz.toNat) := by
  rw [State.sized, State.pair, size_word sz h, Nat.pow_add, Nat.mul_assoc, Nat.add_mul_mod_self_left]
  rfl

theorem State.sized_pair (s : State) (g : Nat) (x : BitVec 5) : s.sized g x 3 = s.pair g x.toNat := Nat.mod_eq_of_lt (s.pair_lt ..)

/-- How an atomic ends that reaches its place, by what it leaves there and in Z. -/
def State.atomicEnd (s : State) (g n : Nat) (rd : BitVec 5) (p : Place) (old : Nat) (x : Option Nat × Option Bool) : State :=
  let u := match x.1 with | some v => s.placeWrite p (le n v) | none => s
  let w := match x.2 with | some z => u.setZ g z | none => u
  (if n = 8 then w.setPair g rd.toNat old else w.setW g rd.toNat old).pcNext g

theorem State.atomic_reached {s : State} {g : Nat} {rd ra rb : BitVec 5} {sz : BitVec 2} {p : Place} (op : Nat)
    (f : State → Nat → Option Nat × Option Bool) (h : s.issues g = true) (hok : (sz.toNat != 3 || (evenReg rd && evenReg rb)) = true)
    (hp : s.place g (s.r g ra) = p) (ht : p.atomic = true) (ha : s.r g ra % 2 ^ sz.toNat = 0)
    (hr : (s.issued g).reachAll g (s.r g ra) (2 ^ sz.toNat) false = 0) (hw : (s.issued g).reachAll g (s.r g ra) (2 ^ sz.toNat) true = 0) :
    s.atomic g rd ra rb sz op f = (s.issued g).atomicEnd g (2 ^ sz.toNat) rd p (leVal ((s.issued g).placeRead p (2 ^ sz.toNat)))
      (f (s.issued g) (leVal ((s.issued g).placeRead p (2 ^ sz.toNat)))) := by
  rw [State.atomic, hok, State.issue_ok h]
  simp only [State.r_issued, State.place_issued, hp, ht, ha, hr, hw, ne_eq, not_true_eq_false, Bool.not_true, Bool.false_eq_true, if_false]
  rfl

theorem sizeOk_word {sz : BitVec 2} (rd rb : BitVec 5) (h : sz ≠ 3) : (sz.toNat != 3 || (evenReg rd && evenReg rb)) = true := by
  rw [bne_iff_ne.2 (show sz.toNat ≠ 3 from fun e => h (BitVec.eq_of_toNat_eq e)), Bool.true_or]

theorem sizeOk_pair {rd rb : BitVec 5} (hd : rd.toNat % 2 = 0) (hb : rb.toNat % 2 = 0) :
    ((3 : BitVec 2).toNat != 3 || (evenReg rd && evenReg rb)) = true := by
  rw [evenReg, evenReg, hd, hb]
  rfl

/-- An atomic of eight octets. -/
theorem State.atomic_pair {s : State} {g : Nat} {rd ra rb : BitVec 5} {p : Place} (op : Nat) (f : State → Nat → Option Nat × Option Bool)
    (h : s.issues g = true) (hd : rd.toNat % 2 = 0) (hb : rb.toNat % 2 = 0) (hp : s.place g (s.r g ra) = p) (ht : p.atomic = true)
    (ha : s.r g ra % 8 = 0) (hr : (s.issued g).reachAll g (s.r g ra) 8 false = 0) (hw : (s.issued g).reachAll g (s.r g ra) 8 true = 0) :
    s.atomic g rd ra rb 3 op f
      = (s.issued g).atomicEnd g 8 rd p (leVal ((s.issued g).placeRead p 8)) (f (s.issued g) (leVal ((s.issued g).placeRead p 8))) :=
  State.atomic_reached (sz := 3) op f h (sizeOk_pair hd hb) hp ht ha hr hw

theorem size_ne_eight (sz : BitVec 2) (h : sz ≠ 3) : 2 ^ sz.toNat ≠ 8 := by
  revert sz; decide

@[simp] theorem State.sized_issued (s : State) (g k : Nat) (x : BitVec 5) (sz : BitVec 2) : (s.issued g).sized k x sz = s.sized k x sz := by
  rw [State.sized, State.sized, State.pair_issued]

/-- An operand is cut to the size in any case. -/
theorem le_sized (s : State) (g a : Nat) (x : BitVec 5) {sz : BitVec 2} (h : sz ≠ 3) :
    le (2 ^ sz.toNat) (a + s.sized g x sz) = le (2 ^ sz.toNat) (a + s.r g x) := by
  rw [State.sized_word s g x h]
  exact le_congr (Nat.add_mod_mod ..)

/-- Settles O37: the one atomic operation behind the instructions, by its size and its outcome. -/
theorem threadAtomics : Obligations.ThreadAtomics := by
  unfold Obligations.ThreadAtomics
  refine ⟨?_, ?_, ?_, ?_, ?_, ?_, ?_, ?_, ?_, ?_⟩
  · intro g rd ra rb sz p s h hsz hp ht ha hr hw
    rw [exec_aadd, execAadd, State.atomic_reached _ _ h (sizeOk_word rd rb hsz) hp ht ha hr hw, State.sized_issued]
    simp only [State.atomicEnd, le_sized s g _ rb hsz, if_neg (size_ne_eight sz hsz)]
  · intro g rd ra rb sz p s h hsz hp ht ha hr hw
    have hle := le_sized s g 0 rb hsz
    rw [Nat.zero_add, Nat.zero_add] at hle
    rw [exec_aswp, execAswp, State.atomic_reached _ _ h (sizeOk_word rd rb hsz) hp ht ha hr hw, State.sized_issued]
    simp only [State.atomicEnd, hle, if_neg (size_ne_eight sz hsz)]
  · intro g rd ra rb p s h hd hb hp ht ha hr hw
    rw [exec_aadd, execAadd, State.atomic_pair _ _ h hd hb hp ht ha hr hw, State.sized_issued, State.sized_pair]
    rfl
  · intro g rd ra rb p s h hd hb hp ht ha hr hw
    rw [exec_aswp, execAswp, State.atomic_pair _ _ h hd hb hp ht ha hr hw, State.sized_issued, State.sized_pair]
    rfl
  · intro g rd ra rb sz p s h hsz hp ht ha hr hw he
    have hle := le_sized s g 0 rb hsz
    rw [Nat.zero_add, Nat.zero_add] at hle
    rw [exec_acas, execAcas, State.atomic_reached _ _ h (sizeOk_word rd rb hsz) hp ht ha hr hw, State.sized_issued, State.sized_issued,
      if_pos (he.trans (State.sized_word s g rd hsz).symm)]
    simp only [State.atomicEnd, hle, if_neg (size_ne_eight sz hsz)]
  · intro g rd ra rb sz p s h hsz hp ht ha hr hw he
    rw [exec_acas, execAcas, State.atomic_reached _ _ h (sizeOk_word rd rb hsz) hp ht ha hr hw, State.sized_issued, State.sized_issued,
      if_neg (State.sized_word s g rd hsz ▸ he)]
    simp only [State.atomicEnd, if_neg (size_ne_eight sz hsz)]
  · intro g rd ra rb p s h hd hb hp ht ha hr hw he
    rw [exec_acas, execAcas, State.atomic_pair _ _ h hd hb hp ht ha hr hw, State.sized_issued, State.sized_issued,
      State.sized_pair, State.sized_pair, if_pos he]
    rfl
  · intro g rd ra rb p s h hd hb hp ht ha hr hw he
    rw [exec_acas, execAcas, State.atomic_pair _ _ h hd hb hp ht ha hr hw, State.sized_issued, State.sized_issued,
      State.sized_pair, State.sized_pair, if_neg he]
    rfl
  · intro g rd ra rb sz s h hsz ha
    rw [exec_aadd, execAadd, State.atomic, sizeOk_word rd rb hsz, State.issue_ok h]
    simp only [State.r_issued, if_pos ha]
  · intro g rd ra rb sz p s h hsz ha hp ht
    rw [exec_aswp, execAswp, State.atomic, sizeOk_word rd rb hsz, State.issue_ok h]
    simp only [State.r_issued, State.place_issued, hp, ht, ha, ne_eq, not_true_eq_false, if_false, Bool.not_false, if_true]

end Sys2Proof.Machine
end

section
/-!
PROOF. What a write of one field leaves of the others, read by field: the frame rules the radio and the threads share.
-/

namespace Sys2Proof.Machine

open Sys2Proof

variable {s : State} {F G : Fld} {n m : Nat}

theorem State.on_put_id {v : Nat} (h : G.id ≠ F.id) : (s.put F n v).on G m = s.on G m := by
  rw [State.on, State.on, State.get_put_id h]

theorem State.get_set_id (h : G.id ≠ F.id) : (s.set F n).get G m = s.get G m := State.get_put_id h

theorem State.on_set_id (h : G.id ≠ F.id) : (s.set F n).on G m = s.on G m := State.on_put_id h

theorem State.get_clr_id (h : G.id ≠ F.id) : (s.clr F n).get G m = s.get G m := State.get_put_id h

theorem State.on_clr_id (h : G.id ≠ F.id) : (s.clr F n).on G m = s.on G m := State.on_put_id h

theorem State.get_bump_id {k : Nat} (h : G.id ≠ F.id) : (s.bump F n k).get G m = s.get G m := State.get_put_id h

theorem State.on_bump_id {k : Nat} (h : G.id ≠ F.id) : (s.bump F n k).on G m = s.on G m := State.on_put_id h

theorem State.get_putIf_id {c : Bool} {v : Nat} (h : G.id ≠ F.id) : (s.putIf c F n v).get G m = s.get G m := by
  cases c
  · rfl
  · exact State.get_put_id h

theorem State.on_putIf_id {c : Bool} {v : Nat} (h : G.id ≠ F.id) : (s.putIf c F n v).on G m = s.on G m := by
  rw [State.on, State.on, State.get_putIf_id h]

@[simp] theorem State.putIf_true (v : Nat) : s.putIf true F n v = s.put F n v := rfl

@[simp] theorem State.putIf_false (v : Nat) : s.putIf false F n v = s := rfl

theorem State.putIf_mem (s : State) (c : Bool) (F : Fld) (n v : Nat) : (s.putIf c F n v).mem = s.mem := by cases c <;> rfl

theorem State.putIf_maps (s : State) (c : Bool) (F : Fld) (n v : Nat) : (s.putIf c F n v).maps = s.maps := by cases c <;> rfl

theorem State.each_nil {α : Type} (s : State) (f : State → α → State) : s.each [] f = s := rfl

theorem State.each_singleton {α : Type} (s : State) (a : α) (f : State → α → State) : s.each [a] f = f s a := rfl

end Sys2Proof.Machine
end

section
/-!
PROOF. The receive side: entries' life, gain, slices and lanes, maps and frames (O11, O13 to O16).
-/

namespace Sys2Proof.Machine

open Sys2Proof

/-- The state after the scanner's visit to entry `e`: the cursor moved on and, of an entry in use and not pinned, the mark of the pass. -/
def State.visited (s : State) (e : Nat) : State :=
  let u := (s.put AGING.CURSOR 0 (e + 1)).putIf (e + 1 == entryCount) AGING.DONE_AT 0 s.mp
  if s.get E.STATE e = stFree ∨ u.on E.PINNED e then u else (u.set NODE.PASS_ON e).put NODE.PASS_HIT e (u.get E.LAST_HIT e)

/-- A visit writes the cursor's two fields and the marks of the pass, no other. -/
theorem State.get_visited {F : Fld} (s : State) (e n : Nat)
    (h : F.id ≠ AGING.CURSOR.id ∧ F.id ≠ AGING.DONE_AT.id ∧ F.id ≠ NODE.PASS_ON.id ∧ F.id ≠ NODE.PASS_HIT.id) :
    (s.visited e).get F n = s.get F n := by
  obtain ⟨hcur, hdone, hon, hhit⟩ := h
  simp only [State.visited]
  split
  · rw [State.get_putIf_id hdone, State.get_put_id hcur]
  · rw [State.get_put_id hhit, State.get_set_id hon, State.get_putIf_id hdone, State.get_put_id hcur]

theorem State.heldEntry_visited (s : State) (e n : Nat) : (s.visited e).heldEntry n = s.heldEntry n := by
  simp (discharger := decide) only [State.heldEntry, State.on, State.get_visited]

/-- What the scanner does with entry `e` of Hedge `h`, its state and age given, once the visit is marked in `u` (R72). -/
def State.ageOut (u : State) (e h st age : Nat) : State :=
  if u.on E.PINNED e || !u.on THK_HEDGE.CFG_AGING_EN h || u.heldEntry e || 2 ^ 31 ≤ age then u
  else if (st = stActive ∨ st = stSleepy) ∧ u.get THK_HEDGE.AGE_LOST h ≤ age then (u.lose e).bump THK_HEDGE.AGED_LOST_CNT h
  else if st = stLost ∧ u.get THK_HEDGE.AGE_FREE h ≤ age then (u.freeEntry e fAged).bump THK_HEDGE.AGED_FREE_CNT h
  else u

/-- The visit at the cursor with aging enabled. -/
theorem exec_agingVisit_at {s : State} {e : Nat} (he : e < entryCount) (hen : s.get THK.CTL_AGING_EN ≠ 0) (hcur : s.get AGING.CURSOR = e) :
    exec (.agingVisit e) s = .next ((s.visited e).ageOut e (s.get E.HEDGE e) (s.get E.STATE e) ((s.mpSec + 2 ^ 32 - s.get E.LAST_HIT e) % 2 ^ 32)) := by
  have hmay : (s.on THK.CTL_AGING_EN && e == s.get AGING.CURSOR && decide (e < entryCount)) = true := by simp [State.on_of_ne hen, hcur, he]
  rw [exec_agingVisit, execAgingVisit, hmay]
  simp only [State.ageOut, apply_ite Host.Outcome.next]
  rfl

/-- Settles O11: each visit of the scanner as its branch, on the state `State.visited` leaves. -/
theorem entryLife : Obligations.EntryLife := by
  unfold Obligations.EntryLife
  refine ⟨?_, ?_, ?_, ?_, ?_, ?_, ?_, ?_⟩
  · intro e s hState h2 hHeldEntry
    simp only [exec_joinTimeout, execJoinTimeout, hState, h2, hHeldEntry, if_true, Bool.false_eq_true, not_false_eq_true, and_self]
  · intro e s he hen hcur hpin haging hheld hage hst hlost
    change _ = Host.Outcome.next (((s.visited e).lose e).bump THK_HEDGE.AGED_LOST_CNT (s.get E.HEDGE e))
    rw [exec_agingVisit_at he hen hcur, State.ageOut]
    simp (discharger := decide) only [State.on, State.get_visited, State.heldEntry_visited]
    simp [hpin, haging, hheld, Nat.not_le.2 hage, hst, hlost, -Nat.reducePow]
  · intro e s he hen hcur hpin haging hheld hage hst hfree
    change _ = Host.Outcome.next (((s.visited e).freeEntry e fAged).bump THK_HEDGE.AGED_FREE_CNT (s.get E.HEDGE e))
    rw [exec_agingVisit_at he hen hcur, State.ageOut]
    simp (discharger := decide) only [State.on, State.get_visited, State.heldEntry_visited]
    simp [hpin, haging, hheld, Nat.not_le.2 hage, hst, hfree, stLost, stActive, stSleepy, -Nat.reducePow]
  · intro e s he hen hcur hpin
    rw [exec_agingVisit_at he hen hcur, State.ageOut]
    simp (discharger := decide) only [State.on, State.get_visited]
    simp only [bne_iff_ne.2 hpin, Bool.true_or, if_true, State.visited]
    simp (discharger := decide) [State.on_putIf_id, State.on_put_id, State.on_of_ne hpin]
  · intro s hCtlAgingEn hCursor hStart
    simp [exec_agingPassEnd, execAgingPassEnd, State.on_of_ne hCtlAgingEn, hCursor, hStart]
  · intro s hStatusRevalActive
    simp [exec_revalDone, execRevalDone, State.on_of_ne hStatusRevalActive]
  · intro r h v s hr hv hh h2
    simp only [exec_thkQuotaWrite, execThkQuotaWrite, Nat.not_le.2 hh, Nat.not_lt.2 h2, State.onPriv_reached _ hr hv, if_false]
  · intro r h v s hr hv hh h2
    simp only [exec_thkQuotaWrite, execThkQuotaWrite, Nat.not_le.2 hh, h2, State.onPriv_reached _ hr hv, if_true, if_false]

/-- Settles O13: each window, threshold and control write as its branch; the write that switches nothing touches its three fields alone. -/
theorem gainControl : Obligations.GainControl := by
  unfold Obligations.GainControl
  refine ⟨?_, ?_, ?_, ?_, ?_, ?_, ?_, ?_, ?_, ?_, ?_, ?_⟩
  · intro p peak clip s hp hPortOn hCtlAgcEn hStatusFrozen hAgcThrHighThr hStatusGainIdx
    simp only [exec_agcWindowEnd, execAgcWindowEnd, Nat.not_le.2 hp, hPortOn, State.on_of_ne hCtlAgcEn, State.on_of_eq hStatusFrozen, hAgcThrHighThr,
      hStatusGainIdx, if_true, if_false, Bool.not_true, Bool.false_eq_true]
  · intro p peak clip s hp hPortOn hCtlAgcEn hStatusFrozen hAgcThrHighThr hAgcThrLowThr
    simp only [exec_agcWindowEnd, execAgcWindowEnd, Nat.not_le.2 hp, hPortOn, State.on_of_ne hCtlAgcEn, State.on_of_eq hStatusFrozen,
      Int.not_le.2 hAgcThrHighThr, hAgcThrLowThr, if_true, if_false, Bool.not_true, Bool.false_eq_true]
  · intro p peak clip s hp hPortOn hCtlAgcEn hStatusFrozen hAgcThrHighThr hAgcThrLowThr
    simp only [exec_agcWindowEnd, execAgcWindowEnd, Nat.not_le.2 hp, hPortOn, State.on_of_ne hCtlAgcEn, State.on_of_eq hStatusFrozen,
      Int.not_le.2 hAgcThrHighThr, Int.not_lt.2 hAgcThrLowThr, if_false, Bool.not_true, Bool.false_eq_true]
  · intro p peak clip s hp hPortOn hCtlAgcEn
    simp only [exec_agcWindowEnd, execAgcWindowEnd, Nat.not_le.2 hp, hPortOn, State.on_of_eq hCtlAgcEn, if_true, if_false, Bool.not_true, Bool.not_false,
      Bool.false_eq_true]
  · intro p peak clip s hp hPortOn hCtlAgcEn
    simp [exec_agcWindowEnd, execAgcWindowEnd, Nat.not_le.2 hp, hPortOn, State.on_of_eq hCtlAgcEn]
  · intro p peak clip s hp hPortOn hCtlAgcEn hStatusFrozen
    simp only [exec_agcWindowEnd, execAgcWindowEnd, Nat.not_le.2 hp, hPortOn, State.on_of_ne hCtlAgcEn, State.on_of_ne hStatusFrozen, if_true, if_false,
      Bool.not_true, Bool.false_eq_true]
  · intro p s hp hPortOn hCtlAgcEn hStatusFrozen h5 hStatusGainIdx
    simp [exec_agcUpHoldExpire, execAgcUpHoldExpire, Nat.not_le.2 hp, hPortOn, State.on_of_ne hCtlAgcEn, State.on_of_eq hStatusFrozen, Nat.not_lt.2 h5,
      hStatusGainIdx]
  · intro p s hp hPortOn hCtlAgcEn hStatusFrozen h5 hStatusGainIdx
    simp [exec_agcUpHoldExpire, execAgcUpHoldExpire, Nat.not_le.2 hp, hPortOn, State.on_of_ne hCtlAgcEn, State.on_of_eq hStatusFrozen, Nat.not_lt.2 h5,
      hStatusGainIdx]
  · intro r p v s hr hp h2
    simp [exec_agcThrWrite, execAgcThrWrite, Nat.not_le.2 hp, h2, State.onBus_reached _ hr]
  · intro r p v s hr hp h2
    simp [exec_agcThrWrite, execAgcThrWrite, Nat.not_le.2 hp, Int.not_le.2 h2, State.onBus_reached _ hr]
  · intro r p v s hr hp hen hv hagc
    have h0 : v.testBit 0 = false := by simp [Nat.testBit_zero, hv]
    have h1 : v.testBit 1 = false := by simpa [bits, Nat.testBit_eq_decide_div_mod_eq] using hagc
    refine completes_of (t := ((s.put APRX.CTL_EN p v).put APRX.CTL_AGC_EN p (bits v 1 1)).put APRX.CTL_MANUAL_GAIN p (bits v 4 3)) ?_ ?_
    · rw [exec_aprxCtlWrite, execAprxCtlWrite, State.onBus_reached _ hr]
      simp [Nat.not_le.2 hp, h0, h1, State.on_of_eq hen]
    · refine ⟨?_, ?_, ?_, ?_⟩
      case refine_4 => exact sameBut_put _ (sameBut_put _ (sameBut_put _ (sameBut_refl ..) (by simp)) (by simp)) (by simp)
      all_goals simp (discharger := decide) only [State.get_put_id, State.get_put]
      · exact (Nat.mod_two_eq_zero_or_one v).elim id (by omega)
      · rw [hagc]; rfl
      · exact Nat.mod_eq_of_lt (Nat.mod_lt _ (by decide))
  · intro r p v s hr hp
    simp [exec_aprxCtlWrite, execAprxCtlWrite, Nat.not_le.2 hp, State.onBus_reached _ hr]

/-- Settles O14: each write as its branch, a value in range being the low bits the register takes. -/
theorem slicesAndLanes : Obligations.SlicesAndLanes := by
  unfold Obligations.SlicesAndLanes
  refine ⟨?_, ?_, ?_, ?_, ?_, ?_, ?_, ?_, ?_, ?_, ?_, ?_, ?_, ?_⟩
  · intro r n v s hr hn hlo hhi hused
    have hv : v % 2 ^ 22 = v := Nat.mod_eq_of_lt (by omega)
    rw [exec_sliceFcWrite, execSliceFcWrite, State.onBus_reached _ hr]
    simp only [hv, Nat.not_le.2 hn, hlo, hhi, hused, if_false, Bool.false_eq_true, not_false_eq_true, and_self, if_true]
  · intro r n v s hr hn hSliceUsed
    simp [exec_sliceFcWrite, execSliceFcWrite, Nat.not_le.2 hn, hSliceUsed, State.onBus_reached _ hr]
  · intro r p v s hr h2 hp hlo hhi hen hused
    have hv : v % 2 ^ 12 = v := Nat.mod_eq_of_lt (by omega)
    rw [exec_loMhzWrite, execLoMhzWrite, State.onBus_reached _ hr]
    simp only [hv, Nat.not_lt.2 h2, Nat.not_le.2 hp, hlo, hhi, State.on_of_eq hen, hused, or_self, if_false, Bool.false_eq_true, not_false_eq_true, and_self,
      if_true]
  · intro r d v s hr hd hCtlLane h3 hFreq
    simp only [exec_ddcWrite, execDdcWrite, Nat.not_le.2 hd, hCtlLane, Nat.not_le.2 h3, hFreq, State.onBus_reached _ hr, if_true, if_false, not_true_eq_false,
      or_false, false_or, ne_eq]
  · intro r d v s hr hd hlane hslice hok
    rw [exec_ddcWrite, execDdcWrite, State.onBus_reached _ hr]
    simp only [Nat.not_le.2 hd, if_false, show ¬ (4 = 0) by decide, hlane, Nat.not_le.2 hslice, hok, ne_eq, not_true_eq_false, or_self]
  · intro r d off v s hr hd hCtlLane
    simp [exec_ddcWrite, execDdcWrite, Nat.not_le.2 hd, hCtlLane, State.onBus_reached _ hr]
  · intro r l v s hr hl hLaneCfgOk hStatusReceiving
    simp [exec_laneCfgWrite, execLaneCfgWrite, Nat.not_le.2 hl, hLaneCfgOk, State.on_of_eq hStatusReceiving, State.onBus_reached _ hr]
  · intro r l v s hr hl hLaneCfgOk hStatusReceiving h4
    simp [exec_laneCfgWrite, execLaneCfgWrite, Nat.not_le.2 hl, hLaneCfgOk, State.on_of_ne hStatusReceiving, h4, State.onBus_reached _ hr]
  · intro r l v s hr hl hLaneCfgOk hStatusReceiving h4
    simp [exec_laneCfgWrite, execLaneCfgWrite, Nat.not_le.2 hl, hLaneCfgOk, State.on_of_ne hStatusReceiving, h4, State.onBus_reached _ hr]
  · intro r l v s hr hl hModesOk hStatusReceiving
    simp only [exec_laneModesWrite, execLaneModesWrite, Nat.not_le.2 hl, hModesOk, State.on_of_eq hStatusReceiving, State.onBus_reached _ hr, if_true,
      if_false, Bool.not_true, Bool.not_false, Bool.false_eq_true]
  · intro r l v s hr hl hModesOk hStatusReceiving
    simp only [exec_laneModesWrite, execLaneModesWrite, Nat.not_le.2 hl, hModesOk, State.on_of_ne hStatusReceiving, State.onBus_reached _ hr, if_false,
      Bool.not_true, Bool.false_eq_true]
  · intro r n v s hr hn
    simp [exec_sliceCtlWrite, execSliceCtlWrite, Nat.not_le.2 hn, State.onBus_reached _ hr]
  · intro r n v s hr hn hlock
    rw [exec_sliceThrWrite, execSliceThrWrite, State.onBus_reached _ hr]
    simp (discharger := decide) [Nat.not_le.2 hn, State.on_put_id, State.on_of_eq hlock]
  · intro r n v s hr hn hlock hthr
    rw [exec_sliceThrWrite, execSliceThrWrite, State.onBus_reached _ hr]
    simp (discharger := decide) [Nat.not_le.2 hn, State.on_put_id, State.get_put_id, State.on_of_ne hlock, hthr, -Nat.reducePow]

theorem State.get_mapSet (s : State) (m : EnergyMap) : (s.mapSet m).get SLICE.HEAD m.slice = m.head % 2 ^ 32 := State.get_put ..

theorem State.mapSet_maps (s : State) (m : EnergyMap) : (s.mapSet m).maps = m :: s.maps.filter (·.slice != m.slice) := rfl

/-- Settles O15: a period's end by the map it stores, the refresh and the blanking as their branches. -/
theorem mapsAndBlanking : Obligations.MapsAndBlanking := by
  unfold Obligations.MapsAndBlanking
  refine ⟨?_, ?_, ?_, ?_⟩
  · intro n levels clip m s hm hruns hk
    obtain rfl : m.slice = n := by simpa using List.find?_some hm
    rw [completes, exec_mapPeriodEnd, execMapPeriodEnd, hm]
    simp only [hruns, Nat.not_le.2 hk, decide_false, Bool.not_true, Bool.or_self, Bool.false_eq_true, if_false]
    refine ⟨_, rfl, ?_, ?_, ?_⟩
    · rw [State.get_putIf_id (by decide), State.get_putIf_id (by decide)]
      exact State.get_mapSet ..
    · rw [State.putIf_mem, State.putIf_mem]
      rfl
    · rw [State.putIf_maps, State.putIf_maps, State.mapSet_maps]
      simp
  · intro n m s h1
    simp [exec_mapStampRefresh, execMapStampRefresh, h1]
  · intro c x s h1
    simp [exec_selfBlankStart, execSelfBlankStart, h1]
  · intro c s h1 h2
    simp [exec_selfBlankEnd, execSelfBlankEnd, h1, h2]

/-- Settles O16: each event of a frame as its branch, the mode of the group by its header. -/
theorem laneFrames : Obligations.LaneFrames := by
  unfold Obligations.LaneFrames
  refine ⟨?_, ?_, ?_, ?_, ?_, ?_, ?_, ?_, ?_, ?_, ?_, ?_, ?_, ?_, ?_, ?_, ?_, ?_, ?_, ?_, ?_, ?_⟩
  · intro l g metric s hl hg hCfgEn hModes hCfgThr hLaneHears h7
    simp [exec_syncDeclare, execSyncDeclare, Nat.not_le.2 hl, Nat.not_le.2 hg, State.on_of_ne hCfgEn, hModes, Nat.not_le.2 hCfgThr, hLaneHears, h7]
  · intro l g metric f s hl hg hen hmode hthr hears hf hhdr hgroup hage hwin
    rw [exec_syncDeclare, execSyncDeclare]
    simp only [Nat.not_le.2 hl, Nat.not_le.2 hg, State.on_of_ne hen, hmode, Nat.not_le.2 hthr, hears, hf, hhdr, beq_eq_false_iff_ne.2 hgroup, Nat.not_lt.2 hage,
      decide_false, Bool.not_true, Bool.or_false, Bool.false_eq_true, if_false]
    exact if_pos (by simpa using hwin)
  · intro l g metric f s hl hg hen hmode hthr hears hf hhdr hgroup hage hlose
    rw [exec_syncDeclare, execSyncDeclare]
    simp only [Nat.not_le.2 hl, Nat.not_le.2 hg, State.on_of_ne hen, hmode, Nat.not_le.2 hthr, hears, hf, hhdr, beq_eq_false_iff_ne.2 hgroup, Nat.not_lt.2 hage,
      decide_false, Bool.not_true, Bool.or_false, Bool.false_eq_true, if_false]
    exact if_neg (by simpa using hlose)
  · intro l mode len age fec fcs2 f s h1 h2 h3 h4 h5
    simp [exec_laneHeaderEnd, execLaneHeaderEnd, h1, h2, h3, h4, h5]
  · intro l mode len age fec fcs2 f s h1 h2 h3 h4
    simp [exec_laneHeaderEnd, execLaneHeaderEnd, h1, h2, h3, h4]
  · intro l mcs len age f s hf hhdr h5 h9 hmcs hfam hlen
    have hnone : (famOf (0x20 + 8 * (f.group - 5) + mcs)).isNone = false := by rw [Option.isNone_eq_false_iff, hfam]
    rw [exec_laneHeaderEnd, execLaneHeaderEnd]
    simp only [hf, hhdr, Nat.not_lt.2 h5, Nat.not_le.2 h9, Nat.not_le.2 hmcs, hnone, beq_eq_false_iff_ne.2 hlen, decide_false, or_self, Bool.or_self,
      Bool.not_true, Bool.false_eq_true, if_false]
  · intro l mcs len age f s h1 h2 h3 h4
    simp [exec_laneHeaderEnd, execLaneHeaderEnd, h1, h2, Nat.not_lt.2 h3, Nat.not_le.2 h4]
  · intro l len age f s hf hhdr hgroup h0 h127
    rw [exec_laneHeaderEnd, execLaneHeaderEnd]
    simp only [hf, hhdr, hgroup, Nat.ne_of_gt h0, Nat.not_lt.2 h127, ne_eq, not_true_eq_false, or_self, Bool.false_eq_true, if_false]
  · intro l len age f s h1 h2 h3 h4
    simp [exec_laneHeaderEnd, execLaneHeaderEnd, h1, h2, h3, h4]
  · intro l w age air f s h1 h2 h3 h4 h5
    simp [exec_laneHeaderEnd, execLaneHeaderEnd, h1, h2, Nat.not_lt.2 h3, h4, h5]
  · intro l w age air f s h1 h2 h3 h4
    simp [exec_laneHeaderEnd, execLaneHeaderEnd, h1, h2, Nat.not_lt.2 h3, h4]
  · intro l m f s h1 h2 h3
    simp [exec_laneFrameEnd, execLaneFrameEnd, h1, h2, h3]
  · intro l m f s h1 h2 h3
    simp [exec_laneFrameEnd, execLaneFrameEnd, h1, h2, h3]
  · intro s
    simp [exec_dupWinExpire, execDupWinExpire]
  · intro x f s h1 h2 hStatusInService
    simp only [exec_ldpcCwSubmit, execLdpcCwSubmit, h1, Nat.not_le.2 h2, beq_eq_false_iff_ne.2 hStatusInService, if_false, Bool.or_false,
      Bool.false_eq_true, decide_false]
  · intro x f s hf hfull
    rw [exec_ldpcCwSubmit, execLdpcCwSubmit, hf]
    exact if_pos (by simpa using hfull)
  · intro k w s hk hStatusInService hDecEn h4 h5
    simp [exec_ldpcDecodeStart, execLdpcDecodeStart, Nat.not_le.2 hk, hStatusInService, hDecEn, h4, h5]
  · intro k w s h1
    simp [exec_ldpcDecodeDone, execLdpcDecodeDone, h1]
  · intro r v s hr h1 h2 h3 h4 h5 h6
    simp only [exec_ldpcCfgWrite, execLdpcCfgWrite, h1, h2, h3, h4, h5, h6, State.onBus_reached _ hr, if_true, Bool.and_true, decide_true]
  · intro r v s hr h1
    simp [exec_ldpcCfgWrite, execLdpcCfgWrite, Nat.not_lt.2 h1, State.onBus_reached _ hr]
  · intro r v s hr h1
    simp [exec_ldpcCfgWrite, execLdpcCfgWrite, h1, State.onBus_reached _ hr]
  · intro r v s hr
    simp [exec_ldpcDecEnWrite, execLdpcDecEnWrite, State.onBus_reached _ hr]

end Sys2Proof.Machine
end

section
/-!
PROOF. The transmit side: triggers, chains, the gate and the attempts of a downlink (O17, O18, O20, O21).
-/

namespace Sys2Proof.Machine

open Sys2Proof

/-- Settles O17: each write, check and pulse as its branch; of the triggers due at once, one alone is first. -/
theorem triggers : Obligations.Triggers := by
  unfold Obligations.Triggers
  refine ⟨?_, ?_, ?_, ?_, ?_, ?_, ?_, ?_, ?_, ?_, ?_, ?_, ?_⟩
  · intro r n v s hr hn
    simp [exec_ptCmpLowWrite, execPtCmpLowWrite, Nat.not_le.2 hn, State.onBus_reached _ hr]
  · intro r n v s hr hn
    simp [exec_ptCtlWrite, execPtCtlWrite, Nat.not_le.2 hn, State.onBus_reached _ hr]
  · intro n gnt s hn hStatusArmed hCtlAction hCmp hRdy h6
    simp only [exec_ptReadinessCheck, execPtReadinessCheck, Nat.not_le.2 hn, State.on_of_ne hStatusArmed, hCtlAction, hCmp, State.on_of_eq hRdy, h6,
      if_true, if_false, Bool.not_true, Bool.or_false, Bool.false_eq_true, decide_false, bne_self_eq_false]
  · intro n gnt s hn hStatusArmed hCtlAction hCmp hRdy h6
    simp only [exec_ptReadinessCheck, execPtReadinessCheck, Nat.not_le.2 hn, State.on_of_ne hStatusArmed, hCtlAction, hCmp, State.on_of_eq hRdy, h6,
      if_false, Bool.not_true, Bool.or_false, Bool.false_eq_true, decide_false, bne_self_eq_false]
  · intro s
    simp [exec_ptFire, execPtFire]
  · intro n s hdue hacts
    have hfirst : ([n].any fun m => decide (m < n) && ((s.coexDue.each (List.range 16) State.ptGo).get PT.CTL_ACTION m,
        (s.coexDue.each (List.range 16) State.ptGo).get PT.CTL_TARGET m) == ((s.coexDue.each (List.range 16) State.ptGo).get PT.CTL_ACTION n,
        (s.coexDue.each (List.range 16) State.ptGo).get PT.CTL_TARGET n) && (s.coexDue.each (List.range 16) State.ptGo).ptActs m) = false := by
      simp
    rw [exec_ptFire, execPtFire, State.ptFire]
    simp only [hdue, State.each_singleton, hacts, hfirst, Bool.not_false, Bool.and_self, if_true]
  · intro n s hEnd h2 h3
    simp [exec_ptPulseEnd, execPtPulseEnd, hEnd, h2, h3]
  · intro n s hEnd h2 h3
    simp [exec_ptPulseEnd, execPtPulseEnd, hEnd, h2, h3]
  · intro c n s hExpG h2 hCtlOwner
    simp [exec_ptAlloc, execPtAlloc, hExpG, Nat.not_le.2 h2, hCtlOwner]
  · intro c n s hn hCtlOwner hExpH
    simp [exec_ptFree, execPtFree, Nat.not_le.2 hn, hCtlOwner, hExpH]
  · intro c n s hn hCtlOwner
    simp [exec_ptFree, execPtFree, Nat.not_le.2 hn, hCtlOwner]
  · intro c n s h1
    simp [exec_ptFree, execPtFree, h1]
  · intro n s hn hStatusArmed hCtlAction hGoverned h5
    simp [exec_coexReqAssert, execCoexReqAssert, hn, State.on_of_ne hStatusArmed, hCtlAction, hGoverned, h5]

/-- Settles O18: each register write, command and event of a chain as its branch. -/
theorem chainStates : Obligations.ChainStates := by
  unfold Obligations.ChainStates
  refine ⟨?_, ?_, ?_, ?_, ?_, ?_, ?_, ?_, ?_, ?_, ?_, ?_, ?_, ?_, ?_, ?_, ?_, ?_, ?_⟩
  · intro r c v s hr hc h2
    simp only [exec_txcCtlWrite, execTxcCtlWrite, Nat.not_le.2 hc, h2, State.onBus_reached _ hr, if_true, if_false]
  · intro r c v s hr hc hok hv hen
    rw [exec_txcCtlWrite, execTxcCtlWrite, State.onBus_reached _ hr, if_neg (Nat.not_le.2 hc)]
    refine (if_neg (Bool.not_eq_true _ ▸ hok)).trans ?_
    exact if_pos (by simp [hv, State.on_of_eq hen])
  · intro r c v s hr hc hok hv hen
    rw [exec_txcCtlWrite, execTxcCtlWrite, State.onBus_reached _ hr, if_neg (Nat.not_le.2 hc)]
    refine (if_neg (Bool.not_eq_true _ ▸ hok)).trans ?_
    exact (if_neg (by simp [hv])).trans (if_pos (by simp [hv, State.on_of_ne hen]))
  · intro r c v s hr hc hok hiff
    have hsame : (v % 2 == 1) = s.on TXC.CTL_EN c := by rw [Bool.eq_iff_iff]; simpa [State.on] using hiff
    rw [exec_txcCtlWrite, execTxcCtlWrite, State.onBus_reached _ hr, if_neg (Nat.not_le.2 hc)]
    refine (if_neg (Bool.not_eq_true _ ▸ hok)).trans ?_
    exact (if_neg (by simp [hsame])).trans (if_neg (by simp [hsame]))
  · intro c s hTrans
    simp [exec_chainEnableDone, execChainEnableDone, hTrans]
  · intro r c s hr hStandby h2 hTrans hStatusState
    simp [exec_goReady, execGoReady, hStandby, h2, hTrans, hStatusState, State.onBus_reached _ hr]
  · intro r c s hr hStandby h2 h3
    simp [exec_goReady, execGoReady, hStandby, h2, h3, State.onBus_reached _ hr]
  · intro r c s hr hStandby h2
    simp [exec_goReady, execGoReady, hStandby, h2, State.onBus_reached _ hr]
  · intro r c s hr hTrans hStatusState
    simp [exec_goStandby, execGoStandby, hTrans, hStatusState, State.onBus_reached _ hr]
  · intro r c s hr h1
    simp [exec_goStandby, execGoStandby, h1, State.onBus_reached _ hr]
  · intro r c s hr
    simp [exec_calFlush, execCalFlush, State.onBus_reached _ hr]
  · intro c s
    simp [exec_txRequestHead, execTxRequestHead]
  · intro c q s hq hchecked hstate htrans
    rw [exec_txRequestHead, execTxRequestHead, State.headIn, hq]
    simp only [hstate, htrans, State.on_of_eq hchecked, if_false, Bool.not_true, Bool.true_or, Bool.or_false, Bool.false_eq_true, decide_true,
      bne_self_eq_false]
  · intro c s h1 h2 hTrans
    simp [exec_synthTuneDone, execSynthTuneDone, h1, h2, hTrans]
  · intro c s h1 hStatusCalRunning
    simp [exec_synthTuneDone, execSynthTuneDone, h1, State.on_of_ne hStatusCalRunning]
  · intro c s hTrans
    rw [exec_txStateEnter, execTxStateEnter]
    exact if_pos hTrans
  · intro c m s hStatusState hTrans hRflags hBallPast h5 hFrozen
    simp [exec_powerLoopStep, execPowerLoopStep, hStatusState, hTrans, hRflags, hBallPast, h5, State.on_of_eq hFrozen]
  · intro c rl w s hStatusState hTrans
    simp [exec_txLastSample, execTxLastSample, hStatusState, hTrans]
  · intro c s hTrans
    simp [exec_txToReadyDone, execTxToReadyDone, hTrans]

theorem next_if_planOk {t u : State} {h : Nat} {ok : Bool} (hok : t.get CHPLAN.CTL_EN h = 0 ∨ ok = true) :
    (if (!t.on CHPLAN.CTL_EN h || ok) = true then .next t else .next u : Host.Outcome State Fault Refusal) = .next t := by
  refine if_pos ?_
  rcases hok with hen | hok
  · rw [State.on_of_eq hen]; rfl
  · rw [hok, Bool.or_true]

theorem next_if_not_planOk {t u : State} {h : Nat} {ok : Bool} (hen : t.get CHPLAN.CTL_EN h ≠ 0) (hok : ok = false) :
    (if (!t.on CHPLAN.CTL_EN h || ok) = true then .next t else .next u : Host.Outcome State Fault Refusal) = .next u := by
  refine if_neg ?_
  rw [State.on_of_ne hen, hok]
  decide

/-- Settles O20: each write as its branch; a decision through `State.gateDecide_checked`, the ledgers by their filter. -/
theorem gateAndProfile : Obligations.GateAndProfile := by
  unfold Obligations.GateAndProfile
  refine ⟨?_, ?_, ?_, ?_, ?_, ?_, ?_, ?_, ?_, ?_, ?_, ?_, ?_, ?_, ?_, ?_⟩
  · intro r h off v s hr hh hok
    rw [exec_chplanWrite, execChplanWrite, State.onBus_reached _ hr, if_neg (Nat.not_le.2 hh)]
    exact next_if_planOk hok
  · intro r h off v s hr hh hen hok
    rw [exec_chplanWrite, execChplanWrite, State.onBus_reached _ hr, if_neg (Nat.not_le.2 hh)]
    exact next_if_not_planOk hen hok
  · intro r i v s hr hi
    simp [exec_panmapWrite, execPanmapWrite, Nat.not_le.2 hi, State.onBus_reached _ hr]
  · intro r i off v s hr hi h2 h3 hCfgPanId
    simp only [exec_panmapWrite, execPanmapWrite, Nat.not_le.2 hi, h2, h3, hCfgPanId, State.onBus_reached _ hr, if_false, Bool.false_eq_true, false_or]
  · intro r i off v s hr hi h2 hCfgPanId
    simp only [exec_panmapWrite, execPanmapWrite, Nat.not_le.2 hi, h2, hCfgPanId, State.onBus_reached _ hr, if_true, if_false]
  · intro r v s hr hCtlEn h2 h3 h4
    simp [exec_airEui64Write, execAirEui64Write, State.on_of_eq hCtlEn, State.on_of_eq h2, State.on_of_eq h3, State.on_of_eq h4,
      State.onBus_reached _ hr]
  · intro r v s hr h1
    simp only [exec_airEui64Write, execAirEui64Write, h1, State.onBus_reached _ hr, if_true]
  · intro c region s hRegion
    simp [exec_profileSetRegion, execProfileSetRegion, hRegion]
  · intro c region s hRegion
    simp [exec_profileSetRegion, execProfileSetRegion, hRegion]
  · intro s hr hframework hlock
    rw [exec_regprofLockSet, execRegprofLockSet, State.onBus_reached _ hr]
    simp only [hframework, State.on_of_eq hlock, Bool.false_eq_true, or_self, if_false, if_true]
  · intro r s hr hHdrFramework hCtlLock h3
    simp [exec_regprofLockSet, execRegprofLockSet, hHdrFramework, State.on_of_eq hCtlLock, h3, State.onBus_reached _ hr]
  · intro n s hGateDue
    simp [exec_gateDecision, execGateDecision, hGateDue]
  · intro n q s hdue hbefore hq hchecked hack hpass hlbt
    rw [exec_gateDecision, execGateDecision]
    simp only [hdue, hbefore, if_true, State.each_nil, State.gateDecide, hq, State.on_of_ne hchecked, hpass, State.on_of_eq hlbt, hack, if_true,
      if_false, Bool.not_true, Bool.not_false, Bool.and_true, Bool.false_and, Bool.false_eq_true]
    rfl
  · intro n v e q s hdue hbefore hq hchecked hack hrefused hclear hquiet hhold
    rw [exec_gateDecision, execGateDecision]
    simp only [hdue, hbefore, State.each_nil, State.gateDecide, hq, State.on_of_ne hchecked, hrefused, hack, hclear, hquiet, hhold,
      Option.isNone_some, if_true, if_false, Bool.not_true, Bool.not_false, Bool.and_true, Bool.false_and, Bool.and_false, Bool.false_eq_true]
  · intro s
    simp [exec_quietRelease, execQuietRelease]
  · intro i s
    rw [completes, exec_dutySlotEnd, execDutySlotEnd]
    refine ⟨_, rfl, ?_⟩
    rw [List.all_eq_true]
    intro x hx
    have hkept := (List.mem_filter.1 hx).2
    simpa using hkept

/-- What the release of a unicast downlink that software does not own does: by whether its entry stands, and by its route (R254). -/
def State.releaseUnicast (s : State) (d : Down) : State :=
  if s.get E.INCARNATION d.dest ≠ d.destInc ∨ s.get E.STATE d.dest = stFree then s.finishDown d 0x04
  else
    match s.resolve d.dest (s.hopPans d.hedge != []) (d.noFlood || d.freight == .relay) (d.freight == .command) with
    | .lost => s.holdDown d
    | .none => s.finishDown d 0x03
    | .hop n direct => s.take (s.aimHop d n direct)
    | .flood =>
      if s.expH d.hedge 3 then s.finishDown d 0x13
      else
        let p := s.startFlood { d with freight := .flood, ttl := 0, final := s.get E.SHORT_ADDR d.dest }
        if p.1.pans = [] then p.2.finishDown p.1 0x03 else p.2.take p.1

theorem exec_downlinkRelease_unicast {s : State} {u : Nat} {d : Down} (hd : s.down u = some d) (hstage : d.stage = .released ∨ d.stage = .held)
    (hflood : d.isFlood = false) (hexp : ¬ (d.opcode = 0x02 ∧ d.freight ≠ .reflood ∧ s.expH d.hedge 3 = true)) :
    exec (.downlinkRelease u) s = .next (s.releaseUnicast d) := by
  have hready : ¬ (d.stage ≠ .released ∧ d.stage ≠ .held) := fun h => hstage.elim h.1 h.2
  rw [exec_downlinkRelease, execDownlinkRelease, hd]
  simp only [hready, if_false]
  refine (if_neg (by simpa [hflood] using hexp)).trans ?_
  rw [if_neg (by simp [hflood]), State.releaseUnicast]
  split
  · rfl
  · cases s.resolve d.dest (s.hopPans d.hedge != []) (d.noFlood || d.freight == .relay) (d.freight == .command) with
    | flood => simp only [apply_ite Host.Outcome.next]
    | lost | none | hop n direct => rfl

/-- Settles O21: each event of an attempt as its branch, the stage and the route by the hypotheses. -/
theorem attempts : Obligations.Attempts := by
  unfold Obligations.Attempts
  refine ⟨?_, ?_, ?_, ?_, ?_, ?_, ?_, ?_, ?_, ?_, ?_, ?_, ?_⟩
  · intro u d s hd hstage hflood hexp hgone
    rw [exec_downlinkRelease_unicast hd hstage hflood hexp, State.releaseUnicast, if_pos hgone]
  · intro u n direct d s hd hstage hflood hexp hinc hused hroute
    rw [exec_downlinkRelease_unicast hd hstage hflood hexp, State.releaseUnicast, if_neg (by simp [hinc, hused]), hroute]
  · intro u d s hd hstage hflood hexp hinc hused hroute
    rw [exec_downlinkRelease_unicast hd hstage hflood hexp, State.releaseUnicast, if_neg (by simp [hinc, hused]), hroute]
  · intro u d s hd hstage hflood hexp hinc hused hroute
    rw [exec_downlinkRelease_unicast hd hstage hflood hexp, State.releaseUnicast, if_neg (by simp [hinc, hused]), hroute]
  · intro u d s hd hstage hflood hexp hinc hused hroute hown
    rw [exec_downlinkRelease_unicast hd hstage hflood hexp, State.releaseUnicast, if_neg (by simp [hinc, hused]), hroute]
    simp only [hown, Bool.false_eq_true, if_false]
  · intro u d s hd hstage hflood hexp
    have hready : ¬ (d.stage ≠ .released ∧ d.stage ≠ .held) := fun h => hstage.elim h.1 h.2
    rw [exec_downlinkRelease, execDownlinkRelease, hd]
    simp only [hready, if_false]
    refine (if_neg ?_).trans (if_pos hflood)
    rcases hexp with h | h <;> simp [h]
  · intro u d s hd hstage hstandby hwait hhop hcov hlead
    rw [exec_attemptArm, execAttemptArm, hd]
    simp only [hstage, hstandby, hwait, hhop, hcov, reduceCtorEq, if_false, Bool.not_true, Bool.false_eq_true, not_true_eq_false, false_and, or_false,
      ne_eq]
    refine (if_neg (Nat.not_lt.2 hlead)).trans ?_
    split <;> simp_all
  · intro c g d s hStatusFrozen h2 h3 h4 h5 h6
    simp [exec_gateRecordHandle, execGateRecordHandle, State.on_of_eq hStatusFrozen, h2, h3, h4, h5, h6]
  · intro c x d s hStatusFrozen h2 h3 h4 h5
    simp [exec_txResultHandle, execTxResultHandle, State.on_of_eq hStatusFrozen, h2, h3, h4, h5]
  · intro u d s h1 h2 h3 h4 h5
    simp [exec_trainCopyArm, execTrainCopyArm, h1, h2, h3, h4, h5]
  · intro u d s hd hstage haim hrest hlate hlead hkey
    rw [exec_trainCopyArm, execTrainCopyArm, hd]
    refine (if_neg (by simp [hstage, haim])).trans ?_
    rw [if_neg (Nat.not_le.2 hrest), if_neg (by simp [hlate])]
    exact (if_neg (Nat.not_lt.2 hlead)).trans (congrArg Host.Outcome.next (if_pos hkey))
  · intro u d s hd hstage hack hend htrain
    have hdone : ¬ (d.aim = .train ∧ d.c < d.hi) := by rintro ⟨h, hlt⟩; exact htrain.elim (· h) (Nat.not_le.2 hlt)
    rw [exec_ackWindowExpire, execAckWindowExpire, hd]
    simp only [hstage, hack, Nat.not_lt.2 hend, hdone, if_false, Bool.not_true, Bool.false_eq_true, not_true_eq_false, or_false, ne_eq]
  · intro s hStatusFixActive
    simp [exec_phaseFixWalkDone, execPhaseFixWalkDone, State.on_of_ne hStatusFixActive]

end Sys2Proof.Machine
end

section
/-!
PROOF. Campaigns, sweeps, meters and keys (O23, O24, O25, O27, O28).
-/

namespace Sys2Proof.Machine

open Sys2Proof

/-- Settles O23: each command and event of a campaign as its branch, each fallible step by the result given. -/
theorem campaigns : Obligations.Campaigns := by
  unfold Obligations.Campaigns
  refine ⟨?_, ?_, ?_, ?_, ?_, ?_, ?_, ?_, ?_, ?_⟩
  · intro c num bsize bcount froms lcount mOff iOff lOff list m l s hstandby hexp hruns hb0 hb1 hb2 hc0 hc1 hfrom hm hl
    have hb : ¬ (bsize < 64 ∨ 1024 < bsize ∨ bsize % 16 ≠ 0 ∨ bcount = 0 ∨ 65535 < bcount ∨ 7 < froms) := by omega
    rw [exec_campaignStart, execCampaignStart]
    simp only [hstandby, hexp, hruns, hb, hm, hl, if_false, Bool.or_false, Bool.false_eq_true, ne_eq]
    simp only [apply_ite Host.Outcome.next]
  · intro c num bsize bcount from_ lcount mOff iOff lOff list s hStandby hExpH hCampRuns
    simp [exec_campaignStart, execCampaignStart, hStandby, hExpH, hCampRuns]
  · intro h s hstate hstandby hbusy
    have hgo : ¬ (s.get CAMP.STATUS_STATE h ≠ 2 ∧ s.get CAMP.STATUS_STATE h ≠ 4) := fun hno => hstate.elim hno.1 hno.2
    rw [exec_campaignBlockSend, execCampaignBlockSend]
    simp only [hgo, hstandby, hbusy, if_false, Bool.false_eq_true, or_false, ne_eq]
    split <;> simp_all
  · intro h s hstandby hstate hdue
    rw [exec_campaignReportWindowEnd, execCampaignReportWindowEnd]
    simp only [hstandby, hstate, hdue, if_false, Bool.false_eq_true, not_true_eq_false, or_false, ne_eq]
    simp only [apply_ite Host.Outcome.next]
  · intro h s hstandby hstate hdue
    rw [exec_campaignActivateSend, execCampaignActivateSend]
    simp only [hstandby, hstate, hdue, if_false, Bool.false_eq_true, not_true_eq_false, or_false, ne_eq]
    rcases s.takeIn (s.campFrame h none ([0x34] ++ le 2 (s.get CAMPX.NUM h) ++ le 4 (s.get CAMPX.ACT_AT h))) with ⟨_ | k, w⟩ <;> rfl
  · intro c num s hStandby hExpH hCampNamed hCampRuns hStatusState
    simp [exec_campaignPause, execCampaignPause, hStandby, hExpH, hCampNamed, hCampRuns, hStatusState]
  · intro c num s hStandby hExpH hCampNamed hCampRuns hStatusState
    simp only [exec_campaignResume, execCampaignResume, hStandby, hExpH, hCampNamed, hCampRuns, hStatusState, if_false, Bool.not_true, Bool.or_false,
      Bool.false_eq_true, not_true_eq_false, ne_eq] <;> rfl
  · intro c num s hStandby hExpH hCampNamed
    simp [exec_campaignAbort, execCampaignAbort, hStandby, hExpH, hCampNamed]
  · intro r h s hr hstate
    refine completes_of (t := (((s.put MODEL.DATA 0 (7 + 16 * s.get CAMP.STATUS_ROUND h + 256 * s.get CAMP.STATUS_PAUSE_CAUSE h
      + 2048 * s.get CAMP.STATUS_ABORTED h)).put MODEL.RESP 0 0).clr CAMP.STATUS_STATE h).clr CAMP.STATUS_ABORTED h) ?_ ?_
    · rw [exec_campStatusRead, execCampStatusRead, State.onRead_reached _ hr]
      simp (discharger := decide) only [State.get_put_id, hstate, if_true]
    · refine ⟨?_, ?_, ?_, ?_⟩
      case refine_4 => exact sameBut_clr (sameBut_clr (sameBut_put _ (sameBut_put _ (sameBut_refl ..) (by simp)) (by simp)) (by simp)) (by simp)
      all_goals simp (discharger := decide) only [State.get_clr_id, State.get_put_id, State.get_clr, State.get_put]
      rfl
  · intro r h s hr hstate
    rw [exec_campStatusRead, execCampStatusRead, State.onRead_reached _ hr]
    simp (discharger := decide) only [State.get_put_id, hstate, if_false]

/-- Settles O24: each command and each round of a sweep as its branch. -/
theorem sweeps : Obligations.Sweeps := by
  unfold Obligations.Sweeps
  refine ⟨?_, ?_, ?_, ?_, ?_, ?_, ?_⟩
  · intro c rounds roundS ttl silent s hstandby hrun hr0 hr1 hs0 hs1 ht0 ht1
    have hb : ¬ (rounds = 0 ∨ 16 < rounds ∨ roundS < 10 ∨ 3600 < roundS ∨ ttl = 0 ∨ 63 < ttl) := by omega
    rw [exec_sweepStart, execSweepStart]
    simp only [hstandby, State.on_of_eq hrun, hb, if_false, Bool.false_eq_true]
  · intro c rounds roundS ttl silent s hStandby hRun h3
    simp [exec_sweepStart, execSweepStart, hStandby, State.on_of_eq hRun, h3]
  · intro c rounds roundS ttl silent s hStandby hRun
    simp [exec_sweepStart, execSweepStart, hStandby, State.on_of_ne hRun]
  · intro h s hRun hStandby h3 h4
    simp only [exec_sweepRoundStart, execSweepRoundStart, State.on_of_ne hRun, hStandby, Nat.not_le.2 h3, h4, if_false, Bool.not_true, Bool.or_false,
      Bool.false_eq_true, decide_false]
  · intro h s hRun hStandby h3
    simp only [exec_sweepEnd, execSweepEnd, State.on_of_ne hRun, hStandby, h3, if_false, Bool.not_true, Bool.or_false, Bool.false_eq_true]
  · intro c first count addr s h0 h1 hhave
    rw [exec_sweepRead, execSweepRead, if_neg (by omega), State.on_of_eq hhave]
    rfl
  · intro c first count addr s h0 h1 hhave
    rw [exec_sweepRead, execSweepRead, if_neg (by omega), State.on_of_ne hhave]
    rfl

/-- Settles O25: each register write and sample as its branch. -/
theorem trafficMeters : Obligations.TrafficMeters := by
  unfold Obligations.TrafficMeters
  refine ⟨?_, ?_, ?_, ?_, ?_, ?_, ?_, ?_⟩
  · intro r m v s hr hm h2
    simp [exec_meterCommit, execMeterCommit, hm, h2, State.onBus_reached _ hr]
  · intro r n v s hr hn h2
    simp [exec_shaperCommit, execShaperCommit, hn, h2, State.onBus_reached _ hr]
  · intro n s hCfgEn hStatusBlocked h3
    simp [exec_shaperUnblock, execShaperUnblock, State.on_of_ne hCfgEn, State.on_of_ne hStatusBlocked, h3]
  · intro w s hw hCfgEn hWatchMay
    simp [exec_watchSample, execWatchSample, Nat.not_le.2 hw, State.on_of_ne hCfgEn, hWatchMay]
  · intro r i v s hr hi hProbeMay
    simp only [exec_qprobeSelWrite, execQprobeSelWrite, Nat.not_le.2 hi, hProbeMay, State.onBus_reached _ hr, if_true, if_false, Bool.not_false]
  · intro r i v s hr hi hProbeMay
    simp only [exec_qprobeSelWrite, execQprobeSelWrite, Nat.not_le.2 hi, hProbeMay, State.onBus_reached _ hr, if_false, Bool.not_true, Bool.false_eq_true]
    rfl
  · intro r i v s hr hi hSelQ h3
    simp only [exec_qprobeGroupWrite, execQprobeGroupWrite, Nat.not_le.2 hi, hSelQ, h3, State.onBus_reached _ hr, if_false, Bool.not_true, Bool.or_false,
      Bool.false_or, Bool.false_eq_true, decide_false, bne_self_eq_false]
  · intro r i v s hr hi hSelQ
    simp [exec_qprobeGroupWrite, execQprobeGroupWrite, Nat.not_le.2 hi, hSelQ, State.onBus_reached _ hr]

/-- A lookup in the cells whose keys pass a test. -/
theorem cellFind_filter (p : Nat × Nat → Bool) (k : Nat × Nat) (l : List ((Nat × Nat) × Nat)) :
    cellFind k (l.filter fun x => p x.1) = if p k then cellFind k l else none := by
  induction l with
  | nil => simp [cellFind]
  | cons x t ih =>
    obtain ⟨k', v⟩ := x
    by_cases hk : k' = k
    · subst hk
      cases hp : p k' <;> simp [cellFind, hp, ih]
    · cases hp : p k' <;> simp [cellFind, hp, hk, ih]

/-- Clearing instances of one field leaves the others. -/
theorem State.get_each_clr_id {F G : Fld} {m : Nat} (l : List Nat) (s : State) (h : G.id ≠ F.id) :
    (s.each l fun s n => s.clr F n).get G m = s.get G m := by
  induction l generalizing s with
  | nil => rfl
  | cons n t ih => exact (ih (s.clr F n)).trans (State.get_clr_id h)

/-- Every number cleared reads 0. -/
theorem State.get_each_clr {F : Fld} {m : Nat} (l : List Nat) (s : State) (hm : m ∈ l ∨ s.get F m = 0) :
    (s.each l fun s n => s.clr F n).get F m = 0 := by
  induction l generalizing s with
  | nil => exact hm.resolve_left (List.not_mem_nil)
  | cons n t ih =>
    refine ih (s.clr F n) ?_
    by_cases hn : m = n
    · exact .inr (hn ▸ State.get_clr ..)
    · rcases hm with hmem | h0
      · exact .inl ((List.mem_cons.1 hmem).resolve_left hn)
      · exact .inr ((State.get_put_inst hn).trans h0)

/-- The state without any key: no slot's state and material, and no derived key. -/
def State.keyless (s : State) : State :=
  { s with cells := s.cells.filter (fun x => x.1.1 != KSLOT.META_STATE.id && x.1.1 != KSX.MAT.id), kcache := [] }

theorem State.get_keyless (s : State) (F : Fld) (n : Nat) :
    s.keyless.get F n = if F.id != KSLOT.META_STATE.id && F.id != KSX.MAT.id then s.get F n else F.rst n := by
  simp only [State.get, State.keyless, cellFind_filter fun k => k.1 != KSLOT.META_STATE.id && k.1 != KSX.MAT.id]
  split <;> rfl

/-- What KEY_DESTROY_ALL leaves before it completes (R334). -/
def State.destroyed (s : State) : State :=
  (((s.put OTP.LIFE 0 3).put SEC.STATUS_LIFE 0 3).keyless.each [0, 1, 2, 3, 4, 5, 6, 7] fun s h => s.clr SECH.SLOTS_USED h).put SEC.SLOT_FREE 0 1008

theorem State.destroyed_keys (s : State) : s.destroyed.get OTP.LIFE = 3 ∧ s.destroyed.get SEC.STATUS_LIFE = 3 ∧ s.destroyed.get SEC.SLOT_FREE = 1008
    ∧ s.destroyed.kcache = [] ∧ (∀ n, s.destroyed.get KSLOT.META_STATE n = 0) ∧ ∀ h, h < 8 → s.destroyed.get SECH.SLOTS_USED h = 0 := by
  refine ⟨?_, ?_, ?_, rfl, fun n => ?_, fun h hh => ?_⟩
  · rw [State.destroyed, State.get_put_id (by decide), State.get_each_clr_id _ _ (by decide), State.get_keyless, if_pos (by decide),
      State.get_put_id (by decide), State.get_put]
    rfl
  · rw [State.destroyed, State.get_put_id (by decide), State.get_each_clr_id _ _ (by decide), State.get_keyless, if_pos (by decide), State.get_put]
    rfl
  · exact State.get_put ..
  · rw [State.destroyed, State.get_put_id (by decide), State.get_each_clr_id _ _ (by decide), State.get_keyless, if_neg (by decide)]
    rfl
  · rw [State.destroyed, State.get_put_id (by decide)]
    refine State.get_each_clr _ _ (.inl ?_)
    simp only [List.mem_cons, List.not_mem_nil, or_false]
    omega

/-- Settles O27: each command as its branch; the wipe of all keys by what it leaves of each field. -/
theorem keyCommands : Obligations.KeyCommands := by
  unfold Obligations.KeyCommands
  refine ⟨?_, ?_, ?_, ?_, ?_, ?_, ?_, ?_, ?_, ?_, ?_, ?_, ?_, ?_, ?_⟩
  · intro c target parent use type len addr n s hb hforeign htarget hcode huse htype hreal hlevel
    have hkind : ¬ (parent ≠ 8 ∧ s.get KSLOT.META_TYPE parent ≠ 1) := fun hno => htype.elim hno.1 hno.2
    rw [exec_keyImport, execKeyImport]
    simp only [htarget, hb, hforeign, hcode, huse, hkind, hreal, Nat.not_le.2 hlevel, show ¬ (0 = 0x13) by decide, if_false, Bool.false_eq_true,
      not_true_eq_false, or_false, ne_eq]
    rcases ((s.when (parent == 8) (·.bump SEC.ECC_CNT)).bump KSLOT.USE_CNT parent).unwrap c.ring target parent (s.cmdData c addr len) with _ | m
    · rfl
    · exact (apply_ite Host.Outcome.next ..).symm
  · intro c target parent use type labelLen ctxLen addr n s h1 hForeignSlot h3 h4 hMetaUse hMetaLevel
    simp [exec_keyDerive, execKeyDerive, h1, hForeignSlot, h3, h4, hMetaUse, Nat.not_le.2 hMetaLevel]
  · intro c slot s h1 hslot hOwnSlot
    simp [exec_keyErase, execKeyErase, Nat.not_lt.2 h1, Nat.not_le.2 hslot, hOwnSlot]
  · intro c slot s hslot
    rw [exec_keyErase, execKeyErase, if_neg (by omega), if_pos (.inl hslot)]
  · intro c slot s hslot h2
    simp [exec_keyInfo, execKeyInfo, Nat.not_le.2 hslot, h2]
  · intro c s hRooted
    simp [exec_hedgeKeyWipe, execHedgeKeyWipe, hRooted]
  · intro c anchor addr k s h1 hCtlLock
    simp [exec_trustSet, execTrustSet, Nat.not_lt.2 h1, State.on_of_eq hCtlLock]
  · intro c addr k s hCtlLock
    simp [exec_trustSet, execTrustSet, State.on_of_ne hCtlLock]
  · intro r h v s hr hh h2
    simp [exec_trustLockSet, execTrustLockSet, hh, h2, State.onBus_reached _ hr]
  · intro c slot addr challenge s hslot hch howner hcode huse htype
    have hown : ¬ (s.get KSLOT.META_STATE slot ≠ 0 ∧ s.get KSLOT.META_OWNER slot ≠ c.ring) := fun hno => howner.elim hno.1 hno.2
    rw [exec_attest, execAttest]
    simp only [Nat.not_le.2 hslot, hch, hown, hcode, huse, htype, if_false, Bool.false_eq_true, not_true_eq_false, or_false, ne_eq]
  · intro c e s hStandby hNamed
    simp [exec_nodeRekey, execNodeRekey, hStandby, hNamed]
  · intro c s hStandby hRun
    simp [exec_groupRekey, execGroupRekey, hStandby, State.on_of_eq hRun]
  · intro c s hStandby hRun
    simp [exec_groupRekey, execGroupRekey, hStandby, State.on_of_ne hRun]
  · intro c k s h1
    simp [exec_keyDestroyAll, execKeyDestroyAll, h1]
  · intro c s
    refine completes_of (t := s.destroyed.finish c 0x71 0) ?_ ⟨_, rfl, s.destroyed_keys⟩
    rw [exec_keyDestroyAll, execKeyDestroyAll, if_neg (by decide)]
    rfl

/-- Settles O28: each event as its branch. -/
theorem keyEvents : Obligations.KeyEvents := by
  unfold Obligations.KeyEvents
  refine ⟨?_, ?_, ?_, ?_, ?_, ?_, ?_, ?_, ?_, ?_, ?_⟩
  · intro s
    simp [exec_drbgHealthFail, execDrbgHealthFail]
  · intro s hStatusDrbgOk
    simp [exec_drbgRestart, execDrbgRestart, State.on_of_eq hStatusDrbgOk]
  · intro s hStatusDrbgOk
    simp [exec_drbgRestart, execDrbgRestart, State.on_of_eq hStatusDrbgOk]
  · intro s
    simp [exec_keyOrphanSweep, execKeyOrphanSweep]
  · intro s
    simp [exec_keyRetireZero, execKeyRetireZero]
  · intro r h v s hr hv hh h2
    simp only [exec_slotQuotaWrite, execSlotQuotaWrite, Nat.not_le.2 hh, Nat.not_lt.2 h2, State.onPriv_reached _ hr hv, if_false]
  · intro r h v s hr hv hh h2
    simp only [exec_slotQuotaWrite, execSlotQuotaWrite, Nat.not_le.2 hh, h2, State.onPriv_reached _ hr hv, if_true, if_false]
  · intro e x s hx hfirst hstate
    rw [exec_joinResponsePart2, execJoinResponsePart2, hx]
    refine (if_neg (by simp [hfirst])).trans (congrArg Host.Outcome.next (if_pos hstate))
  · intro e s hRekeyOn hStandby h3
    simp only [exec_rekeyRetryExpire, execRekeyRetryExpire, State.on_of_ne hRekeyOn, hStandby, h3, if_true, Bool.false_eq_true, not_false_eq_true,
      and_self]
  · intro h s hrun hdue
    rw [exec_groupSwitch, execGroupSwitch, if_pos ⟨State.on_of_ne hrun, by simp [hdue]⟩]
    simp (discharger := decide) only [State.get_put_id]
  · intro h s hPrev hPrevAt
    simp [exec_groupOverlapEnd, execGroupOverlapEnd, hPrev, hPrevAt]

end Sys2Proof.Machine
end

section
/-!
PROOF. The instructions of a thread beyond its own registers: what an issue in form runs, and the facts the issue leaves.
-/

namespace Sys2Proof.Machine

open Sys2Proof

/-! ### An issue in form -/

/-- An instruction in form runs on the state with its issue counted. -/
theorem next_issue {s t : State} {g word : Nat} {ok : Bool} {f : State → State} (hi : s.issues g = true) (hok : ok = true) (hf : f (s.issued g) = t) :
    (.next (s.issue g ok word f) : Host.Outcome State Fault Refusal) = .next t := by
  rw [State.issue_issues hi, if_pos hok, hf]

/-- A form that is forbidden traps with ILLEGAL. -/
theorem next_issue_forbidden {s : State} {g word : Nat} {ok : Bool} {f : State → State} (hi : s.issues g = true) (hok : ok = false) :
    (.next (s.issue g ok word f) : Host.Outcome State Fault Refusal) = .next ((s.issued g).trap g 0x01 word) := by
  rw [State.issue_issues hi, hok]
  rfl

/-! ### What counting the issue leaves -/

theorem State.on_issued {s : State} {g : Nat} {F : Fld} (n : Nat) (h : F.id ≠ ENGE.ISSUE_CNT.id) : (s.issued g).on F n = s.on F n := by
  rw [State.on, State.on, State.get_issued n h]

@[simp] theorem State.mp_issued (s : State) (g : Nat) : (s.issued g).mp = s.mp := by
  simp (discharger := decide) only [State.mp, State.get_issued]

@[simp] theorem State.standby_issued (s : State) (g : Nat) : (s.issued g).standby = s.standby := by
  rw [State.standby, State.standby, State.get_issued _ (by decide)]

@[simp] theorem State.threadState_issued (s : State) (g k : Nat) : (s.issued g).threadState k = s.threadState k := by
  rw [State.threadState, State.threadState, State.get_issued _ (by decide)]

@[simp] theorem State.freeTicket_issued (s : State) (g k : Nat) : (s.issued g).freeTicket k = s.freeTicket k := rfl

@[simp] theorem State.cry_issued (s : State) (g : Nat) : (s.issued g).cry = s.cry := rfl

theorem evenReg_iff {x : BitVec 5} : evenReg x = true ↔ x.toNat % 2 = 0 := by
  rw [evenReg, beq_iff_eq]

/-! ### A thread that waits -/

theorem State.waiting_iff {s : State} {g kind : Nat} : s.waiting g kind = true ↔ g < 512 ∧ s.threadState g = 2 ∧ s.get THR.WAIT g = kind := by
  simp [State.waiting, and_assoc]

end Sys2Proof.Machine
end

section
/-!
PROOF. The instructions of a thread on tables, queues, crypto, time and the system (O38 to O43).
-/

namespace Sys2Proof.Machine

open Sys2Proof

/-- Settles O38: each instruction as its branch on the state with its issue counted. -/
theorem threadTable : Obligations.ThreadTable := by
  unfold Obligations.ThreadTable
  refine ⟨?_, ?_, ?_, ?_, ?_, ?_, ?_, ?_, ?_⟩
  · intro g e rd ra cmd s hi hkey heven hh hres hit
    refine next_issue hi (by rcases heven with h | h <;> simp [hkey, h, hh, hres, evenReg]) ?_
    rcases hl : (s.issued g).lkup g (bits cmd.toNat 2 2) (actFor g cmd) ra with ⟨r, u⟩
    simp only [hl] at hit
    subst hit
    cases bit cmd.toNat 8 <;> rfl
  · intro g rd ra cmd s hi hkey heven hh hres hmiss
    refine next_issue hi (by rcases heven with h | h <;> simp [hkey, h, hh, hres, evenReg]) ?_
    rcases hl : (s.issued g).lkup g (bits cmd.toNat 2 2) (actFor g cmd) ra with ⟨r, u⟩
    simp only [hl] at hmiss
    subst hmiss
    cases bit cmd.toNat 8 <;> rfl
  · intro g rd ra cmd s hi hkey hh hres hbuf hstandby
    refine next_issue hi (by simp [hkey, hh, hres]) ?_
    simp only [State.r_issued, State.place_issued, State.standby_issued, hbuf, hstandby, if_false, Bool.false_eq_true, not_true_eq_false, ne_eq]
    rcases (s.issued g).insertNode (actFor g cmd) (blockOf ((s.issued g).placeRead (s.place g (s.r g ra)) 24)) with ⟨_ | _, u⟩ <;> simp
  · intro g rd ra cmd s hi hkey hh hres hbuf hstandby
    refine next_issue hi (by simp [hkey, hh, hres]) ?_
    simp only [State.r_issued, State.standby_issued, hbuf, hstandby, if_true, if_false, not_true_eq_false, ne_eq]
  · intro g rd ra cmd s hi hres hh hres2 hnamed hheld
    refine next_issue hi (by simp [hres, hh, hres2]) ?_
    simp only [State.r_issued, hnamed, hheld, if_false, Bool.not_true, Bool.false_eq_true]
  · intro g rd ra cmd s hi hres hh hres2 hnamed hheld
    refine next_issue hi (by simp [hres, hh, hres2]) ?_
    simp only [State.r_issued, hnamed, hheld, if_true, if_false, Bool.not_true, Bool.false_eq_true]
  · intro g rd ra cmd s hi hres hh hres2 hnamed
    refine next_issue hi (by simp [hres, hh, hres2]) ?_
    simp only [State.r_issued, hnamed, if_true, Bool.not_false]
  · intro g rd ra cmd s hi hres hh hres2 hnamed
    refine next_issue hi (by simp [hres, hh, hres2]) ?_
    simp only [State.r_issued, hnamed, if_true]
  · intro g rd ra cmd s hi hres hh hres2 hnamed
    refine next_issue hi (by simp [hres, hh, hres2]) ?_
    simp only [State.r_issued, hnamed, if_false, Bool.false_eq_true]

/-- Settles O39: a time-out and the two ends of a hold as their branches. -/
theorem windowsAndHolds : Obligations.WindowsAndHolds := by
  unfold Obligations.WindowsAndHolds
  refine ⟨?_, ?_, ?_, ?_, ?_⟩
  · intro n s hn hOpen h3
    simp only [exec_thicketWindowTimeout, execThicketWindowTimeout, hn, State.on_of_ne hOpen, h3, if_true, and_self]
    rfl
  · intro n s h1
    simp [exec_thicketWindowTimeout, execThicketWindowTimeout, Nat.not_le.2 h1]
  · intro e s hHeldEntry
    simp [exec_entryHoldEnd, execEntryHoldEnd, hHeldEntry]
  · intro e s hHeldEntry h2
    simp [exec_entryHoldEnd, execEntryHoldEnd, hHeldEntry, h2]
  · intro e s hWalk
    simp [exec_incarnationWalkEnd, execIncarnationWalkEnd, State.on_of_ne hWalk]

theorem State.queueRead_empty {s : State} {g : Nat} {rd ra : BitVec 5} {cmd : BitVec 12} (take : Bool) (hmay : s.fifoMay g (s.fifoNamed g rd cmd) = true)
    (hbuf : s.bufCheck g (s.r g ra) 16 (s.fifoEsize (s.fifoNamed g rd cmd)) true = 0) (hfront : s.fifoFront (s.fifoNamed g rd cmd) = none) :
    s.queueRead g rd ra cmd take = ((s.setW g rd.toNat 0).setZ g true).pcNext g := by
  simp [State.queueRead, hmay, hbuf, hfront]

theorem State.queueRead_entry {s : State} {g : Nat} {rd ra : BitVec 5} {cmd : BitVec 12} {l : List Nat} (take : Bool)
    (hmay : s.fifoMay g (s.fifoNamed g rd cmd) = true) (hbuf : s.bufCheck g (s.r g ra) 16 (s.fifoEsize (s.fifoNamed g rd cmd)) true = 0)
    (hfront : s.fifoFront (s.fifoNamed g rd cmd) = some l) :
    s.queueRead g rd ra cmd take = ((((s.placeWrite (s.place g (s.r g ra)) l).when take (·.fifoTake (s.fifoNamed g rd cmd))).setW g rd.toNat
      (s.fifoEsize (s.fifoNamed g rd cmd))).setZ g false).pcNext g := by
  simp [State.queueRead, hmay, hbuf, hfront]

/-- Settles O40: a store by whether the FIFO takes it, a read through `State.queueRead`, a stalled store by how it ends. -/
theorem threadQueues : Obligations.ThreadQueues := by
  unfold Obligations.ThreadQueues
  refine ⟨?_, ?_, ?_, ?_, ?_, ?_, ?_, ?_, ?_, ?_, ?_⟩
  · intro g rd ra cmd s hi hmay hname hbuf htakes
    refine next_issue hi rfl ?_
    simp only [State.r_issued, State.place_issued, hmay, hname, hbuf, htakes, if_true, if_false, Bool.not_true, Bool.false_eq_true, not_true_eq_false,
      or_false, ne_eq]
  · intro g rd ra cmd s hi hmay hname hbuf htakes
    refine next_issue hi rfl ?_
    simp only [State.r_issued, hmay, hname, hbuf, htakes, if_false, Bool.not_true, Bool.false_eq_true, not_true_eq_false, or_false, ne_eq]
    rw [State.get_put_id (F := THR.WLEN) (G := CLK.CYC) (by decide)]
  · intro g rd ra cmd s hi h1
    simp [exec_qput, execQput, State.issue_ok hi, h1]
  · intro g rd ra cmd s hi hmay hbuf hfront
    exact next_issue hi rfl (State.queueRead_empty true hmay (by rwa [State.r_issued]) hfront)
  · intro g rd ra cmd l s hi hmay hbuf hfront
    refine next_issue hi rfl ((State.queueRead_entry true hmay (by rwa [State.r_issued]) hfront).trans ?_)
    rw [State.r_issued, State.place_issued, State.when_true]
  · intro g rd ra cmd l s hi hmay hbuf hfront
    refine next_issue hi rfl ((State.queueRead_entry false hmay (by rwa [State.r_issued]) hfront).trans ?_)
    rw [State.r_issued, State.place_issued, State.when_false]
  · intro g rd ra cmd s hi hmay hbuf hfront
    exact next_issue hi rfl (State.queueRead_empty false hmay (by rwa [State.r_issued]) hfront)
  · intro g rd ra cmd s hi hmay
    refine next_issue hi rfl ?_
    rw [State.queueRead]
    simp only [hmay, if_true, Bool.not_false, ne_eq, State.when_true]
  · intro g f s hg hstate hwait hf htakes
    subst hf
    rw [exec_fifoStallResume, execFifoStallResume, if_pos ⟨State.waiting_iff.2 ⟨hg, hstate, hwait⟩, htakes⟩, State.resume]
  · intro g s hWval
    simp [exec_fifoStallResume, execFifoStallResume, hWval]
  · intro g s hg hstate hwait hdue
    rw [exec_fifoStallTimeout, execFifoStallTimeout, if_pos ⟨State.waiting_iff.2 ⟨hg, hstate, hwait⟩, hdue⟩]

/-- The first of a block's ranges that the thread does not reach or that lies in the register window (R417). -/
def State.cryBad (u : State) (g : Nat) (b : CryBlock) : Option (Nat × Nat × Bool) :=
  [(b.ad, b.spans.1, false), (b.inp, b.spans.2.1, false), (b.out, b.spans.2.2.1, false), (b.out, b.spans.2.2.2, true)].find? fun x =>
    u.reachAll g x.1 x.2.1 x.2.2 != 0 || (x.2.1 != 0 && (match u.place g x.1 with | .regs _ => true | _ => false))

/-- Ticket `t` given to the operation `x`, and the thread going on. -/
def State.cryStart (u : State) (g : Nat) (rd : BitVec 5) (t : Nat) (x : CryOp) : State := ({ u with cry := u.cry ++ [x] }.setW g rd.toNat t).pcNext g

/-- The operation of a block in form whose ranges are reached: its key, then its run (R418). -/
def State.cryBegin (u : State) (g : Nat) (rd : BitVec 5) (t : Nat) (b : CryBlock) : State :=
  let k := u.cryKey g b
  if k.1 ≠ 0 then k.2.2.2.cryStart g rd t ⟨g, t, k.1, false, none, 0, [], false⟩
  else
    let r := k.2.2.2.cryRun b k.2.1 (u.placeRead (u.place g b.ad) b.spans.1) (u.placeRead (u.place g b.inp) b.spans.2.1)
      (u.placeRead (u.place g b.out) b.spans.2.2.1)
    ((r.2.2.2.when (b.op ≤ 2) (·.bump SEC.CCM_CNT)).when (b.op == 7 || b.op == 8) (·.bump SEC.ECC_CNT)).cryStart g rd t
      ⟨g, t, r.1, r.2.1, k.2.2.1, b.out, r.2.2.1, false⟩

/-- CRY with a free ticket: its block's form, then its ranges, then the operation. -/
theorem exec_cry_ticket {s : State} {g t : Nat} (rd : BitVec 5) {ra : BitVec 5} (hi : s.issues g = true)
    (hbuf : (s.issued g).bufCheck g (s.r g ra) 16 48 false = 0) (ht : s.freeTicket g = some t) {b : CryBlock}
    (hb : cryBlock ((s.issued g).placeRead (s.place g (s.r g ra)) 48) = b) :
    exec (.cry g rd ra 0) s = .next (
      if b.ok g = false then (s.issued g).cryStart g rd t ⟨g, t, 0x12, false, none, 0, [], false⟩
      else if ((s.issued g).cryBad g b).isSome then (s.issued g).trap g 0x04 (((s.issued g).cryBad g b).getD (0, 0, false)).1
      else (s.issued g).cryBegin g rd t b) := by
  refine next_issue hi rfl ?_
  rw [← State.place_issued s g] at hb
  simp only [State.r_issued, State.freeTicket_issued, hbuf, ht, hb, ne_eq, not_true_eq_false, if_false]
  cases hok : b.ok g
  · rfl
  · simp only [Bool.not_true, Bool.false_eq_true, Bool.true_eq_false, if_false]
    split
    case h_1 x hx =>
      rw [show (s.issued g).cryBad g b = some x from hx]
      rfl
    case h_2 hx =>
      rw [show (s.issued g).cryBad g b = none from hx, State.cryBegin]
      simp only [Option.isSome_none, Bool.false_eq_true, if_false]
      rcases (s.issued g).cryKey g b with ⟨code, key, slot, u⟩
      split <;> rfl

/-- An operation that failed answers a word other than 0. -/
theorem CryOp.result_ne (x : CryOp) : (x.result != 0) = (x.status != 0 || x.fail) := by
  rw [CryOp.result, Bool.eq_iff_iff]
  cases x.fail <;> simp

/-- Settles O41: CRY through the operation its block begins, CWAIT by what it finds of its ticket. -/
theorem threadCrypto : Obligations.ThreadCrypto := by
  unfold Obligations.ThreadCrypto
  refine ⟨?_, ?_, ?_, ?_, ?_, ?_, ?_, ?_, ?_, ?_⟩
  · intro g rd ra s hi hbuf ht
    refine next_issue hi rfl ?_
    simp only [State.r_issued, State.freeTicket_issued, hbuf, ht, if_false, not_true_eq_false, ne_eq]
  · intro g t rd ra s hi hbuf ht hok
    rw [exec_cry_ticket rd hi hbuf ht rfl, if_pos hok]
    rfl
  · intro g t rd ra x s hi hbuf ht hok hbad
    have hfirst : (s.issued g).cryBad g (cryBlock ((s.issued g).placeRead (s.place g (s.r g ra)) 48)) = some x := hbad
    rw [exec_cry_ticket rd hi hbuf ht rfl]
    simp only [hok, hfirst, if_true, if_false, Bool.true_eq_false, Option.isSome_some, Option.getD_some]
  · intro g t rd ra s hi hbuf ht hok hbad hkey
    have hnone : (s.issued g).cryBad g (cryBlock ((s.issued g).placeRead (s.place g (s.r g ra)) 48)) = none := hbad
    rw [exec_cry_ticket rd hi hbuf ht rfl]
    simp only [hok, hnone, State.cryBegin, hkey, Option.isSome_none, if_true, if_false, Bool.false_eq_true, Bool.true_eq_false, not_false_eq_true,
      ne_eq]
    rfl
  · intro g t rd ra s hi hbuf ht hok hbad hkey
    have hnone : (s.issued g).cryBad g (cryBlock ((s.issued g).placeRead (s.place g (s.r g ra)) 48)) = none := hbad
    rw [exec_cry_ticket rd hi hbuf ht rfl]
    simp only [hok, hnone, State.cryBegin, hkey, Option.isSome_none, if_false, Bool.false_eq_true, Bool.true_eq_false, not_true_eq_false, ne_eq]
    rfl
  · intro g rd ra cmd s hi hcmd hx
    refine next_issue hi (decide_eq_true hcmd) ?_
    simp only [State.r_issued, State.cry_issued, hx]
  · intro g rd ra cmd x s hi hcmd hx hdone
    refine next_issue hi (decide_eq_true hcmd) ?_
    simp only [State.r_issued, State.cry_issued, hx, hdone, if_true, State.cwaitDone, CryOp.result_ne]
    rfl
  · intro g rd ra x s hi hx hdone
    refine next_issue hi rfl ?_
    simp only [State.r_issued, State.cry_issued, hx, hdone, if_false, Bool.false_eq_true]
    rfl
  · intro g rd ra x s hi hx hdone
    refine next_issue hi rfl ?_
    simp only [State.r_issued, State.cry_issued, hx, hdone, if_false, Bool.false_eq_true]
    rfl
  · intro g t x s h1
    simp [exec_cryComplete, execCryComplete, h1]

theorem State.fifoTakes_issued (s : State) (g f : Nat) : (s.issued g).fifoTakes f = s.fifoTakes f := by
  simp (discharger := decide) only [State.fifoTakes, State.fifoRoom, State.on, State.get_issued]

theorem State.headReq_issued (s : State) (g c : Nat) : (s.issued g).headReq c = s.headReq c := by
  simp (discharger := decide) only [State.headReq, State.on, State.get_issued]
  rfl

theorem State.fifoFront_issued (s : State) (g f : Nat) : (s.issued g).fifoFront f = s.fifoFront f := by
  have lists : (s.issued g).laneQ = s.laneQ ∧ (s.issued g).txRes = s.txRes ∧ (s.issued g).gateRecs = s.gateRecs
      ∧ (s.issued g).mem = s.mem := ⟨rfl, rfl, rfl, rfl⟩
  obtain ⟨hlane, hres, hrecs, hmem⟩ := lists
  simp (discharger := decide) only [State.fifoFront, State.fifoHead, State.fifoSlot, State.fifoEsize, State.on, State.get_issued,
    State.headReq_issued, hlane, hres, hrecs, hmem]
  rfl

theorem State.watchOn_issued (s : State) (g k : Nat) : (s.issued g).watchOn k = s.watchOn k := by
  funext i
  simp (discharger := decide) only [State.watchOn, State.fifoTakes_issued, State.fifoFront_issued, State.get_issued]

/-- Counting the issue changes nothing a thread watches. -/
theorem State.evHit_issued (s : State) (g m : Nat) : (s.issued g).evHit g m = s.evHit g m := by
  simp (discharger := decide) only [State.evHit, State.evPend, State.watchOn_issued, State.get_issued]

theorem State.edge_held {s : State} {g : Nat} (k : Nat) (h : s.threadState g = 1 ∨ s.threadState g = 2) :
    s.edge g k = s.put THR.EVPEND g (Nat.lor (s.get THR.EVPEND g) (2 ^ k)) := if_pos h

theorem State.edge_gone {s : State} {g : Nat} (k : Nat) (h1 : s.threadState g ≠ 1) (h2 : s.threadState g ≠ 2) : s.edge g k = s :=
  if_neg (by simp [h1, h2])

/-- Settles O42: each instruction as its branch on the state with its issue counted, each wake as its test. -/
theorem threadTimeAndEvents : Obligations.ThreadTimeAndEvents := by
  unfold Obligations.ThreadTimeAndEvents
  refine ⟨?_, ?_, ?_, ?_, ?_, ?_, ?_, ?_, ?_, ?_, ?_, ?_, ?_, ?_, ?_, ?_, ?_, ?_, ?_⟩
  · intro g rd s hi heven
    refine next_issue hi (by simp [evenReg, heven]) ?_
    rw [State.mp_issued, State.setPair]
  · intro g ra cmd s hi heven hcmd hdue
    refine next_issue hi (by simp [evenReg, heven, hcmd]) ?_
    simp only [State.pair_issued, State.mp_issued]
    exact if_pos hdue
  · intro g ra cmd s hi heven hcmd hdue
    refine next_issue hi (by simp [evenReg, heven, hcmd]) ?_
    simp only [State.pair_issued, State.mp_issued]
    exact if_neg (Nat.not_le.2 hdue)
  · intro g ra cmd s hi heven hcmd
    have h1 : bit cmd.toNat 1 = false := Nat.testBit_lt_two_pow hcmd
    refine next_issue hi (by simp [evenReg, heven, h1]; omega) ?_
    simp only [State.pair_issued, State.mp_issued, h1, if_false, Bool.false_eq_true]
    rfl
  · intro g cmd s hi hcmd
    have h1 : bit cmd.toNat 1 = true := by rcases hcmd with h | h <;> rw [h] <;> decide
    refine next_issue hi (by simp [evenReg]; omega) ?_
    simp only [h1, if_true]
    rfl
  · intro g s hi
    simp [exec_yield, execYield, State.issue_ok hi]
  · intro g s hi
    simp [exec_fence, execFence, State.issue_ok hi]
  · intro g rd ra s hi hmask hv
    refine next_issue hi (by simpa (discharger := decide) [State.get_issued] using hmask) ?_
    simp only [State.r_issued, State.evHit_issued, hv, State.evTake, if_false]
    rw [State.get_issued _ (by decide)]
  · intro g rd ra s hi hmask hv
    refine next_issue hi (by simpa using hmask) ?_
    simp only [State.r_issued, State.evHit_issued, hv, if_true]
  · intro g rd ra s hi hmask
    exact next_issue_forbidden hi (by rw [hmask]; rfl)
  · intro g ra cmd s hi hcmd hown hstate
    refine next_issue hi (by simpa using hcmd) ?_
    simp only [State.r_issued, hown, if_false, not_true_eq_false, ne_eq]
    rw [State.edge_held _ (by simpa using hstate), State.get_issued _ (by decide)]
  · intro g ra cmd s hi hcmd hown h1 h2
    refine next_issue hi (by simpa using hcmd) ?_
    simp only [State.r_issued, hown, if_false, not_true_eq_false, ne_eq]
    rw [State.edge_gone _ (by simpa using h1) (by simpa using h2)]
  · intro g ra cmd s hi h1 h2
    simp [exec_signal, execSignal, State.issue_ok hi, h1, h2]
  · intro g s hg hstate hwait hv
    rw [exec_threadEventWake, execThreadEventWake]
    exact congrArg Host.Outcome.next (if_pos ⟨State.waiting_iff.2 ⟨hg, hstate, hwait⟩, hv⟩)
  · intro g s hv
    rw [exec_threadEventWake, execThreadEventWake]
    exact congrArg Host.Outcome.next (if_neg fun h => h.2 hv)
  · intro g s hg hstate hwait hdue
    rw [exec_twaitExpire, execTwaitExpire, if_pos ⟨State.waiting_iff.2 ⟨hg, hstate, hwait⟩, hdue⟩, State.resume]
  · intro g s hWval
    simp [exec_twaitExpire, execTwaitExpire, Nat.not_le.2 hWval]
  · intro g s hg hon hdue hstate
    rw [exec_threadTimerFire, execThreadTimerFire, if_pos ⟨hg, State.on_of_ne hon, hdue⟩, State.edge_held, State.get_clr_id (by decide)]
    · rfl
    · rwa [State.threadState, State.get_clr_id (by decide)]
  · intro g s hoff
    rw [exec_threadTimerFire, execThreadTimerFire, if_neg]
    rintro ⟨-, hon, hdue⟩
    rcases hoff with h | h
    · rw [State.on_of_eq h] at hon
      cases hon
    · exact Nat.not_lt.2 hdue h

/-- MFS moves what the special register reads; reading it may latch the cycle counter (R423). -/
theorem exec_mfs_special {s u : State} {g v : Nat} {k : BitVec 12} (rd : BitVec 5) (hi : s.issues g = true) (hk : k.toNat < 64)
    (hv : (s.issued g).special g k.toNat = (v, u)) : exec (.mfs g rd 0 k) s = .next (u.move g rd v) :=
  next_issue hi (by simpa using hk) (by rw [hv])

/-- MFS of a register that is one field. -/
theorem exec_mfs_field {s : State} {g : Nat} {k : BitVec 12} (F : Fld) (rd : BitVec 5) (hi : s.issues g = true) (hk : k.toNat < 64)
    (hv : (s.issued g).special g k.toNat = ((s.issued g).get F g, s.issued g)) (hF : F.id ≠ ENGE.ISSUE_CNT.id) :
    exec (.mfs g rd 0 k) s = .next ((s.issued g).move g rd (s.get F g)) :=
  exec_mfs_special rd hi hk (hv.trans (by rw [State.get_issued _ hF]))

theorem exec_mts_special {s : State} {g : Nat} {k : BitVec 12} (ra : BitVec 5) (hi : s.issues g = true) (hk : k.toNat < 64) :
    exec (.mts g 0 ra k) s = .next ((s.issued g).putSpecial g k.toNat (s.r g ra)) :=
  next_issue hi (by simpa using hk) (by rw [State.r_issued])

/-- The registers beyond the sixteen named ones are the watch slots and, elsewhere, nothing. -/
theorem State.special_high (s : State) (g : Nat) {k : Nat} (hk : k = 14 ∨ 16 ≤ k) :
    s.special g k = (if 16 ≤ k ∧ k < 32 then s.get THR.WSLOT (16 * g + (k - 16)) else 0, s) := by
  simp only [State.special]
  split
  case h_16 => rfl
  all_goals omega

/-- A write of a number beyond the writable ones goes to a watch slot the thread may name, or is privileged. -/
theorem State.putSpecial_high (s : State) (g v : Nat) {k : Nat} (hk : k = 0 ∨ k = 1 ∨ k = 5 ∨ (8 ≤ k ∧ k < 14) ∨ 16 ≤ k) :
    s.putSpecial g k v = if 16 ≤ k ∧ k < 32 ∧ s.fifoMay g (v % 2048) then (s.put THR.WSLOT (16 * g + (k - 16)) (Nat.land v 0x97FF)).pcNext g
      else s.trap g 0x07 k := by
  simp only [State.putSpecial]
  split
  case h_8 => rfl
  all_goals omega

theorem kindOf_program {g h : Nat} (hk : kindOf g = .program h) : 448 ≤ g ∧ g % 4 ≠ 0 := by
  simp only [kindOf] at hk
  split at hk
  · cases hk
  · split at hk
    · cases hk
    · omega

theorem kindOf_of_program {g : Nat} (hg : 448 ≤ g) (h4 : g % 4 ≠ 0) : kindOf g = .program ((g / 4 - 112) / 2) := by
  simp only [kindOf, if_neg h4, if_neg (show ¬ g / 4 < 112 by omega)]

/-- A thread that is no program's kicks its engine's watchdog. -/
theorem State.putSpecial_kick (s : State) {g : Nat} (v : Nat) (hg : g < 448 ∨ g % 4 = 0) :
    s.putSpecial g 14 v = (s.put ENGX.KICK (g / 4) (s.get CLK.CYC)).pcNext g := by
  simp only [State.putSpecial]
  split
  case h_1 h hk => exact absurd (kindOf_program hk) (by omega)
  case h_2 => rfl

theorem State.putSpecial_kick_refused (s : State) {g : Nat} (v : Nat) (hg : 448 ≤ g) (h4 : g % 4 ≠ 0) : s.putSpecial g 14 v = s.trap g 0x07 14 := by
  simp only [State.putSpecial, kindOf_of_program hg h4]

theorem State.segOk_issued (s : State) (g k v : Nat) : (s.issued g).segOk k v = s.segOk k v := by
  simp (discharger := decide) only [State.segOk, State.get_issued]

/-! ### Traps (R387, R388) -/

/-- A trap with a vector outside a trap goes to the vector. -/
theorem State.trap_vectored {s : State} {g : Nat} (cause eval : Nat) (hvec : s.get THR.TVEC g ≠ 0) (ht : s.get THR.T g = 0) :
    s.trap g cause eval = (((((s.bump ENGE.TRAP_CNT (g / 4)).put THR.EPC g (s.get THR.PC g)).put THR.ECAUSE g cause).put THR.EVAL g eval).put
      THR.T g 1).put THR.PC g (s.get THR.TVEC g) := by
  simp (discharger := decide) [State.trap, State.get_bump_id, State.on, State.get_put_id, hvec, ht, State.set]

/-- Without a vector, or within a trap, the thread halts. -/
theorem State.trap_halts {s : State} {g : Nat} (cause eval : Nat) (h : s.get THR.TVEC g = 0 ∨ s.get THR.T g ≠ 0) :
    s.trap g cause eval = (s.bump ENGE.TRAP_CNT (g / 4)).halt g (s.get THR.PC g) cause eval := by
  rw [State.trap, if_neg, State.get_bump_id (by decide)]
  simp (discharger := decide) only [State.on, State.get_bump_id, bne_iff_ne, not_and, Classical.not_not]
  exact fun hvec => h.resolve_left hvec
theorem State.get_draw {s : State} {F : Fld} {n : Nat} (h : F.id ≠ MODEL.FRESH.id) : s.draw.2.get F n = s.get F n := State.get_put_id h

/-- Settles O43: MFS and MTS by the special register named, the other instructions and the watchdog as their branches. -/
theorem threadSystem : Obligations.ThreadSystem := by
  unfold Obligations.ThreadSystem
  refine ⟨?_, ?_, ?_, ?_, ?_, ?_, ?_, ?_, ?_, ?_, ?_, ?_, ?_, ?_, ?_, ?_, ?_, ?_, ?_, ?_, ?_, ?_, ?_, ?_, ?_, ?_, ?_, ?_, ?_, ?_, ?_, ?_, ?_, ?_, ?_, ?_, ?_⟩
  · intro g rd s hi
    exact exec_mfs_special rd hi (by decide) rfl
  · intro g rd s hi
    exact exec_mfs_special rd hi (by decide) rfl
  · intro g rd s hi
    rw [← State.get_issued (g := g) g (show THR.FLAGS.id ≠ _ by decide), ← State.get_issued (g := g) g (show THR.T.id ≠ _ by decide)]
    exact exec_mfs_special rd hi (by decide) rfl
  · intro g rd s hi
    exact exec_mfs_field THR.SEG rd hi (by decide) rfl (by decide)
  · intro g rd s hi
    exact exec_mfs_field THR.EVMASK rd hi (by decide) rfl (by decide)
  · intro g rd s hi
    exact exec_mfs_special rd hi (by decide) rfl
  · intro g rd s hi
    exact exec_mfs_field THR.TVEC rd hi (by decide) rfl (by decide)
  · intro g rd s hi
    exact exec_mfs_field THR.EPC rd hi (by decide) rfl (by decide)
  · intro g rd s hi
    exact exec_mfs_field THR.ECAUSE rd hi (by decide) rfl (by decide)
  · intro g rd s hi
    exact exec_mfs_field THR.EVAL rd hi (by decide) rfl (by decide)
  · intro g rd s hi
    rw [← State.get_issued (g := g) g (show THR.TIMER.id ≠ _ by decide)]
    exact exec_mfs_special rd hi (by decide) rfl
  · intro g rd s hi
    rw [← State.get_issued (g := g) g (show THR.TIMER.id ≠ _ by decide)]
    exact exec_mfs_special rd hi (by decide) rfl
  · intro g rd s hi
    exact exec_mfs_special rd hi (by decide) rfl
  · intro g rd s hi
    refine exec_mfs_special rd hi (by decide) (Prod.ext ?_ rfl)
    rw [← State.get_issued (g := g) g (show THR.CYC_ON.id ≠ _ by decide), ← State.get_issued (g := g) g (show THR.CYC_HI.id ≠ _ by decide)]
    exact ite_congr (propext bne_iff_ne) (fun _ => rfl) fun _ => rfl
  · intro g rd s hi
    exact exec_mfs_field THR.SCRATCH rd hi (by decide) rfl (by decide)
  · intro g k rd s hi hk
    have hn : (BitVec.ofNat 12 (16 + k)).toNat = 16 + k := by rw [BitVec.toNat_ofNat]; omega
    refine exec_mfs_special rd hi (by omega) ?_
    rw [hn, State.special_high _ _ (.inr (by omega)), if_pos (by omega), State.get_issued _ (by decide), Nat.add_sub_cancel_left]
  · intro g k rd s hi hno hk
    have hn : (BitVec.ofNat 12 k).toNat = k := by rw [BitVec.toNat_ofNat]; omega
    refine exec_mfs_special rd hi (by omega) ?_
    rw [hn, State.special_high _ _ (by omega), if_neg (by omega)]
  · intro g ra s hi
    exact exec_mts_special ra hi (by decide)
  · intro g ra s hi
    exact exec_mts_special ra hi (by decide)
  · intro g ra s hi
    exact exec_mts_special ra hi (by decide)
  · intro g ra s hi
    exact exec_mts_special ra hi (by decide)
  · intro g ra s hi
    exact exec_mts_special ra hi (by decide)
  · intro g ra s hi hok
    exact (exec_mts_special ra hi (by decide)).trans (congrArg Host.Outcome.next (if_pos ((State.segOk_issued s g ..).trans hok)))
  · intro g ra s hi hok
    exact (exec_mts_special ra hi (by decide)).trans
      (congrArg Host.Outcome.next (if_neg (Bool.not_eq_true _ ▸ (State.segOk_issued s g ..).trans hok)))
  · intro g k ra s hi hk hmay
    have hn : (BitVec.ofNat 12 (16 + k)).toNat = 16 + k := by rw [BitVec.toNat_ofNat]; omega
    rw [exec_mts_special ra hi (by omega), hn, State.putSpecial_high _ _ _ (by omega), if_pos ⟨by omega, by omega, hmay⟩, Nat.add_sub_cancel_left]
  · intro g k ra s hi hk hmay
    have hn : (BitVec.ofNat 12 (16 + k)).toNat = 16 + k := by rw [BitVec.toNat_ofNat]; omega
    rw [exec_mts_special ra hi (by omega), hn, State.putSpecial_high _ _ _ (by omega), if_neg (by simp [hmay])]
  · intro g ra s hi hg
    refine (exec_mts_special ra hi (by decide)).trans (congrArg Host.Outcome.next ((State.putSpecial_kick _ _ hg).trans ?_))
    rw [State.get_issued _ (by decide)]
  · intro g ra s hi hg h4
    exact (exec_mts_special ra hi (by decide)).trans (congrArg Host.Outcome.next (State.putSpecial_kick_refused _ _ hg h4))
  · intro g k ra s hi hk hno
    have hn : (BitVec.ofNat 12 k).toNat = k := by rw [BitVec.toNat_ofNat]; omega
    rw [exec_mts_special ra hi (by omega), hn, State.putSpecial_high _ _ _ (by omega), if_neg (by omega)]
  · intro g cmd s hi hvec ht
    rw [← State.get_issued (g := g) g (by decide)] at hvec ht
    refine next_issue hi rfl ((State.trap_vectored _ _ hvec ht).trans ?_)
    simp (discharger := decide) only [State.get_issued]
  · intro g cmd s hi hno
    refine next_issue hi rfl ((State.trap_halts _ _ ?_).trans ?_)
    · simpa (discharger := decide) only [State.get_issued] using hno
    · rw [State.get_issued _ (by decide)]
  · intro g s hi ht
    refine next_issue hi (by simp (discharger := decide) [State.on_of_ne ht]) ?_
    rw [State.get_issued _ (by decide)]
    rfl
  · intro g s hi hT
    simp [exec_tret, execTret, State.issue_forbidden hi, State.on_of_eq hT]
  · intro g s hi
    refine next_issue hi rfl ?_
    simp (discharger := decide) only [State.get_draw, State.get_issued]
  · intro e s he hen hdue
    rw [exec_engineWdogExpire, execEngineWdogExpire]
    simp only [State.on_of_ne hen, Nat.not_lt.2 hdue, show ¬ 128 ≤ e by omega, he, if_true, if_false, not_true_eq_false, or_false]
  · intro e s h1 he hCtlWdogEn h4
    simp [exec_engineWdogExpire, execEngineWdogExpire, Nat.not_lt.2 h1, Nat.not_le.2 he, State.on_of_ne hCtlWdogEn, Nat.not_lt.2 h4]
  · intro e s hno
    rw [exec_engineWdogExpire, execEngineWdogExpire, if_pos]
    rcases hno with h | h
    · exact .inr (.inl (by rw [State.on_of_eq h]; decide))
    · exact .inr (.inr h)

end Sys2Proof.Machine
end

section
/-!
PROOF. Fields read as truth values and through repeated or conditional changes; what the operations the host side shares leave of the
fields they do not write: the time, interrupts, ring entries, the ledger of commands, a shaper's charge.
-/

namespace Sys2Proof.Machine

open Sys2Proof

theorem State.on_eq_false {s : State} {F : Fld} {n : Nat} : s.on F n = false ↔ s.get F n = 0 := by simp [State.on]

theorem State.on_eq_true {s : State} {F : Fld} {n : Nat} : s.on F n = true ↔ s.get F n ≠ 0 := by simp [State.on]

theorem State.get_each {α : Type} {s : State} {l : List α} {f : State → α → State} {F : Fld} {n : Nat}
    (hf : ∀ u a, (f u a).get F n = u.get F n) : (s.each l f).get F n = s.get F n := by
  induction l generalizing s with
  | nil => rfl
  | cons a l ih => exact (ih (s := f s a)).trans (hf s a)

theorem State.get_when {s : State} {c : Bool} {f : State → State} {F : Fld} {n : Nat} (hf : (f s).get F n = s.get F n) :
    (s.when c f).get F n = s.get F n := by
  cases c
  · rfl
  · exact hf

/-- A write takes the low bits of its field alone. -/
theorem State.put_mod (s : State) (F : Fld) (n v : Nat) : s.put F n (v % 2 ^ F.w) = s.put F n v := by
  simp only [State.put, cellPut_eq, Nat.mod_mod]

/-- Mesh Phase depends on the clock and its epoch alone. -/
theorem State.mp_put {s : State} {F : Fld} {n v : Nat}
    (h : CLK.SEC.id ≠ F.id ∧ TIME.MP_EPOCH_SEC.id ≠ F.id ∧ CLK.NS.id ≠ F.id ∧ CLK.FRAC.id ≠ F.id) : (s.put F n v).mp = s.mp := by
  obtain ⟨hsec, hepoch, hns, hfrac⟩ := h
  simp only [State.mp, State.get_put_id hsec, State.get_put_id hepoch, State.get_put_id hns, State.get_put_id hfrac]

theorem State.mp_of_cells {s t : State} (h : t.cells = s.cells) : t.mp = s.mp := by
  simp only [State.mp, State.get, h]

theorem State.get_irq {s : State} {i v : Nat} {now : Bool} {F : Fld} {n : Nat}
    (h : F.id ≠ HST.IRQ_AT.id ∧ F.id ≠ HST.IRQ_PEND.id ∧ F.id ≠ HST.MSIX_CNT.id) : (s.irq i v now).get F n = s.get F n := by
  obtain ⟨hat, hpend, hcnt⟩ := h
  simp only [State.irq]
  split
  · rw [State.get_clr_id hpend, State.get_bump_id hcnt, State.get_bump_id hpend, State.get_putIf_id hat]
  · rw [State.get_bump_id hpend, State.get_putIf_id hat]

theorem State.get_shadow (s : State) (i r v : Nat) (F : Fld) (n : Nat) : (s.shadow i r v).get F n = s.get F n := by
  simp only [State.shadow]
  split <;> rfl

theorem State.get_ringWrite {s : State} {i r : Nat} {l : List Nat} {now : Bool} {F : Fld} {n : Nat} (hprod : F.id ≠ HOSTH.RING_PROD.id)
    (h : F.id ≠ HST.IRQ_AT.id ∧ F.id ≠ HST.IRQ_PEND.id ∧ F.id ≠ HST.MSIX_CNT.id) : (s.ringWrite i r l now).get F n = s.get F n := by
  simp only [State.ringWrite]
  rw [State.get_irq h, State.get_shadow, State.get_put_id hprod]
  rfl

theorem State.get_unstart {s : State} {c : Cmd} {F : Fld} {n : Nat} (hnow : F.id ≠ HOSTH.OUTSTANDING_NOW.id) (hlevel : F.id ≠ HOSTH.ADMIN_LEVEL.id) :
    (s.unstart c).get F n = s.get F n := by
  simp only [State.unstart]
  split
  · rfl
  · rename_i x _
    cases x.steward
    · exact State.get_put_id hnow
    · exact (State.get_put_id hlevel).trans (State.get_put_id hnow)

theorem State.get_fifoPop {s : State} {f : Nat} {F : Fld} {n : Nat} (hrd : F.id ≠ FIFOX.RD.id) (hlevel : F.id ≠ FIFO.STATUS_LEVEL.id) :
    (s.fifoPop f).get F n = s.get F n := (State.get_put_id hlevel).trans (State.get_put_id hrd)

theorem State.get_shSet {s : State} {k : Nat} {t : Int} {F : Fld} {n : Nat}
    (h : F.id ≠ SHP.T.id ∧ F.id ≠ SHP.PREV.id ∧ F.id ≠ SHAPER.TOKENS.id ∧ F.id ≠ SHAPER.BLOCK_CNT.id ∧ F.id ≠ SHAPER.STATUS_BLOCKED.id) :
    (s.shSet k t).get F n = s.get F n := by
  obtain ⟨ht, hprev, htok, hcnt, hblocked⟩ := h
  have hwhen (u : State) (b : Bool) : (u.when b (·.bump SHAPER.BLOCK_CNT k)).get F n = u.get F n := by
    cases b
    · rfl
    · exact State.get_bump_id hcnt
  simp only [State.shSet, State.putI]
  rw [State.get_put_id hblocked, hwhen, State.get_put_id htok, State.get_put_id hprev, State.get_put_id ht]

theorem State.get_shCharge {s : State} {k amount : Nat} {F : Fld} {n : Nat}
    (h : F.id ≠ SHP.T.id ∧ F.id ≠ SHP.PREV.id ∧ F.id ≠ SHAPER.TOKENS.id ∧ F.id ≠ SHAPER.BLOCK_CNT.id ∧ F.id ≠ SHAPER.STATUS_BLOCKED.id) :
    (s.shCharge k amount).get F n = s.get F n := by
  rw [State.shCharge]
  split
  · exact State.get_shSet h
  · rfl

end Sys2Proof.Machine
end

section
/-!
PROOF. The host side: programs and grants, attachments, rings, commands, data and events (O44 to O49).
-/

namespace Sys2Proof.Machine

open Sys2Proof

/-- What a write of a grant register makes of the value the register would take (R374). -/
def State.grantSet (s : State) (h : Nat) (ok : Bool) (F : Fld) (x : Nat) : State :=
  if ok && s.get ENGH.PROG_STATE h == 0 then s.put F h x else s.set ENG.EVENT_BAD_CFG

theorem State.grantSet_ok {s : State} {h : Nat} {ok : Bool} (F : Fld) (x : Nat) (hok : ok = true) (hprog : s.get ENGH.PROG_STATE h = 0) :
    s.grantSet h ok F x = s.put F h x := if_pos (by simp [hok, hprog])

theorem State.grantSet_refused {s : State} {h : Nat} {ok : Bool} (F : Fld) (x : Nat) (hno : ok = false ∨ s.get ENGH.PROG_STATE h ≠ 0) :
    s.grantSet h ok F x = s.put ENG.EVENT_BAD_CFG 0 1 := if_neg (by rcases hno with hno | hno <;> simp [hno])

section
variable {s : State} {r : Req} {h : Nat} (v : Nat) (hh : h < 8) (hv : viewOf r = 0)
include hh hv

theorem exec_sramBaseWrite (hr : s.reachWord r (ENGH.SRAM_BASE.addr h) 4 = 0) :
    exec (.enghGrantWrite r h 0x00 v) s = .next (s.grantSet h (s.sramGrantOk h (v % 2 ^ 26) (s.get ENGH.SRAM_SIZE h)) ENGH.SRAM_BASE (v % 2 ^ 32)) := by
  rw [← Nat.add_zero (ENGH.SRAM_BASE.addr h)] at hr
  rw [← Nat.mod_mod_of_dvd v (show 2 ^ 26 ∣ 2 ^ 32 by decide), exec_enghGrantWrite, execEnghGrantWrite, State.onPriv_reached _ hr hv,
    if_neg (Nat.not_le.2 hh), if_neg (by decide)]
  simp only [State.grantSet]

theorem exec_sramSizeWrite (hr : s.reachWord r (ENGH.SRAM_BASE.addr h + 0x04) 4 = 0) :
    exec (.enghGrantWrite r h 0x04 v) s = .next (s.grantSet h (s.sramGrantOk h (s.get ENGH.SRAM_BASE h) (v % 2 ^ 26)) ENGH.SRAM_SIZE (v % 2 ^ 32)) := by
  rw [← Nat.mod_mod_of_dvd v (show 2 ^ 26 ∣ 2 ^ 32 by decide), exec_enghGrantWrite, execEnghGrantWrite, State.onPriv_reached _ hr hv,
    if_neg (Nat.not_le.2 hh), if_neg (by decide)]
  simp only [State.grantSet]

theorem exec_dramBaseWrite (hr : s.reachWord r (ENGH.SRAM_BASE.addr h + 0x08) 4 = 0) :
    exec (.enghGrantWrite r h 0x08 v) s = .next (s.grantSet h (s.dramGrantOk h (s.join64 r (0xA08008 + 0x40 * h) v) (s.get ENGH.DRAM_SIZE h))
      ENGH.DRAM_BASE (s.join64 r (0xA08008 + 0x40 * h) v)) := by
  rw [show 0xA08008 + 0x40 * h = 0xA08000 + 0x40 * h + 0x08 by omega, exec_enghGrantWrite, execEnghGrantWrite, State.onPriv_reached _ hr hv,
    if_neg (Nat.not_le.2 hh), if_neg (by decide)]
  simp only [State.grantSet]

theorem exec_dramSizeWrite (hr : s.reachWord r (ENGH.SRAM_BASE.addr h + 0x10) 4 = 0) :
    exec (.enghGrantWrite r h 0x10 v) s = .next (s.grantSet h (s.dramGrantOk h (s.get ENGH.DRAM_BASE h) (s.join64 r (0xA08010 + 0x40 * h) v))
      ENGH.DRAM_SIZE (s.join64 r (0xA08010 + 0x40 * h) v)) := by
  rw [show 0xA08010 + 0x40 * h = 0xA08000 + 0x40 * h + 0x10 by omega, exec_enghGrantWrite, execEnghGrantWrite, State.onPriv_reached _ hr hv,
    if_neg (Nat.not_le.2 hh), if_neg (by decide)]
  simp only [State.grantSet]

end

/-- Settles O44: each command as its branch; each grant register by the word its write would leave. -/
theorem programsAndGrants : Obligations.ProgramsAndGrants := by
  unfold Obligations.ProgramsAndGrants
  refine ⟨?_, ?_, ?_, ?_, ?_, ?_, ?_, ?_, ?_, ?_, ?_, ?_, ?_, ?_, ?_⟩
  · intro c off len good s hout
    rw [exec_progLoad, execProgLoad, State.grantRead, if_neg (by omega)]
  · intro c off len good s hin
    rw [exec_progLoad, execProgLoad, State.grantRead, if_pos hin]
    simp only [State.when, State.on, bne_iff_ne, apply_ite Host.Outcome.next]
  · intro c s
    simp [exec_progStop, execProgStop]
  · intro c mask s h1
    simp [exec_progSignal, execProgSignal, h1]
  · intro c mask s hmask
    simp only [exec_progSignal, execProgSignal, Nat.not_le.2 hmask, if_false]
    rfl
  · intro r h v s hh hprog hv hr hok
    rw [exec_sramBaseWrite v hh hv hr, State.grantSet_ok _ _ hok hprog]
  · intro r h v s hh hprog hv hr hok
    rw [exec_sramSizeWrite v hh hv hr, State.grantSet_ok _ _ hok hprog]
  · intro r h v s hh hprog hv hr hok
    rw [exec_dramBaseWrite v hh hv hr, State.grantSet_ok _ _ hok hprog]
  · intro r h v s hh hprog hv hr hok
    rw [exec_dramSizeWrite v hh hv hr, State.grantSet_ok _ _ hok hprog]
  · intro r h off v s hh hv h2 hr
    simp [exec_enghGrantWrite, execEnghGrantWrite, Nat.not_le.2 hh, h2, State.onPriv_reached _ hr hv]
  · intro r h off v s hh hv hoff hr hprog
    rcases hoff with rfl | rfl | rfl | rfl
    · rw [exec_sramBaseWrite v hh hv hr, State.grantSet_refused _ _ (.inr hprog)]
    · rw [exec_sramSizeWrite v hh hv hr, State.grantSet_refused _ _ (.inr hprog)]
    · rw [exec_dramBaseWrite v hh hv hr, State.grantSet_refused _ _ (.inr hprog)]
    · rw [exec_dramSizeWrite v hh hv hr, State.grantSet_refused _ _ (.inr hprog)]
  · intro r h v s hh hv hr hno
    rw [exec_sramBaseWrite v hh hv hr, State.grantSet_refused _ _ (.inl hno)]
  · intro r h v s hh hv hr hno
    rw [exec_sramSizeWrite v hh hv hr, State.grantSet_refused _ _ (.inl hno)]
  · intro r h v s hh hv hr hno
    rw [exec_dramBaseWrite v hh hv hr, State.grantSet_refused _ _ (.inl hno)]
  · intro r h v s hh hv hr hno
    rw [exec_dramSizeWrite v hh hv hr, State.grantSet_refused _ _ (.inl hno)]

/-! ### Completions of the privileged port change no binding -/

/-- The fields a completion of the privileged port writes. -/
def cplFields : List Fld := [HOSTH.RING_PROD, HST.IRQ_AT, HST.IRQ_PEND, HST.MSIX_CNT, HOSTH.OUTSTANDING_NOW, HOSTH.ADMIN_LEVEL]

theorem State.get_cplOut_priv {s : State} {x : CplWait} {F : Fld} {n : Nat} (hx : x.ring = 8) (h : ∀ G ∈ cplFields, F.id ≠ G.id) :
    (s.cplOut x).get F n = s.get F n := by
  simp only [cplFields, List.forall_mem_cons] at h
  obtain ⟨hprod, hat, hpend, hcnt, hnow, hlevel, -⟩ := h
  have hwhen (t : State) (b : Bool) (c : Cmd) : (t.when b (·.unstart c)).get F n = t.get F n := by
    cases b
    · rfl
    · exact State.get_unstart hnow hlevel
  simp only [State.cplOut, hx, Nat.reduceMod, ne_eq, not_true_eq_false, false_and, and_false, if_false, show ¬ 16 ≤ 8 by decide]
  rw [hwhen, State.get_ringWrite hprod ⟨hat, hpend, hcnt⟩]
  split <;> rfl

theorem State.get_cplDrain_priv {s : State} {F : Fld} {n : Nat} (h : ∀ G ∈ cplFields, F.id ≠ G.id) : (s.cplDrain 8).get F n = s.get F n := by
  have hall (l : List CplWait) (t : State) (hl : ∀ x ∈ l, x.ring = 8) :
      (t.each l fun s x => if s.cplReady 8 then { s with cplQ := s.cplQ.erase x }.cplOut x else s).get F n = t.get F n := by
    induction l generalizing t with
    | nil => rfl
    | cons x l ih =>
      refine (ih _ fun y hy => hl y (List.mem_cons_of_mem _ hy)).trans ?_
      change (if t.cplReady 8 then { t with cplQ := t.cplQ.erase x }.cplOut x else t).get F n = t.get F n
      split
      · exact State.get_cplOut_priv (hl x List.mem_cons_self) h
      · rfl
  exact hall _ s fun x hx => by simpa using (List.mem_filter.1 hx).2

/-! ### The Hedge a function is bound to -/

/-- The function's Hedge depends on the bindings alone. -/
theorem State.fnHedge_congr {s t : State} (f : Nat)
    (h : ∀ F ∈ [HST.REBIND, HST.OLD_ATTACH, HBIND.CTL_ATTACH, HST.OLD_FN, HBIND.CTL_FN], ∀ n, t.get F n = s.get F n) : t.fnHedge f = s.fnHedge f := by
  simp only [List.forall_mem_cons] at h
  obtain ⟨hrebind, holdAttach, hattach, holdFn, hfn, -⟩ := h
  have hat : t.attach = s.attach := funext fun k => by rw [State.attach, State.on, hrebind, holdAttach, hattach]; rfl
  have hbound : t.boundFn = s.boundFn := funext fun k => by rw [State.boundFn, State.on, hrebind, holdFn, hfn]; rfl
  rw [State.fnHedge, State.fnHedge, hat, hbound]

theorem State.fnHedge_put {s : State} {F : Fld} {f n v : Nat}
    (h : ∀ G ∈ [HST.REBIND, HST.OLD_ATTACH, HBIND.CTL_ATTACH, HST.OLD_FN, HBIND.CTL_FN], G.id ≠ F.id) : (s.put F n v).fnHedge f = s.fnHedge f :=
  State.fnHedge_congr f fun G hG _ => State.get_put_id (h G hG)

theorem State.fnHedge_cplDrain_priv (s : State) (f : Nat) : (s.cplDrain 8).fnHedge f = s.fnHedge f :=
  State.fnHedge_congr f fun G hG n => State.get_cplDrain_priv (by revert G; decide)

theorem State.bindWord_keys_binding (s : State) (r : Req) (h v : Nat) : (s.bindWord r h 8 v).binding h = s.binding h := by
  simp (discharger := decide) only [State.bindWord, State.binding, List.map_cons, List.map_nil, State.get_put_id]
/-- A DMA error, step by step. -/
theorem exec_dmaError_eq (s : State) {i : Nat} (hi : i < 9) :
    exec (.dmaError i) s = .next ((((((s.put HOSTH.EVENT_DMA_ERR i 1).irq i 3).when (((s.put HOSTH.EVENT_DMA_ERR i 1).irq i 3).on HOSTH.CTL_CMD_EN i)
      (·.cmdOff i)).clr HOSTH.CTL_CPL_EN i).clr HOSTH.CTL_EV_EN i).clr HOSTH.CTL_RX_EN i) := by
  rw [exec_dmaError, execDmaError, if_neg (Nat.not_le.2 hi)]
  rfl

theorem State.cmdEn_dmaError (s : State) (i : Nat) :
    ((s.put HOSTH.EVENT_DMA_ERR i 1).irq i 3).on HOSTH.CTL_CMD_EN i = s.on HOSTH.CTL_CMD_EN i := by
  rw [State.on, State.get_irq (by decide), State.get_put_id (by decide)]
  rfl

theorem State.cmdOff_eq (s : State) (i : Nat) :
    s.cmdOff i = if s.ringHeld i 0 = 0 then (s.put HOSTH.CTL_CMD_EN i 0).put HST.DRAIN i 0 else s.put HST.DRAIN i 1 := rfl

/-- Settles O45: each write, reset and change as its branch; that completions going out change no binding is `State.get_cplDrain_priv`. -/
theorem attachments : Obligations.Attachments := by
  unfold Obligations.Attachments
  refine ⟨?_, ?_, ?_, ?_, ?_, ?_, ?_, ?_, ?_, ?_, ?_, ?_, ?_⟩
  · intro r h off v s hh hr hsame
    rw [exec_hbindWrite, execHbindWrite, State.onBus_reached _ hr]
    simp only [Nat.not_le.2 hh, hsame, if_false, decide_false, not_true_eq_false, false_and, ne_eq, State.when_false]
    simp [State.when]
  · intro r h off v s hh hr hdiff hgood
    rw [exec_hbindWrite, execHbindWrite, State.onBus_reached _ hr]
    simp only [Nat.not_le.2 hh, hdiff, hgood, if_false, Bool.false_eq_true, decide_true, not_false_eq_true, and_false, ne_eq, State.when_true]
    simp only [State.when, State.keepBinding, State.on, bne_iff_ne, Bool.and_eq_true, beq_iff_eq]
    rfl
  · intro r h off v s hh hr h2 h3
    simp only [exec_hbindWrite, execHbindWrite, Nat.not_le.2 hh, h2, h3, State.onBus_reached _ hr, if_true, if_false, decide_true, not_false_eq_true,
      and_self, ne_eq, State.when_true]
    rfl
  · intro r h v s hh hr
    rw [exec_hbindWrite, execHbindWrite, State.onBus_reached _ hr]
    simp only [Nat.not_le.2 hh, State.bindWord_keys_binding, if_false, decide_false, not_true_eq_false, false_and, ne_eq, State.when_false]
    rfl
  · intro f h s h1
    simp [exec_pcieFlr, execPcieFlr, h1]
  · intro f s h1
    simp [exec_pcieFlr, execPcieFlr, h1]
  · intro p width speed pol s hp
    rw [exec_pciePerst, execPciePerst, if_neg (Nat.not_le.2 hp)]
    simp (discharger := decide) only [State.addCause, State.fnPort, State.on_put_id, State.on_bump_id] <;> rfl
  · intro f on s hf hnone hpriv
    rw [exec_busMasterChange, execBusMasterChange]
    simp (discharger := decide) only [Nat.not_le.2 hf, State.busMaster, State.get_put_id, beq_eq_false_iff_ne.2 hpriv, State.fnHedge_put, hnone, if_false,
      State.when_false]
  · intro f h on s hf hsome hpriv
    rw [exec_busMasterChange, execBusMasterChange]
    simp (discharger := decide) only [Nat.not_le.2 hf, State.busMaster, State.get_put_id, beq_eq_false_iff_ne.2 hpriv, State.fnHedge_put, hsome, if_false,
      State.when_false]
  · intro f on s hf hnone hpriv
    rw [exec_busMasterChange, execBusMasterChange]
    simp (discharger := decide) only [Nat.not_le.2 hf, State.busMaster, State.get_put_id, hpriv, State.fnHedge_put, State.fnHedge_cplDrain_priv, hnone,
      if_false, beq_self_eq_true, State.when_true]
  · intro f h on s hf hsome hpriv
    rw [exec_busMasterChange, execBusMasterChange]
    simp (discharger := decide) only [Nat.not_le.2 hf, State.busMaster, State.get_put_id, hpriv, State.fnHedge_put, State.fnHedge_cplDrain_priv, hsome,
      if_false, beq_self_eq_true, State.when_true]
  · intro i s hi hen
    rw [exec_dmaError_eq s hi, State.cmdEn_dmaError, State.on_of_eq hen]
    rfl
  · intro i s hi hen
    rw [exec_dmaError_eq s hi, State.cmdEn_dmaError, State.on_of_ne hen, State.when_true, State.cmdOff_eq]
    rfl

/-- A ring that was off starts with its indices at 0 (R428). -/
theorem State.ringEnable_start {s : State} {i r : Nat} (hr : r ≠ 0) (hwas : s.get (ringEn r) i = 0) :
    s.ringEnable i r true = (((s.put HOSTH.RING_PROD (rix i r) 0).put HOSTH.RING_CONS (rix i r) 0).put HOSTH.RING_FETCH (rix i r) 0).put (ringEn r) i 1 := by
  simp only [State.ringEnable, State.on_of_eq hwas, beq_eq_false_iff_ne.2 hr, State.when_false, Bool.false_eq_true, if_false, if_true]
  rfl

theorem State.ringEnable_off {s : State} {i r : Nat} (hr : r ≠ 0) : s.ringEnable i r false = s.put (ringEn r) i 0 := by
  simp only [State.ringEnable, hr, Bool.false_eq_true, if_false]
  rfl

theorem State.ringEnable_command_stays_off {s : State} {i : Nat} (hwas : s.get HOSTH.CTL_CMD_EN i = 0) : s.ringEnable i 0 false = s := by
  simp only [State.ringEnable, Bool.false_eq_true, if_false, if_true]
  rw [State.on, show ringEn 0 = HOSTH.CTL_CMD_EN from rfl, hwas]
  rfl

/-- Settles O46: each doorbell and each write of CTL as its branch, ring by ring where a ring is enabled. -/
theorem ringsAndDoorbells : Obligations.RingsAndDoorbells := by
  unfold Obligations.RingsAndDoorbells
  refine ⟨?_, ?_, ?_, ?_, ?_, ?_, ?_, ?_, ?_, ?_, ?_, ?_, ?_, ?_, ?_, ?_, ?_, ?_, ?_⟩
  · intro r i v s hi hreset hr hok
    rw [← State.put_mod _ HOSTH.RING_PROD, exec_cmdDoorbell, execCmdDoorbell, State.onBus_reached _ hr]
    simp only [Nat.not_le.2 hi, State.on_of_eq hreset, hok, if_false, Bool.not_true, Bool.or_false, Bool.false_eq_true, decide_false]
    rfl
  · intro r i v s hi hStatusInReset hr hProdOk
    simp only [exec_cmdDoorbell, execCmdDoorbell, Nat.not_le.2 hi, State.on_of_eq hStatusInReset, hProdOk, State.onBus_reached _ hr, if_true, if_false,
      Bool.not_false, Bool.false_or, Bool.false_eq_true, decide_false]
    rfl
  · intro r i v s hStatusInReset hr
    simp [exec_cmdDoorbell, execCmdDoorbell, State.on_of_ne hStatusInReset, State.onBus_reached _ hr]
  · intro r i v s hi hreset hr hok
    rw [← State.put_mod _ HOSTH.RING_PROD, exec_rxDoorbell, execRxDoorbell, State.onBus_reached _ hr]
    simp only [Nat.not_le.2 hi, State.on_of_eq hreset, hok, if_false, Bool.not_true, Bool.or_false, Bool.false_eq_true, decide_false]
    rfl
  · intro r i v s hi hStatusInReset hr hProdOk
    simp only [exec_rxDoorbell, execRxDoorbell, Nat.not_le.2 hi, State.on_of_eq hStatusInReset, hProdOk, State.onBus_reached _ hr, if_true, if_false,
      Bool.not_false, Bool.false_or, Bool.false_eq_true, decide_false]
    rfl
  · intro r i v s hStatusInReset hr
    simp [exec_rxDoorbell, execRxDoorbell, State.on_of_ne hStatusInReset, State.onBus_reached _ hr]
  · intro r i v s hi hreset hr hok
    rw [← State.put_mod _ HOSTH.RING_CONS, exec_cplDoorbell, execCplDoorbell, State.onBus_reached _ hr]
    simp only [Nat.not_le.2 hi, State.on_of_eq hreset, hok, if_false, Bool.not_true, Bool.or_false, Bool.false_eq_true, decide_false]
    rfl
  · intro r i v s hi hStatusInReset hr hConsOk
    simp only [exec_cplDoorbell, execCplDoorbell, Nat.not_le.2 hi, State.on_of_eq hStatusInReset, hConsOk, State.onBus_reached _ hr, if_true, if_false,
      Bool.not_false, Bool.false_or, Bool.false_eq_true, decide_false]
    rfl
  · intro r i v s hStatusInReset hr
    simp [exec_cplDoorbell, execCplDoorbell, State.on_of_ne hStatusInReset, State.onBus_reached _ hr]
  · intro r i v s hi hreset hr hok
    rw [← State.put_mod _ HOSTH.RING_CONS, exec_evDoorbell, execEvDoorbell, State.onBus_reached _ hr]
    simp only [Nat.not_le.2 hi, State.on_of_eq hreset, hok, if_false, Bool.not_true, Bool.or_false, Bool.false_eq_true, decide_false]
    rfl
  · intro r i v s hi hStatusInReset hr hConsOk
    simp only [exec_evDoorbell, execEvDoorbell, Nat.not_le.2 hi, State.on_of_eq hStatusInReset, hConsOk, State.onBus_reached _ hr, if_true, if_false,
      Bool.not_false, Bool.false_or, Bool.false_eq_true, decide_false]
    rfl
  · intro r i v s hStatusInReset hr
    simp [exec_evDoorbell, execEvDoorbell, State.on_of_ne hStatusInReset, State.onBus_reached _ hr]
  · intro r i v s hi hreset hr
    rw [exec_ringCtlWrite, execRingCtlWrite, State.onBus_reached _ hr, if_neg (Nat.not_le.2 hi), State.hostCtl]
    simp (discharger := decide) only [State.on_put_id, State.on_of_eq hreset, if_false, Bool.false_eq_true, ne_eq]
    simp only [State.when, Bool.and_eq_true, bne_iff_ne, ne_eq]
  · intro r i v s hi hreset hr
    rw [exec_ringCtlWrite, execRingCtlWrite, State.onBus_reached _ hr, if_neg (Nat.not_le.2 hi), State.hostCtl]
    simp (discharger := decide) only [State.on_put_id, State.on_of_ne hreset, if_true, ne_eq]
    simp only [State.when, Bool.and_eq_true, bne_iff_ne, ne_eq]
  · intro r h s hh hr hreset hev hcmd
    rw [exec_ringCtlWrite, execRingCtlWrite, State.onBus_reached _ hr, if_neg (by omega), State.hostCtl]
    simp (discharger := decide) only [State.on_put_id, State.on_of_eq hreset, if_false, Bool.false_eq_true]
    have hrings : ((s.put HOSTH.CTL_TRUMP_NOW h (bits 4 9 1)).each [0, 1, 2, 3] fun s r => s.ringEnable h r (bit 4 r))
        = ((((((s.put HOSTH.CTL_TRUMP_NOW h 0).put HOSTH.CTL_CPL_EN h 0).put HOSTH.RING_PROD (128 * h + 2) 0).put HOSTH.RING_CONS (128 * h + 2) 0).put
          HOSTH.RING_FETCH (128 * h + 2) 0).put HOSTH.CTL_EV_EN h 1).put HOSTH.CTL_RX_EN h 0 := by
      change ((((s.put HOSTH.CTL_TRUMP_NOW h 0).ringEnable h 0 false).ringEnable h 1 false).ringEnable h 2 true).ringEnable h 3 false = _
      rw [State.ringEnable_command_stays_off ((State.get_put_id (by decide)).trans hcmd), State.ringEnable_off (by decide),
        State.ringEnable_start (by decide), State.ringEnable_off (by decide)]
      · rfl
      · exact (State.get_put_id (by decide)).trans ((State.get_put_id (by decide)).trans hev)
    rw [hrings]
    rfl
  · intro i s hdrain hheld
    rw [exec_cmdRingDrainDone, execCmdRingDrainDone, if_pos ⟨State.on_of_ne hdrain, hheld⟩, State.cmdOff, if_pos hheld]
    rfl
  · intro i s h1
    simp [exec_cmdRingDrainDone, execCmdRingDrainDone, h1]
  · intro i v s hi hv hIrqPend h4
    simp only [exec_irqCoalesceTimeout, execIrqCoalesceTimeout, Nat.not_le.2 hi, Nat.not_le.2 hv, hIrqPend, h4, if_false, not_true_eq_false, or_false]
    rfl
  · intro i v s h1
    simp [exec_irqCoalesceTimeout, execIrqCoalesceTimeout, h1]

theorem State.when_decide (s : State) (p : Prop) [Decidable p] (f : State → State) : s.when (decide p) f = if p then f s else s := by
  simp [State.when]

theorem notBusyLater_iff {want : Bool} {op : Nat} : (want && !busyLater op) = true ↔ want = true ∧ op ≠ 0x20 ∧ op ≠ 0x40 ∧ op ≠ 0x49 := by
  simp [busyLater, and_assoc]

/-! ### Fetching a command (R433, R443, R444) -/

/-- Whether the front end serves the opcode itself, or no one does. -/
def frontServed (op : Nat) : Bool := match descOf op with | some (.front, _) => true | none => true | _ => false

/-- Whether a command whose descriptor answers `code` goes to the Steward. -/
def admitted (op code : Nat) : Bool := match descOf op with | some (.front, _) | none => false | _ => code == 0

theorem admitted_eq (op code : Nat) : admitted op code = (!frontServed op && code == 0) := by
  simp only [admitted, frontServed]
  rcases descOf op with _ | ⟨_ | _ | _, _⟩ <;> simp

/-- The state once the command is out of its source, its port charged for it and it is counted. -/
def State.fetched (s : State) (src : Nat) (l : List Nat) : State :=
  (((s.cmdTaken src).when (decide (src < 8)) fun u => u.shCharge (44 + src % 16) (u.shCost (44 + src % 16) 0 (64 + descPayload l))).bump
    HOSTH.CMD_CNT (src % 16)).bump HOSTH.OUTSTANDING_NOW (src % 16)

theorem State.fetched_eq (s : State) (src : Nat) (l : List Nat) :
    s.fetched src l = ((if src < 8 then (s.cmdTaken src).shCharge (44 + src % 16) ((s.cmdTaken src).shCost (44 + src % 16) 0 (64 + descPayload l))
      else s.cmdTaken src).bump HOSTH.CMD_CNT (src % 16)).bump HOSTH.OUTSTANDING_NOW (src % 16) := by
  rw [State.fetched, State.when_decide]

/-- The command fetched from source `src` (its index in the ring, where it comes from one). -/
def State.fetchedCmd (s : State) (src : Nat) (l : List Nat) : Cmd :=
  ⟨src % 16, oct l 4 4, if src = src % 16 then s.get HOSTH.RING_CONS (128 * (src % 16)) else 0xFFFFFFFF, bit (l.getD 1 0) 0⟩

/-- The ledger with the command `c` of opcode `op`: waiting for the Steward, or for no one. -/
def State.entered (u : State) (c : Cmd) (op : Nat) (waits own : Bool) (data : List Nat) (at_ : Nat) : State :=
  { u with started := u.started ++ [⟨c.ring, c.index, c.tag, op, waits, own, false, at_, data⟩] }

/-- The command `c` of descriptor `l` entered in the ledger, and answered at once, refused or left waiting. -/
def State.commandTaken (u : State) (c : Cmd) (l data : List Nat) (at_ : Nat) : Host.Outcome State Fault Refusal :=
  let op := l.headD 0
  let code := u.descCode c.ring l
  let adm := admitted op code
  let full := adm && decide (64 ≤ u.get HOSTH.ADMIN_LEVEL c.ring)
  let w := u.entered c op (adm && !full) (code == 0 && !adm) data at_
  if code ≠ 0 then .next (w.finish c op code)
  else if full then .next (((w.retryHint c.ring).2.bump HOSTH.BUSY_CNT c.ring).complete c op 0x02 0 (w.retryHint c.ring).1 [])
  else
    let w := w.when adm (·.bump HOSTH.ADMIN_LEVEL c.ring)
    .next (if c.want && !busyLater op then w.finish c op 0x01 else w)

theorem exec_commandFetch_takes {s : State} {src at_ : Nat} {l data : List Nat} (hsrc : src < 9 ∨ (16 ≤ src ∧ src < 24))
    (hreset : s.get HOSTH.STATUS_IN_RESET (src % 16) = 0) (hready : s.get BOOT.STATUS_READY ≠ 0)
    (hroom : s.get HOSTH.OUTSTANDING_NOW (src % 16) < s.get HOSTH.OUTSTANDING_MAX (src % 16))
    (hshaper : 8 ≤ src ∨ s.shPermits (44 + src % 16) = true) (hnext : s.nextCmd src = some (l, data, at_)) :
    exec (.commandFetch src) s = (s.fetched src l).commandTaken (s.fetchedCmd src l) l data at_ := by
  have hgo : ((decide (8 < src ∧ src < 16) || decide (24 ≤ src) || s.on HOSTH.STATUS_IN_RESET (src % 16) || !s.on BOOT.STATUS_READY
      || decide (s.get HOSTH.OUTSTANDING_MAX (src % 16) ≤ s.get HOSTH.OUTSTANDING_NOW (src % 16))
      || (decide (src < 8) && !s.shPermits (44 + src % 16)))) = false := by
    have h1 : ¬ (8 < src ∧ src < 16) := by omega
    have h2 : ¬ 24 ≤ src := by omega
    simp only [h1, h2, State.on_of_eq hreset, State.on_of_ne hready, Nat.not_le.2 hroom, decide_false, Bool.not_true, Bool.or_false, Bool.false_or]
    rcases hshaper with h | h
    · simp [Nat.not_lt.2 h]
    · simp [h]
  rw [exec_commandFetch, execCommandFetch]
  refine (if_neg (Bool.not_eq_true _ ▸ hgo)).trans ?_
  rw [hnext]
  rfl

theorem State.get_cmdTaken {s : State} {src : Nat} {F : Fld} {n : Nat} (hrd : F.id ≠ FIFOX.RD.id) (hlevel : F.id ≠ FIFO.STATUS_LEVEL.id)
    (hcons : F.id ≠ HOSTH.RING_CONS.id) : (s.cmdTaken src).get F n = s.get F n := by
  simp only [State.cmdTaken]
  split
  · exact State.get_fifoPop hrd hlevel
  · split
    · split <;> exact State.get_put_id hcons
    · exact (State.get_shadow ..).trans (State.get_put_id hcons)

/-- What a fetch takes and counts is not the Steward's level. -/
theorem State.adminLevel_fetched (s : State) (src : Nat) (l : List Nat) (i : Nat) :
    (s.fetched src l).get HOSTH.ADMIN_LEVEL i = s.get HOSTH.ADMIN_LEVEL i := by
  rw [State.fetched_eq, State.get_bump_id (by decide), State.get_bump_id (by decide)]
  split
  · rw [State.get_shCharge (by decide), State.get_cmdTaken (by decide) (by decide) (by decide)]
  · exact State.get_cmdTaken (by decide) (by decide) (by decide)

/-- Settles O47: a fetch through what it takes and whom the command goes to, the Steward's turn by what it finds. -/
theorem commandAdmission : Obligations.CommandAdmission := by
  unfold Obligations.CommandAdmission
  refine ⟨?_, ?_, ?_, ?_, ?_, ?_, ?_, ?_, ?_⟩
  · intro src s hno
    rw [exec_commandFetch, execCommandFetch]
    refine if_pos ?_
    rcases hno with h | h | h
    · simp [State.on_of_ne h]
    · simp [State.on_of_eq h]
    · simp [h]
  · intro src s h1
    simp [exec_commandFetch, execCommandFetch, h1]
  · intro src at_ l data s hsrc hreset hready hroom hshaper hnext hcode
    rw [exec_commandFetch_takes hsrc hreset hready hroom hshaper hnext]
    rw [← State.fetched_eq] at hcode
    rw [← State.fetched_eq]
    have hring : (s.fetchedCmd src l).ring = src % 16 := rfl
    simp only [State.commandTaken, hring, hcode, admitted_eq, beq_eq_false_iff_ne.2 hcode, if_true, if_false, Bool.not_false, Bool.and_true, Bool.false_and,
      Bool.and_false, Bool.false_eq_true, not_false_eq_true, ne_eq, State.when_false]
    rfl
  · intro src at_ l data s hsrc hreset hready hroom hshaper hnext hcode hserved hfull
    rw [exec_commandFetch_takes hsrc hreset hready hroom hshaper hnext]
    rw [← State.fetched_eq] at hcode
    rw [← State.fetched_eq]
    have hring : (s.fetchedCmd src l).ring = src % 16 := rfl
    simp only [State.commandTaken, hring, hcode, admitted_eq, show frontServed (l.headD 0) = false from hserved, State.adminLevel_fetched, hfull, if_true,
      if_false, Bool.not_true, Bool.not_false, Bool.and_true, Bool.and_false, decide_true, not_true_eq_false, ne_eq, beq_self_eq_true,
      State.when_true]
    rfl
  · intro src at_ l data s hsrc hreset hready hroom hshaper hnext hcode hserved hroomLeft
    rw [exec_commandFetch_takes hsrc hreset hready hroom hshaper hnext]
    rw [← State.fetched_eq] at hcode
    rw [← State.fetched_eq]
    have hring : (s.fetchedCmd src l).ring = src % 16 := rfl
    simp only [State.commandTaken, hring, hcode, admitted_eq, show frontServed (l.headD 0) = false from hserved, State.adminLevel_fetched,
      Nat.not_le.2 hroomLeft, if_false, Bool.not_true, Bool.not_false, Bool.and_true, Bool.and_false, Bool.false_eq_true, decide_false,
      not_true_eq_false, ne_eq, beq_self_eq_true, State.when_true, notBusyLater_iff]
    rfl
  · intro src at_ l data s hsrc hreset hready hroom hshaper hnext hcode hserved
    rw [exec_commandFetch_takes hsrc hreset hready hroom hshaper hnext]
    rw [← State.fetched_eq] at hcode
    rw [← State.fetched_eq]
    have hring : (s.fetchedCmd src l).ring = src % 16 := rfl
    simp only [State.commandTaken, hring, hcode, admitted_eq, show frontServed (l.headD 0) = true from hserved, if_false, Bool.not_true, Bool.not_false,
      Bool.and_true, Bool.false_and, Bool.false_eq_true, not_true_eq_false, ne_eq, beq_self_eq_true, State.when_false, notBusyLater_iff]
    rfl
  · intro s hno
    rw [exec_stewardServe, execStewardServe]
    refine if_pos ?_
    rcases hno with h | h
    · rw [State.on_of_eq h]
      rfl
    · rw [h, Bool.or_true]
  · intro s hRr
    simp [exec_stewardServe, execStewardServe, hRr]
  · intro x s hready hidle hx
    rw [exec_stewardServe, execStewardServe]
    simp only [State.on_of_ne hready, hidle, hx, if_false, Bool.not_true, Bool.or_false, Bool.false_eq_true]
    rw [State.mp_put (by decide), State.mp_put (by decide), State.mp_put (by decide),
      show ({ s with started := s.started.map fun y => if y = x then { x with began := true } else y } : State).mp = s.mp from State.mp_of_cells rfl]
    by_cases h8 : x.ring = 8
    · rw [show (x.ring != 8) = false by simp [h8], State.when_false, if_pos h8]
    · rw [bne_iff_ne.2 h8, State.when_true, if_neg h8]

theorem memLenOk_iff {n : Nat} : memLenOk n = true ↔ 64 ≤ n ∧ n ≤ 16777216 ∧ n % 64 = 0 := by
  simp [memLenOk, and_assoc]

theorem memLen_refused {c : Cmd} {len : Nat} (h : 8 ≤ c.ring ∨ len < 64 ∨ 16777216 < len ∨ len % 64 ≠ 0) :
    (decide (8 ≤ c.ring) || !memLenOk len) = true := by
  refine Classical.byContradiction fun hno => ?_
  simp only [Bool.or_eq_true, decide_eq_true_eq, Bool.not_eq_true', not_or, Bool.not_eq_false, memLenOk_iff] at hno
  omega

theorem memLen_accepted {c : Cmd} {len : Nat} (hring : c.ring < 8) (h0 : 64 ≤ len) (h1 : len ≤ 16777216) (h2 : len % 64 = 0) :
    ¬ (decide (8 ≤ c.ring) || !memLenOk len) = true := by
  simp [Nat.not_le.2 hring, memLenOk_iff.2 ⟨h0, h1, h2⟩]

theorem sendBad_of {c : Cmd} {flags life len cls : Nat}
    (h : 8 ≤ c.ring ∨ life = 0 ∨ 3600000 < life ∨ 3 < cls ∨ (bit flags 4 = true ∧ 24 < len)) : sendBad c flags life len cls = true := by
  simpa [sendBad, or_assoc] using h

/-- What a queue's answer makes of the command: taken, or completed with its code and flags. -/
def queueAnswer (c : Cmd) (d : Down) : Option (Nat × Nat) × State → State
  | (none, s) => s
  | (some (code, flags), s) => s.complete c d.opcode code flags 0 (if d.opcode = 1 then s.sendResult d else []) (d.cls == 0)

theorem State.postDown_fits {s : State} {c : Cmd} {d : Down} (hmode : (famOf d.mode).isNone = false) (hlen : d.psduLen ≤ psduMax d.mode) :
    s.postDown c d = queueAnswer c d (s.takeIn d) := by
  simp only [State.postDown, hmode, Nat.not_lt.2 hlen, decide_false, Bool.or_self, Bool.false_eq_true, if_false]
  rcases s.takeIn d with ⟨_ | ⟨code, flags⟩, u⟩ <;> rfl

theorem State.postDown_unfit {s : State} {c : Cmd} {d : Down} (h : (famOf d.mode).isNone = true ∨ psduMax d.mode < d.psduLen) :
    s.postDown c d = s.finish c d.opcode 0x12 := if_pos (by simpa using h)

/-- The entry a SEND names, and the state once it is looked up (R435). -/
def State.sendFind (s : State) (c : Cmd) (eui entry : Nat) : Option Nat × State :=
  if eui ≠ 0 then s.findAddr c.ring (.ext eui) else (if s.named c.ring entry then some entry else none, s)

/-- The downlink that a SEND's fields and its entry give. -/
def State.sendDown (u : State) (c : Cmd) (e life len mode power cls flags addr : Nat) (inline : List Nat) : Down :=
  let d := u.newDown c.ring e cls .send .link (u.payloadOf c flags len addr inline)
  let d := { d with cmd := some c, opcode := 0x01, ackReq := bit flags 1, noFlood := bit flags 2, calFull := bit flags 3,
                    autoMode := mode == 0, autoPower := power == 0x80, mode := if mode = 0 then u.get E.PHY_MODE e else mode,
                    power := if power = 0x80 then u.get E.TX_POWER e else power, expiry := u.cmdAt c + life * 2 ^ 24 / 1000 }
  { d with psduLen := u.downLen d e ((u.panOf c.ring).getD 0) }

theorem exec_send_found {s : State} {c : Cmd} {eui entry life len mode power cls flags addr e : Nat} {inline : List Nat}
    (hstandby : s.standby = false) (hbad : sendBad c flags life len cls = false) (he : (s.sendFind c eui entry).1 = some e) :
    exec (.send c eui entry life len mode power cls flags addr inline) s
      = .next ((s.sendFind c eui entry).2.postDown c ((s.sendFind c eui entry).2.sendDown c e life len mode power cls flags addr inline)) := by
  have hp : (if eui ≠ 0 then s.findAddr c.ring (.ext eui) else (if s.named c.ring entry then some entry else none, s))
      = (some e, (s.sendFind c eui entry).2) := Prod.ext he rfl
  rw [exec_send, execSend, hstandby, hbad, if_neg (by decide), if_neg (by decide), hp]
  rfl

/-- The downlink that a FLOOD's fields give. -/
def State.floodDown (s : State) (c : Cmd) (final life len cls flags addr : Nat) (inline : List Nat) : Down :=
  { s.ownFlood c.ring cls final (s.payloadOf c flags len addr inline) with cmd := some c, opcode := 0x02, expiry := s.cmdAt c + life * 2 ^ 24 / 1000 }

theorem exec_flood_inRange {s : State} {c : Cmd} {final life len cls flags addr : Nat} {inline : List Nat} (hstandby : s.standby = false)
    (hbad : sendBad c flags life len cls = false) (hfinal : final ≠ 0xFFFE) :
    exec (.flood c final life len cls flags addr inline) s = .next (s.postDown c (s.floodDown c final life len cls flags addr inline)) := by
  rw [exec_flood, execFlood, hstandby, hbad, if_neg (by decide), if_neg (by simp [hfinal])]
  rfl

/-- Settles O48: each command as its branch; SEND and FLOOD through what `State.postDown` makes of their downlink. -/
theorem dataPathCommands : Obligations.DataPathCommands := by
  unfold Obligations.DataPathCommands
  refine ⟨?_, ?_, ?_, ?_, ?_, ?_, ?_, ?_, ?_, ?_, ?_, ?_, ?_, ?_, ?_, ?_, ?_, ?_, ?_, ?_, ?_, ?_⟩
  · intro c s
    simp [exec_nop, execNop]
  · intro c addr off len s hstandby hring h0 h1 h2 hin
    rw [exec_memWrite, execMemWrite, hstandby]
    exact (if_neg (by decide)).trans ((if_neg (memLen_accepted hring h0 h1 h2)).trans (if_neg (Nat.not_lt.2 hin)))
  · intro c addr off len s hstandby hbad
    rw [exec_memWrite, execMemWrite, hstandby]
    exact (if_neg (by decide)).trans (if_pos (memLen_refused hbad))
  · intro c addr off len s hstandby hring h0 h1 h2 hout
    rw [exec_memWrite, execMemWrite, hstandby]
    exact (if_neg (by decide)).trans ((if_neg (memLen_accepted hring h0 h1 h2)).trans (if_pos hout))
  · intro c addr off len s hStandby
    simp [exec_memWrite, execMemWrite, hStandby]
  · intro c addr off len s hring h0 h1 h2 hin
    rw [exec_memRead, execMemRead, if_neg (memLen_accepted hring h0 h1 h2), State.grantRead, if_pos hin]
  · intro c addr off len s hring h0 h1 h2 hout
    rw [exec_memRead, execMemRead, if_neg (memLen_accepted hring h0 h1 h2), State.grantRead, if_neg (Nat.not_le.2 hout)]
  · intro c addr off len s hbad
    rw [exec_memRead, execMemRead, if_pos (memLen_refused hbad)]
  · intro c k first count addr s hk h0 h1 howner
    rw [exec_watchRead, execWatchRead, if_neg (by omega), if_neg (by simp [howner]), Nat.mul_comm 4096 k]
  · intro c k first count addr s hk h0 h1 howner
    rw [exec_watchRead, execWatchRead, if_neg (by omega), if_pos howner]
  · intro c k first count addr s h1
    simp [exec_watchRead, execWatchRead, h1]
  · intro c eui entry life len mode power cls flags addr e inline s hstandby hbad he hunfit
    exact (exec_send_found hstandby hbad he).trans (congrArg Host.Outcome.next (State.postDown_unfit hunfit))
  · intro c eui entry life len mode power cls flags addr e inline s hstandby hbad he hmode hlen
    refine (exec_send_found hstandby hbad he).trans (congrArg Host.Outcome.next ((State.postDown_fits hmode hlen).trans ?_))
    rfl
  · intro c eui entry life len mode power cls flags addr inline s hStandby h2 h3
    simp only [exec_send, execSend, hStandby, h2, h3, if_false, Bool.false_eq_true, ne_eq]
  · intro c eui entry life len mode power cls flags addr inline s hstandby hbad
    rw [exec_send, execSend, hstandby, sendBad_of hbad]
    rfl
  · intro c eui entry life len mode power cls flags addr inline s hStandby
    simp [exec_send, execSend, hStandby]
  · intro c final life len cls flags addr inline s hstandby hbad hfinal hmode hlen
    refine (exec_flood_inRange hstandby hbad hfinal).trans (congrArg Host.Outcome.next ((State.postDown_fits hmode hlen).trans ?_))
    rfl
  · intro c final life len cls flags addr inline s hstandby hbad hfinal hunfit
    exact (exec_flood_inRange hstandby hbad hfinal).trans (congrArg Host.Outcome.next (State.postDown_unfit hunfit))
  · intro c final life len cls flags addr inline s hstandby hbad
    rw [exec_flood, execFlood, hstandby, if_neg (by decide), if_pos]
    rcases hbad with h | h
    · exact .inr h
    · exact .inl (sendBad_of h)
  · intro c final life len cls flags addr inline s hStandby
    simp [exec_flood, execFlood, hStandby]
  · intro c h s hh
    simp [exec_hedgeReset, execHedgeReset, Nat.not_le.2 hh]
  · intro c h s h1
    simp [exec_hedgeReset, execHedgeReset, h1]

/-- The state with frame `x` out of the backlog and its Hedge's count shown. -/
def State.rxTaken (s : State) (x : RxFrame) : State :=
  ({ s with rxQ := s.rxQ.erase x } : State).put HOSTH.BACKLOG_NOW x.hedge (({ s with rxQ := s.rxQ.erase x } : State).rxHeld x.hedge)

theorem State.get_rxTaken {s : State} {x : RxFrame} {F : Fld} {n : Nat} (h : F.id ≠ HOSTH.BACKLOG_NOW.id) : (s.rxTaken x).get F n = s.get F n :=
  State.get_put_id h

theorem exec_rxPlace_open {s : State} {x : RxFrame} (hx : s.rxQ.find? (·.hedge == x.hedge) = some x) (hh : x.hedge < 8)
    (hopen : s.rxOpen x.hedge = true) :
    exec (.rxPlace x.hedge) s = .next (if s.get HBIND.CTL_ATTACH x.hedge = 2 then (s.rxTaken x).rxTunnel x else (s.rxTaken x).rxRing x) := by
  rw [← State.get_rxTaken (x := x) (by decide), exec_rxPlace, execRxPlace, hx]
  exact if_neg (by simp [Nat.not_le.2 hh, hopen])

/-- A frame that fills posted buffers: its entries written back, the first last, and the ring moved on (R440). -/
theorem State.rxRing_filled {u : State} {x : RxFrame} {l : List (Nat × List Nat × Nat)} (hfill : (u.rxFill x.hedge 65537 x.payload []).1 = some l) :
    u.rxRing x = (
      let w := (u.rxFill x.hedge 65537 x.payload []).2.each (((List.range l.length).zip l).drop 1 ++ ((List.range l.length).zip l).take 1) fun u p =>
        u.hostWrite x.hedge p.2.1 (x.entry p.2.2.1 p.1 l.length p.2.2.2)
      let w := w.put HOSTH.RING_CONS (rix x.hedge 3) (u.get HOSTH.RING_FETCH (rix x.hedge 3) + l.length)
      let w := ((w.shadow x.hedge 3 (w.get HOSTH.RING_CONS (rix x.hedge 3))).irq x.hedge 2).bump HOSTH.RX_DELIVERED x.hedge
      w.shCharge (52 + x.hedge) (w.shCost (52 + x.hedge) 0 (x.payload.length + 64 * l.length))) := by
  have hp : u.rxFill x.hedge 65537 x.payload [] = (some l, (u.rxFill x.hedge 65537 x.payload []).2) := Prod.ext hfill rfl
  rw [State.rxRing, hp]

/-- A frame with too few buffers: FETCH goes back, what was written is charged, the drop is counted. -/
theorem State.rxRing_dropped {u : State} {x : RxFrame} (hfill : (u.rxFill x.hedge 65537 x.payload []).1 = none) :
    u.rxRing x = (
      let w := (u.rxFill x.hedge 65537 x.payload []).2
      let f := u.get HOSTH.RING_FETCH (rix x.hedge 3)
      let n := (w.get HOSTH.RING_FETCH (rix x.hedge 3) + 2 ^ 32 - f) % 2 ^ 32
      let got := ((List.range n).map fun k => oct (w.hostRead x.hedge (w.ringAddr x.hedge 3 (f + k)) 64) 8 2).sum
      let v := w.put HOSTH.RING_FETCH (rix x.hedge 3) f
      (v.shCharge (52 + x.hedge) (v.shCost (52 + x.hedge) 0 got)).rxNoBuf x.hedge) := by
  have hp : u.rxFill x.hedge 65537 x.payload [] = (none, (u.rxFill x.hedge 65537 x.payload []).2) := Prod.ext hfill rfl
  rw [State.rxRing, hp]

/-- Settles O49: the drain by what it leaves unreported, a frame by the ring or Tunnel it leaves through. -/
theorem eventsAndUplinks : Obligations.EventsAndUplinks := by
  unfold Obligations.EventsAndUplinks
  refine ⟨?_, ?_, ?_, ?_, ?_, ?_, ?_, ?_, ?_, ?_, ?_⟩
  · intro h s hh hnone
    rw [exec_evBacklogDrain, execEvBacklogDrain, if_neg (Nat.not_le.2 hh), State.evDrain]
    refine congrArg Host.Outcome.next (if_neg ?_)
    rintro ⟨hn, hlt⟩
    exact hnone.elim hn (Nat.not_le.2 hlt)
  · intro h s hh hn hlt
    rw [exec_evBacklogDrain, execEvBacklogDrain, if_neg (Nat.not_le.2 hh), State.evDrain]
    exact congrArg Host.Outcome.next (if_pos ⟨hn, hlt⟩)
  · intro h x l s hx hh hopen hattach hfill
    obtain rfl : x.hedge = h := by simpa using List.find?_some hx
    have hfill' : ((s.rxTaken x).rxFill x.hedge 65537 x.payload []).1 = some l := hfill
    rw [exec_rxPlace_open hx hh hopen, if_neg hattach, State.rxRing_filled hfill', State.get_rxTaken (by decide)]
    rfl
  · intro h x s hx hh hopen hattach hfill
    obtain rfl : x.hedge = h := by simpa using List.find?_some hx
    have hfill' : ((s.rxTaken x).rxFill x.hedge 65537 x.payload []).1 = none := hfill
    rw [exec_rxPlace_open hx hh hopen, if_neg hattach, State.rxRing_dropped hfill', State.get_rxTaken (by decide)]
    rfl
  · intro h x s hx hh hopen hattach hcredit hmtu
    obtain rfl : x.hedge = h := by simpa using List.find?_some hx
    rw [exec_rxPlace_open hx hh hopen, if_pos hattach, State.rxTunnel]
    refine congrArg Host.Outcome.next (if_neg ?_)
    rw [State.get_rxTaken (F := HOSTG.TUN_MTU) (by decide)]
    exact fun hno => hno.elim hcredit (Nat.not_lt.2 hmtu)
  · intro h x s hx hh hopen hattach hno
    obtain rfl : x.hedge = h := by simpa using List.find?_some hx
    rw [exec_rxPlace_open hx hh hopen, if_pos hattach, State.rxTunnel]
    refine congrArg Host.Outcome.next (if_pos ?_)
    rw [State.get_rxTaken (F := HOSTG.TUN_MTU) (by decide)]
    exact hno
  · intro h s h1
    simp [exec_rxPlace, execRxPlace, h1]
  · intro h s hlate
    rw [exec_rxHoldExpire, execRxHoldExpire]
    exact congrArg Host.Outcome.next (if_neg (by simpa [List.length_eq_zero_iff] using hlate))
  · intro h s hUplinkHold
    simp [exec_rxHoldExpire, execRxHoldExpire, hUplinkHold]
  · intro h s hh hsum hdue
    rw [exec_rxLossReport, execRxLossReport]
    have hgo : ¬ (8 ≤ h ∨ s.get HST.RX_NOBUF_REP h + s.get HST.RX_HOLD_REP h + s.get HST.RX_BACK_REP h = 0
        ∨ (s.on HST.LOSS_ON h = true ∧ s.mp < s.get HST.LOSS_AT h + 2 ^ 24)) := by
      rintro (h8 | h0 | ⟨hon, hlt⟩)
      · exact absurd hh (Nat.not_lt.2 h8)
      · exact hsum h0
      · rcases hdue with hoff | hpast
        · rw [State.on_of_eq hoff] at hon
          cases hon
        · exact Nat.not_le.2 hlt hpast
    refine (if_neg hgo).trans (congrArg Host.Outcome.next ?_)
    simp only [State.clr, State.set]
    rw [State.mp_put (by decide), State.mp_put (by decide), State.mp_put (by decide)]
  · intro h s hLossOn hLossAt
    simp only [exec_rxLossReport, execRxLossReport, State.on_of_ne hLossOn, hLossAt, if_true, or_true, and_self]

end Sys2Proof.Machine
end

section
/-!
PROOF. The twin link, its wires and PRP, its roles and snapshots (O52, O53).
-/

namespace Sys2Proof.Machine

open Sys2Proof

/-- R461's decision by its conditions as numbers, the form in which the statements write it. -/
def State.decision (u : State) : State :=
  if u.standby = false then u
  else match u.takeCause with
    | some k => if u.get TWIN.CFG_AUTO_TAKEOVER ≠ 0 ∧ u.get TWIN.STATUS_SYNCED ≠ 0 then u.takeover k else u
    | none => if u.get TWIN.STATUS_LINK_UP = 0 then u.put TWIN.EVENT_LINK_DOWN 0 1 else u

theorem State.decide461_eq (u : State) : u.decide461 = u.decision := by
  rw [State.decide461, State.decision]
  cases u.standby
  · rfl
  · rw [if_neg (by decide), if_neg (by decide)]
    cases u.takeCause with
    | some k => simp only [Bool.and_eq_true, State.on_eq_true]
    | none => simp only [State.when, Bool.not_eq_true', State.on_eq_false, State.set]

/-- A message heard, by whether the link was up, in the form in which the statements write it. -/
def State.hearing (u : State) : State :=
  let p := u.get TWIN.STATUS_LINK_UP
  let u := (u.put TWIN.STATUS_LINK_UP 0 1).put TWINX.HEARD 0 u.mp
  if p ≠ 0 then u else u.decision

theorem State.twinHeard_eq (u : State) : u.twinHeard = u.hearing := by
  simp only [State.twinHeard, State.hearing, State.on_eq_true, State.decide461_eq, State.set]

theorem State.runtimeDisarm (s : State) {n : Nat} (h : 16 ≤ n) : s.disarm n = s.put PT.STATUS_ARMED n 0 := by
  simp only [State.disarm, Nat.not_lt.2 h, decide_false, Bool.and_false, Bool.false_eq_true, if_false, State.clr]

/-- The own heartbeat on PT23 and the capture of the partner's on CU15. -/
theorem State.hbStart_eq (u : State) :
    u.hbStart = (
      let q := usTicks 500
      let v := (((((((u.disarm 23).put PT.CTL_EN 23 1).put PT.CTL_ACTION 23 5).put PT.CTL_TARGET 23 (u.get TWIN.PINS_HB_OUT)).put PT.PERIOD 23 q).put
        PT.CMP 23 (u.mp + q)).put PT.STATUS_ARMED 23 1).put CU.CTL_EN 15 1
      ((v.put CU.CTL_EDGE 15 2).put CU.CTL_SOURCE 15 (v.get TWIN.PINS_HB_IN)).put TWINX.HB_EDGE 0 v.mp) := by
  rw [State.hbStart, State.runtimeDisarm u (by decide)]
  simp (discharger := decide) only [State.set, State.get_put_id, State.mp_put]

theorem State.mp_hbStart (u : State) : u.hbStart.mp = u.mp := by
  rw [State.hbStart_eq, State.runtimeDisarm u (by decide)]
  simp (discharger := decide) only [State.mp_put]

/-- What a HELLO leaves of its sender, before the roles are settled (R460). -/
def State.greeted (s : State) (eui role schema : Nat) (same : Bool) : State :=
  let u := (s.put TWINX.PARTNER 0 eui).put TWIN.SCHEMA_PARTNER 0 schema
  let u := if same then u else u.put TWIN.EVENT_CONFIG_DIFF 0 1
  if s.get TWINX.WAIT ≠ 0 ∨ s.get TWINX.PARTNER ≠ eui ∨ role ≠ 1 then u.put TWINX.FULL_DUE 0 1 else u

theorem State.get_greeted {s : State} {eui role schema : Nat} {same : Bool} {F : Fld}
    (h : F.id ≠ TWINX.PARTNER.id ∧ F.id ≠ TWIN.SCHEMA_PARTNER.id ∧ F.id ≠ TWIN.EVENT_CONFIG_DIFF.id ∧ F.id ≠ TWINX.FULL_DUE.id) :
    (s.greeted eui role schema same).get F = s.get F := by
  obtain ⟨hpartner, hschema, hdiff, hfull⟩ := h
  simp only [State.greeted]
  split <;> split <;> simp only [State.get_put_id hpartner, State.get_put_id hschema, State.get_put_id hdiff, State.get_put_id hfull]

/-- Whether a waiting part becomes the ACTIVE at a partner's HELLO (R460). -/
def State.preferred (s : State) (eui prefer role : Nat) : Bool :=
  role != 1 && (s.get TWIN.CFG_PREFER > prefer || (s.get TWIN.CFG_PREFER == prefer && decide (s.get SYS.EUI64 < eui)))

/-- The end of the wait for HELLO with the role it settles. -/
def State.settled (u : State) (active : Bool) : State :=
  (if active then (u.put TWINX.WAIT 0 0).beActive else (u.put TWINX.WAIT 0 0).beStandby).roleTold 0

/-- A HELLO with EN 1: its sender noted, the roles settled where the part waits, an answer where the partner has no role, and heard. -/
theorem exec_twinHelloRx_enabled {s u : State} {eui prefer role schema : Nat} {same : Bool} (hen : s.get TWIN.CFG_EN ≠ 0)
    (hu : u = if s.get TWINX.WAIT ≠ 0 then (s.greeted eui role schema same).settled (s.preferred eui prefer role) else s.greeted eui role schema same) :
    exec (.twinHelloRx eui prefer role schema same) s = .next (if role = 0 then u.hello else u).twinHeard := by
  have hg : ((((s.put TWINX.PARTNER 0 eui).put TWIN.SCHEMA_PARTNER 0 schema).when (!same) (·.set TWIN.EVENT_CONFIG_DIFF)).when
      (s.on TWINX.WAIT || s.get TWINX.PARTNER != eui || role != 1) (·.set TWINX.FULL_DUE)) = s.greeted eui role schema same := by
    cases same <;> simp [State.greeted, State.when, State.on, State.set, or_assoc]
  have hactive : (s.greeted eui role schema same).preferred eui prefer role = s.preferred eui prefer role := by
    simp (discharger := decide) only [State.preferred, State.get_greeted]
  have hwait := State.get_greeted (s := s) (eui := eui) (role := role) (schema := schema) (same := same) (F := TWINX.WAIT) (by decide)
  rw [← hwait, ← hactive] at hu
  simp only [exec_twinHelloRx, execTwinHelloRx, State.on_of_ne hen, Bool.not_true, Bool.false_eq_true, if_false]
  rw [hg, hu]
  simp only [State.on_eq_true, State.when, beq_iff_eq]
  rfl

/-- The count of a frame that came on the wrong LAN (R472). -/
def State.lanCounted (s : State) (port : Nat) (lanB : Bool) : State :=
  if lanB = (port == 1) then s else s.bump (if port = 0 then PRP.LAN_A_ERR else PRP.LAN_B_ERR)

theorem State.get_lanCounted {s : State} {port : Nat} {lanB : Bool} {F : Fld} {n : Nat} (h : F.id ≠ PRP.LAN_A_ERR.id ∧ F.id ≠ PRP.LAN_B_ERR.id) :
    (s.lanCounted port lanB).get F n = s.get F n := by
  simp only [State.lanCounted]
  split
  · rfl
  · split
    · exact State.get_bump_id h.1
    · exact State.get_bump_id h.2

/-- A frame with PRP on, before it is looked up: the wrong LAN counted, a supervision frame restarting its port's watch (R472). -/
def State.prpNoted (s : State) (port : Nat) (lanB sup : Bool) : State :=
  if sup then (s.lanCounted port lanB).put PRPX.HEARD port s.mp else s.lanCounted port lanB

theorem State.get_prpNoted {s : State} {port : Nat} {lanB sup : Bool} {F : Fld} {n : Nat}
    (h : F.id ≠ PRP.LAN_A_ERR.id ∧ F.id ≠ PRP.LAN_B_ERR.id) (hheard : F.id ≠ PRPX.HEARD.id) :
    (s.prpNoted port lanB sup).get F n = s.get F n := by
  cases sup
  · exact State.get_lanCounted h
  · exact (State.get_put_id hheard).trans (State.get_lanCounted h)

theorem State.prpTab_prpNoted (s : State) (port : Nat) (lanB sup : Bool) : (s.prpNoted port lanB sup).prpTab = s.prpTab := by
  have hlan : (s.lanCounted port lanB).prpTab = s.prpTab := by
    simp only [State.lanCounted]
    split <;> rfl
  cases sup <;> exact hlan

theorem State.prpLive_prpNoted (s : State) (port : Nat) (lanB sup : Bool) :
    (s.prpNoted port lanB sup).mp = s.mp ∧ (s.prpNoted port lanB sup).prpLive = s.prpLive := by
  have hmp : (s.prpNoted port lanB sup).mp = s.mp := by
    simp (discharger := decide) only [State.mp, State.get_prpNoted]
  exact ⟨hmp, by rw [State.prpLive, State.prpLive, hmp, State.get_prpNoted (by decide) (by decide), State.prpTab_prpNoted]⟩

/-- A frame with PRP on: discarded where the live table holds it, else entered where its source has or finds a place. -/
theorem exec_prpFrameRx_on {s u : State} {port source seq : Nat} {lanB sup : Bool} (hen : s.get PRP.CTL_EN ≠ 0) (hport : port < 2)
    (hu : s.prpNoted port lanB sup = u) :
    exec (.prpFrameRx port source seq lanB sup) s =
      if (s.prpLive.any fun x => x.1 == source && x.2.1 == seq) = true then
        .next ((({ u with prpTab := s.prpLive } : State).put PRP.NODES 0 (prpNodes s.prpLive).length).bump PRP.DUP_DISCARD)
      else
        let l := if (prpNodes s.prpLive).contains source = true ∨ (prpNodes s.prpLive).length < 1024 then s.prpLive ++ [(source, seq, s.mp)] else s.prpLive
        .next (({ u with prpTab := l } : State).put PRP.NODES 0 (prpNodes l).length) := by
  subst hu
  obtain ⟨hmp, hlive⟩ := s.prpLive_prpNoted port lanB sup
  have hin : (!s.on PRP.CTL_EN || decide (2 ≤ port)) = false := by simp [State.on_of_ne hen, hport]
  have hlan : s.when (lanB != (port == 1)) (·.bump (if port = 0 then PRP.LAN_A_ERR else PRP.LAN_B_ERR)) = s.lanCounted port lanB := by
    rw [State.lanCounted, State.when]
    by_cases h : lanB = (port == 1)
    · rw [if_pos h, if_neg (by simp [h])]
    · rw [if_neg h, if_pos (by simpa using h)]
  have hnoted : (s.lanCounted port lanB).when sup (·.put PRPX.HEARD port (s.lanCounted port lanB).mp) = s.prpNoted port lanB sup := by
    have hmp1 : (s.lanCounted port lanB).mp = s.mp := by simp (discharger := decide) only [State.mp, State.get_lanCounted]
    rw [hmp1]
    rfl
  simp only [exec_prpFrameRx, execPrpFrameRx, hin, Bool.false_eq_true, if_false]
  rw [hlan, hnoted, hlive, hmp]
  simp only [Bool.or_eq_true, decide_eq_true_eq]

/-- Settles O52: what the wires and messages leave, by the one decision of R461 that each change of an input makes. -/
theorem twinLinkAndWires : Obligations.TwinLinkAndWires := by
  unfold Obligations.TwinLinkAndWires
  refine ⟨?_, ?_, ?_, ?_, ?_, ?_, ?_, ?_, ?_, ?_, ?_, ?_, ?_, ?_, ?_, ?_, ?_, ?_, ?_, ?_, ?_, ?_, ?_, ?_, ?_⟩
  · intro r v lanes s hr hstay
    simp only [exec_twinCfgEnWrite, execTwinCfgEnWrite, State.onBus_reached _ hr]
    have h1 : ¬ (v % 2 = 1 ∧ ¬ s.on TWIN.CFG_EN = true) := by
      rintro ⟨hv, hoff⟩
      rcases hstay with ⟨-, hon⟩ | ⟨h0, -⟩
      · exact hoff (State.on_of_ne hon)
      · omega
    have h0 : ¬ (v % 2 = 0 ∧ s.on TWIN.CFG_EN = true) := by
      rintro ⟨hv, hon⟩
      rcases hstay with ⟨h1, -⟩ | ⟨-, hoff⟩
      · omega
      · exact State.on_eq_true.1 hon hoff
    exact (if_neg h1).trans (if_neg h0)
  · intro r v lanes s hr hv hoff
    simp only [exec_twinCfgEnWrite, execTwinCfgEnWrite, State.onBus_reached _ hr]
    have h1 : v % 2 = 1 ∧ ¬ s.on TWIN.CFG_EN = true := ⟨hv, by rw [State.on_of_eq hoff]; decide⟩
    refine (if_pos h1).trans (congrArg Host.Outcome.next ?_)
    simp only [State.when, beq_iff_eq, State.set, State.clr]
    rw [← State.hbStart_eq, ← State.hello, State.mp_hbStart]
    rfl
  · intro r v lanes s hr hv hon
    simp only [exec_twinCfgEnWrite, execTwinCfgEnWrite, State.onBus_reached _ hr]
    have h1 : ¬ (v % 2 = 1 ∧ ¬ s.on TWIN.CFG_EN = true) := fun h => absurd h.1 (by omega)
    refine (if_neg h1).trans ((if_pos ⟨hv, State.on_of_ne hon⟩).trans (congrArg Host.Outcome.next ?_))
    have hrole : (((s.put TWIN.CFG_EN 0 v).put TWIN.CFG_PREFER 0 (bits v 1 1)).put TWIN.CFG_AUTO_TAKEOVER 0 (bits v 2 1)).get TWIN.STATUS_ROLE
        = s.get TWIN.STATUS_ROLE := by simp (discharger := decide) only [State.get_put_id]
    simp only [State.when, bne_iff_ne, ne_eq, State.clr, hrole]
    rfl
  · intro eui prefer role schema same s hCfgEn
    simp [exec_twinHelloRx, execTwinHelloRx, State.on_of_eq hCfgEn]
  · intro eui prefer role schema same s hen hwait
    rw [exec_twinHelloRx_enabled hen (if_neg (Classical.not_not.2 hwait)).symm, State.twinHeard_eq]
    rfl
  · intro eui prefer role schema same s hen hwait
    rw [exec_twinHelloRx_enabled hen (if_pos hwait).symm, State.twinHeard_eq]
    rfl
  · intro s hWait hEnAt
    simp only [exec_twinHelloTimeout, execTwinHelloTimeout, State.on_of_ne hWait, hEnAt, if_true, Bool.and_true]
    rfl
  · intro s hnot
    rw [exec_twinHelloTimeout, execTwinHelloTimeout]
    refine congrArg Host.Outcome.next (if_neg ?_)
    rw [Bool.and_eq_true, State.on_eq_true]
    rintro ⟨hwait, hlate⟩
    exact hnot.elim hwait (by simp [hlate])
  · intro s hCfgEn hSent
    simp [exec_twinHeartbeatSend, execTwinHeartbeatSend, State.on_of_ne hCfgEn, hSent]
  · intro s hnot
    rw [exec_twinHeartbeatSend, execTwinHeartbeatSend]
    refine congrArg Host.Outcome.next (if_neg ?_)
    rw [Bool.and_eq_true, State.on_eq_true]
    rintro ⟨hen, hlate⟩
    exact hnot.elim hen (by simp [hlate])
  · intro s hup hlate
    rw [exec_twinLinkSilent, execTwinLinkSilent, State.on_of_ne hup, hlate, State.decide461_eq]
    rfl
  · intro s hnot
    rw [exec_twinLinkSilent, execTwinLinkSilent]
    refine congrArg Host.Outcome.next (if_neg ?_)
    rw [Bool.and_eq_true, State.on_eq_true]
    rintro ⟨hup, hlate⟩
    exact hnot.elim hup (by simp [hlate])
  · intro s hen hlanes
    have h : (s.on TWIN.CFG_EN && s.get TWIN.STATUS_LANES != 0) = true := by simp [State.on_of_ne hen, hlanes]
    rw [exec_twinLinkUp, execTwinLinkUp, if_pos h, State.twinHeard_eq]
    rfl
  · intro s hnot
    rw [exec_twinLinkUp, execTwinLinkUp]
    refine congrArg Host.Outcome.next (if_neg ?_)
    rw [Bool.and_eq_true, State.on_eq_true]
    rintro ⟨hen, hlanes⟩
    exact hnot.elim hen (by simpa using hlanes)
  · intro s hup hlate
    rw [exec_twinHbSilent, execTwinHbSilent, State.on_of_ne hup, hlate, State.decide461_eq]
    rfl
  · intro s hnot
    rw [exec_twinHbSilent, execTwinHbSilent]
    refine congrArg Host.Outcome.next (if_neg ?_)
    rw [Bool.and_eq_true, State.on_eq_true]
    rintro ⟨hup, hlate⟩
    exact hnot.elim hup (by simp [hlate])
  · intro s hen hfault
    rw [exec_partnerFaultAssert, execPartnerFaultAssert, State.on_of_ne hen, State.on_of_eq hfault, State.decide461_eq]
    rfl
  · intro s hfault
    rw [exec_partnerFaultRelease, execPartnerFaultRelease, State.on_of_ne hfault, State.decide461_eq]
    rfl
  · intro port source seq lanB sup s hen hport hnew
    exact (exec_prpFrameRx_on hen hport rfl).trans (if_neg (by rw [State.prpLive, hnew]; decide))
  · intro port source seq lanB sup s hen hport hold
    exact (exec_prpFrameRx_on hen hport rfl).trans (if_pos hold)
  · intro port source seq lanB sup s hCtlEn
    simp [exec_prpFrameRx, execPrpFrameRx, State.on_of_eq hCtlEn]
  · intro s hCtlEn h2
    simp only [exec_prpSupSend, execPrpSupSend, State.on_of_ne hCtlEn, Nat.not_lt.2 h2, if_false, Bool.not_true, Bool.or_false, Bool.false_eq_true,
      decide_false]
  · intro s hnot
    rw [exec_prpSupSend, execPrpSupSend]
    refine if_pos ?_
    rw [Bool.or_eq_true, decide_eq_true_eq, Bool.not_eq_true', State.on_eq_false]
    exact hnot
  · intro port s hCtlEn hport h3
    simp only [exec_prpSupTimeout, execPrpSupTimeout, State.on_of_ne hCtlEn, Nat.not_le.2 hport, Nat.not_lt.2 h3, if_false, Bool.not_true, Bool.or_false,
      Bool.false_eq_true, decide_false]
    rfl
  · intro port s hnot
    rw [exec_prpSupTimeout, execPrpSupTimeout]
    refine if_pos ?_
    rw [Bool.or_eq_true, Bool.or_eq_true, decide_eq_true_eq, decide_eq_true_eq, Bool.not_eq_true', State.on_eq_false]
    exact hnot.elim (fun h => .inl (.inl h)) .inr

theorem State.role_refreshAll (s : State) : s.refreshAll.get TWIN.STATUS_ROLE = s.get TWIN.STATUS_ROLE := by
  simp only [State.refreshAll, State.refreshFlows]
  rw [State.get_each, State.get_each, State.get_each]
  · intro u p
    refine State.get_each fun u k => ?_
    simp only
    split
    · simp (discharger := decide) only [State.get_bump_id, State.get_put_id, State.get_set_id]
    · exact State.get_put_id (by decide)
  · intro u a
    simp (discharger := decide) only [State.get_put_id]
    exact State.get_when (State.get_put_id (by decide))
  · intro u n
    simp (discharger := decide) only [State.get_put_id]
    exact State.get_when (State.get_put_id (by decide))

/-- A part that has taken over is no standby. -/
theorem State.standby_takeover (s : State) (k : Nat) : (s.takeover k).standby = false := by
  simp (discharger := decide) only [State.standby, State.takeover, State.beActive, State.role_refreshAll, State.set, State.get_put_id, State.get_put]
  rfl

/-- A part that stays a standby when it hears a message keeps its schema. -/
theorem State.schema_twinHeard {s : State} (h : s.twinHeard.standby = true) : s.twinHeard.get TWIN.SCHEMA_OWN = s.get TWIN.SCHEMA_OWN := by
  have hput : ((s.put TWIN.STATUS_LINK_UP 0 1).put TWINX.HEARD 0 s.mp).get TWIN.SCHEMA_OWN = s.get TWIN.SCHEMA_OWN := by
    simp (discharger := decide) only [State.get_put_id]
  rw [State.twinHeard_eq, State.hearing] at h ⊢
  split at h
  case isTrue hup => rw [if_pos hup, hput]
  case isFalse hup =>
    rw [if_neg hup]
    refine Eq.trans ?_ hput
    revert h
    generalize (s.put TWIN.STATUS_LINK_UP 0 1).put TWINX.HEARD 0 s.mp = u
    rw [State.decision]
    split
    · exact fun _ => rfl
    · split
      · split
        · intro h
          rw [State.standby_takeover] at h
          cases h
        · exact fun _ => rfl
      · split
        · exact fun _ => State.get_put_id (by decide)
        · exact fun _ => rfl

theorem State.standby_phaseSplit (s : State) (ofs : Int) : (s.phaseSplit ofs).standby = s.standby := by
  rw [State.standby, State.standby, State.phaseSplit, State.get_when (State.get_set_id (by decide)), State.putI, State.get_put_id (by decide)]

theorem State.phaseSplit_eq (s : State) (ofs : Int) :
    s.phaseSplit ofs = if 20000 < ofs.natAbs then (s.putI TWIN.PHASE_OFS 0 ofs).put TWIN.EVENT_PHASE_SPLIT 0 1 else s.putI TWIN.PHASE_OFS 0 ofs := by
  simp only [State.phaseSplit, State.when, decide_eq_true_eq, State.set]

theorem State.loopTest_eq (s : State) (ok : List Bool) :
    s.loopTest ok = if ([0, 1, 2, 3].all fun i => ok.getD i true) = true then s.put TWINX.LOOP_AT 0 s.mp
      else (s.put TWINX.LOOP_AT 0 s.mp).put TWIN.EVENT_LOOP_FAIL 0 1 := by
  rw [State.loopTest]
  generalize s.put TWINX.LOOP_AT 0 s.mp = v
  generalize ([0, 1, 2, 3].all fun i => ok.getD i true) = b
  cases b
  · rw [if_neg (by decide)]; rfl
  · rw [if_pos rfl]; rfl

/-- A snapshot taken into the state of a standby (R464, R465). -/
def State.snapTaken (u : State) (x : TwinSnap) : State :=
  let u := (u.each x.entries State.snapEntry).each x.ledger fun u y => u.put LEDGER.GEN y.1 y.2
  let u := (u.snapCells x.cells).snapDuty x.duty
  let u := { u with missing := x.missing, gone := x.gone, twinCmds := x.cmds }
  let u := (u.put TWIN.TAKEOVER_EPOCH 0 x.epoch).put TWIN.SNAP_SEQ 0 x.seq
  (u.when x.full (·.set TWIN.STATUS_SYNCED)).refreshAll

theorem State.refreshAll_synced (u : State) (c : Bool) :
    (u.when c (·.set TWIN.STATUS_SYNCED)).refreshAll = if c then (u.put TWIN.STATUS_SYNCED 0 1).refreshAll else u.refreshAll := by
  cases c <;> rfl

theorem State.snapTaken_eq (u : State) (x : TwinSnap) :
    u.snapTaken x = (
      let u := (u.each x.entries State.snapEntry).each x.ledger fun u y => u.put LEDGER.GEN y.1 y.2
      let u := (u.snapCells x.cells).snapDuty x.duty
      let u := (({ u with missing := x.missing, gone := x.gone, twinCmds := x.cmds } : State).put TWIN.TAKEOVER_EPOCH 0 x.epoch).put TWIN.SNAP_SEQ 0 x.seq
      if x.full then (u.put TWIN.STATUS_SYNCED 0 1).refreshAll else u.refreshAll) :=
  State.refreshAll_synced _ x.full

/-- What a standby makes of a snapshot, by what its hearing leaves it and by the schema. -/
theorem exec_snapshotApply_heard {s u : State} {x : TwinSnap} {ofs : Int} (h : s.standby = true) (hu : s.twinHeard.phaseSplit ofs = u) :
    exec (.snapshotApply x ofs) s =
      if !u.standby then .next u
      else if x.schema ≠ u.get TWIN.SCHEMA_OWN ∧ x.schema + 1 ≠ u.get TWIN.SCHEMA_OWN then .next ((u.set TWIN.EVENT_SCHEMA_MISMATCH).clr TWIN.STATUS_SYNCED)
      else .next (u.snapTaken x) := by
  rw [exec_snapshotApply, execSnapshotApply, if_neg (by simp [h]), hu]
  rfl

theorem State.schema_heard {s u : State} {ofs : Int} (hu : s.twinHeard.phaseSplit ofs = u) (hstay : u.standby = true) :
    u.get TWIN.SCHEMA_OWN = s.get TWIN.SCHEMA_OWN := by
  rw [← hu, State.standby_phaseSplit] at hstay
  rw [← hu, State.phaseSplit, State.get_when (State.get_set_id (by decide)), State.putI, State.get_put_id (by decide), State.schema_twinHeard hstay]

/-- Hearing and measuring, in the form in which the statements write it. -/
def State.measuring (s : State) (ofs : Int) : State :=
  let u := s.hearing
  let u := u.putI TWIN.PHASE_OFS 0 ofs
  if 20000 < ofs.natAbs then u.put TWIN.EVENT_PHASE_SPLIT 0 1 else u

theorem State.measuring_eq (s : State) (ofs : Int) : s.twinHeard.phaseSplit ofs = s.measuring ofs := by
  rw [State.phaseSplit_eq, State.twinHeard_eq, State.measuring]


/-- A counter record taken in the entry it names (R466). -/
def State.recorded (u : State) (e counter : Nat) : State :=
  match judge (u.get E.RX_CNT e) (u.get E.REPLAY_MAP e) counter with
  | .fresh cnt map => u.keepCounter e cnt map
  | _ => u

/-- Settles O53: what a part hears by `State.twinHeard`, a takeover by the state it ends in. -/
theorem twinRolesAndSnapshots : Obligations.TwinRolesAndSnapshots := by
  unfold Obligations.TwinRolesAndSnapshots
  refine ⟨?_, ?_, ?_, ?_, ?_, ?_, ?_, ?_, ?_, ?_, ?_, ?_, ?_, ?_, ?_, ?_, ?_, ?_, ?_, ?_, ?_⟩
  · intro r s hr hstandby hsynced
    have hcause : s.takeCause.getD 3 = if s.get TWIN.STATUS_PARTNER_FAULT ≠ 0 then 1
        else if s.get TWIN.STATUS_LINK_UP = 0 ∧ s.get TWIN.STATUS_PARTNER_HB = 0 then 2 else 3 := by
      simp only [State.takeCause, State.on_eq_true, Bool.and_eq_true, Bool.not_eq_true', State.on_eq_false]
      split
      · rfl
      · split <;> rfl
    simp only [exec_twinCmdTakeover, execTwinCmdTakeover, State.onBus_reached _ hr]
    rw [if_pos (by rw [hstandby, State.on_of_ne hsynced]; rfl), hcause]
    rfl
  · intro r s hr hnot
    simp only [exec_twinCmdTakeover, execTwinCmdTakeover, State.onBus_reached _ hr]
    refine congrArg Host.Outcome.next (if_neg ?_)
    rw [Bool.and_eq_true, State.on_eq_true]
    rintro ⟨hstandby, hsynced⟩
    exact hnot.elim (by simp [hstandby]) hsynced
  · intro r s hr hStatusRole hStatusLinkUp
    simp [exec_twinCmdSwitch, execTwinCmdSwitch, hStatusRole, State.on_of_ne hStatusLinkUp, State.onBus_reached _ hr]
  · intro r s hr hnot
    simp only [exec_twinCmdSwitch, execTwinCmdSwitch, State.onBus_reached _ hr]
    exact if_pos (hnot.imp_right fun h => by simp [State.on_of_eq h])
  · intro cause s hen
    show s.hearing.standby = true → s.hearing.get TWIN.STATUS_SYNCED ≠ 0 → exec (.twinDemotionRx cause) s = .next (s.hearing.takeover cause)
    rw [← State.twinHeard_eq]
    intro hstandby hsynced
    rw [exec_twinDemotionRx, execTwinDemotionRx, State.on_of_ne hen]
    exact congrArg Host.Outcome.next (if_pos (by simp [hstandby, State.on_of_ne hsynced]))
  · intro cause s hen
    show s.hearing.standby = false ∨ s.hearing.get TWIN.STATUS_SYNCED = 0 → exec (.twinDemotionRx cause) s = .next s.hearing
    rw [← State.twinHeard_eq]
    intro hnot
    rw [exec_twinDemotionRx, execTwinDemotionRx, State.on_of_ne hen]
    refine congrArg Host.Outcome.next (if_neg ?_)
    rw [Bool.and_eq_true, State.on_eq_true]
    rintro ⟨hstandby, hsynced⟩
    exact hnot.elim (by simp [hstandby]) hsynced
  · intro late ofs s hrole hup hcyc
    have hgo : ¬ (s.get TWIN.STATUS_ROLE ≠ 1 ∨ ¬ s.on TWIN.STATUS_LINK_UP ∨ s.twinCycle < s.get TWINX.CYCLE) := by
      rintro (h | h | h)
      · exact h hrole
      · exact h (State.on_of_ne hup)
      · exact Nat.not_lt.2 hcyc h
    rw [exec_snapshotCapture, execSnapshotCapture, if_neg hgo, State.phaseSplit_eq]
    rfl
  · intro late ofs s hnot
    rw [exec_snapshotCapture, execSnapshotCapture]
    exact if_pos (hnot.imp_right fun h => h.imp_left fun h => by simp [State.on_of_eq h])
  · intro x ofs s hstandby
    show (s.measuring ofs).standby = true → x.schema ≠ s.get TWIN.SCHEMA_OWN → x.schema + 1 ≠ s.get TWIN.SCHEMA_OWN →
      exec (.snapshotApply x ofs) s = .next (((s.measuring ofs).put TWIN.EVENT_SCHEMA_MISMATCH 0 1).put TWIN.STATUS_SYNCED 0 0)
    intro hstay hown hbefore
    rw [exec_snapshotApply_heard hstandby (s.measuring_eq ofs), hstay, State.schema_heard (s.measuring_eq ofs) hstay]
    exact (if_neg (by decide)).trans (if_pos ⟨hown, hbefore⟩)
  · intro x ofs s hstandby
    show (s.measuring ofs).standby = true → (x.schema = s.get TWIN.SCHEMA_OWN ∨ x.schema + 1 = s.get TWIN.SCHEMA_OWN) →
      exec (.snapshotApply x ofs) s = .next (_)
    intro hstay hschema
    rw [exec_snapshotApply_heard hstandby (s.measuring_eq ofs), hstay, State.schema_heard (s.measuring_eq ofs) hstay]
    refine (if_neg (by decide)).trans ((if_neg fun h => hschema.elim h.1 h.2).trans (congrArg Host.Outcome.next ?_))
    rw [State.snapTaken_eq]
    rfl
  · intro x ofs s hstandby
    show (s.measuring ofs).standby = false → exec (.snapshotApply x ofs) s = .next (s.measuring ofs)
    intro hleft
    rw [exec_snapshotApply_heard hstandby (s.measuring_eq ofs), hleft]
    rfl
  · intro x ofs s hStandby
    simp [exec_snapshotApply, execSnapshotApply, hStandby]
  · intro h e counter s hen
    show (s.hearing.bump TWIN.MIRROR_CNT).named h e = true → exec (.twinCounterRecordRx h e counter) s = .next (_)
    intro hnamed
    rw [exec_twinCounterRecordRx, execTwinCounterRecordRx, State.on_of_ne hen, State.twinHeard_eq]
    simp only [hnamed, Bool.not_true, Bool.false_eq_true, if_false]
    refine Eq.trans ?_ (congrArg Host.Outcome.next (?_ : (s.hearing.bump TWIN.MIRROR_CNT).recorded e counter = _))
    · rw [State.recorded]
      generalize judge _ _ _ = verdict
      cases verdict <;> rfl
    · rfl
  · intro h e counter s hen
    show (s.hearing.bump TWIN.MIRROR_CNT).named h e = false → exec (.twinCounterRecordRx h e counter) s = .next (s.hearing.bump TWIN.MIRROR_CNT)
    rw [← State.twinHeard_eq]
    intro hnamed
    rw [exec_twinCounterRecordRx, execTwinCounterRecordRx, State.on_of_ne hen]
    simp only [hnamed, Bool.not_true, Bool.not_false, Bool.false_eq_true, if_true, if_false]
  · intro h e counter s hCfgEn
    simp [exec_twinCounterRecordRx, execTwinCounterRecordRx, State.on_of_eq hCfgEn]
  · intro r ok s hstandby hr
    simp only [exec_twinCmdLoop, execTwinCmdLoop, State.onBus_reached _ hr, hstandby, if_true]
    rw [State.loopTest_eq]
  · intro r ok s hStandby hr
    simp [exec_twinCmdLoop, execTwinCmdLoop, hStandby, State.onBus_reached _ hr]
  · intro ok s hstandby hdue
    rw [exec_twinLoopTest, execTwinLoopTest, hstandby, decide_eq_true hdue, State.loopTest_eq]
    rfl
  · intro ok s hnot
    rw [exec_twinLoopTest, execTwinLoopTest]
    refine congrArg Host.Outcome.next (if_neg ?_)
    rw [Bool.and_eq_true, decide_eq_true_eq]
    rintro ⟨hstandby, hdue⟩
    exact hnot.elim (by simp [hstandby]) (Nat.not_lt.2 hdue)
  · intro at_ s hStatusRole hActiveAt
    simp only [exec_twinDualActive, execTwinDualActive, hStatusRole, Nat.not_le.2 hActiveAt, if_false, not_true_eq_false, or_false, ne_eq]
    rfl
  · intro at_ s h1
    simp [exec_twinDualActive, execTwinDualActive, h1]

end Sys2Proof.Machine
end

section
/-!
PROOF. Boot, the calendar, the Scorepad and injection, and why the statement of the reset sources fails (O54 to O56, O58).
-/

namespace Sys2Proof.Machine

open Sys2Proof

/-- A power-on reset leaves in LEVEL the greater of 3 and what stood there, cut to the field's two bits. -/
theorem State.level_takeSys (s : State) (bit : Nat) : (s.takeSys 3 bit false).get RSTX.LEVEL = max 3 (s.get RSTX.LEVEL) % 2 ^ RSTX.LEVEL.w := by
  simp only [State.takeSys]
  rw [State.get_put_id (by decide), State.get_put_id (by decide), State.get_put_id (by decide)]
  have hcounts (u : State) (c : Bool) : (if max 3 (s.get RSTX.LEVEL) = 3 then (u.clr RST.SYS_CNT).clr RST.CORE_CNT else
      if c = true then u else u.bump RST.SYS_CNT).get RSTX.LEVEL = u.get RSTX.LEVEL := by
    split
    · simp (discharger := decide) only [State.get_clr_id]
    · split
      · rfl
      · exact State.get_bump_id (by decide)
  rw [hcounts, State.get_putIf_id (by decide), State.get_put]

/-- A state whose store lists 4 for LEVEL, a field of two bits. -/
def levelBeyond : State := { State.reset with cells := [((RSTX.LEVEL.id, 0), 4)] }

theorem levelBeyond_level : levelBeyond.get RSTX.LEVEL = 4 := by decide

/-- Refutes O54: its first clause speaks of every state, and in one that lists 4 for the two bits of LEVEL a power-on reset, which raises
the level to the greater of 3 and what stands there, writes 4 and so leaves 0, not 3. No write of the model leaves such a value. -/
theorem not_resetSources : ¬ Obligations.ResetSources := by
  unfold Obligations.ResetSources
  rintro ⟨hpowerOn, -⟩
  have hstate := Host.Outcome.next.inj (hpowerOn levelBeyond)
  have hlevel := congrArg (fun u => State.get u RSTX.LEVEL) hstate
  simp (discharger := decide) only [State.level_takeSys, levelBeyond_level, State.get_put_id, State.get_put] at hlevel
  revert hlevel
  decide

/-- What CONFIRM makes of the version counters: the running version becomes the least where the image locks it (R496). -/
def State.versionLocked (v : State) : State :=
  if v.get BOOTX.LOCK ≠ 0 ∧ v.minSvn < v.get BOOT.SVN_RUNNING then
    (v.put OTP.MIN_SVN 0 (2 ^ v.get BOOT.SVN_RUNNING - 1)).put BOOT.SVN_MIN 0 (v.get BOOT.SVN_RUNNING)
  else v

theorem State.versionLocked_eq (v : State) :
    (v.when (v.on BOOTX.LOCK && decide (v.minSvn < v.get BOOT.SVN_RUNNING)) fun u =>
      (u.put OTP.MIN_SVN 0 (2 ^ v.get BOOT.SVN_RUNNING - 1)).put BOOT.SVN_MIN 0 (v.get BOOT.SVN_RUNNING)) = v.versionLocked := by
  simp only [State.when, State.versionLocked, Bool.and_eq_true, decide_eq_true_eq, State.on_eq_true]

/-- A pending mark on the slot to be written is taken off (R491). -/
def State.pendTaken (s : State) (n : Nat) : State :=
  match s.bootRec with
  | some (_, l) => if oct l 9 1 = n + 1 then s.bootPut [(9, [0, 0])] else s
  | none => s

/-- The start of an image write to slot `n`: the slot erased, the image and the command kept. -/
def State.writeBegun (u : State) (n : Nat) (m : List Nat) (c : Cmd) (act : Bool) : State :=
  let u := { u with mem.flash := memZero u.mem.flash (slotAt n) (slotAt n + 0x1000000), flashBuf := m }
  let u := (((u.triesShow.set BOOTX.WON).put BOOTX.WTAG 0 c.tag).put BOOTX.WINDEX 0 c.index).put BOOTX.WSLOT 0 n
  (u.put BOOTX.WACT 0 (if act then 1 else 0)).served c

theorem exec_bootImageWrite_eq {s : State} {c : Cmd} {addr len : Nat} {act : Bool} {slot n : Nat} (htrial : s.get BOOT.STATUS_TRIAL = 0)
    (hgood : ¬ (1 < slot ∨ (¬ s.on BOOT.STATUS_RECOVERY ∧ slot ≠ 0) ∨ len = 0 ∨ 0x1000000 < len))
    (hn : (if s.on BOOT.STATUS_RECOVERY then slot else 1 - s.get BOOT.STATUS_SLOT) = n) :
    exec (.bootImageWrite c addr len act slot) s = .next ((s.pendTaken n).writeBegun n (s.hostRead c.ring addr len) c act) := by
  rw [exec_bootImageWrite, execBootImageWrite, hn, State.on_of_eq htrial]
  refine (if_neg (by decide)).trans ((if_neg hgood).trans ?_)
  rw [State.pendTaken]
  cases s.bootRec <;> rfl

/-- The flash with the image in its slot, and no write in progress. -/
def State.flashWritten (s : State) : State :=
  ({ s with mem.flash := memWriteL s.mem.flash (slotAt (s.get BOOTX.WSLOT)) s.flashBuf, flashBuf := [] } : State).clr BOOTX.WON

/-- The boot record after an image that passed in slot `n`: made where there was none, pending where ACTIVATE asked (R491). -/
def State.imageRecorded (v : State) (n : Nat) : State :=
  let u := if v.bootRec.isNone then v.bootPut [(8, [n])] else v
  let u := if u.get BOOTX.WACT ≠ 0 then u.bootPut [(9, [n + 1, 3])] else u
  u.put BOOT.TRIES 0 (u.bootField 10)

theorem State.imageRecorded_eq (v : State) (n : Nat) :
    (let u := if v.bootRec.isNone then v.bootPut [(8, [n])] else v
     let u := if u.on BOOTX.WACT then u.bootPut [(9, [n + 1, 3])] else u
     u.triesShow) = v.imageRecorded n := by
  simp only [State.on_eq_true, State.imageRecorded, State.triesShow]

/-- The end of an image write in progress, by whether the slot read back passes. -/
theorem exec_bootFlashWriteDone_on {s : State} (hwon : s.get BOOTX.WON ≠ 0) :
    exec .bootFlashWriteDone s =
      if (!s.flashWritten.bootImageOk (imageAt s.flashWritten.mem.flash (slotAt (s.get BOOTX.WSLOT)))) = true then
        .next (s.flashWritten.finish ⟨8, s.get BOOTX.WTAG, s.get BOOTX.WINDEX, false⟩ 0x75 0x0D)
      else .next ((s.flashWritten.imageRecorded (s.get BOOTX.WSLOT)).finish ⟨8, s.get BOOTX.WTAG, s.get BOOTX.WINDEX, false⟩ 0x75 0) := by
  rw [exec_bootFlashWriteDone, execBootFlashWriteDone, State.on_of_ne hwon, ← State.imageRecorded_eq]
  exact if_neg (by decide)

/-- Settles O55: the boot commands by the conditions that refuse them, in their order. -/
theorem bootAndImages : Obligations.BootAndImages := by
  unfold Obligations.BootAndImages
  refine ⟨?_, ?_, ?_, ?_, ?_, ?_, ?_, ?_, ?_, ?_, ?_, ?_, ?_, ?_, ?_⟩
  · intro r s hr hStatusTrial
    simp [exec_bootConfirm, execBootConfirm, State.on_of_eq hStatusTrial, State.onBus_reached _ hr]
  · intro r s hr htrial
    rw [exec_bootConfirm, execBootConfirm, State.onBus_reached _ hr, State.on_of_ne htrial]
    exact congrArg (fun v => Host.Outcome.next (State.clr v BOOT.STATUS_TRIAL).triesShow) (State.versionLocked_eq _)
  · intro r x s hr hRecov
    simp [exec_recovGo, execRecovGo, State.on_of_eq hRecov, State.onBus_reached _ hr]
  · intro r x s hr hrecov
    simp only [exec_recovGo, execRecovGo, State.onBus_reached _ hr, State.on_of_ne hrecov, Bool.not_true, Bool.false_eq_true, if_false]
    generalize (if s.get BOOT.RECOV_LEN ≤ 0x1000000 then memReadL s.mem.sram 0 (s.get BOOT.RECOV_LEN) else []) = m
    cases s.bootImageOk m
    · exact (if_pos rfl).trans (congrArg Host.Outcome.next (if_neg Bool.false_ne_true).symm)
    · exact (if_neg (by decide)).trans (congrArg Host.Outcome.next (if_pos rfl).symm)
  · intro c addr len act slot s hStatusTrial
    simp [exec_bootImageWrite, execBootImageWrite, State.on_of_ne hStatusTrial]
  · intro c addr len act slot s htrial hbad
    have hbad' : 1 < slot ∨ (¬ s.on BOOT.STATUS_RECOVERY ∧ slot ≠ 0) ∨ len = 0 ∨ 0x1000000 < len :=
      hbad.imp_right fun h => h.imp_left fun h => ⟨by simp [State.on_of_eq h.1], h.2⟩
    simp only [exec_bootImageWrite, execBootImageWrite, State.on_of_eq htrial, Bool.false_eq_true, if_false]
    exact if_pos hbad'
  · intro c addr len act slot s htrial hslot hlen hmax
    have hgood : ¬ (1 < slot ∨ (¬ s.on BOOT.STATUS_RECOVERY ∧ slot ≠ 0) ∨ len = 0 ∨ 0x1000000 < len) := by
      rintro (h | ⟨hoff, h⟩ | h | h)
      · omega
      · rcases hslot with h0 | ⟨-, hon⟩
        · exact h h0
        · exact hoff (State.on_of_ne hon)
      · omega
      · omega
    have hn : (if s.on BOOT.STATUS_RECOVERY then slot else 1 - s.get BOOT.STATUS_SLOT)
        = if s.get BOOT.STATUS_RECOVERY ≠ 0 then slot else 1 - s.get BOOT.STATUS_SLOT := by simp only [State.on_eq_true]
    rw [exec_bootImageWrite_eq htrial hgood hn, State.pendTaken]
    cases s.bootRec <;> rfl
  · intro s hWon
    simp [exec_bootFlashWriteDone, execBootFlashWriteDone, State.on_of_eq hWon]
  · intro s hwon
    rw [exec_bootFlashWriteDone_on hwon]
    cases hgood : s.flashWritten.bootImageOk (imageAt s.flashWritten.mem.flash (slotAt (s.get BOOTX.WSLOT)))
    · exact (if_pos rfl).trans (congrArg Host.Outcome.next (if_neg (ne_true_of_eq_false hgood)).symm)
    · exact (if_neg (by decide)).trans (congrArg Host.Outcome.next (if_pos hgood).symm)
  · intro c addr s
    simp [exec_calExport, execCalExport]
  · intro c addr mask foreign s hCalRest
    simp [exec_calRestore, execCalRestore, hCalRest]
  · intro c addr mask foreign s hrest hbad
    simp only [exec_calRestore, execCalRestore, hrest, Bool.not_true, Bool.false_eq_true, if_false]
    refine if_pos ?_
    rw [Bool.or_eq_true, Bool.or_eq_true, Bool.or_eq_true]
    rcases hbad with h | h | h | ⟨hown, heui⟩
    · exact .inl (.inl (.inl (decide_eq_true h)))
    · exact .inl (.inl (.inr (by rw [h]; rfl)))
    · exact .inl (.inr h)
    · exact .inr (by simp [hown, heui])
  · intro c addr mask foreign s hrest hmask hhead hfields hown
    simp only [exec_calRestore, execCalRestore, hrest, Bool.not_true, Bool.false_eq_true, if_false]
    refine (if_neg ?_).trans rfl
    rw [Bool.or_eq_true, Bool.or_eq_true, Bool.or_eq_true]
    rintro (((h | h) | h) | h)
    · exact absurd (of_decide_eq_true h) (Nat.not_le.2 hmask)
    · rw [hhead] at h
      cases h
    · rw [hfields] at h
      cases h
    · rw [Bool.and_eq_true, bne_iff_ne] at h
      exact hown.elim (fun hf => by simp [hf] at h) h.2
  · intro r ports s hr h1
    simp [exec_calSaveTuner, execCalSaveTuner, h1, State.onBus_reached _ hr]
  · intro r ports s hr h1
    simp only [exec_calSaveTuner, execCalSaveTuner, h1, State.onBus_reached _ hr, if_false]
    rfl

theorem State.each_congr {α : Type} {s : State} {l : List α} {f g : State → α → State} (h : ∀ u a, f u a = g u a) : s.each l f = s.each l g := by
  rw [show f = g from funext fun u => funext (h u)]

/-- An alarm at the time `l`: its event, and the output where it powers on (R527). -/
def State.alarmed (u : State) (l : List Nat) (n : Nat) : State :=
  if u.alarmMatches n l then
    let w := u.put (if n = 0 then RTC.EVENT_ALARM0 else RTC.EVENT_ALARM1) 0 1
    if w.get RTC.ALM_CTL_PWRON n ≠ 0 then (w.put RTC.PWRON_LEVEL 0 1).put PIN.PWRON_CTL 0 1 else w
  else u

theorem State.alarmed_eq (u : State) (l : List Nat) (n : Nat) :
    (u.when (u.alarmMatches n l) fun s => (s.set (if n = 0 then RTC.EVENT_ALARM0 else RTC.EVENT_ALARM1)).when (s.on RTC.ALM_CTL_PWRON n) (·.pwron 1))
      = u.alarmed l n := by
  have hon : (u.put (if n = 0 then RTC.EVENT_ALARM0 else RTC.EVENT_ALARM1) 0 1).get RTC.ALM_CTL_PWRON n = u.get RTC.ALM_CTL_PWRON n := by
    split <;> exact State.get_put_id (by decide)
  simp only [State.alarmed, State.when, State.set, State.on_eq_true, hon, State.pwron]

/-- A trigger due at the time `t` fires (R528). -/
def State.triggered (u : State) (t n : Nat) : State :=
  if u.get RTC.CTRIG_CTL_EN n ≠ 0 ∧ calSecondsOf (u.trigDue n) = t then u.trigFire n else u

theorem State.triggered_eq (u : State) (t n : Nat) :
    (if u.on RTC.CTRIG_CTL_EN n ∧ calSecondsOf (u.trigDue n) = t then u.trigFire n else u) = u.triggered t n := by
  simp only [State.on_eq_true, State.triggered]

/-- What a second makes of the next time (R520, R527, R528). -/
def State.secondAt (s : State) (wrap : Prop) [Decidable wrap] (l : List Nat) : State :=
  let u := s.calPut l
  let u := if wrap then (u.put RTC.STATUS_OSC_STOPPED 0 1).put RTC.EVENT_RANGE_WRAP 0 1 else u
  let u := u.each [0, 1] fun u n => u.alarmed l n
  u.each (List.range 16) fun u n => u.triggered (calSecondsOf l) n

theorem exec_rtcSecond_counts {s : State} (hhalt : s.get RTC.CTL_HALT = 0) :
    exec .rtcSecond s = .next (s.secondAt (s.calSeconds + 1 = secondsOf 2400 1 1 0)
      (calOf (if s.calSeconds + 1 = secondsOf 2400 1 1 0 then secondsOf 2000 1 1 0 else s.calSeconds + 1))) := by
  simp only [exec_rtcSecond, execRtcSecond, State.on_of_eq hhalt, Bool.false_eq_true, if_false, beq_iff_eq, State.alarmed_eq, State.triggered_eq]
  simp only [State.when, beq_iff_eq, State.secondAt, State.set]

/-- A trigger skipped where it is due after `old` and not after `new` (R525). -/
def State.skippedDue (w : State) (old new n : Nat) : State :=
  if w.get RTC.CTRIG_CTL_EN n ≠ 0 ∧ old < calSecondsOf (w.trigDue n) ∧ calSecondsOf (w.trigDue n) ≤ new then w.trigSkip n new 255 else w

/-- The calendar set again, in the form in which the statements write it. -/
def State.setAgain (u : State) : State :=
  let l := u.calOctets
  if calValid l = false then u.put RTC.EVENT_BAD_SET 0 1
  else
    let old := calSecondsOf (le 8 (u.get RTCX.OLD))
    let new := calSecondsOf l
    let w := ((u.calPut (calOf new)).put RTC.STATUS_OSC_STOPPED 0 0).put RTC.CTL_HALT 0 0
    if new ≤ old then w else w.each (List.range 16) fun w n => w.skippedDue old new n

theorem State.calSet_eq (u : State) : u.calSet = u.setAgain := by
  simp only [State.calSet, State.setAgain, State.skippedDue, State.on_eq_true, Bool.not_eq_true', State.set, State.clr]

/-- CAL_TRIG_SET of a free or own trigger with the calendar set, by its form and its first due time. -/
theorem exec_calTrigSet_own {c : Cmd} {n rep : Nat} {due : List Nat} {s : State} {t : Option Nat} (hn : n < 16)
    (howner : s.get RTC.CTRIG_CTL_OWNER n = 15 ∨ s.get RTC.CTRIG_CTL_OWNER n = c.ring) (hset : s.get RTC.STATUS_OSC_STOPPED = 0)
    (ht : (if s.calSeconds < calSecondsOf due then some (calSecondsOf due) else nextDue rep (calSecondsOf due) s.calSeconds) = t) :
    exec (.calTrigSet c n rep due) s =
      if ¬ (calValid due = true ∧ due.getD 3 0 = 0 ∧ (rep ≤ 4 ∨ (0x81 ≤ rep ∧ rep ≤ 0xBC))) ∨ t = none then .next (s.finish c 0x4F 0x12)
      else .next (((((s.put RTC.CTRIG_CTL_OWNER n c.ring).put RTC.CTRIG_CTL_REPEAT n rep).put RTC.CTRIG_CTL_EN n 1).trigNext n t).finish c 0x4F 0) := by
  have hmine : ¬ ((s.get RTC.CTRIG_CTL_OWNER n ≠ 0xF ∧ s.get RTC.CTRIG_CTL_OWNER n ≠ c.ring) ∨ s.on RTC.STATUS_OSC_STOPPED = true) := by
    rw [State.on_eq_true]
    rintro (⟨hfree, hother⟩ | hstopped)
    · exact howner.elim hfree hother
    · exact hstopped hset
  have hbad : ((!calValid due || due.getD 3 0 != 0 || !(rep ≤ 4 || (0x81 ≤ rep && rep ≤ 0xBC)) || t == none) = true)
      ↔ (¬ (calValid due = true ∧ due.getD 3 0 = 0 ∧ (rep ≤ 4 ∨ (0x81 ≤ rep ∧ rep ≤ 0xBC))) ∨ t = none) := by
    simp only [Bool.or_eq_true, Bool.not_eq_true', bne_iff_ne, beq_iff_eq, Bool.or_eq_false_iff,
      Bool.and_eq_false_iff, decide_eq_false_iff_not, Classical.not_and_iff_not_or_not, not_or, Bool.not_eq_true, ne_eq, or_assoc]
  simp only [exec_calTrigSet, execCalTrigSet, ht, hbad]
  exact (if_neg (Nat.not_le.2 hn)).trans (if_neg hmine)

/-- Settles O56: the second by its wrap, alarms and triggers, the settings by the one way a set calendar starts again. -/
theorem calendarAndTriggers : Obligations.CalendarAndTriggers := by
  unfold Obligations.CalendarAndTriggers
  refine ⟨?_, ?_, ?_, ?_, ?_, ?_, ?_, ?_, ?_, ?_, ?_, ?_, ?_, ?_, ?_, ?_, ?_, ?_, ?_, ?_, ?_, ?_, ?_, ?_, ?_, ?_, ?_, ?_, ?_, ?_, ?_⟩
  · intro s hCtlHalt
    simp [exec_rtcSecond, execRtcSecond, State.on_of_ne hCtlHalt]
  · intro s hhalt
    exact exec_rtcSecond_counts hhalt
  · intro s
    simp only [exec_oscStopDetect, execOscStopDetect]
    rfl
  · intro r k s hk hr
    simp only [exec_rtcTimeRead, execRtcTimeRead, State.onRead_reached _ hr, Nat.not_le.2 hk, if_false]
    simp only [State.when, Bool.not_eq_true', State.on_eq_false, beq_iff_eq, State.set, State.clr]
  · intro r s
    simp only [exec_rtcThawTimeout, execRtcThawTimeout]
    rfl
  · intro r v s hr hset
    simp only [exec_rtcHaltWrite, execRtcHaltWrite, State.onBus_reached _ hr, hset, if_true, State.on_eq_true]
    rfl
  · intro r v s hr hclr hhalt
    simp only [exec_rtcHaltWrite, execRtcHaltWrite, State.onBus_reached _ hr, hclr, State.on_eq_true, Bool.false_eq_true, if_false]
    rw [State.calSet_eq, if_pos hhalt]
    rfl
  · intro r v s hr h1 hCtlHalt
    simp [exec_rtcHaltWrite, execRtcHaltWrite, h1, State.on_of_eq hCtlHalt, State.onBus_reached _ hr]
  · intro r k v s hr hv hCtlHalt hk
    simp only [exec_rtcTimeWrite, execRtcTimeWrite, State.on_of_eq hCtlHalt, Nat.not_le.2 hk, State.onPriv_reached _ hr hv, if_true, if_false,
      Bool.not_false]
    rfl
  · intro r k v s hr hpriv hhalt hk h3
    simp only [exec_rtcTimeWrite, execRtcTimeWrite, State.onPriv_reached _ hr hpriv, Nat.not_le.2 hk, State.on_of_ne hhalt, Bool.not_true,
      Bool.false_eq_true, if_false]
    match k, hk, h3 with
    | 0, _, _ | 1, _, _ | 2, _, _ | 4, _, _ | 5, _, _ | 6, _, _ | 7, _, _ => rfl
    | 3, _, h3 => exact absurd rfl h3
  · intro r v s hr hv hCtlHalt
    simp [exec_rtcTimeWrite, execRtcTimeWrite, State.on_of_ne hCtlHalt, State.onPriv_reached _ hr hv]
  · intro s hnot
    rw [exec_rtcAutoSet, execRtcAutoSet]
    by_cases hstay : s.get RTC.CTL_AUTO_SET = 0 ∨ s.get TIME.SRC_STATUS_STATE ≠ 3 ∨ s.get RTC.CTL_HALT ≠ 0
    · refine if_pos ?_
      rw [Bool.not_eq_true', State.on_eq_false, State.on_eq_true]
      exact hstay
    · refine (if_neg ?_).trans (if_pos ?_)
      · rw [Bool.not_eq_true', State.on_eq_false, State.on_eq_true]
        exact hstay
      · obtain h | h | h | ⟨htime, hstopped⟩ := hnot
        · exact absurd (.inl h) hstay
        · exact absurd (.inr (.inl h)) hstay
        · exact absurd (.inr (.inr h)) hstay
        · exact ⟨htime, by rw [State.on_of_eq hstopped]; rfl⟩
  · intro s hauto hlocked hhalt hdiff
    have hgo : ¬ ((!s.on RTC.CTL_AUTO_SET) = true ∨ s.get TIME.SRC_STATUS_STATE ≠ 3 ∨ s.on RTC.CTL_HALT = true) := by
      rw [Bool.not_eq_true', State.on_eq_false, State.on_eq_true]
      rintro (h | h | h)
      · exact hauto h
      · exact h hlocked
      · exact h hhalt
    rw [exec_rtcAutoSet, execRtcAutoSet]
    refine (if_neg hgo).trans ((if_neg ?_).trans ?_)
    · rw [Bool.not_eq_true', State.on_eq_false]
      rintro ⟨htime, hstopped⟩
      exact hdiff.elim (fun h => h htime) (fun h => h hstopped)
    · rw [State.calSet_eq]
      rfl
  · intro r v s hr
    simp only [exec_pwronLevelWrite, execPwronLevelWrite, State.onBus_reached _ hr]
    rfl
  · intro c n rep due s hn howner hset hform hdue
    obtain ⟨t, ht⟩ := Option.isSome_iff_exists.1 hdue
    rw [exec_calTrigSet_own hn howner hset ht, if_neg (fun h => h.elim (fun hbad => hbad hform) (fun hnone => by cases hnone)), ht]
    rfl
  · intro c n rep due s hn hdenied
    simp only [exec_calTrigSet, execCalTrigSet, Nat.not_le.2 hn, if_false]
    exact if_pos (hdenied.imp_right State.on_of_ne)
  · intro c n rep due s hn howner hset hbad
    exact (exec_calTrigSet_own hn howner hset rfl).trans (if_pos hbad)
  · intro c n rep due s h1
    simp [exec_calTrigSet, execCalTrigSet, h1]
  · intro c n s hn howner
    have hmine : ¬ (s.get RTC.CTRIG_CTL_OWNER n ≠ 0xF ∧ s.get RTC.CTRIG_CTL_OWNER n ≠ c.ring) := fun h => howner.elim h.1 h.2
    rw [exec_calTrigClr, execCalTrigClr]
    exact (if_neg (Nat.not_le.2 hn)).trans (if_neg hmine)
  · intro c n s hn hCtrigCtlOwner h3
    simp [exec_calTrigClr, execCalTrigClr, Nat.not_le.2 hn, hCtrigCtlOwner, h3]
  · intro c n s h1
    simp [exec_calTrigClr, execCalTrigClr, h1]
  · intro n s hn hCtrigCtlPending hPosted hStatusReady hCtrigCtlOwner
    simp only [exec_triggerEventPost, execTriggerEventPost, Nat.not_le.2 hn, State.on_of_ne hCtrigCtlPending, State.on_of_eq hPosted,
      State.on_of_ne hStatusReady, Nat.not_le.2 hCtrigCtlOwner, if_false, Bool.not_true, Bool.false_eq_true, or_false]
    rfl
  · intro n s hnot
    rw [exec_triggerEventPost, execTriggerEventPost]
    refine if_pos (.inr ?_)
    rw [Bool.not_eq_true', Bool.not_eq_true', State.on_eq_false, State.on_eq_false, State.on_eq_true]
    obtain h | h | h | h := hnot
    · exact .inr (.inl h)
    · exact .inl h
    · exact .inr (.inr (.inl h))
    · exact .inr (.inr (.inr h))
  · intro h s hnot
    rw [exec_missedTriggersPost, execMissedTriggersPost]
    refine if_pos (.inr ?_)
    rw [Bool.not_eq_true', State.on_eq_false]
    exact hnot
  · intro h s hh hsome hready hroom
    have hgo : ¬ (8 ≤ h ∨ s.missedOf h = [] ∨ (!s.on BOOT.STATUS_READY) = true ∨ 1020 < s.evHeld h) := by
      rw [Bool.not_eq_true', State.on_eq_false]
      rintro (h8 | h0 | hoff | hfull)
      · exact Nat.not_le.2 hh h8
      · exact hsome h0
      · exact hready hoff
      · exact Nat.not_lt.2 hroom hfull
    rw [exec_missedTriggersPost, execMissedTriggersPost]
    refine (if_neg hgo).trans (congrArg Host.Outcome.next (State.each_congr fun u k => ?_))
    simp only [State.when, decide_eq_true_eq]
    rfl
  · intro s
    simp [exec_backupReset, execBackupReset]
  · intro s
    simp only [exec_backupSupplySwitch, execBackupSupplySwitch, if_true]
    rfl
  · intro s
    simp only [exec_backupSupplySwitch, execBackupSupplySwitch, if_false, Bool.false_eq_true]
    rfl
  · intro s hStatusVbatLow
    simp only [exec_vbatLowDetect, execVbatLowDetect, State.on_of_eq hStatusVbatLow, if_true, if_false, Bool.false_eq_true, State.when_true]
    rfl
  · intro s hStatusVbatLow
    simp [exec_vbatLowDetect, execVbatLowDetect, State.on_of_ne hStatusVbatLow]
  · intro low s hsame
    rw [exec_vbatLowDetect, execVbatLowDetect]
    refine congrArg Host.Outcome.next (if_pos ?_)
    rw [← hsame, State.on]
    split <;> simp_all

theorem State.get_scpShow {s : State} {F : Fld} {n : Nat}
    (h : F.id ≠ SCP.HEAD_SEQ.id ∧ F.id ≠ SCP.HEAD_ERA.id ∧ F.id ≠ SCP.OLDEST_SEQ.id ∧ F.id ≠ SCP.OLDEST_ERA.id ∧ F.id ≠ SCP.COUNT.id) :
    s.scpShow.get F n = s.get F n := by
  obtain ⟨hseq, hera, holdSeq, holdEra, hcount⟩ := h
  rw [State.scpShow, State.get_put_id hcount, State.get_put_id holdEra, State.get_put_id holdSeq, State.get_put_id hera, State.get_put_id hseq]

/-- What a write to the Scorepad's next slot leaves, by what the slot reads back (R545). -/
def State.scpWritten (s : State) (read : List Nat) : State :=
  (({ s with mem.mram := memWriteL s.mem.mram (64 * ((s.get SCPX.NEXT) % 32768)) (fix 64 read) } : State).put SCPX.NEXT 0 ((s.get SCPX.NEXT) + 1)).scpShow

theorem State.failRun_scpWritten (s : State) (read : List Nat) : (s.scpWritten read).get SCPX.FAIL_RUN = s.get SCPX.FAIL_RUN := by
  rw [State.scpWritten, State.get_scpShow (by decide), State.get_put_id (by decide)]
  rfl

/-- A write that does not read back: a failure, and a second in a row takes the Scorepad out. -/
theorem exec_scorepadCommit_fails {r : SRec} {q : List SRec} {read : List Nat} {s : State} (hq : s.scpQ = r :: q) (hin : s.get FLT.STATUS_SCP_OUT = 0)
    (hread : fix 64 read ≠ r.octets (s.get SCPX.NEXT)) :
    exec (.scorepadCommit read) s = if s.get SCPX.FAIL_RUN ≠ 0 then
        .next (((((s.scpWritten read).put SCP.EVENT_WRITE_FAIL 0 1).fault 0x1101 0 1).put FLT.STATUS_SCP_OUT 0 1).put FLT.EVENT_SCP_FAIL 0 1)
      else .next (((s.scpWritten read).put SCP.EVENT_WRITE_FAIL 0 1).put SCPX.FAIL_RUN 0 1) := by
  rw [exec_scorepadCommit, execScorepadCommit]
  split
  case h_1 hnil => cases hnil.symm.trans hq
  case h_2 hcons =>
    cases hcons.symm.trans hq
    refine (if_neg (by rw [State.on_of_eq hin]; decide)).trans ((if_neg hread).trans ?_)
    rw [← s.failRun_scpWritten read]
    simp only [State.on_eq_true]
    rfl

/-- The fault injected: one of a source of reset where its code is one and it is of no Hedge (R549). -/
def State.injected (t : State) (code unit a : Nat) (h : Option Nat) : State :=
  match sourceBit code, h with
  | some k, none => t.sourceFault code unit a k true
  | _, _ => t.fault code unit a h 0 0 [] true

theorem State.injected_of_hedge (t : State) (code unit a x : Nat) : t.injected code unit a (some x) = t.fault code unit a (some x) 0 0 [] true := by
  unfold State.injected
  cases sourceBit code <;> rfl

theorem State.injected_of_none {code : Nat} (t : State) (unit a : Nat) (h : Option Nat) (hk : sourceBit code = none) :
    t.injected code unit a h = t.fault code unit a h 0 0 [] true := by
  unfold State.injected
  rw [hk]

theorem State.injected_of_source {code k : Nat} (t : State) (unit a : Nat) (hk : sourceBit code = some k) :
    t.injected code unit a none = t.sourceFault code unit a k true := by
  unfold State.injected
  rw [hk]

theorem exec_faultInject_ready {r : Req} {s : State} (hr : s.reachWord r (FLT.INJ_GO.addr 0) 4 = 0) (hready : s.get BOOT.STATUS_READY ≠ 0) {a : Nat}
    {h : Option Nat} (hclass : s.injectClass (s.get FLT.INJECT_CODE) (s.get FLT.INJECT_UNIT) = some (a, h)) :
    exec (.faultInject r) s = .next ((s.injectUnit (s.get FLT.INJECT_CODE) (s.get FLT.INJECT_UNIT)).injected
      (s.get FLT.INJECT_CODE) (s.get FLT.INJECT_UNIT) a h) := by
  simp only [exec_faultInject, execFaultInject, State.onBus_reached _ hr, State.on_of_ne hready, hclass]
  rfl

theorem sourceBit_eq_none {code : Nat} (h : ¬ (code = 0x0201 ∨ code = 0x0202 ∨ code = 0x0302 ∨ code = 0x0403)) : sourceBit code = none := by
  simp only [not_or] at h
  obtain ⟨hsupply, hthermal, hsteward, hengine⟩ := h
  rw [sourceBit, if_neg hsupply, if_neg hthermal, if_neg hsteward, if_neg hengine]

theorem sourceBit_eq_some {code : Nat} (h : code = 0x0201 ∨ code = 0x0202 ∨ code = 0x0302 ∨ code = 0x0403) :
    sourceBit code = some (if code = 0x0201 then 3 else if code = 0x0202 then 4 else if code = 0x0302 then 5 else 6) := by
  rcases h with rfl | rfl | rfl | rfl <;> rfl

/-- A tamper input sampled: its state bit (R568). -/
def State.tamperShown (s : State) (n : Nat) (high : Bool) : State :=
  s.put PADS.TAMPER_STATE 0 (s.get PADS.TAMPER_STATE - (if bit (s.get PADS.TAMPER_STATE) n then 2 ^ n else 0) + (if high then 2 ^ n else 0))

theorem State.get_tamperShown {s : State} {n : Nat} {high : Bool} {F : Fld} {m : Nat} (h : F.id ≠ PADS.TAMPER_STATE.id) :
    (s.tamperShown n high).get F m = s.get F m := State.get_put_id h

/-- A tamper input that is enabled, by whether it is high with its event clear. -/
theorem exec_tamperSample_enabled {n : Nat} {high : Bool} {s : State} (hn : n < 2) (hen : bit (s.get PADS.CTL_TAMPER_EN) n = true) :
    exec (.tamperSample n high) s =
      if (!high || bit (s.get PADS.TAMPER_EVENT) n) = true then .next (s.tamperShown n high)
      else
        let u := ((s.tamperShown n high).put PADS.TAMPER_EVENT 0 (s.get PADS.TAMPER_EVENT + 2 ^ n)).put PADX.DUE n 1
        let u := (u.put PADS.TAMPER_TIME_LO n (oct s.calOctets 0 4)).put PADS.TAMPER_TIME_HI n (oct s.calOctets 4 4)
        .next (if u.get BOOT.STATUS_READY ≠ 0 then u.tamperRecord n else u) := by
  have hgo : ¬ (decide (2 ≤ n) || !bit (s.get PADS.CTL_TAMPER_EN) n) = true := by simp [hen, hn]
  rw [exec_tamperSample, execTamperSample]
  refine (if_neg hgo).trans ?_
  have hevent : (s.tamperShown n high).get PADS.TAMPER_EVENT = s.get PADS.TAMPER_EVENT := State.get_tamperShown (by decide)
  have hoctets : (((s.tamperShown n high).put PADS.TAMPER_EVENT 0 (s.get PADS.TAMPER_EVENT + 2 ^ n)).set PADX.DUE n).calOctets = s.calOctets := by
    simp (discharger := decide) only [State.calOctets, State.get_set_id, State.get_put_id, State.get_tamperShown]
  simp only [← State.tamperShown.eq_1, hevent]
  simp only [hoctets, State.on_eq_true]
  rfl

/-- Settles O58: a commit by what reads back, a read by the ring's ends, an injection by the class of its code. -/
theorem scorepadAndInjection : Obligations.ScorepadAndInjection := by
  unfold Obligations.ScorepadAndInjection
  refine ⟨?_, ?_, ?_, ?_, ?_, ?_, ?_, ?_, ?_, ?_, ?_, ?_, ?_, ?_, ?_⟩
  · intro read s hnot
    rw [exec_scorepadCommit, execScorepadCommit]
    cases hq : s.scpQ with
    | nil => rfl
    | cons r q => exact if_pos (State.on_of_ne (hnot.resolve_left (by rw [hq]; exact List.cons_ne_nil r q)))
  · intro r q read s h1 hStatusScpOut hNext
    simp only [exec_scorepadCommit, execScorepadCommit, h1, State.on_of_eq hStatusScpOut, hNext, if_true, if_false, Bool.false_eq_true]
    rfl
  · intro r q read s hq hin hread hfail
    exact (exec_scorepadCommit_fails hq hin hread).trans (if_neg (Classical.not_not.2 hfail))
  · intro r q read s hq hin hread hfail
    exact (exec_scorepadCommit_fails hq hin hread).trans (if_pos hfail)
  · intro s hnot
    rw [exec_scorepadSuppressReport, execScorepadSuppressReport]
    exact if_pos (hnot.imp_right fun h => h.imp_left State.on_of_ne)
  · intro s hn hin hdue
    rw [exec_scorepadSuppressReport, execScorepadSuppressReport]
    refine (if_neg ?_).trans rfl
    rw [State.on_eq_true]
    rintro (h | h | ⟨hat, hlt⟩)
    · exact hn h
    · exact h hin
    · exact hdue.elim hat (Nat.not_le.2 hlt)
  · intro c addr seq era count oldest s h1
    simp [exec_scorepadRead, execScorepadRead, h1]
  · intro c addr seq era count oldest s h1 hmax hnone
    rw [exec_scorepadRead, execScorepadRead, if_neg (by omega), hnone]
    rfl
  · intro c addr seq era count new old oldest s h1 hmax hnew hold
    rw [exec_scorepadRead, execScorepadRead, if_neg (by omega), hnew, hold]
    simp only [show scpSlots = 32768 from rfl, decide_eq_true_eq]
  · intro r s hr hnot
    simp only [exec_faultInject, execFaultInject, State.onBus_reached _ hr]
    rcases hnot with hoff | hnone
    · rw [State.on_of_eq hoff]
      rfl
    · rw [hnone]
      cases s.on BOOT.STATUS_READY <;> rfl
  · intro r a h s hr hready hclass hsource
    rw [exec_faultInject_ready hr hready hclass]
    rcases hsource with hhedge | hother
    · obtain ⟨x, rfl⟩ := Option.isSome_iff_exists.1 hhedge
      rw [State.injected_of_hedge]
    · rw [State.injected_of_none _ _ _ _ (sourceBit_eq_none hother)]
  · intro r a s hr hready hclass hsource
    rw [exec_faultInject_ready hr hready hclass, State.injected_of_source _ _ _ (sourceBit_eq_some hsource)]
  · intro n high s hCtlTamperEn
    simp [exec_tamperSample, execTamperSample, hCtlTamperEn]
  · intro n high s hn hen hquiet
    refine (exec_tamperSample_enabled hn hen).trans (if_pos ?_)
    rcases hquiet with h | h <;> simp [h]
  · intro n high s hn hen hhigh hclear
    refine (exec_tamperSample_enabled hn hen).trans ((if_neg (by simp [hhigh, hclear])).trans ?_)
    rfl

end Sys2Proof.Machine
end
